-- ==== Sys2Proof/Word.lean ====
section
/-! DEFINITION. Word types of the model (R5: little-endian bytes, words, fields numbered from 0) and the sparse map in which
State keeps "so many like things". Their operations stand in Machine/Bits.lean, Machine/Ops.lean. -/

namespace Sys2Proof

/-- One byte. -/
abbrev Byte := BitVec 8
/-- A 16-bit word. -/
abbrev W16 := BitVec 16
/-- A 32-bit word: one host register. -/
abbrev W32 := BitVec 32
/-- A 64-bit word: one scalar register of a task slot. -/
abbrev W64 := BitVec 64

/-- A sparse map from numbers, kept in strictly rising order of its keys; a key that is not listed has a default that the
reader names. -/
abbrev AMap (α : Type) := List (Nat × α)

end Sys2Proof
end

