-- ==== Sys2Proof/Syntax.lean ====
section
/-! DEFINITION. The commands of the block: one constructor of `Instr` for each row of spec/opcode_table.json, in the table's
order, and the types of their operands. A rill instruction's operand is the task slot that issues: the instruction word
itself is the one that stands at the slot's PC in its rill store (R23, R26, R36). A host command's operand is the context whose
command engine takes it: the command itself is the one that stands in the watched command slot (R467, R468). A packet
arrival's operand is the place of the packet in the list of packets in flight. A step that the spec ties to an instant
carries that instant (Site Time in ns, or the fabric cycle count). -/

namespace Sys2Proof

/-- A logical position (R8). -/
structure Pos where
  col : Nat
  row : Nat
  deriving DecidableEq, Repr

/-- A task slot of a logical rill (R23). -/
structure SlotId where
  col : Nat
  row : Nat
  slot : Nat
  deriving DecidableEq, Repr

/-- Which unit of a rill completes an operation (R34, R94). -/
inductive UnitSel where
  | tensor | vector | scalar | ballast
  deriving DecidableEq, Repr

/-- What a unit computed wrongly in one operation (R92-R94). `site` numbers the checked operation within the instruction: a result element, a
lane or a node of a tree, and the step of its chain. `sum`: the exact integer sum S of a partial, or the raw integer result of a scalar
operation; `product`: the full product P of two significands; `raw`: the raw sum or difference Z of an FP32 adder; `copies`: the values of the two
copies of a duplicated stage; `inner`: a check whose operands the spec does not give, a multiply (unit 1) or add (2) inside VEXP2, VRCP or VRSQRT,
or, in ballast work, an integer partial too (0): its predicted and its computed residue. -/
inductive Upset where
  | sum (site step : Nat) (z : Int)
  | product (site step : Nat) (p : Nat)
  | raw (site step : Nat) (z : Int)
  | copies (first second : Nat)
  | inner (unit : Nat) (predicted computed : Nat)
  deriving DecidableEq, Repr

/-- What a link error did to a flit (R124). -/
inductive FlitError where
  | corrected | payload | header
  deriving DecidableEq, Repr

/-- A Headwater datagram (R214, R215): the identifier of its 802.1Q tag, if it has one, the address and UDP port of the other side, the port's own
UDP port, the UDP checksum, the 32 B header, and the bytes after it. -/
structure Dgram where
  vlan : Option Nat
  peer : List Byte
  peerUdp : Nat
  ownUdp : Nat
  sum : Nat
  ver : Nat
  type : Nat
  flags : Nat
  session : Nat
  req : Nat
  len : Nat
  gen : Nat
  object : Nat
  index : Nat
  payload : List Byte
  deriving DecidableEq, Repr

/-- A torus coordinate (R303, R308). -/
structure Coord where
  x : Nat
  y : Nat
  z : Nat
  deriving DecidableEq, Repr

/-- An Eztex wire packet: the fields of its header and its payload (R303); HCHK stands in the header's bytes only. -/
structure WirePkt where
  type : Nat
  cls : Nat
  dateline : Bool
  poison : Bool
  last : Bool
  len : Nat
  dst : Coord
  dstTwin : Bool
  dstRank : Nat
  srcRank : Nat
  jobId : Nat
  group : Nat
  seq : Nat
  sig : Nat
  age : Nat
  offset : Nat
  arg : Nat
  chk : Nat
  epoch : Nat
  arg2 : Nat
  payload : List Byte
  deriving DecidableEq, Repr

/-- The message of an Eztex codeword (R294): its flits of 64 B, FLIT_MAP and CW_SEQ. -/
structure Codeword where
  flits : List (List Byte)
  map : Nat
  seq : Nat
  deriving DecidableEq, Repr

/-- The symbols that each lane of a link carries of a codeword (R294). -/
abbrev Lanes := List (List Nat)

/-- Are these what a link's 8 lanes carry of a codeword: 68 symbols of 10 bits each (R294)? -/
def lanesOk (lanes : Lanes) : Bool :=
  lanes.length == 8 && lanes.all (fun l => l.length == 68 && l.all (fun x => decide (x < 1024)))

/-- A TRAIN flit (R297). `z2` is the family code, `dir` and `bundle` the peer's link. -/
structure TrainFlit where
  coord : Coord
  plane : Nat
  dir : Nat
  bundle : Nat
  mode : Nat
  z2 : Bool
  epoch : Nat
  crcOk : Bool
  deriving DecidableEq, Repr

/-- What the Weir measured over the frame that ends (R419, R422): average input power, ballast, power of withheld work, ballast
capacity, all in mW, the input voltage in mV, the pitches that were throttled and those that ran ballast, and for each powered pitch
(its number, its own draw, its share of the ballast capacity, in mW). -/
structure WeirReading where
  inMw : Nat
  ballastMw : Nat
  withheldMw : Nat
  ballastCapMw : Nat
  mv : Nat
  throttled : List Nat
  ballast : List Nat
  pitches : List (Nat × Nat × Nat)
  deriving DecidableEq, Repr

/-- How far the work of a long operation has come (R485): regions, reaches, MiB, bytes or images done, and the failed positions that a
SELF_TEST found since the last report (for FW_UPDATE, any entry tells that what runs now failed: the reading of the image from the host, or the
three writes to flash, R500). `corrected` are the stack
positions of the errors that a STACK_SCRUB_FULL corrected since then (R186), once for each error. -/
structure Work where
  done : Nat
  failed : List Nat
  corrected : List Nat
  deriving DecidableEq, Repr

/-- How a request of the host arrives: the IDE stream that carries it, 0 the link stream, 1 to 8 the selective ones (R509), and whether it
asks for an ATS translation type (R460). -/
structure Tlp where
  ide : Option Nat
  ats : Bool
  deriving DecidableEq, Repr

/-- The stack positions whose line code corrected an error, once for each error (R186): in the access of the row and its walks, and in those
that the module has made of itself since the last row that names corrected errors (log 167). -/
abbrev Corrected := List Nat

/-- Sensor readings taken in a background slot (R449): register values in the order that the slot's unit writes them. -/
abbrev Readings := List Nat

/-- The commands of the block, one constructor for each row of spec/opcode_table.json. -/
inductive Instr where
  -- rill instructions (R41)
  | add (a : SlotId) | sub (a : SlotId) | and (a : SlotId) | or (a : SlotId) | xor (a : SlotId)
  | shl (a : SlotId) | shr (a : SlotId) | sra (a : SlotId) | mul (a : SlotId) | mulhu (a : SlotId)
  | cmpeq (a : SlotId) | cmplt (a : SlotId) | cmpltu (a : SlotId)
  | addi (a : SlotId) | andi (a : SlotId) | ori (a : SlotId) | xori (a : SlotId) | shli (a : SlotId) | shri (a : SlotId)
  | movi (a : SlotId) | movhi (a : SlotId)
  | ld8 (a : SlotId) | ld32 (a : SlotId) | ld64 (a : SlotId)
  | st8 (a : SlotId) | st32 (a : SlotId) | st64 (a : SlotId)
  | ldp64 (a : SlotId) | stp64 (a : SlotId) | amoadd (a : SlotId) | amoswap (a : SlotId)
  | j (a : SlotId) | jr (a : SlotId) | call (a : SlotId)
  | beq (a : SlotId) | bne (a : SlotId) | blt (a : SlotId) | bltu (a : SlotId)
  | spawn (a : SlotId) | exit (a : SlotId) | exitComplete (a : SlotId)
  | yieldOp (a : SlotId) | yieldExpiry (a : SlotId) (cyc : Nat)
  | waitev (a : SlotId) | signal (a : SlotId) | tclaim (a : SlotId) | tfree (a : SlotId)
  | fence (a : SlotId) | slotWake (a : SlotId)
  | tld (a : SlotId) | tst (a : SlotId) | tzero (a : SlotId) | tmma (a : SlotId) | tmmas (a : SlotId) | tcvt (a : SlotId)
  | vadd (a : SlotId) | vmul (a : SlotId) | vmax (a : SlotId) | vfma (a : SlotId)
  | vexp2 (a : SlotId) | vrcp (a : SlotId) | vrsqrt (a : SlotId) | vredadd (a : SlotId) | vredmax (a : SlotId)
  | vbcast (a : SlotId)
  | unitOpComplete (p : Pos) (u : UnitSel) (slot : Nat) (check : Option Upset) (now : Nat)
  | sarm (a : SlotId) | srearm (a : SlotId) | sstop (a : SlotId) | racq (a : SlotId) | rrel (a : SlotId)
  | send (a : SlotId) | recv (a : SlotId) | mfree (a : SlotId) | csrr (a : SlotId) | csrw (a : SlotId)
  | trap (a : SlotId) | nop (a : SlotId)
  | taskWdExpiry (a : SlotId) (cyc : Nat) | rillWdExpiry (p : Pos)
  -- packets of the fabric (R45, R121, R128)
  | write (i : Nat) | read (i : Nat) | readData (i : Nat) | ack (i : Nat) | msg (i : Nat) | msgRingEntry (p : Pos)
  | poolRead (i : Nat) | poolWrite (i : Nat) | holePacketArrival (i : Nat)
  | packetAgeDiscard (i : Nat) (router : Pos) (cyc : Nat)
  | flitEccError (i : Nat) (router : Pos) (err : FlitError) (now : Nat)
  | memoryUncorrError (p : Pos) (pool : Bool) (line : Nat) (now : Nat)
  | spush (i : Nat) | sdata (i : Nat) | scredit (i : Nat) | hwConfirm (i : Nat) | ezConfirm (i : Nat)
  | streamStartDone (p : Pos) (q : Nat) | streamStopDone (p : Pos) (q : Nat)
  | streamTileIssue (p : Pos) (q : Nat) | streamOutInject (p : Pos) (q : Nat)
  -- memory endpoints and translation (R163, R198)
  | sread (i : Nat) | swrite (i : Nat) | sfill (i : Nat) | sdrain (i : Nat)
  | stackAccessComplete (i : Nat) (corrected : Corrected) | translationWalkDone (i : Nat) (corrected : Corrected)
  -- Headwater (07)
  | hwOpen (i : Nat) | hwClose (i : Nat) | hwRearm (i : Nat) | hwSend (i : Nat)
  | fetchIssue (port slot : Nat) | data (port : Nat) (d : Dgram) | endMsg (port : Nat) (d : Dgram)
  | gradAck (port : Nat) (d : Dgram)
  | fetchRetryTimeout (port slot : Nat) (now : Nat) | gradRetryTimeout (n : Nat) (now : Nat)
  | neighbourDiscovery (port : Nat) (body : List Byte) | echoRequest (port : Nat) (body : List Byte)
  | pfcPause (port : Nat) (prio : Nat) (pause : Bool)
  | headwaterLinkDown (port : Nat) (now : Nat) | headwaterPortUp (port : Nat) (now : Nat)
  | hostFetchReadDone (slot : Nat) (frame : Nat) | hostGradWriteDone (n : Nat)
  | bind (ctx slot : Nat) | bindDone (ctx slot : Nat) | frontGo (ctx : Nat) | layerRebind (ctx : Nat) (now : Nat)
  -- torus endpoints, op sequencer, Confluence (08, 09, 10)
  | ezOpen (i : Nat) | ezClose (i : Nat) | ezRearm (i : Nat) | ezContrib (i : Nat) (check : Option Upset) | ezSend (i : Nat)
  | opAdmit (ctx : Nat) (now : Nat) | slotReservationGrant (now : Nat) | reduceFallback (ctx opn : Nat) (now : Nat)
  | codewordReceive (link : Nat) (lanes : Lanes)
  | idle (link : Nat) | ackCredit (link : Nat) | nak (link : Nat)
  | train (link : Nat) (f : TrainFlit)
  | linkTrainingDone (link : Nat) (now : Nat) | linkTrainingTimeout (link step : Nat) (now : Nat) | linkStopDone (link : Nat)
  | grant (i : Nat) | chunk (i : Nat) (check : Option Upset) | count (i : Nat) | abort (i : Nat)
  | p2p (i : Nat) | p2pGrant (i : Nat)
  | bcastStart (i : Nat) | bcastOpen (i : Nat) | bcastAbort (i : Nat) | bcastAck (i : Nat)
  | bcastTimeout (job : Nat) (now : Nat) | jobTStart (job : Nat) (now : Nat)
  | digest (i : Nat) | cbar (i : Nat) | wirePacketForward (i : Nat)
  | keyRetentionExpiry (now : Nat) | collMemberLost (ctx opn : Nat) (now : Nat)
  | twinDigestTimeout (ctx opn chunk : Nat) (now : Nat)
  | groupEntryValidate (g : Nat) (word0 : W32) | jobCtlWrite (job : Nat) (value : W32) | stageWrite (ctx : Nat) (value : W32)
  | confluenceRetestDone (t : Nat) (okMask : Nat)
  -- recovery (11)
  | spareSwap (p : Pos) | cmtFlashWriteDone | holdRestore (ctx : Nat) | rebuildListDone (ctx : Nat) (code : Nat)
  | commitPointComplete (ctx : Nat) (now : Nat) | drainHoldResume (ctx : Nat) | wearSkip (ctx : Nat) (now : Nat)
  -- power (12)
  | inputStageClose (now : Nat) (mv : Nat) | powerChipletEnable (now : Nat) (capMv : Nat)
  | powerFail (now : Nat) (mv : Nat) (lasted : Nat) | idealDiodeOpen | powerChipletFail (n : Nat)
  | pitchIsolate (pitch cause peak now : Nat) | efuseClear (pitch current : Nat)
  | pitchThermalThrottle (pitch temp : Nat) | pitchStartDone (pitch now : Nat) | pitchPowerGoodTimeout (pitch now : Nat)
  | pitchStopDone (pitch now : Nat) | pitchRailTestDone (pitch mv : Nat)
  | weirFrame (b : Nat) (r : WeirReading) | weirRegulate (now drawnMj : Nat) | weirWardenTimeout (now : Nat)
  | weirLock | weirEnvelopeWrite (off : Nat) (value : W32)
  -- Site Time and background slots (13)
  | ptpSync (domain now : Nat) (offset : Int) | ptpAnnounce (domain now : Nat) (utcOffset : Nat) (leap : Int) (midnight : Nat)
  | ppsEdge (now : Nat) (ref10 : Bool) | ref10Loss (now : Nat) | sourceLost (now : Nat) | holdoverTimeout (now : Nat)
  | stCtlWrite (value : W32) | reacquire | timeSet (hi : W32) | utcOffsetChange (now : Nat)
  | apply | slotStart (now : Nat) (r : Readings)
  -- stacks and translation pages (06)
  | stackTempSample (pos temp : Nat) | stackUncorrError (pos offset now : Nat) | stackFail (pos : Nat)
  | stackTrainingDone (pos : Nat) (ok : Bool) (repairs : Nat)
  | translationStartDone (ctx : Nat) | translationStopDone (ctx : Nat)
  | setWrite (ctx which : Nat) (value : W32) | invalGo (ctx : Nat) (range : Bool) | invalDone (ctx : Nat)
  | xlFaultClear (ctx : Nat) | bar2Read (fn offset len : Nat) (tlp : Tlp) (corrected : Corrected)
  | bar2Write (fn offset : Nat) (bytes : List Byte) (tlp : Tlp) (corrected : Corrected)
  -- host commands (14, R478)
  | keyEk (ctx : Nat) (trngOk : Bool) | keyLoad (ctx : Nat) | rankWrite (ctx : Nat) | groupWrite (ctx : Nat) | memberWrite (ctx : Nat)
  | imageLoad (ctx : Nat) | fusedRun (ctx : Nat) | checkpoint (ctx : Nat) | jobStart (ctx : Nat) | weightSwap (ctx : Nat)
  | regionRemap (ctx : Nat) | stackScrubFull (ctx : Nat) | selfTest (ctx : Nat) | wipe (ctx : Nat) | fwUpdate (ctx : Nat)
  | nopCommand (ctx : Nat) | suspend (ctx : Nat) | resume (ctx : Nat) | cancel (ctx : Nat)
  | suspendPointReached (ctx handle : Nat) (w : Work) | longOperationEnd (ctx handle : Nat) (now : Nat) (w : Work)
  | deadlineExpiry (ctx handle now : Nat) | progressTimer (ctx handle now : Nat) (w : Work)
  | cqHeadWrite (ctx : Nat) (value : W32) | msixModerationExpiry (ctx now : Nat) | msixVectorUnmask (fn vec : Nat)
  | ceStopDone (ctx : Nat) | functionLevelReset (ctx : Nat) | pcieReset (perst : Bool) | ideIntegrityFail (stream : Nat)
  -- SPDM (15); `doe` tells PCIe DOE from MCTP on I3C
  | getVersion (doe : Bool) (req : List Byte) | getCapabilities (doe : Bool) (req : List Byte) | negotiateAlgorithms (doe : Bool) (req : List Byte)
  | getDigests (doe : Bool) (req : List Byte) | getCertificate (doe : Bool) (req : List Byte) | challenge (doe : Bool) (req : List Byte)
  | getMeasurements (doe : Bool) (req : List Byte) | keyExchange (doe : Bool) (req : List Byte) | finish (doe : Bool) (req : List Byte)
  | keyUpdate (doe : Bool) (req : List Byte) | heartbeat (doe : Bool) (req : List Byte) | endSession (doe : Bool) (req : List Byte) | getCsr (doe : Bool) (req : List Byte)
  | setCertificate (doe : Bool) (req : List Byte) | vendorDefinedRequest (doe : Bool) (req : List Byte)
  -- mailbox and start-up (15, 16, 18)
  | recoveryImage | partitionWrite | partitionRead | lifecycle | warmReset
  | warmResetBoot (now : Nat) | wardenRestart (now : Nat) | wardenCoreTakeover (now : Nat)
  | recoveryFetchRetry (now : Nat) | recoveryFetchDone (path : Nat) (image : List Byte)
  | firmwareStart (now : Nat) | startupTestDone (pitch : Nat) (failed : List Nat) | ready (now : Nat)
  -- the Cairn (17)
  | cairnFlushDone (bad : List Nat) | flush | cairnRead | cairnReadDone
  -- gauges (05)
  | gaugeCtlWrite (ep g : Nat) (value : W32) | gaugeEnChange (ep g : Nat) | gaugeWrite (ep g off : Nat) (value : W32)
  | gaugeChunkBoundary (ep g : Nat)
  -- pages (18)
  | enReq (page : Nat) | stopReq (page : Nat) | isolate (page : Nat)
  | registerWrite (fn : Nat) (off : Nat) (bytes : List Byte) (tlp : Tlp)
  -- cages and coolant (19)
  | cageInsert (link : Bool) (n : Nat) | cageRemove (link : Bool) (n : Nat) (now : Nat)
  | coolantAlarm (inletTenths flowTenths lastedMs : Nat)
  -- rows added at the table's end
  | undefinedOpcode (a : SlotId) | instructionFetchFault (a : SlotId)
  | eztexLinkDown (link : Nat) | pitchThermalRecover (pitch temp : Nat) | standbyCoreTestDone (pass : Bool)
  | perstNRelease | pcieLinkUp (width rate : Nat) (flit : Bool)
  deriving DecidableEq, Repr

end Sys2Proof
end

