-- ==== Sys2Proof/Decode.lean ====
section
/-! DEFINITION. Table words. -/

namespace Sys2Proof

/-- The command that a word spells by the table's bits: spec/opcode_table.json gives no row any bits, so no word spells one (log 18).
A rill instruction word of R36 is fetched from the rill store by the slot that issues it (Machine/Operands.lean). -/
def decodeTableWord (nbits w : Nat) : Option Instr :=
  match nbits, w with
  | _, _ => none

end Sys2Proof
end

