-- ==== Sys2Proof/Config.lean ====
section
/-! DEFINITION. What the spec leaves open and what it takes from outside standards: constants WITHOUT a body, so that no proof
can see their value and a claim holds whatever they are (notes/assumptions/1.md, 5.md, 6.md). -/

namespace Sys2Proof.Config

/-- A free value, fresh at each count of `State.freeCtr` (log 1). -/
opaque freeValue : Nat → W64

/-- A free string of `n` bytes, fresh at each count of `State.freeCtr`: random values and bytes that the spec leaves open
(log 1). -/
opaque freeBytes : Nat → (n : Nat) → List Byte

/-- Which of the results that the error bound allows is that of the module's one fixed
algorithm for VEXP2 (opcode 0x64), VRCP (0x65) and VRSQRT (0x66) at an input (R85 bounds it; log 5). It is a function of the
operation and its input alone, since "every rill gives the same bits for the same input". -/
opaque vectorUlp : (opcode : Nat) → W32 → Nat

/-- Does the Weir, while it throttles, withhold this cycle from this rill's tensor (true) or vector unit (R420; log 163)? -/
opaque weirShut : (rill : Nat) → (tensor : Bool) → (cycle : Nat) → Bool

/-- The cycle of each 16, by their number, that the Weir leaves to a throttled unit in any case (R420; log 163). -/
opaque weirOpen : (rill : Nat) → (tensor : Bool) → (block : Nat) → Nat

/-- ML-DSA-65 verification (FIPS 204): public key, message, signature (R224, R496, R512; log 6). -/
opaque mldsaVerify : List Byte → List Byte → List Byte → Bool

/-- ML-DSA-65 signing by the module identity key: private key, message, randomness count (R224, R506; log 6). -/
opaque mldsaSign : List Byte → List Byte → Nat → List Byte

/-- ML-KEM-1024 key generation from the count of a fresh random value: encapsulation key, decapsulation key (R224; log 6). -/
opaque mlkemKeygen : Nat → List Byte × List Byte

/-- ML-KEM-1024 decapsulation: decapsulation key, ciphertext (R224; log 6). -/
opaque mlkemDecaps : List Byte → List Byte → List Byte

/-- The SPDM 1.3 answer to a request, as the standard defines it: the requests answered before it, the request, the module's state that
the answer carries, count of fresh randomness (R506; log 7). -/
opaque spdmAnswer : List (List Byte) → List Byte → List Byte → Nat → List Byte

/-- Whether an SPDM request is well formed and in turn after the requests answered before it, under the SPDM 1.3 standard (R506; log 7). -/
opaque spdmAccepts : List (List Byte) → List Byte → Bool

/-- The IDE stream (0 the link stream, 1 to 8 selective streams 0 to 7) whose keys an IDE_KM message puts into use, if it is one that does
(K_SET_GO, R509; log 7). -/
opaque ideSetGo : List Byte → Option Nat

/-- The Talhus public key whose SHAKE256 digest a key slot's fuses hold (R495, R512; log 3). -/
opaque slotKey : Nat → List Byte

/-- The bytes of n and the target state in what a life-cycle token signs: the spec does not give their layout (R512; log 6). -/
opaque tokenTail : (n : Nat) → (target : Nat) → List Byte

/-- The private key of the module's identity, as the identity region holds it when the module leaves manufacture (R504, R514; log 3). -/
opaque identityKey : List Byte

/-- ML-DSA-65 key generation from the count of a fresh random value: public key, private key (R504; log 6). -/
opaque mldsaKeygen : Nat → List Byte × List Byte

/-- The vendor identifier of the PCI configuration space (R506; log 3). -/
opaque pciVendor : Nat

/-- Measurement block 1: the digest of the boot ROM (R507; log 3). -/
opaque bootRomDigest : List Byte

/-- The ICMPv6 answer to a neighbour discovery or echo message, as the standards define it (R214; log 7). -/
opaque icmpAnswer : (port : Nat) → List Byte → List Byte

/-- Whether an ICMPv6 neighbour discovery message asks for an answer (a solicitation for the port's address; R214; log 7). -/
opaque ndSolicits : (port : Nat) → List Byte → Bool

/-- The chain that a SET_CERTIFICATE request offers for slot 1, if it is a valid owner's chain over the module's public key (R505; log 7). -/
opaque offeredChain : List Byte → Option (List Byte)

/-- The chain issued at manufacture: certificate slot 0 (R505; log 3). -/
opaque deviceChain : List Byte

end Sys2Proof.Config
end

