-- ==== Sys2Proof/Machine/Bits.lean ====
section
/-! DEFINITION. Fields of words, sparse maps, byte memories in canonical form, byte order (R5) and saturating counts. -/

namespace Sys2Proof.Machine

/-! ### Fields (R5: bit 0 is the least significant; written [msb:lsb]) -/

/-- Field of `n` bits at bit `lo` of a 32-bit word. -/
def fld (w : W32) (lo n : Nat) : Nat := (w >>> lo).toNat % 2 ^ n

/-- The word with its field of `n` bits at bit `lo` set to `v`. -/
def setFld (w : W32) (lo n v : Nat) : W32 :=
  let m : W32 := BitVec.ofNat 32 (2 ^ n - 1)
  (w &&& ~~~(m <<< lo)) ||| ((BitVec.ofNat 32 v &&& m) <<< lo)

/-- Bit `k` of a 32-bit word. -/
def bitOf (w : W32) (k : Nat) : Bool := w.getLsbD k

/-- Field of `n` bits at bit `lo` of a natural number. -/
def nfld (v lo n : Nat) : Nat := (v >>> lo) % 2 ^ n

/-- A truth value as a field. -/
def b2n (b : Bool) : Nat := if b then 1 else 0

/-! ### Sparse maps -/

/-- What is listed under a key. -/
def look? {α : Type} : AMap α → Nat → Option α
  | [], _ => none
  | (k, v) :: t, x => if x = k then some v else look? t x

/-- What is listed under a key, or the default. -/
def look {α : Type} (d : α) (m : AMap α) (x : Nat) : α := (look? m x).getD d

/-- The map with a key set, kept in rising order. -/
def put {α : Type} : AMap α → Nat → α → AMap α
  | [], x, a => [(x, a)]
  | (k, v) :: t, x, a =>
    if x < k then (x, a) :: (k, v) :: t else if x = k then (x, a) :: t else (k, v) :: put t x a

/-- The map without a key. -/
def del {α : Type} (m : AMap α) (x : Nat) : AMap α := m.filter (fun e => e.1 != x)

/-! ### Sets of numbers, kept in rising order -/

/-- The set with a number in it. -/
def ins : List Nat → Nat → List Nat
  | [], x => [x]
  | k :: t, x => if x < k then x :: k :: t else if x = k then k :: t else k :: ins t x

/-- The set without a number. -/
def rem (l : List Nat) (x : Nat) : List Nat := l.filter (· != x)

/-! ### Byte memories: (address, byte) pairs, addresses strictly rising, no listed byte 0; an unlisted address reads 0 -/

/-- A byte memory. -/
abbrev Mem := List (Nat × BitVec 8)

/-- One byte read. An address that is not listed reads 0 (notes/assumptions/4.md). -/
def memRead : Mem → Nat → Byte
  | [], _ => 0
  | (k, v) :: t, a => if a = k then v else memRead t a

/-- One byte written; the canonical form is kept. -/
def memWrite : Mem → Nat → Byte → Mem
  | [], a, b => if b = 0 then [] else [(a, b)]
  | (k, v) :: t, a, b =>
    if a < k then (if b = 0 then (k, v) :: t else (a, b) :: (k, v) :: t)
    else if a = k then (if b = 0 then t else (a, b) :: t)
    else (k, v) :: memWrite t a b

/-- `n` bytes from an address upward. -/
def readBytes (m : Mem) (a : Nat) : Nat → List Byte
  | 0 => []
  | n + 1 => memRead m a :: readBytes m (a + 1) n

/-- Bytes written from an address upward. -/
def writeBytes (m : Mem) (a : Nat) : List Byte → Mem
  | [] => m
  | b :: t => writeBytes (memWrite m a b) (a + 1) t

/-- Every byte of [lo, hi) set to 0. -/
def memClear (m : Mem) (lo hi : Nat) : Mem := m.filter (fun e => e.1 < lo || hi ≤ e.1)

/-- The bytes of [src, src + n) moved to dst (the place they leave reads 0). -/
def memMove (m : Mem) (src dst n : Nat) : Mem :=
  let moved := (m.filter (fun e => src ≤ e.1 && e.1 < src + n)).map (fun e => (e.1 - src + dst, e.2))
  moved.foldl (fun acc e => memWrite acc e.1 e.2) (memClear (memClear m src (src + n)) dst (dst + n))

/-- Strictly rising addresses, no listed zero. -/
def Mem.wf : Mem → Bool
  | [] => true
  | (_, b) :: [] => b != 0
  | (k, b) :: (k', b') :: t => b != 0 && decide (k < k') && Mem.wf ((k', b') :: t)

/-! ### Byte order (R5: little-endian) -/

/-- The number that bytes spell, lowest first. -/
def leNat : List Byte → Nat
  | [] => 0
  | b :: t => b.toNat + 256 * leNat t

/-- `n` bytes of a number, lowest first. -/
def leBytes : Nat → Nat → List Byte
  | 0, _ => []
  | n + 1, v => BitVec.ofNat 8 v :: leBytes n (v / 256)

/-- The number that bytes spell, highest first (R215 on the wire). -/
def beNat (l : List Byte) : Nat := leNat l.reverse

/-- `n` bytes of a number, highest first. -/
def beBytes (n v : Nat) : List Byte := (leBytes n v).reverse

/-- A field of a byte string: `n` bytes at `off`, little-endian. -/
def at' (l : List Byte) (off n : Nat) : Nat := leNat ((l.drop off).take n)

/-- Bytes padded with zeros to a length. -/
def padTo (n : Nat) (l : List Byte) : List Byte := l ++ List.replicate (n - l.length) 0

/-- A length rounded up to a multiple. -/
def roundUp (x m : Nat) : Nat := (x + m - 1) / m * m

/-- A multiple test, true for 0. -/
def isMul (x m : Nat) : Bool := x % m == 0

/-! ### Signed reading -/

/-- A 32-bit immediate sign-extended (R41). -/
def sext32 (w : W32) : W64 := w.signExtend 64

/-- A field of `n` bits as a two's-complement integer. -/
def toSigned (n v : Nat) : Int := if v < 2 ^ (n - 1) then (v : Int) else (v : Int) - 2 ^ n

/-! ### Lists -/

/-- The list with its i-th element replaced. -/
def setAt {α : Type} (l : List α) (i : Nat) (a : α) : List α := l.set i a

/-- The list without its i-th element. -/
def dropAt {α : Type} (l : List α) (i : Nat) : List α := l.eraseIdx i

/-- How often a predicate holds. -/
def countIf {α : Type} (p : α → Bool) (l : List α) : Nat := (l.filter p).length

/-- The sum of a list of numbers. -/
def sumL (l : List Nat) : Nat := l.foldl (· + ·) 0

/-- Number of bits set among the low `n`. -/
def popcount (n v : Nat) : Nat := countIf (fun k => v.testBit k) (List.range n)

/-- The numbers of the bits set among the low `n`. -/
def bitsSet (n v : Nat) : List Nat := (List.range n).filter (fun k => v.testBit k)

end Sys2Proof.Machine
end

