-- ==== Sys2Proof/Machine/Crypto.lean ====
section
/-! DEFINITION. The named standard functions that the spec uses and that the model computes: CRC-32C and CRC-64/ECMA-182
(R171), SHAKE256 with 256-bit output (R58, R318) and AES-256-GCM (R218). -/

namespace Sys2Proof.Machine

/-! ### CRC (R171) -/

def crc32cBit (c : Nat) : Nat := if c % 2 = 1 then (c / 2) ^^^ 0x82F63B78 else c / 2

/-- The running value of CRC-32C (reflected) after one byte. -/
def crc32cByte (c : Nat) (b : Byte) : Nat :=
  crc32cBit (crc32cBit (crc32cBit (crc32cBit (crc32cBit (crc32cBit (crc32cBit (crc32cBit (c ^^^ b.toNat))))))))

/-- The running value of CRC-32C over bytes. -/
def crc32cRun (c : Nat) (l : List Byte) : Nat := l.foldl crc32cByte c

/-- The CRC-32C check value: running value XOR the final XOR. -/
def crc32c (l : List Byte) : Nat := crc32cRun 0xFFFFFFFF l ^^^ 0xFFFFFFFF

def crc64Bit (c : Nat) : Nat :=
  if c.testBit 63 then ((c * 2) % 2 ^ 64) ^^^ 0x42F0E1EBA9EA3693 else (c * 2) % 2 ^ 64

/-- The running value of CRC-64/ECMA-182 after one byte. -/
def crc64Byte (c : Nat) (b : Byte) : Nat :=
  crc64Bit (crc64Bit (crc64Bit (crc64Bit (crc64Bit (crc64Bit (crc64Bit (crc64Bit (c ^^^ (b.toNat * 2 ^ 56)))))))))

/-- The running value of CRC-64/ECMA-182 over bytes (initial value 0, final XOR 0). -/
def crc64Run (c : Nat) (l : List Byte) : Nat := l.foldl crc64Byte c

/-! ### SHAKE256 (FIPS 202)

The 1,600 bits of the sponge are one number, lane (x, y) at bit 64 (x + 5 y), so that absorbing a block is one exclusive or with the block's
little-endian value. -/

/-- Lane (x, y) of the sponge; coordinates count modulo 5. -/
def spongeLane (a x y : Nat) : Nat := (a >>> (64 * (x % 5 + 5 * (y % 5)))) % 2 ^ 64

/-- The sponge whose lane at each (x, y) is given. -/
def spongeOf (f : Nat → Nat → Nat) : Nat := (List.range 25).foldl (fun acc i => acc + f (i % 5) (i / 5) <<< (64 * i)) 0

/-- A lane turned toward its high end. -/
def laneTurn (v n : Nat) : Nat := (v <<< (n % 64)) % 2 ^ 64 + v >>> (64 - n % 64)

/-- The diffusion step: each lane takes the parities of the column before it and, turned by one, of the column after it. -/
def spongeMix (a : Nat) : Nat :=
  let parity := (List.range 5).foldl (fun acc y => acc ^^^ a >>> (320 * y)) 0
  spongeOf (fun x y => spongeLane a x y ^^^ spongeLane parity (x + 4) 0 ^^^ laneTurn (spongeLane parity (x + 1) 0) 1)

/-- The walk from (1, 0) over the 24 lanes other than (0, 0): the lane at each place, turned by the next triangular number, moves to the place
that the walk visits next. -/
def spongeWalk (a : Nat) : Nat → Nat × Nat → Nat → Nat
  | 0, _, acc => acc
  | n + 1, (x, y), acc =>
    let z := (2 * x + 3 * y) % 5
    spongeWalk a n (y, z) (acc + laneTurn (spongeLane a x y) ((24 - n) * (25 - n) / 2) <<< (64 * (y + 5 * z)))

/-- The round constant that a state of the generator x^8 + x^6 + x^5 + x^4 + 1 gives, bit 2^j - 1 from its j-th output, and the state after
seven outputs. -/
def roundConst : Nat → Nat → Nat × Nat
  | 0, r => (0, r)
  | n + 1, r =>
    let (c, r') := roundConst n (if r < 128 then 2 * r else (2 * r) ^^^ 0x171)
    ((if r % 2 = 1 then 2 ^ (2 ^ (6 - n) - 1) else 0) ^^^ c, r')

/-- One round of the permutation; the second component is the generator of the constants. -/
def spongeRound (e : Nat × Nat) : Nat × Nat :=
  let m := spongeMix e.1
  let b := spongeWalk m 24 (1, 0) (m % 2 ^ 64)
  let (c, r) := roundConst 7 e.2
  (spongeOf (fun x y => spongeLane b x y ^^^ ((2 ^ 64 - 1 - spongeLane b (x + 1) y) &&& spongeLane b (x + 2) y)) ^^^ c, r)

/-- The permutation: 24 rounds. -/
def spongeTurn (a : Nat) : Nat := ((List.range 24).foldl (fun e _ => spongeRound e) (a, 1)).1

/-- `n` whole blocks of 136 bytes absorbed, then what is left with the mark 1111 and the closing bit. -/
def spongeTake : Nat → Nat → List Byte → Nat
  | 0, a, l => spongeTurn (a ^^^ at' l 0 l.length ^^^ (0x1F <<< (8 * l.length)) ^^^ (0x80 <<< (8 * 135)))
  | n + 1, a, l => spongeTake n (spongeTurn (a ^^^ at' l 0 136)) (l.drop 136)

/-- SHAKE256 with 256 bits of output. -/
def shake256 (l : List Byte) : List Byte := leBytes 32 (spongeTake (l.length / 136) 0 l)

/-! ### AES-256-GCM (R218) -/

/-- Multiplication by x in the AES field. -/
def xtime (b : Nat) : Nat := if b < 128 then b * 2 else (b * 2) % 256 ^^^ 0x1B

/-- Multiplication in the AES field. -/
def gmul8 (a b : Nat) : Nat :=
  ((List.range 8).foldl (fun (acc, x) k => (if b.testBit k then acc ^^^ x else acc, xtime x)) (0, a)).1

/-- Multiplicative inverse in the AES field: the 254th power. -/
def ginv8 (a : Nat) : Nat :=
  let a2 := gmul8 a a
  let a4 := gmul8 a2 a2
  let a8 := gmul8 a4 a4
  let a16 := gmul8 a8 a8
  let a32 := gmul8 a16 a16
  let a64 := gmul8 a32 a32
  let a128 := gmul8 a64 a64
  gmul8 a128 (gmul8 a64 (gmul8 a32 (gmul8 a16 (gmul8 a8 (gmul8 a4 a2)))))

/-- The AES S-box. -/
def sbox (x : Nat) : Nat :=
  let i := ginv8 x
  let r (n : Nat) := ((i * 2 ^ n) % 256) ||| (i / 2 ^ (8 - n))
  i ^^^ r 1 ^^^ r 2 ^^^ r 3 ^^^ r 4 ^^^ 0x63

def xorL (a b : List Nat) : List Nat := List.zipWith (· ^^^ ·) a b

/-- The 60 words of the AES-256 key schedule, newest first while it grows. -/
def aesExpand (key : List Nat) : List (List Nat) :=
  let w0 := (List.range 8).map (fun i => (key.drop (4 * i)).take 4)
  let step (st : List (List Nat) × Nat) (i : Nat) : List (List Nat) × Nat :=
    let ws := st.1
    let prev := ws.getD (i - 1) []
    let back := ws.getD (i - 8) []
    if i % 8 = 0 then
      let t := match prev with
        | a :: b :: c :: d :: _ => [sbox b ^^^ st.2, sbox c, sbox d, sbox a]
        | _ => []
      (ws ++ [xorL back t], xtime st.2)
    else if i % 8 = 4 then (ws ++ [xorL back (prev.map sbox)], st.2)
    else (ws ++ [xorL back prev], st.2)
  (((List.range 52).map (· + 8)).foldl step (w0, 1)).1

def aesShiftRows (s : List Nat) : List Nat :=
  (List.range 16).map (fun i => s.getD ((i % 4) + 4 * ((i / 4 + i % 4) % 4)) 0)

def aesMixCol (c : List Nat) : List Nat :=
  match c with
  | [a, b, d, e] =>
    [gmul8 a 2 ^^^ gmul8 b 3 ^^^ d ^^^ e, a ^^^ gmul8 b 2 ^^^ gmul8 d 3 ^^^ e,
     a ^^^ b ^^^ gmul8 d 2 ^^^ gmul8 e 3, gmul8 a 3 ^^^ b ^^^ d ^^^ gmul8 e 2]
  | _ => []

def aesMix (s : List Nat) : List Nat := (List.range 4).flatMap (fun i => aesMixCol ((s.drop (4 * i)).take 4))

def aesRoundKey (ks : List (List Nat)) (r : Nat) : List Nat := ((ks.drop (4 * r)).take 4).flatten

/-- One AES-256 block encryption under an expanded key. -/
def aesBlock (ks : List (List Nat)) (b : List Nat) : List Nat :=
  let s0 := xorL b (aesRoundKey ks 0)
  let mid := ((List.range 13).map (· + 1)).foldl
    (fun s r => xorL (aesMix (aesShiftRows (s.map sbox))) (aesRoundKey ks r)) s0
  xorL (aesShiftRows (mid.map sbox)) (aesRoundKey ks 14)

/-- Multiplication in the GCM field; numbers are big-endian blocks, bit 127 first. -/
def gcmMul (x y : Nat) : Nat :=
  ((List.range 128).foldl (fun (z, v) k =>
    (if x.testBit (127 - k) then z ^^^ v else z,
     if v % 2 = 1 then (v / 2) ^^^ (0xE1 * 2 ^ 120) else v / 2)) (0, y)).1

/-- Splits bytes into 16-byte blocks, the last padded with zeros. -/
def blocks16 : Nat → List Byte → List (List Byte)
  | 0, _ => []
  | n + 1, l => padTo 16 (l.take 16) :: blocks16 n (l.drop 16)

def toBlocks16 (l : List Byte) : List (List Byte) := blocks16 ((l.length + 15) / 16) l

/-- GHASH over additional data and ciphertext. -/
def ghash (h : Nat) (aad ct : List Byte) : Nat :=
  let bs := toBlocks16 aad ++ toBlocks16 ct ++ [beBytes 8 (8 * aad.length) ++ beBytes 8 (8 * ct.length)]
  bs.foldl (fun y b => gcmMul (y ^^^ beNat b) h) 0

def nats (l : List Byte) : List Nat := l.map BitVec.toNat

/-- The GCM key stream applied to bytes; counter starts at `c`. -/
def gcmCtr (ks : List (List Nat)) (nonce : List Byte) : Nat → Nat → List Byte → List Byte
  | 0, _, _ => []
  | n + 1, c, l =>
    let k := aesBlock ks (nats (nonce ++ beBytes 4 c))
    List.zipWith (fun b x => b ^^^ BitVec.ofNat 8 x) (l.take 16) k ++ gcmCtr ks nonce n (c + 1) (l.drop 16)

/-- The GCM tag. -/
def gcmTag (key nonce aad ct : List Byte) : List Byte :=
  let ks := aesExpand (nats key)
  let h := beNat ((aesBlock ks (List.replicate 16 0)).map (BitVec.ofNat 8))
  let e := beNat ((aesBlock ks (nats (nonce ++ beBytes 4 1))).map (BitVec.ofNat 8))
  beBytes 16 (ghash h aad ct ^^^ e)

/-- AES-256-GCM sealing: ciphertext, then the 16 B tag (R216). -/
def gcmSeal (key nonce aad pt : List Byte) : List Byte :=
  let ks := aesExpand (nats key)
  let ct := gcmCtr ks nonce ((pt.length + 15) / 16) 2 pt
  ct ++ gcmTag key nonce aad ct

/-- AES-256-GCM opening of ciphertext and tag: the plaintext, or none when the tag does not match. -/
def gcmOpen (key nonce aad body : List Byte) : Option (List Byte) :=
  let ct := body.take (body.length - 16)
  if 16 ≤ body.length ∧ gcmTag key nonce aad ct = body.drop (body.length - 16) then
    some (gcmCtr (aesExpand (nats key)) nonce ((ct.length + 15) / 16) 2 ct)
  else none

end Sys2Proof.Machine
end

