-- ==== Sys2Proof/Machine/Regs.lean ====
section
/-! DEFINITION. The host registers (18 R552-R573 and the register tables of every chapter): where each page lies in PF0 BAR0,
what each register holds after reset, which of its bits a write sets (RW) and which a write of 1 clears (W1C). Every host register
lives once, in `State.regs`, under its PF0 BAR0 byte address; a register that is not listed there holds its reset value. -/

namespace Sys2Proof.Machine

/-! ### Class codes (R565) -/

abbrev clsGlobal : Nat := 0x0001
abbrev clsMbox : Nat := 0x0002
abbrev clsReach : Nat := 0x0101
abbrev clsPitch : Nat := 0x0102
abbrev clsLink : Nat := 0x0201
abbrev clsPort : Nat := 0x0202
abbrev clsPcie : Nat := 0x0203
abbrev clsStack : Nat := 0x0301
abbrev clsXl : Nat := 0x0302
abbrev clsCf : Nat := 0x0401
abbrev clsRank : Nat := 0x0402
abbrev clsGroup : Nat := 0x0403
abbrev clsWeir : Nat := 0x0501
abbrev clsTime : Nat := 0x0601
abbrev clsBg : Nat := 0x0602
abbrev clsCairn : Nat := 0x0701
abbrev clsSec : Nat := 0x0801
abbrev clsCe : Nat := 0x0901
abbrev clsGauge : Nat := 0x0A01

/-- PF0 BAR0 byte address of a page (R567, R207, R210). The CONTEXT page of VF window c (class COMMAND_ENGINE, instance 0x100 + c, R490) has
no PF0 address: the model keeps its header at 0x0400_0000 + 0x1000 c, above BAR0. -/
def pageBase (cls inst : Nat) : Nat :=
  if cls = clsGlobal then 0
  else if cls = clsMbox then 0x1000
  else if cls = clsCe then (if inst < 0x100 then 0x10000 + 0x8000 * inst else 0x4000000 + 0x1000 * (inst - 0x100))
  else if cls = clsPitch then 0x100000 + 0x1000 * inst
  else if cls = clsLink then 0x200000 + 0x1000 * inst
  else if cls = clsPort then 0x280000 + 0x1000 * inst
  else if cls = clsGauge then 0x2C0000 + 0x1000 * inst
  else if cls = clsPcie then 0x2F0000
  else if cls = clsStack then 0x300000 + 0x1000 * inst
  else if cls = clsXl then 0x320000 + 0x1000 * inst
  else if cls = clsCf then 0x400000 + 0x1000 * inst
  else if cls = clsRank then 0x410000
  else if cls = clsGroup then 0x411000
  else if cls = clsWeir then 0x500000
  else if cls = clsTime then 0x600000
  else if cls = clsBg then 0x601000
  else if cls = clsCairn then 0x700000
  else if cls = clsSec then 0x800000
  else 0x900000 + 0x1000 * inst

/-- Byte address of a register of a page. -/
abbrev rg (cls inst off : Nat) : Nat := pageBase cls inst + off

/-- The page, and the offset within it, that a PF0 BAR0 byte address names; none in a reserved range, in the command slots and
in the windows that have no header (R566, R567). -/
def pageAt (a : Nat) : Option (Nat × Nat × Nat) :=
  let o := a % 0x1000
  let k := a / 0x1000
  if k = 0 then some (clsGlobal, 0, o)
  else if k = 1 then some (clsMbox, 0, o)
  else if 0x10 ≤ k && k < 0x10 + 8 * 17 then
    if (k - 0x10) % 8 = 0 then some (clsCe, (k - 0x10) / 8, o) else none
  else if 0x100 ≤ k && k < 0x100 + 252 then some (clsPitch, k - 0x100, o)
  else if 0x200 ≤ k && k < 0x200 + 76 then some (clsLink, k - 0x200, o)
  else if 0x280 ≤ k && k < 0x280 + 32 then some (clsPort, k - 0x280, o)
  else if 0x2C0 ≤ k && k < 0x2C0 + 36 then some (clsGauge, k - 0x2C0, o)
  else if k = 0x2F0 then some (clsPcie, 0, o)
  else if 0x300 ≤ k && k < 0x300 + 24 then some (clsStack, k - 0x300, o)
  else if 0x320 ≤ k && k < 0x320 + 17 then some (clsXl, k - 0x320, o)
  else if 0x400 ≤ k && k < 0x400 + 13 then some (clsCf, k - 0x400, o)
  else if k = 0x410 then some (clsRank, 0, o)
  else if k = 0x411 then some (clsGroup, 0, o)
  else if k = 0x500 then some (clsWeir, 0, o)
  else if k = 0x600 then some (clsTime, 0, o)
  else if k = 0x601 then some (clsBg, 0, o)
  else if k = 0x700 then some (clsCairn, 0, o)
  else if k = 0x800 then some (clsSec, 0, o)
  else if 0x900 ≤ k && k < 0x900 + 63 then some (clsReach, k - 0x900, o)
  else if 0x4001 ≤ k && k ≤ 0x4010 then some (clsCe, 0x100 + (k - 0x4000), o)
  else none

/-- STATEFUL pages (R560). -/
def statefulPage (cls inst : Nat) : Bool :=
  cls == clsPitch || cls == clsLink || cls == clsPort || cls == clsStack || cls == clsXl || (cls == clsCe && inst < 0x100) || cls == clsGauge
    || (cls == clsCf && inst < 12)

/-- ISOLATABLE pages (R560). -/
def isolatablePage (cls inst : Nat) : Bool :=
  cls == clsPitch || cls == clsStack || cls == clsLink || cls == clsPort || (cls == clsCf && inst < 12)

/-- Pages with an epoch (R560). -/
def epochPage (cls : Nat) : Bool := cls == clsPitch || cls == clsLink || cls == clsPort

/-! ### Particular addresses -/

/-- Core Map Table entry of a logical rill (R364). -/
def aCmt (col row : Nat) : Nat := 0x1000000 + 4 * (1080 * row + col)
/-- Rank table entry of rank r in job slot s (R332). -/
def aRank (s r : Nat) : Nat := 0x420000 + 0x10000 * s + 4 * r
/-- Word w of group entry g (R333). -/
def aGroup (g w : Nat) : Nat := 0x460000 + 8 * g + 4 * w
/-- The 32-bit word that holds member-list entry m (R333). -/
def aMember (m : Nat) : Nat := 0x480000 + 4 * (m / 2)
/-- Job block register of job slot s (R331). -/
def aJob (s off : Nat) : Nat := 0x410000 + 0x120 + 0x20 * s + off
/-- Recovery block register of context c (R401). -/
def aRc (c off : Nat) : Nat := 0x240 + 0x40 * c + off
/-- Headwater block register of context c (R252). -/
def aHwc (c off : Nat) : Nat := 0x280000 + 0x400 + 0x40 * c + off
/-- STAGEc (R360). -/
def aStage (c : Nat) : Nat := 0x40C000 + 0x200 + 4 * c
/-- Word w of Protection Table entry c (R492, R517). -/
def aPt (c w : Nat) : Nat := 0x800000 + 0x400 + 32 * c + 4 * w
/-- Command slot k of context c (R465). -/
def aSlot (c k : Nat) : Nat := 0x11000 + 0x8000 * c + 64 * k
/-- DEAD_REGIONk of a reach (R134). -/
def aDead (reach k : Nat) : Nat := rg clsReach reach 0x460 + 4 * k
/-- Gauge register (R172). -/
def aGauge (ep g off : Nat) : Nat := rg clsGauge ep (0x100 + 0x40 * g + off)

/-! ### Eztex links (R291) -/

/-- Direction of link l: 0 +x, 1 -x, 2 +y, 3 -y, 4 +z, 5 -z, 6 twin (R291, R330). -/
def linkDir (l : Nat) : Nat :=
  let t := l / 6
  if l ≥ 72 then 6
  else if t = 3 || t = 5 then 0 else if t = 9 || t = 11 then 1
  else if t = 0 || t = 2 then 2 else if t = 6 || t = 8 then 3
  else if t = 1 || t = 4 then 4 else 5

/-- The links of a direction in order of bundle position (R291). -/
def bundle (dir : Nat) : List Nat :=
  if dir = 6 then [72, 73, 74, 75] else (List.range 72).filter (fun l => linkDir l == dir)

/-- Bundle position of link l (R291). -/
def bundlePos (l : Nat) : Nat := (bundle (linkDir l)).idxOf l

/-! ### The orderable parts (R1, R2) -/

/-- The two parts: they differ in nothing but the stacks fitted. -/
inductive Part where
  | s24 | s12
  deriving DecidableEq, Repr

/-- PART of MODULE_ID (R569). -/
def Part.code : Part → Nat
  | .s24 => 0
  | .s12 => 1
/-- Does the part fit a stack at a position: all 24, or the even ones (R2)? -/
def Part.fits : Part → Nat → Bool
  | .s24, pos => decide (pos < 24)
  | .s12, pos => decide (pos < 24) && pos % 2 == 0
/-- STACKS_FITTED (R568). -/
def Part.mask (p : Part) : Nat := (List.range 24).foldl (fun m pos => if p.fits pos then m + 2 ^ pos else m) 0

/-! ### Reset values -/

/-- Envelope class of R430: RAMP, STEP_MAX, FLOOR, DOWN_DELAY, START_PERIOD, ENV_VALID. -/
def envelopeClass (k : Nat) : Nat × Nat × Nat × Nat × Nat × Nat :=
  if k = 0 then (30000000, 30000, 0, 0, 0, 1)
  else if k = 1 then (100000, 5000, 0, 500, 1000, 1)
  else if k = 2 then (20000, 2000, 4000, 2000, 4000, 1)
  else if k = 3 then (5000, 1000, 8000, 2000, 8000, 1)
  else if k = 4 then (1000, 500, 12000, 5000, 16000, 1)
  else if k = 5 then (200, 200, 16000, 10000, 32000, 1)
  else (200, 200, 16000, 10000, 32000, 0)

/-- The reset slot table (R448), as SLOT register values. -/
def slotReset (n : Nat) : Nat :=
  if n < 24 then 1 + 16 * n
  else if n < 48 then 2 + 16 * (n - 24)
  else if n < 113 then 3 + 16 * (n - 48)
  else if n = 113 then 4 else 0

/-- BLOCK_CAPS of a page (R559). -/
def blockCaps (cls inst : Nat) : Nat :=
  b2n (statefulPage cls inst) + 2 * b2n (epochPage cls) + 4 * b2n (isolatablePage cls inst)

/-- Header registers (R557, R559): the silicon stepping is 0 (log 3). A page that is not STATEFUL has STATE fixed at ON (R560); the chiplet
pages of CONFLUENCE are ON after reset, since CF_SUMMARY counts their free slots then (R361; log 72). -/
def headerReset (cls inst off : Nat) : Nat :=
  if off = 0x000 then cls * 0x10000 + inst
  else if off = 0x004 then 0x00010000
  else if off = 0x008 then blockCaps cls inst
  else if off = 0x00C then (if statefulPage cls inst && cls != clsCf then 0x20 else 0x22)
  else 0

/-- The reset value of a block register, at its offset in its page. The ones that the spec gives "per module" are log 3. -/
def blockReset (cls inst off : Nat) : Nat :=
  if cls = clsGlobal then
    (if off = 0x100 then 0x00030000            -- MODULE_ID: FAMILY 3, ZX3-S24 (log 3)
     else if off = 0x110 then 0x00FFFFFF       -- STACKS_FITTED (log 3)
     else if off = 0x200 then 0x00A80100       -- RCV_CTL: WEAR_EN, WEAR_PERIOD 168 (R402)
     else 0)
  else if cls = clsReach then
    (if off = 0x100 then 960 * 0x10000         -- RCH_STATUS: no holes, every segment spare works (log 3)
     else if off = 0x400 then 1 else 0)
  else if cls = clsGauge then
    (if 0x100 ≤ off && off < 0x300 then
      (if (off - 0x100) % 0x40 = 0 then 0x00100000 else if (off - 0x100) % 0x40 = 0x10 then 0xFFFFFFFF else 0)
     else 0)
  else if cls = clsStack then
    (if off = 0x100 then 0x6001 else if off = 0x108 then 3 else 0)
  else if cls = clsPort then (if off = 0x120 then 0xC400 else if off = 0x124 then 0x000800C8 else 0)
  else if cls = clsLink then
    (if off = 0x100 then 0x00020302 else if off = 0x104 then 2 * linkDir inst + 16 * bundlePos inst else 0)
  else if cls = clsRank then (if off = 0x104 then 0x00201010 else if off = 0x108 then 10000 else 0)
  else if cls = clsCf then
    (if inst = 12 then (if off = 0x104 then 0x300 else 0) else if off = 0x100 then 0x340 else 0)
  else if cls = clsWeir then
    (if off = 0x100 then 5                      -- BALLAST_EN and, under class 0, ENV_VALID
     else if off = 0x10C then 30000
     else if off = 0x124 || off = 0x128 then 30000000
     else if off = 0x12C then 30000
     else if off = 0x134 then 30000
     else if off = 0x148 then 0xFFFF else 0)
  else if cls = clsPitch then (if off = 0x100 then 0x114 else if off = 0x104 then 2 else if off = 0x11C then 20 else 0)
  else if cls = clsTime then
    (if off = 0x104 then 1 else if off = 0x120 then 37 else if off = 0x130 then 1000 else if off = 0x134 then 100 else 0)
  else if cls = clsBg then
    (if off = 0x100 then 2
     else if 0x200 ≤ off && off ≤ 0x3F0 then slotReset ((off - 0x200) / 4) else 0)
  else if cls = clsCe then (if off = 0x110 && inst < 0x100 then 4 else 0)
  else if cls = clsSec then
    (if off = 0x100 then 0x412                  -- DEPLOYED, LC_COUNT 2, STANDBY_OK (log 3)
     else if off = 0x108 then 0x0F else 0)      -- four slots programmed (R495), none revoked, MIN_SVN 0 (log 3)
  else if cls = clsCairn then (if off = 0x100 then 2
     else if off = 0x108 then 0x00100000 else if off = 0x118 then 0x000FFFFF else 0)   -- R543 with the ceiling of log 3
  else 0

/-- Reset value of a Core Map Table entry (log 3: no hole, IDLE 15, SEG_SPARE, walk toward position 0). -/
def cmtReset (k : Nat) : Nat := (k % 1080 % 15) + 0x80 + 0xF00 + 0x10000

/-- The value that the register at a PF0 BAR0 byte address (a multiple of 4) holds after reset. -/
def resetReg (a : Nat) : W32 :=
  if 0x1000000 ≤ a && a < 0x1000000 + 4 * 907200 then BitVec.ofNat 32 (cmtReset ((a - 0x1000000) / 4))
  else match pageAt a with
    | none => 0
    | some (cls, inst, off) => BitVec.ofNat 32 (if off < 0x100 then headerReset cls inst off else blockReset cls inst off)

/-! ### Access types (R553) -/

/-- Bits that a write sets (access RW), by page and offset. An action bit (W1S) is not among them. -/
def rwMask (cls inst off : Nat) : Nat :=
  let all := 0xFFFFFFFF
  if off = 0x018 then all                                        -- ERR_MASK
  else if off < 0x100 then 0
  else if cls = clsGlobal then
    (if off = 0x200 then 0x00FF0101
     else if 0x240 ≤ off && off < 0x680 then
      (let k := (off - 0x240) % 0x40
       if k = 0 then 0x1FFF else if k = 0x20 || k = 0x24 || k = 0x28 then all else 0)
     else 0)
  else if cls = clsMbox then
    (if off = 0x100 then 0xFF else if off = 0x108 || off = 0x10C || off = 0x110 || off = 0x114 then all else 0)
  else if cls = clsReach then (if off = 0x400 then 3 else 0)
  else if cls = clsGauge then
    (if 0x100 ≤ off && off < 0x300 then
      (let k := (off - 0x100) % 0x40
       if k = 0 then 0x001FFF07 else if k = 4 then 0x0000FFF7 else if k = 8 then 0x03FF07FF
       else if k = 0x10 || k = 0x14 || k = 0x18 || k = 0x1C then all else 0)
     else 0)
  else if cls = clsStack then (if off = 0x108 then 7 else 0)
  else if cls = clsXl then
    (if off = 0x100 || off = 0x104 then all
     else if 0x108 ≤ off && off ≤ 0x114 then 0x87FFFFFF
     else if off = 0x118 then 2
     else if off = 0x120 || off = 0x124 || off = 0x128 || off = 0x12C then all else 0)
  else if cls = clsPort then
    (if off = 0x100 then 0x1FFFF
     else if off = 0x108 then all else if off = 0x10C then 0xFFFF
     else if 0x110 ≤ off && off ≤ 0x11C then all
     else if off = 0x120 then 0xFFFF else if off = 0x124 then 0xFFFFF
     else if inst = 0 && 0x400 ≤ off && off < 0x840 then
      (let k := (off - 0x400) % 0x40
       if k = 0 then 0x3FFF else if k = 8 || k = 0xC || k = 0x10 || k = 0x14 then all else 0)
     else 0)
  else if cls = clsLink then (if off = 0x100 then 0x00FFFF03 else 0)
  else if cls = clsRank then
    (if off = 0x100 then 0x001F0F0F
     else if off = 0x104 then 0x003F1F1F
     else if off = 0x108 then 0x000FFFFF
     else if 0x120 ≤ off && off < 0x1A0 then
      (let k := (off - 0x120) % 0x20
       if k = 0 then 0x8000001F else if k = 4 then all else if k = 8 then 0x03FF3FFF else 0)
     else 0)
  else if cls = clsCf then
    (if inst = 12 then (if off = 0x100 then 3 else if 0x200 ≤ off && off ≤ 0x240 then 0x3F3F else 0) else 0)
  else if cls = clsWeir then
    (if off = 0x100 then 0xD
     else if off = 0x124 || off = 0x128 then all
     else if off = 0x12C || off = 0x130 || off = 0x134 || off = 0x138 then 0xFFFF
     else if off = 0x13C then 0xFFFFF
     else if off = 0x140 || off = 0x144 then all else 0)
  else if cls = clsPitch then (if off = 0x100 then 0x13F else 0)
  else if cls = clsTime then
    (if off = 0x100 then 0x2FF03
     else if off = 0x110 || off = 0x114 || off = 0x12C then all
     else if off = 0x120 || off = 0x134 then 0xFFFF
     else if off = 0x124 then 0x8000FFFF
     else if off = 0x128 then 0xFFFFFFF8
     else if off = 0x130 then 0x1FFFF else 0)
  else if cls = clsBg then (if off = 0x100 then 2 else if 0x200 ≤ off && off ≤ 0x3F0 then 0xFFF else 0)
  else if cls = clsCe then
    (if 0x100 ≤ inst then 0 else if off = 0x108 then 0xFFFFF000 else if off = 0x10C then all
     else if off = 0x110 then 0x1F else if off = 0x114 then 0xFFFF
     else if off = 0x11C then 0xFFF1007F
     else if off = 0x120 then 0xFFE00000 else if off = 0x124 then all
     else if off = 0x128 then 0x3FFFF else if off = 0x12C then 0x7FFFF
     else if off = 0x13C then (if inst = 0 then 0x1077F else 0) else 0)
  else if cls = clsCairn then
    (if off = 0x100 then 7 else if off = 0x170 || off = 0x174 then all else if off = 0x178 then 0x700 else 0)
  else 0

/-- Bits that a write of 1 clears (access W1C). -/
def w1cMask (cls inst off : Nat) : Nat :=
  if off = 0x014 then 0xFFFFFFFF
  else if cls = clsXl && off = 0x130 then 0x80
  else if cls = clsCf && inst = 12 && off = 0x108 then 3
  else if cls = clsGauge && 0x100 ≤ off && off < 0x300 && (off - 0x100) % 0x40 = 0xC then 8
  else 0

/-- Is this offset the LO word of a LO and HI pair, and is the pair RW (R554)? The HI word lies 4 above it. -/
def pairLo (cls inst off : Nat) : Option Bool :=
  if off = 0x01C then some false
  else if cls = clsGlobal then
    (if off = 0x118 || off = 0x120 then some false
     else if 0x240 ≤ off && off < 0x680 then
      (let k := (off - 0x240) % 0x40
       if k = 0x10 then some false else if k = 0x20 then some true else none)
     else none)
  else if cls = clsMbox then (if off = 0x108 then some true else none)
  else if cls = clsReach then
    (if off = 0x408 || off = 0x410 || off = 0x418 || off = 0x420 || off = 0x428 || off = 0x430 then some false else none)
  else if cls = clsGauge then
    (if 0x100 ≤ off && off < 0x300 then
      (let k := (off - 0x100) % 0x40
       if k = 0x10 || k = 0x18 then some true else if k = 0x20 then some false else none)
     else none)
  else if cls = clsStack then (if off = 0x110 then some false else none)
  else if cls = clsXl then
    (if off = 0x100 || off = 0x120 || off = 0x128 then some true
     else if off = 0x134 || off = 0x140 then some false else none)
  else if cls = clsPort then
    (if off = 0x108 then some true else if off = 0x128 || off = 0x138 then some false
     else if inst = 0 && 0x400 ≤ off && off < 0x840 then
      (let k := (off - 0x400) % 0x40
       if k = 8 || k = 0x10 then some true else if k = 0x20 then some false else none)
     else none)
  else if cls = clsLink then
    (if off = 0x110 || off = 0x118 || off = 0x120 || off = 0x138 || off = 0x140 || off = 0x148 then some false else none)
  else if cls = clsRank then
    (if 0x120 ≤ off && off < 0x1A0 && (off - 0x120) % 0x20 = 0x10 then some false else none)
  else if cls = clsCf then
    (if inst = 12 then (if off = 0x130 || off = 0x138 || off = 0x140 || off = 0x148 then some false else none)
     else if off = 0x104 then some false else none)
  else if cls = clsWeir then
    (if off = 0x140 then some true else if off = 0x150 || off = 0x158 then some false else none)
  else if cls = clsPitch then (if off = 0x120 then some false else none)
  else if cls = clsTime then
    (if off = 0x110 || off = 0x128 then some true else if off = 0x108 || off = 0x140 then some false else none)
  else if cls = clsBg then (if 0x400 ≤ off && off < 0x608 && (off - 0x400) % 8 = 0 then some false else none)
  else if cls = clsCe then (if (off = 0x108 || off = 0x120) && inst < 0x100 then some true else none)
  else if cls = clsPcie then (if off = 0x120 || off = 0x128 then some false else none)
  else if cls = clsCairn then
    (if off = 0x108 || off = 0x110 || off = 0x118 || off = 0x180 then some false else if off = 0x170 then some true else none)
  else none

end Sys2Proof.Machine
end

