-- ==== Sys2Proof/Machine/State.lean ====
section
/-! DEFINITION. The state of the module as plain data: every register, memory, queue, counter and mode that the spec gives it,
and the queue of commands that wait. `State.reset` is the module right after a power-on reset has begun (R521, R526). -/

namespace Sys2Proof.Machine

/-! ## Rills (02) -/

/-- SLOT_STATE (R31). -/
inductive SlotState where
  | free | ready | waiting | faulted
  deriving DecidableEq, Repr

/-- What a WAITING slot waits for (R31). -/
inductive WaitFor where
  | nothing
  | racq (q gd : Nat)
  | recv (tag gd : Nat)
  | waitev (mask gd : Nat)
  | fence
  | yield (untilCycle : Nat)
  deriving DecidableEq, Repr

/-- A task slot (R23). `acks` are the STP64 and SEND packets not acknowledged, `loads` the LDP64 reads not answered, each with
the register it fills (R46, R130); `exiting` is EXIT with work in flight (R35); `issuedAt` is one more than the cycle of the slot's last
issue, 0 before its first, and `gready` the cycle from which a register that a load fills may be used (R26, R32). -/
structure Slot where
  pc : W32
  g : AMap W64
  event : W16
  st : SlotState
  wait : WaitFor
  fault : W16
  lastRetire : Nat
  draw : W64
  acks : List Nat
  loads : List (Nat × Nat)
  exiting : Bool
  issuedAt : Nat
  gready : AMap Nat
  deriving DecidableEq, Repr

/-- An operation in the tensor or vector unit (R34): the issuing slot, its PC, the instruction word, the scalar operands read
at issue, the slot's draw counter before the operation's draws and STEP at issue (R88, R89, R95; log 142). -/
structure UnitOp where
  slot : Nat
  pc : W32
  word : W64
  s1 : W64
  s2 : W64
  draw : W64
  step : W64
  deriving DecidableEq, Repr

/-- An entry of the receive ring (R50, R51): offset from RX_BASE, bytes, whether it is a pad, its TAG, LEN, the slot that
obtained it by RECV, and whether it is freed. -/
structure RxEntry where
  off : Nat
  size : Nat
  pad : Bool
  tag : Nat
  len : Nat
  holder : Option Nat
  freed : Bool
  deriving DecidableEq, Repr

/-- A stream descriptor (R140). -/
structure Desc where
  dir : Nat
  farKind : Nat
  ringSlots : Nat
  prefetch : Nat
  outstanding : Nat
  ferry : Nat
  evt : Nat
  memEp : Nat
  tileLen : Nat
  sliceLen : Nat
  nearAddr : Nat
  statAddr : Nat
  count : Nat
  inner : Nat
  up : Nat
  down : Nat
  farBase : Nat
  farStride : Int
  farStride2 : Int
  farArg : Nat
  deriving DecidableEq, Repr

/-- One arm of a queue: the tile at which it starts, its descriptor and the slot whose SARM or SREARM made it (R156, R157). -/
structure Arm where
  first : Nat
  desc : Desc
  slot : Nat
  deriving DecidableEq, Repr

/-- A transfer in flight of a queue: the packet's identity and the tile (R138, R139). -/
structure Flight where
  xid : Nat
  tile : Nat
  deriving DecidableEq, Repr

/-- An acquired ring slot: tile, task slot, released or not (R154). -/
structure Acq where
  tile : Nat
  slot : Nat
  released : Bool
  deriving DecidableEq, Repr

/-- A stream queue (R143-R157): state code and pending bits as in BLOCK_STATE, the arms in force (oldest first; the last one
issues), the latched start, the pending re-arm, the four tile counts of R150, the number of SARMs accepted (R164), the code of
the last fault, tiles filled above FILLED, ring slots acquired, transfers in flight, the credit limit and arm number that the
queue's DOWN has granted (R164, R168), whether the endpoint has been sent the close (R228, R249), and the cycle at which STARTING
began (R145). A push queue's ISSUED is the credit limit that it last sent (R164). -/
structure Queue where
  st : Nat
  pendOn : Bool
  pendOff : Bool
  arms : List Arm
  latched : Option (Desc × Nat)
  rearm : Option (Desc × Nat)
  issued : Nat
  filled : Nat
  acquired : Nat
  released : Nat
  armNo : Nat
  code : Nat
  early : List Nat
  acqs : List Acq
  flights : List Flight
  credit : Nat
  srcArm : Option Nat
  closeSent : Bool
  startedAt : Nat
  deriving DecidableEq, Repr

/-- A trickle transfer in flight (R159): packet identity, the task slot that issued it and its descriptor. -/
structure Trickle where
  xid : Nat
  slot : Nat
  desc : Desc
  deriving DecidableEq, Repr

/-- A fabric packet (R44): header fields, payload, what its flits' sideband carries of the packet as a whole (R99): the POISON and ABORT marks and
the waypoint `way` (`Packet.sideband` gives the rest); whether HCHK matches, the identity by which an answer finds the transfer entry it belongs
to (R138; log 8), and whether it is a MSG that waits in the fabric for ring room (R49). -/
structure Packet where
  edge : Bool
  dcol : Nat
  drow : Nat
  srcEdge : Bool
  scol : Nat
  srow : Nat
  kind : Nat
  resp : Bool
  pool : Bool
  poison : Bool
  ackReq : Bool
  len : Nat
  tag : Nat
  slot : Nat
  ctx : Nat
  addr : Nat
  epoch : Nat
  age : Nat
  arg : Nat
  payload : List Byte
  hchkOk : Bool
  xid : Nat
  way : Nat × Nat
  abort : Bool
  waits : Bool
  deriving DecidableEq, Repr

/-- A rill (R24, R29): task slots, tensor registers with their scale side-bands, ownership, the two units, the receive ring,
control registers and the stream engine; `failed` tells that the rill issues nothing (R371), `routerFailed` and `poolRouterFailed` that its
router on the compute mesh or the pool mesh does not work (R105); `residueMark` is the EPOCH under which the last RESIDUE fault came, `wdFaults`
are the TASK_WD faults (slot, PC, EPOCH) that a replay may repeat (R96, R57); `ballastFails` failed ballast checks (R421), `errTimes`
uncorrectable errors of its memories, `linkErrTimes` and `poolErrTimes` those of its routers on the compute mesh and the pool mesh (R369); `lastIssue` is the cycle of the last issue, `tready` the cycle from which a tensor register that TLD
fills may be used, and `roomAt` the cycle in which a place of a unit became free last (R32, R53); `wd` the cycle up to which the rill watchdog
has counted and its count (R53). -/
structure Rill where
  slots : AMap Slot
  t : AMap (List Byte)
  side : AMap (List Byte)
  own : AMap Nat
  tensorQ : List UnitOp
  vectorQ : List UnitOp
  rxBase : Nat
  rxLen : Nat
  rxWr : Nat
  rxRd : Nat
  rx : List RxEntry
  epoch : Nat
  ctx : Nat
  step : W64
  taskWd : W64
  failed : Bool
  routerFailed : Bool
  poolRouterFailed : Bool
  residueMark : Option Nat
  ballastFails : List Nat
  wdFaults : List (Nat × Nat × Nat)
  errTimes : List Nat
  linkErrTimes : List Nat
  poolErrTimes : List Nat
  lastIssue : Nat
  tready : AMap Nat
  roomAt : Nat
  wd : Nat × Nat
  queues : AMap Queue
  trickles : List Trickle
  deriving DecidableEq, Repr

/-- A slot before any image is loaded (log 2). -/
def Slot.init : Slot :=
  { pc := 0, g := [], event := 0, st := .free, wait := .nothing, fault := 0, lastRetire := 0, draw := 0, acks := [], loads := [],
    exiting := false, issuedAt := 0, gready := [] }

/-- A descriptor of zeros. -/
def Desc.zero : Desc :=
  { dir := 0, farKind := 0, ringSlots := 0, prefetch := 0, outstanding := 0, ferry := 0, evt := 0, memEp := 0, tileLen := 0,
    sliceLen := 0, nearAddr := 0, statAddr := 0, count := 0, inner := 0, up := 0, down := 0, farBase := 0, farStride := 0,
    farStride2 := 0, farArg := 0 }

/-- A stream queue that is OFF. -/
def Queue.init : Queue :=
  { st := 0, pendOn := false, pendOff := false, arms := [], latched := none, rearm := none, issued := 0, filled := 0,
    acquired := 0, released := 0, armNo := 0, code := 0, early := [], acqs := [], flights := [], credit := 0, srcArm := none,
    closeSent := false, startedAt := 0 }

/-- A rill before any image is loaded (log 2). -/
def Rill.init : Rill :=
  { slots := [], t := [], side := [], own := [], tensorQ := [], vectorQ := [], rxBase := 0, rxLen := 0, rxWr := 0, rxRd := 0,
    rx := [], epoch := 0, ctx := 0, step := 0, taskWd := 0, failed := false, routerFailed := false,
    poolRouterFailed := false, residueMark := none, ballastFails := [], wdFaults := [], errTimes := [], linkErrTimes := [], poolErrTimes := [],
    lastIssue := 0, tready := [], roomAt := 0, wd := (0, 0), queues := [], trickles := [] }

/-! ## Time (04 R119, 13 R437) -/

/-- The fabric cycle count and Site Time in ns (R119, R437). -/
structure Clock where
  cycle : Nat
  now : Nat
  deriving DecidableEq, Repr

/-! ## The Cairn (17) -/

/-- A Cairn record (R539). `items` are (ID, value bytes) in order; the header fields are those of R539. -/
structure CairnRec where
  sev : Nat
  flags : Nat
  code : Nat
  cls : Nat
  inst : Nat
  utc : Nat
  ctx : Nat
  seq : Nat
  stamp : Nat
  items : List (Nat × List Byte)
  deriving DecidableEq, Repr

/-- The Cairn stores and engine (R542-R551): buffer and flash cells in rising SEQ, how many flash cells are retired, the ceiling, whether a flush
runs, and the read in progress (RD_SEQ, RD_MIN_SEV). -/
structure CairnSt where
  buf : List CairnRec
  flash : List CairnRec
  retired : Nat
  ceiling : Nat
  flushing : Bool
  reading : Option (Nat × Nat)
  deriving DecidableEq, Repr

/-! ## Command engines (14) -/

/-- A completion record (R472) that waits or is posted. -/
structure Completion where
  seq : Nat
  code : Nat
  opcode : Nat
  kind : Nat
  handle : Nat
  progress : Nat
  result : List Byte
  deriving DecidableEq, Repr

/-- An open long operation (R481). `state` is 0 RUNNING, 1 SUSPEND_PENDING, 2 SUSPENDED, 3 CANCEL_PENDING; `byDeadline` tells which
code a cancel carries (R483, R484); `cmd` is the slot as taken; `reportAt` the time of the last PROGRESS; `progress` its PROGRESS
field; `started` that the point after which its cancellation rule refuses has been passed (R485); `mark` the OPN of the first operation that a
FUSED_RUN does not start, the positions that a SELF_TEST has reported, or the phase of a FW_UPDATE (0 transfer, 1 flash writing, 2 restart); `units` the stacks that a WIPE writes, or the entries of a
REGION_REMAP. -/
structure LongOp where
  handle : Nat
  opcode : Nat
  seq : Nat
  state : Nat
  deadline : Option Nat
  byDeadline : Bool
  cmd : List Byte
  reportAt : Nat
  progress : Nat
  started : Bool
  mark : Nat
  units : List Nat
  deriving DecidableEq, Repr

/-- The command engine of a context: waiting DONE, ACCEPTED and PROGRESS records and waiting EVENT records in order (R474), the
pass of the ring (R472), open long operations, the handle given out last, the time of the last MSI-X message and whether one is
owed (R486); `stopWaits` counts the records that the STOPPING page waits for (R488). -/
structure Engine where
  waiting : List Completion
  pass : Bool
  ops : List LongOp
  lastHandle : Nat
  lastMsi : Option Nat
  owesMsi : Bool
  stopWaits : Nat
  deriving DecidableEq, Repr

/-- An engine after reset. -/
def Engine.init : Engine :=
  { waiting := [], pass := true, ops := [], lastHandle := 0, lastMsi := none, owesMsi := false, stopWaits := 0 }

/-- A message that the module sends out of the package, in the order sent (the outside world reads it; nothing in the module
does). -/
inductive OutMsg where
  | msix (fn vec addr data : Nat)
  | datagram (port : Nat) (d : Dgram)
  | icmp (port : Nat) (vlan : Option Nat) (body : List Byte)
  | hostRead (addr len : Nat)
  | readData (fn : Nat) (bytes : List Byte)
  | spdm (doe : Bool) (bytes : List Byte)
  | codeword (link : Nat) (lanes : Lanes)
  | train (link : Nat) (f : TrainFlit)
  deriving DecidableEq, Repr
/-! ## Memory endpoints and translation (06) -/

/-- A TLB entry (R199): translation unit, context, first virtual address, log2 of the page size, stack set, first set address, RD
and WR, and the level of its leaf (for R588). -/
structure Tlb where
  unit : Nat
  ctx : Nat
  va : Nat
  ps : Nat
  set : Nat
  base : Nat
  level : Nat
  rd : Bool
  wr : Bool
  deriving DecidableEq, Repr

/-- A walk cache entry (R199): unit, context, level 4 to 1, the address bits above the level's span, and the entry. -/
structure WalkEnt where
  unit : Nat
  ctx : Nat
  level : Nat
  idx : Nat
  word : Nat
  deriving DecidableEq, Repr

/-- A request in a memory endpoint (R163): 0 it awaits its translation, `walk` being the address whose walk is in progress for it (R199), 1 it awaits the stack, 2 it awaits a pool's answer, 3 its pool
data await the stack, 4 it has failed and awaits its turn. `segs` are (position, stack offset, bytes), `old` that an invalidation waits
for its answer, and `walkOld` that one waits for the end of its walk (R202). -/
structure MemReq where
  pkt : Packet
  stage : Nat
  segs : List (Nat × Nat × Nat)
  code : Nat
  poison : Bool
  data : List Byte
  xid : Nat
  old : Bool
  walk : Option Nat
  walkOld : Bool
  deriving DecidableEq, Repr

/-! ## Headwater (07) -/

/-- An open FETCH (R230, R233): its first frame and how many it asks for, those not received, the time of the FETCH or of its last DATA, and the
attempts without progress. -/
structure Fetch where
  first : Nat
  count : Nat
  left : List Nat
  last : Nat
  attempts : Nat
  deriving DecidableEq, Repr

/-- A stream at a Headwater endpoint or at the host chiplet (R227-R235): the port that carries it (32 the host chiplet), its stream
slot, which is its REQ, the rill's queue, the arm number, the descriptor in force and the tile at which its arm starts, a re-arm
not yet taken up, the open request while it is held, the claim (layer, GEN), the credit limit, the tiles pushed or written, the
frames held, the FETCHes not yet answered in full, the frames that failed authentication once, and whether the stream has faulted. -/
structure HwStream where
  port : Nat
  slot : Nat
  col : Nat
  row : Nat
  q : Nat
  ctx : Nat
  arm : Nat
  desc : Desc
  first : Nat
  rearm : Option Desc
  openP : Packet
  held : Bool
  heldRearm : Bool
  claim : Option (Nat × Nat)
  credit : Nat
  done : Nat
  frames : AMap (List Byte)
  fetches : List Fetch
  bad : List Nat
  failed : Bool
  deriving DecidableEq, Repr

/-- A gradient frame (R236-R238): what it is, the bytes written so far, whether it is sent, and its retries. `index` is the frame's
index in its object, `server`, `ip` and `udp` the ports that reach the server and its address, `body` the frame as it was sealed when it was first
sent, `req` and `session` those of its last GRAD. -/
structure Grad where
  ctx : Nat
  step : Nat
  seq : Nat
  layer : Nat
  rank : Nat
  port : Nat
  req : Nat
  object : Nat
  index : Nat
  gen : Nat
  server : Nat
  ip : List Byte
  udp : Nat
  len : Nat
  bytes : List Byte
  body : List Byte
  cover : List (Nat × Nat)
  sent : Bool
  attempts : Nat
  last : Nat
  session : Nat
  deriving DecidableEq, Repr

/-- An open key request (R224): decapsulation key, MODULE_NONCE and the digest of the whole key request. -/
structure KeyReq where
  dk : List Byte
  nonce : List Byte
  digest : List Byte
  deriving DecidableEq, Repr

/-! ## The op sequencer and posts (08, 09, 10) -/

/-- An operation that has been read and is not complete (R258): the stages are 0 WAITING, 1 ADMITTED, 2 STARTED, 3 COMPUTE_DONE.
`cin` are (source, offset, bytes) of the contributions that arrived, `inp` their bytes (key: source * 2^33 + offset), `unconsumed`
the contributions not yet acknowledged (R338); `got`, `gotMem` the same for the bytes that other members sent (key: member * 2^40 +
offset); `limits` the latest GRANT of each member, `granted` the last one given to each, `sent` the (member, offset) of the chunks
sent, `dones` the members whose done chunk came, `toSend` and `counts` the ALL_TO_ALLV counts sent and received, `outDone` the output chunks written,
`outAcks` the pool writes not answered; `own` and `twin` the digests of R356 (`own` with the time at which each was computed); `rot` the rotation of R289 in progress; `lost` the rank waited on when a member was lost (R320); `ticket` its
place in the order of reservation requests (R347); `held` how many lines the in-module, x, y and z stages hold (R359); `park` the line of the
staging space in which each of them stands, for a staged post (R349). -/
structure Op where
  opn : Nat
  ticket : Nat
  desc : List Byte
  stage : Nat
  rebuild : Bool
  unacked : List Nat
  reqAt : Nat
  waiting : Bool
  home : Nat
  slots : Nat
  staged : Bool
  seq : Nat
  cin : List (Nat × Nat × Nat)
  inp : Mem
  unconsumed : List Packet
  got : List (Nat × Nat × Nat)
  gotMem : Mem
  limits : AMap Nat
  granted : AMap Nat
  sent : List (Nat × Nat)
  dones : List Nat
  toSend : List Nat
  counts : AMap Nat
  outDone : List Nat
  outAcks : List Nat
  own : AMap (Nat × Nat)
  twin : AMap (Nat × Nat)
  progress : Nat
  rot : Nat
  lost : Option Nat
  held : List Nat
  park : List ((Nat × Nat × Nat) × Nat)
  deriving DecidableEq, Repr

/-- A run list (R254): the handle of its FUSED_RUN (0 after that has ended), its address, its entries and its first OPN. -/
structure RunList where
  handle : Nat
  va : Nat
  entries : Nat
  opn0 : Nat
  deriving DecidableEq, Repr

/-- An image load that waits or runs (R480): its handle, its address and length, the OPN below which every operation must have
started, whether it has begun (R148), the image read then, and how many of its rills are loaded. -/
structure ImgLoad where
  handle : Nat
  va : Nat
  len : Nat
  after : Nat
  begun : Bool
  image : List Byte
  done : Nat
  deriving DecidableEq, Repr

/-- A commit point that waits (R378, R379): its OPN, the handle of its CHECKPOINT (0 for a LAYER_END operation), whether every operation
up to it is POST_DONE, and the gradient frames (STEP, SEQ, RANK) sent before that moment and not acknowledged. -/
structure Point where
  opn : Nat
  handle : Nat
  done : Bool
  grads : List (Nat × Nat × Nat)
  deriving DecidableEq, Repr

/-- The op sequencer of a context (R254-R264, R378): run lists kept for replay, the OPN to be read next, operations read and not complete,
the OPNs after which a step boundary falls (R382) and the last one passed, commit points that wait, image loads that wait, whether admission
is stopped, the OPN that the next list must start at and, after a CANCEL, the other one that it may start at (R255, R264), the operations
completed since the last commit point (without their data), which an ABORT may still fail (R319), and those completed before it whose twin has not
sent every DIGEST (R358). -/
structure Seqr where
  lists : List RunList
  next : Nat
  ops : List Op
  boundaries : List Nat
  step : Nat
  points : List Point
  loads : List ImgLoad
  halted : Bool
  tail : Option Nat
  alt : Option Nat
  past : List Op
  owed : List Op
  deriving DecidableEq, Repr

/-- A sequencer with nothing submitted. -/
def Seqr.init : Seqr :=
  { lists := [], next := 0, ops := [], boundaries := [], step := 0, points := [], loads := [], halted := false, tail := none,
    alt := none, past := [], owed := [] }

/-! ## Recovery (11) -/

/-- A commit record (R381): COMMIT_OPN, the OPN at which a replay starts (COMMIT_OPN + 1, or the first OPN of the run list that
followed a commit point with no operation before it), STEP, the post sequence number of each group, the replay set and the rebuild list. -/
structure CommitRec where
  opn : Nat
  next : Nat
  step : Nat
  seqs : AMap Nat
  images : List (Nat × Nat × Nat × Nat × Nat)
  rebuildVa : Nat
  rebuildN : Nat
  deriving DecidableEq, Repr

/-- The recovery state of a context that no register holds (R378-R396): the replay set (address, first and last column, first and last
row), the last commit record, the one formed at arrival at a commit barrier whose outcome is not known (R387) and whether that barrier has
succeeded, a hold that waits for that outcome (its code, and in bits 16 and 17 whether it is silent and whether OPABORTs are still to be
sent), a placement or a code that leaves the context HELD (R375, R384, R385, R389), a replay that REPLAY_MAX kept from being counted,
repairs not yet in flash, whether step 6 is passed, the rebuild list's next entry, arrivals at the barriers of which this module is member 0
(member, SEQ with bit 32 for a replay barrier, ARG2), the time of this member's arrival, the profile in force (R398), the reach of a drain
hold, when it began and whether its commit point is complete (R395), the run lists of a REGION_REMAP, and the rills whose TASK_WD fault holds
the context at its next commit point (R56); `lostRank` is the rank that a lost commit barrier waited on (R320, R380). -/
structure Rcv where
  images : List (Nat × Nat × Nat × Nat × Nat)
  commit : Option CommitRec
  formed : Option CommitRec
  won : Bool
  waitOutcome : Option Nat
  remap : Bool
  stuck : Bool
  uncounted : Bool
  repairs : Nat
  loaded : Bool
  rebuild : Option Nat
  arrivals : List (Nat × Nat × Nat)
  barrierAt : Nat
  profile : Nat
  drain : Option Nat
  drainAt : Nat
  drained : Bool
  remapLists : Option (List RunList)
  hung : List Nat
  lostRank : Option Nat
  deriving DecidableEq, Repr

/-- Recovery state after reset. -/
def Rcv.init : Rcv :=
  { images := [], commit := none, formed := none, won := false, waitOutcome := none, remap := false, stuck := false, uncounted := false,
    repairs := 0, loaded := false, rebuild := none, arrivals := [], barrierAt := 0, profile := 0, drain := none, drainAt := 0,
    drained := false, remapLists := none, hung := [], lostRank := none }

/-! ## Eztex (09) -/

/-- A stream at a torus endpoint (R305-R307). For an OUT stream to a post, `lastOff` is the last tile's offset (R339); for a
point-to-point stream, `buf` are the tiles that wait for the peer's grant, `limit` the peer's latest P2P_GRANT, `bytes` the bytes
sent, `tiles` the tiles taken from the rill or pushed to it, and `granted` the limit last granted to the peer or,
at an OUT stream, the arm number of the peer's latest P2P_GRANT. -/
structure EzStream where
  ep : Nat
  col : Nat
  row : Nat
  q : Nat
  ctx : Nat
  arm : Nat
  desc : Desc
  first : Nat
  rearm : Option Desc
  lastOff : Option Nat
  buf : List Packet
  limit : Nat
  bytes : Nat
  tiles : Nat
  granted : Nat
  deriving DecidableEq, Repr

/-- A link-control flit (R298): LC_TYPE, the last CW_SEQ accepted, the six cumulative credit counts and the sender's link EPOCH. -/
structure LcFlit where
  type : Nat
  last : Nat
  credits : List Nat
  epoch : Nat
  deriving DecidableEq, Repr

/-- A codeword sent and not acknowledged (R298): the times it was resent, and the packets with a flit in it, each by its number on the link. -/
structure TxWord where
  cw : Codeword
  resent : Nat
  pkts : List (Nat × WirePkt)
  deriving DecidableEq, Repr

/-- An Eztex link (R296-R301): the next CW_SEQ, codewords not acknowledged, packets sent so far, packets that wait for credit, LC_TYPEs of the
control flits to be sent, the flits served to the classes RED, REQ and RSP (R300), the cumulative credits of the peer and the flits sent, per
buffer of R299, the last CW_SEQ accepted (none before the first), accepted flits of a packet that is not whole yet, control flits accepted and
not yet taken, the cumulative flits freed toward the peer, codewords accepted since the last ACK_CREDIT, the peer's EPOCH, whether training has
accepted the peer, and the time at which training began. -/
structure LinkSt where
  txSeq : Nat
  unacked : List TxWord
  txCount : Nat
  wait : List WirePkt
  lcOut : List Nat
  served : List Nat
  credit : List Nat
  used : List Nat
  rxLast : Option Nat
  rxFlits : List (List Byte)
  lcIn : List LcFlit
  freed : List Nat
  sinceAck : Nat
  peerEpoch : Nat
  accepted : Bool
  startAt : Nat
  deriving DecidableEq, Repr

/-- A link before training. -/
def LinkSt.init : LinkSt :=
  { txSeq := 0, unacked := [], txCount := 0, wait := [], lcOut := [], served := [0, 0, 0], credit := [0, 0, 0, 0, 0, 0],
    used := [0, 0, 0, 0, 0, 0], rxLast := none, rxFlits := [], lcIn := [], freed := [0, 0, 0, 0, 0, 0], sinceAck := 0, peerEpoch := 0,
    accepted := false, startAt := 0 }

/-- A packet that found no ON link: the direction in which it travels, if any; `fixed` that it has taken that direction's bundle, and goes on it
(R301, R309). -/
structure HeldWire where
  pkt : WirePkt
  via : Option Nat
  fixed : Bool
  deriving DecidableEq, Repr

/-- A wire packet held at a link input (R299); `live` that the link has not left ON since, so that its flits are credited back. -/
structure RxPkt where
  link : Nat
  pkt : WirePkt
  live : Bool
  deriving DecidableEq, Repr

/-- The job-start broadcast of a job slot (R323-R326): the BCAST_SEQ seen last, the parent rank (none at the root), children that
have not answered, ranks confirmed, the status and first lost rank so far, the time at which the wait ends, whether this node has
answered, the DIGEST and EXCLUDE bitmap of the START, and at the root the handle and the bitmap that the host gave; whether an OPEN has come. -/
structure Bcast where
  seq : Nat
  parent : Option Nat
  kids : List Nat
  ok : Nat
  status : Nat
  lost : Nat
  due : Nat
  answered : Bool
  digest : List Byte
  excl : List Byte
  handle : Nat
  excl0 : List Byte
  opened : Bool
  deriving DecidableEq, Repr


/-! ## The Warden (15, 16) -/

/-- A firmware image that has passed R497: VERSION, KEY_SLOT, SVN, the boot path (0 flash, 1 PCIe fetch, 2 management fetch) and D (R496). -/
structure BootImg where
  version : Nat
  slot : Nat
  svn : Nat
  path : Nat
  digest : List Byte
  deriving DecidableEq, Repr

/-- A flash copy of the Core Map Table (R530): its generation, whether its digest matches, and the entries that differ from `cmtReset`
(register address, word). -/
structure CmtCopy where
  gen : Nat
  ok : Bool
  table : AMap W32
  deriving DecidableEq, Repr

/-! ## The whole module -/

/-- Faults: the machine stops. -/
inductive Fault where
  /-- Raised by no command: one whose operand names a unit that the module does not have changes nothing (log 9). Safe: no run stops. -/
  | noSuchUnit
  deriving DecidableEq, Repr

/-- Refusals: the model has no meaning for the command. -/
inductive Refusal where
  /-- Raised by an arm of `exec` whose meaning is not written: no arm is left so. Safe: the run would stop. -/
  | notModelled (mnemonic : String)
  deriving DecidableEq, Repr

set_option maxRecDepth 2000 in
/-- The module: everything that the spec gives it, the queue of waiting commands and three counters of the model's own. -/
structure State where
  /-- The commands that wait, first in first out (the MODEL's queue, not the spec's). -/
  pending : List Instr
  /-- The fabric cycle count and Site Time (R119, R437). -/
  clk : Clock
  /-- Every host register under its PF0 BAR0 byte address; one that is not listed holds `resetReg` (R553). -/
  regs : AMap W32
  /-- LO words written and not yet committed by their HI word (R554). -/
  staged : AMap W32
  /-- HI words captured by a read of their LO word; key function * 2^32 + address (R554). -/
  captured : AMap W32
  /-- The command slots; key context * 2^14 + byte (R465, R467). -/
  slotMem : Mem
  /-- The rill stores; key rill * 2^16 + byte (R26). -/
  store : Mem
  /-- The pools; key rill * 2^16 + byte (R126). -/
  pool : Mem
  /-- The stacks; key position * 2^37 + byte (R178). -/
  stack : Mem
  /-- Host memory, which the module reads and writes over PCIe (R471). -/
  host : Mem
  /-- Poisoned 64 B lines of the rill stores (R28). -/
  storePoison : List Nat
  /-- Poisoned lines of the pools (R130). -/
  poolPoison : List Nat
  /-- Poisoned lines of the stacks (R186). -/
  stackPoison : List Nat
  /-- The rills that differ from `Rill.init` (R23). -/
  rills : AMap Rill
  /-- Fabric packets in flight, in order of injection (R44). -/
  net : List Packet
  /-- The MODEL's next packet identity (log 8). -/
  nextXid : Nat
  /-- The Cairn stores and engine (R542-R551). -/
  cairn : CairnSt
  /-- The command engines (R468-R474). -/
  ce : AMap Engine
  /-- The MSI-X tables: address, data, masked; key function * 128 + vector (R463). -/
  msix : AMap (Nat × Nat × Bool)
  /-- The pending bits, under the same keys (R486). -/
  msixPend : List Nat
  /-- The time of the last message for a Cairn event (R487). -/
  lastEvtMsi : Option Nat
  /-- What the module has sent out of the package, in order. -/
  out : List OutMsg
  /-- The MODEL's counter of free values (log 1). -/
  freeCtr : Nat
  /-- Functions whose MSI-X is masked as a whole (PCIe configuration space, log 75). -/
  msixFnMask : List Nat
  /-- Payload bytes that a gauge counts once the chunk boundary before them has been made; key endpoint * 8 + gauge (R177). -/
  gaugePend : AMap (List Byte)
  /-- Gauges whose chunk boundary is due, under the same keys (R177). -/
  gaugeDue : List Nat
  /-- Requests in the memory endpoints (R163). -/
  memReqs : List MemReq
  /-- TLB entries of the translation units (R199). -/
  tlb : List Tlb
  /-- Walk-cache entries (R199). -/
  walkCache : List WalkEnt
  /-- Streams at Headwater endpoints (R227). -/
  hws : List HwStream
  /-- Gradient frames in assembly or not yet acknowledged (R236). -/
  grads : List Grad
  /-- Datagrams that wait at a port whose link partner pauses the priority (R214), oldest first. -/
  hwWait : List (Nat × Dgram)
  /-- Manifests bound or being bound; key context * 2 + slot (R223). -/
  hwMan : AMap (List Byte)
  /-- Manifest slots whose binding is in progress, same keys (R223). -/
  hwBinding : List Nat
  /-- Content keys unwrapped from manifests, same keys (R224). -/
  hwKeys : AMap (List Byte)
  /-- Open key requests of the contexts (R224). -/
  keyReqs : AMap KeyReq
  /-- When a Headwater port last left ON (R215). -/
  portLeft : AMap Nat
  /-- Contexts whose FRONT_GO has been written in the swap that runs (R242, R243). -/
  frontGo : List Nat
  /-- The op sequencers (R254). -/
  seqrs : AMap Seqr
  /-- The next post sequence number of each group (R273, R316). -/
  postSeq : AMap Nat
  /-- The recovery state of the contexts (R378-R396). -/
  rcvs : AMap Rcv
  /-- Failed positions whose swap or hole is not in effect yet: position (907,200 above its segment's first rill for an idle one), cause, and
  whether it needs no swap but only the firmware (R364, R370, R371). -/
  failing : List (Nat × Nat × Bool)
  /-- Streams at torus endpoints (R305). -/
  ezs : List EzStream
  /-- The Eztex links that differ from `LinkSt.init` (R296-R299). -/
  links : AMap LinkSt
  /-- Wire packets held at link inputs (R299). -/
  rx : List RxPkt
  /-- Packets and grants that came before the stream or post they belong to (R307, R317; log 48). -/
  early : List WirePkt
  /-- Keys of the wire packets accepted (R301), and of the posts that have ended (JOB_ID, GROUP, SEQ), each with the time until which it is
  remembered where its post, arm or barrier has ended (R302). -/
  keys : List (List Nat × Option Nat)
  /-- Job-start broadcasts, by job slot (R323). -/
  bcasts : AMap Bcast
  /-- When each group last became invalid (R333). -/
  groupInvalid : AMap Nat
  /-- The last check failure of each adder unit in a context: key (chiplet * 2 + unit) * 17 + context, value the RILL_EPOCH then (R354). -/
  adderFails : AMap Nat
  /-- Packets that found no ON link (R301, R309). -/
  wireHold : List HeldWire
  /-- Since when each bundle has had no credit in each class: key 3 * direction + class (R311). -/
  starved : AMap Nat
  /-- Times of uncorrectable errors of each stack within the last second (R188). -/
  stackErrs : AMap (List Nat)
  /-- The shape of each group as it was validated (R340). -/
  shapes : AMap (Nat × Nat × Nat)
  /-- The reach that rotates next (R394). -/
  wearNext : Nat
  /-- When the next wear rotation is due (R394). -/
  wearDue : Nat
  /-- Segments of the rotation in progress that have not moved yet (R394, R395). -/
  wearSegs : List Nat
  /-- The input stage: 0 open, 1 charging, 2 closed with the bus good, 3 on the hold-up store after power fail (R403, R405, R536). -/
  inputStage : Nat
  /-- When the 6 V bus became good (R526). -/
  stageAt : Nat
  /-- The input voltage last sampled, in mV (R403). -/
  vinMv : Nat
  /-- The ideal-diode stage is open (R404, R535). -/
  diodeOpen : Bool
  /-- The word that the strap pins show (R519, R583). -/
  strapPins : Nat
  /-- The Weir's setpoint S in mW (R419). -/
  weirS : Nat
  /-- S has been set by a first frame (R419; log 91). -/
  weirSet : Bool
  /-- B_up, in mW (R423). -/
  weirUp : Nat
  /-- B_down, in mW (R423). -/
  weirDown : Nat
  /-- The flag rest (R423). -/
  weirRest : Bool
  /-- The count of frames below S (R423). -/
  weirBelow : Nat
  /-- Envelope registers written and not yet in force (R431). -/
  weirPend : AMap Nat
  /-- The last Weir frame boundary (R418). -/
  weirAt : Option Nat
  /-- Input energy in nJ that the whole-joule counter does not show (R432). -/
  weirNj : Nat
  /-- The same for ballast energy (R432). -/
  ballNj : Nat
  /-- The same for each pitch (R434). -/
  ptNj : AMap Nat
  /-- The Levee start: 0 not due, 1 waiting, 2 admitted (R524). -/
  leveeStart : Nat
  /-- Pitches that wait for the Weir's admission, in order (R427). -/
  pitchWait : List Nat
  /-- When the Weir admitted each pitch's start or stop (R412, R413). -/
  pitchRun : AMap Nat
  /-- Contexts in a drain hold for a pitch stop (R410). -/
  pitchHeld : List Nat
  /-- Pitches whose rail is tested before a start from ISOLATED (R417). -/
  railTest : List Nat
  /-- Pitches whose rail has been off since they were last ON (R412). -/
  unpowered : List Nat
  /-- Pitches whose junction throttles them (R415). -/
  hotPitches : List Nat
  /-- STATE and CAUSE that a rill's map entry had when its pitch was isolated (R416). -/
  isoKept : List (Nat × Nat × Nat)
  /-- Isolations that the map does not show yet, firmware being away (R416). -/
  isoPend : List Nat
  /-- Pitches that have started while firmware was away: their map entries, dead regions and rejoin checks wait for it (R412, R416). -/
  startPend : List Nat
  /-- A pitch's return has changed the Core Map Table, and flash does not hold the change yet: the contexts stay held (R367, R393). -/
  cmtDue : Bool
  /-- Pitches whose start-up test runs (R529). -/
  testing : List Nat
  /-- Since when firmware has been away (R428). -/
  wardenGone : Option Nat
  /-- Pitches whose stale rills a context must reload before they serve it (R393). -/
  staleWait : List (Nat × Nat)
  /-- Firmware runs (R497, R500). -/
  fwUp : Bool
  /-- What the Weir does within its frame: 0 nothing, 1 throttles, 2 ballasts (R420, R421). -/
  weirAct : Nat
  /-- The instant of the last comparison within the Weir frame, and the energy in mJ drawn in the frame by then (R419). -/
  weirDrawn : Nat × Nat
  /-- The instant at which a time step cuts the Weir frame (R454). -/
  weirCut : Option Nat
  /-- A gate instant lies among the grains that this step skipped: it takes effect where Site Time lands (R454). -/
  weirSkip : Bool
  /-- Since when no Weir frame has run: the next one begins at the first boundary from then on (R418, R454). -/
  weirFrom : Nat
  /-- The acquisition has taken no measurement yet (R442). -/
  tmFirst : Bool
  /-- Successive measurements within LOCK_LIMIT (R443). -/
  tmIn : Nat
  /-- Successive measurements beyond eight times LOCK_LIMIT (R443). -/
  tmOut : Nat
  /-- The source is lost (R443). -/
  tmLost : Bool
  /-- When holdover began (R443, R444). -/
  holdAt : Nat
  /-- The last PPS edge (R440). -/
  ppsLast : Option Nat
  /-- Site Time of the second that the last PPS edge marked (R440). -/
  ppsMark : Nat
  /-- TIME_SET and when it was written, for the PPS edge that takes it (R440). -/
  ppsSet : Option (Nat × Nat)
  /-- The entries of the background slot table in force that differ from the reset table (R447, R448). -/
  bgTable : AMap Nat
  /-- The table that APPLY has captured (R452; log 95). -/
  bgNext : Option (AMap Nat)
  /-- The last background slot boundary (R446). -/
  slotAt : Option Nat
  /-- The firmware image in flash (R496). -/
  fwFlash : List Byte
  /-- The image in the Warden's staging memory, verified and to be written to flash (R500). -/
  fwStage : List Byte
  /-- The boot ROM takes no image from flash (R499). -/
  fwFail : Bool
  /-- The image that the boot ROM has verified and is starting (R497, R498). -/
  boot : Option BootImg
  /-- The image that runs (R518). -/
  running : Option BootImg
  /-- Times of Warden restarts within the last minute (R502). -/
  restarts : List Nat
  /-- The boot ROM fetches an image from outside (R499). -/
  fetching : Bool
  /-- When that fetch began or last moved (R499). -/
  fetchAt : Nat
  /-- LC_COUNT at the last wipe of the owner's data, as flash records it (R513, R514). -/
  wipedN : Nat
  /-- The life-cycle state being entered (R513). -/
  lcPend : Option Nat
  /-- The partition record in flash (R491). -/
  ptRecord : List Byte
  /-- The owner's certificate chain (R505). -/
  ownerChain : List Byte
  /-- The private key that the identity region of flash holds, sealed (R504, R514). -/
  identity : Option (List Byte)
  /-- The management settings in the Data region of flash (R514). -/
  mgmt : List Byte
  /-- The Core Map Table's first copy in flash (R367, R530). -/
  cmtA : CmtCopy
  /-- Its second copy (R530). -/
  cmtB : CmtCopy
  /-- Neither copy was valid: the map in use is provisional (R531). -/
  cmtFresh : Bool
  /-- A warm reset that waits for READY (R534). -/
  warmHeld : Option Nat
  /-- When the warm reset in progress began (R533). -/
  warmAt : Option Nat
  /-- The Warden's standby core is being tested (R503). -/
  coreTest : Bool
  /-- The mailbox request: opcode, MB_ADDR, MB_LEN and MB_ARG as at GO (R570). -/
  mbReq : List Nat
  /-- SPDM requests answered before, each with its transport: PCIe DOE since the host link came up, or MCTP (R506). -/
  spdmHist : List (Bool × List Byte)
  /-- The addresses that a selective IDE stream covers: first and last (R509). -/
  ideSel : AMap (Nat × Nat)
  /-- PERST# is low (R583). -/
  perstLow : Bool
  /-- The coolant's inlet and outlet temperatures and flow as last read (R585). -/
  coolant : Nat × Nat × Nat
  /-- Pool lines whose merge window may be open, with the cycle at which the array read began (R131). -/
  lineReads : List (Nat × Nat)
  deriving DecidableEq, Repr

/-- The module right after a power-on reset has begun: the input stage is open, no bus is good, nothing is loaded (R521, R526);
memories read 0, registers hold their reset values. -/
def State.reset : State :=
  { pending := [], clk := { cycle := 0, now := 0 }, regs := [], staged := [], captured := [], slotMem := [], store := [],
    pool := [], stack := [], host := [], storePoison := [], poolPoison := [], stackPoison := [], rills := [], net := [],
    nextXid := 0, cairn := { buf := [], flash := [], retired := 0, ceiling := 0x100000, flushing := false, reading := none },
    ce := [], msix := [], msixPend := [], lastEvtMsi := none, out := [],
    msixFnMask := [],
    gaugePend := [],
    gaugeDue := [],
    memReqs := [],
    tlb := [],
    walkCache := [],
    hws := [],
    hwWait := [],
    grads := [],
    hwMan := [],
    hwBinding := [],
    hwKeys := [],
    keyReqs := [],
    portLeft := [],
    frontGo := [],
    seqrs := [],
    postSeq := [],
    rcvs := [],
    failing := [],
    ezs := [],
    links := [],
    rx := [],
    early := [],
    keys := [],
    bcasts := [],
    groupInvalid := [],
    adderFails := [],
    wireHold := [],
    starved := [],
    stackErrs := [],
    shapes := [],
    wearNext := 0,
    wearDue := 0,
    wearSegs := [],
    inputStage := 0,
    stageAt := 0,
    vinMv := 0,
    diodeOpen := false,
    strapPins := 0,
    weirS := 0,
    weirSet := false,
    weirUp := 30000000,
    weirDown := 30000000,
    weirRest := true,
    weirBelow := 0,
    weirPend := [],
    weirAt := none,
    weirNj := 0,
    ballNj := 0,
    ptNj := [],
    leveeStart := 0,
    pitchWait := [],
    pitchRun := [],
    pitchHeld := [],
    railTest := [],
    unpowered := (List.range 252),
    hotPitches := [],
    isoKept := [],
    isoPend := [],
    startPend := [],
    cmtDue := false,
    testing := [],
    wardenGone := none,
    staleWait := [],
    fwUp := false,
    weirAct := 0,
    weirDrawn := (0, 0),
    weirCut := none,
    weirSkip := false,
    weirFrom := 0,
    tmFirst := true,
    tmIn := 0,
    tmOut := 0,
    tmLost := false,
    holdAt := 0,
    ppsLast := none,
    ppsMark := 0,
    ppsSet := none,
    bgTable := [],
    bgNext := none,
    slotAt := none,
    fwFlash := [],
    fwStage := [],
    fwFail := false,
    boot := none,
    running := none,
    restarts := [],
    fetching := false,
    fetchAt := 0,
    wipedN := 2,
    lcPend := none,
    ptRecord := [],
    ownerChain := [],
    identity := some Config.identityKey, mgmt := [],
    cmtA := { gen := 1, ok := true, table := [] },
    cmtB := { gen := 0, ok := true, table := [] },
    cmtFresh := false,
    warmHeld := none,
    warmAt := none,
    coreTest := false,
    mbReq := [],
    spdmHist := [], ideSel := [],
    perstLow := false,
    coolant := (0, 0, 0),
    lineReads := [],
    freeCtr := 0 }

end Sys2Proof.Machine
end

