-- ==== Sys2Proof/Machine/Ops.lean ====
section
/-! DEFINITION. The named operations over State that every family uses: registers and page headers (18), the clocks, the Cairn
engine (17), MSI-X messages and completion records (14), rills, memories with their poison bits, and free values. -/

namespace Sys2Proof.Machine

/-! ### Condition codes (R10) -/

abbrev cOk : Nat := 0x0000
abbrev cMalformed : Nat := 0x0101
abbrev cSuspended : Nat := 0x0102
abbrev cCancelled : Nat := 0x0103
abbrev cDeadline : Nat := 0x0104
abbrev cCollMismatch : Nat := 0x0201
abbrev cCollMemberLost : Nat := 0x0202
abbrev cCollCheckFail : Nat := 0x0203
abbrev cResidueFail : Nat := 0x0204
abbrev cReduceFallback : Nat := 0x0205
abbrev cWeightAuthFail : Nat := 0x0301
abbrev cWeightGenStale : Nat := 0x0302
abbrev cShardRange : Nat := 0x0303
abbrev cCoreRemapped : Nat := 0x0401
abbrev cRegionLost : Nat := 0x0402
abbrev cReplayDone : Nat := 0x0403
abbrev cHoleCreated : Nat := 0x0404
abbrev cPoisonFault : Nat := 0x0405
abbrev cPowerIsolated : Nat := 0x0501
abbrev cWeirLimit : Nat := 0x0502
abbrev cTimeUnlocked : Nat := 0x0601
abbrev cTimeHoldover : Nat := 0x0602
abbrev cStaleEpoch : Nat := 0x0701
abbrev cAuthFail : Nat := 0x0801
abbrev cLifecycleWipe : Nat := 0x0802

/-! ### Guards -/

/-- An event whose precondition does not hold cannot occur: nothing changes (log 9). -/
def whenB (g : Bool) (s : State) (f : State → State) : Host.Outcome State Fault Refusal :=
  if g then .next (f s) else .next s

/-- An event of a unit: a command that names no unit of the module has nothing to act on and changes nothing (R566; log 9). -/
def onUnit (ok g : Bool) (s : State) (f : State → State) : Host.Outcome State Fault Refusal :=
  if ok && g then .next (f s) else .next s

/-- A row of a unit: a command that names no unit of the module changes nothing (R566; log 9). -/
def unitRow (ok : Bool) (s : State) (o : Host.Outcome State Fault Refusal) : Host.Outcome State Fault Refusal :=
  if ok then o else .next s

/-- An optional effect: where the precondition fails there is none. -/
def whenSome {α : Type} (o : Option α) (s : State) (f : α → State → State) : Host.Outcome State Fault Refusal :=
  match o with
  | some x => .next (f x s)
  | none => .next s

/-! ### Registers -/

/-- The 32-bit register at a PF0 BAR0 byte address. -/
def State.reg (s : State) (a : Nat) : W32 := look (resetReg a) s.regs a
/-- A register set. -/
def State.setReg (s : State) (a : Nat) (v : W32) : State := { s with regs := put s.regs a v }
/-- A register as a number. -/
def State.regN (s : State) (a : Nat) : Nat := (s.reg a).toNat
/-- A register set from a number. -/
def State.setRegN (s : State) (a v : Nat) : State := s.setReg a (BitVec.ofNat 32 v)
/-- A field of a register. -/
def State.regF (s : State) (a lo n : Nat) : Nat := fld (s.reg a) lo n
/-- A field of a register set. -/
def State.setF (s : State) (a lo n v : Nat) : State := s.setReg a (setFld (s.reg a) lo n v)
/-- A one-bit field. -/
def State.regB (s : State) (a k : Nat) : Bool := bitOf (s.reg a) k
/-- A one-bit field set. -/
def State.setB (s : State) (a k : Nat) (b : Bool) : State := s.setF a k 1 (b2n b)
/-- A LO and HI pair (R5). -/
def State.reg64 (s : State) (a : Nat) : Nat := s.regN a + 0x100000000 * s.regN (a + 4)
/-- A LO and HI pair set. -/
def State.setReg64 (s : State) (a v : Nat) : State := (s.setRegN a v).setRegN (a + 4) (v / 0x100000000)
/-- A count that saturates at its register's width. -/
def State.incSat (s : State) (a : Nat) : State := if s.regN a = 0xFFFFFFFF then s else s.setRegN a (s.regN a + 1)
/-- A count that saturates, raised by n. -/
def State.addSat (s : State) (a n : Nat) : State := s.setRegN a (min 0xFFFFFFFF (s.regN a + n))
/-- A count that wraps. -/
def State.incWrap (s : State) (a : Nat) : State := s.setRegN a (s.regN a + 1)
/-- A 64-bit count raised by n. -/
def State.add64 (s : State) (a n : Nat) : State := s.setReg64 a (s.reg64 a + n)

/-! ### Page headers and the block state machine (R557-R564) -/

abbrev stOff : Nat := 0
abbrev stStarting : Nat := 1
abbrev stOn : Nat := 2
abbrev stStopping : Nat := 3
abbrev stFaulted : Nat := 4
abbrev stIsolated : Nat := 5

/-- STATE of a page (R561). -/
def State.pst (s : State) (cls inst : Nat) : Nat := s.regF (rg cls inst 0x00C) 0 3
/-- STATE of a page set. -/
def State.setPst (s : State) (cls inst v : Nat) : State := s.setF (rg cls inst 0x00C) 0 3 v
/-- PEND_ON of a page. -/
def State.pendOn (s : State) (cls inst : Nat) : Bool := s.regB (rg cls inst 0x00C) 3
/-- PEND_OFF of a page. -/
def State.pendOff (s : State) (cls inst : Nat) : Bool := s.regB (rg cls inst 0x00C) 4
/-- PEND_ON set or cleared. -/
def State.setPendOn (s : State) (cls inst : Nat) (b : Bool) : State := s.setB (rg cls inst 0x00C) 3 b
/-- PEND_OFF set or cleared. -/
def State.setPendOff (s : State) (cls inst : Nat) (b : Bool) : State := s.setB (rg cls inst 0x00C) 4 b
/-- Is a page ON? -/
def State.isOn (s : State) (cls inst : Nat) : Bool := s.pst cls inst == stOn
/-- ERR_SUMMARY bit k of a page set. -/
def State.errBit (s : State) (cls inst k : Nat) : State := s.setB (rg cls inst 0x014) k true
/-- A write or request ignored (WR_IGNORED). -/
def State.ignored (s : State) (cls inst : Nat) : State := s.errBit cls inst 0
/-- EPOCH of a page. -/
def State.pageEpoch (s : State) (cls inst : Nat) : Nat := s.regN (rg cls inst 0x024)

/-! ### The clocks (R6, R119, R437) -/

/-- Site Time moves forward to an instant; the fabric count runs on at 1.2 GHz (log 10). -/
def State.atTime (s : State) (now : Nat) : State :=
  if s.clk.now < now then { s with clk := { cycle := s.clk.cycle + (now * 6 / 5 - s.clk.now * 6 / 5), now := now } } else s

/-- The fabric cycle count moves forward; Site Time runs on with it (log 10). -/
def State.atCycle (s : State) (c : Nat) : State :=
  if s.clk.cycle < c then { s with clk := { cycle := c, now := s.clk.now + (c * 5 / 6 - s.clk.cycle * 5 / 6) } } else s

/-- A time truncated to the 8 ns grain (R7). -/
def grain (t : Nat) : Nat := t / 8 * 8

/-- Does an event fall in the window of `len` ns that another event opened? A window is half-open, and the times of events are truncated to the
grain (R7). -/
def inWindow (t start len : Nat) : Bool := decide (grain t < grain start + len)

/-- Has a scheduled time come? Both times are truncated to the grain (R437). -/
def reached (t due : Nat) : Bool := decide (grain due ≤ grain t)

/-! ### Free values (log 1) -/

/-- A free 64-bit value and the state after it is drawn. -/
def State.draw64 (s : State) : W64 × State := (Config.freeValue s.freeCtr, { s with freeCtr := s.freeCtr + 1 })

/-- Free bytes and the state after they are drawn. -/
def State.drawBytes (s : State) (n : Nat) : List Byte × State :=
  (padTo n ((Config.freeBytes s.freeCtr n).take n), { s with freeCtr := s.freeCtr + 1 })

/-! ### Outgoing messages -/

/-- A message sent out of the module. -/
def State.emit (s : State) (m : OutMsg) : State := { s with out := s.out ++ [m] }

/-! ### MSI-X (R459, R486, R487) -/

/-- TLPs received and sent (R573; log 159). -/
def State.tlpIn (s : State) : State := s.add64 (rg clsPcie 0 0x120) 1
def State.tlpOut (s : State) : State := s.add64 (rg clsPcie 0 0x128) 1
/-- A request is answered as an Unsupported Request (R460, R509, R573). -/
def State.urSent (s : State) : State := s.incSat (rg clsPcie 0 0x110)

/-- Does an IDE stream cover n bytes at a host address: the link stream every one, a selective stream those between its limits (R509; log 66)? -/
def State.ideCovers (s : State) (k a n : Nat) : Bool :=
  k == 0 || (match look? s.ideSel k with
    | some (lo, hi) => decide (lo ≤ a) && decide (a + n ≤ hi + 1)
    | none => false)

/-- Is a stream Secure? -/
def State.ideSecure (s : State) (k : Nat) : Bool := decide (k ≤ 8) && s.regB (rg clsSec 0 0x110) k

/-- May the module send requests for a context to n bytes at a host address: IDE_REQ is clear, or a Secure stream covers them (R509)? -/
def State.ideOk (s : State) (c a n : Nat) : Bool :=
  !bitOf (s.reg (aPt c 0)) 4 || (List.range 9).any (fun k => s.ideSecure k && s.ideCovers k a n)

/-- Does a request arrive as the context's IDE_REQ asks: in a Secure stream (R509)? -/
def State.ideIn (s : State) (c : Nat) (t : Tlp) : Bool := !bitOf (s.reg (aPt c 0)) 4 || (t.ide.map s.ideSecure).getD false

/-- A message on a vector: sent, or its pending bit set while the vector or the function is masked (R486) or must wait for IDE (R509). -/
def State.msiSend (s : State) (fn vec : Nat) : State :=
  let key := fn * 128 + vec
  let (addr, data, masked) := look (0, 0, true) s.msix key
  if masked || s.msixFnMask.contains fn || !s.ideOk fn addr 4 then { s with msixPend := ins s.msixPend key }
  else (s.emit (.msix fn vec addr data)).tlpOut

/-! ### The Cairn engine (R539-R547) -/

/-- Bytes of an item as it stands in a record (R541). -/
def itemSize (v : List Byte) : Nat := 4 + roundUp v.length 4

/-- The items that fit, in order, and whether any is left out (R539). -/
def fitItems : List (Nat × List Byte) → Nat → List (Nat × List Byte) × Bool
  | [], _ => ([], false)
  | (id, v) :: t, used =>
    if used + itemSize v ≤ 512 - 36 then
      let (l, tr) := fitItems t (used + itemSize v)
      ((id, v) :: l, tr)
    else ([], true)

/-- The bytes of a record, with its CHK (R539). -/
def CairnRec.bytes (r : CairnRec) : List Byte :=
  let items := r.items.foldl (fun acc e => acc ++ leBytes 2 e.1 ++ leBytes 2 e.2.length ++ padTo (roundUp e.2.length 4) e.2) []
  let len := roundUp (32 + items.length + 4) 8
  let body := leBytes 2 len ++ leBytes 1 r.sev ++ leBytes 1 r.flags ++ leBytes 2 r.code ++ leBytes 2 r.cls ++ leBytes 2 r.inst
    ++ leBytes 2 r.utc ++ leBytes 1 r.ctx ++ leBytes 1 0 ++ leBytes 2 0 ++ leBytes 8 r.seq ++ leBytes 8 r.stamp ++ items
  let body := padTo (len - 4) body
  body ++ leBytes 4 (crc32c body)

/-- What became of a record that was offered to a store (R544). -/
inductive Placed where
  | stored | overwrote7 | dropped
  deriving DecidableEq, Repr

/-- The store without the oldest record of a severity below `sev` (the list is in rising SEQ); none where there is none. -/
def dropOldest (p : CairnRec → Bool) : List CairnRec → Option (List CairnRec)
  | [] => none
  | r :: t => if p r then some t else (dropOldest p t).map (fun t' => r :: t')

/-- Placement in a store of `cap` cells (R544). -/
def place (cap : Nat) (cells : List CairnRec) (r : CairnRec) : List CairnRec × Placed :=
  if cells.length < cap then (cells ++ [r], .stored)
  else match dropOldest (fun c => c.sev < r.sev) cells with
    | some l => (l ++ [r], .stored)
    | none =>
      if r.sev = 7 then
        match dropOldest (fun c => c.sev == 7) cells with
        | some l => (l ++ [r], .overwrote7)
        | none => (cells, .dropped)
      else (cells, .dropped)

abbrev aCairn (off : Nat) : Nat := 0x700000 + off
/-- Cells of the buffer and of the flash region (R544). -/
abbrev bufCells : Nat := 32768
abbrev flashCells : Nat := 4194304

/-- Flash cells that are not retired (R551). -/
def CairnSt.flashCap (c : CairnSt) : Nat := flashCells - c.retired

/-- The lowest SEQ in a store, 0 where it is empty. -/
def oldestOf (l : List CairnRec) : Option Nat := l.head?.map (·.seq)

/-- The status registers of the CAIRN page that the stores determine (R550, R551). -/
def State.cairnSync (s : State) : State :=
  let b := s.cairn.buf.length
  let f := s.cairn.flash.length
  let oldest := match oldestOf s.cairn.buf, oldestOf s.cairn.flash with
    | some x, some y => min x y
    | some x, none => x
    | none, some y => y
    | none, none => 0
  ((((((s.setRegN (aCairn 0x120) (min b 0xFFFF)).setF (aCairn 0x124) 0 23 (min f 0x7FFFFF)).setReg64 (aCairn 0x110) oldest).setB
    (aCairn 0x104) 0 s.cairn.flushing).setB (aCairn 0x104) 1 (decide (b ≥ bufCells))).setB (aCairn 0x104) 2 (decide (f ≥ s.cairn.flashCap)))

/-- The placement counts of R544: `past` and `drop` are the registers of the store. -/
def State.cairnCount (s : State) (w : Placed) (past drop sev : Nat) : State :=
  match w with
  | .stored => s
  | .overwrote7 => s.incSat (aCairn past)
  | .dropped => s.incSat (aCairn (drop + 4 * sev))

/-- The UTC offset in force at the present grain (R445): a pending change holds from UTC_AT on. -/
def State.utcNow (s : State) : Nat :=
  if s.regB (rg clsTime 0 0x124) 31 && decide (s.reg64 (rg clsTime 0 0x128) ≤ grain s.clk.now) then s.regF (rg clsTime 0 0x124) 0 16
  else s.regF (rg clsTime 0 0x120) 0 16

/-- A Cairn record is created (R540, R542-R545): it takes the next SEQ, is placed in the buffer, its SEQ goes to the LAST_CAIRN_SEQ
of its page (R589), a severity of 5 or above starts or extends a flush, and PF0 is told under R487. -/
def State.cairnLog (s : State) (sev cls inst code ctx : Nat) (items : List (Nat × List Byte)) : State :=
  if sev < s.regF (aCairn 0x100) 0 3 then s
  else
    let seq := s.reg64 (aCairn 0x108)
    let ceiling := if seq ≥ s.cairn.ceiling then s.cairn.ceiling + 0x100000 else s.cairn.ceiling
    let (fit, cut) := fitItems items 0
    let noFw := !s.fwUp
    let r : CairnRec :=
      { sev, code, cls, inst, ctx, seq, items := fit, stamp := s.clk.now, utc := s.utcNow,
        flags := s.regF (rg clsTime 0 0x104) 0 3 + 8 * b2n noFw + 16 * b2n cut }
    let (buf, w) := place bufCells s.cairn.buf r
    let s := { s with cairn := { s.cairn with buf, ceiling, flushing := s.cairn.flushing || decide (sev ≥ 5) } }
    let s := (s.setReg64 (aCairn 0x108) (seq + 1)).cairnCount w 0x128 0x130 sev
    let s := (s.setReg64 (rg cls inst 0x01C) seq).cairnSync
    let evt := rg clsCe 0 0x13C
    if s.regB evt 16 && decide (sev ≥ s.regF evt 8 3) && (match s.lastEvtMsi with
        | none => true
        | some t => !inWindow s.clk.now t 1000000) then
      { s.msiSend 0 (s.regF evt 0 7) with lastEvtMsi := some s.clk.now }
    else s

/-! Items of R541. -/
/-- RILL. -/
def itRill (col row : Nat) : Nat × List Byte := (1, leBytes 2 col ++ leBytes 2 row)
/-- SLOT_PC. -/
def itSlotPc (slot pc : Nat) : Nat × List Byte := (2, leBytes 4 slot ++ leBytes 4 pc)
/-- FAULT. -/
def itFault (fault cause : Nat) : Nat × List Byte := (3, leBytes 2 fault ++ leBytes 2 cause)
/-- A check that has failed: the unit, 0 integer partial, 1 FP multiplier, 2 FP adder, 3 duplicated logic (log 150), and the predicted and the
computed residue (R95). -/
structure CheckErr where
  kind : Nat
  predicted : Nat
  computed : Nat
  deriving DecidableEq, Repr

/-- RESIDUE. -/
def itResidue (e : CheckErr) : Nat × List Byte := (4, leBytes 1 e.kind ++ leBytes 1 e.predicted ++ leBytes 2 e.computed)
/-- STACK. -/
def itStack (pos off : Nat) : Nat × List Byte := (5, leBytes 4 pos ++ leBytes 8 off)
/-- PITCH. -/
def itPitch (pitch cause peak : Nat) : Nat × List Byte :=
  (6, leBytes 1 (pitch / 4) ++ leBytes 1 (pitch % 4) ++ leBytes 2 cause ++ leBytes 4 peak)
/-- RANK. -/
def itRank (rank job : Nat) : Nat × List Byte := (7, leBytes 2 rank ++ leBytes 2 job)
/-- POST. -/
def itPost (group seq chunk off : Nat) : Nat × List Byte :=
  (8, leBytes 4 group ++ leBytes 4 seq ++ leBytes 4 chunk ++ leBytes 8 off)
/-- CHECK. -/
def itCheck (own peer : Nat) : Nat × List Byte := (9, leBytes 8 own ++ leBytes 8 peer)
/-- ADDRESS. -/
def itAddr (a : Nat) : Nat × List Byte := (10, leBytes 8 a)
/-- ELECTRICAL. -/
def itElec (v i p stage : Nat) : Nat × List Byte := (11, leBytes 2 v ++ leBytes 2 i ++ leBytes 2 p ++ leBytes 2 stage)
/-- PORT. -/
def itPort (port udp : Nat) (ip : List Byte) : Nat × List Byte := (12, leBytes 2 port ++ leBytes 2 udp ++ padTo 16 ip)
/-- SEQ. -/
def itSeq (q : Nat) : Nat × List Byte := (13, leBytes 8 q)

/-- CTX of a record that concerns no context (R539). -/
abbrev noCtx : Nat := 0xFF

/-! ### Events scheduled on Site Time (R418, R453) -/

abbrev aWeir (off : Nat) : Nat := rg clsWeir 0 off
abbrev aTime (off : Nat) : Nat := rg clsTime 0 off

/-- A pending UTC offset whose instant has come (R445). -/
def State.utcApply (s : State) : State :=
  if s.regB (aTime 0x124) 31 && decide (s.reg64 (aTime 0x128) ≤ grain s.clk.now) then
    (s.setF (aTime 0x120) 0 16 (s.regF (aTime 0x124) 0 16)).setB (aTime 0x124) 31 false
  else s

/-- An envelope register's value: the one written last, which the next boundary puts in force (R431). START_PHASE has key 0x140. -/
def State.weirVal (s : State) (off : Nat) : Nat :=
  match look? s.weirPend off with
  | some v => v
  | none => if off = 0x140 then s.reg64 (aWeir 0x140) else s.regN (aWeir off)

/-- Is b the next frame boundary (R418, R454)? It ends the frame in progress, at the first grain of the phase at least 1 ms after its start, or where a
step has cut it; where no frame runs, the first grain of the phase since then begins one. -/
def State.weirBoundary (s : State) (b : Nat) : Bool :=
  match s.weirCut with
  | some t => b == t
  | none =>
    let from' := match s.weirAt with
      | some a => a + 1000000
      | none => (s.weirFrom + 7) / 8 * 8
    isMul b 8 && b % 1000000 == s.weirVal 0x140 % 1000000 && decide (from' ≤ b) && decide (b < from' + 1000000)

/-- Does a slot begin at grain g that has not begun yet (R446)? -/
def State.slotDue (s : State) (g : Nat) : Bool :=
  isMul g 8000 && s.inputStage == 2 && (match s.slotAt with
    | some t => decide (t < g)
    | none => true)

/-- Is an event of an earlier place of the table of R453 due at grain g, a slot boundary, or, from place 4 on, a Weir frame boundary? The later event
waits for it. -/
def State.earlierDue (s : State) (g place : Nat) : Bool :=
  s.slotDue g || (decide (4 ≤ place) && (s.inputStage == 1 || s.inputStage == 2) && s.weirBoundary g)

/-! ### Completion rings (R471-R474, R486) -/

abbrev aCe (c off : Nat) : Nat := rg clsCe c off

/-- The engine of a context. -/
def State.eng (s : State) (c : Nat) : Engine := look Engine.init s.ce c
/-- The engine of a context set. -/
def State.setEng (s : State) (c : Nat) (e : Engine) : State := { s with ce := put s.ce c e }

/-- Ring size (R471): 2^CQ_LOG2. -/
def State.cqSize (s : State) (c : Nat) : Nat := 2 ^ s.regF (aCe c 0x110) 0 5
/-- Is the ring full (R471)? -/
def State.cqFull (s : State) (c : Nat) : Bool :=
  (s.regF (aCe c 0x118) 0 16 + 1) % s.cqSize c == s.regF (aCe c 0x114) 0 16

/-- The 32 bytes of a completion record (R472). -/
def Completion.bytes (r : Completion) (phase : Bool) : List Byte :=
  leBytes 4 r.seq ++ leBytes 2 r.code ++ leBytes 1 r.opcode ++ leBytes 1 r.kind ++ leBytes 2 r.handle ++ leBytes 2 0
    ++ leBytes 4 r.progress ++ padTo 12 (r.result.take 12) ++ leBytes 3 0 ++ leBytes 1 (b2n phase)

/-- DONE and ACCEPTED records that wait (R474). -/
def Engine.held (e : Engine) : Nat := countIf (fun r => r.kind == 0 || r.kind == 1) e.waiting

/-- CE_STATUS (R489). -/
def State.ceSync (s : State) (c : Nat) : State :=
  let e := s.eng c
  s.setRegN (aCe c 0x100) (b2n (s.isOn clsCe c) + 2 * b2n (s.cqFull c) + 4 * b2n (decide (e.held ≥ 256)) + 256 * min 32 e.ops.length)

/-- The interrupt of a posted record, held back under CQ_MOD (R486). -/
def State.ceInterrupt (s : State) (c : Nat) : State :=
  if s.regB (aCe c 0x11C) 16 then
    let e := s.eng c
    let gap := s.regF (aCe c 0x11C) 20 12 * 1000
    match e.lastMsi with
    | some t =>
      if !inWindow s.clk.now t gap then (s.setEng c { e with lastMsi := some s.clk.now }).msiSend c (s.regF (aCe c 0x11C) 0 7)
      else s.setEng c { e with owesMsi := true }
    | none => (s.setEng c { e with lastMsi := some s.clk.now }).msiSend c (s.regF (aCe c 0x11C) 0 7)
  else s

/-- One record written into the ring (R471). -/
def State.cqWrite (s : State) (c : Nat) (r : Completion) : State :=
  let tail := s.regF (aCe c 0x118) 0 16
  let e := s.eng c
  let base := s.reg64 (aCe c 0x108) / 4096 * 4096
  let s := ({ s with host := writeBytes s.host (base + 32 * tail) (r.bytes e.pass) }).tlpOut
  let next := (tail + 1) % s.cqSize c
  let s := (s.setF (aCe c 0x118) 0 16 next).setEng c { e with pass := if next = 0 then !e.pass else e.pass }
  s.ceInterrupt c

/-- Waiting records posted in order while there is room (R474); a STOPPING page posts only the records that waited when its stop
began (R488), and a page that is OFF or STARTING posts none; a context with IDE_REQ posts none without a Secure stream that covers the record (R509). -/
def State.cqDrain (s : State) (c : Nat) : List Completion → State
  | [] => s.setEng c { s.eng c with waiting := [] }
  | r :: t =>
    let e := s.eng c
    let open' := s.isOn clsCe c || (s.pst clsCe c == stStopping && decide (e.stopWaits > 0))
    if open' && !s.cqFull c && s.ideOk c (s.reg64 (aCe c 0x108) / 4096 * 4096 + 32 * s.regF (aCe c 0x118) 0 16) 32 then
      ((s.cqWrite c r).setEng c { (s.cqWrite c r).eng c with stopWaits := e.stopWaits - 1 }).cqDrain c t
    else s.setEng c { e with waiting := r :: t }

/-- A record joins those that wait: a PROGRESS record replaces the waiting one of its handle, an EVENT record beyond 64 is lost
(R474). -/
def addWaiting (l : List Completion) (r : Completion) : Option (List Completion) :=
  if r.kind = 2 && l.any (fun x => x.kind == 2 && x.handle == r.handle) then
    some (l.map (fun x => if x.kind = 2 ∧ x.handle = r.handle then r else x))
  else if r.kind = 3 && decide (countIf (fun x => x.kind == 3) l ≥ 64) then none
  else some (l ++ [r])

/-- A completion record is posted, or waits (R473, R474). -/
def State.post (s : State) (c : Nat) (r : Completion) : State :=
  let e := s.eng c
  match addWaiting e.waiting r with
  | none => (s.incSat (aCe c 0x138)).ceSync c
  | some l => (s.cqDrain c l).ceSync c

/-- An EVENT record (R473). -/
def State.postEvent (s : State) (c code : Nat) : State :=
  s.post c { seq := 0, code, opcode := 0, kind := 3, handle := 0, progress := 0, result := [] }

/-! ### Rills and positions (R8, R9) -/

/-- Index of a logical position, row-major. -/
def ridx (col row : Nat) : Nat := row * 1080 + col
/-- Does the logical grid hold the position? -/
def inGrid (col row : Nat) : Bool := decide (col < 1080) && decide (row < 840)
/-- Column of an index. -/
def rcol (k : Nat) : Nat := k % 1080
/-- Row of an index. -/
def rrow (k : Nat) : Nat := k / 1080
/-- Reach of a position (R9). -/
def reachOf (col row : Nat) : Nat := row / 120 * 9 + col / 120
/-- Pitch instance of a position (R9, R567). -/
def pitchOf (col row : Nat) : Nat := 4 * reachOf col row + row % 120 / 30
/-- Segment of a position within its row of a reach (R9). -/
def segOf (col : Nat) : Nat := col % 120 / 15

/-- A rill. -/
def State.rill (s : State) (k : Nat) : Rill := look Rill.init s.rills k
/-- A rill set. -/
def State.setRill (s : State) (k : Nat) (r : Rill) : State := { s with rills := put s.rills k r }
/-- A task slot. -/
def Rill.slot (r : Rill) (n : Nat) : Slot := look Slot.init r.slots n
/-- A task slot set. -/
def Rill.setSlot (r : Rill) (n : Nat) (x : Slot) : Rill := { r with slots := put r.slots n x }
/-- A stream queue. -/
def Rill.queue (r : Rill) (q : Nat) : Queue := look Queue.init r.queues q
/-- A stream queue set. -/
def Rill.setQueue (r : Rill) (q : Nat) (x : Queue) : Rill := { r with queues := put r.queues q x }
/-- A tensor register. -/
def Rill.treg (r : Rill) (n : Nat) : List Byte := look (List.replicate 256 0) r.t n
/-- A scale side-band. -/
def Rill.tside (r : Rill) (n : Nat) : List Byte := look (List.replicate 16 0) r.side n
/-- The ownership entry of a tensor register: 31 is unowned (R24). -/
def Rill.owner (r : Rill) (n : Nat) : Nat := look 31 r.own n

/-- Core Map Table STATE of a position (R365): 0 PRESENT, 1 HOLE, 2 DEAD, 3 ISOLATED. -/
def State.cmtState (s : State) (k : Nat) : Nat := s.regF (aCmt (rcol k) (rrow k)) 4 3
/-- Is the logical rill present? -/
def State.present (s : State) (k : Nat) : Bool := s.cmtState k == 0

/-- A scalar register (R23): g0 reads 0. -/
def Slot.greg (x : Slot) (n : Nat) : W64 := if n = 0 then 0 else look 0 x.g n
/-- A scalar register written: a write to g0 is discarded (R23). -/
def Slot.setG (x : Slot) (n : Nat) (v : W64) : Slot := if n = 0 then x else { x with g := put x.g n v }

/-- One slot of one rill changed. -/
def State.modSlot (s : State) (k n : Nat) (f : Slot → Slot) : State :=
  let r := s.rill k
  s.setRill k (r.setSlot n (f (r.slot n)))
/-- One rill changed. -/
def State.modRill (s : State) (k : Nat) (f : Rill → Rill) : State := s.setRill k (f (s.rill k))
/-- One queue of one rill changed. -/
def State.modQueue (s : State) (k q : Nat) (f : Queue → Queue) : State :=
  s.modRill k (fun r => r.setQueue q (f (r.queue q)))

/-! ### Rill stores, pools and stacks with their poison bits (R26, R28, R130, R186) -/

/-- First key of a rill store or pool in its flat memory. -/
def sbase (k : Nat) : Nat := k * 0x10000
/-- First key of a stack. -/
def kbase (pos : Nat) : Nat := pos * 0x2000000000

/-- The 64 B lines that bytes [a, a + n) of a flat memory touch. -/
def linesOf (a n : Nat) : List Nat := if n = 0 then [] else (List.range ((a + n - 1) / 64 - a / 64 + 1)).map (· + a / 64)

/-- Does an access touch a poisoned line? -/
def anyPoison (p : List Nat) (a n : Nat) : Bool := (linesOf a n).any (fun l => p.contains l)

/-- The poison list after a write: POISON marks every line covered (R48); a clean write clears the lines that it covers wholly
(R28, R130). -/
def poisonWrite (p : List Nat) (a n : Nat) (poison : Bool) : List Nat :=
  if poison then (linesOf a n).foldl ins p
  else (linesOf a n).foldl (fun acc l => if a ≤ l * 64 ∧ l * 64 + 64 ≤ a + n then rem acc l else acc) p

/-- Bytes written into a rill store. -/
def State.storeWrite (s : State) (k a : Nat) (b : List Byte) (poison : Bool) : State :=
  { s with store := writeBytes s.store (sbase k + a) b, storePoison := poisonWrite s.storePoison (sbase k + a) b.length poison }
/-- Bytes read from a rill store. -/
def State.storeRead (s : State) (k a n : Nat) : List Byte := readBytes s.store (sbase k + a) n
/-- Does a rill-store access touch a poisoned line? -/
def State.storePois (s : State) (k a n : Nat) : Bool := anyPoison s.storePoison (sbase k + a) n
/-- Bytes written into a pool: the merge windows of the lines written close (R132). -/
def State.poolWrite (s : State) (k a : Nat) (b : List Byte) (poison : Bool) : State :=
  { s with pool := writeBytes s.pool (sbase k + a) b, poolPoison := poisonWrite s.poolPoison (sbase k + a) b.length poison,
           lineReads := s.lineReads.filter (fun e => decide (e.1 < (sbase k + a) / 64) || decide ((sbase k + a + b.length - 1) / 64 < e.1)) }
/-- Bytes read from a pool. -/
def State.poolRead (s : State) (k a n : Nat) : List Byte := readBytes s.pool (sbase k + a) n
/-- Does a pool access touch a poisoned line? -/
def State.poolPois (s : State) (k a n : Nat) : Bool := anyPoison s.poolPoison (sbase k + a) n
/-- Bytes written into a stack. -/
def State.stackWrite (s : State) (pos off : Nat) (b : List Byte) (poison : Bool) : State :=
  { s with stack := writeBytes s.stack (kbase pos + off) b,
           stackPoison := poisonWrite s.stackPoison (kbase pos + off) b.length poison }
/-- Bytes read from a stack. -/
def State.stackRead (s : State) (pos off n : Nat) : List Byte := readBytes s.stack (kbase pos + off) n
/-- Does a stack access touch a poisoned line? -/
def State.stackPois (s : State) (pos off n : Nat) : Bool := anyPoison s.stackPoison (kbase pos + off) n

/-- Every byte memory of the state is in its canonical form (log 4). -/
def State.memOk (s : State) : Prop :=
  Mem.wf s.slotMem = true ∧ Mem.wf s.store = true ∧ Mem.wf s.pool = true ∧ Mem.wf s.stack = true ∧ Mem.wf s.host = true

/-! ### Profiles and start-up stage -/

/-- START_STAGE (R528). -/
def State.stage (s : State) : Nat := s.regF 0x108 0 3
/-- Do all pages respond to the host: from FIRMWARE on, but in HALTED or in a power failure (R527, R530, R536)? -/
def State.served (s : State) : Bool := decide (1 ≤ s.stage) && decide (s.stage ≤ 4)
/-- Does Warden firmware run? -/
def State.fwRuns (s : State) : Bool := s.fwUp
/-- RILL_EPOCH of a context (R392). -/
def State.rillEpoch (s : State) (c : Nat) : Nat := s.regN (aRc c 0x1C)
/-- RSTATE of a context (R402). -/
def State.rstate (s : State) (c : Nat) : Nat := s.regF (aRc c 4) 0 3

/-- Replace the first element that a predicate picks. -/
def updFirst {α : Type} (p : α → Bool) (f : α → α) : List α → List α
  | [] => []
  | x :: t => if p x then f x :: t else x :: updFirst p f t

end Sys2Proof.Machine
end

