-- ==== Sys2Proof/Machine/Gauge.lean ====
section
/-! DEFINITION. Gauges (05 R169-R177): the CRC units of the Levee chiplets, what they select and how traffic feeds them, and the
commands GAUGE_CTL_WRITE, GAUGE_EN_CHANGE, GAUGE_WRITE and GAUGE_CHUNK_BOUNDARY. -/

namespace Sys2Proof.Machine

/-- The kind of a Levee endpoint: 0 torus, 1 memory, 2 Headwater, 3 host, 4 rank, 5 twin (R108). -/
def epKind (ep : Nat) : Nat :=
  let n := ep % 9
  if n = 0 || n = 3 || n = 6 then 0
  else if n = 1 || n = 5 || n = 8 then 1
  else if n = 2 || n = 7 then 2
  else if ep = 4 then 3 else if ep = 22 then 4 else 5

/-- Headwater chiplet number of an endpoint (R213). -/
def hwChiplet (ep : Nat) : Nat := ([2, 7, 11, 16, 20, 25, 29, 34] : List Nat).idxOf ep
/-- Endpoint of Headwater chiplet h (R213). -/
def hwEndpoint (h : Nat) : Nat := ([2, 7, 11, 16, 20, 25, 29, 34] : List Nat).getD h 36
/-- Endpoint of the chiplet that holds Eztex link l (R291). -/
def linkEndpoint (l : Nat) : Nat := if l < 72 then 3 * (l / 6) else if l < 74 then 13 else 31
/-- Unit of link l within its chiplet (R291). -/
def linkUnit (l : Nat) : Nat := if l < 72 then l % 6 else (l - 72) % 2

/-- Is G_SEL a source that the chiplet has (R170, R174)? CTX above 16 is none, also where SRC_KIND is 1 or 2 and CTX names nothing (log 173). -/
def gaugeSelOk (ep : Nat) (sel : W32) : Bool :=
  let kind := fld sel 0 2
  let unit := fld sel 4 4
  decide (fld sel 11 5 ≤ 16) &&
  (kind == 0 || (kind == 1 && epKind ep == 2 && decide (unit < 4))
    || (kind == 2 && ((epKind ep == 0 && decide (unit < 6)) || (epKind ep == 5 && decide (unit < 2)))))

/-- The initial running value of the algorithm in use (R171). -/
def gaugeInit (alg : Nat) : Nat := if alg = 0 then 0xFFFFFFFF else 0

/-- The running value of a gauge: for ALG 0 the LO word alone (R172). -/
def State.gaugeVal (s : State) (ep g : Nat) : Nat := if s.regB (aGauge ep g 0) 1 then s.reg64 (aGauge ep g 0x10) else s.regN (aGauge ep g 0x10)
/-- The running value changed. -/
def State.setGaugeVal (s : State) (ep g v : Nat) : State :=
  if s.regB (aGauge ep g 0) 1 then s.setReg64 (aGauge ep g 0x10) v else s.setRegN (aGauge ep g 0x10) v

/-- One byte through the CRC (R171). -/
def gaugeStep (alg : Nat) (v : Nat) (b : Byte) : Nat := if alg = 0 then crc32cByte v b else crc64Byte v b

/-- Bytes counted until they end or, in chunk mode, until G_BYTES reaches a multiple of CHUNK_LEN (R177): running value, count,
bytes left, boundary reached. -/
def gaugeRun (alg chunk : Nat) : List Byte → Nat → Nat → Nat × Nat × List Byte × Bool
  | [], v, n => (v, n, [], false)
  | b :: t, v, n =>
    let v' := gaugeStep alg v b
    if chunk ≠ 0 ∧ (n + 1) % chunk = 0 then (v', n + 1, t, true) else gaugeRun alg chunk t v' (n + 1)

/-- Bytes of a packet through one gauge. While a chunk boundary is due, later bytes wait for it. -/
def State.gaugeBytes (s : State) (ep g : Nat) (bytes : List Byte) : State :=
  let key := ep * 8 + g
  let held := look [] s.gaugePend key
  if s.gaugeDue.contains key then { s with gaugePend := put s.gaugePend key (held ++ bytes) }
  else
    let alg := s.regF (aGauge ep g 0) 1 1
    let chunk := if s.regB (aGauge ep g 0) 2 then s.regF (aGauge ep g 0) 8 13 else 0
    let (v, n, left, due) := gaugeRun alg chunk (held ++ bytes) (s.gaugeVal ep g) (s.reg64 (aGauge ep g 0x18))
    let s := (s.setGaugeVal ep g v).setReg64 (aGauge ep g 0x18) (n % 2 ^ 64)
    { s with gaugePend := if left.isEmpty then del s.gaugePend key else put s.gaugePend key left,
             gaugeDue := if due then ins s.gaugeDue key else s.gaugeDue }

/-- Is there a gauge g of endpoint ep, and does it count a source now (R169, R175)? -/
def State.gaugeCounts (s : State) (ep g : Nat) : Bool :=
  decide (ep < 36) && s.isOn clsGauge ep && s.regB (aGauge ep g 0xC) 0 && !s.regB (aGauge ep g 0xC) 1

/-- Payload of a stream packet of a rill's queue through a chiplet (R170 SRC_KIND 0). `dir` is 0 inbound, 1 outbound. -/
def State.feedStream (s : State) (ep dir col row q ctx : Nat) (bytes : List Byte) : State :=
  (List.range 8).foldl (fun s g =>
    let sel := s.reg (aGauge ep g 4)
    let rl := s.reg (aGauge ep g 8)
    if s.gaugeCounts ep g && fld sel 0 2 == 0 && fld sel 2 1 == dir && fld sel 8 3 == q && fld sel 11 5 == ctx
        && fld rl 0 11 == col && fld rl 16 10 == row then s.gaugeBytes ep g bytes else s) s

/-- Payload on a Headwater port (kind 1) or an Eztex link (kind 2) through a chiplet (R170). -/
def State.feedUnit (s : State) (ep kind unit dir : Nat) (bytes : List Byte) : State :=
  (List.range 8).foldl (fun s g =>
    let sel := s.reg (aGauge ep g 4)
    if s.gaugeCounts ep g && fld sel 0 2 == kind && fld sel 2 1 == dir && fld sel 4 4 == unit then s.gaugeBytes ep g bytes else s) s

/-- Operands of the gauge commands name a gauge (R169). -/
def gaugeOk (ep g : Nat) : Bool := decide (ep < 36) && decide (g < 8)

/-- A write that the gauge-write rule ignores (R176, R559). -/
def State.gaugeIgnored (s : State) (ep g : Nat) : State := (s.setB (aGauge ep g 0xC) 3 true).ignored clsGauge ep

/-- G_CTL written (R173, R176): ignored while CLAIMED; a CHUNK_LEN that is no multiple of 64 from 64 to 4,096 breaks R173 and the
write is ignored (log 11). -/
def State.gaugeCtl (s : State) (ep g : Nat) (value : W32) : State :=
  let len := fld value 8 13
  if s.regB (aGauge ep g 0xC) 2 then s.gaugeIgnored ep g
  else if len % 64 ≠ 0 ∨ len < 64 ∨ 4096 < len then s.gaugeIgnored ep g
  else s.setReg (aGauge ep g 0) (value &&& 0x001FFF07)

/-- GAUGE_CTL_WRITE. -/
def execGaugeCtlWrite (ep g : Nat) (value : W32) (s : State) : Host.Outcome State Fault Refusal :=
  onUnit (gaugeOk ep g) s.served s (fun s => s.gaugeCtl ep g value)

/-- A change of EN takes effect at a packet boundary of the source (R176). A gauge whose page is not ON, or whose selection the
chiplet does not have, counts nothing (R169, R175). -/
def execGaugeEnChange (ep g : Nat) (s : State) : Host.Outcome State Fault Refusal :=
  onUnit (gaugeOk ep g) ((look [] s.gaugePend (ep * 8 + g)).isEmpty && !s.gaugeDue.contains (ep * 8 + g)) s (fun s =>
    let en := s.regB (aGauge ep g 0) 0
    s.setB (aGauge ep g 0xC) 0 (en && s.isOn clsGauge ep && !s.regB (aGauge ep g 0xC) 1))

/-- G_SEL, G_SEL_RILL, G_VAL or G_BYTES written: ignored while ACTIVE or CLAIMED (R176). `off` is the register's offset (R172). A LO
word is staged until its HI word is written (R554). -/
def State.gaugeSet (s : State) (ep g off : Nat) (value : W32) : State :=
  let a := aGauge ep g off
  if s.regB (aGauge ep g 0xC) 0 || s.regB (aGauge ep g 0xC) 2 then s.gaugeIgnored ep g
  else if off = 4 then
    (s.setReg a (value &&& 0x0000FFF7)).setB (aGauge ep g 0xC) 1 (!gaugeSelOk ep value)
  else if off = 8 then s.setReg a (value &&& 0x03FF07FF)
  else if off = 0x10 || off = 0x18 then { s with staged := put s.staged a value }
  else
    let lo := look (s.reg (a - 4)) s.staged (a - 4)
    { (s.setReg (a - 4) lo).setReg a value with staged := del s.staged (a - 4) }

/-- GAUGE_WRITE. -/
def execGaugeWrite (ep g off : Nat) (value : W32) (s : State) : Host.Outcome State Fault Refusal :=
  onUnit (gaugeOk ep g && (off == 4 || off == 8 || off == 0x10 || off == 0x14 || off == 0x18 || off == 0x1C)) s.served s (fun s =>
    s.gaugeSet ep g off value)

/-- The chunk boundary (R177): the running value moves to G_CHUNK, G_CHUNKS counts, and the running value starts again; bytes of
the packet beyond the boundary are then counted. -/
def execGaugeChunkBoundary (ep g : Nat) (s : State) : Host.Outcome State Fault Refusal :=
  onUnit (gaugeOk ep g) (s.gaugeDue.contains (ep * 8 + g)) s (fun s =>
    let s := s.setReg64 (aGauge ep g 0x20) (s.gaugeVal ep g)
    let s := (s.incWrap (aGauge ep g 0x28)).setGaugeVal ep g (gaugeInit (s.regF (aGauge ep g 0) 1 1))
    ({ s with gaugeDue := rem s.gaugeDue (ep * 8 + g) }).gaugeBytes ep g [])

end Sys2Proof.Machine
end

