-- ==== Sys2Proof/Machine/Fabric.lean ====
section
/-! DEFINITION. The two meshes (04): the Levee edge, dead regions and routes, injection, arrival with the checks of R47 in their
order, and the answers that every unit makes. -/

namespace Sys2Proof.Machine

/-! ### The Levee edge (R107-R109) -/

/-- First and last row of row range k (R107). -/
def rowRange (k : Nat) : Nat × Nat :=
  (([(0, 92), (93, 185), (186, 279), (280, 372), (373, 465), (466, 559), (560, 652), (653, 745), (746, 839)] :
    List (Nat × Nat)).getD k (0, 0))

/-- A number held within a range. -/
def clamp (x lo hi : Nat) : Nat := if x < lo then lo else if hi < x then hi else x

/-- The attached edge router of an endpoint that lies nearest a position along the edge (R107, R109). -/
def edgeRouter (ep col row : Nat) : Nat × Nat :=
  if ep < 9 then (clamp col (120 * ep) (120 * ep + 119), 0)
  else if ep < 18 then let (a, b) := rowRange (ep - 9); (1079, clamp row a b)
  else if ep < 27 then (clamp col (120 * (26 - ep)) (120 * (26 - ep) + 119), 839)
  else let (a, b) := rowRange (35 - ep); (0, clamp row a b)

/-- Where a packet enters its mesh (R100, R109). -/
def Packet.entry (p : Packet) : Nat × Nat := if p.srcEdge then edgeRouter p.scol p.dcol p.drow else (p.scol, p.srow)
/-- Where a packet leaves its mesh (R109, R113). -/
def Packet.exit (p : Packet) : Nat × Nat := if p.edge then edgeRouter p.dcol p.scol p.srow else (p.dcol, p.drow)

/-! ### Routes (R110-R113) -/

/-- The first valid dead-region entry of its reach that holds a position, as a rectangle of the whole grid (R110, R137). -/
def State.deadRect (s : State) (col row : Nat) : Option (Nat × Nat × Nat × Nat) :=
  let rch := reachOf col row
  let lc := col % 120
  let lr := row % 120
  ((List.range 8).find? (fun k =>
      let w := s.reg (aDead rch k)
      bitOf w 31 && decide (fld w 0 7 ≤ lc) && decide (lc ≤ fld w 7 7) && decide (fld w 14 7 ≤ lr) && decide (lr ≤ fld w 21 7))).map
    (fun k =>
      let w := s.reg (aDead rch k)
      (col - lc + fld w 0 7, col - lc + fld w 7 7, row - lr + fld w 14 7, row - lr + fld w 21 7))

/-- Does a position lie in a dead region (R110)? -/
def State.isDead (s : State) (p : Nat × Nat) : Bool := (s.deadRect p.1 p.2).isSome

/-- Numbers from a to b, in that direction, b included. -/
def walk (a b : Nat) : List Nat :=
  if a ≤ b then (List.range (b - a + 1)).map (· + a) else (List.range (a - b + 1)).map (fun i => a - i)

/-- One leg: along the row, then along the column (R112). -/
def leg (a b : Nat × Nat) : List (Nat × Nat) :=
  (walk a.1 b.1).map (fun c => (c, a.2)) ++ ((walk a.2 b.2).map (fun r => (b.1, r))).drop 1

/-- The route from S by waypoint W to D (R112). -/
def route (src w dst : Nat × Nat) : List (Nat × Nat) := leg src w ++ (leg w dst).drop 1

/-- The candidate waypoints in order (R113); a corner outside the grid is skipped. -/
def State.waypoints (s : State) (src dst : Nat × Nat) : List (Nat × Nat) :=
  let corners := match (leg src dst).find? (fun p => s.isDead p) with
    | none => []
    | some p =>
      match s.deadRect p.1 p.2 with
      | none => []
      | some (c0, c1, r0, r1) =>
        (if 1 ≤ c0 ∧ 1 ≤ r0 then [(c0 - 1, r0 - 1)] else [])
        ++ (if c1 + 1 < 1080 ∧ 1 ≤ r0 then [(c1 + 1, r0 - 1)] else [])
        ++ (if c1 + 1 < 1080 ∧ r1 + 1 < 840 then [(c1 + 1, r1 + 1)] else [])
        ++ (if 1 ≤ c0 ∧ r1 + 1 < 840 then [(c0 - 1, r1 + 1)] else [])
  [dst, (src.1, dst.2)] ++ corners

/-- The waypoint that the source router chooses: the first candidate whose whole route touches no dead region (R113). -/
def State.chooseWay (s : State) (src dst : Nat × Nat) : Option (Nat × Nat) :=
  (s.waypoints src dst).find? (fun w => (route src w dst).all (fun p => !s.isDead p))

/-- The route of a packet in flight: by the waypoint that its flits carry (R99, R113). -/
def Packet.route (p : Packet) : List (Nat × Nat) := Machine.route p.entry p.way p.exit

/-- The sideband of a flit on the link after router `hop` of the packet's route (R99): virtual channel (0 request, 1 response), route class (0 up
to the waypoint, 1 beyond it, R112), last-flit mark, ABORT and POISON marks, waypoint. -/
structure Sideband where
  vc : Nat
  cls : Nat
  last : Bool
  abort : Bool
  poison : Bool
  way : Nat × Nat
  deriving DecidableEq, Repr

/-! ### Counters of a REACH page (R134, R135) -/

/-- Is it a reach, and does it count (R8, R135)? -/
def State.fabCounts (s : State) (rch : Nat) : Bool := decide (rch < 63) && s.regB (rg clsReach rch 0x400) 0 && !s.regB (rg clsReach rch 0x400) 1

/-- A saturating count of a reach. -/
def State.fabInc (s : State) (rch off : Nat) : State := if s.fabCounts rch then s.incSat (rg clsReach rch off) else s
/-- A 64-bit count of a reach. -/
def State.fabAdd (s : State) (rch off n : Nat) : State := if s.fabCounts rch then s.add64 (rg clsReach rch off) n else s

/-- Flits of a packet (R44). -/
def Packet.flits (p : Packet) : Nat := 1 + (p.payload.length + 63) / 64

/-- The sideband of flit `flit` of a packet on the link after router `hop` of its route (R99, R112). -/
def Packet.sideband (p : Packet) (hop flit : Nat) : Sideband :=
  { vc := b2n p.resp, cls := if hop + 1 < (leg p.entry p.way).length then 0 else 1, last := flit + 1 == p.flits, abort := p.abort, poison := p.poison,
    way := p.way }

/-- Flits forwarded by routers of a packet's route (R134): every router that passes them on counts them, the last one, which hands them to its
local or outward port, included (log 147). -/
def State.countFlits (s : State) (p : Packet) (path : List (Nat × Nat)) : State :=
  path.foldl (fun s q => s.fabAdd (reachOf q.1 q.2) (if p.pool then 0x410 else 0x408) p.flits) s

/-- Is a router cut off on a mesh: its pitch is isolated, or it has failed there and its position is in no dead region yet (R105, R115)? -/
def State.cutOff (s : State) (pool : Bool) (q : Nat × Nat) : Bool :=
  s.pst clsPitch (pitchOf q.1 q.2) == stIsolated
    || (let r := s.rill (ridx q.1 q.2)
        (if pool then r.poolRouterFailed else r.routerFailed) && !s.isDead q)

/-- A packet that a router discards before an absent link (R105, R115): it is counted at the last router before it, and its flits at the routers
that passed them. -/
def State.dropAtLink (s : State) (p : Packet) (gone : Nat × Nat → Bool) : State :=
  let before := p.route.takeWhile (fun q => !gone q)
  let at' := before.getLast?.getD p.entry
  (s.countFlits p before.dropLast).fabInc (reachOf at'.1 at'.2) 0x440

/-- Links become absent at routers that `gone` picks, on the meshes that `mesh` picks (R105, R115). A packet in flight whose route crosses one has
not come to it, and is discarded before it; or is crossing it, and goes on with ABORT, so that its destination discards it; or has passed it. Which,
and so how far each packet has come, is a free value (log 1). A packet toward such a router is discarded. -/
def State.linkLoss (s : State) (mesh : Bool → Bool) (gone : Nat × Nat → Bool) : State :=
  let (keep, s) := s.net.foldl (fun (acc : List Packet × State) (q : Packet) =>
    if mesh q.pool && q.route.any gone then
      let (v, s) := acc.2.draw64
      if gone q.exit ∨ v.toNat % 3 = 0 then (acc.1, s.dropAtLink q gone)
      else (acc.1 ++ [if v.toNat % 3 = 1 then { q with abort := true } else q], s)
    else (acc.1 ++ [q], acc.2)) ([], s)
  { s with net := keep }

/-! ### Injection (R114, R119) -/

/-- A header with every field clear. -/
def Packet.blank : Packet :=
  { edge := false, dcol := 0, drow := 0, srcEdge := false, scol := 0, srow := 0, kind := 0, resp := false, pool := false,
    poison := false, ackReq := false, len := 0, tag := 0, slot := 0, ctx := 0, addr := 0, epoch := 0, age := 0, arg := 0,
    payload := [], hchkOk := true, xid := 0, way := (0, 0), abort := false, waits := false }

/-- Reach of a packet's source router. -/
def Packet.srcReach (p : Packet) : Nat := reachOf p.entry.1 p.entry.2

/-- CLASS and INSTANCE of a unit at a Levee endpoint (R589). -/
def epUnit (ep : Nat) : Nat × Nat :=
  match epKind ep with
  | 0 => (clsCf, ep / 3)
  | 1 => (clsStack, 2 * (([1, 5, 8, 10, 14, 17, 19, 23, 26, 28, 32, 35] : List Nat).idxOf ep))
  | 2 => (clsPort, 4 * hwChiplet ep)
  | 3 => (clsPcie, 0)
  | 4 => (clsRank, 0)
  | _ => (clsLink, if ep = 13 then 72 else 74)

/-- CLASS and INSTANCE of the unit at a packet's source (R589). -/
def Packet.srcUnit (p : Packet) : Nat × Nat := if p.srcEdge then epUnit p.scol else (clsReach, reachOf p.scol p.srow)

/-- A packet that no route can carry: counted in UNREACHABLE of the source's reach, with a Cairn record of severity 4 that holds S,
D and the first dead region met, as a RILL item with the region's first column and first row (R114, R541; log 144). -/
def State.unreachable (s : State) (p : Packet) : State :=
  let s := s.fabInc p.srcReach 0x444
  let first := match (leg p.entry p.exit).find? (fun q => s.isDead q) with
    | none => p.exit
    | some q => match s.deadRect q.1 q.2 with
      | none => q
      | some (c0, _, r0, _) => (c0, r0)
  s.cairnLog 4 p.srcUnit.1 p.srcUnit.2 0 p.ctx
    [itRill p.entry.1 p.entry.2, itRill p.exit.1 p.exit.2, itRill first.1 first.2]

/-- Is the packet one of a stream queue, not of a trickle transfer, whose packets carry fewer than 256 bytes (R158, R170)? -/
def Packet.ofStream (p : Packet) : Bool := decide (0x10 ≤ p.kind) && (decide (0x12 < p.kind) || decide (256 ≤ p.len))

/-- Injection (R113, R114, R119): none where no route is clear. The waypoint is chosen once, here. A packet whose route then meets an absent link
is discarded before it (R105, R115). -/
def State.inject? (s : State) (p : Packet) : Option State :=
  match s.chooseWay p.entry p.exit with
  | none => none
  | some w =>
    let p := { p with age := s.clk.cycle % 2 ^ 32, way := w }
    let s := if p.route.any (s.cutOff p.pool) then s.dropAtLink p (s.cutOff p.pool) else { s with net := s.net ++ [p] }
    some (if p.srcEdge && !p.edge && p.ofStream then s.feedStream p.scol 0 p.dcol p.drow (p.tag % 8) p.ctx p.payload else s)

/-- Injection of a packet whose source does nothing when it is refused (R114: responses, endpoint packets). -/
def State.inject (s : State) (p : Packet) : State :=
  match s.inject? p with
  | none => s.unreachable p
  | some s' => s'

/-- A fresh packet identity. -/
def State.fresh (s : State) : Nat × State := (s.nextXid, { s with nextXid := s.nextXid + 1 })

/-! ### Answers (R44, R47, R121) -/

/-- The response to a request: it returns CTX, EPOCH, TAG and SLOT (R121). -/
def Packet.answer (p : Packet) (kind addr arg : Nat) (payload : List Byte) (poison : Bool) : Packet :=
  { Packet.blank with
    edge := p.srcEdge, dcol := p.scol, drow := p.srow, srcEdge := p.edge, scol := p.dcol, srow := p.drow, kind, resp := true,
    poison, len := payload.length, tag := p.tag, slot := p.slot, ctx := p.ctx, epoch := p.epoch, addr, arg, payload, xid := p.xid }

/-- ACK with a condition code. -/
def Packet.ack (p : Packet) (code : Nat) : Packet := p.answer 4 0 code [] false
/-- READ_DATA; ADDR is the ARG of the READ (R45). -/
def Packet.readData (p : Packet) (bytes : List Byte) (poison : Bool) : Packet := p.answer 3 p.arg 0 bytes poison
/-- SDATA; ADDR is the rill-store address in ARG of the SREAD (R161). -/
def Packet.sdata (p : Packet) (bytes : List Byte) (poison : Bool) (code : Nat) : Packet := p.answer 0x11 (p.arg % 0x10000) code bytes poison

/-- Packet kinds whose answer is ACK whatever ACK_REQ says (R161). -/
def ackKinds : List Nat := [0x12, 0x13, 0x14, 0x22, 0x24, 0x32, 0x34, 0x35]

/-- The answer that a discarded or refused request receives (R47): none for a response, and none for a request whose kind has no
answer and whose ACK_REQ is clear. -/
def Packet.refusal (p : Packet) (code : Nat) : Option Packet :=
  if p.resp then none
  else if p.kind = 2 then some (p.readData (List.replicate p.len 0) true)
  else if p.kind = 0x10 then some (p.sdata (List.replicate p.len 0) true code)
  else if p.kind = 0x20 then some (p.answer 0x21 0 code [] false)
  else if p.kind = 0x30 then some (p.answer 0x31 0 code [] false)
  else if p.ackReq || ackKinds.contains p.kind then some (p.ack code)
  else none

/-! ### Arrival (R47, R125) -/

/-- Same source, same destination, same mesh, same virtual channel (R125). -/
def samePath (p q : Packet) : Bool :=
  p.srcEdge == q.srcEdge && p.scol == q.scol && p.srow == q.srow && p.edge == q.edge && p.dcol == q.dcol && p.drow == q.drow
    && p.pool == q.pool && p.resp == q.resp

/-- Packet i in flight, if no packet of its path is ahead of it (R125). -/
def State.deliverable (s : State) (i : Nat) : Option Packet :=
  match s.net[i]? with
  | none => none
  | some p => if (s.net.take i).any (samePath p) then none else some p

/-- The net without packet i; its flits are counted on their route, and, where it reaches a Levee endpoint as a stream packet, by
that chiplet's gauges. -/
def State.takePacket (s : State) (i : Nat) (p : Packet) : State :=
  let s := ({ s with net := dropAt s.net i }).countFlits p p.route
  if p.edge && !p.srcEdge && p.ofStream then s.feedStream p.dcol 1 p.scol p.srow (p.tag % 8) p.ctx p.payload else s

/-- Kinds that a rill serves (R47). -/
def rillKinds : List Nat := [1, 2, 3, 4, 5, 0x11, 0x15, 0x16, 0x21, 0x31]
/-- Kinds that are defined (R45, R161, R227, R306). -/
def definedKinds : List Nat :=
  [1, 2, 3, 4, 5, 0x10, 0x11, 0x12, 0x13, 0x14, 0x15, 0x16, 0x20, 0x21, 0x22, 0x23, 0x24, 0x30, 0x31, 0x32, 0x33, 0x34, 0x35]

/-- The first case of R47 that holds, as the code of the answer; some none is a case without an answer. `unitCtx` is the unit's
CTX (none for a Levee endpoint, which serves every context), `serves` whether it serves the kind, `inRange` the last case. -/
def checkPacket (p : Packet) (unitCtx : Option Nat) (unitEpoch : Nat) (serves inRange : Bool) : Option (Option Nat) :=
  if !p.hchkOk then some none
  else if (match unitCtx with
      | some c => p.ctx != c
      | none => decide (16 < p.ctx)) then some (some cAuthFail)
  else if p.epoch != unitEpoch then some (some cStaleEpoch)
  else if !definedKinds.contains p.kind || decide (4096 < p.len) then some (some cMalformed)
  else if !serves then some (some cMalformed)
  else if !inRange then some (some cMalformed)
  else none

/-- A packet discarded under R47: a Cairn record of severity 4 (not for a response whose EPOCH alone fails) and the answer of its
kind; the items are the RILL item of the destination and the ADDRESS item (log 146). -/
def State.rejectPacket (s : State) (p : Packet) (cls inst : Nat) (code : Option Nat) : State :=
  let s := if p.resp && code == some cStaleEpoch then s
    else s.cairnLog 4 cls inst (code.getD 0) (min p.ctx 0xFF) [itRill p.dcol p.drow, itAddr p.addr]
  match code with
  | none => s
  | some c => match p.refusal c with
    | none => s
    | some a => s.inject a

/-- Does the rill's position answer as a rill: present and not failed (R106, R371)? -/
def State.alive (s : State) (k : Nat) : Bool := s.present k && !(s.rill k).failed

/-- Kinds that the chapters assign to a Levee endpoint: a memory endpoint (R161, R163), a Headwater endpoint or the host chiplet (R164, R227), a
torus endpoint (R164, R306); the answers to requests that endpoints make (R121, R163, R258, R272). -/
def epServes (ep kind : Nat) : Bool :=
  kind == 4
    || (match epKind ep with
        | 0 => [0x16, 0x30, 0x32, 0x33, 0x34, 0x35].contains kind
        | 1 => [3, 0x10, 0x12, 0x13, 0x14].contains kind
        | 2 | 3 => [0x16, 0x20, 0x22, 0x23, 0x24].contains kind
        | _ => false)

/-- Does the unit that a packet reaches serve its kind (R47)? -/
def Packet.served (p : Packet) : Bool :=
  if p.edge then epServes p.dcol p.kind else if p.pool then p.kind == 1 || p.kind == 2 else rillKinds.contains p.kind

/-- The bytes of a WRITE or READ with POOL clear lie wholly within the rill store (R47). -/
def Packet.inStore (p : Packet) : Bool :=
  if !p.edge && !p.pool && (p.kind == 1 || p.kind == 2) then decide (p.addr + p.len ≤ 0xC000) else true

/-- The checks of R47 by the unit that a packet reaches: a rill, a pool (its CTX and EPOCH are those of its home rill) or a Levee endpoint. -/
def State.unitCheck (s : State) (p : Packet) : Option (Option Nat) :=
  let r := s.rill (ridx p.dcol p.drow)
  if p.edge then checkPacket p none (s.rillEpoch p.ctx) p.served true else checkPacket p (some r.ctx) r.epoch p.served p.inStore

/-- CLASS and INSTANCE of the unit that a packet reaches (R589). -/
def Packet.dstUnit (p : Packet) : Nat × Nat := if p.edge then epUnit p.dcol else (clsReach, reachOf p.dcol p.drow)

/-- Packet i is taken in by its unit: one that carries ABORT is discarded and counted (R115), one that fails a check is rejected, and another one
has its effect. -/
def State.takes (s : State) (i : Nat) (p : Packet) (f : State → State) : State :=
  let s := s.takePacket i p
  if p.abort then s.fabInc (reachOf p.exit.1 p.exit.2) 0x440
  else match s.unitCheck p with
    | some code => s.rejectPacket p p.dstUnit.1 p.dstUnit.2 code
    | none => f s

/-- Does a MSG before packet i in the net wait for ring room at the same rill (R49)? -/
def State.backedUp (s : State) (i : Nat) (p : Packet) : Bool :=
  (s.net.take i).any (fun q => q.waits && q.dcol == p.dcol && q.drow == p.drow)
    || (s.net.drop (i + 1)).any (fun q => q.waits && q.dcol == p.dcol && q.drow == p.drow)

/-- Packet i, of a row's kind, has come to the unit that it is addressed to: a Levee endpoint, or a position that answers as a rill or pool. `pool`
tells the two rows of a WRITE or READ apart. While a MSG waits for ring room, the request channel toward its rill is backed up (R49, R52). -/
def State.arrives? (s : State) (i kind : Nat) (pool : Bool) : Option Packet :=
  match s.deliverable i with
  | none => none
  | some p =>
    if p.kind == kind && (decide (2 < kind) || p.pool == pool)
        && (p.edge || (s.alive (ridx p.dcol p.drow) && (p.resp || p.pool || !s.backedUp i p))) then some p else none

/-- A row of the packets: packet i reaches its unit, which checks it and, where it serves it, does what its kind says. -/
def State.packetRow (s : State) (i kind : Nat) (pool : Bool) (f : Packet → State → State) : Host.Outcome State Fault Refusal :=
  whenSome (s.arrives? i kind pool) s (fun p s => s.takes i p (f p))

end Sys2Proof.Machine
end

