-- ==== Sys2Proof/Machine/RsCode.lean ====
section
/-! DEFINITION. The code of Eztex links (R294): RS(544,514) over GF(2^10), with the field and the generator of IEEE 802.3 Clause 119
(PRESUMED, log 24): formed, dealt over the lanes, gathered and corrected. -/

namespace Sys2Proof.Machine

/-! ### The field: numbers below 1,024 modulo x^10 + x^3 + 1; α is 2 -/

/-- Product of two elements. -/
def gfMul (a b : Nat) : Nat :=
  let p := (List.range 10).foldl (fun r i => if b.testBit i then r ^^^ a <<< i else r) 0
  (List.range 9).foldl (fun r i => if r.testBit (18 - i) then r ^^^ 0x409 <<< (8 - i) else r) p

/-- Inverse of an element: its 1,022nd power, the product of its powers 2, 4, ..., 512. -/
def gfInv (a : Nat) : Nat :=
  ((List.range 9).foldl (fun (e : Nat × Nat) _ => let q := gfMul e.2 e.2; (gfMul e.1 q, q)) (1, a)).1

/-- Value of a polynomial, constant term first, at an element. -/
def gfAt (p : List Nat) (x : Nat) : Nat := p.foldr (fun c acc => gfMul acc x ^^^ c) 0

/-- Sum of two polynomials. -/
def gfAdd : List Nat → List Nat → List Nat
  | [], q => q
  | p, [] => p
  | a :: p, b :: q => (a ^^^ b) :: gfAdd p q

/-! ### Parity -/

/-- The generator, the product of x - α^j for j from 0 to 29, constant term first. -/
def rsGenerator : List Nat :=
  ((List.range 30).foldl (fun (e : List Nat × Nat) _ => (gfAdd (0 :: e.1) (e.1.map (gfMul e.2)), gfMul 2 e.2)) ([1], 1)).1

/-- α^i times the generator without its leading term, for i from 0 to 9: each one number, the term of x^k at bit 10 k. -/
def rsRows : List Nat :=
  [0x8fe282ece68a0011b235468f99448417ad07bd81eb9f7dcd69c5262305881fcb927880d0a0b,
   0x1dc595d9cc16402360638d1f22ad082f1a9f7b02d57eebbed2884cd60b103f9724f100a341f,
   0x3b8b2bb3982c8046c0c6187e455a105e352ed60da8fd575dad12d9ac12297f2e49e20044c3e,
   0x771647473959008d818c30bc1ab029bc2add8c1353fa3ebb5a25b348045bfe1c13e4098987c,
   0xee2c8e8a7bb2010b27186138b544527a553b3c26a7b4fd56bd4b26102cb6fe7827c812114f8,
   0xde599d34ff6642066e39c231fa88a4f4aa665c4c4d697a8d73960cb0596cfef0df9024229f0,
   0xbef32a4dfecc840cd87b8663753548eb545cb8989a92753ee62e5960b2d8ffe13f0448453e0,
   0x7fe6d4bffc9b480994f60ec67a6a90d4e8a955303764ea79c55cb2c161b9fdc2fe2c908a3c9,
   0xff8d397bf134d0030dec1d8ce4f529abd1d28e606e8954d78ab92512c372f9c5ec7d201679b,
   0xfd5a62d7eb69a0061bd83b19c9ea5255e3a518c9dd12a9ab1d704ab582edf1cbc8de402cb3f]

/-- The remainder after one more symbol. -/
def rsStep (r m : Nat) : Nat :=
  let f := m ^^^ r >>> 290
  (rsRows.zipIdx).foldl (fun acc e => if f.testBit e.2 then acc ^^^ e.1 else acc) ((r <<< 10) % 2 ^ 300)

/-- The parity of message symbols, the first symbol that of the highest power: its 30 symbols as one number, the first at the top. -/
def rsParity (msg : List Nat) : Nat := msg.foldl rsStep 0

/-- Symbols as one number, the first at the top. -/
def packSyms (l : List Nat) : Nat := l.foldl (fun r m => r * 1024 + m) 0

/-- The 30 parity symbols that follow the message symbols. -/
def paritySyms (msg : List Nat) : List Nat := (List.range 30).map (fun i => rsParity msg >>> (10 * (29 - i)) % 1024)

/-! ### Correction -/

/-- The 30 syndromes of a word whose remainder is r: its values at α^0, α^1, ... -/
def syndromes (r : Nat) : List Nat :=
  let p := (List.range 30).map (fun k => r >>> (10 * k) % 1024)
  ((List.range 30).foldl (fun (e : List Nat × Nat) _ => (e.1 ++ [gfAt p e.2], gfMul 2 e.2)) ([], 1)).1

/-- A register that generates the syndromes seen so far: its connection polynomial, its length, the polynomial before its last change of length,
the steps since then and the discrepancy met then. -/
structure RsReg where
  conn : List Nat
  len : Nat
  old : List Nat
  gap : Nat
  disc : Nat

/-- The shortest register for one more syndrome, the n-th. -/
def RsReg.next (syn : List Nat) (q : RsReg) (n : Nat) : RsReg :=
  let d := (List.range (q.len + 1)).foldl (fun acc i => acc ^^^ gfMul (q.conn.getD i 0) (syn.getD (n - i) 0)) 0
  if d = 0 then { q with gap := q.gap + 1 }
  else
    let conn := gfAdd q.conn (List.replicate q.gap 0 ++ q.old.map (gfMul (gfMul d (gfInv q.disc))))
    if 2 * q.len ≤ n then { conn, len := n + 1 - q.len, old := q.conn, gap := 1, disc := d } else { q with conn, gap := q.gap + 1 }

/-- The shortest register that generates the syndromes: its polynomial locates the errors. -/
def rsLocator (syn : List Nat) : RsReg := (List.range 30).foldl (RsReg.next syn) ⟨[1], 0, [1], 1, 1⟩

/-- What is wrong in each place that a locator names: the place, counted from the first symbol, and what the symbol is off by. -/
def rsErrors (syn conn : List Nat) : List (Nat × Nat) :=
  let omega := (List.range 30).map (fun n => (List.range (n + 1)).foldl (fun acc i => acc ^^^ gfMul (conn.getD i 0) (syn.getD (n - i) 0)) 0)
  let slope := conn.tail.zipIdx.map (fun e => if e.2 % 2 = 0 then e.1 else 0)
  let back := gfInv 2
  ((List.range 544).foldl (fun (a : List (Nat × Nat) × Nat) p =>
    let x := a.2
    ((if gfAt conn x = 0 then (543 - p, gfMul (gfInv x) (gfMul (gfAt omega x) (gfInv (gfAt slope x)))) :: a.1 else a.1), gfMul x back)) ([], 1)).1

/-- The message symbols of a received word and how many symbols were corrected; none where it differs from every codeword in more than 15. -/
def rsDecode (w : List Nat) : Option (List Nat × Nat) :=
  let r := rsParity (w.take 514) ^^^ packSyms (w.drop 514)
  if r = 0 then some (w.take 514, 0)
  else
    let syn := syndromes r
    let q := rsLocator syn
    if 15 < q.len then none
    else
      let errs := rsErrors syn q.conn
      let v := errs.foldl (fun w e => setAt w e.1 (w.getD e.1 0 ^^^ e.2)) w
      if rsParity (v.take 514) = packSyms (v.drop 514) then some (v.take 514, errs.length) else none

/-! ### Codewords and lanes -/

/-- The 514 message symbols of a codeword: its flits, then the control word. -/
def cwSymbols (cw : Codeword) : List Nat :=
  let v := leNat cw.flits.flatten + (cw.map + 1024 * cw.seq) * 2 ^ 5120
  (List.range 514).map (fun i => v >>> (10 * i) % 1024)

/-- The codeword that message symbols spell. -/
def codewordOf (msg : List Nat) : Codeword :=
  let v := packSyms msg.reverse
  { flits := (List.range 10).map (fun i => leBytes 64 (v >>> (512 * i))), map := v >>> 5120 % 1024, seq := v >>> 5130 % 1024 }

/-- Symbols dealt over the 8 lanes in turn. -/
def toLanes (w : List Nat) : Lanes :=
  let rows := (List.range 68).map (fun j => (w.drop (8 * j)).take 8)
  (List.range 8).map (fun k => rows.map (fun r => r.getD k 0))

/-- The symbols of the 8 lanes in the order in which they were dealt. -/
def ofLanes (l : Lanes) : List Nat := (List.range 68).flatMap (fun j => l.map (fun k => k.getD j 0))

/-- A codeword as its lanes carry it. -/
def cwLanes (cw : Codeword) : Lanes := toLanes (cwSymbols cw ++ paritySyms (cwSymbols cw))

/-- The codeword that lanes carry and how many symbols were corrected; none where it cannot be corrected. -/
def codewordIn (lanes : Lanes) : Option (Codeword × Nat) := (rsDecode (ofLanes lanes)).map (fun e => (codewordOf e.1, e.2))

end Sys2Proof.Machine
end

