-- ==== Sys2Proof/Machine/EzWire.lean ====
section
/-! DEFINITION. Sending on Eztex (09 R291-R315): job slots, ranks and groups, routes of the torus, the choice of a link, credits and
codewords. Reception stands in EzLink.lean. -/

namespace Sys2Proof.Machine

/-! ### Job slots, ranks, groups (R312-R315, R331-R333) -/

/-- Is a job slot VALID? -/
def State.jobValid (s : State) (j : Nat) : Bool := s.regB (aJob j 0) 31
/-- The job slot that a context owns (R312). -/
def State.jobOf (s : State) (ctx : Nat) : Option Nat :=
  (List.range 4).find? (fun j => s.jobValid j && s.regF (aJob j 0) 0 5 == ctx)
/-- JOB_ID of a slot. -/
def State.jobId (s : State) (j : Nat) : Nat := s.regN (aJob j 4)
/-- SELF_RANK of a slot. -/
def State.selfRank (s : State) (j : Nat) : Nat := s.regF (aJob j 8) 0 14
/-- COLL_TIMEOUT of a slot in ns (0 selects 10 ms). -/
def State.collTimeout (s : State) (j : Nat) : Nat :=
  (if s.regF (aJob j 8) 16 10 = 0 then 10 else s.regF (aJob j 8) 16 10) * 1000000
/-- The job slot of a JOB_ID. -/
def State.jobOfId (s : State) (id : Nat) : Option Nat := (List.range 4).find? (fun j => s.jobValid j && s.jobId j == id)

/-- A rank table entry (R332). -/
def State.rankWord (s : State) (j r : Nat) : W32 := s.reg (aRank j r)
/-- Coordinate of a rank. -/
def rankCoord (w : W32) : Coord := { x := fld w 0 4, y := fld w 4 4, z := fld w 8 5 }

/-- Members of a group. -/
def State.groupN (s : State) (g : Nat) : Nat := s.regF (aGroup g 1) 0 15
/-- This module's index in a group. -/
def State.groupSelf (s : State) (g : Nat) : Nat := s.regF (aGroup g 1) 16 14
/-- Job slot of a group. -/
def State.groupJob (s : State) (g : Nat) : Nat := s.regF (aGroup g 0) 20 2
/-- Is the entry VALID? -/
def State.groupValid (s : State) (g : Nat) : Bool := s.regB (aGroup g 0) 31
/-- Entry m of the member-list memory. -/
def State.memberAt (s : State) (m : Nat) : Nat := s.regF (aMember m) (16 * (m % 2)) 14
/-- Rank of member i of a group. -/
def State.memberRank (s : State) (g i : Nat) : Nat := s.memberAt (s.regF (aGroup g 0) 0 18 + i)
/-- Member index of a rank in a group. -/
def State.memberOf (s : State) (g rank : Nat) : Option Nat := (List.range (s.groupN g)).find? (fun i => s.memberRank g i == rank)
/-- A group that the context may use (R315, R316). -/
def State.groupOk (s : State) (ctx g : Nat) : Bool := s.groupValid g && s.jobOf ctx == some (s.groupJob g)

/-! ### The torus (R308-R311) -/

/-- This module's coordinate. -/
def State.selfCoord (s : State) : Coord :=
  { x := s.regF (rg clsRank 0 0x100) 0 4, y := s.regF (rg clsRank 0 0x100) 8 4, z := s.regF (rg clsRank 0 0x100) 16 5 }
/-- Size of a dimension (TORUS_SIZE). -/
def State.torusSize (s : State) (dim : Nat) : Nat :=
  if dim = 0 then s.regF (rg clsRank 0 0x104) 0 5 else if dim = 1 then s.regF (rg clsRank 0 0x104) 8 5
  else s.regF (rg clsRank 0 0x104) 16 6
/-- A coordinate in one dimension. -/
def coordAt (c : Coord) (dim : Nat) : Nat := if dim = 0 then c.x else if dim = 1 then c.y else c.z
/-- The PLANE strap: 0 none, 1 A, 2 B. -/
def State.plane (s : State) : Nat := s.regF (rg clsRank 0 0x100) 24 2

/-- Hops in the + direction, modulo the size. -/
def plusHops (a b size : Nat) : Nat := (b + size - a % size) % size

/-- Links of a direction that are ON, in order of position. -/
def State.onLinks (s : State) (dir : Nat) : List Nat := (bundle dir).filter (fun l => s.isOn clsLink l)

/-- First buffer of a class. -/
def classBuf (cls : Nat) : Nat := if cls = 2 then 0 else if cls = 0 then 2 else 4
/-- Index of a buffer of R299: class RED, REQ, RSP, each with its dateline halves (log 22). -/
def bufOf (p : WirePkt) : Nat := classBuf p.cls + b2n p.dateline
/-- Flits of a wire packet (R303). -/
def wireFlits (p : WirePkt) : Nat := 1 + (p.payload.length + 63) / 64
/-- Buffer sizes of R299 in flits. -/
def bufSizes : List Nat := [4096, 4096, 2048, 2048, 1024, 1024]

/-- A link's state. -/
def State.link (s : State) (l : Nat) : LinkSt := look LinkSt.init s.links l
/-- A link's state set. -/
def State.setLink (s : State) (l : Nat) (x : LinkSt) : State := { s with links := put s.links l x }
/-- Credits of a buffer. -/
def LinkSt.room (x : LinkSt) (b : Nat) : Nat := (x.credit.getD b 0 + 65536 - x.used.getD b 0) % 65536
/-- Has the bundle any credit in a class? -/
def State.bundleCredit (s : State) (dir cls : Nat) : Bool :=
  (s.onLinks dir).any (fun l => decide (1 ≤ (s.link l).room (classBuf cls)) || decide (1 ≤ (s.link l).room (classBuf cls + 1)))
/-- Notes since when the bundle of a direction has had no credit in each class (R311). -/
def State.noteCredit (s : State) (dir : Nat) : State :=
  { s with starved := (List.range 3).foldl (fun m cls =>
      if s.bundleCredit dir cls then del m (3 * dir + cls)
      else if (look? m (3 * dir + cls)).isSome then m else put m (3 * dir + cls) s.clk.now) s.starved }
/-- Has the bundle had no credit in a class for ALT_WAIT, of `wait` units of 8 ns? -/
def State.starvedFor (s : State) (dir cls wait : Nat) : Bool :=
  match look? s.starved (3 * dir + cls) with
  | some t => !inWindow s.clk.now t (8 * wait)
  | none => false

/-- The first dimension in which the packet is not yet at its destination; 3 for the twin crossing, none at the destination. -/
def State.routeDim (s : State) (p : WirePkt) : Option Nat :=
  match (List.range 3).find? (fun d => coordAt s.selfCoord d != coordAt p.dst d) with
  | some d => some d
  | none => if p.dstTwin then some 3 else none

/-- The direction of a packet that enters a dimension (R309, R311), or that goes on in it (`via` is the direction it travels). A REQ
or RSP packet takes the longer way when the shorter one has no link ON, and may take it when the shorter one has had no credit in its class for
ALT_WAIT: whether it does is a free value (log 23). -/
def State.routeDir (s : State) (p : WirePkt) (via : Option Nat) : Option Nat × State :=
  match s.routeDim p with
  | none => (none, s)
  | some 3 => (some 6, s)
  | some d =>
    if via = some (2 * d) ∨ via = some (2 * d + 1) then (via, s)
    else
      let size := max 1 (s.torusSize d)
      let plus := plusHops (coordAt s.selfCoord d) (coordAt p.dst d) size
      let minus := size - plus
      let short := if plus ≤ minus then 2 * d else 2 * d + 1
      let long := if plus ≤ minus then 2 * d + 1 else 2 * d
      let ctl := s.reg (rg clsLink ((bundle short).headD 0) 0x100)
      let extra := max plus minus - min plus minus
      if p.cls ≠ 2 ∧ bitOf ctl 1 ∧ extra ≤ fld ctl 8 4 then
        if (s.onLinks short).isEmpty then (some long, s)
        else if s.starvedFor short p.cls (fld ctl 12 12) then
          let (v, s) := s.draw64
          (some (if v.getLsbD 0 then long else short), s)
        else (some short, s)
      else (some short, s)

/-- DATELINE of a packet that leaves in a direction (R310): half 1 from the link between coordinate size - 1 and coordinate 0 on, half
0 on entering a dimension. -/
def State.dateline (s : State) (p : WirePkt) (dir : Nat) (entering : Bool) : Bool :=
  let size := max 1 (s.torusSize (dir / 2))
  let c := coordAt s.selfCoord (dir / 2)
  let crosses := decide (dir < 6) && (if dir % 2 = 0 then c + 1 == size else c == 0)
  crosses || (!entering && p.dateline)

/-- Credits of a class: those of both its buffers (R299). -/
def LinkSt.classRoom (x : LinkSt) (cls : Nat) : Nat := x.room (classBuf cls) + x.room (classBuf cls + 1)

/-- The link of a bundle that a packet uses (R311): by ARG for RED; otherwise the one with the most credits in the packet's class, the first of
equal ones. -/
def State.pickLink (s : State) (p : WirePkt) (dir : Nat) : Option Nat :=
  let on := s.onLinks dir
  if p.cls = 2 then on[p.arg % max 1 on.length]?
  else on.foldl (fun best l =>
    match best with
    | none => some l
    | some b => if (s.link b).classRoom p.cls < (s.link l).classRoom p.cls then some l else best) none

/-! ### Flits (R294, R298, R303) -/

/-- The 64 bytes of a packet's header, HCHK the last (R303). -/
def wireHead (p : WirePkt) : List Byte :=
  let b := leBytes 1 p.type ++ leBytes 1 (p.cls + 4 * b2n p.dateline + 8 * b2n p.poison + 16 * b2n p.last) ++ leBytes 2 p.len
    ++ leBytes 4 (p.dst.x + 2 ^ 8 * p.dst.y + 2 ^ 16 * p.dst.z + 2 ^ 24 * b2n p.dstTwin) ++ leBytes 2 p.dstRank ++ leBytes 2 p.srcRank
    ++ leBytes 4 p.jobId ++ leBytes 2 p.group ++ leBytes 2 0 ++ leBytes 4 p.seq ++ leBytes 4 p.sig ++ leBytes 4 p.age ++ leBytes 8 p.offset
    ++ leBytes 4 p.arg ++ leBytes 4 p.chk ++ leBytes 4 p.epoch ++ leBytes 8 p.arg2
  b ++ leBytes 4 (crc32c b)

/-- Bytes cut into flits of 64 B, the last one padded with zeros. -/
def flitsOf (b : List Byte) : List (List Byte) := (List.range ((b.length + 63) / 64)).map (fun k => padTo 64 ((b.drop (64 * k)).take 64))

/-- The flits of a packet: its header and its payload. -/
def packetFlits (p : WirePkt) : List (List Byte) := wireHead p :: flitsOf p.payload

/-- The packet that a header flit and its payload spell, and whether HCHK matches. -/
def wireOf (h b : List Byte) : WirePkt × Bool :=
  let f := at' h 1 1
  let d := at' h 4 4
  ({ type := at' h 0 1, cls := f % 4, dateline := f.testBit 2, poison := f.testBit 3, last := f.testBit 4, len := at' h 2 2,
     dst := { x := nfld d 0 4, y := nfld d 8 4, z := nfld d 16 5 }, dstTwin := d.testBit 24, dstRank := at' h 8 2, srcRank := at' h 10 2,
     jobId := at' h 12 4, group := at' h 16 2, seq := at' h 20 4, sig := at' h 24 4, age := at' h 28 4, offset := at' h 32 8, arg := at' h 40 4,
     chk := at' h 44 4, epoch := at' h 48 4, arg2 := at' h 52 8, payload := b.take (at' h 2 2) }, at' h 60 4 == crc32c (h.take 60))

/-- The 64 bytes of a link-control flit, its CRC the last (R298). -/
def LcFlit.bytes (f : LcFlit) : List Byte :=
  let b := leBytes 1 f.type ++ leBytes 1 0 ++ leBytes 2 f.last ++ (List.range 6).flatMap (fun i => leBytes 2 (f.credits.getD i 0)) ++ leBytes 4 f.epoch
    ++ List.replicate 40 0
  b ++ leBytes 4 (crc32c b)

/-- The link-control flit that 64 bytes spell; none where the CRC is bad, and the flit is ignored (R298). -/
def lcFlitOf (b : List Byte) : Option LcFlit :=
  if at' b 60 4 = crc32c (b.take 60) then
    some { type := at' b 0 1, last := at' b 2 2, credits := (List.range 6).map (fun i => at' b (4 + 2 * i) 2), epoch := at' b 16 4 }
  else none

/-- The last CW_SEQ accepted; before the first codeword, the number before 0. -/
def LinkSt.last (x : LinkSt) : Nat := x.rxLast.getD 1023
/-- The control flit of an LC_TYPE that a link would send now (R298). -/
def State.lcNow (s : State) (l type : Nat) : LcFlit :=
  { type, last := (s.link l).last, credits := (s.link l).freed, epoch := s.pageEpoch clsLink l }

/-! ### Codewords sent (R294, R298-R300) -/

/-- What a packet becomes on a link: it carries the link's EPOCH; on a forerunner link every CHUNK and P2P packet has 4,096 B of payload and its
CRC-32C in CHK, a done chunk of LEN 0 apart (R327; log 149); on any other link CHK is 0 (R303). -/
def State.onLink (s : State) (l : Nat) (p : WirePkt) : WirePkt :=
  let p := { p with epoch := s.pageEpoch clsLink l }
  if s.regB (rg clsLink l 0x100) 0 ∧ (p.type = 2 ∨ p.type = 5) ∧ p.len ≠ 0 then
    let pay := padTo 4096 p.payload
    { p with payload := pay, len := 4096, chk := crc32c pay }
  else { p with chk := 0 }

/-- A flit of a codeword to be sent: whether it is a control flit, its bytes, and the packet that it belongs to. -/
abbrev TxFlit := Bool × List Byte × Option (Nat × WirePkt)

/-- A codeword of up to 10 flits goes out, IDLE flits in the places left, and is kept until it is acknowledged (R294, R298; log 24). -/
def State.sendCodeword (s : State) (l : Nat) (fs : List TxFlit) : State :=
  let x := s.link l
  let fs := fs ++ List.replicate (10 - fs.length) (true, (s.lcNow l 0).bytes, none)
  let cw : Codeword := { flits := fs.map (fun f => f.2.1), map := sumL ((List.range 10).map (fun i => if (fs[i]?.map (·.1)).getD false then 2 ^ i else 0)), seq := x.txSeq }
  let pkts := fs.foldl (fun acc f => match f.2.2 with
    | some e => if acc.any (fun (a : Nat × WirePkt) => a.1 == e.1) then acc else acc ++ [e]
    | none => acc) []
  (s.setLink l { x with txSeq := (x.txSeq + 1) % 1024, unacked := x.unacked ++ [⟨cw, 0, pkts⟩] }).emit (.codeword l (cwLanes cw))

/-- Codewords of 10 flits each; the first number is at least how many there are. -/
def State.sendFlits (s : State) (l : Nat) : Nat → List TxFlit → State
  | 0, _ => s
  | f + 1, fs => if fs.isEmpty then s else (s.sendCodeword l (fs.take 10)).sendFlits l f (fs.drop 10)

/-- Is packet a older than packet b (R118)? -/
def olderWire (a b : WirePkt) : Bool := let d := (b.age + 2 ^ 32 - a.age) % 2 ^ 32; d != 0 && decide (d < 2 ^ 31)

/-- Place of the oldest waiting packet that a choice takes; of packets of equal AGE, the one that has waited longest. -/
def oldestWire (sel : WirePkt → Bool) (l : List WirePkt) : Option Nat :=
  (List.range l.length).foldl (fun best i =>
    match l[i]?, best.bind (fun b => l[b]?) with
    | some p, some b => if sel p && olderWire p b then some i else best
    | some p, none => if sel p then some i else best
    | none, _ => best) none

/-- The packet of a class that goes next: the oldest of a buffer, if the buffer has credit for it; of two buffers', the older (R299, R300). -/
def LinkSt.classNext (x : LinkSt) (flits : WirePkt → Nat) (k : Nat) : Option Nat :=
  let head (b : Nat) : Option Nat := (oldestWire (fun p => bufOf p == b) x.wait).bind (fun i =>
    match x.wait[i]? with
    | some p => if flits p ≤ x.room b then some i else none
    | none => none)
  match head (2 * k), head (2 * k + 1) with
  | some i, some j => (match x.wait[i]?, x.wait[j]? with
    | some p, some q => if olderWire q p then some j else some i
    | _, _ => some i)
  | some i, none => some i
  | none, j => j

/-- The next packet of a link (R300): of the classes that have one, that which has been served the fewest flits; a class that has none gains no
claim meanwhile. -/
def LinkSt.next (x : LinkSt) (flits : WirePkt → Nat) : Option (Nat × Nat) :=
  (List.range 3).foldl (fun best k =>
    match x.classNext flits k, best with
    | some i, some (b : Nat × Nat) => if x.served.getD k 0 < x.served.getD b.1 0 then some (k, i) else best
    | some i, none => some (k, i)
    | none, _ => best) none

/-- The packets that a link sends now, in order: while one has credit and the codewords not acknowledged stay at 512 (R298-R300). `n` counts the
flits chosen so far. -/
def LinkSt.choose (flits : WirePkt → Nat) : Nat → Nat → LinkSt → List WirePkt → LinkSt × List WirePkt
  | 0, _, x, ps => (x, ps)
  | f + 1, n, x, ps =>
    match x.next flits with
    | none => (x, ps)
    | some (k, i) =>
      match x.wait[i]? with
      | none => (x, ps)
      | some p =>
        if 512 < x.unacked.length + (n + flits p + 9) / 10 then (x, ps)
        else
          let b := bufOf p
          let now := x.served.getD k 0
          let served := (List.range 3).map (fun c => if c = k then now + flits p else if (x.classNext flits c).isSome then x.served.getD c 0 else max now (x.served.getD c 0))
          LinkSt.choose flits f (n + flits p)
            { x with wait := dropAt x.wait i, served, used := setAt x.used b ((x.used.getD b 0 + flits p) % 65536) } (ps ++ [p])

/-- A page that takes codewords: ON, or STOPPING until every codeword it sent is acknowledged. -/
def State.linkUp (s : State) (l : Nat) : Bool := s.isOn clsLink l || s.pst clsLink l == stStopping

/-- A link sends what it can: the control flits that are due, then packets. TX_FLITS counts the packets' flits (log 24). -/
def State.linkPump (s : State) (l : Nat) : State :=
  if !s.linkUp l then s
  else
    let x := s.link l
    let room := 10 * (512 - x.unacked.length)
    let lc : List TxFlit := (x.lcOut.take room).map (fun k => (true, (s.lcNow l k).bytes, none))
    let (x, ps) := LinkSt.choose (fun p => wireFlits (s.onLink l p)) x.wait.length lc.length { x with lcOut := x.lcOut.drop room } []
    let ps := (List.range ps.length).filterMap (fun i => (ps[i]?).map (fun p => (x.txCount + i, s.onLink l p)))
    let fs := lc ++ ps.flatMap (fun e => (packetFlits e.2).map (fun b => ((false, b, some e) : TxFlit)))
    let s := (s.setLink l { x with txCount := x.txCount + ps.length }).sendFlits l fs.length fs
    let s := s.add64 (rg clsLink l 0x110) (sumL (ps.map (fun e => wireFlits e.2)))
    (ps.foldl (fun s e => s.feedUnit (linkEndpoint l) 2 (linkUnit l) 1 e.2.payload) s).noteCredit (linkDir l)

/-- A packet that is on a bundle takes one of its links, or waits for one that is ON. -/
def State.takeLink (s : State) (p : WirePkt) (dir : Nat) : State :=
  match s.pickLink p dir with
  | none => { s with wireHold := s.wireHold ++ [⟨p, some dir, true⟩] }
  | some l => (s.setLink l { s.link l with wait := (s.link l).wait ++ [p] }).linkPump l

/-- A packet leaves this module toward its destination (R309-R311); with no ON link in its bundle it waits, and its direction is chosen anew as it
leaves. `via` is the direction in which a transit packet travels. -/
def State.wireOut (s : State) (p : WirePkt) (via : Option Nat) : State :=
  match s.routeDir p via with
  | (none, s) => s
  | (some dir, s) =>
    let q := { p with dateline := s.dateline p dir (!(via == some dir)) }
    if (s.pickLink q dir).isSome then s.takeLink q dir else { s with wireHold := s.wireHold ++ [⟨p, via, false⟩] }

/-- Packets that found no ON link go on where there is one now. -/
def State.retryHold (s : State) : State :=
  s.wireHold.foldl (fun s (h : HeldWire) => if h.fixed then s.takeLink h.pkt (h.via.getD 0) else s.wireOut h.pkt h.via) { s with wireHold := [] }

/-- A packet with its header blank but for what every packet of this module carries. -/
def State.wireBlank (s : State) (j : Nat) : WirePkt :=
  { type := 0, cls := 0, dateline := false, poison := false, last := false, len := 0, dst := { x := 0, y := 0, z := 0 }, dstTwin := false,
    dstRank := 0, srcRank := s.selfRank j, jobId := s.jobId j, group := 0, seq := 0, sig := 0, age := s.clk.now / 8 % 2 ^ 32, offset := 0,
    arg := 0, chk := 0, epoch := 0, arg2 := 0, payload := [] }

/-- A packet for a rank of a job: the endpoint fills DST and DST_RANK from the rank table (R313). -/
def State.wireTo (s : State) (j rank : Nat) (p : WirePkt) : State :=
  let w := s.rankWord j rank
  s.wireOut { p with dst := rankCoord w, dstTwin := bitOf w 13, dstRank := rank, len := p.payload.length } none

end Sys2Proof.Machine
end

