-- ==== Sys2Proof/Machine/Xl.lean ====
section
/-! DEFINITION. Translation (06 R190-R203, R588): stack sets, the walk, the TLBs and walk caches, latched faults, and stack accesses
through a context's virtual space. Translation units 0 to 11 are those of the memory chiplets, 12 is the host chiplet's. -/

namespace Sys2Proof.Machine

/-! ### Stack sets (R192, R193) -/

abbrev aXl (c off : Nat) : Nat := rg clsXl c off
/-- SETk of a context. -/
def State.setWord (s : State) (c k : Nat) : W32 := s.reg (aXl c (0x108 + 4 * k))
/-- Is a set valid? -/
def State.setOk (s : State) (c k : Nat) : Bool := bitOf (s.setWord c k) 31
/-- Members of a set, in rising order. -/
def State.setMembers (s : State) (c k : Nat) : List Nat := bitsSet 24 (fld (s.setWord c k) 0 24)
/-- Granule of a set in bytes. -/
def State.setGranule (s : State) (c k : Nat) : Nat := 4096 * 2 ^ fld (s.setWord c k) 24 3
/-- W of a context's window (R192, R492). -/
def State.winBase (s : State) (c : Nat) : Nat := s.reg64 (aPt c 2)
/-- WSIZE of a context's window. -/
def State.winSize (s : State) (c : Nat) : Nat := s.reg64 (aPt c 4)

/-- Are the set addresses [a, a + n) valid in a set (R192)? -/
def State.setAddrOk (s : State) (c k a n : Nat) : Bool := decide (a + n ≤ (s.setMembers c k).length * s.winSize c)

/-- Stack position and offset of a set address (R192). -/
def State.setPlace (s : State) (c k a : Nat) : Nat × Nat :=
  let g := s.setGranule c k
  let m := s.setMembers c k
  (m.getD (a / g % max 1 m.length) 0, s.winBase c + a / g / max 1 m.length * g + a % g)

/-- Set addresses [a, a + n) as (position, offset, bytes), granule by granule. -/
def State.setSegs (s : State) (c k : Nat) : Nat → Nat → Nat → List (Nat × Nat × Nat)
  | 0, _, _ => []
  | f + 1, a, n =>
    if n = 0 then []
    else
      let g := s.setGranule c k
      let len := min n (g - a % g)
      ((s.setPlace c k a).1, (s.setPlace c k a).2, len) :: s.setSegs c k f (a + len) (n - len)

/-- KIND of a failure that a stack's state gives: 9 FAULTED, 10 otherwise not ON (R201). -/
def State.stackKind (s : State) (pos : Nat) : Option Nat :=
  if s.isOn clsStack pos then none else if s.pst clsStack pos = stFaulted then some 9 else some 10

/-- The first failure among segments, in address order (R201 gives no order; log 169). -/
def State.segsKind (s : State) (l : List (Nat × Nat × Nat)) : Option Nat := l.findSome? (fun g => s.stackKind g.1)

/-! ### The walk (R195-R198) -/

/-- A failed translation: KIND, LEVEL and XL_FAULT_VA (R201, R588). -/
structure XlFail where
  kind : Nat
  level : Nat
  va : Nat
  deriving DecidableEq, Repr

/-- Bits of a page table entry that are reserved: 11 and 63:57. -/
def pteReserved (e : Nat) : Bool := nfld e 11 1 != 0 || nfld e 57 7 != 0
/-- BASE of an entry as a set address. -/
def pteBase (e : Nat) : Nat := nfld e 12 45 * 4096

/-- One entry of a table read from its stack: the entry, or the KIND of the failure. -/
def State.readPte (s : State) (c set base va level : Nat) : Nat ⊕ Nat :=
  if !s.setOk c set then .inl 6
  else if !s.setAddrOk c set base 4096 then .inl 5
  else
    let (pos, off) := s.setPlace c set (base + 8 * nfld va (12 + 9 * level) 9)
    match s.stackKind pos with
    | some k => .inl k
    | none => if s.stackPois pos off 8 then .inl 7 else .inr (leNat (s.stackRead pos off 8))

/-- The leaf that an entry maps, or the KIND of its failure (R198). -/
def leafOf (unit c va level e : Nat) : Nat ⊕ Tlb :=
  let ps := nfld e 4 5
  let ok := if level = 1 then decide (21 ≤ ps) && decide (ps ≤ 28) else decide (level = 0) && decide (12 ≤ ps) && decide (ps ≤ 20)
  if !ok || pteReserved e || pteBase e % 2 ^ ps != 0 then .inl 3
  else .inr { unit, ctx := c, va := va / 2 ^ ps * 2 ^ ps, ps, set := nfld e 9 2, base := pteBase e, level, rd := e.testBit 2, wr := e.testBit 3 }

/-- Is a table pointer well formed (R196)? -/
def pointerOk (e : Nat) : Bool := !pteReserved e && nfld e 4 5 == 0 && !e.testBit 2 && !e.testBit 3

/-- The walk from a level downward (R198): the page, and the entries of levels 4 to 1 that it read. An entry of the walk cache is used
in place of a read. -/
def State.walkFrom (s : State) (unit c va : Nat) : Nat → Nat → Nat → List WalkEnt → (Nat × Nat) ⊕ Tlb × List WalkEnt
  | 0, _, _, _ => .inl (3, 0)
  | l + 1, set, base, read =>
    let cached := s.walkCache.find? (fun w => w.unit == unit && w.ctx == c && w.level == l && w.idx == va / 2 ^ (12 + 9 * l))
    let got : Nat ⊕ Nat := match cached with
      | some w => .inr w.word
      | none => s.readPte c set base va l
    match got with
    | .inl k => .inl (k, l)
    | .inr e =>
      let read := if cached.isNone ∧ 1 ≤ l then read ++ [{ unit, ctx := c, level := l, idx := va / 2 ^ (12 + 9 * l), word := e }] else read
      if e % 2 = 0 then .inl (1, l)
      else if e.testBit 1 then
        match leafOf unit c va l e with
        | .inl k => .inl (k, l)
        | .inr t => .inr (t, read.filter (fun w => w.level != l))
      else if l = 0 ∨ pointerOk e = false then .inl (3, l)
      else s.walkFrom unit c va l (nfld e 9 2) (pteBase e) read

/-- A list of entries of one unit that keeps at most `cap`: the entry that makes room is a free value (R199 gives no rule; log 25). -/
def makeRoom {α : Type} (isUnit : α → Bool) (cap : Nat) (free : Nat) (l : List α) : List α :=
  let mine := (List.range l.length).filter (fun i => (l[i]?.map isUnit).getD false)
  if mine.length < cap then l else dropAt l (mine.getD (free % max 1 mine.length) 0)

/-- A page kept in the TLB of its unit. -/
def State.tlbAdd (s : State) (t : Tlb) : State :=
  let (v, s') := if countIf (fun (x : Tlb) => x.unit == t.unit) s.tlb < 4096 then ((0 : W64), s) else s.draw64
  { s' with tlb := makeRoom (fun (x : Tlb) => x.unit == t.unit) 4096 v.toNat s.tlb ++ [t] }

/-- Table entries kept in the walk cache of their unit. -/
def State.walkAdd (s : State) (w : WalkEnt) : State :=
  let (v, s') := if countIf (fun (x : WalkEnt) => x.unit == w.unit) s.walkCache < 256 then ((0 : W64), s) else s.draw64
  { s' with walkCache := makeRoom (fun (x : WalkEnt) => x.unit == w.unit) 256 v.toNat s.walkCache ++ [w] }

/-- The TLB entry of an address in a unit. -/
def State.tlbHit (s : State) (unit c va : Nat) : Option Tlb :=
  s.tlb.find? (fun t => t.unit == unit && t.ctx == c && decide (t.va ≤ va) && decide (va < t.va + 2 ^ t.ps))

/-- A walk starts, and TLB_MISS counts it (R210). -/
def State.walkStart (s : State) (c : Nat) : State := s.add64 (aXl c 0x140) 1

/-- A walk ends: the page, kept in the TLB unless another walk has brought it since, or the failure. The walk cache keeps no entry of a walk that
ends in a failure (R199 does not say; log 168). -/
def State.walkEnd (s : State) (unit c va : Nat) : (XlFail ⊕ Tlb) × State :=
  let root := s.reg64 (aXl c 0x100)
  match s.walkFrom unit c va 5 (root % 4) (nfld root 12 45 * 4096) [] with
  | .inl (k, l) => (.inl ⟨k, l, va⟩, s)
  | .inr (t, read) =>
    let s := read.foldl State.walkAdd s
    (.inr t, if (s.tlbHit unit c va).isSome then s else s.tlbAdd t)

/-- The page of an address, by the TLB or by a walk that ends at once. -/
def State.xlPage (s : State) (unit c va : Nat) : (XlFail ⊕ Tlb) × State :=
  match s.tlbHit unit c va with
  | some t => (.inr t, s)
  | none => (s.walkStart c).walkEnd unit c va

/-- Bytes of a request in one page: their segments, or the failure (R198, R200). Where several kinds apply, PERM comes first, then SET_INVALID, then
ADDR (the rule gives no order; log 169). -/
def State.pageSegs (s : State) (t : Tlb) (c va n : Nat) (wr : Bool) : XlFail ⊕ List (Nat × Nat × Nat) :=
  let a := t.base + (va - t.va)
  if !(if wr then t.wr else t.rd) then .inl ⟨2, t.level, va⟩
  else if !s.setOk c t.set then .inl ⟨6, t.level, va⟩
  else if !s.setAddrOk c t.set a n then .inl ⟨5, t.level, va⟩
  else
    let l := s.setSegs c t.set (n / 4096 + 2) a n
    match s.segsKind l with
    | some k => .inl ⟨k, t.level, va⟩
    | none => .inr l

/-- Every page of a request translated, lowest first (R200). -/
def State.xlPages (s : State) (unit c : Nat) (wr : Bool) : Nat → Nat → Nat → (XlFail ⊕ List (Nat × Nat × Nat)) × State
  | 0, _, _ => (.inr [], s)
  | f + 1, va, n =>
    if n = 0 then (.inr [], s)
    else
      match s.xlPage unit c va with
      | (.inl e, s) => (.inl e, s)
      | (.inr t, s) =>
        let len := min n (t.va + 2 ^ t.ps - va)
        match s.pageSegs t c va len wr with
        | .inl e => (.inl e, s)
        | .inr l =>
          match s.xlPages unit c wr f (va + len) (n - len) with
          | (.inl e, s) => (.inl e, s)
          | (.inr l', s) => (.inr (l ++ l'), s)

/-- A request translated by the TLB alone, lowest page first (R200): the first address whose page needs a walk, the failure, or the segments. -/
def State.xlTry (s : State) (unit c : Nat) (wr : Bool) : Nat → Nat → Nat → Nat ⊕ (XlFail ⊕ List (Nat × Nat × Nat))
  | 0, _, _ => .inr (.inr [])
  | f + 1, va, n =>
    if n = 0 then .inr (.inr [])
    else
      match s.tlbHit unit c va with
      | none => .inl va
      | some t =>
        let len := min n (t.va + 2 ^ t.ps - va)
        match s.pageSegs t c va len wr with
        | .inl e => .inr (.inl e)
        | .inr l =>
          match s.xlTry unit c wr f (va + len) (n - len) with
          | .inr (.inr l') => .inr (.inr (l ++ l'))
          | r => r

/-- A failure that needs no walk (R190, R588): NON_CANONICAL, then CONTEXT_OFF. -/
def State.xlEarly (s : State) (c va n : Nat) : Option XlFail :=
  if 2 ^ 57 < va + max 1 n then some ⟨4, 7, va⟩
  else if !s.isOn clsXl c then some ⟨8, 7, va⟩ else none

/-- The condition code of a failure (R201); none for a read that meets WALK_ECC. -/
def xlCode (kind : Nat) (wr : Bool) : Nat :=
  if kind = 7 then (if wr then cRegionLost else 0) else if kind = 8 ∨ kind = 10 then cCancelled else if kind = 9 then cRegionLost else cMalformed

/-- A failure is counted, and latched if it is the first (R201, R588). -/
def State.xlLatch (s : State) (c : Nat) (e : XlFail) (wr : Bool) : State :=
  let s := s.incSat (aXl c 0x13C)
  if s.regB (aXl c 0x130) 7 then s
  else
    let s := s.setRegN (aXl c 0x130) (e.kind + 16 * e.level + 128 + 0x10000 * xlCode e.kind wr)
    (s.setReg64 (aXl c 0x134) e.va).cairnLog 4 clsXl c (xlCode e.kind wr) c [itAddr e.va]

/-- A whole request translated. -/
def State.translate (s : State) (unit c va n : Nat) (wr : Bool) : (XlFail ⊕ List (Nat × Nat × Nat)) × State :=
  match s.xlEarly c va n with
  | some e => (.inl e, s.xlLatch c e wr)
  | none =>
    match s.xlPages unit c wr (n / 4096 + 2) va n with
    | (.inl e, s) => (.inl e, s.xlLatch c e wr)
    | (.inr l, s) => (.inr l, s)

/-! ### Accesses -/

/-- Bytes of segments, in order. -/
def State.segsRead (s : State) (l : List (Nat × Nat × Nat)) : List Byte := l.flatMap (fun g => s.stackRead g.1 g.2.1 g.2.2)
/-- Errors that the line code of ON stacks corrected, counted in ECC_CORR (R186). -/
def State.eccCorr (s : State) (l : Corrected) : State :=
  l.foldl (fun s p => if p < 24 ∧ s.isOn clsStack p then s.incSat (rg clsStack p 0x118) else s) s
/-- Does any byte of the segments lie in a poisoned line? -/
def State.segsPois (s : State) (l : List (Nat × Nat × Nat)) : Bool := l.any (fun g => s.stackPois g.1 g.2.1 g.2.2)
/-- Bytes written over segments. -/
def State.segsWrite (s : State) : List (Nat × Nat × Nat) → List Byte → Bool → State
  | [], _, _ => s
  | (pos, off, n) :: t, b, poison => (s.stackWrite pos off (b.take n) poison).segsWrite t (b.drop n) poison

/-- Can n bytes of a context's virtual space be reached for reading by the host chiplet's unit (R477, reason 8)? The question leaves nothing behind
(log 166). -/
def State.vaReach (s : State) (c va n : Nat) : Bool :=
  match (s.translate 12 c va n false).1 with
  | .inl _ => false
  | .inr _ => true

/-- A read of a context's virtual space by the host chiplet's unit: the bytes, or the condition code (a poisoned line reads as
REGION_LOST: the module does not use its bytes). -/
def State.vaRead (s : State) (c va n : Nat) : (Nat ⊕ List Byte) × State :=
  match s.translate 12 c va n false with
  | (.inl e, s) => (.inl (if e.kind = 7 then cRegionLost else xlCode e.kind false), s)
  | (.inr l, s) => if s.segsPois l then (.inl cRegionLost, s) else (.inr (s.segsRead l), s)

/-- A write through a context's virtual space: the state after it, or the condition code. -/
def State.vaWrite (s : State) (unit c va : Nat) (b : List Byte) (poison : Bool) : Nat × State :=
  match s.translate unit c va b.length true with
  | (.inl e, s) => (xlCode e.kind true, s)
  | (.inr l, s) => (0, s.segsWrite l b poison)

/-- Lines of a range of a context's virtual space poisoned, their bytes kept (R187, R319). -/
def State.vaPoison (s : State) (c va n : Nat) : State :=
  match s.translate 12 c va n true with
  | (.inl _, s) => s
  | (.inr l, s) => s.segsWrite l (s.segsRead l) true

end Sys2Proof.Machine
end

