-- ==== Sys2Proof/Machine/OpDesc.lean ====
section
/-! DEFINITION. Op descriptors (08 R255, R266), the op sequencer's and the recovery block's parts of State, long operations (14 R481). -/

namespace Sys2Proof.Machine

/-! ### Fields of an op descriptor (R255, R266) -/

/-- OPC. -/
def Op.opc (o : Op) : Nat := at' o.desc 4 1
/-- LAYER_END. -/
def Op.layerEnd (o : Op) : Bool := at' o.desc 5 1 % 2 == 1
/-- LAYER. -/
def Op.layer (o : Op) : Nat := at' o.desc 6 2
/-- First column of the region. -/
def Op.c0 (o : Op) : Nat := at' o.desc 0x10 2
/-- Last column. -/
def Op.c1 (o : Op) : Nat := at' o.desc 0x12 2
/-- First row. -/
def Op.r0 (o : Op) : Nat := at' o.desc 0x14 2
/-- Last row. -/
def Op.r1 (o : Op) : Nat := at' o.desc 0x16 2
/-- The post field. -/
def Op.post (o : Op) : Nat := at' o.desc 0x18 8
/-- GROUP. -/
def Op.group (o : Op) : Nat := nfld o.post 0 12
/-- COLL. -/
def Op.coll (o : Op) : Nat := nfld o.post 12 4
/-- DTYPE. -/
def Op.dtype (o : Op) : Nat := nfld o.post 16 4
/-- Bytes of a post chunk. -/
def Op.chunk (o : Op) : Nat := 4096 * 2 ^ nfld o.post 20 3
/-- DST_KIND: 1 stripes over the pools of the region. -/
def Op.toPools (o : Op) : Bool := nfld o.post 23 1 == 1
/-- ROOT. -/
def Op.root (o : Op) : Nat := nfld o.post 32 14
/-- REACH_MASK. -/
def Op.mask (o : Op) : Nat := at' o.desc 0x20 8
/-- The reaches of REACH_MASK in increasing order. -/
def Op.reaches (o : Op) : List Nat := bitsSet 63 o.mask
/-- POST_BYTES. -/
def Op.bytes (o : Op) : Nat := at' o.desc 0x28 4
/-- POST_DST. -/
def Op.dst (o : Op) : Nat := at' o.desc 0x30 8
/-- COUNT_VA. -/
def Op.countVa (o : Op) : Nat := at' o.desc 0x38 8
/-- A reduction post (R267). -/
def Op.reduces (o : Op) : Bool := o.coll == 1 || o.coll == 2
/-- Does the region hold a position? -/
def Op.inRegion (o : Op) (k : Nat) : Bool :=
  decide (o.c0 ≤ rcol k) && decide (rcol k ≤ o.c1) && decide (o.r0 ≤ rrow k) && decide (rrow k ≤ o.r1)
/-- Positions of a rectangle in row-major order. -/
def rectPos (c0 c1 r0 r1 : Nat) : List Nat :=
  (List.range (r1 + 1 - r0)).flatMap (fun r => (List.range (c1 + 1 - c0)).map (fun c => ridx (c0 + c) (r0 + r)))
/-- Present rills of a rectangle in row-major order. -/
def State.presentIn (s : State) (c0 c1 r0 r1 : Nat) : List Nat := (rectPos c0 c1 r0 r1).filter s.present
/-- Present rills of the region in row-major order. -/
def State.region (s : State) (o : Op) : List Nat := s.presentIn o.c0 o.c1 o.r0 o.r1

/-- An operation that has just been read. -/
def Op.blank : Op :=
  { opn := 0, ticket := 0, desc := [], stage := 0, rebuild := false, unacked := [], reqAt := 0, waiting := false, home := 12, slots := 0,
    staged := false, seq := 0, cin := [], inp := [], unconsumed := [], got := [], gotMem := [], limits := [], granted := [], sent := [],
    dones := [], toSend := [], counts := [], outDone := [], outAcks := [], own := [], twin := [], progress := 0, rot := 1, lost := none,
    held := [], park := [] }

/-! ### Sequencer and recovery state -/

/-- The sequencer of a context. -/
def State.seqr (s : State) (c : Nat) : Seqr := look Seqr.init s.seqrs c
/-- The sequencer of a context set. -/
def State.setSeqr (s : State) (c : Nat) (q : Seqr) : State := { s with seqrs := put s.seqrs c q }
/-- Recovery state of a context. -/
def State.rcv (s : State) (c : Nat) : Rcv := look Rcv.init s.rcvs c
/-- Recovery state of a context set. -/
def State.setRcv (s : State) (c : Nat) (r : Rcv) : State := { s with rcvs := put s.rcvs c r }
/-- Is a twin's DIGEST missing for an output chunk whose own digest was computed (R358)? -/
def Op.owesDigest (o : Op) : Bool := o.own.any (fun e => (look? o.twin e.1).isNone)

/-- An operation of a context. -/
def State.op? (s : State) (c opn : Nat) : Option Op := (s.seqr c).ops.find? (fun o => o.opn == opn)
/-- An operation of a context set. -/
def State.setOp (s : State) (c : Nat) (o : Op) : State :=
  let q := s.seqr c
  s.setSeqr c { q with ops := q.ops.map (fun x => if x.opn = o.opn ∧ x.rebuild = o.rebuild then o else x) }
/-- RSTATE set. -/
def State.setRstate (s : State) (c v : Nat) : State := s.setF (aRc c 4) 0 3 v
/-- Does the replay set of a context hold a position? -/
def State.owns (s : State) (c k : Nat) : Bool :=
  (s.rcv c).images.any (fun e =>
    decide (e.2.1 ≤ rcol k) && decide (rcol k ≤ e.2.2.1) && decide (e.2.2.2.1 ≤ rrow k) && decide (rrow k ≤ e.2.2.2.2))
/-- Contexts whose replay set holds one of the positions (log 26). -/
def State.ownersOf (s : State) (l : List Nat) : List Nat := (List.range 17).filter (fun c => l.any (fun k => s.owns c k))
/-- Contexts that have work on the wafer (log 26). -/
def State.usedCtx (s : State) : List Nat :=
  (List.range 17).filter (fun c => !(s.rcv c).images.isEmpty || !(s.seqr c).ops.isEmpty)

/-! ### Long operations (R472, R481) -/

/-- An open long operation. -/
def State.longOp? (s : State) (c h : Nat) : Option LongOp := (s.eng c).ops.find? (fun o => o.handle == h)
/-- An open long operation changed. -/
def State.modLong (s : State) (c h : Nat) (f : LongOp → LongOp) : State :=
  let e := s.eng c
  s.setEng c { e with ops := e.ops.map (fun o => if o.handle = h then f o else o) }
/-- The lowest OPN of a context that is not complete (R262). -/
def Seqr.low (q : Seqr) : Nat := (q.ops.filter (fun o => !o.rebuild)).foldl (fun m o => min m o.opn) q.next

/-- The PROGRESS field of a long operation (R485): the lowest OPN not complete for FUSED_RUN and CHECKPOINT. -/
def State.longProgress (s : State) (c : Nat) (o : LongOp) : Nat := if o.opcode = 0x21 ∨ o.opcode = 0x22 then (s.seqr c).low else o.progress

/-- A long operation ends with its DONE record (R473); nothing happens if it is no longer open. -/
def State.endLong (s : State) (c h code : Nat) (result : List Byte) : State :=
  match s.longOp? c h with
  | none => s
  | some o =>
    let e := s.eng c
    let s := s.setEng c { e with ops := e.ops.filter (fun x => x.handle != h) }
    s.post c { seq := o.seq, code, opcode := o.opcode, kind := 0, handle := h, progress := s.longProgress c o, result }
/-! ### The context block of a swap (R252, R253) -/

/-- GEN_x. -/
def State.genOf (s : State) (c x : Nat) : Nat := s.regN (aHwc c (0x18 + 4 * x))
/-- ACTIVE. -/
def State.hwActive (s : State) (c : Nat) : Nat := s.regF (aHwc c 4) 4 1
/-- SWAP. -/
def State.hwSwap (s : State) (c : Nat) : Nat := s.regF (aHwc c 4) 5 2
/-- FRONT. -/
def State.hwFront (s : State) (c : Nat) : Nat := s.regF (aHwc c 4) 8 16
/-- Layer of a descriptor (R226). -/
def Desc.hwLayer (d : Desc) : Nat := d.farBase % 65536
/-- The RESULT of a PROGRESS record: FRONT, OLD_CLAIMS and HELD_OPENS for WEIGHT_SWAP (R247; log 155). -/
def State.progressResult (s : State) (c : Nat) (o : LongOp) : List Byte :=
  if o.opcode = 0x24 then leBytes 4 (s.hwFront c) ++ leBytes 4 (s.regN (aHwc c 0x28)) ++ leBytes 4 (s.regN (aHwc c 0x2C)) else []

/-- A PROGRESS record of a long operation (R475). -/
def State.progressLong (s : State) (c h code : Nat) : State :=
  match s.longOp? c h with
  | none => s
  | some o =>
    let s := s.modLong c h (fun o => { o with reportAt := s.clk.now })
    s.post c { seq := o.seq, code, opcode := o.opcode, kind := 2, handle := h, progress := s.longProgress c o, result := s.progressResult c o }

end Sys2Proof.Machine
end

