-- ==== Sys2Proof/Machine/Eligible.lean ====
section
/-! DEFINITION. Rill instruction words (02 R36-R42): their fields and which encodings are legal; fetching the word at a slot's PC; which slots are
eligible to issue, and in which cycle (R32-R34, R415, R420); the rill watchdog's count (R53). -/

namespace Sys2Proof.Machine

/-! ### Fields (R36, R37) -/

/-- A field of `n` bits at bit `lo` of an instruction word. -/
def wf (w : W64) (lo n : Nat) : Nat := (w >>> lo).toNat % 2 ^ n

abbrev opOf (w : W64) : Nat := wf w 56 8
abbrev gdOf (w : W64) : Nat := wf w 51 5
abbrev gs1Of (w : W64) : Nat := wf w 46 5
abbrev gs2Of (w : W64) : Nat := wf w 41 5
abbrev queueOf (w : W64) : Nat := wf w 38 3
/-- imm32, or the signed offset of formats L and J. -/
abbrev immOf (w : W64) : W32 := w.extractLsb' 0 32
abbrev tdOf (w : W64) : Nat := wf w 52 4
abbrev taOf (w : W64) : Nat := wf w 48 4
abbrev tbOf (w : W64) : Nat := wf w 44 4
abbrev tcOf (w : W64) : Nat := wf w 40 4
abbrev tgs1Of (w : W64) : Nat := wf w 35 5
abbrev tgs2Of (w : W64) : Nat := wf w 30 5
abbrev fmtOf (w : W64) : Nat := wf w 26 4
abbrev rndOf (w : W64) : Nat := wf w 24 2
abbrev accOf (w : W64) : Nat := wf w 23 1

/-- The instruction formats (R36, R37). -/
inductive Format where
  | fS | fI | fL | fJ | fM | fT
  deriving DecidableEq, Repr

/-- The format of an opcode; none where R41 defines no operation (R38). -/
def formatOf (op : Nat) : Option Format :=
  if (0x01 ≤ op ∧ op ≤ 0x0D) then some .fS
  else if 0x10 ≤ op ∧ op ≤ 0x17 then some .fI
  else if 0x20 ≤ op ∧ op ≤ 0x29 then some .fL
  else if 0x30 ≤ op ∧ op ≤ 0x36 then some .fJ
  else if (0x40 ≤ op ∧ op ≤ 0x47) then some .fM
  else if (0x50 ≤ op ∧ op ≤ 0x55) ∨ (0x60 ≤ op ∧ op ≤ 0x69) then some .fT
  else if (0x70 ≤ op ∧ op ≤ 0x77) ∨ (0x80 ≤ op ∧ op ≤ 0x83) then some .fM
  else none

/-- MX formats of the fmt field (R39). -/
def isMx (fmt : Nat) : Bool := decide (3 ≤ fmt) && decide (fmt ≤ 8)

/-- Fields that a format T operation uses (R41, R86): td, ta, tb, tc, gs1, gs2, fmt, rnd, acc. TLD and TST use gs2 for MX formats
only (log 12). -/
structure TUse where
  td : Bool
  ta : Bool
  tb : Bool
  tc : Bool
  g1 : Bool
  g2 : Bool
  fmt : Bool
  rnd : Bool
  acc : Bool
  deriving DecidableEq, Repr

/-- The fields that each format T operation uses. -/
def tUse (op fmt : Nat) : TUse :=
  let z : TUse := ⟨false, false, false, false, false, false, false, false, false⟩
  if op = 0x50 ∨ op = 0x51 then { z with td := true, g1 := true, g2 := isMx fmt, fmt := true }
  else if op = 0x52 then { z with td := true }
  else if op = 0x53 then { z with td := true, ta := true, tb := true, fmt := true, rnd := true, acc := true }
  else if op = 0x54 then { z with td := true, ta := true, tb := true, tc := true, fmt := true, rnd := true, acc := true }
  else if op = 0x55 then { z with td := true, ta := true, g1 := true, fmt := true, rnd := true }
  else if op = 0x60 ∨ op = 0x61 then { z with td := true, ta := true, tb := true, rnd := true }
  else if op = 0x62 then { z with td := true, ta := true, tb := true }
  else if op = 0x63 then { z with td := true, ta := true, tb := true, tc := true, rnd := true }
  else if op = 0x64 ∨ op = 0x65 ∨ op = 0x66 then { z with td := true, ta := true }
  else if op = 0x67 ∨ op = 0x68 then { z with ta := true, g1 := true }
  else { z with td := true, g1 := true }

/-- A field that is not used must be 0. -/
def unusedZero (used : Bool) (v : Nat) : Bool := used || v == 0

/-- Is the encoding legal (R36-R42): every reserved field 0, rnd 0 or 1, fmt listed, TMMAS with a sparse format and an even ta, the
imm32 checks of YIELD and SEND. -/
def legalWord (w : W64) : Bool :=
  let op := opOf w
  match formatOf op with
  | none => false
  | some .fS => wf w 0 41 == 0
  | some .fI => wf w 32 14 == 0
  | some .fL => wf w 32 9 == 0 && unusedZero (!(op == 0x23 || op == 0x24 || op == 0x25 || op == 0x27)) (gdOf w)
  | some .fJ => gdOf w == 0 && wf w 32 9 == 0
  | some .fM => wf w 32 6 == 0 && (op != 0x42 || wf w 0 16 != 0) && (op != 0x75 || (wf w 11 5 == 0 && wf w 26 6 == 0))
  | some .fT =>
    let u := tUse op (fmtOf w)
    wf w 0 23 == 0 && unusedZero u.td (tdOf w) && unusedZero u.ta (taOf w) && unusedZero u.tb (tbOf w) && unusedZero u.tc (tcOf w)
      && unusedZero u.g1 (tgs1Of w) && unusedZero u.g2 (tgs2Of w) && unusedZero u.fmt (fmtOf w) && unusedZero u.rnd (rndOf w)
      && unusedZero u.acc (accOf w) && decide (rndOf w ≤ 1) && decide (fmtOf w ≤ 9)
      && (op != 0x54 || (isMx (fmtOf w) && taOf w % 2 == 0))

/-- The tensor registers that an instruction names (R25, R77). -/
def tregsOf (w : W64) : List Nat :=
  match formatOf (opOf w) with
  | some .fT =>
    let u := tUse (opOf w) (fmtOf w)
    (if u.td then [tdOf w] else []) ++ (if u.ta then [taOf w] else []) ++ (if u.tb then [tbOf w] else [])
      ++ (if u.tc then [tcOf w] else []) ++ (if opOf w = 0x54 then [taOf w + 1] else [])
  | _ => []

/-- The tensor register that a unit operation writes. -/
def tdestOf (w : W64) : Option Nat := if opOf w = 0x67 ∨ opOf w = 0x68 ∨ opOf w = 0x51 then none else some (tdOf w)

/-- The scalar registers that an instruction names. -/
def gregsOf (w : W64) : List Nat :=
  match formatOf (opOf w) with
  | some .fT =>
    let u := tUse (opOf w) (fmtOf w)
    (if u.g1 then [tgs1Of w] else []) ++ (if u.g2 then [tgs2Of w] else [])
  | some .fI => [gdOf w, gs1Of w]
  | some .fJ => [gs1Of w, gs2Of w, 31]
  | some _ => [gdOf w, gs1Of w, gs2Of w]
  | none => []

/-- Does the tensor unit (0x53, 0x54) or the vector unit (TCVT and the vector operations, R43) execute the operation? -/
def unitOf (op : Nat) : Option Bool :=
  if op = 0x53 ∨ op = 0x54 then some true
  else if op = 0x55 ∨ (0x60 ≤ op ∧ op ≤ 0x69) then some false
  else none

/-! ### Fetch and eligibility (R26, R28, R32-R34) -/

/-- Fault codes (R56). -/
abbrev fIllegal : Nat := 1
abbrev fAlign : Nat := 2
abbrev fAddr : Nat := 3
abbrev fTreg : Nat := 4
abbrev fTrap : Nat := 5
abbrev fTaskWd : Nat := 6
abbrev fPoison : Nat := 7
abbrev fResidue : Nat := 8

/-- The fault that fetching at a PC raises: ADDR outside the rill store, POISON on a poisoned line (R26, R28). -/
def State.fetchFault (s : State) (k : Nat) (pc : W32) : Option Nat :=
  if 0xC000 ≤ pc.toNat then some fAddr else if s.storePois k pc.toNat 8 then some fPoison else none

/-- The instruction word at a PC (R36: little-endian). -/
def State.fetch (s : State) (k : Nat) (pc : W32) : W64 := BitVec.ofNat 64 (leNat (s.storeRead k pc.toNat 8))

/-- Scalar registers of a slot that an operation in flight will write: LDP64 and the reductions (R32, R33). -/
def Rill.pendingG (r : Rill) (n : Nat) : List Nat :=
  (r.slot n).loads.map (·.2)
    ++ ((r.vectorQ.filter (fun o => o.slot == n && (opOf o.word == 0x67 || opOf o.word == 0x68))).map (fun o => tgs1Of o.word))

/-- Do two operations of one slot conflict on a tensor register: one writes what the other names (R33)? -/
def tconflict (w v : W64) : Bool :=
  (match tdestOf w with
    | some d => (tregsOf v).contains d
    | none => false)
  || (match tdestOf v with
    | some d => (tregsOf w).contains d
    | none => false)

/-- The tensor registers that an instruction names, TFREE's mask included. -/
def tnamesOf (w : W64) : List Nat := if opOf w = 0x46 then bitsSet 16 (wf w 0 16) else tregsOf w

/-- No operation in flight stands in the way of the tensor registers that an instruction names: outside the units, none that names one of them;
within a unit, where operations keep their order, none of the other unit that conflicts (R33, R34). -/
def Rill.tfree (r : Rill) (n : Nat) (w : W64) : Bool :=
  let mine (q : List UnitOp) := q.filter (fun o => o.slot == n)
  let busy (l : List Nat) := (mine r.tensorQ ++ mine r.vectorQ).any (fun o => (tregsOf o.word).any (fun t => l.contains t))
  match unitOf (opOf w) with
  | some true => !(mine r.vectorQ).any (fun o => tconflict w o.word)
  | some false => !(mine r.tensorQ).any (fun o => tconflict w o.word)
  | none => !busy (tnamesOf w)

/-- Room in the unit that the instruction needs: one operation executing and one waiting (R34). -/
def Rill.unitRoom (r : Rill) (w : W64) : Bool :=
  match unitOf (opOf w) with
  | some true => decide (r.tensorQ.length < 2)
  | some false => decide (r.vectorQ.length < 2)
  | none => true

/-- Does a command name a task slot (R8, R23)? -/
def slotOk (a : SlotId) : Bool := inGrid a.col a.row && decide (a.slot < 16)
/-- The rill of a task slot. -/
def slotK (a : SlotId) : Nat := ridx a.col a.row

/-- Is the slot READY, its rill at work, and no EXIT in progress (R31, R35, R371)? -/
def State.slotReady (s : State) (a : SlotId) : Bool :=
  let x := (s.rill (slotK a)).slot a.slot
  s.alive (slotK a) && x.st == .ready && !x.exiting

/-- The instruction word at a slot's PC. -/
def State.instrAt (s : State) (k n : Nat) : W64 := s.fetch k ((s.rill k).slot n).pc

/-- Needs a slot no operand to issue: its fetch faults, or its encoding is illegal (R26, R38)? -/
def State.bare (s : State) (k n : Nat) : Bool :=
  (s.fetchFault k ((s.rill k).slot n).pc).isSome || !legalWord (s.instrAt k n)

/-- The cycle from which the registers filled by loads that an instruction of slot n names may be used (R26, R32). -/
def Rill.loadedAt (r : Rill) (n : Nat) (w : W64) : Nat :=
  let g := (gregsOf w).foldl (fun m v => if v = 0 then m else max m (look 0 (r.slot n).gready v)) 0
  (tnamesOf w).foldl (fun m t => max m (look 0 r.tready t)) g

/-- The cycle from which a slot's next instruction has its loaded operands. -/
def State.operandsAt (s : State) (k n : Nat) : Nat := if s.bare k n then 0 else (s.rill k).loadedAt n (s.instrAt k n)

/-- Is the slot READY with nothing but its loads' latency between it and issue: no operand awaits an operation in flight, and the unit that it
needs has room (R32)? -/
def State.open' (s : State) (a : SlotId) : Bool :=
  let k := slotK a
  let r := s.rill k
  let w := s.instrAt k a.slot
  s.slotReady a && (s.bare k a.slot
    || ((gregsOf w).all (fun g => g == 0 || !(r.pendingG a.slot).contains g) && r.tfree a.slot w && r.unitRoom w))

/-- Does the slot's next instruction go to the tensor or the vector unit? -/
def State.unitNext (s : State) (a : SlotId) : Bool := !s.bare (slotK a) a.slot && (unitOf (opOf (s.instrAt (slotK a) a.slot))).isSome

/-- Is the rill's pitch hot (R415)? -/
def State.hot (s : State) (a : SlotId) : Bool := s.hotPitches.contains (pitchOf a.col a.row)

/-- Is a cycle withheld from the unit of the slot's next instruction? A hot pitch's units take no operation in odd cycles (R415; log 156); while the
Weir throttles, a unit takes one in at least one of each 16 cycles (R420; log 163). -/
def State.shut (s : State) (a : SlotId) (c : Nat) : Bool :=
  let k := slotK a
  let tensor := unitOf (opOf (s.instrAt k a.slot)) == some true
  let left := Config.weirOpen k tensor (c / 16)
  (s.hot a && c % 2 == 1)
    || (s.weirAct == 1 && c % 16 != (if s.hot a then left % 8 * 2 else left % 16) && Config.weirShut k tensor c)

/-- Does throttling bear on the slot's next instruction: one for a unit that the Weir or its pitch's heat throttles (R415, R420)? -/
def State.throttled (s : State) (a : SlotId) : Bool := s.unitNext a && (s.weirAct == 1 || s.hot a)

/-- The cycle in which the slot may issue: the present one, unless the rill has issued in it, or a loaded operand comes later (R32; log 136), or
throttling withholds it: among 32 cycles in a row one is open. -/
def State.issueCycle (s : State) (a : SlotId) : Nat :=
  let c := max (max s.clk.cycle ((s.rill (slotK a)).lastIssue + 1)) (s.operandsAt (slotK a) a.slot)
  if s.throttled a then (((List.range 32).map (c + ·)).find? (fun c => !s.shut a c)).getD (c + 31) else c

/-- Has slot m of the rill issued less recently than slot n, or is it the lower one of two that have never issued (R32)? -/
def Rill.before (r : Rill) (m n : Nat) : Bool :=
  decide ((r.slot m).issuedAt < (r.slot n).issuedAt) || ((r.slot m).issuedAt == (r.slot n).issuedAt && decide (m < n))

/-- Does slot m of the rill issue before slot a: in an earlier cycle, or, eligible in the same one, as the slot that issued less recently (R32)? -/
def State.ahead (s : State) (m : Nat) (a : SlotId) : Bool :=
  let b : SlotId := { a with slot := m }
  s.open' b && (decide (s.issueCycle b < s.issueCycle a)
    || (s.issueCycle b == s.issueCycle a && (s.rill (slotK a)).before m a.slot))

/-- Does the slot issue next (R32): it comes to be eligible, and no other slot of its rill issues before it? -/
def State.mayIssue (s : State) (a : SlotId) : Bool := s.open' a && (List.range 16).all (fun m => !s.ahead m a)

/-- Does the slot issue next, with an instruction of this opcode? -/
def State.eligible (s : State) (a : SlotId) (op : Nat) : Bool :=
  s.mayIssue a && (s.fetchFault (slotK a) ((s.rill (slotK a)).slot a.slot).pc).isNone && opOf (s.instrAt (slotK a) a.slot) == op

/-! ### The rill watchdog (R53, R420) -/

/-- The cycle since which an eligible slot has been so: it became READY or retired its last instruction, its operands came, and its unit got
room (R32, R53). -/
def State.eligibleSince (s : State) (k n : Nat) : Nat :=
  let r := s.rill k
  let t := max (r.slot n).lastRetire (s.operandsAt k n)
  if (unitOf (opOf (s.instrAt k n))).isSome then max t r.roomAt else t

/-- The rill watchdog's count now (R53): the cycles since the last issue in which some slot was eligible. Up to `early` no slot is that throttling
does not bear on; a cycle that is withheld from every throttled slot counts for nothing (R420). -/
def State.wdCount (s : State) (k : Nat) : Nat :=
  let (t0, n) := (s.rill k).wd
  let at' (m : Nat) : SlotId := ⟨rcol k, rrow k, m⟩
  let opened := (List.range 16).filter (fun m => s.open' (at' m))
  let early := (opened.filter (fun m => !s.throttled (at' m))).foldl (fun t m => min t (s.eligibleSince k m)) s.clk.cycle
  let some (c : Nat) : Bool := opened.any (fun m => s.throttled (at' m) && decide (s.eligibleSince k m ≤ c) && !s.shut (at' m) c)
  n + (s.clk.cycle - max t0 early) + ((List.range (early - t0)).filter (fun i => some (t0 + i))).length

/-- The rill watchdog has counted until now: what follows may end a slot's eligibility without an issue, or change what throttles it. -/
def State.wdSync (s : State) (k : Nat) : State :=
  let n := s.wdCount k
  s.modRill k (fun r => { r with wd := (max r.wd.1 s.clk.cycle, n) })

/-- The watchdogs of all rills have counted until now. -/
def State.wdSyncAll (s : State) : State := (s.rills.map (·.1)).foldl State.wdSync s

end Sys2Proof.Machine
end

