-- ==== Sys2Proof/Machine/Holds.lean ====
section
/-! DEFINITION. What follows a fault: the failure of an operation (08 R263), the first steps of a fault hold (11 R383, R387, R388),
failed positions (R369-R371, R377), and the faults of slots (02 R56, R57, 03 R95, R96). -/

namespace Sys2Proof.Machine

/-! ### Messages of the Levee to rills -/

/-- A MSG from the Levee, made by the host chiplet at endpoint 4 (R260, R263; log 27). -/
def State.leveeMsg (s : State) (c k tag arg : Nat) (payload : List Byte) : Packet :=
  { Packet.blank with
    srcEdge := true, scol := 4, dcol := rcol k, drow := rrow k, kind := 5, ackReq := true, len := payload.length, tag, ctx := c,
    epoch := s.rillEpoch c, arg, payload }

/-- OPABORT to the region of one operation (R263). -/
def State.opAbort (s : State) (c : Nat) (o : Op) (code : Nat) : State :=
  (s.region o).foldl (fun s k => s.inject (s.leveeMsg c k 0xFF02 0 (leBytes 4 o.opn ++ leBytes 4 code))) s

/-- OPABORT to the region of every operation that is STARTED and not complete. -/
def State.opAborts (s : State) (c code : Nat) : State :=
  ((s.seqr c).ops.filter (fun o => decide (2 ≤ o.stage))).foldl (fun s o => s.opAbort c o code) s

/-! ### Posts -/

/-- CF_SUMMARY: free slots of the ON chiplets, reservations that wait (R361); OCC_IN to OCC_Z, LANDING_OCC and RING_OCC: the lines that the
stages hold (R359, R362; log 47). -/
def State.cfSync (s : State) : State :=
  let free := sumL ((List.range 12).map (fun t => if s.isOn clsCf t then s.regF (rg clsCf t 0x100) 0 7 else 0))
  let ops := (List.range 17).flatMap (fun c => (s.seqr c).ops)
  let waits := countIf (fun (o : Op) => o.waiting) ops
  let held (l : List Op) (d : Nat) : Nat := sumL (l.map (fun o => o.held.getD d 0))
  let s := (s.setF (rg clsCf 12 0x104) 0 10 free).setF (rg clsCf 12 0x104) 16 4 (min 15 waits)
  let s := (List.range 4).foldl (fun s d => s.setRegN (rg clsCf 12 (0x120 + 4 * d)) (held ops d)) s
  (List.range 12).foldl (fun s t =>
    let l := ops.filter (fun (o : Op) => decide (1 ≤ o.stage) && o.home == t)
    (s.setRegN (rg clsCf t 0x110) (held l 0)).setRegN (rg clsCf t 0x114) (held l 1 + held l 2 + held l 3)) s

/-- The keys of packets accepted for a post, arm or barrier are kept for 2 s more (R302). -/
def State.retireKeys (s : State) (past : List Nat → Bool) : State :=
  { s with keys := s.keys.map (fun e => if e.2.isNone && past e.1 then (e.1, some (s.clk.now + 2000000000)) else e) }

/-- Is the stream point-to-point (MODE 1)? -/
def Desc.p2p (d : Desc) : Bool := d.farArg % 4 == 1
/-- Peer rank. -/
def Desc.peer (d : Desc) : Nat := nfld d.farArg 16 14
/-- Channel. -/
def Desc.chan (d : Desc) : Nat := nfld d.farArg 32 8
/-- The keys of an IN stream's packets begin to age as its arm ends (R302). -/
def State.retireP2p (s : State) (e : EzStream) : State :=
  match s.jobOf e.ctx with
  | none => s
  | some j =>
    if e.desc.p2p ∧ e.desc.dir = 0 then
      s.retireKeys (fun k => k.getD 2 0 == 5 && k.getD 0 0 == e.desc.peer && k.getD 1 0 == s.jobId j && k.getD 3 0 == e.desc.chan)
    else s

/-- A post has ended: its keys begin to age, and for 2 s a packet for it is a copy (R302). -/
def State.retirePost (s : State) (o : Op) : State :=
  let id := s.jobId (s.groupJob o.group)
  let s := s.retireKeys (fun k => [2, 3, 9].contains (k.getD 2 0) && k.getD 1 0 == id && k.getD 3 0 == o.group && k.getD 4 0 == o.seq)
  { s with keys := s.keys.filter (fun e => e.1 != [id, o.group, o.seq]) ++ [([id, o.group, o.seq], some (s.clk.now + 2000000000))] }

/-- A post's slots and home are released (R351), and its keys begin to age (R302). -/
def State.releasePost (s : State) (o : Op) : State :=
  let s := if o.stage = 0 ∨ o.coll = 0 then s else s.retirePost o
  if o.home < 12 ∧ o.stage ≥ 1 then
    let a := rg clsCf o.home 0x100
    let s := s.setF a 0 7 (s.regF a 0 7 + o.slots)
    (if o.reduces then s.setF a 16 8 (s.regF a 16 8 - 1) else s).cfSync
  else s.cfSync

/-- ABORT to every other member of a post's group (R319); `arg2` is the OPN at the sender, or the rank waited on (R320). -/
def State.sendAbort (s : State) (g seq code arg2 : Nat) : State :=
  let j := s.groupJob g
  (List.range (s.groupN g)).foldl (fun s i =>
    if i = s.groupSelf g then s
    else s.wireTo j (s.memberRank g i) { s.wireBlank j with type := 4, group := g, seq, arg := code, arg2 }) s

/-! ### The steps of a fault hold (R383) -/

/-- LOST_COUNT of the job of a post that ends with a code (R331). -/
def State.countLost (s : State) (o : Op) (code : Nat) : State :=
  if code = cCollMemberLost ∧ o.coll ≠ 0 then s.incSat (aJob (s.groupJob o.group) 0x18) else s

/-- Step 3: OPABORTs, ABORTs for the admitted posts and the commit group (with the rank that a lost barrier waited on, R320), slots released. An operation that an ABORT has failed sends no
ABORT of its own (`silent`). -/
def State.holdStep3 (s : State) (c code : Nat) (silent : Bool) : State :=
  let ops := (s.seqr c).ops
  let s := s.opAborts c code
  let s := if silent then s
    else
      let s := (ops.filter (fun o => decide (1 ≤ o.stage) && o.coll != 0)).foldl (fun s o => s.sendAbort o.group o.seq code (o.lost.getD o.opn)) s
      let lost := if code = cCollMemberLost then (s.rcv c).lostRank.getD 0 else 0
      if s.regB (aRc c 0) 12 then s.sendAbort (s.regF (aRc c 0) 0 12) (s.regN (aRc c 0xC)) code lost else s
  let s := ops.foldl (fun s o => (if o.stage = 0 then s else s.countLost o code).releasePost o) s
  let q := s.seqr c
  ((s.setSeqr c { q with ops := [] }).setRcv c { s.rcv c with lostRank := none }).cfSync

/-- OLD_CLAIMS and HELD_OPENS of a context (R252). -/
def State.hwcSync (s : State) (c : Nat) : State :=
  let front := s.hwFront c
  let old := s.genOf c (s.hwActive c)
  let running := s.hwSwap c != 0
  let claims := if running then countIf (fun (h : HwStream) => h.ctx == c && h.claim == some (front, old)) s.hws else 0
  let held := if running then countIf (fun (h : HwStream) =>
      h.ctx == c && (if h.held then h.desc.hwLayer == front else h.heldRearm && (h.rearm.map Desc.hwLayer).getD 0 == front)) s.hws else 0
  (s.setRegN (aHwc c 0x28) claims).setRegN (aHwc c 0x2C) held

/-- SLOTS_USED of the ports (R251). -/
def State.hwSync (s : State) : State :=
  (List.range 32).foldl (fun s p => s.setF (rg clsPort p 0x104) 8 8 (countIf (fun (h : HwStream) => h.port == p) s.hws)) s

/-- Step 4: every stream of the context at the Levee is closed, and gradient frames not sent are discarded. -/
def State.holdStep4 (s : State) (c : Nat) : State :=
  let s := (s.ezs.filter (fun e => e.ctx == c)).foldl State.retireP2p s
  ({ s with hws := s.hws.filter (fun h => h.ctx != c), ezs := s.ezs.filter (fun e => e.ctx != c),
            grads := s.grads.filter (fun g => g.ctx != c || g.sent), memReqs := s.memReqs.filter (fun r => r.pkt.ctx != c) }).hwSync.hwcSync c

/-- REPLAY_MAX (R397). -/
def State.replayMax (s : State) (c : Nat) : Nat := if (s.rcv c).profile = 0 then 2 else 4

/-- Step 5: HELD where a placement is missing or the commit point keeps failing, RESTORING otherwise. -/
def State.holdStep5 (s : State) (c : Nat) : State :=
  let r := s.rcv c
  s.setRstate c (if r.remap || r.stuck then 2 else 3)

/-- A replay is counted when its hold begins (R389, R401; log 28): past REPLAY_MAX the context becomes HELD. -/
def State.countReplay (s : State) (c code : Nat) : State :=
  let here := s.regF (aRc c 4) 4 3
  if here < s.replayMax c then (s.setF (aRc c 4) 4 3 (here + 1)).incSat (aRc c 0x18)
  else (s.setRcv c { s.rcv c with stuck := true, uncounted := true }).cairnLog 6 clsCe c code c []

/-! ### The wear walk (R394) -/

/-- Positions of the segment of a position. -/
def segmentOf (k : Nat) : List Nat := (List.range 15).map (fun j => ridx (rcol k / 15 * 15 + j) (rrow k))
/-- The table entry of a position. -/
abbrev aCmtK (k : Nat) : Nat := aCmt (rcol k) (rrow k)

/-- Where the idle position of a segment walks to, and the walk's direction then: it reverses at positions 0 and 15. -/
def State.wearStep (s : State) (seg : Nat) : Nat × Nat :=
  let d := s.regF (aCmtK seg) 8 4
  let back := s.regF (aCmtK seg) 16 1
  if back = 0 then (if d = 15 then (14, 1) else (d + 1, 0)) else (if d = 0 then (1, 0) else (d - 1, 1))

/-- The rill that stands where the idle position of a segment walks to. -/
def State.wearMover (s : State) (seg : Nat) : Option Nat :=
  (segmentOf seg).find? (fun k => s.regF (aCmtK k) 0 4 == (s.wearStep seg).1)

/-- Contexts with the rill of a segment that moves. -/
def State.wearOwners (s : State) (seg : Nat) : List Nat := s.ownersOf (s.wearMover seg).toList

/-- A reach none of whose moves waits is no longer ROTATING (R400). -/
def State.wearSync (s : State) : State :=
  (List.range 63).foldl (fun s r =>
    if s.regB (rg clsReach r 0x100) 15 && !s.wearSegs.any (fun g => reachOf (rcol g) (rrow g) == r) then s.setB (rg clsReach r 0x100) 15 false
    else s) s

/-- Moves not yet begun of a context are abandoned (R395, R396). -/
def State.wearDrop (s : State) (c : Nat) : State :=
  ({ s with wearSegs := s.wearSegs.filter (fun g => !(s.wearOwners g).contains c) }).wearSync

/-- Every open FUSED_RUN of a context ends with a code and an OPN (R263; log 29). -/
def State.endRuns (s : State) (c code opn : Nat) : State :=
  let hs := ((s.eng c).ops.filter (fun o => o.opcode == 0x21)).map (·.handle)
  let q := s.seqr c
  hs.foldl (fun s h => s.endLong c h code (leBytes 4 opn))
    (s.setSeqr c { q with lists := q.lists.map (fun (l : RunList) => { l with handle := 0 }) })

/-- Faults that a replay may repeat are forgotten: those at the context's rills and in the adders for it (R57, R96, R354), but for those whose
replay is still to come: a hang (R56), and a fault of the present EPOCH, whose hold is about to begin. -/
def State.clearMarks (s : State) (c : Nat) : State :=
  let hung := (s.rcv c).hung
  let e := s.regN (aRc c 0x1C)
  { s with rills := s.rills.map (fun (x : Nat × Rill) =>
             if x.2.ctx = c then
               (x.1, { x.2 with residueMark := x.2.residueMark.filter (· == x.2.epoch),
                                wdFaults := if hung.contains x.1 then x.2.wdFaults else x.2.wdFaults.filter (·.2.2 == x.2.epoch) })
             else x),
           adderFails := s.adderFails.filter (fun x => x.1 % 17 != c || x.2 == e) }

/-- RESULT of a CHECKPOINT (R478): COMMIT_OPN and COMMIT_COUNT. -/
def State.commitResult (s : State) (c : Nat) : List Byte := leBytes 4 (s.regN (aRc c 8)) ++ leBytes 4 (s.regN (aRc c 0xC))

/-- The keys of a context's barrier packets begin to age (R302). -/
def State.retireBarrier (s : State) (c : Nat) : State :=
  match s.jobOf c with
  | none => s
  | some j => s.retireKeys (fun k => k.getD 2 0 == 10 && k.getD 1 0 == s.jobId j)

/-- A commit point is complete (R379, R381, R389, R398): outside a hold it ends the replay in which a fault counts as a second one (log
141); the record replaces the previous one; what only a replay from before it needs goes, and its CHECKPOINT is done. -/
def State.commitDo (s : State) (c : Nat) (rec : CommitRec) : State :=
  let s := (((s.setRegN (aRc c 8) rec.opn).incWrap (aRc c 0xC)).setReg64 (aRc c 0x10) s.clk.now).setF (aRc c 4) 4 3 0
  let r := s.rcv c
  let s := s.setRcv c { r with commit := some rec, formed := none, won := false, profile := s.regF 0x200 0 1,
                               arrivals := r.arrivals.filter (fun a => a.2.1.testBit 32), drained := s.rstate c == 5 }
  let s := if s.rstate c = 0 ∨ s.rstate c = 5 then s.clearMarks c else s
  let s := s.retireBarrier c
  let q := s.seqr c
  let done := (q.points.filter (fun x => x.opn == rec.opn)).take 1
  let s := s.setSeqr c { q with
    lists := q.lists.filter (fun (l : RunList) => decide (rec.opn < l.opn0 + l.entries)), boundaries := q.boundaries.filter (fun b => decide (rec.opn ≤ b)),
    past := q.past.filter (fun (o : Op) => decide (rec.opn < o.opn)),
    owed := q.owed ++ q.past.filter (fun (o : Op) => decide (o.opn ≤ rec.opn) && o.owesDigest), points := q.points.eraseP (fun x => x.opn == rec.opn) }
  (done.filter (fun x => x.handle != 0)).foldl (fun s x => s.endLong c x.handle 0 (s.commitResult c)) s

/-- A hold that waited for a barrier's outcome goes on from step 3 (R387). -/
def State.holdGoOn (s : State) (c : Nat) : State :=
  match (s.rcv c).waitOutcome with
  | none => s
  | some w =>
    let s := s.setRcv c { s.rcv c with waitOutcome := none }
    ((s.holdStep3 c (w % 65536) (w.testBit 16)).countReplay c (w % 65536)).holdStep5 c

/-- Operations of the rebuild list that have not completed go: OPABORTs to those STARTED, and their slots (R263, R351); a lost member counts
(R331). -/
def State.dropRebuild (s : State) (c code : Nat) : State :=
  let ops := (s.seqr c).ops
  let s := ops.foldl (fun s o => (if o.stage = 0 then s else s.countLost o code).releasePost o) (s.opAborts c code)
  (s.setSeqr c { s.seqr c with ops := [], halted := true }).cfSync

/-- A failure while the rebuild list runs leaves the context HELD with its code (R385). -/
def State.rebuildFail (s : State) (c code : Nat) : State :=
  let s := s.dropRebuild c code
  ((s.setRcv c { s.rcv c with rebuild := none, stuck := true }).setF (aRc c 4) 16 16 code).setRstate c 2

/-- Steps 1 and 2 of a fault hold (R383): nothing further is admitted, the hold's code is told, and RILL_EPOCH increments. -/
def State.holdBegin (s : State) (c code : Nat) : State :=
  let r := s.rcv c
  let s := if s.rstate c = 5 then s.wearDrop c else s
  let s := { s with pitchHeld := rem s.pitchHeld c }
  let s := s.setRcv c { r with drain := none, drained := false, loaded := false, rebuild := none, hung := [], arrivals := r.arrivals.filter (fun a => a.2.1.testBit 32) }
  let s := (s.setF (aRc c 4) 16 16 code).postEvent c code
  let s := s.endRuns c code (s.seqr c).low
  let q := s.seqr c
  let s := s.setSeqr c { q with halted := true, points := q.points.filter (fun (x : Point) => x.handle != 0) }
  ((s.incWrap (aRc c 0x1C)).setRstate c 1).retireBarrier c

/-- A fault hold is entered, or joined (R383, R387, R388, R396). `repair` tells that a repair is made at step 5, `silent` that an ABORT began it.
After the arrival at a commit barrier the hold waits for its outcome before step 3; an outcome that is known already is the replay target. -/
def State.hold (s : State) (c code : Nat) (repair silent : Bool) : State :=
  let st := s.rstate c
  let r := s.rcv c
  if st = 0 ∨ st = 5 then
    let s := match r.formed with
      | some rec => if r.won then s.commitDo c rec else s
      | none => s
    let s := s.holdBegin c code
    if (s.rcv c).formed.isSome then
      (s.setRcv c { s.rcv c with waitOutcome := some (code + 65536 * b2n silent), arrivals := r.arrivals }).holdStep4 c
    else (((s.holdStep3 c code silent).holdStep4 c).countReplay c code).holdStep5 c
  else if repair ∧ (st = 3 ∨ st = 4) then
    let s := if r.loaded then
        let s := if r.rebuild.isSome then s.dropRebuild c code else s
        (s.incWrap (aRc c 0x1C)).setRcv c { s.rcv c with loaded := false, rebuild := none }
      else s
    s.holdStep5 c
  else s

/-! ### An operation fails (R263) -/

/-- A failure of a step's work at the rills or the adders: the hold of its context, or, while its rebuild list runs, R385. -/
def State.stepFail (s : State) (c code : Nat) : State :=
  if (s.rcv c).rebuild.isSome then s.rebuildFail c code else s.hold c code false false

/-- A program fault of operation opn (R263): OPABORTs, the end of FUSED_RUN, and nothing from the failed operation on is replayed; a CHECKPOINT
that waits for it ends with the same code (log 37). -/
def State.programFail (s : State) (c opn code : Nat) : State :=
  let q := s.seqr c
  let s := (s.opAborts c code).endRuns c code opn
  let s := q.ops.foldl (fun s o => s.releasePost o) s
  let s := (q.points.filter (fun (x : Point) => x.handle != 0)).foldl (fun s x => s.endLong c x.handle code (s.commitResult c)) s
  let q := s.seqr c
  let lists := (q.lists.map (fun (l : RunList) => { l with entries := min l.entries (opn - l.opn0) })).filter (fun l => l.entries != 0)
  let s := s.setRcv c { s.rcv c with hung := [] }
  (s.setSeqr c { q with ops := [], lists, points := [], halted := true, tail := none, alt := none }).cfSync

/-- An operation fails (R263, R383): FUSED_RUN ends with its OPN and, unless the fault is the program's, a fault hold follows. An operation of the
rebuild list leaves the context HELD (R385). -/
def State.failOp (s : State) (c opn code : Nat) (program silent : Bool) : State :=
  if (s.rcv c).rebuild.isSome then s.rebuildFail c code
  else if program then (if (s.seqr c).halted then s else s.programFail c opn code)
  else (if (s.seqr c).halted then s else s.endRuns c code opn).hold c code false silent

/-- A failure of the context that is none of an operation that runs fails its lowest one; while the rebuild list runs it joins the hold (R388). -/
def State.contextFail (s : State) (c code : Nat) (silent : Bool) : State :=
  if (s.rcv c).rebuild.isSome then s else s.failOp c (s.seqr c).low code false silent

/-- The operation under which work at a rill runs: the lowest started one whose region holds it (log 30). -/
def State.opAt (s : State) (c k : Nat) : Option Nat :=
  (((s.seqr c).ops.filter (fun o => decide (1 ≤ o.stage) && o.inRegion k)).map (·.opn)).min?

/-- The operation of a rill fails with a code. -/
def State.rillOpFail (s : State) (k code : Nat) (program : Bool) : State :=
  let c := (s.rill k).ctx
  match s.opAt c k with
  | some n => s.failOp c n code program false
  | none => s

/-- A program fault at a rill (R57). -/
def State.programFault (s : State) (k : Nat) : State := s.rillOpFail k cMalformed true
/-- A stream of a rill faults (R263). -/
def State.streamFault (s : State) (k code : Nat) : State := s.rillOpFail k code false
/-- An OPSTART that its operation cannot deliver (R52, R263). -/
def State.opStartFail (s : State) (c opn code : Nat) : State :=
  match s.op? c opn with
  | some _ => s.failOp c opn code (decide (code = cMalformed)) false
  | none => s

/-- The profile in force for a context (R398). -/
def State.profileOf (s : State) (c : Nat) : Nat := (s.rcv c).profile

/-! ### Failed positions (R369-R371, R377) -/

/-- Does RILLS_PRESENT show the table: START_STAGE has reached FIRMWARE since the reset (R568)? -/
def State.mapShown (s : State) : Bool := decide (1 ≤ s.stage) && decide (s.stage ≤ 4)

/-- Counts of a reach and of the module that the table determines (R400, R402): one more position that is not PRESENT. -/
def State.countHole (s : State) (k : Nat) : State :=
  let rch := reachOf (rcol k) (rrow k)
  let a := rg clsReach rch 0x100
  let s := s.setF a 0 14 (s.regF a 0 14 + 1)
  let seg := rg clsReach rch (0x120 + 4 * (rrow k % 120))
  let s := s.setF seg (4 * segOf (rcol k)) 4 (s.regF seg (4 * segOf (rcol k)) 4 + 1)
  let s := if s.mapShown then s.setRegN 0x10C (s.regN 0x10C - 1) else s
  s.setF 0x204 0 20 (s.regF 0x204 0 20 + 1)

/-- One more position that is PRESENT again. -/
def State.countPresent (s : State) (k : Nat) : State :=
  let rch := reachOf (rcol k) (rrow k)
  let a := rg clsReach rch 0x100
  let s := s.setF a 0 14 (s.regF a 0 14 - 1)
  let seg := rg clsReach rch (0x120 + 4 * (rrow k % 120))
  let s := s.setF seg (4 * segOf (rcol k)) 4 (s.regF seg (4 * segOf (rcol k)) 4 - 1)
  let s := if s.mapShown then s.setRegN 0x10C (s.regN 0x10C + 1) else s
  s.setF 0x204 0 20 (s.regF 0x204 0 20 - 1)

/-- CMT_GEN moves once before and once after a change (R368). -/
def State.cmtGen (s : State) : State := s.setRegN 0x208 (s.regN 0x208 + 2)

/-- A position's STATE and CAUSE in the table. -/
def State.setCmt (s : State) (k st cause : Nat) : State :=
  let s := if s.present k then s.countHole k else s
  (s.setF (aCmtK k) 4 3 st).setF (aCmtK k) 12 4 cause

/-- A valid DEAD_REGION entry (R137). -/
def deadWord (c0 c1 r0 r1 : Nat) : Nat := c0 + 2 ^ 7 * c1 + 2 ^ 14 * r0 + 2 ^ 21 * r1 + 2 ^ 31
/-- A reach entered whole. -/
abbrev deadWhole : Nat := deadWord 0 119 0 119

/-- The dead-region entries of a reach and what FAB_STATUS says of them (R110, R136, R137): more than eight enter the reach whole. -/
def State.writeDead (s : State) (rch : Nat) (l : List Nat) : State :=
  let l := if 8 < l.length ∨ l.contains deadWhole then [deadWhole] else l
  let s := (List.range 8).foldl (fun s i => s.setRegN (aDead rch i) (l.getD i 0)) s
  (s.setF (rg clsReach rch 0x404) 0 4 l.length).setB (rg clsReach rch 0x404) 9 (l.contains deadWhole)

/-- The valid dead-region entries of a reach. -/
def State.readDead (s : State) (rch : Nat) : List Nat :=
  ((List.range 8).map (fun i => s.regN (aDead rch i))).filter (fun w => w.testBit 31)

/-- One more dead-region entry of a reach (R110). -/
def State.addDead (s : State) (rch c0 c1 r0 r1 : Nat) : State := s.writeDead rch (s.readDead rch ++ [deadWord c0 c1 r0 r1])

/-- Reaches of the four neighbours of a position, and its own. -/
def reachesNear (k : Nat) : List Nat :=
  let c := rcol k
  let r := rrow k
  [reachOf c r] ++ (if 0 < c then [reachOf (c - 1) r] else []) ++ (if c < 1079 then [reachOf (c + 1) r] else [])
    ++ (if 0 < r then [reachOf c (r - 1)] else []) ++ (if r < 839 then [reachOf c (r + 1)] else [])

/-- Is some link of a reach absent (R105, R115, R136)? A pitch spans its reach from side to side. -/
def State.linksAbsent (s : State) (rch : Nat) : Bool :=
  let iso (p : Nat) : Bool := s.pst clsPitch p == stIsolated
  (List.range 4).any (fun k => iso (4 * rch + k)
      || (rch % 9 != 0 && iso (4 * (rch - 1) + k)) || (rch % 9 != 8 && iso (4 * (rch + 1) + k)))
    || (decide (9 ≤ rch) && iso (4 * (rch - 9) + 3)) || (decide (rch < 54) && iso (4 * (rch + 9)))
    || s.rills.any (fun e => (e.2.routerFailed || e.2.poolRouterFailed) && !s.isDead (rcol e.1, rrow e.1) && (reachesNear e.1).contains rch)

/-- LINK_ABSENT of reaches (R136). -/
def State.absentSync (s : State) (l : List Nat) : State :=
  l.foldl (fun s r => s.setB (rg clsReach r 0x404) 8 (s.linksAbsent r)) s

/-- A context held for a repair: in `remap` it then waits for a placement (R375), in `layout` it has LAYOUT_CHANGED (R372); `flash` tells that the
repair changes the table, so that its replay waits for the flash write (R367). -/
def State.holdFor (s : State) (ctxs remap layout : List Nat) (flash : Bool) (code : Nat) : State :=
  ctxs.foldl (fun s c =>
    let r := s.rcv c
    let s := s.setRcv c { r with remap := r.remap || remap.contains c, repairs := r.repairs + b2n flash }
    let s := if layout.contains c then s.setB (aRc c 4) 3 true else s
    s.hold c code true false) s

/-- The contexts of the module: all of them once start-up is over (R377, R411). -/
def State.allCtx (s : State) : List Nat := if s.stage = 4 then List.range 17 else s.usedCtx

/-- Are the contexts held for a pitch: does a start or stop wait or run, or has one not its part in the Core Map Table and in flash yet (R367, R411)? -/
def State.pitchBusy (s : State) : Bool :=
  !(s.pitchWait.isEmpty && s.pitchRun.isEmpty && s.startPend.isEmpty) || s.cmtDue

/-- The dead-region entry of a pitch (R110). -/
def pitchWord (p : Nat) : Nat := deadWord 0 119 (30 * (p % 4)) (30 * (p % 4) + 29)

/-- Is a pitch a dead region (R411-R413): until its start is done, and in the table too? -/
def State.pitchDead (s : State) (p : Nat) : Bool :=
  let st := s.pst clsPitch p
  s.startPend.contains p || st != stOn && !(st == stStopping && (look? s.pitchRun p).isNone)

/-- The dead regions of a reach written anew: its pitches without powered routers, and the DEAD positions outside them (R110, R411). -/
def State.setDeadReach (s : State) (rch : Nat) : State :=
  let dead := ((List.range 4).map (fun k => 4 * rch + k)).filter s.pitchDead
  let rows := rectPos (rch % 9 * 120) (rch % 9 * 120 + 119) (rch / 9 * 120) (rch / 9 * 120 + 119)
  let pos := (rows.filter (fun k => s.cmtState k == 2 && !dead.contains (pitchOf (rcol k) (rrow k)))).map (fun k =>
    deadWord (rcol k % 120) (rcol k % 120) (rrow k % 120) (rrow k % 120))
  s.writeDead rch (dead.map pitchWord ++ pos)

/-- Has a router of the position failed on either mesh? -/
def Rill.noRouter (r : Rill) : Bool := r.routerFailed || r.poolRouterFailed

/-- A failed position takes effect in the table (R364, R370): a HOLE, or DEAD with a dead region when its router has failed. -/
def State.makeHole (s : State) (k cause : Nat) : State :=
  let col := rcol k
  let row := rrow k
  let rch := reachOf col row
  let s := if (s.rill k).noRouter then
      ((s.setCmt k 2 cause).addDead rch (col % 120) (col % 120) (row % 120) (row % 120)).absentSync (reachesNear k)
    else s.setCmt k 1 cause
  s.cmtGen.cairnLog 5 clsReach rch cHoleCreated noCtx [itRill col row, itFault 0 cause]

/-- The first rill of a segment. -/
def segHead (k : Nat) : Nat := ridx (rcol k / 15 * 15) (rrow k)

/-- The number by which the idle position of a segment is named: 907,200 above the segment's first rill (log 86). -/
abbrev idleNo (g : Nat) : Nat := 907200 + g

/-- The idle position of a segment fails (R104, R370): SEG_SPARE becomes 0, with a record of severity 3; no context is held. -/
def State.idleLost (s : State) (g cause : Nat) : State :=
  if s.regB (aCmtK g) 7 then
    let s := (segmentOf g).foldl (fun s x => s.setB (aCmtK x) 7 false) s
    let rch := reachOf (rcol g) (rrow g)
    let r := rg clsReach rch 0x100
    ((s.setF r 16 10 (s.regF r 16 10 - 1)).cmtGen).cairnLog 3 clsReach rch 0 noCtx [itRill (rcol g) (rrow g), itFault 0 cause]
  else s

/-- The idle position of a segment is reported failed, and RCH_FAILS counts it (R399); the table waits for the Warden while its firmware is away (R364). -/
def State.idleFailed (s : State) (g cause : Nat) : State :=
  let s := if s.regB (aCmtK g) 7 && !s.failing.any (fun e => e.1 == idleNo (segHead g)) then s.incSat (rg clsReach (reachOf (rcol g) (rrow g)) 0x104) else s
  if s.fwRuns then s.idleLost g cause else { s with failing := s.failing ++ [(idleNo (segHead g), cause, true)] }

/-- A position is reported failed (R369-R371): with a working idle position a spare swap follows, otherwise the position becomes a HOLE, or DEAD
when a router of it has failed, at once or, while no firmware runs, when it runs again (R364). A HOLE whose router fails later becomes DEAD. -/
def State.reportFailed (s : State) (k cause : Nat) : State :=
  let gone := (s.rill k).noRouter
  let late := gone && s.cmtState k == 1
  if (!s.present k && !late) || s.failing.any (fun e => e.1 == k) then s
  else
    let s := s.incSat (rg clsReach (reachOf (rcol k) (rrow k)) 0x104)
    let s := s.modRill k (fun r => { r with failed := true })
    let spare := s.regB (aCmtK k) 7 && !late && !s.failing.any (fun e => e.1 == idleNo (segHead k) || (segmentOf k).contains e.1)
    if spare then
      let own := s.ownersOf (segmentOf k)
      ({ s with failing := s.failing ++ [(k, cause, false)] }).holdFor own [] own true cCoreRemapped
    else
      let own := s.ownersOf [k]
      let all := if gone then s.allCtx ++ own.filter (fun c => !s.allCtx.contains c) else own
      let s := s.holdFor all own [] true cHoleCreated
      if s.fwRuns then s.makeHole k cause else { s with failing := s.failing ++ [(k, cause, true)] }

/-- A router fails on one mesh (R105, R369): its links are absent at once, and its position is reported failed. -/
def State.routerLost (s : State) (pool : Bool) (k cause : Nat) : State :=
  let s := s.modRill k (fun r => if pool then { r with poolRouterFailed := true } else { r with routerFailed := true })
  let s := (s.absentSync (reachesNear k)).linkLoss (fun m => m == pool) (fun q => q == (rcol k, rrow k))
  s.reportFailed k cause

/-- The position that an entry of a test's report concerns (log 86): below 907,200 a logical position; then the idle position of the segment whose
first rill the rest numbers; then the compute mesh router and the pool mesh router of a logical position. -/
def testPos (n : Nat) : Nat := n % 907200

/-- An entry of a test's report takes effect: a position, the idle one of a segment, or a router of a position is failed (R369, R529). -/
def State.reportPos (s : State) (n cause : Nat) : State :=
  if n < 907200 then s.reportFailed n cause
  else if n < 1814400 then s.idleFailed (testPos n) cause
  else s.routerLost (decide (2721600 ≤ n)) (testPos n) cause

/-- What the table had to wait for while the firmware was away takes effect (R364, R416): failures without a swap. -/
def State.failuresDue (s : State) : State :=
  let due := s.failing.filter (fun e => e.2.2)
  due.foldl (fun s e => if 907200 ≤ e.1 then s.idleLost (e.1 - 907200) e.2.1 else s.makeHole e.1 e.2.1)
    { s with failing := s.failing.filter (fun e => !e.2.2) }

/-! ### Slot faults (R56, R57, R95, R96) -/

/-- The items that name a slot. -/
def State.slotItems (s : State) (k n : Nat) : List (Nat × List Byte) :=
  let x := (s.rill k).slot n
  [itRill (rcol k) (rrow k), itSlotPc n x.pc.toNat, itFault x.fault.toNat 0]

/-- The slot stops: FAULTED with its FAULT code (R31, R56). -/
def Slot.stop (x : Slot) (fault : Nat) : Slot := { x with st := .faulted, wait := .nothing, fault := BitVec.ofNat 16 fault, exiting := false }

/-- Can the context's next commit point come while a task at rill k hangs: does it lie below every operation that needs the rill (R56, R379; log
110)? Under profile F the next one may be that of a LAYER_END operation which runs. -/
def State.hangWaits (s : State) (c k : Nat) : Bool :=
  let q := s.seqr c
  let m := ((q.ops.filter (fun o => o.inRegion k)).map (·.opn)).min?
  let below (n : Nat) : Bool := match m with
    | some x => decide (n < x)
    | none => true
  (s.rstate c == 0 || s.rstate c == 5)
    && (q.points.any (fun x => below x.opn) || ((s.rcv c).profile == 1 && q.ops.any (fun o => o.layerEnd && below o.opn)))

/-- A task hangs (R56): the context is held at its next commit point, or at once where that point cannot come (log 110). -/
def State.hang (s : State) (c k : Nat) : State :=
  if s.hangWaits c k then s.setRcv c { s.rcv c with hung := ins (s.rcv c).hung k } else s.stepFail c cDeadline

/-- A commit point is complete: a hang that waited for it holds the context now, if its slot still stands (R56). -/
def State.hangDue (s : State) (c : Nat) : State :=
  let l := (s.rcv c).hung
  let s := s.setRcv c { s.rcv c with hung := [] }
  if l.any (fun k => (s.rill k).ctx == c && (List.range 16).any (fun n => ((s.rill k).slot n).st == .faulted && ((s.rill k).slot n).fault.toNat % 256 == 6))
  then s.stepFail c cDeadline else s

/-- A slot faults (R56): FAULTED with its FAULT code, then the handling of the code. A fault may carry a TRAP operand in bits 15:8. -/
def State.slotFault (s : State) (k n fault : Nat) : State :=
  let code := fault % 256
  let s := (s.wdSync k).modSlot k n (fun x => x.stop fault)
  let r := s.rill k
  let c := r.ctx
  let rch := reachOf (rcol k) (rrow k)
  let pc := (r.slot n).pc.toNat
  if code = 7 then
    let s := s.cairnLog 4 clsReach rch cPoisonFault c (s.slotItems k n)
    match s.opAt c k with
    | some m => s.failOp c m cPoisonFault false false
    | none => s.stepFail c cPoisonFault
  else if code = 6 ∧ !r.wdFaults.any (fun e => e.1 == n && e.2.1 == pc && e.2.2 != r.epoch) then
    let s := s.modRill k (fun r => { r with wdFaults := (n, pc, r.epoch) :: r.wdFaults })
    (s.cairnLog 4 clsReach rch cDeadline c (s.slotItems k n)).hang c k
  else
    (s.cairnLog 4 clsReach rch cMalformed c (s.slotItems k n)).programFault k

/-- A RESIDUE fault of a slot (R95, R96): one in the replay that an earlier one at the rill caused reports the rill failed. The replay has a later
EPOCH than the fault, and ends with the next commit point (log 141). -/
def State.residueFault (s : State) (k n pc : Nat) (e : CheckErr) : State :=
  let s := (s.wdSync k).modSlot k n (fun x => x.stop 8)
  let r := s.rill k
  let c := r.ctx
  let s := s.cairnLog 5 clsReach (reachOf (rcol k) (rrow k)) cResidueFail c
    [itRill (rcol k) (rrow k), itSlotPc n pc, itResidue e]
  let again : Bool := match r.residueMark with
    | some m => m != r.epoch
    | none => false
  let s := s.modRill k (fun r => { r with residueMark := some r.epoch })
  let s := match s.opAt c k with
    | some m => s.failOp c m cResidueFail false false
    | none => s.stepFail c cResidueFail
  if again then s.reportFailed k 3 else s

/-- A residue failure of ballast work (R421): recorded at severity 4; the second at a rill within 1 s reports the rill failed. -/
def State.ballastFail (s : State) (k : Nat) (e : CheckErr) : State :=
  let s := s.cairnLog 4 clsReach (reachOf (rcol k) (rrow k)) cResidueFail noCtx [itRill (rcol k) (rrow k), itResidue e]
  let times := s.clk.now :: (s.rill k).ballastFails.filter (fun t => inWindow s.clk.now t 1000000000)
  let s := s.modRill k (fun r => { r with ballastFails := times })
  if 2 ≤ times.length then s.reportFailed k 3 else s

end Sys2Proof.Machine
end

