-- ==== Sys2Proof/Machine/Blocks.lean ====
section
/-! DEFINITION. The block state machine of STATEFUL pages (18 R560-R564): what done, fault and requests do to a page. A page's own
actions at a start or a stop are given by its chapter and stand as arguments here. -/

namespace Sys2Proof.Machine

/-- A start is done (R562): ON, then STOPPING if PEND_OFF. `atStop` is what the block does as its stop begins. -/
def State.startDone (s : State) (cls inst : Nat) (atStop : State → State) : State :=
  let s := s.setPst cls inst stOn
  if s.pendOff cls inst then atStop ((s.setPendOff cls inst false).setPst cls inst stStopping) else s

/-- A fault that the owning chapter assigns to FAULTED (R562): from STARTING a pending stop follows; in STOPPING it is only recorded. -/
def State.pageFault (s : State) (cls inst : Nat) (atStop : State → State) : State :=
  let st := s.pst cls inst
  if st = stStarting then
    let s := s.setPst cls inst stFaulted
    if s.pendOff cls inst then atStop ((s.setPendOff cls inst false).setPst cls inst stStopping) else s
  else if st = stOn then s.setPst cls inst stFaulted
  else s

/-- A stop is done (R562): OFF, then STARTING if PEND_ON. `atStart` is what the block does as its start begins. -/
def State.stopDone (s : State) (cls inst : Nat) (atStart : State → State) : State :=
  let s := s.setPst cls inst stOff
  if s.pendOn cls inst then atStart ((s.setPendOn cls inst false).setPst cls inst stStarting) else s

/-- Isolation by hardware (R563): ISOLATED from any state, and both PEND bits cleared. -/
def State.isolatePage (s : State) (cls inst : Nat) : State :=
  ((s.setPst cls inst stIsolated).setPendOn cls inst false).setPendOff cls inst false

/-- EN_REQ (R562). -/
def State.enReqOn (s : State) (cls inst : Nat) (atStart : State → State) : State :=
  let st := s.pst cls inst
  if st = stOff ∨ st = stFaulted ∨ st = stIsolated then atStart (s.setPst cls inst stStarting)
  else if st = stStopping then s.setPendOn cls inst true
  else s

/-- STOP_REQ (R562). -/
def State.stopReqOn (s : State) (cls inst : Nat) (atStop : State → State) : State :=
  let st := s.pst cls inst
  if st = stStarting then s.setPendOff cls inst true
  else if st = stOn ∨ st = stFaulted then atStop (s.setPst cls inst stStopping)
  else if st = stStopping then s.setPendOn cls inst false
  else s

/-- ISOLATE (R562): honoured in OFF, without effect in ISOLATED, otherwise ignored. -/
def State.isolateOn (s : State) (cls inst : Nat) : State :=
  let st := s.pst cls inst
  if !isolatablePage cls inst then s.ignored cls inst
  else if st = stOff then s.setPst cls inst stIsolated
  else if st = stIsolated then s
  else s.ignored cls inst

end Sys2Proof.Machine
end

