-- ==== Sys2Proof/Machine/Operands.lean ====
section
/-! DEFINITION. The one pipeline by which every rill instruction issues (02 R32, R36-R42), and the operand forms of its memory accesses (R26, R28). -/

namespace Sys2Proof.Machine

/-! ### Issue -/

/-- An instruction that issues: the rill, the slot's number, the slot and the word. -/
structure Issue where
  k : Nat
  n : Nat
  x : Slot
  w : W64
  deriving DecidableEq, Repr

/-- Value of gs1. -/
def Issue.v1 (i : Issue) : W64 := i.x.greg (gs1Of i.w)
/-- Value of gs2. -/
def Issue.v2 (i : Issue) : W64 := i.x.greg (gs2Of i.w)
/-- gs1 + signed offset of format L. -/
def Issue.ea (i : Issue) : W64 := i.v1 + sext32 (immOf i.w)

/-- The slot issues: the clock has come to its cycle, which is the rill's and the slot's last issue; the rill watchdog counts anew (R32, R53). -/
def State.touchIssue (s : State) (a : SlotId) : State :=
  let c := s.issueCycle a
  (s.atCycle c).modRill (slotK a) (fun r =>
    ({ r with lastIssue := c, wd := (c, 0) }).setSlot a.slot { r.slot a.slot with issuedAt := c + 1 })

/-- The issuing slot fault: its effect is nothing but the fault. -/
def State.faultAt (s : State) (i : Issue) (fault : Nat) : State := s.slotFault i.k i.n fault

/-- An instruction retires: the slot changes as said, PC moves on by 8 (R36) and the watchdog count starts again (R53). -/
def State.retire (s : State) (i : Issue) (f : Slot → Slot) : State :=
  s.modSlot i.k i.n (fun x => { f x with pc := x.pc + 8, lastRetire := s.clk.cycle })

/-- The pipeline of every rill instruction (R32, R38, R25): an eligible slot issues; an illegal encoding faults with ILLEGAL, a
tensor register of another owner with TREG_OWNER, before any fault of its memory access (log 164); otherwise the instruction has its effect. -/
def execIssue (op : Nat) (a : SlotId) (s : State) (f : Issue → State → State) : Host.Outcome State Fault Refusal :=
  onUnit (slotOk a) (s.eligible a op) s (fun s =>
    let r := s.rill (slotK a)
    let x := r.slot a.slot
    let w := s.fetch (slotK a) x.pc
    let i : Issue := { k := (slotK a), n := a.slot, x, w }
    let s := s.touchIssue a
    if !legalWord w then s.faultAt i fIllegal
    else if (tregsOf w).any (fun t => r.owner t != a.slot) then s.faultAt i fTreg
    else f i s)

/-- An instruction whose whole effect is a value for gd (R41). -/
def execG (op : Nat) (a : SlotId) (s : State) (v : Issue → W64) : Host.Outcome State Fault Refusal :=
  execIssue op a s (fun i s => s.retire i (fun x => x.setG (gdOf i.w) (v i)))

/-! ### The local address space (R26, R28) -/

/-- Where a local access falls. -/
inductive Local where
  | store (a : Nat)
  | pool (a : Nat)
  | fault (f : Nat)
  deriving DecidableEq, Repr

/-- Load-to-use latency of a place in cycles (R26). -/
def Local.latency : Local → Nat
  | .pool _ => 6
  | _ => 3

/-- A load retires: the register that it fills may be used after the load-to-use latency of its place (R26). -/
def State.retireLoad (s : State) (i : Issue) (l : Local) (v : W64) : State :=
  s.retire i (fun x => { x.setG (gdOf i.w) v with gready := put x.gready (gdOf i.w) (s.clk.cycle + l.latency) })

/-- The place of an access of `n` bytes aligned to `al`: ADDR wins over ALIGN (R26). -/
def localAt (a n al : Nat) : Local :=
  if a + n ≤ 0xC000 then (if a % al = 0 then .store a else .fault fAlign)
  else if 0x10000 ≤ a ∧ a + n ≤ 0x20000 then (if a % al = 0 then .pool (a - 0x10000) else .fault fAlign)
  else .fault fAddr

/-- Bytes read at a place, or the fault: ADDR or ALIGN, otherwise POISON on a poisoned line (R28; log 165). -/
def State.localRead (s : State) (k : Nat) (l : Local) (n : Nat) : Nat ⊕ List Byte :=
  match l with
  | .fault f => .inl f
  | .store a => if s.storePois k a n then .inl fPoison else .inr (s.storeRead k a n)
  | .pool a => if s.poolPois k a n then .inl fPoison else .inr (s.poolRead k a n)

/-- Bytes written at a place. -/
def State.localWrite (s : State) (k : Nat) (l : Local) (b : List Byte) : State :=
  match l with
  | .fault _ => s
  | .store a => s.storeWrite k a b false
  | .pool a => s.poolWrite k a b false

end Sys2Proof.Machine
end

