-- ==== Sys2Proof/Machine/MemInstr.lean ====
section
/-! DEFINITION. Memory instructions, format L (02 R26, R41; 04 R126, R127): loads and stores of the local address space, LDP64 and
STP64 of global pool addresses, AMOADD and AMOSWAP. -/

namespace Sys2Proof.Machine

/-- A load of `n` bytes, zero-extended, aligned to its own size. -/
def execLoad (op n : Nat) (a : SlotId) (s : State) : Host.Outcome State Fault Refusal :=
  execIssue op a s (fun i s =>
    let l := localAt i.ea.toNat n n
    match s.localRead i.k l n with
    | .inl f => s.faultAt i f
    | .inr b => s.retireLoad i l (BitVec.ofNat 64 (leNat b)))

/-- A store of the low `n` bytes of gs2. -/
def execStore (op n : Nat) (a : SlotId) (s : State) : Host.Outcome State Fault Refusal :=
  execIssue op a s (fun i s =>
    match localAt i.ea.toNat n n with
    | .fault f => s.faultAt i f
    | l => (s.localWrite i.k l (leBytes n i.v2.toNat)).retire i id)

/-- LD8. -/
def execLd8 (a : SlotId) (s : State) := execLoad 0x20 1 a s
/-- LD32. -/
def execLd32 (a : SlotId) (s : State) := execLoad 0x21 4 a s
/-- LD64. -/
def execLd64 (a : SlotId) (s : State) := execLoad 0x22 8 a s
/-- ST8. -/
def execSt8 (a : SlotId) (s : State) := execStore 0x23 1 a s
/-- ST32. -/
def execSt32 (a : SlotId) (s : State) := execStore 0x24 4 a s
/-- ST64. -/
def execSt64 (a : SlotId) (s : State) := execStore 0x25 8 a s

/-- An atomic access: gd = old 8 bytes, and `f old gs2` is stored, in one access (R26, R41). -/
def execAmo (op : Nat) (f : W64 → W64 → W64) (a : SlotId) (s : State) : Host.Outcome State Fault Refusal :=
  execIssue op a s (fun i s =>
    let l := localAt i.ea.toNat 8 8
    match s.localRead i.k l 8 with
    | .inl e => s.faultAt i e
    | .inr b =>
      let old : W64 := BitVec.ofNat 64 (leNat b)
      (s.localWrite i.k l (leBytes 8 (f old i.v2).toNat)).retireLoad i l old)

/-- AMOADD. -/
def execAmoadd (a : SlotId) (s : State) := execAmo 0x28 (fun old v => old + v) a s
/-- AMOSWAP. -/
def execAmoswap (a : SlotId) (s : State) := execAmo 0x29 (fun _ v => v) a s

/-- A global pool address: rill index and offset (R126); none when a reserved bit is set or the position lies outside the grid. -/
def poolAddr (v : Nat) : Option (Nat × Nat) :=
  let col := nfld v 16 11
  let row := nfld v 27 10
  if v < 2 ^ 37 ∧ inGrid col row then some (ridx col row, v % 0x10000) else none

/-- A packet of a task slot: its source, CTX and EPOCH are the rill's (R44). -/
def State.slotPacket (s : State) (k n : Nat) : Packet :=
  let r := s.rill k
  { Packet.blank with scol := rcol k, srow := rrow k, ctx := r.ctx, epoch := r.epoch, slot := n }

/-- LDP64 (R127, R130): over the bond for the own home pool, otherwise a READ with POOL set whose data comes into gd. -/
def execLdp64 (a : SlotId) (s : State) : Host.Outcome State Fault Refusal :=
  execIssue 0x26 a s (fun i s =>
    match poolAddr i.ea.toNat with
    | none => s.faultAt i fAddr
    | some (t, off) =>
      if off % 8 ≠ 0 then s.faultAt i fAddr
      else if t = i.k then
        match s.localRead i.k (.pool off) 8 with
        | .inl e => s.faultAt i e
        | .inr b => s.retireLoad i (.pool off) (BitVec.ofNat 64 (leNat b))
      else
        let (xid, s) := s.fresh
        let p := { s.slotPacket i.k i.n with dcol := rcol t, drow := rrow t, kind := 2, pool := true, len := 8, addr := off, xid }
        match s.inject? p with
        | none => (s.unreachable p).faultAt i fAddr
        | some s => s.retire i (fun x => { x with loads := x.loads ++ [(xid, gdOf i.w)] }))

/-- STP64 (R46, R127): over the bond for the own home pool, otherwise a WRITE with POOL set and ACK_REQ. -/
def execStp64 (a : SlotId) (s : State) : Host.Outcome State Fault Refusal :=
  execIssue 0x27 a s (fun i s =>
    match poolAddr i.ea.toNat with
    | none => s.faultAt i fAddr
    | some (t, off) =>
      if off % 8 ≠ 0 then s.faultAt i fAddr
      else if t = i.k then (s.localWrite i.k (.pool off) (leBytes 8 i.v2.toNat)).retire i id
      else
        let (xid, s) := s.fresh
        let p := { s.slotPacket i.k i.n with
          dcol := rcol t, drow := rrow t, kind := 1, pool := true, ackReq := true, len := 8, addr := off,
          payload := leBytes 8 i.v2.toNat, xid }
        match s.inject? p with
        | none => (s.unreachable p).faultAt i fAddr
        | some s => s.retire i (fun x => { x with acks := x.acks ++ [xid] }))

end Sys2Proof.Machine
end

