-- ==== Sys2Proof/Machine/Control.lean ====
section
/-! DEFINITION. Control instructions, slot control and waits (02 R31, R35, R41, R42, R53-R55): jumps and branches, SPAWN, EXIT, YIELD,
WAITEV, SIGNAL, TCLAIM, TFREE, FENCE, the events that end a wait, TRAP, NOP, CSRR, CSRW and the watchdogs. -/

namespace Sys2Proof.Machine

/-- The fault of a branch target, given as the whole 64-bit value (R42): ADDR before ALIGN. -/
def targetFault (t : W64) : Option Nat :=
  if 0xC000 ≤ t.toNat then some fAddr else if t.toNat % 8 ≠ 0 then some fAlign else none

/-- A taken branch to a 64-bit target: a fault leaves PC unchanged (R42). -/
def State.branchTo (s : State) (i : Issue) (t : W64) (f : Slot → Slot) : State :=
  match targetFault t with
  | some e => s.faultAt i e
  | none => s.modSlot i.k i.n (fun x => { f x with pc := t.truncate 32, lastRetire := s.clk.cycle })

/-- PC + offset, as a 64-bit value (R36: signed byte offset from this instruction). -/
def Issue.target (i : Issue) : W64 := i.x.pc.zeroExtend 64 + sext32 (immOf i.w)

/-- A conditional branch: PC + offset when the condition holds, otherwise PC + 8. -/
def execBranch (op : Nat) (c : W64 → W64 → Bool) (a : SlotId) (s : State) : Host.Outcome State Fault Refusal :=
  execIssue op a s (fun i s => if c i.v1 i.v2 then s.branchTo i i.target id else s.retire i id)

/-- J. -/
def execJ (a : SlotId) (s : State) := execIssue 0x30 a s (fun i s => s.branchTo i i.target id)
/-- JR. -/
def execJr (a : SlotId) (s : State) := execIssue 0x31 a s (fun i s => s.branchTo i i.v1 id)
/-- CALL: g31 = PC + 8. -/
def execCall (a : SlotId) (s : State) :=
  execIssue 0x32 a s (fun i s => s.branchTo i i.target (fun x => x.setG 31 ((i.x.pc + 8).zeroExtend 64)))
/-- BEQ. -/
def execBeq (a : SlotId) (s : State) := execBranch 0x33 (fun x y => x == y) a s
/-- BNE. -/
def execBne (a : SlotId) (s : State) := execBranch 0x34 (fun x y => x != y) a s
/-- BLT: signed. -/
def execBlt (a : SlotId) (s : State) := execBranch 0x35 (fun x y => x.slt y) a s
/-- BLTU: unsigned. -/
def execBltu (a : SlotId) (s : State) := execBranch 0x36 (fun x y => x.ult y) a s

/-- A slot that starts a task at a PC: every other register 0, EVENT 0; its draw counter stays (R41 SPAWN, R60, R89). -/
def Slot.begin (x : Slot) (pc : W32) (g : AMap W64) (cyc : Nat) : Slot :=
  { x with pc, g, event := 0, st := .ready, wait := .nothing, lastRetire := cyc, acks := [], loads := [], exiting := false }

/-- A PC from a 64-bit value: 32 bits, and always a multiple of 8 (R23; log 13). -/
def pcAt (v : W64) : W32 := v.truncate 32 &&& 0xFFFFFFF8

/-- SPAWN: the lowest-numbered FREE slot starts at PC = gs1 with g1 = gs2, g2 = the issuing slot's number; gd = its number, or -1.
A gs1 above 32 bits or not a multiple of 8 is cut to the PC's form (log 13). -/
def execSpawn (a : SlotId) (s : State) : Host.Outcome State Fault Refusal :=
  execIssue 0x40 a s (fun i s =>
    match (List.range 16).find? (fun n => ((s.rill i.k).slot n).st == .free) with
    | none => s.retire i (fun x => x.setG (gdOf i.w) (-1))
    | some n =>
      let s := s.modSlot i.k n (fun x => x.begin (pcAt i.v1) [(1, i.v2), (2, BitVec.ofNat 64 i.n)] s.clk.cycle)
      s.retire i (fun x => x.setG (gdOf i.w) (BitVec.ofNat 64 n)))

/-- Work of a slot still in flight (R35): unit operations, loads, acknowledgements, trickle transfers. -/
def Rill.inFlight (r : Rill) (n : Nat) : Bool :=
  let x := r.slot n
  (r.tensorQ ++ r.vectorQ).any (fun o => o.slot == n) || !x.loads.isEmpty || !x.acks.isEmpty
    || r.trickles.any (fun t => t.slot == n)

/-- EXIT ends the task when every earlier operation of the slot has finished (R35); until then the slot is not FREE. It retires when it
completes, so the count of the task watchdog runs on (R53; log 141). -/
def execExit (a : SlotId) (s : State) : Host.Outcome State Fault Refusal :=
  execIssue 0x41 a s (fun i s => s.modSlot i.k i.n (fun x => { x with exiting := true }))

/-- RELEASED advances over released slots in tile order only (R154). -/
def releaseRun : Nat → List Acq → Nat → Nat × List Acq
  | 0, l, r => (r, l)
  | f + 1, l, r =>
    match l.find? (fun q => q.tile == r && q.released) with
    | some _ => releaseRun f (l.filter (fun q => q.tile != r)) (r + 1)
    | none => (r, l)

/-- A queue after marks were set: RELEASED runs on. -/
def Queue.settle (q : Queue) : Queue :=
  let (rel, acqs) := releaseRun q.acqs.length q.acqs q.released
  { q with released := rel, acqs }

/-- Freed entries and pads at the ring's read end (R50). -/
def rxAdvance : List RxEntry → Nat → List RxEntry × Nat
  | [], rd => ([], rd)
  | e :: t, rd => if e.freed || e.pad then rxAdvance t (e.off + e.size) else (e :: t, rd)

/-- The receive ring after entries were freed: RD advances in order of arrival only; both offsets are 0 when the ring holds no entry
(R50). -/
def Rill.rxSettle (r : Rill) : Rill :=
  let (l, rd) := rxAdvance r.rx r.rxRd
  if l.isEmpty then { r with rx := [], rxWr := 0, rxRd := 0 } else { r with rx := l, rxRd := rd % r.rxLen }

/-- Entries that a predicate picks become free. -/
def Rill.rxFree (r : Rill) (p : RxEntry → Bool) : Rill :=
  ({ r with rx := r.rx.map (fun e => if p e then { e with freed := true } else e) }).rxSettle

/-- The changes that EXIT makes together (R35): tensor registers unowned, ring slots released, messages freed, EVENT 0, FREE. -/
def Rill.endTask (r : Rill) (n : Nat) : Rill :=
  let own := (List.range 16).foldl (fun m t => if r.owner t = n then put m t 31 else m) r.own
  let queues := r.queues.map (fun e =>
    (e.1, ({ e.2 with acqs := e.2.acqs.map (fun (q : Acq) => if q.slot = n then { q with released := true } else q) }).settle))
  let r := ({ r with own, queues }).rxFree (fun e => e.holder == some n)
  r.setSlot n { r.slot n with event := 0, st := .free, wait := .nothing, exiting := false }

/-- An exiting slot's outstanding work has finished (R35). -/
def execExitComplete (a : SlotId) (s : State) : Host.Outcome State Fault Refusal :=
  let r := s.rill (slotK a)
  onUnit (slotOk a) ((r.slot a.slot).exiting && !r.inFlight a.slot && s.alive (slotK a)) s
    (fun s => s.modRill (slotK a) (fun r => r.endTask a.slot))

/-- A slot enters WAITING (R31): PC stays at the instruction until its condition holds. -/
def State.waitOn (s : State) (i : Issue) (wt : WaitFor) : State :=
  s.modSlot i.k i.n (fun x => { x with st := .waiting, wait := wt })

/-- A wait completes: gd is written, PC moves on, the slot is READY (R31). -/
def State.wakeWith (s : State) (k n : Nat) (f : Slot → Slot) : State :=
  s.modSlot k n (fun x => { f x with st := .ready, wait := .nothing, pc := x.pc + 8, lastRetire := s.clk.cycle })

/-- YIELD: WAITING for imm32[15:0] cycles. -/
def execYield (a : SlotId) (s : State) : Host.Outcome State Fault Refusal :=
  execIssue 0x42 a s (fun i s => s.waitOn i (.yield (s.clk.cycle + wf i.w 0 16)))

/-- A YIELD count expires at a cycle. -/
def execYieldExpiry (a : SlotId) (cyc : Nat) (s : State) : Host.Outcome State Fault Refusal :=
  let x := (s.rill (slotK a)).slot a.slot
  onUnit (slotOk a) (match x.wait with
    | .yield u => x.st == .waiting && decide (u ≤ max cyc s.clk.cycle) && s.alive (slotK a)
    | _ => false) s
    (fun s => (s.atCycle cyc).wakeWith (slotK a) a.slot id)

/-- WAITEV: waits until EVENT AND the mask is non-zero; gd = those bits, which are cleared. -/
def execWaitev (a : SlotId) (s : State) : Host.Outcome State Fault Refusal :=
  execIssue 0x43 a s (fun i s =>
    let m := BitVec.ofNat 16 (wf i.w 0 16)
    let hit := i.x.event &&& m
    if hit = 0 then s.waitOn i (.waitev m.toNat (gdOf i.w))
    else s.retire i (fun x => { x.setG (gdOf i.w) (hit.zeroExtend 64) with event := x.event &&& ~~~hit }))

/-- SIGNAL: EVENT bit imm32[3:0] of slot gs1[3:0]; no effect when that slot is FREE or FAULTED. -/
def execSignal (a : SlotId) (s : State) : Host.Outcome State Fault Refusal :=
  execIssue 0x44 a s (fun i s =>
    let n := i.v1.toNat % 16
    let bit : W16 := 1 <<< wf i.w 0 4
    let s := s.modSlot i.k n (fun x => if x.st = .free ∨ x.st = .faulted then x else { x with event := x.event ||| bit })
    s.retire i id)

/-- TCLAIM: all registers of the mask, or none. -/
def execTclaim (a : SlotId) (s : State) : Host.Outcome State Fault Refusal :=
  execIssue 0x45 a s (fun i s =>
    let r := s.rill i.k
    let l := bitsSet 16 (wf i.w 0 16)
    if l.all (fun t => r.owner t == 31) then
      (s.modRill i.k (fun r => { r with own := l.foldl (fun m t => put m t i.n) r.own })).retire i (fun x => x.setG (gdOf i.w) 1)
    else s.retire i (fun x => x.setG (gdOf i.w) 0))

/-- TFREE: registers of the mask that this slot owns become unowned; others fault with TREG_OWNER, and the fault leaves ownership
as it was (R42). -/
def execTfree (a : SlotId) (s : State) : Host.Outcome State Fault Refusal :=
  execIssue 0x46 a s (fun i s =>
    let r := s.rill i.k
    let l := bitsSet 16 (wf i.w 0 16)
    if l.all (fun t => r.owner t == i.n) then
      (s.modRill i.k (fun r => { r with own := l.foldl (fun m t => put m t 31) r.own })).retire i id
    else s.faultAt i fTreg)

/-- Nothing of the slot counts toward FENCE (R46, R159, R160): STP64 and SEND acknowledgements, trickle transfers, and queues that
its SARM armed and that are still STARTING. -/
def Rill.fenced (r : Rill) (n : Nat) : Bool :=
  let x := r.slot n
  x.acks.isEmpty && !r.trickles.any (fun t => t.slot == n)
    && !r.queues.any (fun e => (e.2.st == stStarting && e.2.arms.any (fun m => m.slot == n))
        || (match e.2.latched with
            | some (_, m) => m == n
            | none => false))

/-- FENCE. -/
def execFence (a : SlotId) (s : State) : Host.Outcome State Fault Refusal :=
  execIssue 0x47 a s (fun i s => if (s.rill i.k).fenced i.n then s.retire i id else s.waitOn i .fence)

/-- TRAP: FAULT holds 0x05 and imm32[7:0] (R23, R41). -/
def execTrap (a : SlotId) (s : State) : Host.Outcome State Fault Refusal :=
  execIssue 0x82 a s (fun i s => s.slotFault i.k i.n (fTrap + 256 * wf i.w 0 8))

/-- NOP. -/
def execNop (a : SlotId) (s : State) : Host.Outcome State Fault Refusal := execIssue 0x83 a s (fun i s => s.retire i id)

/-! ### Control registers (R29, R30) -/

/-- Ownership entries, 5 bits each, from register t (R29). -/
def Rill.town (r : Rill) (t : Nat) : Nat := sumL ((List.range 8).map (fun j => r.owner (t + j) * 2 ^ (5 * j)))

/-- A control register read; none where R29 lists none. -/
def State.csr (s : State) (k n num : Nat) : Option W64 :=
  let r := s.rill k
  let x := r.slot n
  let o (v : Nat) : Option W64 := some (BitVec.ofNat 64 v)
  match num with
  | 0x000 => o (rcol k)
  | 0x001 => o (rrow k)
  | 0x002 => o n
  | 0x003 => o s.clk.cycle
  | 0x004 => o (grain s.clk.now)
  | 0x005 => o x.event.toNat
  | 0x006 => o (r.town 0)
  | 0x007 => o (r.town 8)
  | 0x008 => o r.rxBase
  | 0x009 => o r.rxLen
  | 0x00A => o r.epoch
  | 0x00B => o r.ctx
  | 0x00C => some r.step
  | 0x00D => o x.fault.toNat
  | 0x00E => some r.taskWd
  | 0x00F => o 16
  | _ => none

/-- CSRR. R29 gives no effect for a number that is not listed: it is read as such a CSRW is, with ILLEGAL (log 14). -/
def execCsrr (a : SlotId) (s : State) : Host.Outcome State Fault Refusal :=
  execIssue 0x80 a s (fun i s =>
    match s.csr i.k i.n (wf i.w 0 12) with
    | none => s.faultAt i fIllegal
    | some v => s.retire i (fun x => x.setG (gdOf i.w) v))

/-- Two byte ranges overlap. -/
def overlaps (a n b m : Nat) : Bool := decide (0 < n) && decide (0 < m) && decide (a < b + m) && decide (b < a + n)

/-- Bytes of one ring slot (R149). -/
def Desc.stride (d : Desc) : Nat :=
  if d.ferry % 2 = 1 ∧ d.ferry / 2 % 2 = 0 then d.sliceLen else roundUp d.tileLen 64

/-- The rings of queues that are not OFF: address and length. Of a queue that is STOPPING with a start latched behind it (PEND_ON), the ring that
it still uses counts, not the one that it will use (log 140). -/
def Rill.ringsOf (r : Rill) (but : Option Nat) : List (Nat × Nat) :=
  (r.queues.filter (fun e => e.2.st != stOff && some e.1 != but)).filterMap (fun e =>
    e.2.arms.head?.map (fun m => (m.desc.nearAddr, m.desc.ringSlots * m.desc.stride)))

/-- May the receive ring be set to base and length, its form aside (R30)? -/
def Rill.rxOk (r : Rill) (base len : Nat) : Bool :=
  r.rx.isEmpty && decide (base + len ≤ 0xC000)
    && (len == 0 || !(r.ringsOf none).any (fun g => overlaps base len g.1 g.2))

/-- CSRW: ILLEGAL for an RO register or a number that is not listed (R29), and where R30 forbids the value. -/
def execCsrw (a : SlotId) (s : State) : Host.Outcome State Fault Refusal :=
  execIssue 0x81 a s (fun i s =>
    let r := s.rill i.k
    let v := i.v1.toNat
    match wf i.w 0 12 with
    | 0x005 => s.retire i (fun x => { x with event := BitVec.ofNat 16 v })
    | 0x008 =>
      if v % 64 = 0 ∧ v < 0xC000 ∧ r.rxOk v r.rxLen then (s.modRill i.k (fun r => { r with rxBase := v, rxWr := 0, rxRd := 0 })).retire i id
      else s.faultAt i fIllegal
    | 0x009 =>
      if v % 64 = 0 ∧ r.rxOk r.rxBase v then (s.modRill i.k (fun r => { r with rxLen := v, rxWr := 0, rxRd := 0 })).retire i id
      else s.faultAt i fIllegal
    | 0x00E => (s.modRill i.k (fun r => { r with taskWd := i.v1 })).retire i id
    | _ => s.faultAt i fIllegal)

/-! ### Watchdogs (R53-R55) -/

/-- The profile in force for a context: 0 H, 1 F (R398); see `profileOf` in Holds. The task watchdog maximum in cycles (R54). -/
def wdMax (profile : Nat) : Nat := if profile = 0 then 1172 else 58594

/-- The task watchdog limit of a rill in cycles (R54): the smaller of TASK_WD and the profile maximum; 0 selects the maximum. -/
def State.wdLimit (s : State) (r : Rill) : Nat :=
  let m := wdMax (s.profileOf r.ctx)
  1024 * (if r.taskWd.toNat = 0 then m else min r.taskWd.toNat m)

end Sys2Proof.Machine
end

