-- ==== Sys2Proof/Machine/Float.lean ====
section
/-! DEFINITION. Floating-point arithmetic as the spec fixes it (03 R64-R89, 10 R334): exact values, one rounding to a format's grid, round
to nearest even or stochastic, IEEE special values, and the vector functions of R85. -/

namespace Sys2Proof.Machine

/-- An exact value: NaN, an infinity, or (-1)^neg * m * 2^e. -/
inductive Fp where
  | nan
  | inf (neg : Bool)
  | fin (neg : Bool) (m : Nat) (e : Int)
  deriving DecidableEq, Repr

/-- A rounding: to nearest even, or stochastic with the 24-bit draw d (R86, R87). -/
inductive Rnd where
  | rne
  | sr (d : Nat)
  deriving DecidableEq, Repr

/-- A format's grid: precision in bits, exponent of the smallest quantum, exponent of the largest binade. -/
structure Grid where
  p : Nat
  qmin : Int
  emax : Int
  deriving DecidableEq, Repr

/-- m * 2^e (m > 0) as n quanta of 2^q, rounded (R87: f is truncated to 24 bits). -/
def roundTo (g : Grid) (r : Rnd) (m : Nat) (e : Int) : Nat × Int :=
  let q : Int := max ((Nat.log2 m : Int) + e - ((g.p : Int) - 1)) g.qmin
  if q ≤ e then (m <<< (e - q).toNat, q)
  else
    let k := (q - e).toNat
    let lo := m >>> k
    let rest := m - lo <<< k
    let up : Bool := match r with
      | .rne => decide (2 ^ k < 2 * rest) || (decide (2 * rest = 2 ^ k) && lo % 2 == 1)
      | .sr d => decide (2 ^ 24 ≤ (rest * 2 ^ 24) >>> k + d)
    (if up then lo + 1 else lo, q)

/-- Does n * 2^q lie beyond the largest binade? -/
def Grid.over (g : Grid) (n : Nat) (q : Int) : Bool := n != 0 && decide (g.emax < (Nat.log2 n : Int) + q)

/-! ### binary32, BF16, FP16 (R67) -/

abbrev g32 : Grid := ⟨24, -149, 127⟩
/-- BF16 rounds as if its exponent range had no lower bound (R83). -/
abbrev gBf : Grid := ⟨8, -100000, 127⟩
abbrev g16 : Grid := ⟨11, -24, 15⟩

abbrev nan32 : W32 := 0x7FC00000

/-- A binary32 value. -/
def dec32 (w : W32) : Fp :=
  let neg := bitOf w 31
  let x := fld w 23 8
  let f := fld w 0 23
  if x = 255 then (if f = 0 then .inf neg else .nan)
  else if x = 0 then .fin neg f (-149)
  else .fin neg (f + 2 ^ 23) ((x : Int) - 150)

/-- Sign bit of a format of `n` bits. -/
def signBit (n : Nat) (neg : Bool) : Nat := if neg then 2 ^ (n - 1) else 0

/-- n quanta of 2^q as an IEEE field pair: `mb` mantissa bits, `bias`; q is the quantum of n's binade or of the subnormals. -/
def packMag (mb : Nat) (bias : Int) (n : Nat) (q : Int) : Nat :=
  if n = 0 then 0
  else
    let (n, q) := if 2 ^ (mb + 1) ≤ n then (n / 2, q + 1) else (n, q)
    let sh := (mb : Int) - Nat.log2 n
    let e := (Nat.log2 n : Int) + q + bias
    if e ≤ 0 then n else (e.toNat <<< mb) + (n <<< sh.toNat - 2 ^ mb)

/-- The binary32 of an exact value, rounded (R67, R86). -/
def enc32 (r : Rnd) (v : Fp) : W32 :=
  match v with
  | .nan => nan32
  | .inf neg => BitVec.ofNat 32 (signBit 32 neg + 0x7F800000)
  | .fin neg m e =>
    if m = 0 then BitVec.ofNat 32 (signBit 32 neg)
    else
      let (n, q) := roundTo g32 r m e
      BitVec.ofNat 32 (signBit 32 neg + (if g32.over n q then 0x7F800000 else packMag 23 127 n q))

/-- BF16 of an exact value (R83): rounded to 8 bits of significand, flushed below 2^-126. -/
def encBf (r : Rnd) (v : Fp) : Nat :=
  match v with
  | .nan => 0x7FC0
  | .inf neg => signBit 16 neg + 0x7F80
  | .fin neg m e =>
    if m = 0 then signBit 16 neg
    else
      let (n, q) := roundTo gBf r m e
      if gBf.over n q then signBit 16 neg + 0x7F80
      else if (Nat.log2 n : Int) + q < -126 then signBit 16 neg
      else signBit 16 neg + packMag 7 127 n q

/-- FP16 of an exact value (R83). -/
def enc16 (r : Rnd) (v : Fp) : Nat :=
  match v with
  | .nan => 0x7E00
  | .inf neg => signBit 16 neg + 0x7C00
  | .fin neg m e =>
    if m = 0 then signBit 16 neg
    else
      let (n, q) := roundTo g16 r m e
      signBit 16 neg + (if g16.over n q then 0x7C00 else packMag 10 15 n q)

/-- A BF16 value read: a subnormal is zero of the same sign (R67). -/
def decBf (h : Nat) : Fp :=
  if nfld h 7 8 = 0 then .fin (nfld h 15 1 == 1) 0 0 else dec32 (BitVec.ofNat 32 (h * 65536))

/-- A binary16 value. -/
def dec16 (h : Nat) : Fp :=
  let neg := nfld h 15 1 == 1
  let x := nfld h 10 5
  let f := nfld h 0 10
  if x = 31 then (if f = 0 then .inf neg else .nan)
  else if x = 0 then .fin neg f (-24)
  else .fin neg (f + 1024) ((x : Int) - 25)

/-! ### Exact operations with IEEE special values -/

/-- A signed magnitude as an integer. -/
def sgn (neg : Bool) (m : Nat) : Int := if neg then -(m : Int) else m

/-- Exact product. -/
def Fp.mul (a b : Fp) : Fp :=
  match a, b with
  | .nan, _ => .nan
  | _, .nan => .nan
  | .inf s, .inf t => .inf (s != t)
  | .inf s, .fin t m _ => if m = 0 then .nan else .inf (s != t)
  | .fin s m _, .inf t => if m = 0 then .nan else .inf (s != t)
  | .fin s m e, .fin t n f => .fin (s != t) (m * n) (e + f)

/-- Exact sum: a sum of opposite signs that is exactly zero is +0. -/
def Fp.add (a b : Fp) : Fp :=
  match a, b with
  | .nan, _ => .nan
  | _, .nan => .nan
  | .inf s, .inf t => if s = t then .inf s else .nan
  | .inf s, _ => .inf s
  | _, .inf t => .inf t
  | .fin s m e, .fin t n f =>
    if m = 0 ∧ n = 0 then .fin (s && t) 0 0
    else
      let lo := min e f
      let z := sgn s (m <<< (e - lo).toNat) + sgn t (n <<< (f - lo).toNat)
      if z = 0 then .fin false 0 0 else .fin (decide (z < 0)) z.natAbs lo

/-- FP32 addition. -/
def fadd (r : Rnd) (a b : W32) : W32 := enc32 r ((dec32 a).add (dec32 b))
/-- FP32 multiplication. -/
def fmul (r : Rnd) (a b : W32) : W32 := enc32 r ((dec32 a).mul (dec32 b))
/-- Fused multiply-add, rounded once (R84). -/
def ffma (r : Rnd) (a b c : W32) : W32 := enc32 r (((dec32 a).mul (dec32 b)).add (dec32 c))

/-- a < b for values that are not NaN; -0 lies below +0 (R84). -/
def Fp.lt (a b : Fp) : Bool :=
  match a, b with
  | .inf s, .inf t => s && !t
  | .inf s, _ => s
  | _, .inf t => !t
  | .fin s m e, .fin t n f =>
    if m = 0 ∧ n = 0 then s && !t
    else
      let lo := min e f
      decide (sgn s (m <<< (e - lo).toNat) < sgn t (n <<< (f - lo).toNat))
  | _, _ => false

/-- IEEE 754-2019 maximum (R84). -/
def fmax (a b : W32) : W32 :=
  match dec32 a, dec32 b with
  | .nan, _ => nan32
  | _, .nan => nan32
  | x, y => if x.lt y then b else a

/-! ### Stochastic draws (R88) -/

/-- The counter-based generator of R88. -/
def srDraw (step col row slot n : W64) : W64 :=
  let x := step * 0x9E3779B97F4A7C15 + ((row <<< 36) ||| (col <<< 20) ||| (slot <<< 16)) + n * 0xD1B54A32D192ED03
  let x := (x ^^^ (x >>> 30)) * 0xBF58476D1CE4E5B9
  let x := (x ^^^ (x >>> 27)) * 0x94D049BB133111EB
  x ^^^ (x >>> 31)

/-- The seed of a rill's draws (R88). -/
structure Seed where
  step : W64
  col : Nat
  row : Nat
  slot : Nat
  n : W64
  deriving DecidableEq, Repr

/-- The rounding for draw number i of an instruction: bits [63:40] of the draw (R87). -/
def Seed.rnd (d : Seed) (stochastic : Bool) (i : Nat) : Rnd :=
  if stochastic then
    .sr ((srDraw d.step (BitVec.ofNat 64 d.col) (BitVec.ofNat 64 d.row) (BitVec.ofNat 64 d.slot) (d.n + BitVec.ofNat 64 i)).toNat
      / 2 ^ 40)
  else .rne

/-! ### Trees (R43) -/

/-- One level of a pairwise tree: 2j is the left operand of 2j + 1; an element without a partner passes up unchanged. -/
def pairUp {α : Type} (f : α → α → α) : List α → List α
  | a :: b :: t => f a b :: pairUp f t
  | l => l

/-- The fixed pairwise tree, by levels (`fuel` bounds the levels). -/
def treeOf {α : Type} (f : α → α → α) : Nat → List α → List α
  | 0, l => l
  | n + 1, l => if l.length ≤ 1 then l else treeOf f n (pairUp f l)

/-- The pairs that one level of the tree adds. -/
def pairsOf {α : Type} : List α → List (α × α)
  | a :: b :: t => (a, b) :: pairsOf t
  | _ => []

/-- The operands of every node of the tree, level by level. -/
def treeNodes {α : Type} (f : α → α → α) : Nat → List α → List (α × α)
  | 0, _ => []
  | n + 1, l => if l.length ≤ 1 then [] else pairsOf l ++ treeNodes f n (pairUp f l)

/-! ### VEXP2, VRCP, VRSQRT (R85; log 5) -/

/-- Integer square root, by bits from 2^k downward. -/
def isqrtGo (n : Nat) : Nat → Nat → Nat
  | 0, acc => if (acc + 1) * (acc + 1) ≤ n then acc + 1 else acc
  | k + 1, acc =>
    let t := acc + 2 ^ (k + 1)
    isqrtGo n k (if t * t ≤ n then t else acc)

/-- Floor of the square root of a number below 2^120. -/
def isqrt (n : Nat) : Nat := isqrtGo n 60 0

/-- ln 2 in units of 2^-128. -/
def ln2fix : Nat := 0xB17217F7D1CF79ABC9E3B39803F2F6AF

/-- exp(x) - terms of its series, x in units of 2^-128. -/
def expSeries (x : Nat) : Nat → Nat → Nat → Nat → Nat
  | 0, _, _, acc => acc
  | f + 1, k, term, acc =>
    let t := term * x / 2 ^ 128 / k
    expSeries x f (k + 1) t (acc + t)

/-- The magnitude ordinal (its bits as a number) of the largest positive FP32 not above m * 2^e. -/
def floorMag (m : Nat) (e : Int) : Nat :=
  if m = 0 then 0
  else
    let q : Int := max ((Nat.log2 m : Int) + e - 23) (-149)
    let n := if q ≤ e then m <<< (e - q).toNat else m >>> (q - e).toNat
    if g32.over n q then 0x7F7FFFFF else packMag 23 127 n q

/-- The finite FP32 magnitudes within `bound` units in the last place of an exact value that lies less than 2^10 units above m * 2^e; the unit is
that of the value's own binade (R85). The last one is the greatest FP32 not above m * 2^e. -/
def withinUlp (m : Nat) (e : Int) (bound : Nat) : List Nat :=
  let lo := floorMag m e
  let size (c : Nat) : Nat × Int :=
    match dec32 (BitVec.ofNat 32 c) with
    | .fin _ n x => (n, x)
    | _ => (0, 0)
  let room := bound <<< ((size lo).2 - e).toNat
  let near (c : Nat) : Bool :=
    let v := (size c).1 <<< ((size c).2 - e).toNat
    decide (c < 0x7F800000) && decide (v ≤ m + room) && decide (m + 2 ^ 10 ≤ v + room)
  ([lo - 3, lo - 2, lo - 1, lo + 1, lo + 2].filter near) ++ [lo]

/-- A result within the error bound of R85: which of them is the module's own. -/
def ulpPick (op : Nat) (x : W32) (m : Nat) (e : Int) (bound : Nat) : Nat :=
  let l := withinUlp m e bound
  l.getD (Config.vectorUlp op x % l.length) (floorMag m e)

/-- VEXP2: within 2 ulp; 2^x exactly for integral x from -149 to 127. -/
def vexp2 (w : W32) : W32 :=
  match dec32 w with
  | .nan => nan32
  | .inf neg => if neg then 0 else 0x7F800000
  | .fin neg m e =>
    let fixed : Nat := if 0 ≤ e then m <<< e.toNat else m                -- |x| in units of 2^min(e, 0)
    let sh : Nat := (-e).toNat
    let ip : Nat := fixed >>> sh
    let exact := fixed % 2 ^ sh = 0
    if ¬ neg ∧ 128 ≤ ip then 0x7F800000
    else if neg ∧ (150 < ip ∨ (ip = 150 ∧ ¬ exact)) then 0
    else
      let x : Int := sgn neg fixed
      let fl : Int := x / (2 ^ sh : Nat)                                  -- floor of x
      let fr : Nat := (x - fl * (2 ^ sh : Nat)).toNat                     -- fraction in units of 2^-sh
      if exact ∧ -149 ≤ fl then enc32 .rne (.fin false 1 fl)
      else
        let f128 := if sh ≤ 128 then fr <<< (128 - sh) else fr >>> (sh - 128)
        let v := expSeries (f128 * ln2fix / 2 ^ 128) 60 1 (2 ^ 128) (2 ^ 128)
        BitVec.ofNat 32 (ulpPick 0x64 w v (fl - 128) 2)

/-- Is the magnitude a power of two? -/
def isPow2 (m : Nat) : Bool := m != 0 && 2 ^ Nat.log2 m == m

/-- VRCP: within 1 ulp; exact for powers of two whose reciprocal is finite. -/
def vrcp (w : W32) : W32 :=
  match dec32 w with
  | .nan => nan32
  | .inf neg => BitVec.ofNat 32 (signBit 32 neg)
  | .fin neg m e =>
    if m = 0 then BitVec.ofNat 32 (signBit 32 neg + 0x7F800000)
    else if isPow2 m then enc32 .rne (.fin neg 1 (-((Nat.log2 m : Int) + e)))
    else
      let q := 2 ^ 120 / m
      if 128 ≤ (Nat.log2 q : Int) - 120 - e then BitVec.ofNat 32 (signBit 32 neg + 0x7F800000)
      else BitVec.ofNat 32 (signBit 32 neg + ulpPick 0x65 w q (-120 - e) 1)

/-- VRSQRT: within 1 ulp; exact for even powers of two. -/
def vrsqrt (w : W32) : W32 :=
  match dec32 w with
  | .nan => nan32
  | .inf neg => if neg then nan32 else 0
  | .fin neg m e =>
    if m = 0 then BitVec.ofNat 32 (signBit 32 neg + 0x7F800000)
    else if neg then nan32
    else
      let (m, e) := if e % 2 = 0 then (m, e) else (2 * m, e - 1)
      let k := Nat.log2 m
      if isPow2 m ∧ k % 2 = 0 then enc32 .rne (.fin false 1 (-(((k : Int) + e) / 2)))
      else BitVec.ofNat 32 (ulpPick 0x66 w (isqrt (2 ^ 118 / m)) (-59 - e / 2) 1)

end Sys2Proof.Machine
end

