-- ==== Sys2Proof/Machine/Tensor.lean ====
section
/-! DEFINITION. Tensor registers and the tensor unit (02 R39-R41, 03 R61-R83): TLD, TST, TZERO, TMMA, TMMAS and TCVT. TMMA, TMMAS and TCVT
issue into their unit; what they compute is written at UNIT_OP_COMPLETE (Vector.lean). -/

namespace Sys2Proof.Machine

/-! ### Registers as bit strings (R61) -/

/-- Element e of width w bits of a register's bit string. -/
def elemAt (bits w e : Nat) : Nat := nfld bits (w * e) w

/-- The 64 FP32 lanes of a register (R43). -/
def lanes (b : List Byte) : List W32 :=
  let n := leNat b
  (List.range 64).map (fun i => BitVec.ofNat 32 (elemAt n 32 i))

/-- A register from its 64 lanes. -/
def fromLanes (l : List W32) : List Byte := (l.map (fun w => leBytes 4 w.toNat)).flatten

/-! ### MX and integer elements (R64-R68) -/

/-- An element: an integer multiple of its format's unit, an infinity, or NaN. -/
inductive El where
  | num (m : Int)
  | inf (neg : Bool)
  | nan
  deriving DecidableEq, Repr

/-- Width in bits of an element of a format (R61). -/
def widthOf (fmt : Nat) : Nat :=
  match fmt with
  | 0 => 32
  | 1 | 2 => 16
  | 5 | 6 => 6
  | 7 => 4
  | _ => 8

/-- Exponent of the unit u (R68). -/
def unitExp (fmt : Nat) : Int :=
  match fmt with
  | 3 => -9
  | 4 => -16
  | 5 => -4
  | 6 => -3
  | 7 => -1
  | 8 => -6
  | _ => 0

/-- A minifloat with `eb` exponent and `mb` mantissa bits, in units of its smallest subnormal. -/
def miniSig (eb mb v : Nat) : Int :=
  let x := nfld v mb eb
  let f := nfld v 0 mb
  let m := if x = 0 then f else (f + 2 ^ mb) <<< (x - 1)
  sgn (nfld v (eb + mb) 1 == 1) m

/-- The element that a bit pattern denotes (R64, R66). -/
def decEl (fmt v : Nat) : El :=
  match fmt with
  | 3 => if v % 128 = 127 then .nan else .num (miniSig 4 3 v)
  | 4 =>
    if nfld v 2 5 = 31 then (if v % 4 = 0 then .inf (decide (128 ≤ v)) else .nan) else .num (miniSig 5 2 v)
  | 5 => .num (miniSig 3 2 v)
  | 6 => .num (miniSig 2 3 v)
  | 7 => .num (miniSig 2 1 v)
  | _ => .num (toSigned 8 v)

/-! ### Partials (R69, R70, R76) -/

/-- What the products of a partial add up to: the exact sum S, whether any is NaN, and infinite products of each sign. -/
structure PSum where
  sum : Int
  nan : Bool
  pinf : Bool
  ninf : Bool
  deriving DecidableEq, Repr

/-- One product added (R69, R76). -/
def PSum.mac (p : PSum) (a b : El) : PSum :=
  match a, b with
  | .nan, _ => { p with nan := true }
  | _, .nan => { p with nan := true }
  | .num x, .num y => { p with sum := p.sum + x * y }
  | .inf s, .inf t => if s = t then { p with pinf := true } else { p with ninf := true }
  | .inf s, .num y => if y = 0 then { p with nan := true } else if s = decide (y < 0) then { p with pinf := true }
      else { p with ninf := true }
  | .num x, .inf t => if x = 0 then { p with nan := true } else if t = decide (x < 0) then { p with pinf := true }
      else { p with ninf := true }

/-- The sum of a partial's products. -/
def psum (l : List (El × El)) : PSum := l.foldl (fun p e => p.mac e.1 e.2) ⟨0, false, false, false⟩

/-- A partial's value, rounded once to FP32 by round to nearest even (R70, R76). -/
def partialVal (fmt sa sb : Nat) (l : List (El × El)) : W32 :=
  let p := psum l
  if sa = 255 ∨ sb = 255 ∨ p.nan ∨ (p.pinf ∧ p.ninf) then nan32
  else if p.pinf then 0x7F800000
  else if p.ninf then 0xFF800000
  else if p.sum = 0 then 0
  else enc32 .rne (.fin (decide (p.sum < 0)) p.sum.natAbs (2 * unitExp fmt + (sa : Int) - 127 + ((sb : Int) - 127)))

/-- Scale byte b of a side-band (R63). -/
def scaleAt (side : List Byte) (b : Nat) : Nat := (side.getD b 0).toNat

/-- K of a dense tile (R39). -/
def tileK (fmt : Nat) : Nat :=
  match fmt with
  | 0 => 8
  | 1 | 2 => 16
  | 7 => 64
  | _ => 32

/-- The operands of a matrix operation as they stand in the registers. -/
structure MmaIn where
  a : Nat
  a2 : Nat
  b : Nat
  c : Nat
  sa : List Byte
  sa2 : List Byte
  sb : List Byte
  td : List W32
  deriving DecidableEq, Repr

/-- Operands of dense partial q of result element (i, j), in increasing k (R69). -/
def denseProducts (fmt : Nat) (x : MmaIn) (i j q : Nat) : List (El × El) :=
  let k := tileK fmt
  let w := widthOf fmt
  (List.range 32).map (fun t =>
    (decEl fmt (elemAt x.a w (i * k + 32 * q + t)), decEl fmt (elemAt x.b w (j * k + 32 * q + t))))

/-- Dense partials of result element (i, j) (R69). -/
def densePartials (fmt : Nat) (x : MmaIn) (i j : Nat) : List W32 :=
  let k := tileK fmt
  (List.range (k / 32)).map (fun q =>
    partialVal fmt (scaleAt x.sa (i * (k / 32) + q)) (scaleAt x.sb (j * (k / 32) + q)) (denseProducts fmt x i j q))

/-- Operands of sparse partial q of result element (i, j) (R77-R80): logical K position of a stored element from the metadata. -/
def sparseProducts (fmt : Nat) (x : MmaIn) (i j q : Nat) : List (El × El) :=
  let k := tileK fmt
  let w := widthOf fmt
  let g := if fmt = 7 then 32 else 16
  (List.range 16).map (fun t =>
    let st := 16 * q + t
    let meta' := nfld x.c (4 * (j * g + st / 2)) 4
    let lk := 4 * (st / 2) + (if st % 2 = 0 then meta' % 4 else meta' / 4)
    let av := if lk < k then elemAt x.a w (i * k + lk) else elemAt x.a2 w (i * k + (lk - k))
    (decEl fmt av, decEl fmt (elemAt x.b w (j * k + st))))

/-- Sparse partials of result element (i, j) (R80). -/
def sparsePartials (fmt : Nat) (x : MmaIn) (i j : Nat) : List W32 :=
  (List.range (2 * tileK fmt / 32)).map (fun q =>
    let sa := if fmt = 7 then scaleAt (if q / 2 = 0 then x.sa else x.sa2) (2 * i + q % 2)
      else scaleAt (if q = 0 then x.sa else x.sa2) i
    let sb := if fmt = 7 then scaleAt x.sb (2 * j + q / 2) else scaleAt x.sb j
    partialVal fmt sa sb (sparseProducts fmt x i j q))

/-- c plus the partials in turn, each addition rounded by rnd with its draw (R71, R89). -/
def accumulate (d : Seed) (sr : Bool) (e : Nat) : List W32 → Nat → W32 → W32
  | [], _, c => c
  | p :: t, q, c => accumulate d sr e t (q + 1) (fadd (d.rnd sr (64 * q + e)) c p)

/-- Negative zero, where an accumulation without acc starts (R71). -/
abbrev negZero : W32 := 0x80000000

/-- A BF16 (fmt 1) or FP16 value. -/
def decHalf (fmt v : Nat) : Fp := if fmt = 1 then decBf v else dec16 v

/-- The 16 rounded products of result element (i, j) for BF16 or FP16 (R73). -/
def halfProducts (fmt : Nat) (x : MmaIn) (i j : Nat) : List W32 :=
  (List.range 16).map (fun k => enc32 .rne ((decHalf fmt (elemAt x.a 16 (i * 16 + k))).mul (decHalf fmt (elemAt x.b 16 (j * 16 + k)))))

/-- Result element e = 8i + j of TMMA or TMMAS (R69-R80). -/
def mmaElem (fmt : Nat) (sparse acc sr : Bool) (d : Seed) (x : MmaIn) (e : Nat) : W32 :=
  let i := e / 8
  let j := e % 8
  let c0 := if acc then x.td.getD e 0 else negZero
  if sparse then accumulate d sr e (sparsePartials fmt x i j) 0 c0
  else match fmt with
  | 9 =>
    let s := psum (denseProducts 9 x i j 0)
    (if acc then x.td.getD e 0 else 0) + BitVec.ofInt 32 s.sum
  | 0 =>
    (List.range 8).foldl (fun c k =>
      ffma (d.rnd sr (64 * k + e)) (BitVec.ofNat 32 (elemAt x.a 32 (i * 8 + k))) (BitVec.ofNat 32 (elemAt x.b 32 (j * 8 + k))) c) c0
  | 1 | 2 =>
    fadd (d.rnd sr e) c0 ((treeOf (fadd .rne) 5 (halfProducts fmt x i j)).getD 0 0)
  | _ => accumulate d sr e (densePartials fmt x i j) 0 c0

/-- Draws that an instruction takes when rnd = 1 (R86). -/
def drawsOf (w : W64) : Nat :=
  if rndOf w = 0 then 0
  else match opOf w with
  | 0x53 => (match fmtOf w with
    | 0 => 512
    | 1 | 2 => 64
    | 7 => 128
    | 9 => 0
    | _ => 64)
  | 0x54 => if fmtOf w = 7 then 256 else 128
  | 0x55 | 0x60 | 0x61 | 0x63 => 64
  | _ => 0

/-! ### TCVT (R81-R83) -/

/-- Parts per register (R81). -/
def partsOf (fmt : Nat) : Nat :=
  match fmt with
  | 0 => 1
  | 1 | 2 => 2
  | 7 => 8
  | _ => 4

/-- The grid, exponent of the largest binade (emax), mantissa and exponent bits, bias and largest magnitude in units of an MX
element format (R64, R82). -/
def mxGrid (fmt : Nat) : Grid × Nat × Int × Nat :=
  match fmt with
  | 3 => (⟨4, -9, 100⟩, 3, 7, 0x7E)
  | 4 => (⟨3, -16, 100⟩, 2, 15, 0x7B)
  | 5 => (⟨3, -4, 100⟩, 2, 3, 0x1F)
  | 6 => (⟨4, -3, 100⟩, 3, 1, 0x1F)
  | _ => (⟨2, -1, 100⟩, 1, 1, 0x7)

/-- emax of R82. -/
def mxEmax (fmt : Nat) : Int :=
  match fmt with
  | 3 => 8
  | 4 => 15
  | 5 => 4
  | 6 => 2
  | 7 => 2
  | _ => 0

/-- Floor of log2 of a magnitude. -/
def flog2 (m : Nat) (e : Int) : Int := (Nat.log2 m : Int) + e

/-- Magnitude of a lane as a number of 2^-149 (binary32 is a multiple of it). -/
def mag149 (w : W32) : Nat :=
  match dec32 w with
  | .fin _ m e => m <<< (e + 149).toNat
  | _ => 0

/-- An MX element of v ÷ 2^X: rounded to the format's whole grid, saturating (R82). -/
def encMx (fmt : Nat) (r : Rnd) (w : W32) (x : Int) : Nat :=
  match dec32 w with
  | .fin neg m e =>
    if fmt = 8 then
      -- MXINT8: the grid of 2^-6, saturating at 127 in magnitude
      if m = 0 then 0
      else
        let (n, q) := roundTo ⟨60, -6, 100⟩ r m (e - x)
        let v := min 127 (n <<< (q + 6).toNat)
        if neg then (256 - v) % 256 else v
    else
      let (g, mb, bias, top) := mxGrid fmt
      let w' := widthOf fmt
      if m = 0 then signBit w' neg
      else
        let (n, q) := roundTo g r m (e - x)
        signBit w' neg + min top (packMag mb bias n q)
  | _ => 0

/-- One 32-lane block: its scale byte and its elements (R82). `base` is the number of the block's first lane. -/
def mxBlock (fmt : Nat) (d : Seed) (sr : Bool) (l : List W32) (base : Nat) : Nat × List Nat :=
  if l.any (fun w => fld w 23 8 == 255) then (255, l.map (fun _ => 0))
  else
    let amax := l.foldl (fun a w => max a (mag149 w)) 0
    if amax = 0 then (0, l.map (fun w => if fmt = 8 then 0 else signBit (widthOf fmt) (bitOf w 31)))
    else
      let x := max (-127) (min 127 (flog2 amax (-149) - mxEmax fmt))
      ((x + 127).toNat, l.mapIdx (fun i w => encMx fmt (d.rnd sr (base + i)) w x))

/-- INT8 of a lane (R83). -/
def encI8 (r : Rnd) (w : W32) : Nat :=
  match dec32 w with
  | .nan => 0
  | .inf neg => if neg then 128 else 127
  | .fin neg m e =>
    if m = 0 then 0
    else
      let (n, q) := roundTo ⟨300, 0, 1000⟩ r m e
      let v := n <<< q.toNat
      if neg then (256 - min 128 v) % 256 else min 127 v

/-- The elements of a part of a target that has no scales (R81, R83). -/
def cvtPlain (fmt : Nat) (d : Seed) (sr : Bool) (l : List W32) : List Nat :=
  l.mapIdx (fun i w =>
    match fmt with
    | 0 => (match dec32 w with
      | .nan => nan32.toNat
      | _ => w.toNat)
    | 1 => encBf (d.rnd sr i) (dec32 w)
    | 2 => enc16 (d.rnd sr i) (dec32 w)
    | _ => encI8 (d.rnd sr i) w)

/-- Elements of width w packed into bytes (R61). -/
def packElems (w : Nat) (l : List Nat) : List Byte :=
  leBytes (l.length * w / 8) (l.foldr (fun v acc => v + acc * 2 ^ w) 0)

/-- Bytes of a list from an offset replaced. -/
def splice (l : List Byte) (off : Nat) (b : List Byte) : List Byte := l.take off ++ b ++ l.drop (off + b.length)

/-- TCVT: the register and side-band that part p of td becomes (R81-R83). -/
def tcvt (fmt : Nat) (d : Seed) (sr : Bool) (src : List W32) (p : Nat) (td side : List Byte) : List Byte × List Byte :=
  let w := widthOf fmt
  let bytes := 64 * w / 8
  if isMx fmt then
    let (s0, e0) := mxBlock fmt d sr (src.take 32) 0
    let (s1, e1) := mxBlock fmt d sr (src.drop 32) 32
    (splice td (p * bytes) (packElems w (e0 ++ e1)), splice side (2 * p) (leBytes 1 s0 ++ leBytes 1 s1))
  else (splice td (p * bytes) (packElems w (cvtPlain fmt d sr src)), side)

/-! ### Instructions -/

/-- Fault of the scale side-band address of an MX TLD or TST, or of the data address: the first of ADDR and ALIGN (R42). -/
def tldFault (fmt : Nat) (x y : Nat) : Option Nat :=
  let fs := (match localAt x 256 64 with
      | .fault f => [f]
      | _ => [])
    ++ (if isMx fmt then (match localAt y 16 16 with
      | .fault f => [f]
      | _ => []) else [])
  if fs.contains fAddr then some fAddr else fs.head?

/-- TLD: td = 256 B at gs1, with 16 B of scales at gs2 for MX formats. -/
def execTld (a : SlotId) (s : State) : Host.Outcome State Fault Refusal :=
  execIssue 0x50 a s (fun i s =>
    let x := (i.x.greg (tgs1Of i.w)).toNat
    let y := (i.x.greg (tgs2Of i.w)).toNat
    let mx := isMx (fmtOf i.w)
    match tldFault (fmtOf i.w) x y with
    | some f => s.faultAt i f
    | none =>
      match s.localRead i.k (localAt x 256 64) 256, (if mx then s.localRead i.k (localAt y 16 16) 16 else .inr []) with
      | .inr b, .inr sc =>
        let lat := max (localAt x 256 64).latency (if mx then (localAt y 16 16).latency else 0)
        (s.modRill i.k (fun r =>
          { r with t := put r.t (tdOf i.w) b, side := if mx then put r.side (tdOf i.w) sc else r.side,
                   tready := put r.tready (tdOf i.w) (s.clk.cycle + lat) })).retire i id
      | _, _ => s.faultAt i fPoison)

/-- TST: td's 256 B to gs1 and, for MX formats, its scales to gs2. -/
def execTst (a : SlotId) (s : State) : Host.Outcome State Fault Refusal :=
  execIssue 0x51 a s (fun i s =>
    let x := (i.x.greg (tgs1Of i.w)).toNat
    let y := (i.x.greg (tgs2Of i.w)).toNat
    let r := s.rill i.k
    match tldFault (fmtOf i.w) x y with
    | some f => s.faultAt i f
    | none =>
      let s := s.localWrite i.k (localAt x 256 64) (r.treg (tdOf i.w))
      let s := if isMx (fmtOf i.w) then s.localWrite i.k (localAt y 16 16) (r.tside (tdOf i.w)) else s
      s.retire i id)

/-- TZERO: all zero bits, the scales included. -/
def execTzero (a : SlotId) (s : State) : Host.Outcome State Fault Refusal :=
  execIssue 0x52 a s (fun i s =>
    (s.modRill i.k (fun r =>
      { r with t := put r.t (tdOf i.w) (List.replicate 256 0), side := put r.side (tdOf i.w) (List.replicate 16 0) })).retire i id)

/-- An operation issues into its unit (R34): the scalar operands and the draws that it will use are taken now, in program order
(R89). -/
def execUnit (op : Nat) (a : SlotId) (s : State) : Host.Outcome State Fault Refusal :=
  execIssue op a s (fun i s =>
    let o : UnitOp :=
      { slot := i.n, pc := i.x.pc, word := i.w, s1 := i.x.greg (tgs1Of i.w), s2 := i.x.greg (tgs2Of i.w), draw := i.x.draw,
        step := (s.rill i.k).step }
    let s := s.modRill i.k (fun r =>
      if unitOf op = some true then { r with tensorQ := r.tensorQ ++ [o] } else { r with vectorQ := r.vectorQ ++ [o] })
    s.retire i (fun x => { x with draw := x.draw + BitVec.ofNat 64 (drawsOf i.w) }))

/-- TMMA. -/
def execTmma (a : SlotId) (s : State) := execUnit 0x53 a s
/-- TMMAS. -/
def execTmmas (a : SlotId) (s : State) := execUnit 0x54 a s
/-- TCVT. -/
def execTcvt (a : SlotId) (s : State) := execUnit 0x55 a s

end Sys2Proof.Machine
end

