-- ==== Sys2Proof/Machine/Residue.lean ====
section
/-! DEFINITION. Residue checking (03 R91-R95): residues modulo 255, the operands that each check of R94 sees, and what a check finds in a unit's
wrong value. -/

namespace Sys2Proof.Machine

/-- r(x) = x mod 255, from 0 to 254 (R91). -/
def res255 (x : Int) : Nat := (x % 255).toNat

/-- The integer significand of an element; a NaN or an infinity has none and counts 0 (R68; log 151). -/
def El.sig : El → Int
  | .num m => m
  | _ => 0

/-- Predicted residue of a partial sum (R92): the sum of r(m_a) * r(m_b), modulo 255. -/
def predSum (l : List (El × El)) : Nat := sumL (l.map (fun e => res255 e.1.sig * res255 e.2.sig)) % 255

/-- The check of a partial sum (R92): r(S) against the prediction. -/
def checkSum (l : List (El × El)) (z : Int) : CheckErr := ⟨0, predSum l, res255 z⟩

/-- The unsigned integer significand of a value, with its hidden bit; none for NaN and the infinities. -/
def Fp.sig? : Fp → Option Nat
  | .fin _ m _ => some m
  | _ => none

/-- The check of a significand multiplier (R93): r(P) against r(Ma) * r(Mb). -/
def checkMul (a b : Fp) (p : Nat) : Option CheckErr :=
  match a.sig?, b.sig? with
  | some x, some y => some ⟨1, res255 x * res255 y % 255, res255 p⟩
  | _, _ => none

/-- A significand in the adder's 80-bit field: the larger operand's highest bit stands at bit 78, which leaves bit 79 for the carry, and bits
shifted below the field go (R93; log 151). `top` is the exponent of the larger operand's highest bit. -/
def inField (m : Nat) (e top : Int) : Nat :=
  let sh := 78 - top + e
  if 0 ≤ sh then m <<< sh.toNat else m >>> (-sh).toNat

/-- The operands of an FP32 addition as the adder holds them after alignment, and whether it subtracts; none where an operand is not finite. -/
def aligned (a b : Fp) : Option (Nat × Nat × Bool) :=
  match a, b with
  | .fin s m e, .fin t n f =>
    let x : Int := (Nat.log2 m : Int) + e
    let y : Int := (Nat.log2 n : Int) + f
    let top := if m = 0 then y else if n = 0 then x else max x y
    some (inField m e top, inField n f top, s != t)
  | _, _ => none

/-- The check of a significand adder (R93): r(Z) against r(X) + r(Y), or r(X) - r(Y) for an effective subtraction. -/
def checkAdd (a b : Fp) (z : Int) : Option CheckErr :=
  match aligned a b with
  | some (x, y, sub) =>
    some ⟨2, res255 (if sub then (res255 x : Int) - res255 y else (res255 x : Int) + res255 y), res255 z⟩
  | none => none

/-- The values of c before each step of an accumulation (R71, R74). -/
def chainOf {α : Type} (f : W32 → α → Nat → W32) : List α → Nat → W32 → List (W32 × α)
  | [], _, _ => []
  | p :: t, q, c => (c, p) :: chainOf f t (q + 1) (f c p q)

/-- The operands of a TMMA or TMMAS as they stand in the registers. -/
def Rill.mmaIn (r : Rill) (w : W64) : MmaIn :=
  { a := leNat (r.treg (taOf w)), a2 := leNat (r.treg ((taOf w + 1) % 16)), b := leNat (r.treg (tbOf w)), c := leNat (r.treg (tcOf w)),
    sa := r.tside (taOf w), sa2 := r.tside ((taOf w + 1) % 16), sb := r.tside (tbOf w), td := lanes (r.treg (tdOf w)) }

/-- The seed of an operation's draws (R88): STEP is that of its issue (log 142). -/
def UnitOp.seed (o : UnitOp) (k : Nat) : Seed := { step := o.step, col := rcol k, row := rrow k, slot := o.slot, n := o.draw }

/-- What a check finds in a wrong value inside TMMA or TMMAS (R94): `site` is the result element, `step` the partial, the k of a product or chain,
or for BF16 and FP16 the node of the tree, with node 15 the addition into c. -/
def mmaCheck (r : Rill) (k : Nat) (o : UnitOp) (u : Upset) : Option CheckErr :=
  let w := o.word
  let fmt := fmtOf w
  let sparse := opOf w == 0x54
  let x := r.mmaIn w
  let d := o.seed k
  let sr := rndOf w == 1
  let c0 (e : Nat) : W32 := if accOf w = 1 then x.td.getD e 0 else negZero
  match u with
  | .sum e q z =>
    if e < 64 ∧ 3 ≤ fmt ∧ q < (if sparse then 2 * tileK fmt / 32 else tileK fmt / 32) then
      some (checkSum (if sparse then sparseProducts fmt x (e / 8) (e % 8) q else denseProducts fmt x (e / 8) (e % 8) q) z)
    else none
  | .product e q p =>
    if e < 64 ∧ fmt = 0 ∧ q < 8 then
      checkMul (dec32 (BitVec.ofNat 32 (elemAt x.a 32 (e / 8 * 8 + q)))) (dec32 (BitVec.ofNat 32 (elemAt x.b 32 (e % 8 * 8 + q)))) p
    else if e < 64 ∧ (fmt = 1 ∨ fmt = 2) ∧ q < 16 then
      checkMul (decHalf fmt (elemAt x.a 16 (e / 8 * 16 + q))) (decHalf fmt (elemAt x.b 16 (e % 8 * 16 + q))) p
    else none
  | .raw e q z =>
    if 64 ≤ e then none
    else if fmt = 0 then
      let l := (List.range 8).map (fun t => (BitVec.ofNat 32 (elemAt x.a 32 (e / 8 * 8 + t)), BitVec.ofNat 32 (elemAt x.b 32 (e % 8 * 8 + t))))
      match (chainOf (fun c (p : W32 × W32) t => ffma (d.rnd sr (64 * t + e)) p.1 p.2 c) l 0 (c0 e))[q]? with
      | some (c, p) => checkAdd ((dec32 p.1).mul (dec32 p.2)) (dec32 c) z
      | none => none
    else if fmt ≤ 2 then
      let prods := halfProducts fmt x (e / 8) (e % 8)
      match (treeNodes (fadd .rne) 5 prods ++ [(c0 e, (treeOf (fadd .rne) 5 prods).getD 0 0)])[q]? with
      | some (a, b) => checkAdd (dec32 a) (dec32 b) z
      | none => none
    else if fmt ≤ 8 then
      let ps := if sparse then sparsePartials fmt x (e / 8) (e % 8) else densePartials fmt x (e / 8) (e % 8)
      match (chainOf (fun c p t => fadd (d.rnd sr (64 * t + e)) c p) ps 0 (c0 e))[q]? with
      | some (c, p) => checkAdd (dec32 c) (dec32 p) z
      | none => none
    else none
  | .copies a b => if fmt = 9 then none else some ⟨3, res255 a, res255 b⟩
  | .inner _ _ _ => none

/-- What a check finds in a wrong value inside a vector operation or TCVT (R94): `site` is the lane, or the node of VREDADD's tree. VBCAST computes
nothing and has no check. -/
def vectorCheck (r : Rill) (o : UnitOp) (u : Upset) : Option CheckErr :=
  let w := o.word
  let op := opOf w
  let a := lanes (r.treg (taOf w))
  let lane (t i : Nat) : Fp := dec32 ((lanes (r.treg t)).getD i 0)
  match u with
  | .product i 0 p => if i < 64 ∧ (op = 0x61 ∨ op = 0x63) then checkMul (lane (taOf w) i) (lane (tbOf w) i) p else none
  | .raw i 0 z =>
    if op = 0x67 then
      (match (treeNodes (fadd .rne) 7 a)[i]? with
       | some (x, y) => checkAdd (dec32 x) (dec32 y) z
       | none => none)
    else if 64 ≤ i then none
    else if op = 0x60 then checkAdd (lane (taOf w) i) (lane (tbOf w) i) z
    else if op = 0x63 then checkAdd ((lane (taOf w) i).mul (lane (tbOf w) i)) (lane (tcOf w) i) z
    else none
  | .copies x y => if op = 0x69 then none else some ⟨3, res255 x, res255 y⟩
  | .inner unit p c => if 0x64 ≤ op ∧ op ≤ 0x66 ∧ 1 ≤ unit ∧ unit ≤ 2 then some ⟨unit, p % 255, c % 255⟩ else none
  | _ => none

/-- The exact integer result that a scalar instruction's residue check predicts (R94); none for an instruction without one. -/
def scalarPred (op : Nat) (a b : W64) (imm : W64) : Option Nat :=
  let x := res255 a.toNat
  let y := res255 b.toNat
  match op with
  | 0x01 | 0x28 => some ((x + y) % 255)
  | 0x02 => some (res255 ((x : Int) - y))
  | 0x09 | 0x0A => some (x * y % 255)
  | 0x10 => some ((x + res255 imm.toNat) % 255)
  | _ => none

/-- What a check finds in a wrong value inside a scalar instruction (R94): a residue of the raw result of ADD, SUB, ADDI, MUL, MULHU or AMOADD, or
two copies of a logical, shift or compare operation that differ. `a` and `b` are the operands. R95 names no scalar unit: the record gives 0 or 3
(log 150). -/
def scalarCheck (op : Nat) (a b imm : W64) (u : Upset) : Option CheckErr :=
  let copied := (3 ≤ op ∧ op ≤ 8) ∨ (0x0B ≤ op ∧ op ≤ 0x0D) ∨ (0x11 ≤ op ∧ op ≤ 0x15)
  match u with
  | .sum 0 0 z => (scalarPred op a b imm).map (fun p => ⟨0, p, res255 z⟩)
  | .copies x y => if copied then some ⟨3, res255 x, res255 y⟩ else none
  | _ => none

/-- What a check finds in ballast work (R421), MXFP8 tensor work and vector work, whose operands the spec does not give: an integer partial, an FP
multiplier or adder, or two copies. -/
def ballastCheck (u : Upset) : Option CheckErr :=
  match u with
  | .inner unit p c => if unit ≤ 2 then some ⟨unit, p % 255, c % 255⟩ else none
  | .copies x y => some ⟨3, res255 x, res255 y⟩
  | _ => none

/-- Has a check failed: the residues differ, or the two copies do (R92, R93)? -/
def checkFailed (u : Upset) (e : CheckErr) : Bool :=
  match u with
  | .copies x y => x != y
  | _ => e.predicted != e.computed

/-- The failure that an upset makes a check report; none where the operation has no such check, or the check passes. -/
def failedCheck (u : Upset) (e : Option CheckErr) : Option CheckErr :=
  match e with
  | some e => if checkFailed u e then some e else none
  | none => none

end Sys2Proof.Machine
end

