-- ==== Sys2Proof/Machine/Vector.lean ====
section
/-! DEFINITION. Vector instructions (02 R41, R43; 03 R84-R86), and UNIT_OP_COMPLETE: the last cycle of an operation, at which its result
is written or a residue check fails (R95). -/

namespace Sys2Proof.Machine

/-- VADD. -/
def execVadd (a : SlotId) (s : State) := execUnit 0x60 a s
/-- VMUL. -/
def execVmul (a : SlotId) (s : State) := execUnit 0x61 a s
/-- VMAX. -/
def execVmax (a : SlotId) (s : State) := execUnit 0x62 a s
/-- VFMA. -/
def execVfma (a : SlotId) (s : State) := execUnit 0x63 a s
/-- VEXP2. -/
def execVexp2 (a : SlotId) (s : State) := execUnit 0x64 a s
/-- VRCP. -/
def execVrcp (a : SlotId) (s : State) := execUnit 0x65 a s
/-- VRSQRT. -/
def execVrsqrt (a : SlotId) (s : State) := execUnit 0x66 a s
/-- VREDADD. -/
def execVredadd (a : SlotId) (s : State) := execUnit 0x67 a s
/-- VREDMAX. -/
def execVredmax (a : SlotId) (s : State) := execUnit 0x68 a s
/-- VBCAST. -/
def execVbcast (a : SlotId) (s : State) := execUnit 0x69 a s

/-- The value of a reduction (R43, R84): the fixed pairwise tree over 64 lanes. -/
def vreduce (op : Nat) (l : List W32) : W32 := (treeOf (if op = 0x67 then fadd .rne else fmax) 7 l).getD 0 0

/-- The lanes that a vector operation writes (R84, R85). -/
def vresult (o : UnitOp) (d : Seed) (a b c : List W32) : List W32 :=
  let sr := rndOf o.word == 1
  let z (f : Nat → W32 → W32 → W32) : List W32 := (List.zip a b).mapIdx (fun i e => f i e.1 e.2)
  match opOf o.word with
  | 0x60 => z (fun i x y => fadd (d.rnd sr i) x y)
  | 0x61 => z (fun i x y => fmul (d.rnd sr i) x y)
  | 0x62 => z (fun _ x y => fmax x y)
  | 0x63 => (List.zip (List.zip a b) c).mapIdx (fun i e => ffma (d.rnd sr i) e.1.1 e.1.2 e.2)
  | 0x64 => a.map vexp2
  | 0x65 => a.map vrcp
  | 0x66 => a.map vrsqrt
  | _ => List.replicate 64 (o.s1.truncate 32)

/-- What a finished unit operation writes: td and its side-band, or a scalar register (R75: operands are read before td is
written). -/
def Rill.finishOp (r : Rill) (k : Nat) (o : UnitOp) : Rill :=
  let w := o.word
  let op := opOf w
  let d := o.seed k
  let ta := r.treg (taOf w)
  if op = 0x67 ∨ op = 0x68 then
    let x := r.slot o.slot
    r.setSlot o.slot (x.setG (tgs1Of w) ((vreduce op (lanes ta)).zeroExtend 64))
  else if op = 0x55 then
    let (td, side) := tcvt (fmtOf w) d (rndOf w == 1) (lanes ta) (o.s1.toNat % partsOf (fmtOf w)) (r.treg (tdOf w)) (r.tside (tdOf w))
    { r with t := put r.t (tdOf w) td, side := put r.side (tdOf w) side }
  else if op = 0x53 ∨ op = 0x54 then
    let res := (List.range 64).map (mmaElem (fmtOf w) (op == 0x54) (accOf w == 1) (rndOf w == 1) d (r.mmaIn w))
    { r with t := put r.t (tdOf w) (fromLanes res) }
  else
    { r with t := put r.t (tdOf w) (fromLanes (vresult o d (lanes ta) (lanes (r.treg (tbOf w))) (lanes (r.treg (tcOf w))))) }

/-- A failed check of a unit operation: no result is written, the slot's draw counter keeps its value from before the instruction,
and the slot faults with RESIDUE (R95). -/
def State.opUpset (s : State) (k : Nat) (o : UnitOp) (e : CheckErr) : State :=
  (s.modSlot k o.slot (fun x => { x with draw := o.draw })).residueFault k o.slot o.pc.toNat e

/-- A finished operation gives its result, and its registers and, where both places of its unit were taken, a place of the unit become free in this
cycle (R32, R34). -/
def State.opDone (s : State) (k : Nat) (o : UnitOp) (full : Bool) : State :=
  let c := s.clk.cycle
  s.modRill k (fun r =>
    let r := r.finishOp k o
    let r := { r with tready := (tregsOf o.word).foldl (fun m t => put m t (max c (look 0 m t))) r.tready, roomAt := if full then c else r.roomAt }
    if opOf o.word = 0x67 ∨ opOf o.word = 0x68 then
      r.setSlot o.slot { r.slot o.slot with gready := put (r.slot o.slot).gready (tgs1Of o.word) c }
    else r)

/-- The failure that the checks of an operation in a unit report (R94). -/
def State.opCheckErr (s : State) (k : Nat) (o : UnitOp) (u : Upset) : Option CheckErr :=
  let r := s.rill k
  failedCheck u (if unitOf (opOf o.word) = some true then mmaCheck r k o u else vectorCheck r o u)

/-- Does the head operation of a unit's list end for this slot? An upset that no check of the operation reports does not occur (log 151). -/
def State.opEnds (s : State) (k slot : Nat) (q : List UnitOp) (check : Option Upset) : Bool :=
  match q.head? with
  | none => false
  | some o => o.slot == slot && (match check with
      | none => true
      | some u => (s.opCheckErr k o u).isSome)

/-- The head operation of a unit's list `q` ends in its last cycle: with its result, or with a failed check. `pop` takes it out of its unit. -/
def State.endUnitOp (s : State) (k : Nat) (q : List UnitOp) (check : Option Upset) (pop : State → State) : State :=
  match q.head? with
  | none => s
  | some o =>
    match check.bind (s.opCheckErr k o) with
    | none => (pop s).opDone k o (decide (2 ≤ q.length))
    | some e => (pop s).opUpset k o e

/-- The failure that the checks of the scalar instruction at a slot's PC report (R94): AMOADD's operands are the old value and gs2. -/
def State.scalarErr (s : State) (k n : Nat) (u : Upset) : Option CheckErr :=
  let x := (s.rill k).slot n
  let w := s.instrAt k n
  let a := x.greg (gs1Of w)
  if opOf w = 0x28 then
    (match s.localRead k (localAt (a + sext32 (immOf w)).toNat 8 8) 8 with
     | .inr b => failedCheck u (scalarCheck 0x28 (BitVec.ofNat 64 (leNat b)) (x.greg (gs2Of w)) 0 u)
     | .inl _ => none)
  else failedCheck u (scalarCheck (opOf w) a (x.greg (gs2Of w)) (sext32 (immOf w)) u)

/-- UNIT_OP_COMPLETE (R34, R43, R92-R95). For the scalar unit it stands for a failed check of the instruction at the slot's PC, which then writes
nothing; for ballast, for a failed check of ballast work (R421). -/
def execUnitOpComplete (p : Pos) (u : UnitSel) (slot : Nat) (check : Option Upset) (now : Nat) (s : State) :
    Host.Outcome State Fault Refusal :=
  let k := ridx p.col p.row
  let r := s.rill k
  let a : SlotId := ⟨p.col, p.row, slot⟩
  let ok := inGrid p.col p.row && decide (slot < 16)
  match u with
  | .tensor => onUnit ok (s.alive k && s.opEnds k slot r.tensorQ check) s (fun s =>
      (s.atTime now).endUnitOp k r.tensorQ check (fun s => s.modRill k (fun r => { r with tensorQ := r.tensorQ.drop 1 })))
  | .vector => onUnit ok (s.alive k && s.opEnds k slot r.vectorQ check) s (fun s =>
      (s.atTime now).endUnitOp k r.vectorQ check (fun s => s.modRill k (fun r => { r with vectorQ := r.vectorQ.drop 1 })))
  | .scalar =>
    match check.bind (s.scalarErr k slot) with
    | none => onUnit ok false s id
    | some e => onUnit ok (s.eligible a (opOf (s.instrAt k slot)) && legalWord (s.instrAt k slot)) s (fun s =>
        ((s.atTime now).touchIssue a).residueFault k slot (r.slot slot).pc.toNat e)
  | .ballast =>
    match check.bind (fun u => failedCheck u (ballastCheck u)) with
    | none => onUnit ok false s id
    | some e => onUnit ok (s.alive k && s.isOn clsPitch (pitchOf p.col p.row) && s.regB (aWeir 0x100) 2) s (fun s => (s.atTime now).ballastFail k e)

end Sys2Proof.Machine
end

