-- ==== Sys2Proof/Machine/Streams.lean ====
section
/-! DEFINITION. Stream queues and eddy rings (05 R138-R168): descriptors and what SARM accepts, the four tile counts, the status record and
the end-of-arm event, the queue's block states, trickle transfers, and ferry chains. The commands stand in StreamInstr.lean and
StreamEngine.lean. -/

namespace Sys2Proof.Machine

/-! ### Descriptors (R140-R143) -/

/-- The descriptor that 64 bytes spell (R140). -/
def parseDesc (b : List Byte) : Desc :=
  { dir := at' b 0 1, farKind := at' b 1 1, ringSlots := at' b 2 1, prefetch := at' b 3 1, outstanding := at' b 4 1,
    ferry := at' b 5 1, evt := at' b 6 1, memEp := at' b 7 1, tileLen := at' b 8 2, sliceLen := at' b 0xA 2,
    nearAddr := at' b 0xC 2, statAddr := at' b 0xE 2, count := at' b 0x10 4, inner := at' b 0x14 2, up := at' b 0x18 4,
    down := at' b 0x1C 4, farBase := at' b 0x20 8, farStride := toSigned 64 (at' b 0x28 8),
    farStride2 := toSigned 64 (at' b 0x30 8), farArg := at' b 0x38 8 }

/-- The 64 bytes of a descriptor (R140). -/
def Desc.bytes (d : Desc) : List Byte :=
  leBytes 1 d.dir ++ leBytes 1 d.farKind ++ leBytes 1 d.ringSlots ++ leBytes 1 d.prefetch ++ leBytes 1 d.outstanding
    ++ leBytes 1 d.ferry ++ leBytes 1 d.evt ++ leBytes 1 d.memEp ++ leBytes 2 d.tileLen ++ leBytes 2 d.sliceLen
    ++ leBytes 2 d.nearAddr ++ leBytes 2 d.statAddr ++ leBytes 4 d.count ++ leBytes 2 d.inner ++ leBytes 2 0 ++ leBytes 4 d.up
    ++ leBytes 4 d.down ++ leBytes 8 d.farBase ++ leBytes 8 (d.farStride % 2 ^ 64).toNat ++ leBytes 8 (d.farStride2 % 2 ^ 64).toNat
    ++ leBytes 8 d.farArg

/-- An UP or DOWN field that names no unit (R140). -/
abbrev noUnit : Nat := 0xFFFFFFFF

/-- UP or DOWN in the form of R141. -/
def unitFieldOk (v : Nat) : Bool :=
  nfld v 26 2 == 0 &&
  (if nfld v 31 1 = 1 then decide (nfld v 0 11 < 36) && nfld v 16 10 == 0
   else decide (nfld v 0 11 < 1080) && decide (nfld v 16 10 < 840))

/-- Is the descriptor a trickle transfer (R158)? -/
def Desc.trickle (d : Desc) : Bool := decide (d.tileLen < 256)
/-- Is FERRY enabled? -/
def Desc.ferryOn (d : Desc) : Bool := d.ferry % 2 == 1
/-- SLICE mode (R140). -/
def Desc.slice (d : Desc) : Bool := d.ferryOn && d.ferry / 2 % 2 == 0
/-- Push kinds: the data comes by SPUSH (R151, R165). -/
def Desc.push (d : Desc) : Bool := d.dir == 0 && decide (2 ≤ d.farKind)
/-- FILL or DRAIN. -/
def Desc.noRing (d : Desc) : Bool := decide (2 ≤ d.dir)

/-- The far address of tile n of an arm (R142), exact. For FAR_KIND 3 and 4 it is the byte offset in FAR_BASE[63:32] (R226, R305). -/
def Desc.far (d : Desc) (n : Nat) : Int :=
  let base : Int := if 3 ≤ d.farKind then (d.farBase / 2 ^ 32 : Nat) else (d.farBase : Nat)
  if d.inner = 0 then base + n * d.farStride
  else base + (n % d.inner : Nat) * d.farStride + (n / d.inner : Nat) * d.farStride2

/-- A global pool address of a tile that passes the check of R142: rill index and offset. -/
def tilePool (a : Int) (len : Nat) : Option (Nat × Nat) :=
  if a < 0 then none
  else match poolAddr a.toNat with
    | none => none
    | some (k, off) => if off + len ≤ 0x10000 then some (k, off) else none

/-- DESC_INVALID (R143): a field outside the ranges of R140, R141, R158, R226 or R305, or an area beyond 0xC000. `res16` is the
reserved field at 0x16. -/
def Desc.valid (d : Desc) (res16 : Nat) : Bool :=
  decide (d.dir ≤ 3) && decide (d.farKind ≤ 4) && res16 == 0 && decide (1 ≤ d.tileLen) && decide (d.tileLen ≤ 4096)
    && decide (d.ferry < 4) && d.evt / 32 == 0
    && (d.statAddr == 0xFFFF || (d.statAddr % 16 == 0 && decide (d.statAddr + 16 ≤ 0xC000)))
    && (if d.farKind = 1 then decide (d.memEp < 36) && epKind d.memEp == 1 else d.memEp == 0)
    && (d.up == noUnit || unitFieldOk d.up) && (d.down == noUnit || unitFieldOk d.down)
    && (if d.push then d.up != noUnit else d.up == noUnit)
    && (if d.trickle then
          d.count == 1 && d.ringSlots == 0 && d.prefetch == 0 && d.outstanding == 0 && d.ferry == 0 && decide (d.dir ≤ 1)
            && decide (d.farKind ≤ 1) && d.sliceLen == 0 && d.nearAddr % 8 == 0 && decide (d.nearAddr + d.tileLen ≤ 0xC000)
            && d.farArg == 0 && (d.farKind == 1 || (tilePool (d.far 0) d.tileLen).isSome)
        else
          (if d.noRing then d.farKind == 1 && d.ringSlots == 0 else decide (3 ≤ d.ringSlots) && decide (d.ringSlots ≤ 8))
            && (if d.dir = 0 then decide (1 ≤ d.prefetch) && decide (d.prefetch < d.ringSlots) else d.prefetch == 0)
            && (if d.farKind = 2 ∨ d.push then d.outstanding == 0 else decide (1 ≤ d.outstanding) && decide (d.outstanding ≤ 16))
            && (if d.slice then d.sliceLen % 64 == 0 && decide (0 < d.sliceLen) else d.sliceLen == 0)
            && d.nearAddr % 64 == 0 && decide (d.nearAddr + d.ringSlots * d.stride ≤ 0xC000)
            && (d.noRing || decide (3 ≤ d.farKind) || d.farArg == 0)
            && (d.dir != 1 || decide (d.farKind < 2) || d.down != noUnit))

/-- Entries that a queue reserves: for a queue whose start is latched, the stopping arm's pass to the new arm (R139, R143). -/
def Queue.reserve (q : Queue) : Nat :=
  if q.st = stOff then 0
  else max (match q.arms.head? with
      | some m => m.desc.outstanding
      | none => 0) (match q.latched with
      | some (d, _) => d.outstanding
      | none => 0)

/-- Entries that all queues but one reserve. -/
def Rill.reserved (r : Rill) (but : Option Nat) : Nat :=
  sumL ((r.queues.filter (fun e => some e.1 != but)).map (fun e => e.2.reserve))

/-! ### The status record and tile counts (R149-R156) -/

/-- The arm in force for FILLED: the oldest one not ended and passed. -/
def Queue.arm (q : Queue) : Arm := q.arms.headD { first := 0, desc := Desc.zero, slot := 0 }
/-- The descriptor that armed the queue (ring, units, lengths). -/
def Queue.desc (q : Queue) : Desc := q.arm.desc
/-- The arm that issues. -/
def Queue.lastArm (q : Queue) : Arm := q.arms.getLastD { first := 0, desc := Desc.zero, slot := 0 }

/-- The 16-byte status record (R155). -/
def Queue.record (q : Queue) : List Byte :=
  leBytes 2 (q.st + 8 * b2n q.pendOn + 16 * b2n q.pendOff + 32 * b2n q.rearm.isSome) ++ leBytes 2 q.code
    ++ leBytes 4 (q.filled - q.arm.first) ++ leBytes 4 q.released ++ leBytes 4 q.issued

/-- The status record of a queue written to STAT_ADDR. -/
def State.writeStat (s : State) (k q : Nat) : State :=
  let x := (s.rill k).queue q
  if x.arms.isEmpty ∨ x.desc.statAddr = 0xFFFF then s else s.storeWrite k x.desc.statAddr x.record false

/-- A queue's state changes, and the status record says so (R155). -/
def State.setQst (s : State) (k q st : Nat) : State := (s.modQueue k q (fun x => { x with st })).writeStat k q

/-- The event bit of a descriptor set in a slot (R156, R159). -/
def State.fireEvent (s : State) (k slot evt : Nat) : State :=
  if evt / 16 % 2 = 1 then s.modSlot k slot (fun x => { x with event := x.event ||| ((1 : W16) <<< (evt % 16)) }) else s

/-- Arms that have ended and are followed by another are passed (R157). -/
def passArms : List Arm → Nat → List Arm
  | a :: b :: t, filled => if a.desc.count ≠ 0 ∧ a.first + a.desc.count ≤ filled then passArms (b :: t) filled else a :: b :: t
  | l, _ => l

/-- FILLED advances over tiles that are filled, in tile order; each end of an arm writes the record and sets its event (R152, R155,
R156). -/
def State.advanceFilled (s : State) (k q : Nat) : Nat → State
  | 0 => s
  | f + 1 =>
    let x := (s.rill k).queue q
    if x.early.contains x.filled then
      let s := s.modQueue k q (fun x =>
        { x with early := rem x.early x.filled, filled := x.filled + 1, arms := passArms x.arms x.filled })
      let a := ((s.rill k).queue q).arm
      let s := if a.desc.count ≠ 0 ∧ a.first + a.desc.count = x.filled + 1 then (s.writeStat k q).fireEvent k a.slot a.desc.evt else s
      s.advanceFilled k q f
    else s

/-- Tile n of a queue is filled (IN) or answered (OUT, FILL, DRAIN). -/
def State.tileDone (s : State) (k q n : Nat) : State :=
  let s := s.modQueue k q (fun x => if n < x.filled then x else { x with early := ins x.early n })
  s.advanceFilled k q (((s.rill k).queue q).early.length)

/-- The tile count that 32 bits of it stand for, beside a count that is near it (R150, R164; log 106). -/
def nearCount (near low : Nat) : Nat :=
  let d := (low + 2 ^ 32 - near % 2 ^ 32) % 2 ^ 32
  if d < 2 ^ 31 then near + d else near + d - 2 ^ 32

/-- Rill-store address of tile n's ring slot (R149). -/
def Queue.slotAddr (x : Queue) (n : Nat) : Nat := x.desc.nearAddr + n % x.desc.ringSlots * x.desc.stride

/-! ### Packets of a queue -/

/-- Destination of an UP or DOWN field (R141). -/
def Packet.toUnit (p : Packet) (u : Nat) : Packet :=
  if nfld u 31 1 = 1 then { p with edge := true, dcol := nfld u 0 11, drow := 0 }
  else { p with edge := false, dcol := nfld u 0 11, drow := nfld u 16 10 }

/-- TAG of a stream packet (R162). -/
def streamTag (q n : Nat) : Nat := q + 8 * (n % 8192)

/-- A failed op follows a stream fault (R263); a fault of R114 or R142 is a program fault. -/
def State.queueFault (s : State) (k q code : Nat) (program : Bool) : State :=
  let x := (s.rill k).queue q
  if x.st = stStarting ∨ x.st = stOn then
    let s := (s.modQueue k q (fun x => { x with code })).setQst k q stFaulted
    let s := if x.pendOff then (s.modQueue k q (fun x => { x with pendOff := false })).setQst k q stStopping else s
    if program then s.programFault k else s.streamFault k code
  else if x.st = stStopping then s.modQueue k q (fun x => { x with code })
  else s

/-- A packet of a queue whose refusal faults the queue. -/
def State.queueSendOr (s : State) (k q : Nat) (p : Packet) : State :=
  match s.inject? p with
  | some s => s
  | none => (s.unreachable p).queueFault k q cMalformed true

/-- Marks a close in flight (HW_CLOSE, EZ_CLOSE) among a queue's transfers: no tile has this number. -/
abbrev closeTile : Nat := 2 ^ 64

/-- HW_CLOSE or EZ_CLOSE of a queue, sent once (R228, R249). -/
def State.queueClose (s : State) (k q : Nat) : State :=
  let x := (s.rill k).queue q
  let d := x.desc
  if 3 ≤ d.farKind ∧ x.closeSent = false then
    let (xid, s) := s.fresh
    let p := { s.slotPacket k x.arm.slot with
      kind := if d.farKind = 3 then 0x22 else 0x32, arg := x.armNo % 256, tag := streamTag q 0, xid, ackReq := true }
    match s.inject? (p.toUnit (if d.dir = 0 then d.up else d.down)) with
    | some s => s.modQueue k q (fun x => { x with flights := x.flights ++ [⟨xid, closeTile⟩], closeSent := true })
    | none => s.unreachable p
  else s

/-- A queue enters STOPPING (R146, R228): filled IN tiles not acquired and released OUT tiles not injected are dropped, and a
FAR_KIND 3 or 4 queue sends its close. -/
def State.queueStop (s : State) (k q : Nat) : State :=
  let s := (s.modQueue k q (fun x => { x with pendOff := false, rearm := none })).setQst k q stStopping
  s.queueClose k q

/-- SSTOP, by the queue's state (R144); a FAR_KIND 3 queue whose open may be held closes at once (R249). -/
def State.stopQueue (s : State) (k q : Nat) : State :=
  let x := (s.rill k).queue q
  if x.st = stStarting then
    let s := (s.modQueue k q (fun x => { x with pendOff := true })).writeStat k q
    if x.desc.farKind = 3 then s.queueClose k q else s
  else if x.st = stOn ∨ x.st = stFaulted then s.queueStop k q
  else if x.st = stStopping ∧ x.pendOn then
    (s.modQueue k q (fun x => { x with pendOn := false, latched := none })).writeStat k q
  else s

/-- STARTING ends (R144, R145): ON, then STOPPING if a stop is pending. -/
def State.queueStarted (s : State) (k q : Nat) : State :=
  let s := s.setQst k q stOn
  if ((s.rill k).queue q).pendOff then s.queueStop k q else s

/-- A start begins (R144, R149), and the record's condition code of the last fault is 0 again (R155 does not say; log 171): counts from 0, one arm, STARTING; a FAR_KIND 3 or 4 queue opens its stream at the endpoint (R145,
R228). -/
def State.queueBegin (s : State) (k q : Nat) (d : Desc) (slot : Nat) : State :=
  let s := s.modQueue k q (fun x =>
    { x with pendOn := false, pendOff := false, arms := [⟨0, d, slot⟩], latched := none, rearm := none, issued := 0, filled := 0,
             acquired := 0, released := 0, code := 0, early := [], acqs := [], flights := [],
             closeSent := false, startedAt := s.clk.cycle })
  let s := s.setQst k q stStarting
  if 3 ≤ d.farKind then
    let (xid, s) := s.fresh
    let p := { s.slotPacket k slot with
      kind := if d.farKind = 3 then 0x20 else 0x30, arg := ((s.rill k).queue q).armNo % 256, tag := streamTag q 0, xid, len := 64,
      payload := d.bytes }
    s.queueSendOr k q (p.toUnit (if d.dir = 0 then d.up else d.down))
  else s

/-! ### Trickle transfers (R158, R159) -/

/-- A trickle transfer ends: status record and event (R159). -/
def State.trickleEnd (s : State) (k : Nat) (t : Trickle) (code : Nat) : State :=
  let s := if t.desc.statAddr = 0xFFFF then s
    else s.storeWrite k t.desc.statAddr
      (leBytes 2 0 ++ leBytes 2 code ++ leBytes 4 (b2n (code == 0)) ++ leBytes 4 0 ++ leBytes 4 1) false
  s.fireEvent k t.slot t.desc.evt

/-- The packet of a trickle transfer (R159). Its TAG is 0, queue 0 and tile 0 (R162 names no queue for it; log 172). -/
def State.tricklePacket (s : State) (k : Nat) (t : Trickle) : Packet :=
  let d := t.desc
  let src := s.storeRead k d.nearAddr d.tileLen
  let bad := s.storePois k d.nearAddr d.tileLen
  let p := { s.slotPacket k t.slot with len := d.tileLen, xid := t.xid }
  let p := if d.farKind = 0 then
      (match tilePool (d.far 0) d.tileLen with
       | some (g, off) => { p with dcol := rcol g, drow := rrow g, pool := true, addr := off, kind := if d.dir = 0 then 2 else 1 }
       | none => p)
    else { p with edge := true, dcol := d.memEp, kind := if d.dir = 0 then 0x10 else 0x12, addr := (d.far 0).toNat }
  if d.dir = 0 then { p with arg := d.nearAddr } else { p with payload := src, poison := bad, ackReq := true }

/-- A trickle transfer starts; a route that is not clear ends it as if answered with CMD_MALFORMED (R114). -/
def State.trickleStart (s : State) (k slot : Nat) (d : Desc) : State :=
  let (xid, s) := s.fresh
  let t : Trickle := { xid, slot, desc := d }
  let p := s.tricklePacket k t
  match s.inject? p with
  | some s => s.modRill k (fun r => { r with trickles := r.trickles ++ [t] })
  | none => ((s.unreachable p).trickleEnd k t cMalformed).programFault k

/-! ### RACQ and RREL (R152-R154) -/

/-- The value of RACQ that reports a condition code (R152). -/
def racqError (code : Nat) : W64 := BitVec.ofNat 64 (0x8000000000000000 + code)

/-- What RACQ returns now, and the queue after it; none while it waits (R152, R153). -/
def Queue.racq (x : Queue) (slot : Nat) : Option (W64 × Queue) :=
  if x.st = stOff then some (racqError cMalformed, x)
  else if x.desc.noRing then some (racqError cMalformed, x)
  else
    let ok := if x.desc.dir = 0 then x.st != stStopping && decide (x.acquired < x.filled) else decide (x.acquired < x.issued + x.desc.ringSlots)
    if ok then
      some (BitVec.ofNat 64 (x.slotAddr x.acquired),
        { x with acquired := x.acquired + 1, acqs := x.acqs ++ [⟨x.acquired, slot, false⟩] })
    else if x.st = stFaulted then some (racqError x.code, x)
    else none

/-- RREL: the oldest acquired and not released ring slot (R154). -/
def Queue.rrel (x : Queue) : Queue :=
  ({ x with acqs := updFirst (fun a => !a.released) (fun a => { a with released := true }) x.acqs }).settle

/-! ### Ferry chains (R166-R168) -/

/-- A tile arrives at a ring slot: the kept part is written, the rest goes to DOWN (R166). `kIn` is the ferry count of the SPUSH; it
is 0 for a tile that enters at the chain head, whose k is TILE_LEN / SLICE_LEN (log 19). -/
def State.landTile (s : State) (k q n : Nat) (bytes : List Byte) (poison : Bool) (kIn : Nat) : State :=
  let x := (s.rill k).queue q
  let d := x.desc
  let kept := if d.slice then bytes.take d.sliceLen else bytes
  let s := s.storeWrite k (x.slotAddr n) kept poison
  let slices := if kIn = 0 then d.tileLen / max 1 d.sliceLen else kIn
  let rest := if d.slice then bytes.drop d.sliceLen else bytes
  let kOut := if d.slice then slices - 1 else kIn
  let s :=
    if d.ferryOn && d.down != noUnit && (!d.slice || decide (1 < slices)) then
      let p := { s.slotPacket k x.arm.slot with
        kind := 0x15, len := rest.length, payload := rest, poison, tag := streamTag (nfld d.down 28 3) n,
        arg := kOut % 256 + 256 * x.srcArm.getD 0 }
      s.queueSendOr k q (p.toUnit d.down)
    else s
  s.tileDone k q n

end Sys2Proof.Machine
end

