-- ==== Sys2Proof/Machine/Manifest.lean ====
section
/-! DEFINITION. Weight manifests and bindings (07 R220-R224, R242-R249): the fields of a bound manifest, what BIND checks, the binding of
a layer, and the commands BIND, BIND_DONE and FRONT_GO. -/

namespace Sys2Proof.Machine

abbrev aPort (p off : Nat) : Nat := rg clsPort p off

/-! ### The context block (R252, R253) -/

/-- MAN_x_OK. -/
def State.manOk (s : State) (c x : Nat) : Bool := s.regB (aHwc c 4) (2 * x)
/-- KEY_x_OK. -/
def State.keyOk (s : State) (c x : Nat) : Bool := s.regB (aHwc c 4) (2 * x + 1)
/-- RANK of the context block. -/
def State.hwRank (s : State) (c : Nat) : Nat := s.regF (aHwc c 0) 0 14
/-- The bound manifest of a slot. -/
def State.man (s : State) (c x : Nat) : List Byte := look [] s.hwMan (2 * c + x)
/-- The bound slot that holds a generation. -/
def State.slotOfGen (s : State) (c g : Nat) : Option Nat := [0, 1].find? (fun x => s.manOk c x && s.genOf c x == g)

/-! ### Manifest fields (R220, R221) -/

/-- One entry of a rank's list: LAYER_OFF and LAYERS. -/
def manRank (m : List Byte) (r : Nat) : Nat × Nat :=
  let a := at' m 0x20 4 + 8 * r
  (at' m a 4, at' m (a + 4) 2)

/-- A layer entry of a rank: RECORD_OFF, W_RANGES, G_RANGES. -/
def manLayer (m : List Byte) (r l : Nat) : Nat × Nat × Nat :=
  let a := (manRank m r).1 + 8 * l
  (at' m a 4, at' m (a + 4) 2, at' m (a + 6) 2)

/-- A range with its object and server. -/
structure HwRange where
  seq : Nat
  offset : Nat
  length : Nat
  object : Nat
  objLen : Nat
  nonce : Nat
  kind : Nat
  udp : Nat
  mask : Nat
  ip : List Byte
  server : Nat
  deriving DecidableEq, Repr

/-- The range at an offset of a manifest. -/
def manRange (m : List Byte) (a : Nat) : HwRange :=
  let o := at' m 0x1C 4 + 32 * at' m a 4
  let v := at' m 0x18 4 + 32 * at' m (o + 16) 2
  { seq := at' m (a + 4) 4, offset := at' m (a + 8) 8, length := at' m (a + 16) 8, object := at' m o 8, objLen := at' m (o + 8) 8, nonce := at' m (o + 20) 4,
    kind := at' m v 1, udp := at' m (v + 2) 2, mask := at' m (v + 4) 4, ip := (m.drop (v + 16)).take 16, server := at' m (o + 16) 2 }

/-- Range `i` of layer `l` for this module's rank: a weight range, or a gradient range (R221). -/
def State.hwRange? (s : State) (c x : Nat) (grad : Bool) (l i : Nat) : Option HwRange :=
  let m := s.man c x
  let r := s.hwRank c
  let (off, w, g) := manLayer m r l
  if s.manOk c x = false ∨ (manRank m r).2 ≤ l then none
  else if grad then (if i < g then some (manRange m (off + 24 * (w + i))) else none)
  else if i < w then some (manRange m (off + 24 * i)) else none

/-! ### What BIND checks (R220, R221, R223) -/

/-- Bytes that must be 0. -/
def zeros (m : List Byte) (a n : Nat) : Bool := ((m.drop a).take n).all (· == 0)

/-- The header's fixed fields and ranges. -/
def manHeaderOk (m : List Byte) : Bool :=
  at' m 0 4 == 0x4D57335A && at' m 4 2 == 0x0100 && zeros m 6 2 && decide (1 ≤ at' m 8 4) && decide (at' m 8 4 ≤ 0xFFFFFFFE)
    && decide (at' m 0xC 4 ≤ 256 * 2 ^ 20) && decide (128 ≤ at' m 0xC 4) && decide (1 ≤ at' m 0x10 2) && decide (at' m 0x10 2 ≤ 16384)
    && decide (1 ≤ at' m 0x12 2) && decide (at' m 0x12 2 ≤ 4096) && decide (1 ≤ at' m 0x14 4) && decide (at' m 0x14 4 ≤ 1048576)
    && zeros m 0x24 28 && zeros m 0x60 32

/-- A range entry. -/
def manRangeOk (m : List Byte) (grad : Bool) (a : Nat) : Bool :=
  let r := manRange m a
  let o := at' m 0x1C 4 + 32 * at' m a 4
  decide (at' m a 4 < at' m 0x14 4) && (grad || r.seq == 0) && r.offset % 8192 == 0 && r.length % 64 == 0
    && decide (r.offset + r.length ≤ at' m (o + 8) 8)

/-- A layer entry with its ranges. -/
def manLayerOk (m : List Byte) (r l : Nat) : Bool :=
  let (off, w, g) := manLayer m r l
  decide (w ≤ 4096) && decide (g ≤ 4096) && decide (off + 24 * (w + g) ≤ m.length)
    && (List.range (w + g)).all (fun i => manRangeOk m (decide (w ≤ i)) (off + 24 * i))

/-- The whole manifest but its digest and rank. -/
def manTablesOk (m : List Byte) : Bool :=
  let servers := at' m 0x12 2
  let objects := at' m 0x14 4
  let sv := at' m 0x18 4
  let ob := at' m 0x1C 4
  let rk := at' m 0x20 4
  decide (sv + 32 * servers ≤ m.length) && decide (ob + 32 * objects ≤ m.length) && decide (rk + 8 * at' m 0x10 2 ≤ m.length)
    && (List.range servers).all (fun i =>
      let a := sv + 32 * i
      decide (at' m a 1 ≤ 1) && zeros m (a + 1) 1 && zeros m (a + 8) 8)
    && (List.range objects).all (fun i =>
      let a := ob + 32 * i
      decide (at' m (a + 16) 2 < servers) && zeros m (a + 18) 2 && zeros m (a + 24) 8)
    && (List.range (at' m 0x10 2)).all (fun r =>
      let (off, n) := manRank m r
      decide (1 ≤ n) && zeros m (rk + 8 * r + 6) 2 && decide (off + 8 * n ≤ m.length) && (List.range n).all (fun l => manLayerOk m r l))

/-- DIGEST of a manifest (R220). -/
def manDigest (m : List Byte) : List Byte := (m.drop 0x40).take 32

/-- DIGEST matches: taken with the field zero. -/
def manDigestOk (m : List Byte) : Bool :=
  shake256 (m.take 0x40 ++ List.replicate 32 0 ++ m.drop 0x60) == manDigest m

/-! ### Bindings -/

/-- LAYERS of this module's rank in a slot's manifest. -/
def State.hwLayers (s : State) (c x : Nat) : Nat := (manRank (s.man c x) (s.hwRank c)).2

/-- What happens to an open or re-arm for layer l with a generation (R229, R242). -/
inductive Verdict where
  | confirm | held | stale
  deriving DecidableEq, Repr

/-- The table of R242; outside a swap the binding is the active slot's generation. -/
def State.genVerdict (s : State) (c l g : Nat) : Verdict :=
  let old := s.genOf c (s.hwActive c)
  let new := s.genOf c (1 - s.hwActive c)
  if s.hwSwap c = 0 then (if s.manOk c (s.hwActive c) ∧ g = old then .confirm else .stale)
  else if l < s.hwFront c then (if g = new then .confirm else .stale)
  else if g = old then .confirm
  else if g = new then .held
  else .stale

/-- BIND_A or BIND_B (R223, R493). -/
def State.bind (s : State) (c x : Nat) : State :=
  if bitOf (s.reg (aPt c 0)) 1 then { s with hwBinding := ins s.hwBinding (2 * c + x) } else s

/-- BIND (R223). -/
def execBind (ctx slot : Nat) (s : State) : Host.Outcome State Fault Refusal :=
  onUnit (decide (ctx < 17) && decide (slot < 2)) s.served s (fun s => s.bind ctx slot)

/-- The bytes of the manifest at MAN_x; none where they cannot be read. -/
def State.readMan (s : State) (c x : Nat) : Option (List Byte) × State :=
  let va := s.reg64 (aHwc c (8 + 8 * x))
  match s.vaRead c va 128 with
  | (.inl _, s) => (none, s)
  | (.inr h, s) =>
    if manHeaderOk h = false then (none, s)
    else match s.vaRead c va (at' h 0xC 4) with
      | (.inl _, s) => (none, s)
      | (.inr m, s) => (some m, s)

/-- BIND_DONE: MAN_x_OK and GEN_x, or a record of severity 4 with CMD_MALFORMED (R223). -/
def execBindDone (ctx slot : Nat) (s : State) : Host.Outcome State Fault Refusal :=
  onUnit (decide (ctx < 17) && decide (slot < 2)) (s.hwBinding.contains (2 * ctx + slot)) s (fun s =>
    let s := { s with hwBinding := rem s.hwBinding (2 * ctx + slot) }
    let (m?, s) := s.readMan ctx slot
    let good := match m? with
      | none => none
      | some m => if manTablesOk m && manDigestOk m && decide (s.hwRank ctx < at' m 0x10 2) then some m else none
    match good with
    | some m =>
      let s := { s with hwMan := put s.hwMan (2 * ctx + slot) m }
      (s.setB (aHwc ctx 4) (2 * slot) true).setRegN (aHwc ctx (0x18 + 4 * slot)) (at' m 8 4)
    | none =>
      let s := { s with hwMan := del s.hwMan (2 * ctx + slot) }
      (s.setB (aHwc ctx 4) (2 * slot) false).cairnLog 4 clsPort 0 cMalformed ctx [])

/-- A slot unbound and its key erased (R247, R462, R508). -/
def State.unbind (s : State) (c x : Nat) : State :=
  let s := { s with hwMan := del s.hwMan (2 * c + x), hwKeys := del s.hwKeys (2 * c + x), hwBinding := rem s.hwBinding (2 * c + x) }
  (s.setB (aHwc c 4) (2 * x) false).setB (aHwc c 4) (2 * x + 1) false

/-- FRONT_GO written: it releases layer 0 of a swap under MODE FOLLOW (R243, R246). -/
def State.goFront (s : State) (c : Nat) : State :=
  if s.hwSwap c ≠ 0 ∧ s.regB (aHwc c 4) 7 then { s with frontGo := ins s.frontGo c } else s

/-- FRONT_GO (R246). -/
def execFrontGo (ctx : Nat) (s : State) : Host.Outcome State Fault Refusal :=
  onUnit (decide (ctx < 17)) s.served s (fun s => s.goFront ctx)

end Sys2Proof.Machine
end

