-- ==== Sys2Proof/Machine/Headwater.lean ====
section
/-! DEFINITION. Headwater streams (07 R213-R249): datagrams, the fetch loop, claims, re-arms, gradient frames and moves between ports. The
commands stand in HwCmds.lean. Port 32 stands for the host chiplet (R241). -/

namespace Sys2Proof.Machine

/-! ### Ports and datagrams (R213-R217) -/

/-- Levee endpoint of a port. -/
def portEndpoint (p : Nat) : Nat := if p = 32 then 4 else hwEndpoint (p / 4)
/-- SESSION that a port uses for a context (R215). -/
def State.session (s : State) (p c : Nat) : Nat := p * 2 ^ 24 + c * 2 ^ 16 + s.pageEpoch clsPort p % 65536
/-- RETRY_US in ns and RETRY_MAX of a port. The host chiplet, which has no such register, uses those of port 0 (log 32). -/
def State.retryNs (s : State) (p : Nat) : Nat := s.regF (aPort (p % 32) 0x124) 0 16 * 1000
/-- RETRY_MAX. -/
def State.retryMax (s : State) (p : Nat) : Nat := s.regF (aPort (p % 32) 0x124) 16 4
/-- A datagram discarded and counted (R214, R216). -/
def State.hwDiscard (s : State) (p : Nat) : State := s.incSat (aPort p 0x144)
/-- Bytes of a datagram that a gauge counts: those before the authentication tag (R170). -/
def dgramGauged (d : Dgram) : List Byte := if d.type = 2 ∨ d.type = 5 then d.payload.take (d.payload.length - 16) else d.payload
/-- The bytes of a UDP payload: the header, big-endian, and what follows (R215). -/
def dgramBytes (d : Dgram) : List Byte :=
  beBytes 1 d.ver ++ beBytes 1 d.type ++ beBytes 2 d.flags ++ beBytes 4 d.session ++ beBytes 2 d.req ++ beBytes 2 d.len ++ beBytes 4 d.gen
    ++ beBytes 8 d.object ++ beBytes 8 d.index ++ d.payload
/-- Sum of the 16-bit words of a list of bytes. -/
def sum16 : List Byte → Nat
  | a :: b :: t => a.toNat * 256 + b.toNat + sum16 t
  | [a] => a.toNat * 256
  | [] => 0
/-- The IPv6 address of a port (R250). -/
def State.portIp (s : State) (p : Nat) : List Byte := (List.range 4).flatMap (fun i => leBytes 4 (s.regN (aPort p (0x110 + 4 * i))))
/-- The UDP checksum of a datagram at a port: the one's complement sum over the pseudo-header of IPv6, the UDP header and the payload (R214). -/
def State.udpSum (s : State) (p : Nat) (d : Dgram) : Nat :=
  let len := (dgramBytes d).length + 8
  let t := sum16 (s.portIp p) + sum16 d.peer + len + 17 + d.ownUdp + d.peerUdp + len + sum16 (dgramBytes d)
  if t = 0 then 0xFFFF else if t % 0xFFFF = 0 then 0xFFFF else 0xFFFF - t % 0xFFFF
/-- Does a received datagram keep to R214: the checksum, the port's UDP_PORT, and frames of at most 9,216 B? -/
def State.udpOk (s : State) (p : Nat) (d : Dgram) : Bool :=
  d.sum == s.udpSum p d && d.ownUdp == s.regF (aPort p 0x120) 0 16
    && decide ((if d.vlan.isSome then 70 else 66) + (dgramBytes d).length ≤ 9216)
/-- A datagram leaves a port. -/
def State.hwEmit (s : State) (p : Nat) (d : Dgram) : State := (s.emit (.datagram p d)).feedUnit (portEndpoint p) 1 (p % 4) 1 (dgramGauged d)
/-- The 802.1Q tag of what a port sends while VLAN_EN is 1: the priority PFC_PRIO and VID (R214, R251). -/
def State.portTag (s : State) (p : Nat) : Option Nat :=
  if s.regB (aPort p 0x100) 4 then some (0x2000 * s.regF (aPort p 0x100) 1 3 + s.regF (aPort p 0x100) 5 12) else none
/-- A datagram sent on a port, from its UDP_PORT and with its tag and its checksum; it waits while the link partner pauses the priority (R214,
R251). -/
def State.hwSendDgram (s : State) (p : Nat) (d : Dgram) : State :=
  let d := { d with vlan := s.portTag p, ownUdp := s.regF (aPort p 0x120) 0 16 }
  let d := { d with sum := s.udpSum p d }
  if s.regB (aPort p 0x104) 2 then { s with hwWait := s.hwWait ++ [(p, d)] } else s.hwEmit p d
/-- The link partner no longer pauses a port: what waited is sent. -/
def State.hwResume (s : State) (p : Nat) : State :=
  (s.hwWait.filter (fun e => e.1 == p)).foldl (fun s e => s.hwEmit p e.2) { s with hwWait := s.hwWait.filter (fun e => e.1 != p) }

/-! ### Streams -/

/-- Range index. -/
def Desc.hwIndex (d : Desc) : Nat := d.farBase / 65536 % 65536
/-- GEN. -/
def Desc.hwGen (d : Desc) : Nat := d.farArg % 2 ^ 32
/-- The range that a descriptor names. -/
def State.descRange (s : State) (c : Nat) (d : Desc) : Option HwRange :=
  match s.slotOfGen c d.hwGen with
  | none => none
  | some x => s.hwRange? c x (d.dir == 1) d.hwLayer d.hwIndex

/-- The stream in a slot of a port. -/
def State.hw? (s : State) (port slot : Nat) : Option HwStream := s.hws.find? (fun h => h.port == port && h.slot == slot)
/-- A stream set. -/
def State.setHw (s : State) (h : HwStream) : State :=
  { s with hws := s.hws.map (fun x => if x.port = h.port ∧ x.slot = h.slot then h else x) }
/-- The stream of a rill's queue at an endpoint. -/
def State.hwOf (s : State) (p : Packet) : Option HwStream :=
  s.hws.find? (fun h => portEndpoint h.port == p.dcol && h.col == p.scol && h.row == p.srow && h.q == p.tag % 8 && h.ctx == p.ctx)
/-- Frames asked for and not received. -/
def HwStream.want (h : HwStream) : List Nat := h.fetches.flatMap (·.left)
/-- The open FETCH that a frame index lies in: the one that still misses the frame, if any does (a frame that was freed is asked for again while
an earlier FETCH of it may be open). -/
def HwStream.fetchAt? (h : HwStream) (i : Nat) : Option Fetch :=
  (h.fetches.find? (fun e => e.left.contains i)).or (h.fetches.find? (fun e => decide (e.first ≤ i) && decide (i < e.first + e.count)))
/-- An open FETCH changed. -/
def HwStream.modFetch (h : HwStream) (f : Fetch → Fetch) (e : Fetch) : HwStream := { h with fetches := updFirst (fun x => x == e) f h.fetches }
/-- A frame received: a FETCH whose frames are all there is over (R233). -/
def HwStream.got (h : HwStream) (i now : Nat) : HwStream :=
  let h := { h with fetches := updFirst (fun e => e.left.contains i) (fun e => { e with left := rem e.left i, last := now, attempts := 0 }) h.fetches }
  { h with fetches := h.fetches.filter (fun e => !e.left.isEmpty) }
/-- The lowest free slot of a port. -/
def State.freeSlot (s : State) (port : Nat) : Nat :=
  let used := (s.hws.filter (fun h => h.port == port)).map (·.slot)
  ((List.range (used.length + 1)).find? (fun n => !used.contains n)).getD 0

/-- HW_CONFIRM to the rill (R228). -/
def State.hwConfirm (s : State) (h : HwStream) (code : Nat) : State := s.inject (h.openP.answer 0x21 0 code [] false)

/-- The queue faults with an unprompted HW_CONFIRM (R228), and, where the spec asks for it, a record of severity 5 names port, server
and object (R233, R234). -/
def State.hwFault (s : State) (h : HwStream) (code : Nat) (record : Bool) : State :=
  let s := (s.setHw { h with failed := true, fetches := [] }).hwConfirm h code
  if record then
    let r := s.descRange h.ctx h.desc
    let items := [itPort h.port ((r.map (·.udp)).getD 0) ((r.map (·.ip)).getD []), itAddr ((r.map (·.object)).getD 0)]
    let u := if h.port = 32 then (clsPcie, 0) else (clsPort, h.port)
    s.cairnLog 5 u.1 u.2 code h.ctx items
  else s

/-- Has the arm ended: all of COUNT tiles pushed or written? -/
def HwStream.armOver (h : HwStream) : Bool := h.desc.count != 0 && decide (h.first + h.desc.count ≤ h.done)

/-- Why an open or re-arm is refused (R229), in the order of its table; none where it is confirmed or held. `slots` tells whether a
stream slot is needed. -/
def State.hwRefusal (s : State) (ep c : Nat) (d : Desc) (res16 : Nat) (slots : Bool) : Option Nat :=
  let u := if d.dir = 0 then d.up else d.down
  let unit := nfld u 28 3
  let port := if ep = 4 then 32 else 4 * hwChiplet ep + unit
  let x := (s.slotOfGen c d.hwGen).getD (s.hwActive c)
  if d.farKind ≠ 3 ∨ 2 ≤ d.dir ∨ d.valid res16 = false ∨ d.farArg / 2 ^ 32 ≠ 0 ∨ (if ep = 4 then unit ≠ 0 else 3 < unit) then some cMalformed
  else if slots && ep != 4 && decide (192 ≤ countIf (fun (h : HwStream) => h.port == port) s.hws) then some cMalformed
  else
    let pt := s.reg (aPt c 0)
    match s.hwRange? c x (d.dir == 1) d.hwLayer d.hwIndex with
    | none => some cShardRange
    | some r =>
      if (if ep = 4 then r.kind ≠ 1 ∨ bitOf pt 2 = false
          else r.kind ≠ 0 ∨ r.mask.testBit port = false ∨ s.regB (aPt c 1) port = false) then some cShardRange
      else if s.genVerdict c d.hwLayer d.hwGen = .stale then some cWeightGenStale
      else match s.slotOfGen c d.hwGen with
        | some x => if s.keyOk c x then none else some cWeightAuthFail
        | none => some cWeightAuthFail

/-- A refusal with WEIGHT_GEN_STALE is counted (R252). -/
def State.hwStale (s : State) (c code : Nat) : State := if code = cWeightGenStale then s.incSat (aHwc c 0x30) else s

/-! ### Frames (R217, R218, R230) -/

/-- Frames of the object that the tile at a byte offset of the range uses. -/
def tileFrames (r : HwRange) (d : Desc) (off : Nat) : List Nat :=
  let a := (r.offset + off) / 8192
  let b := (r.offset + off + d.tileLen - 1) / 8192
  (List.range (b + 1 - a)).map (· + a)

/-- Is the tile's offset within the range (R226, R230)? -/
def tileInRange (r : HwRange) (d : Desc) (off : Int) : Bool := decide (0 ≤ off) && decide (off + d.tileLen ≤ r.length)

/-- Tiles needed so far: those below the credit limit plus PREFETCH (R230), of the arm in force. -/
def HwStream.needTiles (h : HwStream) : List Nat :=
  let top := h.credit + h.desc.prefetch
  let top := if h.desc.count = 0 then top else min top (h.first + h.desc.count)
  (List.range (min 64 (top - h.done))).map (· + h.done)

/-- Frames needed so far, in tile order; a tile outside the range ends the list. -/
def HwStream.needFrames (h : HwStream) (r : HwRange) : List Nat → List Nat
  | [] => []
  | t :: rest =>
    let off := h.desc.far (t - h.first)
    if tileInRange r h.desc off then tileFrames r h.desc off.toNat ++ h.needFrames r rest else []

/-- Does an arithmetic progression base + k * step, k from k0 to before k1 (endless where none), meet [lo, hi]? -/
def meets (base step lo hi : Int) (k0 : Nat) (k1 : Option Nat) : Bool :=
  if step = 0 then decide (lo ≤ base) && decide (base ≤ hi) && (k1.isNone || (k1.map (fun k => decide (k0 < k))).getD false)
  else
    let first : Int := if 0 < step then -((base - lo) / step) else -((hi - base) / (-step))
    let first : Int := if 0 < step then (if base + first * step < lo then first + 1 else first)
      else (if base + first * step > hi then first + 1 else first)
    let k : Nat := max k0 first.toNat
    let v : Int := base + (k : Int) * step
    decide (lo ≤ v) && decide (v ≤ hi) && (k1.isNone || (k1.map (fun e => decide (k < e))).getD false)

/-- Does a tile of the arm at or above index m use frame f (R230)? -/
def laterUse (r : HwRange) (d : Desc) (m f : Nat) : Bool :=
  let base0 : Int := ((r.offset + d.farBase / 2 ^ 32 : Nat) : Int)
  let lo : Int := (8192 * f : Nat) - (d.tileLen : Int) + 1
  let hi : Int := (8192 * f + 8191 : Nat)
  let stop := if d.count = 0 then none else some d.count
  if d.inner = 0 then meets base0 d.farStride lo hi m stop
  else (List.range d.inner).any (fun j =>
    let k0 := if j < m % d.inner then m / d.inner + 1 else m / d.inner
    let k1 := stop.map (fun e => if j < e % d.inner then e / d.inner + 1 else e / d.inner)
    meets (base0 + (j : Int) * d.farStride) d.farStride2 lo hi k0 k1)

/-- The bytes of a tile from the held frames. -/
def HwStream.tileBytes (h : HwStream) (r : HwRange) (off : Nat) : List Byte :=
  let a := r.offset + off
  let all := (tileFrames r h.desc off).flatMap (fun f => padTo 8192 (look [] h.frames f))
  (all.drop (a % 8192)).take h.desc.tileLen

/-- The WEIGHT_SWAP of a context. -/
def State.swapOp (s : State) (c : Nat) : Option LongOp := (s.eng c).ops.find? (fun o => o.opcode == 0x24)

/-- Does the rebinding of a context wait for T_OPEN: that of layer 0 under MODE LOCK (R243)? -/
def State.opensAt (s : State) (c : Nat) : Bool := s.hwFront c == 0 && !s.regB (aHwc c 4) 7

/-- May the front layer of a context's swap be rebound now (R243, R247, R390)? -/
def State.rebindDue (s : State) (c : Nat) : Bool :=
  (s.hwSwap c == 1 || s.hwSwap c == 2) && s.rstate c == 0
    && (match s.swapOp c with
        | some o => o.state != 1 && o.state != 2
        | none => true)
    && !s.hws.any (fun h => h.ctx == c && h.claim == some (s.hwFront c, s.genOf c (s.hwActive c)))
    && (s.hwFront c != 0 || (if s.regB (aHwc c 4) 7 then s.frontGo.contains c else decide (s.reg64 (aHwc c 0x20) ≤ grain s.clk.now)))

/-- A re-arm is taken up (R232, R242): the claim moves in one step, or the re-arm is held, or it is refused with an unprompted
HW_CONFIRM. -/
def State.hwTakeUp (s : State) (h : HwStream) (d : Desc) : State :=
  match s.hwRefusal (portEndpoint h.port) h.ctx d 0 false with
  | some code => ((s.hwStale h.ctx code).setHw { h with rearm := none, heldRearm := false, claim := none }).hwFault
      { h with rearm := none, heldRearm := false, claim := none } code false
  | none =>
    if s.genVerdict h.ctx d.hwLayer d.hwGen = .held then s.setHw { h with heldRearm := true, claim := none }
    else s.setHw { h with rearm := none, heldRearm := false, claim := some (d.hwLayer, d.hwGen), desc := d, first := h.done }

/-- The SPUSH of a tile (R227): ferry count 0. -/
def State.hwPush (s : State) (h : HwStream) (bytes : List Byte) : Packet :=
  { Packet.blank with
    srcEdge := true, scol := portEndpoint h.port, dcol := h.col, drow := h.row, kind := 0x15, len := bytes.length, payload := bytes,
    tag := streamTag h.q h.done, ctx := h.ctx, epoch := s.rillEpoch h.ctx, arg := 256 * (h.arm % 256) }

/-- Tiles are pushed while they are wholly held and below the credit limit (R230); re-arms are taken up as arms end, after a
rebinding that is due (R244). -/
def State.hwPump (s : State) (port slot : Nat) : Nat → State
  | 0 => s
  | f + 1 =>
    match s.hw? port slot with
    | none => s
    | some h =>
      if h.failed ∨ h.held ∨ h.heldRearm then s
      else if h.armOver then
        (match h.rearm with
         | none => s.setHw { h with claim := none }
         | some d => if s.rebindDue h.ctx then s else (s.hwTakeUp h d).hwPump port slot f)
      else if h.desc.dir ≠ 0 ∨ h.credit ≤ h.done then s
      else match s.descRange h.ctx h.desc with
        | none => s.hwFault h cShardRange false
        | some r =>
          let off := h.desc.far (h.done - h.first)
          if tileInRange r h.desc off = false then s.hwFault h cShardRange false
          else
            let fs := tileFrames r h.desc off.toNat
            if fs.all (fun x => (look? h.frames x).isSome) then
              let s := s.inject (s.hwPush h (h.tileBytes r off.toNat))
              let h := { h with done := h.done + 1 }
              let keep (x : Nat) : Bool := !fs.contains x || (!h.armOver && laterUse r h.desc (h.done - h.first) x)
              (s.setHw { h with frames := h.frames.filter (fun e => keep e.1) }).hwPump port slot f
            else s

/-- After a change of one stream: pushes, then the counts of its context and the ports. -/
def State.hwAfter (s : State) (port slot : Nat) : State :=
  match s.hw? port slot with
  | none => s.hwSync
  | some h => ((s.hwPump port slot (h.credit - h.done + 4)).hwcSync h.ctx).hwSync

/-! ### Asking for frames (R215, R216, R233, R235) -/

/-- Runs of consecutive numbers of a rising list: (first, count), each at most `cap` long. -/
def runsOf (cap : Nat) : List Nat → List (Nat × Nat)
  | [] => []
  | x :: t =>
    match runsOf cap t with
    | (y, n) :: rest => if y = x + 1 ∧ n < cap then (x, n + 1) :: rest else (x, 1) :: (y, n) :: rest
    | [] => [(x, 1)]

/-- A datagram about an object of a stream. -/
def State.hwAsk (s : State) (h : HwStream) (r : HwRange) (type idx : Nat) (payload : List Byte) : Dgram :=
  { vlan := none, peer := r.ip, peerUdp := r.udp, ownUdp := 0, sum := 0, ver := 0x31, type, flags := 0, session := s.session h.port h.ctx, req := h.slot, len := payload.length, gen := h.desc.hwGen,
    object := r.object, index := idx, payload }

/-- A read of host memory in pieces of at most 4,096 B (R241). -/
def hostPieces (a n : Nat) : List (Nat × Nat) := (List.range ((n + 4095) / 4096)).map (fun i => (a + 4096 * i, min 4096 (n - 4096 * i)))

/-- Frames asked for: FETCH (type 1) or RESEND (type 4) on the port, memory reads at the host chiplet (R241). -/
def State.hwRequest (s : State) (h : HwStream) (r : HwRange) (type : Nat) (frames : List Nat) : State :=
  if h.port = 32 then frames.foldl (fun s f =>
      (hostPieces (r.object + 8256 * f) 8256).foldl (fun s e => s.emit (.hostRead e.1 e.2)) s) s
  else
    (runsOf (if type = 1 then 8 else 2 ^ 32) frames).foldl (fun s e =>
      let pay := if type = 1 then beBytes 4 e.2 ++ beBytes 2 (s.hwRank h.ctx) ++ beBytes 2 0 else beBytes 4 e.2
      let s := s.hwSendDgram h.port (s.hwAsk h r type e.1 pay)
      if type = 4 then s.incSat (aPort h.port 0x134) else s) s

/-- RESEND for each run of an open FETCH's missing frames; after RETRY_MAX attempts without progress the queue faults (R233). -/
def State.hwRetry (s : State) (h : HwStream) (e : Fetch) : State :=
  match s.descRange h.ctx h.desc with
  | none => s.hwFault h cShardRange true
  | some r =>
    if s.retryMax h.port ≤ e.attempts then s.hwFault h cDeadline true
    else (s.setHw (h.modFetch (fun e => { e with attempts := e.attempts + 1, last := s.clk.now }) e)).hwRequest h r 4 e.left

/-- A frame arrives for a stream (R230, R234): `aad` is header bytes 12 to 31. -/
def State.hwFrame (s : State) (h : HwStream) (idx : Nat) (aad body : List Byte) : State :=
  if !h.want.contains idx || (look? h.frames idx).isSome then s
  else
    let count (s : State) (off : Nat) : State := if h.port = 32 then s else s.incSat (aPort h.port off)
    match s.descRange h.ctx h.desc, s.slotOfGen h.ctx h.desc.hwGen with
    | some r, some x =>
      let nonce := beBytes 4 (r.nonce % 2 ^ 31) ++ beBytes 8 idx
      (match gcmOpen (look [] s.hwKeys (2 * h.ctx + x)) nonce aad body with
      | some pt =>
        let s := if h.port = 32 then s else s.add64 (aPort h.port 0x128) 1
        (s.setHw { h.got idx s.clk.now with frames := put h.frames idx pt, bad := rem h.bad idx }).hwAfter h.port h.slot
      | none =>
        let s := count s 0x130
        if h.bad.contains idx then s.hwFault h cWeightAuthFail true
        else (s.setHw { h with bad := ins h.bad idx, fetches := updFirst (fun e => e.left.contains idx) (fun e => { e with last := s.clk.now }) h.fetches }).hwRequest h r 4 [idx])
    | _, _ => s

/-! ### Gradient frames (R236-R241) -/

/-- Bytes of a frame written from 0 without a gap. -/
def coveredTo (l : List (Nat × Nat)) (upto : Nat) : Nat → Nat
  | 0 => upto
  | f + 1 =>
    match l.find? (fun e => decide (e.1 ≤ upto) && decide (upto < e.1 + e.2)) with
    | some e => coveredTo l (e.1 + e.2) f
    | none => upto

/-- Is every byte of the frame written? -/
def Grad.full (g : Grad) : Bool := decide (g.len ≤ coveredTo g.cover 0 (g.cover.length + 1))

/-- The 16 B prefix (R216). -/
def Grad.pre (g : Grad) : List Byte := beBytes 8 g.step ++ beBytes 4 g.seq ++ beBytes 2 g.layer ++ beBytes 2 g.rank
/-- Header bytes 12 to 31 of a frame. -/
def Grad.hdr (g : Grad) : List Byte := beBytes 4 g.gen ++ beBytes 8 g.object ++ beBytes 8 g.index
/-- Nonce of a GRAD frame (R218). -/
def Grad.nonce (g : Grad) : List Byte := beBytes 4 (2 ^ 31 + g.step % 2 ^ 31) ++ beBytes 4 0 ++ beBytes 4 g.seq
/-- The frame sealed under the key that is held now. -/
def State.gradSealed (s : State) (g : Grad) : List Byte :=
  let key := match s.slotOfGen g.ctx g.gen with
    | some x => look [] s.hwKeys (2 * g.ctx + x)
    | none => []
  gcmSeal key g.nonce (g.hdr ++ g.pre) g.bytes

/-- Same frame: what GRAD_ACK names, with its context. -/
def sameGrad (a b : Grad) : Bool := a.ctx == b.ctx && a.step == b.step && a.seq == b.seq && a.rank == b.rank
/-- A frame set. -/
def State.setGrad (s : State) (g : Grad) : State := { s with grads := s.grads.map (fun x => if sameGrad x g then g else x) }

/-- The port that a frame or stream moves to: the next of the chiplet that is ON and that the server allows (R235). -/
def State.nextPort (s : State) (p mask : Nat) : Option Nat :=
  [1, 2, 3].findSome? (fun i =>
    let q := p / 4 * 4 + (p % 4 + i) % 4
    if s.isOn clsPort q && mask.testBit q then some q else none)

/-- A frame is sealed and sent, or sent again as it was sealed, as GRAD on its port (R236, R237); at the host chiplet its writes begin (R241). -/
def State.gradSend (s : State) (g : Grad) : State :=
  let port := if g.port = 32 || s.isOn clsPort g.port then g.port else (s.nextPort g.port g.server).getD g.port
  let g := { g with sent := true, port, last := s.clk.now, body := if g.sent then g.body else s.gradSealed g, session := if port = 32 then 0 else s.session port g.ctx }
  let s := s.setGrad g
  if port = 32 ∨ s.isOn clsPort port = false then s
  else
    let pay := g.pre ++ g.body
    s.hwSendDgram port
      { vlan := none, peer := g.ip, peerUdp := g.udp, ownUdp := 0, sum := 0, ver := 0x31, type := 5, flags := 0, session := g.session, req := g.req, len := pay.length, gen := g.gen, object := g.object,
        index := g.index, payload := pay }

/-- Bytes written over part of a list. -/
def overlay (l : List Byte) (off : Nat) (b : List Byte) : List Byte := l.take off ++ b ++ l.drop (off + b.length)

/-- Bytes of a tile into one gradient frame (R236): a frame that has been sent takes no more bytes. -/
def State.gradWrite (s : State) (g0 : Grad) (lo : Nat) (b : List Byte) : State :=
  let s := if s.grads.any (sameGrad g0) then s else { s with grads := s.grads ++ [g0] }
  match s.grads.find? (sameGrad g0) with
  | none => s
  | some g =>
    if g.sent then s
    else
      let g := { g with bytes := overlay g.bytes lo b, cover := g.cover ++ [(lo, b.length)] }
      let s := s.setGrad g
      if g.full then s.gradSend g else s

/-- Pieces of a tile by frame of the object: (frame, offset in the frame, bytes). -/
def gradPieces : Nat → Nat → List Byte → List (Nat × Nat × List Byte)
  | 0, _, _ => []
  | f + 1, a, b =>
    if b.isEmpty then []
    else
      let n := min b.length (8192 - a % 8192)
      (a / 8192, a % 8192, b.take n) :: gradPieces f (a + n) (b.drop n)

/-- A tile into the send buffer (R236): a frame ends at the object's end (R217). `off` is the tile's byte offset in the range. -/
def State.gradTile (s : State) (h : HwStream) (r : HwRange) (layer step off : Nat) (b : List Byte) : State :=
  (gradPieces 3 (r.offset + off) b).foldl (fun s e =>
    let i := e.1 - r.offset / 8192
    let len := min 8192 (r.objLen - 8192 * e.1)
    s.gradWrite
      { ctx := h.ctx, step, seq := r.seq + i, layer, rank := s.hwRank h.ctx, port := h.port, req := h.slot, object := r.object, index := e.1,
        gen := h.desc.hwGen, server := r.mask, ip := r.ip, udp := r.udp, len, body := [], bytes := List.replicate len 0, cover := [], sent := false, attempts := 0, last := 0,
        session := 0 } e.2.1 e.2.2) s

/-- Bytes of the send buffer of an endpoint in use. -/
def State.sendBuffer (s : State) (ep : Nat) : Nat :=
  sumL ((s.grads.filter (fun g => portEndpoint g.port == ep)).map (fun g => g.len))

/-! ### A port leaves ON (R235) -/

/-- One stream moves to another port, which takes its slot number where it is free there (log 33), and every frame not received is asked
for again. -/
def State.hwMove (s : State) (h : HwStream) : State :=
  match s.descRange h.ctx h.desc with
  | none => s
  | some r =>
    match s.nextPort h.port r.mask with
    | none => s
    | some q =>
      let slot := if (s.hw? q h.slot).isSome then s.freeSlot q else h.slot
      if 192 ≤ slot then s
      else
        let h' := { h with port := q, slot, fetches := h.fetches.map (fun (e : Fetch) => { e with last := s.clk.now }) }
        let s := { s with hws := s.hws.map (fun (x : HwStream) => if x.port = h.port ∧ x.slot = h.slot then h' else x) }
        h'.fetches.foldl (fun s e => s.hwRequest h' r 1 e.left) s

/-- A port has left ON at an instant (R215, R235); what waited at it for the end of a pause is not sent. -/
def State.portLeave (s : State) (p : Nat) : State :=
  let s := (s.setB (aPort p 0x104) 0 false).setB (aPort p 0x104) 2 false
  let s := { s with portLeft := put s.portLeft p s.clk.now, hwWait := s.hwWait.filter (fun e => e.1 != p) }
  ((s.hws.filter (fun h => h.port == p)).foldl (fun s h => s.hwMove h) s).hwSync

/-- The stop of a port takes the link down with the moves of R235, and is done at once. -/
def State.portAtStop (s : State) (p : Nat) : State := (s.portLeave p).stopDone clsPort p id

/-! ### Swaps (R242-R248) -/

/-- Held opens and re-arms of a layer are confirmed, in order of arrival (R243). -/
def State.confirmHeld (s : State) (c k : Nat) : State :=
  (s.hws.filter (fun h => h.ctx == c)).foldl (fun s h =>
    if h.held ∧ h.desc.hwLayer = k then
      ((s.setHw { h with held := false, claim := some (k, h.desc.hwGen) }).hwConfirm h 0).hwAfter h.port h.slot
    else if h.heldRearm ∧ (h.rearm.map Desc.hwLayer) = some k then
      match h.rearm with
      | some d => (s.hwTakeUp h d).hwAfter h.port h.slot
      | none => s
    else s) s

/-- The swap ends (R247): ACTIVE names the new slot, and the old slot is unbound. -/
def State.swapComplete (s : State) (c : Nat) : State :=
  let old := s.hwActive c
  let s := (s.setB (aHwc c 4) 4 (old == 0)).unbind c old
  let s := (s.setF (aHwc c 4) 5 2 0).setB (aHwc c 4) 7 false
  let s := { s with frontGo := rem s.frontGo c }
  match s.swapOp c with
  | some o => s.endLong c o.handle 0 (leBytes 2 (s.hwFront c) ++ leBytes 2 0 ++ leBytes 4 (s.regN (aHwc c 0x30)))
  | none => s

/-- Re-arms of a context that waited for a rebinding are taken up (R244). -/
def State.hwRest (s : State) (c : Nat) : State :=
  (s.hws.filter (fun h => h.ctx == c && h.armOver && h.rearm.isSome)).foldl (fun s h => s.hwAfter h.port h.slot) s

/-- The front layer is rebound (R243): held opens of it are confirmed, progress is reported, and after the last layer the swap is complete. Re-arms
that waited for it follow (R244). -/
def State.rebind (s : State) (c : Nat) : State :=
  let k := s.hwFront c
  let s := (s.setF (aHwc c 4) 8 16 (k + 1)).setF (aHwc c 4) 5 2 2
  let s := (s.confirmHeld c k).hwcSync c
  let s := match s.swapOp c with
    | some o => (s.modLong c o.handle (fun o => { o with progress := k + 1, started := true })).progressLong c o.handle 0
    | none => s
  ((if s.hwLayers c (1 - s.hwActive c) ≤ k + 1 then s.swapComplete c else s).hwRest c).hwcSync c

/-- Every rebinding that is due is made, before the opens of the same grain (R244). -/
def State.rebindAll (s : State) (c : Nat) : Nat → State
  | 0 => s
  | f + 1 => if s.rebindDue c then (s.rebind c).rebindAll c f else s

/-- CANCEL before layer 0 is rebound (R248): held opens are refused, every layer stays bound to old. -/
def State.swapCancel (s : State) (c : Nat) : State :=
  let s := (s.setF (aHwc c 4) 5 2 0).setB (aHwc c 4) 7 false
  let s := { s with frontGo := rem s.frontGo c }
  let s := (s.hws.filter (fun h => h.ctx == c && h.held)).foldl (fun s h =>
    let s := (s.hwStale c cWeightGenStale).hwConfirm h cWeightGenStale
    { s with hws := s.hws.filter (fun (x : HwStream) => !(x.port == h.port && x.slot == h.slot)) }) s
  let s := (s.hws.filter (fun h => h.ctx == c && h.heldRearm)).foldl (fun s h =>
    match h.rearm with
    | some d => s.hwTakeUp h d
    | none => s) s
  ((s.hwRest c).hwcSync c).hwSync

end Sys2Proof.Machine
end

