-- ==== Sys2Proof/Machine/StreamInstr.lean ====
section
/-! DEFINITION. Stream instructions (02 R41, 05 R143, R144, R152-R154, R157-R160): SARM, SREARM, SSTOP, RACQ and RREL. -/

namespace Sys2Proof.Machine

/-- The fault of a descriptor address (R28, R42). -/
def State.descFault (s : State) (k : Nat) (a : W64) : Option Nat :=
  if 0xC000 < a.toNat + 64 then some fAddr
  else if a.toNat % 64 ≠ 0 then some fAlign
  else if s.storePois k a.toNat 64 then some fPoison else none

/-- Does a ring overlap the receive ring or the ring of another queue that is not OFF (R143)? -/
def Rill.ringClash (r : Rill) (q : Nat) (d : Desc) : Bool :=
  let n := d.ringSlots * d.stride
  overlaps d.nearAddr n r.rxBase r.rxLen || (r.ringsOf (some q)).any (fun g => overlaps d.nearAddr n g.1 g.2)

/-- The code of SARM (R143), by the first cause that holds. -/
def Rill.sarmCode (r : Rill) (q : Nat) (d : Desc) (res16 : Nat) : Nat :=
  let x := r.queue q
  if d.trickle then
    (if !d.valid res16 then 1 else if 64 ≤ r.reserved none + r.trickles.length then 3 else 0)
  else if x.st = stStarting ∨ x.st = stOn ∨ x.st = stFaulted ∨ (x.st = stStopping ∧ x.pendOn) then 4
  else if !d.valid res16 then 1
  else if r.ringClash q d then 2
  else if 64 < r.reserved (some q) + d.outstanding then 3
  else 0

/-- SARM: accepted, latched behind a stop, a trickle transfer, or refused with a code (R143, R144, R158). -/
def execSarm (a : SlotId) (s : State) : Host.Outcome State Fault Refusal :=
  execIssue 0x70 a s (fun i s =>
    match s.descFault i.k i.v1 with
    | some f => s.faultAt i f
    | none =>
      let raw := s.storeRead i.k i.v1.toNat 64
      let d := parseDesc raw
      let q := queueOf i.w
      let r := s.rill i.k
      let code := r.sarmCode q d (at' raw 0x16 2)
      let s := s.retire i (fun x => x.setG (gdOf i.w) (BitVec.ofNat 64 code))
      if code ≠ 0 then s
      else if d.trickle then s.trickleStart i.k i.n d
      else
      let s := s.modQueue i.k q (fun x => { x with armNo := x.armNo + 1 })
      if (r.queue q).st = stStopping then
        (s.modQueue i.k q (fun x => { x with pendOn := true, latched := some (d, i.n) })).writeStat i.k q
      else s.queueBegin i.k q d i.n)

/-- The fields that SREARM takes from its descriptor; every other field stays the queue's (R157). -/
def Desc.rearm (old new : Desc) : Desc :=
  { old with farBase := new.farBase, farStride := new.farStride, farStride2 := new.farStride2, inner := new.inner,
             count := new.count, farArg := new.farArg }

/-- The code of SREARM (R143). -/
def Queue.srearmCode (x : Queue) (d : Desc) : Nat :=
  if x.st = stOff ∨ x.st = stStopping then 5
  else if x.st = stFaulted ∨ x.rearm.isSome then 4
  else if !(x.desc.rearm d).valid 0 then 1 else 0

/-- SREARM: the new arm is pending until the current one has issued COUNT tiles (R157); a FAR_KIND 3 or 4 queue tells its endpoint
(R228). -/
def execSrearm (a : SlotId) (s : State) : Host.Outcome State Fault Refusal :=
  execIssue 0x71 a s (fun i s =>
    match s.descFault i.k i.v1 with
    | some f => s.faultAt i f
    | none =>
      let raw := s.storeRead i.k i.v1.toNat 64
      let d := parseDesc raw
      let q := queueOf i.w
      let x := (s.rill i.k).queue q
      let code := x.srearmCode d
      let s := s.retire i (fun y => y.setG (gdOf i.w) (BitVec.ofNat 64 code))
      if code ≠ 0 then s
      else
        let s := s.modQueue i.k q (fun x => { x with rearm := some (x.desc.rearm d, i.n) })
        if 3 ≤ x.desc.farKind then
          let (xid, s) := s.fresh
          let p := { s.slotPacket i.k i.n with
            kind := if x.desc.farKind = 3 then 0x23 else 0x33, arg := x.armNo % 256, tag := streamTag q 0, len := 64, payload := raw,
            xid }
          s.queueSendOr i.k q (p.toUnit (if x.desc.dir = 0 then x.desc.up else x.desc.down))
        else s)

/-- Slots that wait in RACQ on a queue receive a value (R152). -/
def State.wakeRacq (s : State) (k q : Nat) (v : W64) : State :=
  (List.range 16).foldl (fun s n =>
    match ((s.rill k).slot n).wait with
    | .racq q' gd => if q' = q ∧ ((s.rill k).slot n).st = .waiting then s.wakeWith k n (fun x => x.setG gd v) else s
    | _ => s) s

/-- SSTOP (R144, R249); slots that wait in RACQ on the queue receive CMD_CANCELLED (R152). -/
def execSstop (a : SlotId) (s : State) : Host.Outcome State Fault Refusal :=
  execIssue 0x72 a s (fun i s =>
    let q := queueOf i.w
    let x := (s.rill i.k).queue q
    let s := s.retire i id
    (if x.st = stOff then s else s.wakeRacq i.k q (racqError cCancelled)).stopQueue i.k q)

/-- RACQ: the ring slot, a code, or a wait (R152, R153). -/
def execRacq (a : SlotId) (s : State) : Host.Outcome State Fault Refusal :=
  execIssue 0x73 a s (fun i s =>
    let q := queueOf i.w
    match ((s.rill i.k).queue q).racq i.n with
    | some (v, x) => (s.modRill i.k (fun r => r.setQueue q x)).retire i (fun y => y.setG (gdOf i.w) v)
    | none => s.waitOn i (.racq q (gdOf i.w)))

/-- RREL (R154): no effect without an acquired slot, and none on a FILL or DRAIN queue (R152). -/
def execRrel (a : SlotId) (s : State) : Host.Outcome State Fault Refusal :=
  execIssue 0x74 a s (fun i s => (s.modQueue i.k (queueOf i.w) Queue.rrel).retire i id)

end Sys2Proof.Machine
end

