-- ==== Sys2Proof/Machine/HwCmds.lean ====
section
/-! DEFINITION. The commands of the Headwater endpoints and ports (07): HW_OPEN, HW_CLOSE, HW_REARM, HW_SEND, FETCH_ISSUE, DATA, END, GRAD_ACK,
FETCH_RETRY_TIMEOUT, GRAD_RETRY_TIMEOUT, NEIGHBOUR_DISCOVERY, ECHO_REQUEST, PFC_PAUSE, HEADWATER_LINK_DOWN, HEADWATER_PORT_UP,
HOST_FETCH_READ_DONE, HOST_GRAD_WRITE_DONE and LAYER_REBIND. -/

namespace Sys2Proof.Machine

/-- HW_OPEN (R228, R229, R242): rebindings that are due come before it (R244). -/
def execHwOpen (i : Nat) (s : State) : Host.Outcome State Fault Refusal :=
  s.packetRow i 0x20 false (fun p s =>
    let s := s.rebindAll p.ctx 65536
    let d := parseDesc p.payload
    match s.hwRefusal p.dcol p.ctx d (at' p.payload 0x16 2) true with
    | some code => (s.hwStale p.ctx code).inject (p.answer 0x21 0 code [] false)
    | none =>
      let port := if p.dcol = 4 then 32 else 4 * hwChiplet p.dcol + nfld (if d.dir = 0 then d.up else d.down) 28 3
      let slot := s.freeSlot port
      let held := s.genVerdict p.ctx d.hwLayer d.hwGen == .held
      let h : HwStream :=
        { port, slot, col := p.scol, row := p.srow, q := p.tag % 8, ctx := p.ctx, arm := p.arg % 256, desc := d, first := 0, rearm := none,
          openP := p, held, heldRearm := false, claim := if held then none else some (d.hwLayer, d.hwGen), credit := 0, done := 0,
          frames := [], fetches := [], bad := [], failed := false }
      let s := { s with hws := s.hws ++ [h] }
      (if held then s else s.hwConfirm h 0).hwAfter port slot)

/-- HW_CLOSE (R232, R249): the claim ends; a held open is answered CMD_CANCELLED; the server is told to stop sending. -/
def execHwClose (i : Nat) (s : State) : Host.Outcome State Fault Refusal :=
  s.packetRow i 0x22 false (fun p s =>
    match s.hwOf p with
    | none => s.inject (p.ack 0)
    | some h =>
      let s := if h.held then s.hwConfirm h cCancelled else s
      let s := match h.want, s.descRange h.ctx h.desc with
        | f :: _, some r => if h.port = 32 then s else s.hwSendDgram h.port (s.hwAsk h r 7 f [])
        | _, _ => s
      let s := { s with hws := s.hws.filter (fun (x : HwStream) => !(x.port == h.port && x.slot == h.slot)) }
      ((s.inject (p.ack 0)).hwcSync h.ctx).hwSync)

/-- HW_REARM (R228, R232): taken up when the arm in force has ended; rebindings that are due come before it (R242, R244). -/
def execHwRearm (i : Nat) (s : State) : Host.Outcome State Fault Refusal :=
  s.packetRow i 0x23 false (fun p s =>
    let s := s.rebindAll p.ctx 65536
    match s.hwOf p with
    | none => s
    | some h => (s.setHw { h with rearm := some (h.desc.rearm (parseDesc p.payload)) }).hwAfter h.port h.slot)

/-- HW_SEND (R226, R236): a tile that passes the checks of R47 waits in the network until the 16 MiB send buffer has room for it. -/
def execHwSend (i : Nat) (s : State) : Host.Outcome State Fault Refusal :=
  whenSome (s.arrives? i 0x24 false) s (fun p s =>
    if !p.abort && (s.unitCheck p).isNone && decide (16 * 2 ^ 20 < s.sendBuffer p.dcol + 2 * 8192) then s
    else s.takes i p (fun s =>
      match s.hwOf p with
      | none => s.inject (p.ack cMalformed)
      | some h =>
        let layer := p.addr % 65536
        let off := p.addr / 2 ^ 32
        let range := (s.slotOfGen h.ctx h.desc.hwGen).bind (fun x => s.hwRange? h.ctx x true layer (p.addr / 65536 % 65536))
        if p.poison then s.inject (p.ack cRegionLost)
        else match range with
          | none => s.inject (p.ack cShardRange)
          | some r =>
            if r.length < off + p.len then s.inject (p.ack cShardRange)
            else
              let s := s.gradTile h r layer p.arg off (p.payload.take p.len)
              ((s.inject (p.ack 0)).setHw { h with done := h.done + 1 }).hwAfter h.port h.slot))

/-- Can a port have a stream in a slot: 192 at a port, and any number at the host chiplet, port 32 (R229, R241)? -/
def streamAt (port slot : Nat) : Bool := port == 32 || (decide (port < 32) && decide (slot < 192))

/-- FETCH_ISSUE (R230, R231): the next run of frames needed. Where the window is full of frames that no tile needed so far uses, those
are freed first (log 34). -/
def execFetchIssue (port slot : Nat) (s : State) : Host.Outcome State Fault Refusal :=
  unitRow (streamAt port slot) s (
    match s.hw? port slot with
    | none => .next s
    | some h =>
      match s.descRange h.ctx h.desc with
      | none => .next s
      | some r =>
        let need := h.needFrames r h.needTiles
        let frames := if 32 ≤ h.frames.length + h.want.length then h.frames.filter (fun e => need.contains e.1) else h.frames
        let missing := need.filter (fun f => !h.want.contains f && (look? frames f).isNone)
        let used := sumL ((s.hws.filter (fun x => portEndpoint x.port == portEndpoint port)).map (fun x => x.frames.length + x.want.length))
        let room := min 8 (min (32 - (frames.length + h.want.length)) (6144 - used))
        match missing with
        | [] => .next s
        | f :: _ =>
          let run := (List.range room).takeWhile (fun j => missing.contains (f + j))
          let ask := run.map (· + f)
          whenB (!ask.isEmpty && !h.failed && !h.held && h.desc.dir == 0
              && (if port == 32 then s.ideOk h.ctx (r.object + 8256 * f) (8256 * ask.length) else s.isOn clsPort port)) s (fun s =>
            let h := { h with frames, fetches := h.fetches ++ [⟨f, ask.length, ask, s.clk.now, 0⟩] }
            (s.setHw h).hwRequest h r 1 ask))

/-- Is the datagram one of this type whose LEN agrees (R216)? -/
def dgramOk (d : Dgram) (type : Nat) : Bool := d.ver == 0x31 && d.type == type && d.len == d.payload.length

/-- The open request that SESSION and REQ name (R216): one whose frames are not all there. What follows its last DATA names none, an END of status 0
too (log 174). -/
def State.openReq (s : State) (port : Nat) (d : Dgram) : Option HwStream :=
  match s.hw? port d.req with
  | some h => if d.session = s.session port h.ctx ∧ h.want ≠ [] then some h else none
  | none => none

/-- Header bytes 12 to 31. -/
def dgramAad (d : Dgram) : List Byte := beBytes 4 d.gen ++ beBytes 8 d.object ++ beBytes 8 d.index

/-- A datagram of a type received on an ON port (R170, R216). -/
def execDgram (port type : Nat) (d : Dgram) (f : HwStream → State → State) (s : State) : Host.Outcome State Fault Refusal :=
  onUnit (decide (port < 32)) (s.isOn clsPort port) s (fun s =>
    let s := s.feedUnit (portEndpoint port) 1 (port % 4) 0 (dgramGauged d)
    if s.udpOk port d && dgramOk d type then
      match s.openReq port d with
      | some h => f h s
      | none => s.hwDiscard port
    else s.hwDiscard port)

/-- DATA (R230, R234). -/
def execData (port : Nat) (d : Dgram) (s : State) : Host.Outcome State Fault Refusal :=
  execDgram port 2 d (fun h s => s.hwFrame h d.index (dgramAad d) d.payload) s

/-- END (R233), for the FETCH that INDEX names (log 154): status 0 with frames missing asks again at once, 3 delays the next RESEND, 1 and 2 fault
the queue. A status above 3, which R216 does not have, is discarded and counted (log 174). -/
def execEndMsg (port : Nat) (d : Dgram) (s : State) : Host.Outcome State Fault Refusal :=
  execDgram port 3 d (fun h s =>
    let status := beNat (d.payload.take 4)
    if status = 1 ∨ status = 2 then s.hwFault h cShardRange true
    else if 3 < status then s.hwDiscard port
    else match h.fetchAt? d.index with
      | none => s
      | some e => if status = 0 then s.hwRetry h e else s.setHw (h.modFetch (fun e => { e with last := s.clk.now }) e)) s

/-- GRAD_ACK (R237): the frame with the same STEP, SEQ and RANK is released. -/
def execGradAck (port : Nat) (d : Dgram) (s : State) : Host.Outcome State Fault Refusal :=
  onUnit (decide (port < 32)) (s.isOn clsPort port) s (fun s =>
    let s := s.feedUnit (portEndpoint port) 1 (port % 4) 0 (dgramGauged d)
    let at? (a n : Nat) : Nat := beNat ((d.payload.drop a).take n)
    let m := s.grads.find? (fun g => g.sent && g.port == port && g.session == d.session && g.req == d.req
      && at? 0 8 == g.step && at? 8 4 == g.seq && at? 14 2 == g.rank)
    match if s.udpOk port d && dgramOk d 6 && d.payload.length == 16 then m else none with
    | some g => ({ s with grads := s.grads.filter (fun x => !sameGrad x g) }).add64 (aPort port 0x138) 1
    | none => s.hwDiscard port)

/-- FETCH_RETRY_TIMEOUT (R233): the first open FETCH of the stream whose time has passed. -/
def execFetchRetryTimeout (port slot now : Nat) (s : State) : Host.Outcome State Fault Refusal :=
  unitRow (streamAt port slot) s (
    match s.hw? port slot with
    | none => .next s
    | some h =>
      match h.fetches.find? (fun e => !inWindow (max now s.clk.now) e.last (s.retryNs port)) with
      | none => .next s
      | some e => whenB (!h.failed) s (fun s => (s.atTime now).hwRetry h e))

/-- GRAD_RETRY_TIMEOUT (R237): `n` counts the frames held. -/
def execGradRetryTimeout (n now : Nat) (s : State) : Host.Outcome State Fault Refusal :=
  match s.grads[n]? with
  | none => .next s
  | some g =>
    whenB (g.sent && g.port != 32 && !inWindow (max now s.clk.now) g.last (s.retryNs g.port)) s (fun s =>
      let s := s.atTime now
      let g := { g with attempts := g.attempts + 1 }
      let s := (s.setGrad g).incSat (aPort g.port 0x140)
      let s := if g.attempts = s.retryMax g.port then
          s.cairnLog 6 clsPort g.port cDeadline g.ctx [itPort g.port g.udp g.ip, itAddr g.object]
        else s
      s.gradSend g)

/-- Type of an ICMPv6 message: its first byte. -/
def icmpType (body : List Byte) : Nat := at' body 0 1

/-- NEIGHBOUR_DISCOVERY (R214): ICMPv6 types 133 to 137; another ICMPv6 packet is discarded and counted. -/
def execNeighbourDiscovery (port : Nat) (body : List Byte) (s : State) : Host.Outcome State Fault Refusal :=
  onUnit (decide (port < 32)) (s.isOn clsPort port) s (fun s =>
    if icmpType body < 133 ∨ 137 < icmpType body then s.hwDiscard port
    else if Config.ndSolicits port body then s.emit (.icmp port (s.portTag port) (Config.icmpAnswer port body)) else s)

/-- ECHO_REQUEST (R214): ICMPv6 type 128; another ICMPv6 packet is discarded and counted. -/
def execEchoRequest (port : Nat) (body : List Byte) (s : State) : Host.Outcome State Fault Refusal :=
  onUnit (decide (port < 32)) (s.isOn clsPort port) s (fun s =>
    if icmpType body = 128 then s.emit (.icmp port (s.portTag port) (Config.icmpAnswer port body)) else s.hwDiscard port)

/-- PFC_PAUSE: the link partner pauses or resumes the priority (R214, R251). -/
def execPfcPause (port prio : Nat) (pause : Bool) (s : State) : Host.Outcome State Fault Refusal :=
  onUnit (decide (port < 32)) (s.isOn clsPort port && s.regB (aPort port 0x100) 0 && s.regF (aPort port 0x100) 1 3 == prio) s (fun s =>
    let s := s.setB (aPort port 0x104) 2 pause
    if pause then s else s.hwResume port)

/-- HEADWATER_LINK_DOWN: the link of an ON port fails; the page is FAULTED (log 35) and its streams move (R235). -/
def execHeadwaterLinkDown (port now : Nat) (s : State) : Host.Outcome State Fault Refusal :=
  onUnit (decide (port < 32)) (s.isOn clsPort port) s (fun s =>
    ((s.atTime now).pageFault clsPort port id).portLeave port)

/-- HEADWATER_PORT_UP: training completes, no sooner than 50 ms after the port last left ON (R215, R250), and not before READY (R532). -/
def execHeadwaterPortUp (port now : Nat) (s : State) : Host.Outcome State Fault Refusal :=
  onUnit (decide (port < 32))
    (s.pst clsPort port == stStarting && s.regB (aPort port 0x104) 1 && s.stage == 4
      && (match look? s.portLeft port with
          | some t => !inWindow (max now s.clk.now) t 50000000
          | none => true)) s (fun s =>
      let s := (s.atTime now).setB (aPort port 0x104) 0 true
      let s := s.incWrap (rg clsPort port 0x024)
      s.startDone clsPort port (fun s => s.portAtStop port))

/-- HOST_FETCH_READ_DONE: a frame read from host memory is checked and processed as DATA (R241), when IDE lets the read go out (R509). `slot` names the stream. -/
def execHostFetchReadDone (slot frame : Nat) (s : State) : Host.Outcome State Fault Refusal :=
  unitRow (streamAt 32 slot) s (
    match s.hw? 32 slot with
    | none => .next s
    | some h =>
      match s.descRange h.ctx h.desc with
      | none => .next s
      | some r => whenB (h.want.contains frame && s.ideOk h.ctx (r.object + 8256 * frame) 8256) s (fun s =>
          let b := readBytes s.host (r.object + 8256 * frame) 8256
          let len := beNat ((b.drop 10).take 2)
          let ok := at' b 0 1 == 0x31 && at' b 1 1 == 2 && beNat ((b.drop 12).take 4) == h.desc.hwGen
            && beNat ((b.drop 16).take 8) == r.object && beNat ((b.drop 24).take 8) == frame
          if ok then s.hwFrame h frame ((b.drop 12).take 20) ((b.drop 32).take len)
          else match h.fetchAt? frame with
            | some e => s.hwRetry h e
            | none => s))

/-- HOST_GRAD_WRITE_DONE: the writes of gradient frame `n` have completed; the frame counts as acknowledged (R241); they wait for IDE (R509). -/
def execHostGradWriteDone (n : Nat) (s : State) : Host.Outcome State Fault Refusal :=
  match s.grads[n]? with
  | none => .next s
  | some g => whenB (g.sent && g.port == 32 && s.ideOk g.ctx (g.object + 8256 * g.index) 8256) s (fun s =>
      let body := g.body
      let hdr := beBytes 1 0x31 ++ beBytes 1 2 ++ beBytes 2 0 ++ beBytes 4 g.session ++ beBytes 2 g.req ++ beBytes 2 body.length ++ g.hdr
      { s with host := writeBytes s.host (g.object + 8256 * g.index) (padTo 8256 (hdr ++ body)),
               grads := s.grads.filter (fun x => !sameGrad x g) })

/-- Must the rebinding of a context wait for another event at T_OPEN's grain (R453), or for one of an earlier T_OPEN (R454)? -/
def State.opensLater (s : State) (c : Nat) : Bool :=
  s.opensAt c && (s.earlierDue (grain s.clk.now) 4
    || (List.range 17).any (fun d => s.rebindDue d && s.opensAt d && decide (s.reg64 (aHwc d 0x20) < s.reg64 (aHwc c 0x20))))

/-- LAYER_REBIND (R243, R244, R247, R390, R453). -/
def execLayerRebind (ctx now : Nat) (s : State) : Host.Outcome State Fault Refusal :=
  let t := (s.atTime now).utcApply
  unitRow (decide (ctx < 17)) s (whenB (t.rebindDue ctx && !t.opensLater ctx) s (fun _ => t.rebind ctx))

end Sys2Proof.Machine
end

