-- ==== Sys2Proof/Machine/Image.lean ====
section
/-! DEFINITION. Task images (02 R58-R60, 05 R148): what the loader accepts, how a rill is loaded, and the replay set (11 R384). -/

namespace Sys2Proof.Machine

/-! ### The header (R58, R59) -/

/-- COL_FIRST. -/
def imgC0 (b : List Byte) : Nat := at' b 0x10 2
/-- COL_LAST. -/
def imgC1 (b : List Byte) : Nat := at' b 0x12 2
/-- ROW_FIRST. -/
def imgR0 (b : List Byte) : Nat := at' b 0x14 2
/-- ROW_LAST. -/
def imgR1 (b : List Byte) : Nat := at' b 0x16 2

/-- The code, data, zero-filled and receive areas: address and bytes. -/
def imgAreas (b : List Byte) : List (Nat × Nat) :=
  [(at' b 0x20 4, at' b 0x1C 4), (at' b 0x2C 4, at' b 0x28 4), (at' b 0x30 4, at' b 0x34 4), (at' b 0x38 4, at' b 0x3C 4)]

/-- No two areas of a list overlap. -/
def areasApart : List (Nat × Nat) → Bool
  | [] => true
  | a :: t => t.all (fun b => !overlaps a.1 a.2 b.1 b.2) && areasApart t

/-- Is a rectangle within the logical grid? -/
def rectOk (c0 c1 r0 r1 : Nat) : Bool := decide (c0 ≤ c1) && decide (c1 < 1080) && decide (r0 ≤ r1) && decide (r1 < 840)

/-- An image that the loader accepts (R59). The multiples that R58 and R30 state, and the places of code and data within the image, are
checked with the fixed values (log 38). -/
def imageOk (b : List Byte) (len : Nat) : Bool :=
  decide (0x80 ≤ b.length) && at' b 0 4 == 0x4954335A && at' b 4 2 == 0x0100 && at' b 6 2 == 0 && at' b 8 4 == 0x80 && at' b 0xC 4 == len
    && b.length == len && at' b 0x4C 4 == 0 && at' b 0x58 8 == 0 && rectOk (imgC0 b) (imgC1 b) (imgR0 b) (imgR1 b)
    && isMul (at' b 0x1C 4) 8 && isMul (at' b 0x20 4) 8 && isMul (at' b 0x38 4) 64 && isMul (at' b 0x3C 4) 64
    && decide (at' b 0x18 4 + at' b 0x1C 4 ≤ len) && decide (at' b 0x24 4 + at' b 0x28 4 ≤ len)
    && areasApart (imgAreas b) && (imgAreas b).all (fun a => decide (a.1 + a.2 ≤ 0xC000))
    && (b.drop 0x60).take 32 == shake256 (b.take 0x60 ++ List.replicate 32 0 ++ b.drop 0x80)

/-! ### Loading a rill (R60, R148) -/

/-- Step 1 of R60: every slot is FREE, which drops what the slots had in flight and in the units, and releases their ring slots. -/
def State.freeSlots (s : State) (k : Nat) : State :=
  s.modRill k (fun r =>
    { r with slots := r.slots.map (fun (e : Nat × Slot) =>
               (e.1, { e.2 with st := .free, wait := .nothing, acks := [], loads := [], exiting := false })),
             tensorQ := [], vectorQ := [], queues := r.queues.map (fun (e : Nat × Queue) => (e.1, { e.2 with acqs := [] })) })

/-- A queue becomes OFF at once, and its transfers are abandoned (R148). -/
def State.abandonQueue (s : State) (k q : Nat) : State :=
  if ((s.rill k).queue q).st = stOff then s else (s.setQst k q stOff).modQueue k q (fun x => { Queue.init with armNo := x.armNo })

/-- A load begins at a rill: the slots stop, and every queue is stopped, or is OFF at once where the load changes EPOCH (R148). -/
def State.beginLoad (s : State) (c k : Nat) : State :=
  let s := s.freeSlots k
  if (s.rill k).epoch = s.rillEpoch c then (List.range 8).foldl (fun s q => s.stopQueue k q) s
  else ((List.range 8).foldl (fun s q => s.abandonQueue k q) s).modRill k (fun r => { r with trickles := [] })

/-- Has the rill no answer to wait for (R148)? -/
def State.loadReady (s : State) (c k : Nat) : Bool :=
  let r := s.rill k
  r.epoch != s.rillEpoch c || ((r.queues.all (fun e => e.2.st == stOff)) && r.trickles.isEmpty)

/-- A slot after a load: a started one is READY at ENTRY_PC, cut to the PC's form (log 13), with g1 its number (R60). -/
def loadedSlot (b : List Byte) (cyc n : Nat) : Slot :=
  if (at' b 0x40 2).testBit n then
    { Slot.init with pc := pcAt (BitVec.ofNat 64 (at' b 0x44 4)), g := [(1, BitVec.ofNat 64 n)], st := .ready, lastRetire := cyc }
  else Slot.init

/-- Owner of a tensor register after a load. -/
def loadedOwner (b : List Byte) (t : Nat) : Nat := if (at' b 0x42 2).testBit t then 31 else nfld (at' b 0x50 8) (4 * t) 4

/-- The rill store after a load: code, data, and 0 everywhere else; its poison bits clear. -/
def State.loadStore (s : State) (k : Nat) (b : List Byte) : State :=
  let base := sbase k
  let m := memClear s.store base (base + 0xC000)
  let m := writeBytes m (base + at' b 0x20 4) ((b.drop (at' b 0x18 4)).take (at' b 0x1C 4))
  let m := writeBytes m (base + at' b 0x2C 4) ((b.drop (at' b 0x24 4)).take (at' b 0x28 4))
  { s with store := m, storePoison := s.storePoison.filter (fun l => decide (l < base / 64) || decide (base / 64 + 768 ≤ l)) }

/-- The load of a rill (R60): it then belongs to the context, under its RILL_EPOCH, at step `step` (R381, R382). -/
def State.loadRill (s : State) (c k step : Nat) (b : List Byte) : State :=
  (s.loadStore k b).modRill k (fun r =>
    { r with slots := (List.range 16).map (fun n => (n, loadedSlot b s.clk.cycle n)), t := [], side := [],
             own := (List.range 16).map (fun t => (t, loadedOwner b t)), tensorQ := [], vectorQ := [],
             rxBase := at' b 0x38 4, rxLen := at' b 0x3C 4, rxWr := 0, rxRd := 0, rx := [],
             taskWd := BitVec.ofNat 64 (at' b 0x48 4), epoch := s.rillEpoch c, ctx := c, step := BitVec.ofNat 64 step,
             queues := r.queues.map (fun (e : Nat × Queue) => (e.1, { Queue.init with armNo := e.2.armNo })), trickles := [],
             lastIssue := s.clk.cycle, tready := [], roomAt := 0, wd := (s.clk.cycle, 0) })

/-- The present rills of an image's rectangle (R58). -/
def State.imgRills (s : State) (b : List Byte) : List Nat := s.presentIn (imgC0 b) (imgC1 b) (imgR0 b) (imgR1 b)

/-- Rills loaded by IMAGE_LOAD: faults before it count for nothing (log 141). -/
def State.loadImage (s : State) (c step : Nat) (ks : List Nat) (b : List Byte) : State :=
  ks.foldl (fun s k => (s.loadRill c k step b).modRill k (fun r => { r with residueMark := none, wdFaults := [] })) s

/-! ### The replay set (R384) -/

/-- An entry: address, first and last column, first and last row. -/
abbrev ImgEntry := Nat × Nat × Nat × Nat × Nat

/-- Does the first rectangle cover the whole second one? -/
def rectCovers (a b : ImgEntry) : Bool :=
  decide (a.2.1 ≤ b.2.1) && decide (b.2.2.1 ≤ a.2.2.1) && decide (a.2.2.2.1 ≤ b.2.2.2.1) && decide (b.2.2.2.2 ≤ a.2.2.2.2)

/-- The replay set with a new load at its end: covered entries go; none beyond 1,024 entries. -/
def replayAdd (l : List ImgEntry) (e : ImgEntry) : Option (List ImgEntry) :=
  let l := l.filter (fun x => !rectCovers e x)
  if l.length < 1024 then some (l ++ [e]) else none

/-- The replay set of a context, and REPLAY_SET. -/
def State.setImages (s : State) (c : Nat) (l : List ImgEntry) : State :=
  (s.setRcv c { s.rcv c with images := l }).setRegN (aRc c 0x2C) l.length

/-- The entry of an image at an address. -/
def imgEntry (va : Nat) (b : List Byte) : ImgEntry := (va, imgC0 b, imgC1 b, imgR0 b, imgR1 b)

end Sys2Proof.Machine
end

