-- ==== Sys2Proof/Machine/OpCheck.lean ====
section
/-! DEFINITION. What the op sequencer accepts (08 R255-R257, R266-R281, R316, R350, R385). -/

namespace Sys2Proof.Machine

/-! ### Fields that only the checks read -/

/-- FLAGS. -/
def Op.flags (o : Op) : Nat := at' o.desc 5 1
/-- DEP1. -/
def Op.dep1 (o : Op) : Nat := at' o.desc 8 1
/-- DEP2. -/
def Op.dep2 (o : Op) : Nat := at' o.desc 9 1
/-- DEP_STAGE. -/
def Op.depStage (o : Op) : Nat := at' o.desc 0xA 1
/-- Collectives that an operation code accepts (R256). -/
def acceptedColls (opc : Nat) : List Nat :=
  if opc = 1 then [0, 3, 6, 8] else if opc = 2 then [1] else if opc = 3 then [2] else if opc = 4 ∨ opc = 5 then [4, 5]
  else if opc = 6 then [0, 3] else if opc = 7 then [0, 7] else if opc = 8 then [0, 2, 3, 8] else []

/-- Members of the post's group; NONE has only this module (R258). -/
def State.postN (s : State) (o : Op) : Nat := if o.coll = 0 then 1 else s.groupN o.group
/-- This module's rank in the post's group. -/
def State.postRank (s : State) (o : Op) : Nat := s.memberRank o.group (s.groupSelf o.group)
/-- The input comes from each reach of REACH_MASK (R267). -/
def State.eachReach (s : State) (o : Op) : Bool :=
  o.coll == 0 || o.coll == 8 || o.reduces || (o.coll == 6 && o.root != s.postRank o)
/-- The input is one done tile from each reach (R267). -/
def State.doneInput (s : State) (o : Op) : Bool := o.coll == 0 || o.coll == 8 || (o.coll == 6 && o.root != s.postRank o)
/-- Bytes of the output at POST_DST (R267); for ALL_TO_ALLV its capacity. -/
def State.outBytes (s : State) (o : Op) : Nat :=
  if o.coll = 1 then o.bytes / max 1 (s.postN o) else if o.coll = 3 then s.postN o * o.bytes
  else if o.coll = 0 ∨ o.coll = 8 then 0 else o.bytes
/-- Slots of a reduction post (R346). -/
def Op.slotNeed (o : Op) : Nat := (o.reaches.length + 1) / 2 + 8

/-! ### The post (R266-R270, R350) -/

/-- POST_BYTES (R267). -/
def State.postBytesOk (s : State) (o : Op) : Bool :=
  if o.coll = 0 ∨ o.coll = 8 then o.bytes == 0
  else if o.coll = 1 ∨ o.coll = 4 then isMul o.bytes (64 * max 1 (s.postN o)) else isMul o.bytes 64

/-- DST_KIND 1 (R270). -/
def State.poolsOk (s : State) (o : Op) : Bool :=
  !o.toPools || (decide (o.dst < 65536) && decide (o.dst + o.chunk ≤ 0x10000)
    && decide ((s.outBytes o + o.chunk - 1) / o.chunk ≤ (o.c1 + 1 - o.c0) * (o.r1 + 1 - o.r0)))

/-- Staging of a reduction post (R350). -/
def State.stageOk (s : State) (c : Nat) (o : Op) : Bool :=
  let len := s.regF (aStage c) 8 6
  !o.reduces || (len != 0 && decide (o.slotNeed * 64 ≤ (s.region o).length * len))

/-- The post field and what goes with it. A ROOT that is no member of the group is refused (log 39). -/
def State.postOk (s : State) (c : Nat) (o : Op) : Bool :=
  decide (o.dtype ≤ 3) && (!o.reduces || decide (o.dtype ≤ 1)) && decide (nfld o.post 20 3 ≤ 4) && nfld o.post 24 8 == 0 && nfld o.post 46 18 == 0
    && decide (o.mask < 2 ^ 63)
    && (o.coll == 0 || s.groupOk c o.group)
    && (if o.coll = 6 then (s.memberOf o.group o.root).isSome else o.root == 0)
    && (!s.eachReach o || o.mask != 0)
    && (o.coll == 5 || o.countVa == 0)
    && s.postBytesOk o && s.poolsOk o && s.stageOk c o

/-! ### Operand blocks (R274-R281) -/

/-- A field of the operand block, by its offset in the descriptor. -/
def Op.f (o : Op) (off n : Nat) : Nat := at' o.desc off n

/-- GEMM, GEMM_RS, GEMM_AR, MOE_EXPERT (R274, R275). -/
def Op.gemmOk (o : Op) : Bool :=
  let fmt := o.f 0x4C 1
  let g := o.f 0x4E 1
  let split := o.f 0x4F 1
  let sparse := g.testBit 1
  let tk := tileK fmt * (if sparse then 2 else 1)
  let cfmt := o.f 0x4D 1
  decide (fmt ≤ 9) && decide (g < 16) && at' o.desc 0x6C 20 == 0 && isMul (o.f 0x40 4) 8 && isMul (o.f 0x44 4) 8 && isMul (o.f 0x48 4) tk
    && decide (1 ≤ split) && decide (split ≤ 63) && isMul (o.f 0x48 4) split && isMul (o.f 0x48 4 / max 1 split) tk
    && (decide (cfmt ≤ 1) || (cfmt == 9 && fmt == 9))
    && (!sparse || (decide (3 ≤ fmt) && decide (fmt ≤ 8)))
    && (!g.testBit 0 || o.coll == 0)
    && ((o.opc != 2 && o.opc != 3) || split == o.reaches.length)
    && (!g.testBit 2 || decide (o.f 0x58 8 < 65536))
    && (o.coll == 0 || o.f 0x60 8 == 0)
    && (if o.opc = 5 then decide (1 ≤ o.f 0x68 4) && decide (o.f 0x68 4 ≤ 4096) else o.f 0x68 4 == 0)

/-- MOE_DISPATCH and MOE_COMBINE (R277). -/
def State.moeOk (s : State) (o : Op) : Bool :=
  let experts := o.f 0x48 2
  let topk := o.f 0x4A 1
  decide (1 ≤ o.f 0x40 4) && decide (o.f 0x40 4 ≤ 1048576) && isMul (o.f 0x44 4) 64
    && decide (1 ≤ experts) && decide (experts ≤ 4096) && isMul experts (max 1 (s.postN o))
    && decide (1 ≤ topk) && decide (topk ≤ 8) && decide (topk ≤ experts) && [0, 1, 3].contains (o.f 0x4B 1)
    && o.f 0x62 6 == 0 && o.f 0x70 16 == 0
    && (o.opc != 4 || (o.f 0x68 8 == 0 && (o.f 0x4C 4 == 0) == (o.coll == 5)))

/-- VEC (R280). -/
def Op.vecOk (o : Op) : Bool :=
  let k := o.f 0x40 1
  decide (1 ≤ k) && decide (k ≤ 5) && decide (o.f 0x41 1 ≤ 2) && decide (o.f 0x42 1 ≤ 8) && o.f 0x43 1 == 0 && decide (1 ≤ o.f 0x44 4)
    && isMul (o.f 0x48 4) 64 && (k == 3 || k == 4 || o.f 0x58 8 == 0) && (k == 1 || k == 2 || o.f 0x68 2 == 0) && at' o.desc 0x6A 22 == 0

/-- RING of ATTN. -/
def Op.ring (o : Op) : Nat := o.f 0x55 1

/-- ATTN, but for POST_BYTES (R281); a rotation without RING_VA, and RING_SHIFT without rotation, are refused (log 39). -/
def State.attnOk (s : State) (o : Op) : Bool :=
  let kv := o.f 0x44 2
  decide (1 ≤ o.f 0x40 2) && decide (o.f 0x40 2 ≤ 4096) && decide (1 ≤ o.f 0x42 2) && decide (o.f 0x42 2 ≤ 256) && decide (1 ≤ kv)
    && isMul (o.f 0x42 2) kv && [64, 128].contains (o.f 0x46 2) && [1, 2].contains (o.f 0x48 1) && decide (o.f 0x49 1 ≤ 2)
    && decide (o.f 0x4A 1 ≤ 1) && decide (1 ≤ o.f 0x4B 1) && decide (o.f 0x4B 1 ≤ 64) && (o.f 0x49 1 != 2 || decide (1 ≤ o.f 0x50 4))
    && decide (21 ≤ o.f 0x54 1) && decide (o.f 0x54 1 ≤ 40) && decide (1 ≤ o.ring) && decide (o.ring ≤ 64) && o.f 0x56 2 == 0
    && (if o.ring = 1 then o.coll == 0 && o.f 0x78 8 == 0
        else o.f 0x40 2 == 1 && o.coll == 7 && s.postN o == o.ring && o.f 0x78 8 != 0)

/-! ### The whole check (R257) -/

/-- Reserved fields, code, collective, region and dependencies; `oldest` is the first OPN of the oldest run list still held. -/
def Op.headOk (o : Op) (oldest : Nat) : Bool :=
  decide (o.flags < 4) && decide (o.depStage < 4) && o.f 0xB 1 == 0 && o.f 0x2C 4 == 0 && (acceptedColls o.opc).contains o.coll
    && rectOk o.c0 o.c1 o.r0 o.r1 && decide (oldest + o.dep1 ≤ o.opn || o.dep1 = 0) && decide (oldest + o.dep2 ≤ o.opn || o.dep2 = 0)

/-- Are the bytes mapped with RD and WR set? 0, or the code of the translation fault (R290, R201). -/
def State.mappedRW (s : State) (c va n : Nat) : Nat × State :=
  if n = 0 then (0, s)
  else
    match s.translate 12 c va n false with
    | (.inl e, s) => (if e.kind = 7 then cRegionLost else xlCode e.kind false, s)
    | (.inr _, s) =>
      match s.translate 12 c va n true with
      | (.inl e, s) => (xlCode e.kind true, s)
      | (.inr _, s) => (0, s)

/-- What R290 asks of an ATTN operation before it is admitted: every block below KV_LEN of each sequence's cache in the operation's layer
(R283), and both buffers of RING_VA, are mapped. -/
def State.attnMapped (s : State) (c : Nat) (o : Op) : Nat × State :=
  let block := 64 * o.f 0x44 2 * o.f 0x46 2
  let blocks := (List.range (o.f 0x40 2)).foldl (fun (a : Nat × State) j =>
    if a.1 ≠ 0 then a
    else
      match a.2.vaRead c (o.f 0x58 8 + 32 * j) 12 with
      | (.inl code, s) => (code, s)
      | (.inr e, s) => s.mappedRW c (at' e 0 8 + o.layer * 2 ^ o.f 0x54 1) ((at' e 8 4 + 15) / 16 * block)) (0, s)
  if blocks.1 ≠ 0 then blocks else blocks.2.mappedRW c (o.f 0x78 8) (if o.ring = 1 then 0 else 2 * o.bytes)

/-- The condition code of a descriptor that is refused, 0 for one that is accepted. ATTN over a ring reads KV_LEN of its sequence table;
a table that cannot be read fails the operation with the translation's code. -/
def State.opCheck (s : State) (c : Nat) (o : Op) (oldest : Nat) : Nat × State :=
  let blockOk : Bool :=
    if o.opc = 4 ∨ o.opc = 6 then s.moeOk o else if o.opc = 7 then s.attnOk o else if o.opc = 8 then o.vecOk else o.gemmOk
  if !(o.headOk oldest && s.postOk c o && blockOk && (!o.rebuild || o.coll == 0 || o.coll == 8)) then (cMalformed, s)
  else if o.opc = 7 ∧ o.coll = 7 then
    match s.vaRead c (o.f 0x58 8 + 8) 4 with
    | (.inl code, s) => (code, s)
    | (.inr b, s) => if o.bytes = leNat b * o.f 0x44 2 * 4 * o.f 0x46 2 then s.attnMapped c o else (cMalformed, s)
  else if o.opc = 7 then s.attnMapped c o
  else (0, s)

end Sys2Proof.Machine
end

