-- ==== Sys2Proof/Machine/Reduce.lean ====
section
/-! DEFINITION. Confluence (10 R334-R346): one addition, the in-module tree, the rings of a reduction post with the proxies of Z2 members,
and the plans of what each member sends and receives (09 R317, R321, R322). -/

namespace Sys2Proof.Machine

/-! ### One addition (R334, R335) -/

/-- A 64 B line. -/
abbrev Line := List Byte

/-- The sum of two lines of a DTYPE, lane by lane, the first one on the left. -/
def addLine (dtype : Nat) (a b : Line) : Line :=
  if dtype = 1 then (List.range 32).flatMap (fun i => leBytes 2 (encBf .rne ((decBf (at' a (2 * i) 2)).add (decBf (at' b (2 * i) 2)))))
  else (List.range 16).flatMap (fun i =>
    leBytes 4 (fadd .rne (BitVec.ofNat 32 (at' a (4 * i) 4)) (BitVec.ofNat 32 (at' b (4 * i) 4))).toNat)

/-- The same where an operand may not be there yet. -/
def addOpt (dtype : Nat) (a b : Option Line) : Option Line :=
  match a, b with
  | some x, some y => some (addLine dtype x y)
  | _, _ => none

/-- Values added in order, each result the left operand of the next. -/
def sumOver (dtype : Nat) : List (Option Line) → Option Line
  | [] => none
  | v :: t => t.foldl (addOpt dtype) v

/-! ### Byte ranges that have arrived -/

/-- How far the bytes of a source are there without a gap, from `a` on. -/
def reachTo (l : List (Nat × Nat × Nat)) (src : Nat) : Nat → Nat → Nat
  | 0, a => a
  | f + 1, a =>
    match l.find? (fun e => e.1 == src && decide (e.2.1 ≤ a) && decide (a < e.2.1 + e.2.2)) with
    | some e => reachTo l src f (e.2.1 + e.2.2)
    | none => a

/-- Are the bytes [a, a + n) of a source all there? -/
def covers (l : List (Nat × Nat × Nat)) (src a n : Nat) : Bool := n == 0 || decide (a + n ≤ reachTo l src l.length a)

/-- Does a range meet bytes of the source that are there already? -/
def meetsRange (l : List (Nat × Nat × Nat)) (src a n : Nat) : Bool := l.any (fun e => e.1 == src && overlaps a n e.2.1 e.2.2)

/-- Bytes of the post input from a source (a reach, or 63 for the module), if all there. -/
def Op.inBytes (o : Op) (src a n : Nat) : Option (List Byte) :=
  if covers o.cin src a n then some (readBytes o.inp (src * 2 ^ 33 + a) n) else none
/-- Bytes that a member sent, by their place in its flow, if all there. -/
def Op.gotBytes (o : Op) (member a n : Nat) : Option (List Byte) :=
  if covers o.got member a n then some (readBytes o.gotMem (member * 2 ^ 40 + a) n) else none

/-! ### The in-module tree (R337, R338) -/

/-- The terms of a line, in increasing reach index. -/
def Op.terms (o : Op) (l : Nat) : List (Option Line) := o.reaches.map (fun r => o.inBytes r (64 * l) 64)
/-- The module sum of a line. -/
def Op.moduleSum (o : Op) (l : Nat) : Option Line := (treeOf (addOpt o.dtype) 7 (o.terms l)).headD none

/-- Values of the tree below its top that wait for their partner, with their place in it; one without a partner passes up. -/
def treeWaits (dtype : Nat) : Nat → Nat → List (Option Line) → List (Nat × Line)
  | 0, _, _ => []
  | n + 1, lev, l =>
    if l.length ≤ 1 then []
    else l.zipIdx.filterMap (fun e =>
        let sib := if e.2 % 2 = 0 then e.2 + 1 else e.2 - 1
        if (e.2 % 2 = 0 ∧ e.2 + 1 = l.length) ∨ (l.getD sib none).isSome then none else e.1.map (fun x => (64 * lev + e.2, x)))
      ++ treeWaits dtype n (lev + 1) (pairUp (addOpt dtype) l)

/-- Has the term at position p been added into a node, or become the module sum (R338)? -/
def consumedAt (dtype : Nat) : Nat → List (Option Line) → Nat → Bool
  | 0, _, _ => true
  | n + 1, l, p =>
    if l.length ≤ 1 then true
    else if p % 2 = 0 ∧ p + 1 = l.length then consumedAt dtype n (pairUp (addOpt dtype) l) (p / 2)
    else (l.getD (if p % 2 = 0 then p + 1 else p - 1) none).isSome

/-! ### Rings (R340-R345) -/

/-- A ring of a stage: its size, the member's position, the member index at each position, the lines that it divides, and whether it is
the all-gather of R344. -/
structure Ring where
  n : Nat
  pos : Nat
  mem : List Nat
  lo : Nat
  len : Nat
  gather : Bool
  deriving DecidableEq, Repr

/-- First line of part k (R341). -/
def Ring.partLo (r : Ring) (k : Nat) : Nat := r.lo + k * r.len / max 1 r.n
/-- Lines of part k. -/
def Ring.partLen (r : Ring) (k : Nat) : Nat := (k + 1) * r.len / max 1 r.n - k * r.len / max 1 r.n
/-- The part that holds a line. -/
def Ring.partOf (r : Ring) (l : Nat) : Nat :=
  ((List.range r.n).find? (fun k => decide (r.partLo k ≤ l) && decide (l < r.partLo k + r.partLen k))).getD 0

/-- The stages of a reduction: x, y and z for a box group, one ring for a flat one; a ring of size 1 is skipped (R342). -/
def State.redRings (s : State) (o : Op) : List Ring :=
  let n := s.groupN o.group
  let i := s.groupSelf o.group
  let lines := o.bytes / 64
  let rings : List Ring :=
    match look? s.shapes o.group with
    | some (x, y, z) =>
      let a := i / (y * z)
      let b := i / z % y
      let c := i % z
      let rx : Ring := ⟨x, a, (List.range x).map (fun t => t * (y * z) + b * z + c), 0, lines, false⟩
      let ry : Ring := ⟨y, b, (List.range y).map (fun t => a * (y * z) + t * z + c), rx.partLo a, rx.partLen a, false⟩
      [rx, ry, ⟨z, c, (List.range z).map (fun t => a * (y * z) + b * z + t), ry.partLo b, ry.partLen b, false⟩]
    | none => [⟨n, i, List.range n, 0, lines, false⟩]
  rings.filter (fun r => decide (1 < r.n))

/-- Every ring of the post: the stages, then, for ALL_REDUCE, their all-gathers in reverse order (R344). -/
def State.postRings (s : State) (o : Op) : List Ring :=
  let l := s.redRings o
  if o.coll = 2 then l ++ l.reverse.map (fun r => { r with gather := true }) else l

/-- Is a member of the group a Z2? -/
def State.isZ2 (s : State) (g i : Nat) : Bool := bitOf (s.rankWord (s.groupJob g) (s.memberRank g i)) 14

/-- How many Z2 members stand directly before a position (R345). -/
def zBefore (z2 : Nat → Bool) (n : Nat) : Nat → Nat → Nat
  | 0, _ => 0
  | f + 1, p => if z2 ((p + n - 1) % n) then zBefore z2 n f ((p + n - 1) % n) + 1 else 0

/-- A ring as this member works it: `run` are the positions whose turns it takes, in ring order, ending at its own; `before` the position
of the module that sends to it, `after` that of the module that it sends to. -/
structure Turns where
  ring : Ring
  run : List Nat
  before : Nat
  after : Nat
  deriving DecidableEq, Repr

/-- The turns of this member in a ring (R345): with no Z2, its own. -/
def State.turns (s : State) (g : Nat) (r : Ring) : Turns :=
  let z2 (p : Nat) : Bool := s.isZ2 g (r.mem.getD p 0)
  let c := zBefore z2 r.n (r.n - 1) r.pos
  let next := ((List.range r.n).map (fun i => (r.pos + 1 + i) % r.n)).find? (fun p => !z2 p)
  { ring := r, run := (List.range (c + 1)).map (fun i => (r.pos + r.n - c + i) % r.n), before := (r.pos + r.n - c - 1) % r.n,
    after := next.getD r.pos }

/-! ### Plans (R317, R343-R345, R321, R322) -/

/-- A stretch of a flow from one member to another: ring (by its place in `postRings`) and part, its place in the input or the output, its
bytes, and whether they are finished sums. -/
structure Item where
  st : Nat
  part : Nat
  lo : Nat
  len : Nat
  fin : Bool
  deriving DecidableEq, Repr

/-- Part k of a ring as an item. -/
def ringItem (st : Nat) (r : Ring) (k : Nat) (fin : Bool) : Item := ⟨st, k, 64 * r.partLo k, 64 * r.partLen k, fin⟩

/-- Parts from p downward, modulo the ring's size. -/
def partsDown (n p cnt : Nat) : List Nat := (List.range cnt).map (fun i => (p + n * 2 - i) % n)

/-- What this member sends in a ring: to the next module every part but the one it keeps, the one it begins first; in an all-gather, the
parts that the next module has not formed; to each Z2 of its run the part that ends there, and in ALL_REDUCE the others (log 41). -/
def Turns.outItems (t : Turns) (st : Nat) (all : Bool) : List (Nat × Item) :=
  let r := t.ring
  let dest := r.mem.getD t.after 0
  let wire : List (Nat × Item) :=
    if t.after = r.pos then []
    else if r.gather then (partsDown r.n r.pos (r.n - (t.after + r.n - r.pos) % r.n)).map (fun k => (dest, ringItem st r k true))
    else (partsDown r.n (r.pos + r.n - 1) (r.n - 1)).map (fun k => (dest, ringItem st r k false))
  wire ++ (t.run.dropLast.flatMap (fun z =>
    if r.gather then []
    else (partsDown r.n z (if all then r.n else 1)).map (fun k => (r.mem.getD z 0, ringItem st r k true))))

/-- What this member receives in a ring, in the order in which it is sent. -/
def Turns.inItems (t : Turns) (st : Nat) : List (Nat × Item) :=
  let r := t.ring
  let src := r.mem.getD t.before 0
  let wire : List (Nat × Item) :=
    if t.before = r.pos then []
    else if r.gather then (partsDown r.n t.before (r.n - t.run.length)).map (fun k => (src, ringItem st r k true))
    else (partsDown r.n (t.before + r.n - 1) (r.n - 1)).map (fun k => (src, ringItem st r k false))
  wire ++ (t.run.dropLast.flatMap (fun z =>
    if r.gather then [] else (partsDown r.n (r.pos + r.n - 1) r.n).map (fun k => (r.mem.getD z 0, ringItem st r k false))))

/-- Sums of the elements before each one. -/
def preSums : Nat → List Nat → List Nat
  | _, [] => []
  | a, x :: t => a :: preSums (a + x) t

/-- The other members in the order i + 1, i + 2, ... modulo N. -/
def othersOf (n i : Nat) : List Nat := (List.range (n - 1)).map (fun j => (i + 1 + j) % n)

/-- The counts received from each member, in member order (R322). -/
def Op.recvCounts (o : Op) (n : Nat) : List Nat := (List.range n).map (fun j => look 0 o.counts j)

/-- What this member sends in a post, as (member, item), each member's items in order. -/
def State.outPlan (s : State) (o : Op) : List (Nat × Item) :=
  let n := s.groupN o.group
  let i := s.groupSelf o.group
  let p := o.bytes
  if o.reduces then (s.postRings o).zipIdx.flatMap (fun e => (s.turns o.group e.1).outItems e.2 (o.coll == 2))
  else if o.coll = 3 then (othersOf n i).map (fun j => (j, ⟨0, 0, 0, p, false⟩))
  else if o.coll = 4 then (othersOf n i).map (fun j => (j, ⟨0, 0, j * (p / n), p / n, false⟩))
  else if o.coll = 5 then
    (othersOf n i).map (fun j => (j, ⟨0, 0, (preSums 0 o.toSend).getD j 0, o.toSend.getD j 0, false⟩))
  else if o.coll = 6 then (if o.root = s.postRank o then (othersOf n i).map (fun j => (j, ⟨0, 0, 0, p, false⟩)) else [])
  else if o.coll = 7 ∧ 1 < n then [((i + 1) % n, ⟨0, 0, 0, p, false⟩)]
  else []

/-- Have all counts of ALL_TO_ALLV arrived (R322)? -/
def State.countsIn (s : State) (o : Op) : Bool := (List.range (s.groupN o.group)).all (fun j => (look? o.counts j).isSome)

/-- What this member receives, as (member, item); for a collective without reduction, `lo` is the place in the output. -/
def State.inPlan (s : State) (o : Op) : List (Nat × Item) :=
  let n := s.groupN o.group
  let i := s.groupSelf o.group
  let p := o.bytes
  if o.reduces then (s.postRings o).zipIdx.flatMap (fun e => (s.turns o.group e.1).inItems e.2)
  else if o.coll = 3 then (othersOf n i).map (fun j => (j, ⟨0, 0, j * p, p, false⟩))
  else if o.coll = 4 then (othersOf n i).map (fun j => (j, ⟨0, 0, j * (p / n), p / n, false⟩))
  else if o.coll = 5 then
    (if s.countsIn o then (othersOf n i).map (fun j => (j, ⟨0, 0, (preSums 0 (o.recvCounts n)).getD j 0, (o.recvCounts n).getD j 0, false⟩)) else [])
  else if o.coll = 6 then
    (if o.root = s.postRank o then []
     else match s.memberOf o.group o.root with
       | some j => [(j, ⟨0, 0, 0, p, false⟩)]
       | none => [])
  else if o.coll = 7 ∧ 1 < n then [((i + n - 1) % n, ⟨0, 0, 0, p, false⟩)]
  else []

/-- Members that send this one a done chunk (R317). -/
def State.doneFrom (s : State) (o : Op) : List Nat :=
  let n := s.groupN o.group
  let i := s.groupSelf o.group
  if o.coll = 8 then (if i = 0 then othersOf n 0 else [0])
  else if o.coll = 6 ∧ o.root = s.postRank o then othersOf n i else []

/-- Members to which this one sends a done chunk. -/
def State.doneTo (s : State) (o : Op) : List Nat :=
  let n := s.groupN o.group
  let i := s.groupSelf o.group
  if o.coll = 8 then (if i = 0 then othersOf n 0 else [0])
  else if o.coll = 6 ∧ o.root ≠ s.postRank o then (s.memberOf o.group o.root).toList else []

/-- A packet of a flow: its place in the flow, bytes, chunk index, the item and its place within the item. -/
structure Piece where
  off : Nat
  len : Nat
  cidx : Nat
  item : Item
  within : Nat
  deriving DecidableEq, Repr

/-- The packets of a flow (R317): at most 4,096 B, each within one chunk, chunks counted from the start of their item (R341). -/
def pieces (chunk : Nat) : Nat → List Item → List Piece
  | _, [] => []
  | base, it :: t =>
    (List.range ((it.len + 4095) / 4096)).map (fun m => ⟨base + 4096 * m, min 4096 (it.len - 4096 * m), 4096 * m / chunk, it, 4096 * m⟩)
      ++ pieces chunk (base + it.len) t

/-- The items of one member. -/
def itemsOf (plan : List (Nat × Item)) (m : Nat) : List Item := (plan.filter (fun e => e.1 == m)).map (·.2)
/-- The place of an item in its flow. -/
def itemBase (l : List Item) (st part : Nat) (gather : Bool) : Nat :=
  sumL ((l.takeWhile (fun it => !(it.st == st && it.part == part && it.fin == gather))).map (·.len))
/-- The members of a plan, each once. -/
def membersOf (plan : List (Nat × Item)) : List Nat := plan.foldl (fun acc e => ins acc e.1) []

/-! ### Values (R343-R345) -/

/-- A line of a part that a member sent in a ring. -/
def Op.wireLine (o : Op) (plan : List (Nat × Item)) (member st : Nat) (r : Ring) (k l : Nat) : Option Line :=
  o.gotBytes member (itemBase (itemsOf plan member) st k r.gather + 64 * (l - r.partLo k)) 64

/-- The values of a line at this member's turns at positions `ps` in a ring: its own value, or what the Z2 sent. -/
def Op.turnVals (o : Op) (plan : List (Nat × Item)) (st : Nat) (t : Turns) (own : Option Line) (k l : Nat) (ps : List Nat) : List (Option Line) :=
  ps.map (fun p => if p = t.ring.pos then own else o.wireLine plan (t.ring.mem.getD p 0) st t.ring k l)

/-- The turns of the run after position k, up to this member's own. -/
def Turns.after? (t : Turns) (k : Nat) : List Nat := if k = t.before then t.run else (t.run.dropWhile (fun p => p != k)).drop 1
/-- The turns of the run up to position k. -/
def Turns.upTo (t : Turns) (k : Nat) : List Nat := t.run.takeWhile (fun p => p != k) ++ [k]

/-- The part as it arrives at this member: from the wire, or, where every other member is a Z2, from its own earlier turns. -/
def Op.arrived (o : Op) (plan : List (Nat × Item)) (st : Nat) (t : Turns) (own : Option Line) (k l : Nat) : Option Line :=
  if t.before = t.ring.pos then sumOver o.dtype (o.turnVals plan st t own k l (t.after? k))
  else o.wireLine plan (t.ring.mem.getD t.before 0) st t.ring k l

/-- The part as this member sends it on. -/
def Op.sendLine (o : Op) (plan : List (Nat × Item)) (st : Nat) (t : Turns) (own : Option Line) (k l : Nat) : Option Line :=
  if k = t.before ∨ t.run.contains k then sumOver o.dtype (o.turnVals plan st t own k l (t.after? k))
  else sumOver o.dtype (o.arrived plan st t own k l :: o.turnVals plan st t own k l t.run)

/-- The part finished at position k of the run. -/
def Op.finishLine (o : Op) (plan : List (Nat × Item)) (st : Nat) (t : Turns) (own : Option Line) (k l : Nat) : Option Line :=
  if t.before = t.ring.pos ∧ k = t.ring.pos then sumOver o.dtype (o.turnVals plan st t own k l t.run)
  else sumOver o.dtype (o.arrived plan st t own k l :: o.turnVals plan st t own k l (t.upTo k))

/-- This member's value of a line before the next stage; the list holds the stages done, the last one first. -/
def Op.ownLine (o : Op) (plan : List (Nat × Item)) : List (Nat × Turns) → Nat → Option Line
  | [], l => o.moduleSum l
  | (st, t) :: prev, l => o.finishLine plan st t (o.ownLine plan prev l) t.ring.pos l

/-- A finished line: formed here, or brought by an all-gather; `todo` are the stages not yet looked at, `m` their whole number. -/
def Op.finalLine (o : Op) (plan : List (Nat × Item)) (m : Nat) : List (Nat × Turns) → List (Nat × Turns) → Nat → Option Line
  | [], prev, l => o.ownLine plan prev l
  | (st, t) :: todo, prev, l =>
    let k := t.ring.partOf l
    if k = t.ring.pos then o.finalLine plan m todo ((st, t) :: prev) l
    else if t.run.contains k then o.finishLine plan st t (o.ownLine plan prev l) k l
    else o.wireLine plan (t.ring.mem.getD t.before 0) (2 * m - 1 - st) { t.ring with gather := true } k l

/-- The stages of a reduction post with this member's turns. -/
def State.stages (s : State) (o : Op) : List (Nat × Turns) := (s.redRings o).zipIdx.map (fun e => (e.2, s.turns o.group e.1))

/-- The stages before one, the last one first. -/
def stagesBefore (l : List (Nat × Turns)) (st : Nat) : List (Nat × Turns) := (l.take st).reverse

/-- A finished line of the post. -/
def State.resultLine (s : State) (o : Op) (plan : List (Nat × Item)) (l : Nat) : Option Line :=
  o.finalLine plan (s.stages o).length (s.stages o) [] l

/-- A line of an item that this member sends. -/
def State.itemLine (s : State) (o : Op) (plan : List (Nat × Item)) (it : Item) (l : Nat) : Option Line :=
  if it.fin then s.resultLine o plan l
  else match (s.stages o)[it.st]? with
    | some (st, t) => o.sendLine plan st t (o.ownLine plan (stagesBefore (s.stages o) st) l) it.part l
    | none => none

/-- Lines that are all there, joined. -/
def joinLines : List (Option Line) → Option (List Byte)
  | [] => some []
  | none :: _ => none
  | some x :: t => (joinLines t).map (fun b => x ++ b)

/-- Bytes of a packet that this member sends, if they are there. -/
def State.pieceBytes (s : State) (o : Op) (plan : List (Nat × Item)) (p : Piece) : Option (List Byte) :=
  if o.reduces then joinLines ((List.range (p.len / 64)).map (fun j => s.itemLine o plan p.item ((p.item.lo + p.within) / 64 + j)))
  else o.inBytes 63 (p.item.lo + p.within) p.len

/-- Has what a packet brought been added, or, where it is finished or nothing is added, come in (R346)? -/
def State.pieceUsed (s : State) (o : Op) (plan : List (Nat × Item)) (member : Nat) (p : Piece) : Bool :=
  if o.reduces ∧ p.item.fin = false then
    (List.range (p.len / 64)).all (fun j =>
      let l := (p.item.lo + p.within) / 64 + j
      match (s.stages o)[p.item.st]? with
      | some (st, t) =>
        let own := o.ownLine plan (stagesBefore (s.stages o) st) l
        (if t.run.contains p.item.part then o.finishLine plan st t own p.item.part l else o.sendLine plan st t own p.item.part l).isSome
      | none => false)
  else covers o.got member p.off p.len

/-- Dimension that each stage's lines are counted under: 0 x or the flat ring, 1 y, 2 z (R359). -/
def State.ringDims (s : State) (o : Op) : List Nat :=
  match look? s.shapes o.group with
  | some (x, y, z) => (([x, y, z] : List Nat).zipIdx.filter (fun e => decide (1 < e.1))).map (·.2)
  | none => [0]

/-! ### The additions of a post (R334, R362) -/

/-- The operands of the additions that join values in order, the sum so far on the left. -/
def chainFrom (dtype : Nat) : Option Line → List (Option Line) → List (Option Line × Option Line)
  | _, [] => []
  | a, v :: t => (a, v) :: chainFrom dtype (addOpt dtype a v) t
/-- The same from the first value on. -/
def chainPairs (dtype : Nat) : List (Option Line) → List (Option Line × Option Line)
  | [] => []
  | v :: t => chainFrom dtype v t

/-- The values that this member adds up for a line of part k: those of the part as it sends it on, and those of the part where it is finished. -/
def Op.ringChains (o : Op) (plan : List (Nat × Item)) (st : Nat) (t : Turns) (own : Option Line) (k l : Nat) : List (List (Option Line)) :=
  let vals := o.turnVals plan st t own k l
  let inc := o.arrived plan st t own k l
  let send := if k = t.ring.pos then [] else if k = t.before ∨ t.run.contains k then [vals (t.after? k)] else [inc :: vals t.run]
  let fin := if !t.run.contains k then [] else if t.before = t.ring.pos ∧ k = t.ring.pos then [vals t.run] else [inc :: vals (t.upTo k)]
  send ++ fin

/-- The lines of a stage's range with the part of each and this member's value of it. -/
def State.stageLines (s : State) (o : Op) (plan : List (Nat × Item)) (e : Nat × Turns) : List (Nat × Nat × Option Line) :=
  (List.range e.2.ring.n).flatMap (fun k => (List.range (e.2.ring.partLen k)).map (fun j =>
    let l := e.2.ring.partLo k + j
    (l, k, o.ownLine plan (stagesBefore (s.stages o) e.1) l)))

/-- Every addition of the post in its home chiplet: the line, and the operands where they are there. -/
def State.additions (s : State) (o : Op) (plan : List (Nat × Item)) : List (Nat × Option Line × Option Line) :=
  if o.reduces then
    (List.range (o.bytes / 64)).flatMap (fun l => (treeNodes (addOpt o.dtype) 7 (o.terms l)).map (fun p => (l, p.1, p.2)))
      ++ (s.stages o).flatMap (fun e => (s.stageLines o plan e).flatMap (fun x =>
        (o.ringChains plan e.1 e.2 x.2.2 x.2.1 x.1).flatMap (fun c => (chainPairs o.dtype c).map (fun p => (x.1, p.1, p.2)))))
  else []

/-- The additions that become possible as a post's input grows from `o` to `o'`: the line and the operands. -/
def State.newAdds (s : State) (o o' : Op) (plan : List (Nat × Item)) : List (Nat × Line × Line) :=
  ((s.additions o plan).zip (s.additions o' plan)).filterMap (fun e =>
    match e.1, e.2 with
    | (_, some _, some _), _ => none
    | _, (l, some a, some b) => some (l, a, b)
    | _, _ => none)

/-! ### The values that the stages hold (R338, R346, R349, R359) -/

/-- A line that a stage of a post holds: its level (0 in-module, 1 x or flat ring, 2 y, 3 z), what it is (0 a term or partial of the tree, 1 a
module sum, 2 a value waiting in a stage, 3 a line that arrived, 4 a partial to be sent, 5 a finished line not yet written), its source within
that kind, the line, and its bytes. -/
structure HeldLine where
  level : Nat
  key : Nat × Nat × Nat
  bytes : Line
  deriving DecidableEq, Repr

/-- Does this member begin part k in a ring, so that it sends its value as it is (R343)? -/
def Turns.begins (t : Turns) (k : Nat) : Bool := k != t.ring.pos && (k == t.before || t.run.contains k)

/-- Has the packet with a line of part k been sent on in a ring? -/
def Op.lineSent (o : Op) (out : List (Nat × Item)) (st : Nat) (t : Turns) (k l : Nat) : Bool :=
  let dest := t.ring.mem.getD t.after 0
  t.after == t.ring.pos
    || o.sent.contains (dest, itemBase (itemsOf out dest) st k false + 64 * (l - t.ring.partLo k) / 4096 * 4096)

/-- Has this member's value of a line of part k been used in a ring: sent where it begins the part, otherwise added? -/
def Op.valueUsed (o : Op) (plan out : List (Nat × Item)) (st : Nat) (t : Turns) (own : Option Line) (k l : Nat) : Bool :=
  if t.begins k then o.lineSent out st t k l
  else if k = t.ring.pos then (o.finishLine plan st t own k l).isSome
  else (o.sendLine plan st t own k l).isSome

/-- Has the first ring taken a module sum: sent it where it begins the part, or holds it for a chunk that it has granted (R338, R346; log 40)?
Without a ring the output takes it. -/
def State.sumTaken (s : State) (o : Op) (plan out : List (Nat × Item)) (l : Nat) : Bool :=
  match s.stages o with
  | [] => true
  | (st, t) :: _ =>
    let k := t.ring.partOf l
    let src := t.ring.mem.getD t.before 0
    if t.begins k then o.lineSent out st t k l
    else t.before == t.ring.pos
      || decide (itemBase (itemsOf plan src) st k false + 64 * (l - t.ring.partLo k) + 64 ≤ look 0 o.granted src)

/-- Is every line of a contribution consumed: added into a node, or, with one reach, taken by the next stage as the module sum (R338)? -/
def State.consumed (s : State) (o : Op) (plan out : List (Nat × Item)) (reach off n : Nat) : Bool :=
  (linesOf off n).all (fun l => consumedAt o.dtype 7 (o.terms l) (o.reaches.idxOf reach) && (o.reaches.length != 1 || s.sumTaken o plan out l))

/-- Level that a stage's lines count under (R359). -/
def State.stageLevel (s : State) (o : Op) (st : Nat) : Nat := (s.ringDims o).getD st 0 + 1

/-- Is a finished line still to be sent in a stage or in its all-gather (R344, R345)? -/
def State.finUnsent (s : State) (o : Op) (out : List (Nat × Item)) (st l : Nat) : Bool :=
  let back := 2 * (s.stages o).length - 1 - st
  out.any (fun e => e.2.fin && (e.2.st == st || e.2.st == back) && decide (e.2.lo ≤ 64 * l) && decide (64 * l < e.2.lo + e.2.len)
    && !o.sent.contains (e.1, itemBase (itemsOf out e.1) e.2.st e.2.part true + (64 * l - e.2.lo) / 4096 * 4096))

/-- Has the output chunk with a finished line been written? -/
def State.lineOut (s : State) (o : Op) (l : Nat) : Bool :=
  let base := if o.coll = 1 then s.groupSelf o.group * (o.bytes / max 1 (s.groupN o.group)) else 0
  o.outDone.contains ((64 * l - base) / max 1 o.chunk)

/-- The lines that the in-module stage holds, and module sums that the first ring has taken. -/
def State.heldSums (s : State) (o : Op) (plan out : List (Nat × Item)) : List HeldLine :=
  (List.range (o.bytes / 64)).flatMap (fun l =>
    (treeWaits o.dtype 7 0 (o.terms l)).map (fun e => ⟨0, (0, e.1, l), e.2⟩)
      ++ (match o.moduleSum l, (s.stages o).head? with
          | none, _ => []
          | some x, none => if s.lineOut o l then [] else [⟨0, (1, 0, l), x⟩]
          | some x, some (st, t) =>
            if o.valueUsed plan out st t (some x) (t.ring.partOf l) l then []
            else [⟨if s.sumTaken o plan out l then s.stageLevel o st else 0, (1, 0, l), x⟩]))

/-- The lines that a ring stage holds: values that wait, partials not sent on, and finished lines, formed here or brought by the stage's all-gather,
until they are written and sent on to every member that takes them. -/
def State.heldStage (s : State) (o : Op) (plan out : List (Nat × Item)) (e : Nat × Turns) : List HeldLine :=
  let (st, t) := e
  let lev := s.stageLevel o st
  (s.stageLines o plan e).flatMap (fun x =>
    let (l, k, own) := x
    let wait := match own with
      | some v => if st = 0 ∨ o.valueUsed plan out st t own k l then [] else [⟨lev, (2, st, l), v⟩]
      | none => []
    let part := if k = t.ring.pos ∨ t.begins k ∨ o.lineSent out st t k l then []
      else ((o.sendLine plan st t own k l).map (fun v => (⟨lev, (4, st, l), v⟩ : HeldLine))).toList
    let mine := if k = t.ring.pos then st + 1 == (s.stages o).length else o.coll == 2
    let fin := if (mine && !s.lineOut o l) || s.finUnsent o out st l then
        ((s.resultLine o plan l).map (fun v => (⟨lev, (5, st, l), v⟩ : HeldLine))).toList
      else []
    wait ++ part ++ fin)

/-- The lines that have arrived and wait for their addition. -/
def State.heldArrived (s : State) (o : Op) (plan : List (Nat × Item)) : List HeldLine :=
  (membersOf plan).flatMap (fun m => (pieces o.chunk 0 (itemsOf plan m)).flatMap (fun p =>
    if covers o.got m p.off p.len && !s.pieceUsed o plan m p then
      (List.range (p.len / 64)).filterMap (fun j =>
        (o.gotBytes m (p.off + 64 * j) 64).map (fun v => ⟨s.stageLevel o p.item.st, (3, m, p.off / 64 + j), v⟩))
    else []))

/-- Every line that the stages of a post hold. -/
def State.heldLines (s : State) (o : Op) : List HeldLine :=
  if o.reduces then
    let plan := s.inPlan o
    let out := s.outPlan o
    s.heldSums o plan out ++ (s.stages o).flatMap (s.heldStage o plan out) ++ s.heldArrived o plan
  else []

/-! ### Staging in rill stores (R349) -/

/-- Where line j of a post's staging space lies: the rill and the address in its store. -/
def State.stagePlace (s : State) (c : Nat) (o : Op) (j : Nat) : Nat × Nat :=
  let l := s.region o
  let r := max 1 l.length
  (l.getD (j % r) 0, 1024 * s.regF (aStage c) 0 6 + 64 * (j / r))

/-- Does a line that a staged post holds carry POISON (R353)? -/
def State.stagePois (s : State) (c : Nat) (o : Op) : Bool :=
  o.staged && o.park.any (fun e => let p := s.stagePlace c o e.2; s.storePois p.1 p.2 64)

/-- A line put into the staging space. Which free line takes it is a free value (R349; log 152); with no free line it stays where it is. -/
def State.parkLine (s : State) (c : Nat) (o : Op) (h : HeldLine) : State × Op :=
  let (v, s) := s.draw64
  let total := max 1 ((s.region o).length * s.regF (aStage c) 8 6 * 16)
  match ((List.range (o.park.length + 1)).map (fun i => (v.toNat + i) % total)).find? (fun j => !o.park.any (fun e => e.2 == j)) with
  | none => (s, o)
  | some j =>
    let p := s.stagePlace c o j
    (s.storeWrite p.1 p.2 h.bytes false, { o with park := o.park ++ [(h.key, j)] })

/-- The lines that a staged post holds stand in its staging space; those that it no longer holds leave it. -/
def State.parkAll (s : State) (c : Nat) (o : Op) (l : List HeldLine) : State × Op :=
  if o.staged then
    (l.filter (fun h => !o.park.any (fun e => e.1 == h.key))).foldl (fun (a : State × Op) h => a.1.parkLine c a.2 h)
      (s, { o with park := o.park.filter (fun e => l.any (fun h => h.key == e.1)) })
  else (s, o)

end Sys2Proof.Machine
end

