-- ==== Sys2Proof/Machine/Post.lean ====
section
/-! DEFINITION. A post at this member (08 R258, R269-R273, 09 R317-R322, 10 R338-R358): signatures, grants, packets sent, output, digests,
and the stages of its operation. -/

namespace Sys2Proof.Machine

/-! ### Signatures (R318) -/

/-- Bytes of an element of a DTYPE. -/
def elemSize (dtype : Nat) : Nat := if dtype = 0 then 4 else if dtype = 3 then 1 else 2

/-- SIG of a post. -/
def sigOf (jobId group seq coll dtype root phase count : Nat) : Nat :=
  leNat ((shake256 (leBytes 4 jobId ++ leBytes 2 group ++ leBytes 4 seq ++ leBytes 1 coll ++ leBytes 1 dtype ++ leBytes 2 root
    ++ leBytes 1 phase ++ leBytes 1 0 ++ leBytes 8 count)).take 4)

/-- JOB_ID of a post's group. -/
def State.postJobId (s : State) (o : Op) : Nat := s.jobId (s.groupJob o.group)

/-- SIG of the data phase; `count` are the bytes that one member of the pair sends to the other under ALL_TO_ALLV. -/
def State.dataSig (s : State) (o : Op) (count : Nat) : Nat :=
  sigOf (s.postJobId o) o.group o.seq o.coll o.dtype (if o.coll = 6 then o.root else 0) 0 ((if o.coll = 5 then count else o.bytes) / elemSize o.dtype)

/-- SIG of the count phase. -/
def State.countSig (s : State) (o : Op) : Nat := sigOf (s.postJobId o) o.group o.seq o.coll 3 0 1 8
/-- SIG of what this member sends to a member. -/
def State.sigTo (s : State) (o : Op) (m : Nat) : Nat := s.dataSig o (o.toSend.getD m 0)
/-- SIG of what a member sends to this one. -/
def State.sigFrom (s : State) (o : Op) (m : Nat) : Nat := s.dataSig o (look 0 o.counts m)

/-- A packet of a post to a member. -/
def State.postSend (s : State) (o : Op) (m : Nat) (p : WirePkt) : State :=
  let j := s.groupJob o.group
  s.wireTo j (s.memberRank o.group m)
    { p with srcRank := s.selfRank j, jobId := s.jobId j, group := o.group, seq := o.seq, age := s.clk.now / 8 % 2 ^ 32 }

/-! ### Output (R267, R289) -/

/-- Bytes of the output: for ALL_TO_ALLV the total received. -/
def State.outLen (s : State) (o : Op) : Nat := if o.coll = 5 then sumL (o.recvCounts (s.groupN o.group)) else s.outBytes o

/-- A rotation's buffer lies in RING_VA at the receiver (R289); every other output at POST_DST. -/
def Op.outVa (o : Op) : Nat := if o.opc = 7 ∧ o.coll = 7 then o.f 0x78 8 + o.rot % 2 * o.bytes else o.dst

/-! ### Failures of a collective (R319, R352-R354) -/

/-- Every line that a post has written at its output is poisoned (R319): in pools (R130) or in stack (R187). -/
def State.poisonOut (s : State) (c : Nat) (o : Op) (chunks : List Nat) : State :=
  chunks.foldl (fun s i =>
    let n := min o.chunk (s.outLen o - i * o.chunk)
    if o.toPools ∧ o.opc ≠ 7 then
      match (rectPos o.c0 o.c1 o.r0 o.r1)[i]? with
      | some k => s.poolWrite k (o.dst % 0x10000) (s.poolRead k (o.dst % 0x10000) n) true
      | none => s
    else s.vaPoison c (o.outVa + i * o.chunk) n) s

/-- A collective fails at this member: the lines of its output are poisoned, and the context fails with the code; the hold sends the ABORT
unless an ABORT brought the failure. -/
def State.collFail (s : State) (c : Nat) (o : Op) (code : Nat) (silent : Bool) : State :=
  (s.poisonOut c o o.outDone).failOp c o.opn code false silent

/-- A check failure of the Confluence (R352, R353). -/
def State.checkFail (s : State) (c : Nat) (o : Op) : State := (s.incSat (rg clsCf 12 0x110)).collFail c o cCollCheckFail false

/-- What the FP adder residue finds in a wrong sum of two lines (R93, R335): `site` is the lane. -/
def addLineCheck (dtype : Nat) (a b : Line) (u : Upset) : Option CheckErr :=
  match u with
  | .raw lane _ z =>
    if dtype = 1 ∧ lane < 32 then checkAdd (decBf (at' a (2 * lane) 2)) (decBf (at' b (2 * lane) 2)) z
    else if dtype ≠ 1 ∧ lane < 16 then checkAdd (dec32 (BitVec.ofNat 32 (at' a (4 * lane) 4))) (dec32 (BitVec.ofNat 32 (at' b (4 * lane) 4))) z
    else none
  | .copies x y => some ⟨3, res255 x, res255 y⟩
  | _ => none

/-- The failed check among the additions made, and the offset of its line: the step of a residue failure counts those additions; which one
two copies disagree in is the free number `v`. -/
def addsCheck (dtype : Nat) (adds : List (Nat × Line × Line)) (v : Nat) (u : Upset) : Option (Nat × CheckErr) :=
  let at? : Option (Nat × Line × Line) :=
    match u with
    | .raw _ step _ => adds[step]?
    | _ => adds[v % max 1 adds.length]?
  at?.bind (fun e => (failedCheck u (addLineCheck dtype e.2.1 e.2.2 u)).map (fun x => (64 * e.1, x)))

/-- A mismatch found by an addition of the post (R352). Which unit made the addition is a free value among those in service (log 44). A failure
of that unit while the context replays what an earlier failure of it caused fences the unit (R354): the context has then entered a hold since,
which its RILL_EPOCH shows, and no commit point has come. -/
def State.adderFail (s : State) (c : Nat) (o : Op) (off : Nat) (e : CheckErr) : State :=
  let (v, s) := s.draw64
  let t := o.home
  let ok := s.regF (rg clsCf t 0x100) 8 2
  let u := if ok = 3 then v.toNat % 2 else if ok = 2 then 1 else 0
  let items : List (Nat × List Byte) := [itResidue { e with kind := u }, itPost o.group o.seq 0 off]
  let s := (s.incSat (rg clsCf t 0x10C)).cairnLog 5 clsCf t cCollCheckFail c items
  let key := (2 * t + u) * 17 + c
  let s := match look? s.adderFails key with
    | some e0 =>
      if e0 = s.rillEpoch c then s
      else
        let left := ok - 2 ^ u
        let s := (s.setF (rg clsCf t 0x100) 8 2 left).cairnLog 6 clsCf t cCollCheckFail c items
        if left = 0 then (s.pageFault clsCf t id).cfSync else s
    | none => { s with adderFails := put s.adderFails key (s.rillEpoch c) }
  s.checkFail c o

/-! ### Grants (R317, R346) -/

/-- Ends of the chunks of a flow. -/
def chunkEnds (chunk : Nat) : Nat → List Item → List Nat
  | _, [] => []
  | base, it :: t =>
    (List.range ((it.len + chunk - 1) / chunk)).map (fun m => base + min it.len ((m + 1) * chunk)) ++ chunkEnds chunk (base + it.len) t

/-- The limit that this member gives to a member: for a reduction, four chunks from the one that it will add next; otherwise all. -/
def State.grantLimit (s : State) (o : Op) (plan : List (Nat × Item)) (m : Nat) : Nat :=
  let items := itemsOf plan m
  let total := sumL (items.map (·.len))
  if o.reduces then
    let ps := pieces o.chunk 0 items
    let upto := match ps.find? (fun p => !s.pieceUsed o plan m p) with
      | some p => p.off
      | none => total
    let ends := chunkEnds o.chunk 0 items
    ends.getD ((ends.filter (fun e => decide (e ≤ upto))).length + 3) total
  else total

/-- GRANTs sent where the limit is higher than the one last given. Under ALL_TO_ALLV they wait for the end of the count phase (R322). -/
def State.postGrants (s : State) (c opn : Nat) : State :=
  match s.op? c opn with
  | none => s
  | some o =>
    if o.coll = 5 ∧ s.countsIn o = false then s
    else
      let plan := s.inPlan o
      let from' := (s.doneFrom o).foldl ins (membersOf plan)
      let (s, o) := from'.foldl (fun (a : State × Op) m =>
        let (s, o) := a
        let limit := s.grantLimit o plan m
        let due : Bool := match look? o.granted m with
          | none => true
          | some g => decide (g < limit)
        if due then
          (s.postSend o m { s.wireBlank (s.groupJob o.group) with
             type := 1, cls := 1, sig := s.sigFrom o m, arg := s.groupSelf o.group, arg2 := limit },
           { o with granted := put o.granted m limit })
        else a) (s, o)
      s.setOp c o

/-! ### Data sent (R317) -/

/-- Packets whose bytes are there and lie below the member's limit go out, to the members i + 1, i + 2, ... modulo N in that order. -/
def State.postData (s : State) (c opn : Nat) : State :=
  match s.op? c opn with
  | none => s
  | some o =>
    let ins' := s.inPlan o
    let out := s.outPlan o
    let peers := (othersOf (s.groupN o.group) (s.groupSelf o.group)).filter (membersOf out).contains
    let (s, o) := peers.foldl (fun (a : State × Op) m =>
      match look? o.limits m with
      | none => a
      | some limit =>
        let items := itemsOf out m
        let total := sumL (items.map (·.len))
        (pieces o.chunk 0 items).foldl (fun (a : State × Op) p =>
          let (s, o) := a
          if o.sent.contains (m, p.off) || decide (limit < p.off + p.len) then a
          else match s.pieceBytes o ins' p with
            | none => a
            | some b =>
              (s.postSend o m { s.wireBlank (s.groupJob o.group) with
                 type := 2, cls := if o.reduces then 2 else 0, last := decide (p.off + p.len = total), sig := s.sigTo o m, offset := p.off,
                 arg := p.cidx, payload := b },
               { o with sent := o.sent ++ [(m, p.off)] })) a) (s, o)
    s.setOp c o

/-- Mark of a done chunk among the chunks sent. -/
abbrev doneMark : Nat := 2 ^ 40

/-- Done chunks (R317): at COMPUTE_DONE, and from member 0 of a BARRIER when every member has sent its own. -/
def State.postDones (s : State) (c opn : Nat) : State :=
  match s.op? c opn with
  | none => s
  | some o =>
    let ready := decide (3 ≤ o.stage) && (o.coll != 8 || s.groupSelf o.group != 0 || (s.doneFrom o).all (fun m => o.dones.contains m))
    if ready then
      let (s, o) := (s.doneTo o).foldl (fun (a : State × Op) m =>
        let (s, o) := a
        if o.sent.contains (m, doneMark) || (look? o.limits m).isNone then a
        else (s.postSend o m { s.wireBlank (s.groupJob o.group) with type := 2, last := true, sig := s.sigTo o m },
              { o with sent := o.sent ++ [(m, doneMark)] })) (s, o)
      s.setOp c o
    else s

/-! ### Contributions (R269, R338) -/

/-- Bytes that the input has from each source. -/
def Op.inLen (o : Op) : Nat := if o.coll = 5 then sumL o.toSend else o.bytes

/-- Has every contribution that the post expects arrived (R269)? -/
def State.inputsIn (s : State) (o : Op) : Bool :=
  if s.doneInput o then o.reaches.all (fun r => o.cin.any (fun e => e.1 == r))
  else if o.reduces then o.reaches.all (fun r => covers o.cin r 0 o.bytes)
  else covers o.cin 63 0 o.inLen

/-- Contributions that have been consumed are acknowledged (R338; log 40). -/
def State.postAcks (s : State) (c opn : Nat) : State :=
  match s.op? c opn with
  | none => s
  | some o =>
    let plan := s.inPlan o
    let out := s.outPlan o
    let used (p : Packet) : Bool := !o.reduces || s.consumed o plan out (reachOf p.scol p.srow) p.addr p.len
    (o.unconsumed.filter used).foldl (fun s p => s.inject (p.ack 0)) (s.setOp c { o with unconsumed := o.unconsumed.filter (fun p => !used p) })

/-! ### Output written (R267, R270, R272, R344) -/

/-- Stretches of the output in order: place, bytes, member they come from, place in the input where that is this member. -/
def State.outSegs (s : State) (o : Op) : List (Nat × Nat × Nat × Nat) :=
  let n := s.groupN o.group
  let i := s.groupSelf o.group
  let p := o.bytes
  if o.coll = 3 then (List.range n).map (fun j => (j * p, p, j, 0))
  else if o.coll = 4 then (List.range n).map (fun j => (j * (p / n), p / n, j, i * (p / n)))
  else if o.coll = 5 then
    (List.range n).map (fun j => ((preSums 0 (o.recvCounts n)).getD j 0, (o.recvCounts n).getD j 0, j, (preSums 0 o.toSend).getD i 0))
  else if o.coll = 6 then [(0, p, (s.memberOf o.group o.root).getD 0, 0)]
  else [(0, p, (i + n - 1) % n, 0)]

/-- Bytes [a, a + n) of the output, if they are there. -/
def State.outBytesAt (s : State) (o : Op) (a n : Nat) : Option (List Byte) :=
  if o.reduces then
    let first := (if o.coll = 1 then s.groupSelf o.group * (o.bytes / max 1 (s.groupN o.group)) else 0) + a
    joinLines ((List.range (n / 64)).map (fun j => s.resultLine o (s.inPlan o) (first / 64 + j)))
  else
    joinLines ((s.outSegs o).filterMap (fun g =>
      let lo := max a g.1
      let hi := min (a + n) (g.1 + g.2.1)
      if hi ≤ lo then none
      else some (if g.2.2.1 = s.groupSelf o.group then o.inBytes 63 (g.2.2.2 + (lo - g.1)) (hi - lo) else o.gotBytes g.2.2.1 (lo - g.1) (hi - lo))))

/-- Chunks of the output. -/
def State.outChunks (s : State) (o : Op) : Nat := (s.outLen o + o.chunk - 1) / o.chunk

/-- Packets that write a chunk to a pool. -/
def State.poolChunk (s : State) (c : Nat) (o : Op) (k : Nat) (b : List Byte) : State × List Nat :=
  (List.range ((b.length + 4095) / 4096)).foldl (fun (a : State × List Nat) m =>
    let (xid, s) := a.1.fresh
    let piece := (b.drop (4096 * m)).take 4096
    (s.inject { Packet.blank with
       srcEdge := true, scol := 3 * (o.home % 12), dcol := rcol k, drow := rrow k, kind := 1, pool := true, ackReq := true, len := piece.length,
       ctx := c, addr := o.dst % 65536 + 4096 * m, epoch := s.rillEpoch c, payload := piece, xid },
     a.2 ++ [xid])) (s, [])

/-- Are digests sent (R355, R356)? -/
def State.paired (s : State) : Bool :=
  let m := s.regF (rg clsCf 12 0x100) 0 2
  (m == 1 || m == 2) && (s.plane == 1 || s.plane == 2)
/-- Are digests compared: not while TWIN_LOST is set (R358)? -/
def State.pairing (s : State) : Bool := s.paired && !s.regB (rg clsCf 12 0x108) 0

/-- A pair of digests compared (R357). -/
def State.digestCheck (s : State) (c : Nat) (o : Op) (idx : Nat) : State :=
  match look? o.own idx, look? o.twin idx with
  | some (mine, _), some (sig, theirs) =>
    if sig = s.dataSig o 0 ∧ theirs = mine then s
    else
      let s := (s.incSat (rg clsCf 12 0x114)).setB (rg clsCf 12 0x108) 1 true
      let s := s.cairnLog 5 clsCf (min o.home 12) cCollMismatch c [itPost o.group o.seq idx (idx * o.chunk), itCheck mine theirs]
      if s.regF (rg clsCf 12 0x100) 0 2 = 2 then s.collFail c o cCollCheckFail false else s
  | _, _ => s

/-- A pair of an operation's digests compared. -/
def State.digestCompare (s : State) (c opn idx : Nat) : State :=
  match s.op? c opn with
  | none => s
  | some o => if s.pairing then s.digestCheck c o idx else s

/-- The digest of an output chunk computed, and sent to the twin (R356). -/
def State.digestSend (s : State) (c : Nat) (o : Op) (idx : Nat) (b : List Byte) : State :=
  if s.paired ∧ o.coll ≠ 0 then
    let v := crc64Run 0 b
    let j := s.groupJob o.group
    let s := s.setOp c { o with own := put o.own idx (v, s.clk.now) }
    let s := s.wireOut { s.wireBlank j with
      type := 9, cls := 2, dst := s.selfCoord, dstTwin := true, dstRank := s.selfRank j, group := o.group, seq := o.seq,
      sig := s.dataSig o 0, age := s.clk.now / 8 % 2 ^ 32, offset := idx * o.chunk, arg := idx, arg2 := v } none
    s.digestCompare c o.opn idx
  else s.setOp c o

/-- One output chunk written (R267, R270, R272). -/
def State.outWrite (s : State) (c : Nat) (o : Op) (idx : Nat) (b : List Byte) : State :=
  let o := { o with outDone := o.outDone ++ [idx] }
  if o.toPools ∧ o.opc ≠ 7 then
    match (rectPos o.c0 o.c1 o.r0 o.r1)[idx]? with
    | some k =>
      if s.present k then
        let (s, xs) := s.poolChunk c o k b
        s.digestSend c { o with outAcks := o.outAcks ++ xs } idx b
      else (s.setOp c o).failOp c o.opn cHoleCreated false false
    | none => s.setOp c o
  else
    match s.vaWrite 12 c (o.outVa + idx * o.chunk) b false with
    | (0, s) => s.digestSend c o idx b
    | (code, s) => (s.setOp c { o with outDone := o.outDone.dropLast }).failOp c o.opn code false false

/-- Every output chunk whose bytes are there is written. -/
def State.postOut (s : State) (c opn : Nat) : State :=
  match s.op? c opn with
  | none => s
  | some o =>
    if o.coll = 5 ∧ s.countsIn o = false then s
    else (List.range (s.outChunks o)).foldl (fun s idx =>
      match s.op? c opn with
      | none => s
      | some o =>
        if o.outDone.contains idx then s
        else match s.outBytesAt o (idx * o.chunk) (min o.chunk (s.outLen o - idx * o.chunk)) with
          | some b => s.outWrite c o idx b
          | none => s) s

/-! ### Stages (R258, R269) -/

/-- Are all digests in where the pair mode holds POST_DONE (R355, R358)? -/
def State.digestsIn (s : State) (o : Op) : Bool :=
  !(s.pairing && s.regF (rg clsCf 12 0x100) 0 2 == 2 && o.coll != 0)
    || (List.range (s.outChunks o)).all (fun i => (look? o.own i).isNone || (look? o.twin i).isSome)

/-- Is the post complete (R258)? Everything sent, everything written and answered. -/
def State.postOver (s : State) (o : Op) : Bool :=
  decide (3 ≤ o.stage) && (o.coll != 5 || s.countsIn o)
    && (List.range (s.outChunks o)).all (fun i => o.outDone.contains i) && o.outAcks.isEmpty
    && (membersOf (s.outPlan o)).all (fun m => (pieces o.chunk 0 (itemsOf (s.outPlan o) m)).all (fun p => o.sent.contains (m, p.off)))
    && (s.doneTo o).all (fun m => o.sent.contains (m, doneMark)) && (s.doneFrom o).all (fun m => o.dones.contains m)
    && s.digestsIn o

/-- A commit point that waits takes its place by OPN. -/
def addPoint (p : Point) : List Point → List Point
  | [] => [p]
  | x :: t => if p.opn < x.opn then p :: x :: t else x :: addPoint p t

/-- Commit points whose operations are all POST_DONE now: the gradient frames sent by then are noted (R379). -/
def State.pointsDone (s : State) (c : Nat) : State :=
  let q := s.seqr c
  let sent := (s.grads.filter (fun g => g.ctx == c && g.sent)).map (fun g => (g.step, g.seq, g.rank))
  s.setSeqr c { q with points := q.points.map (fun (x : Point) =>
    if x.done = false ∧ decide (x.opn < q.next ∨ q.lists.all (fun l => decide (l.opn0 + l.entries ≤ q.next))) ∧ q.ops.all (fun o => decide (x.opn < o.opn))
    then { x with done := true, grads := sent } else x) }

/-- An operation is complete (R258): its slots are free, and under profile F a layer's end is a commit point (R378). -/
def State.opComplete (s : State) (c : Nat) (o : Op) : State :=
  let s := s.releasePost o
  let q := s.seqr c
  let past := if o.rebuild ∨ o.coll = 0 then q.past
    else q.past ++ [{ o with cin := [], inp := [], got := [], gotMem := [], unconsumed := [], sent := [] }]
  let points := if o.layerEnd && !o.rebuild && s.profileOf c == 1 then addPoint ⟨o.opn, 0, false, []⟩ q.points else q.points
  let s := s.setSeqr c { q with ops := q.ops.filter (fun x => !(x.opn == o.opn && x.rebuild == o.rebuild)), past, points }
  s.cfSync.pointsDone c

/-- The keys of a post are kept from its admission: those of an ended post with the same sequence number are not its own (R302; log 56). -/
def State.dropPostKeys (s : State) (o : Op) : State :=
  { s with keys := s.keys.filter (fun e => !(e.2.isSome && [2, 3, 9].contains (e.1.getD 2 0) && e.1.getD 1 0 == s.postJobId o
      && e.1.getD 3 0 == o.group && e.1.getD 4 0 == o.seq)) }

/-- A rotation begins (R289): its input is the buffer received by the last one. A buffer that cannot be read fails the operation. -/
def State.nextRotation (s : State) (c : Nat) (o : Op) : State :=
  let s := s.retirePost o
  match s.vaRead c o.outVa o.bytes with
  | (.inl code, s) => s.failOp c o.opn code false false
  | (.inr b, s) =>
    (s.dropPostKeys { o with seq := o.seq + 1 }).setOp c { o with
      rot := o.rot + 1, seq := o.seq + 1, cin := [(63, 0, o.bytes)], inp := writeBytes [] (63 * 2 ^ 33) b, got := [], gotMem := [], limits := [],
      granted := [], sent := [], outDone := [], own := [], twin := [], progress := s.clk.now }

/-- Does an ATTN operation wait to begin its next rotation (R289)? -/
def Op.rotates (o : Op) : Bool := o.opc == 7 && o.coll == 7 && decide (o.rot + 1 < o.ring)

/-- The next rotation begins once this module has begun the step before it and its successor has finished the one before that (R289). No message of
the spec tells the module how far the rills have folded, so whether both hold by now is a free value (log 104). -/
def State.rotationBegin (s : State) (c : Nat) (o : Op) : State :=
  let (v, s) := s.draw64
  if v.toNat % 2 = 1 then s.nextRotation c o else s

/-- COMPUTE_DONE and POST_DONE where they are reached. -/
def State.postStages (s : State) (c opn : Nat) : State :=
  match s.op? c opn with
  | none => s
  | some o =>
    let o := if o.stage = 2 ∧ s.inputsIn o then { o with stage := 3 } else o
    let s := s.setOp c o
    if s.postOver o then
      (if o.rotates then s.rotationBegin c o else s.opComplete c o)
    else s

/-- Everything that a post can do now. `postSteps` is one round; a member that has just reached COMPUTE_DONE may send its done chunk, and a
new rotation may begin, so the round is made again. -/
def State.postSteps (s : State) (c opn : Nat) : State :=
  (((((s.postGrants c opn).postAcks c opn).postData c opn).postOut c opn).postDones c opn).postStages c opn

/-! ### Early packets (R317, R322) -/

/-- Does an early packet belong to the post? -/
def State.forPost (s : State) (o : Op) (p : WirePkt) : Bool :=
  p.type != 6 && p.jobId == s.postJobId o && p.group == o.group && p.seq == o.seq

/-- A GRANT taken in (R317, R319): a wrong SIG is a mismatch; a limit never falls. -/
def State.takeGrant (s : State) (c : Nat) (o : Op) (p : WirePkt) : State :=
  match s.memberOf o.group p.srcRank with
  | none => s
  | some m =>
    if p.sig ≠ s.sigTo o m then s.collFail c o cCollMismatch false
    else if look 0 o.limits m < p.arg2 then s.setOp c { o with limits := put o.limits m p.arg2, progress := s.clk.now }
    else if (look? o.limits m).isNone then s.setOp c { o with limits := put o.limits m 0 }
    else s

/-- A COUNT taken in (R322): written at COUNT_VA + 8N + 8i; the last one is checked against POST_BYTES. -/
def State.takeCount (s : State) (c : Nat) (o : Op) (m count sig : Nat) : State :=
  if sig ≠ s.countSig o then s.collFail c o cCollMismatch false
  else
    let n := s.groupN o.group
    match s.vaWrite 12 c (o.countVa + 8 * n + 8 * m) (leBytes 8 count) false with
    | (0, s) =>
      let o := { o with counts := put o.counts m count, progress := s.clk.now }
      let s := s.setOp c o
      if s.countsIn o ∧ o.bytes < sumL (o.recvCounts n) then s.collFail c o cCollMismatch false else s
    | (code, s) => s.failOp c o.opn code false false

/-- A twin's DIGEST taken in (R357). -/
def State.takeDigest (s : State) (c : Nat) (o : Op) (p : WirePkt) : State :=
  (s.setOp c { o with twin := put o.twin p.arg (p.sig, p.arg2) }).digestCompare c o.opn p.arg

/-- GRANTs, COUNTs and DIGESTs that came before the post was admitted, or before its rotation began. -/
def State.takeEarly (s : State) (c opn : Nat) : State :=
  match s.op? c opn with
  | none => s
  | some o =>
    let mine := s.early.filter (s.forPost o)
    mine.foldl (fun s p =>
      match s.op? c opn with
      | none => s
      | some o => if p.type = 1 then s.takeGrant c o p
        else if p.type = 9 then s.takeDigest c o p
        else match s.memberOf o.group p.srcRank with
          | some m => s.takeCount c o m p.arg2 p.sig
          | none => s)
      { s with early := s.early.filter (fun p => !s.forPost o p) }

/-- The lines that a post's stages hold, noted, parked where it is staged (R349), and shown by the registers. -/
def State.noteHeld (s : State) (c opn : Nat) : State :=
  match s.op? c opn with
  | none => s.cfSync
  | some o =>
    let l := s.heldLines o
    let (s, o) := s.parkAll c o l
    (s.setOp c { o with held := (List.range 4).map (fun d => countIf (fun (h : HeldLine) => h.level == d) l) }).cfSync

/-- The post does all it can, for as many rounds as it may have (a rotation each, and one more). -/
def State.postPump (s : State) (c opn : Nat) : State :=
  match s.op? c opn with
  | none => s
  | some o =>
    if o.stage = 0 then s
    else if s.stagePois c o then s.checkFail c o
    else ((List.range (if o.opc = 7 then o.ring + 2 else 2)).foldl (fun s _ => (s.takeEarly c opn).postSteps c opn) s).noteHeld c opn

/-- The operations of a context that rotate go on where they can: its rills have read memory, and may have folded further (R289; log 104). -/
def State.rotationsDue (s : State) (c : Nat) : State :=
  if c ≤ 16 then ((s.seqr c).ops.filter Op.rotates).foldl (fun s o => s.postPump c o.opn) s else s

end Sys2Proof.Machine
end

