-- ==== Sys2Proof/Machine/MemEp.lean ====
section
/-! DEFINITION. Memory endpoints (05 R161-R163, 06 R178-R203): SREAD, SWRITE, SFILL, SDRAIN, TRANSLATION_WALK_DONE and
STACK_ACCESS_COMPLETE, and the pool answers that an endpoint receives. -/

namespace Sys2Proof.Machine

/-- The translation unit of a memory endpoint: its chiplet's number (R178, R199). -/
def memUnit (ep : Nat) : Nat := ([1, 5, 8, 10, 14, 17, 19, 23, 26, 28, 32, 35] : List Nat).idxOf ep

/-- A request that checks WR (R200). -/
def Packet.wantsWr (p : Packet) : Bool := p.kind == 0x12 || p.kind == 0x14

/-- Same stream at one endpoint (R163): the source, the queue and the context. -/
def sameStream (p q : Packet) : Bool :=
  p.dcol == q.dcol && p.scol == q.scol && p.srow == q.srow && p.tag % 8 == q.tag % 8 && p.ctx == q.ctx

/-- The answer of a request that failed (R163, R188, R201): SDATA of zero bytes with POISON, or ACK; the ACK of a request answered
REGION_LOST by a FAULTED stack, or of an SFILL that met WALK_ECC, carries POISON. -/
def Packet.memFail (p : Packet) (code : Nat) (poison : Bool) : Packet :=
  if p.kind = 0x10 then p.sdata (List.replicate p.len 0) true code else { p.ack code with poison }

/-- Are all earlier SREADs of the request's stream answered (R163)? -/
def State.turnOf (s : State) (n : Nat) (r : MemReq) : Bool :=
  r.pkt.kind != 0x10 || !(s.memReqs.take n).any (fun x => x.pkt.kind == 0x10 && sameStream x.pkt r.pkt)

/-- The n-th request leaves. -/
def State.memDrop (s : State) (n : Nat) : State := { s with memReqs := dropAt s.memReqs n }

/-- Requests that have failed are answered as their turn comes. -/
def State.memFlush (s : State) : Nat → State
  | 0 => s
  | f + 1 =>
    match (List.range s.memReqs.length).find? (fun n =>
        match s.memReqs[n]? with
        | some r => r.stage == 4 && s.turnOf n r
        | none => false) with
    | none => s
    | some n => match s.memReqs[n]? with
      | none => s
      | some r => ((s.memDrop n).inject (r.pkt.memFail r.code r.poison)).memFlush f

/-- POISON of the ACK of a request that failed with a KIND (R188, R201). -/
def xlPoison (kind : Nat) (wr : Bool) : Bool := kind == 9 || (kind == 7 && !wr)

/-- Walks in progress at a unit (R199). -/
def State.walkers (s : State) (unit : Nat) : Nat := countIf (fun (r : MemReq) => r.walk.isSome && memUnit r.pkt.dcol == unit) s.memReqs

/-- Request n is translated as far as its unit can now: to its segments, to a failure, or until a page needs a walk, which starts where fewer
than 32 are in progress at the unit (R198-R201, R210). -/
def State.memTranslate (s : State) (n : Nat) (r : MemReq) : State :=
  let p := r.pkt
  let unit := memUnit p.dcol
  match s.xlTry unit p.ctx p.wantsWr (p.len / 4096 + 2) p.addr p.len with
  | .inl va =>
    if s.walkers unit < 32 then { s.walkStart p.ctx with memReqs := setAt s.memReqs n { r with walk := some va, walkOld := false } } else s
  | .inr (.inl e) =>
    { s.xlLatch p.ctx e p.wantsWr with
      memReqs := setAt s.memReqs n { r with stage := 4, code := xlCode e.kind p.wantsWr, poison := xlPoison e.kind p.wantsWr } }
  | .inr (.inr l) => { s with memReqs := setAt s.memReqs n { r with stage := 1, segs := l } }

/-- The requests of a unit that wait for a walk go on, in order of arrival. -/
def State.memWalks (s : State) (unit : Nat) : State :=
  (List.range s.memReqs.length).foldl (fun s n =>
    match s.memReqs[n]? with
    | some r => if r.stage = 0 ∧ r.walk.isNone ∧ memUnit r.pkt.dcol = unit then s.memTranslate n r else s
    | none => s) s

/-- Failed requests are answered as their turn comes, and those that wait go on. -/
def State.memGo (s : State) (unit : Nat) : State :=
  let s := s.memWalks unit
  s.memFlush s.memReqs.length

/-- A request fails; it is answered when its turn comes. -/
def State.memFailed (s : State) (n : Nat) (r : MemReq) (code : Nat) (poison : Bool) : State :=
  { s with memReqs := setAt s.memReqs n { r with stage := 4, code, poison, walk := none } }.memGo (memUnit r.pkt.dcol)

/-- A request arrives at a memory endpoint (R163, R179): a failure without a walk, a TLB hit, or a walk. -/
def execMemRequest (i kind : Nat) (s : State) : Host.Outcome State Fault Refusal :=
  s.packetRow i kind false (fun p s =>
    let r : MemReq := { pkt := p, stage := 0, segs := [], code := 0, poison := false, data := [], xid := 0, old := false, walk := none, walkOld := false }
    let n := s.memReqs.length
    let s := { s with memReqs := s.memReqs ++ [r] }
    match s.xlEarly p.ctx p.addr p.len with
    | some e => (s.xlLatch p.ctx e p.wantsWr).memFailed n r (xlCode e.kind p.wantsWr) false
    | none => s.memGo (memUnit p.dcol))

/-- SREAD at a memory endpoint. -/
def execSread (i : Nat) (s : State) : Host.Outcome State Fault Refusal := execMemRequest i 0x10 s
/-- SWRITE at a memory endpoint. -/
def execSwrite (i : Nat) (s : State) : Host.Outcome State Fault Refusal := execMemRequest i 0x12 s
/-- SFILL at a memory endpoint. -/
def execSfill (i : Nat) (s : State) : Host.Outcome State Fault Refusal := execMemRequest i 0x13 s
/-- SDRAIN at a memory endpoint. -/
def execSdrain (i : Nat) (s : State) : Host.Outcome State Fault Refusal := execMemRequest i 0x14 s

/-- TRANSLATION_WALK_DONE: the walk in progress for the i-th request that a memory endpoint holds ends (R198, R199); where none is
in progress for it, the requests of its unit that wait go on. -/
def execTranslationWalkDone (i : Nat) (corrected : Corrected) (s : State) : Host.Outcome State Fault Refusal :=
  match s.memReqs[i]? with
  | none => .next s
  | some r =>
    match r.walk with
    | none => .next (s.memGo (memUnit r.pkt.dcol))
    | some va =>
      let p := r.pkt
      .next (match (s.eccCorr corrected).walkEnd (memUnit p.dcol) p.ctx va with
        | (.inl e, s) => (s.xlLatch p.ctx e p.wantsWr).memFailed i r (xlCode e.kind p.wantsWr) (xlPoison e.kind p.wantsWr)
        | (.inr _, s) => { s with memReqs := setAt s.memReqs i { r with walk := none } }.memGo (memUnit p.dcol))

/-- Request n is answered. -/
def State.memAnswer (s : State) (n : Nat) (a : Packet) : State :=
  let s := (s.memDrop n).inject a
  s.memFlush s.memReqs.length

/-- The pool packet of an SFILL or SDRAIN (R163): WRITE with the data, or READ. -/
def MemReq.poolPacket (r : MemReq) (k off xid : Nat) (data : List Byte) (poison : Bool) : Packet :=
  let p := r.pkt
  { Packet.blank with
    dcol := rcol k, drow := rrow k, srcEdge := true, scol := p.dcol, kind := if p.kind = 0x13 then 1 else 2, pool := true, poison,
    ackReq := p.kind == 0x13, len := p.len, tag := p.tag, slot := p.slot, ctx := p.ctx, addr := off, epoch := p.epoch, payload := data, xid }

/-- The pool packet of request n is sent, and its payload passes the stream's gauges (R170): a bad pool address, or no route, answers CMD_MALFORMED. -/
def State.memToPool (s : State) (n : Nat) (r : MemReq) (data : List Byte) (poison : Bool) : State :=
  match tilePool (r.pkt.arg : Int) r.pkt.len with
  | none => s.memFailed n r cMalformed false
  | some (k, off) =>
    let (xid, s) := s.fresh
    let q := r.poolPacket k off xid data poison
    match s.inject? q with
    | none => (s.unreachable q).memFailed n r cMalformed false
    | some s =>
      let s := s.feedStream r.pkt.dcol 0 r.pkt.scol r.pkt.srow (r.pkt.tag % 8) r.pkt.ctx data
      { s with memReqs := setAt s.memReqs n { r with stage := 2, xid } }

/-- STACK_ACCESS_COMPLETE: the stack access of the i-th request (R163, R187, R188). An SDRAIN first reads its pool. A request to a stack
that has failed since is answered REGION_LOST. -/
def execStackAccessComplete (i : Nat) (corrected : Corrected) (s : State) : Host.Outcome State Fault Refusal :=
  match s.memReqs[i]? with
  | none => .next s
  | some r => whenB ((r.stage == 1 || r.stage == 3) && s.turnOf i r) s (fun s =>
      let p := r.pkt
      let s := s.eccCorr corrected
      match s.segsKind r.segs with
      | some k => s.memFailed i r (xlCode k p.wantsWr) (xlPoison k p.wantsWr)
      | none =>
        if p.kind = 0x10 then (s.memAnswer i (p.sdata (s.segsRead r.segs) (s.segsPois r.segs) 0)).rotationsDue p.ctx
        else if p.kind = 0x12 then (s.segsWrite r.segs (p.payload.take p.len) p.poison).memAnswer i (p.ack 0)
        else if p.kind = 0x13 then (s.memToPool i r (s.segsRead r.segs) (s.segsPois r.segs)).rotationsDue p.ctx
        else if r.stage = 1 then s.memToPool i r [] false
        else (s.segsWrite r.segs r.data r.poison).memAnswer i (p.ack 0))

/-- The pool's answer, which passes the stream's gauges (R170), to the SFILL or SDRAIN that sent the packet, if one of the endpoint's requests awaits it. -/
def State.memPoolAnswer? (s : State) (p : Packet) : Option State :=
  match (List.range s.memReqs.length).find? (fun n => (s.memReqs[n]?.map (fun r => r.stage == 2 && r.xid == p.xid)).getD false) with
  | none => none
  | some n => match s.memReqs[n]? with
    | none => none
    | some r =>
      some (if p.kind = 3 then
          let s := s.feedStream r.pkt.dcol 1 r.pkt.scol r.pkt.srow (r.pkt.tag % 8) r.pkt.ctx p.payload
          { s with memReqs := setAt s.memReqs n { r with stage := 3, data := padTo r.pkt.len (p.payload.take r.pkt.len), poison := p.poison } }
        else s.memAnswer n (r.pkt.ack (p.arg % 0x10000)))

end Sys2Proof.Machine
end

