-- ==== Sys2Proof/Machine/Sequencer.lean ====
section
/-! DEFINITION. The op sequencer (08 R254-R264, R271, 10 R346-R351, 14 R480): admission, reservations, OPSTARTs, image loads in order.
OP_ADMIT, SLOT_RESERVATION_GRANT and REDUCE_FALLBACK. -/

namespace Sys2Proof.Machine

/-! ### Image loads (R480, R148) -/

/-- May the first image load that waits begin: has every operation of the earlier run lists started (R480)? -/
def Seqr.loadDue (q : Seqr) (l : ImgLoad) : Bool :=
  q.lists.all (fun r => decide (l.after ≤ max q.next r.opn0) || decide (r.opn0 + r.entries ≤ max q.next r.opn0))
    && q.ops.all (fun o => decide (l.after ≤ o.opn) || decide (2 ≤ o.stage))

/-- An image load ends with its DONE record: rills loaded and entries of the replay set (R478). -/
def State.endLoad (s : State) (c h code rills : Nat) : State :=
  let q := s.seqr c
  (s.setSeqr c { q with loads := q.loads.filter (fun l => l.handle != h) }).endLong c h code (leBytes 4 rills ++ leBytes 4 (s.regN (aRc c 0x2C)))

/-- The image load at the front begins where it may: an image that cannot be read or is refused, or a 1,025th entry of the replay set, ends
it with CMD_MALFORMED (R59, R384); otherwise its rills stop (R148). -/
def State.beginFront (s : State) (c : Nat) : State :=
  let q := s.seqr c
  match q.loads with
  | [] => s
  | l :: rest =>
    if l.begun || s.rstate c != 0 || !q.loadDue l then s
    else
      match s.vaRead c l.va l.len with
      | (.inl _, s) => s.endLoad c l.handle cMalformed 0
      | (.inr b, s) =>
        match replayAdd (s.rcv c).images (imgEntry l.va b) with
        | none => s.endLoad c l.handle cMalformed 0
        | some _ =>
          if imageOk b l.len then
            let s := s.setSeqr c { s.seqr c with loads := { l with begun := true, image := b } :: rest }
            (s.imgRills b).foldl (fun s k => s.beginLoad c k) s
          else s.endLoad c l.handle cMalformed 0

/-- Image loads begin in order; a refused one makes room for the next. -/
def State.imgPump (s : State) (c : Nat) : State := (List.range ((s.seqr c).loads.length + 1)).foldl (fun s _ => s.beginFront c) s

/-- The rills of the begun load of a handle that are still to be written, in order; none where it does not run. -/
def State.toLoad (s : State) (c h : Nat) : Option (List Nat) :=
  match (s.seqr c).loads with
  | l :: _ => if l.handle = h ∧ l.begun = true ∧ s.rstate c = 0 then some ((s.imgRills l.image).drop l.done) else none
  | [] => none

/-- The load at the front writes rills (R60), each without an answer to wait for (R148); CANCEL is refused from the first one on, and the
progress is the number of rills loaded (R485). -/
def State.loadOn (s : State) (c : Nat) (ks : List Nat) : State :=
  match (s.seqr c).loads with
  | l :: rest =>
    let n := l.done + ks.length
    let s := s.loadImage c (s.seqr c).step ks l.image
    (s.setSeqr c { s.seqr c with loads := { l with done := n } :: rest }).modLong c l.handle
      (fun o => { o with progress := n, started := o.started || decide (0 < n) })
  | [] => s

/-- The load of a handle has come as far as `n` rills. -/
def State.loadTo (s : State) (c h n : Nat) : State :=
  match s.toLoad c h, (s.seqr c).loads with
  | some ks, l :: _ => s.loadOn c ((ks.take (n - l.done)).takeWhile (s.loadReady c))
  | _, _ => s

/-- The load of a handle ends: every rill is loaded, and the replay set has the image (R60, R384, R480). A 1,025th entry ends it before the rest
is written. Nothing happens while a rill has answers to wait for (R148). -/
def State.finishLoad (s : State) (c h : Nat) : State :=
  match s.toLoad c h, (s.seqr c).loads with
  | some ks, l :: _ =>
    if ks.all (s.loadReady c) then
      match replayAdd (s.rcv c).images (imgEntry l.va l.image) with
      | some e => (((s.loadOn c ks).setImages c e).endLoad c h 0 (l.done + ks.length)).imgPump c
      | none => (s.endLoad c h cMalformed l.done).imgPump c
    else s
  | _, _ => s

/-! ### Starting an operation (R259, R260, R273) -/

/-- OPSTART to every present rill of the region (R260); ARG 1 marks a step boundary (log 15). None of it counts where a rill cannot be
reached: the operation fails as for a program fault (log 42). -/
def State.opStarts (s : State) (c : Nat) (o : Op) (mark : Bool) : State :=
  let (s, xs, lost) := (s.region o).foldl (fun (a : State × List Nat × Bool) k =>
    let (xid, s) := a.1.fresh
    let p := { s.leveeMsg c k 0xFF01 (b2n mark) o.desc with xid }
    match s.inject? p with
    | some s => (s, a.2.1 ++ [xid], a.2.2)
    | none => (s.unreachable p, a.2.1, true)) (s, [], false)
  let s := s.setOp c { o with unacked := xs, stage := if xs.isEmpty then 2 else 1 }
  if lost then s.failOp c o.opn cMalformed true false else s

/-- The counts that this member sends, read as the post is admitted (R268, R322; log 43): a count that is no multiple of 64 is a mismatch
before the phase begins. -/
def State.countPhase (s : State) (c : Nat) (o : Op) : State :=
  if o.coll = 5 then
    let n := s.groupN o.group
    match s.vaRead c o.countVa (8 * n) with
    | (.inl code, s) => s.failOp c o.opn code false false
    | (.inr b, s) =>
      let l := (List.range n).map (fun j => at' b (8 * j) 8)
      let o := { o with toSend := l }
      let s := s.setOp c o
      if l.any (fun x => x % 64 != 0) then s.collFail c o cCollMismatch false
      else
        let s := (othersOf n (s.groupSelf o.group)).foldl (fun s m =>
          s.postSend o m { s.wireBlank (s.groupJob o.group) with type := 3, sig := s.countSig o, arg2 := l.getD m 0 }) s
        s.takeCount c o (s.groupSelf o.group) (l.getD (s.groupSelf o.group) 0) (s.countSig o)
  else s

/-- Posts that an operation issues on its group (R273, R289). -/
def Op.posts (o : Op) : Nat := if o.coll = 0 then 0 else if o.opc = 7 then o.ring - 1 else 1

/-- An operation is admitted and started (R258-R260): its post has its sequence number, its first GRANTs go out, and OPSTARTs are sent. -/
def State.admitOp (s : State) (c : Nat) (o : Op) : State :=
  let q := s.seqr c
  let mark := !o.rebuild && decide (1 ≤ o.opn) && q.boundaries.contains (o.opn - 1)
  let q := if mark then { q with step := o.opn - 1 } else q
  let q := if o.layerEnd && !o.rebuild then { q with boundaries := ins q.boundaries o.opn } else q
  let o := { o with seq := look 0 s.postSeq o.group, stage := 1, waiting := false, progress := s.clk.now }
  let s := { s with postSeq := if o.coll = 0 then s.postSeq else put s.postSeq o.group (o.seq + o.posts) }
  let s := ((s.setSeqr c q).setOp c o)
  let s := (if o.coll = 0 then s else s.dropPostKeys o).opStarts c o mark
  match s.op? c o.opn with
  | none => s
  | some o => ((s.countPhase c o).postPump c o.opn).cfSync.imgPump c

/-! ### Admission (R255, R257, R259) -/

/-- The operation to be read next: its list's handle, address of its descriptor, its OPN, the first OPN held, and whether it is one of the
rebuild list (R254, R385). -/
def State.nextEntry (s : State) (c : Nat) : Option (Nat × Nat × Nat × Nat × Bool) :=
  let q := s.seqr c
  match (s.rcv c).rebuild with
  | some n =>
    let (va, cnt) := match (s.rcv c).commit with
      | some r => (r.rebuildVa, r.rebuildN)
      | none => (s.reg64 (aRc c 0x20), s.regN (aRc c 0x28))
    if n < cnt then some (0, va + 128 * n, n, 0, true) else none
  | none =>
    q.lists.findSome? (fun l =>
      let n := max q.next l.opn0
      if n < l.opn0 + l.entries then some (l.handle, l.va + 128 * (n - l.opn0), n, (q.lists.head?.map (·.opn0)).getD 0, false) else none)

/-- Has the operation that a dependency names reached its stage (R259)? -/
def Seqr.depMet (q : Seqr) (o : Op) (d post : Nat) : Bool :=
  d == 0 || !(q.ops.any (fun x => x.opn + d == o.opn && (post == 1 || decide (x.stage < 3))))

/-- Is the run list of a handle running, and not suspended or cancelled? A list that the module resubmitted has no handle. -/
def State.listRuns (s : State) (c h : Nat) : Bool :=
  h == 0 || (match s.longOp? c h with
    | some o => o.state == 0
    | none => true)

/-- A drain hold admits nothing above the next commit point (R395). -/
def State.drained (s : State) (c n : Nat) : Bool :=
  let q := s.seqr c
  let past (b : Nat) : Bool := (s.rcv c).commit.isSome && decide (b ≤ s.regN (aRc c 8))
  s.rstate c == 5 && ((s.rcv c).drained || q.points.any (fun x => decide (x.opn < n))
    || (s.profileOf c == 1 && q.boundaries.any (fun b => decide (b < n) && !past b)))

/-- May the sequencer admit at all (R259, R383, R385, R480)? -/
def State.mayAdmit (s : State) (c h n : Nat) (rebuild : Bool) : Bool :=
  let q := s.seqr c
  (if rebuild then s.rstate c == 3 else (s.rstate c == 0 || s.rstate c == 5) && !q.halted)
    && q.ops.all (fun o => decide (2 ≤ o.stage)) && decide (q.ops.length < 8)
    && s.listRuns c h && !s.drained c n && (rebuild || q.loads.all (fun l => decide (n < l.after)))

/-- A job's posts wait for T_START (R326). -/
def State.jobStarted (s : State) (o : Op) : Bool := o.coll == 0 || !s.groupValid o.group || s.regF (aJob (s.groupJob o.group) 0) 16 2 == 2

/-- The sequencer has read an operation. -/
def State.tookEntry (s : State) (c n : Nat) (rebuild : Bool) (o : Option Op) : State :=
  let s := if rebuild then s.setRcv c { s.rcv c with rebuild := some (n + 1) } else s
  let q := s.seqr c
  s.setSeqr c { q with next := if rebuild then q.next else n + 1, ops := q.ops ++ o.toList }

/-- An operation read and accepted: a reduction post asks for its slots (R347), any other is admitted. -/
def State.acceptOp (s : State) (c : Nat) (o : Op) : State :=
  if o.reduces then
    let (t, s) := s.fresh
    (s.tookEntry c o.opn o.rebuild (some { o with waiting := true, reqAt := s.clk.now, ticket := t })).cfSync
  else (s.tookEntry c o.opn o.rebuild (some o)).admitOp c o

/-- OP_ADMIT: the next operation's descriptor is read and checked, and the operation is admitted where its conditions hold (R257, R259). -/
def execOpAdmit (ctx now : Nat) (s : State) : Host.Outcome State Fault Refusal :=
  onUnit (decide (ctx ≤ 16)) true s (fun s0 =>
    match s0.nextEntry ctx with
    | none => s0
    | some (h, va, n, oldest, rebuild) =>
      if !s0.mayAdmit ctx h n rebuild then s0
      else
        match (s0.atTime now).vaRead ctx va 128 with
        | (.inl code, s) => (s.tookEntry ctx n rebuild none).failOp ctx n code false false
        | (.inr b, s) =>
          let o := { Op.blank with opn := n, desc := b, rebuild }
          match s.opCheck ctx o oldest with
          | (code, s) =>
            if at' b 0 4 ≠ n % 2 ^ 32 then (s.tookEntry ctx n rebuild none).failOp ctx n cMalformed false false
            else if code ≠ 0 then (s.tookEntry ctx n rebuild none).failOp ctx n code false false
            else if !((s.seqr ctx).depMet o o.dep1 (o.depStage % 2) && (s.seqr ctx).depMet o o.dep2 (o.depStage / 2 % 2) && s.jobStarted o) then s0
            else s.acceptOp ctx o)

/-! ### Reduction slots (R346-R348) -/

/-- The request that is next in line: context and operation. -/
def State.firstRequest (s : State) : Option (Nat × Op) :=
  let l := (List.range 17).flatMap (fun c => ((s.seqr c).ops.filter (fun o => o.waiting)).map (fun o => (c, o)))
  l.foldl (fun (best : Option (Nat × Op)) e =>
    match best with
    | none => some e
    | some b => if e.2.ticket < b.2.ticket then some e else best) none

/-- The lowest ON torus chiplet with slots enough (R347). -/
def State.slotHome (s : State) (need : Nat) : Option Nat :=
  (List.range 12).find? (fun t => s.isOn clsCf t && decide (need ≤ s.regF (rg clsCf t 0x100) 0 7))

/-- The post takes its home chiplet, and slots there. -/
def State.takeHome (s : State) (t slots : Nat) : State :=
  let a := rg clsCf t 0x100
  (s.setF a 0 7 (s.regF a 0 7 - slots)).setF a 16 8 (s.regF a 16 8 + 1)

/-- SLOT_RESERVATION_GRANT: the first request in line is granted whole, within its window of 20 us (R347, R348, R7). -/
def execSlotReservationGrant (now : Nat) (s : State) : Host.Outcome State Fault Refusal :=
  match s.firstRequest with
  | none => .next s
  | some (c, o) =>
    match s.slotHome o.slotNeed with
    | none => .next s
    | some t =>
      whenB (inWindow (max now s.clk.now) o.reqAt 20000) s (fun s =>
        ((s.atTime now).takeHome t o.slotNeed).admitOp c { o with home := t, slots := o.slotNeed })

/-- REDUCE_FALLBACK: the window has passed and the post becomes staged; with no torus chiplet ON the operation fails (R348), recorded too (log 157). -/
def execReduceFallback (ctx opn now : Nat) (s : State) : Host.Outcome State Fault Refusal :=
  unitRow (decide (ctx ≤ 16)) s (
    match s.op? ctx opn with
    | none => .next s
    | some o =>
      whenB (o.waiting && !inWindow (max now s.clk.now) o.reqAt 20000) s (fun s =>
        let s := (s.atTime now).cairnLog 2 clsCf 12 cReduceFallback ctx []
        match (List.range 12).find? (s.isOn clsCf) with
        | some t => ((s.incSat (rg clsCf 12 0x10C)).takeHome t 0).admitOp ctx { o with home := t, slots := 0, staged := true }
        | none => s.failOp ctx opn cRegionLost false false))

/-! ### The answer of an OPSTART (R258, R263) -/

/-- The operation that an OPSTART's answer belongs to. -/
def State.startOf (s : State) (p : Packet) : Option Op :=
  if p.ctx ≤ 16 then (s.seqr p.ctx).ops.find? (fun o => o.unacked.contains p.xid) else none

/-- An OPSTART is answered: STARTED once all are (R258); a code fails the operation (R263). -/
def State.opStartAnswer (s : State) (p : Packet) (o : Op) : State :=
  if p.arg % 65536 ≠ 0 then s.opStartFail p.ctx o.opn (p.arg % 65536)
  else
    let left := rem o.unacked p.xid
    let s := s.setOp p.ctx { o with unacked := left, stage := if left.isEmpty then 2 else o.stage }
    if left.isEmpty then (s.postPump p.ctx o.opn).imgPump p.ctx else s

end Sys2Proof.Machine
end

