-- ==== Sys2Proof/Machine/EzLink.lean ====
section
/-! DEFINITION. Eztex links (09 R294-R304, R309, R327): codewords and control flits received, resends, training, stops, links that go down,
transit, and the keys of R301. CODEWORD_RECEIVE, IDLE, ACK_CREDIT, NAK, TRAIN, LINK_TRAINING_DONE, LINK_TRAINING_TIMEOUT, LINK_STOP_DONE,
EZTEX_LINK_DOWN and KEY_RETENTION_EXPIRY. -/

namespace Sys2Proof.Machine

abbrev aLink (l off : Nat) : Nat := rg clsLink l off

/-! ### Control flits sent (R298) -/

/-- A link-control flit of an LC_TYPE is due: 1 ACK_CREDIT, 2 NAK. -/
def State.sendLc (s : State) (l type : Nat) : State := (s.setLink l { s.link l with lcOut := (s.link l).lcOut ++ [type] }).linkPump l

/-- Flits of a buffer freed toward the peer. -/
def State.freeFlits (s : State) (l : Nat) (p : WirePkt) : State :=
  let x := s.link l
  let b := bufOf p
  s.setLink l { x with freed := setAt x.freed b ((x.freed.getD b 0 + wireFlits p) % 65536) }

/-- OCC_A and OCC_B of a link: input flits held (R329). -/
def State.occSync (s : State) (l : Nat) : State :=
  let held (cls : Nat) : Nat := sumL ((s.rx.filter (fun r => r.link == l && r.live && r.pkt.cls == cls)).map (fun r => wireFlits r.pkt))
  ((s.setF (aLink l 0x150) 0 14 (held 2)).setF (aLink l 0x150) 16 13 (held 0)).setF (aLink l 0x154) 0 12 (held 1)

/-! ### Packets received (R301-R304) -/

/-- Is the packet at its destination? One for the twin plane is, once it has crossed a twin link. -/
def State.isHere (s : State) (l : Nat) (p : WirePkt) : Bool := p.dst == s.selfCoord && (!p.dstTwin || linkDir l == 6)

/-- The key by which a copy is known (R301); none for the types that are not checked. -/
def wireKey (p : WirePkt) : Option (List Nat) :=
  if [2, 3, 9, 10].contains p.type then some [p.srcRank, p.jobId, p.type, p.group, p.seq, p.offset]
  else if p.type = 5 then some [p.srcRank, p.jobId, p.type, p.group, p.seq, p.arg]
  else none

/-- Does the packet's age lie beyond its lifetime (R302)? -/
def State.tooOld (s : State) (p : WirePkt) : Bool :=
  let d := (s.clk.now / 8 + 2 ^ 32 - p.age) % 2 ^ 32
  decide (2 ^ 27 < d) && decide (d < 2 ^ 31)

/-- Is a key remembered (R302)? -/
def State.keyHeld (s : State) (k : List Nat) : Bool :=
  s.keys.any (fun e => e.1 == k && (match e.2 with
    | none => true
    | some t => !reached s.clk.now t))

/-- A packet of an accepted codeword (R301-R304): discarded, a copy, or held at the input. `ok` tells whether HCHK matches. -/
def State.wireArrive (s : State) (l : Nat) (p : WirePkt) (ok : Bool) : State :=
  let s := s.add64 (aLink l 0x118) (wireFlits p)
  let s := s.feedUnit (linkEndpoint l) 2 (linkUnit l) 0 p.payload
  let here := s.isHere l p
  if ok = false ∨ p.type = 0 ∨ 10 < p.type then (s.incSat (aLink l 0x130)).freeFlits l p
  else if p.epoch ≠ (s.link l).peerEpoch then
    ((s.incSat (aLink l 0x130)).cairnLog 4 clsLink l cStaleEpoch noCtx []).freeFlits l p
  else if here && ((s.jobOfId p.jobId).isNone || s.tooOld p) then (s.incSat (aLink l 0x130)).freeFlits l p
  else
    match if here then wireKey p else none with
    | some k =>
      if s.keyHeld k then (s.incSat (aLink l 0x134)).freeFlits l p
      else { s with rx := s.rx ++ [⟨l, p, true⟩], keys := s.keys.filter (fun e => e.1 != k) ++ [(k, none)] }
    | none => { s with rx := s.rx ++ [⟨l, p, true⟩] }

/-- Whole packets at the front of the flits received, with what HCHK says of each, and the flits left over. LEN of the header tells how many flits
follow it. -/
def wholePackets : Nat → List (List Byte) → List (WirePkt × Bool) × List (List Byte)
  | 0, fs => ([], fs)
  | f + 1, fs =>
    match fs with
    | [] => ([], [])
    | h :: t =>
      let n := (min 4096 (at' h 2 2) + 63) / 64
      if t.length < n then ([], fs)
      else
        let (ps, rest) := wholePackets f (t.drop n)
        (wireOf h (t.take n).flatten :: ps, rest)

/-- The flits of a codeword that FLIT_MAP marks as link-control flits, or those that it does not. -/
def pickFlits (cw : Codeword) (control : Bool) : List (List Byte) :=
  (List.range 10).filterMap (fun i => if cw.map.testBit i = control then cw.flits[i]? else none)

/-- CODEWORD_RECEIVE (R294, R298): what the lanes carry with at most 15 wrong symbols is corrected; the codeword is accepted in CW_SEQ order, or
discarded with a NAK. Its control flits wait for IDLE, ACK_CREDIT and NAK. -/
def execCodewordReceive (link : Nat) (lanes : Lanes) (s : State) : Host.Outcome State Fault Refusal :=
  onUnit (decide (link < 76) && lanesOk lanes) (s.linkUp link) s (fun s =>
    match codewordIn lanes with
    | none => (s.incSat (aLink link 0x128)).sendLc link 2
    | some (cw, wrong) =>
      let s := s.add64 (aLink link 0x120) wrong
      let x := s.link link
      if cw.seq ≠ (x.last + 1) % 1024 then s.sendLc link 2
      else
        let fs := x.rxFlits ++ pickFlits cw false
        let (ps, rest) := wholePackets fs.length fs
        let lc := ((pickFlits cw true).filterMap lcFlitOf).filter (fun f => decide (f.type < 3))
        let s := s.setLink link { x with rxLast := some cw.seq, sinceAck := x.sinceAck + 1, rxFlits := rest, lcIn := x.lcIn ++ lc }
        let s := (ps.foldl (fun s p => s.wireArrive link p.1 p.2) s).occSync link
        let x := s.link link
        if 32 ≤ x.sinceAck then (s.setLink link { x with sinceAck := 0 }).sendLc link 1 else s)

/-! ### Control flits received (R298, R299) -/

/-- Codewords up to one acknowledged. -/
def LinkSt.acked (x : LinkSt) (last : Nat) : LinkSt :=
  if x.unacked.any (fun e => e.cw.seq == last) then
    { x with unacked := (x.unacked.dropWhile (fun e => e.cw.seq != last)).drop 1 }
  else x

/-- The control flit at the front of those accepted at a link, if it has an LC_TYPE. -/
def State.lcFront (s : State) (l type : Nat) : Option LcFlit := if s.linkUp l then (s.link l).lcIn.head?.filter (fun f => f.type == type) else none

/-- What every link-control flit of the peer tells: the last codeword that it accepted and its cumulative credits (R298, R299; log 45). -/
def State.lcTake (s : State) (l : Nat) (f : LcFlit) : State :=
  let x := (s.link l).acked f.last
  (s.setLink l { x with lcIn := x.lcIn.drop 1, credit := (List.range 6).map (fun b => (bufSizes.getD b 0 + f.credits.getD b 0) % 65536) }).linkPump l

/-- IDLE. -/
def execIdle (link : Nat) (s : State) : Host.Outcome State Fault Refusal :=
  unitRow (decide (link < 76)) s (whenSome (s.lcFront link 0) s (fun f s => s.lcTake link f))

/-- ACK_CREDIT. -/
def execAckCredit (link : Nat) (s : State) : Host.Outcome State Fault Refusal :=
  unitRow (decide (link < 76)) s (whenSome (s.lcFront link 1) s (fun f s => s.lcTake link f))

/-- The packets that a link has not had acknowledged, once each, in the order sent. -/
def LinkSt.unsent (x : LinkSt) : List WirePkt :=
  (x.unacked.foldl (fun acc w => w.pkts.foldl (fun acc e => if acc.any (fun (a : Nat × WirePkt) => a.1 == e.1) then acc else acc ++ [e]) acc) []).map (·.2)

/-- Packets of a link that leaves ON go to the other ON links of its bundle; those whose codewords are not acknowledged are sent again (R301). -/
def State.linkLeave (s : State) (l : Nat) : State :=
  let x := s.link l
  let s := s.setLink l LinkSt.init
  let s := { s with rx := s.rx.map (fun (r : RxPkt) => if r.link = l then { r with live := false } else r) }
  let s := ((s.setB (aLink l 0x104) 0 false).occSync l).noteCredit (linkDir l)
  (x.unsent ++ x.wait).foldl (fun s p => s.takeLink p (linkDir l)) s

/-- A forerunner link claims two gauges of its chiplet, or frees them (R327). -/
def State.claimGauges (s : State) (l : Nat) (claim : Bool) : State :=
  if s.regB (aLink l 0x100) 0 ∧ l < 72 then
    let ep := linkEndpoint l
    let u := linkUnit l
    ([0, 1] : List Nat).foldl (fun s d =>
      let g := 2 * u + d
      if claim then
        let s := (s.setRegN (aGauge ep g 0) (0x100000 + 4 + 1)).setRegN (aGauge ep g 4) (2 + 4 * (1 - d) + 16 * u)
        ((s.setReg64 (aGauge ep g 0x10) 0xFFFFFFFF).setReg64 (aGauge ep g 0x18) 0).setRegN (aGauge ep g 0xC) 5
      else (s.setB (aGauge ep g 0) 0 false).setRegN (aGauge ep g 0xC) 0) s
  else s

/-- A link faults with a reason (R296, R298, R577): its packets go to the other links of the bundle. -/
def State.linkFault (s : State) (l reason : Nat) : State :=
  let up := s.linkUp l
  let s := s.setF (aLink l 0x104) 12 4 reason
  let s := s.pageFault clsLink l id
  if up then (s.claimGauges l false).linkLeave l else s

/-- NAK: every codeword after the one named is sent again; the sixteenth time without acceptance faults the link (R298). -/
def execNak (link : Nat) (s : State) : Host.Outcome State Fault Refusal :=
  unitRow (decide (link < 76)) s (whenSome (s.lcFront link 2) s (fun f s =>
    let x := (s.link link).acked f.last
    if x.unacked.any (fun e => decide (16 ≤ e.resent)) then (s.lcTake link f).linkFault link 7
    else
      let s := s.setLink link { s.link link with unacked := (s.link link).unacked.map (fun e => if x.unacked.contains e then { e with resent := e.resent + 1 } else e) }
      let s := x.unacked.foldl (fun s e => s.emit (.codeword link (cwLanes e.cw))) (s.addSat (aLink link 0x12C) x.unacked.length)
      s.lcTake link f))

/-! ### Training (R296, R297) -/

/-- The coordinate one step away in a direction, modulo TORUS_SIZE. -/
def State.stepCoord (s : State) (dir : Nat) : Coord :=
  let c := s.selfCoord
  let size := max 1 (s.torusSize (dir / 2))
  let go (v : Nat) : Nat := if dir % 2 = 0 then (v + 1) % size else (v + size - 1) % size
  if dir = 6 then c
  else if dir / 2 = 0 then { c with x := go c.x } else if dir / 2 = 1 then { c with y := go c.y } else { c with z := go c.z }

/-- The TRAIN flit that a link sends (R297). -/
def State.trainFlit (s : State) (l : Nat) : TrainFlit :=
  { coord := s.selfCoord, plane := s.plane, dir := linkDir l, bundle := bundlePos l, mode := s.regF (aLink l 0x100) 0 1, z2 := false,
    epoch := (s.pageEpoch clsLink l + 1) % 2 ^ 32, crcOk := true }

/-- Why a link refuses its peer: 0 accepted, otherwise FAIL_REASON (R297). -/
def State.trainReason (s : State) (l : Nat) (f : TrainFlit) : Nat :=
  let dir := linkDir l
  let mode := s.regF (aLink l 0x100) 0 1
  let opposite := if dir = 6 then 6 else if dir % 2 = 0 then dir + 1 else dir - 1
  let planeOk := if dir = 6 then f.plane + s.plane == 3 else f.plane == s.plane
  if dir = 6 ∧ s.plane = 0 then 8
  else if f.coord ≠ s.stepCoord dir ∨ f.dir ≠ opposite ∨ f.bundle ≠ bundlePos l ∨ planeOk = false then 4
  else if f.mode ≠ mode ∨ (mode == 1) ≠ f.z2 then 5
  else if mode = 1 ∧ (72 ≤ l ∨ 4 ≤ linkUnit l) then 6 else 0

/-- TRAIN: the peer is accepted, or the link faults (R296, R297). A flit whose CRC is bad is ignored; so is one before READY, when the start
has not begun (R532; log 160). -/
def execTrain (link : Nat) (f : TrainFlit) (s : State) : Host.Outcome State Fault Refusal :=
  onUnit (decide (link < 76)) (f.crcOk && s.pst clsLink link == stStarting && s.stage == 4) s (fun s =>
    let why := s.trainReason link f
    if why ≠ 0 then s.linkFault link why
    else
      let s := s.setLink link { s.link link with peerEpoch := f.epoch, accepted := true }
      (s.setRegN (aLink link 0x108) (f.coord.x + 2 ^ 8 * f.coord.y + 2 ^ 16 * f.coord.z + 2 ^ 24 * f.plane)).setB (aLink link 0x104) 8 f.z2)

/-- A link's start: its FAIL_REASON clears and it sends TRAIN flits, once START_STAGE is READY (R532). A dimension of size 1 has no neighbour: its
links stay OFF (R297). -/
def State.linkAtStart (s : State) (l : Nat) : State :=
  if linkDir l < 6 ∧ s.torusSize (linkDir l / 2) = 1 then s.setPst clsLink l stOff
  else
    let s := (s.setLink l { LinkSt.init with startAt := s.clk.now }).setRegN (aLink l 0x104) (2 * linkDir l + 16 * bundlePos l)
    if s.stage = 4 then s.emit (.train l (s.trainFlit l)) else s

/-- A link's stop begins: it is no longer TRAINED, and packets that wait for credit go to the other links of the bundle (R301, R330). -/
def State.linkAtStop (s : State) (l : Nat) : State :=
  let x := s.link l
  x.wait.foldl (fun s p => s.takeLink p (linkDir l)) ((s.setLink l { x with wait := [] }).setB (aLink l 0x104) 0 false)

/-- Limits of training steps 1 to 5 in ns (R296). -/
def trainLimits : List Nat := [5000000, 50000000, 5000000, 1000000, 1000]

/-- LINK_TRAINING_DONE: steps 5 and 6 of R296, while no step can have passed its limit. -/
def execLinkTrainingDone (link now : Nat) (s : State) : Host.Outcome State Fault Refusal :=
  onUnit (decide (link < 76)) (s.pst clsLink link == stStarting && (s.link link).accepted && s.stage == 4
      && inWindow (max now s.clk.now) (s.link link).startAt (sumL trainLimits)) s (fun s =>
    let s := s.atTime now
    let s := s.setLink link { LinkSt.init with credit := bufSizes, peerEpoch := (s.link link).peerEpoch, accepted := true }
    let s := ((s.incWrap (aLink link 0x024)).claimGauges link true).setB (aLink link 0x104) 0 true
    ((s.startDone clsLink link (fun s => s.linkAtStop link)).noteCredit (linkDir link)).retryHold)

/-- The reasons that a timed-out step 4 can have on a link (R296, R297). -/
def State.step4Reasons (s : State) (l : Nat) : List Nat :=
  if linkDir l = 6 ∧ s.plane = 0 then [8]
  else if s.regB (aLink l 0x100) 0 ∧ (72 ≤ l ∨ 4 ≤ linkUnit l) then [4, 5, 6] else [4, 5]

/-- LINK_TRAINING_TIMEOUT: a step has passed its limit, which the start of training bounds from below: step k begins no earlier. Steps 1 to 3 are over
once the peer's TRAIN flit is accepted. The reason is the step's; of those that step 4 can have on the link, a free value (R296; log 46). -/
def execLinkTrainingTimeout (link step now : Nat) (s : State) : Host.Outcome State Fault Refusal :=
  onUnit (decide (link < 76)) (s.pst clsLink link == stStarting && decide (1 ≤ step) && decide (step ≤ 4) && s.stage == 4
      && !(s.link link).accepted && !inWindow (max now s.clk.now) (s.link link).startAt (trainLimits.getD (step - 1) 0)) s (fun s =>
    let s := s.atTime now
    if step < 4 then s.linkFault link step
    else
      let (v, s) := s.draw64
      s.linkFault link ((s.step4Reasons link).getD (v.toNat % (s.step4Reasons link).length) 4))

/-- LINK_STOP_DONE: every codeword sent is acknowledged and the page becomes OFF (R301). -/
def execLinkStopDone (link : Nat) (s : State) : Host.Outcome State Fault Refusal :=
  onUnit (decide (link < 76)) (s.pst clsLink link == stStopping && (s.link link).unacked.isEmpty) s (fun s =>
    ((s.claimGauges link false).linkLeave link).stopDone clsLink link (fun s => s.linkAtStart link))

/-- EZTEX_LINK_DOWN: a link that takes codewords loses its peer and faults (R301, R577). -/
def execEztexLinkDown (link : Nat) (s : State) : Host.Outcome State Fault Refusal :=
  onUnit (decide (link < 76)) (s.linkUp link) s (fun s => s.linkFault link 7)

/-! ### Taking a packet from a link input -/

/-- The packet at a place of the inputs, if none of its buffer is ahead of it. -/
def State.rxAt (s : State) (i : Nat) : Option RxPkt :=
  match s.rx[i]? with
  | none => none
  | some r => if (s.rx.take i).any (fun q => q.link == r.link && bufOf q.pkt == bufOf r.pkt) then none else some r

/-- The packet leaves its input buffer, whose flits are credited back. -/
def State.wireTake (s : State) (i : Nat) (r : RxPkt) : State :=
  let s := { s with rx := dropAt s.rx i }
  if r.live then (s.freeFlits r.link r.pkt).occSync r.link else s

/-- A packet of a type that is at its destination. -/
def State.wireAt? (s : State) (i type : Nat) : Option RxPkt :=
  match s.rxAt i with
  | some r => if r.pkt.type = type ∧ s.isHere r.link r.pkt then some r else none
  | none => none

/-- KEY_RETENTION_EXPIRY: keys whose 2 s have passed are forgotten (R302). -/
def execKeyRetentionExpiry (now : Nat) (s : State) : Host.Outcome State Fault Refusal :=
  let t := max now s.clk.now
  let old (e : List Nat × Option Nat) : Bool := match e.2 with
    | some x => reached t x
    | none => false
  whenB (s.keys.any old) s (fun s => { s.atTime now with keys := s.keys.filter (fun e => !old e) })

end Sys2Proof.Machine
end

