-- ==== Sys2Proof/Machine/EzPosts.lean ====
section
/-! DEFINITION. Packets of posts (09 R317-R322, R327, 10 R334-R358): WIRE_PACKET_FORWARD, GRANT, CHUNK, COUNT, ABORT, DIGEST, COLL_MEMBER_LOST
and TWIN_DIGEST_TIMEOUT. -/

namespace Sys2Proof.Machine

/-! ### The post that a packet names -/

/-- The context of a packet's job. -/
def State.jobCtx (s : State) (p : WirePkt) : Option Nat := (s.jobOfId p.jobId).map (fun j => s.regF (aJob j 0) 0 5)

/-- The context and the admitted post that a packet names. -/
def State.postOf (s : State) (p : WirePkt) : Option (Nat × Op) :=
  (s.jobCtx p).bind (fun c => ((s.seqr c).ops.find? (fun o => decide (1 ≤ o.stage) && o.coll != 0 && s.forPost o p)).map (fun o => (c, o)))

/-- The complete post that a packet names, while its operation may still be failed (R319). -/
def State.pastOf (s : State) (p : WirePkt) : Option (Nat × Op) :=
  (s.jobCtx p).bind (fun c => ((s.seqr c).past.find? (fun o => s.forPost o p)).map (fun o => (c, o)))

/-- Will the post that a packet names still come: one not admitted yet, or a later rotation of an open operation (R289)? -/
def State.postToCome (s : State) (p : WirePkt) : Bool :=
  decide (look 0 s.postSeq p.group ≤ p.seq)
    || (match s.jobCtx p with
        | none => false
        | some c => (s.seqr c).ops.any (fun o => decide (1 ≤ o.stage) && o.opc == 7 && o.coll != 0 && o.group == p.group
            && decide (o.seq < p.seq) && decide (p.seq + o.rot < o.seq + o.ring)))

/-- A packet for a post to come waits for it (log 48); one for a post that is over does nothing. -/
def State.keepEarly (s : State) (p : WirePkt) : State := if s.postToCome p then { s with early := s.early ++ [p] } else s

/-- Is the packet for a post that this member completed or failed within 2 s (R302)? -/
def State.postEnded (s : State) (p : WirePkt) : Bool := s.keyHeld [p.jobId, p.group, p.seq]

/-- A CHUNK, COUNT or DIGEST for no admitted post: a copy where the post has ended, whose key ages with the others of the post (R302). -/
def State.noPost (s : State) (l : Nat) (p : WirePkt) (other : State → State) : State :=
  if s.postEnded p then (s.retireKeys (fun k => some k == wireKey p)).incSat (aLink l 0x134) else other s

/-- Is a packet that came over a forerunner link wrong by its CHK (R327)? -/
def State.chkBad (s : State) (r : RxPkt) : Bool :=
  (r.pkt.type == 2 || r.pkt.type == 5) && s.regB (aLink r.link 0x100) 0 && decide (r.pkt.len ≠ 0) && r.pkt.chk != crc32c r.pkt.payload

/-- COLL_CHECK_FAIL for a packet that its CHK shows wrong and that is discarded (R327): its post fails, or the context of its job; a module that
holds no such job has nothing to fail. -/
def State.chkFail (s : State) (p : WirePkt) : State :=
  match s.postOf p, s.jobCtx p with
  | some (c, o), _ => s.collFail c o cCollCheckFail false
  | none, some c => s.failOp c (s.seqr c).low cCollCheckFail false false
  | none, none => s

/-- WIRE_PACKET_FORWARD: a packet in transit goes on in dimension order (R309-R311), unless its CHK is wrong (R327). -/
def execWirePacketForward (i : Nat) (s : State) : Host.Outcome State Fault Refusal :=
  whenSome (s.rxAt i) s (fun r s =>
    if s.isHere r.link r.pkt then s
    else if s.chkBad r then (s.wireTake i r).chkFail r.pkt
    else
      let d := linkDir r.link
      let via := if d = 6 then none else some (if d % 2 = 0 then d + 1 else d - 1)
      (s.wireTake i r).wireOut r.pkt via)

/-- A post has more input than before: additions that have become possible are made and counted (R362), and a mismatch that they found
fails the collective (R352). -/
def State.postInput (s : State) (c : Nat) (o o' : Op) (check : Option Upset) : State :=
  if s.stagePois c o then s.checkFail c o
  else
    let adds := s.newAdds o o' (s.inPlan o)
    let s := s.setOp c o'
    let s := if o.home < 12 then s.add64 (rg clsCf o.home 0x104) adds.length else s
    match check with
    | none => s.postPump c o.opn
    | some u =>
      let (v, s) := s.draw64
      match addsCheck o.dtype adds v.toNat u with
      | some (off, e) => s.adderFail c o' off e
      | none => s.postPump c o.opn

/-! ### Packets of members -/

/-- GRANT (R317, R319). One for a later rotation of the successor's shows that its steps go on (R289; log 104). -/
def execGrant (i : Nat) (s : State) : Host.Outcome State Fault Refusal :=
  whenSome (s.wireAt? i 1) s (fun r s =>
    let s := s.wireTake i r
    match s.postOf r.pkt with
    | some (c, o) => (s.takeGrant c o r.pkt).postPump c o.opn
    | none => (s.keepEarly r.pkt).rotationsDue ((s.jobCtx r.pkt).getD 17))

/-- Bytes of a chunk that count: those of its post chunk, without the pad of forerunner mode (R317, R327). -/
def State.chunkData (s : State) (o : Op) (m : Nat) (p : WirePkt) : List Byte :=
  let ends := chunkEnds o.chunk 0 (itemsOf (s.inPlan o) m)
  match ends.find? (fun e => decide (p.offset < e)) with
  | some e => padTo (min p.len (e - p.offset)) (p.payload.take (min p.len (e - p.offset)))
  | none => []

/-- CHUNK (R317, R319, R327, R343-R346, R353): a done chunk has LEN 0. -/
def execChunk (i : Nat) (check : Option Upset) (s : State) : Host.Outcome State Fault Refusal :=
  whenSome (s.wireAt? i 2) s (fun r s =>
    let p := r.pkt
    let bad := s.chkBad r
    let s := s.wireTake i r
    if bad then s.chkFail p
    else
    match s.postOf p with
    | none => s.noPost r.link p id
    | some (c, o) =>
      match s.memberOf o.group p.srcRank with
      | none => s
      | some m =>
        if p.poison then s.checkFail c o
        else if p.sig ≠ s.sigFrom o m then s.collFail c o cCollMismatch false
        else
          if p.len = 0 then s.postInput c o { o with dones := ins o.dones m } none
          else
            let b := s.chunkData o m p
            s.postInput c o { o with progress := s.clk.now, got := o.got ++ [(m, p.offset, b.length)], gotMem := writeBytes o.gotMem (m * 2 ^ 40 + p.offset) b } check)

/-- COUNT (R322). -/
def execCount (i : Nat) (s : State) : Host.Outcome State Fault Refusal :=
  whenSome (s.wireAt? i 3) s (fun r s =>
    let s := s.wireTake i r
    match s.postOf r.pkt with
    | none => s.noPost r.link r.pkt (fun s => s.keepEarly r.pkt)
    | some (c, o) =>
      match s.memberOf o.group r.pkt.srcRank with
      | none => s
      | some m => (s.takeCount c o m r.pkt.arg2 r.pkt.sig).postPump c o.opn)

/-- What an ABORT means to the commit barrier under way (R380, R387): member 0 fails it, and tells the others; for another member, an ABORT of
member 0 ends its wait. -/
def State.barrierAbort (s : State) (c : Nat) (p : WirePkt) : State :=
  let g := s.regF (aRc c 0) 0 12
  let r := s.rcv c
  if s.regB (aRc c 0) 12 = false ∨ s.groupOk c g = false then s
  else if s.groupSelf g = 0 then
    (if r.won then s
     else
      let s := s.setRcv c { r with formed := none, arrivals := r.arrivals.filter (fun a => a.2.1.testBit 32) }
      (if r.formed.isSome || r.arrivals.any (fun a => !a.2.1.testBit 32) then s.sendAbort g (s.regN (aRc c 0xC)) (p.arg % 65536) 0 else s).holdGoOn c)
  else if p.srcRank = s.memberRank g 0 then s.holdGoOn c
  else s

/-- A complete post that a lost member has failed is marked: it counts once (R331). -/
def State.markLost (s : State) (c : Nat) (o : Op) (code rank : Nat) : State :=
  if code = cCollMemberLost then
    let q := s.seqr c
    s.setSeqr c { q with past := q.past.map (fun (x : Op) => if x.opn = o.opn then { x with lost := some rank } else x) }
  else s

/-- ABORT (R319): the post fails, admitted, complete or still to come, and the context with it; no further ABORT is sent. -/
def execAbort (i : Nat) (s : State) : Host.Outcome State Fault Refusal :=
  whenSome (s.wireAt? i 4) s (fun r s =>
    let p := r.pkt
    let s := s.wireTake i r
    let code := p.arg % 65536
    match s.jobCtx p with
    | none => s
    | some c =>
      let s := s.barrierAbort c p
      let s := match s.postOf p, s.pastOf p with
        | some (_, o), _ => s.collFail c o code true
        | none, some (_, o) =>
          let s := if o.lost.isNone then (s.countLost o code).markLost c o code p.arg2 else s
          (s.poisonOut c o o.outDone).contextFail c code true
        | none, none => s.contextFail c code true
      s.barrierAbort c p)

/-- A twin's DIGEST that comes when its post is complete is a copy (R302): it is not compared, but it has arrived (R358; log 175). -/
def State.digestCame (s : State) (p : WirePkt) : State :=
  match s.jobCtx p with
  | none => s
  | some c =>
    let q := s.seqr c
    let note (l : List Op) : List Op := l.map (fun o => if s.forPost o p then { o with twin := put o.twin p.arg (p.sig, p.arg2) } else o)
    s.setSeqr c { q with past := note q.past, owed := (note q.owed).filter Op.owesDigest }

/-- DIGEST (R302, R357, R358). -/
def execDigest (i : Nat) (s : State) : Host.Outcome State Fault Refusal :=
  whenSome (s.wireAt? i 9) s (fun r s =>
    let p := r.pkt
    let s := s.wireTake i r
    if s.regB (rg clsCf 12 0x108) 0 then s.incSat (aLink r.link 0x130)
    else match s.postOf p with
      | some (c, o) => (s.takeDigest c o p).postPump c o.opn
      | none =>
        (s.digestCame p).noPost r.link p (fun s => if s.postToCome p then s.keepEarly p else s.incSat (aLink r.link 0x130)))

/-! ### Time limits (R320, R358) -/

/-- The member that a post waits on: the first that owes it bytes, a count, a grant or a done chunk; where none does, this member itself
(log 50). -/
def State.waitsOn (s : State) (o : Op) : Nat :=
  let inP := s.inPlan o
  let outP := s.outPlan o
  let n := s.groupN o.group
  ((List.range n).find? (fun m =>
    m != s.groupSelf o.group
      && ((o.coll == 5 && (look? o.counts m).isNone)
        || !covers o.got m 0 (sumL ((itemsOf inP m).map (·.len)))
        || ((membersOf outP).contains m && decide (look 0 o.limits m < sumL ((itemsOf outP m).map (·.len))))
        || ((s.doneTo o).contains m && (look? o.limits m).isNone)
        || ((s.doneFrom o).contains m && !o.dones.contains m)))).getD (s.groupSelf o.group)

/-- The record of a lost member (R320). -/
def State.memberLost (s : State) (c j rank : Nat) : State :=
  s.cairnLog 5 clsRank 0 cCollMemberLost c [itRank rank j]

/-- A commit barrier whose outcome has not come within COLL_TIMEOUT (R380): member 0 fails it; for another member its outcome stays unknown
until the replay barrier (R386, R387). -/
def State.barrierLost (s : State) (c : Nat) : State :=
  let g := s.regF (aRc c 0) 0 12
  let r := s.rcv c
  if s.groupSelf g = 0 then
    let m := ((List.range (s.groupN g)).find? (fun i => i != 0 && !r.arrivals.any (fun a => a.1 == i && a.2.1 == s.regN (aRc c 0xC)))).getD 0
    let s := (s.memberLost c (s.groupJob g) (s.memberRank g m)).setRcv c { r with formed := none, lostRank := some (s.memberRank g m), arrivals := r.arrivals.filter (fun a => a.2.1.testBit 32) }
    if r.waitOutcome.isSome then s.holdGoOn c else s.failOp c (s.seqr c).low cCollMemberLost false false
  else
    let s := (s.memberLost c (s.groupJob g) (s.memberRank g 0)).setRcv c { r with lostRank := some (s.memberRank g 0) }
    (s.failOp c (s.seqr c).low cCollMemberLost false false).holdGoOn c

/-- COLL_MEMBER_LOST: an admitted post has had no byte granted and none received for COLL_TIMEOUT (R320), or a commit barrier has had no outcome for that time (R380). -/
def execCollMemberLost (ctx opn now : Nat) (s : State) : Host.Outcome State Fault Refusal :=
  unitRow (decide (ctx ≤ 16)) s (
    let t := max now s.clk.now
    let r := s.rcv ctx
    let g := s.regF (aRc ctx 0) 0 12
    if r.formed.isSome && !r.won && (r.formed.map (fun x => x.opn == opn)).getD false && !inWindow t r.barrierAt (s.collTimeout (s.groupJob g))
        && (s.rstate ctx == 0 || s.rstate ctx == 5 || s.rstate ctx == 1) then
      .next ((s.atTime now).barrierLost ctx)
    else
      match s.op? ctx opn with
      | none => .next s
      | some o =>
        let j := s.groupJob o.group
        whenB (decide (1 ≤ o.stage) && o.coll != 0 && !inWindow t o.progress (s.collTimeout j)) s (fun s =>
          let rank := s.memberRank o.group (s.waitsOn o)
          let s := (s.atTime now).memberLost ctx j rank
          let o := { o with lost := some rank }
          (s.setOp ctx o).collFail ctx o cCollMemberLost false))

/-- Every post of every context does what it can. -/
def State.pumpAll (s : State) : State :=
  (List.range 17).foldl (fun s c => (s.seqr c).ops.foldl (fun s o => s.postPump c o.opn) s) s

/-- Is the twin's DIGEST of a chunk missing COLL_TIMEOUT after the chunk's own digest (R358)? -/
def State.digestLate (s : State) (o : Op) (chunk now : Nat) : Bool :=
  match look? o.own chunk with
  | some (_, t) => (look? o.twin chunk).isNone && !inWindow now t (s.collTimeout (s.groupJob o.group))
  | none => false

/-- TWIN_DIGEST_TIMEOUT: a chunk's own digest is there, and the twin's has not come within COLL_TIMEOUT (R358); its post may be complete by then. -/
def execTwinDigestTimeout (ctx opn chunk now : Nat) (s : State) : Host.Outcome State Fault Refusal :=
  let t := max now s.clk.now
  unitRow (decide (ctx ≤ 16)) s (
    match ((s.seqr ctx).ops ++ (s.seqr ctx).past ++ (s.seqr ctx).owed).find? (fun o => o.opn == opn && s.digestLate o chunk t) with
    | none => .next s
    | some o =>
      whenB s.pairing s (fun s =>
        let s := (s.atTime now).setB (rg clsCf 12 0x108) 0 true
        (s.cairnLog 5 clsCf 12 0 ctx [itPost o.group o.seq chunk (chunk * o.chunk)]).pumpAll))

end Sys2Proof.Machine
end

