-- ==== Sys2Proof/Machine/EzStreams.lean ====
section
/-! DEFINITION. Streams of FAR_KIND 4 at the torus endpoints (09 R305-R307, 10 R338): EZ_OPEN, EZ_CLOSE, EZ_REARM, EZ_CONTRIB,
EZ_SEND, P2P and P2P_GRANT. -/

namespace Sys2Proof.Machine

/-! ### Streams of an endpoint -/

/-- The stream at a torus endpoint that a packet of a rill belongs to. -/
def State.ezOf (s : State) (p : Packet) : Option EzStream :=
  s.ezs.find? (fun e => e.col == p.scol && e.row == p.srow && e.q == p.tag % 8 && e.ctx == p.ctx)
/-- A stream changed. -/
def State.setEz (s : State) (e : EzStream) : State :=
  { s with ezs := s.ezs.map (fun x => if x.col = e.col ∧ x.row = e.row ∧ x.q = e.q ∧ x.ctx = e.ctx then e else x) }

/-- A re-arm is taken up by the first tile after the COUNT-th of the arm in force (R157, R306); toward another post the offsets
begin afresh (R339; log 51). -/
def EzStream.takeUp (e : EzStream) : EzStream :=
  match e.rearm with
  | some d =>
    if e.desc.count ≠ 0 ∧ e.first + e.desc.count ≤ e.tiles then { e with desc := d, rearm := none, first := e.tiles, lastOff := if d.farBase % 2 ^ 32 = e.desc.farBase % 2 ^ 32 then e.lastOff else none }
    else e
  | none => e

/-! ### Descriptors and refusals (R305, R307) -/

/-- OPN of the post that a MODE 0 stream contributes to. -/
def Desc.ezOpn (d : Desc) : Nat := d.farBase % 2 ^ 32

/-- A descriptor as R305 has it, for an endpoint. -/
def Desc.ezOk (d : Desc) (ep res16 : Nat) : Bool :=
  let u := if d.dir = 0 then d.up else d.down
  d.farKind == 4 && decide (d.dir < 2) && d.valid res16 && nfld u 31 1 == 1 && nfld u 0 11 == ep
    && (if d.p2p then d.ezOpn == 0 && d.farArg == 1 + d.peer * 2 ^ 16 + d.chan * 2 ^ 32 else d.dir == 1 && d.farArg == 0)

/-- The same stream: one queue of one rill. -/
def EzStream.same (e x : EzStream) : Bool := e.col == x.col && e.row == x.row && e.q == x.q && e.ctx == x.ctx

/-- The reach share of the streams of a reach toward a post, but for one stream (R338). -/
def State.reachShare (s : State) (e : EzStream) (opn : Nat) : Nat :=
  sumL ((s.ezs.filter (fun x => !x.same e && x.ctx == e.ctx && !x.desc.p2p && x.desc.ezOpn == opn
    && reachOf x.col x.row == reachOf e.col e.row)).map (fun x => x.desc.outstanding * x.desc.tileLen))

/-- Why an open is refused; 0 where it is confirmed. A stream to a post that is not admitted is refused too (log 52). -/
def State.ezRefusal (s : State) (e : EzStream) (res16 : Nat) : Nat :=
  let d := e.desc
  if !d.ezOk e.ep res16 then cMalformed
  else match s.jobOf e.ctx with
    | none => cMalformed
    | some j =>
      if d.p2p then
        (if !bitOf (s.rankWord j d.peer) 31 then cMalformed
         else if d.dir = 0 ∧ s.ezs.any (fun x => !x.same e && x.ctx == e.ctx && x.desc.p2p && x.desc.dir == 0 && x.desc.peer == d.peer && x.desc.chan == d.chan)
           then cMalformed
         else 0)
      else if !((s.seqr e.ctx).ops.any (fun o => decide (1 ≤ o.stage) && o.opn % 2 ^ 32 == d.ezOpn)) then cMalformed
      else if 32768 < s.reachShare e d.ezOpn + d.outstanding * d.tileLen then cMalformed
      else 0

/-! ### Point-to-point data (R307) -/

/-- An unprompted EZ_CONFIRM (R228, R306). -/
def State.ezConfirm (s : State) (e : EzStream) (code : Nat) : State :=
  s.inject { Packet.blank with
    srcEdge := true, scol := e.ep, dcol := e.col, drow := e.row, kind := 0x31, resp := true, tag := streamTag e.q 0, ctx := e.ctx,
    epoch := s.rillEpoch e.ctx, arg := code }

/-- Tiles go out below the peer's limit, one packet each; a tile sent is acknowledged (R306, R307). -/
def State.ezDrain (s : State) (e : EzStream) : List Packet → State
  | [] => s.setEz { e with buf := [] }
  | p :: t =>
    match s.jobOf e.ctx with
    | none => s.setEz { e with buf := p :: t }
    | some j =>
      if e.limit < e.bytes + p.len then s.setEz { e with buf := p :: t }
      else
        let n := e.tiles - (t.length + 1)
        let s := s.wireTo j (nfld p.arg 16 14) { s.wireBlank j with
          type := 5, group := nfld p.arg 32 8, seq := e.arm, offset := p.addr, arg := n, poison := p.poison, payload := p.payload.take p.len }
        (s.inject (p.ack 0)).ezDrain { e with bytes := e.bytes + p.len } t

/-- The latest P2P_GRANT of the peer taken in: within one arm of the peer the limit never falls. -/
def EzStream.grant (e : EzStream) (p : WirePkt) : EzStream :=
  { e with limit := if p.seq = e.granted then max e.limit p.arg2 else p.arg2, granted := p.seq }

/-- Is the packet a P2P_GRANT for the stream? -/
def State.grantFor (s : State) (e : EzStream) (p : WirePkt) : Bool :=
  p.type == 6 && e.desc.p2p && e.desc.dir == 1 && p.srcRank == e.desc.peer && p.group == e.desc.chan && s.jobCtx p == some e.ctx

/-! ### Commands of rills (R306, R307) -/

/-- EZ_OPEN. A P2P_GRANT that came before the open counts (log 48). -/
def execEzOpen (i : Nat) (s : State) : Host.Outcome State Fault Refusal :=
  s.packetRow i 0x30 false (fun p s =>
    let e : EzStream :=
      { ep := p.dcol, col := p.scol, row := p.srow, q := p.tag % 8, ctx := p.ctx, arm := p.arg % 256, desc := parseDesc p.payload, first := 0,
        rearm := none, lastOff := none, buf := [], limit := 0, bytes := 0, tiles := 0, granted := 0 }
    let code := s.ezRefusal e (at' p.payload 0x16 2)
    if code ≠ 0 then s.inject (p.answer 0x31 0 code [] false)
    else
      let e := (s.early.filter (s.grantFor e)).foldl EzStream.grant e
      let s := { s with ezs := s.ezs.filter (fun (x : EzStream) => !x.same e) ++ [e], early := s.early.filter (fun g => !s.grantFor e g) }
      s.inject (p.answer 0x31 0 0 [] false))

/-- EZ_CLOSE: the stream ends; tiles that still wait for a grant are not sent and are answered CMD_CANCELLED (log 53). -/
def execEzClose (i : Nat) (s : State) : Host.Outcome State Fault Refusal :=
  s.packetRow i 0x32 false (fun p s =>
    match s.ezOf p with
    | none => s.inject (p.ack 0)
    | some e =>
      let s := e.buf.foldl (fun s b => s.inject (b.ack cCancelled)) (s.retireP2p e)
      { s.inject (p.ack 0) with ezs := s.ezs.filter (fun (x : EzStream) => !x.same e) })

/-- A re-arm of an IN stream is taken up as its arm ends; one that is refused faults the queue (R228, R306, R307). -/
def State.ezInTakeUp (s : State) (e : EzStream) : State :=
  let e' := e.takeUp
  if e'.rearm = e.rearm then s.setEz e
  else
    let code := s.ezRefusal e' 0
    if code = 0 then s.setEz e' else (s.setEz e').ezConfirm e' code

/-- EZ_REARM: the fields of R157 for the arm to come. -/
def execEzRearm (i : Nat) (s : State) : Host.Outcome State Fault Refusal :=
  s.packetRow i 0x33 false (fun p s =>
    match s.ezOf p with
    | none => s
    | some e =>
      let e := { e with rearm := some (e.desc.rearm (parseDesc p.payload)) }
      if e.desc.dir = 0 then s.ezInTakeUp e else s.setEz e)

/-- EZ_SEND: a tile of a point-to-point message waits for the peer's grant. -/
def execEzSend (i : Nat) (s : State) : Host.Outcome State Fault Refusal :=
  s.packetRow i 0x35 false (fun p s =>
    match s.ezOf p with
    | none => s.inject (p.ack cMalformed)
    | some e0 =>
      let e := e0.takeUp
      let refused := if e.rearm = e0.rearm then 0 else s.ezRefusal e 0
      let e := { e with tiles := e.tiles + 1, buf := e.buf ++ [p] }
      if refused ≠ 0 then ((s.setEz { e with buf := e0.buf }).ezConfirm e refused).inject (p.ack refused)
      else if e.desc.dir ≠ 1 ∨ e.desc.p2p = false then s.inject (p.ack cMalformed)
      else (s.setEz e).ezDrain e e.buf)

/-! ### Contributions (R338, R339) -/

/-- May the operation take the contribution (R267, R269)? A done tile counts whatever its length, since no stream of FAR_KIND 4 can have a
TILE_LEN of 64 (R158; log 51). -/
def State.contribOk (s : State) (o : Op) (p : Packet) : Bool :=
  decide (1 ≤ o.stage) && (!s.eachReach o || o.mask.testBit (reachOf p.scol p.srow))
    && (s.doneInput o || decide (p.addr + p.len ≤ o.inLen))

/-- EZ_CONTRIB (R269, R338, R339, R353): ACK CMD_MALFORMED where the stream's offsets do not rise or the operation cannot take the tile; a
byte that arrives twice fails the operation (log 49). -/
def execEzContrib (i : Nat) (check : Option Upset) (s : State) : Host.Outcome State Fault Refusal :=
  s.packetRow i 0x34 false (fun p s =>
    match s.ezOf p with
    | none => s.inject (p.ack cMalformed)
    | some e0 =>
      let e := e0.takeUp
      let refused := if e.rearm = e0.rearm then 0 else s.ezRefusal e 0
      let rises : Bool := match e.lastOff with
        | none => true
        | some x => decide (x < p.addr)
      let s := s.setEz { e with lastOff := some p.addr, tiles := e.tiles + 1 }
      if refused ≠ 0 then (s.ezConfirm e refused).inject (p.ack refused)
      else match (s.seqr p.ctx).ops.find? (fun o => o.opn % 2 ^ 32 == p.arg % 2 ^ 32) with
      | none => s.inject (p.ack cMalformed)
      | some o =>
        let rch := reachOf p.scol p.srow
        let src := if s.doneInput o || o.reduces then rch else 63
        if !rises || !s.contribOk o p then s.inject (p.ack cMalformed)
        else if p.poison then (s.inject (p.ack 0)).checkFail p.ctx o
        else if meetsRange o.cin src p.addr p.len || (s.doneInput o && o.cin.any (fun x => x.1 == rch)) then (s.inject (p.ack 0)).failOp p.ctx o.opn cMalformed false false
        else
          let o' := { o with cin := o.cin ++ [(src, p.addr, p.len)],
                             inp := writeBytes o.inp (src * 2 ^ 33 + p.addr) (padTo p.len (p.payload.take p.len)),
                             unconsumed := o.unconsumed ++ [p] }
          s.postInput p.ctx o o' check)

/-! ### Packets of the peer -/

/-- P2P: the tile goes to the IN queue as SPUSH with ferry count 0; a LEN other than TILE_LEN faults the queue (R306, R307). A packet that
CHK shows wrong is discarded and fails the context (R327). -/
def execP2p (i : Nat) (s : State) : Host.Outcome State Fault Refusal :=
  whenSome (s.wireAt? i 5) s (fun r s =>
    let p := r.pkt
    let bad := s.chkBad r
    let s := s.wireTake i r
    if bad then s.chkFail p
    else match s.jobCtx p with
    | none => s
    | some c =>
      match s.ezs.find? (fun e => e.ctx == c && e.desc.p2p && e.desc.dir == 0 && e.desc.peer == p.srcRank && e.desc.chan == p.group) with
        | none => s
        | some e =>
          if p.len ≠ e.desc.tileLen then s.ezConfirm e cMalformed
          else
            let s := s.inject { Packet.blank with
              srcEdge := true, scol := e.ep, dcol := e.col, drow := e.row, kind := 0x15, poison := p.poison, len := p.len,
              payload := p.payload.take p.len, tag := streamTag e.q p.arg, ctx := c, epoch := s.rillEpoch c, arg := 256 * (e.arm % 256) }
            s.ezInTakeUp { e with tiles := e.tiles + 1 })

/-- P2P_GRANT: the peer's latest limit (R307). -/
def execP2pGrant (i : Nat) (s : State) : Host.Outcome State Fault Refusal :=
  whenSome (s.wireAt? i 6) s (fun r s =>
    let p := r.pkt
    let s := s.wireTake i r
    match s.ezs.find? (fun e => s.grantFor e p) with
    | some e =>
      let e := e.grant p
      (s.setEz e).ezDrain e e.buf
    | none =>
      let other (g : WirePkt) : Bool := !(g.type == 6 && g.jobId == p.jobId && g.srcRank == p.srcRank && g.group == p.group)
      { s with early := s.early.filter other ++ [p] })

/-- An SCREDIT of an IN queue at a torus endpoint: the limit that it admits goes to the peer in bytes (R306, R307). -/
def State.ezCredit (s : State) (p : Packet) (e : EzStream) : State :=
  match s.jobOf e.ctx with
  | none => s
  | some j =>
    let limit := nearCount e.tiles (p.arg % 2 ^ 32) * e.desc.tileLen
    if p.arg / 2 ^ 32 % 256 ≠ e.arm ∨ e.desc.dir ≠ 0 then s
    else
      (s.setEz { e with granted := limit }).wireTo j e.desc.peer
        { s.wireBlank j with type := 6, cls := 1, group := e.desc.chan, seq := e.arm, arg2 := limit }

end Sys2Proof.Machine
end

