-- ==== Sys2Proof/Machine/Jobs.lean ====
section
/-! DEFINITION. Job slots, the Collective Group Table and job start (09 R312-R316, R323-R333, 10 R340, R354, R361): BCAST_START, BCAST_OPEN,
BCAST_ABORT, BCAST_ACK, BCAST_TIMEOUT, JOB_T_START, GROUP_ENTRY_VALIDATE, JOB_CTL_WRITE, STAGE_WRITE and CONFLUENCE_RETEST_DONE. -/

namespace Sys2Proof.Machine

/-! ### Job slots (R331, R493) -/

/-- Has a context a post that is admitted and not complete? -/
def State.postOpen (s : State) (c : Nat) : Bool := (s.seqr c).ops.any (fun o => decide (1 ≤ o.stage))
/-- The context that a job slot names. -/
def State.slotCtx (s : State) (j : Nat) : Nat := s.regF (aJob j 0) 0 5
/-- STATE of a job slot: 0 IDLE, 1 STAGED, 2 STARTED. -/
def State.jobState (s : State) (j : Nat) : Nat := s.regF (aJob j 0) 16 2
/-- STATE set. -/
def State.setJobState (s : State) (j v : Nat) : State := s.setF (aJob j 0) 16 2 v

/-- A write of JOB_CTL (R312, R331, R493). CTX is written only while VALID is 0; a context owns one slot at most. -/
def State.jobCtl (s : State) (j : Nat) (v : W32) : State :=
  let c := fld v 0 5
  let cur := s.slotCtx j
  if s.jobValid j then
    (if bitOf v 31 then (if c = cur then s else s.ignored clsRank 0)
     else if s.postOpen cur then s.ignored clsRank 0
     else { (s.setB (aJob j 0) 31 false).setJobState j 0 with bcasts := del s.bcasts j })
  else if 16 < c ∨ bitOf (s.reg (aPt c 0)) 3 = false ∨ (bitOf v 31 ∧ (s.jobOf c).isSome) then s.ignored clsRank 0
  else (s.setF (aJob j 0) 0 5 c).setB (aJob j 0) 31 (bitOf v 31)

/-- JOB_CTL_WRITE. -/
def execJobCtlWrite (job : Nat) (value : W32) (s : State) : Host.Outcome State Fault Refusal :=
  onUnit (decide (job < 4)) s.served s (fun s => s.jobCtl job value)

/-! ### Groups (R315, R316, R333, R340) -/

/-- GT_STATUS of a refused or ignored write. -/
def State.gtStatus (s : State) (g reason : Nat) : State := s.setRegN (rg clsGroup 0 0x100) (g % 4096 + 4096 * reason)

/-- Why validation refuses an entry; 0 where it does not (R316, R302). -/
def State.groupReason (s : State) (g : Nat) (w0 : W32) : Nat :=
  let n := s.groupN g
  let off := fld w0 0 18
  let j := fld w0 20 2
  let ranks := (List.range n).map (fun i => s.memberAt (off + i))
  let recent : Bool := match look? s.groupInvalid g with
    | some t => inWindow s.clk.now t 2000000000
    | none => false
  if n = 0 ∨ 16384 < n ∨ 262144 < off + n then 1
  else if recent then 6
  else if !ranks.all (fun r => bitOf (s.rankWord j r) 31) then 2
  else if (ranks.foldl ins []).length ≠ n then 3
  else if ranks[s.groupSelf g]? ≠ some (s.selfRank j) then 4 else 0

/-- The distinct values of a list in rising order. -/
def distinct (l : List Nat) : List Nat := l.foldl ins []

/-- The shape of a group (R340): its sizes where it is a box. -/
def State.groupShape (s : State) (g : Nat) : Option (Nat × Nat × Nat) :=
  let ws := (List.range (s.groupN g)).map (fun i => s.rankWord (s.groupJob g) (s.memberRank g i))
  let cs := ws.map rankCoord
  let xs := distinct (cs.map (fun (c : Coord) => c.x))
  let ys := distinct (cs.map (fun (c : Coord) => c.y))
  let zs := distinct (cs.map (fun (c : Coord) => c.z))
  let box : List Coord := xs.flatMap (fun x => ys.flatMap (fun y => zs.map (fun z => ({ x, y, z } : Coord))))
  if ws.all (fun w => !bitOf w 13 && !bitOf w 14) && cs == box then some (xs.length, ys.length, zs.length) else none

/-- Is a post on the entry admitted and not complete? -/
def State.groupBusy (s : State) (g : Nat) : Bool :=
  (List.range 17).any (fun c => (s.seqr c).ops.any (fun o => decide (1 ≤ o.stage) && o.coll != 0 && o.group == g))

/-- Fields of word 0. -/
def groupMask : Nat := 0x8033FFFF

/-- A write of word 0 of an entry (R316). -/
def State.groupWord0 (s : State) (g : Nat) (v : W32) : State :=
  let v := v &&& BitVec.ofNat 32 groupMask
  if s.groupValid g then
    (if bitOf v 31 then s.gtStatus g 5
     else if s.groupBusy g then s.gtStatus g 6
     else { s.setReg (aGroup g 0) v with groupInvalid := put s.groupInvalid g s.clk.now, shapes := del s.shapes g })
  else if bitOf v 31 then
    let why := s.groupReason g v
    let s' := s.setReg (aGroup g 0) v
    if why ≠ 0 then (s'.setB (aGroup g 0) 31 false).gtStatus g why
    else
      let shapes := match s'.groupShape g with
        | some x => put s.shapes g x
        | none => del s.shapes g
      { s' with postSeq := put s.postSeq g 0, shapes }
  else s.setReg (aGroup g 0) v

/-- A write of word 1. -/
def State.groupWord1 (s : State) (g : Nat) (v : W32) : State :=
  if s.groupValid g then s.gtStatus g 5 else s.setReg (aGroup g 1) (v &&& 0x3FFF7FFF)

/-- GROUP_ENTRY_VALIDATE. -/
def execGroupEntryValidate (g : Nat) (word0 : W32) (s : State) : Host.Outcome State Fault Refusal :=
  onUnit (decide (g < 4096)) s.served s (fun s => s.groupWord0 g word0)

/-- A write of a member-list entry: ignored inside a VALID group (R316). -/
def State.memberWrite (s : State) (m v : Nat) : State :=
  match (List.range 4096).find? (fun g => s.groupValid g && decide (s.regF (aGroup g 0) 0 18 ≤ m) && decide (m < s.regF (aGroup g 0) 0 18 + s.groupN g)) with
  | some g => s.gtStatus g 7
  | none => s.setF (aMember m) (16 * (m % 2)) 16 (v % 16384)

/-! ### Confluence registers and chiplets (R354, R361) -/

/-- Has the context a reduction post that is admitted and not complete? -/
def State.reduceOpen (s : State) (c : Nat) : Bool := (s.seqr c).ops.any (fun o => decide (1 ≤ o.stage) && o.reduces)

/-- A write of STAGEc (R361). -/
def State.stageWrite (s : State) (c : Nat) (v : W32) : State :=
  if s.reduceOpen c ∨ 48 < fld v 0 6 + fld v 8 6 then s.ignored clsCf 12 else s.setReg (aStage c) (v &&& 0x3F3F)

/-- STAGE_WRITE. -/
def execStageWrite (ctx : Nat) (value : W32) (s : State) : Host.Outcome State Fault Refusal :=
  onUnit (decide (ctx ≤ 16)) s.served s (fun s => s.stageWrite ctx value)

/-- CONFLUENCE_RETEST_DONE: the page becomes ON with each unit that passes, FAULTED with none (R354). -/
def execConfluenceRetestDone (t okMask : Nat) (s : State) : Host.Outcome State Fault Refusal :=
  onUnit (decide (t < 12)) (s.pst clsCf t == stStarting) s (fun s =>
    let s := s.setF (rg clsCf t 0x100) 8 2 (okMask % 4)
    let s := { s with adderFails := s.adderFails.filter (fun e => e.1 / 34 != t) }
    (if okMask % 4 = 0 then s.pageFault clsCf t id else s.startDone clsCf t id).cfSync)

/-! ### The broadcast tree (R323, R324) -/

/-- Ranks of the tree: those of the job's rank table that the bitmap does not exclude, in rising order. -/
def State.treeRanks (s : State) (j : Nat) (excl : List Byte) : List Nat :=
  (List.range 16384).filter (fun r => bitOf (s.rankWord j r) 31 && !(at' excl (r / 8) 1).testBit (r % 8))

/-- Children of a rank. -/
def childrenOf (l : List Nat) (rank : Nat) : List Nat :=
  let p := l.idxOf rank
  if p < l.length then (List.range 8).filterMap (fun i => l[8 * p + 1 + i]?) else []

/-- Levels below list position p of n. -/
def levelsBelow (n : Nat) : Nat → Nat → Nat
  | 0, _ => 0
  | f + 1, p => if 8 * p + 1 < n then levelsBelow n f (8 * p + 1) + 1 else 0

/-- Children of this node under a broadcast. -/
def State.bcastKids (s : State) (j : Nat) (b : Bcast) : List Nat := childrenOf (s.treeRanks j b.excl) (s.selfRank j)

/-- A BCAST to this node's children: 0 START, 1 OPEN, 2 ABORT. START carries the DIGEST, then the bitmap (log 54). -/
def State.bcastDown (s : State) (j : Nat) (b : Bcast) (sub tStart : Nat) : State :=
  (s.bcastKids j b).foldl (fun s r =>
    s.wireTo j r { s.wireBlank j with type := 7, seq := b.seq, arg := sub, arg2 := tStart, payload := if sub = 0 then b.digest ++ b.excl else [] }) s

/-- The answer to the parent (R324). -/
def State.bcastAnswer (s : State) (j : Nat) (b : Bcast) : State :=
  match b.parent with
  | none => s
  | some r => s.wireTo j r { s.wireBlank j with type := 8, cls := 1, seq := b.seq, arg := b.ok, arg2 := b.lost + 16384 * b.status }

/-- A rank that did not confirm: a lost node (2) counts before a digest mismatch (1), and of each kind the lowest rank. -/
def Bcast.miss (b : Bcast) (status rank : Nat) : Bcast :=
  if b.status < status then { b with status, lost := rank }
  else if b.status = status then { b with lost := min b.lost rank } else b

/-- The DIGEST of the context's bound manifest; none where none is bound. -/
def State.boundDigest (s : State) (c : Nat) : Option (List Byte) :=
  let x := s.hwActive c
  if s.manOk c x then some (manDigest (s.man c x)) else none

/-- A START begins at this node: its own confirmation, which the root's JOB_START shows at once (R485), its staging, the START to its children, and the wait for them. -/
def State.bcastBegin (s : State) (j : Nat) (b : Bcast) : State :=
  let l := s.treeRanks j b.excl
  let self := s.selfRank j
  let good := s.boundDigest (s.slotCtx j) == some b.digest
  let b := { b with kids := childrenOf l self, ok := b2n good, status := 0, lost := 0, answered := false, opened := false,
                    due := s.clk.now + 20000000 * levelsBelow l.length 5 (l.idxOf self) }
  let b := if good then b else b.miss 1 self
  let s := s.setJobState j 1
  let s := { s with bcasts := put s.bcasts j b }
  (s.modLong (s.slotCtx j) b.handle (fun o => { o with progress := b.ok })).bcastDown j b 0 0

/-- Every staging under the broadcast is discarded, here and below (R325). -/
def State.bcastDrop (s : State) (j : Nat) (b : Bcast) : State :=
  let s := s.bcastDown j b 2 0
  let s := { s with bcasts := put s.bcasts j { b with answered := true, kids := [], opened := false, handle := 0 } }
  if s.jobState j = 1 then s.setJobState j 0 else s

/-- RESULT of a JOB_START (R478). -/
def jobResult (tStart rank : Nat) : List Byte := leBytes 8 tStart ++ leBytes 2 rank

/-- The lowest rank that the root has excluded beside those of the host. -/
def Bcast.added (b : Bcast) : Option Nat :=
  (List.range 16384).find? (fun r => (at' b.excl (r / 8) 1).testBit (r % 8) && !(at' b.excl0 (r / 8) 1).testBit (r % 8))

/-- A bitmap with one more rank. -/
def addRank (excl : List Byte) (r : Nat) : List Byte := setAt excl (r / 8) (BitVec.ofNat 8 (at' excl (r / 8) 1 ||| 2 ^ (r % 8)))

/-- The root's end of a tree without lost nodes: the job opens, or every staging is discarded and JOB_START ends (R325, R326). -/
def State.bcastFinish (s : State) (j : Nat) (b : Bcast) : State :=
  let c := s.slotCtx j
  match b.added with
  | some r => (s.bcastDrop j b).endLong c b.handle cCollMemberLost (jobResult 0 r)
  | none =>
    if b.status = 1 then (s.bcastDrop j b).endLong c b.handle cCollMismatch (jobResult 0 b.lost)
    else
      let t := s.clk.now + s.regN (rg clsRank 0 0x108) * 1000
      let b := { b with answered := true, opened := true }
      let s := { s.setReg64 (aJob j 0x10) t with bcasts := put s.bcasts j b }
      (s.modLong c b.handle (fun o => { o with started := true })).bcastDown j b 1 t

/-- Every answer is in at this node, or the time has passed: a node answers its parent; the root ends the tree, or starts again without a
lost rank (R324, R325). -/
def State.bcastEnd (s : State) (j : Nat) (b : Bcast) : State :=
  let b := b.kids.foldl (fun (b : Bcast) r => b.miss 2 r) b
  let b := { b with kids := [], answered := true }
  let s := { s with bcasts := put s.bcasts j b }
  if b.parent.isSome then s.bcastAnswer j b
  else if b.status = 2 then
    let s := s.bcastBegin j { b with seq := b.seq + 1, excl := addRank b.excl b.lost }
    match look? s.bcasts j with
    | some b => if b.kids.isEmpty then s.bcastFinish j b else s
    | none => s
  else s.bcastFinish j b

/-- The broadcast goes on: it ends at this node once no child is awaited. -/
def State.bcastNext (s : State) (j : Nat) : State :=
  match look? s.bcasts j with
  | none => s
  | some b => if b.kids.isEmpty ∧ b.answered = false then s.bcastEnd j b else s

/-- JOB_START at the root (R323, R478). -/
def State.bcastRoot (s : State) (j handle : Nat) (excl : List Byte) : State :=
  let seq := match look? s.bcasts j with
    | some b => b.seq + 1
    | none => 1
  let d := (s.boundDigest (s.slotCtx j)).getD []
  (s.bcastBegin j { seq, parent := none, kids := [], ok := 0, status := 0, lost := 0, due := 0, answered := false, digest := d, excl, handle,
                    excl0 := excl, opened := false }).bcastNext j

/-- JOB_START is cancelled before OPEN (R485): staging is discarded everywhere; the caller ends the operation. -/
def State.bcastCancel (s : State) (j : Nat) : State :=
  match look? s.bcasts j with
  | none => s
  | some b => s.bcastDrop j b

/-! ### Commands -/

/-- A BCAST of a subtype at its destination. -/
def State.bcastAt? (s : State) (i sub : Nat) : Option RxPkt := (s.wireAt? i 7).bind (fun r => if r.pkt.arg = sub then some r else none)

/-- BCAST_START (R324): a copy is answered with the last answer. -/
def execBcastStart (i : Nat) (s : State) : Host.Outcome State Fault Refusal :=
  whenSome (s.bcastAt? i 0) s (fun r s =>
    let p := r.pkt
    let s := s.wireTake i r
    match s.jobOfId p.jobId with
    | none => s
    | some j =>
      let seen := (look? s.bcasts j).map (fun b => b.seq)
      match seen, look? s.bcasts j with
      | some n, some b =>
        if p.seq ≤ n then (if b.answered ∧ b.parent.isSome then s.bcastAnswer j b else s)
        else (s.bcastBegin j { b with seq := p.seq, parent := some p.srcRank, digest := p.payload.take 32, excl := padTo 2048 (p.payload.drop 32), handle := 0 }).bcastNext j
      | _, _ =>
        (s.bcastBegin j { seq := p.seq, parent := some p.srcRank, kids := [], ok := 0, status := 0, lost := 0, due := 0, answered := false,
                          digest := p.payload.take 32, excl := padTo 2048 (p.payload.drop 32), handle := 0, excl0 := [], opened := false }).bcastNext j)

/-- The broadcast that an OPEN, an ABORT or an answer belongs to. -/
def State.bcastOf (s : State) (p : WirePkt) : Option (Nat × Bcast) :=
  (s.jobOfId p.jobId).bind (fun j => (look? s.bcasts j).bind (fun b => if b.seq = p.seq then some (j, b) else none))

/-- BCAST_OPEN (R326): T_START is noted and the OPEN goes on down the tree. -/
def execBcastOpen (i : Nat) (s : State) : Host.Outcome State Fault Refusal :=
  whenSome (s.bcastAt? i 1) s (fun r s =>
    let s := s.wireTake i r
    match s.bcastOf r.pkt with
    | none => s
    | some (j, b) =>
      if b.opened ∨ s.jobState j ≠ 1 then s
      else
        let b := { b with opened := true }
        ({ s.setReg64 (aJob j 0x10) r.pkt.arg2 with bcasts := put s.bcasts j b }).bcastDown j b 1 r.pkt.arg2)

/-- BCAST_ABORT (R325). -/
def execBcastAbort (i : Nat) (s : State) : Host.Outcome State Fault Refusal :=
  whenSome (s.bcastAt? i 2) s (fun r s =>
    let s := s.wireTake i r
    match s.bcastOf r.pkt with
    | none => s
    | some (j, b) => if b.opened then s else s.bcastDrop j b)

/-- BCAST_ACK (R324): the counts of a child's subtree. -/
def execBcastAck (i : Nat) (s : State) : Host.Outcome State Fault Refusal :=
  whenSome (s.wireAt? i 8) s (fun r s =>
    let p := r.pkt
    let s := s.wireTake i r
    match s.bcastOf p with
    | none => s
    | some (j, b) =>
      if !b.kids.contains p.srcRank then s
      else
        let b := { b with kids := rem b.kids p.srcRank, ok := b.ok + p.arg }
        let st := p.arg2 / 16384 % 4
        let b := if st = 0 then b else b.miss st (p.arg2 % 16384)
        let s := { s with bcasts := put s.bcasts j b }
        (s.modLong (s.slotCtx j) b.handle (fun o => { o with progress := b.ok })).bcastNext j)

/-- BCAST_TIMEOUT: 20 ms for each level below the node have passed (R324). -/
def execBcastTimeout (job now : Nat) (s : State) : Host.Outcome State Fault Refusal :=
  unitRow (decide (job < 4)) s (
    match look? s.bcasts job with
    | none => .next s
    | some b =>
      whenB (!b.answered && !b.kids.isEmpty && reached (max now s.clk.now) b.due) s (fun s => (s.atTime now).bcastEnd job b))

/-- Has T_START of a STAGED job come (R326)? -/
def State.jobStarts (s : State) (j : Nat) : Bool :=
  (match look? s.bcasts j with
    | some b => b.opened
    | none => false) && s.jobState j == 1 && reached s.clk.now (s.reg64 (aJob j 0x10))

/-- Must a job's start wait for another event at T_START's grain (R453), or for one of an earlier T_START (R454)? -/
def State.startsLater (s : State) (j : Nat) : Bool :=
  s.earlierDue (grain s.clk.now) 4
    || (List.range 17).any (fun c => s.rebindDue c && s.opensAt c)
    || (List.range 4).any (fun i => s.jobStarts i && decide (s.reg64 (aJob i 0x10) < s.reg64 (aJob j 0x10)))

/-- JOB_T_START: T_START has come; the slot is STARTED, and at the root JOB_START is done (R326, R453; log 55). -/
def execJobTStart (job now : Nat) (s : State) : Host.Outcome State Fault Refusal :=
  unitRow (decide (job < 4)) s (
    match look? s.bcasts job with
    | none => .next s
    | some b =>
      let t := (s.atTime now).utcApply
      whenB (t.jobStarts job && !t.startsLater job) s (fun _ =>
        let s := t.setJobState job 2
        s.endLong (s.slotCtx job) b.handle 0 (jobResult (s.reg64 (aJob job 0x10)) 0)))

end Sys2Proof.Machine
end

