-- ==== Sys2Proof/Machine/Recovery.lean ====
section
/-! DEFINITION. Commit points, restore and replay, repairs and wear (11 R364-R398): COMMIT_POINT_COMPLETE, CBAR, HOLD_RESTORE,
REBUILD_LIST_DONE, SPARE_SWAP, CMT_FLASH_WRITE_DONE, DRAIN_HOLD_RESUME and WEAR_SKIP. -/

namespace Sys2Proof.Machine

/-! ### The commit record (R379-R381) -/

/-- COMMIT_GROUP of a context. -/
def State.commitGroup (s : State) (c : Nat) : Nat := s.regF (aRc c 0) 0 12
/-- GROUP_EN. -/
def State.groupEn (s : State) (c : Nat) : Bool := s.regB (aRc c 0) 12

/-- Post sequence numbers of the groups that a context uses, as they stood at a commit point: posts admitted after it do not count. -/
def State.seqsAt (s : State) (c opn : Nat) : AMap Nat :=
  match s.jobOf c with
  | none => []
  | some j =>
    let q := s.seqr c
    let later := (q.ops.filter (fun o => decide (1 ≤ o.stage)) ++ q.past).filter (fun o => !o.rebuild && o.coll != 0 && decide (opn < o.opn))
    ((List.range 4096).filter (fun g => s.groupValid g && s.groupJob g == j)).map (fun g =>
      (g, look 0 s.postSeq g - sumL ((later.filter (fun o => o.group == g)).map Op.posts)))

/-- The commit record of a commit point (R381). -/
def State.formRecord (s : State) (c opn : Nat) : CommitRec :=
  { opn, next := opn + 1, step := opn, seqs := s.seqsAt c opn, images := (s.rcv c).images, rebuildVa := s.reg64 (aRc c 0x20), rebuildN := s.regN (aRc c 0x28) }

/-! ### Barriers (R380, R386) -/

/-- SIG of a barrier packet. -/
def State.barrierSig (s : State) (j g seq : Nat) : Nat := sigOf (s.jobId j) g seq 8 0 0 0 0

/-- A barrier packet to a member: bit 0 of `arg` the replay barrier, bit 1 an answer. -/
def State.barrierSend (s : State) (g m arg seq arg2 : Nat) : State :=
  let j := s.groupJob g
  s.wireTo j (s.memberRank g m) { s.wireBlank j with type := 10, last := true, group := g, seq, sig := s.barrierSig j g seq, arg, arg2 }

/-- Has every other member of the group arrived, by a test of its arrival? -/
def State.allArrived (s : State) (c : Nat) (p : Nat × Nat × Nat → Bool) : Bool :=
  (List.range (s.groupN (s.commitGroup c))).all (fun i => i == 0 || (s.rcv c).arrivals.any (fun a => a.1 == i && p a))

/-- Answers of member 0 to every other member. -/
def State.barrierAnswer (s : State) (c arg seq arg2 : Nat) : State :=
  ((List.range (s.groupN (s.commitGroup c))).filter (fun i => i != 0)).foldl (fun s i => s.barrierSend (s.commitGroup c) i arg seq arg2) s

/-- The commit barrier has succeeded at this member (R387): COMMIT_POINT_COMPLETE follows; a hold that waited for it takes the commit point and
goes on. -/
def State.barrierWon (s : State) (c : Nat) : State :=
  let r := s.rcv c
  match r.formed with
  | none => s
  | some rec =>
    if r.waitOutcome.isSome then (s.commitDo c rec).holdGoOn c
    else s.setRcv c { r with won := true }

/-- Member 0 looks whether its commit barrier succeeds: it has arrived itself, and so has every other member (R380). -/
def State.commitLook (s : State) (c : Nat) : State :=
  let seq := s.regN (aRc c 0xC)
  if (s.rcv c).formed.isSome && !(s.rcv c).won && s.allArrived c (fun a => a.2.1 == seq) then (s.barrierAnswer c 2 seq 0).barrierWon c else s

/-- This member arrives at the commit barrier: it forms its record and sends its done chunk (R380, R381). -/
def State.commitArrive (s : State) (c opn : Nat) : State :=
  let s := s.setRcv c { s.rcv c with formed := some (s.formRecord c opn), barrierAt := s.clk.now, won := false }
  let g := s.commitGroup c
  if s.groupSelf g = 0 then s.commitLook c else s.barrierSend g 0 0 (s.regN (aRc c 0xC)) 0

/-! ### Restore and replay (R383-R386) -/

/-- The context stays HELD with CMD_MALFORMED (R384, R402). -/
def State.heldMalformed (s : State) (c : Nat) : State :=
  ((s.setRcv c { s.rcv c with stuck := true }).setF (aRc c 4) 16 16 cMalformed).setRstate c 2

/-- The images of a list as they stand in stack memory; none where one cannot be read or is refused. -/
def State.readImages (s : State) (c : Nat) : List ImgEntry → Option (List (ImgEntry × List Byte)) × State
  | [] => (some [], s)
  | e :: t =>
    match s.vaRead c e.1 0x80 with
    | (.inl _, s) => (none, s)
    | (.inr h, s) =>
      match s.vaRead c e.1 (at' h 0xC 4) with
      | (.inl _, s) => (none, s)
      | (.inr b, s) =>
        if imageOk b (at' h 0xC 4) then
          match s.readImages c t with
          | (some l, s) => (some ((e, b) :: l), s)
          | (none, s) => (none, s)
        else (none, s)

/-- Step 6: the images of the commit record, or of the replay set before the first one, are loaded in order, and the post sequence numbers
are set back (R381, R383; log 57). -/
def State.restoreLoad (s : State) (c : Nat) : Option State × State :=
  let r := s.rcv c
  let (imgs, step) := match r.commit with
    | some x => (x.images, x.step)
    | none => (r.images, 0)
  match s.readImages c imgs with
  | (none, s) => (none, s)
  | (some l, s) =>
    let s := l.foldl (fun s e => (s.presentIn e.1.2.1 e.1.2.2.1 e.1.2.2.2.1 e.1.2.2.2.2).foldl (fun s k => s.loadRill c k step e.2) s) s
    let s := s.setImages c imgs
    let seqs : AMap Nat := match r.commit, s.jobOf c with
      | some x, _ => x.seqs
      | none, some j => ((List.range 4096).filter (fun g => s.groupValid g && s.groupJob g == j)).map (fun g => (g, 0))
      | none, none => []
    let s := { s with postSeq := seqs.foldl (fun m e => put m e.1 e.2) s.postSeq }
    (some (s.setRcv c { s.rcv c with loaded := true }), s)

/-- A replay begins: packets and grants that came early before it are none of the replay's (R21, R383). -/
def State.dropEarly (s : State) (c : Nat) : State :=
  { s with early := match s.jobOf c with
      | some j => s.early.filter (fun p => p.jobId != s.jobId j)
      | none => s.early }

/-- Step 9: the run lists are resubmitted from COMMIT_OPN + 1, and REPLAY_DONE is told. An image load that had begun waits again for the operations
before it (R480). While a pitch starts or stops, the context is held again at once (R411). -/
def State.resumeRun (s : State) (c : Nat) : State :=
  let r := s.rcv c
  let q := s.seqr c
  let lists := r.remapLists.getD q.lists
  let next := match r.commit with
    | some x => x.next
    | none => (lists.head?.map (·.opn0)).getD 0
  let step := match r.commit with
    | some x => x.step
    | none => 0
  let q := { q with lists, next, step, ops := [], halted := false, past := [],
                    owed := q.owed ++ q.past.filter Op.owesDigest, alt := none,
                    tail := if r.remapLists.isSome then some ((lists.getLast?.map (fun l => l.opn0 + l.entries)).getD next) else q.tail,
                    points := q.points.map (fun (x : Point) => { x with done := false, grads := [] }),
                    loads := q.loads.map (fun (l : ImgLoad) => { l with begun := false, image := [], done := 0 }) }
  let s := s.setRcv c { r with formed := none, won := false, loaded := false, rebuild := none, remapLists := none,
                               arrivals := r.arrivals.filter (fun a => !a.2.1.testBit 32) }
  let s := ((s.setSeqr c q).setRstate c 0).postEvent c cReplayDone
  let s := if !s.pitchBusy then s
    else { (s.setRcv c { s.rcv c with drained := true, drainAt := s.clk.now }).setRstate c 5 with pitchHeld := ins s.pitchHeld c }
  ((s.cairnLog 3 clsCe c cReplayDone c []).pointsDone c).imgPump c

/-- The replay barrier's outcome at this member (R386): the largest COMMIT_COUNT decides whether its own arrival was complete. -/
def State.replayOutcome (s : State) (c largest : Nat) : State :=
  let own := s.regN (aRc c 0xC)
  let s := s.retireBarrier c
  match (s.rcv c).formed with
  | some rec =>
    if (own + 1) % 2 ^ 32 = largest then
      (match (s.commitDo c rec).restoreLoad c with
       | (some s, _) => s.resumeRun c
       | (none, s) => s.heldMalformed c)
    else s.resumeRun c
  | none => s.resumeRun c

/-- Member 0 looks whether every member has arrived at the replay barrier, and answers with the largest count. -/
def State.replayLook (s : State) (c : Nat) : State :=
  let mine := s.regN (aRc c 0xC)
  if s.rstate c == 4 && s.allArrived c (fun a => a.2.1.testBit 32) then
    let all := (s.rcv c).arrivals.filter (fun a => a.2.1.testBit 32)
    let largest := all.foldl (fun m a => max m (a.2.2 % 2 ^ 32)) mine
    (s.barrierAnswer c 3 ((2 ^ 31 + mine) % 2 ^ 32) largest).replayOutcome c largest
  else s

/-- Step 8: this member arrives at the replay barrier. -/
def State.replayArrive (s : State) (c : Nat) : State :=
  let g := s.commitGroup c
  let s := s.setRstate c 4
  if s.groupSelf g = 0 then s.replayLook c
  else
    let count := s.regN (aRc c 0xC)
    s.barrierSend g 0 1 ((2 ^ 31 + count) % 2 ^ 32) (count + 2 ^ 32 * b2n (s.rcv c).formed.isSome)

/-- Steps 8 and 9 of the fault hold. A group that is not VALID or another job's leaves the context HELD. -/
def State.afterRebuild (s : State) (c : Nat) : State :=
  if s.groupEn c then (if s.groupOk c (s.commitGroup c) then s.replayArrive c else s.heldMalformed c) else s.resumeRun c

/-- Descriptors of the rebuild list in force (R381, R385). -/
def State.rebuildCount (s : State) (c : Nat) : Nat :=
  match (s.rcv c).commit with
  | some r => r.rebuildN
  | none => s.regN (aRc c 0x28)

/-- The reload that a context's stale rills waited for has been made: EPOCH_OK of a pitch that waits for no other one (R393, R559). -/
def State.epochOk (s : State) (c : Nat) : State :=
  let mine := (s.staleWait.filter (fun e => e.2 == c)).map (·.1)
  let s := { s with staleWait := s.staleWait.filter (fun e => e.2 != c) }
  mine.foldl (fun s p => if s.staleWait.any (fun e => e.1 == p) then s else s.setB (rg clsPitch p 0x00C) 5 true) s

/-- HOLD_RESTORE: after any repair is in flash, steps 6 and 7 of the fault hold (R367, R383, R389). -/
def execHoldRestore (ctx : Nat) (s : State) : Host.Outcome State Fault Refusal :=
  let r := s.rcv ctx
  onUnit (decide (ctx ≤ 16)) (s.rstate ctx == 3 && r.repairs == 0 && !r.loaded) s (fun s =>
    let s := if r.uncounted then
        ((s.setRcv ctx { r with uncounted := false }).setF (aRc ctx 4) 4 3 (min 7 (s.regF (aRc ctx 4) 4 3 + 1))).incSat (aRc ctx 0x18)
      else s
    match (s.dropEarly ctx).restoreLoad ctx with
    | (none, s) => s.heldMalformed ctx
    | (some s, _) =>
      let s := s.epochOk ctx
      if s.regB (aRc ctx 4) 3 then
        if s.rebuildCount ctx = 0 then (s.setB (aRc ctx 4) 3 false).afterRebuild ctx
        else s.setRcv ctx { s.rcv ctx with rebuild := some 0 }
      else s.afterRebuild ctx)

/-- REBUILD_LIST_DONE: every operation of the rebuild list is complete (R385); a code other than 0 names a failure, which has left the context
HELD already. -/
def execRebuildListDone (ctx code : Nat) (s : State) : Host.Outcome State Fault Refusal :=
  let r := s.rcv ctx
  onUnit (decide (ctx ≤ 16))
    (code == 0 && s.rstate ctx == 3 && (s.seqr ctx).ops.isEmpty && (r.rebuild.map (fun n => decide (s.rebuildCount ctx ≤ n))).getD false) s (fun s =>
      ((s.setRcv ctx { r with rebuild := none }).setB (aRc ctx 4) 3 false).afterRebuild ctx)

/-! ### Commands of commit points -/

/-- Is every gradient frame of a list acknowledged (R379)? -/
def State.gradsDone (s : State) (c : Nat) (l : List (Nat × Nat × Nat)) : Bool :=
  l.all (fun e => !s.grads.any (fun g => g.ctx == c && g.sent && g.step == e.1 && g.seq == e.2.1 && g.rank == e.2.2))

/-- The commit point that comes next, if its conditions but the barrier hold (R379). -/
def State.pointReady (s : State) (c : Nat) : Option Point :=
  match (s.seqr c).points.head? with
  | some x => if x.done && s.gradsDone c x.grads then some x else none
  | none => none

/-- COMMIT_POINT_COMPLETE (R379-R381, R402): with GROUP_EN the first event is this member's arrival at the commit barrier and the next one, after
the barrier has succeeded, completes the commit point (log 36). A hang that waited for it holds the context then (R56). -/
def execCommitPointComplete (ctx now : Nat) (s : State) : Host.Outcome State Fault Refusal :=
  unitRow (decide (ctx ≤ 16)) s (
    match s.pointReady ctx with
    | none => .next s
    | some x =>
      whenB (s.rstate ctx == 0 || s.rstate ctx == 5) s (fun s =>
        let s := s.atTime now
        let r := s.rcv ctx
        if !s.groupEn ctx then (s.commitDo ctx (s.formRecord ctx x.opn)).hangDue ctx
        else if !s.groupOk ctx (s.commitGroup ctx) then s.failOp ctx (s.seqr ctx).low cMalformed true false
        else match r.formed with
          | none => s.commitArrive ctx x.opn
          | some rec => if r.won then (s.commitDo ctx rec).hangDue ctx else s))

/-- CBAR (R380, R386, R387): an arrival at member 0, or its answer. A wrong SIG is a mismatch (R319). -/
def execCbar (i : Nat) (s : State) : Host.Outcome State Fault Refusal :=
  whenSome (s.wireAt? i 10) s (fun r s =>
    let p := r.pkt
    let s := s.wireTake i r
    match s.jobCtx p with
    | none => s
    | some c =>
      let g := s.commitGroup c
      let replay := p.arg % 2 == 1
      if s.groupEn c = false ∨ p.group ≠ g ∨ s.groupOk c g = false then s
      else if p.sig ≠ s.barrierSig (s.groupJob g) g p.seq then s.contextFail c cCollMismatch false
      else if p.arg / 2 % 2 = 1 then
        (if replay then (if s.rstate c = 4 then s.replayOutcome c (p.arg2 % 2 ^ 32) else s)
         else if p.seq = s.regN (aRc c 0xC) then s.barrierWon c else s)
      else match s.memberOf g p.srcRank with
        | none => s
        | some m =>
          let s := s.setRcv c { s.rcv c with arrivals := (s.rcv c).arrivals ++ [(m, p.seq + 2 ^ 32 * b2n replay, p.arg2)] }
          if replay then s.replayLook c else s.commitLook c)

/-! ### Repairs (R366-R374) -/

/-- Bytes of a rill store or pool that are lost: free values, no poison. -/
def State.loseRill (s : State) (k : Nat) : State :=
  let (b, s) := s.drawBytes 0xC000
  let (p, s) := s.drawBytes 0x10000
  let s := (s.storeWrite k 0 b false).poolWrite k 0 p false
  let r := s.rill k
  s.setRill k { Rill.init with epoch := r.epoch, ctx := r.ctx, step := r.step }

/-- The entries of a segment after its idle position moves to f (R366, R372): every rill between moves one place toward the old idle
position, and what the table says of a position stays with the position. -/
def State.segShift (s : State) (seg f d : Nat) : State :=
  let ks := segmentOf seg
  let old := ks.map (fun k => (s.regF (aCmtK k) 0 4, s.regF (aCmtK k) 4 3, s.regF (aCmtK k) 12 4))
  let move (p : Nat) : Nat := if f < d then (if f ≤ p ∧ p < d then p + 1 else p) else (if d < p ∧ p ≤ f then p - 1 else p)
  ks.foldl (fun s k =>
    let p := move (s.regF (aCmtK k) 0 4)
    let (st, cause) := if p = d then (0, 0) else ((old.find? (fun e => e.1 == p)).map (fun e => (e.2.1, e.2.2))).getD (0, 0)
    let s := ((s.setF (aCmtK k) 0 4 p).setF (aCmtK k) 8 4 f)
    (s.setF (aCmtK k) 4 3 st).setF (aCmtK k) 12 4 cause) s

/-- SPARE_SWAP (R372-R374): step 3, once every context with a rill in the segment is past step 4 of its hold and while the Warden's firmware
runs. A position that failed while the swap waited keeps its hole where it stands (R366). -/
def execSpareSwap (p : Pos) (s : State) : Host.Outcome State Fault Refusal :=
  let k := ridx p.col p.row
  let own := s.ownersOf (segmentOf k)
  onUnit (inGrid p.col p.row)
    (s.failing.any (fun e => e.1 == k && !e.2.2) && s.fwRuns && own.all (fun c => s.rstate c == 2 || s.rstate c == 3 || s.rstate c == 4)) s (fun s =>
      let cause := ((s.failing.find? (fun e => e.1 == k)).map (fun e => e.2.1)).getD 0
      let f := s.regF (aCmtK k) 0 4
      let d := s.regF (aCmtK k) 8 4
      let moved := (segmentOf k).filter (fun x =>
        let q := s.regF (aCmtK x) 0 4
        if f < d then decide (f ≤ q) && decide (q < d) else decide (d < q) && decide (q ≤ f))
      let s := moved.foldl State.loseRill s
      let was := (segmentOf k).filter (fun x => !s.present x)
      let s := { s with failing := s.failing.filter (fun e => e.1 != k) }
      let s := s.segShift k f d
      let s := (segmentOf k).foldl (fun s x => s.setB (aCmtK x) 7 false) s
      let fresh := (segmentOf k).filter (fun x => !s.present x && !was.contains x)
      let s := (s.ownersOf fresh).foldl (fun s c => (s.setRcv c { s.rcv c with remap := true }).holdStep5 c) s
      let rch := reachOf p.col p.row
      let s := s.setF (rg clsReach rch 0x100) 16 10 (s.regF (rg clsReach rch 0x100) 16 10 - 1)
      let s := if (segmentOf k).any (fun x => s.cmtState x == 2) then s.setDeadReach rch else s
      ((s.absentSync (reachesNear k)).cmtGen.incSat (rg clsReach rch 0x108)).cairnLog 4 clsReach rch cCoreRemapped noCtx [itRill p.col p.row, itFault 0 cause])

/-- Repairs of a context that are not made yet. A swap that moves a DEAD position changes the dead regions, so every context waits for it (R111). -/
def State.repairsLeft (s : State) (c : Nat) : Nat :=
  countIf (fun e => decide (e.1 < 907200)
    && ((s.ownersOf (segmentOf e.1)).contains c || (segmentOf e.1).any (fun x => s.cmtState x == 2))) s.failing

/-- The table as it stands: the entries that differ from their reset value. -/
def State.cmtNow (s : State) : AMap W32 := s.regs.filter (fun e => decide (0x1000000 ≤ e.1) && e.2 != resetReg e.1)

/-- The table written to the flash copy with the older generation (R367, R530); after R531 to both, each with generation 1. -/
def State.cmtSave (s : State) : State :=
  let t := s.cmtNow
  if s.cmtFresh then { s with cmtA := { gen := 1, ok := true, table := t }, cmtB := { gen := 1, ok := true, table := t }, cmtFresh := false }
  else
    let g := max s.cmtA.gen s.cmtB.gen + 1
    if s.cmtA.ok = false ∨ (s.cmtB.ok = true ∧ s.cmtA.gen < s.cmtB.gen) then { s with cmtA := { gen := g, ok := true, table := t } }
    else { s with cmtB := { gen := g, ok := true, table := t } }

/-- A context resumes from a drain hold: RILL_EPOCH, and steps 6 and 9 of the fault hold (R395). -/
def State.drainResume (s : State) (c : Nat) : State :=
  let s := (s.setRcv c { s.rcv c with drain := none, drained := false }).incWrap (aRc c 0x1C)
  match s.restoreLoad c with
  | (some s, _) => s.resumeRun c
  | (none, s) => s.heldMalformed c

/-- Held contexts resume once no start and no stop waits or runs (R411-R414). -/
def State.pitchResume (s : State) : State :=
  if !s.pitchBusy then
    let held := s.pitchHeld
    held.foldl (fun s c =>
      if s.rstate c != 5 || (s.rcv c).drain.isSome then s
      else if (s.rcv c).drained then s.drainResume c
      else s.setRstate c 0) { s with pitchHeld := [] }
  else s

/-- Is every pitch ON and through its start-up test, or ISOLATED (R532)? -/
def State.testsOver (s : State) : Bool :=
  (List.range 252).all (fun p => (s.isOn clsPitch p && !s.testing.contains p) || s.pst clsPitch p == stIsolated)

/-- CMT_FLASH_WRITE_DONE: the changes made so far stand in flash; the replays and the held contexts that waited for them may go on (R367, R374).
During start-up step 7 writes the table, after the tests (R526, R531). -/
def execCmtFlashWriteDone (s : State) : Host.Outcome State Fault Refusal :=
  whenB (s.fwRuns && (s.stage == 4 || s.testsOver)) s (fun s =>
    let s := (List.range 17).foldl (fun s c => s.setRcv c { s.rcv c with repairs := min (s.rcv c).repairs (s.repairsLeft c) }) s.cmtSave
    ({ s with cmtDue := false }).pitchResume)

/-! ### Wear rotation (R394-R396) -/

/-- A segment's idle position walks one place (R394): the rill that stood there moves to the old idle position, with its pool (R395). -/
def State.wearMove (s : State) (seg : Nat) : State :=
  let d := s.regF (aCmtK seg) 8 4
  let (d', dir) := s.wearStep seg
  match s.wearMover seg with
  | none => s
  | some m =>
    let s := s.setF (aCmtK m) 0 4 d
    let s := (segmentOf seg).foldl (fun s k => (s.setF (aCmtK k) 8 4 d').setF (aCmtK k) 16 1 dir) s
    s.cmtGen.incSat (rg clsReach (reachOf (rcol seg) (rrow seg)) 0x10C)

/-- The segments of a reach whose idle position works and that wait for no repair: their first rills. -/
def State.wearSegments (s : State) (rch : Nat) : List Nat :=
  ((List.range 120).flatMap (fun r => (List.range 8).map (fun g => ridx (rch % 9 * 120 + 15 * g) (rch / 9 * 120 + r)))).filter
    (fun k => s.regB (aCmtK k) 7 && !s.failing.any (fun e => e.1 == idleNo k || (segmentOf k).contains e.1))

/-- Has a context nothing submitted after its last commit point? It is then at that commit point already (R395). -/
def State.atCommit (s : State) (c : Nat) : Bool := (s.seqr c).lists.isEmpty && (s.seqr c).ops.isEmpty

/-- A rotation of a reach begins (R394, R395): rills of no context move at once, and every context with a rill that moves begins its drain hold.
A context in a hold already is not drained; its moves wait for the reach's next turn. Moves of an earlier reach that still wait go on waiting. -/
def State.wearStart (s : State) (rch : Nat) : State :=
  let segs := s.wearSegments rch
  let free := segs.filter (fun g => (s.wearOwners g).isEmpty)
  let rest := segs.filter (fun g => let o := s.wearOwners g; !o.isEmpty && o.all (fun c => s.rstate c == 0))
  let own := (List.range 17).filter (fun c => rest.any (fun g => (s.wearOwners g).contains c))
  let s := free.foldl State.wearMove s
  let s := { s with wearSegs := s.wearSegs.filter (fun g => !free.contains g) ++ rest }
  let s := own.foldl (fun s c => (s.setRcv c { s.rcv c with drain := some rch, drainAt := s.clk.now, drained := s.atCommit c }).setRstate c 5) s
  if rest.isEmpty then s else s.setB (rg clsReach rch 0x100) 15 true

/-- DRAIN_HOLD_RESUME (R395): the commit point of every context that shares a rill to be moved is complete; the rills move, the Warden writes the
change to flash (R367), RILL_EPOCH increments, and the context resumes with steps 6 and 9 of the fault hold (log 58). -/
def execDrainHoldResume (ctx : Nat) (s : State) : Host.Outcome State Fault Refusal :=
  let mine := s.wearSegs.filter (fun g => (s.wearOwners g).contains ctx)
  let ready (c : Nat) : Bool := s.rstate c != 5 || (s.rcv c).drained
  onUnit (decide (ctx ≤ 16))
    (s.rstate ctx == 5 && (s.rcv ctx).drain.isSome && (s.rcv ctx).drained && s.fwRuns && (s.seqr ctx).ops.isEmpty && mine.all (fun g => (s.wearOwners g).all ready)) s (fun s =>
      let s := if mine.isEmpty then s else (mine.foldl State.wearMove s).cmtSave
      let s := ({ s with wearSegs := s.wearSegs.filter (fun g => !mine.contains g) }).wearSync
      if s.pitchHeld.contains ctx then s.setRcv ctx { s.rcv ctx with drain := none } else s.drainResume ctx)

/-- WEAR_SKIP (R395): no commit point within 1 h; the context is skipped until the reach's next turn. -/
def execWearSkip (ctx now : Nat) (s : State) : Host.Outcome State Fault Refusal :=
  onUnit (decide (ctx ≤ 16))
    (s.rstate ctx == 5 && (s.rcv ctx).drain.isSome && !(s.rcv ctx).drained && !inWindow (max now s.clk.now) (s.rcv ctx).drainAt 3600000000000) s (fun s =>
      let s := (s.atTime now).wearDrop ctx
      let s := s.setRcv ctx { s.rcv ctx with drain := none }
      if s.pitchHeld.contains ctx then s else s.setRstate ctx 0)

end Sys2Proof.Machine
end

