-- ==== Sys2Proof/Machine/Message.lean ====
section
/-! DEFINITION. Messages (02 R41, R42, R46, R49-R52): SEND, RECV, MFREE, the receive ring, and SLOT_WAKE, the end of a wait (R31). -/

namespace Sys2Proof.Machine

/-- The fault of SEND's operands: the first of ILLEGAL, ADDR and ALIGN (R42). A length of 0 reads no byte of the source (log 77). -/
def sendFault (a : W64) (len col row : Nat) : Option Nat :=
  if 4096 < len then some fIllegal
  else if ¬ inGrid col row ∨ (0 < len ∧ 0xC000 < a.toNat + len) then some fAddr
  else if a.toNat % 8 ≠ 0 then some fAlign else none

/-- SEND (R41, R46): a MSG with ACK_REQ; bytes of a poisoned line are sent with POISON (R28). -/
def execSend (a : SlotId) (s : State) : Host.Outcome State Fault Refusal :=
  execIssue 0x75 a s (fun i s =>
    let len := i.v2.toNat % 0x2000
    let col := wf i.w 0 11
    let row := wf i.w 16 10
    match sendFault i.v1 len col row with
    | some f => s.faultAt i f
    | none =>
      let (xid, s) := s.fresh
      let p := { s.slotPacket i.k i.n with
        dcol := col, drow := row, kind := 5, ackReq := true, len, payload := s.storeRead i.k i.v1.toNat len,
        poison := s.storePois i.k i.v1.toNat len, tag := (i.x.greg (gdOf i.w)).toNat % 0x10000, xid }
      match s.inject? p with
      | none => (s.unreachable p).faultAt i fAddr
      | some s => s.retire i (fun x => { x with acks := x.acks ++ [xid] }))

/-! ### The receive ring (R49-R51) -/

/-- Bytes of an entry (R49). -/
def entrySize (len : Nat) : Nat := 64 + roundUp len 64

/-- Bytes held from RD up to WR, pads included (R50). -/
def Rill.rxHeld (r : Rill) : Nat := sumL (r.rx.map (·.size))

/-- The pad that an entry of this size needs at WR: 0 where it fits before the end of the ring (R50). -/
def Rill.rxPad (r : Rill) (size : Nat) : Nat := if r.rxWr + size ≤ r.rxLen then 0 else r.rxLen - r.rxWr

/-- Has the ring room for an entry (R50)? -/
def Rill.rxRoom (r : Rill) (size : Nat) : Bool := decide (size + r.rxPad size ≤ r.rxLen - r.rxHeld)

/-- The descriptor of an entry (R51). -/
def rxDesc (len tag col row slot flags entry size : Nat) : List Byte :=
  leBytes 2 len ++ leBytes 2 tag ++ leBytes 2 col ++ leBytes 2 row ++ leBytes 1 slot ++ leBytes 1 flags ++ leBytes 2 entry
    ++ leBytes 4 size ++ List.replicate 48 0

/-- A message written into the ring as one entry, after a pad where it does not fit before the end (R49, R50). -/
def State.rxWrite (s : State) (k : Nat) (p : Packet) : State :=
  let r := s.rill k
  let size := entrySize p.len
  let pad := r.rxPad size
  let s := if pad = 0 then s
    else s.storeWrite k (r.rxBase + r.rxWr) (rxDesc 0 0 0 0 0 1 (r.rxWr / 64) pad) false
  let off := if pad = 0 then r.rxWr else 0
  let padE : List RxEntry := if pad = 0 then [] else [⟨r.rxWr, pad, true, 0, 0, none, true⟩]
  let flags := 2 * b2n p.srcEdge + 4 * b2n p.poison
  let s := s.storeWrite k (r.rxBase + off) (rxDesc p.len p.tag p.scol p.srow p.slot flags (off / 64) size) false
  let s := s.storeWrite k (r.rxBase + off + 64) (padTo (roundUp p.len 64) p.payload) p.poison
  s.modRill k (fun r =>
    { r with rx := r.rx ++ padE ++ [⟨off, size, false, p.tag, p.len, none, false⟩], rxWr := (off + size) % max 1 r.rxLen })

/-- What RECV returns now (R41, R261): the earliest message with the TAG that no slot has obtained; 0xFFFF matches any. -/
def Rill.recv (r : Rill) (n tag : Nat) : Option (W64 × Rill) :=
  match r.rx.find? (fun e => !e.pad && !e.freed && e.holder.isNone && (tag == 0xFFFF || e.tag == tag)) with
  | none => none
  | some e =>
    some (BitVec.ofNat 64 (r.rxBase + e.off + 64 + e.len * 2 ^ 32 + e.off / 64 * 2 ^ 48),
      { r with rx := r.rx.map (fun y => if y.off = e.off ∧ ¬ y.pad then { y with holder := some n } else y) })

/-- RECV. -/
def execRecv (a : SlotId) (s : State) : Host.Outcome State Fault Refusal :=
  execIssue 0x76 a s (fun i s =>
    match (s.rill i.k).recv i.n (wf i.w 0 16) with
    | some (v, r) => (s.setRill i.k r).retire i (fun x => x.setG (gdOf i.w) v)
    | none => s.waitOn i (.recv (wf i.w 0 16) (gdOf i.w)))

/-- MFREE: frees the entry that the slot obtained by RECV, otherwise ILLEGAL (R41, R50). -/
def execMfree (a : SlotId) (s : State) : Host.Outcome State Fault Refusal :=
  execIssue 0x77 a s (fun i s =>
    let e := i.v1.toNat % 0x10000
    let mine (y : RxEntry) : Bool := !y.pad && !y.freed && y.off == e * 64 && y.holder == some i.n
    if (s.rill i.k).rx.any mine then (s.modRill i.k (fun r => r.rxFree mine)).retire i id else s.faultAt i fIllegal)

/-! ### The end of a wait (R31) -/

/-- The wait of a slot ends now: the state after it; none while its condition does not hold. -/
def State.wake? (s : State) (k n : Nat) : Option State :=
  let r := s.rill k
  let x := r.slot n
  if x.st != .waiting then none
  else match x.wait with
  | .waitev m gd =>
    let hit := x.event &&& BitVec.ofNat 16 m
    if hit = 0 then none
    else some (s.wakeWith k n (fun x => { x.setG gd (hit.zeroExtend 64) with event := x.event &&& ~~~hit }))
  | .fence => if r.fenced n then some (s.wakeWith k n id) else none
  | .racq q gd =>
    (match (r.queue q).racq n with
     | some (v, y) => some ((s.modRill k (fun r => r.setQueue q y)).wakeWith k n (fun x => x.setG gd v))
     | none => none)
  | .recv tag gd =>
    (match r.recv n tag with
     | some (v, r') => some ((s.setRill k r').wakeWith k n (fun x => x.setG gd v))
     | none => none)
  | _ => none

/-- SLOT_WAKE: the condition of a WAITING slot (RACQ, RECV, WAITEV or FENCE) is met. -/
def execSlotWake (a : SlotId) (s : State) : Host.Outcome State Fault Refusal :=
  onUnit (slotOk a) (s.alive (slotK a) && (s.wake? (slotK a) a.slot).isSome) s
    (fun s => (s.wake? (slotK a) a.slot).getD s)

/-! ### Watchdogs (R53-R55) -/

/-- TASK_WD_EXPIRY: the slot has retired nothing for the limit while READY or WAITING (R53, R54); a wait whose condition holds by
then completes instead (R55). -/
def execTaskWdExpiry (a : SlotId) (cyc : Nat) (s : State) : Host.Outcome State Fault Refusal :=
  let r := s.rill (slotK a)
  let x := r.slot a.slot
  let yieldDone : Bool := match x.wait with
    | .yield u => decide (u ≤ max cyc s.clk.cycle)
    | _ => false
  onUnit (slotOk a)
    ((x.st == .ready || x.st == .waiting) && decide (x.lastRetire + s.wdLimit r ≤ max cyc s.clk.cycle) && s.alive (slotK a)
      && (s.wake? (slotK a) a.slot).isNone && !yieldDone) s
    (fun s => (s.atCycle cyc).slotFault (slotK a) a.slot fTaskWd)

/-- RILL_WD_EXPIRY: in RILL_WD x 1,024 = 16,384 cycles since the last issue some slot was eligible (R53): the rill is reported failed. -/
def execRillWdExpiry (p : Pos) (s : State) : Host.Outcome State Fault Refusal :=
  let k := ridx p.col p.row
  onUnit (inGrid p.col p.row)
    (s.alive k && decide (16384 ≤ s.wdCount k)) s
    (fun s => s.reportFailed k 2)

end Sys2Proof.Machine
end

