-- ==== Sys2Proof/Machine/Packets.lean ====
section
/-! DEFINITION. Packets at rills, pools and holes (02 R45-R52, 04 R105, R106, R121, R123, R124, R126-R132): WRITE, READ, MSG,
MSG_RING_ENTRY, POOL_READ, POOL_WRITE, HOLE_PACKET_ARRIVAL, PACKET_AGE_DISCARD, FLIT_ECC_ERROR and MEMORY_UNCORR_ERROR. -/

namespace Sys2Proof.Machine

/-- WRITE at a rill (R45, R48). -/
def execWrite (i : Nat) (s : State) : Host.Outcome State Fault Refusal :=
  s.packetRow i 1 false (fun p s =>
    let s := s.storeWrite (ridx p.dcol p.drow) p.addr (p.payload.take p.len) p.poison
    if p.ackReq then s.inject (p.ack 0) else s)

/-- READ at a rill (R45): READ_DATA, with POISON when a line read is poisoned (R28). -/
def execRead (i : Nat) (s : State) : Host.Outcome State Fault Refusal :=
  s.packetRow i 2 false (fun p s =>
    let k := ridx p.dcol p.drow
    s.inject (p.readData (s.storeRead k p.addr p.len) (s.storePois k p.addr p.len)))

/-- A step boundary takes effect at a rill when its ring takes in an OPSTART that makes one (R89, R382): STEP becomes the OPN of the
predecessor, and every slot's draw counter becomes 0. ARG of the module's OPSTART says whether it makes one (log 15). -/
def State.stepBoundary (s : State) (k : Nat) (p : Packet) : State :=
  if p.srcEdge ∧ p.tag = 0xFF01 ∧ p.arg = 1 then
    s.modRill k (fun r =>
      { r with step := BitVec.ofNat 64 (at' p.payload 0 4 - 1), slots := r.slots.map (fun e => (e.1, { e.2 with draw := 0 })) })
  else s

/-- The operation under which a message was sent fails as a program fault (R52). -/
def State.msgFail (s : State) (p : Packet) : State :=
  if p.srcEdge then s.opStartFail p.ctx (at' p.payload 0 4) cMalformed else s.programFault (ridx p.scol p.srow)

/-- A MSG that can never find room (R52). -/
def State.rxNever (s : State) (p : Packet) : State :=
  let s := s.cairnLog 4 clsReach (reachOf p.dcol p.drow) cMalformed p.ctx
    [itRill p.dcol p.drow, itRill p.scol p.srow, itAddr p.tag]
  (s.inject (p.ack cMalformed)).msgFail p

/-- A MSG taken into the ring, with its acknowledgement. -/
def State.rxTake (s : State) (k : Nat) (p : Packet) : State :=
  let s := (s.rxWrite k p).stepBoundary k p
  if p.ackReq then s.inject (p.ack 0) else s

/-- Must a MSG wait in the fabric: it passes the checks of R47, its entry could find room in the ring, and the ring lacks it now (R49, R52)? -/
def State.msgWaits (s : State) (p : Packet) : Bool :=
  let r := s.rill (ridx p.dcol p.drow)
  !p.abort && (s.unitCheck p).isNone && decide (entrySize p.len ≤ r.rxLen) && !r.rxRoom (entrySize p.len)

/-- A MSG at its unit: it waits in the fabric, is rejected, meets R52, or becomes an entry of the ring. -/
def State.msgArrives (s : State) (i : Nat) (p : Packet) : State :=
  if s.msgWaits p then { s with net := setAt s.net i { p with waits := true } }
  else s.takes i p (fun s =>
    let k := ridx p.dcol p.drow
    if (s.rill k).rxLen < entrySize p.len then s.rxNever p else s.rxTake k p)

/-- MSG (R49, R52). -/
def execMsg (i : Nat) (s : State) : Host.Outcome State Fault Refusal :=
  whenSome (s.arrives? i 5 false) s (fun p s => s.msgArrives i p)

/-- MSG_RING_ENTRY (R49): the MSG that waits for a rill's ring finds room. The checks of R47 are those of the moment at which it is taken, so that
one that waited through a hold or a load is discarded as its EPOCH or CTX asks (log 143). -/
def execMsgRingEntry (p : Pos) (s : State) : Host.Outcome State Fault Refusal :=
  onUnit (inGrid p.col p.row) true s (fun s =>
    let i := s.net.findIdx (fun q => q.waits && q.dcol == p.col && q.drow == p.row)
    match s.arrives? i 5 false with
    | none => s
    | some q => s.msgArrives i q)

/-- May the pool serve the packet (R128)? -/
def poolFits (p : Packet) : Bool := decide (p.addr < 0x10000) && decide (p.addr + p.len ≤ 0x10000)

/-- A pool discards a packet that breaks R128, with a Cairn record of severity 4 (RILL and ADDRESS items; log 146) and the answer of its kind. -/
def State.poolRefuse (s : State) (p : Packet) : State :=
  let s := s.cairnLog 4 clsReach (reachOf p.dcol p.drow) cMalformed p.ctx [itRill p.dcol p.drow, itAddr p.addr]
  match p.refusal cMalformed with
  | some a => s.inject a
  | none => s

/-- Line reads of a pool access (R131, R134). -/
def poolLines (p : Packet) : Nat := if p.len = 0 then 0 else (p.addr + p.len - 1) / 64 - p.addr / 64 + 1

/-- One line read that reaches a pool's array port at the present cycle (R131; log 16): within the line's merge window it is served by the array
read that opened the window; otherwise it starts one. The counts are those of READ packets (log 148). -/
def State.lineRead (s : State) (rch line : Nat) : State :=
  let live := s.lineReads.filter (fun e => decide (s.clk.cycle < e.2 + 4))
  if live.any (fun e => e.1 == line) then ({ s with lineReads := live }).fabAdd rch 0x430 1
  else ({ s with lineReads := live.filter (fun (e : Nat × Nat) => e.1 != line) ++ [(line, s.clk.cycle)] }).fabAdd rch 0x428 1

/-- The line reads of a READ, in address order (R131). -/
def State.linesRead (s : State) (rch line : Nat) : Nat → State
  | 0 => s
  | n + 1 => (s.lineRead rch line).linesRead rch (line + 1) n

/-- POOL_READ (R128, R130, R131). -/
def execPoolRead (i : Nat) (s : State) : Host.Outcome State Fault Refusal :=
  s.packetRow i 2 true (fun p s =>
    let k := ridx p.dcol p.drow
    if poolFits p then
      let s := s.linesRead (reachOf p.dcol p.drow) ((sbase k + p.addr) / 64) (poolLines p)
      s.inject (p.readData (s.poolRead k p.addr p.len) (s.poolPois k p.addr p.len))
    else s.poolRefuse p)

/-- POOL_WRITE (R128, R130, R132). -/
def execPoolWrite (i : Nat) (s : State) : Host.Outcome State Fault Refusal :=
  s.packetRow i 1 true (fun p s =>
    if poolFits p then
      let s := s.poolWrite (ridx p.dcol p.drow) p.addr (p.payload.take p.len) p.poison
      if p.ackReq then s.inject (p.ack 0) else s
    else s.poolRefuse p)

/-- The answer of a hole's working router (R106): ACK with HOLE_CREATED, READ_DATA of poisoned zeros, or none. -/
def Packet.holeAnswer (p : Packet) : Option Packet :=
  if p.resp ∨ p.hchkOk = false then none
  else if p.kind = 2 then some (p.readData (List.replicate p.len 0) true)
  else if p.ackReq then some (p.ack cHoleCreated)
  else none

/-- HOLE_PACKET_ARRIVAL (R47, R105, R106, R371): at a hole, or at a failed position whose router works, the router answers. A packet toward a
position without a working router on its mesh is discarded before it and counted there. -/
def execHolePacketArrival (i : Nat) (s : State) : Host.Outcome State Fault Refusal :=
  match s.deliverable i with
  | none => .next s
  | some p =>
    let k := ridx p.dcol p.drow
    let r := s.rill k
    let st := s.cmtState k
    whenB (!p.edge && (st != 0 || r.failed)) s (fun s =>
      if (if p.pool then r.poolRouterFailed else r.routerFailed) ∨ st = 2 ∨ st = 3 then
        ({ s with net := dropAt s.net i }).dropAtLink p (fun q => q == p.exit)
      else
        let s := s.takePacket i p
        if p.abort then s.fabInc (reachOf p.dcol p.drow) 0x440
        else
          let s := match checkPacket p (some r.ctx) r.epoch true true with
            | none => s
            | some code =>
              if p.resp && code == some cStaleEpoch then s
              else s.cairnLog 4 clsReach (reachOf p.dcol p.drow) (code.getD 0) (min p.ctx noCtx) [itRill p.dcol p.drow]
          match p.holeAnswer with
          | some a => s.inject a
          | none => s)

/-- Does a packet's route pass a router? -/
def Packet.passes (p : Packet) (q : Pos) : Bool := p.route.contains (q.col, q.row)

/-- PACKET_AGE_DISCARD: a head flit 2^30 cycles old is discarded at the router that holds it, counted there, and recorded at severity 5 with the
router, the source and the destination as RILL items (R123; log 145); the routers before it have forwarded the packet's flits. -/
def execPacketAgeDiscard (i : Nat) (router : Pos) (cyc : Nat) (s : State) : Host.Outcome State Fault Refusal :=
  unitRow (inGrid router.col router.row) s (
    match s.net[i]? with
    | none => .next s
    | some p =>
      let c := max cyc s.clk.cycle
      whenB
        (p.passes router && decide (2 ^ 30 ≤ (c % 2 ^ 32 + 2 ^ 32 - p.age) % 2 ^ 32)) s (fun s =>
          let s := { s.atCycle cyc with net := dropAt s.net i }
          let s := s.countFlits p (p.route.takeWhile (fun q => q != (router.col, router.row)))
          let rch := reachOf router.col router.row
          (s.fabInc rch 0x440).cairnLog 5 clsReach rch 0 (min p.ctx noCtx)
            [itRill router.col router.row, itRill p.scol p.srow, itRill p.dcol p.drow]))

/-- The times whose window of `win` ns holds the present (R7). -/
def within (l : List Nat) (now win : Nat) : List Nat := l.filter (fun t => inWindow now t win)

/-- FLIT_ECC_ERROR (R124): a corrected error is counted; an uncorrectable one marks the packet POISON, or breaks HCHK when it hits the
header. 16 uncorrectable errors of one router within 1 ms fail the router (R369). -/
def execFlitEccError (i : Nat) (router : Pos) (err : FlitError) (now : Nat) (s : State) : Host.Outcome State Fault Refusal :=
  unitRow (inGrid router.col router.row) s (
    match s.net[i]? with
    | none => .next s
    | some p =>
      whenB (p.passes router) s (fun s =>
        let s := s.atTime now
        let rch := reachOf router.col router.row
        let k := ridx router.col router.row
        match err with
        | .corrected => s.fabInc rch 0x438
        | _ =>
          let p' := if err = .header then { p with hchkOk := false } else { p with poison := true }
          let s := { s.fabInc rch 0x43C with net := setAt s.net i p' }
          let times := s.clk.now :: within (if p.pool then (s.rill k).poolErrTimes else (s.rill k).linkErrTimes) s.clk.now 1000000
          let s := s.modRill k (fun r => if p.pool then { r with poolErrTimes := times } else { r with linkErrTimes := times })
          if 16 ≤ times.length then s.routerLost p.pool k 5 else s))

/-- MEMORY_UNCORR_ERROR: the line is poisoned (R28, R130); the third error of a position within 1 s reports it failed (R369). -/
def execMemoryUncorrError (p : Pos) (pool : Bool) (line now : Nat) (s : State) : Host.Outcome State Fault Refusal :=
  let k := ridx p.col p.row
  onUnit (inGrid p.col p.row && decide (line < if pool then 1024 else 768)) (s.alive k) s (fun s =>
    let s := s.atTime now
    let l := sbase k / 64 + line
    let s := if pool then { s with poolPoison := ins s.poolPoison l } else { s with storePoison := ins s.storePoison l }
    let times := s.clk.now :: within (s.rill k).errTimes s.clk.now 1000000000
    let s := s.modRill k (fun r => { r with errTimes := times })
    if 3 ≤ times.length then s.reportFailed k 4 else s)

end Sys2Proof.Machine
end

