-- ==== Sys2Proof/Machine/StreamEngine.lean ====
section
/-! DEFINITION. The stream engine (05 R138-R168): answers of transfers, SDATA, SPUSH, SCREDIT, HW_CONFIRM, EZ_CONFIRM,
STREAM_START_DONE, STREAM_STOP_DONE, STREAM_TILE_ISSUE and STREAM_OUT_INJECT. -/

namespace Sys2Proof.Machine

/-! ### Answers of transfers (R138, R146, R147, R159) -/

/-- The queue and the transfer that a packet's answer belongs to. -/
def Rill.flightOf (r : Rill) (xid : Nat) : Option (Nat × Flight) :=
  r.queues.findSome? (fun e => (e.2.flights.find? (fun f => f.xid == xid)).map (fun f => (e.1, f)))

/-- The condition code of an answer: READ_DATA carries none (R45). -/
def Packet.code (p : Packet) : Nat := if p.kind = 3 then 0 else p.arg % 0x10000

/-- The answer of a queue's transfer (R146, R147, R152, R163): a STOPPING queue discards the data and a close counts for nothing but
the wait; a code other than 0 faults the queue, after the data of a poisoned SDATA has been written with its poison bits (R48). -/
def State.queueAnswer (s : State) (k q : Nat) (f : Flight) (p : Packet) : State :=
  let s := s.modQueue k q (fun x => { x with flights := x.flights.filter (fun g => g.xid != f.xid) })
  let x := (s.rill k).queue q
  if f.tile = closeTile then s
  else if p.code ≠ 0 then
    (if x.desc.dir = 0 ∧ p.poison ∧ x.st ≠ stStopping then
        s.storeWrite k (x.slotAddr f.tile) (p.payload.take (min x.desc.tileLen x.desc.stride)) true else s).queueFault k q p.code false
  else if x.desc.dir = 0 then (if x.st = stStopping then s else s.landTile k q f.tile (p.payload.take x.desc.tileLen) p.poison 0)
  else s.tileDone k q f.tile

/-- The answer of a trickle transfer (R159). -/
def State.trickleAnswer (s : State) (k : Nat) (t : Trickle) (p : Packet) : State :=
  let s := s.modRill k (fun r => { r with trickles := r.trickles.filter (fun u => u.xid != t.xid) })
  let s := if t.desc.dir = 0 ∧ (p.kind = 3 ∨ p.kind = 0x11) then
      s.storeWrite k t.desc.nearAddr (p.payload.take t.desc.tileLen) p.poison
    else s
  s.trickleEnd k t p.code

/-- An answer that belongs to the stream engine of rill k, if it belongs to it. -/
def State.streamAnswer? (s : State) (k : Nat) (p : Packet) : Option State :=
  match (s.rill k).flightOf p.xid with
  | some (q, f) => some (s.queueAnswer k q f p)
  | none => ((s.rill k).trickles.find? (fun t => t.xid == p.xid)).map (fun t => s.trickleAnswer k t p)

/-- SDATA at a rill (R161). -/
def execSdata (i : Nat) (s : State) : Host.Outcome State Fault Refusal :=
  s.packetRow i 0x11 false (fun p s =>
    (s.streamAnswer? (ridx p.dcol p.drow) p).getD s)

/-! ### Pushes and credits (R164-R166) -/

/-- The full tile number of a push, from its 13 bits and the queue's FILLED (R162). -/
def Queue.tileOf (x : Queue) (tag13 : Nat) : Nat := x.filled + (tag13 + 8192 - x.filled % 8192) % 8192

/-- SPUSH at a rill (R165, R166). -/
def execSpush (i : Nat) (s : State) : Host.Outcome State Fault Refusal :=
  s.packetRow i 0x15 false (fun p s =>
    let k := ridx p.dcol p.drow
    let q := p.tag % 8
    let x := (s.rill k).queue q
    let n := x.tileOf (p.tag / 8)
    if x.st = stOff ∨ x.st = stStopping ∨ x.desc.push = false ∨ p.arg / 256 % 256 ≠ x.armNo % 256 ∨ x.issued ≤ n then s
    else if p.len ≠ x.desc.tileLen then s.queueFault k q cMalformed false
    else s.landTile k q n p.payload p.poison (p.arg % 256))

/-- SCREDIT at a rill whose queue pushes: an OUT queue of FAR_KIND 2 or a link of a ferry chain (R164, R168). The arm number of the
first SCREDIT is adopted, and one of another arm is ignored. A source that is OFF or FAULTED has sent nothing of the arm to come. -/
def Queue.credited (x : Queue) (limit arm : Nat) : Queue :=
  let near := if x.st = stOff ∨ x.st = stFaulted then 0 else x.issued
  match x.srcArm with
  | none => { x with srcArm := some arm, credit := nearCount near limit }
  | some a => if a = arm then { x with credit := nearCount near limit } else x

/-- SCREDIT at a rill (R164). -/
def State.screditRill (s : State) (p : Packet) : State :=
  s.modQueue (ridx p.dcol p.drow) (p.tag % 8) (fun x => x.credited (p.arg % 2 ^ 32) (p.arg / 2 ^ 32 % 256))

/-- The SCREDIT of a queue: its limit is the number of tiles admitted (R164). To a rill, TAG names the queue that UP names; to a
Levee endpoint it names the rill's own queue (log 20). -/
def State.sendCredit (s : State) (k q : Nat) : State :=
  let x := (s.rill k).queue q
  let up := x.desc.up
  let own := if nfld up 31 1 = 1 then q else nfld up 28 3
  let p := { s.slotPacket k x.arm.slot with
    kind := 0x16, resp := true, tag := streamTag own (x.issued - 1), arg := x.issued % 2 ^ 32 + (x.armNo % 256) * 2 ^ 32 }
  s.inject (p.toUnit up)

/-! ### Confirmations (R145, R228, R249) -/

/-- The endpoint's confirmation: ARG 0 ends STARTING; a code faults the queue, but a cancelled open only ends STARTING for the pending
stop (R249). -/
def State.queueConfirm (s : State) (k q code : Nat) : State :=
  let x := (s.rill k).queue q
  if code = 0 then (if x.st = stStarting then s.queueStarted k q else s)
  else if code = cCancelled ∧ x.st = stStarting ∧ x.pendOff then s.queueStop k q
  else s.queueFault k q code false

/-- A confirmation of a kind at a rill. -/
def execConfirm (i kind farKind : Nat) (s : State) : Host.Outcome State Fault Refusal :=
  s.packetRow i kind false (fun p s =>
    let k := ridx p.dcol p.drow
    let x := (s.rill k).queue (p.tag % 8)
    if x.st ≠ stOff ∧ x.desc.farKind = farKind then s.queueConfirm k (p.tag % 8) (p.arg % 0x10000) else s)

/-- HW_CONFIRM at a rill (R228, R249). -/
def execHwConfirm (i : Nat) (s : State) : Host.Outcome State Fault Refusal := execConfirm i 0x21 3 s

/-- EZ_CONFIRM at a rill (R306). -/
def execEzConfirm (i : Nat) (s : State) : Host.Outcome State Fault Refusal := execConfirm i 0x31 4 s

/-! ### Issue (R151, R157, R164, R168) -/

/-- The re-arm is taken up when the current arm has issued COUNT tiles (R157). -/
def Queue.takeUp (x : Queue) : Queue :=
  let a := x.lastArm
  match x.rearm with
  | some (d, slot) =>
    if a.desc.count ≠ 0 ∧ a.first + a.desc.count ≤ x.issued then
      { x with arms := passArms (x.arms ++ [⟨x.issued, d, slot⟩]) x.filled, rearm := none }
    else x
  | none => x

/-- May the arm issue one more tile (R151, R157)? -/
def Queue.armOpen (x : Queue) : Bool :=
  let a := x.lastArm
  a.desc.count == 0 || decide (x.issued < a.first + a.desc.count)

/-- Does an IN queue admit one more tile (R151, R168)? `x` has taken up its re-arm. -/
def Queue.inAdmits (x : Queue) : Bool :=
  let d := x.desc
  decide (x.issued < x.acquired + d.prefetch) && decide (x.issued < x.released + d.ringSlots) && x.armOpen
    && (d.push || decide (x.flights.length < d.outstanding))
    && (!d.ferryOn || d.down == noUnit || decide (x.issued < x.credit))

/-- Does a FILL or DRAIN queue issue one more tile? -/
def Queue.moveAdmits (x : Queue) : Bool := x.armOpen && decide (x.flights.length < x.desc.outstanding)

/-- The address field of an exact sum (R142): one outside 64 bits is sent as the highest address, which fails translation as it would
(R201; log 153). -/
def addr64 (a : Int) : Nat := if a < 0 ∨ 2 ^ 64 ≤ a then 2 ^ 64 - 1 else a.toNat

/-- The request of the next IN, FILL or DRAIN tile; none where the pool check of R142 fails. -/
def State.tileRequest (s : State) (k q : Nat) (x : Queue) : Option Packet :=
  let a := x.lastArm
  let d := a.desc
  let m := x.issued - a.first
  let p := { s.slotPacket k a.slot with tag := streamTag q x.issued, len := d.tileLen }
  if d.dir = 0 then
    (if d.farKind = 0 then
      (tilePool (d.far m) d.tileLen).map (fun g =>
        { p with dcol := rcol g.1, drow := rrow g.1, pool := true, kind := 2, addr := g.2, arg := x.slotAddr x.issued })
     else some { p with edge := true, dcol := d.memEp, kind := 0x10, addr := addr64 (d.far m), arg := x.slotAddr x.issued })
  else
    let pa : Int := (d.farArg : Nat) + (m * roundUp d.tileLen 64 : Nat)
    (tilePool pa d.tileLen).map (fun _ =>
      { p with edge := true, dcol := d.memEp, kind := if d.dir = 2 then 0x13 else 0x14, addr := addr64 (d.far m), arg := pa.toNat,
               ackReq := true })

/-- One tile is requested, or granted by credit. -/
def State.issueTile (s : State) (k q : Nat) : State :=
  let s := s.modQueue k q Queue.takeUp
  let x := (s.rill k).queue q
  if x.desc.push then (s.modQueue k q (fun x => { x with issued := x.issued + 1 })).sendCredit k q
  else
    match s.tileRequest k q x with
    | none => s.queueFault k q cMalformed true
    | some p =>
      let (xid, s) := s.fresh
      match s.inject? { p with xid } with
      | some s => s.modQueue k q (fun x => { x with issued := x.issued + 1, flights := x.flights ++ [⟨xid, x.issued⟩] })
      | none => (s.unreachable p).queueFault k q cMalformed true

/-- STREAM_TILE_ISSUE: the next IN, FILL or DRAIN tile of an ON queue (R151). -/
def execStreamTileIssue (p : Pos) (q : Nat) (s : State) : Host.Outcome State Fault Refusal :=
  let k := ridx p.col p.row
  let x := ((s.rill k).queue q).takeUp
  onUnit (inGrid p.col p.row && decide (q < 8))
    (s.alive k && x.st == stOn && (if x.desc.dir = 0 then x.inAdmits else x.desc.dir != 1 && x.moveAdmits)) s
    (fun s => s.issueTile k q)

/-- STREAM_START_DONE: 4 cycles after STARTING began, and, for an IN queue of FAR_KIND 2, with its first SCREDIT (R145). -/
def execStreamStartDone (p : Pos) (q : Nat) (s : State) : Host.Outcome State Fault Refusal :=
  let k := ridx p.col p.row
  let x := (s.rill k).queue q
  onUnit (inGrid p.col p.row && decide (q < 8))
    (s.alive k && x.st == stStarting && decide (x.desc.farKind ≤ 2) && (!x.desc.push || x.inAdmits)) s (fun s =>
      let s := s.atCycle (x.startedAt + 4)
      let s := if x.desc.push then s.issueTile k q else s
      s.queueStarted k q)

/-- STREAM_STOP_DONE: every answer has arrived and every acquired slot is released; the status is written, the queue is OFF, and a
latched start begins (R144, R146). -/
def execStreamStopDone (p : Pos) (q : Nat) (s : State) : Host.Outcome State Fault Refusal :=
  let k := ridx p.col p.row
  let x := (s.rill k).queue q
  onUnit (inGrid p.col p.row && decide (q < 8)) (s.alive k && x.st == stStopping && x.flights.isEmpty && x.acqs.isEmpty) s
    (fun s =>
      let s := s.setQst k q stOff
      let s := s.modQueue k q (fun x => { x with credit := 0, srcArm := none, arms := [] })
      match x.latched with
      | some (d, slot) => if x.pendOn then s.queueBegin k q d slot else s
      | none => s)

/-! ### OUT tiles (R153, R164) -/

/-- May the next released OUT tile be injected? -/
def Queue.outReady (x : Queue) : Bool :=
  x.desc.dir == 1 && decide (x.issued < x.released) && x.armOpen
    && (if x.desc.farKind = 2 then decide (x.issued < x.credit) else decide (x.flights.length < x.desc.outstanding))

/-- The packet of the next OUT tile, or the code that faults the queue before it is sent (R142, R226, R305). -/
def State.outPacket (s : State) (k q : Nat) (x : Queue) : Nat ⊕ Packet :=
  let a := x.lastArm
  let d := a.desc
  let n := x.issued
  let off := d.far (n - a.first)
  let src := x.slotAddr n
  let p := { s.slotPacket k a.slot with
    tag := streamTag q n, len := d.tileLen, payload := s.storeRead k src d.tileLen, poison := s.storePois k src d.tileLen,
    ackReq := true }
  if d.farKind = 0 then
    match tilePool off d.tileLen with
    | some g => .inr { p with dcol := rcol g.1, drow := rrow g.1, pool := true, kind := 1, addr := g.2 }
    | none => .inl cMalformed
  else if d.farKind = 1 then .inr { p with edge := true, dcol := d.memEp, kind := 0x12, addr := addr64 off }
  else if d.farKind = 2 then
    .inr ({ p with kind := 0x15, tag := streamTag (nfld d.down 28 3) n, arg := 256 * x.srcArm.getD 0, ackReq := false }.toUnit d.down)
  else if d.farKind = 3 then
    (if off < 0 ∨ 2 ^ 32 ≤ off then .inl cShardRange
     else .inr ({ p with kind := 0x24, addr := d.farBase % 2 ^ 32 + off.toNat * 2 ^ 32, arg := (s.rill k).step.toNat }.toUnit d.down))
  else if off < 0 ∨ 2 ^ 32 ≤ off then .inl cMalformed
  else if d.farArg % 4 = 0 then .inr ({ p with kind := 0x34, addr := off.toNat, arg := d.farBase % 2 ^ 32 }.toUnit d.down)
  else .inr ({ p with kind := 0x35, addr := off.toNat, arg := nfld d.farArg 16 14 * 2 ^ 16 + nfld d.farArg 32 8 * 2 ^ 32 }.toUnit d.down)

/-- STREAM_OUT_INJECT: the next released OUT tile is read out of the rill store and injected (R153). A tile of FAR_KIND 2 has no
answer and counts as filled at once (log 21). A fault of R114 or of R142's pool check is a program fault. -/
def execStreamOutInject (p : Pos) (q : Nat) (s : State) : Host.Outcome State Fault Refusal :=
  let k := ridx p.col p.row
  let x := ((s.rill k).queue q).takeUp
  onUnit (inGrid p.col p.row && decide (q < 8)) (s.alive k && x.st == stOn && x.outReady) s (fun s =>
    let s := s.modQueue k q Queue.takeUp
    match s.outPacket k q x with
    | .inl c => s.queueFault k q c (decide (x.desc.farKind = 0))
    | .inr pk =>
      let (xid, s) := s.fresh
      match s.inject? { pk with xid } with
      | none => (s.unreachable pk).queueFault k q cMalformed true
      | some s =>
        let s := s.modQueue k q (fun x => { x with issued := x.issued + 1 })
        if x.desc.farKind = 2 then s.tileDone k q x.issued
        else s.modQueue k q (fun y => { y with flights := y.flights ++ [⟨xid, x.issued⟩] }))

end Sys2Proof.Machine
end

