-- ==== Sys2Proof/Machine/Answers.lean ====
section
/-! DEFINITION. Answers that reach a unit (02 R46, 04 R121, R130, 05 R138, R164): READ_DATA, ACK and SCREDIT. -/

namespace Sys2Proof.Machine

/-! ### Answers at a rill -/

/-- The slot with an LDP64 read not answered: its number and the register that it fills. -/
def Rill.loadOf (r : Rill) (xid : Nat) : Option (Nat × Nat) :=
  r.slots.findSome? (fun e => (e.2.loads.find? (fun l => l.1 == xid)).map (fun l => (e.1, l.2)))

/-- The answer of an LDP64 (R41, R130): its register is filled, or the slot faults with POISON. -/
def State.loadAnswer (s : State) (k n gd : Nat) (p : Packet) : State :=
  let s := s.modSlot k n (fun x => { x with loads := x.loads.filter (fun l => l.1 != p.xid) })
  if p.poison then s.slotFault k n fPoison
  else s.modSlot k n (fun x => { x.setG gd (BitVec.ofNat 64 (at' p.payload 0 8)) with gready := put x.gready gd s.clk.cycle })

/-- READ_DATA at a rill. -/
def State.readDataRill (s : State) (k : Nat) (p : Packet) : State :=
  match s.streamAnswer? k p with
  | some s => s
  | none =>
    match (s.rill k).loadOf p.xid with
    | some (n, gd) => s.loadAnswer k n gd p
    | none => s

/-- ACK at a rill: of a stream's transfer, or of an STP64 or a SEND, which then counts no more toward FENCE whatever its code (R46). -/
def State.ackRill (s : State) (k : Nat) (p : Packet) : State :=
  match s.streamAnswer? k p with
  | some s => s
  | none => s.modRill k (fun r => { r with slots := r.slots.map (fun (e : Nat × Slot) => (e.1, { e.2 with acks := rem e.2.acks p.xid })) })

/-! ### Answers at a Levee endpoint -/

/-- The operation whose pool output awaits an answer. -/
def State.outputOf (s : State) (p : Packet) : Option Op :=
  if p.ctx ≤ 16 then (s.seqr p.ctx).ops.find? (fun o => o.outAcks.contains p.xid) else none

/-- The answer of an output chunk's pool write: a code fails the operation (R272). -/
def State.outputAnswer (s : State) (p : Packet) (o : Op) : State :=
  let s := s.setOp p.ctx { o with outAcks := rem o.outAcks p.xid }
  if p.arg % 65536 ≠ 0 then s.failOp p.ctx o.opn (p.arg % 65536) false false else s.postPump p.ctx o.opn

/-- ACK at an endpoint: of a memory endpoint's pool access, of an OPSTART, or of a post's output. -/
def State.ackEdge (s : State) (p : Packet) : State :=
  match s.memPoolAnswer? p, s.startOf p, s.outputOf p with
  | some s, _, _ => s
  | none, some o, _ => s.opStartAnswer p o
  | none, none, some o => s.outputAnswer p o
  | none, none, none => s

/-- READ_DATA (R45, R130, R152, R163). -/
def execReadData (i : Nat) (s : State) : Host.Outcome State Fault Refusal :=
  s.packetRow i 3 false (fun p s => if p.edge then (s.memPoolAnswer? p).getD s else s.readDataRill (ridx p.dcol p.drow) p)

/-- ACK (R45, R46, R258, R263). -/
def execAck (i : Nat) (s : State) : Host.Outcome State Fault Refusal :=
  s.packetRow i 4 false (fun p s => if p.edge then s.ackEdge p else s.ackRill (ridx p.dcol p.drow) p)

/-! ### Credits -/

/-- SCREDIT at a Headwater endpoint or the host chiplet (R164, R230): one of another arm is ignored. -/
def State.hwCredit (s : State) (p : Packet) (h : HwStream) : State :=
  if p.arg / 2 ^ 32 % 256 ≠ h.arm ∨ h.desc.dir ≠ 0 then s
  else (s.setHw { h with credit := nearCount h.done (p.arg % 2 ^ 32) }).hwAfter h.port h.slot

/-- SCREDIT at an endpoint. -/
def State.screditEdge (s : State) (p : Packet) : State :=
  match s.hwOf p, s.ezOf p with
  | some h, _ => s.hwCredit p h
  | none, some e => s.ezCredit p e
  | none, none => s

/-- SCREDIT (R164, R168, R230, R307). -/
def execScredit (i : Nat) (s : State) : Host.Outcome State Fault Refusal :=
  s.packetRow i 0x16 false (fun p s => if p.edge then s.screditEdge p else s.screditRill p)

end Sys2Proof.Machine
end

