-- ==== Sys2Proof/Machine/Stacks.lean ====
section
/-! DEFINITION. Stacks, TRANSLATION pages and the BAR2 aperture (06 R182-R212, 14 R466): STACK_TEMP_SAMPLE, STACK_UNCORR_ERROR, STACK_FAIL,
STACK_TRAINING_DONE, TRANSLATION_START_DONE, TRANSLATION_STOP_DONE, SET_WRITE, INVAL_GO, INVAL_DONE, XL_FAULT_CLEAR, BAR2_READ and
BAR2_WRITE. -/

namespace Sys2Proof.Machine

abbrev aStk (pos off : Nat) : Nat := rg clsStack pos off
/-- The module's part, as software identifies it (R4). -/
def State.part (s : State) : Part := if s.regF 0x100 0 4 = Part.s12.code then .s12 else .s24
/-- Is a stack fitted at a position (R2)? -/
def State.fitted (s : State) (pos : Nat) : Bool := s.part.fits pos

/-- What a part shows of its stacks: PART, STACKS_FITTED, STK_STATUS of each STACK page, 0 at an empty position, and ISOLATED on the page there (R1 to R3, R207, R208).
The reset values of the tables are those of a ZX3-S24 (log 3). -/
def State.populate (s : State) : Part → State
  | .s24 => s
  | .s12 =>
    ((List.range 24).filter (fun p => !(Part.s12.fits p))).foldl (fun s p => (s.setRegN (aStk p 0x100) 0).setPst clsStack p stIsolated)
      ((s.setF 0x100 0 4 Part.s12.code).setRegN 0x110 Part.s12.mask)

/-- The module of a part right after a power-on reset has begun; `State.reset` is the ZX3-S24. -/
def State.resetOf (p : Part) : State := State.reset.populate p

/-- STACK_TEMP_SAMPLE: the controller reads the hottest die temperature, every 1 ms (R185); STK_TEMP shows what its TELEM slot sampled (R449). -/
def execStackTempSample (pos temp : Nat) (s : State) : Host.Outcome State Fault Refusal :=
  onUnit (decide (pos < 24)) (s.fitted pos) s (fun s =>
    let was := s.regB (aStk pos 0x100) 3
    let now := decide (95 ≤ temp)
    let s := (s.setB (aStk pos 0x100) 2 (decide (85 ≤ temp))).setB (aStk pos 0x100) 3 now
    if now && !was then s.cairnLog 4 clsStack pos 0 noCtx [] else s)

/-- The stop of a STACK page does nothing that takes time: the page is OFF at once, and starts again if PEND_ON (log 31). -/
def State.stackAtStop (s : State) (pos : Nat) : State := (s.setB (aStk pos 0x100) 1 false).stopDone clsStack pos id

/-- A stack fails in service (R188): FAULTED, its contents lost, a record of severity 6. -/
def State.stackLost (s : State) (pos : Nat) : State :=
  let s := { s with stack := memClear s.stack (kbase pos) (kbase pos + 0x2000000000),
                    stackPoison := s.stackPoison.filter (fun l => decide (l < kbase pos / 64) || decide (kbase (pos + 1) / 64 ≤ l)) }
  let s := s.setB (aStk pos 0x100) 1 false
  (s.pageFault clsStack pos (fun s => s.stackAtStop pos)).cairnLog 6 clsStack pos cRegionLost noCtx []

/-- STACK_FAIL: an ON stack stops answering (R188). -/
def execStackFail (pos : Nat) (s : State) : Host.Outcome State Fault Refusal :=
  onUnit (decide (pos < 24)) (s.isOn clsStack pos) s (fun s => s.stackLost pos)

/-- STACK_UNCORR_ERROR: the line is poisoned, counted and recorded (R186, R207); more than 4,096 within 1 s fail the stack (R188). -/
def execStackUncorrError (pos offset now : Nat) (s : State) : Host.Outcome State Fault Refusal :=
  onUnit (decide (pos < 24)) (s.isOn clsStack pos && decide (offset < 96 * 2 ^ 30)) s (fun s =>
    let s := s.atTime now
    let s := { s with stackPoison := ins s.stackPoison ((kbase pos + offset) / 64) }
    let s := ((s.incSat (aStk pos 0x11C)).errBit clsStack pos 1).cairnLog 5 clsStack pos 0 noCtx [itStack pos offset]
    let times := s.clk.now :: (look [] s.stackErrs pos).filter (fun t => inWindow s.clk.now t 1000000000)
    let s := { s with stackErrs := put s.stackErrs pos times }
    if 4096 < times.length then s.stackLost pos else s)

/-- STACK_TRAINING_DONE: steps 4 to 7 of R182, or FAULTED (R183). -/
def execStackTrainingDone (pos : Nat) (ok : Bool) (repairs : Nat) (s : State) : Host.Outcome State Fault Refusal :=
  onUnit (decide (pos < 24)) (s.fitted pos && s.pst clsStack pos == stStarting) s (fun s =>
    let s := s.setRegN (aStk pos 0x120) repairs
    if ok then
      let s := { s with stack := memClear s.stack (kbase pos) (kbase pos + 0x2000000000), stackErrs := del s.stackErrs pos,
                        stackPoison := s.stackPoison.filter (fun l => decide (l < kbase pos / 64) || decide (kbase (pos + 1) / 64 ≤ l)) }
      (s.setB (aStk pos 0x100) 1 true).startDone clsStack pos (fun s => s.stackAtStop pos)
    else s.pageFault clsStack pos (fun s => s.stackAtStop pos))

/-! ### TRANSLATION pages -/

/-- Every TLB and walk cache entry of a context dropped. -/
def State.dropTlb (s : State) (c : Nat) : State :=
  { s with tlb := s.tlb.filter (fun t => t.ctx != c), walkCache := s.walkCache.filter (fun w => w.ctx != c) }

/-- TRANSLATION_START_DONE: SET0 and the set of ROOT_SET must be valid (R210). -/
def execTranslationStartDone (ctx : Nat) (s : State) : Host.Outcome State Fault Refusal :=
  onUnit (decide (ctx < 17)) (s.pst clsXl ctx == stStarting && s.stage == 4) s (fun s =>
    if s.setOk ctx 0 && s.setOk ctx (s.regF (aXl ctx 0x100) 0 2) then s.startDone clsXl ctx id
    else (s.errBit clsXl ctx 1).pageFault clsXl ctx id)

/-- TRANSLATION_STOP_DONE: every request of the context is answered; its TLB entries are dropped on entry to OFF (R210). -/
def execTranslationStopDone (ctx : Nat) (s : State) : Host.Outcome State Fault Refusal :=
  onUnit (decide (ctx < 17)) (s.pst clsXl ctx == stStopping && !s.memReqs.any (fun r => r.pkt.ctx == ctx)) s (fun s =>
    (s.dropTlb ctx).stopDone clsXl ctx id)

/-- May a write make the set valid (R193)? -/
def State.setWritable (s : State) (c : Nat) (v : W32) : Bool :=
  let m := bitsSet 24 (fld v 0 24)
  let g := 4096 * 2 ^ fld v 24 3
  !m.isEmpty && m.all (fun p => s.fitted p && s.pst clsStack p != stFaulted) && decide (fld v 24 3 ≤ 4) && isMul (s.winBase c) g
    && isMul (s.winSize c) g

/-- A write of SETk (`which` 0 to 3), ROOT_LO (4) or ROOT_HI (5) (R193, R210, R211). ROOT_LO is staged until ROOT_HI is written (R554). -/
def State.setWrite (s : State) (c which : Nat) (v : W32) : State :=
  if s.pst clsXl c ≠ stOff then s.ignored clsXl c
  else if which < 4 then
    (if bitOf v 31 && !s.setWritable c v then s.ignored clsXl c else s.setReg (aXl c (0x108 + 4 * which)) (v &&& 0x87FFFFFF))
  else if which = 4 then { s with staged := put s.staged (aXl c 0x100) (v &&& 0xFFFFF003) }
  else
    let lo := look (s.reg (aXl c 0x100)) s.staged (aXl c 0x100)
    { (s.setReg (aXl c 0x100) lo).setReg (aXl c 0x104) (v &&& 0x01FFFFFF) with staged := del s.staged (aXl c 0x100) }

/-- SET_WRITE (R193). -/
def execSetWrite (ctx which : Nat) (value : W32) (s : State) : Host.Outcome State Fault Refusal :=
  onUnit (decide (ctx < 17) && decide (which < 6)) s.served s (fun s => s.setWrite ctx which value)

/-- Does a page overlap the range of an invalidation? -/
def Tlb.overlaps (t : Tlb) (va len : Nat) : Bool := decide (0 < len) && decide (t.va < va + len) && decide (va < t.va + 2 ^ t.ps)

/-- An invalidation starts (R202): matching TLB entries and every walk cache entry of the context are dropped, and it waits
for the end of the context's walks in progress and for the answers of the requests translated by a dropped entry. -/
def State.invalStart (s : State) (c : Nat) (whole : Bool) : State :=
  let va := s.reg64 (aXl c 0x120)
  let len := s.reg64 (aXl c 0x128)
  let gone (t : Tlb) : Bool := t.ctx == c && (whole || t.overlaps va len)
  let dropped := s.tlb.filter gone
  let marks (r : MemReq) : Bool :=
    r.pkt.ctx == c && 1 ≤ r.stage && r.stage != 4 && dropped.any (fun t => t.unit == memUnit r.pkt.dcol && t.overlaps r.pkt.addr (max 1 r.pkt.len))
  let s := s.setB (aXl c 0x118) 2 true
  { s with tlb := s.tlb.filter (fun t => !gone t), walkCache := s.walkCache.filter (fun w => w.ctx != c),
           memReqs := s.memReqs.map (fun r =>
             { r with old := r.old || marks r, walkOld := r.walkOld || (r.pkt.ctx == c && r.walk.isSome) }) }

/-- INVAL_CTL written with GO (R202, R203): it starts an invalidation, or sets PENDING while one is busy. -/
def State.invalGo (s : State) (c : Nat) (range : Bool) : State :=
  let s := s.setB (aXl c 0x118) 1 range
  if s.regB (aXl c 0x118) 2 then s.setB (aXl c 0x118) 3 true else s.invalStart c (!range)

/-- INVAL_GO (R202). -/
def execInvalGo (ctx : Nat) (range : Bool) (s : State) : Host.Outcome State Fault Refusal :=
  onUnit (decide (ctx < 17)) s.served s (fun s => s.invalGo ctx range)

/-- INVAL_DONE (R202, R203): BUSY clears when every marked walk has ended and every marked request is answered, and a pending invalidation of the whole context starts. -/
def execInvalDone (ctx : Nat) (s : State) : Host.Outcome State Fault Refusal :=
  onUnit (decide (ctx < 17)) (s.regB (aXl ctx 0x118) 2 && !s.memReqs.any (fun r => r.pkt.ctx == ctx && (r.old || (r.walk.isSome && r.walkOld)))) s (fun s =>
    let s := s.setB (aXl ctx 0x118) 2 false
    if s.regB (aXl ctx 0x118) 3 then (s.setB (aXl ctx 0x118) 3 false).invalStart ctx true else s)

/-- XL_FAULT_CLEAR: 1 written to XL_FAULT.VALID clears it and re-arms the latch (R212). -/
def execXlFaultClear (ctx : Nat) (s : State) : Host.Outcome State Fault Refusal :=
  onUnit (decide (ctx < 17)) s.served s (fun s => s.setB (aXl ctx 0x130) 7 false)

/-! ### BAR2 (R194, R466) -/

/-- The places of a BAR2 access: translated while the page is ON, otherwise a set address in SET0. A failure is latched (R201, R588). -/
def State.bar2Segs (s : State) (c offset n : Nat) (wr : Bool) : Option (List (Nat × Nat × Nat)) × State :=
  let a := s.reg64 (aCe c 0x120) + offset
  if s.isOn clsXl c then
    match s.translate 12 c a n wr with
    | (.inl _, s) => (none, s)
    | (.inr l, s) => (some l, s)
  else
    let e : Option Nat :=
      if !s.setOk c 0 then some 6
      else if !s.setAddrOk c 0 a n then some 5
      else s.segsKind (s.setSegs c 0 (n / 4096 + 2) a n)
    match e with
    | some k => (none, s.xlLatch c ⟨k, 7, a⟩ wr)
    | none => (some (s.setSegs c 0 (n / 4096 + 2) a n), s)

/-- Does the function exist now: PF0, or a VF that is enabled, while the link is up? -/
def State.fnUp (s : State) (fn : Nat) : Bool := s.regB (rg clsPcie 0 0x100) 0 && decide (fn ≤ s.regF (rg clsPcie 0 0x100) 8 5)

/-- BAR2_READ: a read that fails completes with all bits 1 (R194, R466), and one that meets a poisoned line returns its bytes, with nothing to mark
them (log 170); with an ATS translation type, or without the
Secure stream that IDE_REQ asks for, it is an Unsupported Request (R460, R509, R573). Before FIRMWARE it returns 0 (R527). -/
def execBar2Read (fn offset len : Nat) (tlp : Tlp) (corrected : Corrected) (s : State) : Host.Outcome State Fault Refusal :=
  onUnit (decide (fn < 17)) (s.fnUp fn && decide (offset + len ≤ 64 * 2 ^ 30)) s (fun s =>
    let s := s.tlpIn.tlpOut
    if tlp.ats || !s.ideIn fn tlp then s.urSent
    else if !s.served then s.emit (.readData fn (List.replicate len 0)) else
    match (s.eccCorr corrected).bar2Segs fn offset len false with
    | (none, s) => s.emit (.readData fn (List.replicate len 0xFF))
    | (some l, s) => s.emit (.readData fn (s.segsRead l)))

/-- BAR2_WRITE: a write that fails is discarded (R194, R466), and so is one without the Secure stream that IDE_REQ asks
for (R509), one with an ATS translation type, as an Unsupported Request (R460), and one before FIRMWARE (R527). -/
def execBar2Write (fn offset : Nat) (bytes : List Byte) (tlp : Tlp) (corrected : Corrected) (s : State) : Host.Outcome State Fault Refusal :=
  onUnit (decide (fn < 17)) (s.fnUp fn && decide (offset + bytes.length ≤ 64 * 2 ^ 30)) s (fun s =>
    let s := s.tlpIn
    if tlp.ats then s.urSent
    else if !s.ideIn fn tlp || !s.served then s else
    match (s.eccCorr corrected).bar2Segs fn offset bytes.length true with
    | (none, s) => s
    | (some l, s) => s.segsWrite l bytes false)

end Sys2Proof.Machine
end

