-- ==== Sys2Proof/Machine/Power.lean ====
section
/-! DEFINITION. Pitch supplies and the Weir (12 R406-R436): starts, stops and isolation of pitches, the Weir's frame, its regulation and
its envelope registers. -/

namespace Sys2Proof.Machine

abbrev aPt2 (p off : Nat) : Nat := rg clsPitch p off

/-! ### Pitches (R407-R417) -/

/-- Reach of a pitch. -/
def pitchReach (p : Nat) : Nat := p / 4
/-- First row of a pitch. -/
def pitchRow (p : Nat) : Nat := p / 4 / 9 * 120 + 30 * (p % 4)
/-- First column of a pitch. -/
def pitchCol (p : Nat) : Nat := p / 4 % 9 * 120
/-- The 3,600 logical rills of a pitch. -/
def pitchRills (p : Nat) : List Nat := rectPos (pitchCol p) (pitchCol p + 119) (pitchRow p) (pitchRow p + 29)
/-- Does a pitch hold a logical rill? -/
def inPitch (p k : Nat) : Bool := pitchOf (rcol k) (rrow k) == p
/-- ON and ISOLATED of RP_STATUS, and the count of RCV_STATUS (R402, R436). -/
def State.pitchSync (s : State) (p : Nat) : State :=
  let a := rg clsReach (p / 4) 0x300
  let s := (s.setB a (p % 4) (s.isOn clsPitch p)).setB a (4 + p % 4) (s.pst clsPitch p == stIsolated)
  s.setF 0x204 20 8 (countIf (fun q => s.pst clsPitch q == stIsolated) (List.range 252))

/-- Reaches whose links a pitch's routers share. -/
def pitchNear (p : Nat) : List Nat :=
  let r := p / 4
  [r] ++ (if r % 9 = 0 then [] else [r - 1]) ++ (if r % 9 = 8 then [] else [r + 1])
    ++ (if p % 4 = 0 ∧ 9 ≤ r then [r - 9] else []) ++ (if p % 4 = 3 ∧ r < 54 then [r + 9] else [])

/-- Every RUNNING context begins the hold of a pitch's start or stop (R411), and so does one whose drain hold for wear is in progress (log 59). -/
def State.pitchTakeHold (s : State) : State :=
  (s.allCtx.filter (fun c => !s.pitchHeld.contains c)).foldl (fun s c =>
    if s.rstate c = 0 then
      { (s.setRcv c { s.rcv c with drainAt := s.clk.now, drained := s.atCommit c }).setRstate c 5 with pitchHeld := ins s.pitchHeld c }
    else if s.rstate c = 5 then { s with pitchHeld := ins s.pitchHeld c }
    else s) s

/-- Is every context held (R411)? -/
def State.allHeld (s : State) : Bool :=
  s.allCtx.all (fun c => s.rstate c != 0 && (s.rstate c != 5 || (s.pitchHeld.contains c && (s.rcv c).drained)))

/-- STARTING or STOPPING begins: the contexts are held, and the pitch waits for the Weir (R411-R413). -/
def State.pitchBegin (s : State) (p : Nat) : State := ({ s with pitchWait := ins s.pitchWait p }).pitchTakeHold

/-- The table's part of R377: the entries and the dead region, which wait for the Warden while it restarts (R416), and the record of R370. -/
def State.pitchTable (s : State) (p : Nat) : State :=
  let ks := pitchRills p
  let gone := ks.filter (fun k => !s.present k)
  let s := { s with isoKept := s.isoKept ++ gone.map (fun k => (k, s.cmtState k, s.regF (aCmtK k) 12 4)) }
  let s := ks.foldl (fun s k => s.setCmt k 3 6) s
  let s := (s.setDeadReach (p / 4)).cmtGen.addSat (rg clsReach (p / 4) 0x104) (3600 - gone.length)
  s.cairnLog 6 clsReach (p / 4) cRegionLost noCtx []

/-- R377: a pitch has become ISOLATED; its links are absent at once (R115). -/
def State.pitchLost (s : State) (p : Nat) : State :=
  let s := ((s.pitchSync p).absentSync (pitchNear p)).linkLoss (fun _ => true) (fun q => inPitch p (ridx q.1 q.2))
  let s := (pitchRills p).foldl (fun s k => match look? s.rills k with
    | some r => s.setRill k { r with failed := true }
    | none => s) s
  let own := s.ownersOf (pitchRills p)
  let s := s.holdFor (s.allCtx ++ own.filter (fun c => !s.allCtx.contains c)) own [] true cRegionLost
  if s.fwRuns then s.pitchTable p else { s with isoPend := ins s.isoPend p }

/-- A pitch leaves service: it waits for nothing, and its rail is unpowered (R409, R416). -/
def State.pitchOut (s : State) (p cause : Nat) : State :=
  let s := s.isolatePage clsPitch p
  let s := (((s.setB (aPt2 p 0x104) 0 false).setB (aPt2 p 0x104) 2 false).setB (aPt2 p 0x104) 3 false).setF (aPt2 p 0x104) 4 4 cause
  { s with pitchWait := rem s.pitchWait p, pitchRun := del s.pitchRun p, railTest := rem s.railTest p, testing := rem s.testing p,
           hotPitches := rem s.hotPitches p, unpowered := ins s.unpowered p, startPend := rem s.startPend p }

/-- Retention follows RET_EN while the load switch of a pitch that is not ISOLATED is open: without it the rail is unpowered (R409). -/
def State.retSync (s : State) (p : Nat) : State :=
  if s.regB (aPt2 p 0x104) 0 || s.pst clsPitch p == stIsolated then s
  else
    let ret := s.regB (aPt2 p 0x100) 8
    { s.setB (aPt2 p 0x104) 2 ret with unpowered := if ret then s.unpowered else ins s.unpowered p }

/-- An isolating condition (R415, R416). -/
def State.pitchTrip (s : State) (p cause peak : Nat) : State :=
  let s := (s.pitchOut p cause).incSat (aPt2 p 0x118)
  ((s.cairnLog 6 clsPitch p cPowerIsolated noCtx [itPitch p cause peak]).pitchLost p).pitchResume

/-- PITCH_ISOLATE (R415, R416): undervoltage counts only once the rail has been good. -/
def execPitchIsolate (pitch cause peak now : Nat) (s : State) : Host.Outcome State Fault Refusal :=
  let cond := cause == 1 || (cause == 2 && s.regB (aPt2 pitch 0x104) 3) || cause == 3 || cause == 5
  onUnit (decide (pitch < 252)) (cond && s.pst clsPitch pitch != stIsolated) s (fun s => (s.atTime now).pitchTrip pitch cause peak)

/-- EFUSE_CLEAR (R416): the switch of an isolated pitch has failed. `current` is in units of 0.1 A. -/
def execEfuseClear (pitch current : Nat) (s : State) : Host.Outcome State Fault Refusal :=
  let cause := s.regF (aPt2 pitch 0x104) 4 4
  onUnit (decide (pitch < 252))
    (s.pst clsPitch pitch == stIsolated && decide (100 < current) && s.regB (aPt2 pitch 0x104) 1 && [1, 2, 3, 5].contains cause) s (fun s =>
      (s.setB (aPt2 pitch 0x104) 1 false).setF (aPt2 pitch 0x104) 4 4 4)

/-- PITCH_THERMAL_THROTTLE (R415): 110 °C or above, below the 125 °C that isolate. -/
def execPitchThermalThrottle (pitch temp : Nat) (s : State) : Host.Outcome State Fault Refusal :=
  onUnit (decide (pitch < 252)) (decide (110 ≤ temp) && decide (temp < 125) && s.regB (aPt2 pitch 0x104) 0) s (fun s =>
    { s.wdSyncAll with hotPitches := ins s.hotPitches pitch })

/-- PITCH_THERMAL_RECOVER (R415): below 105 °C. -/
def execPitchThermalRecover (pitch temp : Nat) (s : State) : Host.Outcome State Fault Refusal :=
  onUnit (decide (pitch < 252)) (decide (temp < 105) && s.hotPitches.contains pitch) s (fun s =>
    { s.wdSyncAll with hotPitches := rem s.hotPitches pitch })

/-- EN_REQ of a pitch: ignored where its e-fuse has cleared; from ISOLATED the rail test comes first (R417), otherwise the Weir is asked. -/
def State.pitchEn (s : State) (p : Nat) : State :=
  if !s.regB (aPt2 p 0x104) 1 then s.ignored clsPitch p
  else if s.pst clsPitch p = stIsolated then { s with railTest := ins s.railTest p }
  else s.enReqOn clsPitch p (fun s => s.pitchBegin p)

/-- STOP_REQ of a pitch: ignored while a replay set holds a rill of it (R410). -/
def State.pitchStop (s : State) (p : Nat) : State :=
  if (s.ownersOf (pitchRills p)).isEmpty then (s.stopReqOn clsPitch p (fun s => s.pitchBegin p)).pitchSync p else s.ignored clsPitch p

/-- ISOLATE of a pitch: honoured only while it is OFF; cause 6, and R377 (R410). -/
def State.pitchIsolateReq (s : State) (p : Nat) : State :=
  if s.pst clsPitch p = stOff then ((s.pitchOut p 6).pitchLost p).pitchResume else s.ignored clsPitch p

/-- PITCH_RAIL_TEST_DONE (R417): `mv` is what the rail reached within 1 ms. -/
def execPitchRailTestDone (pitch mv : Nat) (s : State) : Host.Outcome State Fault Refusal :=
  onUnit (decide (pitch < 252)) (s.railTest.contains pitch) s (fun s =>
    let s := { s with railTest := rem s.railTest pitch }
    if 400 ≤ mv then ((s.enReqOn clsPitch pitch (fun s => s.pitchBegin pitch)).retSync pitch).pitchSync pitch
    else (s.setF (aPt2 pitch 0x104) 4 4 7).incSat (aPt2 pitch 0x118))

/-- Rills of a pitch that do not match their context's RILL_EPOCH, or all of them where the rail was unpowered (R393, R412, R417). -/
def State.staleRills (s : State) (p : Nat) : List Nat :=
  if s.unpowered.contains p then pitchRills p
  else (pitchRills p).filter (fun k => (s.rill k).epoch != s.rillEpoch (s.rill k).ctx)

/-- Rill stores and pools written with zeros, which clears their poison bits. -/
def State.wipeRills (s : State) (ks : List Nat) : State :=
  { s with store := s.store.filter (fun e => !ks.contains (e.1 / 0x10000)), pool := s.pool.filter (fun e => !ks.contains (e.1 / 0x10000)),
           storePoison := s.storePoison.filter (fun l => !ks.contains (l / 1024)), poolPoison := s.poolPoison.filter (fun l => !ks.contains (l / 1024)) }

/-- The rejoin check of a pitch that enters ON (R393): one record for the pitch (log 60), and a hold of each context that has a stale rill in
its replay set. During start-up no context exists, and the start-up test wipes the pitch. -/
def State.rejoin (s : State) (p : Nat) : State :=
  let stale := s.staleRills p
  let s := (s.wipeRills stale).setF (rg clsPitch p 0x00C) 5 1 1
  if stale.isEmpty || decide (s.stage ≠ 4) then s
  else
    let own := s.ownersOf stale
    let s := s.cairnLog 4 clsPitch p cStaleEpoch noCtx [itPitch p (s.regF (aPt2 p 0x104) 4 4) 0]
    let s := if own.isEmpty then s else s.setB (rg clsPitch p 0x00C) 5 false
    ({ s with staleWait := s.staleWait ++ own.map (fun c => (p, c)) }).holdFor own [] own false cStaleEpoch

/-- Positions of a pitch that returns from ISOLATED become PRESENT; one that had failed before stays as it was (R105, R393). The contexts, all held
now, resume after the change stands in flash (R367). -/
def State.pitchPresent (s : State) (p : Nat) : State :=
  let ks := (pitchRills p).filter (fun k => s.cmtState k == 3)
  if ks.isEmpty then s
  else
    let s := ks.foldl (fun s k =>
      match s.isoKept.find? (fun e => e.1 == k) with
      | some (_, st, cause) => (s.setF (aCmtK k) 4 3 st).setF (aCmtK k) 12 4 cause
      | none => ((s.setF (aCmtK k) 4 3 0).setF (aCmtK k) 12 4 0).countPresent k) s
    { s.cmtGen with isoKept := s.isoKept.filter (fun e => !inPitch p e.1), cmtDue := s.stage == 4 }

/-- The rejoin check and the table's part of a start: they change what only the Warden changes (R364, R412 step 5). -/
def State.pitchJoin (s : State) (p : Nat) : State :=
  let s := ({ s with startPend := rem s.startPend p }.pitchPresent p).rejoin p
  let s := { s with unpowered := rem s.unpowered p, testing := if s.stage < 4 then ins s.testing p else s.testing }
  ((s.setDeadReach (p / 4)).pitchSync p).absentSync (pitchNear p)

/-- PITCH_START_DONE (R412 steps 4-6, R414): at the earliest 80 µs after the boundary that admitted the start, and before the 1 ms that R412 gives power
good, ON. While firmware is away
the contexts stay held until it has done its part. -/
def execPitchStartDone (pitch now : Nat) (s : State) : Host.Outcome State Fault Refusal :=
  match look? s.pitchRun pitch with
  | none => onUnit (decide (pitch < 252)) false s id
  | some b =>
    onUnit (decide (pitch < 252))
      (s.pst clsPitch pitch == stStarting && !inWindow now b 80000 && inWindow now b 1000000) s (fun s =>
        let s := s.atTime now
        let s := { s with pitchRun := del s.pitchRun pitch }
        let s := ((s.setB (aPt2 pitch 0x104) 3 true).setF (aPt2 pitch 0x104) 4 4 0).incWrap (rg clsPitch pitch 0x024)
        let s := (pitchRills pitch).foldl (fun s k => match look? s.rills k with
          | some r => s.setRill k { r with failed := false }
          | none => s) s
        let s := s.startDone clsPitch pitch (fun s => s.pitchBegin pitch)
        if s.fwRuns then (s.pitchJoin pitch).pitchResume else { s.pitchSync pitch with startPend := ins s.startPend pitch })

/-- PITCH_POWER_GOOD_TIMEOUT (R412): the rail is not good by b + 1 ms; its peak current is a free value (log 1). -/
def execPitchPowerGoodTimeout (pitch now : Nat) (s : State) : Host.Outcome State Fault Refusal :=
  match look? s.pitchRun pitch with
  | none => onUnit (decide (pitch < 252)) false s id
  | some b =>
    onUnit (decide (pitch < 252)) (s.pst clsPitch pitch == stStarting && !inWindow now b 1000000) s (fun s =>
      let (v, s) := (s.atTime now).draw64
      s.pitchTrip pitch 5 (v.toNat % 2 ^ 32))

/-- PITCH_STOP_DONE (R413 steps 3 and 4, R414): OFF 50 µs after the boundary; retention holds the rail if RET_EN is 1. -/
def execPitchStopDone (pitch now : Nat) (s : State) : Host.Outcome State Fault Refusal :=
  match look? s.pitchRun pitch with
  | none => onUnit (decide (pitch < 252)) false s id
  | some b =>
    onUnit (decide (pitch < 252)) (s.pst clsPitch pitch == stStopping && !inWindow now b 50000) s (fun s =>
      let ret := s.regB (aPt2 pitch 0x100) 8
      let s := s.atTime now
      let s := { s with pitchRun := del s.pitchRun pitch,
                        unpowered := if ret then rem s.unpowered pitch else ins s.unpowered pitch }
      let s := (s.setB (aPt2 pitch 0x104) 0 false).setB (aPt2 pitch 0x104) 2 ret
      ((s.stopDone clsPitch pitch (fun s => s.pitchBegin pitch)).pitchSync pitch).pitchResume)

/-! ### The Weir: frames, set point, admissions (R418-R429) -/

/-- Pending envelope writes put in force (R431). -/
def State.weirApply (s : State) : State :=
  let s := s.weirPend.foldl (fun s e => if e.1 = 0x140 then s.setReg64 (aWeir 0x140) e.2 else s.setRegN (aWeir e.1) e.2) s
  { s with weirPend := [] }

/-- CEIL in mW and CEIL_CAUSE (R425), from the working chiplets and the input voltage in mV. -/
def State.weirCeil (s : State) (mv : Nat) : Nat × Nat :=
  let chip := 2000000 * popcount 16 (s.regN (aWeir 0x148))
  let volt := if mv < 50000 then mv * 600 else 30000000
  if 30000000 ≤ chip ∧ 30000000 ≤ volt then (30000000, 0)
  else if chip ≤ volt then (chip, 1) else (volt, 2)

/-- Does Site Time let the gate open (R429)? -/
def State.weirTime (s : State) : Bool :=
  let st := s.regF (rg clsTime 0 0x104) 0 3
  st == 0 || st == 2 || st == 3

/-- gate(b) (R424, R429); a gate instant among skipped grains takes effect where Site Time lands (R454). -/
def State.weirGate (s : State) (b : Nat) : Bool :=
  let period := s.regF (aWeir 0x13C) 0 20 * 1000000
  s.weirTime && (period == 0 || (!s.regB (aWeir 0x100) 3
    && (s.weirSkip || decide ((b : Int) % period = (s.reg64 (aWeir 0x140) : Int) % period))))

/-- A WEIR_LIMIT episode begins, unless one runs (R426). -/
def State.weirLimit (s : State) : State :=
  if s.regB (aWeir 0x104) 6 then s
  else ((s.cairnLog 4 clsWeir 0 cWeirLimit noCtx []).incSat (aWeir 0x14C)).setB (aWeir 0x104) 6 true

/-- The frame that ends lies within the band of R419 or not (R426). -/
def State.weirBand (s : State) (inMw : Nat) : State :=
  if !s.weirSet then s
  else if inMw + 300000 < s.weirS then s.weirLimit
  else if inMw ≤ s.weirS + 300000 then s.setB (aWeir 0x104) 6 false
  else s

/-- The set point update of R423 at boundary b, for demand d, all in mW. MODE 1 freezes S; in MODE 2 only falls run (R428). -/
def State.weirMove (s : State) (b d ceil : Nat) : State :=
  let mode := s.regF (aWeir 0x104) 0 2
  if mode = 1 then s
  else
    let stepMax := s.regF (aWeir 0x12C) 0 16 * 1000
    let deff := min (max d (s.regF (aWeir 0x130) 0 16 * 1000)) (s.regF (aWeir 0x134) 0 16 * 1000)
    let up := min stepMax (s.weirUp + s.regN (aWeir 0x124))
    let down := min stepMax (s.weirDown + s.regN (aWeir 0x128))
    let sp := s.weirS
    let s := ({ s with weirUp := up, weirDown := down }).setB (aWeir 0x104) 5 false
    if ceil < sp then
      let s := if down < sp - ceil then s.weirLimit else s
      { s with weirS := ceil, weirBelow := 0 }
    else if sp < deff then
      if mode = 2 then s
      else
        let s := { s with weirBelow := 0 }
        if s.regB (aWeir 0x100) 0 then
          if s.weirRest && !s.weirGate b then s.setB (aWeir 0x104) 5 true
          else
            let m := min (min (deff - sp) up) (ceil - sp)
            { s with weirS := sp + m, weirUp := up - m, weirRest := false }
        else s
    else if deff < sp then
      let n := s.weirBelow + 1
      let s := { s with weirBelow := n }
      if s.regF (aWeir 0x138) 0 16 ≤ n then
        let m := min (sp - deff) down
        { s with weirRest := true, weirS := sp - m, weirDown := down - m }
      else s
    else { s with weirBelow := 0 }

/-- Pitch starts that wait for the Weir, in mW (R422, R427). -/
def State.startsWaiting (s : State) : Nat :=
  if s.allHeld then
    sumL ((s.pitchWait.filter (fun p => s.pst clsPitch p == stStarting)).map (fun p => s.regF (aPt2 p 0x11C) 0 16 * 1000))
  else 0

/-- The Levee start is admitted: the stacks train (R524). -/
def State.leveeUp (s : State) : State :=
  ((List.range 24).filter s.fitted).foldl (fun s p => if s.pst clsStack p = stOff then s.setPst clsStack p stStarting else s) { s with leveeStart := 2 }

/-- A start is admitted at b: the load switch closes (R412 step 2). -/
def State.admitStart (s : State) (p b : Nat) : State :=
  let s := { s with pitchWait := rem s.pitchWait p, pitchRun := put s.pitchRun p b }
  (s.setB (aPt2 p 0x104) 0 true).setB (aPt2 p 0x104) 2 false

/-- A stop is admitted at b: the pitch is a dead region and its clocks stop (R413 step 2); its rills lose all but their stores and pools. -/
def State.admitStop (s : State) (p b : Nat) : State :=
  let s := { s with pitchWait := rem s.pitchWait p, pitchRun := put s.pitchRun p b, hotPitches := rem s.hotPitches p }
  let s := { s with rills := s.rills.map (fun (e : Nat × Rill) =>
    if inPitch p e.1 then (e.1, { Rill.init with epoch := e.2.epoch, ctx := e.2.ctx, step := e.2.step }) else e) }
  (s.setB (aPt2 p 0x104) 3 false).setDeadReach (p / 4)

/-- Admissions at a boundary in rising pitch order (R427, R524): `resv` counts what is admitted before, `share` and `draw` what the stops
admitted before take away. -/
def State.admitAll (s : State) (b cm cap resv share draw : Nat) (r : WeirReading) : List Nat → State
  | [] => s
  | p :: t =>
    if s.pst clsPitch p = stStarting then
      let w := s.regF (aPt2 p 0x11C) 0 16 * 1000
      if cm + resv + w ≤ s.weirS then (s.admitStart p b).admitAll b cm cap (resv + w) share draw r t
      else s.admitAll b cm cap resv share draw r t
    else
      let (d, c) := ((r.pitches.find? (fun e => e.1 == p)).map (·.2)).getD (0, 0)
      if s.weirS + (share + c) + (draw + d) ≤ cap + cm + 300000 then (s.admitStop p b).admitAll b cm cap resv (share + c) (draw + d) r t
      else s.admitAll b cm cap resv share draw r t

/-- Admissions of R427 and R524: the Levee start first. While Warden firmware is away nothing is admitted (log 61). -/
def State.weirAdmit (s : State) (b : Nat) (r : WeirReading) : State :=
  if !s.fwRuns then s
  else
    let cm := r.inMw - r.ballastMw
    let levee := s.leveeStart == 1 && decide (cm + 2400000 ≤ s.weirS)
    let s := if levee then s.leveeUp else s
    let s := if s.pitchWait.isEmpty then s else s.pitchTakeHold
    if s.allHeld then s.admitAll b cm r.ballastCapMw (if levee then 2400000 else 0) 0 0 r s.pitchWait else s

/-- Energy of a frame added to the counts (R432, R434): mW times ns, counted in units of 1 nJ. -/
def State.weirEnergy (s : State) (dur : Nat) (r : WeirReading) : State :=
  let nj := s.weirNj + r.inMw * dur / 1000
  let bj := s.ballNj + r.ballastMw * dur / 1000
  let s := (({ s with weirNj := nj, ballNj := bj }).setReg64 (aWeir 0x158) (nj / 1000000000)).setReg64 (aWeir 0x150) (bj / 1000000000)
  r.pitches.foldl (fun s e =>
    if e.1 < 252 then
      let j := look 0 s.ptNj e.1 + e.2.1 * dur / 1000
      ({ s with ptNj := put s.ptNj e.1 j }).setReg64 (aPt2 e.1 0x120) (j / 1000000000)
    else s) s

/-- THROTTLED and BALLAST of RP_STATUS for the frame that ends (R436). -/
def State.weirMarks (s : State) (r : WeirReading) : State :=
  (List.range 63).foldl (fun s rch =>
    let bits (l : List Nat) : Nat := sumL ((List.range 4).map (fun k => if l.contains (4 * rch + k) then 2 ^ k else 0))
    let v := bits (s.hotPitches.foldl ins r.throttled) + 16 * bits r.ballast
    if s.regF (rg clsReach rch 0x300) 8 8 = v then s else s.setF (rg clsReach rch 0x300) 8 8 v) s

/-- VSET of every pitch follows its LOAD_LINE at a frame boundary (R408): 0.66 V and 2 mV for each 0.01 mΩ. -/
def State.vsetSync (s : State) : State :=
  (List.range 252).foldl (fun s p =>
    let v := 660 + 2 * s.regF (aPt2 p 0x100) 0 6
    if s.regN (aPt2 p 0x110) = v then s else s.setRegN (aPt2 p 0x110) v) s

/-- What the WEIR page shows of the frame that ends, for demand d in mW (R432). -/
def State.weirShow (s : State) (d : Nat) (r : WeirReading) : State :=
  let s := (s.setRegN (aWeir 0x108) (s.weirS / 1000)).setRegN (aWeir 0x11C) (min 0xFFFF (d / 1000))
  let s := s.setRegN (aWeir 0x120) (min 0xFFFF (r.ballastMw / 1000) + 0x10000 * min 0xFFFF (r.ballastCapMw / 1000))
  let s := ((s.setB (aWeir 0x104) 2 (!r.throttled.isEmpty || !s.hotPitches.isEmpty)).setB (aWeir 0x104) 3 (decide (0 < r.ballastMw))).setB (aWeir 0x104) 4
    (decide (s.weirS ≤ s.regF (aWeir 0x130) 0 16 * 1000))
  { s.wdSyncAll with weirAct := 0 }

/-- What the Weir holds of a frame's average power (R419): at most S + 300 W, and at least S - 300 W where committed power and ballast can reach it (log 158). -/
def State.weirHolds (s : State) (r : WeirReading) : Bool :=
  !s.weirSet || (decide (r.inMw ≤ s.weirS + 300000)
    && (decide (s.weirS ≤ r.inMw + 300000) || !s.regB (aWeir 0x100) 2 || decide (r.inMw - r.ballastMw + r.ballastCapMw + 300000 < s.weirS)))

/-- A frame begins at b where none ran: writes of the envelope come into force (R431), and there is no frame yet to judge (log 91). -/
def State.weirBegin (s : State) (b : Nat) : State :=
  { (s.atTime b).utcApply.weirApply with weirAt := some b, weirDrawn := (b, 0) }

/-- The frame that began at a ends at b: it is judged and CEIL is updated; with the ceiling, in mW (R421, R424-R428). -/
def State.weirJudge (s : State) (a b : Nat) (r : WeirReading) : State × Nat :=
  let s := { (s.atTime b).utcApply.weirApply with weirAt := if s.weirCut.isSome then none else some b, weirCut := none, vinMv := r.mv, weirDrawn := (b, 0) }
  let s := ((s.weirBand r.inMw).weirEnergy (b - a) r).weirMarks r
  let (ceil, cause) := s.weirCeil r.mv
  ((s.setRegN (aWeir 0x10C) (ceil / 1000)).setF (aWeir 0x104) 8 3 cause, ceil)

/-- The demand that S follows, in mW (R422). -/
def State.weirDemand (s : State) (r : WeirReading) : Nat :=
  r.inMw - r.ballastMw + r.withheldMw + s.startsWaiting + (if s.leveeStart = 1 then 2400000 else 0)

/-- The frame that began at a ends at b: it is judged, CEIL and S are updated, and starts and stops are admitted (R419-R429). -/
def State.weirEnd (s : State) (a b : Nat) (r : WeirReading) : State :=
  let (s, ceil) := s.weirJudge a b r
  let d := s.weirDemand r
  let s := if s.weirSet then s.weirMove b d ceil else { s with weirS := r.inMw, weirSet := true }
  let s := { s with weirSkip := false }
  let s := if s.stage = 1 ∨ s.stage = 2 then s.setF 0x108 0 3 (if s.weirTime then 3 else 2) else s
  let s := s.weirAdmit b r
  let s := s.weirShow d r
  if s.fwRuns then s.vsetSync else s

/-- WEIR_FRAME (R418-R429, R453): at a frame boundary the frame in progress ends and the next one begins. -/
def execWeirFrame (b : Nat) (r : WeirReading) (s : State) : Host.Outcome State Fault Refusal :=
  whenB ((s.inputStage == 1 || s.inputStage == 2) && s.weirBoundary b && !(s.earlierDue b 3 && reached b s.clk.now)) s (fun s =>
    match s.weirAt with
    | none => s.weirBegin b
    | some a => if s.weirHolds r then s.weirEnd a b r else s)

/-- May the Weir compare at an instant of the frame that began at a, with the energy drawn until then (R419)? Every 8 µs, and no interval averages
more than S + 1,500 W; `mj` is rounded down to whole mJ (log 158). -/
def State.weirCompares (s : State) (a now mj : Nat) : Bool :=
  isMul (now - a) 8000 && decide (s.weirDrawn.1 < now) && decide (s.weirDrawn.2 ≤ mj)
    && decide (mj * 1000000000 ≤ s.weirDrawn.2 * 1000000000 + (s.weirS + 1500000) * (now - s.weirDrawn.1) + 1000000000)

/-- WEIR_REGULATE (R419-R421): the energy drawn in the frame, in mJ, against S times the elapsed time; the Weir throttles when the draw is
ahead and adds ballast when it is behind. -/
def execWeirRegulate (now drawnMj : Nat) (s : State) : Host.Outcome State Fault Refusal :=
  whenSome (s.weirAt.filter (fun a => s.weirCompares a now drawnMj)) s (fun a s =>
    let s := { s.atTime now with weirDrawn := (now, drawnMj) }
    let due := s.weirS * (now - a)
    let got := drawnMj * 1000000000
    { s.wdSyncAll with weirAct := if due < got then 1 else if got < due ∧ s.regB (aWeir 0x100) 2 then 2 else 0 })

/-- WEIR_WARDEN_TIMEOUT (R428): 50 ms without the Warden. -/
def execWeirWardenTimeout (now : Nat) (s : State) : Host.Outcome State Fault Refusal :=
  whenSome s.wardenGone s (fun t s =>
    if inWindow now t 50000000 = false ∧ s.regF (aWeir 0x104) 0 2 = 1 then (s.atTime now).setF (aWeir 0x104) 0 2 2 else s)

/-- WEIR_LOCK (R431, R433): LOCK clears only at reset. -/
def execWeirLock (s : State) : Host.Outcome State Fault Refusal := .next (s.setB (aWeir 0x100) 1 true)

/-- Does the value of an envelope register lie in its stated range (R431, R432)? -/
def State.weirInRange (s : State) (off v : Nat) : Bool :=
  if off = 0x124 ∨ off = 0x128 then decide (1 ≤ v) && decide (v ≤ 30000000)
  else if off = 0x12C then decide (1 ≤ v) && decide (v ≤ 30000)
  else if off = 0x130 then decide (v ≤ s.weirVal 0x134)
  else if off = 0x134 then decide (1000 ≤ v) && decide (v ≤ 30000)
  else if off = 0x138 then true
  else if off = 0x13C then decide (v ≤ 1000000)
  else isMul v 8 && decide (v < (if s.weirVal 0x13C = 0 then 1000000 else s.weirVal 0x13C * 1000000))

/-- A write of an envelope register: outside its range, or under LOCK, it is ignored; START_PHASE_LO is staged until START_PHASE_HI is
written (R431, R554). -/
def State.weirWrite (s : State) (off : Nat) (v : W32) : State :=
  if off = 0x140 then (if s.regB (aWeir 0x100) 1 then s.ignored clsWeir 0 else { s with staged := put s.staged (aWeir 0x140) v })
  else
    let lo := look (s.reg (aWeir 0x140)) s.staged (aWeir 0x140)
    let key := if off = 0x144 then 0x140 else off
    let x := if off = 0x144 then lo.toNat + 2 ^ 32 * v.toNat
      else if off = 0x124 ∨ off = 0x128 then v.toNat else if off = 0x13C then fld v 0 20 else fld v 0 16
    let s := if off = 0x144 then { s with staged := del s.staged (aWeir 0x140) } else s
    if s.regB (aWeir 0x100) 1 || !s.weirInRange key x then s.ignored clsWeir 0 else { s with weirPend := put s.weirPend key x }

/-- WEIR_ENVELOPE_WRITE (R418, R431): offsets 0x124 to 0x144. -/
def execWeirEnvelopeWrite (off : Nat) (value : W32) (s : State) : Host.Outcome State Fault Refusal :=
  whenB (s.served && decide (0x124 ≤ off) && decide (off ≤ 0x144) && isMul off 4) s (fun s => s.weirWrite off value)

/-! ### Input side (R405, R406) -/

/-- IDEAL_DIODE_OPEN (R405): a reversal of current; no current is returned to the supply. -/
def execIdealDiodeOpen (s : State) : Host.Outcome State Fault Refusal := .next { s with diodeOpen := true }

/-- POWER_CHIPLET_FAIL (R406). -/
def execPowerChipletFail (n : Nat) (s : State) : Host.Outcome State Fault Refusal :=
  onUnit (decide (n < 16)) (s.regB (aWeir 0x148) n) s (fun s =>
    (s.setB (aWeir 0x148) n false).cairnLog 5 clsWeir 0 0 noCtx [])

end Sys2Proof.Machine
end

