-- ==== Sys2Proof/Machine/SiteTime.lean ====
section
/-! DEFINITION. Site Time and background slots (13 R437-R458): PTP_SYNC, PTP_ANNOUNCE, PPS_EDGE, REF10_LOSS, SOURCE_LOST, HOLDOVER_TIMEOUT,
ST_CTL_WRITE, REACQUIRE, TIME_SET, UTC_OFFSET_CHANGE, APPLY and SLOT_START. -/

namespace Sys2Proof.Machine

abbrev aBg (off : Nat) : Nat := rg clsBg 0 off

/-! ### States of Site Time -/

/-- ST_CTL.SRC. -/
def State.timeSrc (s : State) : Nat := s.regF (aTime 0x100) 0 2
/-- ST_STATUS.STATE: 0 FREE_RUN, 1 ACQUIRING, 2 LOCKED, 3 HOLDOVER, 4 UNLOCKED. -/
def State.timeState (s : State) : Nat := s.regF (aTime 0x104) 0 3
/-- STATE set. -/
def State.setTimeState (s : State) (v : Nat) : State := s.setF (aTime 0x104) 0 3 v

/-- Entry to LOCKED (R443). -/
def State.timeLocked (s : State) : State :=
  ((s.setTimeState 2).setReg64 (aTime 0x140) s.clk.now).cairnLog 2 clsTime 0 0 noCtx []
/-- Entry to HOLDOVER (R443). -/
def State.timeHoldover (s : State) : State :=
  ((({ s with holdAt := s.clk.now }).setTimeState 3).incSat (aTime 0x138)).cairnLog 4 clsTime 0 cTimeHoldover noCtx []
/-- Entry to UNLOCKED (R443). -/
def State.timeUnlocked (s : State) : State :=
  ((s.setTimeState 4).incSat (aTime 0x13C)).cairnLog 5 clsTime 0 cTimeUnlocked noCtx []

/-- A shadow table that was applied becomes the active one (R452). -/
def State.bgTake (s : State) : State :=
  match s.bgNext with
  | some t => ({ s with bgTable := t, bgNext := none }).setB (aBg 0x104) 7 false
  | none => s

/-- Is there a gate instant of the Weir after grain `was` and before grain `land` (R424, R454)? -/
def State.gateSkipped (s : State) (was land : Nat) : Bool :=
  let period : Nat := s.weirVal 0x13C % 2 ^ 20 * 1000000
  let k (g : Nat) : Int := ((g : Int) - (s.weirVal 0x140 : Int)) / (period : Int)
  decide (was + 8 < land) && period != 0 && decide (k was < k (land - 8))

/-- SITE_TIME_STEP (R442, R454): skipped slots are counted, events of skipped grains take effect at the landing (the ones that have rows of
their own follow as commands), and the Weir frame in progress ends at the landing grain. The ages of that frame and of
the last PPS edge stay as they are. -/
def State.timeStep (s : State) (t : Nat) : State :=
  let was := grain s.clk.now
  let land := grain t
  let skipped := if was < land then (land - 1) / 8000 - was / 8000 else 0
  let frame := decide (was < land) && decide (was / 1000000 < (land - 1) / 1000000)
  let s := { s with
    clk := { s.clk with now := t }, slotAt := none, weirAt := s.weirAt.map (fun a => t - (s.clk.now - a)),
    weirDrawn := (t - (s.clk.now - s.weirDrawn.1), s.weirDrawn.2), weirCut := if s.weirAt.isSome then some land else s.weirCut,
    weirSkip := s.weirAt.isSome && s.gateSkipped was land, weirFrom := t, ppsLast := s.ppsLast.map (fun x => t - (s.clk.now - x)) }
  let s := s.utcApply.addSat (aBg 0x108) skipped
  if frame then s.bgTake else s

/-! ### Measurements (R439-R444) -/

/-- A signed 32-bit register value, saturating. -/
def sat32 (x : Int) : Nat := (BitVec.ofInt 32 (max (-2147483648) (min 2147483647 x))).toNat

/-- The frequency correction that slews toward the source: a free value within 100 µs per second either way (R438, R442; log 1). -/
def State.slew (s : State) : State :=
  let (v, s) := s.draw64
  s.setRegN (aTime 0x11C) (sat32 (((v.toNat % 20000001 : Nat) : Int) - 10000000))

/-- The states of R443 after a measurement. -/
def State.timeJudge (s : State) (o : Int) : State :=
  let lim := s.regF (aTime 0x134) 0 16
  let n := o.natAbs
  let s := { s with tmIn := if n ≤ lim then s.tmIn + 1 else 0, tmOut := if 8 * lim < n then s.tmOut + 1 else 0 }
  match s.timeState with
  | 1 => if 16 ≤ s.tmIn then s.timeLocked else s
  | 2 => if 1000000 < n ∨ 16 ≤ s.tmOut then ({ s with tmIn := 0 }).timeUnlocked else s
  | 3 => if 1000000 < n then ({ s with tmIn := 0 }).timeUnlocked else if 16 ≤ s.tmIn ∧ s.tmLost = false then s.timeLocked else s
  | 4 => if 16 ≤ s.tmIn then s.timeLocked else s
  | _ => s

/-- One measurement (R442-R444): the first one of an acquisition steps Site Time to the source; later ones slew it, except in HOLDOVER, which keeps the
last correction. -/
def State.timeMeasure (s : State) (o : Int) : State :=
  let s := (s.setRegN (aTime 0x118) (sat32 o))
  if s.tmFirst then (({ s with tmFirst := false }).timeStep ((s.clk.now : Int) + o).toNat).timeJudge o
  else (if s.timeState = 3 then s else s.slew).timeJudge o

/-- Is the source PTP, and a domain the one of PTP_DOMAIN (R439)? -/
def State.ptpIn (s : State) (domain : Nat) : Bool := s.timeSrc == 0 && domain == s.regF (aTime 0x100) 8 8

/-- PTP_SYNC (R439, R442, R443): a Sync of the selected master, `offset` the source's time less Site Time. -/
def execPtpSync (domain now : Nat) (offset : Int) (s : State) : Host.Outcome State Fault Refusal :=
  whenB (s.ptpIn domain && s.regB (aTime 0x104) 3) s (fun s => ({ s.atTime now with tmLost := false }).timeMeasure offset)

/-- PTP_ANNOUNCE (R439, R443, R445): a master is selected; its UTC offset and leap flag (+1, -1 or 0) with the TAI instant of the coming UTC
midnight. -/
def execPtpAnnounce (domain now utcOffset : Nat) (leap : Int) (midnight : Nat) (s : State) : Host.Outcome State Fault Refusal :=
  whenB (s.ptpIn domain) s (fun s =>
    let s := ({ s.atTime now with tmLost := false }).setB (aTime 0x104) 3 true
    let s := if s.regB (aTime 0x100) 17 then s else s.setF (aTime 0x120) 0 16 utcOffset
    if leap = 0 then s
    else
      let v := ((s.regF (aTime 0x120) 0 16 : Int) + leap).toNat % 65536
      (s.setRegN (aTime 0x124) (2 ^ 31 + v)).setReg64 (aTime 0x128) (grain midnight))

/-- The second that an edge marks: the whole number of seconds nearest to the module's own count (R440; log 63). -/
def State.ppsSecond (s : State) : Nat := s.ppsMark + 1000000000 * max 1 ((s.clk.now - s.ppsMark + 500000000) / 1000000000)

/-- PPS_EDGE (R439-R443): after TIME_SET, the first edge at least 1 ms later marks the second that software named and is stepped to; each later edge
marks one more second and is a measurement. `ref10` tells whether the 10 MHz input is present; the source needs both inputs, and without it the edge
measures nothing. -/
def execPpsEdge (now : Nat) (ref10 : Bool) (s : State) : Host.Outcome State Fault Refusal :=
  .next (
    let s := { ((s.atTime now).setB (aTime 0x104) 4 true).setB (aTime 0x104) 5 ref10 with ppsLast := some (max now s.clk.now) }
    if s.timeSrc ≠ 1 then s
    else if s.tmFirst then
      match s.ppsSet with
      | some (v, t) =>
        if reached s.clk.now (t + 1000000) = false then s
        else if ref10 then ({ s with ppsMark := v, tmLost := false }).timeMeasure ((v : Int) - (s.clk.now : Int))
        else { s with ppsSet := some (v + 1000000000, t) }
      | none => s
    else if ref10 = false then s
    else
      let s := { s with tmLost := false }
      let v := s.ppsSecond
      ({ s with ppsMark := v }).timeMeasure ((v : Int) - (s.clk.now : Int)))

/-- The source is lost (R443). -/
def State.timeLost (s : State) : State :=
  let s := { s with tmLost := true, tmIn := 0 }
  if s.timeState = 2 then s.timeHoldover else s

/-- REF10_LOSS (R443): the 10 MHz input has been absent for 10 µs. -/
def execRef10Loss (now : Nat) (s : State) : Host.Outcome State Fault Refusal :=
  .next (let s := (s.atTime now).setB (aTime 0x104) 5 false
         if s.timeSrc = 1 then s.timeLost else s)

/-- SOURCE_LOST (R443): no Announce or Sync for 3 announce intervals of the master, or no PPS edge for 2 s. -/
def execSourceLost (now : Nat) (s : State) : Host.Outcome State Fault Refusal :=
  let gap := match s.ppsLast with
    | some t => !inWindow (max now s.clk.now) t 2000000000
    | none => true
  whenB (s.timeSrc == 0 || (s.timeSrc == 1 && gap)) s (fun s =>
    let s := s.atTime now
    (s.setB (aTime 0x104) (if s.timeSrc = 0 then 3 else 4) false).timeLost)

/-- HOLDOVER_TIMEOUT (R443): HOLDOVER_MAX seconds in HOLDOVER. -/
def execHoldoverTimeout (now : Nat) (s : State) : Host.Outcome State Fault Refusal :=
  whenB (s.timeState == 3 && !inWindow (max now s.clk.now) s.holdAt (s.regF (aTime 0x130) 0 17 * 1000000000)) s (fun s =>
    ({ s.atTime now with tmIn := 0 }).timeUnlocked)

/-- Acquisition begins (R440, R442). -/
def State.timeAcquire (s : State) : State :=
  (({ s with tmFirst := true, tmIn := 0, tmOut := 0, tmLost := false, ppsSet := none }).setTimeState 1).setB (aTime 0x104) 6
    (decide (s.timeSrc = 1))

/-- A write of 1 to REACQUIRE (R441, R442). -/
def State.timeReacquire (s : State) : State :=
  if s.timeSrc = 2 then s.timeStep (s.reg64 (aTime 0x110)) else s.timeAcquire

/-- SRC changes (R439, R441, R442). -/
def State.timeSource (s : State) (src : Nat) : State :=
  let s := (s.setF (aTime 0x100) 0 2 src).setB (aTime 0x104) 3 false
  if src = 2 then (({ s with tmFirst := false, tmIn := 0, tmOut := 0, ppsSet := none }).setTimeState 0).setB (aTime 0x104) 6 false
  else s.timeAcquire

/-- A write of ST_CTL (R439-R442, R456): SRC 3 is ignored, the SRC in force writes nothing; in another PTP domain no master is selected yet. -/
def State.stCtl (s : State) (v : W32) : State :=
  let src := fld v 0 2
  let s := if fld v 8 8 = s.regF (aTime 0x100) 8 8 then s else (s.setF (aTime 0x100) 8 8 (fld v 8 8)).setB (aTime 0x104) 3 false
  let s := s.setB (aTime 0x100) 17 (bitOf v 17)
  let s := if src = 3 then s.ignored clsTime 0 else if src = s.timeSrc then s else s.timeSource src
  if bitOf v 16 then s.timeReacquire else s

/-- ST_CTL_WRITE. -/
def execStCtlWrite (value : W32) (s : State) : Host.Outcome State Fault Refusal := whenB s.served s (fun s => s.stCtl value)

/-- REACQUIRE (R441, R442). -/
def execReacquire (s : State) : Host.Outcome State Fault Refusal := whenB s.served s (fun s => s.timeReacquire)

/-- TIME_SET_HI commits the value (R440, R554). -/
def State.timeSet (s : State) (hi : W32) : State :=
  let lo := look (s.reg (aTime 0x110)) s.staged (aTime 0x110)
  let s : State := { (s.setReg (aTime 0x110) lo).setReg (aTime 0x114) hi with staged := del s.staged (aTime 0x110) }
  if s.timeSrc = 1 ∧ s.tmFirst = true then ({ s with ppsSet := some (s.reg64 (aTime 0x110), s.clk.now) }).setB (aTime 0x104) 6 false
  else s

/-- TIME_SET. -/
def execTimeSet (hi : W32) (s : State) : Host.Outcome State Fault Refusal := whenB s.served s (fun s => s.timeSet hi)

/-- UTC_OFFSET_CHANGE (R445). -/
def execUtcOffsetChange (now : Nat) (s : State) : Host.Outcome State Fault Refusal := .next (s.atTime now).utcApply

/-! ### Background slots (R446-R452) -/

/-- Does a SLOT value name a class and a unit within its range (R447, R452)? -/
def slotValid (w : Nat) : Bool :=
  let u := nfld w 4 8
  match nfld w 0 4 with
  | 0 => u == 0
  | 1 => decide (u < 24)
  | 2 => decide (u < 24)
  | 3 => decide (u ≤ 64)
  | 4 => u == 0
  | _ => false

/-- APPLY (R452): the shadow as it stands is the table from the next site frame on. -/
def State.bgApply (s : State) : State :=
  let t := (List.range 125).map (fun n => (n, s.regN (aBg (0x200 + 4 * n))))
  if t.all (fun e => slotValid e.2) then ({ s with bgNext := some t }).setB (aBg 0x104) 7 true else s.ignored clsBg 0

/-- APPLY. -/
def execApply (s : State) : Host.Outcome State Fault Refusal := whenB s.served s (fun s => s.bgApply)

/-- SCRUB_CHUNK (R204): one chunk of the patrol; `corrected` errors were met. A reserved CHUNK reads nothing. -/
def State.scrubChunk (s : State) (u corrected : Nat) : State :=
  let chunk := s.regF (aStk u 0x108) 1 2
  if s.isOn clsStack u && s.regB (aStk u 0x108) 0 && decide (chunk < 3) then
    let pos := s.reg64 (aStk u 0x110) + 524288 * 2 ^ chunk
    let s := s.addSat (aStk u 0x118) corrected
    if 96 * 2 ^ 30 ≤ pos then (s.setReg64 (aStk u 0x110) 0).incWrap (aStk u 0x10C) else s.setReg64 (aStk u 0x110) pos
  else s

/-- TELEM_SAMPLE (R449): the sensors of a unit, sampled together and stamped with the slot's start. A reach gives VCORE, IOUT and TEMP of
its four pitches, then CORE_W and BALLAST_W; unit 63 the temperatures of the 24 stacks; unit 64 V_IN, I_IN and P_IN, and the
coolant's inlet temperature, outlet temperature and flow (R585). -/
def State.telemSample (s : State) (u now : Nat) (r : Readings) : State :=
  let v (i : Nat) : Nat := r.getD i 0
  let s := s.setReg64 (aBg (0x400 + 8 * u)) now
  if u < 63 then
    let s := (List.range 4).foldl (fun s k =>
      ((s.setRegN (aPt2 (4 * u + k) 0x108) (v (3 * k) % 2 ^ 11)).setRegN (aPt2 (4 * u + k) 0x10C) (v (3 * k + 1) % 2 ^ 16)).setRegN
        (aPt2 (4 * u + k) 0x114) (v (3 * k + 2) % 2 ^ 8)) s
    s.setRegN (rg clsReach u 0x304) (v 12 % 65536 + 65536 * (v 13 % 65536))
  else if u = 63 then
    ((List.range 24).filter s.fitted).foldl (fun s p => s.setRegN (aStk p 0x104) (v p % 256)) s
  else
    { ((s.setRegN (aWeir 0x114) (v 0 % 65536)).setRegN (aWeir 0x118) (v 1 % 65536)).setRegN (aWeir 0x110) (v 2 % 65536) with
      coolant := (v 3, v 4, v 5) }

/-- Interval between the starts of two reaches' rotations, in ns: WEAR_PERIOD hours over 63 (R394). -/
def State.wearGap (s : State) : Nat := s.regF 0x200 16 8 * 3600000000000 / 63

/-- WEAR_ROTATION (R394, R450): a due rotation starts in a WEAR slot while firmware runs. -/
def State.wearSlot (s : State) (now : Nat) : State :=
  if s.regB 0x200 8 && s.fwRuns && reached now s.wearDue then
    let next := s.wearDue + s.wearGap
    let s := { s with wearDue := if next ≤ now then now + s.wearGap else next, wearNext := (s.wearNext + 1) % 63 }
    s.wearStart ((s.wearNext + 62) % 63)
  else s

/-- SLOT_START (R446-R454): a slot begins, in its first grain; at slot 0 a site frame begins, and an applied shadow becomes the active table. -/
def execSlotStart (now : Nat) (r : Readings) (s : State) : Host.Outcome State Fault Refusal :=
  whenB (s.slotDue now && reached now s.clk.now) s (fun s =>
    let n := now % 1000000 / 8000
    let s := { (s.atTime now).utcApply with slotAt := some now }
    let s := if n = 0 then s.bgTake else s
    if s.regB (aBg 0x100) 1 then
      let w := look (slotReset n) s.bgTable n
      let u := nfld w 4 8
      match nfld w 0 4 with
      | 1 => s.scrubChunk u (r.getD 0 0)
      | 3 => s.telemSample u now r
      | 4 => s.wearSlot now
      | _ => s
    else s)

end Sys2Proof.Machine
end

