-- ==== Sys2Proof/Machine/Engine.lean ====
section
/-! DEFINITION. The command engine of a context (14 R465-R489): taking a command from its slot, the checks that every command passes, the
completion of short and long commands, the page's start and stop, the completion ring and its interrupt. NOP_COMMAND, CQ_HEAD_WRITE,
MSIX_MODERATION_EXPIRY, MSIX_VECTOR_UNMASK and CE_STOP_DONE. -/

namespace Sys2Proof.Machine

/-! ### The page (R468, R488) -/

/-- The stop of a command engine: it waits for the records that wait now (R488). -/
def State.ceAtStop (s : State) (c : Nat) : State :=
  let e := s.eng c
  (s.setEng c { e with stopWaits := e.waiting.length }).ceSync c

/-- Records that wait are posted where there is room, and CE_STATUS follows. -/
def State.ceDrain (s : State) (c : Nat) : State := (s.cqDrain c (s.eng c).waiting).ceSync c

/-- The page enters ON; commands are taken from now on. -/
def State.ceOn (s : State) (c : Nat) : State := (s.startDone clsCe c (fun s => s.ceAtStop c)).ceDrain c

/-- TAKEN_SEQ is 0 and every byte of the 256 slots is zero (R468). -/
def State.slotsZero (s : State) (c : Nat) : State :=
  ({ s with slotMem := memClear s.slotMem (c * 0x4000) ((c + 1) * 0x4000) }).setRegN (aCe c 0x104) 0

/-- The page enters STARTING (R468); it stays there until READY (R532) and needs no time of its own. -/
def State.ceAtStart (s : State) (c : Nat) : State :=
  let s := s.slotsZero c
  if s.stage = 4 then s.ceOn c else s.ceSync c

/-- CE_STOP_DONE: every record that waited when the stop began is posted (R488). -/
def execCeStopDone (ctx : Nat) (s : State) : Host.Outcome State Fault Refusal :=
  onUnit (decide (ctx ≤ 16)) (s.pst clsCe ctx == stStopping && (s.eng ctx).stopWaits == 0) s (fun s =>
    (s.stopDone clsCe ctx (fun s => s.ceAtStart ctx)).ceSync ctx)

/-! ### The ring and its interrupt (R474, R486) -/

/-- CQ_HEAD written: room in the ring is filled with waiting records (R474). -/
def State.cqHead (s : State) (c : Nat) (v : W32) : State := (s.setRegN (aCe c 0x114) (fld v 0 16)).ceDrain c

/-- CQ_HEAD_WRITE. -/
def execCqHeadWrite (ctx : Nat) (value : W32) (s : State) : Host.Outcome State Fault Refusal :=
  onUnit (decide (ctx ≤ 16)) s.served s (fun s => s.cqHead ctx value)

/-- MSIX_MODERATION_EXPIRY: one message for the records posted within the CQ_MOD interval (R486). -/
def execMsixModerationExpiry (ctx now : Nat) (s : State) : Host.Outcome State Fault Refusal :=
  let e := s.eng ctx
  let due : Bool := match e.lastMsi with
    | some t => !inWindow (max now s.clk.now) t (s.regF (aCe ctx 0x11C) 20 12 * 1000)
    | none => true
  onUnit (decide (ctx ≤ 16)) (e.owesMsi && due) s (fun s =>
    let s := s.atTime now
    let s := s.setEng ctx { e with owesMsi := false, lastMsi := some s.clk.now }
    s.msiSend ctx (s.regF (aCe ctx 0x11C) 0 7))

/-- Vectors of a function (R459). -/
def vecsOf (fn : Nat) : Nat := if fn = 0 then 128 else 120

/-- A pending message is sent where nothing holds it back any more (R486, R509). -/
def State.msiRetry (s : State) (fn vec : Nat) : State :=
  let key := fn * 128 + vec
  if s.msixPend.contains key then ({ s with msixPend := rem s.msixPend key }).msiSend fn vec else s

/-- A vector is unmasked: a pending message is sent (R486). -/
def State.msiUnmask (s : State) (fn vec : Nat) : State :=
  let key := fn * 128 + vec
  let (addr, data, _) := look (0, 0, true) s.msix key
  ({ s with msix := put s.msix key (addr, data, false) }).msiRetry fn vec

/-- What waited for IDE goes out where it may now (R509): completion records and pending messages of every context with IDE_REQ. -/
def State.ideWake (s : State) : State :=
  (List.range 17).foldl (fun s c =>
    if bitOf (s.reg (aPt c 0)) 4 then (List.range (vecsOf c)).foldl (fun s v => s.msiRetry c v) (s.ceDrain c) else s) s

/-- MSIX_VECTOR_UNMASK. -/
def execMsixVectorUnmask (fn vec : Nat) (s : State) : Host.Outcome State Fault Refusal :=
  onUnit (decide (fn ≤ 16) && decide (vec < vecsOf fn)) true s (fun s => s.msiUnmask fn vec)

/-! ### Taking a command (R467, R468, R477) -/

/-- The 64 bytes of a command slot. -/
def State.cmdSlot (s : State) (c k : Nat) : List Byte := readBytes s.slotMem (c * 0x4000 + 64 * k) 64

/-- The command that the engine takes next, if it stands in the watched slot (R468) and fewer than 256 records wait (R474). -/
def State.cmdReady (s : State) (c : Nat) : Option (List Byte) :=
  let seq := (s.regN (aCe c 0x104) + 1) % 2 ^ 32
  let b := s.cmdSlot c (seq % 256)
  if s.isOn clsCe c && decide ((s.eng c).held < 256) && at' b 60 4 == seq then some b else none

/-- The opcodes of R478. -/
def cmdOpcodes : List Nat :=
  [0x01, 0x02, 0x03, 0x04, 0x10, 0x11, 0x18, 0x19, 0x1A, 0x20, 0x21, 0x22, 0x23, 0x24, 0x25, 0x30, 0x31, 0x32, 0x33]

/-- Operand bytes of a command (R478): offset and length. Every other byte of 12 to 59 is reserved (log 64). -/
def cmdOperands (op : Nat) : List (Nat × Nat) :=
  match op with
  | 0x10 => [(12, 1), (16, 8)]
  | 0x11 => [(12, 1), (16, 8)]
  | 0x18 => [(12, 4), (16, 8)]
  | 0x19 => [(12, 2), (16, 8)]
  | 0x1A => [(12, 6), (24, 8)]
  | 0x20 => [(16, 12)]
  | 0x21 => [(16, 16)]
  | 0x23 => [(16, 8)]
  | 0x24 => [(12, 1), (16, 8)]
  | 0x25 => [(16, 10), (28, 24)]
  | 0x30 => [(12, 1)]
  | 0x31 => [(16, 8)]
  | 0x32 => [(12, 2)]
  | 0x33 => [(16, 12)]
  | _ => []

/-- FORMAT as far as the slot's layout decides it (R467, R477). -/
def cmdFormatOk (b : List Byte) : Bool :=
  let op := at' b 0 1
  cmdOpcodes.contains op && decide (at' b 1 1 < 2) && (at' b 1 1 == 0 || decide (0x20 ≤ op))
    && (at' b 2 2 == 0 || (decide (2 ≤ op) && decide (op ≤ 4)))
    && (List.range 48).all (fun i => (cmdOperands op).any (fun r => decide (r.1 ≤ 12 + i) && decide (12 + i < r.1 + r.2)) || at' b (12 + i) 1 == 0)

/-- The reasons that do not depend on the operands, in order (R461, R477); 0 where there is none. -/
def State.cmdReason (s : State) (c : Nat) (b : List Byte) : Nat :=
  let op := at' b 0 1
  if cmdFormatOk b = false then 1
  else if 0x30 ≤ op ∧ c ≠ 0 then 2
  else if at' b 1 1 = 1 ∧ grain (at' b 4 8) ≤ grain s.clk.now then 9
  else if 0x20 ≤ op ∧ 32 ≤ (s.eng c).ops.length then 5
  else 0

/-- TAKEN_SEQ moves on as a command is taken. -/
def State.cmdTake (s : State) (c : Nat) (b : List Byte) : State := s.setRegN (aCe c 0x104) (at' b 60 4)

/-- The DONE record of a short command (R472, R473). -/
def State.cmdDone (s : State) (c : Nat) (b : List Byte) (code progress : Nat) (result : List Byte) : State :=
  s.post c { seq := at' b 60 4, code, opcode := at' b 0 1, kind := 0, handle := 0, progress, result }

/-- A command is rejected (R477). -/
def State.cmdReject (s : State) (c : Nat) (b : List Byte) (reason : Nat) : State :=
  (s.incSat (aCe c 0x134)).cmdDone c b cMalformed reason []

/-- Must a command wait for IDE: it reads or writes host memory as it is taken, and its context may send no request now (R509; log 66)? -/
def State.ideWaits (s : State) (c op : Nat) (b : List Byte) : Bool := [0x10, 0x11, 0x18, 0x1A, 0x23].contains op &&
  !(if op = 0x10 then s.ideOk c (at' b 16 8) 4917 else if op = 0x11 then s.ideOk c (at' b 16 8) 1664
    else if op = 0x18 then s.ideOk c (at' b 16 8) (4 * at' b 14 2) else if op = 0x1A then s.ideOk c (at' b 24 8) (2 * at' b 16 2)
    else s.ideOk c (at' b 16 8) 2048)

/-- A command's row: it takes effect where its opcode stands in the slot that the engine takes. -/
def cmdRow (ctx op : Nat) (s : State) (f : List Byte → State → State) : Host.Outcome State Fault Refusal :=
  match s.cmdReady ctx with
  | none => onUnit (decide (ctx ≤ 16)) false s id
  | some b =>
    onUnit (decide (ctx ≤ 16)) (at' b 0 1 == op && !s.ideWaits ctx op b) s (fun s =>
      let s := s.cmdTake ctx b
      let r := s.cmdReason ctx b
      if r = 0 then f b s else s.cmdReject ctx b r)

/-- A short command: `chk` gives the reason of a rejection, `act` its code, RESULT and effect. -/
def shortCmd (ctx op : Nat) (s : State) (chk : List Byte → State → Nat) (act : List Byte → State → Nat × List Byte × State) :
    Host.Outcome State Fault Refusal :=
  cmdRow ctx op s (fun b s =>
    let r := chk b s
    if r = 0 then
      let (code, result, s) := act b s
      s.cmdDone ctx b code 0 result
    else s.cmdReject ctx b r)

/-- The first free handle from `h` on (R481). -/
def freeHandle (used : List Nat) : Nat → Nat → Nat
  | 0, h => h
  | f + 1, h => if used.contains h then freeHandle used f (h % 65535 + 1) else h

/-- A long operation opens with its ACCEPTED record (R473, R481). -/
def State.openLong (s : State) (c : Nat) (b : List Byte) (mark : Nat) (units : List Nat) : Nat × State :=
  let e := s.eng c
  let h := freeHandle (e.ops.map (·.handle)) 33 (e.lastHandle % 65535 + 1)
  let o : LongOp :=
    { handle := h, opcode := at' b 0 1, seq := at' b 60 4, state := 0, deadline := if at' b 1 1 = 1 then some (at' b 4 8) else none,
      byDeadline := false, cmd := b, reportAt := s.clk.now, progress := 0, started := false, mark, units }
  let s := s.setEng c { e with ops := e.ops ++ [o], lastHandle := h }
  (h, s.post c { seq := o.seq, code := 0, opcode := o.opcode, kind := 1, handle := h, progress := 0, result := [] })

/-- A long command: `chk` gives the reason of a rejection, `mk` the operation's mark and units, `act` what its acceptance does. -/
def longCmd (ctx op : Nat) (s : State) (chk : List Byte → State → Nat) (mk : List Byte → State → Nat × List Nat)
    (act : List Byte → Nat → State → State) : Host.Outcome State Fault Refusal :=
  cmdRow ctx op s (fun b s =>
    let r := chk b s
    if r = 0 then
      let (mark, units) := mk b s
      let (h, s) := s.openLong ctx b mark units
      act b h s
    else s.cmdReject ctx b r)

/-- NOP_COMMAND (R478); a slot whose opcode is undefined is taken by this row too, and rejected (R477). -/
def execNopCommand (ctx : Nat) (s : State) : Host.Outcome State Fault Refusal :=
  match s.cmdReady ctx with
  | none => onUnit (decide (ctx ≤ 16)) false s id
  | some b => shortCmd ctx (if cmdOpcodes.contains (at' b 0 1) then 0x01 else at' b 0 1) s (fun _ _ => 0) (fun _ s => (0, [], s))

end Sys2Proof.Machine
end

