-- ==== Sys2Proof/Machine/Boot.lean ====
section
/-! DEFINITION. The Warden's start (15 R491-R503, R510-R514, 16 R519-R521, R525-R534): firmware images and fuses, the boot ROM, the
Protection Table, resets and what survives them. -/

namespace Sys2Proof.Machine

abbrev aSec (off : Nat) : Nat := rg clsSec 0 off
abbrev aMb (off : Nat) : Nat := rg clsMbox 0 off

/-! ### Fuses and life cycle (R495, R510, R511) -/

/-- LC_STATE: 0 BLANK, 1 PROVISIONED, 2 DEPLOYED, 3 RETURNED, 4 RETIRED. -/
def State.lcState (s : State) : Nat := s.regF (aSec 0x100) 0 3
/-- LC_COUNT, the transition fuses burnt. -/
def State.lcCount (s : State) : Nat := s.regF (aSec 0x100) 3 5
/-- The state that a count of burnt fuses gives (R511). -/
def lcOf (n : Nat) : Nat := if n = 0 then 0 else if n = 1 then 1 else if n % 2 = 0 then 2 else 3
/-- The bytes of DEVICE_ID. -/
def State.deviceId (s : State) : List Byte := (List.range 8).flatMap (fun i => leBytes 4 (s.regN (aSec (0x120 + 4 * i))))
/-- MIN_SVN. -/
def State.minSvn (s : State) : Nat := s.regF (aSec 0x108) 8 6
/-- Is a key slot programmed and not revoked? -/
def State.slotGood (s : State) (k : Nat) : Bool := s.regB (aSec 0x108) k && !s.regB (aSec 0x108) (4 + k)

/-! ### Firmware images (R496-R498) -/

/-- D of an image. -/
def imgD (b : List Byte) : List Byte := shake256 (b.take 0x7C0 ++ b.drop 0x1500)
/-- PUBKEY. -/
def imgKey (b : List Byte) : List Byte := (b.drop 0x20).take 1952
/-- SIGNATURE. -/
def imgSig (b : List Byte) : List Byte := (b.drop 0x7C0).take 3309

/-- Check 1 of R497. -/
def imgHeadOk (b : List Byte) : Bool :=
  at' b 0 4 == 0x4657335A && at' b 0xC 4 == b.length && decide (0x1500 ≤ b.length) && decide (b.length ≤ 32 * 2 ^ 20) && decide (at' b 8 1 < 64)
    && decide (at' b 9 1 < 4) && decide (at' b 0xA 1 < 16) && decide (at' b 0xB 1 < 2) && zeros b 0x10 16 && zeros b 0x14AD 83

/-- The checks of R497, in a BLANK module on images of slot 0 only (R510); none in a RETIRED one. -/
def State.fwCheck (s : State) (b : List Byte) (path : Nat) : Option BootImg :=
  let k := at' b 9 1
  if imgHeadOk b && s.slotGood k && shake256 (imgKey b) == shake256 (Config.slotKey k) && decide (s.minSvn ≤ at' b 8 1)
      && Config.mldsaVerify (imgKey b) (imgD b) (imgSig b) && !(at' b 0xA 1).testBit k && (s.lcState != 0 || k == 0) && s.lcState != 4 then
    some { version := at' b 4 4, slot := k, svn := at' b 8 1, path, digest := imgD b }
  else none

/-- The fuses that an image burns before it starts (R498). -/
def State.burnFor (s : State) (b : List Byte) : State :=
  let s := s.setF (aSec 0x108) 4 4 (s.regF (aSec 0x108) 4 4 ||| at' b 0xA 1 % 16)
  if at' b 0xB 1 % 2 = 1 then s.setF (aSec 0x108) 8 6 (max s.minSvn (at' b 8 1)) else s

/-! ### The boot ROM (R497-R502, R513) -/

/-- IMAGE_WAIT (R570). -/
def State.setWait (s : State) (b : Bool) : State := s.setB (aMb 0x104) 3 b
/-- START_STAGE set (R528). -/
def State.setStage (s : State) (v : Nat) : State := s.setF 0x108 0 3 v
/-- BOOT_SRC as latched. -/
def State.bootSrc (s : State) : Nat := s.regF 0x104 0 2

/-- An image has passed its checks: its fuses are burnt, and firmware starts from it. -/
def State.bootTake (s : State) (b : List Byte) (i : BootImg) : State := { (s.burnFor b).setWait false with boot := some i, fetching := false }

/-- A fetch begins (R499). -/
def State.bootFetch (s : State) (pcie : Bool) : State := { s.setWait pcie with fetching := true, fetchAt := s.clk.now, boot := none }

/-- An interrupted transition is completed (R513 steps 4 and 5). -/
def State.lcFinish (s : State) : State :=
  if s.wipedN = s.lcCount ∧ (s.lcState ≠ 4 ∨ s.identity = none) then s
  else { s with ptRecord := [], ownerChain := [], mgmt := [], identity := if s.lcState = 4 then none else s.identity, wipedN := s.lcCount }

/-- A boot ROM start (R497, R499, R502, R526): `update` tells that it is the one of FW_UPDATE, which starts the flash image (R500). -/
def State.bootRom (s : State) (update : Bool) : State :=
  let s := (s.setB (aMb 0x104) 2 false).lcFinish
  if s.lcState = 4 then s.setStage 5
  else if update = false ∧ s.bootSrc = 3 then s.setStage 5
  else if update = false ∧ s.bootSrc = 1 then s.bootFetch true
  else if update = false ∧ s.bootSrc = 2 then s.bootFetch false
  else
    match s.fwCheck s.fwFlash 0 with
    | some i => if s.fwFail then s.bootFetch true else s.bootTake s.fwFlash i
    | none => s.bootFetch true

/-- A fetched image that passes is written to flash and then started (R499). -/
def State.bootFetched (s : State) (b : List Byte) (i : BootImg) : State := ({ s with fwFlash := b, fwFail := false, restarts := [] }).bootTake b i

/-! ### The mailbox (R570-R572) -/

/-- The request's opcode, if one is in progress; `mbReq` holds the opcode, MB_ADDR, MB_LEN and MB_ARG as they stood at GO. -/
def State.mbRequest (s : State) : Option Nat := if s.regB (aMb 0x104) 0 then s.mbReq[0]? else none
/-- A request ends. -/
def State.mbEnd (s : State) (code result : Nat) : State :=
  ((((s.setB (aMb 0x104) 0 false).setB (aMb 0x104) 1 true).setF (aMb 0x104) 16 16 code).setRegN (aMb 0x118) result).incWrap (aMb 0x11C)
/-- MB_ADDR of the request. -/
def State.mbAddr (s : State) : Nat := s.mbReq.getD 1 0
/-- MB_LEN of the request. -/
def State.mbLen (s : State) : Nat := s.mbReq.getD 2 0
/-- MB_ARG of the request. -/
def State.mbArg (s : State) : Nat := s.mbReq.getD 3 0

/-! ### Warden restarts (R500-R503, R522) -/

/-- Firmware that runs goes away: the Weir holds its set point (R428), and four restarts of one image within 60 s make it a failed image (R502). -/
def State.fwGone (s : State) : State :=
  let times := s.clk.now :: s.restarts.filter (fun t => inWindow s.clk.now t 60000000000)
  ({ s with fwUp := false, wardenGone := some s.clk.now, restarts := times, fwFail := s.fwFail || decide (4 ≤ times.length) }).setF (aWeir 0x104) 0 2 1

/-- The Warden starts again from the boot ROM: a mailbox request in progress ends (R572), and the restart is counted. -/
def State.wardenDown (s : State) (update : Bool) : State :=
  let s := { if s.fwUp then s.fwGone else s with boot := none }
  let s := s.setF (aSec 0x10C) 12 4 (min 15 (s.regF (aSec 0x10C) 12 4 + 1))
  let s := if s.mbRequest.isSome then { s.mbEnd cCancelled 0 with lcPend := none } else s
  s.bootRom update

/-! ### The Protection Table (R491-R494) -/

/-- Byte address of entry c in a partition record. -/
def ptAt (c : Nat) : Nat := 32 + 32 * c
/-- ENABLED of an entry of a record. -/
def ptEnabled (r : List Byte) (c : Nat) : Bool := at' r (ptAt c) 1 % 2 == 1
/-- WIN_BASE and WIN_SIZE of an entry. -/
def ptWin (r : List Byte) (c : Nat) : Nat × Nat := (at' r (ptAt c + 8) 8, at' r (ptAt c + 16) 8)

/-- Is an entry well formed (R492, R494)? The multiples of 64 KiB and the size bind an ENABLED entry (log 133). -/
def ptEntryOk (r : List Byte) (c : Nat) : Bool :=
  let (b, n) := ptWin r c
  decide (at' r (ptAt c) 4 < 32) && zeros r (ptAt c + 24) 8
    && decide (b + n ≤ 96 * 2 ^ 30) && (!ptEnabled r c || (isMul b 65536 && isMul n 65536 && n != 0))

/-- A partition record that boot code and PARTITION_WRITE accept (R491, R494). -/
def ptRecordOk (r : List Byte) : Bool :=
  let on := (List.range 17).filter (ptEnabled r)
  r.length == 608 && at' r 0 4 == 0x5054335A && at' r 4 4 == 17 && zeros r 8 24 && r.drop 576 == shake256 (r.take 576)
    && ptEnabled r 0 && (List.range 17).all (ptEntryOk r)
    && on.all (fun a => on.all (fun b => decide (b ≤ a) || !overlaps (ptWin r a).1 (ptWin r a).2 (ptWin r b).1 (ptWin r b).2))

/-- The default table: context 0 with every permission over [0, 96 GiB) (R494). -/
def ptDefault : List Byte := List.replicate 32 0 ++ leBytes 4 0xF ++ leBytes 4 0xFFFFFFFF ++ leBytes 8 0 ++ leBytes 8 (96 * 2 ^ 30)

/-- The table built from a record and locked. -/
def State.ptBuild (s : State) : State :=
  let good := ptRecordOk s.ptRecord
  let r := if good then s.ptRecord else ptDefault
  let s := (List.range 136).foldl (fun s w => s.setRegN (aSec (0x400 + 4 * w)) (at' r (32 + 4 * w) 4)) s
  let s := (s.setB (aSec 0x100) 8 true).setB (aSec 0x100) 9 (!good)
  if good then s else s.cairnLog 4 clsSec 0 0 noCtx []

/-! ### Straps (R519, R520, R430) -/

/-- The reset values that the latched straps set. -/
def State.applyStraps (s : State) : State :=
  let v := s.regN 0x104
  let f := nfld v 2 1
  let s := s.setF 0x200 0 1 f
  let s := { s with rcvs := (List.range 17).map (fun c => (c, { Rcv.init with profile := f })) }
  let s := s.setF (rg clsRank 0 0x100) 24 2 (nfld v 3 2 % 3)
  let src := min 2 (nfld v 7 2)
  let s := s.setF (aTime 0x100) 0 2 src
  let s := s.setTimeState (if src = 2 then 0 else 1)
  let (ramp, step, floor, delay, period, valid) := envelopeClass (nfld v 9 3)
  let s := (((((s.setRegN (aWeir 0x124) ramp).setRegN (aWeir 0x128) ramp).setRegN (aWeir 0x12C) step).setRegN (aWeir 0x130) floor).setRegN
    (aWeir 0x138) delay).setRegN (aWeir 0x13C) period
  let s := (s.setB (aWeir 0x100) 0 (valid == 1)).setF (aWeir 0x104) 16 3 (nfld v 9 3)
  { s with weirUp := step * 1000, weirDown := step * 1000, tmFirst := src != 2 }

/-! ### The Core Map Table at start-up (R399-R402, R530, R531) -/

/-- The counts that the table determines: every entry that is not PRESENT, and every segment without a spare. -/
def State.cmtCounts (s : State) : State :=
  let l := s.cmtNow.map (fun e => ((e.1 - 0x1000000) / 4, e.2))
  let gone := l.filter (fun e => fld e.2 4 3 != 0)
  let s := (List.range 63).foldl (fun s r =>
    let mine := gone.filter (fun e => reachOf (rcol e.1) (rrow e.1) == r)
    let bad := countIf (fun (e : Nat × W32) => reachOf (rcol e.1) (rrow e.1) == r && rcol e.1 % 15 == 0 && !bitOf e.2 7) l
    let s := (s.setF (rg clsReach r 0x100) 0 14 mine.length).setF (rg clsReach r 0x100) 16 10 (960 - bad)
    mine.foldl (fun s e =>
      let a := rg clsReach r (0x120 + 4 * (rrow e.1 % 120))
      s.setF a (4 * segOf (rcol e.1)) 4 (s.regF a (4 * segOf (rcol e.1)) 4 + 1)) s) s
  (s.setF 0x204 0 20 gone.length).setRegN 0x10C (907200 - gone.length)

/-- The window's entries replaced. -/
def State.cmtPut (s : State) (t : AMap W32) : State := { s with regs := s.regs.filter (fun e => decide (e.1 < 0x1000000)) ++ t }

/-- The provisional table of R531: every position PRESENT, IDLE 15, SEG_SPARE 1, WALK_DIR 0. -/
def cmtProvisional : AMap W32 := (List.range 907200).map (fun k => (0x1000000 + 4 * k, BitVec.ofNat 32 (k % 1080 % 15 + 0xF80)))

/-- The valid flash copy with the higher generation. -/
def State.cmtCopy (s : State) : Option CmtCopy :=
  if s.cmtA.ok && (!s.cmtB.ok || decide (s.cmtB.gen ≤ s.cmtA.gen)) then some s.cmtA else if s.cmtB.ok then some s.cmtB else none

/-- Does the newest flash copy hold the table as it stands? -/
def State.cmtStored (s : State) : Bool := !s.cmtFresh && (match s.cmtCopy with
  | some x => x.table == s.cmtNow
  | none => false)

/-! ### Resets (R515, R521, R533) -/

/-- Registers of `old` carried into a state, by address and mask; the other bits hold their reset value. -/
def carryRegs (old : State) (l : List (Nat × Nat)) (new : State) : State :=
  l.foldl (fun n e => match look? old.regs e.1 with
    | some v => n.setReg e.1 ((v &&& BitVec.ofNat 32 e.2) ||| (resetReg e.1 &&& ~~~(BitVec.ofNat 32 e.2)))
    | none => n) new

abbrev allBits : Nat := 0xFFFFFFFF

/-- What every reset keeps, whatever its kind: fuses, per-module values and the counts of the Cairn flash region (R495, R511, R550, R568), the
e-fuses (R416), the stacks' properties and what the cages hold (R577). -/
def fixedRegs : List (Nat × Nat) :=
  [(0x100, allBits), (0x120, allBits), (0x124, allBits), (aSec 0x100, 0xFF), (aSec 0x108, allBits),
   (aCairn 0x124, allBits), (aCairn 0x12C, allBits)]
    ++ (List.range 8).map (fun i => (aSec (0x120 + 4 * i), allBits)) ++ (List.range 8).map (fun i => (aCairn (0x150 + 4 * i), allBits))
    ++ (List.range 252).map (fun p => (aPt2 p 0x104, 2)) ++ (List.range 24).map (fun p => (aStk p 0x100, 0xFFFFFFF0))
    ++ (List.range 32).map (fun p => (aPort p 0x104, 2))

/-- What outlives every reset: flash, the outside world, the straps' pins, the model's own counters. -/
def State.survivors (s : State) : State :=
  { State.reset with
    pending := s.pending, host := s.host, out := s.out, freeCtr := s.freeCtr, nextXid := s.nextXid, strapPins := s.strapPins,
    perstLow := s.perstLow, fwFlash := s.fwFlash, wipedN := s.wipedN, ptRecord := s.ptRecord, ownerChain := s.ownerChain, identity := s.identity, mgmt := s.mgmt,
    cmtA := s.cmtA, cmtB := s.cmtB, cmtFresh := s.cmtFresh, fwFail := s.fwFail,
    cairn := { buf := [], flash := s.cairn.flash, retired := s.cairn.retired, ceiling := s.cairn.ceiling, flushing := false, reading := none } }

/-- A power-on reset (R521): everything else returns to its reset value. -/
def State.powerOn (s : State) : State := (carryRegs s fixedRegs s.survivors).populate s.part

/-- The Cairn engine at a power-on: NEXT_SEQ starts at the ceiling, which is raised, and a record says so (R543). -/
def State.cairnStart (s : State) : State :=
  let n := s.cairn.ceiling
  let s := { s with cairn := { s.cairn with ceiling := n + 0x100000 } }
  ((s.setReg64 (aCairn 0x108) n).setReg64 (aCairn 0x118) (n - 1)).cairnLog 3 clsCairn 0 0 noCtx [itSeq (n + 0x100000)]

/-- Registers of pitches, stacks, the Cairn, the host link and the latched straps that a warm reset keeps as well (R521, R543). -/
def warmRegs : List (Nat × Nat) :=
  [(0x104, 0xFFFF), (0x108, 0xFFFFFFFF), (rg clsPcie 0 0x100, 0x3F), (aCairn 0x108, allBits), (aCairn 0x10C, allBits), (aCairn 0x118, allBits),
   (aCairn 0x11C, allBits)]
    ++ (List.range 252).flatMap (fun p => [(aPt2 p 0x00C, 0x3F), (aPt2 p 0x024, allBits), (aPt2 p 0x104, allBits), (aPt2 p 0x110, allBits)])
    ++ (List.range 24).flatMap (fun p => [(aStk p 0x00C, 7), (aStk p 0x100, allBits), (aStk p 0x120, allBits)])

/-- Is an address in a page that a warm reset keeps whole: WEIR, SITE_TIME or BACKGROUND? -/
def warmPage (a : Nat) : Bool := a / 0x1000 == 0x500 || a / 0x1000 == 0x600 || a / 0x1000 == 0x601

/-- A warm reset as far as the state goes (R521): `kind` is 1 by request, 2 by a life-cycle transition. The memory wipe is part of it (R515). -/
def State.warmClear (s : State) (kind : Nat) : State :=
  let n : State := { s.survivors with
    clk := s.clk, cairn := { s.cairn with reading := none, flushing := true }, inputStage := s.inputStage, stageAt := s.stageAt, vinMv := s.vinMv,
    diodeOpen := s.diodeOpen, weirS := s.weirS, weirSet := s.weirSet, weirUp := s.weirUp, weirDown := s.weirDown, weirRest := s.weirRest,
    weirBelow := s.weirBelow, weirPend := s.weirPend, weirAt := s.weirAt, weirNj := s.weirNj, ballNj := s.ballNj, weirAct := s.weirAct,
    weirDrawn := s.weirDrawn, startPend := s.startPend,
    weirCut := s.weirCut, weirSkip := s.weirSkip, weirFrom := s.weirFrom, leveeStart := s.leveeStart, pitchWait := s.pitchWait, pitchRun := s.pitchRun, railTest := s.railTest,
    unpowered := s.unpowered, hotPitches := s.hotPitches, isoKept := s.isoKept, isoPend := s.isoPend, tmFirst := s.tmFirst, tmIn := s.tmIn,
    tmOut := s.tmOut, tmLost := s.tmLost, holdAt := s.holdAt, ppsLast := s.ppsLast, ppsMark := s.ppsMark, ppsSet := s.ppsSet,
    bgTable := s.bgTable, bgNext := s.bgNext, slotAt := s.slotAt, coreTest := s.coreTest, wardenGone := some s.clk.now }
  let n := { n with regs := s.regs.filter (fun e => warmPage e.1) }
  let n := ((carryRegs s warmRegs (carryRegs s fixedRegs n)).populate s.part).setB (aWeir 0x100) 1 false
  let n := (n.setStage 0).setF 0x108 4 2 kind
  let n := (n.setF 0x108 8 8 (min 255 (n.regF 0x108 8 8 + 1))).setF (aWeir 0x104) 0 2 1
  let n := (List.range 252).foldl State.pitchSync n
  let f := n.regF 0x104 2 1
  ({ n with rcvs := (List.range 17).map (fun c => (c, { Rcv.init with profile := f })) }.setF 0x200 0 1 f).setF (rg clsRank 0 0x100) 24 2 (nfld (n.regN 0x104) 3 2 % 3)

/-- Step 1 of a warm reset (R533): command engines, long operations and issue stop; links and ports are stopped. -/
def State.warmBegin (s : State) (kind : Nat) : State :=
  let s := { s with warmAt := some s.clk.now, warmHeld := none, ce := [], rills := [], seqrs := [] }
  let s := (List.range 17).foldl (fun s c => s.setPst clsCe c stOff) s
  let s := (List.range 76).foldl (fun s l => s.stopReqOn clsLink l (fun s => s.linkAtStop l)) s
  let s := (List.range 32).foldl (fun s p => s.stopReqOn clsPort p (fun s => s.portAtStop p)) s
  (s.setStage 0).setF 0x108 4 2 kind

end Sys2Proof.Machine
end

