-- ==== Sys2Proof/Machine/Startup.lean ====
section
/-! DEFINITION. Power-up, power fail, resets, Warden restarts and the mailbox (12 R403-R405, 15 R497-R513, 16 R519-R537, 17 R545, 18 R570-R572):
INPUT_STAGE_CLOSE, POWER_CHIPLET_ENABLE, POWER_FAIL, WARM_RESET, WARM_RESET_BOOT, WARDEN_RESTART, WARDEN_CORE_TAKEOVER,
STANDBY_CORE_TEST_DONE, RECOVERY_FETCH_RETRY, RECOVERY_FETCH_DONE, RECOVERY_IMAGE, PARTITION_WRITE, PARTITION_READ, LIFECYCLE, FIRMWARE_START,
STARTUP_TEST_DONE, READY, CAIRN_FLUSH_DONE, PERST_N_RELEASE and PCIE_LINK_UP. -/

namespace Sys2Proof.Machine

/-! ### The input stage (R403-R405, R526 steps 1 and 2) -/

/-- INPUT_STAGE_CLOSE: 50.0 to 60.0 V held for 10 ms with the stage open; a power-on reset begins (R403, R521, R537). -/
def execInputStageClose (now mv : Nat) (s : State) : Host.Outcome State Fault Refusal :=
  whenB (s.inputStage == 0 && decide (50000 ≤ mv) && decide (mv ≤ 60000)) s (fun s =>
    let s := (s.atTime now).powerOn
    { s with inputStage := 1, vinMv := mv, weirFrom := s.clk.now })

/-- POWER_CHIPLET_ENABLE: the capacitance is within 1.0 V of the input (R405). The 6 V bus is good, retention holds the rails (R409), the straps are latched (R520), the Cairn
starts (R543) and the boot ROM runs (R526). -/
def execPowerChipletEnable (now capMv : Nat) (s : State) : Host.Outcome State Fault Refusal :=
  whenB (s.inputStage == 1 && decide (s.vinMv ≤ capMv + 1000)) s (fun s =>
    let s := s.atTime now
    let s := ({ s with inputStage := 2, stageAt := s.clk.now }).setRegN 0x104 (s.strapPins % 65536)
    ((List.range 252).foldl State.retSync s.applyStraps).cairnStart.bootRom false)

/-- Does an input voltage that lasted so many ns mean power fail (R403)? -/
def failVolts (mv lasted : Nat) : Bool := (decide (mv < 45000) && decide (20000 ≤ lasted)) || (decide (61500 < mv) && decide (100000 ≤ lasted))

/-- What a power fail leaves (R536 steps 2 to 4): the Warden, its flash and the Cairn path; everything else is powered down. Where an update
was writing flash, it holds no valid image (R501; log 67). -/
def State.powerDown (s : State) : State :=
  let page (a : Nat) : Bool := a / 0x1000 == 0 || a / 0x1000 == 0x500 || a / 0x1000 == 0x600 || a / 0x1000 == 0x700 || a / 0x1000 == 0x800 || decide (0x1000000 ≤ a)
  let n : State := { s.survivors with
    clk := s.clk, cairn := { s.cairn with reading := none }, fwFlash := s.fwFlash, vinMv := s.vinMv, diodeOpen := s.diodeOpen }
  (carryRegs s fixedRegs { n with regs := s.regs.filter (fun e => page e.1) }).populate s.part

/-- POWER_FAIL (R403, R404, R433, R536): while the stage only charges, nothing is powered and it opens again. -/
def execPowerFail (now mv lasted : Nat) (s : State) : Host.Outcome State Fault Refusal :=
  whenB ((s.inputStage == 1 || s.inputStage == 2) && failVolts mv lasted) s (fun s =>
    let s := s.atTime now
    if s.inputStage = 1 then { s with inputStage := 0, vinMv := mv }
    else
      let was := s.stage
      let s := (s.setStage 6).weirLimit
      let items := [itElec (s.regF (aWeir 0x114) 0 16) (s.regF (aWeir 0x118) 0 16) (s.regF (aWeir 0x110) 0 16) was]
      let s := (s.cairnLog 6 clsWeir 0 0 noCtx items).powerDown
      let s := ((s.setB (aMb 0x104) 0 false).setB (aWeir 0x104) 3 false).setF (aWeir 0x104) 8 3 3
      ({ s with inputStage := 3, vinMv := mv, fwUp := true, cairn := { s.cairn with flushing := true } }).cairnSync)

/-! ### Resets (R521, R533, R534) -/

/-- Does a warm reset run: since it was taken, until READY (R533)? -/
def State.warmRuns (s : State) : Bool := s.warmAt.isSome || (s.regF 0x108 4 2 != 0 && decide (s.stage < 4))

/-- A warm reset is asked for: held before READY, discarded while one is held or runs; the reset of a transition out of HALTED is performed at
once (R530, R534). -/
def State.warmRequest (s : State) (kind : Nat) : State :=
  if s.warmHeld.isSome ∨ s.warmRuns then s
  else if s.stage = 4 ∨ (kind = 2 ∧ s.stage = 5) then s.warmBegin kind
  else { s with warmHeld := some kind }

/-- WARM_RESET_BOOT: 1 ms after the reset began, the Cairn is flushed and the Warden performs a boot ROM start (R533 step 2). -/
def execWarmResetBoot (now : Nat) (s : State) : Host.Outcome State Fault Refusal :=
  whenSome s.warmAt s (fun t s =>
    if inWindow (max now s.clk.now) t 1000000 = false ∧ s.inputStage = 2 then (((s.atTime now).warmClear (s.regF 0x108 4 2)).cairnSync).bootRom false else s)

/-! ### Mailbox requests (R571) -/

/-- A request's row: it takes effect while that request is in progress; a request with a buffer in host memory waits for the IDE that context 0
needs (R509). -/
def mbRow (op : Nat) (s : State) (f : State → State) : Host.Outcome State Fault Refusal :=
  whenB (s.mbRequest == some op && (op == 5 || s.mbLen == 0 || s.ideOk 0 s.mbAddr s.mbLen)) s f

/-- Does firmware serve the mailbox? -/
def State.mbFw (s : State) : Bool := s.fwUp && s.inputStage == 2

/-- RECOVERY_IMAGE (R499, R571). -/
def execRecoveryImage (s : State) : Host.Outcome State Fault Refusal :=
  mbRow 1 s (fun s =>
    if s.fetching && s.regB (aMb 0x104) 3 && decide (s.mbLen ≤ 32 * 2 ^ 20) then
      let b := readBytes s.host s.mbAddr s.mbLen
      match s.fwCheck b 1 with
      | some i => (s.mbEnd 0 0).bootFetched b i
      | none => s.mbEnd cAuthFail 0
    else s.mbEnd cMalformed 0)

/-- PARTITION_WRITE (R491, R571). -/
def execPartitionWrite (s : State) : Host.Outcome State Fault Refusal :=
  mbRow 2 s (fun s =>
    let r := readBytes s.host s.mbAddr 608
    if s.mbFw && s.stage != 5 && s.mbLen == 608 && ptRecordOk r then ({ s with ptRecord := r }).mbEnd 0 0 else s.mbEnd cMalformed 0)

/-- PARTITION_READ (R571). -/
def execPartitionRead (s : State) : Host.Outcome State Fault Refusal :=
  mbRow 3 s (fun s =>
    if s.mbFw && s.mbLen == 608 then
      (if s.ptRecord.isEmpty then s.mbEnd 0 0 else ({ s with host := writeBytes s.host s.mbAddr s.ptRecord }).mbEnd 0 608)
    else s.mbEnd cMalformed 0)

/-- Is a transition allowed, and does it need a token (R512)? In HALTED, R530 allows fewer. -/
def State.lcAllowed (s : State) (t : Nat) : Option Bool :=
  let f := s.lcState
  let halted := s.stage == 5
  if f = 0 ∧ t = 1 ∧ halted = false then some true
  else if f = 1 ∧ t = 2 then some false
  else if f = 2 ∧ t = 3 ∧ s.lcCount < 20 then some false
  else if f = 3 ∧ t = 2 ∧ halted = false then some true
  else if t = 4 ∧ (f = 1 ∨ f = 2 ∨ (f = 3 ∧ halted = false)) then some false
  else none

/-- What a life-cycle token signs (R512; log 6): the digest of MAGIC, DEVICE_ID, n and the target state. -/
def State.tokenDigest (s : State) (t : Nat) : List Byte := shake256 (leBytes 4 0x4C54335A ++ s.deviceId ++ Config.tokenTail s.lcCount t)

/-- Is a token a signature by a key in an unrevoked slot (R512)? -/
def State.tokenOk (s : State) (t : Nat) (token : List Byte) : Bool :=
  (List.range 4).any (fun k => s.slotGood k && Config.mldsaVerify (Config.slotKey k) (s.tokenDigest t) token)

/-- LIFECYCLE (R512, R513, R571): step 1 ends with the flush of the Cairn buffer. -/
def execLifecycle (s : State) : Host.Outcome State Fault Refusal :=
  mbRow 4 s (fun s =>
    let t := s.mbArg % 8
    if s.lcPend.isSome then s
    else match if s.mbFw && (s.mbLen == 0 || s.mbLen == 3309) then s.lcAllowed t else none with
      | none => s.mbEnd cMalformed 0
      | some needs =>
        if needs && s.mbLen == 0 then s.mbEnd cMalformed 0
        else if needs && !s.tokenOk t (readBytes s.host s.mbAddr 3309) then s.mbEnd cAuthFail 0
        else
          let s := s.cairnLog 5 clsSec 0 cLifecycleWipe noCtx []
          ({ s with lcPend := some t, cairn := { s.cairn with flushing := true } }).cairnSync)

/-- WARM_RESET (R533, R534, R571). -/
def execWarmReset (s : State) : Host.Outcome State Fault Refusal :=
  mbRow 5 s (fun s => if s.mbFw && s.stage != 5 then (s.mbEnd 0 0).warmRequest 1 else s.mbEnd cMalformed 0)

/-! ### The Cairn's flush (R545, R547) -/

/-- The flash region after a placement, which is counted. -/
def State.flashSet (s : State) (c : List CairnRec × Placed) (sev : Nat) : State :=
  ({ s with cairn := { s.cairn with flash := c.1 } }).cairnCount c.2 0x12C 0x150 sev

/-- A copy written to flash (R544): where its cell fails the write check, FLASH_FAIL is set, the cell is retired and the copy is placed in another
(R551). -/
def State.flashPut (s : State) (r : CairnRec) (bad : Bool) : State :=
  let c := place s.cairn.flashCap s.cairn.flash r
  let s := s.flashSet c r.sev
  if bad && c.2 != .dropped then
    let s := ({ s with cairn := { s.cairn with retired := s.cairn.retired + 1 } }).setB (aCairn 0x104) 3 true
    s.flashSet (place s.cairn.flashCap (s.cairn.flash.filter (fun x => x.seq != r.seq)) r) r.sev
  else s

/-- Every buffer record above FLUSHED_SEQ copied to flash in order (R544, R545); `bad` names the copies whose cell fails its write check. -/
def State.flushAll (s : State) (bad : List Nat) : State :=
  let todo := s.cairn.buf.filter (fun r => decide (s.reg64 (aCairn 0x118) < r.seq))
  let s := todo.foldl (fun s r => (s.flashPut r (bad.contains r.seq)).setReg64 (aCairn 0x118) r.seq) s
  ({ s with cairn := { s.cairn with flushing := false } }).cairnSync

/-- The identity of a BLANK module that becomes PROVISIONED: a key pair from the block's random source, whose public key's digest is DEVICE_ID
(R504; the keys are free values, log 6). -/
def State.lcIdentity (s : State) : State :=
  let (key, priv) := Config.mldsaKeygen s.freeCtr
  let id := shake256 key
  (List.range 8).foldl (fun s i => s.setRegN (aSec (0x120 + 4 * i)) (at' id (4 * i) 4)) { s with identity := some priv, freeCtr := s.freeCtr + 1 }

/-- Steps 2 and 3 of a transition (R513): the fuse is burnt, and the module resets. -/
def State.lcBurn (s : State) (t : Nat) : State :=
  let s := { s.mbEnd 0 0 with lcPend := none }
  let s := if s.lcState = 0 ∧ t = 1 then s.lcIdentity else s
  let n := if t = 4 then s.lcCount else s.lcCount + 1
  ((s.setF (aSec 0x100) 3 5 n).setF (aSec 0x100) 0 3 (if t = 4 then 4 else lcOf n)).warmRequest 2

/-- CAIRN_FLUSH_DONE (R545, R551): step 1 of a transition ends here (R513), and so does a power fail (R536 step 5). -/
def execCairnFlushDone (bad : List Nat) (s : State) : Host.Outcome State Fault Refusal :=
  whenB s.cairn.flushing s (fun s =>
    let s := s.flushAll bad
    if s.inputStage = 3 then { s with inputStage := 0, fwUp := false }
    else match s.lcPend with
      | some t => s.lcBurn t
      | none => s)

/-! ### Warden restarts (R499-R503) -/

/-- WARDEN_RESTART (R497, R502). -/
def execWardenRestart (now : Nat) (s : State) : Host.Outcome State Fault Refusal :=
  whenB (s.fwUp && s.inputStage == 2) s (fun s => (s.atTime now).wardenDown false)

/-- WARDEN_CORE_TAKEOVER (R503): the standby core becomes active, whether firmware ran or the boot ROM; the failed core is self-tested. -/
def execWardenCoreTakeover (now : Nat) (s : State) : Host.Outcome State Fault Refusal :=
  whenB (s.inputStage == 2 && s.regB (aSec 0x100) 10) s (fun s =>
    let s := (s.setB (aSec 0x100) 11 (!s.regB (aSec 0x100) 11)).setB (aSec 0x100) 10 false
    (({ s with coreTest := true }).atTime now).wardenDown false)

/-- STANDBY_CORE_TEST_DONE (R503): the failed core becomes standby, or is fenced; the test comes once firmware runs again. -/
def execStandbyCoreTestDone (pass : Bool) (s : State) : Host.Outcome State Fault Refusal :=
  whenB (s.coreTest && s.fwUp) s (fun s =>
    let s := ({ s with coreTest := false }).setB (aSec 0x100) 10 pass
    if pass then s else s.cairnLog 6 clsGlobal 0 0 noCtx [])

/-- RECOVERY_FETCH_RETRY (R499): under BOOT_SRC flash the boot ROM tries PCIe fetch and management fetch in turn, one attempt every 10 s. -/
def execRecoveryFetchRetry (now : Nat) (s : State) : Host.Outcome State Fault Refusal :=
  whenB (s.fetching && !inWindow (max now s.clk.now) s.fetchAt 10000000000) s (fun s =>
    let s := s.atTime now
    let pcie := s.regB (aMb 0x104) 3
    s.bootFetch (if s.bootSrc = 1 ∨ s.bootSrc = 2 then pcie else !pcie))

/-- RECOVERY_FETCH_DONE (R499): an image arrives over PCIe (path 1) or the management port (path 2). -/
def execRecoveryFetchDone (path : Nat) (image : List Byte) (s : State) : Host.Outcome State Fault Refusal :=
  whenB (s.fetching && ((path == 1 && s.regB (aMb 0x104) 3) || (path == 2 && !s.regB (aMb 0x104) 3))) s (fun s =>
    match s.fwCheck image path with
    | some i => s.bootFetched image i
    | none => s)

/-! ### Firmware starts (R491, R525, R526 step 4, R530, R531) -/

/-- The boot phase (R525): 8 x (Dl mod (P / 8)). -/
def State.bootPhase (s : State) : Nat :=
  let p := if s.regF (aWeir 0x13C) 0 20 = 0 then 1000000 else s.regF (aWeir 0x13C) 0 20 * 1000000
  8 * ((s.regN (aSec 0x120) + 2 ^ 32 * s.regN (aSec 0x124)) % (p / 8))

/-- The map is in place: counts, dead regions, isolated pitches, and EN_REQ on every other PITCH page (R526 step 4); every ON pitch runs the
start-up test (R529, R533). -/
def State.startWafer (s : State) : State :=
  let iso := (List.range 252).filter (fun p => (pitchRills p).all (fun k => s.cmtState k == 3) || s.pst clsPitch p == stIsolated)
  let s := iso.foldl (fun s p => if s.pst clsPitch p = stIsolated then s else s.isolatePage clsPitch p) s.cmtCounts
  let s := (List.range 252).foldl State.pitchSync ((List.range 63).foldl State.setDeadReach s)
  let s := s.absentSync (List.range 63)
  let s := { s with testing := (List.range 252).filter (s.isOn clsPitch), leveeStart := max 1 s.leveeStart, wearDue := s.clk.now + s.wearGap }
  ((List.range 252).filter (fun p => s.pst clsPitch p != stIsolated)).foldl State.pitchEn s

/-- What the table had to wait for while the firmware was away (R364, R416). -/
def State.tableDue (s : State) : State :=
  let s := (s.isoPend.foldl State.pitchTable { s with isoPend := [] }).failuresDue
  if s.startPend.isEmpty then s else (s.startPend.foldl State.pitchJoin s).pitchResume

/-- After the map is read at a start: the pitches whose e-fuse is open (R417) and whose entries are not all ISOLATED join those that wait for
firmware, and what waited is done (R416). -/
def State.fusedDue (s : State) : State :=
  let fused := (List.range 252).filter (fun p => !s.regB (aPt2 p 0x104) 1 && !s.isoPend.contains p)
  { s with isoPend := (fused.filter (fun p => !(pitchRills p).all (fun k => s.cmtState k == 3))).foldl ins s.isoPend }.tableDue

/-- The first start of firmware after a reset. The map shows every pitch whose e-fuse has cleared as isolated (R416, R417). -/
def State.firstStart (s : State) : State :=
  let s := s.ptBuild
  let s := if nfld (s.regN 0x104) 3 2 = 3 then s.cairnLog 4 clsGlobal 0 0 noCtx [] else s
  let cold := s.regF 0x108 4 2 == 0
  let s := if cold && s.timeSrc != 2 then s.timeAcquire else s
  let s := if cold then { s with weirPend := put s.weirPend 0x140 s.bootPhase } else s
  match s.cmtCopy with
  | some x => ((s.cmtPut x.table).fusedDue.setStage 1).startWafer
  | none =>
    if s.lcState = 3 then
      let s := s.cairnLog 6 clsGlobal 0 0 noCtx []
      ({ s.cmtPut cmtProvisional with cmtFresh := true }.fusedDue.setStage 1).startWafer
    else (s.setStage 5).cairnLog 7 clsGlobal 0 0 noCtx []

/-- FIRMWARE_START (R497, R500, R518, R526): the verified image starts; the Weir's falls-only mode ends (R428), and what waited for firmware is
done (R416). The first start after a reset finds the Protection Table open (R491). -/
def execFirmwareStart (now : Nat) (s : State) : Host.Outcome State Fault Refusal :=
  whenSome s.boot s (fun i s =>
    if s.fwUp ∨ s.inputStage ≠ 2 then s
    else
      let s := { s.atTime now with fwUp := true, wardenGone := none, boot := none, running := some i,
                                   restarts := if (s.running.map (fun (x : BootImg) => x.digest)).getD i.digest = i.digest then s.restarts else [] }
      let s := ((s.setF (aWeir 0x104) 0 2 0).setB (aMb 0x104) 2 true).setRegN (aSec 0x104) i.version
      let s := ((s.setF (aSec 0x10C) 0 2 i.slot).setF (aSec 0x10C) 2 6 i.svn).setF (aSec 0x10C) 8 2 i.path
      if s.regB (aSec 0x100) 8 then s.tableDue else s.firstStart)

/-- STARTUP_TEST_DONE (R529): the pitch's share of the memory wipe, and a report of each failed position; a router that fails the loop test makes
its position DEAD where there is no spare (R370), and a failed idle position costs its segment the spare. Log 86 gives the numbers. -/
def execStartupTestDone (pitch : Nat) (failed : List Nat) (s : State) : Host.Outcome State Fault Refusal :=
  onUnit (decide (pitch < 252)) (s.testing.contains pitch) s (fun s =>
    let s := ({ s with testing := rem s.testing pitch }).wipeRills (pitchRills pitch)
    let mine := failed.filter (fun n => decide (n < 3628800) && inPitch pitch (testPos n))
    let idle (n : Nat) : Bool := decide (907200 ≤ n) && decide (n < 1814400)
    (mine.filter idle ++ mine.filter (fun n => !idle n)).foldl (fun s n => s.reportPos n 7) s)

/-- Do the conditions of R532 hold? -/
def State.readyOk (s : State) : Bool :=
  (List.range 24).all (fun p => !s.fitted p || s.isOn clsStack p || s.pst clsStack p == stFaulted)
    && s.testsOver
    && s.failing.isEmpty && s.cmtStored

/-- READY (R526 step 7, R532, R534): pages whose start waited proceed, links from the beginning of their training, and a held reset is performed. -/
def execReady (now : Nat) (s : State) : Host.Outcome State Fault Refusal :=
  whenB (s.fwUp && (s.stage == 1 || s.stage == 2 || s.stage == 3) && s.readyOk) s (fun s =>
    let s := s.atTime now
    let s := (s.setStage 4).setReg64 0x118 s.clk.now
    let s := (List.range 17).foldl (fun s c => if s.pst clsCe c = stStarting then s.ceOn c else s) s
    let s := (List.range 76).foldl (fun s l => if s.pst clsLink l = stStarting then s.linkAtStart l else s) s
    match s.warmHeld with
    | some k => ({ s with warmHeld := none }).warmRequest k
    | none => s)

/-! ### The host port (R522, R527, R573, R583) -/

/-- The READY_N output: low while START_STAGE is READY (R583). -/
def State.readyN (s : State) : Bool := s.stage != 4

/-- The I3C static address that the latched straps give (R519, R583). -/
def State.i3cAddr (s : State) : Nat := 0x30 + nfld (s.regN 0x104) 12 4

/-- PERST_N_RELEASE (R583). -/
def execPerstNRelease (s : State) : Host.Outcome State Fault Refusal := .next { s with perstLow := false }

/-- PCIE_LINK_UP (R459, R519, R573): `width` 0 x16, 1 x8, 2 x4, no wider than PCIE_MAXW; `rate` 0 16, 1 32, 2 64 GT/s; FLIT mode at 64 GT/s. -/
def execPcieLinkUp (width rate : Nat) (flit : Bool) (s : State) : Host.Outcome State Fault Refusal :=
  whenB (s.inputStage == 2 && !s.perstLow && !s.regB (rg clsPcie 0 0x100) 0 && decide (width ≤ 2) && decide (rate ≤ 2)
      && decide (min 2 (nfld (s.regN 0x104) 5 2) ≤ width) && flit == (rate == 2)) s (fun s =>
    s.setF (rg clsPcie 0 0x100) 0 6 (1 + 2 * width + 8 * rate + 32 * b2n flit))

end Sys2Proof.Machine
end

