-- ==== Sys2Proof/Machine/Contexts.lean ====
section
/-! DEFINITION. Function level reset, conventional PCIe reset and IDE (14 R462, 15 R509, 16 R522): FUNCTION_LEVEL_RESET, PCIE_RESET and
IDE_INTEGRITY_FAIL. -/

namespace Sys2Proof.Machine

/-- A JOB_START of the context ends as by a CANCEL before OPEN (R462 step 3, R485): its broadcast's stagings are discarded. -/
def State.flrJob (s : State) (c : Nat) : State :=
  match (s.jobOf c).bind (fun j => (look? s.bcasts j).map (fun b => (j, b))) with
  | some (j, b) => if b.parent.isNone ∧ b.opened = false then s.bcastDrop j b else s
  | none => s

/-- Steps 1 to 4 of a fault hold with CMD_CANCELLED (R383, R462 step 2), whether the context runs or is in a hold already. Its run lists and
what waits for them end with its long operations; its replay set stays, since WIPE names the rills by it (R478; log 68). While a pitch starts or stops, the context is held anew (R411). -/
def State.flrHold (s : State) (c : Nat) : State :=
  let s := if s.rstate c = 5 then s.wearDrop c else s
  let s := (((s.setF (aRc c 4) 16 16 cCancelled).incWrap (aRc c 0x1C)).setRstate c 1).retireBarrier c
  let s := (((s.holdStep3 c cCancelled false).holdStep4 c).clearMarks c).flrJob c
  let r := s.rcv c
  let s := s.setRcv c { Rcv.init with images := r.images, repairs := r.repairs, profile := r.profile }
  let s := { (s.setSeqr c Seqr.init).setRstate c 0 with
    pitchHeld := rem s.pitchHeld c, staleWait := s.staleWait.filter (fun e => e.2 != c) }
  if s.pitchBusy then s.pitchTakeHold else s

/-- A swap that ends with its context's long operations. -/
def State.swapEnd (s : State) (c : Nat) : State :=
  (({ s with frontGo := rem s.frontGo c }.setF (aHwc c 4) 5 2 0).setB (aHwc c 4) 7 false).hwcSync c

/-- The COMMAND_ENGINE page returns to its reset values, and the command slots are zero (R462 step 6, R468). -/
def State.ceReset (s : State) (c : Nat) : State :=
  let base := pageBase clsCe c
  let inPage (a : Nat) : Bool := decide (base ≤ a) && decide (a < base + 0x1000)
  { s with regs := s.regs.filter (fun e => !inPage e.1), staged := s.staged.filter (fun e => !inPage e.1),
           captured := s.captured.filter (fun e => !inPage (e.1 % 2 ^ 32)), ce := del s.ce c,
           slotMem := memClear s.slotMem (c * 0x4000) ((c + 1) * 0x4000) }

/-- The TRANSLATION page driven to OFF (R462 step 5): its requests are gone, its TLB entries are dropped. -/
def State.xlOff (s : State) (c : Nat) : State :=
  (((s.dropTlb c).setPst clsXl c stOff).setPendOn clsXl c false).setPendOff clsXl c false

/-- R462 for a VF. -/
def State.flr (s : State) (c : Nat) : State :=
  (((((s.flrHold c).swapEnd c).unbind c 0).unbind c 1).xlOff c).ceReset c

/-- FUNCTION_LEVEL_RESET (R462). -/
def execFunctionLevelReset (ctx : Nat) (s : State) : Host.Outcome State Fault Refusal :=
  onUnit (decide (1 ≤ ctx) && decide (ctx ≤ 16)) true s (fun s => s.flr ctx)

/-- PCIE_RESET (R522, R573): every VF as by R462, context 0 by its steps 1 to 3 and 6, PF0's configuration space with its MSI-X and SR-IOV
settings and its IDE streams; the link goes down. `perst` tells that the PERST_N input is low. -/
def execPcieReset (perst : Bool) (s : State) : Host.Outcome State Fault Refusal :=
  .next (
    let s := (List.range 16).foldl (fun s c => s.flr (c + 1)) s
    let s := ((s.flrHold 0).swapEnd 0).ceReset 0
    let s := if s.regB (rg clsPcie 0 0x100) 0 then s.incSat (rg clsPcie 0 0x104) else s
    let s := (s.setRegN (rg clsPcie 0 0x100) 0).setRegN (aSec 0x110) 0
    { s with msix := [], msixPend := [], msixFnMask := [], captured := [], spdmHist := s.spdmHist.filter (fun e => !e.1), ideSel := [], perstLow := perst })

/-- IDE_INTEGRITY_FAIL (R509, R573): stream 0 is the link stream, 1 to 8 the selective ones. -/
def execIdeIntegrityFail (stream : Nat) (s : State) : Host.Outcome State Fault Refusal :=
  onUnit (decide (stream ≤ 8)) (s.regB (aSec 0x110) stream) s (fun s =>
    ((s.setB (aSec 0x110) stream false).incSat (rg clsPcie 0 0x114)).cairnLog 5 clsPcie 0 0 noCtx [])

end Sys2Proof.Machine
end

