-- ==== Sys2Proof/Machine/Commands.lean ====
section
/-! DEFINITION. The host commands (14 R478-R485, with 07 R224, R225, R242-R248, 08 R254, R264, 11 R376, R378, 15 R500, R508, R516): KEY_EK,
KEY_LOAD, RANK_WRITE, GROUP_WRITE, MEMBER_WRITE, IMAGE_LOAD, FUSED_RUN, CHECKPOINT, JOB_START, WEIGHT_SWAP, REGION_REMAP, STACK_SCRUB_FULL,
SELF_TEST, WIPE, FW_UPDATE, SUSPEND, RESUME, CANCEL, SUSPEND_POINT_REACHED, LONG_OPERATION_END, DEADLINE_EXPIRY and PROGRESS_TIMER. -/

namespace Sys2Proof.Machine

/-! ### Checks -/

/-- Can host bytes [a, a + n) be reached: do they lie in the 64-bit bus space (reason 8)? -/
def hostOk (a n : Nat) : Bool := decide (a + n ≤ 2 ^ 64)

/-- The first reason of a list whose condition holds; 0 where none does. -/
def reasonOf : List (Bool × Nat) → Nat
  | [] => 0
  | (b, r) :: t => if b then r else reasonOf t

/-- A flag of a context's Protection Table entry (R492): 0 ENABLED, 1 HEADWATER, 3 JOB. -/
def State.ptFlag (s : State) (c k : Nat) : Bool := bitOf (s.reg (aPt c 0)) k

/-! ### Keys (R224, R225, R508) -/

/-- The 1,608 B of a key request before its signature (R224 step 2). -/
def keyRequestBody (c x : Nat) (nonce ek : List Byte) : List Byte :=
  leBytes 4 0x4B45335A ++ leBytes 1 c ++ leBytes 1 x ++ leBytes 2 0 ++ nonce ++ padTo 1568 (ek.take 1568)

/-- A key request is made and written to host memory; it replaces an open one (R224, R225). -/
def State.keyEk (s : State) (c x a : Nat) : State :=
  let (nonce, s) := s.drawBytes 32
  let (ek, dk) := Config.mlkemKeygen s.freeCtr
  let body := keyRequestBody c x nonce ek
  let req := body ++ padTo 3309 ((Config.mldsaSign (s.identity.getD []) (shake256 body) s.freeCtr).take 3309)
  { s with freeCtr := s.freeCtr + 1, host := writeBytes s.host a req,
           keyReqs := put s.keyReqs (2 * c + x) { dk, nonce, digest := shake256 req } }

/-- KEY_EK (R224, R508): `trngOk` tells that the random source passes its health tests. -/
def execKeyEk (ctx : Nat) (trngOk : Bool) (s : State) : Host.Outcome State Fault Refusal :=
  shortCmd ctx 0x10 s
    (fun b s => reasonOf [(decide (1 < at' b 12 1), 1), (!s.ptFlag ctx 1, 2), (s.lcState != 2, 3), (!hostOk (at' b 16 8) 4917, 8)])
    (fun b s =>
      if trngOk then (0, leBytes 4 4917, s.keyEk ctx (at' b 12 1) (at' b 16 8)) else (cAuthFail, [], s.incSat (aSec 0x114)))

/-- The key that a blob carries, where step 6 of R224 accepts it. -/
def State.keyOpen (s : State) (c x : Nat) (blob : List Byte) : Option (List Byte) :=
  match look? s.keyReqs (2 * c + x) with
  | none => none
  | some q =>
    if at' blob 0 4 = 0x4B57335A ∧ at' blob 4 1 = c ∧ at' blob 5 1 = x ∧ (blob.drop 16).take 32 = q.nonce
        ∧ (s.manOk c x = false ∨ at' blob 8 4 = s.genOf c x) then
      let ss := Config.mlkemDecaps q.dk ((blob.drop 48).take 1568)
      gcmOpen (shake256 (ss ++ q.digest)) (List.replicate 12 0) (blob.take 48) (blob.drop 1616)
    else none

/-- KEY_LOAD (R224, R225): a failure of step 6 answers AUTH_FAIL and leaves the slot as it was; the decapsulation key goes either way. -/
def execKeyLoad (ctx : Nat) (s : State) : Host.Outcome State Fault Refusal :=
  shortCmd ctx 0x11 s
    (fun b s => reasonOf [(decide (1 < at' b 12 1), 1), (!s.ptFlag ctx 1, 2), (!hostOk (at' b 16 8) 1664, 8)])
    (fun b s =>
      let x := at' b 12 1
      let blob := readBytes s.host (at' b 16 8) 1664
      let s' := { s with keyReqs := del s.keyReqs (2 * ctx + x) }
      match s.keyOpen ctx x blob with
      | some k => (0, leBytes 4 (at' blob 8 4), { s' with hwKeys := put s.hwKeys (2 * ctx + x) k }.setB (aHwc ctx 4) (2 * x + 1) true)
      | none => (cAuthFail, [], s'))

/-! ### Job tables (R478, R479, R493) -/

/-- RANK_WRITE (R332). -/
def execRankWrite (ctx : Nat) (s : State) : Host.Outcome State Fault Refusal :=
  shortCmd ctx 0x18 s
    (fun b s => reasonOf [(at' b 14 2 == 0 || decide (1024 < at' b 14 2) || decide (16384 < at' b 12 2 + at' b 14 2), 1), (!s.ptFlag ctx 3, 2),
      ((s.jobOf ctx).isNone, 3), (!isMul (at' b 16 8) 4 || !hostOk (at' b 16 8) (4 * at' b 14 2), 8)])
    (fun b s =>
      let j := (s.jobOf ctx).getD 0
      (0, [], (List.range (at' b 14 2)).foldl (fun s i =>
        s.setRegN (aRank j (at' b 12 2 + i)) (leNat (readBytes s.host (at' b 16 8 + 4 * i) 4) &&& 0x80007FFF)) s))

/-- GROUP_WRITE (R316, R333): word 1, then word 0; an entry of another job slot is not the context's (reason 2). -/
def execGroupWrite (ctx : Nat) (s : State) : Host.Outcome State Fault Refusal :=
  shortCmd ctx 0x19 s
    (fun b s =>
      let g := at' b 12 2
      let j := s.jobOf ctx
      reasonOf [(decide (4096 ≤ g), 1), (!s.ptFlag ctx 3, 2), (j.isNone, 3),
        (some (at' b 20 4 / 2 ^ 20 % 4) != j || (s.groupValid g && some (s.groupJob g) != j), 2)])
    (fun b s =>
      let s := (s.groupWord1 (at' b 12 2) (BitVec.ofNat 32 (at' b 16 4))).groupWord0 (at' b 12 2) (BitVec.ofNat 32 (at' b 20 4))
      (0, leBytes 4 (s.regN (rg clsGroup 0 0x100)), s))

/-- MEMBER_WRITE (R315, R488). -/
def execMemberWrite (ctx : Nat) (s : State) : Host.Outcome State Fault Refusal :=
  shortCmd ctx 0x1A s
    (fun b s =>
      let base := s.regF (aCe ctx 0x128) 0 18
      let len := s.regF (aCe ctx 0x12C) 0 19
      reasonOf [(at' b 16 2 == 0 || decide (2048 < at' b 16 2), 1), (!s.ptFlag ctx 3, 2),
        (decide (at' b 12 4 < base) || decide (base + len < at' b 12 4 + at' b 16 2) || decide (262144 < at' b 12 4 + at' b 16 2), 3),
        (!isMul (at' b 24 8) 2 || !hostOk (at' b 24 8) (2 * at' b 16 2), 8)])
    (fun b s => (0, [], (List.range (at' b 16 2)).foldl (fun s i =>
      s.memberWrite (at' b 12 4 + i) (leNat (readBytes s.host (at' b 24 8 + 2 * i) 2))) s))

/-! ### Long commands are accepted (R478-R481) -/

/-- The state that IMAGE_LOAD, FUSED_RUN and CHECKPOINT require (R479). -/
def State.mayRun (s : State) (c : Nat) : Bool := s.isOn clsXl c && s.rstate c == 0

/-- IMAGE_LOAD (R480): it waits for the operations of the run lists before it. -/
def execImageLoad (ctx : Nat) (s : State) : Host.Outcome State Fault Refusal :=
  longCmd ctx 0x20 s (fun b s => reasonOf [(!s.mayRun ctx, 3), (!s.vaReach ctx (at' b 16 8) (at' b 24 4), 8)]) (fun _ _ => (0, []))
    (fun b h s =>
      let q := s.seqr ctx
      let after := (match q.alt with
        | some n => some n
        | none => q.tail).getD 0
      (s.setSeqr ctx { q with loads := q.loads ++ [{ handle := h, va := at' b 16 8, len := at' b 24 4, after, begun := false, image := [], done := 0 }] }).imgPump ctx)

/-- The OPN at which a run list starts, if R255 allows it: one above the last one, or after a CANCEL the first that did not start (R264). Where no
list went before, or a program fault cut the sequence, any will do. -/
def State.runStart (s : State) (c n : Nat) : Option Nat :=
  let q := s.seqr c
  match q.tail, q.alt with
  | none, _ => some n
  | some t, a =>
    if n = t % 2 ^ 32 then some t
    else match a with
      | some x => if n = x % 2 ^ 32 then some x else none
      | none => none

/-- A run list joins the sequence. The first one after a cut drops the kept lists that it overlaps, and replays start with it where no other list
has followed the commit point. -/
def State.runAppend (s : State) (c h va n opn0 : Nat) : State :=
  let q := s.seqr c
  let l : RunList := { handle := h, va, entries := n, opn0 }
  if q.tail.isSome then s.setSeqr c { q with lists := q.lists ++ [l], tail := some (opn0 + n), alt := none }
  else
    let kept := q.lists.filter (fun (x : RunList) => decide (x.opn0 + x.entries ≤ opn0))
    let r := s.rcv c
    let s := if kept.isEmpty then s.setRcv c { r with commit := r.commit.map (fun (x : CommitRec) => { x with next := opn0 }) } else s
    s.setSeqr c { q with lists := kept ++ [l], tail := some (opn0 + n), alt := none, halted := false, next := opn0,
                         boundaries := q.boundaries.filter (fun b => decide (b < opn0)) }

/-- FUSED_RUN (R254, R255). -/
def execFusedRun (ctx : Nat) (s : State) : Host.Outcome State Fault Refusal :=
  longCmd ctx 0x21 s
    (fun b s => reasonOf [(at' b 24 4 == 0 || decide (65536 < at' b 24 4), 1), (!s.mayRun ctx, 3),
      (!isMul (at' b 16 8) 128 || !s.vaReach ctx (at' b 16 8) (128 * at' b 24 4), 8),
      ((s.runStart ctx (at' b 28 4)).isNone, 1)])
    (fun b s => ((s.runStart ctx (at' b 28 4)).getD 0 + at' b 24 4, []))
    (fun b h s => s.runAppend ctx h (at' b 16 8) (at' b 24 4) ((s.runStart ctx (at' b 28 4)).getD 0))

/-- The OPN of a CHECKPOINT taken now: the last operation submitted, or COMMIT_OPN where none has been (R378). -/
def State.pointOpn (s : State) (c : Nat) : Nat :=
  let q := s.seqr c
  match q.alt, q.tail, q.lists.getLast? with
  | some a, _, _ => a - 1
  | none, some t, _ => t - 1
  | none, none, some l => l.opn0 + l.entries - 1
  | none, none, none => s.regN (aRc c 8)

/-- CHECKPOINT (R378, R382). -/
def execCheckpoint (ctx : Nat) (s : State) : Host.Outcome State Fault Refusal :=
  longCmd ctx 0x22 s (fun _ s => reasonOf [(!s.mayRun ctx, 3)]) (fun _ _ => (0, []))
    (fun _ h s =>
      let q := s.seqr ctx
      let n := s.pointOpn ctx
      (s.setSeqr ctx { q with points := addPoint ⟨n, h, false, []⟩ q.points, boundaries := ins q.boundaries n }).pointsDone ctx)

/-- JOB_START (R323, R479). -/
def execJobStart (ctx : Nat) (s : State) : Host.Outcome State Fault Refusal :=
  longCmd ctx 0x23 s
    (fun b s =>
      let ready : Bool := match s.jobOf ctx with
        | some j => s.selfRank j == 0 && s.jobState j == 0 && (s.boundDigest ctx).isSome
        | none => false
      reasonOf [(!s.ptFlag ctx 3, 2), (!ready, 3), (!hostOk (at' b 16 8) 2048, 8)])
    (fun _ _ => (0, []))
    (fun b h s => s.bcastRoot ((s.jobOf ctx).getD 0) h (readBytes s.host (at' b 16 8) 2048))

/-- WEIGHT_SWAP (R242, R246): bit 7 of HWC_STATUS is MODE FOLLOW. -/
def execWeightSwap (ctx : Nat) (s : State) : Host.Outcome State Fault Refusal :=
  longCmd ctx 0x24 s
    (fun b s =>
      let ready := s.manOk ctx 0 && s.manOk ctx 1 && s.keyOk ctx 0 && s.keyOk ctx 1 && s.genOf ctx 0 != s.genOf ctx 1 && s.hwSwap ctx == 0
      reasonOf [(decide (1 < at' b 12 1), 1), (!ready, 3)])
    (fun _ _ => (0, []))
    (fun b _ s =>
      let s := (s.setF (aHwc ctx 4) 5 2 1).setB (aHwc ctx 4) 7 (at' b 12 1 == 1)
      let s := (s.setF (aHwc ctx 4) 8 16 0).setReg64 (aHwc ctx 0x20) (grain (at' b 16 8))
      ({ s with frontGo := rem s.frontGo ctx }).hwcSync ctx)

/-- The entries of a REGION_REMAP's list of images (R478): address, then first and last column, first and last row. -/
def remapEntries (b : List Byte) (n : Nat) : List ImgEntry :=
  (List.range n).map (fun i => (at' b (16 * i) 8, at' b (16 * i + 8) 2, at' b (16 * i + 10) 2, at' b (16 * i + 12) 2, at' b (16 * i + 14) 2))
/-- A list of entries as numbers, and back. -/
def flatEntries (l : List ImgEntry) : List Nat := l.flatMap (fun e => [e.1, e.2.1, e.2.2.1, e.2.2.2.1, e.2.2.2.2])
/-- Entries from their numbers. -/
def unflat : List Nat → List ImgEntry
  | a :: b :: c :: d :: e :: t => (a, b, c, d, e) :: unflat t
  | _ => []

/-- REGION_REMAP (R376): its list is read when it is taken. -/
def execRegionRemap (ctx : Nat) (s : State) : Host.Outcome State Fault Refusal :=
  longCmd ctx 0x25 s
    (fun b s =>
      let n := at' b 24 2
      let list := (s.vaRead ctx (at' b 16 8) (16 * n)).1
      let bad : Nat := match list with
        | .inl _ => 8
        | .inr l => if (remapEntries l n).all (fun e => rectOk e.2.1 e.2.2.1 e.2.2.2.1 e.2.2.2.2) then 0 else 1
      reasonOf [(n == 0 || decide (1024 < n) || decide (65536 < at' b 48 4), 1), (s.rstate ctx != 2, 3),
        (!isMul (at' b 28 8) 128 || !isMul (at' b 40 8) 128 || (at' b 36 4 != 0 && !s.vaReach ctx (at' b 28 8) (128 * at' b 36 4))
          || (at' b 48 4 != 0 && !s.vaReach ctx (at' b 40 8) (128 * at' b 48 4)), 8), (bad != 0, bad)])
    (fun b s =>
      match (s.vaRead ctx (at' b 16 8) (16 * at' b 24 2)).1 with
      | .inl _ => (0, [])
      | .inr l => (0, flatEntries (remapEntries l (at' b 24 2))))
    (fun b _ s => (s.vaRead ctx (at' b 16 8) (16 * at' b 24 2)).2)

/-- STACK_SCRUB_FULL (R206). -/
def execStackScrubFull (ctx : Nat) (s : State) : Host.Outcome State Fault Refusal :=
  longCmd ctx 0x30 s (fun b _ => reasonOf [(at' b 12 1 == 0 || decide (8 < at' b 12 1), 1)]) (fun _ _ => (0, [])) (fun _ _ s => s)

/-- Does some replay set hold a rill of a reach (R479)? -/
def State.reachUsed (s : State) (r : Nat) : Bool :=
  (List.range 17).any (fun c => (s.rcv c).images.any (fun e =>
    decide (e.2.1 < r % 9 * 120 + 120) && decide (r % 9 * 120 ≤ e.2.2.1) && decide (e.2.2.2.1 < r / 9 * 120 + 120) && decide (r / 9 * 120 ≤ e.2.2.2.2)))

/-- SELF_TEST (R97, R485). -/
def execSelfTest (ctx : Nat) (s : State) : Host.Outcome State Fault Refusal :=
  longCmd ctx 0x31 s
    (fun b s => reasonOf [(decide (2 ^ 63 ≤ at' b 16 8), 1), ((bitsSet 63 (at' b 16 8)).any s.reachUsed, 3)])
    (fun b _ => (0, bitsSet 63 (at' b 16 8))) (fun _ _ s => s)

/-- WIPE (R479, R493, R516): the stacks that are ON now are written. -/
def execWipe (ctx : Nat) (s : State) : Host.Outcome State Fault Refusal :=
  longCmd ctx 0x32 s
    (fun b s =>
      let c := at' b 12 1
      reasonOf [(decide (16 < c) || decide (7 < at' b 13 1), 1), (!s.ptFlag c 0, 2), (s.pst clsXl c != stOff || !(s.eng c).ops.isEmpty, 3)])
    (fun b s => (0, if (at' b 13 1).testBit 0 then (List.range 24).filter (fun p => s.fitted p && s.isOn clsStack p) else []))
    (fun _ _ s => s)

/-- FW_UPDATE (R479, R496, R500). -/
def execFwUpdate (ctx : Nat) (s : State) : Host.Outcome State Fault Refusal :=
  longCmd ctx 0x33 s
    (fun b s => reasonOf [(decide (at' b 24 4 < 0x1500) || decide (32 * 2 ^ 20 < at' b 24 4), 1), ((s.eng ctx).ops.any (fun o => o.opcode == 0x33), 3),
      (!hostOk (at' b 16 8) (at' b 24 4), 8)])
    (fun _ _ => (0, [])) (fun _ _ s => s)

/-! ### How far an operation has come (R485) -/

/-- Bytes of a context's window over the stacks of a WIPE, in MiB. -/
def State.wipeMib (s : State) (o : LongOp) : Nat := s.winSize (at' o.cmd 12 1) * o.units.length / 2 ^ 20

/-- The work of an operation, in the units of its PROGRESS field; none where its state tells its progress. -/
def State.workTotal (s : State) (o : LongOp) : Option Nat :=
  match o.opcode with
  | 0x25 => some (o.units.length / 5)
  | 0x30 => some 384
  | 0x31 => some o.units.length
  | 0x32 => some (s.wipeMib o)
  | 0x33 => some (at' o.cmd 24 4)
  | _ => none

/-- The rills of a reach. -/
def reachRills (r : Nat) : List Nat := rectPos (r % 9 * 120) (r % 9 * 120 + 119) (r / 9 * 120) (r / 9 * 120 + 119)

/-- Work done since the last report. IMAGE_LOAD writes the rills that it has come to. SELF_TEST wipes the stores and pools of the reaches it has tested and reports what failed in them with
CAUSE 7 (R485). The errors that STACK_SCRUB_FULL corrected are counted (R186). -/
def State.workTo (s : State) (c : Nat) (o : LongOp) (w : Work) : State :=
  match s.workTotal o with
  | none => if o.opcode = 0x20 then s.loadTo c o.handle w.done else s
  | some n =>
    let p := max o.progress (min w.done n)
    if o.state = 2 then s
    else if o.opcode = 0x30 then (s.eccCorr w.corrected).modLong c o.handle (fun o => { o with progress := p })
    else if o.opcode = 0x31 then
      let rs := (o.units.drop o.progress).take (p - o.progress)
      let s := rs.foldl (fun s r => s.wipeRills (reachRills r)) s
      let bad := w.failed.filter (fun n => decide (n < 3628800) && rs.contains (reachOf (rcol (testPos n)) (rrow (testPos n)))
        && (if 907200 ≤ n ∧ n < 1814400 then s.regB (aCmtK (testPos n)) 7 else s.present (testPos n)))
      bad.foldl (fun s k => s.reportPos k 7) (s.modLong c o.handle (fun o => { o with progress := p, mark := o.mark + bad.length }))
    else s.modLong c o.handle (fun o => { o with progress := p })

/-- RESULT of a DONE record (R478). -/
def State.longResult (s : State) (c : Nat) (o : LongOp) : List Byte :=
  match o.opcode with
  | 0x20 => leBytes 4 0 ++ leBytes 4 (s.regN (aRc c 0x2C))
  | 0x21 => leBytes 4 o.mark
  | 0x22 => s.commitResult c
  | 0x23 => jobResult 0 0
  | 0x24 => leBytes 2 (s.hwFront c) ++ leBytes 2 0 ++ leBytes 4 (s.regN (aHwc c 0x30))
  | 0x31 => leBytes 4 o.mark ++ leBytes 4 o.progress
  | 0x33 => leBytes 4 (s.regN (aSec 0x104))
  | _ => leBytes 4 o.progress

/-- The code of an operation that was cancelled (R482-R484). -/
def LongOp.cancelCode (o : LongOp) : Nat := if o.byDeadline then cDeadline else cCancelled

/-- An operation ends with a code, its progress and result as they stand. -/
def State.endAs (s : State) (c h code : Nat) : State :=
  match s.longOp? c h with
  | none => s
  | some o => s.endLong c h code (s.longResult c o)

/-! ### FUSED_RUN (R264) -/

/-- Has every operation below the mark of a FUSED_RUN been read and completed? Those of earlier run lists are among them (R264). -/
def State.runOver (s : State) (c : Nat) (o : LongOp) : Bool :=
  let q := s.seqr c
  q.lists.all (fun l => decide (o.mark ≤ l.opn0) || decide (l.opn0 + l.entries ≤ q.next)) && q.ops.all (fun x => x.rebuild || decide (o.mark ≤ x.opn)) && s.rstate c != 3 && s.rstate c != 4

/-- CANCEL of a FUSED_RUN: what has not started never will. An operation that only waits for its reservation has not started (log 69); commit points
beyond the cut come down to it. -/
def State.runCancel (s : State) (c : Nat) (o : LongOp) : State :=
  let q := s.seqr c
  match q.lists.find? (fun (l : RunList) => l.handle == o.handle) with
  | none => s
  | some l =>
    let stop := l.opn0 + l.entries
    let mine (x : Op) : Bool := !x.rebuild && decide (l.opn0 ≤ x.opn) && decide (x.opn < stop)
    let gone := q.ops.filter (fun x => mine x && x.waiting)
    let cut := max l.opn0 (min stop (gone.foldl (fun m x => min m x.opn) q.next))
    let down (n : Nat) : Nat := if cut ≤ n ∧ n < stop then cut - 1 else n
    let lists := (q.lists.map (fun (x : RunList) => if x.handle = o.handle then { x with entries := cut - x.opn0 } else x)).filter (fun x => x.entries != 0)
    let q := { q with lists, ops := q.ops.filter (fun x => !(mine x && x.waiting)), next := if gone.isEmpty then q.next else cut,
                      alt := if q.tail = some stop then some cut else q.alt, boundaries := (q.boundaries.map down).foldl ins [],
                      points := q.points.map (fun (p : Point) => { p with opn := down p.opn }),
                      loads := q.loads.map (fun (x : ImgLoad) => if x.after = stop then { x with after := cut } else x) }
    ((((s.setSeqr c q).modLong c o.handle (fun o => { o with mark := cut })).cfSync).pointsDone c).imgPump c

/-! ### REGION_REMAP, WIPE and FW_UPDATE end -/

/-- REGION_REMAP takes effect in one step: the replay set, the commit record's copy of it, the rebuild list and the run lists are replaced, and
the restore begins with LAYOUT_CHANGED set (R376). -/
def State.remapDo (s : State) (c : Nat) (o : LongOp) : State :=
  let es := unflat o.units
  let va := at' o.cmd 28 8
  let n := at' o.cmd 36 4
  let r := s.rcv c
  let first := match r.commit with
    | some x => x.next
    | none => ((s.seqr c).lists.head?.map (fun (l : RunList) => l.opn0)).getD 0
  let lists : List RunList := if at' o.cmd 48 4 = 0 then [] else [{ handle := 0, va := at' o.cmd 40 8, entries := at' o.cmd 48 4, opn0 := first }]
  let s := s.setRcv c { r with commit := r.commit.map (fun (x : CommitRec) => { x with images := es, rebuildVa := va, rebuildN := n }),
                               remap := false, stuck := false, loaded := false, remapLists := some lists }
  let s := ((s.setImages c es).setReg64 (aRc c 0x20) va).setRegN (aRc c 0x28) n
  (s.setB (aRc c 4) 3 true).holdStep5 c

/-- REGION_REMAP ends: every image is checked; one that cannot be read or is refused ends it with CMD_MALFORMED and replaces nothing (R376). -/
def State.remapEnd (s : State) (c : Nat) (o : LongOp) : State :=
  match s.readImages c (unflat o.units) with
  | (none, s) => s.endAs c o.handle cMalformed
  | (some _, s) => (s.modLong c o.handle (fun o => { o with progress := o.units.length / 5 })).remapDo c o |>.endAs c o.handle 0

/-- WIPE's writes (R516). -/
def State.wipeDo (s : State) (o : LongOp) : State :=
  let c := at' o.cmd 12 1
  let scope := at' o.cmd 13 1
  let s := o.units.foldl (fun s p =>
    let lo := kbase p + s.winBase c
    let hi := lo + s.winSize c
    { s with stack := memClear s.stack lo hi, stackPoison := s.stackPoison.filter (fun l => decide (l < lo / 64) || decide (hi / 64 ≤ l)) }) s
  let s := if scope.testBit 1 then
      ((s.rcv c).images.foldl (fun s e => s.wipeRills (rectPos e.2.1 e.2.2.1 e.2.2.2.1 e.2.2.2.2)) s).setImages c []
    else s
  if scope.testBit 2 then (s.unbind c 0).unbind c 1 else s

/-- FW_UPDATE (R500; log 70), one phase at a time. The image is read, when IDE lets the reads go out (R509), and checked, and flash is erased: from
now on it holds no valid image (R501). Then the image stands in flash and the Warden restarts. After the restart the update is done. -/
def State.updateStep (s : State) (c : Nat) (o : LongOp) (w : Work) : State :=
  if !s.fwUp then s
  else if o.mark = 2 then s.endAs c o.handle 0
  else if o.mark = 1 then
    if !w.failed.isEmpty then s.endAs c o.handle cAuthFail
    else (({ s with fwFlash := s.fwStage, fwFail := false, restarts := [] }).modLong c o.handle (fun o => { o with mark := 2 })).wardenDown true
  else if !s.ideOk c (at' o.cmd 16 8) (at' o.cmd 24 4) then s
  else if !w.failed.isEmpty then (s.modLong c o.handle (fun o => { o with progress := 8 })).endAs c o.handle cMalformed
  else
    let b := readBytes s.host (at' o.cmd 16 8) (at' o.cmd 24 4)
    let s := s.modLong c o.handle (fun o => { o with progress := at' o.cmd 24 4 })
    match s.fwCheck b 0 with
    | none => s.endAs c o.handle cAuthFail
    | some _ => ({ s with fwFlash := [], fwStage := b }).modLong c o.handle (fun o => { o with mark := 1, started := true, state := 0 })

/-! ### Ends, cancellation and deadlines (R482-R485) -/

/-- An operation that has not been cancelled ends. -/
def State.finishLong (s : State) (c : Nat) (o : LongOp) (w : Work) : State :=
  match o.opcode with
  | 0x20 => s.finishLoad c o.handle
  | 0x21 => if s.runOver c o then s.endAs c o.handle 0 else s
  | 0x25 => if s.rstate c = 2 then s.remapEnd c o else s
  | 0x30 => (s.workTo c o { w with done := 384 }).endAs c o.handle 0
  | 0x31 => (s.workTo c o { w with done := o.units.length }).endAs c o.handle 0
  | 0x32 => ((s.workTo c o { w with done := s.wipeMib o }).wipeDo o).endAs c o.handle 0
  | 0x33 => s.updateStep c o w
  | _ => s

/-- Does the operation's rule refuse a CANCEL now (R248, R325, R485)? -/
def State.cancelRefused (s : State) (c : Nat) (o : LongOp) : Bool :=
  match o.opcode with
  | 0x24 => s.hwFront c != 0
  | 0x32 => true
  | _ => o.started

/-- A cancellation takes effect, as far as it does at once; `was` is the state before it. A cancelled CHECKPOINT takes the record with it that was
formed for its commit barrier: the previous commit point stays in force (R378, R485; log 71). -/
def State.cancelLong (s : State) (c : Nat) (o : LongOp) (was : Nat) : State :=
  let h := o.handle
  match o.opcode with
  | 0x20 => (s.endLoad c h o.cancelCode 0).imgPump c
  | 0x21 => if s.runOver c o then s.endAs c h 0 else s.runCancel c o
  | 0x22 =>
    let q := s.seqr c
    let first := (q.points.head?.map (fun (p : Point) => p.handle == h)).getD false
    let s := (s.setSeqr c { q with points := q.points.filter (fun (p : Point) => p.handle != h) }).endAs c h o.cancelCode
    if first && (s.rcv c).formed.isSome then (s.setRcv c { s.rcv c with formed := none, won := false }).holdGoOn c else s
  | 0x23 => (s.bcastCancel ((s.jobOf c).getD 4)).endAs c h o.cancelCode
  | 0x24 => (s.swapCancel c).endAs c h o.cancelCode
  | _ => if was = 2 then s.endAs c h o.cancelCode else s

/-- CANCEL_PENDING is entered, by a CANCEL or at a deadline. -/
def State.cancelNow (s : State) (c : Nat) (o : LongOp) (deadline : Bool) : State :=
  let s := s.modLong c o.handle (fun o => { o with state := 3, byDeadline := deadline })
  s.cancelLong c { o with state := 3, byDeadline := deadline } o.state

/-- A control command: the operation that HANDLE names, or reason 4 (R477, R484). -/
def controlCmd (ctx op : Nat) (s : State) (f : List Byte → LongOp → State → State) : Host.Outcome State Fault Refusal :=
  cmdRow ctx op s (fun b s =>
    match if at' b 2 2 = 0 then none else s.longOp? ctx (at' b 2 2) with
    | none => s.cmdReject ctx b 4
    | some o => f b o s)

/-- SUSPEND (R477, R482). -/
def execSuspend (ctx : Nat) (s : State) : Host.Outcome State Fault Refusal :=
  controlCmd ctx 2 s (fun b o s =>
    if o.state = 3 then s.cmdReject ctx b 3
    else if o.state = 0 ∧ [0x20, 0x22, 0x23, 0x32].contains o.opcode = true then s.cmdReject ctx b 6
    else
      let s := s.cmdDone ctx b 0 0 []
      if o.state = 0 then s.modLong ctx o.handle (fun o => { o with state := 1 }) else s)

/-- RESUME (R482): a suspended swap rebinds again (R247). -/
def execResume (ctx : Nat) (s : State) : Host.Outcome State Fault Refusal :=
  controlCmd ctx 3 s (fun b o s =>
    if o.state = 0 ∨ o.state = 3 then s.cmdReject ctx b 3
    else
      let s := (s.cmdDone ctx b 0 0 []).modLong ctx o.handle (fun o => { o with state := 0 })
      if o.opcode = 0x24 ∧ o.state = 2 then s.setF (aHwc ctx 4) 5 2 (if s.hwFront ctx = 0 then 1 else 2) else s)

/-- CANCEL (R482-R485): in CANCEL_PENDING it changes nothing, but a deadline of the same grain then counts as cancelled (R484). -/
def execCancel (ctx : Nat) (s : State) : Host.Outcome State Fault Refusal :=
  controlCmd ctx 4 s (fun b o s =>
    if o.state = 3 then
      let s := s.cmdDone ctx b 0 0 []
      if o.byDeadline ∧ o.deadline.map grain = some (grain s.clk.now) then s.modLong ctx o.handle (fun o => { o with byDeadline := false }) else s
    else if s.cancelRefused ctx o then s.cmdReject ctx b 7
    else (s.cmdDone ctx b 0 0 []).cancelNow ctx o false)

/-- May an operation in SUSPEND_PENDING stop here: FUSED_RUN between admissions, FW_UPDATE before it writes flash (R485)? -/
def State.suspendHere (s : State) (c : Nat) (o : LongOp) : Bool :=
  match o.opcode with
  | 0x21 => !(s.seqr c).ops.any (fun x => x.waiting && !x.rebuild)
  | 0x33 => !o.started
  | _ => true

/-- SUSPEND_POINT_REACHED (R482). -/
def execSuspendPointReached (ctx handle : Nat) (w : Work) (s : State) : Host.Outcome State Fault Refusal :=
  match s.longOp? ctx handle with
  | none => onUnit (decide (ctx ≤ 16)) false s id
  | some o =>
    onUnit (decide (ctx ≤ 16)) (o.state == 1 && s.suspendHere ctx o) s (fun s =>
      let s := (s.workTo ctx o w).modLong ctx handle (fun o => { o with state := 2 })
      let s := if o.opcode = 0x24 then s.setF (aHwc ctx 4) 5 2 3 else s
      s.progressLong ctx handle cSuspended)

/-- LONG_OPERATION_END (R473, R482, R485): an operation with suspend points that was cancelled ends at the next one; CHECKPOINT, JOB_START and
WEIGHT_SWAP end with their own events. -/
def execLongOperationEnd (ctx handle now : Nat) (w : Work) (s : State) : Host.Outcome State Fault Refusal :=
  match s.longOp? ctx handle with
  | none => onUnit (decide (ctx ≤ 16)) false s id
  | some o =>
    onUnit (decide (ctx ≤ 16)) (o.state != 2) s (fun s =>
      let s := s.atTime now
      if o.state = 3 then
        if o.opcode = 0x21 then (if s.runOver ctx o then s.endAs ctx handle o.cancelCode else s)
        else (s.workTo ctx o w).endAs ctx handle o.cancelCode
      else s.finishLong ctx o w)

/-- DEADLINE_EXPIRY (R483): an operation that cannot be cancelled now runs on, and a record says so. -/
def execDeadlineExpiry (ctx handle now : Nat) (s : State) : Host.Outcome State Fault Refusal :=
  match s.longOp? ctx handle with
  | none => onUnit (decide (ctx ≤ 16)) false s id
  | some o =>
    let due : Bool := match o.deadline with
      | some t => decide (grain t ≤ grain (max now s.clk.now))
      | none => false
    onUnit (decide (ctx ≤ 16)) (due && o.state != 3) s (fun s =>
      let s := s.atTime now
      if s.cancelRefused ctx o then (s.modLong ctx handle (fun o => { o with deadline := none })).cairnLog 3 clsCe ctx cDeadline ctx []
      else s.cancelNow ctx o true)

/-- PROGRESS_TIMER (R475, R482). -/
def execProgressTimer (ctx handle now : Nat) (w : Work) (s : State) : Host.Outcome State Fault Refusal :=
  match s.longOp? ctx handle with
  | none => onUnit (decide (ctx ≤ 16)) false s id
  | some o =>
    onUnit (decide (ctx ≤ 16)) (!inWindow (max now s.clk.now) o.reportAt 100000000) s (fun s =>
      ((s.atTime now).workTo ctx o w).progressLong ctx handle (if o.state = 2 then cSuspended else 0))

end Sys2Proof.Machine
end

