-- ==== Sys2Proof/Machine/Spdm.lean ====
section
/-! DEFINITION. The SPDM responder (15 R504-R509): what each request's answer carries, SET_CERTIFICATE and IDE_KM. The SPDM 1.3 standard
defines the bytes of a message; the spec does not repeat them, and they stand as uninterpreted functions of Config (log 7). -/

namespace Sys2Proof.Machine

/-- The 17 Protection Table entries in context order. -/
def State.ptBytes (s : State) : List Byte := (List.range 136).flatMap (fun w => leBytes 4 (s.regN (aSec (0x400 + 4 * w))))

/-- Measurement blocks 3 to 6 as raw values (R507). -/
def State.measRaw (s : State) : List (List Byte) :=
  [leBytes 4 (s.regN (aSec 0x104)) ++ leBytes 1 (s.regF (aSec 0x10C) 2 6), leBytes 4 (s.regN (aSec 0x108)),
   leBytes 1 s.lcState ++ leBytes 1 s.lcCount, leBytes 2 (s.regF 0x104 0 16)]

/-- The seven measurement blocks as digests (R507). -/
def State.measBlocks (s : State) : List (List Byte) :=
  [Config.bootRomDigest, (s.running.map (fun (i : BootImg) => i.digest)).getD []] ++ s.measRaw.map shake256 ++ [shake256 s.ptBytes]

/-- The measurements that an answer carries. -/
def State.measBytes (s : State) : List Byte := s.measBlocks.flatten ++ s.measRaw.flatten

/-- The identity and the chains that an answer carries: DEVICE_ID, slot 0 while the identity region holds it, slot 1 (R504, R505). -/
def State.chainBytes (s : State) : List Byte := s.deviceId ++ (if s.identity.isSome then Config.deviceChain else []) ++ s.ownerChain

/-- The requests answered before over one transport (R506). -/
def State.spdmOn (s : State) (doe : Bool) : List (List Byte) := (s.spdmHist.filter (fun e => e.1 == doe)).map (fun e => e.2)

/-- A request is answered: the answer depends on the requests before it, the request, what it carries of the module's state, and fresh
randomness. While no Warden firmware runs nothing answers (log 73). -/
def State.spdmReply (s : State) (doe : Bool) (req carries : List Byte) : State :=
  ({ s with spdmHist := s.spdmHist ++ [(doe, req)], freeCtr := s.freeCtr + 1 }).emit
    (.spdm doe (Config.spdmAnswer (s.spdmOn doe) req carries s.freeCtr))

/-- A request's row: it is answered while firmware runs and, over DOE, while the host link is up. -/
def spdmRow (doe : Bool) (s : State) (f : State → State) : Host.Outcome State Fault Refusal :=
  whenB (s.fwUp && s.inputStage == 2 && (!doe || s.regB (rg clsPcie 0 0x100) 0)) s f

/-- GET_VERSION. -/
def execGetVersion (doe : Bool) (req : List Byte) (s : State) : Host.Outcome State Fault Refusal := spdmRow doe s (fun s => s.spdmReply doe req [])
/-- GET_CAPABILITIES. -/
def execGetCapabilities (doe : Bool) (req : List Byte) (s : State) : Host.Outcome State Fault Refusal := spdmRow doe s (fun s => s.spdmReply doe req [])

/-- The extended algorithms that the module offers, and no other (R506): the vendor identifier under which they stand, and their identifiers, each in
2 bytes. -/
def spdmAlgorithms : List Byte := [Config.pciVendor, 1, 2, 3, 4].flatMap (fun n => leBytes 2 n)

/-- NEGOTIATE_ALGORITHMS. -/
def execNegotiateAlgorithms (doe : Bool) (req : List Byte) (s : State) : Host.Outcome State Fault Refusal :=
  spdmRow doe s (fun s => s.spdmReply doe req spdmAlgorithms)
/-- GET_DIGESTS: the digests of the chains (R505). -/
def execGetDigests (doe : Bool) (req : List Byte) (s : State) : Host.Outcome State Fault Refusal :=
  spdmRow doe s (fun s => s.spdmReply doe req s.chainBytes)
/-- GET_CERTIFICATE: a chain (R505). -/
def execGetCertificate (doe : Bool) (req : List Byte) (s : State) : Host.Outcome State Fault Refusal :=
  spdmRow doe s (fun s => s.spdmReply doe req s.chainBytes)
/-- CHALLENGE: signed by the identity key over the measurements. -/
def execChallenge (doe : Bool) (req : List Byte) (s : State) : Host.Outcome State Fault Refusal :=
  spdmRow doe s (fun s => s.spdmReply doe req (s.chainBytes ++ s.measBytes))
/-- GET_MEASUREMENTS (R507). -/
def execGetMeasurements (doe : Bool) (req : List Byte) (s : State) : Host.Outcome State Fault Refusal :=
  spdmRow doe s (fun s => s.spdmReply doe req s.measBytes)
/-- KEY_EXCHANGE: its answer is signed too, and covers the measurements. -/
def execKeyExchange (doe : Bool) (req : List Byte) (s : State) : Host.Outcome State Fault Refusal :=
  spdmRow doe s (fun s => s.spdmReply doe req (s.chainBytes ++ s.measBytes))
/-- FINISH. -/
def execFinish (doe : Bool) (req : List Byte) (s : State) : Host.Outcome State Fault Refusal := spdmRow doe s (fun s => s.spdmReply doe req [])
/-- KEY_UPDATE. -/
def execKeyUpdate (doe : Bool) (req : List Byte) (s : State) : Host.Outcome State Fault Refusal := spdmRow doe s (fun s => s.spdmReply doe req [])
/-- HEARTBEAT. -/
def execHeartbeat (doe : Bool) (req : List Byte) (s : State) : Host.Outcome State Fault Refusal := spdmRow doe s (fun s => s.spdmReply doe req [])
/-- END_SESSION. -/
def execEndSession (doe : Bool) (req : List Byte) (s : State) : Host.Outcome State Fault Refusal := spdmRow doe s (fun s => s.spdmReply doe req [])
/-- GET_CSR: over the identity key. -/
def execGetCsr (doe : Bool) (req : List Byte) (s : State) : Host.Outcome State Fault Refusal :=
  spdmRow doe s (fun s => s.spdmReply doe req s.deviceId)

/-- SET_CERTIFICATE: in DEPLOYED a valid owner's chain is installed in slot 1 (R505). The answer tells whether it was. -/
def execSetCertificate (doe : Bool) (req : List Byte) (s : State) : Host.Outcome State Fault Refusal :=
  spdmRow doe s (fun s =>
    match if s.lcState = 2 ∧ Config.spdmAccepts (s.spdmOn doe) req = true then Config.offeredChain req else none with
    | some chain => ({ s with ownerChain := chain }).spdmReply doe req (leBytes 1 1)
    | none => s.spdmReply doe req (leBytes 1 0))

/-- VENDOR_DEFINED_REQUEST: IDE_KM within a secured session on DOE; K_SET_GO makes a stream Secure (R509). -/
def execVendorDefinedRequest (doe : Bool) (req : List Byte) (s : State) : Host.Outcome State Fault Refusal :=
  spdmRow doe s (fun s =>
    let go := if doe && Config.spdmAccepts (s.spdmOn doe) req then Config.ideSetGo req else none
    let s := s.spdmReply doe req (leBytes 1 (b2n go.isSome))
    match go with
    | some k => if k ≤ 8 then (s.setB (aSec 0x110) k true).ideWake else s
    | none => s)

end Sys2Proof.Machine
end

