-- ==== Sys2Proof/Machine/CairnCmds.lean ====
section
/-! DEFINITION. The Cairn's host side (17 R545-R551): FLUSH, CAIRN_READ and CAIRN_READ_DONE. -/

namespace Sys2Proof.Machine

/-- CR_CTL.FLUSH: starts a flush, or extends the one that runs (R545, R547, R551). -/
def State.cairnFlush (s : State) : State := ({ s with cairn := { s.cairn with flushing := true } }).cairnSync

/-- FLUSH. -/
def execFlush (s : State) : Host.Outcome State Fault Refusal := whenB s.served s (fun s => s.cairnFlush)

/-- RD_CTL.GO: a search begins for RD_SEQ and RD_MIN_SEV; ignored while BUSY (R548, R551, R559). -/
def State.cairnGo (s : State) : State :=
  if s.regB (aCairn 0x17C) 0 then s.ignored clsCairn 0
  else
    let s : State := { s with cairn := { s.cairn with reading := some (s.reg64 (aCairn 0x170), s.regF (aCairn 0x178) 8 3) } }
    (s.setB (aCairn 0x17C) 0 true).setB (aCairn 0x17C) 1 false

/-- CAIRN_READ. -/
def execCairnRead (s : State) : Host.Outcome State Fault Refusal := whenB s.served s (fun s => s.cairnGo)

/-- The record of lowest SEQ at or above `seq` with a severity of at least `sev` in a store (the list is in rising SEQ). -/
def findRec (seq sev : Nat) (l : List CairnRec) : Option CairnRec := l.find? (fun r => decide (seq ≤ r.seq) && decide (sev ≤ r.sev))

/-- The record that a read returns, and whether it is taken from flash: a record that both stores hold is taken from the buffer (R548). -/
def State.cairnPick (s : State) (seq sev : Nat) : Option (CairnRec × Bool) :=
  match findRec seq sev s.cairn.buf, findRec seq sev s.cairn.flash with
  | some b, some f => if b.seq ≤ f.seq then some (b, false) else some (f, true)
  | some b, none => some (b, false)
  | none, some f => some (f, true)
  | none, none => none

/-- RD_DATA written in one step: bytes beyond LEN read 0. -/
def State.setRdData (s : State) (b : List Byte) : State :=
  (List.range 128).foldl (fun s w => s.setRegN (aCairn (0x200 + 4 * w)) (at' b (4 * w) 4)) s

/-- The read ends (R548): DONE, FOUND where a record is held; RD_DATA and RD_FOUND hold it. -/
def State.cairnReadEnd (s : State) (seq sev : Nat) : State :=
  let s : State := { s with cairn := { s.cairn with reading := none } }
  match s.cairnPick seq sev with
  | some (r, fl) => ((s.setRdData r.bytes).setReg64 (aCairn 0x180) r.seq).setRegN (aCairn 0x17C) (2 + 4 + 8 * b2n fl)
  | none => s.setRegN (aCairn 0x17C) 2

/-- CAIRN_READ_DONE. -/
def execCairnReadDone (s : State) : Host.Outcome State Fault Refusal := whenSome s.cairn.reading s (fun q s => s.cairnReadEnd q.1 q.2)

end Sys2Proof.Machine
end

