-- ==== Sys2Proof/Machine/Pages.lean ====
section
/-! DEFINITION. Requests to a page (18 R560-R564 with the narrowings of R3, R189, R362, R410, R417, R493 and R532): EN_REQ, STOP_REQ and
ISOLATE. The operand is the page's PF0 BAR0 offset (R567). -/

namespace Sys2Proof.Machine

/-- The gauges of a page whose stop begins count no longer, and the page is OFF at once (R169; log 74). -/
def State.gaugeAtStop (s : State) (ep : Nat) : State :=
  ((List.range 8).foldl (fun s g => s.setB (aGauge ep g 0xC) 0 false) s).stopDone clsGauge ep id

/-- EN_REQ of a Confluence chiplet: a FAULTED one retests both units; from OFF or ISOLATED it comes up with the units that it has (R354; log 74). -/
def State.cfEn (s : State) (t : Nat) : State :=
  let st := s.pst clsCf t
  let s := s.enReqOn clsCf t id
  if st = stOff ∨ st = stIsolated then
    (if s.regF (rg clsCf t 0x100) 8 2 = 0 then s.pageFault clsCf t id else s.startDone clsCf t id).cfSync
  else s

/-- STOP_REQ of a Confluence chiplet: ignored while a post holds slots in it or has it as home; otherwise done at once (R362). -/
def State.cfStop (s : State) (t : Nat) : State :=
  if s.regF (rg clsCf t 0x100) 0 7 ≠ 64 ∨ s.regF (rg clsCf t 0x100) 16 8 ≠ 0 then s.ignored clsCf t
  else (s.stopReqOn clsCf t (fun s => s.stopDone clsCf t id)).cfSync

/-- Does a context whose TRANSLATION page is not OFF have a valid set that names the position (R189)? -/
def State.stackUsed (s : State) (pos : Nat) : Bool :=
  (List.range 17).any (fun c => s.pst clsXl c != stOff && [0, 1, 2, 3].any (fun k => s.setOk c k && (s.setMembers c k).contains pos))

/-- EN_REQ (R562). -/
def State.pageEn (s : State) (cls inst : Nat) : State :=
  if !statefulPage cls inst then s.ignored cls inst
  else if cls = clsPitch then s.pitchEn inst
  else if cls = clsLink then s.enReqOn cls inst (fun s => s.linkAtStart inst)
  else if cls = clsStack then (if s.fitted inst then s.enReqOn cls inst id else s.ignored cls inst)
  else if cls = clsCe then (if bitOf (s.reg (aPt inst 0)) 0 then s.enReqOn cls inst (fun s => s.ceAtStart inst) else s.ignored cls inst)
  else if cls = clsGauge then s.enReqOn cls inst (fun s => s.startDone cls inst (fun s => s.gaugeAtStop inst))
  else if cls = clsCf then s.cfEn inst
  else s.enReqOn cls inst id

/-- STOP_REQ (R562). -/
def State.pageStop (s : State) (cls inst : Nat) : State :=
  if !statefulPage cls inst then s.ignored cls inst
  else if cls = clsPitch then s.pitchStop inst
  else if cls = clsLink then s.stopReqOn cls inst (fun s => s.linkAtStop inst)
  else if cls = clsPort then s.stopReqOn cls inst (fun s => s.portAtStop inst)
  else if cls = clsStack then (if s.stackUsed inst then s.ignored cls inst else s.stopReqOn cls inst (fun s => s.stackAtStop inst))
  else if cls = clsCe then s.stopReqOn cls inst (fun s => s.ceAtStop inst)
  else if cls = clsGauge then s.stopReqOn cls inst (fun s => s.gaugeAtStop inst)
  else if cls = clsCf then s.cfStop inst
  else s.stopReqOn cls inst id

/-- ISOLATE (R562). -/
def State.pageIsolate (s : State) (cls inst : Nat) : State :=
  if !statefulPage cls inst then s.ignored cls inst
  else if cls = clsPitch then s.pitchIsolateReq inst
  else s.isolateOn cls inst

/-- A write of BLOCK_CTL (R560, R563): more than one request is ignored whole. -/
def State.blockCtl (s : State) (cls inst bits : Nat) : State :=
  if bits = 0 then s
  else if !statefulPage cls inst then s.ignored cls inst
  else if bits = 1 then s.pageEn cls inst
  else if bits = 2 then s.pageStop cls inst
  else if bits = 4 then s.pageIsolate cls inst
  else s.ignored cls inst

/-- Does a page respond to the host at the present stage (R527, R530, R536)? -/
def State.responds (s : State) (fn a : Nat) : Bool :=
  if s.stage = 0 then fn == 0 && decide (a < 0x2000)
  else if s.stage = 5 then fn == 0 && (decide (a < 0x2000) || (s.running.isSome && a / 0x1000 == 0x800))
  else s.stage != 6

/-- A request's row: it takes effect on a page that responds; a reserved range ignores the write (R566). -/
def pageRow (page : Nat) (s : State) (f : Nat → Nat → State → State) : Host.Outcome State Fault Refusal :=
  match pageAt page with
  | some (cls, inst, _) => whenB (s.responds 0 page) s (f cls inst)
  | none => .next s

/-- EN_REQ. -/
def execEnReq (page : Nat) (s : State) : Host.Outcome State Fault Refusal := pageRow page s (fun cls inst s => s.pageEn cls inst)
/-- STOP_REQ. -/
def execStopReq (page : Nat) (s : State) : Host.Outcome State Fault Refusal := pageRow page s (fun cls inst s => s.pageStop cls inst)
/-- ISOLATE. -/
def execIsolate (page : Nat) (s : State) : Host.Outcome State Fault Refusal := pageRow page s (fun cls inst s => s.pageIsolate cls inst)

end Sys2Proof.Machine
end

