-- ==== Sys2Proof/Machine/HostWrite.lean ====
section
/-! DEFINITION. Host writes (18 R552-R556, 14 R459-R470, R488-R493, and the register tables of every chapter): REGISTER_WRITE. The operands are the
function (0 for PF0, c for VF c), the offset and the bytes. An offset below 2^32 lies in BAR0; 2^32 + o is offset o of BAR4, the MSI-X table;
2^33 sets the number of enabled VFs, 2^33 + 4 the function's MSI-X mask, and 2^33 + 16 * k, in 16 B, the first and the last address of selective
IDE stream k, as configuration space does (log 75). -/

namespace Sys2Proof.Machine

/-! ### Registers without a behaviour of their own (R553, R554) -/

/-- The bits that a write of a word leaves. -/
def wordAfter (cls inst off : Nat) (old v : W32) : W32 :=
  let rw := BitVec.ofNat 32 (rwMask cls inst off)
  ((old &&& ~~~rw) ||| (v &&& rw)) &&& ~~~(v &&& BitVec.ofNat 32 (w1cMask cls inst off))

/-- A write of a word: the LO word of an RW pair is staged, its HI word commits both. -/
def State.plainWrite (s : State) (cls inst off : Nat) (v : W32) : State :=
  let a := rg cls inst off
  if pairLo cls inst off = some true then { s with staged := put s.staged a v }
  else if 4 ≤ off ∧ pairLo cls inst (off - 4) = some true then
    let lo := look (s.reg (a - 4)) s.staged (a - 4)
    { (s.setReg (a - 4) (wordAfter cls inst (off - 4) (s.reg (a - 4)) lo)).setReg a (wordAfter cls inst off (s.reg a) v) with
      staged := del s.staged (a - 4) }
  else s.setReg a (wordAfter cls inst off (s.reg a) v)

/-- A write that holds only under a condition, and is otherwise ignored. -/
def State.plainIf (s : State) (ok : Bool) (cls inst off : Nat) (v : W32) : State :=
  if ok then s.plainWrite cls inst off v else s.ignored cls inst

/-! ### The pages -/

/-- Has a context no run list in progress (R398): its lists have run to their ends, and none waits to be replayed? -/
def State.noRun (s : State) (c : Nat) : Bool :=
  let q := s.seqr c
  q.lists.isEmpty || (s.rstate c == 0 && q.ops.isEmpty && q.lists.all (fun (l : RunList) => decide (l.opn0 + l.entries ≤ q.next)))

/-- Global page (R401, R402): a WEAR_PERIOD of 0 is outside its range; PROFILE takes effect at once for a context without a run list (R398). -/
def State.writeGlobal (s : State) (off : Nat) (v : W32) : State :=
  if off = 0x200 then
    (if fld v 16 8 = 0 then s.ignored clsGlobal 0
     else
       let s := s.plainWrite clsGlobal 0 off v
       (List.range 17).foldl (fun s c => if s.noRun c then s.setRcv c { s.rcv c with profile := fld v 0 1 } else s) s)
  else if 0x240 ≤ off ∧ off < 0x680 then s.plainIf (rwMask clsGlobal 0 off == 0 || s.rstate ((off - 0x240) / 0x40) == 0) clsGlobal 0 off v
  else s.plainWrite clsGlobal 0 off v

/-- Mailbox (R570-R572): GO starts a request with the operands as they stand; a GO while BUSY is ignored, an undefined opcode ends at once. -/
def State.writeMbox (s : State) (off : Nat) (v : W32) : State :=
  if off = 0x100 ∧ bitOf v 8 = true then
    (if s.regB (aMb 0x104) 0 then s.ignored clsMbox 0
     else
       let s := s.plainWrite clsMbox 0 off v
       let s := { s with mbReq := [fld v 0 8, s.reg64 (aMb 0x108), s.regN (aMb 0x110), s.regN (aMb 0x114)] }
       let s := (s.setB (aMb 0x104) 0 true).setB (aMb 0x104) 1 false
       if 1 ≤ fld v 0 8 ∧ fld v 0 8 ≤ 5 then s else s.mbEnd cMalformed 0)
  else s.plainWrite clsMbox 0 off v

/-- REACH page: CNT_CLEAR sets every fabric counter of the page to 0 (R134, R135). -/
def State.writeReach (s : State) (r off : Nat) (v : W32) : State :=
  let s := s.plainWrite clsReach r off v
  if off = 0x400 ∧ bitOf v 2 = true then (List.range 16).foldl (fun s w => s.setRegN (rg clsReach r (0x408 + 4 * w)) 0) s else s

/-- EZTEX_LINK page: MODE is written only while the page is OFF, the ALT fields at any time (R330). -/
def State.writeLink (s : State) (l off : Nat) (v : W32) : State :=
  if off = 0x100 ∧ s.pst clsLink l ≠ stOff ∧ fld v 0 1 ≠ s.regF (aLink l 0x100) 0 1 then
    (s.plainWrite clsLink l off (setFld v 0 1 (s.regF (aLink l 0x100) 0 1))).ignored clsLink l
  else s.plainWrite clsLink l off v

/-- A context's Headwater block (R253): RANK is written only while neither slot has MAN_OK. -/
def State.writeHwc (s : State) (c off : Nat) (v : W32) : State :=
  let a := 0x400 + 0x40 * c + off
  if off = 0 then
    let s := if (s.manOk c 0 || s.manOk c 1) && fld v 0 14 != s.hwRank c then s.ignored clsPort 0 else s.plainWrite clsPort 0 a v
    let s := if bitOf v 16 then s.bind c 0 else s
    let s := if bitOf v 17 then s.bind c 1 else s
    if bitOf v 18 then s.goFront c else s
  else s.plainWrite clsPort 0 a v

/-- HEADWATER_PORT page (R250, R251): HW_CTL is written only while the page is OFF; RETRY_US and RETRY_MAX of 0 are outside their ranges. -/
def State.writePort (s : State) (p off : Nat) (v : W32) : State :=
  if off = 0x100 then s.plainIf (s.pst clsPort p == stOff) clsPort p off v
  else if off = 0x124 then s.plainIf (fld v 0 16 != 0 && fld v 16 4 != 0) clsPort p off v
  else if p = 0 ∧ 0x400 ≤ off ∧ off < 0x840 then s.writeHwc ((off - 0x400) / 0x40) ((off - 0x400) % 0x40) v
  else s.plainWrite clsPort p off v

/-- GAUGE page (R172-R176). -/
def State.writeGauge (s : State) (ep off : Nat) (v : W32) : State :=
  let g := (off - 0x100) / 0x40
  let k := (off - 0x100) % 0x40
  if off < 0x100 ∨ 0x300 ≤ off then s
  else if k = 0 then s.gaugeCtl ep g v
  else if k = 4 ∨ k = 8 ∨ k = 0x10 ∨ k = 0x14 ∨ k = 0x18 ∨ k = 0x1C then s.gaugeSet ep g k v
  else s.plainWrite clsGauge ep off v

/-- TRANSLATION page (R193, R202, R210-R212). -/
def State.writeXl (s : State) (c off : Nat) (v : W32) : State :=
  if off = 0x100 then s.setWrite c 4 v
  else if off = 0x104 then s.setWrite c 5 v
  else if 0x108 ≤ off ∧ off ≤ 0x114 then s.setWrite c ((off - 0x108) / 4) v
  else if off = 0x118 ∧ bitOf v 0 = true then s.invalGo c (bitOf v 1)
  else s.plainWrite clsXl c off v

/-- CONFLUENCE pages (R355, R360, R361): PAIR_MODE 3 is reserved; as it leaves HOLD, posts that wait for digests alone go on. -/
def State.writeCf (s : State) (t off : Nat) (v : W32) : State :=
  if t = 12 ∧ off = 0x100 then
    (if fld v 0 2 = 3 then s.ignored clsCf 12
     else
       let held := s.regF (rg clsCf 12 0x100) 0 2 == 2 && fld v 0 2 != 2
       let s := (s.plainWrite clsCf 12 off v).setB (rg clsCf 12 0x108) 2 (fld v 0 2 != 0 && (s.plane == 1 || s.plane == 2))
       if held then s.pumpAll else s)
  else if t = 12 ∧ 0x200 ≤ off ∧ off ≤ 0x240 then s.stageWrite ((off - 0x200) / 4) v
  else s.plainWrite clsCf t off v

/-- RANK_TABLE page (R331): SELF_COORD and TORUS_SIZE while every link is OFF, sizes within their ranges; JOB_ID and SELF_RANK while VALID is 0. -/
def State.writeRank (s : State) (off : Nat) (v : W32) : State :=
  let off' := (List.range 76).all (fun l => s.pst clsLink l == stOff)
  let sizes := decide (1 ≤ fld v 0 5) && decide (fld v 0 5 ≤ 16) && decide (1 ≤ fld v 8 5) && decide (fld v 8 5 ≤ 16)
    && decide (1 ≤ fld v 16 6) && decide (fld v 16 6 ≤ 32)
  let j := (off - 0x120) / 0x20
  let k := (off - 0x120) % 0x20
  if off = 0x100 then s.plainIf off' clsRank 0 off v
  else if off = 0x104 then s.plainIf (off' && sizes) clsRank 0 off v
  else if off = 0x108 then s.plainIf (decide (1 ≤ v.toNat) && decide (v.toNat ≤ 1000000)) clsRank 0 off v
  else if off < 0x120 ∨ 0x1A0 ≤ off then s
  else if k = 0 then s.jobCtl j v
  else if k = 4 then s.plainIf (!s.jobValid j) clsRank 0 off v
  else if k = 8 then
    (if 1000 < fld v 16 10 then s.ignored clsRank 0
     else if s.jobValid j ∧ fld v 0 14 ≠ s.selfRank j then (s.setF (aJob j 8) 16 10 (fld v 16 10)).ignored clsRank 0
     else s.plainIf true clsRank 0 off v)
  else s

/-- WEIR page (R431-R433): under LOCK the control fields are read-only. -/
def State.writeWeir (s : State) (off : Nat) (v : W32) : State :=
  if off = 0x100 then
    let s := if s.regB (aWeir 0x100) 1 then s else s.plainWrite clsWeir 0 off v
    if bitOf v 1 then s.setB (aWeir 0x100) 1 true else s
  else if 0x124 ≤ off ∧ off ≤ 0x144 then s.weirWrite off v
  else s.plainWrite clsWeir 0 off v

/-- SITE_TIME page (R437, R445, R455, R456). -/
def State.writeTime (s : State) (off : Nat) (v : W32) : State :=
  if off = 0x100 then s.stCtl v
  else if off = 0x114 then s.timeSet v
  else if off = 0x120 then (if s.timeSrc = 0 ∧ s.regB (aTime 0x100) 17 = false then s else s.plainWrite clsTime 0 off v)
  else if off = 0x130 then s.plainIf (decide (1 ≤ fld v 0 17) && decide (fld v 0 17 ≤ 86400)) clsTime 0 off v
  else if off = 0x134 then s.plainIf (decide (8 ≤ fld v 0 16)) clsTime 0 off v
  else s.plainWrite clsTime 0 off v

/-- CAIRN page (R548, R551): a MIN_SEV above 4 leaves the field unchanged; FLUSH and GO act. -/
def State.writeCairn (s : State) (off : Nat) (v : W32) : State :=
  if off = 0x100 then
    let s := s.plainIf (decide (fld v 0 3 ≤ 4)) clsCairn 0 off v
    if bitOf v 8 then s.cairnFlush else s
  else if off = 0x178 then
    let s := s.plainWrite clsCairn 0 off v
    if bitOf v 0 then s.cairnGo else s
  else s.plainWrite clsCairn 0 off v

/-- COMMAND_ENGINE page (R471, R488): CQ_BASE and CQ_LOG2 while the page is OFF; the MEMBER registers are PF0's. -/
def State.writeCe (s : State) (fn c off : Nat) (v : W32) : State :=
  let idle := s.pst clsCe c == stOff
  if off = 0x108 ∨ off = 0x10C then s.plainIf idle clsCe c off v
  else if off = 0x110 then (s.plainIf (idle && decide (4 ≤ fld v 0 5) && decide (fld v 0 5 ≤ 16)) clsCe c off v).ceSync c
  else if off = 0x114 then s.cqHead c v
  else if off = 0x128 then s.plainIf (fn == 0) clsCe c off v
  else if off = 0x12C then s.plainIf (fn == 0 && decide (fld v 0 19 ≤ 262144)) clsCe c off v
  else s.plainWrite clsCe c off v

/-- A write of a word of a page. -/
def State.pageWrite (s : State) (fn cls inst off : Nat) (v : W32) : State :=
  if off = 0x010 then s.blockCtl cls inst (fld v 0 3)
  else if off < 0x100 then s.plainWrite cls inst off v
  else if cls = clsGlobal then s.writeGlobal off v
  else if cls = clsMbox then s.writeMbox off v
  else if cls = clsReach then s.writeReach inst off v
  else if cls = clsPitch then
    (if off = 0x100 then (s.plainIf (decide (5 ≤ fld v 0 6) && decide (fld v 0 6 ≤ 50)) cls inst off v).retSync inst else s)
  else if cls = clsLink then s.writeLink inst off v
  else if cls = clsPort then s.writePort inst off v
  else if cls = clsGauge then s.writeGauge inst off v
  else if cls = clsXl then s.writeXl inst off v
  else if cls = clsCf then s.writeCf inst off v
  else if cls = clsRank then s.writeRank off v
  else if cls = clsWeir then s.writeWeir off v
  else if cls = clsTime then s.writeTime off v
  else if cls = clsBg then
    (let s := s.plainWrite cls inst off v
     if off = 0x100 ∧ bitOf v 0 = true then s.bgApply else s)
  else if cls = clsCairn then s.writeCairn off v
  else if cls = clsCe ∧ inst < 0x100 then s.writeCe fn inst off v
  else s.plainWrite cls inst off v

/-! ### Ranges without a header: tables (R332, R333) and command slots (R465-R470) -/

/-- A write of a word outside the pages: rank table, group entries, member list; every other range ignores it. -/
def State.tableWrite (s : State) (a : Nat) (v : W32) : State :=
  if 0x420000 ≤ a ∧ a < 0x460000 then s.setReg a (v &&& 0x80007FFF)
  else if 0x460000 ≤ a ∧ a < 0x468000 then
    (if a % 8 = 0 then s.groupWord0 ((a - 0x460000) / 8) v else s.groupWord1 ((a - 0x460000) / 8) v)
  else if 0x480000 ≤ a ∧ a < 0x500000 then
    (s.memberWrite ((a - 0x480000) / 2) (fld v 0 16)).memberWrite ((a - 0x480000) / 2 + 1) (fld v 16 16)
  else s

/-- The context and the byte of its slots that a BAR0 offset of a function names, if it names one (R464, R465). -/
def cmdAt (fn a : Nat) : Option (Nat × Nat) :=
  if fn = 0 then
    (if 0x10000 ≤ a ∧ a < 0x10000 + 0x8000 * 17 ∧ 0x1000 ≤ a % 0x8000 ∧ a % 0x8000 < 0x5000 then some ((a - 0x10000) / 0x8000, a % 0x8000 - 0x1000)
     else none)
  else if 0x1000 ≤ a ∧ a < 0x5000 then some (fn, a - 0x1000) else none

/-- Bytes written into the slots of a context, within one slot. A write of SEQ that makes no slot satisfy R468 is counted (R470). -/
def State.slotWrite (s : State) (c o : Nat) (b : List Byte) : State :=
  let s := { s with slotMem := writeBytes s.slotMem (c * 0x4000 + o) b }
  let want := (s.regN (aCe c 0x104) + 1) % 2 ^ 32
  if o % 64 + b.length ≤ 60 then s
  else if o / 64 = want % 256 ∧ at' (s.cmdSlot c (o / 64)) 60 4 = want then s
  else s.incSat (aCe c 0x130)

/-! ### Windows (R464, R465, R490, R493) -/

/-- Where a word of a function's BAR0 lies: its PF0 address, or none where the range ignores writes. The CONTEXT page gives the VF its blocks of
shared pages, those that the Protection Table does not withhold; its job block is read-only. -/
def State.wordAt (s : State) (fn a : Nat) : Option Nat :=
  if fn = 0 then (if a < 0x4000000 then some a else none)
  else if a < 0x1000 then some (pageBase clsCe fn + a)
  else if 0x8000 ≤ a ∧ a < 0x9000 then some (pageBase clsXl fn + (a - 0x8000))
  else if 0x9000 ≤ a ∧ a < 0xA000 then
    let o := a - 0x9000
    if o < 0x100 then some (pageBase clsCe (0x100 + fn) + o)
    else if o < 0x140 then (if bitOf (s.reg (aPt fn 0)) 1 then some (aHwc fn (o - 0x100)) else none)
    else if o < 0x180 then some (aRc fn (o - 0x140))
    else if o = 0x180 then some (aStage fn)
    else none
  else none

/-- A word of a function's BAR0 written. PF0's writes to the slots of other contexts are ignored (R465). -/
def State.wordWrite (s : State) (fn a : Nat) (v : W32) : State :=
  if !s.responds fn a then s
  else match cmdAt fn a with
    | some (c, o) => if c = fn then s.slotWrite c o (leBytes 4 v.toNat) else s
    | none =>
      match s.wordAt fn a with
      | none => s
      | some w =>
        match pageAt w with
        | some (cls, inst, off) => s.pageWrite fn cls inst off v
        | none => s.tableWrite w v

/-- Successive words in increasing address order (R552). -/
def State.wordsWrite (s : State) (fn : Nat) : Nat → Nat → List Byte → State
  | 0, _, _ => s
  | n + 1, a, b => (s.wordWrite fn a (BitVec.ofNat 32 (at' b 0 4))).wordsWrite fn n (a + 4) (b.drop 4)

/-- The page of a function's BAR0 in which an offset lies (R464, R552, R566). -/
def pageOf (fn a : Nat) : Option (Nat × Nat) :=
  if fn = 0 then (pageAt a).map (fun e => (e.1, e.2.1))
  else if a < 0x1000 then some (clsCe, fn)
  else if 0x8000 ≤ a ∧ a < 0x9000 then some (clsXl, fn)
  else if 0x9000 ≤ a ∧ a < 0xA000 then some (clsCe, 0x100 + fn)
  else none

/-- Aligned words written. A write of both BLOCK_CTL and ERR_SUMMARY does not clear the WR_IGNORED that its own ignored request sets (R556). -/
def State.alignedWrite (s : State) (fn a : Nat) (b : List Byte) : State :=
  let t := s.wordsWrite fn (b.length / 4) a b
  if b.length = 8 ∧ a % 0x1000 = 0x010 then
    match pageOf fn a with
    | some (cls, inst) =>
      if ((s.setB (rg cls inst 0x014) 0 false).wordWrite fn a (BitVec.ofNat 32 (at' b 0 4))).regB (rg cls inst 0x014) 0 then t.ignored cls inst else t
    | none => t
  else t

/-- A write of BAR0 (R552). One that crosses command slots is taken as a write outside them is (log 139). -/
def State.bar0Write (s : State) (fn a : Nat) (b : List Byte) : State :=
  let n := b.length
  let aligned := if n ≤ 8 then (n == 4 || n == 8) && isMul a n else isMul a 4 && isMul n 4
  match cmdAt fn a with
  | some (c, o) =>
    if n ≠ 0 ∧ o / 64 = (o + n - 1) / 64 then (if c = fn ∧ s.responds fn a then s.slotWrite c o b else s)
    else if aligned then s.alignedWrite fn a b
    else if c = fn ∧ s.responds fn a then s.ignored clsCe c else s
  | none =>
    if fn = 0 ∧ n = 2 ∧ 0x480000 ≤ a ∧ a < 0x500000 ∧ a % 2 = 0 then
      (if s.responds fn a then s.memberWrite ((a - 0x480000) / 2) (at' b 0 2) else s)
    else if aligned then s.alignedWrite fn a b
    else match pageOf fn a with
      | some (cls, inst) => if s.responds fn a then s.ignored cls inst else s
      | none => s

/-! ### BAR4 and configuration space (R459, R463, R486) -/

/-- A word of the MSI-X table: address LO and HI, data, vector control; the pending bits are read-only. -/
def State.msixWrite (s : State) (fn o : Nat) (v : W32) : State :=
  let vec := o / 16
  let key := fn * 128 + vec
  let (addr, data, masked) := look (0, 0, true) s.msix key
  if vecsOf fn ≤ vec then s
  else if o % 16 = 0 then { s with msix := put s.msix key (addr / 2 ^ 32 * 2 ^ 32 + v.toNat, data, masked) }
  else if o % 16 = 4 then { s with msix := put s.msix key (addr % 2 ^ 32 + 2 ^ 32 * v.toNat, data, masked) }
  else if o % 16 = 8 then { s with msix := put s.msix key (addr, v.toNat, masked) }
  else if bitOf v 0 then { s with msix := put s.msix key (addr, data, true) }
  else s.msiUnmask fn vec

/-- The number of enabled VFs: none before FIRMWARE (R527). -/
def State.setVfs (s : State) (n : Nat) : State :=
  if 1 ≤ s.stage ∧ s.stage ≤ 4 ∧ n ≤ 16 then s.setF (rg clsPcie 0 0x100) 8 5 n else s

/-- The function's MSI-X mask: as it clears, pending messages are sent. -/
def State.fnMask (s : State) (fn : Nat) (masked : Bool) : State :=
  if masked then { s with msixFnMask := ins s.msixFnMask fn }
  else (List.range (vecsOf fn)).foldl (fun s v => if (look (0, 0, true) s.msix (fn * 128 + v)).2.2 then s else s.msiRetry fn v)
    { s with msixFnMask := rem s.msixFnMask fn }

/-- A write that arrives from the host. BAR4 takes none before FIRMWARE (R527). -/
def State.hostWrite (s : State) (fn off : Nat) (b : List Byte) : State :=
  let v : W32 := BitVec.ofNat 32 (at' b 0 4)
  if off < 2 ^ 32 then s.bar0Write fn off b
  else if off < 2 ^ 32 + 0x8000 then
    (if s.served = false ∨ b.length ≠ 4 ∧ b.length ≠ 8 ∨ off % b.length ≠ 0 then s
     else
       let s := s.msixWrite fn (off - 2 ^ 32) v
       if b.length = 8 then s.msixWrite fn (off - 2 ^ 32 + 4) (BitVec.ofNat 32 (at' b 4 4)) else s)
  else if off = 2 ^ 33 ∧ fn = 0 then s.setVfs v.toNat
  else if off = 2 ^ 33 + 4 then s.fnMask fn (bitOf v 0)
  else if fn = 0 ∧ 2 ^ 33 + 16 ≤ off ∧ off ≤ 2 ^ 33 + 128 ∧ off % 16 = 0 ∧ b.length = 16 then
    ({ s with ideSel := put s.ideSel ((off - 2 ^ 33) / 16) (at' b 0 8, at' b 8 8) }).ideWake
  else s

/-- Is an offset in a BAR, whose requests need IDE where the context's entry asks for it (R509)? -/
def inBar (off : Nat) : Bool := decide (off < 2 ^ 33)

/-- REGISTER_WRITE: a write of a function that exists; with an ATS translation type it is an Unsupported Request (R460), and without the Secure
stream that IDE_REQ asks for it is discarded (R509). -/
def execRegisterWrite (fn off : Nat) (bytes : List Byte) (tlp : Tlp) (s : State) : Host.Outcome State Fault Refusal :=
  onUnit (decide (fn < 17)) (s.fnUp fn && s.stage != 6) s (fun s =>
    let s := s.tlpIn
    if tlp.ats then s.urSent
    else if inBar off && !s.ideIn fn tlp then s
    else s.hostWrite fn off bytes)

end Sys2Proof.Machine
end

