-- ==== Sys2Proof/Machine/Physical.lean ====
section
/-! DEFINITION. Cages and coolant (19 R577, R585): CAGE_INSERT, CAGE_REMOVE and COOLANT_ALARM. -/

namespace Sys2Proof.Machine

/-- CAGE_INSERT (R251, R577): a Headwater port's MODULE_PRESENT becomes 1; nothing starts. `link` tells an Eztex cage from a Headwater one. -/
def execCageInsert (link : Bool) (n : Nat) (s : State) : Host.Outcome State Fault Refusal :=
  onUnit (if link then decide (n < 76) else decide (n < 32)) (!link) s (fun s => s.setB (aPort n 0x104) 1 true)

/-- CAGE_REMOVE (R562, R577): an Eztex link that starts or runs faults with REPLAY_LIMIT; a Headwater port that starts or runs is faulted (log 35), the
streams of one that runs move (R235), and its MODULE_PRESENT becomes 0. -/
def execCageRemove (link : Bool) (n now : Nat) (s : State) : Host.Outcome State Fault Refusal :=
  onUnit (if link then decide (n < 76) else decide (n < 32)) true s (fun s =>
    let s := s.atTime now
    if link then (if s.linkUp n || s.pst clsLink n == stStarting then s.linkFault n 7 else s)
    else
      let up := s.isOn clsPort n
      let s := s.setB (aPort n 0x104) 1 false
      let s := if up || s.pst clsPort n == stStarting then s.pageFault clsPort n (fun s => s.portAtStop n) else s
      if up then s.portLeave n else s)

/-- COOLANT_ALARM (R585): an inlet above 42 C or a flow below 32 L/min, in tenths, that has lasted 1 s. -/
def execCoolantAlarm (inletTenths flowTenths lastedMs : Nat) (s : State) : Host.Outcome State Fault Refusal :=
  whenB (s.inputStage == 2 && (decide (420 < inletTenths) || decide (flowTenths < 320)) && decide (1000 ≤ lastedMs)) s (fun s =>
    s.cairnLog 5 clsWeir 0 0 noCtx [])

end Sys2Proof.Machine
end

