-- ==== Sys2Proof/Machine/Scalar.lean ====
section
/-! DEFINITION. Scalar instructions, formats S and I (02 R41), and the commands UNDEFINED_OPCODE and INSTRUCTION_FETCH_FAULT (R38,
R26). Arithmetic is on 64-bit two's-complement values and wraps; a shift amount is the low 6 bits of its operand. -/

namespace Sys2Proof.Machine

/-- A truth value in gd. -/
def bit64 (b : Bool) : W64 := if b then 1 else 0

/-- The sign-extended imm32. -/
def Issue.imm (i : Issue) : W64 := sext32 (immOf i.w)

/-- ADD: gd = gs1 + gs2. -/
def execAdd (a : SlotId) (s : State) := execG 0x01 a s (fun i => i.v1 + i.v2)
/-- SUB: gd = gs1 - gs2. -/
def execSub (a : SlotId) (s : State) := execG 0x02 a s (fun i => i.v1 - i.v2)
/-- AND. -/
def execAnd (a : SlotId) (s : State) := execG 0x03 a s (fun i => i.v1 &&& i.v2)
/-- OR. -/
def execOr (a : SlotId) (s : State) := execG 0x04 a s (fun i => i.v1 ||| i.v2)
/-- XOR. -/
def execXor (a : SlotId) (s : State) := execG 0x05 a s (fun i => i.v1 ^^^ i.v2)
/-- SHL: by the low 6 bits of gs2. -/
def execShl (a : SlotId) (s : State) := execG 0x06 a s (fun i => i.v1 <<< (i.v2.toNat % 64))
/-- SHR: logical right shift. -/
def execShr (a : SlotId) (s : State) := execG 0x07 a s (fun i => i.v1 >>> (i.v2.toNat % 64))
/-- SRA: arithmetic right shift. -/
def execSra (a : SlotId) (s : State) := execG 0x08 a s (fun i => i.v1.sshiftRight (i.v2.toNat % 64))
/-- MUL: the low 64 bits of the product. -/
def execMul (a : SlotId) (s : State) := execG 0x09 a s (fun i => i.v1 * i.v2)
/-- MULHU: the high 64 bits of the unsigned product. -/
def execMulhu (a : SlotId) (s : State) := execG 0x0A a s (fun i => BitVec.ofNat 64 (i.v1.toNat * i.v2.toNat / 2 ^ 64))
/-- CMPEQ. -/
def execCmpeq (a : SlotId) (s : State) := execG 0x0B a s (fun i => bit64 (i.v1 == i.v2))
/-- CMPLT: signed. -/
def execCmplt (a : SlotId) (s : State) := execG 0x0C a s (fun i => bit64 (i.v1.slt i.v2))
/-- CMPLTU: unsigned. -/
def execCmpltu (a : SlotId) (s : State) := execG 0x0D a s (fun i => bit64 (i.v1.ult i.v2))
/-- ADDI: gd = gs1 + sign-extended imm32. -/
def execAddi (a : SlotId) (s : State) := execG 0x10 a s (fun i => i.v1 + i.imm)
/-- ANDI. -/
def execAndi (a : SlotId) (s : State) := execG 0x11 a s (fun i => i.v1 &&& i.imm)
/-- ORI. -/
def execOri (a : SlotId) (s : State) := execG 0x12 a s (fun i => i.v1 ||| i.imm)
/-- XORI. -/
def execXori (a : SlotId) (s : State) := execG 0x13 a s (fun i => i.v1 ^^^ i.imm)
/-- SHLI: by imm32[5:0]. -/
def execShli (a : SlotId) (s : State) := execG 0x14 a s (fun i => i.v1 <<< wf i.w 0 6)
/-- SHRI: logical, by imm32[5:0]. -/
def execShri (a : SlotId) (s : State) := execG 0x15 a s (fun i => i.v1 >>> wf i.w 0 6)
/-- MOVI: gd = sign-extended imm32. -/
def execMovi (a : SlotId) (s : State) := execG 0x16 a s (fun i => i.imm)
/-- MOVHI: gd[63:32] = imm32; gd[31:0] unchanged. -/
def execMovhi (a : SlotId) (s : State) :=
  execG 0x17 a s (fun i => BitVec.ofNat 64 ((i.x.greg (gdOf i.w)).toNat % 2 ^ 32 + (immOf i.w).toNat * 2 ^ 32))

/-- An undefined opcode faults the slot with ILLEGAL before any effect (R38). -/
def execUndefinedOpcode (a : SlotId) (s : State) : Host.Outcome State Fault Refusal :=
  let x := (s.rill (slotK a)).slot a.slot
  onUnit (slotOk a)
    (s.mayIssue a && (s.fetchFault (slotK a) x.pc).isNone && (formatOf (opOf (s.instrAt (slotK a) a.slot))).isNone) s
    (fun s => (s.touchIssue a).slotFault (slotK a) a.slot fIllegal)

/-- Fetching outside the rill store faults with ADDR, from a poisoned line with POISON (R26, R28). -/
def execInstructionFetchFault (a : SlotId) (s : State) : Host.Outcome State Fault Refusal :=
  let x := (s.rill (slotK a)).slot a.slot
  onUnit (slotOk a) (s.mayIssue a && (s.fetchFault (slotK a) x.pc).isSome) s
    (fun s => (s.touchIssue a).slotFault (slotK a) a.slot ((s.fetchFault (slotK a) x.pc).getD fAddr))

end Sys2Proof.Machine
end

