-- ==== Sys2Proof/Machine/Dispatch.lean ====
section
/-! DEFINITION. Every command and its meaning: one arm for each constructor of `Instr`. -/

namespace Sys2Proof.Machine

/-- The effect of a command on everything but the queue of waiting commands. -/
def exec (i : Instr) (s : State) : Host.Outcome State Fault Refusal :=
  match i with
  | .add a => Sys2Proof.Machine.execAdd a s
  | .sub a => Sys2Proof.Machine.execSub a s
  | .and a => Sys2Proof.Machine.execAnd a s
  | .or a => Sys2Proof.Machine.execOr a s
  | .xor a => Sys2Proof.Machine.execXor a s
  | .shl a => Sys2Proof.Machine.execShl a s
  | .shr a => Sys2Proof.Machine.execShr a s
  | .sra a => Sys2Proof.Machine.execSra a s
  | .mul a => Sys2Proof.Machine.execMul a s
  | .mulhu a => Sys2Proof.Machine.execMulhu a s
  | .cmpeq a => Sys2Proof.Machine.execCmpeq a s
  | .cmplt a => Sys2Proof.Machine.execCmplt a s
  | .cmpltu a => Sys2Proof.Machine.execCmpltu a s
  | .addi a => Sys2Proof.Machine.execAddi a s
  | .andi a => Sys2Proof.Machine.execAndi a s
  | .ori a => Sys2Proof.Machine.execOri a s
  | .xori a => Sys2Proof.Machine.execXori a s
  | .shli a => Sys2Proof.Machine.execShli a s
  | .shri a => Sys2Proof.Machine.execShri a s
  | .movi a => Sys2Proof.Machine.execMovi a s
  | .movhi a => Sys2Proof.Machine.execMovhi a s
  | .ld8 a => Sys2Proof.Machine.execLd8 a s
  | .ld32 a => Sys2Proof.Machine.execLd32 a s
  | .ld64 a => Sys2Proof.Machine.execLd64 a s
  | .st8 a => Sys2Proof.Machine.execSt8 a s
  | .st32 a => Sys2Proof.Machine.execSt32 a s
  | .st64 a => Sys2Proof.Machine.execSt64 a s
  | .ldp64 a => Sys2Proof.Machine.execLdp64 a s
  | .stp64 a => Sys2Proof.Machine.execStp64 a s
  | .amoadd a => Sys2Proof.Machine.execAmoadd a s
  | .amoswap a => Sys2Proof.Machine.execAmoswap a s
  | .j a => Sys2Proof.Machine.execJ a s
  | .jr a => Sys2Proof.Machine.execJr a s
  | .call a => Sys2Proof.Machine.execCall a s
  | .beq a => Sys2Proof.Machine.execBeq a s
  | .bne a => Sys2Proof.Machine.execBne a s
  | .blt a => Sys2Proof.Machine.execBlt a s
  | .bltu a => Sys2Proof.Machine.execBltu a s
  | .spawn a => Sys2Proof.Machine.execSpawn a s
  | .exit a => Sys2Proof.Machine.execExit a s
  | .exitComplete a => Sys2Proof.Machine.execExitComplete a s
  | .yieldOp a => Sys2Proof.Machine.execYield a s
  | .yieldExpiry a cyc => Sys2Proof.Machine.execYieldExpiry a cyc s
  | .waitev a => Sys2Proof.Machine.execWaitev a s
  | .signal a => Sys2Proof.Machine.execSignal a s
  | .tclaim a => Sys2Proof.Machine.execTclaim a s
  | .tfree a => Sys2Proof.Machine.execTfree a s
  | .fence a => Sys2Proof.Machine.execFence a s
  | .slotWake a => Sys2Proof.Machine.execSlotWake a s
  | .tld a => Sys2Proof.Machine.execTld a s
  | .tst a => Sys2Proof.Machine.execTst a s
  | .tzero a => Sys2Proof.Machine.execTzero a s
  | .tmma a => Sys2Proof.Machine.execTmma a s
  | .tmmas a => Sys2Proof.Machine.execTmmas a s
  | .tcvt a => Sys2Proof.Machine.execTcvt a s
  | .vadd a => Sys2Proof.Machine.execVadd a s
  | .vmul a => Sys2Proof.Machine.execVmul a s
  | .vmax a => Sys2Proof.Machine.execVmax a s
  | .vfma a => Sys2Proof.Machine.execVfma a s
  | .vexp2 a => Sys2Proof.Machine.execVexp2 a s
  | .vrcp a => Sys2Proof.Machine.execVrcp a s
  | .vrsqrt a => Sys2Proof.Machine.execVrsqrt a s
  | .vredadd a => Sys2Proof.Machine.execVredadd a s
  | .vredmax a => Sys2Proof.Machine.execVredmax a s
  | .vbcast a => Sys2Proof.Machine.execVbcast a s
  | .unitOpComplete p u slot check now => Sys2Proof.Machine.execUnitOpComplete p u slot check now s
  | .sarm a => Sys2Proof.Machine.execSarm a s
  | .srearm a => Sys2Proof.Machine.execSrearm a s
  | .sstop a => Sys2Proof.Machine.execSstop a s
  | .racq a => Sys2Proof.Machine.execRacq a s
  | .rrel a => Sys2Proof.Machine.execRrel a s
  | .send a => Sys2Proof.Machine.execSend a s
  | .recv a => Sys2Proof.Machine.execRecv a s
  | .mfree a => Sys2Proof.Machine.execMfree a s
  | .csrr a => Sys2Proof.Machine.execCsrr a s
  | .csrw a => Sys2Proof.Machine.execCsrw a s
  | .trap a => Sys2Proof.Machine.execTrap a s
  | .nop a => Sys2Proof.Machine.execNop a s
  | .taskWdExpiry a cyc => Sys2Proof.Machine.execTaskWdExpiry a cyc s
  | .rillWdExpiry p => Sys2Proof.Machine.execRillWdExpiry p s
  | .write n => Sys2Proof.Machine.execWrite n s
  | .read n => Sys2Proof.Machine.execRead n s
  | .readData n => Sys2Proof.Machine.execReadData n s
  | .ack n => Sys2Proof.Machine.execAck n s
  | .msg n => Sys2Proof.Machine.execMsg n s
  | .msgRingEntry p => Sys2Proof.Machine.execMsgRingEntry p s
  | .poolRead n => Sys2Proof.Machine.execPoolRead n s
  | .poolWrite n => Sys2Proof.Machine.execPoolWrite n s
  | .holePacketArrival n => Sys2Proof.Machine.execHolePacketArrival n s
  | .packetAgeDiscard n router cyc => Sys2Proof.Machine.execPacketAgeDiscard n router cyc s
  | .flitEccError n router err now => Sys2Proof.Machine.execFlitEccError n router err now s
  | .memoryUncorrError p pool line now => Sys2Proof.Machine.execMemoryUncorrError p pool line now s
  | .spush n => Sys2Proof.Machine.execSpush n s
  | .sdata n => Sys2Proof.Machine.execSdata n s
  | .scredit n => Sys2Proof.Machine.execScredit n s
  | .hwConfirm n => Sys2Proof.Machine.execHwConfirm n s
  | .ezConfirm n => Sys2Proof.Machine.execEzConfirm n s
  | .streamStartDone p q => Sys2Proof.Machine.execStreamStartDone p q s
  | .streamStopDone p q => Sys2Proof.Machine.execStreamStopDone p q s
  | .streamTileIssue p q => Sys2Proof.Machine.execStreamTileIssue p q s
  | .streamOutInject p q => Sys2Proof.Machine.execStreamOutInject p q s
  | .sread n => Sys2Proof.Machine.execSread n s
  | .swrite n => Sys2Proof.Machine.execSwrite n s
  | .sfill n => Sys2Proof.Machine.execSfill n s
  | .sdrain n => Sys2Proof.Machine.execSdrain n s
  | .stackAccessComplete n corrected => Sys2Proof.Machine.execStackAccessComplete n corrected s
  | .translationWalkDone n corrected => Sys2Proof.Machine.execTranslationWalkDone n corrected s
  | .hwOpen n => Sys2Proof.Machine.execHwOpen n s
  | .hwClose n => Sys2Proof.Machine.execHwClose n s
  | .hwRearm n => Sys2Proof.Machine.execHwRearm n s
  | .hwSend n => Sys2Proof.Machine.execHwSend n s
  | .fetchIssue port slot => Sys2Proof.Machine.execFetchIssue port slot s
  | .data port d => Sys2Proof.Machine.execData port d s
  | .endMsg port d => Sys2Proof.Machine.execEndMsg port d s
  | .gradAck port d => Sys2Proof.Machine.execGradAck port d s
  | .fetchRetryTimeout port slot now => Sys2Proof.Machine.execFetchRetryTimeout port slot now s
  | .gradRetryTimeout n now => Sys2Proof.Machine.execGradRetryTimeout n now s
  | .neighbourDiscovery port body => Sys2Proof.Machine.execNeighbourDiscovery port body s
  | .echoRequest port body => Sys2Proof.Machine.execEchoRequest port body s
  | .pfcPause port prio pause => Sys2Proof.Machine.execPfcPause port prio pause s
  | .headwaterLinkDown port now => Sys2Proof.Machine.execHeadwaterLinkDown port now s
  | .headwaterPortUp port now => Sys2Proof.Machine.execHeadwaterPortUp port now s
  | .hostFetchReadDone slot frame => Sys2Proof.Machine.execHostFetchReadDone slot frame s
  | .hostGradWriteDone n => Sys2Proof.Machine.execHostGradWriteDone n s
  | .bind ctx slot => Sys2Proof.Machine.execBind ctx slot s
  | .bindDone ctx slot => Sys2Proof.Machine.execBindDone ctx slot s
  | .frontGo ctx => Sys2Proof.Machine.execFrontGo ctx s
  | .layerRebind ctx now => Sys2Proof.Machine.execLayerRebind ctx now s
  | .ezOpen n => Sys2Proof.Machine.execEzOpen n s
  | .ezClose n => Sys2Proof.Machine.execEzClose n s
  | .ezRearm n => Sys2Proof.Machine.execEzRearm n s
  | .ezContrib n check => Sys2Proof.Machine.execEzContrib n check s
  | .ezSend n => Sys2Proof.Machine.execEzSend n s
  | .opAdmit ctx now => Sys2Proof.Machine.execOpAdmit ctx now s
  | .slotReservationGrant now => Sys2Proof.Machine.execSlotReservationGrant now s
  | .reduceFallback ctx opn now => Sys2Proof.Machine.execReduceFallback ctx opn now s
  | .codewordReceive link lanes => Sys2Proof.Machine.execCodewordReceive link lanes s
  | .idle link => Sys2Proof.Machine.execIdle link s
  | .ackCredit link => Sys2Proof.Machine.execAckCredit link s
  | .nak link => Sys2Proof.Machine.execNak link s
  | .train link f => Sys2Proof.Machine.execTrain link f s
  | .linkTrainingDone link now => Sys2Proof.Machine.execLinkTrainingDone link now s
  | .linkTrainingTimeout link step now => Sys2Proof.Machine.execLinkTrainingTimeout link step now s
  | .linkStopDone link => Sys2Proof.Machine.execLinkStopDone link s
  | .grant n => Sys2Proof.Machine.execGrant n s
  | .chunk n check => Sys2Proof.Machine.execChunk n check s
  | .count n => Sys2Proof.Machine.execCount n s
  | .abort n => Sys2Proof.Machine.execAbort n s
  | .p2p n => Sys2Proof.Machine.execP2p n s
  | .p2pGrant n => Sys2Proof.Machine.execP2pGrant n s
  | .bcastStart n => Sys2Proof.Machine.execBcastStart n s
  | .bcastOpen n => Sys2Proof.Machine.execBcastOpen n s
  | .bcastAbort n => Sys2Proof.Machine.execBcastAbort n s
  | .bcastAck n => Sys2Proof.Machine.execBcastAck n s
  | .bcastTimeout job now => Sys2Proof.Machine.execBcastTimeout job now s
  | .jobTStart job now => Sys2Proof.Machine.execJobTStart job now s
  | .digest n => Sys2Proof.Machine.execDigest n s
  | .cbar n => Sys2Proof.Machine.execCbar n s
  | .wirePacketForward n => Sys2Proof.Machine.execWirePacketForward n s
  | .keyRetentionExpiry now => Sys2Proof.Machine.execKeyRetentionExpiry now s
  | .collMemberLost ctx opn now => Sys2Proof.Machine.execCollMemberLost ctx opn now s
  | .twinDigestTimeout ctx opn chunk now => Sys2Proof.Machine.execTwinDigestTimeout ctx opn chunk now s
  | .groupEntryValidate g word0 => Sys2Proof.Machine.execGroupEntryValidate g word0 s
  | .jobCtlWrite job value => Sys2Proof.Machine.execJobCtlWrite job value s
  | .stageWrite ctx value => Sys2Proof.Machine.execStageWrite ctx value s
  | .confluenceRetestDone t okMask => Sys2Proof.Machine.execConfluenceRetestDone t okMask s
  | .spareSwap p => Sys2Proof.Machine.execSpareSwap p s
  | .cmtFlashWriteDone => Sys2Proof.Machine.execCmtFlashWriteDone s
  | .holdRestore ctx => Sys2Proof.Machine.execHoldRestore ctx s
  | .rebuildListDone ctx code => Sys2Proof.Machine.execRebuildListDone ctx code s
  | .commitPointComplete ctx now => Sys2Proof.Machine.execCommitPointComplete ctx now s
  | .drainHoldResume ctx => Sys2Proof.Machine.execDrainHoldResume ctx s
  | .wearSkip ctx now => Sys2Proof.Machine.execWearSkip ctx now s
  | .inputStageClose now mv => Sys2Proof.Machine.execInputStageClose now mv s
  | .powerChipletEnable now capMv => Sys2Proof.Machine.execPowerChipletEnable now capMv s
  | .powerFail now mv lasted => Sys2Proof.Machine.execPowerFail now mv lasted s
  | .idealDiodeOpen => Sys2Proof.Machine.execIdealDiodeOpen s
  | .powerChipletFail n => Sys2Proof.Machine.execPowerChipletFail n s
  | .pitchIsolate pitch cause peak now => Sys2Proof.Machine.execPitchIsolate pitch cause peak now s
  | .efuseClear pitch current => Sys2Proof.Machine.execEfuseClear pitch current s
  | .pitchThermalThrottle pitch temp => Sys2Proof.Machine.execPitchThermalThrottle pitch temp s
  | .pitchStartDone pitch now => Sys2Proof.Machine.execPitchStartDone pitch now s
  | .pitchPowerGoodTimeout pitch now => Sys2Proof.Machine.execPitchPowerGoodTimeout pitch now s
  | .pitchStopDone pitch now => Sys2Proof.Machine.execPitchStopDone pitch now s
  | .pitchRailTestDone pitch mv => Sys2Proof.Machine.execPitchRailTestDone pitch mv s
  | .weirFrame b r => Sys2Proof.Machine.execWeirFrame b r s
  | .weirRegulate now drawnMj => Sys2Proof.Machine.execWeirRegulate now drawnMj s
  | .weirWardenTimeout now => Sys2Proof.Machine.execWeirWardenTimeout now s
  | .weirLock => Sys2Proof.Machine.execWeirLock s
  | .weirEnvelopeWrite off value => Sys2Proof.Machine.execWeirEnvelopeWrite off value s
  | .ptpSync domain now offset => Sys2Proof.Machine.execPtpSync domain now offset s
  | .ptpAnnounce domain now utcOffset leap midnight => Sys2Proof.Machine.execPtpAnnounce domain now utcOffset leap midnight s
  | .ppsEdge now ref10 => Sys2Proof.Machine.execPpsEdge now ref10 s
  | .ref10Loss now => Sys2Proof.Machine.execRef10Loss now s
  | .sourceLost now => Sys2Proof.Machine.execSourceLost now s
  | .holdoverTimeout now => Sys2Proof.Machine.execHoldoverTimeout now s
  | .stCtlWrite value => Sys2Proof.Machine.execStCtlWrite value s
  | .reacquire => Sys2Proof.Machine.execReacquire s
  | .timeSet hi => Sys2Proof.Machine.execTimeSet hi s
  | .utcOffsetChange now => Sys2Proof.Machine.execUtcOffsetChange now s
  | .apply => Sys2Proof.Machine.execApply s
  | .slotStart now r => Sys2Proof.Machine.execSlotStart now r s
  | .stackTempSample pos temp => Sys2Proof.Machine.execStackTempSample pos temp s
  | .stackUncorrError pos offset now => Sys2Proof.Machine.execStackUncorrError pos offset now s
  | .stackFail pos => Sys2Proof.Machine.execStackFail pos s
  | .stackTrainingDone pos ok repairs => Sys2Proof.Machine.execStackTrainingDone pos ok repairs s
  | .translationStartDone ctx => Sys2Proof.Machine.execTranslationStartDone ctx s
  | .translationStopDone ctx => Sys2Proof.Machine.execTranslationStopDone ctx s
  | .setWrite ctx which value => Sys2Proof.Machine.execSetWrite ctx which value s
  | .invalGo ctx range => Sys2Proof.Machine.execInvalGo ctx range s
  | .invalDone ctx => Sys2Proof.Machine.execInvalDone ctx s
  | .xlFaultClear ctx => Sys2Proof.Machine.execXlFaultClear ctx s
  | .bar2Read fn offset len tlp corrected => Sys2Proof.Machine.execBar2Read fn offset len tlp corrected s
  | .bar2Write fn offset bytes tlp corrected => Sys2Proof.Machine.execBar2Write fn offset bytes tlp corrected s
  | .keyEk ctx trngOk => Sys2Proof.Machine.execKeyEk ctx trngOk s
  | .keyLoad ctx => Sys2Proof.Machine.execKeyLoad ctx s
  | .rankWrite ctx => Sys2Proof.Machine.execRankWrite ctx s
  | .groupWrite ctx => Sys2Proof.Machine.execGroupWrite ctx s
  | .memberWrite ctx => Sys2Proof.Machine.execMemberWrite ctx s
  | .imageLoad ctx => Sys2Proof.Machine.execImageLoad ctx s
  | .fusedRun ctx => Sys2Proof.Machine.execFusedRun ctx s
  | .checkpoint ctx => Sys2Proof.Machine.execCheckpoint ctx s
  | .jobStart ctx => Sys2Proof.Machine.execJobStart ctx s
  | .weightSwap ctx => Sys2Proof.Machine.execWeightSwap ctx s
  | .regionRemap ctx => Sys2Proof.Machine.execRegionRemap ctx s
  | .stackScrubFull ctx => Sys2Proof.Machine.execStackScrubFull ctx s
  | .selfTest ctx => Sys2Proof.Machine.execSelfTest ctx s
  | .wipe ctx => Sys2Proof.Machine.execWipe ctx s
  | .fwUpdate ctx => Sys2Proof.Machine.execFwUpdate ctx s
  | .nopCommand ctx => Sys2Proof.Machine.execNopCommand ctx s
  | .suspend ctx => Sys2Proof.Machine.execSuspend ctx s
  | .resume ctx => Sys2Proof.Machine.execResume ctx s
  | .cancel ctx => Sys2Proof.Machine.execCancel ctx s
  | .suspendPointReached ctx handle w => Sys2Proof.Machine.execSuspendPointReached ctx handle w s
  | .longOperationEnd ctx handle now w => Sys2Proof.Machine.execLongOperationEnd ctx handle now w s
  | .deadlineExpiry ctx handle now => Sys2Proof.Machine.execDeadlineExpiry ctx handle now s
  | .progressTimer ctx handle now w => Sys2Proof.Machine.execProgressTimer ctx handle now w s
  | .cqHeadWrite ctx value => Sys2Proof.Machine.execCqHeadWrite ctx value s
  | .msixModerationExpiry ctx now => Sys2Proof.Machine.execMsixModerationExpiry ctx now s
  | .msixVectorUnmask fn vec => Sys2Proof.Machine.execMsixVectorUnmask fn vec s
  | .ceStopDone ctx => Sys2Proof.Machine.execCeStopDone ctx s
  | .functionLevelReset ctx => Sys2Proof.Machine.execFunctionLevelReset ctx s
  | .pcieReset perst => Sys2Proof.Machine.execPcieReset perst s
  | .ideIntegrityFail stream => Sys2Proof.Machine.execIdeIntegrityFail stream s
  | .getVersion doe req => Sys2Proof.Machine.execGetVersion doe req s
  | .getCapabilities doe req => Sys2Proof.Machine.execGetCapabilities doe req s
  | .negotiateAlgorithms doe req => Sys2Proof.Machine.execNegotiateAlgorithms doe req s
  | .getDigests doe req => Sys2Proof.Machine.execGetDigests doe req s
  | .getCertificate doe req => Sys2Proof.Machine.execGetCertificate doe req s
  | .challenge doe req => Sys2Proof.Machine.execChallenge doe req s
  | .getMeasurements doe req => Sys2Proof.Machine.execGetMeasurements doe req s
  | .keyExchange doe req => Sys2Proof.Machine.execKeyExchange doe req s
  | .finish doe req => Sys2Proof.Machine.execFinish doe req s
  | .keyUpdate doe req => Sys2Proof.Machine.execKeyUpdate doe req s
  | .heartbeat doe req => Sys2Proof.Machine.execHeartbeat doe req s
  | .endSession doe req => Sys2Proof.Machine.execEndSession doe req s
  | .getCsr doe req => Sys2Proof.Machine.execGetCsr doe req s
  | .setCertificate doe req => Sys2Proof.Machine.execSetCertificate doe req s
  | .vendorDefinedRequest doe req => Sys2Proof.Machine.execVendorDefinedRequest doe req s
  | .recoveryImage => Sys2Proof.Machine.execRecoveryImage s
  | .partitionWrite => Sys2Proof.Machine.execPartitionWrite s
  | .partitionRead => Sys2Proof.Machine.execPartitionRead s
  | .lifecycle => Sys2Proof.Machine.execLifecycle s
  | .warmReset => Sys2Proof.Machine.execWarmReset s
  | .warmResetBoot now => Sys2Proof.Machine.execWarmResetBoot now s
  | .wardenRestart now => Sys2Proof.Machine.execWardenRestart now s
  | .wardenCoreTakeover now => Sys2Proof.Machine.execWardenCoreTakeover now s
  | .recoveryFetchRetry now => Sys2Proof.Machine.execRecoveryFetchRetry now s
  | .recoveryFetchDone path image => Sys2Proof.Machine.execRecoveryFetchDone path image s
  | .firmwareStart now => Sys2Proof.Machine.execFirmwareStart now s
  | .startupTestDone pitch failed => Sys2Proof.Machine.execStartupTestDone pitch failed s
  | .ready now => Sys2Proof.Machine.execReady now s
  | .cairnFlushDone bad => Sys2Proof.Machine.execCairnFlushDone bad s
  | .flush => Sys2Proof.Machine.execFlush s
  | .cairnRead => Sys2Proof.Machine.execCairnRead s
  | .cairnReadDone => Sys2Proof.Machine.execCairnReadDone s
  | .gaugeCtlWrite ep g value => Sys2Proof.Machine.execGaugeCtlWrite ep g value s
  | .gaugeEnChange ep g => Sys2Proof.Machine.execGaugeEnChange ep g s
  | .gaugeWrite ep g off value => Sys2Proof.Machine.execGaugeWrite ep g off value s
  | .gaugeChunkBoundary ep g => Sys2Proof.Machine.execGaugeChunkBoundary ep g s
  | .enReq page => Sys2Proof.Machine.execEnReq page s
  | .stopReq page => Sys2Proof.Machine.execStopReq page s
  | .isolate page => Sys2Proof.Machine.execIsolate page s
  | .registerWrite fn off bytes tlp => Sys2Proof.Machine.execRegisterWrite fn off bytes tlp s
  | .cageInsert link n => Sys2Proof.Machine.execCageInsert link n s
  | .cageRemove link n now => Sys2Proof.Machine.execCageRemove link n now s
  | .coolantAlarm inletTenths flowTenths lastedMs => Sys2Proof.Machine.execCoolantAlarm inletTenths flowTenths lastedMs s
  | .undefinedOpcode a => Sys2Proof.Machine.execUndefinedOpcode a s
  | .instructionFetchFault a => Sys2Proof.Machine.execInstructionFetchFault a s
  | .eztexLinkDown link => Sys2Proof.Machine.execEztexLinkDown link s
  | .pitchThermalRecover pitch temp => Sys2Proof.Machine.execPitchThermalRecover pitch temp s
  | .standbyCoreTestDone pass => Sys2Proof.Machine.execStandbyCoreTestDone pass s
  | .perstNRelease => Sys2Proof.Machine.execPerstNRelease s
  | .pcieLinkUp width rate flit => Sys2Proof.Machine.execPcieLinkUp width rate flit s

end Sys2Proof.Machine
end

