-- ==== Sys2Proof/Machine/HostRead.lean ====
section
/-! DEFINITION. Host reads (18 R552-R555, R566-R569, 14 R463): what a read of BAR0 or BAR4 returns and the HI words that it captures. No row of the opcode table
is a read of a register, so nothing in `exec` calls these; they say what the state that the commands leave reads as (log 76). -/

namespace Sys2Proof.Machine

/-- The region of R566 that a page's address lies in. -/
def regionOf (a : Nat) : Option Nat :=
  if a < 0x2000 then some 0
  else if 0x10000 ≤ a ∧ a < 0x100000 then some 1
  else if 0x100000 ≤ a ∧ a < 0x1FC000 then some 2
  else if 0x200000 ≤ a ∧ a < 0x900000 then some (a / 0x100000 + 1)
  else if 0x900000 ≤ a ∧ a < 0x93F000 then some 10
  else none

/-- ERR_REGIONS (R569): the regions with an ERR_SUMMARY bit that ERR_MASK does not keep out. -/
def State.errRegions (s : State) : Nat :=
  let bad := s.regs.filterMap (fun e =>
    if e.1 % 0x1000 = 0x14 ∧ (pageAt e.1).isSome ∧ e.2 &&& ~~~(s.reg (e.1 + 4)) ≠ 0 then regionOf e.1 else none)
  sumL ((List.range 11).map (fun k => if bad.contains k then 2 ^ k else 0))

/-- PPS_SEEN: an edge within the last 2 s (R456). -/
def State.ppsSeen (s : State) : Bool :=
  match s.ppsLast with
  | some t => inWindow s.clk.now t 2000000000
  | none => false

/-- What PLDM sensor reports return of a unit: the values of its last sample, in the order of the readings, and their stamp (R449, R585). -/
def State.sensorReport (s : State) (u : Nat) : List Nat × Nat :=
  let values :=
    if u < 63 then
      (List.range 4).flatMap (fun k => [s.regN (aPt2 (4 * u + k) 0x108), s.regN (aPt2 (4 * u + k) 0x10C), s.regN (aPt2 (4 * u + k) 0x114)])
        ++ [s.regF (rg clsReach u 0x304) 0 16, s.regF (rg clsReach u 0x304) 16 16]
    else if u = 63 then (List.range 24).map (fun p => s.regN (aStk p 0x104))
    else [s.regN (aWeir 0x114), s.regN (aWeir 0x118), s.regN (aWeir 0x110), s.coolant.1, s.coolant.2.1, s.coolant.2.2]
  (values, s.reg64 (aBg (0x400 + 8 * u)))

/-- What a word of a page holds: G_VAL_HI reads 0 for ALG 0 (R172), ERR_REGIONS, PPS_SEEN, TIME_NOW and CUR_SLOT follow from
the rest of the state, and the CONTEXT page mirrors the state of the
COMMAND_ENGINE page (R455, R456, R458, R490, R569). -/
def State.pageWord (s : State) (cls inst off : Nat) : W32 :=
  if cls = clsGlobal ∧ off = 0x114 then BitVec.ofNat 32 s.errRegions
  else if cls = clsTime ∧ off = 0x104 then setFld (s.reg (aTime 0x104)) 4 1 (b2n s.ppsSeen)
  else if cls = clsTime ∧ off = 0x108 then BitVec.ofNat 32 s.clk.now
  else if cls = clsBg ∧ off = 0x104 then setFld (s.reg (aBg 0x104)) 0 7 (s.clk.now % 1000000 / 8000)
  else if cls = clsTime ∧ off = 0x10C then BitVec.ofNat 32 (s.clk.now / 2 ^ 32)
  else if cls = clsGauge ∧ 0x100 ≤ off ∧ off < 0x300 ∧ (off - 0x100) % 0x40 = 0x14 ∧ s.regB (rg clsGauge inst (off - 0x14)) 1 = false then 0
  else if cls = clsCe ∧ 0x100 ≤ inst ∧ off = 0x00C then s.reg (rg clsCe (inst - 0x100) 0x00C)
  else s.reg (rg cls inst off)

/-- Where a word that is read lies: as for a write, but the withheld blocks are readable, and so is the job block (R490). -/
def State.wordRead? (s : State) (fn a : Nat) : Option Nat :=
  if fn ≠ 0 ∧ 0x9100 ≤ a ∧ a < 0x9140 then some (aHwc fn (a - 0x9100))
  else if fn ≠ 0 ∧ 0x91A0 ≤ a ∧ a < 0x91C0 then (s.jobOf fn).map (fun j => aJob j (a - 0x91A0))
  else s.wordAt fn a

/-- A word of a page read by a function (R134, R554): the LO word of an RO pair, and of each pair of a gauge (R172), captures its HI word, which the next read of HI returns. -/
def State.pageRead (s : State) (fn cls inst off : Nat) : W32 × State :=
  let key := fn * 2 ^ 32 + rg cls inst off
  let pair (o : Nat) : Bool := pairLo cls inst o == some false || (cls == clsGauge && (pairLo cls inst o).isSome)
  if pair off then
    (s.pageWord cls inst off, { s with captured := put s.captured key (s.pageWord cls inst (off + 4)) })
  else if 4 ≤ off ∧ pair (off - 4) = true then
    (look (s.pageWord cls inst off) s.captured (key - 4), s)
  else (s.pageWord cls inst off, s)

/-- A word of BAR0 read by a function: 0 in a reserved range and where nothing responds (R476, R527, R566). -/
def State.wordRead (s : State) (fn a : Nat) : W32 × State :=
  if !s.responds fn a then (0, s)
  else match cmdAt fn a with
    | some (c, o) => (BitVec.ofNat 32 (leNat (readBytes s.slotMem (c * 0x4000 + o) 4)), s)
    | none =>
      match s.wordRead? fn a with
      | none => (0, s)
      | some w =>
        match pageAt w with
        | some (cls, inst, off) => s.pageRead fn cls inst off
        | none => (s.reg w, s)

/-- Successive words in increasing address order. -/
def State.wordsRead (s : State) (fn : Nat) : Nat → Nat → List Byte × State
  | 0, _ => ([], s)
  | n + 1, a =>
    let (v, s) := s.wordRead fn a
    let (t, s) := s.wordsRead fn n (a + 4)
    (leBytes 4 v.toNat ++ t, s)

/-- A read of BAR0 of any size (R552). -/
def State.bar0Read (s : State) (fn a n : Nat) : List Byte × State :=
  let a0 := a / 4 * 4
  let (b, s) := s.wordsRead fn ((a + n - a0 + 3) / 4) a0
  ((b.drop (a - a0)).take n, s)

/-- A word of BAR4: address, data and vector control of a vector, and from 0x8000 on the pending bit array (R463). -/
def State.msixWord (s : State) (fn o : Nat) : Nat :=
  let (addr, data, masked) := look (0, 0, true) s.msix (fn * 128 + o / 16)
  if 0x8000 ≤ o then
    sumL ((List.range 32).map (fun i => let v := (o - 0x8000) / 4 * 32 + i; if v < vecsOf fn ∧ s.msixPend.contains (fn * 128 + v) = true then 2 ^ i else 0))
  else if vecsOf fn ≤ o / 16 then 0
  else if o % 16 / 4 = 0 then addr % 2 ^ 32 else if o % 16 / 4 = 1 then addr / 2 ^ 32 else if o % 16 / 4 = 2 then data else b2n masked

/-- Bytes of BAR4: 0 before FIRMWARE (R527). -/
def State.bar4Read (s : State) (fn o n : Nat) : List Byte :=
  if !s.served then List.replicate n 0
  else (((List.range ((o % 4 + n + 3) / 4)).flatMap (fun i => leBytes 4 (s.msixWord fn (o / 4 * 4 + 4 * i)))).drop (o % 4)).take n

/-- A read of BAR0 or, from 2^32 on, of BAR4 by the host: the bytes, or none where it is answered as an Unsupported Request (R460, R509). -/
def State.hostRead (s : State) (fn off n : Nat) (tlp : Tlp) : Option (List Byte) × State :=
  let s := s.tlpIn.tlpOut
  if tlp.ats || !s.ideIn fn tlp then (none, s.urSent)
  else if off < 2 ^ 32 then
    let (b, s) := s.bar0Read fn off n
    (some b, s)
  else (some (s.bar4Read fn (off - 2 ^ 32) n), s)

end Sys2Proof.Machine
end

