-- ==== Sys2Proof/WellFormed.lean ====
section
/-! DEFINITION. Which commands are well formed: those whose operands name units that the spec gives the module. -/

namespace Sys2Proof

/-- A logical position of the grid (R8). -/
def Pos.ok (p : Pos) : Bool := decide (p.col < 1080) && decide (p.row < 840)

/-- A task slot of a logical rill (R8, R23). -/
def SlotId.ok (a : SlotId) : Bool := decide (a.col < 1080) && decide (a.row < 840) && decide (a.slot < 16)

/-- A command is well formed where each operand that names a unit names one that exists: a logical position or router (R8), a task slot
(R23), a Rill Store or Rill Pool line (R24), a stream queue (R138), a gauge and one of its registers (R169, R172), a stack position
(R178), a context or a PCIe function (R190, R461), a Headwater port, 32 standing for the host chiplet, and a stream slot of it (R213,
R229), an Eztex link (R291), a job slot (R312), a group entry (R315), a CONFLUENCE chiplet or a power chiplet (R12), a pitch (R9), an
IDE stream (R509), an MSI-X vector (chapter 14's table of the host port), a register page (R567). -/
def Instr.wellFormed : Instr → Bool
  | .add a | .sub a | .and a | .or a | .xor a | .shl a | .shr a | .sra a | .mul a | .mulhu a | .cmpeq a | .cmplt a | .cmpltu a
  | .addi a | .andi a | .ori a | .xori a | .shli a | .shri a | .movi a | .movhi a | .ld8 a | .ld32 a | .ld64 a | .st8 a | .st32 a
  | .st64 a | .ldp64 a | .stp64 a | .amoadd a | .amoswap a | .j a | .jr a | .call a | .beq a | .bne a | .blt a | .bltu a
  | .spawn a | .exit a | .exitComplete a | .yieldOp a | .yieldExpiry a _ | .waitev a | .signal a | .tclaim a | .tfree a
  | .fence a | .slotWake a | .tld a | .tst a | .tzero a | .tmma a | .tmmas a | .tcvt a | .vadd a | .vmul a | .vmax a | .vfma a
  | .vexp2 a | .vrcp a | .vrsqrt a | .vredadd a | .vredmax a | .vbcast a => a.ok
  | .unitOpComplete p _ slot _ _ => p.ok && decide (slot < 16)
  | .sarm a | .srearm a | .sstop a | .racq a | .rrel a | .send a | .recv a | .mfree a | .csrr a | .csrw a | .trap a | .nop a
  | .taskWdExpiry a _ => a.ok
  | .rillWdExpiry p => p.ok
  | .write _ | .read _ | .readData _ | .ack _ | .msg _ => true
  | .msgRingEntry p => p.ok
  | .poolRead _ | .poolWrite _ | .holePacketArrival _ => true
  | .packetAgeDiscard _ router _ | .flitEccError _ router _ _ => router.ok
  | .memoryUncorrError p pool line _ => p.ok && decide (line < if pool then 1024 else 768)
  | .spush _ | .sdata _ | .scredit _ | .hwConfirm _ | .ezConfirm _ => true
  | .streamStartDone p q | .streamStopDone p q | .streamTileIssue p q | .streamOutInject p q => p.ok && decide (q < 8)
  | .sread _ | .swrite _ | .sfill _ | .sdrain _ | .stackAccessComplete _ _ | .translationWalkDone _ _ | .hwOpen _ | .hwClose _
  | .hwRearm _ | .hwSend _ => true
  | .fetchIssue port slot => port == 32 || (decide (port < 32) && decide (slot < 192))
  | .data port _ | .endMsg port _ | .gradAck port _ => decide (port < 32)
  | .fetchRetryTimeout port slot _ => port == 32 || (decide (port < 32) && decide (slot < 192))
  | .gradRetryTimeout _ _ => true
  | .neighbourDiscovery port _ | .echoRequest port _ | .pfcPause port _ _ | .headwaterLinkDown port _ | .headwaterPortUp port _ => decide (port < 32)
  | .hostFetchReadDone _ _ => true
  | .hostGradWriteDone _ => true
  | .bind ctx slot | .bindDone ctx slot => decide (ctx < 17) && decide (slot < 2)
  | .frontGo ctx | .layerRebind ctx _ => decide (ctx < 17)
  | .ezOpen _ | .ezClose _ | .ezRearm _ | .ezContrib _ _ | .ezSend _ => true
  | .opAdmit ctx _ => decide (ctx < 17)
  | .slotReservationGrant _ => true
  | .reduceFallback ctx _ _ => decide (ctx < 17)
  | .codewordReceive link lanes => decide (link < 76) && lanesOk lanes
  | .idle link | .ackCredit link | .nak link | .train link _ | .linkTrainingDone link _ | .linkTrainingTimeout link _ _ | .linkStopDone link => decide (link < 76)
  | .grant _ | .chunk _ _ | .count _ | .abort _ | .p2p _ | .p2pGrant _ | .bcastStart _ | .bcastOpen _ | .bcastAbort _
  | .bcastAck _ => true
  | .bcastTimeout job _ | .jobTStart job _ => decide (job < 4)
  | .digest _ | .cbar _ | .wirePacketForward _ | .keyRetentionExpiry _ => true
  | .collMemberLost ctx _ _ | .twinDigestTimeout ctx _ _ _ => decide (ctx < 17)
  | .groupEntryValidate g _ => decide (g < 4096)
  | .jobCtlWrite job _ => decide (job < 4)
  | .stageWrite ctx _ => decide (ctx < 17)
  | .confluenceRetestDone t _ => decide (t < 12)
  | .spareSwap p => p.ok
  | .cmtFlashWriteDone => true
  | .holdRestore ctx | .rebuildListDone ctx _ | .commitPointComplete ctx _ | .drainHoldResume ctx | .wearSkip ctx _ => decide (ctx < 17)
  | .inputStageClose _ _ | .powerChipletEnable _ _ | .powerFail _ _ _ | .idealDiodeOpen => true
  | .powerChipletFail n => decide (n < 16)
  | .pitchIsolate pitch _ _ _ | .efuseClear pitch _ | .pitchThermalThrottle pitch _ | .pitchStartDone pitch _
  | .pitchPowerGoodTimeout pitch _ | .pitchStopDone pitch _ | .pitchRailTestDone pitch _ => decide (pitch < 252)
  | .weirFrame _ _ | .weirRegulate _ _ | .weirWardenTimeout _ | .weirLock | .weirEnvelopeWrite _ _ | .ptpSync _ _ _
  | .ptpAnnounce _ _ _ _ _ | .ppsEdge _ _ | .ref10Loss _ | .sourceLost _ | .holdoverTimeout _ | .stCtlWrite _ | .reacquire
  | .timeSet _ | .utcOffsetChange _ | .apply | .slotStart _ _ => true
  | .stackTempSample pos _ | .stackUncorrError pos _ _ | .stackFail pos | .stackTrainingDone pos _ _ => decide (pos < 24)
  | .translationStartDone ctx | .translationStopDone ctx => decide (ctx < 17)
  | .setWrite ctx which _ => decide (ctx < 17) && decide (which < 6)
  | .invalGo ctx _ | .invalDone ctx | .xlFaultClear ctx => decide (ctx < 17)
  | .bar2Read fn _ _ _ _ | .bar2Write fn _ _ _ _ => decide (fn < 17)
  | .keyEk ctx _ | .keyLoad ctx | .rankWrite ctx | .groupWrite ctx | .memberWrite ctx | .imageLoad ctx | .fusedRun ctx
  | .checkpoint ctx | .jobStart ctx | .weightSwap ctx | .regionRemap ctx | .stackScrubFull ctx | .selfTest ctx | .wipe ctx
  | .fwUpdate ctx | .nopCommand ctx | .suspend ctx | .resume ctx | .cancel ctx | .suspendPointReached ctx _ _
  | .longOperationEnd ctx _ _ _ | .deadlineExpiry ctx _ _ | .progressTimer ctx _ _ _ | .cqHeadWrite ctx _
  | .msixModerationExpiry ctx _ => decide (ctx < 17)
  | .msixVectorUnmask fn vec => decide (fn < 17) && decide (vec < if fn = 0 then 128 else 120)
  | .ceStopDone ctx => decide (ctx < 17)
  | .functionLevelReset ctx => decide (1 ≤ ctx) && decide (ctx < 17)
  | .pcieReset _ => true
  | .ideIntegrityFail stream => decide (stream ≤ 8)
  | .getVersion _ _ | .getCapabilities _ _ | .negotiateAlgorithms _ _ | .getDigests _ _ | .getCertificate _ _ | .challenge _ _
  | .getMeasurements _ _ | .keyExchange _ _ | .finish _ _ | .keyUpdate _ _ | .heartbeat _ _ | .endSession _ _ | .getCsr _ _
  | .setCertificate _ _ | .vendorDefinedRequest _ _ | .recoveryImage | .partitionWrite | .partitionRead | .lifecycle | .warmReset | .warmResetBoot _
  | .wardenRestart _ | .wardenCoreTakeover _ | .recoveryFetchRetry _ | .recoveryFetchDone _ _ | .firmwareStart _ => true
  | .startupTestDone pitch _ => decide (pitch < 252)
  | .ready _ | .cairnFlushDone _ | .flush | .cairnRead | .cairnReadDone => true
  | .gaugeCtlWrite ep g _ | .gaugeEnChange ep g => decide (ep < 36) && decide (g < 8)
  | .gaugeWrite ep g off _ => decide (ep < 36) && decide (g < 8) && [0x04, 0x08, 0x10, 0x14, 0x18, 0x1C].contains off
  | .gaugeChunkBoundary ep g => decide (ep < 36) && decide (g < 8)
  | .enReq page | .stopReq page | .isolate page => (Machine.pageAt page).isSome
  | .registerWrite fn _ _ _ => decide (fn < 17)
  | .cageInsert link n | .cageRemove link n _ => decide (n < if link then 76 else 32)
  | .coolantAlarm _ _ _ => true
  | .undefinedOpcode a | .instructionFetchFault a => a.ok
  | .eztexLinkDown link => decide (link < 76)
  | .pitchThermalRecover pitch _ => decide (pitch < 252)
  | .standbyCoreTestDone _ | .perstNRelease | .pcieLinkUp _ _ _ => true

end Sys2Proof
end

