-- ==== Sys2Proof/Safety.lean ====
section
/-! DEFINITION. Safe runs, and the terms in which the statements speak: the instruction at a slot's PC with its operands, the states in
which a slot has retired, jumped, begun to wait or faulted, and the parts of the state that each command may change. -/

namespace Sys2Proof.Machine

/-- A run of k steps from a state meets no fault and no refusal. -/
def Safe (k : Nat) (s : State) : Prop := ∃ t, Host.Core.run Sys2Proof.core k s = .next t

/-! ### The instruction at a slot's PC (R36, R37) -/

/-- The slot that a command names. -/
def State.slotNow (s : State) (a : SlotId) : Slot := (s.rill (slotK a)).slot a.slot
/-- The word at the slot's PC. -/
def State.wordNow (s : State) (a : SlotId) : W64 := s.fetch (slotK a) (s.slotNow a).pc
/-- The value of gs1. -/
def State.src1 (s : State) (a : SlotId) : W64 := (s.slotNow a).greg (gs1Of (s.wordNow a))
/-- The value of gs2. -/
def State.src2 (s : State) (a : SlotId) : W64 := (s.slotNow a).greg (gs2Of (s.wordNow a))
/-- imm32, sign-extended. -/
def State.immNow (s : State) (a : SlotId) : W64 := (immOf (s.wordNow a)).signExtend 64
/-- gs1 plus the signed offset of format L. -/
def State.eaNow (s : State) (a : SlotId) : W64 := s.src1 a + s.immNow a
/-- PC plus the signed offset of format J, before any truncation. -/
def State.targetNow (s : State) (a : SlotId) : W64 := (s.slotNow a).pc.zeroExtend 64 + s.immNow a
/-- The first scalar operand of a format T instruction. -/
def State.tsrc1 (s : State) (a : SlotId) : W64 := (s.slotNow a).greg (tgs1Of (s.wordNow a))
/-- The second scalar operand of a format T instruction. -/
def State.tsrc2 (s : State) (a : SlotId) : W64 := (s.slotNow a).greg (tgs2Of (s.wordNow a))
/-- The value of gd before the instruction. -/
def State.destNow (s : State) (a : SlotId) : W64 := (s.slotNow a).greg (gdOf (s.wordNow a))

/-- The commands in which a slot issues an instruction, each with its opcode (R41). -/
def rillOps : List (Nat × (SlotId → Instr)) :=
  [(0x01, .add), (0x02, .sub), (0x03, .and), (0x04, .or), (0x05, .xor), (0x06, .shl), (0x07, .shr), (0x08, .sra), (0x09, .mul), (0x0A, .mulhu), (0x0B, .cmpeq), (0x0C, .cmplt), (0x0D, .cmpltu)] ++
  [(0x10, .addi), (0x11, .andi), (0x12, .ori), (0x13, .xori), (0x14, .shli), (0x15, .shri), (0x16, .movi), (0x17, .movhi)] ++
  [(0x20, .ld8), (0x21, .ld32), (0x22, .ld64), (0x23, .st8), (0x24, .st32), (0x25, .st64), (0x26, .ldp64), (0x27, .stp64), (0x28, .amoadd), (0x29, .amoswap)] ++
  [(0x30, .j), (0x31, .jr), (0x32, .call), (0x33, .beq), (0x34, .bne), (0x35, .blt), (0x36, .bltu)] ++
  [(0x40, .spawn), (0x41, .exit), (0x42, .yieldOp), (0x43, .waitev), (0x44, .signal), (0x45, .tclaim), (0x46, .tfree), (0x47, .fence)] ++
  [(0x50, .tld), (0x51, .tst), (0x52, .tzero), (0x53, .tmma), (0x54, .tmmas), (0x55, .tcvt)] ++
  [(0x60, .vadd), (0x61, .vmul), (0x62, .vmax), (0x63, .vfma), (0x64, .vexp2), (0x65, .vrcp), (0x66, .vrsqrt), (0x67, .vredadd), (0x68, .vredmax), (0x69, .vbcast)] ++
  [(0x70, .sarm), (0x71, .srearm), (0x72, .sstop), (0x73, .racq), (0x74, .rrel), (0x75, .send), (0x76, .recv), (0x77, .mfree)] ++
  [(0x80, .csrr), (0x81, .csrw), (0x82, .trap), (0x83, .nop)]

/-- The slot exists and is eligible with a legal instruction of an opcode, and the slot owns every tensor register that the instruction
names (R25, R32, R38). -/
def State.canIssue (s : State) (a : SlotId) (op : Nat) : Bool :=
  slotOk a && s.eligible a op && legalWord (s.wordNow a)
    && (tregsOf (s.wordNow a)).all (fun t => (s.rill (slotK a)).owner t == a.slot)

/-- The issue, as the pipeline hands it to a meaning. -/
def State.issueNow (s : State) (a : SlotId) : Issue := { k := slotK a, n := a.slot, x := s.slotNow a, w := s.wordNow a }

/-! ### What an instruction that issued leaves -/

/-- The clock has come to the cycle in which the slot issues, which is the rill's and the slot's last issue (R32, R53); nothing else has changed. -/
def State.issued (s : State) (a : SlotId) : State := s.touchIssue a

/-- In a state in which the instruction has issued: the rill changed by g and the slot by f, and PC set; the instruction has retired in this cycle.
Nothing else changes. -/
def State.placedIn (t : State) (a : SlotId) (pc : W32) (g : Rill → Rill) (f : Slot → Slot) : State :=
  t.setRill (slotK a) ((g (t.rill (slotK a))).setSlot a.slot { f (t.slotNow a) with pc := pc, lastRetire := t.clk.cycle })

/-- The same with PC 8 further (R36), where no more than the slot changes. -/
def State.retiredIn (t : State) (a : SlotId) (f : Slot → Slot) : State := t.placedIn a ((t.slotNow a).pc + 8) id f

/-- The instruction has issued and retired, with PC set. -/
def State.placed (s : State) (a : SlotId) (pc : W32) (g : Rill → Rill) (f : Slot → Slot) : State := (s.issued a).placedIn a pc g f

/-- The instruction has retired: PC is 8 further (R36), the rill changed by g, the slot by f. -/
def State.retiredWith (s : State) (a : SlotId) (g : Rill → Rill) (f : Slot → Slot) : State :=
  s.placed a ((s.slotNow a).pc + 8) g f

/-- The instruction has retired and changed no more than its slot. -/
def State.retired (s : State) (a : SlotId) (f : Slot → Slot) : State := s.retiredWith a id f

/-- The instruction has retired with a value for gd. -/
def State.gives (s : State) (a : SlotId) (v : W64) : State := s.retired a (fun x => x.setG (gdOf (s.wordNow a)) v)

/-- A load has retired with a value for gd, which may be used after the load-to-use latency of its place (R26). -/
def State.loaded (s : State) (a : SlotId) (l : Local) (v : W64) : State :=
  s.retired a (fun x =>
    { x.setG (gdOf (s.wordNow a)) v with gready := put x.gready (gdOf (s.wordNow a)) ((s.issued a).clk.cycle + l.latency) })

/-- The slot waits at the instruction (R31): PC stays. -/
def State.waits (s : State) (a : SlotId) (wt : WaitFor) : State :=
  (s.issued a).setRill (slotK a)
    (((s.issued a).rill (slotK a)).setSlot a.slot { (s.issued a).slotNow a with st := .waiting, wait := wt })

/-- The instruction has issued and its slot faults before any effect (R42). -/
def State.traps (s : State) (a : SlotId) (fault : Nat) : State := (s.issued a).slotFault (slotK a) a.slot fault

/-- The operation that an instruction of the tensor or vector unit becomes (R34, R89). -/
def State.unitOpNow (s : State) (a : SlotId) : UnitOp :=
  { slot := a.slot, pc := (s.slotNow a).pc, word := s.wordNow a, s1 := s.tsrc1 a, s2 := s.tsrc2 a, draw := (s.slotNow a).draw,
    step := (s.rill (slotK a)).step }

/-- The slot's draw counter moved on by the draws that the instruction takes (R86). -/
def State.drawn (s : State) (a : SlotId) (x : Slot) : Slot := { x with draw := x.draw + BitVec.ofNat 64 (drawsOf (s.wordNow a)) }

/-! ### Packets that a unit takes in (R47) -/

/-- The rill that a packet is for. -/
def Packet.rillIdx (p : Packet) : Nat := ridx p.dcol p.drow

/-- Packet i is p, of the kind, has come whole to its unit, and passes every check of R47 there. -/
def State.unitGets (s : State) (i kind : Nat) (pool : Bool) (p : Packet) : Bool :=
  s.arrives? i kind pool == some p && !p.abort && (s.unitCheck p).isNone

/-- The same of a rill. -/
def State.rillGets (s : State) (i kind : Nat) (p : Packet) : Bool := s.unitGets i kind false p && !p.edge

/-- The same of a pool, with the test of R128. -/
def State.poolGets (s : State) (i kind : Nat) (p : Packet) : Bool := s.unitGets i kind true p && !p.edge && poolFits p

/-- The same of a Levee endpoint. -/
def State.edgeGets (s : State) (i kind : Nat) (p : Packet) : Bool := s.unitGets i kind false p && p.edge

/-! ### What a rebinding leaves (R243, R247) -/

/-- The front of a context's swap has moved past its layer, and the swap runs. -/
def State.frontMoved (s : State) (c : Nat) : State := (s.setF (aHwc c 4) 8 16 (s.hwFront c + 1)).setF (aHwc c 4) 5 2 2
/-- The open operation of a swap has reported that layer k is rebound. -/
def State.rebindTold (s : State) (c : Nat) (o : LongOp) (k : Nat) : State :=
  (s.modLong c o.handle (fun x => { x with progress := k + 1, started := true })).progressLong c o.handle 0

/-! ### Parts of the state, and the parts that each command may change -/

/-- A part of the state. -/
inductive StatePart where
  /-- The fabric cycle count and Site Time (R119, R437). -/
  | clocks
  /-- Every host register, its staged LO words and captured HI words (R553, R554). -/
  | registers
  /-- The command windows (R465). -/
  | commandSlots
  /-- The rill stores with their poison bits (R26, R28). -/
  | rillStores
  /-- The pools with their poison bits and merge windows (R126, R130, R131). -/
  | pools
  /-- The stacks with their poison bits and error times (R178, R186). -/
  | stacks
  /-- Host memory. -/
  | hostMemory
  /-- The rills: slots, tensor registers, rings, queues (R23, R24). -/
  | rills
  /-- Fabric packets in flight. -/
  | packets
  /-- The Cairn stores and engine (R542). -/
  | cairn
  /-- The command engines (R466). -/
  | engines
  /-- The MSI-X tables and pending bits (R463, R486). -/
  | msix
  /-- What has been sent out of the package. -/
  | sent
  /-- The count of free values drawn (log 1). -/
  | draws
  /-- Bytes and chunks that wait for a Gauge (R170). -/
  | gauges
  /-- Requests, TLB and walk cache of the memory endpoints (R163, R199). -/
  | memory
  /-- Headwater streams, gradients, manifests and keys (R224-R241). -/
  | headwater
  /-- The op sequencers and post numbers (R254, R267). -/
  | sequencers
  /-- Recovery state, failed positions, wear rotation and the flash copies of the map (R371-R398, R530). -/
  | recovery
  /-- Torus streams, links and wire packets (R296-R306). -/
  | torus
  /-- Broadcasts, groups and adder failures (R323-R352). -/
  | groups
  /-- The input stage, the Weir and the pitches (R403-R435). -/
  | power
  /-- Measurement, loss and holdover of Site Time (R439-R446). -/
  | siteTime
  /-- The background schedule (R448-R451). -/
  | background
  /-- The Warden: straps, flash, boot, mailbox, SPDM, lifecycle and identity (R490-R538). -/
  | warden
  deriving DecidableEq, Repr

/-- Every part. -/
def StatePart.all : List StatePart :=
  [.clocks, .registers, .commandSlots, .rillStores, .pools, .stacks, .hostMemory, .rills, .packets, .cairn, .engines, .msix, .sent, .draws, .gauges, .memory, .headwater, .sequencers, .recovery, .torus, .groups, .power, .siteTime, .background, .warden]

/-- The part is in `t` as it is in `s`. -/
def StatePart.same (s t : State) : StatePart → Prop
  | .clocks => t.clk = s.clk
  | .registers => t.regs = s.regs ∧ t.staged = s.staged ∧ t.captured = s.captured
  | .commandSlots => t.slotMem = s.slotMem
  | .rillStores => t.store = s.store ∧ t.storePoison = s.storePoison
  | .pools => t.pool = s.pool ∧ t.poolPoison = s.poolPoison ∧ t.lineReads = s.lineReads
  | .stacks => t.stack = s.stack ∧ t.stackPoison = s.stackPoison ∧ t.stackErrs = s.stackErrs
  | .hostMemory => t.host = s.host
  | .rills => t.rills = s.rills
  | .packets => t.net = s.net ∧ t.nextXid = s.nextXid
  | .cairn => t.cairn = s.cairn ∧ t.lastEvtMsi = s.lastEvtMsi
  | .engines => t.ce = s.ce
  | .msix => t.msix = s.msix ∧ t.msixPend = s.msixPend ∧ t.msixFnMask = s.msixFnMask
  | .sent => t.out = s.out
  | .draws => t.freeCtr = s.freeCtr
  | .gauges => t.gaugePend = s.gaugePend ∧ t.gaugeDue = s.gaugeDue
  | .memory => t.memReqs = s.memReqs ∧ t.tlb = s.tlb ∧ t.walkCache = s.walkCache
  | .headwater => t.hws = s.hws ∧ t.grads = s.grads ∧ t.hwMan = s.hwMan ∧ t.hwBinding = s.hwBinding ∧ t.hwKeys = s.hwKeys ∧ t.keyReqs = s.keyReqs ∧ t.portLeft = s.portLeft ∧ t.frontGo = s.frontGo ∧ t.hwWait = s.hwWait
  | .sequencers => t.seqrs = s.seqrs ∧ t.postSeq = s.postSeq
  | .recovery => t.rcvs = s.rcvs ∧ t.failing = s.failing ∧ t.staleWait = s.staleWait ∧ t.wearNext = s.wearNext ∧ t.wearDue = s.wearDue ∧ t.wearSegs = s.wearSegs ∧ t.cmtA = s.cmtA ∧ t.cmtB = s.cmtB ∧ t.cmtFresh = s.cmtFresh
  | .torus => t.ezs = s.ezs ∧ t.links = s.links ∧ t.rx = s.rx ∧ t.early = s.early ∧ t.keys = s.keys ∧ t.wireHold = s.wireHold ∧ t.starved = s.starved
  | .groups => t.bcasts = s.bcasts ∧ t.groupInvalid = s.groupInvalid ∧ t.adderFails = s.adderFails ∧ t.shapes = s.shapes
  | .power => t.inputStage = s.inputStage ∧ t.stageAt = s.stageAt ∧ t.vinMv = s.vinMv ∧ t.diodeOpen = s.diodeOpen ∧ t.weirS = s.weirS ∧ t.weirSet = s.weirSet ∧ t.weirUp = s.weirUp ∧ t.weirDown = s.weirDown ∧ t.weirRest = s.weirRest ∧ t.weirBelow = s.weirBelow ∧ t.weirPend = s.weirPend ∧ t.weirAt = s.weirAt ∧ t.weirNj = s.weirNj ∧ t.ballNj = s.ballNj ∧ t.ptNj = s.ptNj ∧ t.leveeStart = s.leveeStart ∧ t.pitchWait = s.pitchWait ∧ t.pitchRun = s.pitchRun ∧ t.pitchHeld = s.pitchHeld ∧ t.railTest = s.railTest ∧ t.unpowered = s.unpowered ∧ t.hotPitches = s.hotPitches ∧ t.isoKept = s.isoKept ∧ t.isoPend = s.isoPend ∧ t.testing = s.testing ∧ t.wardenGone = s.wardenGone ∧ t.weirAct = s.weirAct ∧ t.weirCut = s.weirCut ∧ t.weirSkip = s.weirSkip ∧ t.weirFrom = s.weirFrom ∧ t.weirDrawn = s.weirDrawn ∧ t.startPend = s.startPend ∧ t.cmtDue = s.cmtDue ∧ t.coolant = s.coolant
  | .siteTime => t.tmFirst = s.tmFirst ∧ t.tmIn = s.tmIn ∧ t.tmOut = s.tmOut ∧ t.tmLost = s.tmLost ∧ t.holdAt = s.holdAt ∧ t.ppsLast = s.ppsLast ∧ t.ppsMark = s.ppsMark ∧ t.ppsSet = s.ppsSet
  | .background => t.bgTable = s.bgTable ∧ t.bgNext = s.bgNext ∧ t.slotAt = s.slotAt
  | .warden => t.strapPins = s.strapPins ∧ t.fwFlash = s.fwFlash ∧ t.fwStage = s.fwStage ∧ t.fwFail = s.fwFail ∧ t.fwUp = s.fwUp ∧ t.boot = s.boot ∧ t.running = s.running ∧ t.restarts = s.restarts ∧ t.fetching = s.fetching ∧ t.fetchAt = s.fetchAt ∧ t.wipedN = s.wipedN ∧ t.lcPend = s.lcPend ∧ t.ptRecord = s.ptRecord ∧ t.ownerChain = s.ownerChain ∧ t.identity = s.identity ∧ t.mgmt = s.mgmt ∧ t.warmHeld = s.warmHeld ∧ t.warmAt = s.warmAt ∧ t.coreTest = s.coreTest ∧ t.mbReq = s.mbReq ∧ t.spdmHist = s.spdmHist ∧ t.ideSel = s.ideSel ∧ t.perstLow = s.perstLow

/-- The parts that a command may change; every other part is as it was. An instruction of a rill may fault, which ends its operation
(R57), so its list holds what a fault changes too. -/
def mayChange : Instr → List StatePart
  | .add _ | .sub _ | .and _ | .or _ | .xor _ | .shl _ | .shr _ | .sra _ | .mul _ | .mulhu _ | .cmpeq _ | .cmplt _
  | .cmpltu _ | .addi _ | .andi _ | .ori _ | .xori _ | .shli _ | .shri _ | .movi _ | .movhi _ | .ld8 _ | .ld32 _ | .ld64 _
  | .ldp64 _ | .j _ | .jr _ | .call _ | .beq _ | .bne _ | .blt _ | .bltu _ | .spawn _ | .exit _ | .yieldOp _ | .waitev _
  | .signal _ | .tclaim _ | .tfree _ | .fence _ | .tld _ | .tzero _ | .tmma _ | .tmmas _ | .tcvt _ | .vadd _ | .vmul _
  | .vmax _ | .vfma _ | .vexp2 _ | .vrcp _ | .vrsqrt _ | .vredadd _ | .vredmax _ | .vbcast _ | .unitOpComplete _ _ _ _ _
  | .racq _ | .rrel _ | .send _ | .recv _ | .mfree _ | .csrr _ | .csrw _ | .trap _ | .nop _ | .taskWdExpiry _ _
  | .flitEccError _ _ _ _ | .commitPointComplete _ _ | .undefinedOpcode _ | .instructionFetchFault _ =>
    StatePart.all.filter (fun p => !([.commandSlots, .rillStores, .pools, .stacks, .siteTime, .background, .warden].contains p))
  | .st8 _ | .st32 _ | .st64 _ | .stp64 _ | .amoadd _ | .amoswap _ | .tst _ | .memoryUncorrError _ _ _ _
  | .pitchStartDone _ _ | .progressTimer _ _ _ _ =>
    StatePart.all.filter (fun p => !([.commandSlots, .stacks, .siteTime, .background, .warden].contains p))
  | .exitComplete _ | .slotWake _ =>
    [.rills]
  | .yieldExpiry _ _ =>
    [.clocks, .rills]
  | .sarm _ | .srearm _ | .sstop _ | .streamStartDone _ _ | .pitchIsolate _ _ _ _ | .pitchPowerGoodTimeout _ _ =>
    StatePart.all.filter (fun p => !([.commandSlots, .pools, .stacks, .siteTime, .background, .warden].contains p))
  | .rillWdExpiry _ =>
    StatePart.all.filter (fun p => !([.clocks, .commandSlots, .rillStores, .pools, .stacks, .siteTime, .background, .warden].contains p))
  | .write _ =>
    [.registers, .rillStores, .packets, .cairn, .msix, .sent, .gauges]
  | .read _ | .holePacketArrival _ =>
    [.registers, .packets, .cairn, .msix, .sent, .gauges]
  | .readData _ | .msg _ | .msgRingEntry _ | .spush _ | .sdata _ | .hwConfirm _ | .ezConfirm _ | .streamStopDone _ _
  | .streamTileIssue _ _ | .streamOutInject _ _ | .cbar _ | .isolate _ =>
    StatePart.all.filter (fun p => !([.clocks, .commandSlots, .pools, .stacks, .siteTime, .background, .warden].contains p))
  | .ack _ | .stackAccessComplete _ _ | .ezContrib _ _ | .grant _ | .chunk _ _ | .count _ | .digest _ =>
    StatePart.all.filter (fun p => !([.clocks, .commandSlots, .siteTime, .background, .warden].contains p))
  | .poolRead _ | .poolWrite _ =>
    [.registers, .pools, .packets, .cairn, .msix, .sent, .gauges]
  | .packetAgeDiscard _ _ _ =>
    [.clocks, .registers, .packets, .cairn, .msix, .sent]
  | .scredit _ =>
    [.registers, .rills, .packets, .cairn, .msix, .sent, .draws, .gauges, .headwater, .torus]
  | .sread _ | .swrite _ | .sfill _ | .sdrain _ =>
    [.registers, .packets, .cairn, .msix, .sent, .gauges, .memory]
  | .translationWalkDone _ _ =>
    [.registers, .packets, .cairn, .msix, .sent, .draws, .gauges, .memory]
  | .hwOpen _ | .hwRearm _ =>
    [.registers, .hostMemory, .packets, .cairn, .engines, .msix, .sent, .gauges, .headwater]
  | .hwClose _ | .hwSend _ | .data _ _ | .endMsg _ _ | .hostFetchReadDone _ _ =>
    [.registers, .packets, .cairn, .msix, .sent, .gauges, .headwater]
  | .fetchIssue _ _ | .pfcPause _ _ _ =>
    [.registers, .sent, .gauges, .headwater]
  | .gradAck _ _ =>
    [.registers, .gauges, .headwater]
  | .fetchRetryTimeout _ _ _ =>
    [.clocks, .registers, .packets, .cairn, .msix, .sent, .gauges, .headwater]
  | .gradRetryTimeout _ _ =>
    [.clocks, .registers, .cairn, .msix, .sent, .gauges, .headwater]
  | .neighbourDiscovery _ _ | .echoRequest _ _ =>
    [.registers, .sent]
  | .headwaterLinkDown _ _ | .headwaterPortUp _ _ =>
    [.clocks, .registers, .sent, .gauges, .headwater]
  | .hostGradWriteDone _ =>
    [.hostMemory, .headwater]
  | .bind _ _ | .frontGo _ =>
    [.headwater]
  | .bindDone _ _ =>
    [.registers, .cairn, .msix, .sent, .draws, .memory, .headwater]
  | .layerRebind _ _ =>
    [.clocks, .registers, .hostMemory, .packets, .cairn, .engines, .msix, .sent, .gauges, .headwater]
  | .ezOpen _ | .ezClose _ | .ezRearm _ =>
    [.registers, .packets, .cairn, .msix, .sent, .gauges, .torus]
  | .ezSend _ | .p2pGrant _ =>
    [.registers, .packets, .cairn, .msix, .sent, .draws, .gauges, .torus]
  | .opAdmit _ _ | .slotReservationGrant _ | .reduceFallback _ _ _ | .twinDigestTimeout _ _ _ _ =>
    StatePart.all.filter (fun p => !([.commandSlots, .siteTime, .background, .warden].contains p))
  | .codewordReceive _ _ =>
    [.registers, .cairn, .msix, .sent, .gauges, .torus]
  | .idle _ | .ackCredit _ | .nak _ | .train _ _ | .linkStopDone _ | .eztexLinkDown _ =>
    [.registers, .sent, .gauges, .torus]
  | .linkTrainingDone _ _ | .linkTrainingTimeout _ _ _ =>
    [.clocks, .registers, .sent, .draws, .gauges, .torus]
  | .abort _ | .p2p _ | .wirePacketForward _ =>
    StatePart.all.filter (fun p => !([.clocks, .commandSlots, .rillStores, .siteTime, .background, .warden].contains p))
  | .bcastStart _ | .bcastAck _ | .jobStart _ =>
    [.registers, .hostMemory, .engines, .msix, .sent, .draws, .gauges, .torus, .groups]
  | .bcastOpen _ | .bcastAbort _ =>
    [.registers, .sent, .draws, .gauges, .torus, .groups]
  | .bcastTimeout _ _ =>
    [.clocks, .registers, .hostMemory, .engines, .msix, .sent, .draws, .gauges, .torus, .groups]
  | .jobTStart _ _ =>
    [.clocks, .registers, .hostMemory, .engines, .msix, .sent]
  | .keyRetentionExpiry _ =>
    [.clocks, .torus]
  | .collMemberLost _ _ _ =>
    StatePart.all.filter (fun p => !([.commandSlots, .rillStores, .siteTime, .background, .warden].contains p))
  | .groupEntryValidate _ _ =>
    [.registers, .sequencers, .groups]
  | .jobCtlWrite _ _ | .confluenceRetestDone _ _ =>
    [.registers, .groups]
  | .stageWrite _ _ | .efuseClear _ _ | .weirLock | .translationStartDone _ | .setWrite _ _ _ | .xlFaultClear _
  | .gaugeCtlWrite _ _ _ | .gaugeEnChange _ _ | .gaugeWrite _ _ _ _ | .cageInsert _ _ | .pcieLinkUp _ _ _ =>
    [.registers]
  | .spareSwap _ =>
    [.registers, .rillStores, .pools, .rills, .cairn, .msix, .sent, .draws, .recovery]
  | .cmtFlashWriteDone | .drainHoldResume _ =>
    StatePart.all.filter (fun p => !([.clocks, .commandSlots, .pools, .stacks, .headwater, .torus, .groups, .siteTime, .background, .warden].contains p))
  | .holdRestore _ | .rebuildListDone _ _ =>
    StatePart.all.filter (fun p => !([.clocks, .commandSlots, .pools, .stacks, .headwater, .siteTime, .background, .warden].contains p))
  | .wearSkip _ _ =>
    [.clocks, .registers, .recovery]
  | .inputStageClose _ _ =>
    StatePart.all.filter (fun p => !([.hostMemory, .sent, .draws].contains p))
  | .powerChipletEnable _ _ =>
    [.clocks, .registers, .cairn, .msix, .sent, .recovery, .power, .siteTime, .warden]
  | .powerFail _ _ _ =>
    StatePart.all.filter (fun p => !([.hostMemory, .draws].contains p))
  | .idealDiodeOpen =>
    [.power]
  | .powerChipletFail _ | .stackTempSample _ _ | .ideIntegrityFail _ | .coolantAlarm _ _ _ =>
    [.registers, .cairn, .msix, .sent]
  | .pitchThermalThrottle _ _ | .pitchThermalRecover _ _ =>
    [.rills, .power]
  | .pitchStopDone _ _ =>
    StatePart.all.filter (fun p => !([.commandSlots, .pools, .stacks, .headwater, .torus, .groups, .siteTime, .background, .warden].contains p))
  | .pitchRailTestDone _ _ =>
    [.registers, .recovery, .power]
  | .weirFrame _ _ =>
    [.clocks, .registers, .rills, .cairn, .msix, .sent, .recovery, .power]
  | .weirRegulate _ _ =>
    [.clocks, .rills, .power]
  | .weirWardenTimeout _ | .utcOffsetChange _ =>
    [.clocks, .registers]
  | .weirEnvelopeWrite _ _ =>
    [.registers, .power]
  | .ptpSync _ _ _ | .ppsEdge _ _ =>
    [.clocks, .registers, .cairn, .msix, .sent, .draws, .power, .siteTime, .background]
  | .ptpAnnounce _ _ _ _ _ =>
    [.clocks, .registers, .siteTime]
  | .ref10Loss _ | .sourceLost _ | .holdoverTimeout _ =>
    [.clocks, .registers, .cairn, .msix, .sent, .siteTime]
  | .stCtlWrite _ | .reacquire =>
    [.clocks, .registers, .power, .siteTime, .background]
  | .timeSet _ =>
    [.registers, .siteTime]
  | .apply =>
    [.registers, .background]
  | .slotStart _ _ =>
    [.clocks, .registers, .recovery, .power, .background]
  | .stackUncorrError _ _ _ =>
    [.clocks, .registers, .stacks, .cairn, .msix, .sent]
  | .stackFail _ =>
    [.registers, .stacks, .cairn, .msix, .sent]
  | .stackTrainingDone _ _ _ =>
    [.registers, .stacks]
  | .translationStopDone _ | .invalGo _ _ | .invalDone _ =>
    [.registers, .memory]
  | .bar2Read _ _ _ _ _ =>
    [.registers, .cairn, .msix, .sent, .draws, .memory]
  | .bar2Write _ _ _ _ _ =>
    [.registers, .stacks, .cairn, .msix, .sent, .draws, .memory]
  | .keyEk _ _ =>
    [.registers, .hostMemory, .engines, .msix, .sent, .draws, .headwater]
  | .keyLoad _ | .weightSwap _ =>
    [.registers, .hostMemory, .engines, .msix, .sent, .headwater]
  | .rankWrite _ | .memberWrite _ | .stackScrubFull _ | .selfTest _ | .wipe _ | .fwUpdate _ | .nopCommand _ | .suspend _
  | .resume _ | .cqHeadWrite _ _ =>
    [.registers, .hostMemory, .engines, .msix, .sent]
  | .groupWrite _ =>
    [.registers, .hostMemory, .engines, .msix, .sent, .sequencers, .groups]
  | .imageLoad _ =>
    [.registers, .rillStores, .hostMemory, .rills, .packets, .cairn, .engines, .msix, .sent, .draws, .gauges, .memory, .sequencers]
  | .fusedRun _ =>
    [.registers, .hostMemory, .cairn, .engines, .msix, .sent, .draws, .memory, .sequencers, .recovery]
  | .checkpoint _ =>
    [.registers, .hostMemory, .engines, .msix, .sent, .sequencers]
  | .regionRemap _ =>
    [.registers, .hostMemory, .cairn, .engines, .msix, .sent, .draws, .memory]
  | .cancel _ =>
    StatePart.all.filter (fun p => !([.clocks, .commandSlots, .pools, .stacks, .power, .siteTime, .background, .warden].contains p))
  | .suspendPointReached _ _ _ | .startupTestDone _ _ =>
    StatePart.all.filter (fun p => !([.clocks, .commandSlots, .stacks, .siteTime, .background, .warden].contains p))
  | .longOperationEnd _ _ _ _ =>
    StatePart.all.filter (fun p => !([.commandSlots, .siteTime, .background].contains p))
  | .deadlineExpiry _ _ _ =>
    StatePart.all.filter (fun p => !([.commandSlots, .pools, .stacks, .power, .siteTime, .background, .warden].contains p))
  | .msixModerationExpiry _ _ =>
    [.clocks, .registers, .engines, .msix, .sent]
  | .msixVectorUnmask _ _ =>
    [.registers, .msix, .sent]
  | .ceStopDone _ =>
    [.registers, .commandSlots, .hostMemory, .engines, .msix, .sent]
  | .functionLevelReset _ =>
    StatePart.all.filter (fun p => !([.clocks, .rillStores, .pools, .stacks, .hostMemory, .siteTime, .background, .warden].contains p))
  | .pcieReset _ =>
    StatePart.all.filter (fun p => !([.clocks, .rillStores, .pools, .stacks, .hostMemory, .siteTime, .background].contains p))
  | .getVersion _ _ | .getCapabilities _ _ | .negotiateAlgorithms _ _ | .getDigests _ _ | .getCertificate _ _
  | .challenge _ _ | .getMeasurements _ _ | .keyExchange _ _ | .finish _ _ | .keyUpdate _ _ | .heartbeat _ _
  | .endSession _ _ | .getCsr _ _ | .setCertificate _ _ =>
    [.sent, .draws, .warden]
  | .vendorDefinedRequest _ _ =>
    [.registers, .hostMemory, .engines, .msix, .sent, .draws, .warden]
  | .recoveryImage | .partitionWrite | .recoveryFetchDone _ _ =>
    [.registers, .warden]
  | .partitionRead =>
    [.registers, .hostMemory]
  | .lifecycle | .standbyCoreTestDone _ =>
    [.registers, .cairn, .msix, .sent, .warden]
  | .warmReset =>
    [.registers, .rills, .engines, .sent, .gauges, .headwater, .sequencers, .torus, .warden]
  | .warmResetBoot _ =>
    StatePart.all.filter (fun p => !([.hostMemory, .sent, .draws, .siteTime, .background].contains p))
  | .wardenRestart _ | .wardenCoreTakeover _ =>
    [.clocks, .registers, .power, .warden]
  | .recoveryFetchRetry _ =>
    [.clocks, .registers, .warden]
  | .firmwareStart _ =>
    StatePart.all.filter (fun p => !([.commandSlots, .stacks, .background].contains p))
  | .ready _ =>
    [.clocks, .registers, .hostMemory, .rills, .engines, .msix, .sent, .gauges, .headwater, .sequencers, .torus, .warden]
  | .cairnFlushDone _ =>
    [.registers, .rills, .cairn, .engines, .sent, .draws, .gauges, .headwater, .sequencers, .torus, .power, .warden]
  | .flush | .cairnRead | .cairnReadDone =>
    [.registers, .cairn]
  | .gaugeChunkBoundary _ _ =>
    [.registers, .gauges]
  | .enReq _ =>
    [.registers, .commandSlots, .hostMemory, .engines, .msix, .sent, .recovery, .torus, .power]
  | .stopReq _ =>
    [.registers, .engines, .sent, .gauges, .headwater, .recovery, .torus, .power]
  | .registerWrite _ _ _ _ =>
    StatePart.all.filter (fun p => !([].contains p))
  | .cageRemove _ _ _ =>
    [.clocks, .registers, .sent, .gauges, .headwater, .torus]
  | .perstNRelease =>
    [.warden]

end Sys2Proof.Machine
end

