-- ==== Sys2Proof/Certificates/Slice0/Obligations.lean ====
section
/-! DEFINITION. The statements for the provers. Each is a conjunction of clauses, one a line of its own; OBLIGATIONS.json gives title and text. -/

open Sys2Proof Sys2Proof.Machine

/-- A step runs the command at the front of the queue. For every command c and state s, step of s with c at the front of its queue is exec of c on s
with the rest of the queue. With no command waiting, a step answers the state itself, which is the model's own choice (log 17), no rule of the
spec. Derived from 00_scope, 14_host_commands. -/
def Obligations.StepTakesFront : Prop :=
  (∀ (s : State) (c : Instr) (rest : List Instr), step { s with pending := c :: rest } = exec c { s with pending := rest }) ∧
  (∀ (s : State), s.pending = [] → step s = .next s)

/-- Every command answers a next state; one that names a unit that the module lacks changes nothing. For every command and every state: where every
operand names a unit that the module has, exec answers a next state; where one names a unit that does not exist, that next state is the state
itself (the model's choice, log 9: nothing can send such a command). No command is ever refused, and none stops. Derived from 00_scope,
95_what_each_step_holds. -/
def Obligations.EveryCommandAnswers : Prop :=
  (∀ (s : State) (c : Instr), c.wellFormed = true → ∃ t, exec c s = .next t) ∧
  (∀ (s : State) (c : Instr), c.wellFormed = false → exec c s = .next s)

/-- No command's effect touches the queue of waiting commands. Whatever command is executed on whatever state, a next state holds the same queue (the
queue is the model's own). Derived from 00_scope. -/
def Obligations.QueueUntouchedByExec : Prop :=
  ∀ (s t : State) (c : Instr), exec c s = .next t → t.pending = s.pending

/-- Every step keeps the five byte memories in canonical form. If the rill stores, the pools, the stacks, the command windows and host memory list
strictly rising addresses and no zero byte, and step answers a next state, then they do so in it. The canonical form is the model's (log 4); it
makes equal memories equal data. Derived from 02_rill_cores R26, 04_wafer_fabric R126, 06_stacks_translation, 14_host_commands R465. -/
def Obligations.StepKeepsMemoriesCanonical : Prop :=
  ∀ (s t : State), s.memOk → step s = .next t → t.memOk

/-- The memories are in canonical form at reset. The five byte memories of the reset state hold the canonical form. Derived from 16_startup. -/
def Obligations.ResetMemoriesCanonical : Prop :=
  State.reset.memOk

/-- No command but the power-on and those that may step Site Time moves a clock back. For every command but INPUT_STAGE_CLOSE (the power-on, at which
both counts start again in the model, log 87) and the five that may step Site Time (PTP_SYNC, PPS_EDGE, ST_CTL_WRITE, REACQUIRE and
REGISTER_WRITE): in a next state neither the cycle count nor Site Time is behind what it was (one motion of the clock drives both counts, log 10).
Derived from 13_site_time R438, 13_site_time R440, 13_site_time R442. -/
def Obligations.TimeNeverRunsBack : Prop :=
  ∀ (s t : State) (c : Instr), exec c s = .next t →
    (match c with | .inputStageClose _ _ | .ptpSync _ _ _ | .ppsEdge _ _ | .stCtlWrite _ | .reacquire | .registerWrite _ _ _ _ => False | _ => True) →
    s.clk.now ≤ t.clk.now ∧ s.clk.cycle ≤ t.clk.cycle

/-- What has left the package stays sent, and no free value is drawn twice. For every command: in a next state the list of messages that left the
package begins with the list before, and the model's count of free values (log 1) is not behind. Derived from 00_scope. -/
def Obligations.SentStaysSent : Prop :=
  ∀ (s t : State) (c : Instr), exec c s = .next t → s.out <+: t.out ∧ s.freeCtr ≤ t.freeCtr

/-- Each command leaves every part of the state unchanged but those listed for it. The table mayChange lists for each of the 294 commands the parts of
the state that its effect, or a fault or hold that it causes, may change. For every command and state: in a next state every part that is not
listed is as it was. Derived from 00_scope, 02_rill_cores, 14_host_commands, 18_registers. -/
def Obligations.FrameOfEveryCommand : Prop :=
  ∀ (s t : State) (c : Instr) (p : StatePart), exec c s = .next t → p ∉ mayChange c → p.same s t

/-- What the reset state holds. At reset the input stage is open, firmware does not run, no packet, command or message is in flight, every byte of the
rill stores, the pools, the stacks, the command windows and host memory reads 0 and no line is poisoned, every rill is as at its reset whole, and
there every slot is FREE at PC 0 with its registers 0, every tensor register is owned by none and holds 0, no queue is armed and no receive ring
is open, START_STAGE is 0, and PORT, LINK, STACK, PITCH, TRANSLATION and CE pages are OFF. The memories' zeros and the values that the spec does
not state are the model's choice (logs 2 to 4). Derived from 16_startup, 18_registers, 02_rill_cores R23. -/
def Obligations.ResetValues : Prop :=
  (State.reset.inputStage = 0 ∧ State.reset.fwUp = false ∧ State.reset.pending = [] ∧ State.reset.net = [] ∧ State.reset.out = [] ∧ (∀ a, memRead State.reset.store a = 0 ∧ memRead State.reset.pool a = 0 ∧ memRead State.reset.stack a = 0 ∧ memRead State.reset.slotMem a = 0 ∧ memRead State.reset.host a = 0) ∧ State.reset.storePoison = [] ∧ State.reset.poolPoison = [] ∧ State.reset.stackPoison = [] ∧ (∀ k, State.reset.rill k = Rill.init) ∧ (∀ k n g, ((State.reset.rill k).slot n).st = .free ∧ ((State.reset.rill k).slot n).pc = 0 ∧ ((State.reset.rill k).slot n).event = 0 ∧ ((State.reset.rill k).slot n).greg g = 0 ∧ (State.reset.rill k).owner g = 31 ∧ (State.reset.rill k).treg g = List.replicate 256 0 ∧ ((State.reset.rill k).queue g).st = stOff ∧ ((State.reset.rill k).queue g).arms = [] ∧ (State.reset.rill k).rxLen = 0 ∧ (State.reset.rill k).rx = [] ∧ (State.reset.rill k).tensorQ = [] ∧ (State.reset.rill k).vectorQ = []) ∧ State.reset.stage = 0 ∧ (∀ p, p < 32 → State.reset.pst clsPort p = stOff) ∧ (∀ l, l < 76 → State.reset.pst clsLink l = stOff) ∧ (∀ p, p < 24 → State.reset.pst clsStack p = stOff) ∧ (∀ p, p < 252 → State.reset.pst clsPitch p = stOff) ∧ (∀ x, x < 17 → State.reset.pst clsXl x = stOff ∧ State.reset.pst clsCe x = stOff))

/-- Format S: each operation writes its value to gd, PC moves on by 8, nothing else changes. For every state and every slot that may issue the named
operation: exec answers the state in which gd holds the value (a gd of 0 discards it), PC is 8 further, and the slot's and the rill's times of
issue and the clock are those of the issue. CMPLT compares signed, CMPLTU and MULHU unsigned; a shift amount is the low 6 bits of gs2. Derived
from 02_rill_cores R41, 02_rill_cores R36. -/
def Obligations.ScalarRegisterResults : Prop :=
  (∀ (s : State) (a : SlotId), s.canIssue a 0x01 → exec (.add a) s = .next (s.gives a (s.src1 a + s.src2 a))) ∧
  (∀ (s : State) (a : SlotId), s.canIssue a 0x02 → exec (.sub a) s = .next (s.gives a (s.src1 a - s.src2 a))) ∧
  (∀ (s : State) (a : SlotId), s.canIssue a 0x03 → exec (.and a) s = .next (s.gives a (s.src1 a &&& s.src2 a))) ∧
  (∀ (s : State) (a : SlotId), s.canIssue a 0x04 → exec (.or a) s = .next (s.gives a (s.src1 a ||| s.src2 a))) ∧
  (∀ (s : State) (a : SlotId), s.canIssue a 0x05 → exec (.xor a) s = .next (s.gives a (s.src1 a ^^^ s.src2 a))) ∧
  (∀ (s : State) (a : SlotId), s.canIssue a 0x06 → exec (.shl a) s = .next (s.gives a (s.src1 a <<< ((s.src2 a).toNat % 64)))) ∧
  (∀ (s : State) (a : SlotId), s.canIssue a 0x07 → exec (.shr a) s = .next (s.gives a (s.src1 a >>> ((s.src2 a).toNat % 64)))) ∧
  (∀ (s : State) (a : SlotId), s.canIssue a 0x08 → exec (.sra a) s = .next (s.gives a ((s.src1 a).sshiftRight ((s.src2 a).toNat % 64)))) ∧
  (∀ (s : State) (a : SlotId), s.canIssue a 0x09 → exec (.mul a) s = .next (s.gives a (s.src1 a * s.src2 a))) ∧
  (∀ (s : State) (a : SlotId), s.canIssue a 0x0A →
    exec (.mulhu a) s = .next (s.gives a (BitVec.ofNat 64 ((s.src1 a).toNat * (s.src2 a).toNat / 2 ^ 64)))) ∧
  (∀ (s : State) (a : SlotId), s.canIssue a 0x0B → exec (.cmpeq a) s = .next (s.gives a (if s.src1 a = s.src2 a then 1 else 0))) ∧
  (∀ (s : State) (a : SlotId), s.canIssue a 0x0C → exec (.cmplt a) s = .next (s.gives a (if (s.src1 a).toInt < (s.src2 a).toInt then 1 else 0))) ∧
  (∀ (s : State) (a : SlotId), s.canIssue a 0x0D →
    exec (.cmpltu a) s = .next (s.gives a (if (s.src1 a).toNat < (s.src2 a).toNat then 1 else 0)))

/-- Format I: each operation writes its value to gd, PC moves on by 8, nothing else changes. For every state and every slot that may issue the named
operation: exec answers the state in which gd holds the value computed from gs1 and the sign-extended imm32 (SHLI and SHRI shift by imm32[5:0];
MOVHI puts imm32 over bits 63 to 32 of gd and keeps bits 31 to 0), PC is 8 further, and nothing else changes but the times of the issue. Derived
from 02_rill_cores R41, 02_rill_cores R36. -/
def Obligations.ImmediateResults : Prop :=
  (∀ (s : State) (a : SlotId), s.canIssue a 0x10 → exec (.addi a) s = .next (s.gives a (s.src1 a + s.immNow a))) ∧
  (∀ (s : State) (a : SlotId), s.canIssue a 0x11 → exec (.andi a) s = .next (s.gives a (s.src1 a &&& s.immNow a))) ∧
  (∀ (s : State) (a : SlotId), s.canIssue a 0x12 → exec (.ori a) s = .next (s.gives a (s.src1 a ||| s.immNow a))) ∧
  (∀ (s : State) (a : SlotId), s.canIssue a 0x13 → exec (.xori a) s = .next (s.gives a (s.src1 a ^^^ s.immNow a))) ∧
  (∀ (s : State) (a : SlotId), s.canIssue a 0x14 → exec (.shli a) s = .next (s.gives a (s.src1 a <<< ((immOf (s.wordNow a)).toNat % 64)))) ∧
  (∀ (s : State) (a : SlotId), s.canIssue a 0x15 → exec (.shri a) s = .next (s.gives a (s.src1 a >>> ((immOf (s.wordNow a)).toNat % 64)))) ∧
  (∀ (s : State) (a : SlotId), s.canIssue a 0x16 → exec (.movi a) s = .next (s.gives a (s.immNow a))) ∧
  (∀ (s : State) (a : SlotId), s.canIssue a 0x17 →
    exec (.movhi a) s = .next (s.gives a (immOf (s.wordNow a) ++ (s.destNow a).extractLsb' 0 32)))

/-- LD8, LD32 and LD64: gd receives the zero-extended bytes at gs1 plus offset; nothing else changes. For every state and slot that may issue the
load, where the local address gs1 + offset is readable with the bytes b: exec answers the state in which gd holds b, lowest byte first,
zero-extended, for use after 3 cycles (rill store) or 6 (home pool); PC is 8 further and nothing but the times of the issue changes. Where the
address faults (ADDR, ALIGN or POISON) the slot faults with that code. Derived from 02_rill_cores R26, 02_rill_cores R28, 02_rill_cores R41. -/
def Obligations.LocalLoads : Prop :=
  (∀ (s : State) (a : SlotId) (b : List Byte), s.canIssue a 0x20 → s.localRead (slotK a) (localAt (s.eaNow a).toNat 1 1) 1 = .inr b →
    exec (.ld8 a) s = .next (s.loaded a (localAt (s.eaNow a).toNat 1 1) (BitVec.ofNat 64 (leNat b)))) ∧
  (∀ (s : State) (a : SlotId) (b : List Byte), s.canIssue a 0x21 → s.localRead (slotK a) (localAt (s.eaNow a).toNat 4 4) 4 = .inr b →
    exec (.ld32 a) s = .next (s.loaded a (localAt (s.eaNow a).toNat 4 4) (BitVec.ofNat 64 (leNat b)))) ∧
  (∀ (s : State) (a : SlotId) (b : List Byte), s.canIssue a 0x22 → s.localRead (slotK a) (localAt (s.eaNow a).toNat 8 8) 8 = .inr b →
    exec (.ld64 a) s = .next (s.loaded a (localAt (s.eaNow a).toNat 8 8) (BitVec.ofNat 64 (leNat b)))) ∧
  (∀ (s : State) (a : SlotId) (f : Nat), s.canIssue a 0x20 → s.localRead (slotK a) (localAt (s.eaNow a).toNat 1 1) 1 = .inl f →
    exec (.ld8 a) s = .next (s.traps a f)) ∧
  (∀ (s : State) (a : SlotId) (f : Nat), s.canIssue a 0x21 → s.localRead (slotK a) (localAt (s.eaNow a).toNat 4 4) 4 = .inl f →
    exec (.ld32 a) s = .next (s.traps a f)) ∧
  (∀ (s : State) (a : SlotId) (f : Nat), s.canIssue a 0x22 → s.localRead (slotK a) (localAt (s.eaNow a).toNat 8 8) 8 = .inl f →
    exec (.ld64 a) s = .next (s.traps a f))

/-- ST8, ST32 and ST64: the low bytes of gs2 go to gs1 plus offset; nothing else changes. For every state and slot that may issue the store: where the
local address falls in the rill store, respectively in the home pool, exec answers the state in which exactly the 1, 4 or 8 bytes at that address
hold the low bytes of gs2, lowest first, PC is 8 further, and nothing else changes but the times of the issue. Where the address faults the slot
faults and stores nothing. Derived from 02_rill_cores R26, 02_rill_cores R28, 02_rill_cores R41. -/
def Obligations.LocalStores : Prop :=
  (∀ (s : State) (a : SlotId) (x : Nat), s.canIssue a 0x23 → localAt (s.eaNow a).toNat 1 1 = .store x →
    exec (.st8 a) s = .next (((s.issued a).storeWrite (slotK a) x (leBytes 1 (s.src2 a).toNat) false).retiredIn a id)) ∧
  (∀ (s : State) (a : SlotId) (x : Nat), s.canIssue a 0x23 → localAt (s.eaNow a).toNat 1 1 = .pool x →
    exec (.st8 a) s = .next (((s.issued a).poolWrite (slotK a) x (leBytes 1 (s.src2 a).toNat) false).retiredIn a id)) ∧
  (∀ (s : State) (a : SlotId) (x : Nat), s.canIssue a 0x24 → localAt (s.eaNow a).toNat 4 4 = .store x →
    exec (.st32 a) s = .next (((s.issued a).storeWrite (slotK a) x (leBytes 4 (s.src2 a).toNat) false).retiredIn a id)) ∧
  (∀ (s : State) (a : SlotId) (x : Nat), s.canIssue a 0x24 → localAt (s.eaNow a).toNat 4 4 = .pool x →
    exec (.st32 a) s = .next (((s.issued a).poolWrite (slotK a) x (leBytes 4 (s.src2 a).toNat) false).retiredIn a id)) ∧
  (∀ (s : State) (a : SlotId) (x : Nat), s.canIssue a 0x25 → localAt (s.eaNow a).toNat 8 8 = .store x →
    exec (.st64 a) s = .next (((s.issued a).storeWrite (slotK a) x (leBytes 8 (s.src2 a).toNat) false).retiredIn a id)) ∧
  (∀ (s : State) (a : SlotId) (x : Nat), s.canIssue a 0x25 → localAt (s.eaNow a).toNat 8 8 = .pool x →
    exec (.st64 a) s = .next (((s.issued a).poolWrite (slotK a) x (leBytes 8 (s.src2 a).toNat) false).retiredIn a id)) ∧
  (∀ (s : State) (a : SlotId) (f : Nat), s.canIssue a 0x23 → localAt (s.eaNow a).toNat 1 1 = .fault f → exec (.st8 a) s = .next (s.traps a f)) ∧
  (∀ (s : State) (a : SlotId) (f : Nat), s.canIssue a 0x24 → localAt (s.eaNow a).toNat 4 4 = .fault f → exec (.st32 a) s = .next (s.traps a f)) ∧
  (∀ (s : State) (a : SlotId) (f : Nat), s.canIssue a 0x25 → localAt (s.eaNow a).toNat 8 8 = .fault f → exec (.st64 a) s = .next (s.traps a f))

/-- A store of n bytes changes exactly the n bytes at the address it computes. For ST8, ST32 and ST64 of a slot that may issue, where the local
address x = gs1 + offset falls in the rill store, and a store memory in canonical form: after it byte i of the n bytes at x is byte i of gs2,
every other byte of every rill store reads as before, and every byte of the pools, the stacks and host memory is unchanged. Derived from
02_rill_cores R26, 02_rill_cores R41. -/
def Obligations.StoredBytes : Prop :=
  (∀ (s t : State) (a : SlotId) (x y : Nat), s.canIssue a 0x23 → localAt (s.eaNow a).toNat 1 1 = .store x → Mem.wf s.store = true →
    exec (.st8 a) s = .next t → (∀ i, i < 1 → memRead t.store (sbase (slotK a) + x + i) = BitVec.ofNat 8 ((s.src2 a).toNat / 256 ^ i)) ∧
    ((y < sbase (slotK a) + x ∨ sbase (slotK a) + x + 1 ≤ y) → memRead t.store y = memRead s.store y) ∧ t.pool = s.pool ∧ t.stack = s.stack ∧
    t.host = s.host) ∧
  (∀ (s t : State) (a : SlotId) (x y : Nat), s.canIssue a 0x24 → localAt (s.eaNow a).toNat 4 4 = .store x → Mem.wf s.store = true →
    exec (.st32 a) s = .next t → (∀ i, i < 4 → memRead t.store (sbase (slotK a) + x + i) = BitVec.ofNat 8 ((s.src2 a).toNat / 256 ^ i)) ∧
    ((y < sbase (slotK a) + x ∨ sbase (slotK a) + x + 4 ≤ y) → memRead t.store y = memRead s.store y) ∧ t.pool = s.pool ∧ t.stack = s.stack ∧
    t.host = s.host) ∧
  (∀ (s t : State) (a : SlotId) (x y : Nat), s.canIssue a 0x25 → localAt (s.eaNow a).toNat 8 8 = .store x → Mem.wf s.store = true →
    exec (.st64 a) s = .next t → (∀ i, i < 8 → memRead t.store (sbase (slotK a) + x + i) = BitVec.ofNat 8 ((s.src2 a).toNat / 256 ^ i)) ∧
    ((y < sbase (slotK a) + x ∨ sbase (slotK a) + x + 8 ≤ y) → memRead t.store y = memRead s.store y) ∧ t.pool = s.pool ∧ t.stack = s.stack ∧
    t.host = s.host)

/-- Where a local access of n bytes falls. An access of n bytes (n at least 1, aligned to al) wholly below 0xC000 falls in the rill store, wholly
within 0x10000 to 0x1FFFF in the home pool, both only where the address is a multiple of al and otherwise with ALIGN; any other access faults with
ADDR whatever its alignment. Derived from 02_rill_cores R26. -/
def Obligations.LocalAddressMap : Prop :=
  (∀ (x n al : Nat), 0 < n → x + n ≤ 0xC000 → x % al = 0 → localAt x n al = .store x) ∧
  (∀ (x n al : Nat), 0 < n → 0x10000 ≤ x → x + n ≤ 0x20000 → x % al = 0 → localAt x n al = .pool (x - 0x10000)) ∧
  (∀ (x n al : Nat), 0 < n → (x + n ≤ 0xC000 ∨ (0x10000 ≤ x ∧ x + n ≤ 0x20000)) → x % al ≠ 0 → localAt x n al = .fault fAlign) ∧
  (∀ (x n al : Nat), 0 < n → 0xC000 < x + n → (x < 0x10000 ∨ 0x20000 < x + n) → localAt x n al = .fault fAddr)

/-- AMOADD, AMOSWAP, LDP64 and STP64. AMOADD stores old + gs2 and AMOSWAP gs2, and gd receives the 8 bytes that were there, for use after 3 cycles
(rill store) or 6 (home pool). LDP64 of an address in the own home pool reads it; of another pool it sends a READ with POOL set and leaves the
load pending on gd. STP64 of the own home pool writes it; of another pool it sends a WRITE with POOL and ACK_REQ set and leaves its
acknowledgement outstanding. An address that names no pool, or is no multiple of 8, faults with ADDR; a local one of an atomic faults with ADDR,
ALIGN or POISON. Derived from 02_rill_cores R26, 02_rill_cores R41, 02_rill_cores R46, 04_wafer_fabric R126, 04_wafer_fabric R127. -/
def Obligations.AtomicsAndGlobalPool : Prop :=
  (∀ (s : State) (a : SlotId) (f : Nat), s.canIssue a 0x28 → s.localRead (slotK a) (localAt (s.eaNow a).toNat 8 8) 8 = .inl f →
    exec (.amoadd a) s = .next (s.traps a f)) ∧
  (∀ (s : State) (a : SlotId) (f : Nat), s.canIssue a 0x29 → s.localRead (slotK a) (localAt (s.eaNow a).toNat 8 8) 8 = .inl f →
    exec (.amoswap a) s = .next (s.traps a f)) ∧
  (∀ (s : State) (a : SlotId) (x : Nat) (b : List Byte), s.canIssue a 0x28 → localAt (s.eaNow a).toNat 8 8 = .store x →
    s.localRead (slotK a) (.store x) 8 = .inr b →
    exec (.amoadd a) s = .next (((s.issued a).storeWrite (slotK a) x (leBytes 8 (BitVec.ofNat 64 (leNat b) + s.src2 a : W64).toNat) false).retiredIn a (fun y => { y.setG (gdOf (s.wordNow a)) (BitVec.ofNat 64 (leNat b)) with gready := put y.gready (gdOf (s.wordNow a)) ((s.issued a).clk.cycle + 3) }))) ∧
  (∀ (s : State) (a : SlotId) (x : Nat) (b : List Byte), s.canIssue a 0x28 → localAt (s.eaNow a).toNat 8 8 = .pool x →
    s.localRead (slotK a) (.pool x) 8 = .inr b →
    exec (.amoadd a) s = .next (((s.issued a).poolWrite (slotK a) x (leBytes 8 (BitVec.ofNat 64 (leNat b) + s.src2 a : W64).toNat) false).retiredIn a (fun y => { y.setG (gdOf (s.wordNow a)) (BitVec.ofNat 64 (leNat b)) with gready := put y.gready (gdOf (s.wordNow a)) ((s.issued a).clk.cycle + 6) }))) ∧
  (∀ (s : State) (a : SlotId) (x : Nat) (b : List Byte), s.canIssue a 0x29 → localAt (s.eaNow a).toNat 8 8 = .store x →
    s.localRead (slotK a) (.store x) 8 = .inr b →
    exec (.amoswap a) s = .next (((s.issued a).storeWrite (slotK a) x (leBytes 8 (s.src2 a : W64).toNat) false).retiredIn a (fun y => { y.setG (gdOf (s.wordNow a)) (BitVec.ofNat 64 (leNat b)) with gready := put y.gready (gdOf (s.wordNow a)) ((s.issued a).clk.cycle + 3) }))) ∧
  (∀ (s : State) (a : SlotId) (x : Nat) (b : List Byte), s.canIssue a 0x29 → localAt (s.eaNow a).toNat 8 8 = .pool x →
    s.localRead (slotK a) (.pool x) 8 = .inr b →
    exec (.amoswap a) s = .next (((s.issued a).poolWrite (slotK a) x (leBytes 8 (s.src2 a : W64).toNat) false).retiredIn a (fun y => { y.setG (gdOf (s.wordNow a)) (BitVec.ofNat 64 (leNat b)) with gready := put y.gready (gdOf (s.wordNow a)) ((s.issued a).clk.cycle + 6) }))) ∧
  (∀ (s : State) (a : SlotId) (x : Nat) (b : List Byte), s.canIssue a 0x26 → poolAddr (s.eaNow a).toNat = some (slotK a, x) → x % 8 = 0 →
    s.localRead (slotK a) (.pool x) 8 = .inr b → exec (.ldp64 a) s = .next (s.loaded a (.pool x) (BitVec.ofNat 64 (leNat b)))) ∧
  (∀ (s : State) (a : SlotId) (u : State) (k x : Nat), s.canIssue a 0x26 → poolAddr (s.eaNow a).toNat = some (k, x) → x % 8 = 0 →
    k ≠ slotK a →
    ((s.issued a).fresh.2).inject? { (s.issued a).fresh.2.slotPacket (slotK a) a.slot with dcol := rcol k, drow := rrow k, kind := 2, pool := true, len := 8, addr := x, xid := (s.issued a).fresh.1 } = some u →
    exec (.ldp64 a) s = .next (u.retiredIn a (fun y => { y with loads := y.loads ++ [((s.issued a).fresh.1, gdOf (s.wordNow a))] }))) ∧
  (∀ (s : State) (a : SlotId), s.canIssue a 0x26 → (poolAddr (s.eaNow a).toNat = none ∨ (s.eaNow a).toNat % 8 ≠ 0) →
    exec (.ldp64 a) s = .next (s.traps a fAddr)) ∧
  (∀ (s : State) (a : SlotId), s.canIssue a 0x27 → (poolAddr (s.eaNow a).toNat = none ∨ (s.eaNow a).toNat % 8 ≠ 0) →
    exec (.stp64 a) s = .next (s.traps a fAddr)) ∧
  (∀ (s : State) (a : SlotId) (x : Nat), s.canIssue a 0x27 → poolAddr (s.eaNow a).toNat = some (slotK a, x) → x % 8 = 0 →
    exec (.stp64 a) s = .next (((s.issued a).poolWrite (slotK a) x (leBytes 8 (s.src2 a).toNat) false).retiredIn a id)) ∧
  (∀ (s : State) (a : SlotId) (u : State) (k x : Nat), s.canIssue a 0x27 → poolAddr (s.eaNow a).toNat = some (k, x) → x % 8 = 0 →
    k ≠ slotK a →
    ((s.issued a).fresh.2).inject? { (s.issued a).fresh.2.slotPacket (slotK a) a.slot with dcol := rcol k, drow := rrow k, kind := 1, pool := true, ackReq := true, len := 8, addr := x, payload := leBytes 8 (s.src2 a).toNat, xid := (s.issued a).fresh.1 } = some u →
    exec (.stp64 a) s = .next (u.retiredIn a (fun y => { y with acks := y.acks ++ [(s.issued a).fresh.1] })))

/-- J, JR, CALL, BEQ, BNE, BLT and BLTU move PC and change nothing else; a target outside the store or off a word faults. The target of J, CALL and a
taken branch is PC + offset, of JR gs1. A target below 0xC000 that is a multiple of 8 becomes PC; CALL also writes PC + 8 to g31; an untaken
branch moves PC on by 8. Nothing else changes but the times of the issue. A taken target at or above 0xC000 faults with ADDR, otherwise one that
is no multiple of 8 with ALIGN, and PC stays. Derived from 02_rill_cores R36, 02_rill_cores R41, 02_rill_cores R42. -/
def Obligations.JumpsAndBranches : Prop :=
  (∀ (s : State) (a : SlotId), s.canIssue a 0x30 → (s.targetNow a).toNat < 0xC000 → (s.targetNow a).toNat % 8 = 0 →
    exec (.j a) s = .next (s.placed a ((s.targetNow a).truncate 32) id id)) ∧
  (∀ (s : State) (a : SlotId), s.canIssue a 0x31 → (s.src1 a).toNat < 0xC000 → (s.src1 a).toNat % 8 = 0 →
    exec (.jr a) s = .next (s.placed a ((s.src1 a).truncate 32) id id)) ∧
  (∀ (s : State) (a : SlotId), s.canIssue a 0x32 → (s.targetNow a).toNat < 0xC000 → (s.targetNow a).toNat % 8 = 0 →
    exec (.call a) s = .next (s.placed a ((s.targetNow a).truncate 32) id (fun x => x.setG 31 (((s.slotNow a).pc + 8).zeroExtend 64)))) ∧
  (∀ (s : State) (a : SlotId), s.canIssue a 0x33 → s.src1 a = s.src2 a → (s.targetNow a).toNat < 0xC000 → (s.targetNow a).toNat % 8 = 0 →
    exec (.beq a) s = .next (s.placed a ((s.targetNow a).truncate 32) id id)) ∧
  (∀ (s : State) (a : SlotId), s.canIssue a 0x33 → (¬ s.src1 a = s.src2 a) → exec (.beq a) s = .next (s.retired a id)) ∧
  (∀ (s : State) (a : SlotId), s.canIssue a 0x34 → s.src1 a ≠ s.src2 a → (s.targetNow a).toNat < 0xC000 → (s.targetNow a).toNat % 8 = 0 →
    exec (.bne a) s = .next (s.placed a ((s.targetNow a).truncate 32) id id)) ∧
  (∀ (s : State) (a : SlotId), s.canIssue a 0x34 → (¬ s.src1 a ≠ s.src2 a) → exec (.bne a) s = .next (s.retired a id)) ∧
  (∀ (s : State) (a : SlotId), s.canIssue a 0x35 → (s.src1 a).toInt < (s.src2 a).toInt → (s.targetNow a).toNat < 0xC000 →
    (s.targetNow a).toNat % 8 = 0 → exec (.blt a) s = .next (s.placed a ((s.targetNow a).truncate 32) id id)) ∧
  (∀ (s : State) (a : SlotId), s.canIssue a 0x35 → (¬ (s.src1 a).toInt < (s.src2 a).toInt) → exec (.blt a) s = .next (s.retired a id)) ∧
  (∀ (s : State) (a : SlotId), s.canIssue a 0x36 → (s.src1 a).toNat < (s.src2 a).toNat → (s.targetNow a).toNat < 0xC000 →
    (s.targetNow a).toNat % 8 = 0 → exec (.bltu a) s = .next (s.placed a ((s.targetNow a).truncate 32) id id)) ∧
  (∀ (s : State) (a : SlotId), s.canIssue a 0x36 → (¬ (s.src1 a).toNat < (s.src2 a).toNat) → exec (.bltu a) s = .next (s.retired a id)) ∧
  (∀ (s : State) (a : SlotId), s.canIssue a 0x30 → 0xC000 ≤ (s.targetNow a).toNat → exec (.j a) s = .next (s.traps a fAddr)) ∧
  (∀ (s : State) (a : SlotId), s.canIssue a 0x30 → (s.targetNow a).toNat < 0xC000 → (s.targetNow a).toNat % 8 ≠ 0 →
    exec (.j a) s = .next (s.traps a fAlign)) ∧
  (∀ (s : State) (a : SlotId), s.canIssue a 0x31 → 0xC000 ≤ (s.src1 a).toNat → exec (.jr a) s = .next (s.traps a fAddr)) ∧
  (∀ (s : State) (a : SlotId), s.canIssue a 0x31 → (s.src1 a).toNat < 0xC000 → (s.src1 a).toNat % 8 ≠ 0 →
    exec (.jr a) s = .next (s.traps a fAlign)) ∧
  (∀ (s : State) (a : SlotId), s.canIssue a 0x32 → 0xC000 ≤ (s.targetNow a).toNat → exec (.call a) s = .next (s.traps a fAddr)) ∧
  (∀ (s : State) (a : SlotId), s.canIssue a 0x32 → (s.targetNow a).toNat < 0xC000 → (s.targetNow a).toNat % 8 ≠ 0 →
    exec (.call a) s = .next (s.traps a fAlign)) ∧
  (∀ (s : State) (a : SlotId), s.canIssue a 0x33 → s.src1 a = s.src2 a → 0xC000 ≤ (s.targetNow a).toNat →
    exec (.beq a) s = .next (s.traps a fAddr)) ∧
  (∀ (s : State) (a : SlotId), s.canIssue a 0x33 → s.src1 a = s.src2 a → (s.targetNow a).toNat < 0xC000 → (s.targetNow a).toNat % 8 ≠ 0 →
    exec (.beq a) s = .next (s.traps a fAlign)) ∧
  (∀ (s : State) (a : SlotId), s.canIssue a 0x34 → s.src1 a ≠ s.src2 a → 0xC000 ≤ (s.targetNow a).toNat →
    exec (.bne a) s = .next (s.traps a fAddr)) ∧
  (∀ (s : State) (a : SlotId), s.canIssue a 0x34 → s.src1 a ≠ s.src2 a → (s.targetNow a).toNat < 0xC000 → (s.targetNow a).toNat % 8 ≠ 0 →
    exec (.bne a) s = .next (s.traps a fAlign)) ∧
  (∀ (s : State) (a : SlotId), s.canIssue a 0x35 → (s.src1 a).toInt < (s.src2 a).toInt → 0xC000 ≤ (s.targetNow a).toNat →
    exec (.blt a) s = .next (s.traps a fAddr)) ∧
  (∀ (s : State) (a : SlotId), s.canIssue a 0x35 → (s.src1 a).toInt < (s.src2 a).toInt → (s.targetNow a).toNat < 0xC000 →
    (s.targetNow a).toNat % 8 ≠ 0 → exec (.blt a) s = .next (s.traps a fAlign)) ∧
  (∀ (s : State) (a : SlotId), s.canIssue a 0x36 → (s.src1 a).toNat < (s.src2 a).toNat → 0xC000 ≤ (s.targetNow a).toNat →
    exec (.bltu a) s = .next (s.traps a fAddr)) ∧
  (∀ (s : State) (a : SlotId), s.canIssue a 0x36 → (s.src1 a).toNat < (s.src2 a).toNat → (s.targetNow a).toNat < 0xC000 →
    (s.targetNow a).toNat % 8 ≠ 0 → exec (.bltu a) s = .next (s.traps a fAlign))

/-- SPAWN, EXIT and the end of a task, NOP and TRAP. SPAWN starts the lowest-numbered FREE slot READY at gs1, cut to 32 bits and a multiple of 8 (the
model's choice, log 13, where gs1 is neither), with g1 = gs2 and g2 = the issuing slot, every other register and EVENT 0, and gives its number;
with no FREE slot it gives -1. EXIT keeps the slot from issuing further until its work has finished (it retires only then: the model's reading,
log 141); then the task ends: its tensor registers are unowned, the slot FREE with EVENT 0. NOP only moves PC on by 8. TRAP faults with 0x05 and
imm32[7:0]. Derived from 02_rill_cores R31, 02_rill_cores R35, 02_rill_cores R36, 02_rill_cores R41, 02_rill_cores R60. -/
def Obligations.TaskControl : Prop :=
  (∀ (s : State) (a : SlotId) (m : Nat), s.canIssue a 0x40 → m < 16 → ((s.rill (slotK a)).slot m).st = .free →
    (∀ j, j < m → ((s.rill (slotK a)).slot j).st ≠ .free) →
    exec (.spawn a) s = .next (((s.issued a).modSlot (slotK a) m (fun x => x.begin (pcAt (s.src1 a)) [(1, s.src2 a), (2, BitVec.ofNat 64 a.slot)] (s.issued a).clk.cycle)).retiredIn a (fun x => x.setG (gdOf (s.wordNow a)) (BitVec.ofNat 64 m)))) ∧
  (∀ (s : State) (a : SlotId), s.canIssue a 0x40 → (∀ j, j < 16 → ((s.rill (slotK a)).slot j).st ≠ .free) →
    exec (.spawn a) s = .next (s.gives a (-1))) ∧
  (∀ (s : State) (a : SlotId), s.canIssue a 0x41 →
    exec (.exit a) s = .next ((s.issued a).modSlot (slotK a) a.slot (fun x => { x with exiting := true }))) ∧
  (∀ (s : State) (a : SlotId), slotOk a → s.alive (slotK a) → (s.slotNow a).exiting → (s.rill (slotK a)).inFlight a.slot = false →
    exec (.exitComplete a) s = .next (s.setRill (slotK a) ((s.rill (slotK a)).endTask a.slot)) ∧
    (((s.rill (slotK a)).endTask a.slot).slot a.slot).st = .free ∧ (((s.rill (slotK a)).endTask a.slot).slot a.slot).event = 0 ∧ ∀ t, t < 16 →
    (s.rill (slotK a)).owner t = a.slot → ((s.rill (slotK a)).endTask a.slot).owner t = 31) ∧
  (∀ (s : State) (a : SlotId), s.canIssue a 0x83 → exec (.nop a) s = .next (s.retired a id)) ∧
  (∀ (s : State) (a : SlotId), s.canIssue a 0x82 → exec (.trap a) s = .next (s.traps a (fTrap + 256 * ((immOf (s.wordNow a)).toNat % 256))))

/-- YIELD, WAITEV, SIGNAL, FENCE and the ends of waits. YIELD makes the slot WAITING for imm32[15:0] cycles, at whose end it is READY with PC 8
further. WAITEV with EVENT AND mask non-zero gives those bits and clears them, otherwise waits. SIGNAL sets EVENT bit imm32[3:0] of slot gs1[3:0],
except of a FREE or FAULTED slot. FENCE retires where nothing of the slot is outstanding, otherwise waits. SLOT_WAKE ends a wait whose condition
is met: for WAITEV the bits go to gd and are cleared, for FENCE nothing else changes, and PC moves on by 8. Derived from 02_rill_cores R31,
02_rill_cores R41, 02_rill_cores R46. -/
def Obligations.WaitsAndEvents : Prop :=
  (∀ (s : State) (a : SlotId), s.canIssue a 0x42 →
    exec (.yieldOp a) s = .next (s.waits a (.yield ((s.issued a).clk.cycle + (immOf (s.wordNow a)).toNat % 65536)))) ∧
  (∀ (s : State) (a : SlotId) (c u : Nat), slotOk a → s.alive (slotK a) → (s.slotNow a).st = .waiting → (s.slotNow a).wait = .yield u →
    u ≤ max c s.clk.cycle → exec (.yieldExpiry a c) s = .next ((s.atCycle c).wakeWith (slotK a) a.slot id)) ∧
  (∀ (s : State) (a : SlotId), s.canIssue a 0x43 → (s.slotNow a).event &&& BitVec.ofNat 16 (wf (s.wordNow a) 0 16) ≠ 0 →
    exec (.waitev a) s = .next (s.retired a (fun x => { x.setG (gdOf (s.wordNow a)) (((s.slotNow a).event &&& BitVec.ofNat 16 (wf (s.wordNow a) 0 16)).zeroExtend 64) with event := x.event &&& ~~~((s.slotNow a).event &&& BitVec.ofNat 16 (wf (s.wordNow a) 0 16)) }))) ∧
  (∀ (s : State) (a : SlotId), s.canIssue a 0x43 → (s.slotNow a).event &&& BitVec.ofNat 16 (wf (s.wordNow a) 0 16) = 0 →
    exec (.waitev a) s = .next (s.waits a (.waitev (BitVec.ofNat 16 (wf (s.wordNow a) 0 16)).toNat (gdOf (s.wordNow a))))) ∧
  (∀ (s : State) (a : SlotId), s.canIssue a 0x44 → ((s.rill (slotK a)).slot ((s.src1 a).toNat % 16)).st ≠ .free →
    ((s.rill (slotK a)).slot ((s.src1 a).toNat % 16)).st ≠ .faulted →
    exec (.signal a) s = .next (((s.issued a).modSlot (slotK a) ((s.src1 a).toNat % 16) (fun x => { x with event := x.event ||| 1 <<< wf (s.wordNow a) 0 4 })).retiredIn a id)) ∧
  (∀ (s : State) (a : SlotId), s.canIssue a 0x44 →
    (((s.rill (slotK a)).slot ((s.src1 a).toNat % 16)).st = .free ∨ ((s.rill (slotK a)).slot ((s.src1 a).toNat % 16)).st = .faulted) →
    (s.src1 a).toNat % 16 ≠ a.slot → ∃ t, exec (.signal a) s = .next t ∧
    (t.rill (slotK a)).slot ((s.src1 a).toNat % 16) = (s.rill (slotK a)).slot ((s.src1 a).toNat % 16) ∧
    t.slotNow a = { s.slotNow a with pc := (s.slotNow a).pc + 8, lastRetire := t.clk.cycle, issuedAt := t.clk.cycle + 1 }) ∧
  (∀ (s : State) (a : SlotId), s.canIssue a 0x47 → (s.rill (slotK a)).fenced a.slot → exec (.fence a) s = .next (s.retired a id)) ∧
  (∀ (s : State) (a : SlotId), s.canIssue a 0x47 → (s.rill (slotK a)).fenced a.slot = false → exec (.fence a) s = .next (s.waits a .fence)) ∧
  (∀ (s : State) (a : SlotId) (m g : Nat), slotOk a → s.alive (slotK a) → (s.slotNow a).st = .waiting → (s.slotNow a).wait = .waitev m g →
    (s.slotNow a).event &&& BitVec.ofNat 16 m ≠ 0 →
    exec (.slotWake a) s = .next (s.wakeWith (slotK a) a.slot (fun x => { x.setG g (((s.slotNow a).event &&& BitVec.ofNat 16 m).zeroExtend 64) with event := x.event &&& ~~~((s.slotNow a).event &&& BitVec.ofNat 16 m) }))) ∧
  (∀ (s : State) (a : SlotId), slotOk a → s.alive (slotK a) → (s.slotNow a).st = .waiting → (s.slotNow a).wait = .fence →
    (s.rill (slotK a)).fenced a.slot → exec (.slotWake a) s = .next (s.wakeWith (slotK a) a.slot id))

/-- TCLAIM, TFREE, CSRR and CSRW. TCLAIM takes every tensor register of the mask and gives 1 where all are unowned, otherwise takes none and gives 0.
TFREE makes registers of the mask that the slot owns unowned, and faults with TREG_OWNER where it does not own them all. CSRR gives a listed
register; of another number it faults with ILLEGAL (the model's choice, log 14). CSRW of EVENT and TASK_WD writes it; of RX_BASE and RX_LEN it
writes a value that R30 allows and sets both offsets to 0, and otherwise faults with ILLEGAL, as for every other number. Derived from
02_rill_cores R25, 02_rill_cores R29, 02_rill_cores R30, 02_rill_cores R41, 02_rill_cores R42. -/
def Obligations.OwnershipAndControlRegisters : Prop :=
  (∀ (s : State) (a : SlotId), s.canIssue a 0x45 → (∀ t ∈ (bitsSet 16 (wf (s.wordNow a) 0 16)), (s.rill (slotK a)).owner t = 31) →
    exec (.tclaim a) s = .next (s.retiredWith a (fun r => { r with own := (bitsSet 16 (wf (s.wordNow a) 0 16)).foldl (fun m t => put m t a.slot) r.own }) (fun x => x.setG (gdOf (s.wordNow a)) 1))) ∧
  (∀ (s : State) (a : SlotId), s.canIssue a 0x45 → (¬ ∀ t ∈ (bitsSet 16 (wf (s.wordNow a) 0 16)), (s.rill (slotK a)).owner t = 31) →
    exec (.tclaim a) s = .next (s.gives a 0)) ∧
  (∀ (s : State) (a : SlotId), s.canIssue a 0x46 → (∀ t ∈ (bitsSet 16 (wf (s.wordNow a) 0 16)), (s.rill (slotK a)).owner t = a.slot) →
    exec (.tfree a) s = .next (s.retiredWith a (fun r => { r with own := (bitsSet 16 (wf (s.wordNow a) 0 16)).foldl (fun m t => put m t 31) r.own }) id)) ∧
  (∀ (s : State) (a : SlotId), s.canIssue a 0x46 → (¬ ∀ t ∈ (bitsSet 16 (wf (s.wordNow a) 0 16)), (s.rill (slotK a)).owner t = a.slot) →
    exec (.tfree a) s = .next (s.traps a fTreg)) ∧
  (∀ (s : State) (a : SlotId) (v : W64), s.canIssue a 0x80 → (s.issued a).csr (slotK a) a.slot (wf (s.wordNow a) 0 12) = some v →
    exec (.csrr a) s = .next (s.gives a v)) ∧
  (∀ (s : State) (a : SlotId), s.canIssue a 0x80 → 0x010 ≤ wf (s.wordNow a) 0 12 → exec (.csrr a) s = .next (s.traps a fIllegal)) ∧
  (∀ (s : State) (a : SlotId), s.canIssue a 0x81 → wf (s.wordNow a) 0 12 = 0x005 →
    exec (.csrw a) s = .next (s.retired a (fun x => { x with event := BitVec.ofNat 16 (s.src1 a).toNat }))) ∧
  (∀ (s : State) (a : SlotId), s.canIssue a 0x81 → wf (s.wordNow a) 0 12 = 0x00E →
    exec (.csrw a) s = .next (s.retiredWith a (fun r => { r with taskWd := s.src1 a }) id)) ∧
  (∀ (s : State) (a : SlotId), s.canIssue a 0x81 → wf (s.wordNow a) 0 12 = 0x008 → (s.src1 a).toNat % 64 = 0 → (s.src1 a).toNat < 0xC000 →
    (s.rill (slotK a)).rxOk (s.src1 a).toNat (s.rill (slotK a)).rxLen →
    exec (.csrw a) s = .next (s.retiredWith a (fun r => { r with rxBase := (s.src1 a).toNat, rxWr := 0, rxRd := 0 }) id)) ∧
  (∀ (s : State) (a : SlotId), s.canIssue a 0x81 → wf (s.wordNow a) 0 12 = 0x009 → (s.src1 a).toNat % 64 = 0 →
    (s.rill (slotK a)).rxOk (s.rill (slotK a)).rxBase (s.src1 a).toNat →
    exec (.csrw a) s = .next (s.retiredWith a (fun r => { r with rxLen := (s.src1 a).toNat, rxWr := 0, rxRd := 0 }) id)) ∧
  (∀ (s : State) (a : SlotId), s.canIssue a 0x81 → (wf (s.wordNow a) 0 12 = 0x008 ∨ wf (s.wordNow a) 0 12 = 0x009) →
    (s.rill (slotK a)).rx ≠ [] → exec (.csrw a) s = .next (s.traps a fIllegal)) ∧
  (∀ (s : State) (a : SlotId), s.canIssue a 0x81 → wf (s.wordNow a) 0 12 ≠ 0x005 → wf (s.wordNow a) 0 12 ≠ 0x008 →
    wf (s.wordNow a) 0 12 ≠ 0x009 → wf (s.wordNow a) 0 12 ≠ 0x00E → exec (.csrw a) s = .next (s.traps a fIllegal))

/-- TLD, TST and TZERO. TLD loads the 256 bytes at gs1 into td and, for an MX format, the 16 bytes at gs2 into its side-band; TST stores them; TZERO
clears td and its side-band. A loaded register may be used after 3 cycles (rill store) or 6 (home pool). PC moves on by 8 and nothing else changes
but the times of the issue. An address that does not fit faults with the first of ADDR and ALIGN, a poisoned line with POISON. Derived from
02_rill_cores R26, 02_rill_cores R39, 02_rill_cores R41. -/
def Obligations.TensorMoves : Prop :=
  (∀ (s : State) (a : SlotId) (b : List Byte), s.canIssue a 0x50 → isMx (fmtOf (s.wordNow a)) = false →
    s.localRead (slotK a) (localAt (s.tsrc1 a).toNat 256 64) 256 = .inr b →
    tldFault (fmtOf (s.wordNow a)) (s.tsrc1 a).toNat (s.tsrc2 a).toNat = none →
    exec (.tld a) s = .next (s.retiredWith a (fun r => { r with t := put r.t (tdOf (s.wordNow a)) b, tready := put r.tready (tdOf (s.wordNow a)) ((s.issued a).clk.cycle + (localAt (s.tsrc1 a).toNat 256 64).latency) }) id)) ∧
  (∀ (s : State) (a : SlotId) (b c : List Byte), s.canIssue a 0x50 → isMx (fmtOf (s.wordNow a)) →
    s.localRead (slotK a) (localAt (s.tsrc1 a).toNat 256 64) 256 = .inr b →
    s.localRead (slotK a) (localAt (s.tsrc2 a).toNat 16 16) 16 = .inr c →
    tldFault (fmtOf (s.wordNow a)) (s.tsrc1 a).toNat (s.tsrc2 a).toNat = none →
    exec (.tld a) s = .next (s.retiredWith a (fun r => { r with t := put r.t (tdOf (s.wordNow a)) b, side := put r.side (tdOf (s.wordNow a)) c, tready := put r.tready (tdOf (s.wordNow a)) ((s.issued a).clk.cycle + max (localAt (s.tsrc1 a).toNat 256 64).latency (localAt (s.tsrc2 a).toNat 16 16).latency) }) id)) ∧
  (∀ (s : State) (a : SlotId) (x : Nat), s.canIssue a 0x51 → isMx (fmtOf (s.wordNow a)) = false →
    localAt (s.tsrc1 a).toNat 256 64 = .store x →
    exec (.tst a) s = .next (((s.issued a).storeWrite (slotK a) x ((s.rill (slotK a)).treg (tdOf (s.wordNow a))) false).retiredIn a id)) ∧
  (∀ (s : State) (a : SlotId) (x y : Nat), s.canIssue a 0x51 → isMx (fmtOf (s.wordNow a)) → localAt (s.tsrc1 a).toNat 256 64 = .store x →
    localAt (s.tsrc2 a).toNat 16 16 = .store y →
    exec (.tst a) s = .next ((((s.issued a).storeWrite (slotK a) x ((s.rill (slotK a)).treg (tdOf (s.wordNow a))) false).storeWrite (slotK a) y ((s.rill (slotK a)).tside (tdOf (s.wordNow a))) false).retiredIn a id)) ∧
  (∀ (s : State) (a : SlotId), s.canIssue a 0x52 →
    exec (.tzero a) s = .next (s.retiredWith a (fun r => { r with t := put r.t (tdOf (s.wordNow a)) (List.replicate 256 0), side := put r.side (tdOf (s.wordNow a)) (List.replicate 16 0) }) id)) ∧
  (∀ (s : State) (a : SlotId) (f : Nat), s.canIssue a 0x50 → tldFault (fmtOf (s.wordNow a)) (s.tsrc1 a).toNat (s.tsrc2 a).toNat = some f →
    exec (.tld a) s = .next (s.traps a f)) ∧
  (∀ (s : State) (a : SlotId) (f : Nat), s.canIssue a 0x51 → tldFault (fmtOf (s.wordNow a)) (s.tsrc1 a).toNat (s.tsrc2 a).toNat = some f →
    exec (.tst a) s = .next (s.traps a f))

/-- The tensor and vector instructions enter their unit and move the draw counter on. TMMA and TMMAS join the tensor unit, TCVT and the vector
operations the vector unit, with their word, their scalar operands, the slot's draw counter and STEP as they are at issue; the draw counter moves
on by the draws the instruction takes, PC by 8, and nothing else changes but the times of the issue. The result is written when the operation
completes (UNIT_OP_COMPLETE). Derived from 02_rill_cores R34, 02_rill_cores R41, 02_rill_cores R43, 03_arithmetic R86, 03_arithmetic R89. -/
def Obligations.UnitInstructionsIssue : Prop :=
  (∀ (s : State) (a : SlotId), s.canIssue a 0x53 →
    exec (.tmma a) s = .next (s.retiredWith a (fun r => { r with tensorQ := r.tensorQ ++ [s.unitOpNow a] }) (s.drawn a))) ∧
  (∀ (s : State) (a : SlotId), s.canIssue a 0x54 →
    exec (.tmmas a) s = .next (s.retiredWith a (fun r => { r with tensorQ := r.tensorQ ++ [s.unitOpNow a] }) (s.drawn a))) ∧
  (∀ (s : State) (a : SlotId), s.canIssue a 0x55 →
    exec (.tcvt a) s = .next (s.retiredWith a (fun r => { r with vectorQ := r.vectorQ ++ [s.unitOpNow a] }) (s.drawn a))) ∧
  (∀ (s : State) (a : SlotId), s.canIssue a 0x60 →
    exec (.vadd a) s = .next (s.retiredWith a (fun r => { r with vectorQ := r.vectorQ ++ [s.unitOpNow a] }) (s.drawn a))) ∧
  (∀ (s : State) (a : SlotId), s.canIssue a 0x61 →
    exec (.vmul a) s = .next (s.retiredWith a (fun r => { r with vectorQ := r.vectorQ ++ [s.unitOpNow a] }) (s.drawn a))) ∧
  (∀ (s : State) (a : SlotId), s.canIssue a 0x62 →
    exec (.vmax a) s = .next (s.retiredWith a (fun r => { r with vectorQ := r.vectorQ ++ [s.unitOpNow a] }) (s.drawn a))) ∧
  (∀ (s : State) (a : SlotId), s.canIssue a 0x63 →
    exec (.vfma a) s = .next (s.retiredWith a (fun r => { r with vectorQ := r.vectorQ ++ [s.unitOpNow a] }) (s.drawn a))) ∧
  (∀ (s : State) (a : SlotId), s.canIssue a 0x64 →
    exec (.vexp2 a) s = .next (s.retiredWith a (fun r => { r with vectorQ := r.vectorQ ++ [s.unitOpNow a] }) (s.drawn a))) ∧
  (∀ (s : State) (a : SlotId), s.canIssue a 0x65 →
    exec (.vrcp a) s = .next (s.retiredWith a (fun r => { r with vectorQ := r.vectorQ ++ [s.unitOpNow a] }) (s.drawn a))) ∧
  (∀ (s : State) (a : SlotId), s.canIssue a 0x66 →
    exec (.vrsqrt a) s = .next (s.retiredWith a (fun r => { r with vectorQ := r.vectorQ ++ [s.unitOpNow a] }) (s.drawn a))) ∧
  (∀ (s : State) (a : SlotId), s.canIssue a 0x67 →
    exec (.vredadd a) s = .next (s.retiredWith a (fun r => { r with vectorQ := r.vectorQ ++ [s.unitOpNow a] }) (s.drawn a))) ∧
  (∀ (s : State) (a : SlotId), s.canIssue a 0x68 →
    exec (.vredmax a) s = .next (s.retiredWith a (fun r => { r with vectorQ := r.vectorQ ++ [s.unitOpNow a] }) (s.drawn a))) ∧
  (∀ (s : State) (a : SlotId), s.canIssue a 0x69 →
    exec (.vbcast a) s = .next (s.retiredWith a (fun r => { r with vectorQ := r.vectorQ ++ [s.unitOpNow a] }) (s.drawn a)))

/-- UNIT_OP_COMPLETE: the operation at the head of its unit leaves it and writes its result, or fails its residue check. The operation at the head of
the tensor or the vector unit leaves the unit. Without an upset: VADD and VMUL write to td the 64 lane sums and products, rounded to nearest even
where rnd is 0; VMAX the lane maxima; VBCAST the low 32 bits of gs1 in every lane; VREDADD and VREDMAX write the pairwise sum or maximum of the 64
lanes to gs1 and no tensor register; TMMA of INT8 writes the 64 sums of 32 products of signed bytes, wrapped to 32 bits and added to td's element
where acc is 1. With an upset that a check of the operation reports nothing is written, the draw counter goes back to its value before the
instruction and the slot faults with RESIDUE; an upset of a checked scalar instruction at the PC, or of ballast work, is reported likewise. How a
wrong value inside a unit is given as an operand is the model's form (log 151). r(x) is x modulo 255 in 0 to 254, and for a negative x 255 - (|x|
mod 255), or 0 where |x| is a multiple of 255; the check of a partial compares r(S) with the sum of r(m_a) x r(m_b) modulo 255, so that the exact
sum of the products always passes and a value that differs from it by a power of two never does. Derived from 02_rill_cores R34, 02_rill_cores
R43, 03_arithmetic R72, 03_arithmetic R84, 03_arithmetic R91, 03_arithmetic R92, 03_arithmetic R93, 03_arithmetic R94, 03_arithmetic R95. -/
def Obligations.UnitOperationCompletes : Prop :=
  (∀ (s : State) (p : Pos) (o : UnitOp) (q : List UnitOp) (now : Nat), inGrid p.col p.row → o.slot < 16 → s.alive (ridx p.col p.row) →
    (s.rill (ridx p.col p.row)).tensorQ = o :: q →
    exec (.unitOpComplete p .tensor o.slot none now) s = .next (((s.atTime now).modRill (ridx p.col p.row) (fun r => { r with tensorQ := q })).opDone (ridx p.col p.row) o (decide (1 ≤ q.length)))) ∧
  (∀ (s : State) (p : Pos) (o : UnitOp) (q : List UnitOp) (now : Nat) (u : Upset) (e : CheckErr), inGrid p.col p.row → o.slot < 16 →
    s.alive (ridx p.col p.row) → (s.rill (ridx p.col p.row)).vectorQ = o :: q → s.opCheckErr (ridx p.col p.row) o u = some e →
    exec (.unitOpComplete p .vector o.slot (some u) now) s = .next (((s.atTime now).modRill (ridx p.col p.row) (fun r => { r with vectorQ := q })).opUpset (ridx p.col p.row) o e)) ∧
  (∀ (s : State) (p : Pos) (o : UnitOp) (q : List UnitOp) (now : Nat) (u : Upset) (e : CheckErr), inGrid p.col p.row → o.slot < 16 →
    s.alive (ridx p.col p.row) → (s.rill (ridx p.col p.row)).tensorQ = o :: q → s.opCheckErr (ridx p.col p.row) o u = some e →
    exec (.unitOpComplete p .tensor o.slot (some u) now) s = .next (((s.atTime now).modRill (ridx p.col p.row) (fun r => { r with tensorQ := q })).opUpset (ridx p.col p.row) o e)) ∧
  (∀ (s : State) (p : Pos) (o : UnitOp) (q : List UnitOp) (now : Nat), inGrid p.col p.row → o.slot < 16 → s.alive (ridx p.col p.row) →
    (s.rill (ridx p.col p.row)).vectorQ = o :: q → opOf o.word = 0x60 → rndOf o.word = 0 → tdOf o.word ≠ taOf o.word →
    ∃ t, exec (.unitOpComplete p .vector o.slot none now) s = .next t ∧ (t.rill (ridx p.col p.row)).vectorQ = q ∧
    (t.rill (ridx p.col p.row)).treg (tdOf o.word) = fromLanes (List.zipWith (fadd .rne) (lanes ((s.rill (ridx p.col p.row)).treg (taOf o.word))) (lanes ((s.rill (ridx p.col p.row)).treg (tbOf o.word)))) ∧
    (t.rill (ridx p.col p.row)).treg (taOf o.word) = (s.rill (ridx p.col p.row)).treg (taOf o.word)) ∧
  (∀ (s : State) (p : Pos) (o : UnitOp) (q : List UnitOp) (now : Nat), inGrid p.col p.row → o.slot < 16 → s.alive (ridx p.col p.row) →
    (s.rill (ridx p.col p.row)).vectorQ = o :: q → opOf o.word = 0x62 → ∃ t, exec (.unitOpComplete p .vector o.slot none now) s = .next t ∧
    (t.rill (ridx p.col p.row)).treg (tdOf o.word) = fromLanes (List.zipWith fmax (lanes ((s.rill (ridx p.col p.row)).treg (taOf o.word))) (lanes ((s.rill (ridx p.col p.row)).treg (tbOf o.word))))) ∧
  (∀ (s : State) (p : Pos) (o : UnitOp) (q : List UnitOp) (now : Nat), inGrid p.col p.row → o.slot < 16 → s.alive (ridx p.col p.row) →
    (s.rill (ridx p.col p.row)).vectorQ = o :: q → opOf o.word = 0x67 → tgs1Of o.word ≠ 0 →
    ∃ t, exec (.unitOpComplete p .vector o.slot none now) s = .next t ∧ (t.rill (ridx p.col p.row)).t = (s.rill (ridx p.col p.row)).t ∧
    ((t.rill (ridx p.col p.row)).slot o.slot).greg (tgs1Of o.word) = ((treeOf (fadd .rne) 7 (lanes ((s.rill (ridx p.col p.row)).treg (taOf o.word)))).getD 0 0).zeroExtend 64) ∧
  (∀ (s : State) (p : Pos) (o : UnitOp) (q : List UnitOp) (now : Nat), inGrid p.col p.row → o.slot < 16 → s.alive (ridx p.col p.row) →
    (s.rill (ridx p.col p.row)).vectorQ = o :: q → opOf o.word = 0x61 → rndOf o.word = 0 →
    ∃ t, exec (.unitOpComplete p .vector o.slot none now) s = .next t ∧
    (t.rill (ridx p.col p.row)).treg (tdOf o.word) = fromLanes (List.zipWith (fmul .rne) (lanes ((s.rill (ridx p.col p.row)).treg (taOf o.word))) (lanes ((s.rill (ridx p.col p.row)).treg (tbOf o.word))))) ∧
  (∀ (s : State) (p : Pos) (o : UnitOp) (q : List UnitOp) (now : Nat), inGrid p.col p.row → o.slot < 16 → s.alive (ridx p.col p.row) →
    (s.rill (ridx p.col p.row)).vectorQ = o :: q → opOf o.word = 0x68 → tgs1Of o.word ≠ 0 →
    ∃ t, exec (.unitOpComplete p .vector o.slot none now) s = .next t ∧ (t.rill (ridx p.col p.row)).t = (s.rill (ridx p.col p.row)).t ∧
    ((t.rill (ridx p.col p.row)).slot o.slot).greg (tgs1Of o.word) = ((treeOf fmax 7 (lanes ((s.rill (ridx p.col p.row)).treg (taOf o.word)))).getD 0 0).zeroExtend 64) ∧
  (∀ (s : State) (p : Pos) (o : UnitOp) (q : List UnitOp) (now : Nat), inGrid p.col p.row → o.slot < 16 → s.alive (ridx p.col p.row) →
    (s.rill (ridx p.col p.row)).vectorQ = o :: q → opOf o.word = 0x69 → ∃ t, exec (.unitOpComplete p .vector o.slot none now) s = .next t ∧
    (t.rill (ridx p.col p.row)).treg (tdOf o.word) = fromLanes (List.replicate 64 (o.s1.truncate 32))) ∧
  (∀ (s : State) (p : Pos) (o : UnitOp) (q : List UnitOp) (now : Nat), inGrid p.col p.row → o.slot < 16 → s.alive (ridx p.col p.row) →
    (s.rill (ridx p.col p.row)).tensorQ = o :: q → opOf o.word = 0x53 → fmtOf o.word = 9 →
    ∃ t, exec (.unitOpComplete p .tensor o.slot none now) s = .next t ∧
    (t.rill (ridx p.col p.row)).treg (tdOf o.word) = fromLanes ((List.range 64).map (fun e => (if accOf o.word = 1 then (lanes ((s.rill (ridx p.col p.row)).treg (tdOf o.word))).getD e 0 else 0) + BitVec.ofInt 32 ((List.range 32).foldl (fun z n => z + (((s.rill (ridx p.col p.row)).treg (taOf o.word)).getD (32 * (e / 8) + n) 0).toInt * (((s.rill (ridx p.col p.row)).treg (tbOf o.word)).getD (32 * (e % 8) + n) 0).toInt) 0)))) ∧
  (∀ (s : State) (a : SlotId) (u : Upset) (e : CheckErr) (now : Nat), slotOk a → s.scalarErr (slotK a) a.slot u = some e →
    legalWord (s.instrAt (slotK a) a.slot) → s.eligible a (opOf (s.instrAt (slotK a) a.slot)) →
    exec (.unitOpComplete ⟨a.col, a.row⟩ .scalar a.slot (some u) now) s = .next (((s.atTime now).touchIssue a).residueFault (slotK a) a.slot (s.slotNow a).pc.toNat e)) ∧
  (∀ (s : State) (p : Pos) (n : Nat) (u : Upset) (e : CheckErr) (now : Nat), inGrid p.col p.row → n < 16 → s.alive (ridx p.col p.row) →
    s.isOn clsPitch (pitchOf p.col p.row) → failedCheck u (ballastCheck u) = some e →
    exec (.unitOpComplete p .ballast n (some u) now) s = .next ((s.atTime now).ballastFail (ridx p.col p.row) e)) ∧
  (∀ (x : Int), res255 x < 255 ∧ (x < 0 → res255 x = if x.natAbs % 255 = 0 then 0 else 255 - x.natAbs % 255)) ∧
  (∀ (l : List (El × El)) (z : Int), (checkSum l z).computed = res255 z ∧
    (checkSum l z).predicted = sumL (l.map (fun e => res255 e.1.sig * res255 e.2.sig)) % 255 ∧
    checkFailed (.sum 0 0 z) (checkSum l z) = decide ((checkSum l z).predicted ≠ (checkSum l z).computed)) ∧
  (∀ (l : List (El × El)), checkFailed (.sum 0 0 (l.map (fun e => e.1.sig * e.2.sig)).sum) (checkSum l (l.map (fun e => e.1.sig * e.2.sig)).sum) = false) ∧
  (∀ (l : List (El × El)) (k : Nat) (z : Int), (z = (l.map (fun e => e.1.sig * e.2.sig)).sum + 2 ^ k ∨ z = (l.map (fun e => e.1.sig * e.2.sig)).sum - 2 ^ k) →
    checkFailed (.sum 0 0 z) (checkSum l z))

/-- SARM, SREARM, SSTOP, RACQ and RREL. SARM of a readable descriptor gives the code of R143; with code 0 a trickle transfer begins, or the arm counts
and a start of the queue begins with that descriptor, latched (PEND_ON) where the queue is STOPPING. SREARM with code 0 leaves the re-arm pending,
and a queue of FAR_KIND 3 or 4 sends its endpoint HW_REARM or EZ_REARM. SSTOP gives the slots that wait in RACQ on the queue CMD_CANCELLED and
stops it, and does nothing to one that is OFF. RACQ gives the value that the queue has ready, which for an IN queue is the next filled ring slot
and for an OUT queue the next free one, also while the OUT queue drains, and otherwise waits (a STOPPING IN queue gives none, and an OUT queue
that is not OFF gives free slots: log 108, DEDUCED). RREL releases the oldest acquired ring slot. PC moves on by 8. A descriptor address that does
not fit faults. Derived from 05_streams R143, 05_streams R144, 05_streams R152, 05_streams R153, 05_streams R154, 05_streams R157, 05_streams
R158, 07_headwater R228, 02_rill_cores R41. -/
def Obligations.StreamInstructions : Prop :=
  (∀ (s : State) (a : SlotId), s.canIssue a 0x70 → s.descFault (slotK a) (s.src1 a) = none →
    (s.rill (slotK a)).sarmCode (queueOf (s.wordNow a)) (parseDesc (s.storeRead (slotK a) (s.src1 a).toNat 64)) (at' (s.storeRead (slotK a) (s.src1 a).toNat 64) 0x16 2) = 0 →
    (parseDesc (s.storeRead (slotK a) (s.src1 a).toNat 64)).trickle = false →
    ((s.rill (slotK a)).queue (queueOf (s.wordNow a))).st ≠ stStopping →
    exec (.sarm a) s = .next (((s.gives a 0).modQueue (slotK a) (queueOf (s.wordNow a)) (fun x => { x with armNo := x.armNo + 1 })).queueBegin (slotK a) (queueOf (s.wordNow a)) (parseDesc (s.storeRead (slotK a) (s.src1 a).toNat 64)) a.slot)) ∧
  (∀ (s : State) (a : SlotId), s.canIssue a 0x70 → s.descFault (slotK a) (s.src1 a) = none →
    (s.rill (slotK a)).sarmCode (queueOf (s.wordNow a)) (parseDesc (s.storeRead (slotK a) (s.src1 a).toNat 64)) (at' (s.storeRead (slotK a) (s.src1 a).toNat 64) 0x16 2) = 0 →
    (parseDesc (s.storeRead (slotK a) (s.src1 a).toNat 64)).trickle = false →
    ((s.rill (slotK a)).queue (queueOf (s.wordNow a))).st = stStopping →
    exec (.sarm a) s = .next ((((s.gives a 0).modQueue (slotK a) (queueOf (s.wordNow a)) (fun x => { x with armNo := x.armNo + 1 })).modQueue (slotK a) (queueOf (s.wordNow a)) (fun x => { x with pendOn := true, latched := some (parseDesc (s.storeRead (slotK a) (s.src1 a).toNat 64), a.slot) })).writeStat (slotK a) (queueOf (s.wordNow a)))) ∧
  (∀ (s : State) (a : SlotId), s.canIssue a 0x70 → s.descFault (slotK a) (s.src1 a) = none →
    (s.rill (slotK a)).sarmCode (queueOf (s.wordNow a)) (parseDesc (s.storeRead (slotK a) (s.src1 a).toNat 64)) (at' (s.storeRead (slotK a) (s.src1 a).toNat 64) 0x16 2) = 0 →
    (parseDesc (s.storeRead (slotK a) (s.src1 a).toNat 64)).trickle →
    exec (.sarm a) s = .next ((s.gives a 0).trickleStart (slotK a) a.slot (parseDesc (s.storeRead (slotK a) (s.src1 a).toNat 64)))) ∧
  (∀ (s : State) (a : SlotId), s.canIssue a 0x70 → s.descFault (slotK a) (s.src1 a) = none →
    (s.rill (slotK a)).sarmCode (queueOf (s.wordNow a)) (parseDesc (s.storeRead (slotK a) (s.src1 a).toNat 64)) (at' (s.storeRead (slotK a) (s.src1 a).toNat 64) 0x16 2) ≠ 0 →
    exec (.sarm a) s = .next ((s.gives a (BitVec.ofNat 64 ((s.rill (slotK a)).sarmCode (queueOf (s.wordNow a)) (parseDesc (s.storeRead (slotK a) (s.src1 a).toNat 64)) (at' (s.storeRead (slotK a) (s.src1 a).toNat 64) 0x16 2)))))) ∧
  (∀ (s : State) (a : SlotId) (f : Nat), s.canIssue a 0x70 → s.descFault (slotK a) (s.src1 a) = some f → exec (.sarm a) s = .next (s.traps a f)) ∧
  (∀ (s : State) (a : SlotId), s.canIssue a 0x71 → s.descFault (slotK a) (s.src1 a) = none →
    ((s.rill (slotK a)).queue (queueOf (s.wordNow a))).srearmCode (parseDesc (s.storeRead (slotK a) (s.src1 a).toNat 64)) = 0 →
    ((s.rill (slotK a)).queue (queueOf (s.wordNow a))).desc.farKind < 3 →
    exec (.srearm a) s = .next (((s.gives a 0).modQueue (slotK a) (queueOf (s.wordNow a)) (fun x => { x with rearm := some (x.desc.rearm (parseDesc (s.storeRead (slotK a) (s.src1 a).toNat 64)), a.slot) })))) ∧
  (∀ (s : State) (a : SlotId), s.canIssue a 0x71 → s.descFault (slotK a) (s.src1 a) = none →
    ((s.rill (slotK a)).queue (queueOf (s.wordNow a))).srearmCode (parseDesc (s.storeRead (slotK a) (s.src1 a).toNat 64)) = 0 →
    3 ≤ ((s.rill (slotK a)).queue (queueOf (s.wordNow a))).desc.farKind →
    exec (.srearm a) s = .next ((((s.gives a 0).modQueue (slotK a) (queueOf (s.wordNow a)) (fun x => { x with rearm := some (x.desc.rearm (parseDesc (s.storeRead (slotK a) (s.src1 a).toNat 64)), a.slot) })).fresh.2).queueSendOr (slotK a) (queueOf (s.wordNow a)) (({ ((s.gives a 0).modQueue (slotK a) (queueOf (s.wordNow a)) (fun x => { x with rearm := some (x.desc.rearm (parseDesc (s.storeRead (slotK a) (s.src1 a).toNat 64)), a.slot) })).fresh.2.slotPacket (slotK a) a.slot with kind := if ((s.rill (slotK a)).queue (queueOf (s.wordNow a))).desc.farKind = 3 then 0x23 else 0x33, arg := ((s.rill (slotK a)).queue (queueOf (s.wordNow a))).armNo % 256, tag := streamTag (queueOf (s.wordNow a)) 0, len := 64, payload := (s.storeRead (slotK a) (s.src1 a).toNat 64), xid := ((s.gives a 0).modQueue (slotK a) (queueOf (s.wordNow a)) (fun x => { x with rearm := some (x.desc.rearm (parseDesc (s.storeRead (slotK a) (s.src1 a).toNat 64)), a.slot) })).fresh.1 } : Packet).toUnit (if ((s.rill (slotK a)).queue (queueOf (s.wordNow a))).desc.dir = 0 then ((s.rill (slotK a)).queue (queueOf (s.wordNow a))).desc.up else ((s.rill (slotK a)).queue (queueOf (s.wordNow a))).desc.down)))) ∧
  (∀ (s : State) (a : SlotId), s.canIssue a 0x71 → s.descFault (slotK a) (s.src1 a) = none →
    ((s.rill (slotK a)).queue (queueOf (s.wordNow a))).srearmCode (parseDesc (s.storeRead (slotK a) (s.src1 a).toNat 64)) ≠ 0 →
    exec (.srearm a) s = .next (s.gives a (BitVec.ofNat 64 (((s.rill (slotK a)).queue (queueOf (s.wordNow a))).srearmCode (parseDesc (s.storeRead (slotK a) (s.src1 a).toNat 64)))))) ∧
  (∀ (s : State) (a : SlotId) (f : Nat), s.canIssue a 0x71 → s.descFault (slotK a) (s.src1 a) = some f →
    exec (.srearm a) s = .next (s.traps a f)) ∧
  (∀ (s : State) (a : SlotId), s.canIssue a 0x72 → ((s.rill (slotK a)).queue (queueOf (s.wordNow a))).st ≠ stOff →
    exec (.sstop a) s = .next (((s.retired a id).wakeRacq (slotK a) (queueOf (s.wordNow a)) (racqError cCancelled)).stopQueue (slotK a) (queueOf (s.wordNow a)))) ∧
  (∀ (s : State) (a : SlotId), s.canIssue a 0x72 → ((s.rill (slotK a)).queue (queueOf (s.wordNow a))).st = stOff →
    exec (.sstop a) s = .next (s.retired a id)) ∧
  (∀ (s : State) (a : SlotId) (v : W64) (x : Queue), s.canIssue a 0x73 →
    ((s.rill (slotK a)).queue (queueOf (s.wordNow a))).racq a.slot = some (v, x) →
    exec (.racq a) s = .next (s.retiredWith a (fun r => r.setQueue (queueOf (s.wordNow a)) x) (fun y => y.setG (gdOf (s.wordNow a)) v))) ∧
  (∀ (s : State) (a : SlotId) (x : Queue), s.canIssue a 0x73 → ((s.rill (slotK a)).queue (queueOf (s.wordNow a))) = x → x.st ≠ stOff →
    x.desc.noRing = false → (if x.desc.dir = 0 then x.st ≠ stStopping ∧ x.acquired < x.filled else x.acquired < x.issued + x.desc.ringSlots) →
    exec (.racq a) s = .next (s.retiredWith a (fun r => r.setQueue (queueOf (s.wordNow a)) { x with acquired := x.acquired + 1, acqs := x.acqs ++ [⟨x.acquired, a.slot, false⟩] }) (fun y => y.setG (gdOf (s.wordNow a)) (BitVec.ofNat 64 (x.slotAddr x.acquired))))) ∧
  (∀ (s : State) (a : SlotId), s.canIssue a 0x73 → ((s.rill (slotK a)).queue (queueOf (s.wordNow a))).racq a.slot = none →
    exec (.racq a) s = .next (s.waits a (.racq (queueOf (s.wordNow a)) (gdOf (s.wordNow a))))) ∧
  (∀ (s : State) (a : SlotId), s.canIssue a 0x74 →
    exec (.rrel a) s = .next (s.retiredWith a (fun r => r.setQueue (queueOf (s.wordNow a)) ((r.queue (queueOf (s.wordNow a))).rrel)) id))

/-- SEND, RECV and MFREE. SEND with good operands sends a MSG with ACK_REQ of gs2[12:0] bytes at gs1 to the position in imm32, TAG from gd, and leaves
its acknowledgement outstanding; bad operands fault with the first of ILLEGAL, ADDR and ALIGN. RECV gives the descriptor value of the earliest
message with the TAG that no slot holds, and otherwise waits. MFREE frees the entry that the slot obtained, and otherwise faults with ILLEGAL.
Derived from 02_rill_cores R41, 02_rill_cores R42, 02_rill_cores R46, 02_rill_cores R50, 02_rill_cores R51. -/
def Obligations.MessageInstructions : Prop :=
  (∀ (s : State) (a : SlotId) (u : State), s.canIssue a 0x75 →
    sendFault (s.src1 a) ((s.src2 a).toNat % 0x2000) (wf (s.wordNow a) 0 11) (wf (s.wordNow a) 16 10) = none →
    ((s.issued a).fresh.2).inject? { (s.issued a).fresh.2.slotPacket (slotK a) a.slot with dcol := wf (s.wordNow a) 0 11, drow := wf (s.wordNow a) 16 10, kind := 5, ackReq := true, len := (s.src2 a).toNat % 0x2000, payload := s.storeRead (slotK a) (s.src1 a).toNat ((s.src2 a).toNat % 0x2000), poison := s.storePois (slotK a) (s.src1 a).toNat ((s.src2 a).toNat % 0x2000), tag := (s.destNow a).toNat % 0x10000, xid := (s.issued a).fresh.1 } = some u →
    exec (.send a) s = .next (u.retiredIn a (fun x => { x with acks := x.acks ++ [(s.issued a).fresh.1] }))) ∧
  (∀ (s : State) (a : SlotId), s.canIssue a 0x75 →
    sendFault (s.src1 a) ((s.src2 a).toNat % 0x2000) (wf (s.wordNow a) 0 11) (wf (s.wordNow a) 16 10) = none →
    ((s.issued a).fresh.2).inject? { (s.issued a).fresh.2.slotPacket (slotK a) a.slot with dcol := wf (s.wordNow a) 0 11, drow := wf (s.wordNow a) 16 10, kind := 5, ackReq := true, len := (s.src2 a).toNat % 0x2000, payload := s.storeRead (slotK a) (s.src1 a).toNat ((s.src2 a).toNat % 0x2000), poison := s.storePois (slotK a) (s.src1 a).toNat ((s.src2 a).toNat % 0x2000), tag := (s.destNow a).toNat % 0x10000, xid := (s.issued a).fresh.1 } = none →
    exec (.send a) s = .next ((((s.issued a).fresh.2).unreachable { (s.issued a).fresh.2.slotPacket (slotK a) a.slot with dcol := wf (s.wordNow a) 0 11, drow := wf (s.wordNow a) 16 10, kind := 5, ackReq := true, len := (s.src2 a).toNat % 0x2000, payload := s.storeRead (slotK a) (s.src1 a).toNat ((s.src2 a).toNat % 0x2000), poison := s.storePois (slotK a) (s.src1 a).toNat ((s.src2 a).toNat % 0x2000), tag := (s.destNow a).toNat % 0x10000, xid := (s.issued a).fresh.1 }).slotFault (slotK a) a.slot fAddr)) ∧
  (∀ (s : State) (a : SlotId) (f : Nat), s.canIssue a 0x75 →
    sendFault (s.src1 a) ((s.src2 a).toNat % 0x2000) (wf (s.wordNow a) 0 11) (wf (s.wordNow a) 16 10) = some f →
    exec (.send a) s = .next (s.traps a f)) ∧
  (∀ (s : State) (a : SlotId) (v : W64) (r : Rill), s.canIssue a 0x76 →
    ((s.issued a).rill (slotK a)).recv a.slot (wf (s.wordNow a) 0 16) = some (v, r) →
    exec (.recv a) s = .next (((s.issued a).setRill (slotK a) r).retiredIn a (fun x => x.setG (gdOf (s.wordNow a)) v))) ∧
  (∀ (s : State) (a : SlotId), s.canIssue a 0x76 → (s.rill (slotK a)).recv a.slot (wf (s.wordNow a) 0 16) = none →
    exec (.recv a) s = .next (s.waits a (.recv (wf (s.wordNow a) 0 16) (gdOf (s.wordNow a))))) ∧
  (∀ (s : State) (a : SlotId), s.canIssue a 0x77 →
    ((s.rill (slotK a)).rx.any (fun e => !e.pad && !e.freed && e.off == (s.src1 a).toNat % 0x10000 * 64 && e.holder == some a.slot)) →
    exec (.mfree a) s = .next (s.retiredWith a (fun r => r.rxFree (fun e => !e.pad && !e.freed && e.off == (s.src1 a).toNat % 0x10000 * 64 && e.holder == some a.slot)) id)) ∧
  (∀ (s : State) (a : SlotId), s.canIssue a 0x77 →
    ((s.rill (slotK a)).rx.any (fun e => !e.pad && !e.freed && e.off == (s.src1 a).toNat % 0x10000 * 64 && e.holder == some a.slot) = false) →
    exec (.mfree a) s = .next (s.traps a fIllegal))

/-- UNDEFINED_OPCODE, INSTRUCTION_FETCH_FAULT and the two watchdogs. The slot that issues next and whose opcode R41 does not define, or whose word is
no legal encoding of it, whatever the opcode, faults with ILLEGAL; a legal word that names a tensor register which the slot does not own faults
with TREG_OWNER, before any fault of its memory access (the model's choice, log 164); one whose PC lies outside the rill store faults with ADDR,
in a poisoned line with POISON. A slot that has retired nothing for the watchdog limit faults with TASK_WD, unless its wait can end. A rill in
which some slot was eligible in 16,384 cycles since the last issue is reported failed; so is one with a slot that throttling does not bear on and
that has been eligible, and nothing has issued, for as long. Cycles that the Weir or a hot pitch withholds from every eligible slot are not
counted (the model's reading, log 163). Derived from 02_rill_cores R25, 02_rill_cores R26, 02_rill_cores R38, 02_rill_cores R41, 02_rill_cores
R53, 02_rill_cores R54, 02_rill_cores R55, 02_rill_cores R56. -/
def Obligations.WatchdogsAndBadFetches : Prop :=
  (∀ (s : State) (a : SlotId), slotOk a → s.mayIssue a → s.fetchFault (slotK a) (s.slotNow a).pc = none →
    formatOf (opOf (s.wordNow a)) = none → exec (.undefinedOpcode a) s = .next (s.traps a fIllegal)) ∧
  (∀ (s : State) (a : SlotId) (op : Nat) (c : SlotId → Instr), (op, c) ∈ rillOps → slotOk a → s.eligible a op →
    legalWord (s.wordNow a) = false → exec (c a) s = .next (s.traps a fIllegal)) ∧
  (∀ (s : State) (a : SlotId) (op : Nat) (c : SlotId → Instr) (t : Nat), (op, c) ∈ rillOps → slotOk a → s.eligible a op →
    legalWord (s.wordNow a) → t ∈ tregsOf (s.wordNow a) → (s.rill (slotK a)).owner t ≠ a.slot → exec (c a) s = .next (s.traps a fTreg)) ∧
  (∀ (s : State) (a : SlotId) (f : Nat), slotOk a → s.mayIssue a → s.fetchFault (slotK a) (s.slotNow a).pc = some f →
    exec (.instructionFetchFault a) s = .next (s.traps a f)) ∧
  (∀ (s : State) (a : SlotId) (c : Nat), slotOk a → s.alive (slotK a) → ((s.slotNow a).st = .ready ∨ (s.slotNow a).st = .waiting) →
    (s.slotNow a).lastRetire + s.wdLimit (s.rill (slotK a)) ≤ max c s.clk.cycle → s.wake? (slotK a) a.slot = none →
    (∀ u, (s.slotNow a).wait = .yield u → max c s.clk.cycle < u) →
    exec (.taskWdExpiry a c) s = .next ((s.atCycle c).slotFault (slotK a) a.slot fTaskWd)) ∧
  (∀ (s : State) (p : Pos), inGrid p.col p.row → s.alive (ridx p.col p.row) → 16384 ≤ s.wdCount (ridx p.col p.row) →
    exec (.rillWdExpiry p) s = .next (s.reportFailed (ridx p.col p.row) 2)) ∧
  (∀ (s : State) (p : Pos) (n : Nat), inGrid p.col p.row → s.alive (ridx p.col p.row) → n < 16 → s.open' ⟨p.col, p.row, n⟩ →
    s.throttled ⟨p.col, p.row, n⟩ = false →
    max (s.rill (ridx p.col p.row)).wd.1 (s.eligibleSince (ridx p.col p.row) n) + 16384 ≤ s.clk.cycle + (s.rill (ridx p.col p.row)).wd.2 →
    exec (.rillWdExpiry p) s = .next (s.reportFailed (ridx p.col p.row) 2))

/-- WRITE, READ and MSG at a rill, and packets that a unit does not serve. Once it passes the checks of R47 a WRITE puts its bytes into the rill store
(POISON poisons every line it covers) and is acknowledged where ACK_REQ is set; a READ is answered with READ_DATA of the bytes, poisoned where a
line is; a MSG that fits goes into the receive ring, one that must wait stays in the fabric and enters when MSG_RING_ENTRY finds room, one that
can never fit is refused. Every other byte of the store reads as before a WRITE. A packet that fails a check, at whatever unit, is rejected under
the first check that fails; one with ABORT is discarded and counted. The checks of a MSG that waited are those of the moment at which it is taken
(the model's reading, log 143). Derived from 02_rill_cores R45, 02_rill_cores R46, 02_rill_cores R47, 02_rill_cores R48, 02_rill_cores R49,
02_rill_cores R52, 04_wafer_fabric R115. -/
def Obligations.RillPackets : Prop :=
  (∀ (s : State) (i : Nat) (p : Packet), s.rillGets i 1 p → p.ackReq →
    exec (.write i) s = .next (((s.takePacket i p).storeWrite p.rillIdx p.addr (p.payload.take p.len) p.poison).inject (p.ack 0))) ∧
  (∀ (s : State) (i : Nat) (p : Packet), s.rillGets i 1 p → p.ackReq = false →
    exec (.write i) s = .next ((s.takePacket i p).storeWrite p.rillIdx p.addr (p.payload.take p.len) p.poison)) ∧
  (∀ (s : State) (i : Nat) (p : Packet) (t : State) (y : Nat), s.rillGets i 1 p → p.payload.length = p.len → Mem.wf s.store = true →
    exec (.write i) s = .next t → (∀ j, j < p.len → memRead t.store (sbase p.rillIdx + p.addr + j) = p.payload.getD j 0) ∧
    ((y < sbase p.rillIdx + p.addr ∨ sbase p.rillIdx + p.addr + p.len ≤ y) → memRead t.store y = memRead s.store y) ∧ t.pool = s.pool ∧
    t.stack = s.stack ∧ t.host = s.host) ∧
  (∀ (s : State) (i : Nat) (p : Packet), s.rillGets i 2 p →
    exec (.read i) s = .next ((s.takePacket i p).inject (p.readData (s.storeRead p.rillIdx p.addr p.len) (s.storePois p.rillIdx p.addr p.len)))) ∧
  (∀ (s : State) (i : Nat) (p : Packet), s.rillGets i 5 p → entrySize p.len ≤ (s.rill p.rillIdx).rxLen →
    (s.rill p.rillIdx).rxRoom (entrySize p.len) → exec (.msg i) s = .next ((s.takePacket i p).rxTake p.rillIdx p)) ∧
  (∀ (s : State) (i : Nat) (p : Packet), s.rillGets i 5 p → entrySize p.len ≤ (s.rill p.rillIdx).rxLen →
    (s.rill p.rillIdx).rxRoom (entrySize p.len) = false → exec (.msg i) s = .next ({ s with net := setAt s.net i { p with waits := true } })) ∧
  (∀ (s : State) (i : Nat) (p : Packet), s.rillGets i 5 p → (s.rill p.rillIdx).rxLen < entrySize p.len →
    exec (.msg i) s = .next ((s.takePacket i p).rxNever p)) ∧
  (∀ (s : State) (i : Nat) (p : Packet) (c : Pos), inGrid c.col c.row →
    (s.net.findIdx (fun q => q.waits && q.dcol == c.col && q.drow == c.row) = i) → s.rillGets i 5 p →
    entrySize p.len ≤ (s.rill p.rillIdx).rxLen → (s.rill p.rillIdx).rxRoom (entrySize p.len) →
    exec (.msgRingEntry c) s = .next ((s.takePacket i p).rxTake p.rillIdx p)) ∧
  (∀ (s : State) (i : Nat) (p : Packet) (c : Pos) (e : Option Nat), inGrid c.col c.row →
    (s.net.findIdx (fun q => q.waits && q.dcol == c.col && q.drow == c.row) = i) → s.arrives? i 5 false = some p → p.abort = false →
    s.unitCheck p = some e → exec (.msgRingEntry c) s = .next ((s.takePacket i p).rejectPacket p p.dstUnit.1 p.dstUnit.2 e)) ∧
  (∀ (s : State) (i : Nat) (p : Packet) (e : Option Nat), s.arrives? i 1 false = some p → p.abort = false → s.unitCheck p = some e →
    exec (.write i) s = .next ((s.takePacket i p).rejectPacket p p.dstUnit.1 p.dstUnit.2 e)) ∧
  (∀ (s : State) (i : Nat) (p : Packet) (e : Option Nat), s.arrives? i 2 false = some p → p.abort = false → s.unitCheck p = some e →
    exec (.read i) s = .next ((s.takePacket i p).rejectPacket p p.dstUnit.1 p.dstUnit.2 e)) ∧
  (∀ (s : State) (i : Nat) (p : Packet) (e : Option Nat), s.arrives? i 3 false = some p → p.abort = false → s.unitCheck p = some e →
    exec (.readData i) s = .next ((s.takePacket i p).rejectPacket p p.dstUnit.1 p.dstUnit.2 e)) ∧
  (∀ (s : State) (i : Nat) (p : Packet) (e : Option Nat), s.arrives? i 4 false = some p → p.abort = false → s.unitCheck p = some e →
    exec (.ack i) s = .next ((s.takePacket i p).rejectPacket p p.dstUnit.1 p.dstUnit.2 e)) ∧
  (∀ (s : State) (i : Nat) (p : Packet) (e : Option Nat), s.arrives? i 5 false = some p → p.abort = false → s.unitCheck p = some e →
    exec (.msg i) s = .next ((s.takePacket i p).rejectPacket p p.dstUnit.1 p.dstUnit.2 e)) ∧
  (∀ (s : State) (i : Nat) (p : Packet) (e : Option Nat), s.arrives? i 1 true = some p → p.abort = false → s.unitCheck p = some e →
    exec (.poolWrite i) s = .next ((s.takePacket i p).rejectPacket p p.dstUnit.1 p.dstUnit.2 e)) ∧
  (∀ (s : State) (i : Nat) (p : Packet) (e : Option Nat), s.arrives? i 2 true = some p → p.abort = false → s.unitCheck p = some e →
    exec (.poolRead i) s = .next ((s.takePacket i p).rejectPacket p p.dstUnit.1 p.dstUnit.2 e)) ∧
  (∀ (s : State) (i : Nat) (p : Packet) (e : Option Nat), s.arrives? i 0x11 false = some p → p.abort = false → s.unitCheck p = some e →
    exec (.sdata i) s = .next ((s.takePacket i p).rejectPacket p p.dstUnit.1 p.dstUnit.2 e)) ∧
  (∀ (s : State) (i : Nat) (p : Packet) (e : Option Nat), s.arrives? i 0x15 false = some p → p.abort = false → s.unitCheck p = some e →
    exec (.spush i) s = .next ((s.takePacket i p).rejectPacket p p.dstUnit.1 p.dstUnit.2 e)) ∧
  (∀ (s : State) (i : Nat) (p : Packet) (e : Option Nat), s.arrives? i 0x16 false = some p → p.abort = false → s.unitCheck p = some e →
    exec (.scredit i) s = .next ((s.takePacket i p).rejectPacket p p.dstUnit.1 p.dstUnit.2 e)) ∧
  (∀ (s : State) (i : Nat) (p : Packet) (e : Option Nat), s.arrives? i 0x21 false = some p → p.abort = false → s.unitCheck p = some e →
    exec (.hwConfirm i) s = .next ((s.takePacket i p).rejectPacket p p.dstUnit.1 p.dstUnit.2 e)) ∧
  (∀ (s : State) (i : Nat) (p : Packet) (e : Option Nat), s.arrives? i 0x31 false = some p → p.abort = false → s.unitCheck p = some e →
    exec (.ezConfirm i) s = .next ((s.takePacket i p).rejectPacket p p.dstUnit.1 p.dstUnit.2 e)) ∧
  (∀ (s : State) (i : Nat) (p : Packet) (e : Option Nat), s.arrives? i 0x10 false = some p → p.abort = false → s.unitCheck p = some e →
    exec (.sread i) s = .next ((s.takePacket i p).rejectPacket p p.dstUnit.1 p.dstUnit.2 e)) ∧
  (∀ (s : State) (i : Nat) (p : Packet) (e : Option Nat), s.arrives? i 0x12 false = some p → p.abort = false → s.unitCheck p = some e →
    exec (.swrite i) s = .next ((s.takePacket i p).rejectPacket p p.dstUnit.1 p.dstUnit.2 e)) ∧
  (∀ (s : State) (i : Nat) (p : Packet) (e : Option Nat), s.arrives? i 0x13 false = some p → p.abort = false → s.unitCheck p = some e →
    exec (.sfill i) s = .next ((s.takePacket i p).rejectPacket p p.dstUnit.1 p.dstUnit.2 e)) ∧
  (∀ (s : State) (i : Nat) (p : Packet) (e : Option Nat), s.arrives? i 0x14 false = some p → p.abort = false → s.unitCheck p = some e →
    exec (.sdrain i) s = .next ((s.takePacket i p).rejectPacket p p.dstUnit.1 p.dstUnit.2 e)) ∧
  (∀ (s : State) (i : Nat) (p : Packet) (e : Option Nat), s.arrives? i 0x20 false = some p → p.abort = false → s.unitCheck p = some e →
    exec (.hwOpen i) s = .next ((s.takePacket i p).rejectPacket p p.dstUnit.1 p.dstUnit.2 e)) ∧
  (∀ (s : State) (i : Nat) (p : Packet) (e : Option Nat), s.arrives? i 0x22 false = some p → p.abort = false → s.unitCheck p = some e →
    exec (.hwClose i) s = .next ((s.takePacket i p).rejectPacket p p.dstUnit.1 p.dstUnit.2 e)) ∧
  (∀ (s : State) (i : Nat) (p : Packet) (e : Option Nat), s.arrives? i 0x23 false = some p → p.abort = false → s.unitCheck p = some e →
    exec (.hwRearm i) s = .next ((s.takePacket i p).rejectPacket p p.dstUnit.1 p.dstUnit.2 e)) ∧
  (∀ (s : State) (i : Nat) (p : Packet) (e : Option Nat), s.arrives? i 0x24 false = some p → p.abort = false → s.unitCheck p = some e →
    exec (.hwSend i) s = .next ((s.takePacket i p).rejectPacket p p.dstUnit.1 p.dstUnit.2 e)) ∧
  (∀ (s : State) (i : Nat) (p : Packet) (e : Option Nat), s.arrives? i 0x30 false = some p → p.abort = false → s.unitCheck p = some e →
    exec (.ezOpen i) s = .next ((s.takePacket i p).rejectPacket p p.dstUnit.1 p.dstUnit.2 e)) ∧
  (∀ (s : State) (i : Nat) (p : Packet) (e : Option Nat), s.arrives? i 0x32 false = some p → p.abort = false → s.unitCheck p = some e →
    exec (.ezClose i) s = .next ((s.takePacket i p).rejectPacket p p.dstUnit.1 p.dstUnit.2 e)) ∧
  (∀ (s : State) (i : Nat) (p : Packet) (e : Option Nat), s.arrives? i 0x33 false = some p → p.abort = false → s.unitCheck p = some e →
    exec (.ezRearm i) s = .next ((s.takePacket i p).rejectPacket p p.dstUnit.1 p.dstUnit.2 e)) ∧
  (∀ (s : State) (i : Nat) (p : Packet) (e : Option Nat), s.arrives? i 0x35 false = some p → p.abort = false → s.unitCheck p = some e →
    exec (.ezSend i) s = .next ((s.takePacket i p).rejectPacket p p.dstUnit.1 p.dstUnit.2 e)) ∧
  (∀ (s : State) (i : Nat) (p : Packet), s.arrives? i 1 false = some p → p.abort →
    exec (.write i) s = .next ((s.takePacket i p).fabInc (reachOf p.exit.1 p.exit.2) 0x440))

/-- POOL_READ and POOL_WRITE at a home pool. Once it passes the checks of R47 and lies within the pool, a POOL_WRITE puts its bytes into the pool and
is acknowledged where ACK_REQ is set, and a POOL_READ is answered with the bytes, poisoned where a line is; its line reads count as R131 merges
them. One that does not lie within the pool is discarded with a Cairn record. Derived from 04_wafer_fabric R128, 04_wafer_fabric R130,
04_wafer_fabric R131, 04_wafer_fabric R132. -/
def Obligations.PoolPackets : Prop :=
  (∀ (s : State) (i : Nat) (p : Packet), s.poolGets i 1 p → p.ackReq →
    exec (.poolWrite i) s = .next (((s.takePacket i p).poolWrite p.rillIdx p.addr (p.payload.take p.len) p.poison).inject (p.ack 0))) ∧
  (∀ (s : State) (i : Nat) (p : Packet), s.poolGets i 2 p →
    exec (.poolRead i) s = .next (((s.takePacket i p).linesRead (reachOf p.dcol p.drow) ((sbase p.rillIdx + p.addr) / 64) (poolLines p)).inject (p.readData (s.poolRead p.rillIdx p.addr p.len) (s.poolPois p.rillIdx p.addr p.len)))) ∧
  (∀ (s : State) (i : Nat) (p : Packet), s.unitGets i 1 true p → p.edge = false → poolFits p = false →
    exec (.poolWrite i) s = .next ((s.takePacket i p).poolRefuse p)) ∧
  (∀ (s : State) (i : Nat) (p : Packet), s.poolGets i 1 p → p.ackReq = false →
    exec (.poolWrite i) s = .next ((s.takePacket i p).poolWrite p.rillIdx p.addr (p.payload.take p.len) p.poison)) ∧
  (∀ (s : State) (i : Nat) (p : Packet), s.unitGets i 2 true p → p.edge = false → poolFits p = false →
    exec (.poolRead i) s = .next ((s.takePacket i p).poolRefuse p)) ∧
  (∀ (s : State) (i : Nat) (p : Packet) (t : State) (y : Nat), s.poolGets i 1 p → p.payload.length = p.len → Mem.wf s.pool = true →
    exec (.poolWrite i) s = .next t → (∀ j, j < p.len → memRead t.pool (sbase p.rillIdx + p.addr + j) = p.payload.getD j 0) ∧
    ((y < sbase p.rillIdx + p.addr ∨ sbase p.rillIdx + p.addr + p.len ≤ y) → memRead t.pool y = memRead s.pool y) ∧ t.store = s.store ∧
    t.stack = s.stack ∧ t.host = s.host)

/-- READ_DATA, ACK, SDATA and SCREDIT at a rill. READ_DATA that answers an LDP64 fills its register, or faults the slot with POISON. ACK of an STP64
or a SEND takes it off every slot's outstanding acknowledgements. SDATA, and READ_DATA or ACK of a queue's transfer, take that transfer off the
queue: a code other than 0 faults the queue, the data of an IN tile lands in its ring slot. SCREDIT raises a queue's limit once its arm number is
adopted. Derived from 02_rill_cores R46, 04_wafer_fabric R130, 05_streams R146, 05_streams R147, 05_streams R161, 05_streams R164. -/
def Obligations.PacketAnswers : Prop :=
  (∀ (s : State) (i : Nat) (p : Packet) (n g : Nat), s.rillGets i 3 p → (s.rill p.rillIdx).flightOf p.xid = none →
    ((s.rill p.rillIdx).trickles.find? (fun t => t.xid == p.xid) = none) → (s.rill p.rillIdx).loadOf p.xid = some (n, g) →
    exec (.readData i) s = .next ((s.takePacket i p).loadAnswer p.rillIdx n g p)) ∧
  (∀ (s : State) (i : Nat) (p : Packet) (q : Nat) (f : Flight), s.rillGets i 3 p → (s.rill p.rillIdx).flightOf p.xid = some (q, f) →
    exec (.readData i) s = .next ((s.takePacket i p).queueAnswer p.rillIdx q f p)) ∧
  (∀ (s : State) (i : Nat) (p : Packet), s.rillGets i 4 p → (s.rill p.rillIdx).flightOf p.xid = none →
    ((s.rill p.rillIdx).trickles.find? (fun t => t.xid == p.xid) = none) →
    exec (.ack i) s = .next ((s.takePacket i p).modRill p.rillIdx (fun r => { r with slots := r.slots.map (fun (e : Nat × Slot) => (e.1, { e.2 with acks := rem e.2.acks p.xid })) }))) ∧
  (∀ (s : State) (i : Nat) (p : Packet) (q : Nat) (f : Flight), s.rillGets i 4 p → (s.rill p.rillIdx).flightOf p.xid = some (q, f) →
    exec (.ack i) s = .next ((s.takePacket i p).queueAnswer p.rillIdx q f p)) ∧
  (∀ (s : State) (i : Nat) (p : Packet) (r : Trickle), s.rillGets i 3 p → (s.rill p.rillIdx).flightOf p.xid = none →
    ((s.rill p.rillIdx).trickles.find? (fun t => t.xid == p.xid) = some r) →
    exec (.readData i) s = .next ((s.takePacket i p).trickleAnswer p.rillIdx r p)) ∧
  (∀ (s : State) (i : Nat) (p : Packet) (r : Trickle), s.rillGets i 4 p → (s.rill p.rillIdx).flightOf p.xid = none →
    ((s.rill p.rillIdx).trickles.find? (fun t => t.xid == p.xid) = some r) →
    exec (.ack i) s = .next ((s.takePacket i p).trickleAnswer p.rillIdx r p)) ∧
  (∀ (s : State) (i : Nat) (p : Packet) (r : Trickle), s.rillGets i 17 p → (s.rill p.rillIdx).flightOf p.xid = none →
    ((s.rill p.rillIdx).trickles.find? (fun t => t.xid == p.xid) = some r) →
    exec (.sdata i) s = .next ((s.takePacket i p).trickleAnswer p.rillIdx r p)) ∧
  (∀ (s : State) (i : Nat) (p : Packet) (q : Nat) (f : Flight), s.rillGets i 17 p → (s.rill p.rillIdx).flightOf p.xid = some (q, f) →
    exec (.sdata i) s = .next ((s.takePacket i p).queueAnswer p.rillIdx q f p)) ∧
  (∀ (s : State) (i : Nat) (p : Packet), s.rillGets i 22 p → p.edge = false →
    exec (.scredit i) s = .next ((s.takePacket i p).modQueue p.rillIdx (p.tag % 8) (fun x => x.credited (p.arg % 2 ^ 32) (p.arg / 2 ^ 32 % 256))))

/-- SPUSH, HW_CONFIRM, EZ_CONFIRM and the four events of a stream queue. An SPUSH of the queue's arm, within its credit and of its tile length, lands
in its ring slot; one of another length faults the queue; one outside the credit, of another arm, or for a queue that takes none is ignored.
HW_CONFIRM and EZ_CONFIRM with ARG 0 make a STARTING queue of FAR_KIND 3 or 4 ON; with a code they fault the queue. STREAM_START_DONE makes a
STARTING queue of another kind ON, one that is pushed to once it has granted its first tile. STREAM_STOP_DONE makes a STOPPING queue with nothing
outstanding OFF, and a latched start begins. STREAM_TILE_ISSUE requests the next tile of an ON queue. STREAM_OUT_INJECT sends the next released
OUT tile, which for FAR_KIND 2 counts as filled at its injection (log 21, DEDUCED), or faults the queue where its address fails a check or no
route is left. Derived from 05_streams R144, 05_streams R145, 05_streams R146, 05_streams R151, 05_streams R153, 05_streams R165, 05_streams R166,
07_headwater R228, 07_headwater R249, 09_eztex_collectives R306. -/
def Obligations.StreamTraffic : Prop :=
  (∀ (s : State) (i : Nat) (p : Packet) (x : Queue), s.rillGets i 21 p → (s.rill p.rillIdx).queue (p.tag % 8) = x → x.st ≠ stOff →
    x.st ≠ stStopping → x.desc.push → p.arg / 256 % 256 = x.armNo % 256 → x.tileOf (p.tag / 8) < x.issued → p.len = x.desc.tileLen →
    exec (.spush i) s = .next ((s.takePacket i p).landTile p.rillIdx (p.tag % 8) (x.tileOf (p.tag / 8)) p.payload p.poison (p.arg % 256))) ∧
  (∀ (s : State) (i : Nat) (p : Packet) (x : Queue), s.rillGets i 21 p → (s.rill p.rillIdx).queue (p.tag % 8) = x → x.st ≠ stOff →
    x.st ≠ stStopping → x.desc.push → p.arg / 256 % 256 = x.armNo % 256 → x.tileOf (p.tag / 8) < x.issued → p.len ≠ x.desc.tileLen →
    exec (.spush i) s = .next ((s.takePacket i p).queueFault p.rillIdx (p.tag % 8) cMalformed false)) ∧
  (∀ (s : State) (i : Nat) (p : Packet) (x : Queue), s.rillGets i 21 p → (s.rill p.rillIdx).queue (p.tag % 8) = x →
    (x.st = stOff ∨ x.st = stStopping ∨ x.desc.push = false ∨ p.arg / 256 % 256 ≠ x.armNo % 256 ∨ x.issued ≤ x.tileOf (p.tag / 8)) →
    exec (.spush i) s = .next ((s.takePacket i p))) ∧
  (∀ (s : State) (i : Nat) (p : Packet), s.rillGets i 33 p → ((s.rill p.rillIdx).queue (p.tag % 8)).st = stStarting →
    ((s.rill p.rillIdx).queue (p.tag % 8)).desc.farKind = 3 → p.arg % 0x10000 = 0 →
    exec (.hwConfirm i) s = .next ((s.takePacket i p).queueStarted p.rillIdx (p.tag % 8))) ∧
  (∀ (s : State) (i : Nat) (p : Packet), s.rillGets i 49 p → ((s.rill p.rillIdx).queue (p.tag % 8)).st = stStarting →
    ((s.rill p.rillIdx).queue (p.tag % 8)).desc.farKind = 4 → p.arg % 0x10000 = 0 →
    exec (.ezConfirm i) s = .next ((s.takePacket i p).queueStarted p.rillIdx (p.tag % 8))) ∧
  (∀ (s : State) (i : Nat) (p : Packet), s.rillGets i 33 p → ((s.rill p.rillIdx).queue (p.tag % 8)).st ≠ stOff →
    ((s.rill p.rillIdx).queue (p.tag % 8)).desc.farKind = 3 → p.arg % 0x10000 ≠ 0 → p.arg % 0x10000 ≠ cCancelled →
    exec (.hwConfirm i) s = .next ((s.takePacket i p).queueFault p.rillIdx (p.tag % 8) (p.arg % 0x10000) false)) ∧
  (∀ (s : State) (i : Nat) (p : Packet), s.rillGets i 49 p → ((s.rill p.rillIdx).queue (p.tag % 8)).st ≠ stOff →
    ((s.rill p.rillIdx).queue (p.tag % 8)).desc.farKind = 4 → p.arg % 0x10000 ≠ 0 → p.arg % 0x10000 ≠ cCancelled →
    exec (.ezConfirm i) s = .next ((s.takePacket i p).queueFault p.rillIdx (p.tag % 8) (p.arg % 0x10000) false)) ∧
  (∀ (s : State) (p : Pos) (q : Nat) (x : Queue), inGrid p.col p.row → q < 8 → s.alive (ridx p.col p.row) →
    (s.rill (ridx p.col p.row)).queue q = x → x.st = stStarting → x.desc.farKind ≤ 2 → x.desc.push = false →
    exec (.streamStartDone p q) s = .next ((s.atCycle (x.startedAt + 4)).queueStarted (ridx p.col p.row) q)) ∧
  (∀ (s : State) (p : Pos) (q : Nat) (x : Queue), inGrid p.col p.row → q < 8 → s.alive (ridx p.col p.row) →
    (s.rill (ridx p.col p.row)).queue q = x → x.st = stStarting → x.desc.farKind ≤ 2 → x.desc.push → x.inAdmits →
    exec (.streamStartDone p q) s = .next (((s.atCycle (x.startedAt + 4)).issueTile (ridx p.col p.row) q).queueStarted (ridx p.col p.row) q)) ∧
  (∀ (s : State) (p : Pos) (q : Nat) (x : Queue), inGrid p.col p.row → q < 8 → s.alive (ridx p.col p.row) →
    (s.rill (ridx p.col p.row)).queue q = x → x.st = stStopping → x.flights = [] → x.acqs = [] → (x.latched = none ∨ x.pendOn = false) →
    exec (.streamStopDone p q) s = .next ((s.setQst (ridx p.col p.row) q stOff).modQueue (ridx p.col p.row) q (fun y => { y with credit := 0, srcArm := none, arms := [] }))) ∧
  (∀ (s : State) (p : Pos) (q : Nat) (x : Queue) (d : Desc) (n : Nat), inGrid p.col p.row → q < 8 → s.alive (ridx p.col p.row) →
    (s.rill (ridx p.col p.row)).queue q = x → x.st = stStopping → x.flights = [] → x.acqs = [] → x.latched = some (d, n) → x.pendOn →
    exec (.streamStopDone p q) s = .next (((s.setQst (ridx p.col p.row) q stOff).modQueue (ridx p.col p.row) q (fun y => { y with credit := 0, srcArm := none, arms := [] })).queueBegin (ridx p.col p.row) q d n)) ∧
  (∀ (s : State) (p : Pos) (q : Nat) (x : Queue), inGrid p.col p.row → q < 8 → s.alive (ridx p.col p.row) →
    ((s.rill (ridx p.col p.row)).queue q).takeUp = x → x.st = stOn →
    (if x.desc.dir = 0 then x.inAdmits = true else x.desc.dir ≠ 1 ∧ x.moveAdmits = true) →
    exec (.streamTileIssue p q) s = .next (s.issueTile (ridx p.col p.row) q)) ∧
  (∀ (s u : State) (p : Pos) (q : Nat) (x : Queue) (k : Packet), inGrid p.col p.row → q < 8 → s.alive (ridx p.col p.row) →
    ((s.rill (ridx p.col p.row)).queue q).takeUp = x → x.st = stOn → x.outReady → x.desc.farKind ≠ 2 →
    (s.modQueue (ridx p.col p.row) q Queue.takeUp).outPacket (ridx p.col p.row) q x = .inr k →
    ((s.modQueue (ridx p.col p.row) q Queue.takeUp).fresh.2).inject? { k with xid := s.nextXid } = some u →
    exec (.streamOutInject p q) s = .next ((u.modQueue (ridx p.col p.row) q (fun y => { y with issued := y.issued + 1 })).modQueue (ridx p.col p.row) q (fun y => { y with flights := y.flights ++ [⟨s.nextXid, x.issued⟩] }))) ∧
  (∀ (s u : State) (p : Pos) (q : Nat) (x : Queue) (k : Packet), inGrid p.col p.row → q < 8 → s.alive (ridx p.col p.row) →
    ((s.rill (ridx p.col p.row)).queue q).takeUp = x → x.st = stOn → x.outReady → x.desc.farKind = 2 →
    (s.modQueue (ridx p.col p.row) q Queue.takeUp).outPacket (ridx p.col p.row) q x = .inr k →
    ((s.modQueue (ridx p.col p.row) q Queue.takeUp).fresh.2).inject? { k with xid := s.nextXid } = some u →
    exec (.streamOutInject p q) s = .next ((u.modQueue (ridx p.col p.row) q (fun y => { y with issued := y.issued + 1 })).tileDone (ridx p.col p.row) q x.issued)) ∧
  (∀ (s : State) (p : Pos) (q : Nat) (x : Queue) (c : Nat), inGrid p.col p.row → q < 8 → s.alive (ridx p.col p.row) →
    ((s.rill (ridx p.col p.row)).queue q).takeUp = x → x.st = stOn → x.outReady →
    (s.modQueue (ridx p.col p.row) q Queue.takeUp).outPacket (ridx p.col p.row) q x = .inl c →
    exec (.streamOutInject p q) s = .next ((s.modQueue (ridx p.col p.row) q Queue.takeUp).queueFault (ridx p.col p.row) q c (decide (x.desc.farKind = 0)))) ∧
  (∀ (s : State) (p : Pos) (q : Nat) (x : Queue) (k : Packet), inGrid p.col p.row → q < 8 → s.alive (ridx p.col p.row) →
    ((s.rill (ridx p.col p.row)).queue q).takeUp = x → x.st = stOn → x.outReady →
    (s.modQueue (ridx p.col p.row) q Queue.takeUp).outPacket (ridx p.col p.row) q x = .inr k →
    ((s.modQueue (ridx p.col p.row) q Queue.takeUp).fresh.2).inject? { k with xid := s.nextXid } = none →
    exec (.streamOutInject p q) s = .next ((((s.modQueue (ridx p.col p.row) q Queue.takeUp).fresh.2).unreachable k).queueFault (ridx p.col p.row) q cMalformed true))

/-- A packet at a hole, an old packet, a corrupted flit, an uncorrectable memory error. A packet that reaches a hole with a working router is answered
with HOLE_CREATED, a READ with poisoned zeros, and one of a kind without an answer is only discarded; one that fails the checks of R47 is recorded
as well, with the items that log 146 chooses, and one with ABORT is discarded and counted. Toward a failed router, or a dead or isolated position,
it is discarded before it. A packet 2^30 cycles old is discarded, counted and recorded at severity 5 (log 145). A corrected flit is only counted,
an uncorrectable payload error poisons the packet and a header error spoils its check. The 16th uncorrectable error that a router records within 1
ms, its mesh counted by itself, fails the router. An uncorrectable memory error poisons its line and no other and changes no byte, also where it
makes the rill fail: the third of a position within 1 s reports the rill failed, fewer do not. Derived from 04_wafer_fabric R106, 04_wafer_fabric
R123, 04_wafer_fabric R124, 02_rill_cores R28, 02_rill_cores R47, 11_resilience R369, 11_resilience R371. -/
def Obligations.FabricEvents : Prop :=
  (∀ (s : State) (i : Nat) (p : Packet) (a : Packet), s.deliverable i = some p → p.edge = false →
    (s.cmtState p.rillIdx = 1 ∨ (s.cmtState p.rillIdx = 0 ∧ (s.rill p.rillIdx).failed)) →
    ((if p.pool then (s.rill p.rillIdx).poolRouterFailed else (s.rill p.rillIdx).routerFailed) = false) → p.abort = false →
    checkPacket p (some (s.rill p.rillIdx).ctx) (s.rill p.rillIdx).epoch true true = none → p.holeAnswer = some a →
    exec (.holePacketArrival i) s = .next ((s.takePacket i p).inject a)) ∧
  (∀ (s : State) (i : Nat) (p : Packet), s.deliverable i = some p → p.edge = false →
    (s.cmtState p.rillIdx = 1 ∨ (s.cmtState p.rillIdx = 0 ∧ (s.rill p.rillIdx).failed)) →
    ((if p.pool then (s.rill p.rillIdx).poolRouterFailed else (s.rill p.rillIdx).routerFailed) = false) → p.abort = false →
    checkPacket p (some (s.rill p.rillIdx).ctx) (s.rill p.rillIdx).epoch true true = none → p.holeAnswer = none →
    exec (.holePacketArrival i) s = .next (s.takePacket i p)) ∧
  (∀ (s : State) (i : Nat) (p : Packet) (a : Packet) (c : Option Nat), s.deliverable i = some p → p.edge = false →
    (s.cmtState p.rillIdx = 1 ∨ (s.cmtState p.rillIdx = 0 ∧ (s.rill p.rillIdx).failed)) →
    ((if p.pool then (s.rill p.rillIdx).poolRouterFailed else (s.rill p.rillIdx).routerFailed) = false) → p.abort = false →
    checkPacket p (some (s.rill p.rillIdx).ctx) (s.rill p.rillIdx).epoch true true = some c → (p.resp && c == some cStaleEpoch) = false →
    p.holeAnswer = some a →
    exec (.holePacketArrival i) s = .next (((s.takePacket i p).cairnLog 4 clsReach (reachOf p.dcol p.drow) (c.getD 0) (min p.ctx noCtx) [itRill p.dcol p.drow]).inject a)) ∧
  (∀ (s : State) (i : Nat) (p : Packet), s.deliverable i = some p → p.edge = false →
    (s.cmtState p.rillIdx = 1 ∨ (s.cmtState p.rillIdx = 0 ∧ (s.rill p.rillIdx).failed)) →
    ((if p.pool then (s.rill p.rillIdx).poolRouterFailed else (s.rill p.rillIdx).routerFailed) = false) → p.abort →
    exec (.holePacketArrival i) s = .next ((s.takePacket i p).fabInc (reachOf p.dcol p.drow) 0x440)) ∧
  (∀ (s : State) (i : Nat) (p : Packet), s.deliverable i = some p → p.edge = false → (s.cmtState p.rillIdx ≠ 0 ∨ (s.rill p.rillIdx).failed) →
    ((if p.pool then (s.rill p.rillIdx).poolRouterFailed else (s.rill p.rillIdx).routerFailed) = true ∨ s.cmtState p.rillIdx = 2 ∨ s.cmtState p.rillIdx = 3) →
    exec (.holePacketArrival i) s = .next (({ s with net := dropAt s.net i }).dropAtLink p (fun q => q == p.exit))) ∧
  (∀ (s : State) (i : Nat) (p : Packet) (r : Pos) (c : Nat), inGrid r.col r.row → s.net[i]? = some p → p.passes r →
    2 ^ 30 ≤ (max c s.clk.cycle % 2 ^ 32 + 2 ^ 32 - p.age) % 2 ^ 32 → ∃ t, exec (.packetAgeDiscard i r c) s = .next t ∧
    t.net = dropAt s.net i ∧ t.clk = (s.atCycle c).clk ∧ t.rills = s.rills ∧ t.store = s.store ∧ t.pool = s.pool) ∧
  (∀ (s : State) (i : Nat) (p : Packet) (r : Pos) (n : Nat), inGrid r.col r.row → s.net[i]? = some p → p.passes r →
    exec (.flitEccError i r .corrected n) s = .next ((s.atTime n).fabInc (reachOf r.col r.row) 0x438)) ∧
  (∀ (s : State) (i : Nat) (p : Packet) (r : Pos) (n : Nat), inGrid r.col r.row → s.net[i]? = some p → p.passes r →
    ((within (if p.pool then (s.rill (ridx r.col r.row)).poolErrTimes else (s.rill (ridx r.col r.row)).linkErrTimes) (s.atTime n).clk.now 1000000).length < 15) →
    ∃ t, exec (.flitEccError i r .payload n) s = .next t ∧ t.net = setAt s.net i { p with poison := true } ∧
    (if p.pool then (t.rill (ridx r.col r.row)).poolErrTimes else (t.rill (ridx r.col r.row)).linkErrTimes) = (s.atTime n).clk.now :: (within (if p.pool then (s.rill (ridx r.col r.row)).poolErrTimes else (s.rill (ridx r.col r.row)).linkErrTimes) (s.atTime n).clk.now 1000000)) ∧
  (∀ (s : State) (i : Nat) (p : Packet) (r : Pos) (n : Nat), inGrid r.col r.row → s.net[i]? = some p → p.passes r →
    ((within (if p.pool then (s.rill (ridx r.col r.row)).poolErrTimes else (s.rill (ridx r.col r.row)).linkErrTimes) (s.atTime n).clk.now 1000000).length < 15) →
    ∃ t, exec (.flitEccError i r .header n) s = .next t ∧ t.net = setAt s.net i { p with hchkOk := false }) ∧
  (∀ (s : State) (i : Nat) (p : Packet) (r : Pos) (n : Nat) (e : FlitError), inGrid r.col r.row → s.net[i]? = some p → p.passes r →
    e ≠ .corrected →
    (15 ≤ (within (if p.pool then (s.rill (ridx r.col r.row)).poolErrTimes else (s.rill (ridx r.col r.row)).linkErrTimes) (s.atTime n).clk.now 1000000).length) →
    exec (.flitEccError i r e n) s = .next ((({ ((s.atTime n).fabInc (reachOf r.col r.row) 0x43C) with net := setAt s.net i (if e = .header then { p with hchkOk := false } else { p with poison := true }) } : State).modRill (ridx r.col r.row) (fun x => if p.pool then { x with poolErrTimes := (s.atTime n).clk.now :: (within (if p.pool then (s.rill (ridx r.col r.row)).poolErrTimes else (s.rill (ridx r.col r.row)).linkErrTimes) (s.atTime n).clk.now 1000000) } else { x with linkErrTimes := (s.atTime n).clk.now :: (within (if p.pool then (s.rill (ridx r.col r.row)).poolErrTimes else (s.rill (ridx r.col r.row)).linkErrTimes) (s.atTime n).clk.now 1000000) })).routerLost p.pool (ridx r.col r.row) 5)) ∧
  (∀ (s : State) (p : Pos) (line n : Nat), inGrid p.col p.row → s.alive (ridx p.col p.row) → line < 768 →
    ∃ t, exec (.memoryUncorrError p false line n) s = .next t ∧ t.storePoison = ins s.storePoison (sbase (ridx p.col p.row) / 64 + line) ∧
    t.poolPoison = s.poolPoison ∧ t.store = s.store ∧ t.pool = s.pool) ∧
  (∀ (s : State) (p : Pos) (line n : Nat) (l : List Nat), inGrid p.col p.row → s.alive (ridx p.col p.row) → line < 768 →
    (s.atTime n).clk.now :: within (s.rill (ridx p.col p.row)).errTimes (s.atTime n).clk.now 1000000000 = l → 3 ≤ l.length →
    exec (.memoryUncorrError p false line n) s = .next ((({ s.atTime n with storePoison := ins s.storePoison (sbase (ridx p.col p.row) / 64 + line) } : State).modRill (ridx p.col p.row) (fun r => { r with errTimes := l })).reportFailed (ridx p.col p.row) 4)) ∧
  (∀ (s : State) (p : Pos) (line n : Nat) (l : List Nat), inGrid p.col p.row → s.alive (ridx p.col p.row) → line < 768 →
    (s.atTime n).clk.now :: within (s.rill (ridx p.col p.row)).errTimes (s.atTime n).clk.now 1000000000 = l → l.length < 3 →
    exec (.memoryUncorrError p false line n) s = .next (({ s.atTime n with storePoison := ins s.storePoison (sbase (ridx p.col p.row) / 64 + line) } : State).modRill (ridx p.col p.row) (fun r => { r with errTimes := l }))) ∧
  (∀ (s : State) (p : Pos) (line n : Nat), inGrid p.col p.row → s.alive (ridx p.col p.row) → line < 1024 →
    ∃ t, exec (.memoryUncorrError p true line n) s = .next t ∧ t.poolPoison = ins s.poolPoison (sbase (ridx p.col p.row) / 64 + line) ∧
    t.storePoison = s.storePoison ∧ t.pool = s.pool ∧ t.store = s.store) ∧
  (∀ (s : State) (p : Pos) (line n : Nat) (l : List Nat), inGrid p.col p.row → s.alive (ridx p.col p.row) → line < 1024 →
    (s.atTime n).clk.now :: within (s.rill (ridx p.col p.row)).errTimes (s.atTime n).clk.now 1000000000 = l → 3 ≤ l.length →
    exec (.memoryUncorrError p true line n) s = .next ((({ s.atTime n with poolPoison := ins s.poolPoison (sbase (ridx p.col p.row) / 64 + line) } : State).modRill (ridx p.col p.row) (fun r => { r with errTimes := l })).reportFailed (ridx p.col p.row) 4))

/-- SREAD, SWRITE, SFILL and SDRAIN at a memory endpoint. A request that passes the checks of R47 at its memory endpoint joins the requests that the
endpoint holds. Where no failure shows without a walk, its unit goes on with the requests that wait; a failure that shows without a walk is
latched and fails the request with its code. Derived from 05_streams R161, 05_streams R163, 06_stacks_translation R179, 06_stacks_translation
R198, 06_stacks_translation R201. -/
def Obligations.MemoryRequests : Prop :=
  (∀ (s : State) (i : Nat) (p : Packet), s.edgeGets i 0x10 p → s.xlEarly p.ctx p.addr p.len = none →
    exec (.sread i) s = .next ({ (s.takePacket i p) with memReqs := s.memReqs ++ [({ pkt := p, stage := 0, segs := [], code := 0, poison := false, data := [], xid := 0, old := false, walk := none, walkOld := false } : MemReq)] }.memGo (memUnit p.dcol))) ∧
  (∀ (s : State) (i : Nat) (p : Packet) (e : XlFail), s.edgeGets i 0x10 p → s.xlEarly p.ctx p.addr p.len = some e →
    exec (.sread i) s = .next (({ (s.takePacket i p) with memReqs := s.memReqs ++ [({ pkt := p, stage := 0, segs := [], code := 0, poison := false, data := [], xid := 0, old := false, walk := none, walkOld := false } : MemReq)] }.xlLatch p.ctx e p.wantsWr).memFailed s.memReqs.length ({ pkt := p, stage := 0, segs := [], code := 0, poison := false, data := [], xid := 0, old := false, walk := none, walkOld := false } : MemReq) (xlCode e.kind p.wantsWr) false)) ∧
  (∀ (s : State) (i : Nat) (p : Packet), s.edgeGets i 0x12 p → s.xlEarly p.ctx p.addr p.len = none →
    exec (.swrite i) s = .next ({ (s.takePacket i p) with memReqs := s.memReqs ++ [({ pkt := p, stage := 0, segs := [], code := 0, poison := false, data := [], xid := 0, old := false, walk := none, walkOld := false } : MemReq)] }.memGo (memUnit p.dcol))) ∧
  (∀ (s : State) (i : Nat) (p : Packet) (e : XlFail), s.edgeGets i 0x12 p → s.xlEarly p.ctx p.addr p.len = some e →
    exec (.swrite i) s = .next (({ (s.takePacket i p) with memReqs := s.memReqs ++ [({ pkt := p, stage := 0, segs := [], code := 0, poison := false, data := [], xid := 0, old := false, walk := none, walkOld := false } : MemReq)] }.xlLatch p.ctx e p.wantsWr).memFailed s.memReqs.length ({ pkt := p, stage := 0, segs := [], code := 0, poison := false, data := [], xid := 0, old := false, walk := none, walkOld := false } : MemReq) (xlCode e.kind p.wantsWr) false)) ∧
  (∀ (s : State) (i : Nat) (p : Packet), s.edgeGets i 0x13 p → s.xlEarly p.ctx p.addr p.len = none →
    exec (.sfill i) s = .next ({ (s.takePacket i p) with memReqs := s.memReqs ++ [({ pkt := p, stage := 0, segs := [], code := 0, poison := false, data := [], xid := 0, old := false, walk := none, walkOld := false } : MemReq)] }.memGo (memUnit p.dcol))) ∧
  (∀ (s : State) (i : Nat) (p : Packet) (e : XlFail), s.edgeGets i 0x13 p → s.xlEarly p.ctx p.addr p.len = some e →
    exec (.sfill i) s = .next (({ (s.takePacket i p) with memReqs := s.memReqs ++ [({ pkt := p, stage := 0, segs := [], code := 0, poison := false, data := [], xid := 0, old := false, walk := none, walkOld := false } : MemReq)] }.xlLatch p.ctx e p.wantsWr).memFailed s.memReqs.length ({ pkt := p, stage := 0, segs := [], code := 0, poison := false, data := [], xid := 0, old := false, walk := none, walkOld := false } : MemReq) (xlCode e.kind p.wantsWr) false)) ∧
  (∀ (s : State) (i : Nat) (p : Packet), s.edgeGets i 0x14 p → s.xlEarly p.ctx p.addr p.len = none →
    exec (.sdrain i) s = .next ({ (s.takePacket i p) with memReqs := s.memReqs ++ [({ pkt := p, stage := 0, segs := [], code := 0, poison := false, data := [], xid := 0, old := false, walk := none, walkOld := false } : MemReq)] }.memGo (memUnit p.dcol))) ∧
  (∀ (s : State) (i : Nat) (p : Packet) (e : XlFail), s.edgeGets i 0x14 p → s.xlEarly p.ctx p.addr p.len = some e →
    exec (.sdrain i) s = .next (({ (s.takePacket i p) with memReqs := s.memReqs ++ [({ pkt := p, stage := 0, segs := [], code := 0, poison := false, data := [], xid := 0, old := false, walk := none, walkOld := false } : MemReq)] }.xlLatch p.ctx e p.wantsWr).memFailed s.memReqs.length ({ pkt := p, stage := 0, segs := [], code := 0, poison := false, data := [], xid := 0, old := false, walk := none, walkOld := false } : MemReq) (xlCode e.kind p.wantsWr) false))

/-- TRANSLATION_WALK_DONE and STACK_ACCESS_COMPLETE. A walk that ends with its page mapped lets the request go on; one that fails is latched and fails
it; a row for a request without a walk lets the requests of its unit go on. A translated SREAD whose turn has come is answered with the bytes of
the stacks, poisoned where a line is; an SWRITE writes them and is acknowledged; an SFILL writes them into the pool, and an SDRAIN reads the pool
and then writes them; an access to a stack that failed since is answered by its code. Errors that the line code corrects on the way are counted
(R186). That a read sets the rotations of its context going is log 104. Derived from 05_streams R163, 06_stacks_translation R186,
06_stacks_translation R187, 06_stacks_translation R188, 06_stacks_translation R198, 06_stacks_translation R201. -/
def Obligations.MemoryRequestsEnd : Prop :=
  (∀ (s : State) (i : Nat) (c : Corrected) (r : MemReq) (t : State) (x : Nat) (w : Tlb), s.memReqs[i]? = some r → r.walk = some x →
    (s.eccCorr c).walkEnd (memUnit r.pkt.dcol) r.pkt.ctx x = (.inr w, t) →
    exec (.translationWalkDone i c) s = .next ({ t with memReqs := setAt t.memReqs i { r with walk := none } }.memGo (memUnit r.pkt.dcol))) ∧
  (∀ (s : State) (i : Nat) (c : Corrected) (r : MemReq) (t : State) (x : Nat) (e : XlFail), s.memReqs[i]? = some r → r.walk = some x →
    (s.eccCorr c).walkEnd (memUnit r.pkt.dcol) r.pkt.ctx x = (.inl e, t) →
    exec (.translationWalkDone i c) s = .next ((t.xlLatch r.pkt.ctx e r.pkt.wantsWr).memFailed i r (xlCode e.kind r.pkt.wantsWr) (xlPoison e.kind r.pkt.wantsWr))) ∧
  (∀ (s : State) (i : Nat) (c : Corrected) (r : MemReq), s.memReqs[i]? = some r → r.walk = none →
    exec (.translationWalkDone i c) s = .next (s.memGo (memUnit r.pkt.dcol))) ∧
  (∀ (s : State) (i : Nat) (c : Corrected) (r : MemReq), s.memReqs[i]? = some r → r.stage = 1 → s.turnOf i r →
    (s.eccCorr c).segsKind r.segs = none → r.pkt.kind = 0x10 →
    exec (.stackAccessComplete i c) s = .next (((s.eccCorr c).memAnswer i (r.pkt.sdata ((s.eccCorr c).segsRead r.segs) ((s.eccCorr c).segsPois r.segs) 0)).rotationsDue r.pkt.ctx)) ∧
  (∀ (s : State) (i : Nat) (c : Corrected) (r : MemReq), s.memReqs[i]? = some r → r.stage = 1 → (s.eccCorr c).segsKind r.segs = none →
    r.pkt.kind = 0x12 →
    exec (.stackAccessComplete i c) s = .next (((s.eccCorr c).segsWrite r.segs (r.pkt.payload.take r.pkt.len) r.pkt.poison).memAnswer i (r.pkt.ack 0))) ∧
  (∀ (s : State) (i : Nat) (c : Corrected) (r : MemReq), s.memReqs[i]? = some r → r.stage = 1 → (s.eccCorr c).segsKind r.segs = none →
    r.pkt.kind = 0x13 →
    exec (.stackAccessComplete i c) s = .next (((s.eccCorr c).memToPool i r ((s.eccCorr c).segsRead r.segs) ((s.eccCorr c).segsPois r.segs)).rotationsDue r.pkt.ctx)) ∧
  (∀ (s : State) (i : Nat) (c : Corrected) (r : MemReq), s.memReqs[i]? = some r → r.stage = 1 → (s.eccCorr c).segsKind r.segs = none →
    r.pkt.kind = 0x14 → exec (.stackAccessComplete i c) s = .next ((s.eccCorr c).memToPool i r [] false)) ∧
  (∀ (s : State) (i : Nat) (c : Corrected) (r : MemReq), s.memReqs[i]? = some r → r.stage = 3 → (s.eccCorr c).segsKind r.segs = none →
    r.pkt.kind = 0x14 → exec (.stackAccessComplete i c) s = .next (((s.eccCorr c).segsWrite r.segs r.data r.poison).memAnswer i (r.pkt.ack 0))) ∧
  (∀ (s : State) (i : Nat) (c : Corrected) (r : MemReq) (k : Nat), s.memReqs[i]? = some r → (r.stage = 1 ∨ r.stage = 3) → s.turnOf i r →
    (s.eccCorr c).segsKind r.segs = some k →
    exec (.stackAccessComplete i c) s = .next ((s.eccCorr c).memFailed i r (xlCode k r.pkt.wantsWr) (xlPoison k r.pkt.wantsWr)))

/-- STACK_TRAINING_DONE, STACK_TEMP_SAMPLE, STACK_UNCORR_ERROR and STACK_FAIL. Training of a STARTING stack that succeeds empties it and makes the
page ON; one that fails makes it FAULTED. A temperature sample sets the marks at 85 and 95, and only the first of a run at 95 or above is
recorded. An uncorrectable error poisons its line and no other, and up to 4,096 in a second change no byte. An ON stack that fails is emptied and
its page leaves ON. Derived from 06_stacks_translation R182, 06_stacks_translation R183, 06_stacks_translation R185, 06_stacks_translation R186,
06_stacks_translation R188. -/
def Obligations.StackEvents : Prop :=
  (∀ (s : State) (pos n : Nat), pos < 24 → s.fitted pos → s.pst clsStack pos = stStarting →
    ∃ t, exec (.stackTrainingDone pos true n) s = .next t ∧ t.stack = memClear s.stack (kbase pos) (kbase pos + 0x2000000000) ∧
    t.stackErrs = del s.stackErrs pos ∧ t.rills = s.rills) ∧
  (∀ (s : State) (pos n : Nat), pos < 24 → s.fitted pos → s.pst clsStack pos = stStarting →
    exec (.stackTrainingDone pos false n) s = .next ((s.setRegN (aStk pos 0x120) n).pageFault clsStack pos (fun s => s.stackAtStop pos))) ∧
  (∀ (s : State) (pos x : Nat), pos < 24 → s.fitted pos → (x < 95 ∨ s.regB (aStk pos 0x100) 3 = true) →
    exec (.stackTempSample pos x) s = .next ((s.setB (aStk pos 0x100) 2 (decide (85 ≤ x))).setB (aStk pos 0x100) 3 (decide (95 ≤ x)))) ∧
  (∀ (s : State) (pos x : Nat), pos < 24 → s.fitted pos → 95 ≤ x → s.regB (aStk pos 0x100) 3 = false →
    exec (.stackTempSample pos x) s = .next (((s.setB (aStk pos 0x100) 2 true).setB (aStk pos 0x100) 3 true).cairnLog 4 clsStack pos 0 noCtx [])) ∧
  (∀ (s : State) (pos x n : Nat), pos < 24 → s.isOn clsStack pos → x < 96 * 2 ^ 30 →
    (((look [] s.stackErrs pos).filter (fun u => inWindow (s.atTime n).clk.now u 1000000000)).length < 4096) →
    ∃ t, exec (.stackUncorrError pos x n) s = .next t ∧ t.stackPoison = ins s.stackPoison ((kbase pos + x) / 64) ∧ t.stack = s.stack ∧
    t.clk = (s.atTime n).clk) ∧
  (∀ (s : State) (pos : Nat), pos < 24 → s.isOn clsStack pos → ∃ t, exec (.stackFail pos) s = .next t ∧
    t.stack = memClear s.stack (kbase pos) (kbase pos + 0x2000000000) ∧ t.store = s.store ∧ t.pool = s.pool)

/-- Translation pages: start, stop, sets, invalidation and the fault latch. A start with SET0 and the root set valid ends ON, otherwise FAULTED. A
stop ends when the context has no request, and drops its TLB and walk-cache entries and no others. A set or root write takes effect only while the
page is OFF, and an ill-formed valid set is ignored. INVAL_GO drops the context's matching TLB entries, or is kept pending while one is busy;
INVAL_DONE waits for each walk and each answer that the invalidation marked, then clears BUSY and starts a pending one over the whole context.
XL_FAULT_CLEAR clears VALID. These writes act while the pages respond to the host (R527). Derived from 06_stacks_translation R193,
06_stacks_translation R202, 06_stacks_translation R203, 06_stacks_translation R210, 06_stacks_translation R211, 06_stacks_translation R212,
16_startup R527. -/
def Obligations.TranslationPages : Prop :=
  (∀ (s : State) (x : Nat), x < 17 → s.pst clsXl x = stStarting → s.stage = 4 → s.setOk x 0 → s.setOk x (s.regF (aXl x 0x100) 0 2) →
    exec (.translationStartDone x) s = .next (s.startDone clsXl x id)) ∧
  (∀ (s : State) (x : Nat), x < 17 → s.pst clsXl x = stStarting → s.stage = 4 → s.setOk x 0 = false →
    exec (.translationStartDone x) s = .next ((s.errBit clsXl x 1).pageFault clsXl x id)) ∧
  (∀ (s : State) (x : Nat), x < 17 → s.pst clsXl x = stStopping → (∀ r ∈ s.memReqs, r.pkt.ctx ≠ x) →
    ∃ t, exec (.translationStopDone x) s = .next t ∧ t.tlb = s.tlb.filter (fun e => e.ctx != x) ∧
    t.walkCache = s.walkCache.filter (fun e => e.ctx != x) ∧ t.memReqs = s.memReqs) ∧
  (∀ (s : State) (x k : Nat) (v : W32), x < 17 → k < 4 → s.served → s.pst clsXl x = stOff → (bitOf v 31 = true → s.setWritable x v = true) →
    exec (.setWrite x k v) s = .next (s.setReg (aXl x (0x108 + 4 * k)) (v &&& 0x87FFFFFF))) ∧
  (∀ (s : State) (x : Nat) (v : W32), x < 17 → s.served → s.pst clsXl x = stOff →
    exec (.setWrite x 4 v) s = .next { s with staged := put s.staged (aXl x 0x100) (v &&& 0xFFFFF003) }) ∧
  (∀ (s : State) (x : Nat) (v lo : W32), x < 17 → s.served → s.pst clsXl x = stOff → look (s.reg (aXl x 0x100)) s.staged (aXl x 0x100) = lo →
    exec (.setWrite x 5 v) s = .next { (s.setReg (aXl x 0x100) lo).setReg (aXl x 0x104) (v &&& 0x01FFFFFF) with staged := del s.staged (aXl x 0x100) }) ∧
  (∀ (s : State) (x k : Nat) (v : W32), x < 17 → k < 6 → s.served → s.pst clsXl x ≠ stOff →
    exec (.setWrite x k v) s = .next (s.ignored clsXl x)) ∧
  (∀ (s : State) (x k : Nat) (v : W32), x < 17 → k < 4 → s.served → s.pst clsXl x = stOff → bitOf v 31 → s.setWritable x v = false →
    exec (.setWrite x k v) s = .next (s.ignored clsXl x)) ∧
  (∀ (s : State) (x : Nat) (b : Bool), x < 17 → s.served → (s.setB (aXl x 0x118) 1 b).regB (aXl x 0x118) 2 = false →
    exec (.invalGo x b) s = .next ((s.setB (aXl x 0x118) 1 b).invalStart x (!b))) ∧
  (∀ (s : State) (x : Nat) (b : Bool), x < 17 → s.served → (s.setB (aXl x 0x118) 1 b).regB (aXl x 0x118) 2 = true →
    exec (.invalGo x b) s = .next ((s.setB (aXl x 0x118) 1 b).setB (aXl x 0x118) 3 true)) ∧
  (∀ (s : State) (x : Nat), x < 17 → s.regB (aXl x 0x118) 2 →
    (∀ r ∈ s.memReqs, r.pkt.ctx = x → r.old = false ∧ (r.walk.isSome → r.walkOld = false)) →
    (s.setB (aXl x 0x118) 2 false).regB (aXl x 0x118) 3 = false → exec (.invalDone x) s = .next (s.setB (aXl x 0x118) 2 false)) ∧
  (∀ (s : State) (x : Nat), x < 17 → s.regB (aXl x 0x118) 2 →
    (∀ r ∈ s.memReqs, r.pkt.ctx = x → r.old = false ∧ (r.walk.isSome → r.walkOld = false)) →
    (s.setB (aXl x 0x118) 2 false).regB (aXl x 0x118) 3 →
    exec (.invalDone x) s = .next (((s.setB (aXl x 0x118) 2 false).setB (aXl x 0x118) 3 false).invalStart x true)) ∧
  (∀ (s : State) (x : Nat) (r : MemReq), x < 17 → r ∈ s.memReqs → r.pkt.ctx = x → (r.old = true ∨ (r.walk.isSome ∧ r.walkOld = true)) →
    exec (.invalDone x) s = .next s) ∧
  (∀ (s : State) (x : Nat), x < 17 → s.served → exec (.xlFaultClear x) s = .next (s.setB (aXl x 0x130) 7 false))

/-- BAR2_READ and BAR2_WRITE. A BAR2 access of a function that is up and within 64 GiB counts its packets: a read whose places translate answers the
bytes of the stacks (of a poisoned line too, with no mark: log 170), one that does not answers all bits 1, one before FIRMWARE answers 0, and one
with an ATS translation type or outside the Secure stream that IDE_REQ asks for is counted as unsupported; a write whose places translate writes
them, one that does not, that arrives outside that stream or before FIRMWARE is discarded, and one with an ATS translation type is counted as
unsupported. Errors that the line code corrects on the way are counted (R186; which, the row says). Derived from 06_stacks_translation R186,
06_stacks_translation R194, 14_host_commands R460, 14_host_commands R466, 15_security R509, 16_startup R527. -/
def Obligations.Bar2Aperture : Prop :=
  (∀ (s t : State) (f x n : Nat) (tl : Tlp) (c : Corrected) (l : List (Nat × Nat × Nat)), f < 17 → s.fnUp f → x + n ≤ 64 * 2 ^ 30 →
    tl.ats = false → s.tlpIn.tlpOut.ideIn f tl → s.tlpIn.tlpOut.served → (s.tlpIn.tlpOut.eccCorr c).bar2Segs f x n false = (some l, t) →
    exec (.bar2Read f x n tl c) s = .next (t.emit (.readData f (t.segsRead l)))) ∧
  (∀ (s t : State) (f x n : Nat) (tl : Tlp) (c : Corrected), f < 17 → s.fnUp f → x + n ≤ 64 * 2 ^ 30 → tl.ats = false →
    s.tlpIn.tlpOut.ideIn f tl → s.tlpIn.tlpOut.served → (s.tlpIn.tlpOut.eccCorr c).bar2Segs f x n false = (none, t) →
    exec (.bar2Read f x n tl c) s = .next (t.emit (.readData f (List.replicate n 0xFF)))) ∧
  (∀ (s : State) (f x n : Nat) (tl : Tlp) (c : Corrected), f < 17 → s.fnUp f → x + n ≤ 64 * 2 ^ 30 → tl.ats = false →
    s.tlpIn.tlpOut.ideIn f tl → s.tlpIn.tlpOut.served = false →
    exec (.bar2Read f x n tl c) s = .next (s.tlpIn.tlpOut.emit (.readData f (List.replicate n 0)))) ∧
  (∀ (s : State) (f x n : Nat) (tl : Tlp) (c : Corrected), f < 17 → s.fnUp f → x + n ≤ 64 * 2 ^ 30 →
    (tl.ats = true ∨ s.tlpIn.tlpOut.ideIn f tl = false) → exec (.bar2Read f x n tl c) s = .next (s.tlpIn.tlpOut.incSat (rg clsPcie 0 0x110))) ∧
  (∀ (s t : State) (f x : Nat) (b : List Byte) (tl : Tlp) (c : Corrected) (l : List (Nat × Nat × Nat)), f < 17 → s.fnUp f →
    x + b.length ≤ 64 * 2 ^ 30 → tl.ats = false → s.tlpIn.ideIn f tl → s.tlpIn.served →
    (s.tlpIn.eccCorr c).bar2Segs f x b.length true = (some l, t) → exec (.bar2Write f x b tl c) s = .next (t.segsWrite l b false)) ∧
  (∀ (s t : State) (f x : Nat) (b : List Byte) (tl : Tlp) (c : Corrected), f < 17 → s.fnUp f → x + b.length ≤ 64 * 2 ^ 30 → tl.ats = false →
    s.tlpIn.ideIn f tl → s.tlpIn.served → (s.tlpIn.eccCorr c).bar2Segs f x b.length true = (none, t) →
    exec (.bar2Write f x b tl c) s = .next t) ∧
  (∀ (s : State) (f x : Nat) (b : List Byte) (tl : Tlp) (c : Corrected), f < 17 → s.fnUp f → x + b.length ≤ 64 * 2 ^ 30 → tl.ats →
    exec (.bar2Write f x b tl c) s = .next (s.tlpIn.incSat (rg clsPcie 0 0x110))) ∧
  (∀ (s : State) (f x : Nat) (b : List Byte) (tl : Tlp) (c : Corrected), f < 17 → s.fnUp f → x + b.length ≤ 64 * 2 ^ 30 → tl.ats = false →
    (s.tlpIn.ideIn f tl = false ∨ s.tlpIn.served = false) → exec (.bar2Write f x b tl c) s = .next s.tlpIn)

/-- HW_OPEN, HW_CLOSE, HW_REARM, HW_SEND, FETCH_ISSUE and HOST_FETCH_READ_DONE. An open that nothing of R229 refuses takes the lowest free slot of its
port and holds its claim; it is confirmed where its generation is bound, and held where it is that of a pending swap; a refused one takes no slot
and carries the code. A close takes the stream away. A re-arm waits for the arm to end. A gradient tile within its range is acknowledged and goes
into frames. FETCH_ISSUE asks for the first run of frames needed that the stream does not hold, at most 8 and what its window and the 6,144
buffers leave. A frame read from host memory whose header agrees is processed as DATA, and one whose VER does not is read again. That a rebinding
due goes before the open or the re-arm is R244; the order of the checks is that of R229. What IDE_REQ keeps back are the requests whose host
address no Secure stream covers (log 66). Derived from 07_headwater R226, 07_headwater R228, 07_headwater R229, 07_headwater R230, 07_headwater
R232, 07_headwater R236, 07_headwater R249. -/
def Obligations.HeadwaterStreams : Prop :=
  (∀ (s : State) (i : Nat) (p : Packet), s.edgeGets i 0x20 p →
    ((s.takePacket i p).rebindAll p.ctx 65536).hwRefusal p.dcol p.ctx (parseDesc p.payload) (at' p.payload 0x16 2) true = none →
    ((s.takePacket i p).rebindAll p.ctx 65536).genVerdict p.ctx (parseDesc p.payload).hwLayer (parseDesc p.payload).hwGen = .confirm →
    ∃ h : HwStream, h = ({ port := (if p.dcol = 4 then 32 else 4 * hwChiplet p.dcol + nfld (if (parseDesc p.payload).dir = 0 then (parseDesc p.payload).up else (parseDesc p.payload).down) 28 3), slot := ((s.takePacket i p).rebindAll p.ctx 65536).freeSlot (if p.dcol = 4 then 32 else 4 * hwChiplet p.dcol + nfld (if (parseDesc p.payload).dir = 0 then (parseDesc p.payload).up else (parseDesc p.payload).down) 28 3), col := p.scol, row := p.srow, q := p.tag % 8, ctx := p.ctx, arm := p.arg % 256, desc := (parseDesc p.payload), first := 0, rearm := none, openP := p, held := false, heldRearm := false, claim := some ((parseDesc p.payload).hwLayer, (parseDesc p.payload).hwGen), credit := 0, done := 0, frames := [], fetches := [], bad := [], failed := false } : HwStream) ∧
    exec (.hwOpen i) s = .next (({ ((s.takePacket i p).rebindAll p.ctx 65536) with hws := ((s.takePacket i p).rebindAll p.ctx 65536).hws ++ [h] }.hwConfirm h 0).hwAfter h.port h.slot)) ∧
  (∀ (s : State) (i : Nat) (p : Packet), s.edgeGets i 0x20 p →
    ((s.takePacket i p).rebindAll p.ctx 65536).hwRefusal p.dcol p.ctx (parseDesc p.payload) (at' p.payload 0x16 2) true = none →
    ((s.takePacket i p).rebindAll p.ctx 65536).genVerdict p.ctx (parseDesc p.payload).hwLayer (parseDesc p.payload).hwGen = .held →
    ∃ h : HwStream, h = ({ port := (if p.dcol = 4 then 32 else 4 * hwChiplet p.dcol + nfld (if (parseDesc p.payload).dir = 0 then (parseDesc p.payload).up else (parseDesc p.payload).down) 28 3), slot := ((s.takePacket i p).rebindAll p.ctx 65536).freeSlot (if p.dcol = 4 then 32 else 4 * hwChiplet p.dcol + nfld (if (parseDesc p.payload).dir = 0 then (parseDesc p.payload).up else (parseDesc p.payload).down) 28 3), col := p.scol, row := p.srow, q := p.tag % 8, ctx := p.ctx, arm := p.arg % 256, desc := (parseDesc p.payload), first := 0, rearm := none, openP := p, held := true, heldRearm := false, claim := none, credit := 0, done := 0, frames := [], fetches := [], bad := [], failed := false } : HwStream) ∧
    exec (.hwOpen i) s = .next ({ ((s.takePacket i p).rebindAll p.ctx 65536) with hws := ((s.takePacket i p).rebindAll p.ctx 65536).hws ++ [h] }.hwAfter h.port h.slot)) ∧
  (∀ (s : State) (i : Nat) (p : Packet) (code : Nat), s.edgeGets i 0x20 p →
    ((s.takePacket i p).rebindAll p.ctx 65536).hwRefusal p.dcol p.ctx (parseDesc p.payload) (at' p.payload 0x16 2) true = some code →
    exec (.hwOpen i) s = .next ((((s.takePacket i p).rebindAll p.ctx 65536).hwStale p.ctx code).inject (p.answer 0x21 0 code [] false))) ∧
  (∀ (s : State) (i : Nat) (p : Packet) (h : HwStream), s.edgeGets i 0x22 p → (s.takePacket i p).hwOf p = some h →
    ∃ t, exec (.hwClose i) s = .next t ∧
    t.hws = (s.takePacket i p).hws.filter (fun (x : HwStream) => !(x.port == h.port && x.slot == h.slot)) ∧ t.grads = s.grads ∧
    t.rills = s.rills) ∧
  (∀ (s : State) (i : Nat) (p : Packet), s.edgeGets i 0x22 p → (s.takePacket i p).hwOf p = none →
    exec (.hwClose i) s = .next ((s.takePacket i p).inject (p.ack 0))) ∧
  (∀ (s : State) (i : Nat) (p : Packet) (h : HwStream), s.edgeGets i 0x23 p → ((s.takePacket i p).rebindAll p.ctx 65536).hwOf p = some h →
    exec (.hwRearm i) s = .next ((((s.takePacket i p).rebindAll p.ctx 65536).setHw { h with rearm := some (h.desc.rearm (parseDesc p.payload)) }).hwAfter h.port h.slot)) ∧
  (∀ (s : State) (i : Nat) (p : Packet) (h : HwStream) (r : HwRange) (x : Nat), s.edgeGets i 0x24 p →
    s.sendBuffer p.dcol + 2 * 8192 ≤ 16 * 2 ^ 20 → (s.takePacket i p).hwOf p = some h → p.poison = false →
    (s.takePacket i p).slotOfGen h.ctx h.desc.hwGen = some x →
    (s.takePacket i p).hwRange? h.ctx x true (p.addr % 65536) (p.addr / 65536 % 65536) = some r → p.addr / 2 ^ 32 + p.len ≤ r.length →
    exec (.hwSend i) s = .next (((((s.takePacket i p).gradTile h r (p.addr % 65536) p.arg (p.addr / 2 ^ 32) (p.payload.take p.len)).inject (p.ack 0)).setHw { h with done := h.done + 1 }).hwAfter h.port h.slot)) ∧
  (∀ (s : State) (i : Nat) (p : Packet) (h : HwStream) (r : HwRange) (x : Nat), s.edgeGets i 0x24 p →
    s.sendBuffer p.dcol + 2 * 8192 ≤ 16 * 2 ^ 20 → (s.takePacket i p).hwOf p = some h → p.poison = false →
    (s.takePacket i p).slotOfGen h.ctx h.desc.hwGen = some x →
    (s.takePacket i p).hwRange? h.ctx x true (p.addr % 65536) (p.addr / 65536 % 65536) = some r → r.length < p.addr / 2 ^ 32 + p.len →
    exec (.hwSend i) s = .next ((s.takePacket i p).inject (p.ack cShardRange))) ∧
  (∀ (s : State) (i : Nat) (p : Packet), s.edgeGets i 0x24 p → s.sendBuffer p.dcol + 2 * 8192 ≤ 16 * 2 ^ 20 →
    (s.takePacket i p).hwOf p = none → exec (.hwSend i) s = .next ((s.takePacket i p).inject (p.ack cMalformed))) ∧
  (∀ (s : State) (i : Nat) (p : Packet) (h : HwStream), s.edgeGets i 0x24 p → s.sendBuffer p.dcol + 2 * 8192 ≤ 16 * 2 ^ 20 →
    (s.takePacket i p).hwOf p = some h → p.poison → exec (.hwSend i) s = .next ((s.takePacket i p).inject (p.ack cRegionLost))) ∧
  (∀ (s : State) (i : Nat) (p : Packet), s.edgeGets i 0x24 p → 16 * 2 ^ 20 < s.sendBuffer p.dcol + 2 * 8192 → exec (.hwSend i) s = .next s) ∧
  (∀ (s : State) (port slot f : Nat) (l ask : List Nat) (h : HwStream) (r : HwRange), streamAt port slot →
    ((if port = 32 then s.ideOk h.ctx (r.object + 8256 * f) (8256 * ask.length) else s.isOn clsPort port) = true) → s.hw? port slot = some h →
    s.descRange h.ctx h.desc = some r → h.frames.length + h.want.length < 32 → h.failed = false → h.held = false → h.desc.dir = 0 →
    ((h.needFrames r h.needTiles).filter (fun j => !h.want.contains j && (look? h.frames j).isNone) = f :: l) →
    (((List.range (min 8 (min (32 - (h.frames.length + h.want.length)) (6144 - sumL ((s.hws.filter (fun x => portEndpoint x.port == portEndpoint port)).map (fun x => x.frames.length + x.want.length)))))).takeWhile (fun j => (f :: l).contains (f + j))).map (· + f) = ask) →
    ask ≠ [] →
    exec (.fetchIssue port slot) s = .next ((s.setHw { h with fetches := h.fetches ++ [⟨f, ask.length, ask, s.clk.now, 0⟩] }).hwRequest { h with fetches := h.fetches ++ [⟨f, ask.length, ask, s.clk.now, 0⟩] } r 1 ask)) ∧
  (∀ (s : State) (slot frame : Nat) (h : HwStream) (r : HwRange), s.hw? 32 slot = some h → s.ideOk h.ctx (r.object + 8256 * frame) 8256 →
    s.descRange h.ctx h.desc = some r → frame ∈ h.want → at' (readBytes s.host (r.object + 8256 * frame) 8256) 0 1 = 0x31 →
    at' (readBytes s.host (r.object + 8256 * frame) 8256) 1 1 = 2 →
    beNat (((readBytes s.host (r.object + 8256 * frame) 8256).drop 12).take 4) = h.desc.hwGen →
    beNat (((readBytes s.host (r.object + 8256 * frame) 8256).drop 16).take 8) = r.object →
    beNat (((readBytes s.host (r.object + 8256 * frame) 8256).drop 24).take 8) = frame →
    exec (.hostFetchReadDone slot frame) s = .next (s.hwFrame h frame (((readBytes s.host (r.object + 8256 * frame) 8256).drop 12).take 20) (((readBytes s.host (r.object + 8256 * frame) 8256).drop 32).take (beNat (((readBytes s.host (r.object + 8256 * frame) 8256).drop 10).take 2))))) ∧
  (∀ (s : State) (slot frame : Nat) (h : HwStream) (r : HwRange) (e : Fetch), s.hw? 32 slot = some h →
    s.ideOk h.ctx (r.object + 8256 * frame) 8256 → s.descRange h.ctx h.desc = some r → frame ∈ h.want →
    at' (readBytes s.host (r.object + 8256 * frame) 8256) 0 1 ≠ 0x31 → h.fetchAt? frame = some e →
    exec (.hostFetchReadDone slot frame) s = .next (s.hwRetry h e))

/-- DATA, END, GRAD_ACK, the retries, HOST_GRAD_WRITE_DONE and what is answered on the port. DATA for a frame that was asked for and that
authenticates is held once and asked for no longer; one that was not asked for changes no stream. END with status 0 asks again at once, 1 or 2
faults the queue, 3 delays the next RESEND, for the FETCH that its INDEX names (log 154); one of a status that R216 does not have is discarded and
counted (log 174). A datagram of no open request, of another form or with a wrong checksum is discarded and counted. GRAD_ACK releases exactly its
frame. A fetch or a gradient frame without an answer for RETRY_US is sent again, a fetch at most RETRY_MAX times. Gradient frames of the host
chiplet are released as their writes complete. ICMPv6 of the types that R214 names is answered, with a body that it leaves open (log 7), and
another one is discarded. Derived from 07_headwater R214, 07_headwater R216, 07_headwater R233, 07_headwater R234, 07_headwater R237, 07_headwater
R241. -/
def Obligations.HeadwaterDatagrams : Prop :=
  (∀ (s : State) (port : Nat) (d : Dgram) (h : HwStream) (r : HwRange) (x : Nat), port < 32 → s.isOn clsPort port →
    (s.feedUnit (portEndpoint port) 1 (port % 4) 0 (dgramGauged d)).udpOk port d → dgramOk d 2 →
    (s.feedUnit (portEndpoint port) 1 (port % 4) 0 (dgramGauged d)).openReq port d = some h → d.index ∈ h.want →
    look? h.frames d.index = none → (s.feedUnit (portEndpoint port) 1 (port % 4) 0 (dgramGauged d)).descRange h.ctx h.desc = some r →
    (s.feedUnit (portEndpoint port) 1 (port % 4) 0 (dgramGauged d)).slotOfGen h.ctx h.desc.hwGen = some x →
    exec (.data port d) s = .next (match gcmOpen (look [] (s.feedUnit (portEndpoint port) 1 (port % 4) 0 (dgramGauged d)).hwKeys (2 * h.ctx + x)) (beBytes 4 (r.nonce % 2 ^ 31) ++ beBytes 8 d.index) (dgramAad d) d.payload with | some pt => (((s.feedUnit (portEndpoint port) 1 (port % 4) 0 (dgramGauged d)).add64 (aPort h.port 0x128) 1).setHw { h.got d.index (s.feedUnit (portEndpoint port) 1 (port % 4) 0 (dgramGauged d)).clk.now with frames := put h.frames d.index pt, bad := rem h.bad d.index }).hwAfter h.port h.slot | none => if d.index ∈ h.bad then ((s.feedUnit (portEndpoint port) 1 (port % 4) 0 (dgramGauged d)).incSat (aPort h.port 0x130)).hwFault h cWeightAuthFail true else (((s.feedUnit (portEndpoint port) 1 (port % 4) 0 (dgramGauged d)).incSat (aPort h.port 0x130)).setHw { h with bad := ins h.bad d.index, fetches := updFirst (fun e => e.left.contains d.index) (fun e => { e with last := (s.feedUnit (portEndpoint port) 1 (port % 4) 0 (dgramGauged d)).clk.now }) h.fetches }).hwRequest h r 4 [d.index])) ∧
  (∀ (s : State) (port : Nat) (d : Dgram) (h : HwStream), port < 32 → s.isOn clsPort port →
    (s.feedUnit (portEndpoint port) 1 (port % 4) 0 (dgramGauged d)).udpOk port d → dgramOk d 2 →
    (s.feedUnit (portEndpoint port) 1 (port % 4) 0 (dgramGauged d)).openReq port d = some h → d.index ∉ h.want →
    exec (.data port d) s = .next (s.feedUnit (portEndpoint port) 1 (port % 4) 0 (dgramGauged d))) ∧
  (∀ (s : State) (port : Nat) (d : Dgram) (h : HwStream) (e : Fetch), port < 32 → s.isOn clsPort port →
    (s.feedUnit (portEndpoint port) 1 (port % 4) 0 (dgramGauged d)).udpOk port d → dgramOk d 3 →
    (s.feedUnit (portEndpoint port) 1 (port % 4) 0 (dgramGauged d)).openReq port d = some h → beNat (d.payload.take 4) = 0 →
    h.fetchAt? d.index = some e →
    exec (.endMsg port d) s = .next ((s.feedUnit (portEndpoint port) 1 (port % 4) 0 (dgramGauged d)).hwRetry h e)) ∧
  (∀ (s : State) (port : Nat) (d : Dgram) (h : HwStream), port < 32 → s.isOn clsPort port →
    (s.feedUnit (portEndpoint port) 1 (port % 4) 0 (dgramGauged d)).udpOk port d → dgramOk d 3 →
    (s.feedUnit (portEndpoint port) 1 (port % 4) 0 (dgramGauged d)).openReq port d = some h →
    (beNat (d.payload.take 4) = 1 ∨ beNat (d.payload.take 4) = 2) →
    exec (.endMsg port d) s = .next ((s.feedUnit (portEndpoint port) 1 (port % 4) 0 (dgramGauged d)).hwFault h cShardRange true)) ∧
  (∀ (s : State) (port : Nat) (d : Dgram) (h : HwStream) (e : Fetch), port < 32 → s.isOn clsPort port →
    (s.feedUnit (portEndpoint port) 1 (port % 4) 0 (dgramGauged d)).udpOk port d → dgramOk d 3 →
    (s.feedUnit (portEndpoint port) 1 (port % 4) 0 (dgramGauged d)).openReq port d = some h → beNat (d.payload.take 4) = 3 →
    h.fetchAt? d.index = some e →
    exec (.endMsg port d) s = .next ((s.feedUnit (portEndpoint port) 1 (port % 4) 0 (dgramGauged d)).setHw (h.modFetch (fun e => { e with last := (s.feedUnit (portEndpoint port) 1 (port % 4) 0 (dgramGauged d)).clk.now }) e))) ∧
  (∀ (s : State) (port : Nat) (d : Dgram) (h : HwStream), port < 32 → s.isOn clsPort port →
    (s.feedUnit (portEndpoint port) 1 (port % 4) 0 (dgramGauged d)).udpOk port d → dgramOk d 3 →
    (s.feedUnit (portEndpoint port) 1 (port % 4) 0 (dgramGauged d)).openReq port d = some h → 3 < beNat (d.payload.take 4) →
    exec (.endMsg port d) s = .next ((s.feedUnit (portEndpoint port) 1 (port % 4) 0 (dgramGauged d)).incSat (aPort port 0x144))) ∧
  (∀ (s : State) (port : Nat) (d : Dgram), port < 32 → s.isOn clsPort port →
    (s.feedUnit (portEndpoint port) 1 (port % 4) 0 (dgramGauged d)).openReq port d = none →
    exec (.data port d) s = .next ((s.feedUnit (portEndpoint port) 1 (port % 4) 0 (dgramGauged d)).incSat (aPort port 0x144)) ∧
    exec (.endMsg port d) s = .next ((s.feedUnit (portEndpoint port) 1 (port % 4) 0 (dgramGauged d)).incSat (aPort port 0x144))) ∧
  (∀ (s : State) (port : Nat) (d : Dgram), port < 32 → s.isOn clsPort port →
    ((s.feedUnit (portEndpoint port) 1 (port % 4) 0 (dgramGauged d)).udpOk port d && dgramOk d 2) = false →
    exec (.data port d) s = .next ((s.feedUnit (portEndpoint port) 1 (port % 4) 0 (dgramGauged d)).incSat (aPort port 0x144))) ∧
  (∀ (s : State) (port : Nat) (d : Dgram) (g : Grad), port < 32 → s.isOn clsPort port →
    (s.feedUnit (portEndpoint port) 1 (port % 4) 0 (dgramGauged d)).udpOk port d → dgramOk d 6 → d.payload.length = 16 →
    (s.grads.find? (fun g => g.sent && g.port == port && g.session == d.session && g.req == d.req && beNat ((d.payload.drop 0).take 8) == g.step && beNat ((d.payload.drop 8).take 4) == g.seq && beNat ((d.payload.drop 14).take 2) == g.rank) = some g) →
    exec (.gradAck port d) s = .next ({ (s.feedUnit (portEndpoint port) 1 (port % 4) 0 (dgramGauged d)) with grads := s.grads.filter (fun x => !sameGrad x g) }.add64 (aPort port 0x138) 1)) ∧
  (∀ (s : State) (port : Nat) (d : Dgram), port < 32 → s.isOn clsPort port → s.grads = [] →
    exec (.gradAck port d) s = .next ((s.feedUnit (portEndpoint port) 1 (port % 4) 0 (dgramGauged d)).incSat (aPort port 0x144))) ∧
  (∀ (s : State) (port slot now : Nat) (h : HwStream) (e : Fetch), streamAt port slot → s.hw? port slot = some h → h.failed = false →
    (h.fetches.find? (fun e => !inWindow (max now s.clk.now) e.last (s.retryNs port)) = some e) →
    exec (.fetchRetryTimeout port slot now) s = .next ((s.atTime now).hwRetry h e)) ∧
  (∀ (s : State) (port slot now : Nat) (r : HwRange) (h : HwStream) (e : Fetch), streamAt port slot → s.hw? port slot = some h →
    h.failed = false → (h.fetches.find? (fun e => !inWindow (max now s.clk.now) e.last (s.retryNs port)) = some e) →
    (s.atTime now).descRange h.ctx h.desc = some r → (s.atTime now).retryMax h.port ≤ e.attempts →
    exec (.fetchRetryTimeout port slot now) s = .next ((s.atTime now).hwFault h cDeadline true)) ∧
  (∀ (s : State) (n now : Nat) (g : Grad), s.grads[n]? = some g → g.sent → g.port ≠ 32 →
    inWindow (max now s.clk.now) g.last (s.retryNs g.port) = false → g.attempts + 1 ≠ (s.atTime now).retryMax g.port →
    exec (.gradRetryTimeout n now) s = .next ((((s.atTime now).setGrad { g with attempts := g.attempts + 1 }).incSat (aPort g.port 0x140)).gradSend { g with attempts := g.attempts + 1 })) ∧
  (∀ (s : State) (n now : Nat) (g : Grad), s.grads[n]? = some g → g.sent → g.port ≠ 32 →
    inWindow (max now s.clk.now) g.last (s.retryNs g.port) = false →
    g.attempts + 1 = (((s.atTime now).setGrad { g with attempts := g.attempts + 1 }).incSat (aPort g.port 0x140)).retryMax g.port →
    exec (.gradRetryTimeout n now) s = .next (((((s.atTime now).setGrad { g with attempts := g.attempts + 1 }).incSat (aPort g.port 0x140)).cairnLog 6 clsPort g.port cDeadline g.ctx [itPort g.port g.udp g.ip, itAddr g.object]).gradSend { g with attempts := g.attempts + 1 })) ∧
  (∀ (s : State) (n : Nat) (g : Grad), s.grads[n]? = some g → g.sent → g.port = 32 → s.ideOk g.ctx (g.object + 8256 * g.index) 8256 →
    ∃ t, exec (.hostGradWriteDone n) s = .next t ∧ t.grads = s.grads.filter (fun x => !sameGrad x g) ∧ t.hws = s.hws ∧ t.regs = s.regs ∧
    ∀ a, (a < g.object + 8256 * g.index ∨ g.object + 8256 * g.index + 8256 ≤ a) → memRead t.host a = memRead s.host a) ∧
  (∀ (s : State) (port : Nat) (body : List Byte), port < 32 → s.isOn clsPort port → 133 ≤ icmpType body → icmpType body ≤ 137 →
    exec (.neighbourDiscovery port body) s = .next (if Config.ndSolicits port body then s.emit (.icmp port (s.portTag port) (Config.icmpAnswer port body)) else s)) ∧
  (∀ (s : State) (port : Nat) (body : List Byte), port < 32 → s.isOn clsPort port → (icmpType body < 133 ∨ 137 < icmpType body) →
    exec (.neighbourDiscovery port body) s = .next (s.incSat (aPort port 0x144))) ∧
  (∀ (s : State) (port : Nat) (body : List Byte), port < 32 → s.isOn clsPort port → icmpType body = 128 →
    exec (.echoRequest port body) s = .next (s.emit (.icmp port (s.portTag port) (Config.icmpAnswer port body)))) ∧
  (∀ (s : State) (port : Nat) (body : List Byte), port < 32 → s.isOn clsPort port → icmpType body ≠ 128 →
    exec (.echoRequest port body) s = .next (s.incSat (aPort port 0x144)))

/-- Ports that come up, pause and go down; BIND, BIND_DONE, FRONT_GO and LAYER_REBIND. A pause of the configured priority is shown in HW_STATUS, and
its end sends what waited. A link that comes up no sooner than 50 ms after the port left ON gives an ON port with the next session count; a link
that fails moves its streams and faults the page. A manifest whose digest, tables and rank agree is bound with its GEN; any other is recorded and
is not. BIND and FRONT_GO act while the pages respond to the host; FRONT_GO counts only in a swap under MODE FOLLOW. The front layer is rebound
where no stream claims it under the old generation, the swap is not suspended and, for layer 0, its T_OPEN has come or FRONT_GO has been written;
the open operation of the swap reports it, a held open of the layer is confirmed and claims it, and after the last layer the swap is complete:
ACTIVE names the new slot and the old one is unbound. A link that fails faults the page (log 35); a pause that ends sends what waited (log 114).
Derived from 07_headwater R214, 07_headwater R215, 07_headwater R223, 07_headwater R235, 07_headwater R243, 07_headwater R244, 07_headwater R246,
07_headwater R247, 07_headwater R250, 16_startup R527. -/
def Obligations.HeadwaterPortsAndBindings : Prop :=
  (∀ (s : State) (port prio : Nat), port < 32 → s.isOn clsPort port → s.regB (aPort port 0x100) 0 → s.regF (aPort port 0x100) 1 3 = prio →
    exec (.pfcPause port prio true) s = .next (s.setB (aPort port 0x104) 2 true)) ∧
  (∀ (s : State) (port prio : Nat), port < 32 → s.isOn clsPort port → s.regB (aPort port 0x100) 0 → s.regF (aPort port 0x100) 1 3 = prio →
    exec (.pfcPause port prio false) s = .next ((s.setB (aPort port 0x104) 2 false).hwResume port)) ∧
  (∀ (s : State) (port now : Nat), port < 32 → s.isOn clsPort port →
    exec (.headwaterLinkDown port now) s = .next (((s.atTime now).pageFault clsPort port id).portLeave port)) ∧
  (∀ (s : State) (port now : Nat), port < 32 → s.pst clsPort port = stStarting → s.regB (aPort port 0x104) 1 → s.stage = 4 →
    ((match look? s.portLeft port with | some t => !inWindow (max now s.clk.now) t 50000000 | none => true) = true) →
    exec (.headwaterPortUp port now) s = .next ((((s.atTime now).setB (aPort port 0x104) 0 true).incWrap (rg clsPort port 0x024)).startDone clsPort port (fun s => s.portAtStop port))) ∧
  (∀ (s : State) (port now t : Nat), port < 32 → look? s.portLeft port = some t → inWindow (max now s.clk.now) t 50000000 →
    exec (.headwaterPortUp port now) s = .next s) ∧
  (∀ (s : State) (ctx slot : Nat), ctx < 17 → slot < 2 → s.served → bitOf (s.reg (aPt ctx 0)) 1 →
    exec (.bind ctx slot) s = .next { s with hwBinding := ins s.hwBinding (2 * ctx + slot) }) ∧
  (∀ (s : State) (ctx slot : Nat) (m : List Byte), ctx < 17 → slot < 2 → 2 * ctx + slot ∈ s.hwBinding →
    (({ s with hwBinding := rem s.hwBinding (2 * ctx + slot) } : State).readMan ctx slot).1 = some m →
    ∃ u, exec (.bindDone ctx slot) s = .next u ∧
    (if manTablesOk m ∧ manDigestOk m ∧ (({ s with hwBinding := rem s.hwBinding (2 * ctx + slot) } : State).readMan ctx slot).2.hwRank ctx < at' m 0x10 2 then u.manOk ctx slot = true ∧ u.genOf ctx slot = at' m 8 4 % 2 ^ 32 ∧ u.man ctx slot = m else u.manOk ctx slot = false ∧ u.man ctx slot = []) ∧
    u.hwKeys = s.hwKeys ∧ u.rills = s.rills) ∧
  (∀ (s t : State) (ctx slot : Nat) (m : List Byte), ctx < 17 → slot < 2 → 2 * ctx + slot ∈ s.hwBinding →
    (({ s with hwBinding := rem s.hwBinding (2 * ctx + slot) } : State).readMan ctx slot).1 = some m →
    t = (({ s with hwBinding := rem s.hwBinding (2 * ctx + slot) } : State).readMan ctx slot).2 →
    (¬ (manTablesOk m ∧ manDigestOk m ∧ t.hwRank ctx < at' m 0x10 2)) →
    exec (.bindDone ctx slot) s = .next (({ t with hwMan := del t.hwMan (2 * ctx + slot) }.setB (aHwc ctx 4) (2 * slot) false).cairnLog 4 clsPort 0 cMalformed ctx [])) ∧
  (∀ (s t : State) (ctx slot : Nat), ctx < 17 → slot < 2 → 2 * ctx + slot ∈ s.hwBinding →
    ({ s with hwBinding := rem s.hwBinding (2 * ctx + slot) } : State).readMan ctx slot = (none, t) →
    ∃ u, exec (.bindDone ctx slot) s = .next u ∧ u.hwMan = del t.hwMan (2 * ctx + slot) ∧ 2 * ctx + slot ∉ u.hwBinding ∧
    u = ({ t with hwMan := del t.hwMan (2 * ctx + slot) }.setB (aHwc ctx 4) (2 * slot) false).cairnLog 4 clsPort 0 cMalformed ctx []) ∧
  (∀ (s : State) (ctx : Nat), ctx < 17 → s.served → s.hwSwap ctx ≠ 0 → s.regB (aHwc ctx 4) 7 →
    exec (.frontGo ctx) s = .next { s with frontGo := ins s.frontGo ctx }) ∧
  (∀ (s : State) (ctx : Nat), ctx < 17 → (s.hwSwap ctx = 0 ∨ s.regB (aHwc ctx 4) 7 = false) → exec (.frontGo ctx) s = .next s) ∧
  (∀ (s t : State) (ctx now : Nat) (o : LongOp), ctx < 17 → t = (s.atTime now).utcApply → t.opensLater ctx = false → t.rstate ctx = 0 →
    t.swapOp ctx = some o → o.state ≠ 1 → o.state ≠ 2 →
    (∀ h ∈ t.hws, h.ctx = ctx → h.claim ≠ some (t.hwFront ctx, t.genOf ctx (t.hwActive ctx))) → t.hwSwap ctx = 2 → t.hwFront ctx ≠ 0 →
    exec (.layerRebind ctx now) s = .next (t.rebind ctx)) ∧
  (∀ (s t : State) (ctx now : Nat) (o : LongOp), ctx < 17 → t = (s.atTime now).utcApply → t.opensLater ctx = false → t.rstate ctx = 0 →
    t.swapOp ctx = some o → o.state ≠ 1 → o.state ≠ 2 →
    (∀ h ∈ t.hws, h.ctx = ctx → h.claim ≠ some (t.hwFront ctx, t.genOf ctx (t.hwActive ctx))) → t.hwSwap ctx = 1 → t.hwFront ctx = 0 →
    (if t.regB (aHwc ctx 4) 7 then ctx ∈ t.frontGo else t.reg64 (aHwc ctx 0x20) ≤ grain t.clk.now) →
    exec (.layerRebind ctx now) s = .next (t.rebind ctx)) ∧
  (∀ (s t : State) (ctx now : Nat), ctx < 17 → t = (s.atTime now).utcApply → t.hwFront ctx = 0 →
    (if t.regB (aHwc ctx 4) 7 then ctx ∉ t.frontGo else grain t.clk.now < t.reg64 (aHwc ctx 0x20)) → exec (.layerRebind ctx now) s = .next s) ∧
  (∀ (s t : State) (ctx now : Nat) (o : LongOp), ctx < 17 → t = (s.atTime now).utcApply → t.swapOp ctx = some o →
    (o.state = 1 ∨ o.state = 2) → exec (.layerRebind ctx now) s = .next s) ∧
  (∀ (s t : State) (ctx now : Nat) (h : HwStream), ctx < 17 → t = (s.atTime now).utcApply → h ∈ t.hws → h.ctx = ctx →
    h.claim = some (t.hwFront ctx, t.genOf ctx (t.hwActive ctx)) → exec (.layerRebind ctx now) s = .next s) ∧
  (∀ (s : State) (ctx : Nat), ctx < 17 → s.hwFront ctx + 1 < 65536 → (s.frontMoved ctx).hwFront ctx = s.hwFront ctx + 1 ∧
    (s.frontMoved ctx).hwSwap ctx = 2 ∧ (s.frontMoved ctx).hwActive ctx = s.hwActive ctx ∧ (s.frontMoved ctx).hws = s.hws) ∧
  (∀ (s t : State) (ctx : Nat) (o : LongOp), (∀ h ∈ s.hws, h.ctx = ctx → h.held = false ∧ h.heldRearm = false) →
    t = (s.frontMoved ctx).hwcSync ctx → t.swapOp ctx = some o →
    s.hwFront ctx + 1 < (t.rebindTold ctx o (s.hwFront ctx)).hwLayers ctx (1 - (t.rebindTold ctx o (s.hwFront ctx)).hwActive ctx) →
    s.rebind ctx = ((t.rebindTold ctx o (s.hwFront ctx)).hwRest ctx).hwcSync ctx) ∧
  (∀ (s t : State) (ctx : Nat) (o : LongOp), (∀ h ∈ s.hws, h.ctx = ctx → h.held = false ∧ h.heldRearm = false) →
    t = (s.frontMoved ctx).hwcSync ctx → t.swapOp ctx = some o →
    (t.rebindTold ctx o (s.hwFront ctx)).hwLayers ctx (1 - (t.rebindTold ctx o (s.hwFront ctx)).hwActive ctx) ≤ s.hwFront ctx + 1 →
    s.rebind ctx = (((t.rebindTold ctx o (s.hwFront ctx)).swapComplete ctx).hwRest ctx).hwcSync ctx) ∧
  (∀ (s t : State) (ctx : Nat) (o : LongOp) (h : HwStream), (s.hws.filter (fun x => x.ctx == ctx) = [h]) → h.held →
    h.desc.hwLayer = s.hwFront ctx →
    t = ((((s.frontMoved ctx).setHw { h with held := false, claim := some (s.hwFront ctx, h.desc.hwGen) }).hwConfirm h 0).hwAfter h.port h.slot).hwcSync ctx →
    t.swapOp ctx = some o →
    s.hwFront ctx + 1 < (t.rebindTold ctx o (s.hwFront ctx)).hwLayers ctx (1 - (t.rebindTold ctx o (s.hwFront ctx)).hwActive ctx) →
    s.rebind ctx = ((t.rebindTold ctx o (s.hwFront ctx)).hwRest ctx).hwcSync ctx) ∧
  (∀ (s : State) (ctx : Nat), ctx < 17 → s.hwSwap ctx = 2 →
    ∃ u : State, (s.swapComplete ctx = u ∨ ∃ h c x, s.swapComplete ctx = u.endLong ctx h c x) ∧ u.hwActive ctx = 1 - s.hwActive ctx ∧
    u.hwSwap ctx = 0 ∧ u.manOk ctx (s.hwActive ctx) = false ∧ u.keyOk ctx (s.hwActive ctx) = false ∧ ctx ∉ u.frontGo)

/-- EZ_OPEN, EZ_CLOSE, EZ_REARM, EZ_SEND, EZ_CONTRIB, P2P and P2P_GRANT. An open that R305 and R338 allow joins the streams of its endpoint in place
of one of the same queue and is confirmed with 0; a refused one carries its code and leaves the streams as they are. A close takes the stream
away. A tile below the peer's limit goes out and is acknowledged; one above it waits. A re-arm waits for the arm to end, unchecked until then (log
52). A contribution that rises and fits joins the input of the operation it names, whatever else the context runs; one for no open operation, or
whose offset does not rise, is answered CMD_MALFORMED, and bytes that come twice fail the operation (log 49). A tile of the peer becomes an SPUSH
with ferry count 0; a wrong length faults the queue. A grant of the peer raises the limit, and tiles that waited go out below it; one for no open
stream is kept (log 48). A packet that its CHK shows wrong fails its post or context. Derived from 09_eztex_collectives R305, 09_eztex_collectives
R306, 09_eztex_collectives R307, 10_confluence R338, 10_confluence R339. -/
def Obligations.EztexStreams : Prop :=
  (∀ (s : State) (i : Nat) (p : Packet), s.edgeGets i 0x30 p →
    (s.takePacket i p).ezRefusal ({ ep := p.dcol, col := p.scol, row := p.srow, q := p.tag % 8, ctx := p.ctx, arm := p.arg % 256, desc := parseDesc p.payload, first := 0, rearm := none, lastOff := none, buf := [], limit := 0, bytes := 0, tiles := 0, granted := 0 } : EzStream) (at' p.payload 0x16 2) = 0 →
    s.early = [] →
    exec (.ezOpen i) s = .next (({ (s.takePacket i p) with ezs := (s.takePacket i p).ezs.filter (fun (x : EzStream) => !x.same ({ ep := p.dcol, col := p.scol, row := p.srow, q := p.tag % 8, ctx := p.ctx, arm := p.arg % 256, desc := parseDesc p.payload, first := 0, rearm := none, lastOff := none, buf := [], limit := 0, bytes := 0, tiles := 0, granted := 0 } : EzStream)) ++ [({ ep := p.dcol, col := p.scol, row := p.srow, q := p.tag % 8, ctx := p.ctx, arm := p.arg % 256, desc := parseDesc p.payload, first := 0, rearm := none, lastOff := none, buf := [], limit := 0, bytes := 0, tiles := 0, granted := 0 } : EzStream)] } : State).inject (p.answer 0x31 0 0 [] false))) ∧
  (∀ (s : State) (i : Nat) (p : Packet), s.edgeGets i 0x30 p →
    (s.takePacket i p).ezRefusal ({ ep := p.dcol, col := p.scol, row := p.srow, q := p.tag % 8, ctx := p.ctx, arm := p.arg % 256, desc := parseDesc p.payload, first := 0, rearm := none, lastOff := none, buf := [], limit := 0, bytes := 0, tiles := 0, granted := 0 } : EzStream) (at' p.payload 0x16 2) ≠ 0 →
    ∃ t, exec (.ezOpen i) s = .next t ∧ t.ezs = s.ezs ∧
    t = (s.takePacket i p).inject (p.answer 0x31 0 ((s.takePacket i p).ezRefusal ({ ep := p.dcol, col := p.scol, row := p.srow, q := p.tag % 8, ctx := p.ctx, arm := p.arg % 256, desc := parseDesc p.payload, first := 0, rearm := none, lastOff := none, buf := [], limit := 0, bytes := 0, tiles := 0, granted := 0 } : EzStream) (at' p.payload 0x16 2)) [] false)) ∧
  (∀ (s : State) (i : Nat) (p : Packet) (e : EzStream), s.edgeGets i 0x32 p → (s.takePacket i p).ezOf p = some e →
    ∃ t, exec (.ezClose i) s = .next t ∧ t.ezs = s.ezs.filter (fun (x : EzStream) => !x.same e) ∧ t.rills = s.rills ∧ t.hws = s.hws) ∧
  (∀ (s : State) (i : Nat) (p : Packet) (e : EzStream), s.edgeGets i 0x33 p → (s.takePacket i p).ezOf p = some e → e.desc.dir = 1 →
    exec (.ezRearm i) s = .next ((s.takePacket i p).setEz { e with rearm := some (e.desc.rearm (parseDesc p.payload)) })) ∧
  (∀ (s : State) (i : Nat) (p : Packet) (e : EzStream), s.edgeGets i 0x33 p → (s.takePacket i p).ezOf p = some e → e.desc.dir = 0 →
    exec (.ezRearm i) s = .next ((s.takePacket i p).ezInTakeUp { e with rearm := some (e.desc.rearm (parseDesc p.payload)) })) ∧
  (∀ (s : State) (i : Nat) (p : Packet) (e : EzStream) (j : Nat), s.edgeGets i 0x35 p → (s.takePacket i p).ezOf p = some e → e.rearm = none →
    e.desc.dir = 1 → e.desc.p2p → e.buf = [] → (s.takePacket i p).jobOf e.ctx = some j → e.bytes + p.len ≤ e.limit →
    exec (.ezSend i) s = .next (((((s.takePacket i p).setEz { e with tiles := e.tiles + 1, buf := [p] }).wireTo j (nfld p.arg 16 14) { (s.takePacket i p).wireBlank j with type := 5, group := nfld p.arg 32 8, seq := e.arm, offset := p.addr, arg := e.tiles, poison := p.poison, payload := p.payload.take p.len }).inject (p.ack 0)).setEz { e with tiles := e.tiles + 1, buf := [], bytes := e.bytes + p.len })) ∧
  (∀ (s : State) (i : Nat) (p : Packet) (e : EzStream) (j : Nat), s.edgeGets i 0x35 p → (s.takePacket i p).ezOf p = some e → e.rearm = none →
    e.desc.dir = 1 → e.desc.p2p → e.buf = [] → (s.takePacket i p).jobOf e.ctx = some j → e.limit < e.bytes + p.len →
    ∃ t, exec (.ezSend i) s = .next t ∧ t.net = (s.takePacket i p).net ∧ t.out = (s.takePacket i p).out ∧ t.links = s.links) ∧
  (∀ (s : State) (i : Nat) (p : Packet) (e : EzStream) (o : Op) (ck : Option Upset), s.edgeGets i 0x34 p →
    (s.takePacket i p).ezOf p = some e → e.rearm = none → (∀ x, e.lastOff = some x → x < p.addr) →
    ((s.seqr p.ctx).ops.find? (fun o => o.opn % 2 ^ 32 == p.arg % 2 ^ 32) = some o) → (s.takePacket i p).contribOk o p → p.poison = false →
    (meetsRange o.cin (if (s.takePacket i p).doneInput o ∨ o.reduces then reachOf p.scol p.srow else 63) p.addr p.len = false) →
    ((s.takePacket i p).doneInput o → ∀ x ∈ o.cin, x.1 ≠ reachOf p.scol p.srow) →
    exec (.ezContrib i ck) s = .next (((s.takePacket i p).setEz { e with lastOff := some p.addr, tiles := e.tiles + 1 }).postInput p.ctx o { o with cin := o.cin ++ [((if (s.takePacket i p).doneInput o ∨ o.reduces then reachOf p.scol p.srow else 63), p.addr, p.len)], inp := writeBytes o.inp ((if (s.takePacket i p).doneInput o ∨ o.reduces then reachOf p.scol p.srow else 63) * 2 ^ 33 + p.addr) (padTo p.len (p.payload.take p.len)), unconsumed := o.unconsumed ++ [p] } ck)) ∧
  (∀ (s : State) (i : Nat) (p : Packet) (e : EzStream) (ck : Option Upset), s.edgeGets i 0x34 p → (s.takePacket i p).ezOf p = some e →
    e.rearm = none → ((s.seqr p.ctx).ops.find? (fun o => o.opn % 2 ^ 32 == p.arg % 2 ^ 32) = none) →
    exec (.ezContrib i ck) s = .next (((s.takePacket i p).setEz { e with lastOff := some p.addr, tiles := e.tiles + 1 }).inject (p.ack cMalformed))) ∧
  (∀ (s : State) (i : Nat) (p : Packet) (e : EzStream) (o : Op) (ck : Option Upset), s.edgeGets i 0x34 p →
    (s.takePacket i p).ezOf p = some e → e.rearm = none → (∀ x, e.lastOff = some x → x < p.addr) →
    ((s.seqr p.ctx).ops.find? (fun o => o.opn % 2 ^ 32 == p.arg % 2 ^ 32) = some o) → (s.takePacket i p).contribOk o p → p.poison = false →
    (meetsRange o.cin (if (s.takePacket i p).doneInput o ∨ o.reduces then reachOf p.scol p.srow else 63) p.addr p.len) →
    exec (.ezContrib i ck) s = .next ((((s.takePacket i p).setEz { e with lastOff := some p.addr, tiles := e.tiles + 1 }).inject (p.ack 0)).failOp p.ctx o.opn cMalformed false false)) ∧
  (∀ (s : State) (i : Nat) (p : Packet) (e : EzStream) (x : Nat), s.edgeGets i 0x34 p → (s.takePacket i p).ezOf p = some e → e.rearm = none →
    e.lastOff = some x → p.addr ≤ x → ∃ t, exec (.ezContrib i none) s = .next t ∧ t.seqrs = s.seqrs ∧ t.stack = s.stack) ∧
  (∀ (s : State) (i : Nat) (r : RxPkt) (e : EzStream) (c : Nat), s.wireAt? i 5 = some r → (s.wireTake i r).jobCtx r.pkt = some c →
    s.chkBad r = false →
    ((s.wireTake i r).ezs.find? (fun e => e.ctx == c && e.desc.p2p && e.desc.dir == 0 && e.desc.peer == r.pkt.srcRank && e.desc.chan == r.pkt.group) = some e) →
    e.rearm = none → r.pkt.len = e.desc.tileLen →
    exec (.p2p i) s = .next (((s.wireTake i r).inject { Packet.blank with srcEdge := true, scol := e.ep, dcol := e.col, drow := e.row, kind := 0x15, poison := r.pkt.poison, len := r.pkt.len, payload := r.pkt.payload.take r.pkt.len, tag := streamTag e.q r.pkt.arg, ctx := c, epoch := (s.wireTake i r).rillEpoch c, arg := 256 * (e.arm % 256) }).ezInTakeUp { e with tiles := e.tiles + 1 })) ∧
  (∀ (s : State) (i : Nat) (r : RxPkt) (e : EzStream) (c : Nat), s.wireAt? i 5 = some r → (s.wireTake i r).jobCtx r.pkt = some c →
    s.chkBad r = false →
    ((s.wireTake i r).ezs.find? (fun e => e.ctx == c && e.desc.p2p && e.desc.dir == 0 && e.desc.peer == r.pkt.srcRank && e.desc.chan == r.pkt.group) = some e) →
    r.pkt.len ≠ e.desc.tileLen → exec (.p2p i) s = .next ((s.wireTake i r).ezConfirm e cMalformed)) ∧
  (∀ (s : State) (i : Nat) (r : RxPkt) (e : EzStream), s.wireAt? i 6 = some r →
    ((s.wireTake i r).ezs.find? (fun e => (s.wireTake i r).grantFor e r.pkt) = some e) →
    exec (.p2pGrant i) s = .next (((s.wireTake i r).setEz (e.grant r.pkt)).ezDrain (e.grant r.pkt) e.buf)) ∧
  (∀ (s : State) (i : Nat) (r : RxPkt), s.wireAt? i 5 = some r → s.chkBad r → exec (.p2p i) s = .next ((s.wireTake i r).chkFail r.pkt)) ∧
  (∀ (s : State) (i : Nat) (r : RxPkt), s.wireAt? i 6 = some r →
    ((s.wireTake i r).ezs.find? (fun e => (s.wireTake i r).grantFor e r.pkt) = none) → s.early = [] → ∃ t, exec (.p2pGrant i) s = .next t ∧
    t.early = [r.pkt] ∧ t.ezs = s.ezs)

/-- Codewords and link-control flits of a link that is up. A codeword that the RS code of R294 cannot correct (more than 15 wrong symbols), or that is
not the next, is answered by a NAK and changes no input; the next one is taken in, its flits joining those of a packet that is not whole, its
whole packets and its control flits waiting to be taken, and the thirty-second since the last is acknowledged. The control flit at the front gives
its credits and acknowledges (that every type does is log 45). A NAK sends every codeword after the one named again, and a codeword already sent
again 16 times faults the link. A link whose codewords are all acknowledged stops; a link that goes down faults. That control flits wait for IDLE,
ACK_CREDIT and NAK, and the form of codewords that R294 leaves open, are log 24. Derived from 09_eztex_collectives R294, 09_eztex_collectives
R298, 09_eztex_collectives R299, 09_eztex_collectives R301. -/
def Obligations.EztexLinks : Prop :=
  (∀ (s : State) (link : Nat) (lanes : Lanes) (cw : Codeword) (n : Nat) (rest : List (List Byte)), link < 76 → lanesOk lanes →
    s.linkUp link → codewordIn lanes = some (cw, n) → cw.seq = ((s.link link).last + 1) % 1024 →
    wholePackets ((s.link link).rxFlits ++ pickFlits cw false).length ((s.link link).rxFlits ++ pickFlits cw false) = ([], rest) →
    (s.link link).sinceAck < 31 → ∃ t, exec (.codewordReceive link lanes) s = .next t ∧ (t.link link).rxLast = some cw.seq ∧
    (t.link link).sinceAck = (s.link link).sinceAck + 1 ∧ (t.link link).rxFlits = rest ∧
    (t.link link).lcIn = (s.link link).lcIn ++ (((pickFlits cw true).filterMap lcFlitOf).filter (fun f => decide (f.type < 3))) ∧
    t.rx = s.rx ∧ t.out = s.out) ∧
  (∀ (s : State) (link : Nat) (lanes : Lanes) (cw : Codeword) (n : Nat) (rest : List (List Byte)) (p : WirePkt), link < 76 → lanesOk lanes →
    s.linkUp link → codewordIn lanes = some (cw, n) → cw.seq = ((s.link link).last + 1) % 1024 →
    wholePackets ((s.link link).rxFlits ++ pickFlits cw false).length ((s.link link).rxFlits ++ pickFlits cw false) = ([(p, true)], rest) →
    (s.link link).sinceAck < 31 → p.type = 1 → p.epoch = (s.link link).peerEpoch → p.dstTwin → linkDir link ≠ 6 →
    ∃ t, exec (.codewordReceive link lanes) s = .next t ∧ t.rx = s.rx ++ [(⟨link, p, true⟩ : RxPkt)] ∧ t.keys = s.keys ∧
    (t.link link).rxFlits = rest) ∧
  (∀ (s : State) (link : Nat) (lanes : Lanes) (cw : Codeword) (n : Nat) (rest : List (List Byte)), link < 76 → lanesOk lanes →
    s.linkUp link → codewordIn lanes = some (cw, n) → cw.seq = ((s.link link).last + 1) % 1024 →
    wholePackets ((s.link link).rxFlits ++ pickFlits cw false).length ((s.link link).rxFlits ++ pickFlits cw false) = ([], rest) →
    (s.link link).sinceAck = 31 → (s.link link).wait = [] → (s.link link).lcOut = [] → (s.link link).unacked.length < 512 →
    ∃ t, exec (.codewordReceive link lanes) s = .next t ∧ (t.link link).sinceAck = 0 ∧ (t.link link).lcOut = [] ∧ t.rx = s.rx ∧
    t.out.length = s.out.length + 1) ∧
  (∀ (s : State) (link : Nat) (lanes : Lanes), link < 76 → lanesOk lanes → s.linkUp link → codewordIn lanes = none →
    exec (.codewordReceive link lanes) s = .next ((s.incSat (aLink link 0x128)).sendLc link 2)) ∧
  (∀ (s : State) (link : Nat) (lanes : Lanes) (cw : Codeword) (n : Nat), link < 76 → lanesOk lanes → s.linkUp link →
    codewordIn lanes = some (cw, n) → cw.seq ≠ ((s.link link).last + 1) % 1024 →
    exec (.codewordReceive link lanes) s = .next ((s.add64 (aLink link 0x120) n).sendLc link 2)) ∧
  (∀ (s : State) (link : Nat) (f : LcFlit), link < 76 → s.lcFront link 0 = some f → exec (.idle link) s = .next (s.lcTake link f)) ∧
  (∀ (s : State) (link : Nat) (f : LcFlit), link < 76 → s.lcFront link 1 = some f → exec (.ackCredit link) s = .next (s.lcTake link f)) ∧
  (∀ (s : State) (link : Nat), link < 76 → (s.link link).lcIn = [] → exec (.idle link) s = .next s ∧ exec (.ackCredit link) s = .next s ∧
    exec (.nak link) s = .next s) ∧
  (∀ (s : State) (link : Nat) (f : LcFlit), link < 76 → s.lcFront link 1 = some f → (s.link link).wait = [] → (s.link link).lcOut = [] →
    ∃ t, exec (.ackCredit link) s = .next t ∧
    (t.link link).credit = (List.range 6).map (fun b => (bufSizes.getD b 0 + f.credits.getD b 0) % 65536) ∧
    (t.link link).unacked = ((s.link link).acked f.last).unacked ∧ (t.link link).lcIn = (s.link link).lcIn.drop 1 ∧ t.out = s.out) ∧
  (∀ (s : State) (link : Nat) (f : LcFlit), link < 76 → s.lcFront link 2 = some f → (s.link link).wait = [] → (s.link link).lcOut = [] →
    (∀ e ∈ (s.link link).unacked, e.resent < 16) → (∀ e ∈ (s.link link).unacked, e.cw.seq ≠ f.last) → ∃ t, exec (.nak link) s = .next t ∧
    (t.link link).unacked = (s.link link).unacked.map (fun (e : TxWord) => { e with resent := e.resent + 1 }) ∧
    t.out = s.out ++ (s.link link).unacked.map (fun (e : TxWord) => OutMsg.codeword link (cwLanes e.cw))) ∧
  (∀ (s : State) (link : Nat) (f : LcFlit) (e : TxWord), link < 76 → s.lcFront link 2 = some f → e ∈ ((s.link link).acked f.last).unacked →
    16 ≤ e.resent → exec (.nak link) s = .next ((s.lcTake link f).linkFault link 7)) ∧
  (∀ (s : State) (link : Nat), link < 76 → s.pst clsLink link = stStopping → (s.link link).unacked = [] →
    exec (.linkStopDone link) s = .next (((s.claimGauges link false).linkLeave link).stopDone clsLink link (fun s => s.linkAtStart link))) ∧
  (∀ (s : State) (link : Nat), link < 76 → (s.link link).unacked ≠ [] → exec (.linkStopDone link) s = .next s) ∧
  (∀ (s : State) (link : Nat), link < 76 → s.linkUp link → exec (.eztexLinkDown link) s = .next (s.linkFault link 7))

/-- TRAIN, the end of training, transit and the keys of packets. From READY on (log 160) a STARTING link takes a TRAIN flit that R297 accepts and
faults with the reason for one that it does not. An accepted link starts its buffers afresh, counts its EPOCH and becomes ON; a step that takes
too long faults it with the reason of the step, which for step 4 is one of those that R296 gives and that can be on the link (log 46). A packet
not at its destination leaves its input and goes on, unless its CHK is wrong (R327); one that is stays. Keys whose 2 s have passed are forgotten,
and no others. Derived from 09_eztex_collectives R296, 09_eztex_collectives R297, 09_eztex_collectives R301, 09_eztex_collectives R302,
09_eztex_collectives R309, 09_eztex_collectives R327. -/
def Obligations.EztexTrainingAndTransit : Prop :=
  (∀ (s : State) (link : Nat) (f : TrainFlit), link < 76 → f.crcOk → s.pst clsLink link = stStarting → s.stage = 4 →
    s.trainReason link f = 0 → ∃ t, exec (.train link f) s = .next t ∧
    t.link link = { s.link link with peerEpoch := f.epoch, accepted := true } ∧ t.pst clsLink link = stStarting ∧
    t.regB (aLink link 0x104) 8 = f.z2) ∧
  (∀ (s : State) (link : Nat) (f : TrainFlit), link < 76 → f.crcOk → s.pst clsLink link = stStarting → s.stage = 4 →
    s.trainReason link f ≠ 0 → exec (.train link f) s = .next (s.linkFault link (s.trainReason link f))) ∧
  (∀ (s : State) (link : Nat) (now : Nat), link < 76 → s.pst clsLink link = stStarting → (s.link link).accepted → s.stage = 4 →
    s.wireHold = [] → s.pendOff clsLink link = false → s.regB (aLink link 0x100) 0 = false →
    inWindow (max now s.clk.now) (s.link link).startAt (sumL trainLimits) → ∃ t, exec (.linkTrainingDone link now) s = .next t ∧
    t.pst clsLink link = stOn ∧ t.regN (aLink link 0x024) = (s.regN (aLink link 0x024) + 1) % 2 ^ 32 ∧
    t.link link = { LinkSt.init with credit := bufSizes, peerEpoch := (s.link link).peerEpoch, accepted := true }) ∧
  (∀ (s : State) (link : Nat) (step now : Nat), link < 76 → s.pst clsLink link = stStarting → 1 ≤ step → step ≤ 3 → s.stage = 4 →
    (s.link link).accepted = false → inWindow (max now s.clk.now) (s.link link).startAt (trainLimits.getD (step - 1) 0) = false →
    exec (.linkTrainingTimeout link step now) s = .next ((s.atTime now).linkFault link step)) ∧
  (∀ (s : State) (link : Nat) (now : Nat), link < 76 → s.pst clsLink link = stStarting → s.stage = 4 → (s.link link).accepted = false →
    inWindow (max now s.clk.now) (s.link link).startAt 1000000 = false →
    ∃ w ∈ s.step4Reasons link, exec (.linkTrainingTimeout link 4 now) s = .next ((s.atTime now).draw64.2.linkFault link w)) ∧
  (∀ (s : State) (i : Nat) (r : RxPkt), s.rxAt i = some r → s.isHere r.link r.pkt = false → s.chkBad r = false →
    exec (.wirePacketForward i) s = .next ((s.wireTake i r).wireOut r.pkt (if linkDir r.link = 6 then none else some (if linkDir r.link % 2 = 0 then linkDir r.link + 1 else linkDir r.link - 1)))) ∧
  (∀ (s : State) (i : Nat) (r : RxPkt), s.rxAt i = some r → s.isHere r.link r.pkt = false → s.chkBad r →
    exec (.wirePacketForward i) s = .next ((s.wireTake i r).chkFail r.pkt)) ∧
  (∀ (s : State) (i : Nat) (r : RxPkt), s.rxAt i = some r → s.isHere r.link r.pkt → exec (.wirePacketForward i) s = .next s) ∧
  (∀ (s : State) (now : Nat) (k : List Nat) (x : Nat), (k, some x) ∈ s.keys → reached (max now s.clk.now) x →
    ∃ t, exec (.keyRetentionExpiry now) s = .next t ∧ (∀ e ∈ t.keys, e ∈ s.keys ∧ ∀ y, e.2 = some y → reached (max now s.clk.now) y = false) ∧
    (∀ e ∈ s.keys, e.2 = none → e ∈ t.keys) ∧ t.rx = s.rx)

/-- GRANT, CHUNK, COUNT, ABORT, DIGEST and CBAR. A packet of an admitted post with the right SIG is taken in: a GRANT sets the member's limit, a CHUNK
adds its bytes or, with LEN 0, marks the member done, a DIGEST is compared, and the post goes on. A wrong SIG fails the collective with
COLL_MISMATCH, a poisoned chunk with COLL_CHECK_FAIL, an ABORT with its code. A GRANT for a post to come waits (log 48), and a chunk or a digest
for a post that has ended counts as a copy (a digest that comes late has arrived all the same, log 175). An ABORT for a complete post poisons what
it wrote and counts a lost member once. An arrival at the commit or the replay barrier is noted, and an outcome learnt; a wrong SIG, or an ABORT
for no open post, fails the context, or joins the hold while the rebuild list runs. Derived from 09_eztex_collectives R317, 09_eztex_collectives
R318, 09_eztex_collectives R319, 09_eztex_collectives R322, 10_confluence R353, 10_confluence R357, 11_resilience R380. -/
def Obligations.PostsOfCollectives : Prop :=
  (∀ (s : State) (i : Nat) (r : RxPkt) (c : Nat) (o : Op) (m : Nat), s.wireAt? i 1 = some r → (s.wireTake i r).postOf r.pkt = some (c, o) →
    (s.wireTake i r).memberOf o.group r.pkt.srcRank = some m → look 0 o.limits m < r.pkt.arg2 →
    exec (.grant i) s = .next ((if r.pkt.sig = (s.wireTake i r).sigTo o m then (s.wireTake i r).setOp c { o with limits := put o.limits m r.pkt.arg2, progress := (s.wireTake i r).clk.now } else (s.wireTake i r).collFail c o cCollMismatch false).postPump c o.opn)) ∧
  (∀ (s : State) (i : Nat) (r : RxPkt) (c : Nat) (o : Op) (m : Nat), s.wireAt? i 1 = some r → (s.wireTake i r).postOf r.pkt = some (c, o) →
    (s.wireTake i r).memberOf o.group r.pkt.srcRank = some m → r.pkt.arg2 = 0 → look? o.limits m = none →
    exec (.grant i) s = .next ((if r.pkt.sig = (s.wireTake i r).sigTo o m then (s.wireTake i r).setOp c { o with limits := put o.limits m 0 } else (s.wireTake i r).collFail c o cCollMismatch false).postPump c o.opn)) ∧
  (∀ (s : State) (i : Nat) (r : RxPkt), s.wireAt? i 1 = some r → (s.wireTake i r).postOf r.pkt = none → (s.wireTake i r).postToCome r.pkt →
    exec (.grant i) s = .next (({ (s.wireTake i r) with early := s.early ++ [r.pkt] } : State).rotationsDue (((s.wireTake i r).jobCtx r.pkt).getD 17))) ∧
  (∀ (s : State) (i : Nat) (r : RxPkt) (c : Nat) (o : Op) (m : Nat), s.wireAt? i 2 = some r → (s.wireTake i r).postOf r.pkt = some (c, o) →
    (s.wireTake i r).memberOf o.group r.pkt.srcRank = some m → s.chkBad r = false → r.pkt.poison = false → r.pkt.len = 0 →
    exec (.chunk i none) s = .next (if r.pkt.sig = (s.wireTake i r).sigFrom o m then (s.wireTake i r).postInput c o { o with dones := ins o.dones m } none else (s.wireTake i r).collFail c o cCollMismatch false)) ∧
  (∀ (s : State) (i : Nat) (r : RxPkt) (c : Nat) (o : Op) (m : Nat), s.wireAt? i 2 = some r → (s.wireTake i r).postOf r.pkt = some (c, o) →
    (s.wireTake i r).memberOf o.group r.pkt.srcRank = some m → s.chkBad r = false → r.pkt.poison = false → r.pkt.len ≠ 0 →
    exec (.chunk i none) s = .next (if r.pkt.sig = (s.wireTake i r).sigFrom o m then (s.wireTake i r).postInput c o { o with progress := (s.wireTake i r).clk.now, got := o.got ++ [(m, r.pkt.offset, ((s.wireTake i r).chunkData o m r.pkt).length)], gotMem := writeBytes o.gotMem (m * 2 ^ 40 + r.pkt.offset) ((s.wireTake i r).chunkData o m r.pkt) } none else (s.wireTake i r).collFail c o cCollMismatch false)) ∧
  (∀ (s : State) (i : Nat) (r : RxPkt), s.wireAt? i 2 = some r → s.chkBad r → exec (.chunk i none) s = .next ((s.wireTake i r).chkFail r.pkt)) ∧
  (∀ (s : State) (i : Nat) (r : RxPkt), s.wireAt? i 2 = some r → s.chkBad r = false → (s.wireTake i r).postOf r.pkt = none →
    (s.wireTake i r).postEnded r.pkt →
    exec (.chunk i none) s = .next (((s.wireTake i r).retireKeys (fun k => some k == wireKey r.pkt)).incSat (aLink r.link 0x134))) ∧
  (∀ (s : State) (i : Nat) (r : RxPkt) (c : Nat) (o : Op) (m : Nat), s.wireAt? i 2 = some r → (s.wireTake i r).postOf r.pkt = some (c, o) →
    (s.wireTake i r).memberOf o.group r.pkt.srcRank = some m → s.chkBad r = false → r.pkt.poison →
    exec (.chunk i none) s = .next ((s.wireTake i r).checkFail c o)) ∧
  (∀ (s : State) (i : Nat) (r : RxPkt) (c : Nat) (o : Op) (m : Nat), s.wireAt? i 3 = some r → (s.wireTake i r).postOf r.pkt = some (c, o) →
    (s.wireTake i r).memberOf o.group r.pkt.srcRank = some m →
    exec (.count i) s = .next (((s.wireTake i r).takeCount c o m r.pkt.arg2 r.pkt.sig).postPump c o.opn)) ∧
  (∀ (s : State) (i : Nat) (r : RxPkt) (c : Nat) (o : Op), s.wireAt? i 4 = some r → (s.wireTake i r).jobCtx r.pkt = some c →
    ((s.wireTake i r).barrierAbort c r.pkt).postOf r.pkt = some (c, o) →
    exec (.abort i) s = .next ((((s.wireTake i r).barrierAbort c r.pkt).collFail c o (r.pkt.arg % 65536) true).barrierAbort c r.pkt)) ∧
  (∀ (s : State) (i : Nat) (r : RxPkt) (c : Nat), s.wireAt? i 4 = some r → (s.wireTake i r).jobCtx r.pkt = some c →
    ((s.wireTake i r).barrierAbort c r.pkt).postOf r.pkt = none → ((s.wireTake i r).barrierAbort c r.pkt).pastOf r.pkt = none →
    exec (.abort i) s = .next ((((s.wireTake i r).barrierAbort c r.pkt).contextFail c (r.pkt.arg % 65536) true).barrierAbort c r.pkt)) ∧
  (∀ (s : State) (i : Nat) (r : RxPkt) (c : Nat) (o : Op), s.wireAt? i 4 = some r → (s.wireTake i r).jobCtx r.pkt = some c →
    ((s.wireTake i r).barrierAbort c r.pkt).postOf r.pkt = none → ((s.wireTake i r).barrierAbort c r.pkt).pastOf r.pkt = some (c, o) →
    o.lost.isSome →
    exec (.abort i) s = .next (((((s.wireTake i r).barrierAbort c r.pkt).poisonOut c o o.outDone).contextFail c (r.pkt.arg % 65536) true).barrierAbort c r.pkt)) ∧
  (∀ (s : State) (i : Nat) (r : RxPkt) (c : Nat) (o : Op), s.wireAt? i 4 = some r → (s.wireTake i r).jobCtx r.pkt = some c →
    ((s.wireTake i r).barrierAbort c r.pkt).postOf r.pkt = none → ((s.wireTake i r).barrierAbort c r.pkt).pastOf r.pkt = some (c, o) →
    o.lost = none →
    exec (.abort i) s = .next ((((((((s.wireTake i r).barrierAbort c r.pkt).countLost o (r.pkt.arg % 65536)).markLost c o (r.pkt.arg % 65536) r.pkt.arg2).poisonOut c o o.outDone).contextFail c (r.pkt.arg % 65536) true).barrierAbort c r.pkt))) ∧
  (∀ (s : State) (i : Nat) (r : RxPkt), s.wireAt? i 9 = some r → (s.wireTake i r).regB (rg clsCf 12 0x108) 0 = false →
    (s.wireTake i r).postOf r.pkt = none → ((s.wireTake i r).digestCame r.pkt).postEnded r.pkt →
    exec (.digest i) s = .next ((((s.wireTake i r).digestCame r.pkt).retireKeys (fun k => some k == wireKey r.pkt)).incSat (aLink r.link 0x134))) ∧
  (∀ (s : State) (i : Nat) (r : RxPkt) (c : Nat) (o : Op), s.wireAt? i 9 = some r → (s.wireTake i r).postOf r.pkt = some (c, o) →
    (s.wireTake i r).regB (rg clsCf 12 0x108) 0 = false →
    exec (.digest i) s = .next (((s.wireTake i r).takeDigest c o r.pkt).postPump c o.opn)) ∧
  (∀ (s : State) (i : Nat) (r : RxPkt), s.wireAt? i 9 = some r → (s.wireTake i r).regB (rg clsCf 12 0x108) 0 →
    exec (.digest i) s = .next ((s.wireTake i r).incSat (aLink r.link 0x130))) ∧
  (∀ (s : State) (i : Nat) (r : RxPkt) (c m : Nat), s.wireAt? i 10 = some r → (s.wireTake i r).jobCtx r.pkt = some c →
    (s.wireTake i r).groupEn c → r.pkt.group = (s.wireTake i r).commitGroup c → (s.wireTake i r).groupOk c r.pkt.group → r.pkt.arg % 4 = 0 →
    (s.wireTake i r).memberOf r.pkt.group r.pkt.srcRank = some m →
    exec (.cbar i) s = .next (if r.pkt.sig = (s.wireTake i r).barrierSig ((s.wireTake i r).groupJob r.pkt.group) r.pkt.group r.pkt.seq then ((s.wireTake i r).setRcv c { (s.wireTake i r).rcv c with arrivals := ((s.wireTake i r).rcv c).arrivals ++ [(m, r.pkt.seq, r.pkt.arg2)] }).commitLook c else (s.wireTake i r).contextFail c cCollMismatch false)) ∧
  (∀ (s : State) (i : Nat) (r : RxPkt) (c m : Nat), s.wireAt? i 10 = some r → (s.wireTake i r).jobCtx r.pkt = some c →
    (s.wireTake i r).groupEn c → r.pkt.group = (s.wireTake i r).commitGroup c → (s.wireTake i r).groupOk c r.pkt.group → r.pkt.arg % 4 = 1 →
    r.pkt.sig = (s.wireTake i r).barrierSig ((s.wireTake i r).groupJob r.pkt.group) r.pkt.group r.pkt.seq →
    (s.wireTake i r).memberOf r.pkt.group r.pkt.srcRank = some m →
    exec (.cbar i) s = .next (((s.wireTake i r).setRcv c { (s.wireTake i r).rcv c with arrivals := ((s.wireTake i r).rcv c).arrivals ++ [(m, r.pkt.seq + 2 ^ 32, r.pkt.arg2)] }).replayLook c)) ∧
  (∀ (s : State) (i : Nat) (r : RxPkt) (c : Nat), s.wireAt? i 10 = some r → (s.wireTake i r).jobCtx r.pkt = some c →
    (s.wireTake i r).groupEn c → r.pkt.group = (s.wireTake i r).commitGroup c → (s.wireTake i r).groupOk c r.pkt.group → r.pkt.arg % 4 = 2 →
    r.pkt.sig = (s.wireTake i r).barrierSig ((s.wireTake i r).groupJob r.pkt.group) r.pkt.group r.pkt.seq →
    r.pkt.seq = (s.wireTake i r).regN (aRc c 0xC) → exec (.cbar i) s = .next ((s.wireTake i r).barrierWon c))

/-- OP_ADMIT, SLOT_RESERVATION_GRANT, REDUCE_FALLBACK, COLL_MEMBER_LOST and TWIN_DIGEST_TIMEOUT. The next operation whose descriptor passes R257 and
whose dependencies are met is accepted; one that is refused is taken from its list and fails with the code. The first request in line is granted
its slots on the lowest chiplet that has them, within its window. After the window a post is staged, recorded at severity 2, or fails where no
chiplet is ON (that it is recorded then too is log 157). A post to which no byte came and no grant for COLL_TIMEOUT fails with COLL_MEMBER_LOST,
naming the member that it waits on (log 50). A twin whose digest of a chunk has not come COLL_TIMEOUT after the own one, for an open post or a
complete one, leaves the pair unpaired and the posts go on; the record's code is log 102, and that a formed commit record outlives such an end is
log 101. Derived from 08_fused_attention R257, 08_fused_attention R258, 08_fused_attention R259, 10_confluence R347, 10_confluence R348,
09_eztex_collectives R320, 10_confluence R358. -/
def Obligations.OpsAndTheirLimits : Prop :=
  (∀ (s : State) (ctx now h va n oldest : Nat) (rb : Bool) (b : List Byte), ctx ≤ 16 → s.nextEntry ctx = some (h, va, n, oldest, rb) →
    s.mayAdmit ctx h n rb → ((s.atTime now).vaRead ctx va 128).1 = .inr b → at' b 0 4 = n % 2 ^ 32 →
    (((s.atTime now).vaRead ctx va 128).2.opCheck ctx ({ Op.blank with opn := n, desc := b, rebuild := rb } : Op) oldest).1 = 0 →
    ((((s.atTime now).vaRead ctx va 128).2.opCheck ctx ({ Op.blank with opn := n, desc := b, rebuild := rb } : Op) oldest).2.seqr ctx).depMet ({ Op.blank with opn := n, desc := b, rebuild := rb } : Op) ({ Op.blank with opn := n, desc := b, rebuild := rb } : Op).dep1 (({ Op.blank with opn := n, desc := b, rebuild := rb } : Op).depStage % 2) →
    ((((s.atTime now).vaRead ctx va 128).2.opCheck ctx ({ Op.blank with opn := n, desc := b, rebuild := rb } : Op) oldest).2.seqr ctx).depMet ({ Op.blank with opn := n, desc := b, rebuild := rb } : Op) ({ Op.blank with opn := n, desc := b, rebuild := rb } : Op).dep2 (({ Op.blank with opn := n, desc := b, rebuild := rb } : Op).depStage / 2 % 2) →
    (((s.atTime now).vaRead ctx va 128).2.opCheck ctx ({ Op.blank with opn := n, desc := b, rebuild := rb } : Op) oldest).2.jobStarted ({ Op.blank with opn := n, desc := b, rebuild := rb } : Op) →
    exec (.opAdmit ctx now) s = .next ((((s.atTime now).vaRead ctx va 128).2.opCheck ctx ({ Op.blank with opn := n, desc := b, rebuild := rb } : Op) oldest).2.acceptOp ctx ({ Op.blank with opn := n, desc := b, rebuild := rb } : Op))) ∧
  (∀ (s : State) (ctx now h va n oldest : Nat) (rb : Bool) (b : List Byte), ctx ≤ 16 → s.nextEntry ctx = some (h, va, n, oldest, rb) →
    s.mayAdmit ctx h n rb → ((s.atTime now).vaRead ctx va 128).1 = .inr b → at' b 0 4 = n % 2 ^ 32 →
    (((s.atTime now).vaRead ctx va 128).2.opCheck ctx ({ Op.blank with opn := n, desc := b, rebuild := rb } : Op) oldest).1 ≠ 0 →
    exec (.opAdmit ctx now) s = .next (((((s.atTime now).vaRead ctx va 128).2.opCheck ctx ({ Op.blank with opn := n, desc := b, rebuild := rb } : Op) oldest).2.tookEntry ctx n rb none).failOp ctx n (((s.atTime now).vaRead ctx va 128).2.opCheck ctx ({ Op.blank with opn := n, desc := b, rebuild := rb } : Op) oldest).1 false false)) ∧
  (∀ (s : State) (now c t : Nat) (o : Op), s.firstRequest = some (c, o) → s.slotHome o.slotNeed = some t →
    inWindow (max now s.clk.now) o.reqAt 20000 →
    exec (.slotReservationGrant now) s = .next (((s.atTime now).takeHome t o.slotNeed).admitOp c { o with home := t, slots := o.slotNeed })) ∧
  (∀ (s : State) (ctx opn now t : Nat) (o : Op), ctx ≤ 16 → s.op? ctx opn = some o → o.waiting →
    inWindow (max now s.clk.now) o.reqAt 20000 = false →
    (List.range 12).find? (((s.atTime now).cairnLog 2 clsCf 12 cReduceFallback ctx []).isOn clsCf) = some t →
    exec (.reduceFallback ctx opn now) s = .next (((((s.atTime now).cairnLog 2 clsCf 12 cReduceFallback ctx []).incSat (rg clsCf 12 0x10C)).takeHome t 0).admitOp ctx { o with home := t, slots := 0, staged := true })) ∧
  (∀ (s : State) (ctx opn now : Nat) (o : Op), ctx ≤ 16 → s.op? ctx opn = some o → o.waiting →
    inWindow (max now s.clk.now) o.reqAt 20000 = false →
    (List.range 12).find? (((s.atTime now).cairnLog 2 clsCf 12 cReduceFallback ctx []).isOn clsCf) = none →
    exec (.reduceFallback ctx opn now) s = .next (((s.atTime now).cairnLog 2 clsCf 12 cReduceFallback ctx []).failOp ctx opn cRegionLost false false)) ∧
  (∀ (s : State) (ctx opn now : Nat) (o : Op), ctx ≤ 16 → (s.rcv ctx).formed = none → s.op? ctx opn = some o → 1 ≤ o.stage → o.coll ≠ 0 →
    inWindow (max now s.clk.now) o.progress (s.collTimeout (s.groupJob o.group)) = false →
    exec (.collMemberLost ctx opn now) s = .next ((((s.atTime now).memberLost ctx (s.groupJob o.group) (s.memberRank o.group (s.waitsOn o))).setOp ctx { o with lost := some (s.memberRank o.group (s.waitsOn o)) }).collFail ctx { o with lost := some (s.memberRank o.group (s.waitsOn o)) } cCollMemberLost false)) ∧
  (∀ (s : State) (ctx opn now : Nat) (x : CommitRec), ctx ≤ 16 → (s.rcv ctx).formed = some x → x.opn = opn → (s.rcv ctx).won = false →
    inWindow (max now s.clk.now) (s.rcv ctx).barrierAt (s.collTimeout (s.groupJob (s.regF (aRc ctx 0) 0 12))) = false →
    (s.rstate ctx = 0 ∨ s.rstate ctx = 1 ∨ s.rstate ctx = 5) → exec (.collMemberLost ctx opn now) s = .next ((s.atTime now).barrierLost ctx)) ∧
  (∀ (s : State) (ctx opn chunk now : Nat) (o : Op), ctx ≤ 16 →
    (((s.seqr ctx).ops ++ (s.seqr ctx).past ++ (s.seqr ctx).owed).find? (fun o => o.opn == opn && s.digestLate o chunk (max now s.clk.now)) = some o) →
    s.pairing →
    exec (.twinDigestTimeout ctx opn chunk now) s = .next ((((s.atTime now).setB (rg clsCf 12 0x108) 0 true).cairnLog 5 clsCf 12 0 ctx [itPost o.group o.seq chunk (chunk * o.chunk)]).pumpAll)) ∧
  (∀ (s : State) (o : Op) (chunk n v t : Nat), look? o.own chunk = some (v, t) → look? o.twin chunk = none →
    s.digestLate o chunk n = !inWindow n t (s.collTimeout (s.groupJob o.group)))

/-- BCAST_START, BCAST_OPEN, BCAST_ABORT, BCAST_ACK, BCAST_TIMEOUT and JOB_T_START. The first START of a job, or a later one, is taken up and passed
on, in the form and over the ranks of log 54; a copy of it does nothing while the answer is not given, and is answered again afterwards. An OPEN
notes T_START and goes on down; an ABORT before it discards the staging and goes on down, one after it does nothing. An ACK of an awaited child
adds its confirmations and the tree goes on. A wait that has passed ends the tree at this node. At T_START an opened job is STARTED, after the
other events of that grain and the jobs of an earlier T_START (R453, R454; log 55). Derived from 09_eztex_collectives R323, 09_eztex_collectives
R324, 09_eztex_collectives R325, 09_eztex_collectives R326, 13_site_time R453. -/
def Obligations.JobStartTree : Prop :=
  (∀ (s : State) (i : Nat) (r : RxPkt) (j : Nat), s.bcastAt? i 0 = some r → (s.wireTake i r).jobOfId r.pkt.jobId = some j →
    look? s.bcasts j = none →
    exec (.bcastStart i) s = .next (((s.wireTake i r).bcastBegin j ({ seq := r.pkt.seq, parent := some r.pkt.srcRank, kids := [], ok := 0, status := 0, lost := 0, due := 0, answered := false, digest := r.pkt.payload.take 32, excl := padTo 2048 (r.pkt.payload.drop 32), handle := 0, excl0 := [], opened := false } : Bcast)).bcastNext j)) ∧
  (∀ (s : State) (i : Nat) (r : RxPkt) (j : Nat) (b : Bcast), s.bcastAt? i 0 = some r → (s.wireTake i r).jobOfId r.pkt.jobId = some j →
    look? s.bcasts j = some b → r.pkt.seq ≤ b.seq → b.answered = false → exec (.bcastStart i) s = .next (s.wireTake i r)) ∧
  (∀ (s : State) (i : Nat) (r : RxPkt) (j : Nat) (b : Bcast), s.bcastAt? i 0 = some r → (s.wireTake i r).jobOfId r.pkt.jobId = some j →
    look? s.bcasts j = some b → b.seq < r.pkt.seq →
    exec (.bcastStart i) s = .next (((s.wireTake i r).bcastBegin j { b with seq := r.pkt.seq, parent := some r.pkt.srcRank, digest := r.pkt.payload.take 32, excl := padTo 2048 (r.pkt.payload.drop 32), handle := 0 }).bcastNext j)) ∧
  (∀ (s : State) (i : Nat) (r : RxPkt) (j : Nat) (b : Bcast), s.bcastAt? i 0 = some r → (s.wireTake i r).jobOfId r.pkt.jobId = some j →
    look? s.bcasts j = some b → r.pkt.seq ≤ b.seq → b.answered → b.parent.isSome →
    exec (.bcastStart i) s = .next ((s.wireTake i r).bcastAnswer j b)) ∧
  (∀ (s : State) (i : Nat) (r : RxPkt) (j : Nat) (b : Bcast), s.bcastAt? i 1 = some r → (s.wireTake i r).bcastOf r.pkt = some (j, b) →
    b.opened = false → (s.wireTake i r).jobState j = 1 →
    exec (.bcastOpen i) s = .next (({ (s.wireTake i r).setReg64 (aJob j 0x10) r.pkt.arg2 with bcasts := put s.bcasts j { b with opened := true } } : State).bcastDown j { b with opened := true } 1 r.pkt.arg2)) ∧
  (∀ (s : State) (i : Nat) (r : RxPkt) (j : Nat) (b : Bcast), s.bcastAt? i 1 = some r → (s.wireTake i r).bcastOf r.pkt = some (j, b) →
    (b.opened = true ∨ (s.wireTake i r).jobState j ≠ 1) → exec (.bcastOpen i) s = .next (s.wireTake i r)) ∧
  (∀ (s : State) (i : Nat) (r : RxPkt) (j : Nat) (b : Bcast), s.bcastAt? i 2 = some r → (s.wireTake i r).bcastOf r.pkt = some (j, b) →
    b.opened = false → exec (.bcastAbort i) s = .next ((s.wireTake i r).bcastDrop j b)) ∧
  (∀ (s : State) (i : Nat) (r : RxPkt) (j : Nat) (b : Bcast), s.bcastAt? i 2 = some r → (s.wireTake i r).bcastOf r.pkt = some (j, b) →
    b.opened → exec (.bcastAbort i) s = .next (s.wireTake i r)) ∧
  (∀ (s : State) (i : Nat) (r : RxPkt) (j : Nat) (b : Bcast), s.wireAt? i 8 = some r → (s.wireTake i r).bcastOf r.pkt = some (j, b) →
    r.pkt.srcRank ∈ b.kids → r.pkt.arg2 / 16384 % 4 = 0 →
    exec (.bcastAck i) s = .next ((({ (s.wireTake i r) with bcasts := put s.bcasts j { b with kids := rem b.kids r.pkt.srcRank, ok := b.ok + r.pkt.arg } } : State).modLong (({ (s.wireTake i r) with bcasts := put s.bcasts j { b with kids := rem b.kids r.pkt.srcRank, ok := b.ok + r.pkt.arg } } : State).slotCtx j) b.handle (fun o => { o with progress := b.ok + r.pkt.arg })).bcastNext j)) ∧
  (∀ (s : State) (i : Nat) (r : RxPkt) (j : Nat) (b : Bcast), s.wireAt? i 8 = some r → (s.wireTake i r).bcastOf r.pkt = some (j, b) →
    r.pkt.srcRank ∈ b.kids → r.pkt.arg2 / 16384 % 4 ≠ 0 →
    exec (.bcastAck i) s = .next ((({ (s.wireTake i r) with bcasts := put s.bcasts j (({ b with kids := rem b.kids r.pkt.srcRank, ok := b.ok + r.pkt.arg } : Bcast).miss (r.pkt.arg2 / 16384 % 4) (r.pkt.arg2 % 16384)) } : State).modLong (({ (s.wireTake i r) with bcasts := put s.bcasts j (({ b with kids := rem b.kids r.pkt.srcRank, ok := b.ok + r.pkt.arg } : Bcast).miss (r.pkt.arg2 / 16384 % 4) (r.pkt.arg2 % 16384)) } : State).slotCtx j) (({ b with kids := rem b.kids r.pkt.srcRank, ok := b.ok + r.pkt.arg } : Bcast).miss (r.pkt.arg2 / 16384 % 4) (r.pkt.arg2 % 16384)).handle (fun o => { o with progress := (({ b with kids := rem b.kids r.pkt.srcRank, ok := b.ok + r.pkt.arg } : Bcast).miss (r.pkt.arg2 / 16384 % 4) (r.pkt.arg2 % 16384)).ok })).bcastNext j)) ∧
  (∀ (s : State) (job now : Nat) (b : Bcast), job < 4 → look? s.bcasts job = some b → b.answered = false → b.kids ≠ [] →
    reached (max now s.clk.now) b.due → exec (.bcastTimeout job now) s = .next ((s.atTime now).bcastEnd job b)) ∧
  (∀ (s t : State) (job now : Nat) (b : Bcast), job < 4 → t = (s.atTime now).utcApply → look? t.bcasts job = some b → b.opened →
    t.jobState job = 1 → reached t.clk.now (t.reg64 (aJob job 0x10)) → t.startsLater job = false →
    exec (.jobTStart job now) s = .next ((t.setJobState job 2).endLong ((t.setJobState job 2).slotCtx job) b.handle 0 (jobResult ((t.setJobState job 2).reg64 (aJob job 0x10)) 0))) ∧
  (∀ (s t : State) (job now : Nat), job < 4 → t = (s.atTime now).utcApply →
    (reached t.clk.now (t.reg64 (aJob job 0x10)) = false ∨ t.startsLater job = true) → exec (.jobTStart job now) s = .next s)

/-- JOB_CTL_WRITE, GROUP_ENTRY_VALIDATE, STAGE_WRITE and CONFLUENCE_RETEST_DONE. An invalid slot takes CTX and VALID of a context that may own it; a
valid slot keeps its CTX. A group entry that passes every check of R316 becomes VALID with post sequence 0; one that does not stays invalid and
GT_STATUS gives entry and reason. A STAGE write beyond 48 rows, or while a reduction is open, is ignored. These writes act while the pages respond
to the host (R527). A re-test with a good unit makes the page ON with the units that passed. Derived from 09_eztex_collectives R312,
09_eztex_collectives R316, 09_eztex_collectives R331, 10_confluence R354, 10_confluence R361, 16_startup R527. -/
def Obligations.JobsGroupsAndStages : Prop :=
  (∀ (s : State) (job : Nat) (v : W32), job < 4 → s.served → s.jobValid job = false → fld v 0 5 ≤ 16 → bitOf (s.reg (aPt (fld v 0 5) 0)) 3 →
    (bitOf v 31 = true → s.jobOf (fld v 0 5) = none) → ∃ t, exec (.jobCtlWrite job v) s = .next t ∧ t.jobValid job = bitOf v 31 ∧
    t.slotCtx job = fld v 0 5 ∧ t.jobState job = s.jobState job ∧ (∀ a, a ≠ aJob job 0 → t.reg a = s.reg a)) ∧
  (∀ (s : State) (job : Nat) (v : W32), job < 4 → s.served → s.jobValid job → bitOf v 31 → fld v 0 5 ≠ s.slotCtx job →
    exec (.jobCtlWrite job v) s = .next (s.ignored clsRank 0)) ∧
  (∀ (s : State) (g : Nat) (v : W32), g < 4096 → s.served → s.groupValid g = false → bitOf v 31 → s.groupReason g (v &&& 0x8033FFFF) = 0 →
    ∃ t, exec (.groupEntryValidate g v) s = .next t ∧ t.groupValid g = true ∧ look 1 t.postSeq g = 0 ∧ t.reg (aGroup g 0) = v &&& 0x8033FFFF ∧
    t.seqrs = s.seqrs) ∧
  (∀ (s : State) (g : Nat) (v : W32), g < 4096 → s.served → s.groupValid g = false → bitOf v 31 → s.groupReason g (v &&& 0x8033FFFF) ≠ 0 →
    ∃ t, exec (.groupEntryValidate g v) s = .next t ∧ t.groupValid g = false ∧
    t.regN (rg clsGroup 0 0x100) = g + 4096 * s.groupReason g (v &&& 0x8033FFFF) ∧ t.postSeq = s.postSeq) ∧
  (∀ (s : State) (ctx : Nat) (v : W32), ctx ≤ 16 → s.served → s.reduceOpen ctx = false → fld v 0 6 + fld v 8 6 ≤ 48 →
    exec (.stageWrite ctx v) s = .next (s.setReg (aStage ctx) (v &&& 0x3F3F))) ∧
  (∀ (s : State) (ctx : Nat) (v : W32), ctx ≤ 16 → s.served → (s.reduceOpen ctx ∨ 48 < fld v 0 6 + fld v 8 6) →
    exec (.stageWrite ctx v) s = .next (s.ignored clsCf 12)) ∧
  (∀ (s : State) (t m : Nat), t < 12 → s.pst clsCf t = stStarting → m % 4 ≠ 0 → s.pendOff clsCf t = false →
    ∃ u, exec (.confluenceRetestDone t m) s = .next u ∧ u.pst clsCf t = stOn ∧ u.regF (rg clsCf t 0x100) 8 2 = m % 4 ∧
    (∀ e ∈ u.adderFails, e.1 / 34 ≠ t)) ∧
  (∀ (s : State) (t m : Nat), t < 12 → s.pst clsCf t = stStarting → m % 4 = 0 → s.pendOff clsCf t = false →
    ∃ u, exec (.confluenceRetestDone t m) s = .next u ∧ u.pst clsCf t = stFaulted)

/-- COMMIT_POINT_COMPLETE, HOLD_RESTORE, REBUILD_LIST_DONE, SPARE_SWAP, CMT_FLASH_WRITE_DONE, DRAIN_HOLD_RESUME and WEAR_SKIP. A commit point without
a commit group is complete at once: COMMIT_OPN names it and COMMIT_COUNT rises by one; with one the first event is the arrival at the barrier and
the next, once the barrier has succeeded, completes it (log 36); a hang that waited for the commit point holds the context then (log 110). A
restore whose images can be read goes on to steps 8 and 9, or leaves the context HELD. A rebuild list that is done does the same. A spare swap
removes the failure and puts the idle position where the failed rill stood; it waits until the owners of the segment are held, which the failure
holds with LAYOUT_CHANGED set (R372). A flash write holds the table as it stands, in start-up not before the tests are over (R531), and contexts
held for a pitch go on. A drained context resumes after its moves and their flash write; one that has waited an hour is skipped. Derived from
11_resilience R367, 11_resilience R372, 11_resilience R379, 11_resilience R381, 11_resilience R383, 11_resilience R385, 11_resilience R395,
16_startup R531. -/
def Obligations.CommitAndRecovery : Prop :=
  (∀ (s : State) (ctx now : Nat) (x : Point), ctx ≤ 16 → s.pointReady ctx = some x → (s.rstate ctx = 0 ∨ s.rstate ctx = 5) →
    s.groupEn ctx = false →
    exec (.commitPointComplete ctx now) s = .next (((s.atTime now).commitDo ctx ((s.atTime now).formRecord ctx x.opn)).hangDue ctx)) ∧
  (∀ (s : State) (ctx now : Nat) (x : Point), ctx ≤ 16 → s.pointReady ctx = some x → (s.rstate ctx = 0 ∨ s.rstate ctx = 5) → s.groupEn ctx →
    s.groupOk ctx (s.commitGroup ctx) → (s.rcv ctx).formed = none →
    exec (.commitPointComplete ctx now) s = .next ((s.atTime now).commitArrive ctx x.opn)) ∧
  (∀ (s : State) (ctx now : Nat) (x : Point) (v : CommitRec), ctx ≤ 16 → s.pointReady ctx = some x → (s.rstate ctx = 0 ∨ s.rstate ctx = 5) →
    s.groupEn ctx → s.groupOk ctx (s.commitGroup ctx) → (s.rcv ctx).formed = some v → (s.rcv ctx).won →
    exec (.commitPointComplete ctx now) s = .next (((s.atTime now).commitDo ctx v).hangDue ctx)) ∧
  (∀ (s : State) (ctx now : Nat) (x : Point), ctx ≤ 16 → s.pointReady ctx = some x → (s.rstate ctx = 0 ∨ s.rstate ctx = 5) →
    s.groupEn ctx = false → (∀ y ∈ (s.seqr ctx).points, y.handle = 0) → ∃ t, exec (.commitPointComplete ctx now) s = .next t ∧
    t.regN (aRc ctx 8) = x.opn % 2 ^ 32 ∧ t.regN (aRc ctx 0xC) = (s.regN (aRc ctx 0xC) + 1) % 2 ^ 32 ∧ (t.rcv ctx).formed = none ∧
    t.store = s.store ∧ t.stack = s.stack) ∧
  (∀ (s : State) (ctx now : Nat), ctx ≤ 16 → s.pointReady ctx = none → exec (.commitPointComplete ctx now) s = .next s) ∧
  (∀ (s u : State) (ctx : Nat), ctx ≤ 16 → s.rstate ctx = 3 → (s.rcv ctx).repairs = 0 → (s.rcv ctx).loaded = false →
    (s.rcv ctx).uncounted = false → ((s.dropEarly ctx).restoreLoad ctx).1 = some u → (u.epochOk ctx).regB (aRc ctx 4) 3 = false →
    exec (.holdRestore ctx) s = .next ((u.epochOk ctx).afterRebuild ctx)) ∧
  (∀ (s u : State) (ctx : Nat), ctx ≤ 16 → s.rstate ctx = 3 → (s.rcv ctx).repairs = 0 → (s.rcv ctx).loaded = false →
    (s.rcv ctx).uncounted = false → ((s.dropEarly ctx).restoreLoad ctx).1 = some u → (u.epochOk ctx).regB (aRc ctx 4) 3 →
    (u.epochOk ctx).rebuildCount ctx ≠ 0 →
    exec (.holdRestore ctx) s = .next ((u.epochOk ctx).setRcv ctx { (u.epochOk ctx).rcv ctx with rebuild := some 0 })) ∧
  (∀ (s : State) (ctx : Nat), ctx ≤ 16 → s.rstate ctx = 3 → (s.rcv ctx).repairs = 0 → (s.rcv ctx).loaded = false →
    (s.rcv ctx).uncounted = false → ((s.dropEarly ctx).restoreLoad ctx).1 = none →
    exec (.holdRestore ctx) s = .next (((s.dropEarly ctx).restoreLoad ctx).2.heldMalformed ctx)) ∧
  (∀ (s : State) (ctx n : Nat), ctx ≤ 16 → s.rstate ctx = 3 → (s.seqr ctx).ops = [] → (s.rcv ctx).rebuild = some n → s.rebuildCount ctx ≤ n →
    exec (.rebuildListDone ctx 0) s = .next (((s.setRcv ctx { s.rcv ctx with rebuild := none }).setB (aRc ctx 4) 3 false).afterRebuild ctx)) ∧
  (∀ (s : State) (p : Pos) (cause : Nat), inGrid p.col p.row → look? s.failing (ridx p.col p.row) = some (cause, false) → s.fwRuns →
    (∀ c ∈ s.ownersOf (segmentOf (ridx p.col p.row)), s.rstate c = 2 ∨ s.rstate c = 3 ∨ s.rstate c = 4) →
    ∃ t, exec (.spareSwap p) s = .next t ∧ t.failing = s.failing.filter (fun e => e.1 != ridx p.col p.row) ∧ t.seqrs = s.seqrs ∧
    t.stack = s.stack ∧ (∀ x ∈ segmentOf (ridx p.col p.row), t.regF (aCmtK x) 8 4 = s.regF (aCmtK (ridx p.col p.row)) 0 4)) ∧
  (∀ (s t : State) (k cause c : Nat), s.present k → s.failing = [] → s.regB (aCmtK k) 7 → (s.rill k).noRouter = false →
    (t = (s.incSat (rg clsReach (reachOf (rcol k) (rrow k)) 0x104)).modRill k (fun r => { r with failed := true })) → t.regB (aCmtK k) 7 →
    (t.rill k).noRouter = false → t.ownersOf (segmentOf k) = [c] →
    s.reportFailed k cause = ((({ t with failing := [(k, cause, false)] } : State).setRcv c { t.rcv c with repairs := (t.rcv c).repairs + 1 }).setB (aRc c 4) 3 true).hold c cCoreRemapped true false) ∧
  (∀ (s : State) (p : Pos) (c : Nat), c ∈ s.ownersOf (segmentOf (ridx p.col p.row)) → s.rstate c = 0 → exec (.spareSwap p) s = .next s) ∧
  (∀ (s : State), s.fwRuns → (s.stage = 4 ∨ s.testsOver = true) →
    exec .cmtFlashWriteDone s = .next ({ (List.range 17).foldl (fun s c => s.setRcv c { s.rcv c with repairs := min (s.rcv c).repairs (s.repairsLeft c) }) s.cmtSave with cmtDue := false } : State).pitchResume) ∧
  (∀ (s : State), s.fwRuns → (s.stage = 4 ∨ s.testsOver = true) → s.pitchHeld = [] → ∃ t, exec .cmtFlashWriteDone s = .next t ∧
    (t.cmtA.table = s.cmtNow ∨ t.cmtB.table = s.cmtNow) ∧ t.regs = s.regs ∧ t.rills = s.rills ∧ t.cmtFresh = false ∧
    (∀ c, c ≤ 16 → (t.rcv c).repairs ≤ s.repairsLeft c)) ∧
  (∀ (s : State), (s.fwRuns = false ∨ (s.stage ≠ 4 ∧ s.testsOver = false)) → exec .cmtFlashWriteDone s = .next s) ∧
  (∀ (s : State) (ctx r : Nat), ctx ≤ 16 → s.rstate ctx = 5 → (s.rcv ctx).drain = some r → (s.rcv ctx).drained → s.fwRuns →
    (s.seqr ctx).ops = [] → (∀ g ∈ s.wearSegs, ∀ c ∈ s.wearOwners g, s.rstate c ≠ 5 ∨ (s.rcv c).drained = true) →
    ((s.wearSegs.filter (fun g => (s.wearOwners g).contains ctx)) = []) → ctx ∉ s.pitchHeld →
    exec (.drainHoldResume ctx) s = .next (({ s with wearSegs := s.wearSegs.filter (fun g => !(s.wearSegs.filter (fun g => (s.wearOwners g).contains ctx)).contains g) } : State).wearSync.drainResume ctx)) ∧
  (∀ (s : State) (ctx r : Nat), ctx ≤ 16 → s.rstate ctx = 5 → (s.rcv ctx).drain = some r → (s.rcv ctx).drained → s.fwRuns →
    (s.seqr ctx).ops = [] → (∀ g ∈ s.wearSegs, ∀ c ∈ s.wearOwners g, s.rstate c ≠ 5 ∨ (s.rcv c).drained = true) →
    ((s.wearSegs.filter (fun g => (s.wearOwners g).contains ctx)) ≠ []) → ctx ∉ s.pitchHeld →
    exec (.drainHoldResume ctx) s = .next ((({ ((s.wearSegs.filter (fun g => (s.wearOwners g).contains ctx)).foldl State.wearMove s).cmtSave with wearSegs := ((s.wearSegs.filter (fun g => (s.wearOwners g).contains ctx)).foldl State.wearMove s).cmtSave.wearSegs.filter (fun g => !(s.wearSegs.filter (fun g => (s.wearOwners g).contains ctx)).contains g) } : State).wearSync).drainResume ctx)) ∧
  (∀ (s : State) (ctx r now : Nat), ctx ≤ 16 → s.rstate ctx = 5 → (s.rcv ctx).drain = some r → (s.rcv ctx).drained = false →
    inWindow (max now s.clk.now) (s.rcv ctx).drainAt 3600000000000 = false → ctx ∉ s.pitchHeld → ∃ t, exec (.wearSkip ctx now) s = .next t ∧
    t.rstate ctx = 0 ∧ (t.rcv ctx).drain = none ∧ t.store = s.store ∧ t.net = s.net)

/-- Starts, stops, isolation, throttling and rail tests of pitches. An isolating cause trips a pitch; an undervoltage counts only once its rail has
been good. An isolated pitch whose switch still conducts is shown with cause 4 and has no e-fuse. A pitch at 110 to 124 degrees joins the
throttled ones, and below 105 leaves them. A rail that reaches 400 mV lets the pitch start, its retention as RET_EN says; one that does not counts
a failure. Power good within 1 ms ends a start with an ON pitch; 1 ms without it trips it; a stop ends OFF, powered only with RET_EN. Derived from
12_power_weir R408, 12_power_weir R412, 12_power_weir R413, 12_power_weir R414, 12_power_weir R415, 12_power_weir R416, 12_power_weir R417. -/
def Obligations.Pitches : Prop :=
  (∀ (s : State) (pitch now : Nat) (cause peak : Nat), pitch < 252 → (cause = 1 ∨ cause = 3 ∨ cause = 5) →
    s.pst clsPitch pitch ≠ stIsolated → exec (.pitchIsolate pitch cause peak now) s = .next ((s.atTime now).pitchTrip pitch cause peak)) ∧
  (∀ (s : State) (pitch now : Nat) (peak : Nat), pitch < 252 → s.regB (aPt2 pitch 0x104) 3 = false →
    exec (.pitchIsolate pitch 2 peak now) s = .next s) ∧
  (∀ (s : State) (pitch current : Nat), pitch < 252 → s.pst clsPitch pitch = stIsolated → 100 < current → s.regB (aPt2 pitch 0x104) 1 →
    s.regF (aPt2 pitch 0x104) 4 4 ∈ [1, 2, 3, 5] → ∃ t, exec (.efuseClear pitch current) s = .next t ∧ t.regB (aPt2 pitch 0x104) 1 = false ∧
    t.regF (aPt2 pitch 0x104) 4 4 = 4 ∧ (∀ a, a ≠ aPt2 pitch 0x104 → t.reg a = s.reg a)) ∧
  (∀ (s : State) (pitch temp : Nat), pitch < 252 → 110 ≤ temp → temp < 125 → s.regB (aPt2 pitch 0x104) 0 →
    exec (.pitchThermalThrottle pitch temp) s = .next { s.wdSyncAll with hotPitches := ins s.hotPitches pitch }) ∧
  (∀ (s : State) (pitch temp : Nat), pitch < 252 → temp < 105 → pitch ∈ s.hotPitches →
    exec (.pitchThermalRecover pitch temp) s = .next { s.wdSyncAll with hotPitches := rem s.hotPitches pitch }) ∧
  (∀ (s : State) (pitch temp : Nat), pitch < 252 → 105 ≤ temp → temp < 110 → exec (.pitchThermalRecover pitch temp) s = .next s ∧
    exec (.pitchThermalThrottle pitch temp) s = .next s) ∧
  (∀ (s : State) (pitch mv : Nat), pitch < 252 → pitch ∈ s.railTest → 400 ≤ mv →
    exec (.pitchRailTestDone pitch mv) s = .next ((({ s with railTest := rem s.railTest pitch }.enReqOn clsPitch pitch (fun s => s.pitchBegin pitch)).retSync pitch).pitchSync pitch)) ∧
  (∀ (s : State) (pitch mv : Nat), pitch < 252 → pitch ∈ s.railTest → mv < 400 → ∃ t, exec (.pitchRailTestDone pitch mv) s = .next t ∧
    t.regF (aPt2 pitch 0x104) 4 4 = 7 ∧ t.pst clsPitch pitch = s.pst clsPitch pitch ∧
    t.regN (aPt2 pitch 0x118) = min 0xFFFFFFFF (s.regN (aPt2 pitch 0x118) + 1) ∧ t.railTest = rem s.railTest pitch) ∧
  (∀ (s : State) (pitch now : Nat) (b : Nat), pitch < 252 → look? s.pitchRun pitch = some b → s.pst clsPitch pitch = stStarting → s.fwRuns →
    inWindow now b 80000 = false → inWindow now b 1000000 → s.pendOff clsPitch pitch = false → s.pitchHeld = [] →
    ∃ t, exec (.pitchStartDone pitch now) s = .next t ∧ t.pst clsPitch pitch = stOn ∧ look? t.pitchRun pitch = none ∧ pitch ∉ t.unpowered) ∧
  (∀ (s : State) (pitch now : Nat) (b : Nat), pitch < 252 → look? s.pitchRun pitch = some b → s.pst clsPitch pitch = stStarting →
    inWindow now b 1000000 = false → ∃ v, exec (.pitchPowerGoodTimeout pitch now) s = .next ((s.atTime now).draw64.2.pitchTrip pitch 5 v)) ∧
  (∀ (s : State) (pitch now : Nat) (b : Nat), pitch < 252 → look? s.pitchRun pitch = some b → s.pst clsPitch pitch = stStopping →
    inWindow now b 50000 = false → s.pendOn clsPitch pitch = false → s.pitchHeld = [] → ∃ t, exec (.pitchStopDone pitch now) s = .next t ∧
    t.pst clsPitch pitch = stOff ∧ look? t.pitchRun pitch = none ∧ (pitch ∈ t.unpowered ↔ s.regB (aPt2 pitch 0x100) 8 = false) ∧
    t.rills = s.rills) ∧
  (∀ (s : State) (pitch now : Nat) (b : Nat), pitch < 252 → look? s.pitchRun pitch = some b → inWindow now b 50000 →
    exec (.pitchStopDone pitch now) s = .next s ∧ exec (.pitchStartDone pitch now) s = .next s ∧
    exec (.pitchPowerGoodTimeout pitch now) s = .next s)

/-- The set point of the Weir, its regulation, its registers, and the input stage. The first boundary only begins a frame, and the first frame sets S
to the power drawn (log 91). Every later frame moves S for the demand and the ceiling that its end shows. A set point never rises above the
ceiling and moves by at most STEP_MAX in a frame; it falls to the ceiling at once, follows a higher demand as far as the bucket and the ceiling
let it, and a lower one once DOWN_DELAY frames have passed; MODE 1 freezes it, below a lower ceiling too, and MODE 2 keeps the falls (log 89).
Within a frame the Weir throttles when ahead of S and adds ballast, where enabled, when behind; readings that its own limits exclude do not occur
(log 158). After 50 ms without the Warden MODE 1 becomes 2. LOCK stays. A valid envelope write waits for the boundary; any other is ignored. The
input stage closes at 50 to 60 V and opens at a power fail, which leaves no rill, store or stack. Derived from 12_power_weir R403, 12_power_weir
R405, 12_power_weir R406, 12_power_weir R418, 12_power_weir R419, 12_power_weir R423, 12_power_weir R425, 12_power_weir R428, 12_power_weir R431,
16_startup R521, 16_startup R536. -/
def Obligations.WeirAndInput : Prop :=
  (∀ (s : State) (b : Nat) (r : WeirReading), (s.inputStage = 1 ∨ s.inputStage = 2) → s.weirBoundary b →
    (s.earlierDue b 3 && reached b s.clk.now) = false → s.weirAt = none → exec (.weirFrame b r) s = .next (s.weirBegin b) ∧
    (s.weirBegin b).weirAt = some b ∧ (s.weirBegin b).weirS = s.weirS ∧ (s.weirBegin b).weirSet = s.weirSet ∧ (s.weirBegin b).weirPend = []) ∧
  (∀ (s : State) (a b : Nat) (r : WeirReading), (s.inputStage = 1 ∨ s.inputStage = 2) → s.weirBoundary b →
    (s.earlierDue b 3 && reached b s.clk.now) = false → s.weirAt = some a → s.weirSet = false → ∃ t, exec (.weirFrame b r) s = .next t ∧
    t.weirS = r.inMw ∧ t.weirSet = true ∧ t.weirPend = [] ∧ t.vinMv = r.mv) ∧
  (∀ (s : State) (a b : Nat) (r : WeirReading), (s.inputStage = 1 ∨ s.inputStage = 2) → s.weirBoundary b →
    (s.earlierDue b 3 && reached b s.clk.now) = false → s.weirAt = some a → s.weirSet → s.weirHolds r →
    ∃ t, exec (.weirFrame b r) s = .next t ∧
    t.weirS = ((s.weirJudge a b r).1.weirMove b ((s.weirJudge a b r).1.weirDemand r) (s.weirJudge a b r).2).weirS ∧ t.weirSet = true ∧
    t.weirPend = [] ∧ t.vinMv = r.mv) ∧
  (∀ (s : State) (a b : Nat) (r : WeirReading), s.weirPend = [] → 50000 ≤ r.mv →
    (s.weirJudge a b r).2 = min 30000000 (2000000 * ((List.range 16).filter (fun n => s.regB (aWeir 0x148) n)).length)) ∧
  (∀ (s : State) (r : WeirReading), s.leveeStart ≠ 1 → s.weirDemand r = r.inMw - r.ballastMw + r.withheldMw + s.startsWaiting) ∧
  (∀ (s : State) (b : Nat) (r : WeirReading), s.weirBoundary b = false → exec (.weirFrame b r) s = .next s) ∧
  (∀ (s : State) (b d ceil : Nat), s.weirS ≤ ceil → (s.weirMove b d ceil).weirS ≤ ceil ∧
    (s.weirMove b d ceil).weirS ≤ s.weirS + s.regF (aWeir 0x12C) 0 16 * 1000 ∧
    s.weirS ≤ (s.weirMove b d ceil).weirS + s.regF (aWeir 0x12C) 0 16 * 1000) ∧
  (∀ (s : State) (b d ceil : Nat), ceil < s.weirS → s.regF (aWeir 0x104) 0 2 ≠ 1 → (s.weirMove b d ceil).weirS = ceil) ∧
  (∀ (s : State) (b d ceil : Nat), s.regF (aWeir 0x104) 0 2 = 1 → (s.weirMove b d ceil).weirS = s.weirS) ∧
  (∀ (s : State) (b d ceil e : Nat), s.regF (aWeir 0x104) 0 2 = 0 → s.regB (aWeir 0x100) 0 → (s.weirRest = false ∨ s.weirGate b = true) →
    e = min (max d (s.regF (aWeir 0x130) 0 16 * 1000)) (s.regF (aWeir 0x134) 0 16 * 1000) → s.weirS ≤ ceil → s.weirS < e →
    (s.weirMove b d ceil).weirS = s.weirS + min (min (e - s.weirS) (min (s.regF (aWeir 0x12C) 0 16 * 1000) (s.weirUp + s.regN (aWeir 0x124)))) (ceil - s.weirS)) ∧
  (∀ (s : State) (b d ceil e : Nat), s.regF (aWeir 0x104) 0 2 ≠ 1 →
    e = min (max d (s.regF (aWeir 0x130) 0 16 * 1000)) (s.regF (aWeir 0x134) 0 16 * 1000) → s.weirS ≤ ceil → e < s.weirS →
    (s.weirMove b d ceil).weirS = if s.regF (aWeir 0x138) 0 16 ≤ s.weirBelow + 1 then s.weirS - min (s.weirS - e) (min (s.regF (aWeir 0x12C) 0 16 * 1000) (s.weirDown + s.regN (aWeir 0x128))) else s.weirS) ∧
  (∀ (s : State) (now mj a : Nat), s.weirAt = some a → s.weirCompares a now mj →
    exec (.weirRegulate now mj) s = .next { { s.atTime now with weirDrawn := (now, mj) }.wdSyncAll with weirAct := if s.weirS * (now - a) < mj * 1000000000 then 1 else if mj * 1000000000 < s.weirS * (now - a) ∧ s.regB (aWeir 0x100) 2 = true then 2 else 0 }) ∧
  (∀ (s : State) (now t : Nat), s.wardenGone = some t → inWindow now t 50000000 = false → s.regF (aWeir 0x104) 0 2 = 1 →
    exec (.weirWardenTimeout now) s = .next ((s.atTime now).setF (aWeir 0x104) 0 2 2)) ∧
  (∀ (s : State), ∃ t, exec .weirLock s = .next t ∧ t.regB (aWeir 0x100) 1 = true ∧
    (∀ k, k < 32 → k ≠ 1 → t.regB (aWeir 0x100) k = s.regB (aWeir 0x100) k) ∧ (∀ a, a ≠ aWeir 0x100 → t.reg a = s.reg a)) ∧
  (∀ (s : State) (v : W32), s.served → s.regB (aWeir 0x100) 1 = false → 1 ≤ v.toNat → v.toNat ≤ 30000000 →
    exec (.weirEnvelopeWrite 0x124 v) s = .next { s with weirPend := put s.weirPend 0x124 v.toNat } ∧
    exec (.weirEnvelopeWrite 0x128 v) s = .next { s with weirPend := put s.weirPend 0x128 v.toNat }) ∧
  (∀ (s : State) (off : Nat) (v : W32), off ∈ [0x12C, 0x130, 0x134, 0x138] → s.served → s.regB (aWeir 0x100) 1 = false →
    s.weirInRange off (fld v 0 16) → exec (.weirEnvelopeWrite off v) s = .next { s with weirPend := put s.weirPend off (fld v 0 16) }) ∧
  (∀ (s : State) (off : Nat) (v : W32), off ∈ [0x124, 0x128, 0x12C, 0x130, 0x134, 0x138, 0x13C, 0x140] → s.served → s.regB (aWeir 0x100) 1 →
    exec (.weirEnvelopeWrite off v) s = .next (s.ignored clsWeir 0)) ∧
  (∀ (s : State), exec .idealDiodeOpen s = .next { s with diodeOpen := true }) ∧
  (∀ (s : State) (n : Nat), n < 16 → s.regB (aWeir 0x148) n →
    exec (.powerChipletFail n) s = .next ((s.setB (aWeir 0x148) n false).cairnLog 5 clsWeir 0 0 noCtx [])) ∧
  (∀ (s : State) (now mv : Nat), s.inputStage = 0 → 50000 ≤ mv → mv ≤ 60000 → ∃ t, exec (.inputStageClose now mv) s = .next t ∧
    t.inputStage = 1 ∧ t.vinMv = mv ∧ t.rills = [] ∧ t.net = [] ∧ t.store = [] ∧ t.fwFlash = s.fwFlash ∧ t.cairn.flash = s.cairn.flash ∧
    t.host = s.host) ∧
  (∀ (s : State) (now cap : Nat), s.inputStage = 1 → s.vinMv ≤ cap + 1000 →
    exec (.powerChipletEnable now cap) s = .next (((List.range 252).foldl State.retSync (({ s.atTime now with inputStage := 2, stageAt := (s.atTime now).clk.now } : State).setRegN 0x104 (s.strapPins % 65536)).applyStraps).cairnStart.bootRom false)) ∧
  (∀ (s : State) (now mv lasted : Nat), s.inputStage = 2 → (mv < 45000 ∧ 20000 ≤ lasted ∨ 61500 < mv ∧ 100000 ≤ lasted) →
    ∃ t, exec (.powerFail now mv lasted) s = .next t ∧ t.inputStage = 3 ∧ t.vinMv = mv ∧ t.rills = [] ∧ t.store = [] ∧ t.stack = [] ∧
    t.hws = [] ∧ t.cairn.flushing = true) ∧
  (∀ (s : State) (now mv lasted : Nat), s.inputStage = 1 → mv < 45000 → 20000 ≤ lasted →
    exec (.powerFail now mv lasted) s = .next { s.atTime now with inputStage := 0, vinMv := mv })

/-- Sources, steps and states of Site Time, the UTC offset and the background slots. The first measurement of an acquisition steps Site Time to the
source; a later one slews it by at most 100 us per second, in HOLDOVER not at all, what comes in another PTP domain does nothing, and an edge
without the 10 MHz input measures nothing but marks its second (log 162). A lost source, under SRC 1 after 2 s without an edge and under SRC 0
when the row says so (log 98), takes LOCKED to HOLDOVER, and HOLDOVER_MAX seconds there to UNLOCKED. SRC 2 runs free; SRC 3 is ignored. REACQUIRE
steps a free-running clock to TIME_SET and begins an acquisition for any other source. TIME_SET is committed by its HI word. A UTC offset, also
one that a leap flag of the master announces, pends until the grain of its instant (log 96). APPLY copies a shadow table whose every slot is
valid, in force from the next site frame on (log 95). A slot that is due begins once, in its first grain, and does its work: SCRUB its chunk,
TELEM its samples with the time of the slot, WEAR a rotation that is due, CALIB and NONE nothing that shows. Derived from 13_site_time R439,
13_site_time R440, 13_site_time R441, 13_site_time R442, 13_site_time R443, 13_site_time R445, 13_site_time R447, 13_site_time R449, 13_site_time
R450, 13_site_time R452, 16_startup R527. -/
def Obligations.SiteTime : Prop :=
  (∀ (s : State) (now : Nat) (d : Nat) (o : Int), s.timeSrc = 0 → d = s.regF (aTime 0x100) 8 8 → s.regB (aTime 0x104) 3 → s.tmFirst →
    ∃ t, exec (.ptpSync d now o) s = .next t ∧ t.clk.now = (((s.atTime now).clk.now : Int) + o).toNat ∧ t.tmFirst = false ∧ t.tmLost = false ∧
    t.slotAt = none ∧ t.weirS = s.weirS) ∧
  (∀ (s : State) (now : Nat) (d : Nat) (o : Int), s.timeSrc = 0 → d = s.regF (aTime 0x100) 8 8 → s.regB (aTime 0x104) 3 → s.tmFirst = false →
    s.timeState ≠ 3 → ∃ t, exec (.ptpSync d now o) s = .next t ∧ t.clk = (s.atTime now).clk ∧ t.freeCtr = s.freeCtr + 1 ∧
    ((t.reg (aTime 0x11C)).toInt ≤ 10000000 ∧ -10000000 ≤ (t.reg (aTime 0x11C)).toInt)) ∧
  (∀ (s : State) (now : Nat) (d : Nat) (o : Int), s.timeSrc = 0 → d = s.regF (aTime 0x100) 8 8 → s.regB (aTime 0x104) 3 → s.tmFirst = false →
    s.timeState = 3 → ∃ t, exec (.ptpSync d now o) s = .next t ∧ t.clk = (s.atTime now).clk ∧ t.reg (aTime 0x11C) = s.reg (aTime 0x11C)) ∧
  (∀ (s : State) (now : Nat) (d u m : Nat) (o l : Int), d ≠ s.regF (aTime 0x100) 8 8 → exec (.ptpSync d now o) s = .next s ∧
    exec (.ptpAnnounce d now u l m) s = .next s) ∧
  (∀ (s : State) (now : Nat) (d u m : Nat), s.timeSrc = 0 → d = s.regF (aTime 0x100) 8 8 → s.regB (aTime 0x100) 17 = false →
    ∃ t, exec (.ptpAnnounce d now u 0 m) s = .next t ∧ t.regB (aTime 0x104) 3 = true ∧ t.regF (aTime 0x120) 0 16 = u % 65536 ∧
    t.tmLost = false ∧ t.clk = (s.atTime now).clk) ∧
  (∀ (s : State) (now : Nat) (d u m : Nat), s.timeSrc = 0 → d = s.regF (aTime 0x100) 8 8 → s.regB (aTime 0x100) 17 = false → u < 65535 →
    m < 2 ^ 64 → ∃ t, exec (.ptpAnnounce d now u 1 m) s = .next t ∧ t.regN (aTime 0x124) = 2 ^ 31 + u + 1 ∧ t.reg64 (aTime 0x128) = grain m) ∧
  (∀ (s : State) (now : Nat) (v t0 : Nat), s.timeSrc = 1 → s.tmFirst → s.ppsSet = some (v, t0) →
    reached (s.atTime now).clk.now (t0 + 1000000) → ∃ t, exec (.ppsEdge now true) s = .next t ∧ t.clk.now = v ∧ t.ppsMark = v ∧
    t.tmFirst = false ∧ t.regB (aTime 0x104) 5 = true) ∧
  (∀ (s : State) (now : Nat) (x : Bool), s.timeSrc ≠ 1 →
    exec (.ppsEdge now x) s = .next ({ ((s.atTime now).setB (aTime 0x104) 4 true).setB (aTime 0x104) 5 x with ppsLast := some (max now s.clk.now) } : State)) ∧
  (∀ (s : State) (now : Nat), (s.tmFirst = false ∨ s.ppsSet = none) →
    exec (.ppsEdge now false) s = .next (({ ((s.atTime now).setB (aTime 0x104) 4 true).setB (aTime 0x104) 5 false with ppsLast := some (max now s.clk.now) } : State))) ∧
  (∀ (s : State) (now : Nat) (x : Bool) (v t0 : Nat), s.timeSrc = 1 → s.tmFirst → s.ppsSet = some (v, t0) →
    reached (s.atTime now).clk.now (t0 + 1000000) = false →
    exec (.ppsEdge now x) s = .next ({ ((s.atTime now).setB (aTime 0x104) 4 true).setB (aTime 0x104) 5 x with ppsLast := some (max now s.clk.now) } : State)) ∧
  (∀ (s : State) (now : Nat) (v t0 : Nat), s.timeSrc = 1 → s.tmFirst → s.ppsSet = some (v, t0) →
    reached (s.atTime now).clk.now (t0 + 1000000) →
    exec (.ppsEdge now false) s = .next { ({ ((s.atTime now).setB (aTime 0x104) 4 true).setB (aTime 0x104) 5 false with ppsLast := some (max now s.clk.now) } : State) with ppsSet := some (v + 1000000000, t0) }) ∧
  (∀ (s : State) (now : Nat), s.timeSrc = 1 → s.timeState = 2 → ∃ t, exec (.ref10Loss now) s = .next t ∧ t.timeState = 3 ∧ t.tmLost = true ∧
    t.holdAt = (s.atTime now).clk.now ∧ t.regB (aTime 0x104) 5 = false) ∧
  (∀ (s : State) (now : Nat), s.timeSrc = 0 → s.timeState = 2 → ∃ t, exec (.sourceLost now) s = .next t ∧ t.timeState = 3 ∧ t.tmLost = true ∧
    t.regB (aTime 0x104) 3 = false) ∧
  (∀ (s : State) (now : Nat) (t0 : Nat), s.timeSrc = 1 → s.timeState = 2 → s.ppsLast = some t0 →
    inWindow (max now s.clk.now) t0 2000000000 = false → ∃ t, exec (.sourceLost now) s = .next t ∧ t.timeState = 3 ∧ t.tmLost = true ∧
    t.regB (aTime 0x104) 4 = false) ∧
  (∀ (s : State) (now : Nat) (t0 : Nat), s.timeSrc = 1 → s.ppsLast = some t0 → inWindow (max now s.clk.now) t0 2000000000 →
    exec (.sourceLost now) s = .next s) ∧
  (∀ (s : State) (now : Nat), s.timeSrc = 2 → exec (.sourceLost now) s = .next s) ∧
  (∀ (s : State) (now : Nat), s.timeSrc = 0 → s.timeState ≠ 2 → ∃ t, exec (.sourceLost now) s = .next t ∧ t.timeState = s.timeState ∧
    t.tmLost = true) ∧
  (∀ (s : State) (now : Nat), s.timeState = 3 → inWindow (max now s.clk.now) s.holdAt (s.regF (aTime 0x130) 0 17 * 1000000000) = false →
    ∃ t, exec (.holdoverTimeout now) s = .next t ∧ t.timeState = 4 ∧ t.tmIn = 0) ∧
  (∀ (s : State) (v : W32), s.served → s.timeSrc ≠ 2 → fld v 0 2 = 2 → bitOf v 16 = false → ∃ t, exec (.stCtlWrite v) s = .next t ∧
    t.timeSrc = 2 ∧ t.timeState = 0 ∧ t.clk = s.clk ∧ t.tmFirst = false) ∧
  (∀ (s : State) (v : W32), s.served → fld v 0 2 = 3 → bitOf v 16 = false → ∃ t, exec (.stCtlWrite v) s = .next t ∧ t.timeSrc = s.timeSrc ∧
    t.timeState = s.timeState ∧ t.clk = s.clk) ∧
  (∀ (s : State) (v : W32), s.served → fld v 0 2 = s.timeSrc → bitOf v 16 = false → fld v 8 8 ≠ s.regF (aTime 0x100) 8 8 →
    ∃ t, exec (.stCtlWrite v) s = .next t ∧ t.regB (aTime 0x104) 3 = false ∧ t.regF (aTime 0x100) 8 8 = fld v 8 8 ∧ t.timeSrc = s.timeSrc) ∧
  (∀ (s : State), s.served → s.timeSrc = 2 → ∃ t, exec .reacquire s = .next t ∧ t.clk.now = s.reg64 (aTime 0x110) ∧ t.slotAt = none ∧
    t.weirS = s.weirS) ∧
  (∀ (s : State), s.served → s.timeSrc ≠ 2 → ∃ t, exec .reacquire s = .next t ∧ t.timeState = 1 ∧ t.tmFirst = true ∧ t.clk = s.clk) ∧
  (∀ (s : State) (hi lo : W32), s.served → look? s.staged (aTime 0x110) = some lo → s.timeSrc ≠ 1 → ∃ t, exec (.timeSet hi) s = .next t ∧
    t.reg64 (aTime 0x110) = lo.toNat + 2 ^ 32 * hi.toNat ∧ look? t.staged (aTime 0x110) = none ∧ t.clk = s.clk) ∧
  (∀ (s : State) (now : Nat), s.regB (aTime 0x124) 31 → s.reg64 (aTime 0x128) ≤ grain (s.atTime now).clk.now →
    ∃ t, exec (.utcOffsetChange now) s = .next t ∧ t.regF (aTime 0x120) 0 16 = s.regF (aTime 0x124) 0 16 ∧ t.regB (aTime 0x124) 31 = false) ∧
  (∀ (s : State) (now : Nat), grain (s.atTime now).clk.now < s.reg64 (aTime 0x128) → exec (.utcOffsetChange now) s = .next (s.atTime now)) ∧
  (∀ (s : State), s.served → (∀ n, n < 125 → slotValid (s.regN (aBg (0x200 + 4 * n)))) → ∃ t, exec .apply s = .next t ∧
    t.bgNext = some ((List.range 125).map (fun n => (n, s.regN (aBg (0x200 + 4 * n))))) ∧ t.bgTable = s.bgTable ∧ t.regB (aBg 0x104) 7 = true) ∧
  (∀ (s : State) (n : Nat), s.served → n < 125 → slotValid (s.regN (aBg (0x200 + 4 * n))) = false → exec .apply s = .next (s.ignored clsBg 0)) ∧
  (∀ (s t : State) (now : Nat) (r : Readings), s.slotDue now → reached now s.clk.now →
    t = ({ (s.atTime now).utcApply with slotAt := some now } : State) → now % 1000000 ≠ 0 → t.regB (aBg 0x100) 1 = false →
    exec (.slotStart now r) s = .next t) ∧
  (∀ (s t : State) (now : Nat) (r : Readings), s.slotDue now → reached now s.clk.now →
    t = ({ (s.atTime now).utcApply with slotAt := some now } : State) → now % 1000000 = 0 → t.bgTake.regB (aBg 0x100) 1 = false →
    exec (.slotStart now r) s = .next t.bgTake) ∧
  (∀ (s t : State) (now w : Nat) (r : Readings), s.slotDue now → reached now s.clk.now →
    t = ({ (s.atTime now).utcApply with slotAt := some now } : State) → now % 1000000 ≠ 0 → t.regB (aBg 0x100) 1 →
    look (slotReset (now % 1000000 / 8000)) t.bgTable (now % 1000000 / 8000) = w → nfld w 0 4 = 0 → exec (.slotStart now r) s = .next t) ∧
  (∀ (s t : State) (now w : Nat) (r : Readings), s.slotDue now → reached now s.clk.now →
    t = ({ (s.atTime now).utcApply with slotAt := some now } : State) → now % 1000000 ≠ 0 → t.regB (aBg 0x100) 1 →
    look (slotReset (now % 1000000 / 8000)) t.bgTable (now % 1000000 / 8000) = w → nfld w 0 4 = 1 →
    exec (.slotStart now r) s = .next (t.scrubChunk (nfld w 4 8) (r.getD 0 0))) ∧
  (∀ (s t : State) (now w : Nat) (r : Readings), s.slotDue now → reached now s.clk.now →
    t = ({ (s.atTime now).utcApply with slotAt := some now } : State) → now % 1000000 ≠ 0 → t.regB (aBg 0x100) 1 →
    look (slotReset (now % 1000000 / 8000)) t.bgTable (now % 1000000 / 8000) = w → nfld w 0 4 = 2 → exec (.slotStart now r) s = .next t) ∧
  (∀ (s t : State) (now w : Nat) (r : Readings), s.slotDue now → reached now s.clk.now →
    t = ({ (s.atTime now).utcApply with slotAt := some now } : State) → now % 1000000 ≠ 0 → t.regB (aBg 0x100) 1 →
    look (slotReset (now % 1000000 / 8000)) t.bgTable (now % 1000000 / 8000) = w → nfld w 0 4 = 3 →
    exec (.slotStart now r) s = .next (t.telemSample (nfld w 4 8) now r)) ∧
  (∀ (s t : State) (now w : Nat) (r : Readings), s.slotDue now → reached now s.clk.now →
    t = ({ (s.atTime now).utcApply with slotAt := some now } : State) → now % 1000000 ≠ 0 → t.regB (aBg 0x100) 1 →
    look (slotReset (now % 1000000 / 8000)) t.bgTable (now % 1000000 / 8000) = w → nfld w 0 4 = 4 →
    exec (.slotStart now r) s = .next (t.wearSlot now)) ∧
  (∀ (s : State) (now p : Nat) (r : Readings), p < 24 → s.fitted p → (s.telemSample 63 now r).regN (aStk p 0x104) = r.getD p 0 % 256 ∧
    (s.telemSample 63 now r).reg64 (aBg (0x400 + 8 * 63)) = now % 2 ^ 64) ∧
  (∀ (s : State) (now : Nat) (r : Readings), (s.telemSample 64 now r).coolant = (r.getD 3 0, r.getD 4 0, r.getD 5 0) ∧
    (s.telemSample 64 now r).regN (aWeir 0x114) = r.getD 0 0 % 65536) ∧
  (∀ (s : State) (now : Nat), (s.regB 0x200 8 && s.fwRuns && reached now s.wearDue) = false → s.wearSlot now = s) ∧
  (∀ (s : State) (now : Nat), s.regB 0x200 8 → s.fwRuns → reached now s.wearDue → now < s.wearDue + s.wearGap → s.wearNext < 62 →
    s.wearSlot now = ({ s with wearDue := s.wearDue + s.wearGap, wearNext := s.wearNext + 1 } : State).wearStart s.wearNext) ∧
  (∀ (s : State) (now : Nat) (r : Readings), (s.slotDue now = false ∨ reached now s.clk.now = false) → exec (.slotStart now r) s = .next s)

/-- NOP, KEY_EK, KEY_LOAD, RANK_WRITE, GROUP_WRITE and MEMBER_WRITE. The command in the watched slot of an ON engine is taken; one whose operands and
state allow it has its effect and a DONE record with code 0 and its RESULT, one that is rejected changes nothing but TAKEN_SEQ, the reject count
and its record. KEY_EK fails with AUTH_FAIL where the random source does. KEY_LOAD takes the key that R224 accepts, and drops the request either
way. RANK_WRITE and MEMBER_WRITE write each entry, GROUP_WRITE word 1 and then word 0. While IDE_REQ asks for a Secure stream and none covers a
command's buffer in host memory, the command waits in its slot (the model's choice, log 66). Derived from 14_host_commands R467, 14_host_commands
R472, 14_host_commands R477, 14_host_commands R478, 07_headwater R224, 09_eztex_collectives R316, 09_eztex_collectives R332. -/
def Obligations.ShortCommands : Prop :=
  (∀ (s : State) (ctx : Nat) (b : List Byte), ctx ≤ 16 → s.cmdReady ctx = some b → at' b 0 1 = 1 → (s.cmdTake ctx b).cmdReason ctx b = 0 →
    exec (.nopCommand ctx) s = .next ((s.cmdTake ctx b).cmdDone ctx b 0 0 [])) ∧
  (∀ (s : State) (ctx : Nat) (b : List Byte), ctx ≤ 16 → s.cmdReady ctx = some b → at' b 0 1 ∉ cmdOpcodes →
    exec (.nopCommand ctx) s = .next ((s.cmdTake ctx b).cmdReject ctx b 1)) ∧
  (∀ (s : State) (ctx : Nat), ctx ≤ 16 → s.cmdReady ctx = none → exec (.nopCommand ctx) s = .next s ∧ exec (.fusedRun ctx) s = .next s ∧
    exec (.cancel ctx) s = .next s) ∧
  (∀ (s : State) (ctx : Nat) (b : List Byte) (a n : Nat), ctx ≤ 16 → s.cmdReady ctx = some b →
    (at' b 0 1, a, n) ∈ [(0x10, at' b 16 8, 4917), (0x11, at' b 16 8, 1664), (0x18, at' b 16 8, 4 * at' b 14 2), (0x1A, at' b 24 8, 2 * at' b 16 2), (0x23, at' b 16 8, 2048)] →
    s.ideOk ctx a n = false → exec (.keyEk ctx true) s = .next s ∧ exec (.keyLoad ctx) s = .next s ∧ exec (.rankWrite ctx) s = .next s ∧
    exec (.memberWrite ctx) s = .next s ∧ exec (.jobStart ctx) s = .next s) ∧
  (∀ (s : State) (ctx : Nat) (b : List Byte), ctx ≤ 16 → s.cmdReady ctx = some b → at' b 0 1 = 16 → (s.cmdTake ctx b).cmdReason ctx b = 0 →
    s.ideOk ctx (at' b 16 8) 4917 → at' b 12 1 ≤ 1 → (s.cmdTake ctx b).ptFlag ctx 1 → (s.cmdTake ctx b).lcState = 2 →
    at' b 16 8 + 4917 ≤ 2 ^ 64 →
    exec (.keyEk ctx true) s = .next (((s.cmdTake ctx b).keyEk ctx (at' b 12 1) (at' b 16 8)).cmdDone ctx b 0 0 (leBytes 4 4917))) ∧
  (∀ (s : State) (ctx : Nat) (b : List Byte), ctx ≤ 16 → s.cmdReady ctx = some b → at' b 0 1 = 16 → (s.cmdTake ctx b).cmdReason ctx b = 0 →
    s.ideOk ctx (at' b 16 8) 4917 → at' b 12 1 ≤ 1 → (s.cmdTake ctx b).ptFlag ctx 1 → (s.cmdTake ctx b).lcState = 2 →
    at' b 16 8 + 4917 ≤ 2 ^ 64 →
    exec (.keyEk ctx false) s = .next (((s.cmdTake ctx b).incSat (rg clsSec 0 0x114)).cmdDone ctx b cAuthFail 0 [])) ∧
  (∀ (s : State) (ctx : Nat) (b : List Byte), ctx ≤ 16 → s.cmdReady ctx = some b → at' b 0 1 = 17 → (s.cmdTake ctx b).cmdReason ctx b = 0 →
    s.ideOk ctx (at' b 16 8) 1664 → at' b 12 1 ≤ 1 → (s.cmdTake ctx b).ptFlag ctx 1 → at' b 16 8 + 1664 ≤ 2 ^ 64 →
    exec (.keyLoad ctx) s = .next (match (s.cmdTake ctx b).keyOpen ctx (at' b 12 1) (readBytes s.host (at' b 16 8) 1664) with | some k => ((({ (s.cmdTake ctx b) with keyReqs := del s.keyReqs (2 * ctx + at' b 12 1), hwKeys := put s.hwKeys (2 * ctx + at' b 12 1) k } : State).setB (aHwc ctx 4) (2 * at' b 12 1 + 1) true).cmdDone ctx b 0 0 (leBytes 4 (at' (readBytes s.host (at' b 16 8) 1664) 8 4))) | none => (({ (s.cmdTake ctx b) with keyReqs := del s.keyReqs (2 * ctx + at' b 12 1) } : State).cmdDone ctx b cAuthFail 0 []))) ∧
  (∀ (s : State) (ctx : Nat) (b : List Byte) (j : Nat), ctx ≤ 16 → s.cmdReady ctx = some b → at' b 0 1 = 24 →
    (s.cmdTake ctx b).cmdReason ctx b = 0 → s.ideOk ctx (at' b 16 8) (4 * at' b 14 2) → 1 ≤ at' b 14 2 → at' b 14 2 ≤ 1024 →
    at' b 12 2 + at' b 14 2 ≤ 16384 → (s.cmdTake ctx b).ptFlag ctx 3 → (s.cmdTake ctx b).jobOf ctx = some j → at' b 16 8 % 4 = 0 →
    at' b 16 8 + 4 * at' b 14 2 ≤ 2 ^ 64 →
    exec (.rankWrite ctx) s = .next (((List.range (at' b 14 2)).foldl (fun s i => s.setRegN (aRank j (at' b 12 2 + i)) (leNat (readBytes s.host (at' b 16 8 + 4 * i) 4) &&& 0x80007FFF)) (s.cmdTake ctx b)).cmdDone ctx b 0 0 [])) ∧
  (∀ (s : State) (ctx : Nat) (b : List Byte) (j : Nat), ctx ≤ 16 → s.cmdReady ctx = some b → at' b 0 1 = 25 →
    (s.cmdTake ctx b).cmdReason ctx b = 0 → at' b 12 2 < 4096 → (s.cmdTake ctx b).ptFlag ctx 3 → (s.cmdTake ctx b).jobOf ctx = some j →
    at' b 20 4 / 2 ^ 20 % 4 = j → (s.cmdTake ctx b).groupValid (at' b 12 2) = false →
    exec (.groupWrite ctx) s = .next ((((s.cmdTake ctx b).groupWord1 (at' b 12 2) (BitVec.ofNat 32 (at' b 16 4))).groupWord0 (at' b 12 2) (BitVec.ofNat 32 (at' b 20 4))).cmdDone ctx b 0 0 (leBytes 4 ((((s.cmdTake ctx b).groupWord1 (at' b 12 2) (BitVec.ofNat 32 (at' b 16 4))).groupWord0 (at' b 12 2) (BitVec.ofNat 32 (at' b 20 4))).regN (rg clsGroup 0 0x100))))) ∧
  (∀ (s : State) (ctx : Nat) (b : List Byte), ctx ≤ 16 → s.cmdReady ctx = some b → at' b 0 1 = 26 → (s.cmdTake ctx b).cmdReason ctx b = 0 →
    s.ideOk ctx (at' b 24 8) (2 * at' b 16 2) → 1 ≤ at' b 16 2 → at' b 16 2 ≤ 2048 → (s.cmdTake ctx b).ptFlag ctx 3 →
    (s.cmdTake ctx b).regF (aCe ctx 0x128) 0 18 ≤ at' b 12 4 →
    at' b 12 4 + at' b 16 2 ≤ (s.cmdTake ctx b).regF (aCe ctx 0x128) 0 18 + (s.cmdTake ctx b).regF (aCe ctx 0x12C) 0 19 →
    at' b 12 4 + at' b 16 2 ≤ 262144 → at' b 24 8 % 2 = 0 → at' b 24 8 + 2 * at' b 16 2 ≤ 2 ^ 64 →
    exec (.memberWrite ctx) s = .next (((List.range (at' b 16 2)).foldl (fun s i => s.memberWrite (at' b 12 4 + i) (leNat (readBytes s.host (at' b 24 8 + 2 * i) 2))) (s.cmdTake ctx b)).cmdDone ctx b 0 0 []))

/-- IMAGE_LOAD, FUSED_RUN, CHECKPOINT, JOB_START, WEIGHT_SWAP, REGION_REMAP, STACK_SCRUB_FULL, SELF_TEST, WIPE and FW_UPDATE are accepted. A long
command whose operands and state allow it opens an operation with a new handle and an ACCEPTED record, and then: an image load waits for the run
lists before it, a run list joins the sequence at the OPN that R255 allows, a checkpoint becomes a commit point, a job start begins its broadcast,
a swap begins at layer 0; the others change nothing yet (REGION_REMAP has read its list, log 80; a WIPE acts at its end, log 81). A run list of no
entries is rejected with reason 1, an image or a run list that cannot be reached with reason 8. Derived from 14_host_commands R473,
14_host_commands R478, 14_host_commands R481, 08_fused_attention R254, 08_fused_attention R255, 07_headwater R242, 11_resilience R376,
11_resilience R378. -/
def Obligations.LongCommands : Prop :=
  (∀ (s : State) (ctx : Nat) (b : List Byte), ctx ≤ 16 → s.cmdReady ctx = some b → at' b 0 1 = 32 → (s.cmdTake ctx b).cmdReason ctx b = 0 →
    (s.cmdTake ctx b).mayRun ctx → (s.cmdTake ctx b).vaReach ctx (at' b 16 8) (at' b 24 4) →
    exec (.imageLoad ctx) s = .next (((((s.cmdTake ctx b).openLong ctx b 0 []).2.setSeqr ctx { ((s.cmdTake ctx b).openLong ctx b 0 []).2.seqr ctx with loads := (((s.cmdTake ctx b).openLong ctx b 0 []).2.seqr ctx).loads ++ [{ handle := ((s.cmdTake ctx b).openLong ctx b 0 []).1, va := at' b 16 8, len := at' b 24 4, after := ((match (((s.cmdTake ctx b).openLong ctx b 0 []).2.seqr ctx).alt with | some n => some n | none => (((s.cmdTake ctx b).openLong ctx b 0 []).2.seqr ctx).tail).getD 0), begun := false, image := [], done := 0 }] })).imgPump ctx)) ∧
  (∀ (s : State) (ctx : Nat) (b : List Byte), ctx ≤ 16 → s.cmdReady ctx = some b → at' b 0 1 = 32 → (s.cmdTake ctx b).cmdReason ctx b = 0 →
    (s.cmdTake ctx b).mayRun ctx → (s.cmdTake ctx b).vaReach ctx (at' b 16 8) (at' b 24 4) = false →
    exec (.imageLoad ctx) s = .next ((s.cmdTake ctx b).cmdReject ctx b 8)) ∧
  (∀ (s : State) (ctx : Nat) (b : List Byte) (n : Nat), ctx ≤ 16 → s.cmdReady ctx = some b → at' b 0 1 = 33 →
    (s.cmdTake ctx b).cmdReason ctx b = 0 → 1 ≤ at' b 24 4 → at' b 24 4 ≤ 65536 → (s.cmdTake ctx b).mayRun ctx → at' b 16 8 % 128 = 0 →
    (s.cmdTake ctx b).vaReach ctx (at' b 16 8) (128 * at' b 24 4) → (s.cmdTake ctx b).runStart ctx (at' b 28 4) = some n →
    ((s.cmdTake ctx b).openLong ctx b (n + at' b 24 4) []).2.runStart ctx (at' b 28 4) = some n →
    exec (.fusedRun ctx) s = .next (((s.cmdTake ctx b).openLong ctx b (n + at' b 24 4) []).2.runAppend ctx ((s.cmdTake ctx b).openLong ctx b (n + at' b 24 4) []).1 (at' b 16 8) (at' b 24 4) n)) ∧
  (∀ (s : State) (ctx : Nat) (b : List Byte), ctx ≤ 16 → s.cmdReady ctx = some b → at' b 0 1 = 33 → (s.cmdTake ctx b).cmdReason ctx b = 0 →
    1 ≤ at' b 24 4 → at' b 24 4 ≤ 65536 → (s.cmdTake ctx b).mayRun ctx →
    (s.cmdTake ctx b).vaReach ctx (at' b 16 8) (128 * at' b 24 4) = false →
    exec (.fusedRun ctx) s = .next ((s.cmdTake ctx b).cmdReject ctx b 8)) ∧
  (∀ (s : State) (ctx : Nat) (b : List Byte), ctx ≤ 16 → s.cmdReady ctx = some b → at' b 0 1 = 33 → (s.cmdTake ctx b).cmdReason ctx b = 0 →
    at' b 24 4 = 0 → exec (.fusedRun ctx) s = .next ((s.cmdTake ctx b).cmdReject ctx b 1)) ∧
  (∀ (s : State) (ctx : Nat) (b : List Byte), ctx ≤ 16 → s.cmdReady ctx = some b → at' b 0 1 = 34 → (s.cmdTake ctx b).cmdReason ctx b = 0 →
    (s.cmdTake ctx b).mayRun ctx →
    exec (.checkpoint ctx) s = .next ((((s.cmdTake ctx b).openLong ctx b 0 []).2.setSeqr ctx { ((s.cmdTake ctx b).openLong ctx b 0 []).2.seqr ctx with points := addPoint ⟨((s.cmdTake ctx b).openLong ctx b 0 []).2.pointOpn ctx, ((s.cmdTake ctx b).openLong ctx b 0 []).1, false, []⟩ (((s.cmdTake ctx b).openLong ctx b 0 []).2.seqr ctx).points, boundaries := ins (((s.cmdTake ctx b).openLong ctx b 0 []).2.seqr ctx).boundaries (((s.cmdTake ctx b).openLong ctx b 0 []).2.pointOpn ctx) }).pointsDone ctx)) ∧
  (∀ (s : State) (ctx : Nat) (b : List Byte) (j : Nat), ctx ≤ 16 → s.cmdReady ctx = some b → at' b 0 1 = 35 →
    (s.cmdTake ctx b).cmdReason ctx b = 0 → s.ideOk ctx (at' b 16 8) 2048 → (s.cmdTake ctx b).ptFlag ctx 3 →
    (s.cmdTake ctx b).jobOf ctx = some j → (s.cmdTake ctx b).selfRank j = 0 → (s.cmdTake ctx b).jobState j = 0 →
    ((s.cmdTake ctx b).boundDigest ctx).isSome → at' b 16 8 + 2048 ≤ 2 ^ 64 →
    exec (.jobStart ctx) s = .next (((s.cmdTake ctx b).openLong ctx b 0 []).2.bcastRoot ((((s.cmdTake ctx b).openLong ctx b 0 []).2.jobOf ctx).getD 0) ((s.cmdTake ctx b).openLong ctx b 0 []).1 (readBytes ((s.cmdTake ctx b).openLong ctx b 0 []).2.host (at' b 16 8) 2048))) ∧
  (∀ (s : State) (ctx : Nat) (b : List Byte), ctx ≤ 16 → s.cmdReady ctx = some b → at' b 0 1 = 36 → (s.cmdTake ctx b).cmdReason ctx b = 0 →
    at' b 12 1 ≤ 1 → (s.cmdTake ctx b).manOk ctx 0 → (s.cmdTake ctx b).manOk ctx 1 → (s.cmdTake ctx b).keyOk ctx 0 →
    (s.cmdTake ctx b).keyOk ctx 1 → (s.cmdTake ctx b).genOf ctx 0 ≠ (s.cmdTake ctx b).genOf ctx 1 → (s.cmdTake ctx b).hwSwap ctx = 0 →
    exec (.weightSwap ctx) s = .next ((({ (((((((s.cmdTake ctx b).openLong ctx b 0 []).2.setF (aHwc ctx 4) 5 2 1).setB (aHwc ctx 4) 7 (at' b 12 1 == 1)).setF (aHwc ctx 4) 8 16 0).setReg64 (aHwc ctx 0x20) (grain (at' b 16 8)))) with frontGo := rem ((s.cmdTake ctx b).openLong ctx b 0 []).2.frontGo ctx } : State)).hwcSync ctx)) ∧
  (∀ (s : State) (ctx : Nat) (b : List Byte) (l : List Byte), ctx ≤ 16 → s.cmdReady ctx = some b → at' b 0 1 = 37 →
    (s.cmdTake ctx b).cmdReason ctx b = 0 → 1 ≤ at' b 24 2 → at' b 24 2 ≤ 1024 → at' b 48 4 ≤ 65536 → (s.cmdTake ctx b).rstate ctx = 2 →
    at' b 28 8 % 128 = 0 → at' b 40 8 % 128 = 0 → (at' b 36 4 = 0 ∨ (s.cmdTake ctx b).vaReach ctx (at' b 28 8) (128 * at' b 36 4)) →
    (at' b 48 4 = 0 ∨ (s.cmdTake ctx b).vaReach ctx (at' b 40 8) (128 * at' b 48 4)) →
    ((s.cmdTake ctx b).vaRead ctx (at' b 16 8) (16 * at' b 24 2)).1 = .inr l →
    ((remapEntries l (at' b 24 2)).all (fun e => rectOk e.2.1 e.2.2.1 e.2.2.2.1 e.2.2.2.2)) →
    exec (.regionRemap ctx) s = .next ((((s.cmdTake ctx b).openLong ctx b 0 (flatEntries (remapEntries l (at' b 24 2)))).2.vaRead ctx (at' b 16 8) (16 * at' b 24 2)).2)) ∧
  (∀ (s : State) (ctx : Nat) (b : List Byte), ctx ≤ 16 → s.cmdReady ctx = some b → at' b 0 1 = 48 → (s.cmdTake ctx b).cmdReason ctx b = 0 →
    1 ≤ at' b 12 1 → at' b 12 1 ≤ 8 → exec (.stackScrubFull ctx) s = .next ((s.cmdTake ctx b).openLong ctx b 0 []).2) ∧
  (∀ (s : State) (ctx : Nat) (b : List Byte), ctx ≤ 16 → s.cmdReady ctx = some b → at' b 0 1 = 49 → (s.cmdTake ctx b).cmdReason ctx b = 0 →
    at' b 16 8 < 2 ^ 63 → (∀ r ∈ bitsSet 63 (at' b 16 8), (s.cmdTake ctx b).reachUsed r = false) →
    exec (.selfTest ctx) s = .next ((s.cmdTake ctx b).openLong ctx b 0 (bitsSet 63 (at' b 16 8))).2) ∧
  (∀ (s : State) (ctx : Nat) (b : List Byte), ctx ≤ 16 → s.cmdReady ctx = some b → at' b 0 1 = 50 → (s.cmdTake ctx b).cmdReason ctx b = 0 →
    at' b 12 1 ≤ 16 → at' b 13 1 ≤ 7 → (s.cmdTake ctx b).ptFlag (at' b 12 1) 0 → (s.cmdTake ctx b).pst clsXl (at' b 12 1) = stOff →
    ((s.cmdTake ctx b).eng (at' b 12 1)).ops = [] →
    exec (.wipe ctx) s = .next ((s.cmdTake ctx b).openLong ctx b 0 (if (at' b 13 1).testBit 0 then (List.range 24).filter (fun p => (s.cmdTake ctx b).fitted p && (s.cmdTake ctx b).isOn clsStack p) else [])).2) ∧
  (∀ (s : State) (ctx : Nat) (b : List Byte), ctx ≤ 16 → s.cmdReady ctx = some b → at' b 0 1 = 51 → (s.cmdTake ctx b).cmdReason ctx b = 0 →
    0x1500 ≤ at' b 24 4 → at' b 24 4 ≤ 32 * 2 ^ 20 → (∀ o ∈ ((s.cmdTake ctx b).eng ctx).ops, o.opcode ≠ 0x33) →
    at' b 16 8 + at' b 24 4 ≤ 2 ^ 64 → exec (.fwUpdate ctx) s = .next ((s.cmdTake ctx b).openLong ctx b 0 []).2)

/-- SUSPEND, RESUME, CANCEL, suspend points, ends, deadlines and progress of long operations. SUSPEND of a running operation makes it pend, where its
rule allows it; RESUME lets it run; CANCEL is refused where its rule refuses it (in which states is log 71). At a suspend point a pending one is
suspended and reports so. An operation with suspend points that was cancelled ends at the next one with its code. At its deadline an operation is
cancelled, or runs on with a record where it cannot be. Every 100 ms an open operation reports its progress. Derived from 14_host_commands R475,
14_host_commands R477, 14_host_commands R482, 14_host_commands R483, 14_host_commands R484, 14_host_commands R485. -/
def Obligations.LongOperations : Prop :=
  (∀ (s : State) (ctx : Nat) (b : List Byte) (o : LongOp), ctx ≤ 16 → s.cmdReady ctx = some b → at' b 0 1 = 2 →
    (s.cmdTake ctx b).cmdReason ctx b = 0 → at' b 2 2 ≠ 0 → (s.cmdTake ctx b).longOp? ctx (at' b 2 2) = some o → o.state = 0 →
    o.opcode ∉ [0x20, 0x22, 0x23, 0x32] →
    exec (.suspend ctx) s = .next (((s.cmdTake ctx b).cmdDone ctx b 0 0 []).modLong ctx o.handle (fun o => { o with state := 1 }))) ∧
  (∀ (s : State) (ctx : Nat) (b : List Byte) (o : LongOp), ctx ≤ 16 → s.cmdReady ctx = some b → at' b 0 1 = 2 →
    (s.cmdTake ctx b).cmdReason ctx b = 0 → at' b 2 2 ≠ 0 → (s.cmdTake ctx b).longOp? ctx (at' b 2 2) = some o → o.state = 0 →
    o.opcode ∈ [0x20, 0x22, 0x23, 0x32] → exec (.suspend ctx) s = .next ((s.cmdTake ctx b).cmdReject ctx b 6)) ∧
  (∀ (s : State) (ctx : Nat) (b : List Byte) (o : LongOp), ctx ≤ 16 → s.cmdReady ctx = some b → at' b 0 1 = 3 →
    (s.cmdTake ctx b).cmdReason ctx b = 0 → at' b 2 2 ≠ 0 → (s.cmdTake ctx b).longOp? ctx (at' b 2 2) = some o → (o.state = 1 ∨ o.state = 2) →
    o.opcode ≠ 0x24 →
    exec (.resume ctx) s = .next (((s.cmdTake ctx b).cmdDone ctx b 0 0 []).modLong ctx o.handle (fun o => { o with state := 0 }))) ∧
  (∀ (s : State) (ctx : Nat) (b : List Byte) (o : LongOp), ctx ≤ 16 → s.cmdReady ctx = some b → at' b 0 1 = 4 →
    (s.cmdTake ctx b).cmdReason ctx b = 0 → at' b 2 2 ≠ 0 → (s.cmdTake ctx b).longOp? ctx (at' b 2 2) = some o → o.state ≠ 3 →
    (s.cmdTake ctx b).cancelRefused ctx o = false →
    exec (.cancel ctx) s = .next (((s.cmdTake ctx b).cmdDone ctx b 0 0 []).cancelNow ctx o false)) ∧
  (∀ (s : State) (ctx : Nat) (b : List Byte) (o : LongOp), ctx ≤ 16 → s.cmdReady ctx = some b → at' b 0 1 = 4 →
    (s.cmdTake ctx b).cmdReason ctx b = 0 → at' b 2 2 ≠ 0 → (s.cmdTake ctx b).longOp? ctx (at' b 2 2) = some o → o.state ≠ 3 →
    (s.cmdTake ctx b).cancelRefused ctx o → exec (.cancel ctx) s = .next ((s.cmdTake ctx b).cmdReject ctx b 7)) ∧
  (∀ (s : State) (ctx : Nat) (b : List Byte), ctx ≤ 16 → s.cmdReady ctx = some b → at' b 0 1 = 4 → (s.cmdTake ctx b).cmdReason ctx b = 0 →
    (s.cmdTake ctx b).longOp? ctx (at' b 2 2) = none → exec (.cancel ctx) s = .next ((s.cmdTake ctx b).cmdReject ctx b 4)) ∧
  (∀ (s : State) (ctx h : Nat) (w : Work) (o : LongOp), ctx ≤ 16 → s.longOp? ctx h = some o → o.state = 1 → s.suspendHere ctx o →
    o.opcode ≠ 0x24 →
    exec (.suspendPointReached ctx h w) s = .next (((s.workTo ctx o w).modLong ctx h (fun o => { o with state := 2 })).progressLong ctx h cSuspended)) ∧
  (∀ (s : State) (ctx h now : Nat) (w : Work) (o : LongOp), ctx ≤ 16 → s.longOp? ctx h = some o → o.state = 0 →
    exec (.longOperationEnd ctx h now w) s = .next ((s.atTime now).finishLong ctx o w)) ∧
  (∀ (s : State) (ctx h now : Nat) (w : Work) (o : LongOp), ctx ≤ 16 → s.longOp? ctx h = some o → o.state = 3 → o.opcode ≠ 0x21 →
    exec (.longOperationEnd ctx h now w) s = .next (((s.atTime now).workTo ctx o w).endAs ctx h o.cancelCode)) ∧
  (∀ (s : State) (ctx h now : Nat) (w : Work) (o : LongOp), ctx ≤ 16 → s.longOp? ctx h = some o → o.state = 2 →
    exec (.longOperationEnd ctx h now w) s = .next s) ∧
  (∀ (s : State) (ctx h now t : Nat) (o : LongOp), ctx ≤ 16 → s.longOp? ctx h = some o → o.state ≠ 3 → o.deadline = some t →
    grain t ≤ grain (max now s.clk.now) → (s.atTime now).cancelRefused ctx o = false →
    exec (.deadlineExpiry ctx h now) s = .next ((s.atTime now).cancelNow ctx o true)) ∧
  (∀ (s : State) (ctx h now t : Nat) (o : LongOp), ctx ≤ 16 → s.longOp? ctx h = some o → o.state ≠ 3 → o.deadline = some t →
    grain t ≤ grain (max now s.clk.now) → (s.atTime now).cancelRefused ctx o →
    exec (.deadlineExpiry ctx h now) s = .next (((s.atTime now).modLong ctx h (fun o => { o with deadline := none })).cairnLog 3 clsCe ctx cDeadline ctx [])) ∧
  (∀ (s : State) (ctx h now : Nat) (w : Work) (o : LongOp), ctx ≤ 16 → s.longOp? ctx h = some o →
    inWindow (max now s.clk.now) o.reportAt 100000000 = false →
    exec (.progressTimer ctx h now w) s = .next (((s.atTime now).workTo ctx o w).progressLong ctx h (if o.state = 2 then cSuspended else 0))) ∧
  (∀ (s : State) (ctx h now : Nat) (w : Work) (o : LongOp), ctx ≤ 16 → s.longOp? ctx h = some o →
    inWindow (max now s.clk.now) o.reportAt 100000000 → exec (.progressTimer ctx h now w) s = .next s)

/-- CQ_HEAD_WRITE, MSI-X, CE_STOP_DONE, FUNCTION_LEVEL_RESET, PCIE_RESET and IDE_INTEGRITY_FAIL. A head write makes room, which waiting records fill.
An unmasked vector sends its pending message once, unless its function is masked or waits for IDE (log 66). A message held back by CQ_MOD goes out
once the interval is over. A stop ends when the records that waited are posted. A reset of a function leaves its engine, its swap and its keys as
after reset (what else it drops is log 68); one of the port also takes the link, the IDE streams, the MSI-X tables and the SPDM session over DOE,
while the one over MCTP stays (log 88). A failed IDE stream is not Secure. Derived from 14_host_commands R462, 14_host_commands R474,
14_host_commands R486, 14_host_commands R488, 15_security R509, 16_startup R522. -/
def Obligations.RingInterruptsAndResets : Prop :=
  (∀ (s : State) (ctx : Nat) (v : W32), ctx ≤ 16 → s.served →
    exec (.cqHeadWrite ctx v) s = .next ((s.setRegN (aCe ctx 0x114) (fld v 0 16)).ceDrain ctx)) ∧
  (∀ (s : State) (ctx : Nat) (v : W32), ctx ≤ 16 → s.served → (s.eng ctx).waiting = [] → ∃ t, exec (.cqHeadWrite ctx v) s = .next t ∧
    t.regN (aCe ctx 0x114) = fld v 0 16 ∧ t.host = s.host ∧ t.out = s.out) ∧
  (∀ (s : State) (ctx now t : Nat), ctx ≤ 16 → (s.eng ctx).owesMsi → (s.eng ctx).lastMsi = some t →
    inWindow (max now s.clk.now) t (s.regF (aCe ctx 0x11C) 20 12 * 1000) = false →
    exec (.msixModerationExpiry ctx now) s = .next (((s.atTime now).setEng ctx { s.eng ctx with owesMsi := false, lastMsi := some (s.atTime now).clk.now }).msiSend ctx (s.regF (aCe ctx 0x11C) 0 7))) ∧
  (∀ (s : State) (fn vec addr data : Nat) (m : Bool), fn ≤ 16 → vec < vecsOf fn →
    look (0, 0, true) s.msix (fn * 128 + vec) = (addr, data, m) → fn * 128 + vec ∈ s.msixPend → fn ∉ s.msixFnMask → s.ideOk fn addr 4 →
    exec (.msixVectorUnmask fn vec) s = .next (({ s with msix := put s.msix (fn * 128 + vec) (addr, data, false), msixPend := rem s.msixPend (fn * 128 + vec) }.emit (.msix fn vec addr data)).tlpOut)) ∧
  (∀ (s : State) (fn vec addr data : Nat) (m : Bool), fn ≤ 16 → vec < vecsOf fn →
    look (0, 0, true) s.msix (fn * 128 + vec) = (addr, data, m) → fn * 128 + vec ∈ s.msixPend →
    (fn ∈ s.msixFnMask ∨ s.ideOk fn addr 4 = false) → ∃ t, exec (.msixVectorUnmask fn vec) s = .next t ∧ fn * 128 + vec ∈ t.msixPend ∧
    t.out = s.out ∧ t.regs = s.regs) ∧
  (∀ (s : State) (fn vec addr data : Nat) (m : Bool), fn ≤ 16 → vec < vecsOf fn →
    look (0, 0, true) s.msix (fn * 128 + vec) = (addr, data, m) → fn * 128 + vec ∉ s.msixPend →
    exec (.msixVectorUnmask fn vec) s = .next { s with msix := put s.msix (fn * 128 + vec) (addr, data, false) }) ∧
  (∀ (s : State) (ctx : Nat), ctx ≤ 16 → s.pst clsCe ctx = stStopping → (s.eng ctx).stopWaits = 0 → s.pendOn clsCe ctx = false →
    ∃ t, exec (.ceStopDone ctx) s = .next t ∧ t.pst clsCe ctx = stOff ∧ t.slotMem = s.slotMem ∧ t.host = s.host) ∧
  (∀ (s : State) (ctx : Nat), 1 ≤ ctx → ctx ≤ 16 → ∃ t, exec (.functionLevelReset ctx) s = .next t ∧ t.eng ctx = Engine.init ∧
    ctx ∉ t.frontGo ∧ t.man ctx 0 = [] ∧ t.man ctx 1 = [] ∧ look? t.hwKeys (2 * ctx) = none ∧ look? t.hwKeys (2 * ctx + 1) = none ∧
    t.seqr ctx = Seqr.init) ∧
  (∀ (s : State) (b : Bool), ∃ t, exec (.pcieReset b) s = .next t ∧ t.regN (rg clsPcie 0 0x100) = 0 ∧ t.regN (rg clsSec 0 0x110) = 0 ∧
    t.msix = [] ∧ t.msixPend = [] ∧ t.msixFnMask = [] ∧ t.ideSel = [] ∧ t.spdmHist = s.spdmHist.filter (fun e => !e.1) ∧ t.perstLow = b ∧
    t.eng 0 = Engine.init) ∧
  (∀ (s : State) (k : Nat), k ≤ 8 → s.regB (rg clsSec 0 0x110) k →
    exec (.ideIntegrityFail k) s = .next (((s.setB (rg clsSec 0 0x110) k false).incSat (rg clsPcie 0 0x114)).cairnLog 5 clsPcie 0 0 noCtx []))

/-- Every SPDM request is answered once while firmware runs. While Warden firmware runs, each request over MCTP, or over DOE while the host link is
up, is answered by one message over the same transport, which the SPDM standard determines (log 7) from the requests before it on that transport,
the request, fresh randomness and what the spec says it carries of the module: the vendor identifier with the four algorithms, the chains, the
measurements or DEVICE_ID. SET_CERTIFICATE installs an offered chain only in DEPLOYED; K_SET_GO makes its stream Secure, over DOE only. Without
firmware nothing answers, and over DOE nothing without a link (log 73). Derived from 15_security R504, 15_security R505, 15_security R506,
15_security R507, 15_security R509. -/
def Obligations.SpdmResponder : Prop :=
  (∀ (s : State) (d : Bool) (r : List Byte), s.fwUp → s.inputStage = 2 → (d = false ∨ s.regB (rg clsPcie 0 0x100) 0 = true) →
    exec (.getVersion d r) s = .next (s.spdmReply d r []) ∧ exec (.getCapabilities d r) s = .next (s.spdmReply d r []) ∧
    exec (.finish d r) s = .next (s.spdmReply d r []) ∧ exec (.keyUpdate d r) s = .next (s.spdmReply d r []) ∧
    exec (.heartbeat d r) s = .next (s.spdmReply d r []) ∧ exec (.endSession d r) s = .next (s.spdmReply d r [])) ∧
  (∀ (s : State) (d : Bool) (r : List Byte), s.fwUp → s.inputStage = 2 → (d = false ∨ s.regB (rg clsPcie 0 0x100) 0 = true) →
    exec (.negotiateAlgorithms d r) s = .next (s.spdmReply d r (leBytes 2 Config.pciVendor ++ [1, 0, 2, 0, 3, 0, 4, 0]))) ∧
  (∀ (s : State) (d : Bool) (r : List Byte), s.fwUp → s.inputStage = 2 → (d = false ∨ s.regB (rg clsPcie 0 0x100) 0 = true) →
    exec (.getDigests d r) s = .next (s.spdmReply d r s.chainBytes) ∧ exec (.getCertificate d r) s = .next (s.spdmReply d r s.chainBytes)) ∧
  (∀ (s : State) (d : Bool) (r : List Byte), s.fwUp → s.inputStage = 2 → (d = false ∨ s.regB (rg clsPcie 0 0x100) 0 = true) →
    exec (.challenge d r) s = .next (s.spdmReply d r (s.chainBytes ++ s.measBytes)) ∧
    exec (.keyExchange d r) s = .next (s.spdmReply d r (s.chainBytes ++ s.measBytes))) ∧
  (∀ (s : State) (d : Bool) (r : List Byte), s.fwUp → s.inputStage = 2 → (d = false ∨ s.regB (rg clsPcie 0 0x100) 0 = true) →
    exec (.getMeasurements d r) s = .next (s.spdmReply d r s.measBytes)) ∧
  (∀ (s : State) (d : Bool) (r : List Byte), s.fwUp → s.inputStage = 2 → (d = false ∨ s.regB (rg clsPcie 0 0x100) 0 = true) →
    exec (.getCsr d r) s = .next (s.spdmReply d r s.deviceId)) ∧
  (∀ (s : State) (d : Bool) (r : List Byte) (x : List Byte), (s.spdmReply d r x).out = s.out ++ [.spdm d (Config.spdmAnswer (s.spdmOn d) r x s.freeCtr)] ∧
    (s.spdmReply d r x).spdmOn d = s.spdmOn d ++ [r] ∧ (s.spdmReply d r x).spdmOn (!d) = s.spdmOn (!d) ∧ (s.spdmReply d r x).regs = s.regs) ∧
  (∀ (s : State) (d : Bool) (r : List Byte), s.fwUp → s.inputStage = 2 → (d = false ∨ s.regB (rg clsPcie 0 0x100) 0 = true) →
    ∃ t, exec (.setCertificate d r) s = .next t ∧ t.spdmOn d = s.spdmOn d ++ [r] ∧
    (t.ownerChain = s.ownerChain ∨ s.lcState = 2 ∧ Config.offeredChain r = some t.ownerChain)) ∧
  (∀ (s : State) (d : Bool) (r : List Byte), s.fwUp → s.inputStage = 2 → (d = false ∨ s.regB (rg clsPcie 0 0x100) 0 = true) → s.lcState ≠ 2 →
    exec (.setCertificate d r) s = .next (s.spdmReply d r [0])) ∧
  (∀ (s : State) (d : Bool) (r : List Byte), s.fwUp → s.inputStage = 2 → (d = false ∨ s.regB (rg clsPcie 0 0x100) 0 = true) →
    exec (.vendorDefinedRequest d r) s = .next (if d = true ∧ Config.spdmAccepts (s.spdmOn d) r = true then (match Config.ideSetGo r with | some k => if k ≤ 8 then ((s.spdmReply d r [1]).setB (rg clsSec 0 0x110) k true).ideWake else s.spdmReply d r [1] | none => s.spdmReply d r [0]) else s.spdmReply d r [0])) ∧
  (∀ (s : State) (d : Bool) (r : List Byte), (s.fwUp = false ∨ s.inputStage ≠ 2 ∨ d = true ∧ s.regB (rg clsPcie 0 0x100) 0 = false) →
    exec (.getVersion d r) s = .next s ∧ exec (.getCapabilities d r) s = .next s ∧ exec (.negotiateAlgorithms d r) s = .next s ∧
    exec (.getDigests d r) s = .next s ∧ exec (.getCertificate d r) s = .next s ∧ exec (.challenge d r) s = .next s ∧
    exec (.getMeasurements d r) s = .next s ∧ exec (.getCsr d r) s = .next s ∧ exec (.setCertificate d r) s = .next s ∧
    exec (.keyExchange d r) s = .next s ∧ exec (.finish d r) s = .next s ∧ exec (.keyUpdate d r) s = .next s ∧
    exec (.heartbeat d r) s = .next s ∧ exec (.endSession d r) s = .next s ∧ exec (.vendorDefinedRequest d r) s = .next s)

/-- Mailbox requests, life-cycle transitions and the flush that ends their first step. A request acts while it is in progress and ends with a code.
RECOVERY_IMAGE takes an image that passes its checks while one is waited for. PARTITION_WRITE keeps a well-formed record, PARTITION_READ writes
the record held to the host. LIFECYCLE begins an allowed transition; without a token that it needs it fails (its code is log 84). The flush done,
the fuse is burnt and the state follows the count. WARM_RESET acts at READY and is held before. The Cairn flush after power fail ends the power.
No request does anything but in its own progress. One with a buffer in host memory waits while context 0 must send in a Secure stream and none
covers the buffer (the model's choice, log 66). Derived from 15_security R491, 15_security R499, 15_security R512, 15_security R513, 16_startup
R533, 16_startup R534, 18_registers R571, 17_cairn R545. -/
def Obligations.MailboxAndTransitions : Prop :=
  (∀ (s : State), s.mbRequest = some 1 → (s.mbLen = 0 ∨ s.ideOk 0 s.mbAddr s.mbLen = true) → s.fetching → s.regB (aMb 0x104) 3 →
    s.mbLen ≤ 32 * 2 ^ 20 →
    exec .recoveryImage s = .next (match s.fwCheck (readBytes s.host s.mbAddr s.mbLen) 1 with | some i => (s.mbEnd 0 0).bootFetched (readBytes s.host s.mbAddr s.mbLen) i | none => s.mbEnd cAuthFail 0)) ∧
  (∀ (s : State), s.mbRequest = some 1 → (s.mbLen = 0 ∨ s.ideOk 0 s.mbAddr s.mbLen = true) → s.fetching = false →
    exec .recoveryImage s = .next (s.mbEnd cMalformed 0)) ∧
  (∀ (s : State), s.mbRequest = some 2 → (s.mbLen = 0 ∨ s.ideOk 0 s.mbAddr s.mbLen = true) → s.fwUp → s.inputStage = 2 → s.stage ≠ 5 →
    s.mbLen = 608 →
    exec .partitionWrite s = .next (if ptRecordOk (readBytes s.host s.mbAddr 608) then ({ s with ptRecord := (readBytes s.host s.mbAddr 608) } : State).mbEnd 0 0 else s.mbEnd cMalformed 0)) ∧
  (∀ (s : State), s.mbRequest = some 3 → (s.mbLen = 0 ∨ s.ideOk 0 s.mbAddr s.mbLen = true) → s.fwUp → s.inputStage = 2 → s.mbLen = 608 →
    s.ptRecord ≠ [] → exec .partitionRead s = .next (({ s with host := writeBytes s.host s.mbAddr s.ptRecord } : State).mbEnd 0 608)) ∧
  (∀ (s : State), s.mbRequest = some 3 → (s.mbLen = 0 ∨ s.ideOk 0 s.mbAddr s.mbLen = true) → s.fwUp → s.inputStage = 2 → s.mbLen = 608 →
    s.ptRecord = [] → exec .partitionRead s = .next (s.mbEnd 0 0)) ∧
  (∀ (s : State), s.mbRequest = some 4 → s.lcPend = none → s.fwUp → s.inputStage = 2 → s.mbLen = 0 → s.lcAllowed (s.mbArg % 8) = some false →
    ∃ t, exec .lifecycle s = .next t ∧ t.lcPend = some (s.mbArg % 8) ∧ t.cairn.flushing = true ∧ t.lcState = s.lcState ∧
    t.lcCount = s.lcCount ∧ t.ptRecord = s.ptRecord) ∧
  (∀ (s : State), s.mbRequest = some 4 → s.lcPend = none → s.fwUp → s.inputStage = 2 → s.mbLen = 0 → s.lcAllowed (s.mbArg % 8) = some true →
    exec .lifecycle s = .next (s.mbEnd cMalformed 0)) ∧
  (∀ (s : State), s.mbRequest = some 4 → (s.mbLen = 0 ∨ s.ideOk 0 s.mbAddr s.mbLen = true) → s.lcPend = none →
    s.lcAllowed (s.mbArg % 8) = none → exec .lifecycle s = .next (s.mbEnd cMalformed 0)) ∧
  (∀ (s : State) (bad : List Nat) (n : Nat), s.cairn.flushing → s.inputStage ≠ 3 → s.lcPend = some n →
    ∃ t, exec (.cairnFlushDone bad) s = .next t ∧ t.lcPend = none ∧ t.lcState = (if n = 4 then 4 else lcOf (s.lcCount + 1)) ∧
    t.regB (aMb 0x104) 0 = false) ∧
  (∀ (s : State) (bad : List Nat), s.cairn.flushing → s.inputStage ≠ 3 → s.lcPend = none →
    exec (.cairnFlushDone bad) s = .next (s.flushAll bad)) ∧
  (∀ (s : State) (bad : List Nat), s.cairn.flushing → s.inputStage = 3 → ∃ t, exec (.cairnFlushDone bad) s = .next t ∧ t.inputStage = 0 ∧
    t.fwUp = false ∧ t.cairn.flushing = false) ∧
  (∀ (s : State), s.mbRequest = some 5 → s.fwUp → s.inputStage = 2 → s.stage = 4 → s.warmHeld = none → s.warmRuns = false →
    ∃ t, exec .warmReset s = .next t ∧ t.warmAt = some s.clk.now ∧ t.ce = [] ∧ t.rills = [] ∧ t.stage = 0 ∧ t.host = s.host) ∧
  (∀ (s : State), s.mbRequest = some 5 → s.fwUp → s.inputStage = 2 → s.stage < 4 → s.warmHeld = none → s.warmRuns = false →
    exec .warmReset s = .next { s.mbEnd 0 0 with warmHeld := some 1 }) ∧
  (∀ (s : State) (op : Nat), s.mbRequest = some op → op ≠ 5 → s.mbLen ≠ 0 → s.ideOk 0 s.mbAddr s.mbLen = false →
    exec .recoveryImage s = .next s ∧ exec .partitionWrite s = .next s ∧ exec .partitionRead s = .next s ∧ exec .lifecycle s = .next s ∧
    exec .warmReset s = .next s) ∧
  (∀ (s : State), s.mbRequest = none → exec .recoveryImage s = .next s ∧ exec .partitionWrite s = .next s ∧ exec .partitionRead s = .next s ∧
    exec .lifecycle s = .next s ∧ exec .warmReset s = .next s)

/-- The boot ROM, firmware starts, READY, the PCIe link, and reads of Cairn records. A warm reset reaches the boot ROM 1 ms after it began. A Warden
restart or a takeover of the standby core ends firmware and leaves rills and packets running. A fetch is retried after 10 s on the other path, or
on the path that BOOT_SRC names (log 83); an image that passes is flashed and booted. A verified image starts, and a start after the first leaves
the rills and the memories as they are; a first start without a Core Map Table halts. READY needs the conditions of R532, and READY_N is low then.
The self-test of a failed core ends once firmware runs; the class of its record is log 85. A FLUSH copies nothing yet. A read searches from RD_SEQ
and RD_MIN_SEV and reports the record found, or none; one asked for while a search runs is ignored. Derived from 15_security R499, 15_security
R500, 15_security R502, 15_security R503, 16_startup R526, 16_startup R529, 16_startup R532, 16_startup R533, 17_cairn R548, 17_cairn R551,
18_registers R573, 19_physical R583. -/
def Obligations.WardenStartsAndCairnReads : Prop :=
  (∀ (s : State) (now : Nat) (t0 : Nat), s.warmAt = some t0 → inWindow (max now s.clk.now) t0 1000000 = false → s.inputStage = 2 →
    exec (.warmResetBoot now) s = .next ((((s.atTime now).warmClear (s.regF 0x108 4 2)).cairnSync).bootRom false)) ∧
  (∀ (s : State) (now : Nat) (t0 : Nat), s.warmAt = some t0 → inWindow (max now s.clk.now) t0 1000000 → exec (.warmResetBoot now) s = .next s) ∧
  (∀ (s : State) (now : Nat), s.fwUp → s.inputStage = 2 → ∃ t, exec (.wardenRestart now) s = .next t ∧ t.fwUp = false ∧
    t.wardenGone = some (s.atTime now).clk.now ∧ t.rills = s.rills ∧ t.net = s.net ∧ t.store = s.store ∧ t.stack = s.stack ∧
    t.regF (aWeir 0x104) 0 2 = 1) ∧
  (∀ (s : State) (now : Nat), s.inputStage = 2 → s.regB (aSec 0x100) 10 → ∃ t, exec (.wardenCoreTakeover now) s = .next t ∧ t.fwUp = false ∧
    t.coreTest = true ∧ t.regB (aSec 0x100) 11 = !s.regB (aSec 0x100) 11 ∧ t.regB (aSec 0x100) 10 = false ∧ t.rills = s.rills) ∧
  (∀ (s : State), s.coreTest → s.fwUp →
    exec (.standbyCoreTestDone true) s = .next (({ s with coreTest := false } : State).setB (aSec 0x100) 10 true) ∧
    exec (.standbyCoreTestDone false) s = .next ((({ s with coreTest := false } : State).setB (aSec 0x100) 10 false).cairnLog 6 clsGlobal 0 0 noCtx [])) ∧
  (∀ (s : State) (now : Nat), s.fetching → inWindow (max now s.clk.now) s.fetchAt 10000000000 = false →
    ∃ t, exec (.recoveryFetchRetry now) s = .next t ∧ t.fetching = true ∧ t.fetchAt = (s.atTime now).clk.now ∧
    t.regB (aMb 0x104) 3 = (if s.bootSrc = 1 ∨ s.bootSrc = 2 then s.regB (aMb 0x104) 3 else !s.regB (aMb 0x104) 3)) ∧
  (∀ (s : State) (path : Nat) (b : List Byte), s.fetching → (path = 1 ∧ s.regB (aMb 0x104) 3 ∨ path = 2 ∧ s.regB (aMb 0x104) 3 = false) →
    exec (.recoveryFetchDone path b) s = .next (match s.fwCheck b path with | some i => s.bootFetched b i | none => s)) ∧
  (∀ (s : State) (now : Nat) (i : BootImg), s.boot = some i → s.fwUp = false → s.inputStage = 2 →
    ∃ t, exec (.firmwareStart now) s = .next t ∧ t.fwUp = true ∧ t.boot = none ∧ t.running = some i ∧ t.wardenGone = none) ∧
  (∀ (s : State) (now : Nat) (i : BootImg), s.boot = some i → s.fwUp = false → s.inputStage = 2 → s.regB (aSec 0x100) 8 → s.startPend = [] →
    ∃ t, exec (.firmwareStart now) s = .next t ∧ t.rills = s.rills ∧ t.net = s.net ∧ t.store = s.store ∧ t.pool = s.pool ∧ t.stack = s.stack ∧
    t.seqrs = s.seqrs) ∧
  (∀ (s : State) (now : Nat) (i : BootImg), s.boot = some i → s.fwUp = false → s.inputStage = 2 → s.regB (aSec 0x100) 8 = false →
    s.cmtCopy = none → s.lcState ≠ 3 → ∃ t, exec (.firmwareStart now) s = .next t ∧ t.fwUp = true ∧ t.stage = 5) ∧
  (∀ (s : State) (p : Nat), p < 252 → p ∈ s.testing → ∃ t, exec (.startupTestDone p []) s = .next t ∧ t.testing = rem s.testing p ∧
    t.regs = s.regs) ∧
  (∀ (s : State) (now : Nat), s.fwUp → 1 ≤ s.stage ∧ s.stage ≤ 3 → s.readyOk → s.warmHeld = none → ∃ t, exec (.ready now) s = .next t ∧
    t.stage = 4 ∧ t.warmAt = s.warmAt ∧ t.readyN = false) ∧
  (∀ (s : State) (now : Nat), s.readyOk = false → exec (.ready now) s = .next s) ∧
  (∀ (s : State), exec .perstNRelease s = .next { s with perstLow := false }) ∧
  (∀ (s : State) (w r : Nat), s.inputStage = 2 → s.perstLow = false → s.regB (rg clsPcie 0 0x100) 0 = false → w ≤ 2 → r ≤ 2 →
    min 2 (nfld (s.regN 0x104) 5 2) ≤ w →
    exec (.pcieLinkUp w r (r == 2)) s = .next (s.setF (rg clsPcie 0 0x100) 0 6 (1 + 2 * w + 8 * r + 32 * b2n (r == 2)))) ∧
  (∀ (s : State), s.served → ∃ t, exec .flush s = .next t ∧ t.cairn = { s.cairn with flushing := true }) ∧
  (∀ (s : State), s.served → s.regB (aCairn 0x17C) 0 = false → ∃ t, exec .cairnRead s = .next t ∧
    t.cairn.reading = some (s.reg64 (aCairn 0x170), s.regF (aCairn 0x178) 8 3) ∧ t.regB (aCairn 0x17C) 0 = true ∧
    t.regB (aCairn 0x17C) 1 = false) ∧
  (∀ (s : State), s.served → s.regB (aCairn 0x17C) 0 → exec .cairnRead s = .next (s.ignored clsCairn 0)) ∧
  (∀ (s : State) (q m : Nat) (r : CairnRec) (fl : Bool), s.cairn.reading = some (q, m) → s.cairnPick q m = some (r, fl) → r.seq < 2 ^ 64 →
    q ≤ r.seq ∧ m ≤ r.sev ∧ ∃ t, exec .cairnReadDone s = .next t ∧ t.cairn.reading = none ∧ t.reg64 (aCairn 0x180) = r.seq ∧
    t.regN (aCairn 0x17C) = 6 + 8 * b2n fl) ∧
  (∀ (s : State) (q m : Nat), s.cairn.reading = some (q, m) → s.cairnPick q m = none → ∃ t, exec .cairnReadDone s = .next t ∧
    t.cairn.reading = none ∧ t.regN (aCairn 0x17C) = 2)

/-- Gauges, requests to pages, register writes, cages and the coolant alarm. A gauge that no collective has claimed takes its control word, and takes
its other registers while it does not count either; a LO word waits for its HI word. At a chunk boundary the running value moves to G_CHUNK and
starts again. EN_REQ, STOP_REQ and ISOLATE move a page as R562 says. A write sets the RW fields and clears the W1C bits written 1; a short one is
ignored whole; a function writes its own command slots and PF0 no other; one with an ATS translation type is an Unsupported Request, and one
outside the Secure stream that IDE_REQ asks for is discarded. A cage tells what it holds; a removed link module faults its link, a removed port
module its port (log 35). A coolant alarm is recorded. Derived from 05_streams R169, 05_streams R171, 05_streams R173, 05_streams R176, 05_streams
R177, 14_host_commands R460, 14_host_commands R465, 18_registers R552, 18_registers R553, 18_registers R562, 19_physical R577, 19_physical R585. -/
def Obligations.GaugesPagesAndCages : Prop :=
  (∀ (s : State) (ep g : Nat) (v : W32), ep < 36 → g < 8 → s.served → s.regB (aGauge ep g 0xC) 2 = false → 64 ≤ fld v 8 13 →
    fld v 8 13 ≤ 4096 → fld v 8 13 % 64 = 0 → ∃ t, exec (.gaugeCtlWrite ep g v) s = .next t ∧ t.reg (aGauge ep g 0) = v &&& 0x001FFF07 ∧
    t.reg64 (aGauge ep g 0x10) = s.reg64 (aGauge ep g 0x10) ∧ t.reg64 (aGauge ep g 0x18) = s.reg64 (aGauge ep g 0x18) ∧
    t.reg (aGauge ep g 4) = s.reg (aGauge ep g 4)) ∧
  (∀ (s : State) (ep g : Nat) (off : Nat) (v : W32), ep < 36 → g < 8 → off ∈ [4, 8, 0x10, 0x14, 0x18, 0x1C] → s.served →
    s.regB (aGauge ep g 0xC) 2 → exec (.gaugeCtlWrite ep g v) s = .next ((s.setB (aGauge ep g 0xC) 3 true).ignored clsGauge ep) ∧
    exec (.gaugeWrite ep g off v) s = .next ((s.setB (aGauge ep g 0xC) 3 true).ignored clsGauge ep)) ∧
  (∀ (s : State) (ep g : Nat), ep < 36 → g < 8 → look [] s.gaugePend (ep * 8 + g) = [] → ep * 8 + g ∉ s.gaugeDue →
    exec (.gaugeEnChange ep g) s = .next (s.setB (aGauge ep g 0xC) 0 (s.regB (aGauge ep g 0) 0 && s.isOn clsGauge ep && !s.regB (aGauge ep g 0xC) 1))) ∧
  (∀ (s : State) (ep g : Nat) (v : W32), ep < 36 → g < 8 → s.served → s.regB (aGauge ep g 0xC) 0 = false →
    s.regB (aGauge ep g 0xC) 2 = false → ∃ t, exec (.gaugeWrite ep g 4 v) s = .next t ∧ t.reg (aGauge ep g 4) = v &&& 0x0000FFF7 ∧
    t.regB (aGauge ep g 0xC) 1 = !gaugeSelOk ep v) ∧
  (∀ (s : State) (ep g : Nat) (off : Nat) (lo hi : W32), ep < 36 → g < 8 → (off = 0x10 ∨ off = 0x18) → s.served →
    s.regB (aGauge ep g 0xC) 0 = false → s.regB (aGauge ep g 0xC) 2 = false → ∃ t u, exec (.gaugeWrite ep g off lo) s = .next t ∧
    t.reg64 (aGauge ep g off) = s.reg64 (aGauge ep g off) ∧ exec (.gaugeWrite ep g (off + 4) hi) t = .next u ∧
    u.reg64 (aGauge ep g off) = lo.toNat + 2 ^ 32 * hi.toNat) ∧
  (∀ (s : State) (ep g : Nat) (off : Nat) (v : W32), ep < 36 → g < 8 → off ∈ [4, 8, 0x10, 0x14, 0x18, 0x1C] → s.served →
    s.regB (aGauge ep g 0xC) 0 → exec (.gaugeWrite ep g off v) s = .next ((s.setB (aGauge ep g 0xC) 3 true).ignored clsGauge ep)) ∧
  (∀ (s : State) (ep g : Nat), g < 8 → s.regB (aGauge ep g 0) 1 = false → s.pageWord clsGauge ep (0x100 + 0x40 * g + 0x14) = 0) ∧
  (∀ (s : State) (ep g : Nat), ep < 36 → g < 8 → ep * 8 + g ∈ s.gaugeDue → look [] s.gaugePend (ep * 8 + g) = [] →
    ∃ t, exec (.gaugeChunkBoundary ep g) s = .next t ∧
    t.reg64 (aGauge ep g 0x20) = (if s.regB (aGauge ep g 0) 1 then s.reg64 (aGauge ep g 0x10) else s.regN (aGauge ep g 0x10)) ∧
    (if s.regB (aGauge ep g 0) 1 then t.reg64 (aGauge ep g 0x10) = 0 else t.regN (aGauge ep g 0x10) = 0xFFFFFFFF) ∧
    t.regN (aGauge ep g 0x28) = (s.regN (aGauge ep g 0x28) + 1) % 2 ^ 32) ∧
  (∀ (s : State) (ep g : Nat) (b : List Byte), look [] s.gaugePend (ep * 8 + g) = [] → ep * 8 + g ∉ s.gaugeDue →
    s.regB (aGauge ep g 0) 2 = false → (s.gaugeBytes ep g b).reg64 (aGauge ep g 0x18) = (s.reg64 (aGauge ep g 0x18) + b.length) % 2 ^ 64 ∧
    (s.gaugeBytes ep g b).gaugeDue = s.gaugeDue) ∧
  (∀ (s : State) (c : Nat), c < 17 → s.responds 0 (rg clsXl c 0) → s.pst clsXl c = stOff →
    exec (.enReq (rg clsXl c 0)) s = .next (s.setPst clsXl c stStarting)) ∧
  (∀ (s : State) (c : Nat), c < 17 → s.responds 0 (rg clsXl c 0) → s.pst clsXl c = stStopping →
    exec (.enReq (rg clsXl c 0)) s = .next (s.setPendOn clsXl c true) ∧ exec (.stopReq (rg clsXl c 0)) s = .next (s.setPendOn clsXl c false)) ∧
  (∀ (s : State) (c : Nat), c < 17 → s.responds 0 (rg clsXl c 0) → s.pst clsXl c = stOn →
    exec (.stopReq (rg clsXl c 0)) s = .next (s.setPst clsXl c stStopping)) ∧
  (∀ (s : State) (l : Nat), l < 76 → s.responds 0 (rg clsLink l 0) →
    exec (.isolate (rg clsLink l 0)) s = .next (if s.pst clsLink l = stOff then s.setPst clsLink l stIsolated else if s.pst clsLink l = stIsolated then s else s.ignored clsLink l)) ∧
  (∀ (s : State) (c : Nat), c < 17 → s.responds 0 (rg clsXl c 0) → exec (.isolate (rg clsXl c 0)) s = .next (s.ignored clsXl c)) ∧
  (∀ (s : State) (p off : Nat) (v : W32) (tlp : Tlp), p < 24 → off % 4 = 0 → 0x100 ≤ off → off < 0x1000 → s.fnUp 0 → s.stage = 4 →
    tlp.ats = false → s.ideIn 0 tlp →
    exec (.registerWrite 0 (rg clsStack p off) (leBytes 4 v.toNat) tlp) s = .next (s.tlpIn.plainWrite clsStack p off v)) ∧
  (∀ (s : State) (cls inst off : Nat) (v : W32), pairLo cls inst off ≠ some true → (off < 4 ∨ pairLo cls inst (off - 4) ≠ some true) →
    (s.plainWrite cls inst off v).reg (rg cls inst off) = ((s.reg (rg cls inst off) &&& ~~~(BitVec.ofNat 32 (rwMask cls inst off))) ||| (v &&& BitVec.ofNat 32 (rwMask cls inst off))) &&& ~~~(v &&& BitVec.ofNat 32 (w1cMask cls inst off)) ∧
    ∀ a, a ≠ rg cls inst off → (s.plainWrite cls inst off v).reg a = s.reg a) ∧
  (∀ (s : State) (p off : Nat) (x y : Byte) (tlp : Tlp), p < 24 → off < 0x1000 → s.fnUp 0 → s.stage = 4 → tlp.ats = false → s.ideIn 0 tlp →
    exec (.registerWrite 0 (rg clsStack p off) [x, y] tlp) s = .next (s.tlpIn.ignored clsStack p)) ∧
  (∀ (s : State) (fn o : Nat) (b : List Byte) (tlp : Tlp), 1 ≤ fn → fn ≤ 16 → o < 0x4000 → b ≠ [] → o / 64 = (o + b.length - 1) / 64 →
    s.fnUp fn → s.stage = 4 → tlp.ats = false → s.ideIn fn tlp →
    (∃ t, exec (.registerWrite fn (0x1000 + o) b tlp) s = .next t ∧ t.slotMem = writeBytes s.slotMem (fn * 0x4000 + o) b) ∧
    exec (.registerWrite 0 (rg clsCe fn 0x1000 + o) b tlp) s = .next s.tlpIn) ∧
  (∀ (s : State) (fn off : Nat) (b : List Byte) (tlp : Tlp), fn < 17 → s.fnUp fn = false → exec (.registerWrite fn off b tlp) s = .next s) ∧
  (∀ (s : State) (fn off : Nat) (b : List Byte) (tlp : Tlp), fn < 17 → s.fnUp fn → s.stage ≠ 6 → tlp.ats →
    exec (.registerWrite fn off b tlp) s = .next (s.tlpIn.incSat (rg clsPcie 0 0x110))) ∧
  (∀ (s : State) (fn off : Nat) (b : List Byte) (tlp : Tlp), fn < 17 → s.fnUp fn → s.stage ≠ 6 → tlp.ats = false →
    bitOf (s.reg (aPt fn 0)) 4 → inBar off → (tlp.ide = none ∨ ∃ k, tlp.ide = some k ∧ s.regB (rg clsSec 0 0x110) k = false) →
    exec (.registerWrite fn off b tlp) s = .next s.tlpIn) ∧
  (∀ (s : State) (n : Nat), n < 32 → exec (.cageInsert false n) s = .next (s.setB (aPort n 0x104) 1 true)) ∧
  (∀ (s : State) (n : Nat), n < 76 → exec (.cageInsert true n) s = .next s) ∧
  (∀ (s : State) (n now : Nat), n < 76 → s.pst clsLink n ∈ [stOn, stStarting, stStopping] →
    exec (.cageRemove true n now) s = .next ((s.atTime now).linkFault n 7)) ∧
  (∀ (s : State) (n : Nat), n < 76 → (s.pst clsLink n = stOn ∨ s.pst clsLink n = stStarting ∧ s.pendOff clsLink n = false) →
    (s.linkFault n 7).pst clsLink n = stFaulted) ∧
  (∀ (s : State) (n now : Nat), n < 32 → (s.pst clsPort n = stOn ∨ s.pst clsPort n = stStarting ∧ s.pendOff clsPort n = false) →
    ∃ t, exec (.cageRemove false n now) s = .next t ∧ t.regB (aPort n 0x104) 1 = false ∧ t.pst clsPort n = stFaulted) ∧
  (∀ (s : State) (n now : Nat), n < 76 → s.pst clsLink n ∉ [stOn, stStarting, stStopping] →
    exec (.cageRemove true n now) s = .next (s.atTime now)) ∧
  (∀ (s : State) (i f ms : Nat), s.inputStage = 2 → (420 < i ∨ f < 320) → 1000 ≤ ms →
    exec (.coolantAlarm i f ms) s = .next (s.cairnLog 5 clsWeir 0 0 noCtx [])) ∧
  (∀ (s : State) (i f ms : Nat), i ≤ 420 → 320 ≤ f → exec (.coolantAlarm i f ms) s = .next s)

/-- A STACK page that a translation set names is not stopped; a faulted stack is trained afresh. STOP_REQ on a STACK page is ignored, and ERR_SUMMARY
bit 0 is set, while any context whose TRANSLATION page is not OFF has a valid set that names the position. EN_REQ on a FAULTED stack puts its page
into STARTING, the state of training. Formalises 06_stacks_translation R189. -/
def Obligations.StackPageInUse : Prop :=
  (∀ (s : State) (p c k : Nat), p < 24 → s.responds 0 (rg clsStack p 0) → c < 17 → k < 4 → s.pst clsXl c ≠ stOff →
    bitOf (s.reg (aXl c (0x108 + 4 * k))) 31 → bitOf (s.reg (aXl c (0x108 + 4 * k))) p →
    exec (.stopReq (rg clsStack p 0)) s = .next (s.errBit clsStack p 0)) ∧
  (∀ (s : State) (p : Nat), p < 24 → s.responds 0 (rg clsStack p 0) → s.fitted p → s.pst clsStack p = stFaulted →
    exec (.enReq (rg clsStack p 0)) s = .next (s.setPst clsStack p stStarting)) ∧
  (∀ (s : State) (p : Nat), p < 24 → s.responds 0 (rg clsStack p 0) → s.pst clsStack p = stOff → (∀ c, c < 17 → s.pst clsXl c = stOff) →
    exec (.stopReq (rg clsStack p 0)) s = .next s)

/-- CSRW of RX_BASE and RX_LEN faults in the cases of R30 and in no other. A CSRW to RX_BASE or RX_LEN faults the slot with ILLEGAL, and has no
effect, where the receive ring holds a message, the value is not a multiple of 64, an RX_BASE value is 0xC000 or above, the sum of the value and
the other register exceeds 0xC000, or RX_LEN would not be 0 and the ring would overlap the ring of a stream queue that is not OFF. Otherwise the
value is written, the other of the two registers, memory and the host registers stay, and PC moves on by 8. The other register holds a value that
R30 allows, as in every state that a run reaches. Formalises 02_rill_cores R30. -/
def Obligations.ReceiveRingWrites : Prop :=
  (∀ (s : State) (a : SlotId), s.canIssue a 0x81 → wf (s.wordNow a) 0 12 = 0x008 →
    ((s.rill (slotK a)).rx ≠ [] ∨ (s.src1 a).toNat % 64 ≠ 0 ∨ 0xC000 ≤ (s.src1 a).toNat ∨ 0xC000 < (s.src1 a).toNat + (s.rill (slotK a)).rxLen ∨ (s.rill (slotK a)).rxLen ≠ 0 ∧ ∃ g ∈ (s.rill (slotK a)).ringsOf none, 0 < g.2 ∧ (s.src1 a).toNat < g.1 + g.2 ∧ g.1 < (s.src1 a).toNat + (s.rill (slotK a)).rxLen) →
    exec (.csrw a) s = .next (s.traps a fIllegal)) ∧
  (∀ (s : State) (a : SlotId), s.canIssue a 0x81 → wf (s.wordNow a) 0 12 = 0x009 →
    ((s.rill (slotK a)).rx ≠ [] ∨ (s.src1 a).toNat % 64 ≠ 0 ∨ 0xC000 < (s.rill (slotK a)).rxBase + (s.src1 a).toNat ∨ (s.src1 a).toNat ≠ 0 ∧ ∃ g ∈ (s.rill (slotK a)).ringsOf none, 0 < g.2 ∧ (s.rill (slotK a)).rxBase < g.1 + g.2 ∧ g.1 < (s.rill (slotK a)).rxBase + (s.src1 a).toNat) →
    exec (.csrw a) s = .next (s.traps a fIllegal)) ∧
  (∀ (s : State) (a : SlotId), s.canIssue a 0x81 → wf (s.wordNow a) 0 12 = 0x008 → (s.rill (slotK a)).rxLen % 64 = 0 →
    (s.rill (slotK a)).rx = [] → (s.src1 a).toNat % 64 = 0 → (s.src1 a).toNat < 0xC000 →
    (s.src1 a).toNat + (s.rill (slotK a)).rxLen ≤ 0xC000 →
    ((s.rill (slotK a)).rxLen = 0 ∨ ¬ ∃ g ∈ (s.rill (slotK a)).ringsOf none, 0 < g.2 ∧ (s.src1 a).toNat < g.1 + g.2 ∧ g.1 < (s.src1 a).toNat + (s.rill (slotK a)).rxLen) →
    ∃ t, exec (.csrw a) s = .next t ∧ (t.rill (slotK a)).rxBase = (s.src1 a).toNat ∧ (t.rill (slotK a)).rxLen = (s.rill (slotK a)).rxLen ∧
    (t.slotNow a).pc = (s.slotNow a).pc + 8 ∧ t.store = s.store ∧ t.regs = s.regs) ∧
  (∀ (s : State) (a : SlotId), s.canIssue a 0x81 → wf (s.wordNow a) 0 12 = 0x009 → (s.rill (slotK a)).rxBase % 64 = 0 →
    (s.rill (slotK a)).rxBase < 0xC000 → (s.rill (slotK a)).rx = [] → (s.src1 a).toNat % 64 = 0 →
    (s.rill (slotK a)).rxBase + (s.src1 a).toNat ≤ 0xC000 →
    ((s.src1 a).toNat = 0 ∨ ¬ ∃ g ∈ (s.rill (slotK a)).ringsOf none, 0 < g.2 ∧ (s.rill (slotK a)).rxBase < g.1 + g.2 ∧ g.1 < (s.rill (slotK a)).rxBase + (s.src1 a).toNat) →
    ∃ t, exec (.csrw a) s = .next t ∧ (t.rill (slotK a)).rxLen = (s.src1 a).toNat ∧ (t.rill (slotK a)).rxBase = (s.rill (slotK a)).rxBase ∧
    (t.slotNow a).pc = (s.slotNow a).pc + 8 ∧ t.store = s.store ∧ t.regs = s.regs) ∧
  (∀ (s : State) (a : SlotId) (g : Nat × Nat), s.canIssue a 0x81 → wf (s.wordNow a) 0 12 = 0x009 → g ∈ (s.rill (slotK a)).ringsOf none →
    0 < g.2 → 0 < (s.src1 a).toNat → (s.rill (slotK a)).rxBase < g.1 + g.2 → g.1 < (s.rill (slotK a)).rxBase + (s.src1 a).toNat →
    exec (.csrw a) s = .next (s.traps a fIllegal))
end

