-- ==== Sys2Proof/Laws/Exec.lean ====
section
/-! SUPPORT. `exec` of each command is its meaning: one lemma for each constructor of Instr. -/

namespace Sys2Proof.Machine

variable (s : State)

@[simp] theorem exec_add (a : SlotId) : exec (.add a) s = execAdd a s := rfl
@[simp] theorem exec_sub (a : SlotId) : exec (.sub a) s = execSub a s := rfl
@[simp] theorem exec_and (a : SlotId) : exec (.and a) s = execAnd a s := rfl
@[simp] theorem exec_or (a : SlotId) : exec (.or a) s = execOr a s := rfl
@[simp] theorem exec_xor (a : SlotId) : exec (.xor a) s = execXor a s := rfl
@[simp] theorem exec_shl (a : SlotId) : exec (.shl a) s = execShl a s := rfl
@[simp] theorem exec_shr (a : SlotId) : exec (.shr a) s = execShr a s := rfl
@[simp] theorem exec_sra (a : SlotId) : exec (.sra a) s = execSra a s := rfl
@[simp] theorem exec_mul (a : SlotId) : exec (.mul a) s = execMul a s := rfl
@[simp] theorem exec_mulhu (a : SlotId) : exec (.mulhu a) s = execMulhu a s := rfl
@[simp] theorem exec_cmpeq (a : SlotId) : exec (.cmpeq a) s = execCmpeq a s := rfl
@[simp] theorem exec_cmplt (a : SlotId) : exec (.cmplt a) s = execCmplt a s := rfl
@[simp] theorem exec_cmpltu (a : SlotId) : exec (.cmpltu a) s = execCmpltu a s := rfl
@[simp] theorem exec_addi (a : SlotId) : exec (.addi a) s = execAddi a s := rfl
@[simp] theorem exec_andi (a : SlotId) : exec (.andi a) s = execAndi a s := rfl
@[simp] theorem exec_ori (a : SlotId) : exec (.ori a) s = execOri a s := rfl
@[simp] theorem exec_xori (a : SlotId) : exec (.xori a) s = execXori a s := rfl
@[simp] theorem exec_shli (a : SlotId) : exec (.shli a) s = execShli a s := rfl
@[simp] theorem exec_shri (a : SlotId) : exec (.shri a) s = execShri a s := rfl
@[simp] theorem exec_movi (a : SlotId) : exec (.movi a) s = execMovi a s := rfl
@[simp] theorem exec_movhi (a : SlotId) : exec (.movhi a) s = execMovhi a s := rfl
@[simp] theorem exec_ld8 (a : SlotId) : exec (.ld8 a) s = execLd8 a s := rfl
@[simp] theorem exec_ld32 (a : SlotId) : exec (.ld32 a) s = execLd32 a s := rfl
@[simp] theorem exec_ld64 (a : SlotId) : exec (.ld64 a) s = execLd64 a s := rfl
@[simp] theorem exec_st8 (a : SlotId) : exec (.st8 a) s = execSt8 a s := rfl
@[simp] theorem exec_st32 (a : SlotId) : exec (.st32 a) s = execSt32 a s := rfl
@[simp] theorem exec_st64 (a : SlotId) : exec (.st64 a) s = execSt64 a s := rfl
@[simp] theorem exec_ldp64 (a : SlotId) : exec (.ldp64 a) s = execLdp64 a s := rfl
@[simp] theorem exec_stp64 (a : SlotId) : exec (.stp64 a) s = execStp64 a s := rfl
@[simp] theorem exec_amoadd (a : SlotId) : exec (.amoadd a) s = execAmoadd a s := rfl
@[simp] theorem exec_amoswap (a : SlotId) : exec (.amoswap a) s = execAmoswap a s := rfl
@[simp] theorem exec_j (a : SlotId) : exec (.j a) s = execJ a s := rfl
@[simp] theorem exec_jr (a : SlotId) : exec (.jr a) s = execJr a s := rfl
@[simp] theorem exec_call (a : SlotId) : exec (.call a) s = execCall a s := rfl
@[simp] theorem exec_beq (a : SlotId) : exec (.beq a) s = execBeq a s := rfl
@[simp] theorem exec_bne (a : SlotId) : exec (.bne a) s = execBne a s := rfl
@[simp] theorem exec_blt (a : SlotId) : exec (.blt a) s = execBlt a s := rfl
@[simp] theorem exec_bltu (a : SlotId) : exec (.bltu a) s = execBltu a s := rfl
@[simp] theorem exec_spawn (a : SlotId) : exec (.spawn a) s = execSpawn a s := rfl
@[simp] theorem exec_exit (a : SlotId) : exec (.exit a) s = execExit a s := rfl
@[simp] theorem exec_exitComplete (a : SlotId) : exec (.exitComplete a) s = execExitComplete a s := rfl
@[simp] theorem exec_yieldOp (a : SlotId) : exec (.yieldOp a) s = execYield a s := rfl
@[simp] theorem exec_yieldExpiry (a : SlotId) (cyc : Nat) : exec (.yieldExpiry a cyc) s = execYieldExpiry a cyc s := rfl
@[simp] theorem exec_waitev (a : SlotId) : exec (.waitev a) s = execWaitev a s := rfl
@[simp] theorem exec_signal (a : SlotId) : exec (.signal a) s = execSignal a s := rfl
@[simp] theorem exec_tclaim (a : SlotId) : exec (.tclaim a) s = execTclaim a s := rfl
@[simp] theorem exec_tfree (a : SlotId) : exec (.tfree a) s = execTfree a s := rfl
@[simp] theorem exec_fence (a : SlotId) : exec (.fence a) s = execFence a s := rfl
@[simp] theorem exec_slotWake (a : SlotId) : exec (.slotWake a) s = execSlotWake a s := rfl
@[simp] theorem exec_tld (a : SlotId) : exec (.tld a) s = execTld a s := rfl
@[simp] theorem exec_tst (a : SlotId) : exec (.tst a) s = execTst a s := rfl
@[simp] theorem exec_tzero (a : SlotId) : exec (.tzero a) s = execTzero a s := rfl
@[simp] theorem exec_tmma (a : SlotId) : exec (.tmma a) s = execTmma a s := rfl
@[simp] theorem exec_tmmas (a : SlotId) : exec (.tmmas a) s = execTmmas a s := rfl
@[simp] theorem exec_tcvt (a : SlotId) : exec (.tcvt a) s = execTcvt a s := rfl
@[simp] theorem exec_vadd (a : SlotId) : exec (.vadd a) s = execVadd a s := rfl
@[simp] theorem exec_vmul (a : SlotId) : exec (.vmul a) s = execVmul a s := rfl
@[simp] theorem exec_vmax (a : SlotId) : exec (.vmax a) s = execVmax a s := rfl
@[simp] theorem exec_vfma (a : SlotId) : exec (.vfma a) s = execVfma a s := rfl
@[simp] theorem exec_vexp2 (a : SlotId) : exec (.vexp2 a) s = execVexp2 a s := rfl
@[simp] theorem exec_vrcp (a : SlotId) : exec (.vrcp a) s = execVrcp a s := rfl
@[simp] theorem exec_vrsqrt (a : SlotId) : exec (.vrsqrt a) s = execVrsqrt a s := rfl
@[simp] theorem exec_vredadd (a : SlotId) : exec (.vredadd a) s = execVredadd a s := rfl
@[simp] theorem exec_vredmax (a : SlotId) : exec (.vredmax a) s = execVredmax a s := rfl
@[simp] theorem exec_vbcast (a : SlotId) : exec (.vbcast a) s = execVbcast a s := rfl
@[simp] theorem exec_unitOpComplete (p : Pos) (u : UnitSel) (slot : Nat) (check : Option Upset) (now : Nat) : exec (.unitOpComplete p u slot check now) s = execUnitOpComplete p u slot check now s := rfl
@[simp] theorem exec_sarm (a : SlotId) : exec (.sarm a) s = execSarm a s := rfl
@[simp] theorem exec_srearm (a : SlotId) : exec (.srearm a) s = execSrearm a s := rfl
@[simp] theorem exec_sstop (a : SlotId) : exec (.sstop a) s = execSstop a s := rfl
@[simp] theorem exec_racq (a : SlotId) : exec (.racq a) s = execRacq a s := rfl
@[simp] theorem exec_rrel (a : SlotId) : exec (.rrel a) s = execRrel a s := rfl
@[simp] theorem exec_send (a : SlotId) : exec (.send a) s = execSend a s := rfl
@[simp] theorem exec_recv (a : SlotId) : exec (.recv a) s = execRecv a s := rfl
@[simp] theorem exec_mfree (a : SlotId) : exec (.mfree a) s = execMfree a s := rfl
@[simp] theorem exec_csrr (a : SlotId) : exec (.csrr a) s = execCsrr a s := rfl
@[simp] theorem exec_csrw (a : SlotId) : exec (.csrw a) s = execCsrw a s := rfl
@[simp] theorem exec_trap (a : SlotId) : exec (.trap a) s = execTrap a s := rfl
@[simp] theorem exec_nop (a : SlotId) : exec (.nop a) s = execNop a s := rfl
@[simp] theorem exec_taskWdExpiry (a : SlotId) (cyc : Nat) : exec (.taskWdExpiry a cyc) s = execTaskWdExpiry a cyc s := rfl
@[simp] theorem exec_rillWdExpiry (p : Pos) : exec (.rillWdExpiry p) s = execRillWdExpiry p s := rfl
@[simp] theorem exec_write (i : Nat) : exec (.write i) s = execWrite i s := rfl
@[simp] theorem exec_read (i : Nat) : exec (.read i) s = execRead i s := rfl
@[simp] theorem exec_readData (i : Nat) : exec (.readData i) s = execReadData i s := rfl
@[simp] theorem exec_ack (i : Nat) : exec (.ack i) s = execAck i s := rfl
@[simp] theorem exec_msg (i : Nat) : exec (.msg i) s = execMsg i s := rfl
@[simp] theorem exec_msgRingEntry (p : Pos) : exec (.msgRingEntry p) s = execMsgRingEntry p s := rfl
@[simp] theorem exec_poolRead (i : Nat) : exec (.poolRead i) s = execPoolRead i s := rfl
@[simp] theorem exec_poolWrite (i : Nat) : exec (.poolWrite i) s = execPoolWrite i s := rfl
@[simp] theorem exec_holePacketArrival (i : Nat) : exec (.holePacketArrival i) s = execHolePacketArrival i s := rfl
@[simp] theorem exec_packetAgeDiscard (i : Nat) (router : Pos) (cyc : Nat) : exec (.packetAgeDiscard i router cyc) s = execPacketAgeDiscard i router cyc s := rfl
@[simp] theorem exec_flitEccError (i : Nat) (router : Pos) (err : FlitError) (now : Nat) : exec (.flitEccError i router err now) s = execFlitEccError i router err now s := rfl
@[simp] theorem exec_memoryUncorrError (p : Pos) (pool : Bool) (line : Nat) (now : Nat) : exec (.memoryUncorrError p pool line now) s = execMemoryUncorrError p pool line now s := rfl
@[simp] theorem exec_spush (i : Nat) : exec (.spush i) s = execSpush i s := rfl
@[simp] theorem exec_sdata (i : Nat) : exec (.sdata i) s = execSdata i s := rfl
@[simp] theorem exec_scredit (i : Nat) : exec (.scredit i) s = execScredit i s := rfl
@[simp] theorem exec_hwConfirm (i : Nat) : exec (.hwConfirm i) s = execHwConfirm i s := rfl
@[simp] theorem exec_ezConfirm (i : Nat) : exec (.ezConfirm i) s = execEzConfirm i s := rfl
@[simp] theorem exec_streamStartDone (p : Pos) (q : Nat) : exec (.streamStartDone p q) s = execStreamStartDone p q s := rfl
@[simp] theorem exec_streamStopDone (p : Pos) (q : Nat) : exec (.streamStopDone p q) s = execStreamStopDone p q s := rfl
@[simp] theorem exec_streamTileIssue (p : Pos) (q : Nat) : exec (.streamTileIssue p q) s = execStreamTileIssue p q s := rfl
@[simp] theorem exec_streamOutInject (p : Pos) (q : Nat) : exec (.streamOutInject p q) s = execStreamOutInject p q s := rfl
@[simp] theorem exec_sread (i : Nat) : exec (.sread i) s = execSread i s := rfl
@[simp] theorem exec_swrite (i : Nat) : exec (.swrite i) s = execSwrite i s := rfl
@[simp] theorem exec_sfill (i : Nat) : exec (.sfill i) s = execSfill i s := rfl
@[simp] theorem exec_sdrain (i : Nat) : exec (.sdrain i) s = execSdrain i s := rfl
@[simp] theorem exec_stackAccessComplete (i : Nat) (corrected : Corrected) : exec (.stackAccessComplete i corrected) s = execStackAccessComplete i corrected s := rfl
@[simp] theorem exec_translationWalkDone (i : Nat) (corrected : Corrected) : exec (.translationWalkDone i corrected) s = execTranslationWalkDone i corrected s := rfl
@[simp] theorem exec_hwOpen (i : Nat) : exec (.hwOpen i) s = execHwOpen i s := rfl
@[simp] theorem exec_hwClose (i : Nat) : exec (.hwClose i) s = execHwClose i s := rfl
@[simp] theorem exec_hwRearm (i : Nat) : exec (.hwRearm i) s = execHwRearm i s := rfl
@[simp] theorem exec_hwSend (i : Nat) : exec (.hwSend i) s = execHwSend i s := rfl
@[simp] theorem exec_fetchIssue (port slot : Nat) : exec (.fetchIssue port slot) s = execFetchIssue port slot s := rfl
@[simp] theorem exec_data (port : Nat) (d : Dgram) : exec (.data port d) s = execData port d s := rfl
@[simp] theorem exec_endMsg (port : Nat) (d : Dgram) : exec (.endMsg port d) s = execEndMsg port d s := rfl
@[simp] theorem exec_gradAck (port : Nat) (d : Dgram) : exec (.gradAck port d) s = execGradAck port d s := rfl
@[simp] theorem exec_fetchRetryTimeout (port slot : Nat) (now : Nat) : exec (.fetchRetryTimeout port slot now) s = execFetchRetryTimeout port slot now s := rfl
@[simp] theorem exec_gradRetryTimeout (n : Nat) (now : Nat) : exec (.gradRetryTimeout n now) s = execGradRetryTimeout n now s := rfl
@[simp] theorem exec_neighbourDiscovery (port : Nat) (body : List Byte) : exec (.neighbourDiscovery port body) s = execNeighbourDiscovery port body s := rfl
@[simp] theorem exec_echoRequest (port : Nat) (body : List Byte) : exec (.echoRequest port body) s = execEchoRequest port body s := rfl
@[simp] theorem exec_pfcPause (port : Nat) (prio : Nat) (pause : Bool) : exec (.pfcPause port prio pause) s = execPfcPause port prio pause s := rfl
@[simp] theorem exec_headwaterLinkDown (port : Nat) (now : Nat) : exec (.headwaterLinkDown port now) s = execHeadwaterLinkDown port now s := rfl
@[simp] theorem exec_headwaterPortUp (port : Nat) (now : Nat) : exec (.headwaterPortUp port now) s = execHeadwaterPortUp port now s := rfl
@[simp] theorem exec_hostFetchReadDone (slot : Nat) (frame : Nat) : exec (.hostFetchReadDone slot frame) s = execHostFetchReadDone slot frame s := rfl
@[simp] theorem exec_hostGradWriteDone (n : Nat) : exec (.hostGradWriteDone n) s = execHostGradWriteDone n s := rfl
@[simp] theorem exec_bind (ctx slot : Nat) : exec (.bind ctx slot) s = execBind ctx slot s := rfl
@[simp] theorem exec_bindDone (ctx slot : Nat) : exec (.bindDone ctx slot) s = execBindDone ctx slot s := rfl
@[simp] theorem exec_frontGo (ctx : Nat) : exec (.frontGo ctx) s = execFrontGo ctx s := rfl
@[simp] theorem exec_layerRebind (ctx : Nat) (now : Nat) : exec (.layerRebind ctx now) s = execLayerRebind ctx now s := rfl
@[simp] theorem exec_ezOpen (i : Nat) : exec (.ezOpen i) s = execEzOpen i s := rfl
@[simp] theorem exec_ezClose (i : Nat) : exec (.ezClose i) s = execEzClose i s := rfl
@[simp] theorem exec_ezRearm (i : Nat) : exec (.ezRearm i) s = execEzRearm i s := rfl
@[simp] theorem exec_ezContrib (i : Nat) (check : Option Upset) : exec (.ezContrib i check) s = execEzContrib i check s := rfl
@[simp] theorem exec_ezSend (i : Nat) : exec (.ezSend i) s = execEzSend i s := rfl
@[simp] theorem exec_opAdmit (ctx : Nat) (now : Nat) : exec (.opAdmit ctx now) s = execOpAdmit ctx now s := rfl
@[simp] theorem exec_slotReservationGrant (now : Nat) : exec (.slotReservationGrant now) s = execSlotReservationGrant now s := rfl
@[simp] theorem exec_reduceFallback (ctx opn : Nat) (now : Nat) : exec (.reduceFallback ctx opn now) s = execReduceFallback ctx opn now s := rfl
@[simp] theorem exec_codewordReceive (link : Nat) (lanes : Lanes) : exec (.codewordReceive link lanes) s = execCodewordReceive link lanes s := rfl
@[simp] theorem exec_idle (link : Nat) : exec (.idle link) s = execIdle link s := rfl
@[simp] theorem exec_ackCredit (link : Nat) : exec (.ackCredit link) s = execAckCredit link s := rfl
@[simp] theorem exec_nak (link : Nat) : exec (.nak link) s = execNak link s := rfl
@[simp] theorem exec_train (link : Nat) (f : TrainFlit) : exec (.train link f) s = execTrain link f s := rfl
@[simp] theorem exec_linkTrainingDone (link : Nat) (now : Nat) : exec (.linkTrainingDone link now) s = execLinkTrainingDone link now s := rfl
@[simp] theorem exec_linkTrainingTimeout (link step : Nat) (now : Nat) : exec (.linkTrainingTimeout link step now) s = execLinkTrainingTimeout link step now s := rfl
@[simp] theorem exec_linkStopDone (link : Nat) : exec (.linkStopDone link) s = execLinkStopDone link s := rfl
@[simp] theorem exec_grant (i : Nat) : exec (.grant i) s = execGrant i s := rfl
@[simp] theorem exec_chunk (i : Nat) (check : Option Upset) : exec (.chunk i check) s = execChunk i check s := rfl
@[simp] theorem exec_count (i : Nat) : exec (.count i) s = execCount i s := rfl
@[simp] theorem exec_abort (i : Nat) : exec (.abort i) s = execAbort i s := rfl
@[simp] theorem exec_p2p (i : Nat) : exec (.p2p i) s = execP2p i s := rfl
@[simp] theorem exec_p2pGrant (i : Nat) : exec (.p2pGrant i) s = execP2pGrant i s := rfl
@[simp] theorem exec_bcastStart (i : Nat) : exec (.bcastStart i) s = execBcastStart i s := rfl
@[simp] theorem exec_bcastOpen (i : Nat) : exec (.bcastOpen i) s = execBcastOpen i s := rfl
@[simp] theorem exec_bcastAbort (i : Nat) : exec (.bcastAbort i) s = execBcastAbort i s := rfl
@[simp] theorem exec_bcastAck (i : Nat) : exec (.bcastAck i) s = execBcastAck i s := rfl
@[simp] theorem exec_bcastTimeout (job : Nat) (now : Nat) : exec (.bcastTimeout job now) s = execBcastTimeout job now s := rfl
@[simp] theorem exec_jobTStart (job : Nat) (now : Nat) : exec (.jobTStart job now) s = execJobTStart job now s := rfl
@[simp] theorem exec_digest (i : Nat) : exec (.digest i) s = execDigest i s := rfl
@[simp] theorem exec_cbar (i : Nat) : exec (.cbar i) s = execCbar i s := rfl
@[simp] theorem exec_wirePacketForward (i : Nat) : exec (.wirePacketForward i) s = execWirePacketForward i s := rfl
@[simp] theorem exec_keyRetentionExpiry (now : Nat) : exec (.keyRetentionExpiry now) s = execKeyRetentionExpiry now s := rfl
@[simp] theorem exec_collMemberLost (ctx opn : Nat) (now : Nat) : exec (.collMemberLost ctx opn now) s = execCollMemberLost ctx opn now s := rfl
@[simp] theorem exec_twinDigestTimeout (ctx opn chunk : Nat) (now : Nat) : exec (.twinDigestTimeout ctx opn chunk now) s = execTwinDigestTimeout ctx opn chunk now s := rfl
@[simp] theorem exec_groupEntryValidate (g : Nat) (word0 : W32) : exec (.groupEntryValidate g word0) s = execGroupEntryValidate g word0 s := rfl
@[simp] theorem exec_jobCtlWrite (job : Nat) (value : W32) : exec (.jobCtlWrite job value) s = execJobCtlWrite job value s := rfl
@[simp] theorem exec_stageWrite (ctx : Nat) (value : W32) : exec (.stageWrite ctx value) s = execStageWrite ctx value s := rfl
@[simp] theorem exec_confluenceRetestDone (t : Nat) (okMask : Nat) : exec (.confluenceRetestDone t okMask) s = execConfluenceRetestDone t okMask s := rfl
@[simp] theorem exec_spareSwap (p : Pos) : exec (.spareSwap p) s = execSpareSwap p s := rfl
@[simp] theorem exec_cmtFlashWriteDone : exec .cmtFlashWriteDone s = execCmtFlashWriteDone s := rfl
@[simp] theorem exec_holdRestore (ctx : Nat) : exec (.holdRestore ctx) s = execHoldRestore ctx s := rfl
@[simp] theorem exec_rebuildListDone (ctx : Nat) (code : Nat) : exec (.rebuildListDone ctx code) s = execRebuildListDone ctx code s := rfl
@[simp] theorem exec_commitPointComplete (ctx : Nat) (now : Nat) : exec (.commitPointComplete ctx now) s = execCommitPointComplete ctx now s := rfl
@[simp] theorem exec_drainHoldResume (ctx : Nat) : exec (.drainHoldResume ctx) s = execDrainHoldResume ctx s := rfl
@[simp] theorem exec_wearSkip (ctx : Nat) (now : Nat) : exec (.wearSkip ctx now) s = execWearSkip ctx now s := rfl
@[simp] theorem exec_inputStageClose (now : Nat) (mv : Nat) : exec (.inputStageClose now mv) s = execInputStageClose now mv s := rfl
@[simp] theorem exec_powerChipletEnable (now : Nat) (capMv : Nat) : exec (.powerChipletEnable now capMv) s = execPowerChipletEnable now capMv s := rfl
@[simp] theorem exec_powerFail (now : Nat) (mv : Nat) (lasted : Nat) : exec (.powerFail now mv lasted) s = execPowerFail now mv lasted s := rfl
@[simp] theorem exec_idealDiodeOpen : exec .idealDiodeOpen s = execIdealDiodeOpen s := rfl
@[simp] theorem exec_powerChipletFail (n : Nat) : exec (.powerChipletFail n) s = execPowerChipletFail n s := rfl
@[simp] theorem exec_pitchIsolate (pitch cause peak now : Nat) : exec (.pitchIsolate pitch cause peak now) s = execPitchIsolate pitch cause peak now s := rfl
@[simp] theorem exec_efuseClear (pitch current : Nat) : exec (.efuseClear pitch current) s = execEfuseClear pitch current s := rfl
@[simp] theorem exec_pitchThermalThrottle (pitch temp : Nat) : exec (.pitchThermalThrottle pitch temp) s = execPitchThermalThrottle pitch temp s := rfl
@[simp] theorem exec_pitchStartDone (pitch now : Nat) : exec (.pitchStartDone pitch now) s = execPitchStartDone pitch now s := rfl
@[simp] theorem exec_pitchPowerGoodTimeout (pitch now : Nat) : exec (.pitchPowerGoodTimeout pitch now) s = execPitchPowerGoodTimeout pitch now s := rfl
@[simp] theorem exec_pitchStopDone (pitch now : Nat) : exec (.pitchStopDone pitch now) s = execPitchStopDone pitch now s := rfl
@[simp] theorem exec_pitchRailTestDone (pitch mv : Nat) : exec (.pitchRailTestDone pitch mv) s = execPitchRailTestDone pitch mv s := rfl
@[simp] theorem exec_weirFrame (b : Nat) (r : WeirReading) : exec (.weirFrame b r) s = execWeirFrame b r s := rfl
@[simp] theorem exec_weirRegulate (now drawnMj : Nat) : exec (.weirRegulate now drawnMj) s = execWeirRegulate now drawnMj s := rfl
@[simp] theorem exec_weirWardenTimeout (now : Nat) : exec (.weirWardenTimeout now) s = execWeirWardenTimeout now s := rfl
@[simp] theorem exec_weirLock : exec .weirLock s = execWeirLock s := rfl
@[simp] theorem exec_weirEnvelopeWrite (off : Nat) (value : W32) : exec (.weirEnvelopeWrite off value) s = execWeirEnvelopeWrite off value s := rfl
@[simp] theorem exec_ptpSync (domain now : Nat) (offset : Int) : exec (.ptpSync domain now offset) s = execPtpSync domain now offset s := rfl
@[simp] theorem exec_ptpAnnounce (domain now : Nat) (utcOffset : Nat) (leap : Int) (midnight : Nat) : exec (.ptpAnnounce domain now utcOffset leap midnight) s = execPtpAnnounce domain now utcOffset leap midnight s := rfl
@[simp] theorem exec_ppsEdge (now : Nat) (ref10 : Bool) : exec (.ppsEdge now ref10) s = execPpsEdge now ref10 s := rfl
@[simp] theorem exec_ref10Loss (now : Nat) : exec (.ref10Loss now) s = execRef10Loss now s := rfl
@[simp] theorem exec_sourceLost (now : Nat) : exec (.sourceLost now) s = execSourceLost now s := rfl
@[simp] theorem exec_holdoverTimeout (now : Nat) : exec (.holdoverTimeout now) s = execHoldoverTimeout now s := rfl
@[simp] theorem exec_stCtlWrite (value : W32) : exec (.stCtlWrite value) s = execStCtlWrite value s := rfl
@[simp] theorem exec_reacquire : exec .reacquire s = execReacquire s := rfl
@[simp] theorem exec_timeSet (hi : W32) : exec (.timeSet hi) s = execTimeSet hi s := rfl
@[simp] theorem exec_utcOffsetChange (now : Nat) : exec (.utcOffsetChange now) s = execUtcOffsetChange now s := rfl
@[simp] theorem exec_apply : exec .apply s = execApply s := rfl
@[simp] theorem exec_slotStart (now : Nat) (r : Readings) : exec (.slotStart now r) s = execSlotStart now r s := rfl
@[simp] theorem exec_stackTempSample (pos temp : Nat) : exec (.stackTempSample pos temp) s = execStackTempSample pos temp s := rfl
@[simp] theorem exec_stackUncorrError (pos offset now : Nat) : exec (.stackUncorrError pos offset now) s = execStackUncorrError pos offset now s := rfl
@[simp] theorem exec_stackFail (pos : Nat) : exec (.stackFail pos) s = execStackFail pos s := rfl
@[simp] theorem exec_stackTrainingDone (pos : Nat) (ok : Bool) (repairs : Nat) : exec (.stackTrainingDone pos ok repairs) s = execStackTrainingDone pos ok repairs s := rfl
@[simp] theorem exec_translationStartDone (ctx : Nat) : exec (.translationStartDone ctx) s = execTranslationStartDone ctx s := rfl
@[simp] theorem exec_translationStopDone (ctx : Nat) : exec (.translationStopDone ctx) s = execTranslationStopDone ctx s := rfl
@[simp] theorem exec_setWrite (ctx which : Nat) (value : W32) : exec (.setWrite ctx which value) s = execSetWrite ctx which value s := rfl
@[simp] theorem exec_invalGo (ctx : Nat) (range : Bool) : exec (.invalGo ctx range) s = execInvalGo ctx range s := rfl
@[simp] theorem exec_invalDone (ctx : Nat) : exec (.invalDone ctx) s = execInvalDone ctx s := rfl
@[simp] theorem exec_xlFaultClear (ctx : Nat) : exec (.xlFaultClear ctx) s = execXlFaultClear ctx s := rfl
@[simp] theorem exec_bar2Read (fn offset len : Nat) (tlp : Tlp) (corrected : Corrected) : exec (.bar2Read fn offset len tlp corrected) s = execBar2Read fn offset len tlp corrected s := rfl
@[simp] theorem exec_bar2Write (fn offset : Nat) (bytes : List Byte) (tlp : Tlp) (corrected : Corrected) : exec (.bar2Write fn offset bytes tlp corrected) s = execBar2Write fn offset bytes tlp corrected s := rfl
@[simp] theorem exec_keyEk (ctx : Nat) (trngOk : Bool) : exec (.keyEk ctx trngOk) s = execKeyEk ctx trngOk s := rfl
@[simp] theorem exec_keyLoad (ctx : Nat) : exec (.keyLoad ctx) s = execKeyLoad ctx s := rfl
@[simp] theorem exec_rankWrite (ctx : Nat) : exec (.rankWrite ctx) s = execRankWrite ctx s := rfl
@[simp] theorem exec_groupWrite (ctx : Nat) : exec (.groupWrite ctx) s = execGroupWrite ctx s := rfl
@[simp] theorem exec_memberWrite (ctx : Nat) : exec (.memberWrite ctx) s = execMemberWrite ctx s := rfl
@[simp] theorem exec_imageLoad (ctx : Nat) : exec (.imageLoad ctx) s = execImageLoad ctx s := rfl
@[simp] theorem exec_fusedRun (ctx : Nat) : exec (.fusedRun ctx) s = execFusedRun ctx s := rfl
@[simp] theorem exec_checkpoint (ctx : Nat) : exec (.checkpoint ctx) s = execCheckpoint ctx s := rfl
@[simp] theorem exec_jobStart (ctx : Nat) : exec (.jobStart ctx) s = execJobStart ctx s := rfl
@[simp] theorem exec_weightSwap (ctx : Nat) : exec (.weightSwap ctx) s = execWeightSwap ctx s := rfl
@[simp] theorem exec_regionRemap (ctx : Nat) : exec (.regionRemap ctx) s = execRegionRemap ctx s := rfl
@[simp] theorem exec_stackScrubFull (ctx : Nat) : exec (.stackScrubFull ctx) s = execStackScrubFull ctx s := rfl
@[simp] theorem exec_selfTest (ctx : Nat) : exec (.selfTest ctx) s = execSelfTest ctx s := rfl
@[simp] theorem exec_wipe (ctx : Nat) : exec (.wipe ctx) s = execWipe ctx s := rfl
@[simp] theorem exec_fwUpdate (ctx : Nat) : exec (.fwUpdate ctx) s = execFwUpdate ctx s := rfl
@[simp] theorem exec_nopCommand (ctx : Nat) : exec (.nopCommand ctx) s = execNopCommand ctx s := rfl
@[simp] theorem exec_suspend (ctx : Nat) : exec (.suspend ctx) s = execSuspend ctx s := rfl
@[simp] theorem exec_resume (ctx : Nat) : exec (.resume ctx) s = execResume ctx s := rfl
@[simp] theorem exec_cancel (ctx : Nat) : exec (.cancel ctx) s = execCancel ctx s := rfl
@[simp] theorem exec_suspendPointReached (ctx handle : Nat) (w : Work) : exec (.suspendPointReached ctx handle w) s = execSuspendPointReached ctx handle w s := rfl
@[simp] theorem exec_longOperationEnd (ctx handle : Nat) (now : Nat) (w : Work) : exec (.longOperationEnd ctx handle now w) s = execLongOperationEnd ctx handle now w s := rfl
@[simp] theorem exec_deadlineExpiry (ctx handle now : Nat) : exec (.deadlineExpiry ctx handle now) s = execDeadlineExpiry ctx handle now s := rfl
@[simp] theorem exec_progressTimer (ctx handle now : Nat) (w : Work) : exec (.progressTimer ctx handle now w) s = execProgressTimer ctx handle now w s := rfl
@[simp] theorem exec_cqHeadWrite (ctx : Nat) (value : W32) : exec (.cqHeadWrite ctx value) s = execCqHeadWrite ctx value s := rfl
@[simp] theorem exec_msixModerationExpiry (ctx now : Nat) : exec (.msixModerationExpiry ctx now) s = execMsixModerationExpiry ctx now s := rfl
@[simp] theorem exec_msixVectorUnmask (fn vec : Nat) : exec (.msixVectorUnmask fn vec) s = execMsixVectorUnmask fn vec s := rfl
@[simp] theorem exec_ceStopDone (ctx : Nat) : exec (.ceStopDone ctx) s = execCeStopDone ctx s := rfl
@[simp] theorem exec_functionLevelReset (ctx : Nat) : exec (.functionLevelReset ctx) s = execFunctionLevelReset ctx s := rfl
@[simp] theorem exec_pcieReset (perst : Bool) : exec (.pcieReset perst) s = execPcieReset perst s := rfl
@[simp] theorem exec_ideIntegrityFail (stream : Nat) : exec (.ideIntegrityFail stream) s = execIdeIntegrityFail stream s := rfl
@[simp] theorem exec_getVersion (doe : Bool) (req : List Byte) : exec (.getVersion doe req) s = execGetVersion doe req s := rfl
@[simp] theorem exec_getCapabilities (doe : Bool) (req : List Byte) : exec (.getCapabilities doe req) s = execGetCapabilities doe req s := rfl
@[simp] theorem exec_negotiateAlgorithms (doe : Bool) (req : List Byte) : exec (.negotiateAlgorithms doe req) s = execNegotiateAlgorithms doe req s := rfl
@[simp] theorem exec_getDigests (doe : Bool) (req : List Byte) : exec (.getDigests doe req) s = execGetDigests doe req s := rfl
@[simp] theorem exec_getCertificate (doe : Bool) (req : List Byte) : exec (.getCertificate doe req) s = execGetCertificate doe req s := rfl
@[simp] theorem exec_challenge (doe : Bool) (req : List Byte) : exec (.challenge doe req) s = execChallenge doe req s := rfl
@[simp] theorem exec_getMeasurements (doe : Bool) (req : List Byte) : exec (.getMeasurements doe req) s = execGetMeasurements doe req s := rfl
@[simp] theorem exec_keyExchange (doe : Bool) (req : List Byte) : exec (.keyExchange doe req) s = execKeyExchange doe req s := rfl
@[simp] theorem exec_finish (doe : Bool) (req : List Byte) : exec (.finish doe req) s = execFinish doe req s := rfl
@[simp] theorem exec_keyUpdate (doe : Bool) (req : List Byte) : exec (.keyUpdate doe req) s = execKeyUpdate doe req s := rfl
@[simp] theorem exec_heartbeat (doe : Bool) (req : List Byte) : exec (.heartbeat doe req) s = execHeartbeat doe req s := rfl
@[simp] theorem exec_endSession (doe : Bool) (req : List Byte) : exec (.endSession doe req) s = execEndSession doe req s := rfl
@[simp] theorem exec_getCsr (doe : Bool) (req : List Byte) : exec (.getCsr doe req) s = execGetCsr doe req s := rfl
@[simp] theorem exec_setCertificate (doe : Bool) (req : List Byte) : exec (.setCertificate doe req) s = execSetCertificate doe req s := rfl
@[simp] theorem exec_vendorDefinedRequest (doe : Bool) (req : List Byte) : exec (.vendorDefinedRequest doe req) s = execVendorDefinedRequest doe req s := rfl
@[simp] theorem exec_recoveryImage : exec .recoveryImage s = execRecoveryImage s := rfl
@[simp] theorem exec_partitionWrite : exec .partitionWrite s = execPartitionWrite s := rfl
@[simp] theorem exec_partitionRead : exec .partitionRead s = execPartitionRead s := rfl
@[simp] theorem exec_lifecycle : exec .lifecycle s = execLifecycle s := rfl
@[simp] theorem exec_warmReset : exec .warmReset s = execWarmReset s := rfl
@[simp] theorem exec_warmResetBoot (now : Nat) : exec (.warmResetBoot now) s = execWarmResetBoot now s := rfl
@[simp] theorem exec_wardenRestart (now : Nat) : exec (.wardenRestart now) s = execWardenRestart now s := rfl
@[simp] theorem exec_wardenCoreTakeover (now : Nat) : exec (.wardenCoreTakeover now) s = execWardenCoreTakeover now s := rfl
@[simp] theorem exec_recoveryFetchRetry (now : Nat) : exec (.recoveryFetchRetry now) s = execRecoveryFetchRetry now s := rfl
@[simp] theorem exec_recoveryFetchDone (path : Nat) (image : List Byte) : exec (.recoveryFetchDone path image) s = execRecoveryFetchDone path image s := rfl
@[simp] theorem exec_firmwareStart (now : Nat) : exec (.firmwareStart now) s = execFirmwareStart now s := rfl
@[simp] theorem exec_startupTestDone (pitch : Nat) (failed : List Nat) : exec (.startupTestDone pitch failed) s = execStartupTestDone pitch failed s := rfl
@[simp] theorem exec_ready (now : Nat) : exec (.ready now) s = execReady now s := rfl
@[simp] theorem exec_cairnFlushDone (bad : List Nat) : exec (.cairnFlushDone bad) s = execCairnFlushDone bad s := rfl
@[simp] theorem exec_flush : exec .flush s = execFlush s := rfl
@[simp] theorem exec_cairnRead : exec .cairnRead s = execCairnRead s := rfl
@[simp] theorem exec_cairnReadDone : exec .cairnReadDone s = execCairnReadDone s := rfl
@[simp] theorem exec_gaugeCtlWrite (ep g : Nat) (value : W32) : exec (.gaugeCtlWrite ep g value) s = execGaugeCtlWrite ep g value s := rfl
@[simp] theorem exec_gaugeEnChange (ep g : Nat) : exec (.gaugeEnChange ep g) s = execGaugeEnChange ep g s := rfl
@[simp] theorem exec_gaugeWrite (ep g off : Nat) (value : W32) : exec (.gaugeWrite ep g off value) s = execGaugeWrite ep g off value s := rfl
@[simp] theorem exec_gaugeChunkBoundary (ep g : Nat) : exec (.gaugeChunkBoundary ep g) s = execGaugeChunkBoundary ep g s := rfl
@[simp] theorem exec_enReq (page : Nat) : exec (.enReq page) s = execEnReq page s := rfl
@[simp] theorem exec_stopReq (page : Nat) : exec (.stopReq page) s = execStopReq page s := rfl
@[simp] theorem exec_isolate (page : Nat) : exec (.isolate page) s = execIsolate page s := rfl
@[simp] theorem exec_registerWrite (fn : Nat) (off : Nat) (bytes : List Byte) (tlp : Tlp) : exec (.registerWrite fn off bytes tlp) s = execRegisterWrite fn off bytes tlp s := rfl
@[simp] theorem exec_cageInsert (link : Bool) (n : Nat) : exec (.cageInsert link n) s = execCageInsert link n s := rfl
@[simp] theorem exec_cageRemove (link : Bool) (n : Nat) (now : Nat) : exec (.cageRemove link n now) s = execCageRemove link n now s := rfl
@[simp] theorem exec_coolantAlarm (inletTenths flowTenths lastedMs : Nat) : exec (.coolantAlarm inletTenths flowTenths lastedMs) s = execCoolantAlarm inletTenths flowTenths lastedMs s := rfl
@[simp] theorem exec_undefinedOpcode (a : SlotId) : exec (.undefinedOpcode a) s = execUndefinedOpcode a s := rfl
@[simp] theorem exec_instructionFetchFault (a : SlotId) : exec (.instructionFetchFault a) s = execInstructionFetchFault a s := rfl
@[simp] theorem exec_eztexLinkDown (link : Nat) : exec (.eztexLinkDown link) s = execEztexLinkDown link s := rfl
@[simp] theorem exec_pitchThermalRecover (pitch temp : Nat) : exec (.pitchThermalRecover pitch temp) s = execPitchThermalRecover pitch temp s := rfl
@[simp] theorem exec_standbyCoreTestDone (pass : Bool) : exec (.standbyCoreTestDone pass) s = execStandbyCoreTestDone pass s := rfl
@[simp] theorem exec_perstNRelease : exec .perstNRelease s = execPerstNRelease s := rfl
@[simp] theorem exec_pcieLinkUp (width rate : Nat) (flit : Bool) : exec (.pcieLinkUp width rate flit) s = execPcieLinkUp width rate flit s := rfl

end Sys2Proof.Machine
end

