-- ==== Sys2Proof/Laws/Memory.lean ====
section
/-! SUPPORT. The laws of byte memories and sparse maps: reading after writing, and that every operation keeps the canonical form. -/

namespace Sys2Proof.Machine

/-! ### Sparse maps -/

@[simp] theorem look?_put_same {α : Type} (m : AMap α) (x : Nat) (a : α) : look? (put m x a) x = some a := by
  induction m with
  | nil => simp [put, look?]
  | cons e t ih =>
    obtain ⟨k, v⟩ := e
    simp only [put]
    split
    · simp [look?]
    · split
      · simp [look?]
      · next h => simp [look?, h, ih]

theorem look?_put_other {α : Type} (m : AMap α) {x y : Nat} (a : α) (h : y ≠ x) : look? (put m x a) y = look? m y := by
  induction m with
  | nil => simp [put, look?, h]
  | cons e t ih =>
    obtain ⟨k, v⟩ := e
    simp only [put]
    split
    · simp [look?, h]
    · split
      · next hk => subst hk; simp [look?, h]
      · simp only [look?, ih]

@[simp] theorem look_put_same {α : Type} (d : α) (m : AMap α) (x : Nat) (a : α) : look d (put m x a) x = a := by
  simp [look]

theorem look_put_other {α : Type} (d : α) (m : AMap α) {x y : Nat} (a : α) (h : y ≠ x) : look d (put m x a) y = look d m y := by
  simp [look, look?_put_other m a h]

/-! ### Byte memories -/

/-- The canonical form, said of the whole list. -/
theorem mem_wf_iff (m : Mem) : Mem.wf m = true ↔ (∀ e ∈ m, e.2 ≠ 0) ∧ m.Pairwise (fun a b => a.1 < b.1) := by
  induction m with
  | nil => simp [Mem.wf]
  | cons e t ih =>
    obtain ⟨k, v⟩ := e
    cases t with
    | nil => simp [Mem.wf]
    | cons e' t' =>
      obtain ⟨k', v'⟩ := e'
      simp only [Mem.wf, Bool.and_eq_true, bne_iff_ne, decide_eq_true_eq, ih]
      constructor
      · rintro ⟨⟨hv, hk⟩, hz, hp⟩
        refine ⟨?_, List.pairwise_cons.2 ⟨?_, hp⟩⟩
        · intro e he
          rcases List.mem_cons.1 he with rfl | he
          · exact hv
          · exact hz e he
        · intro e he
          rcases List.mem_cons.1 he with rfl | he
          · exact hk
          · exact Nat.lt_trans hk ((List.pairwise_cons.1 hp).1 e he)
      · rintro ⟨hz, hp⟩
        have hp' := List.pairwise_cons.1 hp
        exact ⟨⟨hz (k, v) (List.mem_cons_self ..), hp'.1 (k', v') (List.mem_cons_self ..)⟩,
          fun e he => hz e (List.mem_cons_of_mem _ he), hp'.2⟩

theorem mem_wf_tail {e : Nat × BitVec 8} {t : Mem} (h : Mem.wf (e :: t) = true) : Mem.wf t = true := by
  rw [mem_wf_iff] at h ⊢
  exact ⟨fun x hx => h.1 x (List.mem_cons_of_mem _ hx), (List.pairwise_cons.1 h.2).2⟩

/-- A part of a canonical memory, in order, is canonical. -/
theorem mem_wf_sublist {l m : Mem} (hs : l.Sublist m) (h : Mem.wf m = true) : Mem.wf l = true := by
  rw [mem_wf_iff] at h ⊢
  exact ⟨fun x hx => h.1 x (hs.subset hx), h.2.sublist hs⟩

theorem mem_wf_filter (m : Mem) (p : Nat × BitVec 8 → Bool) (h : Mem.wf m = true) : Mem.wf (m.filter p) = true :=
  mem_wf_sublist List.filter_sublist h

theorem memClear_wf (m : Mem) (lo hi : Nat) (h : Mem.wf m = true) : Mem.wf (memClear m lo hi) = true := mem_wf_filter m _ h

/-- The keys of a memory that is written: the old ones and the address. -/
theorem memWrite_mem (m : Mem) (a : Nat) (b : Byte) (e : Nat × BitVec 8) (he : e ∈ memWrite m a b) : e ∈ m ∨ (e = (a, b) ∧ b ≠ 0) := by
  induction m with
  | nil =>
    simp only [memWrite] at he
    split at he
    · cases he
    · next h => exact .inr ⟨List.mem_singleton.1 he, h⟩
  | cons x t ih =>
    obtain ⟨k, v⟩ := x
    simp only [memWrite] at he
    split at he
    · split at he
      · exact .inl he
      · next h =>
        rcases List.mem_cons.1 he with rfl | he
        · exact .inr ⟨rfl, h⟩
        · exact .inl he
    · split at he
      · split at he
        · exact .inl (List.mem_cons_of_mem _ he)
        · next h =>
          rcases List.mem_cons.1 he with rfl | he
          · exact .inr ⟨rfl, h⟩
          · exact .inl (List.mem_cons_of_mem _ he)
      · rcases List.mem_cons.1 he with rfl | he
        · exact .inl (List.mem_cons_self ..)
        · rcases ih he with h | h
          · exact .inl (List.mem_cons_of_mem _ h)
          · exact .inr h

/-- A byte written keeps the canonical form. -/
theorem memWrite_wf (m : Mem) (a : Nat) (b : Byte) (h : Mem.wf m = true) : Mem.wf (memWrite m a b) = true := by
  induction m with
  | nil =>
    simp only [memWrite]
    split
    · exact h
    · next hb => simpa [Mem.wf] using hb
  | cons x t ih =>
    obtain ⟨k, v⟩ := x
    have ht := ih (mem_wf_tail h)
    have h' := (mem_wf_iff _).1 h
    have hp := List.pairwise_cons.1 h'.2
    have hz := h'.1
    simp only [memWrite]
    split
    · next hak =>
      split
      · exact h
      · next hb =>
        rw [mem_wf_iff]
        refine ⟨?_, List.pairwise_cons.2 ⟨?_, h'.2⟩⟩
        · intro e he
          rcases List.mem_cons.1 he with rfl | he
          · exact hb
          · exact hz e he
        · intro e he
          rcases List.mem_cons.1 he with rfl | he
          · exact hak
          · exact Nat.lt_trans hak (hp.1 e he)
    · split
      · next hak =>
        subst hak
        split
        · exact mem_wf_tail h
        · next hb =>
          rw [mem_wf_iff]
          refine ⟨?_, List.pairwise_cons.2 ⟨hp.1, hp.2⟩⟩
          intro e he
          rcases List.mem_cons.1 he with rfl | he
          · exact hb
          · exact hz e (List.mem_cons_of_mem _ he)
      · next hlt hne =>
        have ht' := (mem_wf_iff _).1 ht
        rw [mem_wf_iff]
        refine ⟨?_, List.pairwise_cons.2 ⟨?_, ht'.2⟩⟩
        · intro e he
          rcases List.mem_cons.1 he with rfl | he
          · exact hz _ (List.mem_cons_self ..)
          · exact ht'.1 e he
        · intro e he
          rcases memWrite_mem t a b e he with he | ⟨rfl, _⟩
          · exact hp.1 e he
          · show k < a
            omega

/-- An address that is not listed reads 0. -/
theorem memRead_absent (m : Mem) (a : Nat) (h : ∀ e ∈ m, e.1 ≠ a) : memRead m a = 0 := by
  induction m with
  | nil => rfl
  | cons x t ih =>
    obtain ⟨k, v⟩ := x
    have hk : a ≠ k := fun e => h (k, v) (List.mem_cons_self ..) e.symm
    simp only [memRead, if_neg hk]
    exact ih (fun e he => h e (List.mem_cons_of_mem _ he))

/-- Reading the byte that was written. -/
theorem memRead_memWrite_same (m : Mem) (a : Nat) (b : Byte) (h : Mem.wf m = true) : memRead (memWrite m a b) a = b := by
  induction m with
  | nil =>
    simp only [memWrite]
    split
    · next hb => rw [hb]; rfl
    · simp [memRead]
  | cons x t ih =>
    obtain ⟨k, v⟩ := x
    have hp := List.pairwise_cons.1 ((mem_wf_iff _).1 h).2
    simp only [memWrite]
    split
    · next hak =>
      split
      · next hb =>
        rw [hb]
        apply memRead_absent
        intro e he
        rcases List.mem_cons.1 he with rfl | he
        · show k ≠ a
          omega
        · have := hp.1 e he
          simp only at this
          omega
      · simp [memRead]
    · split
      · next hak =>
        split
        · next hb =>
          rw [hb]
          apply memRead_absent
          intro e he
          have := hp.1 e he
          simp only at this
          omega
        · simp [memRead]
      · next hlt hne =>
        simp only [memRead, if_neg hne]
        exact ih (mem_wf_tail h)

/-- Reading any other byte. -/
theorem memRead_memWrite_other (m : Mem) (a a' : Nat) (b : Byte) (hne : a' ≠ a) : memRead (memWrite m a b) a' = memRead m a' := by
  induction m with
  | nil =>
    simp only [memWrite]
    split
    · rfl
    · simp [memRead, hne]
  | cons x t ih =>
    obtain ⟨k, v⟩ := x
    simp only [memWrite]
    split
    · split
      · rfl
      · simp [memRead, hne]
    · split
      · next hak =>
        subst hak
        split
        · simp [memRead, hne]
        · simp [memRead, hne]
      · simp only [memRead, ih]

/-- Bytes written keep the canonical form. -/
theorem writeBytes_wf (l : List Byte) (m : Mem) (a : Nat) (h : Mem.wf m = true) : Mem.wf (writeBytes m a l) = true := by
  induction l generalizing m a with
  | nil => exact h
  | cons b t ih => exact ih _ _ (memWrite_wf m a b h)

/-- Reading a byte outside the bytes that were written. -/
theorem memRead_writeBytes_outside (l : List Byte) (m : Mem) (a x : Nat) (h : x < a ∨ a + l.length ≤ x) :
    memRead (writeBytes m a l) x = memRead m x := by
  induction l generalizing m a with
  | nil => rfl
  | cons b t ih =>
    simp only [List.length_cons] at h
    simp only [writeBytes]
    rw [ih _ _ (by omega), memRead_memWrite_other _ _ _ _ (by omega)]

/-- Reading one of the bytes that were written. -/
theorem memRead_writeBytes_inside (l : List Byte) (m : Mem) (a i : Nat) (hi : i < l.length) (h : Mem.wf m = true) :
    memRead (writeBytes m a l) (a + i) = l[i] := by
  induction l generalizing m a i with
  | nil => cases hi
  | cons b t ih =>
    simp only [writeBytes]
    cases i with
    | zero =>
      rw [memRead_writeBytes_outside t _ _ _ (by omega)]
      exact memRead_memWrite_same m a b h
    | succ j =>
      have := ih (memWrite m a b) (a + 1) j (by simpa using hi) (memWrite_wf m a b h)
      rw [show a + (j + 1) = a + 1 + j by omega, this]
      rfl

/-- Reading back all the bytes that were written. -/
theorem readBytes_writeBytes (l : List Byte) (m : Mem) (a : Nat) (h : Mem.wf m = true) : readBytes (writeBytes m a l) a l.length = l := by
  induction l generalizing m a with
  | nil => rfl
  | cons b t ih =>
    simp only [writeBytes, List.length_cons, readBytes]
    rw [memRead_writeBytes_outside t _ _ _ (by omega), memRead_memWrite_same m a b h, ih _ _ (memWrite_wf m a b h)]

/-- Bytes moved keep the canonical form. -/
theorem memMove_wf (m : Mem) (src dst n : Nat) (h : Mem.wf m = true) : Mem.wf (memMove m src dst n) = true := by
  have : ∀ (l : List (Nat × BitVec 8)) (acc : Mem), Mem.wf acc = true →
      Mem.wf (l.foldl (fun acc e => memWrite acc e.1 e.2) acc) = true := by
    intro l
    induction l with
    | nil => exact fun _ h => h
    | cons e t ih => exact fun acc h => ih _ (memWrite_wf acc e.1 e.2 h)
  exact this _ _ (memClear_wf _ _ _ (memClear_wf _ _ _ h))

end Sys2Proof.Machine
end

