-- ==== Sys2Proof/Laws/State.lean ====
section
/-! SUPPORT. What each named update of State leaves as it was, one lemma a field, and reading back what was set. -/

namespace Sys2Proof.Machine

variable (s : State)

@[simp] theorem State.setReg_pending (a : Nat) (v : W32) : (s.setReg a v).pending = s.pending := rfl
@[simp] theorem State.setReg_clk (a : Nat) (v : W32) : (s.setReg a v).clk = s.clk := rfl
@[simp] theorem State.setReg_staged (a : Nat) (v : W32) : (s.setReg a v).staged = s.staged := rfl
@[simp] theorem State.setReg_captured (a : Nat) (v : W32) : (s.setReg a v).captured = s.captured := rfl
@[simp] theorem State.setReg_slotMem (a : Nat) (v : W32) : (s.setReg a v).slotMem = s.slotMem := rfl
@[simp] theorem State.setReg_store (a : Nat) (v : W32) : (s.setReg a v).store = s.store := rfl
@[simp] theorem State.setReg_pool (a : Nat) (v : W32) : (s.setReg a v).pool = s.pool := rfl
@[simp] theorem State.setReg_stack (a : Nat) (v : W32) : (s.setReg a v).stack = s.stack := rfl
@[simp] theorem State.setReg_host (a : Nat) (v : W32) : (s.setReg a v).host = s.host := rfl
@[simp] theorem State.setReg_storePoison (a : Nat) (v : W32) : (s.setReg a v).storePoison = s.storePoison := rfl
@[simp] theorem State.setReg_poolPoison (a : Nat) (v : W32) : (s.setReg a v).poolPoison = s.poolPoison := rfl
@[simp] theorem State.setReg_stackPoison (a : Nat) (v : W32) : (s.setReg a v).stackPoison = s.stackPoison := rfl
@[simp] theorem State.setReg_rills (a : Nat) (v : W32) : (s.setReg a v).rills = s.rills := rfl
@[simp] theorem State.setReg_net (a : Nat) (v : W32) : (s.setReg a v).net = s.net := rfl
@[simp] theorem State.setReg_nextXid (a : Nat) (v : W32) : (s.setReg a v).nextXid = s.nextXid := rfl
@[simp] theorem State.setReg_cairn (a : Nat) (v : W32) : (s.setReg a v).cairn = s.cairn := rfl
@[simp] theorem State.setReg_ce (a : Nat) (v : W32) : (s.setReg a v).ce = s.ce := rfl
@[simp] theorem State.setReg_msix (a : Nat) (v : W32) : (s.setReg a v).msix = s.msix := rfl
@[simp] theorem State.setReg_msixPend (a : Nat) (v : W32) : (s.setReg a v).msixPend = s.msixPend := rfl
@[simp] theorem State.setReg_lastEvtMsi (a : Nat) (v : W32) : (s.setReg a v).lastEvtMsi = s.lastEvtMsi := rfl
@[simp] theorem State.setReg_out (a : Nat) (v : W32) : (s.setReg a v).out = s.out := rfl
@[simp] theorem State.setReg_freeCtr (a : Nat) (v : W32) : (s.setReg a v).freeCtr = s.freeCtr := rfl
@[simp] theorem State.setReg_msixFnMask (a : Nat) (v : W32) : (s.setReg a v).msixFnMask = s.msixFnMask := rfl
@[simp] theorem State.setReg_gaugePend (a : Nat) (v : W32) : (s.setReg a v).gaugePend = s.gaugePend := rfl
@[simp] theorem State.setReg_gaugeDue (a : Nat) (v : W32) : (s.setReg a v).gaugeDue = s.gaugeDue := rfl
@[simp] theorem State.setReg_memReqs (a : Nat) (v : W32) : (s.setReg a v).memReqs = s.memReqs := rfl
@[simp] theorem State.setReg_tlb (a : Nat) (v : W32) : (s.setReg a v).tlb = s.tlb := rfl
@[simp] theorem State.setReg_walkCache (a : Nat) (v : W32) : (s.setReg a v).walkCache = s.walkCache := rfl
@[simp] theorem State.setReg_hws (a : Nat) (v : W32) : (s.setReg a v).hws = s.hws := rfl
@[simp] theorem State.setReg_grads (a : Nat) (v : W32) : (s.setReg a v).grads = s.grads := rfl
@[simp] theorem State.setReg_hwWait (a : Nat) (v : W32) : (s.setReg a v).hwWait = s.hwWait := rfl
@[simp] theorem State.setReg_hwMan (a : Nat) (v : W32) : (s.setReg a v).hwMan = s.hwMan := rfl
@[simp] theorem State.setReg_hwBinding (a : Nat) (v : W32) : (s.setReg a v).hwBinding = s.hwBinding := rfl
@[simp] theorem State.setReg_hwKeys (a : Nat) (v : W32) : (s.setReg a v).hwKeys = s.hwKeys := rfl
@[simp] theorem State.setReg_keyReqs (a : Nat) (v : W32) : (s.setReg a v).keyReqs = s.keyReqs := rfl
@[simp] theorem State.setReg_portLeft (a : Nat) (v : W32) : (s.setReg a v).portLeft = s.portLeft := rfl
@[simp] theorem State.setReg_frontGo (a : Nat) (v : W32) : (s.setReg a v).frontGo = s.frontGo := rfl
@[simp] theorem State.setReg_seqrs (a : Nat) (v : W32) : (s.setReg a v).seqrs = s.seqrs := rfl
@[simp] theorem State.setReg_postSeq (a : Nat) (v : W32) : (s.setReg a v).postSeq = s.postSeq := rfl
@[simp] theorem State.setReg_rcvs (a : Nat) (v : W32) : (s.setReg a v).rcvs = s.rcvs := rfl
@[simp] theorem State.setReg_failing (a : Nat) (v : W32) : (s.setReg a v).failing = s.failing := rfl
@[simp] theorem State.setReg_ezs (a : Nat) (v : W32) : (s.setReg a v).ezs = s.ezs := rfl
@[simp] theorem State.setReg_links (a : Nat) (v : W32) : (s.setReg a v).links = s.links := rfl
@[simp] theorem State.setReg_rx (a : Nat) (v : W32) : (s.setReg a v).rx = s.rx := rfl
@[simp] theorem State.setReg_early (a : Nat) (v : W32) : (s.setReg a v).early = s.early := rfl
@[simp] theorem State.setReg_keys (a : Nat) (v : W32) : (s.setReg a v).keys = s.keys := rfl
@[simp] theorem State.setReg_bcasts (a : Nat) (v : W32) : (s.setReg a v).bcasts = s.bcasts := rfl
@[simp] theorem State.setReg_groupInvalid (a : Nat) (v : W32) : (s.setReg a v).groupInvalid = s.groupInvalid := rfl
@[simp] theorem State.setReg_adderFails (a : Nat) (v : W32) : (s.setReg a v).adderFails = s.adderFails := rfl
@[simp] theorem State.setReg_wireHold (a : Nat) (v : W32) : (s.setReg a v).wireHold = s.wireHold := rfl
@[simp] theorem State.setReg_starved (a : Nat) (v : W32) : (s.setReg a v).starved = s.starved := rfl
@[simp] theorem State.setReg_stackErrs (a : Nat) (v : W32) : (s.setReg a v).stackErrs = s.stackErrs := rfl
@[simp] theorem State.setReg_shapes (a : Nat) (v : W32) : (s.setReg a v).shapes = s.shapes := rfl
@[simp] theorem State.setReg_wearNext (a : Nat) (v : W32) : (s.setReg a v).wearNext = s.wearNext := rfl
@[simp] theorem State.setReg_wearDue (a : Nat) (v : W32) : (s.setReg a v).wearDue = s.wearDue := rfl
@[simp] theorem State.setReg_wearSegs (a : Nat) (v : W32) : (s.setReg a v).wearSegs = s.wearSegs := rfl
@[simp] theorem State.setReg_inputStage (a : Nat) (v : W32) : (s.setReg a v).inputStage = s.inputStage := rfl
@[simp] theorem State.setReg_stageAt (a : Nat) (v : W32) : (s.setReg a v).stageAt = s.stageAt := rfl
@[simp] theorem State.setReg_vinMv (a : Nat) (v : W32) : (s.setReg a v).vinMv = s.vinMv := rfl
@[simp] theorem State.setReg_diodeOpen (a : Nat) (v : W32) : (s.setReg a v).diodeOpen = s.diodeOpen := rfl
@[simp] theorem State.setReg_strapPins (a : Nat) (v : W32) : (s.setReg a v).strapPins = s.strapPins := rfl
@[simp] theorem State.setReg_weirS (a : Nat) (v : W32) : (s.setReg a v).weirS = s.weirS := rfl
@[simp] theorem State.setReg_weirSet (a : Nat) (v : W32) : (s.setReg a v).weirSet = s.weirSet := rfl
@[simp] theorem State.setReg_weirUp (a : Nat) (v : W32) : (s.setReg a v).weirUp = s.weirUp := rfl
@[simp] theorem State.setReg_weirDown (a : Nat) (v : W32) : (s.setReg a v).weirDown = s.weirDown := rfl
@[simp] theorem State.setReg_weirRest (a : Nat) (v : W32) : (s.setReg a v).weirRest = s.weirRest := rfl
@[simp] theorem State.setReg_weirBelow (a : Nat) (v : W32) : (s.setReg a v).weirBelow = s.weirBelow := rfl
@[simp] theorem State.setReg_weirPend (a : Nat) (v : W32) : (s.setReg a v).weirPend = s.weirPend := rfl
@[simp] theorem State.setReg_weirAt (a : Nat) (v : W32) : (s.setReg a v).weirAt = s.weirAt := rfl
@[simp] theorem State.setReg_weirNj (a : Nat) (v : W32) : (s.setReg a v).weirNj = s.weirNj := rfl
@[simp] theorem State.setReg_ballNj (a : Nat) (v : W32) : (s.setReg a v).ballNj = s.ballNj := rfl
@[simp] theorem State.setReg_ptNj (a : Nat) (v : W32) : (s.setReg a v).ptNj = s.ptNj := rfl
@[simp] theorem State.setReg_leveeStart (a : Nat) (v : W32) : (s.setReg a v).leveeStart = s.leveeStart := rfl
@[simp] theorem State.setReg_pitchWait (a : Nat) (v : W32) : (s.setReg a v).pitchWait = s.pitchWait := rfl
@[simp] theorem State.setReg_pitchRun (a : Nat) (v : W32) : (s.setReg a v).pitchRun = s.pitchRun := rfl
@[simp] theorem State.setReg_pitchHeld (a : Nat) (v : W32) : (s.setReg a v).pitchHeld = s.pitchHeld := rfl
@[simp] theorem State.setReg_railTest (a : Nat) (v : W32) : (s.setReg a v).railTest = s.railTest := rfl
@[simp] theorem State.setReg_unpowered (a : Nat) (v : W32) : (s.setReg a v).unpowered = s.unpowered := rfl
@[simp] theorem State.setReg_hotPitches (a : Nat) (v : W32) : (s.setReg a v).hotPitches = s.hotPitches := rfl
@[simp] theorem State.setReg_isoKept (a : Nat) (v : W32) : (s.setReg a v).isoKept = s.isoKept := rfl
@[simp] theorem State.setReg_isoPend (a : Nat) (v : W32) : (s.setReg a v).isoPend = s.isoPend := rfl
@[simp] theorem State.setReg_startPend (a : Nat) (v : W32) : (s.setReg a v).startPend = s.startPend := rfl
@[simp] theorem State.setReg_cmtDue (a : Nat) (v : W32) : (s.setReg a v).cmtDue = s.cmtDue := rfl
@[simp] theorem State.setReg_testing (a : Nat) (v : W32) : (s.setReg a v).testing = s.testing := rfl
@[simp] theorem State.setReg_wardenGone (a : Nat) (v : W32) : (s.setReg a v).wardenGone = s.wardenGone := rfl
@[simp] theorem State.setReg_staleWait (a : Nat) (v : W32) : (s.setReg a v).staleWait = s.staleWait := rfl
@[simp] theorem State.setReg_fwUp (a : Nat) (v : W32) : (s.setReg a v).fwUp = s.fwUp := rfl
@[simp] theorem State.setReg_weirAct (a : Nat) (v : W32) : (s.setReg a v).weirAct = s.weirAct := rfl
@[simp] theorem State.setReg_weirDrawn (a : Nat) (v : W32) : (s.setReg a v).weirDrawn = s.weirDrawn := rfl
@[simp] theorem State.setReg_weirCut (a : Nat) (v : W32) : (s.setReg a v).weirCut = s.weirCut := rfl
@[simp] theorem State.setReg_weirSkip (a : Nat) (v : W32) : (s.setReg a v).weirSkip = s.weirSkip := rfl
@[simp] theorem State.setReg_weirFrom (a : Nat) (v : W32) : (s.setReg a v).weirFrom = s.weirFrom := rfl
@[simp] theorem State.setReg_tmFirst (a : Nat) (v : W32) : (s.setReg a v).tmFirst = s.tmFirst := rfl
@[simp] theorem State.setReg_tmIn (a : Nat) (v : W32) : (s.setReg a v).tmIn = s.tmIn := rfl
@[simp] theorem State.setReg_tmOut (a : Nat) (v : W32) : (s.setReg a v).tmOut = s.tmOut := rfl
@[simp] theorem State.setReg_tmLost (a : Nat) (v : W32) : (s.setReg a v).tmLost = s.tmLost := rfl
@[simp] theorem State.setReg_holdAt (a : Nat) (v : W32) : (s.setReg a v).holdAt = s.holdAt := rfl
@[simp] theorem State.setReg_ppsLast (a : Nat) (v : W32) : (s.setReg a v).ppsLast = s.ppsLast := rfl
@[simp] theorem State.setReg_ppsMark (a : Nat) (v : W32) : (s.setReg a v).ppsMark = s.ppsMark := rfl
@[simp] theorem State.setReg_ppsSet (a : Nat) (v : W32) : (s.setReg a v).ppsSet = s.ppsSet := rfl
@[simp] theorem State.setReg_bgTable (a : Nat) (v : W32) : (s.setReg a v).bgTable = s.bgTable := rfl
@[simp] theorem State.setReg_bgNext (a : Nat) (v : W32) : (s.setReg a v).bgNext = s.bgNext := rfl
@[simp] theorem State.setReg_slotAt (a : Nat) (v : W32) : (s.setReg a v).slotAt = s.slotAt := rfl
@[simp] theorem State.setReg_fwFlash (a : Nat) (v : W32) : (s.setReg a v).fwFlash = s.fwFlash := rfl
@[simp] theorem State.setReg_fwStage (a : Nat) (v : W32) : (s.setReg a v).fwStage = s.fwStage := rfl
@[simp] theorem State.setReg_fwFail (a : Nat) (v : W32) : (s.setReg a v).fwFail = s.fwFail := rfl
@[simp] theorem State.setReg_boot (a : Nat) (v : W32) : (s.setReg a v).boot = s.boot := rfl
@[simp] theorem State.setReg_running (a : Nat) (v : W32) : (s.setReg a v).running = s.running := rfl
@[simp] theorem State.setReg_restarts (a : Nat) (v : W32) : (s.setReg a v).restarts = s.restarts := rfl
@[simp] theorem State.setReg_fetching (a : Nat) (v : W32) : (s.setReg a v).fetching = s.fetching := rfl
@[simp] theorem State.setReg_fetchAt (a : Nat) (v : W32) : (s.setReg a v).fetchAt = s.fetchAt := rfl
@[simp] theorem State.setReg_wipedN (a : Nat) (v : W32) : (s.setReg a v).wipedN = s.wipedN := rfl
@[simp] theorem State.setReg_lcPend (a : Nat) (v : W32) : (s.setReg a v).lcPend = s.lcPend := rfl
@[simp] theorem State.setReg_ptRecord (a : Nat) (v : W32) : (s.setReg a v).ptRecord = s.ptRecord := rfl
@[simp] theorem State.setReg_ownerChain (a : Nat) (v : W32) : (s.setReg a v).ownerChain = s.ownerChain := rfl
@[simp] theorem State.setReg_identity (a : Nat) (v : W32) : (s.setReg a v).identity = s.identity := rfl
@[simp] theorem State.setReg_mgmt (a : Nat) (v : W32) : (s.setReg a v).mgmt = s.mgmt := rfl
@[simp] theorem State.setReg_cmtA (a : Nat) (v : W32) : (s.setReg a v).cmtA = s.cmtA := rfl
@[simp] theorem State.setReg_cmtB (a : Nat) (v : W32) : (s.setReg a v).cmtB = s.cmtB := rfl
@[simp] theorem State.setReg_cmtFresh (a : Nat) (v : W32) : (s.setReg a v).cmtFresh = s.cmtFresh := rfl
@[simp] theorem State.setReg_warmHeld (a : Nat) (v : W32) : (s.setReg a v).warmHeld = s.warmHeld := rfl
@[simp] theorem State.setReg_warmAt (a : Nat) (v : W32) : (s.setReg a v).warmAt = s.warmAt := rfl
@[simp] theorem State.setReg_coreTest (a : Nat) (v : W32) : (s.setReg a v).coreTest = s.coreTest := rfl
@[simp] theorem State.setReg_mbReq (a : Nat) (v : W32) : (s.setReg a v).mbReq = s.mbReq := rfl
@[simp] theorem State.setReg_spdmHist (a : Nat) (v : W32) : (s.setReg a v).spdmHist = s.spdmHist := rfl
@[simp] theorem State.setReg_ideSel (a : Nat) (v : W32) : (s.setReg a v).ideSel = s.ideSel := rfl
@[simp] theorem State.setReg_perstLow (a : Nat) (v : W32) : (s.setReg a v).perstLow = s.perstLow := rfl
@[simp] theorem State.setReg_coolant (a : Nat) (v : W32) : (s.setReg a v).coolant = s.coolant := rfl
@[simp] theorem State.setReg_lineReads (a : Nat) (v : W32) : (s.setReg a v).lineReads = s.lineReads := rfl

@[simp] theorem State.setRegN_pending (a v : Nat) : (s.setRegN a v).pending = s.pending := rfl
@[simp] theorem State.setRegN_clk (a v : Nat) : (s.setRegN a v).clk = s.clk := rfl
@[simp] theorem State.setRegN_staged (a v : Nat) : (s.setRegN a v).staged = s.staged := rfl
@[simp] theorem State.setRegN_captured (a v : Nat) : (s.setRegN a v).captured = s.captured := rfl
@[simp] theorem State.setRegN_slotMem (a v : Nat) : (s.setRegN a v).slotMem = s.slotMem := rfl
@[simp] theorem State.setRegN_store (a v : Nat) : (s.setRegN a v).store = s.store := rfl
@[simp] theorem State.setRegN_pool (a v : Nat) : (s.setRegN a v).pool = s.pool := rfl
@[simp] theorem State.setRegN_stack (a v : Nat) : (s.setRegN a v).stack = s.stack := rfl
@[simp] theorem State.setRegN_host (a v : Nat) : (s.setRegN a v).host = s.host := rfl
@[simp] theorem State.setRegN_storePoison (a v : Nat) : (s.setRegN a v).storePoison = s.storePoison := rfl
@[simp] theorem State.setRegN_poolPoison (a v : Nat) : (s.setRegN a v).poolPoison = s.poolPoison := rfl
@[simp] theorem State.setRegN_stackPoison (a v : Nat) : (s.setRegN a v).stackPoison = s.stackPoison := rfl
@[simp] theorem State.setRegN_rills (a v : Nat) : (s.setRegN a v).rills = s.rills := rfl
@[simp] theorem State.setRegN_net (a v : Nat) : (s.setRegN a v).net = s.net := rfl
@[simp] theorem State.setRegN_nextXid (a v : Nat) : (s.setRegN a v).nextXid = s.nextXid := rfl
@[simp] theorem State.setRegN_cairn (a v : Nat) : (s.setRegN a v).cairn = s.cairn := rfl
@[simp] theorem State.setRegN_ce (a v : Nat) : (s.setRegN a v).ce = s.ce := rfl
@[simp] theorem State.setRegN_msix (a v : Nat) : (s.setRegN a v).msix = s.msix := rfl
@[simp] theorem State.setRegN_msixPend (a v : Nat) : (s.setRegN a v).msixPend = s.msixPend := rfl
@[simp] theorem State.setRegN_lastEvtMsi (a v : Nat) : (s.setRegN a v).lastEvtMsi = s.lastEvtMsi := rfl
@[simp] theorem State.setRegN_out (a v : Nat) : (s.setRegN a v).out = s.out := rfl
@[simp] theorem State.setRegN_freeCtr (a v : Nat) : (s.setRegN a v).freeCtr = s.freeCtr := rfl
@[simp] theorem State.setRegN_msixFnMask (a v : Nat) : (s.setRegN a v).msixFnMask = s.msixFnMask := rfl
@[simp] theorem State.setRegN_gaugePend (a v : Nat) : (s.setRegN a v).gaugePend = s.gaugePend := rfl
@[simp] theorem State.setRegN_gaugeDue (a v : Nat) : (s.setRegN a v).gaugeDue = s.gaugeDue := rfl
@[simp] theorem State.setRegN_memReqs (a v : Nat) : (s.setRegN a v).memReqs = s.memReqs := rfl
@[simp] theorem State.setRegN_tlb (a v : Nat) : (s.setRegN a v).tlb = s.tlb := rfl
@[simp] theorem State.setRegN_walkCache (a v : Nat) : (s.setRegN a v).walkCache = s.walkCache := rfl
@[simp] theorem State.setRegN_hws (a v : Nat) : (s.setRegN a v).hws = s.hws := rfl
@[simp] theorem State.setRegN_grads (a v : Nat) : (s.setRegN a v).grads = s.grads := rfl
@[simp] theorem State.setRegN_hwWait (a v : Nat) : (s.setRegN a v).hwWait = s.hwWait := rfl
@[simp] theorem State.setRegN_hwMan (a v : Nat) : (s.setRegN a v).hwMan = s.hwMan := rfl
@[simp] theorem State.setRegN_hwBinding (a v : Nat) : (s.setRegN a v).hwBinding = s.hwBinding := rfl
@[simp] theorem State.setRegN_hwKeys (a v : Nat) : (s.setRegN a v).hwKeys = s.hwKeys := rfl
@[simp] theorem State.setRegN_keyReqs (a v : Nat) : (s.setRegN a v).keyReqs = s.keyReqs := rfl
@[simp] theorem State.setRegN_portLeft (a v : Nat) : (s.setRegN a v).portLeft = s.portLeft := rfl
@[simp] theorem State.setRegN_frontGo (a v : Nat) : (s.setRegN a v).frontGo = s.frontGo := rfl
@[simp] theorem State.setRegN_seqrs (a v : Nat) : (s.setRegN a v).seqrs = s.seqrs := rfl
@[simp] theorem State.setRegN_postSeq (a v : Nat) : (s.setRegN a v).postSeq = s.postSeq := rfl
@[simp] theorem State.setRegN_rcvs (a v : Nat) : (s.setRegN a v).rcvs = s.rcvs := rfl
@[simp] theorem State.setRegN_failing (a v : Nat) : (s.setRegN a v).failing = s.failing := rfl
@[simp] theorem State.setRegN_ezs (a v : Nat) : (s.setRegN a v).ezs = s.ezs := rfl
@[simp] theorem State.setRegN_links (a v : Nat) : (s.setRegN a v).links = s.links := rfl
@[simp] theorem State.setRegN_rx (a v : Nat) : (s.setRegN a v).rx = s.rx := rfl
@[simp] theorem State.setRegN_early (a v : Nat) : (s.setRegN a v).early = s.early := rfl
@[simp] theorem State.setRegN_keys (a v : Nat) : (s.setRegN a v).keys = s.keys := rfl
@[simp] theorem State.setRegN_bcasts (a v : Nat) : (s.setRegN a v).bcasts = s.bcasts := rfl
@[simp] theorem State.setRegN_groupInvalid (a v : Nat) : (s.setRegN a v).groupInvalid = s.groupInvalid := rfl
@[simp] theorem State.setRegN_adderFails (a v : Nat) : (s.setRegN a v).adderFails = s.adderFails := rfl
@[simp] theorem State.setRegN_wireHold (a v : Nat) : (s.setRegN a v).wireHold = s.wireHold := rfl
@[simp] theorem State.setRegN_starved (a v : Nat) : (s.setRegN a v).starved = s.starved := rfl
@[simp] theorem State.setRegN_stackErrs (a v : Nat) : (s.setRegN a v).stackErrs = s.stackErrs := rfl
@[simp] theorem State.setRegN_shapes (a v : Nat) : (s.setRegN a v).shapes = s.shapes := rfl
@[simp] theorem State.setRegN_wearNext (a v : Nat) : (s.setRegN a v).wearNext = s.wearNext := rfl
@[simp] theorem State.setRegN_wearDue (a v : Nat) : (s.setRegN a v).wearDue = s.wearDue := rfl
@[simp] theorem State.setRegN_wearSegs (a v : Nat) : (s.setRegN a v).wearSegs = s.wearSegs := rfl
@[simp] theorem State.setRegN_inputStage (a v : Nat) : (s.setRegN a v).inputStage = s.inputStage := rfl
@[simp] theorem State.setRegN_stageAt (a v : Nat) : (s.setRegN a v).stageAt = s.stageAt := rfl
@[simp] theorem State.setRegN_vinMv (a v : Nat) : (s.setRegN a v).vinMv = s.vinMv := rfl
@[simp] theorem State.setRegN_diodeOpen (a v : Nat) : (s.setRegN a v).diodeOpen = s.diodeOpen := rfl
@[simp] theorem State.setRegN_strapPins (a v : Nat) : (s.setRegN a v).strapPins = s.strapPins := rfl
@[simp] theorem State.setRegN_weirS (a v : Nat) : (s.setRegN a v).weirS = s.weirS := rfl
@[simp] theorem State.setRegN_weirSet (a v : Nat) : (s.setRegN a v).weirSet = s.weirSet := rfl
@[simp] theorem State.setRegN_weirUp (a v : Nat) : (s.setRegN a v).weirUp = s.weirUp := rfl
@[simp] theorem State.setRegN_weirDown (a v : Nat) : (s.setRegN a v).weirDown = s.weirDown := rfl
@[simp] theorem State.setRegN_weirRest (a v : Nat) : (s.setRegN a v).weirRest = s.weirRest := rfl
@[simp] theorem State.setRegN_weirBelow (a v : Nat) : (s.setRegN a v).weirBelow = s.weirBelow := rfl
@[simp] theorem State.setRegN_weirPend (a v : Nat) : (s.setRegN a v).weirPend = s.weirPend := rfl
@[simp] theorem State.setRegN_weirAt (a v : Nat) : (s.setRegN a v).weirAt = s.weirAt := rfl
@[simp] theorem State.setRegN_weirNj (a v : Nat) : (s.setRegN a v).weirNj = s.weirNj := rfl
@[simp] theorem State.setRegN_ballNj (a v : Nat) : (s.setRegN a v).ballNj = s.ballNj := rfl
@[simp] theorem State.setRegN_ptNj (a v : Nat) : (s.setRegN a v).ptNj = s.ptNj := rfl
@[simp] theorem State.setRegN_leveeStart (a v : Nat) : (s.setRegN a v).leveeStart = s.leveeStart := rfl
@[simp] theorem State.setRegN_pitchWait (a v : Nat) : (s.setRegN a v).pitchWait = s.pitchWait := rfl
@[simp] theorem State.setRegN_pitchRun (a v : Nat) : (s.setRegN a v).pitchRun = s.pitchRun := rfl
@[simp] theorem State.setRegN_pitchHeld (a v : Nat) : (s.setRegN a v).pitchHeld = s.pitchHeld := rfl
@[simp] theorem State.setRegN_railTest (a v : Nat) : (s.setRegN a v).railTest = s.railTest := rfl
@[simp] theorem State.setRegN_unpowered (a v : Nat) : (s.setRegN a v).unpowered = s.unpowered := rfl
@[simp] theorem State.setRegN_hotPitches (a v : Nat) : (s.setRegN a v).hotPitches = s.hotPitches := rfl
@[simp] theorem State.setRegN_isoKept (a v : Nat) : (s.setRegN a v).isoKept = s.isoKept := rfl
@[simp] theorem State.setRegN_isoPend (a v : Nat) : (s.setRegN a v).isoPend = s.isoPend := rfl
@[simp] theorem State.setRegN_startPend (a v : Nat) : (s.setRegN a v).startPend = s.startPend := rfl
@[simp] theorem State.setRegN_cmtDue (a v : Nat) : (s.setRegN a v).cmtDue = s.cmtDue := rfl
@[simp] theorem State.setRegN_testing (a v : Nat) : (s.setRegN a v).testing = s.testing := rfl
@[simp] theorem State.setRegN_wardenGone (a v : Nat) : (s.setRegN a v).wardenGone = s.wardenGone := rfl
@[simp] theorem State.setRegN_staleWait (a v : Nat) : (s.setRegN a v).staleWait = s.staleWait := rfl
@[simp] theorem State.setRegN_fwUp (a v : Nat) : (s.setRegN a v).fwUp = s.fwUp := rfl
@[simp] theorem State.setRegN_weirAct (a v : Nat) : (s.setRegN a v).weirAct = s.weirAct := rfl
@[simp] theorem State.setRegN_weirDrawn (a v : Nat) : (s.setRegN a v).weirDrawn = s.weirDrawn := rfl
@[simp] theorem State.setRegN_weirCut (a v : Nat) : (s.setRegN a v).weirCut = s.weirCut := rfl
@[simp] theorem State.setRegN_weirSkip (a v : Nat) : (s.setRegN a v).weirSkip = s.weirSkip := rfl
@[simp] theorem State.setRegN_weirFrom (a v : Nat) : (s.setRegN a v).weirFrom = s.weirFrom := rfl
@[simp] theorem State.setRegN_tmFirst (a v : Nat) : (s.setRegN a v).tmFirst = s.tmFirst := rfl
@[simp] theorem State.setRegN_tmIn (a v : Nat) : (s.setRegN a v).tmIn = s.tmIn := rfl
@[simp] theorem State.setRegN_tmOut (a v : Nat) : (s.setRegN a v).tmOut = s.tmOut := rfl
@[simp] theorem State.setRegN_tmLost (a v : Nat) : (s.setRegN a v).tmLost = s.tmLost := rfl
@[simp] theorem State.setRegN_holdAt (a v : Nat) : (s.setRegN a v).holdAt = s.holdAt := rfl
@[simp] theorem State.setRegN_ppsLast (a v : Nat) : (s.setRegN a v).ppsLast = s.ppsLast := rfl
@[simp] theorem State.setRegN_ppsMark (a v : Nat) : (s.setRegN a v).ppsMark = s.ppsMark := rfl
@[simp] theorem State.setRegN_ppsSet (a v : Nat) : (s.setRegN a v).ppsSet = s.ppsSet := rfl
@[simp] theorem State.setRegN_bgTable (a v : Nat) : (s.setRegN a v).bgTable = s.bgTable := rfl
@[simp] theorem State.setRegN_bgNext (a v : Nat) : (s.setRegN a v).bgNext = s.bgNext := rfl
@[simp] theorem State.setRegN_slotAt (a v : Nat) : (s.setRegN a v).slotAt = s.slotAt := rfl
@[simp] theorem State.setRegN_fwFlash (a v : Nat) : (s.setRegN a v).fwFlash = s.fwFlash := rfl
@[simp] theorem State.setRegN_fwStage (a v : Nat) : (s.setRegN a v).fwStage = s.fwStage := rfl
@[simp] theorem State.setRegN_fwFail (a v : Nat) : (s.setRegN a v).fwFail = s.fwFail := rfl
@[simp] theorem State.setRegN_boot (a v : Nat) : (s.setRegN a v).boot = s.boot := rfl
@[simp] theorem State.setRegN_running (a v : Nat) : (s.setRegN a v).running = s.running := rfl
@[simp] theorem State.setRegN_restarts (a v : Nat) : (s.setRegN a v).restarts = s.restarts := rfl
@[simp] theorem State.setRegN_fetching (a v : Nat) : (s.setRegN a v).fetching = s.fetching := rfl
@[simp] theorem State.setRegN_fetchAt (a v : Nat) : (s.setRegN a v).fetchAt = s.fetchAt := rfl
@[simp] theorem State.setRegN_wipedN (a v : Nat) : (s.setRegN a v).wipedN = s.wipedN := rfl
@[simp] theorem State.setRegN_lcPend (a v : Nat) : (s.setRegN a v).lcPend = s.lcPend := rfl
@[simp] theorem State.setRegN_ptRecord (a v : Nat) : (s.setRegN a v).ptRecord = s.ptRecord := rfl
@[simp] theorem State.setRegN_ownerChain (a v : Nat) : (s.setRegN a v).ownerChain = s.ownerChain := rfl
@[simp] theorem State.setRegN_identity (a v : Nat) : (s.setRegN a v).identity = s.identity := rfl
@[simp] theorem State.setRegN_mgmt (a v : Nat) : (s.setRegN a v).mgmt = s.mgmt := rfl
@[simp] theorem State.setRegN_cmtA (a v : Nat) : (s.setRegN a v).cmtA = s.cmtA := rfl
@[simp] theorem State.setRegN_cmtB (a v : Nat) : (s.setRegN a v).cmtB = s.cmtB := rfl
@[simp] theorem State.setRegN_cmtFresh (a v : Nat) : (s.setRegN a v).cmtFresh = s.cmtFresh := rfl
@[simp] theorem State.setRegN_warmHeld (a v : Nat) : (s.setRegN a v).warmHeld = s.warmHeld := rfl
@[simp] theorem State.setRegN_warmAt (a v : Nat) : (s.setRegN a v).warmAt = s.warmAt := rfl
@[simp] theorem State.setRegN_coreTest (a v : Nat) : (s.setRegN a v).coreTest = s.coreTest := rfl
@[simp] theorem State.setRegN_mbReq (a v : Nat) : (s.setRegN a v).mbReq = s.mbReq := rfl
@[simp] theorem State.setRegN_spdmHist (a v : Nat) : (s.setRegN a v).spdmHist = s.spdmHist := rfl
@[simp] theorem State.setRegN_ideSel (a v : Nat) : (s.setRegN a v).ideSel = s.ideSel := rfl
@[simp] theorem State.setRegN_perstLow (a v : Nat) : (s.setRegN a v).perstLow = s.perstLow := rfl
@[simp] theorem State.setRegN_coolant (a v : Nat) : (s.setRegN a v).coolant = s.coolant := rfl
@[simp] theorem State.setRegN_lineReads (a v : Nat) : (s.setRegN a v).lineReads = s.lineReads := rfl

@[simp] theorem State.setF_pending (a lo n v : Nat) : (s.setF a lo n v).pending = s.pending := rfl
@[simp] theorem State.setF_clk (a lo n v : Nat) : (s.setF a lo n v).clk = s.clk := rfl
@[simp] theorem State.setF_staged (a lo n v : Nat) : (s.setF a lo n v).staged = s.staged := rfl
@[simp] theorem State.setF_captured (a lo n v : Nat) : (s.setF a lo n v).captured = s.captured := rfl
@[simp] theorem State.setF_slotMem (a lo n v : Nat) : (s.setF a lo n v).slotMem = s.slotMem := rfl
@[simp] theorem State.setF_store (a lo n v : Nat) : (s.setF a lo n v).store = s.store := rfl
@[simp] theorem State.setF_pool (a lo n v : Nat) : (s.setF a lo n v).pool = s.pool := rfl
@[simp] theorem State.setF_stack (a lo n v : Nat) : (s.setF a lo n v).stack = s.stack := rfl
@[simp] theorem State.setF_host (a lo n v : Nat) : (s.setF a lo n v).host = s.host := rfl
@[simp] theorem State.setF_storePoison (a lo n v : Nat) : (s.setF a lo n v).storePoison = s.storePoison := rfl
@[simp] theorem State.setF_poolPoison (a lo n v : Nat) : (s.setF a lo n v).poolPoison = s.poolPoison := rfl
@[simp] theorem State.setF_stackPoison (a lo n v : Nat) : (s.setF a lo n v).stackPoison = s.stackPoison := rfl
@[simp] theorem State.setF_rills (a lo n v : Nat) : (s.setF a lo n v).rills = s.rills := rfl
@[simp] theorem State.setF_net (a lo n v : Nat) : (s.setF a lo n v).net = s.net := rfl
@[simp] theorem State.setF_nextXid (a lo n v : Nat) : (s.setF a lo n v).nextXid = s.nextXid := rfl
@[simp] theorem State.setF_cairn (a lo n v : Nat) : (s.setF a lo n v).cairn = s.cairn := rfl
@[simp] theorem State.setF_ce (a lo n v : Nat) : (s.setF a lo n v).ce = s.ce := rfl
@[simp] theorem State.setF_msix (a lo n v : Nat) : (s.setF a lo n v).msix = s.msix := rfl
@[simp] theorem State.setF_msixPend (a lo n v : Nat) : (s.setF a lo n v).msixPend = s.msixPend := rfl
@[simp] theorem State.setF_lastEvtMsi (a lo n v : Nat) : (s.setF a lo n v).lastEvtMsi = s.lastEvtMsi := rfl
@[simp] theorem State.setF_out (a lo n v : Nat) : (s.setF a lo n v).out = s.out := rfl
@[simp] theorem State.setF_freeCtr (a lo n v : Nat) : (s.setF a lo n v).freeCtr = s.freeCtr := rfl
@[simp] theorem State.setF_msixFnMask (a lo n v : Nat) : (s.setF a lo n v).msixFnMask = s.msixFnMask := rfl
@[simp] theorem State.setF_gaugePend (a lo n v : Nat) : (s.setF a lo n v).gaugePend = s.gaugePend := rfl
@[simp] theorem State.setF_gaugeDue (a lo n v : Nat) : (s.setF a lo n v).gaugeDue = s.gaugeDue := rfl
@[simp] theorem State.setF_memReqs (a lo n v : Nat) : (s.setF a lo n v).memReqs = s.memReqs := rfl
@[simp] theorem State.setF_tlb (a lo n v : Nat) : (s.setF a lo n v).tlb = s.tlb := rfl
@[simp] theorem State.setF_walkCache (a lo n v : Nat) : (s.setF a lo n v).walkCache = s.walkCache := rfl
@[simp] theorem State.setF_hws (a lo n v : Nat) : (s.setF a lo n v).hws = s.hws := rfl
@[simp] theorem State.setF_grads (a lo n v : Nat) : (s.setF a lo n v).grads = s.grads := rfl
@[simp] theorem State.setF_hwWait (a lo n v : Nat) : (s.setF a lo n v).hwWait = s.hwWait := rfl
@[simp] theorem State.setF_hwMan (a lo n v : Nat) : (s.setF a lo n v).hwMan = s.hwMan := rfl
@[simp] theorem State.setF_hwBinding (a lo n v : Nat) : (s.setF a lo n v).hwBinding = s.hwBinding := rfl
@[simp] theorem State.setF_hwKeys (a lo n v : Nat) : (s.setF a lo n v).hwKeys = s.hwKeys := rfl
@[simp] theorem State.setF_keyReqs (a lo n v : Nat) : (s.setF a lo n v).keyReqs = s.keyReqs := rfl
@[simp] theorem State.setF_portLeft (a lo n v : Nat) : (s.setF a lo n v).portLeft = s.portLeft := rfl
@[simp] theorem State.setF_frontGo (a lo n v : Nat) : (s.setF a lo n v).frontGo = s.frontGo := rfl
@[simp] theorem State.setF_seqrs (a lo n v : Nat) : (s.setF a lo n v).seqrs = s.seqrs := rfl
@[simp] theorem State.setF_postSeq (a lo n v : Nat) : (s.setF a lo n v).postSeq = s.postSeq := rfl
@[simp] theorem State.setF_rcvs (a lo n v : Nat) : (s.setF a lo n v).rcvs = s.rcvs := rfl
@[simp] theorem State.setF_failing (a lo n v : Nat) : (s.setF a lo n v).failing = s.failing := rfl
@[simp] theorem State.setF_ezs (a lo n v : Nat) : (s.setF a lo n v).ezs = s.ezs := rfl
@[simp] theorem State.setF_links (a lo n v : Nat) : (s.setF a lo n v).links = s.links := rfl
@[simp] theorem State.setF_rx (a lo n v : Nat) : (s.setF a lo n v).rx = s.rx := rfl
@[simp] theorem State.setF_early (a lo n v : Nat) : (s.setF a lo n v).early = s.early := rfl
@[simp] theorem State.setF_keys (a lo n v : Nat) : (s.setF a lo n v).keys = s.keys := rfl
@[simp] theorem State.setF_bcasts (a lo n v : Nat) : (s.setF a lo n v).bcasts = s.bcasts := rfl
@[simp] theorem State.setF_groupInvalid (a lo n v : Nat) : (s.setF a lo n v).groupInvalid = s.groupInvalid := rfl
@[simp] theorem State.setF_adderFails (a lo n v : Nat) : (s.setF a lo n v).adderFails = s.adderFails := rfl
@[simp] theorem State.setF_wireHold (a lo n v : Nat) : (s.setF a lo n v).wireHold = s.wireHold := rfl
@[simp] theorem State.setF_starved (a lo n v : Nat) : (s.setF a lo n v).starved = s.starved := rfl
@[simp] theorem State.setF_stackErrs (a lo n v : Nat) : (s.setF a lo n v).stackErrs = s.stackErrs := rfl
@[simp] theorem State.setF_shapes (a lo n v : Nat) : (s.setF a lo n v).shapes = s.shapes := rfl
@[simp] theorem State.setF_wearNext (a lo n v : Nat) : (s.setF a lo n v).wearNext = s.wearNext := rfl
@[simp] theorem State.setF_wearDue (a lo n v : Nat) : (s.setF a lo n v).wearDue = s.wearDue := rfl
@[simp] theorem State.setF_wearSegs (a lo n v : Nat) : (s.setF a lo n v).wearSegs = s.wearSegs := rfl
@[simp] theorem State.setF_inputStage (a lo n v : Nat) : (s.setF a lo n v).inputStage = s.inputStage := rfl
@[simp] theorem State.setF_stageAt (a lo n v : Nat) : (s.setF a lo n v).stageAt = s.stageAt := rfl
@[simp] theorem State.setF_vinMv (a lo n v : Nat) : (s.setF a lo n v).vinMv = s.vinMv := rfl
@[simp] theorem State.setF_diodeOpen (a lo n v : Nat) : (s.setF a lo n v).diodeOpen = s.diodeOpen := rfl
@[simp] theorem State.setF_strapPins (a lo n v : Nat) : (s.setF a lo n v).strapPins = s.strapPins := rfl
@[simp] theorem State.setF_weirS (a lo n v : Nat) : (s.setF a lo n v).weirS = s.weirS := rfl
@[simp] theorem State.setF_weirSet (a lo n v : Nat) : (s.setF a lo n v).weirSet = s.weirSet := rfl
@[simp] theorem State.setF_weirUp (a lo n v : Nat) : (s.setF a lo n v).weirUp = s.weirUp := rfl
@[simp] theorem State.setF_weirDown (a lo n v : Nat) : (s.setF a lo n v).weirDown = s.weirDown := rfl
@[simp] theorem State.setF_weirRest (a lo n v : Nat) : (s.setF a lo n v).weirRest = s.weirRest := rfl
@[simp] theorem State.setF_weirBelow (a lo n v : Nat) : (s.setF a lo n v).weirBelow = s.weirBelow := rfl
@[simp] theorem State.setF_weirPend (a lo n v : Nat) : (s.setF a lo n v).weirPend = s.weirPend := rfl
@[simp] theorem State.setF_weirAt (a lo n v : Nat) : (s.setF a lo n v).weirAt = s.weirAt := rfl
@[simp] theorem State.setF_weirNj (a lo n v : Nat) : (s.setF a lo n v).weirNj = s.weirNj := rfl
@[simp] theorem State.setF_ballNj (a lo n v : Nat) : (s.setF a lo n v).ballNj = s.ballNj := rfl
@[simp] theorem State.setF_ptNj (a lo n v : Nat) : (s.setF a lo n v).ptNj = s.ptNj := rfl
@[simp] theorem State.setF_leveeStart (a lo n v : Nat) : (s.setF a lo n v).leveeStart = s.leveeStart := rfl
@[simp] theorem State.setF_pitchWait (a lo n v : Nat) : (s.setF a lo n v).pitchWait = s.pitchWait := rfl
@[simp] theorem State.setF_pitchRun (a lo n v : Nat) : (s.setF a lo n v).pitchRun = s.pitchRun := rfl
@[simp] theorem State.setF_pitchHeld (a lo n v : Nat) : (s.setF a lo n v).pitchHeld = s.pitchHeld := rfl
@[simp] theorem State.setF_railTest (a lo n v : Nat) : (s.setF a lo n v).railTest = s.railTest := rfl
@[simp] theorem State.setF_unpowered (a lo n v : Nat) : (s.setF a lo n v).unpowered = s.unpowered := rfl
@[simp] theorem State.setF_hotPitches (a lo n v : Nat) : (s.setF a lo n v).hotPitches = s.hotPitches := rfl
@[simp] theorem State.setF_isoKept (a lo n v : Nat) : (s.setF a lo n v).isoKept = s.isoKept := rfl
@[simp] theorem State.setF_isoPend (a lo n v : Nat) : (s.setF a lo n v).isoPend = s.isoPend := rfl
@[simp] theorem State.setF_startPend (a lo n v : Nat) : (s.setF a lo n v).startPend = s.startPend := rfl
@[simp] theorem State.setF_cmtDue (a lo n v : Nat) : (s.setF a lo n v).cmtDue = s.cmtDue := rfl
@[simp] theorem State.setF_testing (a lo n v : Nat) : (s.setF a lo n v).testing = s.testing := rfl
@[simp] theorem State.setF_wardenGone (a lo n v : Nat) : (s.setF a lo n v).wardenGone = s.wardenGone := rfl
@[simp] theorem State.setF_staleWait (a lo n v : Nat) : (s.setF a lo n v).staleWait = s.staleWait := rfl
@[simp] theorem State.setF_fwUp (a lo n v : Nat) : (s.setF a lo n v).fwUp = s.fwUp := rfl
@[simp] theorem State.setF_weirAct (a lo n v : Nat) : (s.setF a lo n v).weirAct = s.weirAct := rfl
@[simp] theorem State.setF_weirDrawn (a lo n v : Nat) : (s.setF a lo n v).weirDrawn = s.weirDrawn := rfl
@[simp] theorem State.setF_weirCut (a lo n v : Nat) : (s.setF a lo n v).weirCut = s.weirCut := rfl
@[simp] theorem State.setF_weirSkip (a lo n v : Nat) : (s.setF a lo n v).weirSkip = s.weirSkip := rfl
@[simp] theorem State.setF_weirFrom (a lo n v : Nat) : (s.setF a lo n v).weirFrom = s.weirFrom := rfl
@[simp] theorem State.setF_tmFirst (a lo n v : Nat) : (s.setF a lo n v).tmFirst = s.tmFirst := rfl
@[simp] theorem State.setF_tmIn (a lo n v : Nat) : (s.setF a lo n v).tmIn = s.tmIn := rfl
@[simp] theorem State.setF_tmOut (a lo n v : Nat) : (s.setF a lo n v).tmOut = s.tmOut := rfl
@[simp] theorem State.setF_tmLost (a lo n v : Nat) : (s.setF a lo n v).tmLost = s.tmLost := rfl
@[simp] theorem State.setF_holdAt (a lo n v : Nat) : (s.setF a lo n v).holdAt = s.holdAt := rfl
@[simp] theorem State.setF_ppsLast (a lo n v : Nat) : (s.setF a lo n v).ppsLast = s.ppsLast := rfl
@[simp] theorem State.setF_ppsMark (a lo n v : Nat) : (s.setF a lo n v).ppsMark = s.ppsMark := rfl
@[simp] theorem State.setF_ppsSet (a lo n v : Nat) : (s.setF a lo n v).ppsSet = s.ppsSet := rfl
@[simp] theorem State.setF_bgTable (a lo n v : Nat) : (s.setF a lo n v).bgTable = s.bgTable := rfl
@[simp] theorem State.setF_bgNext (a lo n v : Nat) : (s.setF a lo n v).bgNext = s.bgNext := rfl
@[simp] theorem State.setF_slotAt (a lo n v : Nat) : (s.setF a lo n v).slotAt = s.slotAt := rfl
@[simp] theorem State.setF_fwFlash (a lo n v : Nat) : (s.setF a lo n v).fwFlash = s.fwFlash := rfl
@[simp] theorem State.setF_fwStage (a lo n v : Nat) : (s.setF a lo n v).fwStage = s.fwStage := rfl
@[simp] theorem State.setF_fwFail (a lo n v : Nat) : (s.setF a lo n v).fwFail = s.fwFail := rfl
@[simp] theorem State.setF_boot (a lo n v : Nat) : (s.setF a lo n v).boot = s.boot := rfl
@[simp] theorem State.setF_running (a lo n v : Nat) : (s.setF a lo n v).running = s.running := rfl
@[simp] theorem State.setF_restarts (a lo n v : Nat) : (s.setF a lo n v).restarts = s.restarts := rfl
@[simp] theorem State.setF_fetching (a lo n v : Nat) : (s.setF a lo n v).fetching = s.fetching := rfl
@[simp] theorem State.setF_fetchAt (a lo n v : Nat) : (s.setF a lo n v).fetchAt = s.fetchAt := rfl
@[simp] theorem State.setF_wipedN (a lo n v : Nat) : (s.setF a lo n v).wipedN = s.wipedN := rfl
@[simp] theorem State.setF_lcPend (a lo n v : Nat) : (s.setF a lo n v).lcPend = s.lcPend := rfl
@[simp] theorem State.setF_ptRecord (a lo n v : Nat) : (s.setF a lo n v).ptRecord = s.ptRecord := rfl
@[simp] theorem State.setF_ownerChain (a lo n v : Nat) : (s.setF a lo n v).ownerChain = s.ownerChain := rfl
@[simp] theorem State.setF_identity (a lo n v : Nat) : (s.setF a lo n v).identity = s.identity := rfl
@[simp] theorem State.setF_mgmt (a lo n v : Nat) : (s.setF a lo n v).mgmt = s.mgmt := rfl
@[simp] theorem State.setF_cmtA (a lo n v : Nat) : (s.setF a lo n v).cmtA = s.cmtA := rfl
@[simp] theorem State.setF_cmtB (a lo n v : Nat) : (s.setF a lo n v).cmtB = s.cmtB := rfl
@[simp] theorem State.setF_cmtFresh (a lo n v : Nat) : (s.setF a lo n v).cmtFresh = s.cmtFresh := rfl
@[simp] theorem State.setF_warmHeld (a lo n v : Nat) : (s.setF a lo n v).warmHeld = s.warmHeld := rfl
@[simp] theorem State.setF_warmAt (a lo n v : Nat) : (s.setF a lo n v).warmAt = s.warmAt := rfl
@[simp] theorem State.setF_coreTest (a lo n v : Nat) : (s.setF a lo n v).coreTest = s.coreTest := rfl
@[simp] theorem State.setF_mbReq (a lo n v : Nat) : (s.setF a lo n v).mbReq = s.mbReq := rfl
@[simp] theorem State.setF_spdmHist (a lo n v : Nat) : (s.setF a lo n v).spdmHist = s.spdmHist := rfl
@[simp] theorem State.setF_ideSel (a lo n v : Nat) : (s.setF a lo n v).ideSel = s.ideSel := rfl
@[simp] theorem State.setF_perstLow (a lo n v : Nat) : (s.setF a lo n v).perstLow = s.perstLow := rfl
@[simp] theorem State.setF_coolant (a lo n v : Nat) : (s.setF a lo n v).coolant = s.coolant := rfl
@[simp] theorem State.setF_lineReads (a lo n v : Nat) : (s.setF a lo n v).lineReads = s.lineReads := rfl

@[simp] theorem State.setB_pending (a k : Nat) (b : Bool) : (s.setB a k b).pending = s.pending := rfl
@[simp] theorem State.setB_clk (a k : Nat) (b : Bool) : (s.setB a k b).clk = s.clk := rfl
@[simp] theorem State.setB_staged (a k : Nat) (b : Bool) : (s.setB a k b).staged = s.staged := rfl
@[simp] theorem State.setB_captured (a k : Nat) (b : Bool) : (s.setB a k b).captured = s.captured := rfl
@[simp] theorem State.setB_slotMem (a k : Nat) (b : Bool) : (s.setB a k b).slotMem = s.slotMem := rfl
@[simp] theorem State.setB_store (a k : Nat) (b : Bool) : (s.setB a k b).store = s.store := rfl
@[simp] theorem State.setB_pool (a k : Nat) (b : Bool) : (s.setB a k b).pool = s.pool := rfl
@[simp] theorem State.setB_stack (a k : Nat) (b : Bool) : (s.setB a k b).stack = s.stack := rfl
@[simp] theorem State.setB_host (a k : Nat) (b : Bool) : (s.setB a k b).host = s.host := rfl
@[simp] theorem State.setB_storePoison (a k : Nat) (b : Bool) : (s.setB a k b).storePoison = s.storePoison := rfl
@[simp] theorem State.setB_poolPoison (a k : Nat) (b : Bool) : (s.setB a k b).poolPoison = s.poolPoison := rfl
@[simp] theorem State.setB_stackPoison (a k : Nat) (b : Bool) : (s.setB a k b).stackPoison = s.stackPoison := rfl
@[simp] theorem State.setB_rills (a k : Nat) (b : Bool) : (s.setB a k b).rills = s.rills := rfl
@[simp] theorem State.setB_net (a k : Nat) (b : Bool) : (s.setB a k b).net = s.net := rfl
@[simp] theorem State.setB_nextXid (a k : Nat) (b : Bool) : (s.setB a k b).nextXid = s.nextXid := rfl
@[simp] theorem State.setB_cairn (a k : Nat) (b : Bool) : (s.setB a k b).cairn = s.cairn := rfl
@[simp] theorem State.setB_ce (a k : Nat) (b : Bool) : (s.setB a k b).ce = s.ce := rfl
@[simp] theorem State.setB_msix (a k : Nat) (b : Bool) : (s.setB a k b).msix = s.msix := rfl
@[simp] theorem State.setB_msixPend (a k : Nat) (b : Bool) : (s.setB a k b).msixPend = s.msixPend := rfl
@[simp] theorem State.setB_lastEvtMsi (a k : Nat) (b : Bool) : (s.setB a k b).lastEvtMsi = s.lastEvtMsi := rfl
@[simp] theorem State.setB_out (a k : Nat) (b : Bool) : (s.setB a k b).out = s.out := rfl
@[simp] theorem State.setB_freeCtr (a k : Nat) (b : Bool) : (s.setB a k b).freeCtr = s.freeCtr := rfl
@[simp] theorem State.setB_msixFnMask (a k : Nat) (b : Bool) : (s.setB a k b).msixFnMask = s.msixFnMask := rfl
@[simp] theorem State.setB_gaugePend (a k : Nat) (b : Bool) : (s.setB a k b).gaugePend = s.gaugePend := rfl
@[simp] theorem State.setB_gaugeDue (a k : Nat) (b : Bool) : (s.setB a k b).gaugeDue = s.gaugeDue := rfl
@[simp] theorem State.setB_memReqs (a k : Nat) (b : Bool) : (s.setB a k b).memReqs = s.memReqs := rfl
@[simp] theorem State.setB_tlb (a k : Nat) (b : Bool) : (s.setB a k b).tlb = s.tlb := rfl
@[simp] theorem State.setB_walkCache (a k : Nat) (b : Bool) : (s.setB a k b).walkCache = s.walkCache := rfl
@[simp] theorem State.setB_hws (a k : Nat) (b : Bool) : (s.setB a k b).hws = s.hws := rfl
@[simp] theorem State.setB_grads (a k : Nat) (b : Bool) : (s.setB a k b).grads = s.grads := rfl
@[simp] theorem State.setB_hwWait (a k : Nat) (b : Bool) : (s.setB a k b).hwWait = s.hwWait := rfl
@[simp] theorem State.setB_hwMan (a k : Nat) (b : Bool) : (s.setB a k b).hwMan = s.hwMan := rfl
@[simp] theorem State.setB_hwBinding (a k : Nat) (b : Bool) : (s.setB a k b).hwBinding = s.hwBinding := rfl
@[simp] theorem State.setB_hwKeys (a k : Nat) (b : Bool) : (s.setB a k b).hwKeys = s.hwKeys := rfl
@[simp] theorem State.setB_keyReqs (a k : Nat) (b : Bool) : (s.setB a k b).keyReqs = s.keyReqs := rfl
@[simp] theorem State.setB_portLeft (a k : Nat) (b : Bool) : (s.setB a k b).portLeft = s.portLeft := rfl
@[simp] theorem State.setB_frontGo (a k : Nat) (b : Bool) : (s.setB a k b).frontGo = s.frontGo := rfl
@[simp] theorem State.setB_seqrs (a k : Nat) (b : Bool) : (s.setB a k b).seqrs = s.seqrs := rfl
@[simp] theorem State.setB_postSeq (a k : Nat) (b : Bool) : (s.setB a k b).postSeq = s.postSeq := rfl
@[simp] theorem State.setB_rcvs (a k : Nat) (b : Bool) : (s.setB a k b).rcvs = s.rcvs := rfl
@[simp] theorem State.setB_failing (a k : Nat) (b : Bool) : (s.setB a k b).failing = s.failing := rfl
@[simp] theorem State.setB_ezs (a k : Nat) (b : Bool) : (s.setB a k b).ezs = s.ezs := rfl
@[simp] theorem State.setB_links (a k : Nat) (b : Bool) : (s.setB a k b).links = s.links := rfl
@[simp] theorem State.setB_rx (a k : Nat) (b : Bool) : (s.setB a k b).rx = s.rx := rfl
@[simp] theorem State.setB_early (a k : Nat) (b : Bool) : (s.setB a k b).early = s.early := rfl
@[simp] theorem State.setB_keys (a k : Nat) (b : Bool) : (s.setB a k b).keys = s.keys := rfl
@[simp] theorem State.setB_bcasts (a k : Nat) (b : Bool) : (s.setB a k b).bcasts = s.bcasts := rfl
@[simp] theorem State.setB_groupInvalid (a k : Nat) (b : Bool) : (s.setB a k b).groupInvalid = s.groupInvalid := rfl
@[simp] theorem State.setB_adderFails (a k : Nat) (b : Bool) : (s.setB a k b).adderFails = s.adderFails := rfl
@[simp] theorem State.setB_wireHold (a k : Nat) (b : Bool) : (s.setB a k b).wireHold = s.wireHold := rfl
@[simp] theorem State.setB_starved (a k : Nat) (b : Bool) : (s.setB a k b).starved = s.starved := rfl
@[simp] theorem State.setB_stackErrs (a k : Nat) (b : Bool) : (s.setB a k b).stackErrs = s.stackErrs := rfl
@[simp] theorem State.setB_shapes (a k : Nat) (b : Bool) : (s.setB a k b).shapes = s.shapes := rfl
@[simp] theorem State.setB_wearNext (a k : Nat) (b : Bool) : (s.setB a k b).wearNext = s.wearNext := rfl
@[simp] theorem State.setB_wearDue (a k : Nat) (b : Bool) : (s.setB a k b).wearDue = s.wearDue := rfl
@[simp] theorem State.setB_wearSegs (a k : Nat) (b : Bool) : (s.setB a k b).wearSegs = s.wearSegs := rfl
@[simp] theorem State.setB_inputStage (a k : Nat) (b : Bool) : (s.setB a k b).inputStage = s.inputStage := rfl
@[simp] theorem State.setB_stageAt (a k : Nat) (b : Bool) : (s.setB a k b).stageAt = s.stageAt := rfl
@[simp] theorem State.setB_vinMv (a k : Nat) (b : Bool) : (s.setB a k b).vinMv = s.vinMv := rfl
@[simp] theorem State.setB_diodeOpen (a k : Nat) (b : Bool) : (s.setB a k b).diodeOpen = s.diodeOpen := rfl
@[simp] theorem State.setB_strapPins (a k : Nat) (b : Bool) : (s.setB a k b).strapPins = s.strapPins := rfl
@[simp] theorem State.setB_weirS (a k : Nat) (b : Bool) : (s.setB a k b).weirS = s.weirS := rfl
@[simp] theorem State.setB_weirSet (a k : Nat) (b : Bool) : (s.setB a k b).weirSet = s.weirSet := rfl
@[simp] theorem State.setB_weirUp (a k : Nat) (b : Bool) : (s.setB a k b).weirUp = s.weirUp := rfl
@[simp] theorem State.setB_weirDown (a k : Nat) (b : Bool) : (s.setB a k b).weirDown = s.weirDown := rfl
@[simp] theorem State.setB_weirRest (a k : Nat) (b : Bool) : (s.setB a k b).weirRest = s.weirRest := rfl
@[simp] theorem State.setB_weirBelow (a k : Nat) (b : Bool) : (s.setB a k b).weirBelow = s.weirBelow := rfl
@[simp] theorem State.setB_weirPend (a k : Nat) (b : Bool) : (s.setB a k b).weirPend = s.weirPend := rfl
@[simp] theorem State.setB_weirAt (a k : Nat) (b : Bool) : (s.setB a k b).weirAt = s.weirAt := rfl
@[simp] theorem State.setB_weirNj (a k : Nat) (b : Bool) : (s.setB a k b).weirNj = s.weirNj := rfl
@[simp] theorem State.setB_ballNj (a k : Nat) (b : Bool) : (s.setB a k b).ballNj = s.ballNj := rfl
@[simp] theorem State.setB_ptNj (a k : Nat) (b : Bool) : (s.setB a k b).ptNj = s.ptNj := rfl
@[simp] theorem State.setB_leveeStart (a k : Nat) (b : Bool) : (s.setB a k b).leveeStart = s.leveeStart := rfl
@[simp] theorem State.setB_pitchWait (a k : Nat) (b : Bool) : (s.setB a k b).pitchWait = s.pitchWait := rfl
@[simp] theorem State.setB_pitchRun (a k : Nat) (b : Bool) : (s.setB a k b).pitchRun = s.pitchRun := rfl
@[simp] theorem State.setB_pitchHeld (a k : Nat) (b : Bool) : (s.setB a k b).pitchHeld = s.pitchHeld := rfl
@[simp] theorem State.setB_railTest (a k : Nat) (b : Bool) : (s.setB a k b).railTest = s.railTest := rfl
@[simp] theorem State.setB_unpowered (a k : Nat) (b : Bool) : (s.setB a k b).unpowered = s.unpowered := rfl
@[simp] theorem State.setB_hotPitches (a k : Nat) (b : Bool) : (s.setB a k b).hotPitches = s.hotPitches := rfl
@[simp] theorem State.setB_isoKept (a k : Nat) (b : Bool) : (s.setB a k b).isoKept = s.isoKept := rfl
@[simp] theorem State.setB_isoPend (a k : Nat) (b : Bool) : (s.setB a k b).isoPend = s.isoPend := rfl
@[simp] theorem State.setB_startPend (a k : Nat) (b : Bool) : (s.setB a k b).startPend = s.startPend := rfl
@[simp] theorem State.setB_cmtDue (a k : Nat) (b : Bool) : (s.setB a k b).cmtDue = s.cmtDue := rfl
@[simp] theorem State.setB_testing (a k : Nat) (b : Bool) : (s.setB a k b).testing = s.testing := rfl
@[simp] theorem State.setB_wardenGone (a k : Nat) (b : Bool) : (s.setB a k b).wardenGone = s.wardenGone := rfl
@[simp] theorem State.setB_staleWait (a k : Nat) (b : Bool) : (s.setB a k b).staleWait = s.staleWait := rfl
@[simp] theorem State.setB_fwUp (a k : Nat) (b : Bool) : (s.setB a k b).fwUp = s.fwUp := rfl
@[simp] theorem State.setB_weirAct (a k : Nat) (b : Bool) : (s.setB a k b).weirAct = s.weirAct := rfl
@[simp] theorem State.setB_weirDrawn (a k : Nat) (b : Bool) : (s.setB a k b).weirDrawn = s.weirDrawn := rfl
@[simp] theorem State.setB_weirCut (a k : Nat) (b : Bool) : (s.setB a k b).weirCut = s.weirCut := rfl
@[simp] theorem State.setB_weirSkip (a k : Nat) (b : Bool) : (s.setB a k b).weirSkip = s.weirSkip := rfl
@[simp] theorem State.setB_weirFrom (a k : Nat) (b : Bool) : (s.setB a k b).weirFrom = s.weirFrom := rfl
@[simp] theorem State.setB_tmFirst (a k : Nat) (b : Bool) : (s.setB a k b).tmFirst = s.tmFirst := rfl
@[simp] theorem State.setB_tmIn (a k : Nat) (b : Bool) : (s.setB a k b).tmIn = s.tmIn := rfl
@[simp] theorem State.setB_tmOut (a k : Nat) (b : Bool) : (s.setB a k b).tmOut = s.tmOut := rfl
@[simp] theorem State.setB_tmLost (a k : Nat) (b : Bool) : (s.setB a k b).tmLost = s.tmLost := rfl
@[simp] theorem State.setB_holdAt (a k : Nat) (b : Bool) : (s.setB a k b).holdAt = s.holdAt := rfl
@[simp] theorem State.setB_ppsLast (a k : Nat) (b : Bool) : (s.setB a k b).ppsLast = s.ppsLast := rfl
@[simp] theorem State.setB_ppsMark (a k : Nat) (b : Bool) : (s.setB a k b).ppsMark = s.ppsMark := rfl
@[simp] theorem State.setB_ppsSet (a k : Nat) (b : Bool) : (s.setB a k b).ppsSet = s.ppsSet := rfl
@[simp] theorem State.setB_bgTable (a k : Nat) (b : Bool) : (s.setB a k b).bgTable = s.bgTable := rfl
@[simp] theorem State.setB_bgNext (a k : Nat) (b : Bool) : (s.setB a k b).bgNext = s.bgNext := rfl
@[simp] theorem State.setB_slotAt (a k : Nat) (b : Bool) : (s.setB a k b).slotAt = s.slotAt := rfl
@[simp] theorem State.setB_fwFlash (a k : Nat) (b : Bool) : (s.setB a k b).fwFlash = s.fwFlash := rfl
@[simp] theorem State.setB_fwStage (a k : Nat) (b : Bool) : (s.setB a k b).fwStage = s.fwStage := rfl
@[simp] theorem State.setB_fwFail (a k : Nat) (b : Bool) : (s.setB a k b).fwFail = s.fwFail := rfl
@[simp] theorem State.setB_boot (a k : Nat) (b : Bool) : (s.setB a k b).boot = s.boot := rfl
@[simp] theorem State.setB_running (a k : Nat) (b : Bool) : (s.setB a k b).running = s.running := rfl
@[simp] theorem State.setB_restarts (a k : Nat) (b : Bool) : (s.setB a k b).restarts = s.restarts := rfl
@[simp] theorem State.setB_fetching (a k : Nat) (b : Bool) : (s.setB a k b).fetching = s.fetching := rfl
@[simp] theorem State.setB_fetchAt (a k : Nat) (b : Bool) : (s.setB a k b).fetchAt = s.fetchAt := rfl
@[simp] theorem State.setB_wipedN (a k : Nat) (b : Bool) : (s.setB a k b).wipedN = s.wipedN := rfl
@[simp] theorem State.setB_lcPend (a k : Nat) (b : Bool) : (s.setB a k b).lcPend = s.lcPend := rfl
@[simp] theorem State.setB_ptRecord (a k : Nat) (b : Bool) : (s.setB a k b).ptRecord = s.ptRecord := rfl
@[simp] theorem State.setB_ownerChain (a k : Nat) (b : Bool) : (s.setB a k b).ownerChain = s.ownerChain := rfl
@[simp] theorem State.setB_identity (a k : Nat) (b : Bool) : (s.setB a k b).identity = s.identity := rfl
@[simp] theorem State.setB_mgmt (a k : Nat) (b : Bool) : (s.setB a k b).mgmt = s.mgmt := rfl
@[simp] theorem State.setB_cmtA (a k : Nat) (b : Bool) : (s.setB a k b).cmtA = s.cmtA := rfl
@[simp] theorem State.setB_cmtB (a k : Nat) (b : Bool) : (s.setB a k b).cmtB = s.cmtB := rfl
@[simp] theorem State.setB_cmtFresh (a k : Nat) (b : Bool) : (s.setB a k b).cmtFresh = s.cmtFresh := rfl
@[simp] theorem State.setB_warmHeld (a k : Nat) (b : Bool) : (s.setB a k b).warmHeld = s.warmHeld := rfl
@[simp] theorem State.setB_warmAt (a k : Nat) (b : Bool) : (s.setB a k b).warmAt = s.warmAt := rfl
@[simp] theorem State.setB_coreTest (a k : Nat) (b : Bool) : (s.setB a k b).coreTest = s.coreTest := rfl
@[simp] theorem State.setB_mbReq (a k : Nat) (b : Bool) : (s.setB a k b).mbReq = s.mbReq := rfl
@[simp] theorem State.setB_spdmHist (a k : Nat) (b : Bool) : (s.setB a k b).spdmHist = s.spdmHist := rfl
@[simp] theorem State.setB_ideSel (a k : Nat) (b : Bool) : (s.setB a k b).ideSel = s.ideSel := rfl
@[simp] theorem State.setB_perstLow (a k : Nat) (b : Bool) : (s.setB a k b).perstLow = s.perstLow := rfl
@[simp] theorem State.setB_coolant (a k : Nat) (b : Bool) : (s.setB a k b).coolant = s.coolant := rfl
@[simp] theorem State.setB_lineReads (a k : Nat) (b : Bool) : (s.setB a k b).lineReads = s.lineReads := rfl

@[simp] theorem State.setReg64_pending (a v : Nat) : (s.setReg64 a v).pending = s.pending := rfl
@[simp] theorem State.setReg64_clk (a v : Nat) : (s.setReg64 a v).clk = s.clk := rfl
@[simp] theorem State.setReg64_staged (a v : Nat) : (s.setReg64 a v).staged = s.staged := rfl
@[simp] theorem State.setReg64_captured (a v : Nat) : (s.setReg64 a v).captured = s.captured := rfl
@[simp] theorem State.setReg64_slotMem (a v : Nat) : (s.setReg64 a v).slotMem = s.slotMem := rfl
@[simp] theorem State.setReg64_store (a v : Nat) : (s.setReg64 a v).store = s.store := rfl
@[simp] theorem State.setReg64_pool (a v : Nat) : (s.setReg64 a v).pool = s.pool := rfl
@[simp] theorem State.setReg64_stack (a v : Nat) : (s.setReg64 a v).stack = s.stack := rfl
@[simp] theorem State.setReg64_host (a v : Nat) : (s.setReg64 a v).host = s.host := rfl
@[simp] theorem State.setReg64_storePoison (a v : Nat) : (s.setReg64 a v).storePoison = s.storePoison := rfl
@[simp] theorem State.setReg64_poolPoison (a v : Nat) : (s.setReg64 a v).poolPoison = s.poolPoison := rfl
@[simp] theorem State.setReg64_stackPoison (a v : Nat) : (s.setReg64 a v).stackPoison = s.stackPoison := rfl
@[simp] theorem State.setReg64_rills (a v : Nat) : (s.setReg64 a v).rills = s.rills := rfl
@[simp] theorem State.setReg64_net (a v : Nat) : (s.setReg64 a v).net = s.net := rfl
@[simp] theorem State.setReg64_nextXid (a v : Nat) : (s.setReg64 a v).nextXid = s.nextXid := rfl
@[simp] theorem State.setReg64_cairn (a v : Nat) : (s.setReg64 a v).cairn = s.cairn := rfl
@[simp] theorem State.setReg64_ce (a v : Nat) : (s.setReg64 a v).ce = s.ce := rfl
@[simp] theorem State.setReg64_msix (a v : Nat) : (s.setReg64 a v).msix = s.msix := rfl
@[simp] theorem State.setReg64_msixPend (a v : Nat) : (s.setReg64 a v).msixPend = s.msixPend := rfl
@[simp] theorem State.setReg64_lastEvtMsi (a v : Nat) : (s.setReg64 a v).lastEvtMsi = s.lastEvtMsi := rfl
@[simp] theorem State.setReg64_out (a v : Nat) : (s.setReg64 a v).out = s.out := rfl
@[simp] theorem State.setReg64_freeCtr (a v : Nat) : (s.setReg64 a v).freeCtr = s.freeCtr := rfl
@[simp] theorem State.setReg64_msixFnMask (a v : Nat) : (s.setReg64 a v).msixFnMask = s.msixFnMask := rfl
@[simp] theorem State.setReg64_gaugePend (a v : Nat) : (s.setReg64 a v).gaugePend = s.gaugePend := rfl
@[simp] theorem State.setReg64_gaugeDue (a v : Nat) : (s.setReg64 a v).gaugeDue = s.gaugeDue := rfl
@[simp] theorem State.setReg64_memReqs (a v : Nat) : (s.setReg64 a v).memReqs = s.memReqs := rfl
@[simp] theorem State.setReg64_tlb (a v : Nat) : (s.setReg64 a v).tlb = s.tlb := rfl
@[simp] theorem State.setReg64_walkCache (a v : Nat) : (s.setReg64 a v).walkCache = s.walkCache := rfl
@[simp] theorem State.setReg64_hws (a v : Nat) : (s.setReg64 a v).hws = s.hws := rfl
@[simp] theorem State.setReg64_grads (a v : Nat) : (s.setReg64 a v).grads = s.grads := rfl
@[simp] theorem State.setReg64_hwWait (a v : Nat) : (s.setReg64 a v).hwWait = s.hwWait := rfl
@[simp] theorem State.setReg64_hwMan (a v : Nat) : (s.setReg64 a v).hwMan = s.hwMan := rfl
@[simp] theorem State.setReg64_hwBinding (a v : Nat) : (s.setReg64 a v).hwBinding = s.hwBinding := rfl
@[simp] theorem State.setReg64_hwKeys (a v : Nat) : (s.setReg64 a v).hwKeys = s.hwKeys := rfl
@[simp] theorem State.setReg64_keyReqs (a v : Nat) : (s.setReg64 a v).keyReqs = s.keyReqs := rfl
@[simp] theorem State.setReg64_portLeft (a v : Nat) : (s.setReg64 a v).portLeft = s.portLeft := rfl
@[simp] theorem State.setReg64_frontGo (a v : Nat) : (s.setReg64 a v).frontGo = s.frontGo := rfl
@[simp] theorem State.setReg64_seqrs (a v : Nat) : (s.setReg64 a v).seqrs = s.seqrs := rfl
@[simp] theorem State.setReg64_postSeq (a v : Nat) : (s.setReg64 a v).postSeq = s.postSeq := rfl
@[simp] theorem State.setReg64_rcvs (a v : Nat) : (s.setReg64 a v).rcvs = s.rcvs := rfl
@[simp] theorem State.setReg64_failing (a v : Nat) : (s.setReg64 a v).failing = s.failing := rfl
@[simp] theorem State.setReg64_ezs (a v : Nat) : (s.setReg64 a v).ezs = s.ezs := rfl
@[simp] theorem State.setReg64_links (a v : Nat) : (s.setReg64 a v).links = s.links := rfl
@[simp] theorem State.setReg64_rx (a v : Nat) : (s.setReg64 a v).rx = s.rx := rfl
@[simp] theorem State.setReg64_early (a v : Nat) : (s.setReg64 a v).early = s.early := rfl
@[simp] theorem State.setReg64_keys (a v : Nat) : (s.setReg64 a v).keys = s.keys := rfl
@[simp] theorem State.setReg64_bcasts (a v : Nat) : (s.setReg64 a v).bcasts = s.bcasts := rfl
@[simp] theorem State.setReg64_groupInvalid (a v : Nat) : (s.setReg64 a v).groupInvalid = s.groupInvalid := rfl
@[simp] theorem State.setReg64_adderFails (a v : Nat) : (s.setReg64 a v).adderFails = s.adderFails := rfl
@[simp] theorem State.setReg64_wireHold (a v : Nat) : (s.setReg64 a v).wireHold = s.wireHold := rfl
@[simp] theorem State.setReg64_starved (a v : Nat) : (s.setReg64 a v).starved = s.starved := rfl
@[simp] theorem State.setReg64_stackErrs (a v : Nat) : (s.setReg64 a v).stackErrs = s.stackErrs := rfl
@[simp] theorem State.setReg64_shapes (a v : Nat) : (s.setReg64 a v).shapes = s.shapes := rfl
@[simp] theorem State.setReg64_wearNext (a v : Nat) : (s.setReg64 a v).wearNext = s.wearNext := rfl
@[simp] theorem State.setReg64_wearDue (a v : Nat) : (s.setReg64 a v).wearDue = s.wearDue := rfl
@[simp] theorem State.setReg64_wearSegs (a v : Nat) : (s.setReg64 a v).wearSegs = s.wearSegs := rfl
@[simp] theorem State.setReg64_inputStage (a v : Nat) : (s.setReg64 a v).inputStage = s.inputStage := rfl
@[simp] theorem State.setReg64_stageAt (a v : Nat) : (s.setReg64 a v).stageAt = s.stageAt := rfl
@[simp] theorem State.setReg64_vinMv (a v : Nat) : (s.setReg64 a v).vinMv = s.vinMv := rfl
@[simp] theorem State.setReg64_diodeOpen (a v : Nat) : (s.setReg64 a v).diodeOpen = s.diodeOpen := rfl
@[simp] theorem State.setReg64_strapPins (a v : Nat) : (s.setReg64 a v).strapPins = s.strapPins := rfl
@[simp] theorem State.setReg64_weirS (a v : Nat) : (s.setReg64 a v).weirS = s.weirS := rfl
@[simp] theorem State.setReg64_weirSet (a v : Nat) : (s.setReg64 a v).weirSet = s.weirSet := rfl
@[simp] theorem State.setReg64_weirUp (a v : Nat) : (s.setReg64 a v).weirUp = s.weirUp := rfl
@[simp] theorem State.setReg64_weirDown (a v : Nat) : (s.setReg64 a v).weirDown = s.weirDown := rfl
@[simp] theorem State.setReg64_weirRest (a v : Nat) : (s.setReg64 a v).weirRest = s.weirRest := rfl
@[simp] theorem State.setReg64_weirBelow (a v : Nat) : (s.setReg64 a v).weirBelow = s.weirBelow := rfl
@[simp] theorem State.setReg64_weirPend (a v : Nat) : (s.setReg64 a v).weirPend = s.weirPend := rfl
@[simp] theorem State.setReg64_weirAt (a v : Nat) : (s.setReg64 a v).weirAt = s.weirAt := rfl
@[simp] theorem State.setReg64_weirNj (a v : Nat) : (s.setReg64 a v).weirNj = s.weirNj := rfl
@[simp] theorem State.setReg64_ballNj (a v : Nat) : (s.setReg64 a v).ballNj = s.ballNj := rfl
@[simp] theorem State.setReg64_ptNj (a v : Nat) : (s.setReg64 a v).ptNj = s.ptNj := rfl
@[simp] theorem State.setReg64_leveeStart (a v : Nat) : (s.setReg64 a v).leveeStart = s.leveeStart := rfl
@[simp] theorem State.setReg64_pitchWait (a v : Nat) : (s.setReg64 a v).pitchWait = s.pitchWait := rfl
@[simp] theorem State.setReg64_pitchRun (a v : Nat) : (s.setReg64 a v).pitchRun = s.pitchRun := rfl
@[simp] theorem State.setReg64_pitchHeld (a v : Nat) : (s.setReg64 a v).pitchHeld = s.pitchHeld := rfl
@[simp] theorem State.setReg64_railTest (a v : Nat) : (s.setReg64 a v).railTest = s.railTest := rfl
@[simp] theorem State.setReg64_unpowered (a v : Nat) : (s.setReg64 a v).unpowered = s.unpowered := rfl
@[simp] theorem State.setReg64_hotPitches (a v : Nat) : (s.setReg64 a v).hotPitches = s.hotPitches := rfl
@[simp] theorem State.setReg64_isoKept (a v : Nat) : (s.setReg64 a v).isoKept = s.isoKept := rfl
@[simp] theorem State.setReg64_isoPend (a v : Nat) : (s.setReg64 a v).isoPend = s.isoPend := rfl
@[simp] theorem State.setReg64_startPend (a v : Nat) : (s.setReg64 a v).startPend = s.startPend := rfl
@[simp] theorem State.setReg64_cmtDue (a v : Nat) : (s.setReg64 a v).cmtDue = s.cmtDue := rfl
@[simp] theorem State.setReg64_testing (a v : Nat) : (s.setReg64 a v).testing = s.testing := rfl
@[simp] theorem State.setReg64_wardenGone (a v : Nat) : (s.setReg64 a v).wardenGone = s.wardenGone := rfl
@[simp] theorem State.setReg64_staleWait (a v : Nat) : (s.setReg64 a v).staleWait = s.staleWait := rfl
@[simp] theorem State.setReg64_fwUp (a v : Nat) : (s.setReg64 a v).fwUp = s.fwUp := rfl
@[simp] theorem State.setReg64_weirAct (a v : Nat) : (s.setReg64 a v).weirAct = s.weirAct := rfl
@[simp] theorem State.setReg64_weirDrawn (a v : Nat) : (s.setReg64 a v).weirDrawn = s.weirDrawn := rfl
@[simp] theorem State.setReg64_weirCut (a v : Nat) : (s.setReg64 a v).weirCut = s.weirCut := rfl
@[simp] theorem State.setReg64_weirSkip (a v : Nat) : (s.setReg64 a v).weirSkip = s.weirSkip := rfl
@[simp] theorem State.setReg64_weirFrom (a v : Nat) : (s.setReg64 a v).weirFrom = s.weirFrom := rfl
@[simp] theorem State.setReg64_tmFirst (a v : Nat) : (s.setReg64 a v).tmFirst = s.tmFirst := rfl
@[simp] theorem State.setReg64_tmIn (a v : Nat) : (s.setReg64 a v).tmIn = s.tmIn := rfl
@[simp] theorem State.setReg64_tmOut (a v : Nat) : (s.setReg64 a v).tmOut = s.tmOut := rfl
@[simp] theorem State.setReg64_tmLost (a v : Nat) : (s.setReg64 a v).tmLost = s.tmLost := rfl
@[simp] theorem State.setReg64_holdAt (a v : Nat) : (s.setReg64 a v).holdAt = s.holdAt := rfl
@[simp] theorem State.setReg64_ppsLast (a v : Nat) : (s.setReg64 a v).ppsLast = s.ppsLast := rfl
@[simp] theorem State.setReg64_ppsMark (a v : Nat) : (s.setReg64 a v).ppsMark = s.ppsMark := rfl
@[simp] theorem State.setReg64_ppsSet (a v : Nat) : (s.setReg64 a v).ppsSet = s.ppsSet := rfl
@[simp] theorem State.setReg64_bgTable (a v : Nat) : (s.setReg64 a v).bgTable = s.bgTable := rfl
@[simp] theorem State.setReg64_bgNext (a v : Nat) : (s.setReg64 a v).bgNext = s.bgNext := rfl
@[simp] theorem State.setReg64_slotAt (a v : Nat) : (s.setReg64 a v).slotAt = s.slotAt := rfl
@[simp] theorem State.setReg64_fwFlash (a v : Nat) : (s.setReg64 a v).fwFlash = s.fwFlash := rfl
@[simp] theorem State.setReg64_fwStage (a v : Nat) : (s.setReg64 a v).fwStage = s.fwStage := rfl
@[simp] theorem State.setReg64_fwFail (a v : Nat) : (s.setReg64 a v).fwFail = s.fwFail := rfl
@[simp] theorem State.setReg64_boot (a v : Nat) : (s.setReg64 a v).boot = s.boot := rfl
@[simp] theorem State.setReg64_running (a v : Nat) : (s.setReg64 a v).running = s.running := rfl
@[simp] theorem State.setReg64_restarts (a v : Nat) : (s.setReg64 a v).restarts = s.restarts := rfl
@[simp] theorem State.setReg64_fetching (a v : Nat) : (s.setReg64 a v).fetching = s.fetching := rfl
@[simp] theorem State.setReg64_fetchAt (a v : Nat) : (s.setReg64 a v).fetchAt = s.fetchAt := rfl
@[simp] theorem State.setReg64_wipedN (a v : Nat) : (s.setReg64 a v).wipedN = s.wipedN := rfl
@[simp] theorem State.setReg64_lcPend (a v : Nat) : (s.setReg64 a v).lcPend = s.lcPend := rfl
@[simp] theorem State.setReg64_ptRecord (a v : Nat) : (s.setReg64 a v).ptRecord = s.ptRecord := rfl
@[simp] theorem State.setReg64_ownerChain (a v : Nat) : (s.setReg64 a v).ownerChain = s.ownerChain := rfl
@[simp] theorem State.setReg64_identity (a v : Nat) : (s.setReg64 a v).identity = s.identity := rfl
@[simp] theorem State.setReg64_mgmt (a v : Nat) : (s.setReg64 a v).mgmt = s.mgmt := rfl
@[simp] theorem State.setReg64_cmtA (a v : Nat) : (s.setReg64 a v).cmtA = s.cmtA := rfl
@[simp] theorem State.setReg64_cmtB (a v : Nat) : (s.setReg64 a v).cmtB = s.cmtB := rfl
@[simp] theorem State.setReg64_cmtFresh (a v : Nat) : (s.setReg64 a v).cmtFresh = s.cmtFresh := rfl
@[simp] theorem State.setReg64_warmHeld (a v : Nat) : (s.setReg64 a v).warmHeld = s.warmHeld := rfl
@[simp] theorem State.setReg64_warmAt (a v : Nat) : (s.setReg64 a v).warmAt = s.warmAt := rfl
@[simp] theorem State.setReg64_coreTest (a v : Nat) : (s.setReg64 a v).coreTest = s.coreTest := rfl
@[simp] theorem State.setReg64_mbReq (a v : Nat) : (s.setReg64 a v).mbReq = s.mbReq := rfl
@[simp] theorem State.setReg64_spdmHist (a v : Nat) : (s.setReg64 a v).spdmHist = s.spdmHist := rfl
@[simp] theorem State.setReg64_ideSel (a v : Nat) : (s.setReg64 a v).ideSel = s.ideSel := rfl
@[simp] theorem State.setReg64_perstLow (a v : Nat) : (s.setReg64 a v).perstLow = s.perstLow := rfl
@[simp] theorem State.setReg64_coolant (a v : Nat) : (s.setReg64 a v).coolant = s.coolant := rfl
@[simp] theorem State.setReg64_lineReads (a v : Nat) : (s.setReg64 a v).lineReads = s.lineReads := rfl

@[simp] theorem State.setPst_pending (cls inst v : Nat) : (s.setPst cls inst v).pending = s.pending := rfl
@[simp] theorem State.setPst_clk (cls inst v : Nat) : (s.setPst cls inst v).clk = s.clk := rfl
@[simp] theorem State.setPst_staged (cls inst v : Nat) : (s.setPst cls inst v).staged = s.staged := rfl
@[simp] theorem State.setPst_captured (cls inst v : Nat) : (s.setPst cls inst v).captured = s.captured := rfl
@[simp] theorem State.setPst_slotMem (cls inst v : Nat) : (s.setPst cls inst v).slotMem = s.slotMem := rfl
@[simp] theorem State.setPst_store (cls inst v : Nat) : (s.setPst cls inst v).store = s.store := rfl
@[simp] theorem State.setPst_pool (cls inst v : Nat) : (s.setPst cls inst v).pool = s.pool := rfl
@[simp] theorem State.setPst_stack (cls inst v : Nat) : (s.setPst cls inst v).stack = s.stack := rfl
@[simp] theorem State.setPst_host (cls inst v : Nat) : (s.setPst cls inst v).host = s.host := rfl
@[simp] theorem State.setPst_storePoison (cls inst v : Nat) : (s.setPst cls inst v).storePoison = s.storePoison := rfl
@[simp] theorem State.setPst_poolPoison (cls inst v : Nat) : (s.setPst cls inst v).poolPoison = s.poolPoison := rfl
@[simp] theorem State.setPst_stackPoison (cls inst v : Nat) : (s.setPst cls inst v).stackPoison = s.stackPoison := rfl
@[simp] theorem State.setPst_rills (cls inst v : Nat) : (s.setPst cls inst v).rills = s.rills := rfl
@[simp] theorem State.setPst_net (cls inst v : Nat) : (s.setPst cls inst v).net = s.net := rfl
@[simp] theorem State.setPst_nextXid (cls inst v : Nat) : (s.setPst cls inst v).nextXid = s.nextXid := rfl
@[simp] theorem State.setPst_cairn (cls inst v : Nat) : (s.setPst cls inst v).cairn = s.cairn := rfl
@[simp] theorem State.setPst_ce (cls inst v : Nat) : (s.setPst cls inst v).ce = s.ce := rfl
@[simp] theorem State.setPst_msix (cls inst v : Nat) : (s.setPst cls inst v).msix = s.msix := rfl
@[simp] theorem State.setPst_msixPend (cls inst v : Nat) : (s.setPst cls inst v).msixPend = s.msixPend := rfl
@[simp] theorem State.setPst_lastEvtMsi (cls inst v : Nat) : (s.setPst cls inst v).lastEvtMsi = s.lastEvtMsi := rfl
@[simp] theorem State.setPst_out (cls inst v : Nat) : (s.setPst cls inst v).out = s.out := rfl
@[simp] theorem State.setPst_freeCtr (cls inst v : Nat) : (s.setPst cls inst v).freeCtr = s.freeCtr := rfl
@[simp] theorem State.setPst_msixFnMask (cls inst v : Nat) : (s.setPst cls inst v).msixFnMask = s.msixFnMask := rfl
@[simp] theorem State.setPst_gaugePend (cls inst v : Nat) : (s.setPst cls inst v).gaugePend = s.gaugePend := rfl
@[simp] theorem State.setPst_gaugeDue (cls inst v : Nat) : (s.setPst cls inst v).gaugeDue = s.gaugeDue := rfl
@[simp] theorem State.setPst_memReqs (cls inst v : Nat) : (s.setPst cls inst v).memReqs = s.memReqs := rfl
@[simp] theorem State.setPst_tlb (cls inst v : Nat) : (s.setPst cls inst v).tlb = s.tlb := rfl
@[simp] theorem State.setPst_walkCache (cls inst v : Nat) : (s.setPst cls inst v).walkCache = s.walkCache := rfl
@[simp] theorem State.setPst_hws (cls inst v : Nat) : (s.setPst cls inst v).hws = s.hws := rfl
@[simp] theorem State.setPst_grads (cls inst v : Nat) : (s.setPst cls inst v).grads = s.grads := rfl
@[simp] theorem State.setPst_hwWait (cls inst v : Nat) : (s.setPst cls inst v).hwWait = s.hwWait := rfl
@[simp] theorem State.setPst_hwMan (cls inst v : Nat) : (s.setPst cls inst v).hwMan = s.hwMan := rfl
@[simp] theorem State.setPst_hwBinding (cls inst v : Nat) : (s.setPst cls inst v).hwBinding = s.hwBinding := rfl
@[simp] theorem State.setPst_hwKeys (cls inst v : Nat) : (s.setPst cls inst v).hwKeys = s.hwKeys := rfl
@[simp] theorem State.setPst_keyReqs (cls inst v : Nat) : (s.setPst cls inst v).keyReqs = s.keyReqs := rfl
@[simp] theorem State.setPst_portLeft (cls inst v : Nat) : (s.setPst cls inst v).portLeft = s.portLeft := rfl
@[simp] theorem State.setPst_frontGo (cls inst v : Nat) : (s.setPst cls inst v).frontGo = s.frontGo := rfl
@[simp] theorem State.setPst_seqrs (cls inst v : Nat) : (s.setPst cls inst v).seqrs = s.seqrs := rfl
@[simp] theorem State.setPst_postSeq (cls inst v : Nat) : (s.setPst cls inst v).postSeq = s.postSeq := rfl
@[simp] theorem State.setPst_rcvs (cls inst v : Nat) : (s.setPst cls inst v).rcvs = s.rcvs := rfl
@[simp] theorem State.setPst_failing (cls inst v : Nat) : (s.setPst cls inst v).failing = s.failing := rfl
@[simp] theorem State.setPst_ezs (cls inst v : Nat) : (s.setPst cls inst v).ezs = s.ezs := rfl
@[simp] theorem State.setPst_links (cls inst v : Nat) : (s.setPst cls inst v).links = s.links := rfl
@[simp] theorem State.setPst_rx (cls inst v : Nat) : (s.setPst cls inst v).rx = s.rx := rfl
@[simp] theorem State.setPst_early (cls inst v : Nat) : (s.setPst cls inst v).early = s.early := rfl
@[simp] theorem State.setPst_keys (cls inst v : Nat) : (s.setPst cls inst v).keys = s.keys := rfl
@[simp] theorem State.setPst_bcasts (cls inst v : Nat) : (s.setPst cls inst v).bcasts = s.bcasts := rfl
@[simp] theorem State.setPst_groupInvalid (cls inst v : Nat) : (s.setPst cls inst v).groupInvalid = s.groupInvalid := rfl
@[simp] theorem State.setPst_adderFails (cls inst v : Nat) : (s.setPst cls inst v).adderFails = s.adderFails := rfl
@[simp] theorem State.setPst_wireHold (cls inst v : Nat) : (s.setPst cls inst v).wireHold = s.wireHold := rfl
@[simp] theorem State.setPst_starved (cls inst v : Nat) : (s.setPst cls inst v).starved = s.starved := rfl
@[simp] theorem State.setPst_stackErrs (cls inst v : Nat) : (s.setPst cls inst v).stackErrs = s.stackErrs := rfl
@[simp] theorem State.setPst_shapes (cls inst v : Nat) : (s.setPst cls inst v).shapes = s.shapes := rfl
@[simp] theorem State.setPst_wearNext (cls inst v : Nat) : (s.setPst cls inst v).wearNext = s.wearNext := rfl
@[simp] theorem State.setPst_wearDue (cls inst v : Nat) : (s.setPst cls inst v).wearDue = s.wearDue := rfl
@[simp] theorem State.setPst_wearSegs (cls inst v : Nat) : (s.setPst cls inst v).wearSegs = s.wearSegs := rfl
@[simp] theorem State.setPst_inputStage (cls inst v : Nat) : (s.setPst cls inst v).inputStage = s.inputStage := rfl
@[simp] theorem State.setPst_stageAt (cls inst v : Nat) : (s.setPst cls inst v).stageAt = s.stageAt := rfl
@[simp] theorem State.setPst_vinMv (cls inst v : Nat) : (s.setPst cls inst v).vinMv = s.vinMv := rfl
@[simp] theorem State.setPst_diodeOpen (cls inst v : Nat) : (s.setPst cls inst v).diodeOpen = s.diodeOpen := rfl
@[simp] theorem State.setPst_strapPins (cls inst v : Nat) : (s.setPst cls inst v).strapPins = s.strapPins := rfl
@[simp] theorem State.setPst_weirS (cls inst v : Nat) : (s.setPst cls inst v).weirS = s.weirS := rfl
@[simp] theorem State.setPst_weirSet (cls inst v : Nat) : (s.setPst cls inst v).weirSet = s.weirSet := rfl
@[simp] theorem State.setPst_weirUp (cls inst v : Nat) : (s.setPst cls inst v).weirUp = s.weirUp := rfl
@[simp] theorem State.setPst_weirDown (cls inst v : Nat) : (s.setPst cls inst v).weirDown = s.weirDown := rfl
@[simp] theorem State.setPst_weirRest (cls inst v : Nat) : (s.setPst cls inst v).weirRest = s.weirRest := rfl
@[simp] theorem State.setPst_weirBelow (cls inst v : Nat) : (s.setPst cls inst v).weirBelow = s.weirBelow := rfl
@[simp] theorem State.setPst_weirPend (cls inst v : Nat) : (s.setPst cls inst v).weirPend = s.weirPend := rfl
@[simp] theorem State.setPst_weirAt (cls inst v : Nat) : (s.setPst cls inst v).weirAt = s.weirAt := rfl
@[simp] theorem State.setPst_weirNj (cls inst v : Nat) : (s.setPst cls inst v).weirNj = s.weirNj := rfl
@[simp] theorem State.setPst_ballNj (cls inst v : Nat) : (s.setPst cls inst v).ballNj = s.ballNj := rfl
@[simp] theorem State.setPst_ptNj (cls inst v : Nat) : (s.setPst cls inst v).ptNj = s.ptNj := rfl
@[simp] theorem State.setPst_leveeStart (cls inst v : Nat) : (s.setPst cls inst v).leveeStart = s.leveeStart := rfl
@[simp] theorem State.setPst_pitchWait (cls inst v : Nat) : (s.setPst cls inst v).pitchWait = s.pitchWait := rfl
@[simp] theorem State.setPst_pitchRun (cls inst v : Nat) : (s.setPst cls inst v).pitchRun = s.pitchRun := rfl
@[simp] theorem State.setPst_pitchHeld (cls inst v : Nat) : (s.setPst cls inst v).pitchHeld = s.pitchHeld := rfl
@[simp] theorem State.setPst_railTest (cls inst v : Nat) : (s.setPst cls inst v).railTest = s.railTest := rfl
@[simp] theorem State.setPst_unpowered (cls inst v : Nat) : (s.setPst cls inst v).unpowered = s.unpowered := rfl
@[simp] theorem State.setPst_hotPitches (cls inst v : Nat) : (s.setPst cls inst v).hotPitches = s.hotPitches := rfl
@[simp] theorem State.setPst_isoKept (cls inst v : Nat) : (s.setPst cls inst v).isoKept = s.isoKept := rfl
@[simp] theorem State.setPst_isoPend (cls inst v : Nat) : (s.setPst cls inst v).isoPend = s.isoPend := rfl
@[simp] theorem State.setPst_startPend (cls inst v : Nat) : (s.setPst cls inst v).startPend = s.startPend := rfl
@[simp] theorem State.setPst_cmtDue (cls inst v : Nat) : (s.setPst cls inst v).cmtDue = s.cmtDue := rfl
@[simp] theorem State.setPst_testing (cls inst v : Nat) : (s.setPst cls inst v).testing = s.testing := rfl
@[simp] theorem State.setPst_wardenGone (cls inst v : Nat) : (s.setPst cls inst v).wardenGone = s.wardenGone := rfl
@[simp] theorem State.setPst_staleWait (cls inst v : Nat) : (s.setPst cls inst v).staleWait = s.staleWait := rfl
@[simp] theorem State.setPst_fwUp (cls inst v : Nat) : (s.setPst cls inst v).fwUp = s.fwUp := rfl
@[simp] theorem State.setPst_weirAct (cls inst v : Nat) : (s.setPst cls inst v).weirAct = s.weirAct := rfl
@[simp] theorem State.setPst_weirDrawn (cls inst v : Nat) : (s.setPst cls inst v).weirDrawn = s.weirDrawn := rfl
@[simp] theorem State.setPst_weirCut (cls inst v : Nat) : (s.setPst cls inst v).weirCut = s.weirCut := rfl
@[simp] theorem State.setPst_weirSkip (cls inst v : Nat) : (s.setPst cls inst v).weirSkip = s.weirSkip := rfl
@[simp] theorem State.setPst_weirFrom (cls inst v : Nat) : (s.setPst cls inst v).weirFrom = s.weirFrom := rfl
@[simp] theorem State.setPst_tmFirst (cls inst v : Nat) : (s.setPst cls inst v).tmFirst = s.tmFirst := rfl
@[simp] theorem State.setPst_tmIn (cls inst v : Nat) : (s.setPst cls inst v).tmIn = s.tmIn := rfl
@[simp] theorem State.setPst_tmOut (cls inst v : Nat) : (s.setPst cls inst v).tmOut = s.tmOut := rfl
@[simp] theorem State.setPst_tmLost (cls inst v : Nat) : (s.setPst cls inst v).tmLost = s.tmLost := rfl
@[simp] theorem State.setPst_holdAt (cls inst v : Nat) : (s.setPst cls inst v).holdAt = s.holdAt := rfl
@[simp] theorem State.setPst_ppsLast (cls inst v : Nat) : (s.setPst cls inst v).ppsLast = s.ppsLast := rfl
@[simp] theorem State.setPst_ppsMark (cls inst v : Nat) : (s.setPst cls inst v).ppsMark = s.ppsMark := rfl
@[simp] theorem State.setPst_ppsSet (cls inst v : Nat) : (s.setPst cls inst v).ppsSet = s.ppsSet := rfl
@[simp] theorem State.setPst_bgTable (cls inst v : Nat) : (s.setPst cls inst v).bgTable = s.bgTable := rfl
@[simp] theorem State.setPst_bgNext (cls inst v : Nat) : (s.setPst cls inst v).bgNext = s.bgNext := rfl
@[simp] theorem State.setPst_slotAt (cls inst v : Nat) : (s.setPst cls inst v).slotAt = s.slotAt := rfl
@[simp] theorem State.setPst_fwFlash (cls inst v : Nat) : (s.setPst cls inst v).fwFlash = s.fwFlash := rfl
@[simp] theorem State.setPst_fwStage (cls inst v : Nat) : (s.setPst cls inst v).fwStage = s.fwStage := rfl
@[simp] theorem State.setPst_fwFail (cls inst v : Nat) : (s.setPst cls inst v).fwFail = s.fwFail := rfl
@[simp] theorem State.setPst_boot (cls inst v : Nat) : (s.setPst cls inst v).boot = s.boot := rfl
@[simp] theorem State.setPst_running (cls inst v : Nat) : (s.setPst cls inst v).running = s.running := rfl
@[simp] theorem State.setPst_restarts (cls inst v : Nat) : (s.setPst cls inst v).restarts = s.restarts := rfl
@[simp] theorem State.setPst_fetching (cls inst v : Nat) : (s.setPst cls inst v).fetching = s.fetching := rfl
@[simp] theorem State.setPst_fetchAt (cls inst v : Nat) : (s.setPst cls inst v).fetchAt = s.fetchAt := rfl
@[simp] theorem State.setPst_wipedN (cls inst v : Nat) : (s.setPst cls inst v).wipedN = s.wipedN := rfl
@[simp] theorem State.setPst_lcPend (cls inst v : Nat) : (s.setPst cls inst v).lcPend = s.lcPend := rfl
@[simp] theorem State.setPst_ptRecord (cls inst v : Nat) : (s.setPst cls inst v).ptRecord = s.ptRecord := rfl
@[simp] theorem State.setPst_ownerChain (cls inst v : Nat) : (s.setPst cls inst v).ownerChain = s.ownerChain := rfl
@[simp] theorem State.setPst_identity (cls inst v : Nat) : (s.setPst cls inst v).identity = s.identity := rfl
@[simp] theorem State.setPst_mgmt (cls inst v : Nat) : (s.setPst cls inst v).mgmt = s.mgmt := rfl
@[simp] theorem State.setPst_cmtA (cls inst v : Nat) : (s.setPst cls inst v).cmtA = s.cmtA := rfl
@[simp] theorem State.setPst_cmtB (cls inst v : Nat) : (s.setPst cls inst v).cmtB = s.cmtB := rfl
@[simp] theorem State.setPst_cmtFresh (cls inst v : Nat) : (s.setPst cls inst v).cmtFresh = s.cmtFresh := rfl
@[simp] theorem State.setPst_warmHeld (cls inst v : Nat) : (s.setPst cls inst v).warmHeld = s.warmHeld := rfl
@[simp] theorem State.setPst_warmAt (cls inst v : Nat) : (s.setPst cls inst v).warmAt = s.warmAt := rfl
@[simp] theorem State.setPst_coreTest (cls inst v : Nat) : (s.setPst cls inst v).coreTest = s.coreTest := rfl
@[simp] theorem State.setPst_mbReq (cls inst v : Nat) : (s.setPst cls inst v).mbReq = s.mbReq := rfl
@[simp] theorem State.setPst_spdmHist (cls inst v : Nat) : (s.setPst cls inst v).spdmHist = s.spdmHist := rfl
@[simp] theorem State.setPst_ideSel (cls inst v : Nat) : (s.setPst cls inst v).ideSel = s.ideSel := rfl
@[simp] theorem State.setPst_perstLow (cls inst v : Nat) : (s.setPst cls inst v).perstLow = s.perstLow := rfl
@[simp] theorem State.setPst_coolant (cls inst v : Nat) : (s.setPst cls inst v).coolant = s.coolant := rfl
@[simp] theorem State.setPst_lineReads (cls inst v : Nat) : (s.setPst cls inst v).lineReads = s.lineReads := rfl

@[simp] theorem State.setRill_pending (k : Nat) (r : Rill) : (s.setRill k r).pending = s.pending := rfl
@[simp] theorem State.setRill_clk (k : Nat) (r : Rill) : (s.setRill k r).clk = s.clk := rfl
@[simp] theorem State.setRill_regs (k : Nat) (r : Rill) : (s.setRill k r).regs = s.regs := rfl
@[simp] theorem State.setRill_staged (k : Nat) (r : Rill) : (s.setRill k r).staged = s.staged := rfl
@[simp] theorem State.setRill_captured (k : Nat) (r : Rill) : (s.setRill k r).captured = s.captured := rfl
@[simp] theorem State.setRill_slotMem (k : Nat) (r : Rill) : (s.setRill k r).slotMem = s.slotMem := rfl
@[simp] theorem State.setRill_store (k : Nat) (r : Rill) : (s.setRill k r).store = s.store := rfl
@[simp] theorem State.setRill_pool (k : Nat) (r : Rill) : (s.setRill k r).pool = s.pool := rfl
@[simp] theorem State.setRill_stack (k : Nat) (r : Rill) : (s.setRill k r).stack = s.stack := rfl
@[simp] theorem State.setRill_host (k : Nat) (r : Rill) : (s.setRill k r).host = s.host := rfl
@[simp] theorem State.setRill_storePoison (k : Nat) (r : Rill) : (s.setRill k r).storePoison = s.storePoison := rfl
@[simp] theorem State.setRill_poolPoison (k : Nat) (r : Rill) : (s.setRill k r).poolPoison = s.poolPoison := rfl
@[simp] theorem State.setRill_stackPoison (k : Nat) (r : Rill) : (s.setRill k r).stackPoison = s.stackPoison := rfl
@[simp] theorem State.setRill_net (k : Nat) (r : Rill) : (s.setRill k r).net = s.net := rfl
@[simp] theorem State.setRill_nextXid (k : Nat) (r : Rill) : (s.setRill k r).nextXid = s.nextXid := rfl
@[simp] theorem State.setRill_cairn (k : Nat) (r : Rill) : (s.setRill k r).cairn = s.cairn := rfl
@[simp] theorem State.setRill_ce (k : Nat) (r : Rill) : (s.setRill k r).ce = s.ce := rfl
@[simp] theorem State.setRill_msix (k : Nat) (r : Rill) : (s.setRill k r).msix = s.msix := rfl
@[simp] theorem State.setRill_msixPend (k : Nat) (r : Rill) : (s.setRill k r).msixPend = s.msixPend := rfl
@[simp] theorem State.setRill_lastEvtMsi (k : Nat) (r : Rill) : (s.setRill k r).lastEvtMsi = s.lastEvtMsi := rfl
@[simp] theorem State.setRill_out (k : Nat) (r : Rill) : (s.setRill k r).out = s.out := rfl
@[simp] theorem State.setRill_freeCtr (k : Nat) (r : Rill) : (s.setRill k r).freeCtr = s.freeCtr := rfl
@[simp] theorem State.setRill_msixFnMask (k : Nat) (r : Rill) : (s.setRill k r).msixFnMask = s.msixFnMask := rfl
@[simp] theorem State.setRill_gaugePend (k : Nat) (r : Rill) : (s.setRill k r).gaugePend = s.gaugePend := rfl
@[simp] theorem State.setRill_gaugeDue (k : Nat) (r : Rill) : (s.setRill k r).gaugeDue = s.gaugeDue := rfl
@[simp] theorem State.setRill_memReqs (k : Nat) (r : Rill) : (s.setRill k r).memReqs = s.memReqs := rfl
@[simp] theorem State.setRill_tlb (k : Nat) (r : Rill) : (s.setRill k r).tlb = s.tlb := rfl
@[simp] theorem State.setRill_walkCache (k : Nat) (r : Rill) : (s.setRill k r).walkCache = s.walkCache := rfl
@[simp] theorem State.setRill_hws (k : Nat) (r : Rill) : (s.setRill k r).hws = s.hws := rfl
@[simp] theorem State.setRill_grads (k : Nat) (r : Rill) : (s.setRill k r).grads = s.grads := rfl
@[simp] theorem State.setRill_hwWait (k : Nat) (r : Rill) : (s.setRill k r).hwWait = s.hwWait := rfl
@[simp] theorem State.setRill_hwMan (k : Nat) (r : Rill) : (s.setRill k r).hwMan = s.hwMan := rfl
@[simp] theorem State.setRill_hwBinding (k : Nat) (r : Rill) : (s.setRill k r).hwBinding = s.hwBinding := rfl
@[simp] theorem State.setRill_hwKeys (k : Nat) (r : Rill) : (s.setRill k r).hwKeys = s.hwKeys := rfl
@[simp] theorem State.setRill_keyReqs (k : Nat) (r : Rill) : (s.setRill k r).keyReqs = s.keyReqs := rfl
@[simp] theorem State.setRill_portLeft (k : Nat) (r : Rill) : (s.setRill k r).portLeft = s.portLeft := rfl
@[simp] theorem State.setRill_frontGo (k : Nat) (r : Rill) : (s.setRill k r).frontGo = s.frontGo := rfl
@[simp] theorem State.setRill_seqrs (k : Nat) (r : Rill) : (s.setRill k r).seqrs = s.seqrs := rfl
@[simp] theorem State.setRill_postSeq (k : Nat) (r : Rill) : (s.setRill k r).postSeq = s.postSeq := rfl
@[simp] theorem State.setRill_rcvs (k : Nat) (r : Rill) : (s.setRill k r).rcvs = s.rcvs := rfl
@[simp] theorem State.setRill_failing (k : Nat) (r : Rill) : (s.setRill k r).failing = s.failing := rfl
@[simp] theorem State.setRill_ezs (k : Nat) (r : Rill) : (s.setRill k r).ezs = s.ezs := rfl
@[simp] theorem State.setRill_links (k : Nat) (r : Rill) : (s.setRill k r).links = s.links := rfl
@[simp] theorem State.setRill_rx (k : Nat) (r : Rill) : (s.setRill k r).rx = s.rx := rfl
@[simp] theorem State.setRill_early (k : Nat) (r : Rill) : (s.setRill k r).early = s.early := rfl
@[simp] theorem State.setRill_keys (k : Nat) (r : Rill) : (s.setRill k r).keys = s.keys := rfl
@[simp] theorem State.setRill_bcasts (k : Nat) (r : Rill) : (s.setRill k r).bcasts = s.bcasts := rfl
@[simp] theorem State.setRill_groupInvalid (k : Nat) (r : Rill) : (s.setRill k r).groupInvalid = s.groupInvalid := rfl
@[simp] theorem State.setRill_adderFails (k : Nat) (r : Rill) : (s.setRill k r).adderFails = s.adderFails := rfl
@[simp] theorem State.setRill_wireHold (k : Nat) (r : Rill) : (s.setRill k r).wireHold = s.wireHold := rfl
@[simp] theorem State.setRill_starved (k : Nat) (r : Rill) : (s.setRill k r).starved = s.starved := rfl
@[simp] theorem State.setRill_stackErrs (k : Nat) (r : Rill) : (s.setRill k r).stackErrs = s.stackErrs := rfl
@[simp] theorem State.setRill_shapes (k : Nat) (r : Rill) : (s.setRill k r).shapes = s.shapes := rfl
@[simp] theorem State.setRill_wearNext (k : Nat) (r : Rill) : (s.setRill k r).wearNext = s.wearNext := rfl
@[simp] theorem State.setRill_wearDue (k : Nat) (r : Rill) : (s.setRill k r).wearDue = s.wearDue := rfl
@[simp] theorem State.setRill_wearSegs (k : Nat) (r : Rill) : (s.setRill k r).wearSegs = s.wearSegs := rfl
@[simp] theorem State.setRill_inputStage (k : Nat) (r : Rill) : (s.setRill k r).inputStage = s.inputStage := rfl
@[simp] theorem State.setRill_stageAt (k : Nat) (r : Rill) : (s.setRill k r).stageAt = s.stageAt := rfl
@[simp] theorem State.setRill_vinMv (k : Nat) (r : Rill) : (s.setRill k r).vinMv = s.vinMv := rfl
@[simp] theorem State.setRill_diodeOpen (k : Nat) (r : Rill) : (s.setRill k r).diodeOpen = s.diodeOpen := rfl
@[simp] theorem State.setRill_strapPins (k : Nat) (r : Rill) : (s.setRill k r).strapPins = s.strapPins := rfl
@[simp] theorem State.setRill_weirS (k : Nat) (r : Rill) : (s.setRill k r).weirS = s.weirS := rfl
@[simp] theorem State.setRill_weirSet (k : Nat) (r : Rill) : (s.setRill k r).weirSet = s.weirSet := rfl
@[simp] theorem State.setRill_weirUp (k : Nat) (r : Rill) : (s.setRill k r).weirUp = s.weirUp := rfl
@[simp] theorem State.setRill_weirDown (k : Nat) (r : Rill) : (s.setRill k r).weirDown = s.weirDown := rfl
@[simp] theorem State.setRill_weirRest (k : Nat) (r : Rill) : (s.setRill k r).weirRest = s.weirRest := rfl
@[simp] theorem State.setRill_weirBelow (k : Nat) (r : Rill) : (s.setRill k r).weirBelow = s.weirBelow := rfl
@[simp] theorem State.setRill_weirPend (k : Nat) (r : Rill) : (s.setRill k r).weirPend = s.weirPend := rfl
@[simp] theorem State.setRill_weirAt (k : Nat) (r : Rill) : (s.setRill k r).weirAt = s.weirAt := rfl
@[simp] theorem State.setRill_weirNj (k : Nat) (r : Rill) : (s.setRill k r).weirNj = s.weirNj := rfl
@[simp] theorem State.setRill_ballNj (k : Nat) (r : Rill) : (s.setRill k r).ballNj = s.ballNj := rfl
@[simp] theorem State.setRill_ptNj (k : Nat) (r : Rill) : (s.setRill k r).ptNj = s.ptNj := rfl
@[simp] theorem State.setRill_leveeStart (k : Nat) (r : Rill) : (s.setRill k r).leveeStart = s.leveeStart := rfl
@[simp] theorem State.setRill_pitchWait (k : Nat) (r : Rill) : (s.setRill k r).pitchWait = s.pitchWait := rfl
@[simp] theorem State.setRill_pitchRun (k : Nat) (r : Rill) : (s.setRill k r).pitchRun = s.pitchRun := rfl
@[simp] theorem State.setRill_pitchHeld (k : Nat) (r : Rill) : (s.setRill k r).pitchHeld = s.pitchHeld := rfl
@[simp] theorem State.setRill_railTest (k : Nat) (r : Rill) : (s.setRill k r).railTest = s.railTest := rfl
@[simp] theorem State.setRill_unpowered (k : Nat) (r : Rill) : (s.setRill k r).unpowered = s.unpowered := rfl
@[simp] theorem State.setRill_hotPitches (k : Nat) (r : Rill) : (s.setRill k r).hotPitches = s.hotPitches := rfl
@[simp] theorem State.setRill_isoKept (k : Nat) (r : Rill) : (s.setRill k r).isoKept = s.isoKept := rfl
@[simp] theorem State.setRill_isoPend (k : Nat) (r : Rill) : (s.setRill k r).isoPend = s.isoPend := rfl
@[simp] theorem State.setRill_startPend (k : Nat) (r : Rill) : (s.setRill k r).startPend = s.startPend := rfl
@[simp] theorem State.setRill_cmtDue (k : Nat) (r : Rill) : (s.setRill k r).cmtDue = s.cmtDue := rfl
@[simp] theorem State.setRill_testing (k : Nat) (r : Rill) : (s.setRill k r).testing = s.testing := rfl
@[simp] theorem State.setRill_wardenGone (k : Nat) (r : Rill) : (s.setRill k r).wardenGone = s.wardenGone := rfl
@[simp] theorem State.setRill_staleWait (k : Nat) (r : Rill) : (s.setRill k r).staleWait = s.staleWait := rfl
@[simp] theorem State.setRill_fwUp (k : Nat) (r : Rill) : (s.setRill k r).fwUp = s.fwUp := rfl
@[simp] theorem State.setRill_weirAct (k : Nat) (r : Rill) : (s.setRill k r).weirAct = s.weirAct := rfl
@[simp] theorem State.setRill_weirDrawn (k : Nat) (r : Rill) : (s.setRill k r).weirDrawn = s.weirDrawn := rfl
@[simp] theorem State.setRill_weirCut (k : Nat) (r : Rill) : (s.setRill k r).weirCut = s.weirCut := rfl
@[simp] theorem State.setRill_weirSkip (k : Nat) (r : Rill) : (s.setRill k r).weirSkip = s.weirSkip := rfl
@[simp] theorem State.setRill_weirFrom (k : Nat) (r : Rill) : (s.setRill k r).weirFrom = s.weirFrom := rfl
@[simp] theorem State.setRill_tmFirst (k : Nat) (r : Rill) : (s.setRill k r).tmFirst = s.tmFirst := rfl
@[simp] theorem State.setRill_tmIn (k : Nat) (r : Rill) : (s.setRill k r).tmIn = s.tmIn := rfl
@[simp] theorem State.setRill_tmOut (k : Nat) (r : Rill) : (s.setRill k r).tmOut = s.tmOut := rfl
@[simp] theorem State.setRill_tmLost (k : Nat) (r : Rill) : (s.setRill k r).tmLost = s.tmLost := rfl
@[simp] theorem State.setRill_holdAt (k : Nat) (r : Rill) : (s.setRill k r).holdAt = s.holdAt := rfl
@[simp] theorem State.setRill_ppsLast (k : Nat) (r : Rill) : (s.setRill k r).ppsLast = s.ppsLast := rfl
@[simp] theorem State.setRill_ppsMark (k : Nat) (r : Rill) : (s.setRill k r).ppsMark = s.ppsMark := rfl
@[simp] theorem State.setRill_ppsSet (k : Nat) (r : Rill) : (s.setRill k r).ppsSet = s.ppsSet := rfl
@[simp] theorem State.setRill_bgTable (k : Nat) (r : Rill) : (s.setRill k r).bgTable = s.bgTable := rfl
@[simp] theorem State.setRill_bgNext (k : Nat) (r : Rill) : (s.setRill k r).bgNext = s.bgNext := rfl
@[simp] theorem State.setRill_slotAt (k : Nat) (r : Rill) : (s.setRill k r).slotAt = s.slotAt := rfl
@[simp] theorem State.setRill_fwFlash (k : Nat) (r : Rill) : (s.setRill k r).fwFlash = s.fwFlash := rfl
@[simp] theorem State.setRill_fwStage (k : Nat) (r : Rill) : (s.setRill k r).fwStage = s.fwStage := rfl
@[simp] theorem State.setRill_fwFail (k : Nat) (r : Rill) : (s.setRill k r).fwFail = s.fwFail := rfl
@[simp] theorem State.setRill_boot (k : Nat) (r : Rill) : (s.setRill k r).boot = s.boot := rfl
@[simp] theorem State.setRill_running (k : Nat) (r : Rill) : (s.setRill k r).running = s.running := rfl
@[simp] theorem State.setRill_restarts (k : Nat) (r : Rill) : (s.setRill k r).restarts = s.restarts := rfl
@[simp] theorem State.setRill_fetching (k : Nat) (r : Rill) : (s.setRill k r).fetching = s.fetching := rfl
@[simp] theorem State.setRill_fetchAt (k : Nat) (r : Rill) : (s.setRill k r).fetchAt = s.fetchAt := rfl
@[simp] theorem State.setRill_wipedN (k : Nat) (r : Rill) : (s.setRill k r).wipedN = s.wipedN := rfl
@[simp] theorem State.setRill_lcPend (k : Nat) (r : Rill) : (s.setRill k r).lcPend = s.lcPend := rfl
@[simp] theorem State.setRill_ptRecord (k : Nat) (r : Rill) : (s.setRill k r).ptRecord = s.ptRecord := rfl
@[simp] theorem State.setRill_ownerChain (k : Nat) (r : Rill) : (s.setRill k r).ownerChain = s.ownerChain := rfl
@[simp] theorem State.setRill_identity (k : Nat) (r : Rill) : (s.setRill k r).identity = s.identity := rfl
@[simp] theorem State.setRill_mgmt (k : Nat) (r : Rill) : (s.setRill k r).mgmt = s.mgmt := rfl
@[simp] theorem State.setRill_cmtA (k : Nat) (r : Rill) : (s.setRill k r).cmtA = s.cmtA := rfl
@[simp] theorem State.setRill_cmtB (k : Nat) (r : Rill) : (s.setRill k r).cmtB = s.cmtB := rfl
@[simp] theorem State.setRill_cmtFresh (k : Nat) (r : Rill) : (s.setRill k r).cmtFresh = s.cmtFresh := rfl
@[simp] theorem State.setRill_warmHeld (k : Nat) (r : Rill) : (s.setRill k r).warmHeld = s.warmHeld := rfl
@[simp] theorem State.setRill_warmAt (k : Nat) (r : Rill) : (s.setRill k r).warmAt = s.warmAt := rfl
@[simp] theorem State.setRill_coreTest (k : Nat) (r : Rill) : (s.setRill k r).coreTest = s.coreTest := rfl
@[simp] theorem State.setRill_mbReq (k : Nat) (r : Rill) : (s.setRill k r).mbReq = s.mbReq := rfl
@[simp] theorem State.setRill_spdmHist (k : Nat) (r : Rill) : (s.setRill k r).spdmHist = s.spdmHist := rfl
@[simp] theorem State.setRill_ideSel (k : Nat) (r : Rill) : (s.setRill k r).ideSel = s.ideSel := rfl
@[simp] theorem State.setRill_perstLow (k : Nat) (r : Rill) : (s.setRill k r).perstLow = s.perstLow := rfl
@[simp] theorem State.setRill_coolant (k : Nat) (r : Rill) : (s.setRill k r).coolant = s.coolant := rfl
@[simp] theorem State.setRill_lineReads (k : Nat) (r : Rill) : (s.setRill k r).lineReads = s.lineReads := rfl

@[simp] theorem State.modRill_pending (k : Nat) (f : Rill → Rill) : (s.modRill k f).pending = s.pending := rfl
@[simp] theorem State.modRill_clk (k : Nat) (f : Rill → Rill) : (s.modRill k f).clk = s.clk := rfl
@[simp] theorem State.modRill_regs (k : Nat) (f : Rill → Rill) : (s.modRill k f).regs = s.regs := rfl
@[simp] theorem State.modRill_staged (k : Nat) (f : Rill → Rill) : (s.modRill k f).staged = s.staged := rfl
@[simp] theorem State.modRill_captured (k : Nat) (f : Rill → Rill) : (s.modRill k f).captured = s.captured := rfl
@[simp] theorem State.modRill_slotMem (k : Nat) (f : Rill → Rill) : (s.modRill k f).slotMem = s.slotMem := rfl
@[simp] theorem State.modRill_store (k : Nat) (f : Rill → Rill) : (s.modRill k f).store = s.store := rfl
@[simp] theorem State.modRill_pool (k : Nat) (f : Rill → Rill) : (s.modRill k f).pool = s.pool := rfl
@[simp] theorem State.modRill_stack (k : Nat) (f : Rill → Rill) : (s.modRill k f).stack = s.stack := rfl
@[simp] theorem State.modRill_host (k : Nat) (f : Rill → Rill) : (s.modRill k f).host = s.host := rfl
@[simp] theorem State.modRill_storePoison (k : Nat) (f : Rill → Rill) : (s.modRill k f).storePoison = s.storePoison := rfl
@[simp] theorem State.modRill_poolPoison (k : Nat) (f : Rill → Rill) : (s.modRill k f).poolPoison = s.poolPoison := rfl
@[simp] theorem State.modRill_stackPoison (k : Nat) (f : Rill → Rill) : (s.modRill k f).stackPoison = s.stackPoison := rfl
@[simp] theorem State.modRill_net (k : Nat) (f : Rill → Rill) : (s.modRill k f).net = s.net := rfl
@[simp] theorem State.modRill_nextXid (k : Nat) (f : Rill → Rill) : (s.modRill k f).nextXid = s.nextXid := rfl
@[simp] theorem State.modRill_cairn (k : Nat) (f : Rill → Rill) : (s.modRill k f).cairn = s.cairn := rfl
@[simp] theorem State.modRill_ce (k : Nat) (f : Rill → Rill) : (s.modRill k f).ce = s.ce := rfl
@[simp] theorem State.modRill_msix (k : Nat) (f : Rill → Rill) : (s.modRill k f).msix = s.msix := rfl
@[simp] theorem State.modRill_msixPend (k : Nat) (f : Rill → Rill) : (s.modRill k f).msixPend = s.msixPend := rfl
@[simp] theorem State.modRill_lastEvtMsi (k : Nat) (f : Rill → Rill) : (s.modRill k f).lastEvtMsi = s.lastEvtMsi := rfl
@[simp] theorem State.modRill_out (k : Nat) (f : Rill → Rill) : (s.modRill k f).out = s.out := rfl
@[simp] theorem State.modRill_freeCtr (k : Nat) (f : Rill → Rill) : (s.modRill k f).freeCtr = s.freeCtr := rfl
@[simp] theorem State.modRill_msixFnMask (k : Nat) (f : Rill → Rill) : (s.modRill k f).msixFnMask = s.msixFnMask := rfl
@[simp] theorem State.modRill_gaugePend (k : Nat) (f : Rill → Rill) : (s.modRill k f).gaugePend = s.gaugePend := rfl
@[simp] theorem State.modRill_gaugeDue (k : Nat) (f : Rill → Rill) : (s.modRill k f).gaugeDue = s.gaugeDue := rfl
@[simp] theorem State.modRill_memReqs (k : Nat) (f : Rill → Rill) : (s.modRill k f).memReqs = s.memReqs := rfl
@[simp] theorem State.modRill_tlb (k : Nat) (f : Rill → Rill) : (s.modRill k f).tlb = s.tlb := rfl
@[simp] theorem State.modRill_walkCache (k : Nat) (f : Rill → Rill) : (s.modRill k f).walkCache = s.walkCache := rfl
@[simp] theorem State.modRill_hws (k : Nat) (f : Rill → Rill) : (s.modRill k f).hws = s.hws := rfl
@[simp] theorem State.modRill_grads (k : Nat) (f : Rill → Rill) : (s.modRill k f).grads = s.grads := rfl
@[simp] theorem State.modRill_hwWait (k : Nat) (f : Rill → Rill) : (s.modRill k f).hwWait = s.hwWait := rfl
@[simp] theorem State.modRill_hwMan (k : Nat) (f : Rill → Rill) : (s.modRill k f).hwMan = s.hwMan := rfl
@[simp] theorem State.modRill_hwBinding (k : Nat) (f : Rill → Rill) : (s.modRill k f).hwBinding = s.hwBinding := rfl
@[simp] theorem State.modRill_hwKeys (k : Nat) (f : Rill → Rill) : (s.modRill k f).hwKeys = s.hwKeys := rfl
@[simp] theorem State.modRill_keyReqs (k : Nat) (f : Rill → Rill) : (s.modRill k f).keyReqs = s.keyReqs := rfl
@[simp] theorem State.modRill_portLeft (k : Nat) (f : Rill → Rill) : (s.modRill k f).portLeft = s.portLeft := rfl
@[simp] theorem State.modRill_frontGo (k : Nat) (f : Rill → Rill) : (s.modRill k f).frontGo = s.frontGo := rfl
@[simp] theorem State.modRill_seqrs (k : Nat) (f : Rill → Rill) : (s.modRill k f).seqrs = s.seqrs := rfl
@[simp] theorem State.modRill_postSeq (k : Nat) (f : Rill → Rill) : (s.modRill k f).postSeq = s.postSeq := rfl
@[simp] theorem State.modRill_rcvs (k : Nat) (f : Rill → Rill) : (s.modRill k f).rcvs = s.rcvs := rfl
@[simp] theorem State.modRill_failing (k : Nat) (f : Rill → Rill) : (s.modRill k f).failing = s.failing := rfl
@[simp] theorem State.modRill_ezs (k : Nat) (f : Rill → Rill) : (s.modRill k f).ezs = s.ezs := rfl
@[simp] theorem State.modRill_links (k : Nat) (f : Rill → Rill) : (s.modRill k f).links = s.links := rfl
@[simp] theorem State.modRill_rx (k : Nat) (f : Rill → Rill) : (s.modRill k f).rx = s.rx := rfl
@[simp] theorem State.modRill_early (k : Nat) (f : Rill → Rill) : (s.modRill k f).early = s.early := rfl
@[simp] theorem State.modRill_keys (k : Nat) (f : Rill → Rill) : (s.modRill k f).keys = s.keys := rfl
@[simp] theorem State.modRill_bcasts (k : Nat) (f : Rill → Rill) : (s.modRill k f).bcasts = s.bcasts := rfl
@[simp] theorem State.modRill_groupInvalid (k : Nat) (f : Rill → Rill) : (s.modRill k f).groupInvalid = s.groupInvalid := rfl
@[simp] theorem State.modRill_adderFails (k : Nat) (f : Rill → Rill) : (s.modRill k f).adderFails = s.adderFails := rfl
@[simp] theorem State.modRill_wireHold (k : Nat) (f : Rill → Rill) : (s.modRill k f).wireHold = s.wireHold := rfl
@[simp] theorem State.modRill_starved (k : Nat) (f : Rill → Rill) : (s.modRill k f).starved = s.starved := rfl
@[simp] theorem State.modRill_stackErrs (k : Nat) (f : Rill → Rill) : (s.modRill k f).stackErrs = s.stackErrs := rfl
@[simp] theorem State.modRill_shapes (k : Nat) (f : Rill → Rill) : (s.modRill k f).shapes = s.shapes := rfl
@[simp] theorem State.modRill_wearNext (k : Nat) (f : Rill → Rill) : (s.modRill k f).wearNext = s.wearNext := rfl
@[simp] theorem State.modRill_wearDue (k : Nat) (f : Rill → Rill) : (s.modRill k f).wearDue = s.wearDue := rfl
@[simp] theorem State.modRill_wearSegs (k : Nat) (f : Rill → Rill) : (s.modRill k f).wearSegs = s.wearSegs := rfl
@[simp] theorem State.modRill_inputStage (k : Nat) (f : Rill → Rill) : (s.modRill k f).inputStage = s.inputStage := rfl
@[simp] theorem State.modRill_stageAt (k : Nat) (f : Rill → Rill) : (s.modRill k f).stageAt = s.stageAt := rfl
@[simp] theorem State.modRill_vinMv (k : Nat) (f : Rill → Rill) : (s.modRill k f).vinMv = s.vinMv := rfl
@[simp] theorem State.modRill_diodeOpen (k : Nat) (f : Rill → Rill) : (s.modRill k f).diodeOpen = s.diodeOpen := rfl
@[simp] theorem State.modRill_strapPins (k : Nat) (f : Rill → Rill) : (s.modRill k f).strapPins = s.strapPins := rfl
@[simp] theorem State.modRill_weirS (k : Nat) (f : Rill → Rill) : (s.modRill k f).weirS = s.weirS := rfl
@[simp] theorem State.modRill_weirSet (k : Nat) (f : Rill → Rill) : (s.modRill k f).weirSet = s.weirSet := rfl
@[simp] theorem State.modRill_weirUp (k : Nat) (f : Rill → Rill) : (s.modRill k f).weirUp = s.weirUp := rfl
@[simp] theorem State.modRill_weirDown (k : Nat) (f : Rill → Rill) : (s.modRill k f).weirDown = s.weirDown := rfl
@[simp] theorem State.modRill_weirRest (k : Nat) (f : Rill → Rill) : (s.modRill k f).weirRest = s.weirRest := rfl
@[simp] theorem State.modRill_weirBelow (k : Nat) (f : Rill → Rill) : (s.modRill k f).weirBelow = s.weirBelow := rfl
@[simp] theorem State.modRill_weirPend (k : Nat) (f : Rill → Rill) : (s.modRill k f).weirPend = s.weirPend := rfl
@[simp] theorem State.modRill_weirAt (k : Nat) (f : Rill → Rill) : (s.modRill k f).weirAt = s.weirAt := rfl
@[simp] theorem State.modRill_weirNj (k : Nat) (f : Rill → Rill) : (s.modRill k f).weirNj = s.weirNj := rfl
@[simp] theorem State.modRill_ballNj (k : Nat) (f : Rill → Rill) : (s.modRill k f).ballNj = s.ballNj := rfl
@[simp] theorem State.modRill_ptNj (k : Nat) (f : Rill → Rill) : (s.modRill k f).ptNj = s.ptNj := rfl
@[simp] theorem State.modRill_leveeStart (k : Nat) (f : Rill → Rill) : (s.modRill k f).leveeStart = s.leveeStart := rfl
@[simp] theorem State.modRill_pitchWait (k : Nat) (f : Rill → Rill) : (s.modRill k f).pitchWait = s.pitchWait := rfl
@[simp] theorem State.modRill_pitchRun (k : Nat) (f : Rill → Rill) : (s.modRill k f).pitchRun = s.pitchRun := rfl
@[simp] theorem State.modRill_pitchHeld (k : Nat) (f : Rill → Rill) : (s.modRill k f).pitchHeld = s.pitchHeld := rfl
@[simp] theorem State.modRill_railTest (k : Nat) (f : Rill → Rill) : (s.modRill k f).railTest = s.railTest := rfl
@[simp] theorem State.modRill_unpowered (k : Nat) (f : Rill → Rill) : (s.modRill k f).unpowered = s.unpowered := rfl
@[simp] theorem State.modRill_hotPitches (k : Nat) (f : Rill → Rill) : (s.modRill k f).hotPitches = s.hotPitches := rfl
@[simp] theorem State.modRill_isoKept (k : Nat) (f : Rill → Rill) : (s.modRill k f).isoKept = s.isoKept := rfl
@[simp] theorem State.modRill_isoPend (k : Nat) (f : Rill → Rill) : (s.modRill k f).isoPend = s.isoPend := rfl
@[simp] theorem State.modRill_startPend (k : Nat) (f : Rill → Rill) : (s.modRill k f).startPend = s.startPend := rfl
@[simp] theorem State.modRill_cmtDue (k : Nat) (f : Rill → Rill) : (s.modRill k f).cmtDue = s.cmtDue := rfl
@[simp] theorem State.modRill_testing (k : Nat) (f : Rill → Rill) : (s.modRill k f).testing = s.testing := rfl
@[simp] theorem State.modRill_wardenGone (k : Nat) (f : Rill → Rill) : (s.modRill k f).wardenGone = s.wardenGone := rfl
@[simp] theorem State.modRill_staleWait (k : Nat) (f : Rill → Rill) : (s.modRill k f).staleWait = s.staleWait := rfl
@[simp] theorem State.modRill_fwUp (k : Nat) (f : Rill → Rill) : (s.modRill k f).fwUp = s.fwUp := rfl
@[simp] theorem State.modRill_weirAct (k : Nat) (f : Rill → Rill) : (s.modRill k f).weirAct = s.weirAct := rfl
@[simp] theorem State.modRill_weirDrawn (k : Nat) (f : Rill → Rill) : (s.modRill k f).weirDrawn = s.weirDrawn := rfl
@[simp] theorem State.modRill_weirCut (k : Nat) (f : Rill → Rill) : (s.modRill k f).weirCut = s.weirCut := rfl
@[simp] theorem State.modRill_weirSkip (k : Nat) (f : Rill → Rill) : (s.modRill k f).weirSkip = s.weirSkip := rfl
@[simp] theorem State.modRill_weirFrom (k : Nat) (f : Rill → Rill) : (s.modRill k f).weirFrom = s.weirFrom := rfl
@[simp] theorem State.modRill_tmFirst (k : Nat) (f : Rill → Rill) : (s.modRill k f).tmFirst = s.tmFirst := rfl
@[simp] theorem State.modRill_tmIn (k : Nat) (f : Rill → Rill) : (s.modRill k f).tmIn = s.tmIn := rfl
@[simp] theorem State.modRill_tmOut (k : Nat) (f : Rill → Rill) : (s.modRill k f).tmOut = s.tmOut := rfl
@[simp] theorem State.modRill_tmLost (k : Nat) (f : Rill → Rill) : (s.modRill k f).tmLost = s.tmLost := rfl
@[simp] theorem State.modRill_holdAt (k : Nat) (f : Rill → Rill) : (s.modRill k f).holdAt = s.holdAt := rfl
@[simp] theorem State.modRill_ppsLast (k : Nat) (f : Rill → Rill) : (s.modRill k f).ppsLast = s.ppsLast := rfl
@[simp] theorem State.modRill_ppsMark (k : Nat) (f : Rill → Rill) : (s.modRill k f).ppsMark = s.ppsMark := rfl
@[simp] theorem State.modRill_ppsSet (k : Nat) (f : Rill → Rill) : (s.modRill k f).ppsSet = s.ppsSet := rfl
@[simp] theorem State.modRill_bgTable (k : Nat) (f : Rill → Rill) : (s.modRill k f).bgTable = s.bgTable := rfl
@[simp] theorem State.modRill_bgNext (k : Nat) (f : Rill → Rill) : (s.modRill k f).bgNext = s.bgNext := rfl
@[simp] theorem State.modRill_slotAt (k : Nat) (f : Rill → Rill) : (s.modRill k f).slotAt = s.slotAt := rfl
@[simp] theorem State.modRill_fwFlash (k : Nat) (f : Rill → Rill) : (s.modRill k f).fwFlash = s.fwFlash := rfl
@[simp] theorem State.modRill_fwStage (k : Nat) (f : Rill → Rill) : (s.modRill k f).fwStage = s.fwStage := rfl
@[simp] theorem State.modRill_fwFail (k : Nat) (f : Rill → Rill) : (s.modRill k f).fwFail = s.fwFail := rfl
@[simp] theorem State.modRill_boot (k : Nat) (f : Rill → Rill) : (s.modRill k f).boot = s.boot := rfl
@[simp] theorem State.modRill_running (k : Nat) (f : Rill → Rill) : (s.modRill k f).running = s.running := rfl
@[simp] theorem State.modRill_restarts (k : Nat) (f : Rill → Rill) : (s.modRill k f).restarts = s.restarts := rfl
@[simp] theorem State.modRill_fetching (k : Nat) (f : Rill → Rill) : (s.modRill k f).fetching = s.fetching := rfl
@[simp] theorem State.modRill_fetchAt (k : Nat) (f : Rill → Rill) : (s.modRill k f).fetchAt = s.fetchAt := rfl
@[simp] theorem State.modRill_wipedN (k : Nat) (f : Rill → Rill) : (s.modRill k f).wipedN = s.wipedN := rfl
@[simp] theorem State.modRill_lcPend (k : Nat) (f : Rill → Rill) : (s.modRill k f).lcPend = s.lcPend := rfl
@[simp] theorem State.modRill_ptRecord (k : Nat) (f : Rill → Rill) : (s.modRill k f).ptRecord = s.ptRecord := rfl
@[simp] theorem State.modRill_ownerChain (k : Nat) (f : Rill → Rill) : (s.modRill k f).ownerChain = s.ownerChain := rfl
@[simp] theorem State.modRill_identity (k : Nat) (f : Rill → Rill) : (s.modRill k f).identity = s.identity := rfl
@[simp] theorem State.modRill_mgmt (k : Nat) (f : Rill → Rill) : (s.modRill k f).mgmt = s.mgmt := rfl
@[simp] theorem State.modRill_cmtA (k : Nat) (f : Rill → Rill) : (s.modRill k f).cmtA = s.cmtA := rfl
@[simp] theorem State.modRill_cmtB (k : Nat) (f : Rill → Rill) : (s.modRill k f).cmtB = s.cmtB := rfl
@[simp] theorem State.modRill_cmtFresh (k : Nat) (f : Rill → Rill) : (s.modRill k f).cmtFresh = s.cmtFresh := rfl
@[simp] theorem State.modRill_warmHeld (k : Nat) (f : Rill → Rill) : (s.modRill k f).warmHeld = s.warmHeld := rfl
@[simp] theorem State.modRill_warmAt (k : Nat) (f : Rill → Rill) : (s.modRill k f).warmAt = s.warmAt := rfl
@[simp] theorem State.modRill_coreTest (k : Nat) (f : Rill → Rill) : (s.modRill k f).coreTest = s.coreTest := rfl
@[simp] theorem State.modRill_mbReq (k : Nat) (f : Rill → Rill) : (s.modRill k f).mbReq = s.mbReq := rfl
@[simp] theorem State.modRill_spdmHist (k : Nat) (f : Rill → Rill) : (s.modRill k f).spdmHist = s.spdmHist := rfl
@[simp] theorem State.modRill_ideSel (k : Nat) (f : Rill → Rill) : (s.modRill k f).ideSel = s.ideSel := rfl
@[simp] theorem State.modRill_perstLow (k : Nat) (f : Rill → Rill) : (s.modRill k f).perstLow = s.perstLow := rfl
@[simp] theorem State.modRill_coolant (k : Nat) (f : Rill → Rill) : (s.modRill k f).coolant = s.coolant := rfl
@[simp] theorem State.modRill_lineReads (k : Nat) (f : Rill → Rill) : (s.modRill k f).lineReads = s.lineReads := rfl

@[simp] theorem State.modSlot_pending (k n : Nat) (f : Slot → Slot) : (s.modSlot k n f).pending = s.pending := rfl
@[simp] theorem State.modSlot_clk (k n : Nat) (f : Slot → Slot) : (s.modSlot k n f).clk = s.clk := rfl
@[simp] theorem State.modSlot_regs (k n : Nat) (f : Slot → Slot) : (s.modSlot k n f).regs = s.regs := rfl
@[simp] theorem State.modSlot_staged (k n : Nat) (f : Slot → Slot) : (s.modSlot k n f).staged = s.staged := rfl
@[simp] theorem State.modSlot_captured (k n : Nat) (f : Slot → Slot) : (s.modSlot k n f).captured = s.captured := rfl
@[simp] theorem State.modSlot_slotMem (k n : Nat) (f : Slot → Slot) : (s.modSlot k n f).slotMem = s.slotMem := rfl
@[simp] theorem State.modSlot_store (k n : Nat) (f : Slot → Slot) : (s.modSlot k n f).store = s.store := rfl
@[simp] theorem State.modSlot_pool (k n : Nat) (f : Slot → Slot) : (s.modSlot k n f).pool = s.pool := rfl
@[simp] theorem State.modSlot_stack (k n : Nat) (f : Slot → Slot) : (s.modSlot k n f).stack = s.stack := rfl
@[simp] theorem State.modSlot_host (k n : Nat) (f : Slot → Slot) : (s.modSlot k n f).host = s.host := rfl
@[simp] theorem State.modSlot_storePoison (k n : Nat) (f : Slot → Slot) : (s.modSlot k n f).storePoison = s.storePoison := rfl
@[simp] theorem State.modSlot_poolPoison (k n : Nat) (f : Slot → Slot) : (s.modSlot k n f).poolPoison = s.poolPoison := rfl
@[simp] theorem State.modSlot_stackPoison (k n : Nat) (f : Slot → Slot) : (s.modSlot k n f).stackPoison = s.stackPoison := rfl
@[simp] theorem State.modSlot_net (k n : Nat) (f : Slot → Slot) : (s.modSlot k n f).net = s.net := rfl
@[simp] theorem State.modSlot_nextXid (k n : Nat) (f : Slot → Slot) : (s.modSlot k n f).nextXid = s.nextXid := rfl
@[simp] theorem State.modSlot_cairn (k n : Nat) (f : Slot → Slot) : (s.modSlot k n f).cairn = s.cairn := rfl
@[simp] theorem State.modSlot_ce (k n : Nat) (f : Slot → Slot) : (s.modSlot k n f).ce = s.ce := rfl
@[simp] theorem State.modSlot_msix (k n : Nat) (f : Slot → Slot) : (s.modSlot k n f).msix = s.msix := rfl
@[simp] theorem State.modSlot_msixPend (k n : Nat) (f : Slot → Slot) : (s.modSlot k n f).msixPend = s.msixPend := rfl
@[simp] theorem State.modSlot_lastEvtMsi (k n : Nat) (f : Slot → Slot) : (s.modSlot k n f).lastEvtMsi = s.lastEvtMsi := rfl
@[simp] theorem State.modSlot_out (k n : Nat) (f : Slot → Slot) : (s.modSlot k n f).out = s.out := rfl
@[simp] theorem State.modSlot_freeCtr (k n : Nat) (f : Slot → Slot) : (s.modSlot k n f).freeCtr = s.freeCtr := rfl
@[simp] theorem State.modSlot_msixFnMask (k n : Nat) (f : Slot → Slot) : (s.modSlot k n f).msixFnMask = s.msixFnMask := rfl
@[simp] theorem State.modSlot_gaugePend (k n : Nat) (f : Slot → Slot) : (s.modSlot k n f).gaugePend = s.gaugePend := rfl
@[simp] theorem State.modSlot_gaugeDue (k n : Nat) (f : Slot → Slot) : (s.modSlot k n f).gaugeDue = s.gaugeDue := rfl
@[simp] theorem State.modSlot_memReqs (k n : Nat) (f : Slot → Slot) : (s.modSlot k n f).memReqs = s.memReqs := rfl
@[simp] theorem State.modSlot_tlb (k n : Nat) (f : Slot → Slot) : (s.modSlot k n f).tlb = s.tlb := rfl
@[simp] theorem State.modSlot_walkCache (k n : Nat) (f : Slot → Slot) : (s.modSlot k n f).walkCache = s.walkCache := rfl
@[simp] theorem State.modSlot_hws (k n : Nat) (f : Slot → Slot) : (s.modSlot k n f).hws = s.hws := rfl
@[simp] theorem State.modSlot_grads (k n : Nat) (f : Slot → Slot) : (s.modSlot k n f).grads = s.grads := rfl
@[simp] theorem State.modSlot_hwWait (k n : Nat) (f : Slot → Slot) : (s.modSlot k n f).hwWait = s.hwWait := rfl
@[simp] theorem State.modSlot_hwMan (k n : Nat) (f : Slot → Slot) : (s.modSlot k n f).hwMan = s.hwMan := rfl
@[simp] theorem State.modSlot_hwBinding (k n : Nat) (f : Slot → Slot) : (s.modSlot k n f).hwBinding = s.hwBinding := rfl
@[simp] theorem State.modSlot_hwKeys (k n : Nat) (f : Slot → Slot) : (s.modSlot k n f).hwKeys = s.hwKeys := rfl
@[simp] theorem State.modSlot_keyReqs (k n : Nat) (f : Slot → Slot) : (s.modSlot k n f).keyReqs = s.keyReqs := rfl
@[simp] theorem State.modSlot_portLeft (k n : Nat) (f : Slot → Slot) : (s.modSlot k n f).portLeft = s.portLeft := rfl
@[simp] theorem State.modSlot_frontGo (k n : Nat) (f : Slot → Slot) : (s.modSlot k n f).frontGo = s.frontGo := rfl
@[simp] theorem State.modSlot_seqrs (k n : Nat) (f : Slot → Slot) : (s.modSlot k n f).seqrs = s.seqrs := rfl
@[simp] theorem State.modSlot_postSeq (k n : Nat) (f : Slot → Slot) : (s.modSlot k n f).postSeq = s.postSeq := rfl
@[simp] theorem State.modSlot_rcvs (k n : Nat) (f : Slot → Slot) : (s.modSlot k n f).rcvs = s.rcvs := rfl
@[simp] theorem State.modSlot_failing (k n : Nat) (f : Slot → Slot) : (s.modSlot k n f).failing = s.failing := rfl
@[simp] theorem State.modSlot_ezs (k n : Nat) (f : Slot → Slot) : (s.modSlot k n f).ezs = s.ezs := rfl
@[simp] theorem State.modSlot_links (k n : Nat) (f : Slot → Slot) : (s.modSlot k n f).links = s.links := rfl
@[simp] theorem State.modSlot_rx (k n : Nat) (f : Slot → Slot) : (s.modSlot k n f).rx = s.rx := rfl
@[simp] theorem State.modSlot_early (k n : Nat) (f : Slot → Slot) : (s.modSlot k n f).early = s.early := rfl
@[simp] theorem State.modSlot_keys (k n : Nat) (f : Slot → Slot) : (s.modSlot k n f).keys = s.keys := rfl
@[simp] theorem State.modSlot_bcasts (k n : Nat) (f : Slot → Slot) : (s.modSlot k n f).bcasts = s.bcasts := rfl
@[simp] theorem State.modSlot_groupInvalid (k n : Nat) (f : Slot → Slot) : (s.modSlot k n f).groupInvalid = s.groupInvalid := rfl
@[simp] theorem State.modSlot_adderFails (k n : Nat) (f : Slot → Slot) : (s.modSlot k n f).adderFails = s.adderFails := rfl
@[simp] theorem State.modSlot_wireHold (k n : Nat) (f : Slot → Slot) : (s.modSlot k n f).wireHold = s.wireHold := rfl
@[simp] theorem State.modSlot_starved (k n : Nat) (f : Slot → Slot) : (s.modSlot k n f).starved = s.starved := rfl
@[simp] theorem State.modSlot_stackErrs (k n : Nat) (f : Slot → Slot) : (s.modSlot k n f).stackErrs = s.stackErrs := rfl
@[simp] theorem State.modSlot_shapes (k n : Nat) (f : Slot → Slot) : (s.modSlot k n f).shapes = s.shapes := rfl
@[simp] theorem State.modSlot_wearNext (k n : Nat) (f : Slot → Slot) : (s.modSlot k n f).wearNext = s.wearNext := rfl
@[simp] theorem State.modSlot_wearDue (k n : Nat) (f : Slot → Slot) : (s.modSlot k n f).wearDue = s.wearDue := rfl
@[simp] theorem State.modSlot_wearSegs (k n : Nat) (f : Slot → Slot) : (s.modSlot k n f).wearSegs = s.wearSegs := rfl
@[simp] theorem State.modSlot_inputStage (k n : Nat) (f : Slot → Slot) : (s.modSlot k n f).inputStage = s.inputStage := rfl
@[simp] theorem State.modSlot_stageAt (k n : Nat) (f : Slot → Slot) : (s.modSlot k n f).stageAt = s.stageAt := rfl
@[simp] theorem State.modSlot_vinMv (k n : Nat) (f : Slot → Slot) : (s.modSlot k n f).vinMv = s.vinMv := rfl
@[simp] theorem State.modSlot_diodeOpen (k n : Nat) (f : Slot → Slot) : (s.modSlot k n f).diodeOpen = s.diodeOpen := rfl
@[simp] theorem State.modSlot_strapPins (k n : Nat) (f : Slot → Slot) : (s.modSlot k n f).strapPins = s.strapPins := rfl
@[simp] theorem State.modSlot_weirS (k n : Nat) (f : Slot → Slot) : (s.modSlot k n f).weirS = s.weirS := rfl
@[simp] theorem State.modSlot_weirSet (k n : Nat) (f : Slot → Slot) : (s.modSlot k n f).weirSet = s.weirSet := rfl
@[simp] theorem State.modSlot_weirUp (k n : Nat) (f : Slot → Slot) : (s.modSlot k n f).weirUp = s.weirUp := rfl
@[simp] theorem State.modSlot_weirDown (k n : Nat) (f : Slot → Slot) : (s.modSlot k n f).weirDown = s.weirDown := rfl
@[simp] theorem State.modSlot_weirRest (k n : Nat) (f : Slot → Slot) : (s.modSlot k n f).weirRest = s.weirRest := rfl
@[simp] theorem State.modSlot_weirBelow (k n : Nat) (f : Slot → Slot) : (s.modSlot k n f).weirBelow = s.weirBelow := rfl
@[simp] theorem State.modSlot_weirPend (k n : Nat) (f : Slot → Slot) : (s.modSlot k n f).weirPend = s.weirPend := rfl
@[simp] theorem State.modSlot_weirAt (k n : Nat) (f : Slot → Slot) : (s.modSlot k n f).weirAt = s.weirAt := rfl
@[simp] theorem State.modSlot_weirNj (k n : Nat) (f : Slot → Slot) : (s.modSlot k n f).weirNj = s.weirNj := rfl
@[simp] theorem State.modSlot_ballNj (k n : Nat) (f : Slot → Slot) : (s.modSlot k n f).ballNj = s.ballNj := rfl
@[simp] theorem State.modSlot_ptNj (k n : Nat) (f : Slot → Slot) : (s.modSlot k n f).ptNj = s.ptNj := rfl
@[simp] theorem State.modSlot_leveeStart (k n : Nat) (f : Slot → Slot) : (s.modSlot k n f).leveeStart = s.leveeStart := rfl
@[simp] theorem State.modSlot_pitchWait (k n : Nat) (f : Slot → Slot) : (s.modSlot k n f).pitchWait = s.pitchWait := rfl
@[simp] theorem State.modSlot_pitchRun (k n : Nat) (f : Slot → Slot) : (s.modSlot k n f).pitchRun = s.pitchRun := rfl
@[simp] theorem State.modSlot_pitchHeld (k n : Nat) (f : Slot → Slot) : (s.modSlot k n f).pitchHeld = s.pitchHeld := rfl
@[simp] theorem State.modSlot_railTest (k n : Nat) (f : Slot → Slot) : (s.modSlot k n f).railTest = s.railTest := rfl
@[simp] theorem State.modSlot_unpowered (k n : Nat) (f : Slot → Slot) : (s.modSlot k n f).unpowered = s.unpowered := rfl
@[simp] theorem State.modSlot_hotPitches (k n : Nat) (f : Slot → Slot) : (s.modSlot k n f).hotPitches = s.hotPitches := rfl
@[simp] theorem State.modSlot_isoKept (k n : Nat) (f : Slot → Slot) : (s.modSlot k n f).isoKept = s.isoKept := rfl
@[simp] theorem State.modSlot_isoPend (k n : Nat) (f : Slot → Slot) : (s.modSlot k n f).isoPend = s.isoPend := rfl
@[simp] theorem State.modSlot_startPend (k n : Nat) (f : Slot → Slot) : (s.modSlot k n f).startPend = s.startPend := rfl
@[simp] theorem State.modSlot_cmtDue (k n : Nat) (f : Slot → Slot) : (s.modSlot k n f).cmtDue = s.cmtDue := rfl
@[simp] theorem State.modSlot_testing (k n : Nat) (f : Slot → Slot) : (s.modSlot k n f).testing = s.testing := rfl
@[simp] theorem State.modSlot_wardenGone (k n : Nat) (f : Slot → Slot) : (s.modSlot k n f).wardenGone = s.wardenGone := rfl
@[simp] theorem State.modSlot_staleWait (k n : Nat) (f : Slot → Slot) : (s.modSlot k n f).staleWait = s.staleWait := rfl
@[simp] theorem State.modSlot_fwUp (k n : Nat) (f : Slot → Slot) : (s.modSlot k n f).fwUp = s.fwUp := rfl
@[simp] theorem State.modSlot_weirAct (k n : Nat) (f : Slot → Slot) : (s.modSlot k n f).weirAct = s.weirAct := rfl
@[simp] theorem State.modSlot_weirDrawn (k n : Nat) (f : Slot → Slot) : (s.modSlot k n f).weirDrawn = s.weirDrawn := rfl
@[simp] theorem State.modSlot_weirCut (k n : Nat) (f : Slot → Slot) : (s.modSlot k n f).weirCut = s.weirCut := rfl
@[simp] theorem State.modSlot_weirSkip (k n : Nat) (f : Slot → Slot) : (s.modSlot k n f).weirSkip = s.weirSkip := rfl
@[simp] theorem State.modSlot_weirFrom (k n : Nat) (f : Slot → Slot) : (s.modSlot k n f).weirFrom = s.weirFrom := rfl
@[simp] theorem State.modSlot_tmFirst (k n : Nat) (f : Slot → Slot) : (s.modSlot k n f).tmFirst = s.tmFirst := rfl
@[simp] theorem State.modSlot_tmIn (k n : Nat) (f : Slot → Slot) : (s.modSlot k n f).tmIn = s.tmIn := rfl
@[simp] theorem State.modSlot_tmOut (k n : Nat) (f : Slot → Slot) : (s.modSlot k n f).tmOut = s.tmOut := rfl
@[simp] theorem State.modSlot_tmLost (k n : Nat) (f : Slot → Slot) : (s.modSlot k n f).tmLost = s.tmLost := rfl
@[simp] theorem State.modSlot_holdAt (k n : Nat) (f : Slot → Slot) : (s.modSlot k n f).holdAt = s.holdAt := rfl
@[simp] theorem State.modSlot_ppsLast (k n : Nat) (f : Slot → Slot) : (s.modSlot k n f).ppsLast = s.ppsLast := rfl
@[simp] theorem State.modSlot_ppsMark (k n : Nat) (f : Slot → Slot) : (s.modSlot k n f).ppsMark = s.ppsMark := rfl
@[simp] theorem State.modSlot_ppsSet (k n : Nat) (f : Slot → Slot) : (s.modSlot k n f).ppsSet = s.ppsSet := rfl
@[simp] theorem State.modSlot_bgTable (k n : Nat) (f : Slot → Slot) : (s.modSlot k n f).bgTable = s.bgTable := rfl
@[simp] theorem State.modSlot_bgNext (k n : Nat) (f : Slot → Slot) : (s.modSlot k n f).bgNext = s.bgNext := rfl
@[simp] theorem State.modSlot_slotAt (k n : Nat) (f : Slot → Slot) : (s.modSlot k n f).slotAt = s.slotAt := rfl
@[simp] theorem State.modSlot_fwFlash (k n : Nat) (f : Slot → Slot) : (s.modSlot k n f).fwFlash = s.fwFlash := rfl
@[simp] theorem State.modSlot_fwStage (k n : Nat) (f : Slot → Slot) : (s.modSlot k n f).fwStage = s.fwStage := rfl
@[simp] theorem State.modSlot_fwFail (k n : Nat) (f : Slot → Slot) : (s.modSlot k n f).fwFail = s.fwFail := rfl
@[simp] theorem State.modSlot_boot (k n : Nat) (f : Slot → Slot) : (s.modSlot k n f).boot = s.boot := rfl
@[simp] theorem State.modSlot_running (k n : Nat) (f : Slot → Slot) : (s.modSlot k n f).running = s.running := rfl
@[simp] theorem State.modSlot_restarts (k n : Nat) (f : Slot → Slot) : (s.modSlot k n f).restarts = s.restarts := rfl
@[simp] theorem State.modSlot_fetching (k n : Nat) (f : Slot → Slot) : (s.modSlot k n f).fetching = s.fetching := rfl
@[simp] theorem State.modSlot_fetchAt (k n : Nat) (f : Slot → Slot) : (s.modSlot k n f).fetchAt = s.fetchAt := rfl
@[simp] theorem State.modSlot_wipedN (k n : Nat) (f : Slot → Slot) : (s.modSlot k n f).wipedN = s.wipedN := rfl
@[simp] theorem State.modSlot_lcPend (k n : Nat) (f : Slot → Slot) : (s.modSlot k n f).lcPend = s.lcPend := rfl
@[simp] theorem State.modSlot_ptRecord (k n : Nat) (f : Slot → Slot) : (s.modSlot k n f).ptRecord = s.ptRecord := rfl
@[simp] theorem State.modSlot_ownerChain (k n : Nat) (f : Slot → Slot) : (s.modSlot k n f).ownerChain = s.ownerChain := rfl
@[simp] theorem State.modSlot_identity (k n : Nat) (f : Slot → Slot) : (s.modSlot k n f).identity = s.identity := rfl
@[simp] theorem State.modSlot_mgmt (k n : Nat) (f : Slot → Slot) : (s.modSlot k n f).mgmt = s.mgmt := rfl
@[simp] theorem State.modSlot_cmtA (k n : Nat) (f : Slot → Slot) : (s.modSlot k n f).cmtA = s.cmtA := rfl
@[simp] theorem State.modSlot_cmtB (k n : Nat) (f : Slot → Slot) : (s.modSlot k n f).cmtB = s.cmtB := rfl
@[simp] theorem State.modSlot_cmtFresh (k n : Nat) (f : Slot → Slot) : (s.modSlot k n f).cmtFresh = s.cmtFresh := rfl
@[simp] theorem State.modSlot_warmHeld (k n : Nat) (f : Slot → Slot) : (s.modSlot k n f).warmHeld = s.warmHeld := rfl
@[simp] theorem State.modSlot_warmAt (k n : Nat) (f : Slot → Slot) : (s.modSlot k n f).warmAt = s.warmAt := rfl
@[simp] theorem State.modSlot_coreTest (k n : Nat) (f : Slot → Slot) : (s.modSlot k n f).coreTest = s.coreTest := rfl
@[simp] theorem State.modSlot_mbReq (k n : Nat) (f : Slot → Slot) : (s.modSlot k n f).mbReq = s.mbReq := rfl
@[simp] theorem State.modSlot_spdmHist (k n : Nat) (f : Slot → Slot) : (s.modSlot k n f).spdmHist = s.spdmHist := rfl
@[simp] theorem State.modSlot_ideSel (k n : Nat) (f : Slot → Slot) : (s.modSlot k n f).ideSel = s.ideSel := rfl
@[simp] theorem State.modSlot_perstLow (k n : Nat) (f : Slot → Slot) : (s.modSlot k n f).perstLow = s.perstLow := rfl
@[simp] theorem State.modSlot_coolant (k n : Nat) (f : Slot → Slot) : (s.modSlot k n f).coolant = s.coolant := rfl
@[simp] theorem State.modSlot_lineReads (k n : Nat) (f : Slot → Slot) : (s.modSlot k n f).lineReads = s.lineReads := rfl

@[simp] theorem State.modQueue_pending (k q : Nat) (f : Queue → Queue) : (s.modQueue k q f).pending = s.pending := rfl
@[simp] theorem State.modQueue_clk (k q : Nat) (f : Queue → Queue) : (s.modQueue k q f).clk = s.clk := rfl
@[simp] theorem State.modQueue_regs (k q : Nat) (f : Queue → Queue) : (s.modQueue k q f).regs = s.regs := rfl
@[simp] theorem State.modQueue_staged (k q : Nat) (f : Queue → Queue) : (s.modQueue k q f).staged = s.staged := rfl
@[simp] theorem State.modQueue_captured (k q : Nat) (f : Queue → Queue) : (s.modQueue k q f).captured = s.captured := rfl
@[simp] theorem State.modQueue_slotMem (k q : Nat) (f : Queue → Queue) : (s.modQueue k q f).slotMem = s.slotMem := rfl
@[simp] theorem State.modQueue_store (k q : Nat) (f : Queue → Queue) : (s.modQueue k q f).store = s.store := rfl
@[simp] theorem State.modQueue_pool (k q : Nat) (f : Queue → Queue) : (s.modQueue k q f).pool = s.pool := rfl
@[simp] theorem State.modQueue_stack (k q : Nat) (f : Queue → Queue) : (s.modQueue k q f).stack = s.stack := rfl
@[simp] theorem State.modQueue_host (k q : Nat) (f : Queue → Queue) : (s.modQueue k q f).host = s.host := rfl
@[simp] theorem State.modQueue_storePoison (k q : Nat) (f : Queue → Queue) : (s.modQueue k q f).storePoison = s.storePoison := rfl
@[simp] theorem State.modQueue_poolPoison (k q : Nat) (f : Queue → Queue) : (s.modQueue k q f).poolPoison = s.poolPoison := rfl
@[simp] theorem State.modQueue_stackPoison (k q : Nat) (f : Queue → Queue) : (s.modQueue k q f).stackPoison = s.stackPoison := rfl
@[simp] theorem State.modQueue_net (k q : Nat) (f : Queue → Queue) : (s.modQueue k q f).net = s.net := rfl
@[simp] theorem State.modQueue_nextXid (k q : Nat) (f : Queue → Queue) : (s.modQueue k q f).nextXid = s.nextXid := rfl
@[simp] theorem State.modQueue_cairn (k q : Nat) (f : Queue → Queue) : (s.modQueue k q f).cairn = s.cairn := rfl
@[simp] theorem State.modQueue_ce (k q : Nat) (f : Queue → Queue) : (s.modQueue k q f).ce = s.ce := rfl
@[simp] theorem State.modQueue_msix (k q : Nat) (f : Queue → Queue) : (s.modQueue k q f).msix = s.msix := rfl
@[simp] theorem State.modQueue_msixPend (k q : Nat) (f : Queue → Queue) : (s.modQueue k q f).msixPend = s.msixPend := rfl
@[simp] theorem State.modQueue_lastEvtMsi (k q : Nat) (f : Queue → Queue) : (s.modQueue k q f).lastEvtMsi = s.lastEvtMsi := rfl
@[simp] theorem State.modQueue_out (k q : Nat) (f : Queue → Queue) : (s.modQueue k q f).out = s.out := rfl
@[simp] theorem State.modQueue_freeCtr (k q : Nat) (f : Queue → Queue) : (s.modQueue k q f).freeCtr = s.freeCtr := rfl
@[simp] theorem State.modQueue_msixFnMask (k q : Nat) (f : Queue → Queue) : (s.modQueue k q f).msixFnMask = s.msixFnMask := rfl
@[simp] theorem State.modQueue_gaugePend (k q : Nat) (f : Queue → Queue) : (s.modQueue k q f).gaugePend = s.gaugePend := rfl
@[simp] theorem State.modQueue_gaugeDue (k q : Nat) (f : Queue → Queue) : (s.modQueue k q f).gaugeDue = s.gaugeDue := rfl
@[simp] theorem State.modQueue_memReqs (k q : Nat) (f : Queue → Queue) : (s.modQueue k q f).memReqs = s.memReqs := rfl
@[simp] theorem State.modQueue_tlb (k q : Nat) (f : Queue → Queue) : (s.modQueue k q f).tlb = s.tlb := rfl
@[simp] theorem State.modQueue_walkCache (k q : Nat) (f : Queue → Queue) : (s.modQueue k q f).walkCache = s.walkCache := rfl
@[simp] theorem State.modQueue_hws (k q : Nat) (f : Queue → Queue) : (s.modQueue k q f).hws = s.hws := rfl
@[simp] theorem State.modQueue_grads (k q : Nat) (f : Queue → Queue) : (s.modQueue k q f).grads = s.grads := rfl
@[simp] theorem State.modQueue_hwWait (k q : Nat) (f : Queue → Queue) : (s.modQueue k q f).hwWait = s.hwWait := rfl
@[simp] theorem State.modQueue_hwMan (k q : Nat) (f : Queue → Queue) : (s.modQueue k q f).hwMan = s.hwMan := rfl
@[simp] theorem State.modQueue_hwBinding (k q : Nat) (f : Queue → Queue) : (s.modQueue k q f).hwBinding = s.hwBinding := rfl
@[simp] theorem State.modQueue_hwKeys (k q : Nat) (f : Queue → Queue) : (s.modQueue k q f).hwKeys = s.hwKeys := rfl
@[simp] theorem State.modQueue_keyReqs (k q : Nat) (f : Queue → Queue) : (s.modQueue k q f).keyReqs = s.keyReqs := rfl
@[simp] theorem State.modQueue_portLeft (k q : Nat) (f : Queue → Queue) : (s.modQueue k q f).portLeft = s.portLeft := rfl
@[simp] theorem State.modQueue_frontGo (k q : Nat) (f : Queue → Queue) : (s.modQueue k q f).frontGo = s.frontGo := rfl
@[simp] theorem State.modQueue_seqrs (k q : Nat) (f : Queue → Queue) : (s.modQueue k q f).seqrs = s.seqrs := rfl
@[simp] theorem State.modQueue_postSeq (k q : Nat) (f : Queue → Queue) : (s.modQueue k q f).postSeq = s.postSeq := rfl
@[simp] theorem State.modQueue_rcvs (k q : Nat) (f : Queue → Queue) : (s.modQueue k q f).rcvs = s.rcvs := rfl
@[simp] theorem State.modQueue_failing (k q : Nat) (f : Queue → Queue) : (s.modQueue k q f).failing = s.failing := rfl
@[simp] theorem State.modQueue_ezs (k q : Nat) (f : Queue → Queue) : (s.modQueue k q f).ezs = s.ezs := rfl
@[simp] theorem State.modQueue_links (k q : Nat) (f : Queue → Queue) : (s.modQueue k q f).links = s.links := rfl
@[simp] theorem State.modQueue_rx (k q : Nat) (f : Queue → Queue) : (s.modQueue k q f).rx = s.rx := rfl
@[simp] theorem State.modQueue_early (k q : Nat) (f : Queue → Queue) : (s.modQueue k q f).early = s.early := rfl
@[simp] theorem State.modQueue_keys (k q : Nat) (f : Queue → Queue) : (s.modQueue k q f).keys = s.keys := rfl
@[simp] theorem State.modQueue_bcasts (k q : Nat) (f : Queue → Queue) : (s.modQueue k q f).bcasts = s.bcasts := rfl
@[simp] theorem State.modQueue_groupInvalid (k q : Nat) (f : Queue → Queue) : (s.modQueue k q f).groupInvalid = s.groupInvalid := rfl
@[simp] theorem State.modQueue_adderFails (k q : Nat) (f : Queue → Queue) : (s.modQueue k q f).adderFails = s.adderFails := rfl
@[simp] theorem State.modQueue_wireHold (k q : Nat) (f : Queue → Queue) : (s.modQueue k q f).wireHold = s.wireHold := rfl
@[simp] theorem State.modQueue_starved (k q : Nat) (f : Queue → Queue) : (s.modQueue k q f).starved = s.starved := rfl
@[simp] theorem State.modQueue_stackErrs (k q : Nat) (f : Queue → Queue) : (s.modQueue k q f).stackErrs = s.stackErrs := rfl
@[simp] theorem State.modQueue_shapes (k q : Nat) (f : Queue → Queue) : (s.modQueue k q f).shapes = s.shapes := rfl
@[simp] theorem State.modQueue_wearNext (k q : Nat) (f : Queue → Queue) : (s.modQueue k q f).wearNext = s.wearNext := rfl
@[simp] theorem State.modQueue_wearDue (k q : Nat) (f : Queue → Queue) : (s.modQueue k q f).wearDue = s.wearDue := rfl
@[simp] theorem State.modQueue_wearSegs (k q : Nat) (f : Queue → Queue) : (s.modQueue k q f).wearSegs = s.wearSegs := rfl
@[simp] theorem State.modQueue_inputStage (k q : Nat) (f : Queue → Queue) : (s.modQueue k q f).inputStage = s.inputStage := rfl
@[simp] theorem State.modQueue_stageAt (k q : Nat) (f : Queue → Queue) : (s.modQueue k q f).stageAt = s.stageAt := rfl
@[simp] theorem State.modQueue_vinMv (k q : Nat) (f : Queue → Queue) : (s.modQueue k q f).vinMv = s.vinMv := rfl
@[simp] theorem State.modQueue_diodeOpen (k q : Nat) (f : Queue → Queue) : (s.modQueue k q f).diodeOpen = s.diodeOpen := rfl
@[simp] theorem State.modQueue_strapPins (k q : Nat) (f : Queue → Queue) : (s.modQueue k q f).strapPins = s.strapPins := rfl
@[simp] theorem State.modQueue_weirS (k q : Nat) (f : Queue → Queue) : (s.modQueue k q f).weirS = s.weirS := rfl
@[simp] theorem State.modQueue_weirSet (k q : Nat) (f : Queue → Queue) : (s.modQueue k q f).weirSet = s.weirSet := rfl
@[simp] theorem State.modQueue_weirUp (k q : Nat) (f : Queue → Queue) : (s.modQueue k q f).weirUp = s.weirUp := rfl
@[simp] theorem State.modQueue_weirDown (k q : Nat) (f : Queue → Queue) : (s.modQueue k q f).weirDown = s.weirDown := rfl
@[simp] theorem State.modQueue_weirRest (k q : Nat) (f : Queue → Queue) : (s.modQueue k q f).weirRest = s.weirRest := rfl
@[simp] theorem State.modQueue_weirBelow (k q : Nat) (f : Queue → Queue) : (s.modQueue k q f).weirBelow = s.weirBelow := rfl
@[simp] theorem State.modQueue_weirPend (k q : Nat) (f : Queue → Queue) : (s.modQueue k q f).weirPend = s.weirPend := rfl
@[simp] theorem State.modQueue_weirAt (k q : Nat) (f : Queue → Queue) : (s.modQueue k q f).weirAt = s.weirAt := rfl
@[simp] theorem State.modQueue_weirNj (k q : Nat) (f : Queue → Queue) : (s.modQueue k q f).weirNj = s.weirNj := rfl
@[simp] theorem State.modQueue_ballNj (k q : Nat) (f : Queue → Queue) : (s.modQueue k q f).ballNj = s.ballNj := rfl
@[simp] theorem State.modQueue_ptNj (k q : Nat) (f : Queue → Queue) : (s.modQueue k q f).ptNj = s.ptNj := rfl
@[simp] theorem State.modQueue_leveeStart (k q : Nat) (f : Queue → Queue) : (s.modQueue k q f).leveeStart = s.leveeStart := rfl
@[simp] theorem State.modQueue_pitchWait (k q : Nat) (f : Queue → Queue) : (s.modQueue k q f).pitchWait = s.pitchWait := rfl
@[simp] theorem State.modQueue_pitchRun (k q : Nat) (f : Queue → Queue) : (s.modQueue k q f).pitchRun = s.pitchRun := rfl
@[simp] theorem State.modQueue_pitchHeld (k q : Nat) (f : Queue → Queue) : (s.modQueue k q f).pitchHeld = s.pitchHeld := rfl
@[simp] theorem State.modQueue_railTest (k q : Nat) (f : Queue → Queue) : (s.modQueue k q f).railTest = s.railTest := rfl
@[simp] theorem State.modQueue_unpowered (k q : Nat) (f : Queue → Queue) : (s.modQueue k q f).unpowered = s.unpowered := rfl
@[simp] theorem State.modQueue_hotPitches (k q : Nat) (f : Queue → Queue) : (s.modQueue k q f).hotPitches = s.hotPitches := rfl
@[simp] theorem State.modQueue_isoKept (k q : Nat) (f : Queue → Queue) : (s.modQueue k q f).isoKept = s.isoKept := rfl
@[simp] theorem State.modQueue_isoPend (k q : Nat) (f : Queue → Queue) : (s.modQueue k q f).isoPend = s.isoPend := rfl
@[simp] theorem State.modQueue_startPend (k q : Nat) (f : Queue → Queue) : (s.modQueue k q f).startPend = s.startPend := rfl
@[simp] theorem State.modQueue_cmtDue (k q : Nat) (f : Queue → Queue) : (s.modQueue k q f).cmtDue = s.cmtDue := rfl
@[simp] theorem State.modQueue_testing (k q : Nat) (f : Queue → Queue) : (s.modQueue k q f).testing = s.testing := rfl
@[simp] theorem State.modQueue_wardenGone (k q : Nat) (f : Queue → Queue) : (s.modQueue k q f).wardenGone = s.wardenGone := rfl
@[simp] theorem State.modQueue_staleWait (k q : Nat) (f : Queue → Queue) : (s.modQueue k q f).staleWait = s.staleWait := rfl
@[simp] theorem State.modQueue_fwUp (k q : Nat) (f : Queue → Queue) : (s.modQueue k q f).fwUp = s.fwUp := rfl
@[simp] theorem State.modQueue_weirAct (k q : Nat) (f : Queue → Queue) : (s.modQueue k q f).weirAct = s.weirAct := rfl
@[simp] theorem State.modQueue_weirDrawn (k q : Nat) (f : Queue → Queue) : (s.modQueue k q f).weirDrawn = s.weirDrawn := rfl
@[simp] theorem State.modQueue_weirCut (k q : Nat) (f : Queue → Queue) : (s.modQueue k q f).weirCut = s.weirCut := rfl
@[simp] theorem State.modQueue_weirSkip (k q : Nat) (f : Queue → Queue) : (s.modQueue k q f).weirSkip = s.weirSkip := rfl
@[simp] theorem State.modQueue_weirFrom (k q : Nat) (f : Queue → Queue) : (s.modQueue k q f).weirFrom = s.weirFrom := rfl
@[simp] theorem State.modQueue_tmFirst (k q : Nat) (f : Queue → Queue) : (s.modQueue k q f).tmFirst = s.tmFirst := rfl
@[simp] theorem State.modQueue_tmIn (k q : Nat) (f : Queue → Queue) : (s.modQueue k q f).tmIn = s.tmIn := rfl
@[simp] theorem State.modQueue_tmOut (k q : Nat) (f : Queue → Queue) : (s.modQueue k q f).tmOut = s.tmOut := rfl
@[simp] theorem State.modQueue_tmLost (k q : Nat) (f : Queue → Queue) : (s.modQueue k q f).tmLost = s.tmLost := rfl
@[simp] theorem State.modQueue_holdAt (k q : Nat) (f : Queue → Queue) : (s.modQueue k q f).holdAt = s.holdAt := rfl
@[simp] theorem State.modQueue_ppsLast (k q : Nat) (f : Queue → Queue) : (s.modQueue k q f).ppsLast = s.ppsLast := rfl
@[simp] theorem State.modQueue_ppsMark (k q : Nat) (f : Queue → Queue) : (s.modQueue k q f).ppsMark = s.ppsMark := rfl
@[simp] theorem State.modQueue_ppsSet (k q : Nat) (f : Queue → Queue) : (s.modQueue k q f).ppsSet = s.ppsSet := rfl
@[simp] theorem State.modQueue_bgTable (k q : Nat) (f : Queue → Queue) : (s.modQueue k q f).bgTable = s.bgTable := rfl
@[simp] theorem State.modQueue_bgNext (k q : Nat) (f : Queue → Queue) : (s.modQueue k q f).bgNext = s.bgNext := rfl
@[simp] theorem State.modQueue_slotAt (k q : Nat) (f : Queue → Queue) : (s.modQueue k q f).slotAt = s.slotAt := rfl
@[simp] theorem State.modQueue_fwFlash (k q : Nat) (f : Queue → Queue) : (s.modQueue k q f).fwFlash = s.fwFlash := rfl
@[simp] theorem State.modQueue_fwStage (k q : Nat) (f : Queue → Queue) : (s.modQueue k q f).fwStage = s.fwStage := rfl
@[simp] theorem State.modQueue_fwFail (k q : Nat) (f : Queue → Queue) : (s.modQueue k q f).fwFail = s.fwFail := rfl
@[simp] theorem State.modQueue_boot (k q : Nat) (f : Queue → Queue) : (s.modQueue k q f).boot = s.boot := rfl
@[simp] theorem State.modQueue_running (k q : Nat) (f : Queue → Queue) : (s.modQueue k q f).running = s.running := rfl
@[simp] theorem State.modQueue_restarts (k q : Nat) (f : Queue → Queue) : (s.modQueue k q f).restarts = s.restarts := rfl
@[simp] theorem State.modQueue_fetching (k q : Nat) (f : Queue → Queue) : (s.modQueue k q f).fetching = s.fetching := rfl
@[simp] theorem State.modQueue_fetchAt (k q : Nat) (f : Queue → Queue) : (s.modQueue k q f).fetchAt = s.fetchAt := rfl
@[simp] theorem State.modQueue_wipedN (k q : Nat) (f : Queue → Queue) : (s.modQueue k q f).wipedN = s.wipedN := rfl
@[simp] theorem State.modQueue_lcPend (k q : Nat) (f : Queue → Queue) : (s.modQueue k q f).lcPend = s.lcPend := rfl
@[simp] theorem State.modQueue_ptRecord (k q : Nat) (f : Queue → Queue) : (s.modQueue k q f).ptRecord = s.ptRecord := rfl
@[simp] theorem State.modQueue_ownerChain (k q : Nat) (f : Queue → Queue) : (s.modQueue k q f).ownerChain = s.ownerChain := rfl
@[simp] theorem State.modQueue_identity (k q : Nat) (f : Queue → Queue) : (s.modQueue k q f).identity = s.identity := rfl
@[simp] theorem State.modQueue_mgmt (k q : Nat) (f : Queue → Queue) : (s.modQueue k q f).mgmt = s.mgmt := rfl
@[simp] theorem State.modQueue_cmtA (k q : Nat) (f : Queue → Queue) : (s.modQueue k q f).cmtA = s.cmtA := rfl
@[simp] theorem State.modQueue_cmtB (k q : Nat) (f : Queue → Queue) : (s.modQueue k q f).cmtB = s.cmtB := rfl
@[simp] theorem State.modQueue_cmtFresh (k q : Nat) (f : Queue → Queue) : (s.modQueue k q f).cmtFresh = s.cmtFresh := rfl
@[simp] theorem State.modQueue_warmHeld (k q : Nat) (f : Queue → Queue) : (s.modQueue k q f).warmHeld = s.warmHeld := rfl
@[simp] theorem State.modQueue_warmAt (k q : Nat) (f : Queue → Queue) : (s.modQueue k q f).warmAt = s.warmAt := rfl
@[simp] theorem State.modQueue_coreTest (k q : Nat) (f : Queue → Queue) : (s.modQueue k q f).coreTest = s.coreTest := rfl
@[simp] theorem State.modQueue_mbReq (k q : Nat) (f : Queue → Queue) : (s.modQueue k q f).mbReq = s.mbReq := rfl
@[simp] theorem State.modQueue_spdmHist (k q : Nat) (f : Queue → Queue) : (s.modQueue k q f).spdmHist = s.spdmHist := rfl
@[simp] theorem State.modQueue_ideSel (k q : Nat) (f : Queue → Queue) : (s.modQueue k q f).ideSel = s.ideSel := rfl
@[simp] theorem State.modQueue_perstLow (k q : Nat) (f : Queue → Queue) : (s.modQueue k q f).perstLow = s.perstLow := rfl
@[simp] theorem State.modQueue_coolant (k q : Nat) (f : Queue → Queue) : (s.modQueue k q f).coolant = s.coolant := rfl
@[simp] theorem State.modQueue_lineReads (k q : Nat) (f : Queue → Queue) : (s.modQueue k q f).lineReads = s.lineReads := rfl

@[simp] theorem State.setEng_pending (c : Nat) (e : Engine) : (s.setEng c e).pending = s.pending := rfl
@[simp] theorem State.setEng_clk (c : Nat) (e : Engine) : (s.setEng c e).clk = s.clk := rfl
@[simp] theorem State.setEng_regs (c : Nat) (e : Engine) : (s.setEng c e).regs = s.regs := rfl
@[simp] theorem State.setEng_staged (c : Nat) (e : Engine) : (s.setEng c e).staged = s.staged := rfl
@[simp] theorem State.setEng_captured (c : Nat) (e : Engine) : (s.setEng c e).captured = s.captured := rfl
@[simp] theorem State.setEng_slotMem (c : Nat) (e : Engine) : (s.setEng c e).slotMem = s.slotMem := rfl
@[simp] theorem State.setEng_store (c : Nat) (e : Engine) : (s.setEng c e).store = s.store := rfl
@[simp] theorem State.setEng_pool (c : Nat) (e : Engine) : (s.setEng c e).pool = s.pool := rfl
@[simp] theorem State.setEng_stack (c : Nat) (e : Engine) : (s.setEng c e).stack = s.stack := rfl
@[simp] theorem State.setEng_host (c : Nat) (e : Engine) : (s.setEng c e).host = s.host := rfl
@[simp] theorem State.setEng_storePoison (c : Nat) (e : Engine) : (s.setEng c e).storePoison = s.storePoison := rfl
@[simp] theorem State.setEng_poolPoison (c : Nat) (e : Engine) : (s.setEng c e).poolPoison = s.poolPoison := rfl
@[simp] theorem State.setEng_stackPoison (c : Nat) (e : Engine) : (s.setEng c e).stackPoison = s.stackPoison := rfl
@[simp] theorem State.setEng_rills (c : Nat) (e : Engine) : (s.setEng c e).rills = s.rills := rfl
@[simp] theorem State.setEng_net (c : Nat) (e : Engine) : (s.setEng c e).net = s.net := rfl
@[simp] theorem State.setEng_nextXid (c : Nat) (e : Engine) : (s.setEng c e).nextXid = s.nextXid := rfl
@[simp] theorem State.setEng_cairn (c : Nat) (e : Engine) : (s.setEng c e).cairn = s.cairn := rfl
@[simp] theorem State.setEng_msix (c : Nat) (e : Engine) : (s.setEng c e).msix = s.msix := rfl
@[simp] theorem State.setEng_msixPend (c : Nat) (e : Engine) : (s.setEng c e).msixPend = s.msixPend := rfl
@[simp] theorem State.setEng_lastEvtMsi (c : Nat) (e : Engine) : (s.setEng c e).lastEvtMsi = s.lastEvtMsi := rfl
@[simp] theorem State.setEng_out (c : Nat) (e : Engine) : (s.setEng c e).out = s.out := rfl
@[simp] theorem State.setEng_freeCtr (c : Nat) (e : Engine) : (s.setEng c e).freeCtr = s.freeCtr := rfl
@[simp] theorem State.setEng_msixFnMask (c : Nat) (e : Engine) : (s.setEng c e).msixFnMask = s.msixFnMask := rfl
@[simp] theorem State.setEng_gaugePend (c : Nat) (e : Engine) : (s.setEng c e).gaugePend = s.gaugePend := rfl
@[simp] theorem State.setEng_gaugeDue (c : Nat) (e : Engine) : (s.setEng c e).gaugeDue = s.gaugeDue := rfl
@[simp] theorem State.setEng_memReqs (c : Nat) (e : Engine) : (s.setEng c e).memReqs = s.memReqs := rfl
@[simp] theorem State.setEng_tlb (c : Nat) (e : Engine) : (s.setEng c e).tlb = s.tlb := rfl
@[simp] theorem State.setEng_walkCache (c : Nat) (e : Engine) : (s.setEng c e).walkCache = s.walkCache := rfl
@[simp] theorem State.setEng_hws (c : Nat) (e : Engine) : (s.setEng c e).hws = s.hws := rfl
@[simp] theorem State.setEng_grads (c : Nat) (e : Engine) : (s.setEng c e).grads = s.grads := rfl
@[simp] theorem State.setEng_hwWait (c : Nat) (e : Engine) : (s.setEng c e).hwWait = s.hwWait := rfl
@[simp] theorem State.setEng_hwMan (c : Nat) (e : Engine) : (s.setEng c e).hwMan = s.hwMan := rfl
@[simp] theorem State.setEng_hwBinding (c : Nat) (e : Engine) : (s.setEng c e).hwBinding = s.hwBinding := rfl
@[simp] theorem State.setEng_hwKeys (c : Nat) (e : Engine) : (s.setEng c e).hwKeys = s.hwKeys := rfl
@[simp] theorem State.setEng_keyReqs (c : Nat) (e : Engine) : (s.setEng c e).keyReqs = s.keyReqs := rfl
@[simp] theorem State.setEng_portLeft (c : Nat) (e : Engine) : (s.setEng c e).portLeft = s.portLeft := rfl
@[simp] theorem State.setEng_frontGo (c : Nat) (e : Engine) : (s.setEng c e).frontGo = s.frontGo := rfl
@[simp] theorem State.setEng_seqrs (c : Nat) (e : Engine) : (s.setEng c e).seqrs = s.seqrs := rfl
@[simp] theorem State.setEng_postSeq (c : Nat) (e : Engine) : (s.setEng c e).postSeq = s.postSeq := rfl
@[simp] theorem State.setEng_rcvs (c : Nat) (e : Engine) : (s.setEng c e).rcvs = s.rcvs := rfl
@[simp] theorem State.setEng_failing (c : Nat) (e : Engine) : (s.setEng c e).failing = s.failing := rfl
@[simp] theorem State.setEng_ezs (c : Nat) (e : Engine) : (s.setEng c e).ezs = s.ezs := rfl
@[simp] theorem State.setEng_links (c : Nat) (e : Engine) : (s.setEng c e).links = s.links := rfl
@[simp] theorem State.setEng_rx (c : Nat) (e : Engine) : (s.setEng c e).rx = s.rx := rfl
@[simp] theorem State.setEng_early (c : Nat) (e : Engine) : (s.setEng c e).early = s.early := rfl
@[simp] theorem State.setEng_keys (c : Nat) (e : Engine) : (s.setEng c e).keys = s.keys := rfl
@[simp] theorem State.setEng_bcasts (c : Nat) (e : Engine) : (s.setEng c e).bcasts = s.bcasts := rfl
@[simp] theorem State.setEng_groupInvalid (c : Nat) (e : Engine) : (s.setEng c e).groupInvalid = s.groupInvalid := rfl
@[simp] theorem State.setEng_adderFails (c : Nat) (e : Engine) : (s.setEng c e).adderFails = s.adderFails := rfl
@[simp] theorem State.setEng_wireHold (c : Nat) (e : Engine) : (s.setEng c e).wireHold = s.wireHold := rfl
@[simp] theorem State.setEng_starved (c : Nat) (e : Engine) : (s.setEng c e).starved = s.starved := rfl
@[simp] theorem State.setEng_stackErrs (c : Nat) (e : Engine) : (s.setEng c e).stackErrs = s.stackErrs := rfl
@[simp] theorem State.setEng_shapes (c : Nat) (e : Engine) : (s.setEng c e).shapes = s.shapes := rfl
@[simp] theorem State.setEng_wearNext (c : Nat) (e : Engine) : (s.setEng c e).wearNext = s.wearNext := rfl
@[simp] theorem State.setEng_wearDue (c : Nat) (e : Engine) : (s.setEng c e).wearDue = s.wearDue := rfl
@[simp] theorem State.setEng_wearSegs (c : Nat) (e : Engine) : (s.setEng c e).wearSegs = s.wearSegs := rfl
@[simp] theorem State.setEng_inputStage (c : Nat) (e : Engine) : (s.setEng c e).inputStage = s.inputStage := rfl
@[simp] theorem State.setEng_stageAt (c : Nat) (e : Engine) : (s.setEng c e).stageAt = s.stageAt := rfl
@[simp] theorem State.setEng_vinMv (c : Nat) (e : Engine) : (s.setEng c e).vinMv = s.vinMv := rfl
@[simp] theorem State.setEng_diodeOpen (c : Nat) (e : Engine) : (s.setEng c e).diodeOpen = s.diodeOpen := rfl
@[simp] theorem State.setEng_strapPins (c : Nat) (e : Engine) : (s.setEng c e).strapPins = s.strapPins := rfl
@[simp] theorem State.setEng_weirS (c : Nat) (e : Engine) : (s.setEng c e).weirS = s.weirS := rfl
@[simp] theorem State.setEng_weirSet (c : Nat) (e : Engine) : (s.setEng c e).weirSet = s.weirSet := rfl
@[simp] theorem State.setEng_weirUp (c : Nat) (e : Engine) : (s.setEng c e).weirUp = s.weirUp := rfl
@[simp] theorem State.setEng_weirDown (c : Nat) (e : Engine) : (s.setEng c e).weirDown = s.weirDown := rfl
@[simp] theorem State.setEng_weirRest (c : Nat) (e : Engine) : (s.setEng c e).weirRest = s.weirRest := rfl
@[simp] theorem State.setEng_weirBelow (c : Nat) (e : Engine) : (s.setEng c e).weirBelow = s.weirBelow := rfl
@[simp] theorem State.setEng_weirPend (c : Nat) (e : Engine) : (s.setEng c e).weirPend = s.weirPend := rfl
@[simp] theorem State.setEng_weirAt (c : Nat) (e : Engine) : (s.setEng c e).weirAt = s.weirAt := rfl
@[simp] theorem State.setEng_weirNj (c : Nat) (e : Engine) : (s.setEng c e).weirNj = s.weirNj := rfl
@[simp] theorem State.setEng_ballNj (c : Nat) (e : Engine) : (s.setEng c e).ballNj = s.ballNj := rfl
@[simp] theorem State.setEng_ptNj (c : Nat) (e : Engine) : (s.setEng c e).ptNj = s.ptNj := rfl
@[simp] theorem State.setEng_leveeStart (c : Nat) (e : Engine) : (s.setEng c e).leveeStart = s.leveeStart := rfl
@[simp] theorem State.setEng_pitchWait (c : Nat) (e : Engine) : (s.setEng c e).pitchWait = s.pitchWait := rfl
@[simp] theorem State.setEng_pitchRun (c : Nat) (e : Engine) : (s.setEng c e).pitchRun = s.pitchRun := rfl
@[simp] theorem State.setEng_pitchHeld (c : Nat) (e : Engine) : (s.setEng c e).pitchHeld = s.pitchHeld := rfl
@[simp] theorem State.setEng_railTest (c : Nat) (e : Engine) : (s.setEng c e).railTest = s.railTest := rfl
@[simp] theorem State.setEng_unpowered (c : Nat) (e : Engine) : (s.setEng c e).unpowered = s.unpowered := rfl
@[simp] theorem State.setEng_hotPitches (c : Nat) (e : Engine) : (s.setEng c e).hotPitches = s.hotPitches := rfl
@[simp] theorem State.setEng_isoKept (c : Nat) (e : Engine) : (s.setEng c e).isoKept = s.isoKept := rfl
@[simp] theorem State.setEng_isoPend (c : Nat) (e : Engine) : (s.setEng c e).isoPend = s.isoPend := rfl
@[simp] theorem State.setEng_startPend (c : Nat) (e : Engine) : (s.setEng c e).startPend = s.startPend := rfl
@[simp] theorem State.setEng_cmtDue (c : Nat) (e : Engine) : (s.setEng c e).cmtDue = s.cmtDue := rfl
@[simp] theorem State.setEng_testing (c : Nat) (e : Engine) : (s.setEng c e).testing = s.testing := rfl
@[simp] theorem State.setEng_wardenGone (c : Nat) (e : Engine) : (s.setEng c e).wardenGone = s.wardenGone := rfl
@[simp] theorem State.setEng_staleWait (c : Nat) (e : Engine) : (s.setEng c e).staleWait = s.staleWait := rfl
@[simp] theorem State.setEng_fwUp (c : Nat) (e : Engine) : (s.setEng c e).fwUp = s.fwUp := rfl
@[simp] theorem State.setEng_weirAct (c : Nat) (e : Engine) : (s.setEng c e).weirAct = s.weirAct := rfl
@[simp] theorem State.setEng_weirDrawn (c : Nat) (e : Engine) : (s.setEng c e).weirDrawn = s.weirDrawn := rfl
@[simp] theorem State.setEng_weirCut (c : Nat) (e : Engine) : (s.setEng c e).weirCut = s.weirCut := rfl
@[simp] theorem State.setEng_weirSkip (c : Nat) (e : Engine) : (s.setEng c e).weirSkip = s.weirSkip := rfl
@[simp] theorem State.setEng_weirFrom (c : Nat) (e : Engine) : (s.setEng c e).weirFrom = s.weirFrom := rfl
@[simp] theorem State.setEng_tmFirst (c : Nat) (e : Engine) : (s.setEng c e).tmFirst = s.tmFirst := rfl
@[simp] theorem State.setEng_tmIn (c : Nat) (e : Engine) : (s.setEng c e).tmIn = s.tmIn := rfl
@[simp] theorem State.setEng_tmOut (c : Nat) (e : Engine) : (s.setEng c e).tmOut = s.tmOut := rfl
@[simp] theorem State.setEng_tmLost (c : Nat) (e : Engine) : (s.setEng c e).tmLost = s.tmLost := rfl
@[simp] theorem State.setEng_holdAt (c : Nat) (e : Engine) : (s.setEng c e).holdAt = s.holdAt := rfl
@[simp] theorem State.setEng_ppsLast (c : Nat) (e : Engine) : (s.setEng c e).ppsLast = s.ppsLast := rfl
@[simp] theorem State.setEng_ppsMark (c : Nat) (e : Engine) : (s.setEng c e).ppsMark = s.ppsMark := rfl
@[simp] theorem State.setEng_ppsSet (c : Nat) (e : Engine) : (s.setEng c e).ppsSet = s.ppsSet := rfl
@[simp] theorem State.setEng_bgTable (c : Nat) (e : Engine) : (s.setEng c e).bgTable = s.bgTable := rfl
@[simp] theorem State.setEng_bgNext (c : Nat) (e : Engine) : (s.setEng c e).bgNext = s.bgNext := rfl
@[simp] theorem State.setEng_slotAt (c : Nat) (e : Engine) : (s.setEng c e).slotAt = s.slotAt := rfl
@[simp] theorem State.setEng_fwFlash (c : Nat) (e : Engine) : (s.setEng c e).fwFlash = s.fwFlash := rfl
@[simp] theorem State.setEng_fwStage (c : Nat) (e : Engine) : (s.setEng c e).fwStage = s.fwStage := rfl
@[simp] theorem State.setEng_fwFail (c : Nat) (e : Engine) : (s.setEng c e).fwFail = s.fwFail := rfl
@[simp] theorem State.setEng_boot (c : Nat) (e : Engine) : (s.setEng c e).boot = s.boot := rfl
@[simp] theorem State.setEng_running (c : Nat) (e : Engine) : (s.setEng c e).running = s.running := rfl
@[simp] theorem State.setEng_restarts (c : Nat) (e : Engine) : (s.setEng c e).restarts = s.restarts := rfl
@[simp] theorem State.setEng_fetching (c : Nat) (e : Engine) : (s.setEng c e).fetching = s.fetching := rfl
@[simp] theorem State.setEng_fetchAt (c : Nat) (e : Engine) : (s.setEng c e).fetchAt = s.fetchAt := rfl
@[simp] theorem State.setEng_wipedN (c : Nat) (e : Engine) : (s.setEng c e).wipedN = s.wipedN := rfl
@[simp] theorem State.setEng_lcPend (c : Nat) (e : Engine) : (s.setEng c e).lcPend = s.lcPend := rfl
@[simp] theorem State.setEng_ptRecord (c : Nat) (e : Engine) : (s.setEng c e).ptRecord = s.ptRecord := rfl
@[simp] theorem State.setEng_ownerChain (c : Nat) (e : Engine) : (s.setEng c e).ownerChain = s.ownerChain := rfl
@[simp] theorem State.setEng_identity (c : Nat) (e : Engine) : (s.setEng c e).identity = s.identity := rfl
@[simp] theorem State.setEng_mgmt (c : Nat) (e : Engine) : (s.setEng c e).mgmt = s.mgmt := rfl
@[simp] theorem State.setEng_cmtA (c : Nat) (e : Engine) : (s.setEng c e).cmtA = s.cmtA := rfl
@[simp] theorem State.setEng_cmtB (c : Nat) (e : Engine) : (s.setEng c e).cmtB = s.cmtB := rfl
@[simp] theorem State.setEng_cmtFresh (c : Nat) (e : Engine) : (s.setEng c e).cmtFresh = s.cmtFresh := rfl
@[simp] theorem State.setEng_warmHeld (c : Nat) (e : Engine) : (s.setEng c e).warmHeld = s.warmHeld := rfl
@[simp] theorem State.setEng_warmAt (c : Nat) (e : Engine) : (s.setEng c e).warmAt = s.warmAt := rfl
@[simp] theorem State.setEng_coreTest (c : Nat) (e : Engine) : (s.setEng c e).coreTest = s.coreTest := rfl
@[simp] theorem State.setEng_mbReq (c : Nat) (e : Engine) : (s.setEng c e).mbReq = s.mbReq := rfl
@[simp] theorem State.setEng_spdmHist (c : Nat) (e : Engine) : (s.setEng c e).spdmHist = s.spdmHist := rfl
@[simp] theorem State.setEng_ideSel (c : Nat) (e : Engine) : (s.setEng c e).ideSel = s.ideSel := rfl
@[simp] theorem State.setEng_perstLow (c : Nat) (e : Engine) : (s.setEng c e).perstLow = s.perstLow := rfl
@[simp] theorem State.setEng_coolant (c : Nat) (e : Engine) : (s.setEng c e).coolant = s.coolant := rfl
@[simp] theorem State.setEng_lineReads (c : Nat) (e : Engine) : (s.setEng c e).lineReads = s.lineReads := rfl

@[simp] theorem State.setSeqr_pending (c : Nat) (q : Seqr) : (s.setSeqr c q).pending = s.pending := rfl
@[simp] theorem State.setSeqr_clk (c : Nat) (q : Seqr) : (s.setSeqr c q).clk = s.clk := rfl
@[simp] theorem State.setSeqr_regs (c : Nat) (q : Seqr) : (s.setSeqr c q).regs = s.regs := rfl
@[simp] theorem State.setSeqr_staged (c : Nat) (q : Seqr) : (s.setSeqr c q).staged = s.staged := rfl
@[simp] theorem State.setSeqr_captured (c : Nat) (q : Seqr) : (s.setSeqr c q).captured = s.captured := rfl
@[simp] theorem State.setSeqr_slotMem (c : Nat) (q : Seqr) : (s.setSeqr c q).slotMem = s.slotMem := rfl
@[simp] theorem State.setSeqr_store (c : Nat) (q : Seqr) : (s.setSeqr c q).store = s.store := rfl
@[simp] theorem State.setSeqr_pool (c : Nat) (q : Seqr) : (s.setSeqr c q).pool = s.pool := rfl
@[simp] theorem State.setSeqr_stack (c : Nat) (q : Seqr) : (s.setSeqr c q).stack = s.stack := rfl
@[simp] theorem State.setSeqr_host (c : Nat) (q : Seqr) : (s.setSeqr c q).host = s.host := rfl
@[simp] theorem State.setSeqr_storePoison (c : Nat) (q : Seqr) : (s.setSeqr c q).storePoison = s.storePoison := rfl
@[simp] theorem State.setSeqr_poolPoison (c : Nat) (q : Seqr) : (s.setSeqr c q).poolPoison = s.poolPoison := rfl
@[simp] theorem State.setSeqr_stackPoison (c : Nat) (q : Seqr) : (s.setSeqr c q).stackPoison = s.stackPoison := rfl
@[simp] theorem State.setSeqr_rills (c : Nat) (q : Seqr) : (s.setSeqr c q).rills = s.rills := rfl
@[simp] theorem State.setSeqr_net (c : Nat) (q : Seqr) : (s.setSeqr c q).net = s.net := rfl
@[simp] theorem State.setSeqr_nextXid (c : Nat) (q : Seqr) : (s.setSeqr c q).nextXid = s.nextXid := rfl
@[simp] theorem State.setSeqr_cairn (c : Nat) (q : Seqr) : (s.setSeqr c q).cairn = s.cairn := rfl
@[simp] theorem State.setSeqr_ce (c : Nat) (q : Seqr) : (s.setSeqr c q).ce = s.ce := rfl
@[simp] theorem State.setSeqr_msix (c : Nat) (q : Seqr) : (s.setSeqr c q).msix = s.msix := rfl
@[simp] theorem State.setSeqr_msixPend (c : Nat) (q : Seqr) : (s.setSeqr c q).msixPend = s.msixPend := rfl
@[simp] theorem State.setSeqr_lastEvtMsi (c : Nat) (q : Seqr) : (s.setSeqr c q).lastEvtMsi = s.lastEvtMsi := rfl
@[simp] theorem State.setSeqr_out (c : Nat) (q : Seqr) : (s.setSeqr c q).out = s.out := rfl
@[simp] theorem State.setSeqr_freeCtr (c : Nat) (q : Seqr) : (s.setSeqr c q).freeCtr = s.freeCtr := rfl
@[simp] theorem State.setSeqr_msixFnMask (c : Nat) (q : Seqr) : (s.setSeqr c q).msixFnMask = s.msixFnMask := rfl
@[simp] theorem State.setSeqr_gaugePend (c : Nat) (q : Seqr) : (s.setSeqr c q).gaugePend = s.gaugePend := rfl
@[simp] theorem State.setSeqr_gaugeDue (c : Nat) (q : Seqr) : (s.setSeqr c q).gaugeDue = s.gaugeDue := rfl
@[simp] theorem State.setSeqr_memReqs (c : Nat) (q : Seqr) : (s.setSeqr c q).memReqs = s.memReqs := rfl
@[simp] theorem State.setSeqr_tlb (c : Nat) (q : Seqr) : (s.setSeqr c q).tlb = s.tlb := rfl
@[simp] theorem State.setSeqr_walkCache (c : Nat) (q : Seqr) : (s.setSeqr c q).walkCache = s.walkCache := rfl
@[simp] theorem State.setSeqr_hws (c : Nat) (q : Seqr) : (s.setSeqr c q).hws = s.hws := rfl
@[simp] theorem State.setSeqr_grads (c : Nat) (q : Seqr) : (s.setSeqr c q).grads = s.grads := rfl
@[simp] theorem State.setSeqr_hwWait (c : Nat) (q : Seqr) : (s.setSeqr c q).hwWait = s.hwWait := rfl
@[simp] theorem State.setSeqr_hwMan (c : Nat) (q : Seqr) : (s.setSeqr c q).hwMan = s.hwMan := rfl
@[simp] theorem State.setSeqr_hwBinding (c : Nat) (q : Seqr) : (s.setSeqr c q).hwBinding = s.hwBinding := rfl
@[simp] theorem State.setSeqr_hwKeys (c : Nat) (q : Seqr) : (s.setSeqr c q).hwKeys = s.hwKeys := rfl
@[simp] theorem State.setSeqr_keyReqs (c : Nat) (q : Seqr) : (s.setSeqr c q).keyReqs = s.keyReqs := rfl
@[simp] theorem State.setSeqr_portLeft (c : Nat) (q : Seqr) : (s.setSeqr c q).portLeft = s.portLeft := rfl
@[simp] theorem State.setSeqr_frontGo (c : Nat) (q : Seqr) : (s.setSeqr c q).frontGo = s.frontGo := rfl
@[simp] theorem State.setSeqr_postSeq (c : Nat) (q : Seqr) : (s.setSeqr c q).postSeq = s.postSeq := rfl
@[simp] theorem State.setSeqr_rcvs (c : Nat) (q : Seqr) : (s.setSeqr c q).rcvs = s.rcvs := rfl
@[simp] theorem State.setSeqr_failing (c : Nat) (q : Seqr) : (s.setSeqr c q).failing = s.failing := rfl
@[simp] theorem State.setSeqr_ezs (c : Nat) (q : Seqr) : (s.setSeqr c q).ezs = s.ezs := rfl
@[simp] theorem State.setSeqr_links (c : Nat) (q : Seqr) : (s.setSeqr c q).links = s.links := rfl
@[simp] theorem State.setSeqr_rx (c : Nat) (q : Seqr) : (s.setSeqr c q).rx = s.rx := rfl
@[simp] theorem State.setSeqr_early (c : Nat) (q : Seqr) : (s.setSeqr c q).early = s.early := rfl
@[simp] theorem State.setSeqr_keys (c : Nat) (q : Seqr) : (s.setSeqr c q).keys = s.keys := rfl
@[simp] theorem State.setSeqr_bcasts (c : Nat) (q : Seqr) : (s.setSeqr c q).bcasts = s.bcasts := rfl
@[simp] theorem State.setSeqr_groupInvalid (c : Nat) (q : Seqr) : (s.setSeqr c q).groupInvalid = s.groupInvalid := rfl
@[simp] theorem State.setSeqr_adderFails (c : Nat) (q : Seqr) : (s.setSeqr c q).adderFails = s.adderFails := rfl
@[simp] theorem State.setSeqr_wireHold (c : Nat) (q : Seqr) : (s.setSeqr c q).wireHold = s.wireHold := rfl
@[simp] theorem State.setSeqr_starved (c : Nat) (q : Seqr) : (s.setSeqr c q).starved = s.starved := rfl
@[simp] theorem State.setSeqr_stackErrs (c : Nat) (q : Seqr) : (s.setSeqr c q).stackErrs = s.stackErrs := rfl
@[simp] theorem State.setSeqr_shapes (c : Nat) (q : Seqr) : (s.setSeqr c q).shapes = s.shapes := rfl
@[simp] theorem State.setSeqr_wearNext (c : Nat) (q : Seqr) : (s.setSeqr c q).wearNext = s.wearNext := rfl
@[simp] theorem State.setSeqr_wearDue (c : Nat) (q : Seqr) : (s.setSeqr c q).wearDue = s.wearDue := rfl
@[simp] theorem State.setSeqr_wearSegs (c : Nat) (q : Seqr) : (s.setSeqr c q).wearSegs = s.wearSegs := rfl
@[simp] theorem State.setSeqr_inputStage (c : Nat) (q : Seqr) : (s.setSeqr c q).inputStage = s.inputStage := rfl
@[simp] theorem State.setSeqr_stageAt (c : Nat) (q : Seqr) : (s.setSeqr c q).stageAt = s.stageAt := rfl
@[simp] theorem State.setSeqr_vinMv (c : Nat) (q : Seqr) : (s.setSeqr c q).vinMv = s.vinMv := rfl
@[simp] theorem State.setSeqr_diodeOpen (c : Nat) (q : Seqr) : (s.setSeqr c q).diodeOpen = s.diodeOpen := rfl
@[simp] theorem State.setSeqr_strapPins (c : Nat) (q : Seqr) : (s.setSeqr c q).strapPins = s.strapPins := rfl
@[simp] theorem State.setSeqr_weirS (c : Nat) (q : Seqr) : (s.setSeqr c q).weirS = s.weirS := rfl
@[simp] theorem State.setSeqr_weirSet (c : Nat) (q : Seqr) : (s.setSeqr c q).weirSet = s.weirSet := rfl
@[simp] theorem State.setSeqr_weirUp (c : Nat) (q : Seqr) : (s.setSeqr c q).weirUp = s.weirUp := rfl
@[simp] theorem State.setSeqr_weirDown (c : Nat) (q : Seqr) : (s.setSeqr c q).weirDown = s.weirDown := rfl
@[simp] theorem State.setSeqr_weirRest (c : Nat) (q : Seqr) : (s.setSeqr c q).weirRest = s.weirRest := rfl
@[simp] theorem State.setSeqr_weirBelow (c : Nat) (q : Seqr) : (s.setSeqr c q).weirBelow = s.weirBelow := rfl
@[simp] theorem State.setSeqr_weirPend (c : Nat) (q : Seqr) : (s.setSeqr c q).weirPend = s.weirPend := rfl
@[simp] theorem State.setSeqr_weirAt (c : Nat) (q : Seqr) : (s.setSeqr c q).weirAt = s.weirAt := rfl
@[simp] theorem State.setSeqr_weirNj (c : Nat) (q : Seqr) : (s.setSeqr c q).weirNj = s.weirNj := rfl
@[simp] theorem State.setSeqr_ballNj (c : Nat) (q : Seqr) : (s.setSeqr c q).ballNj = s.ballNj := rfl
@[simp] theorem State.setSeqr_ptNj (c : Nat) (q : Seqr) : (s.setSeqr c q).ptNj = s.ptNj := rfl
@[simp] theorem State.setSeqr_leveeStart (c : Nat) (q : Seqr) : (s.setSeqr c q).leveeStart = s.leveeStart := rfl
@[simp] theorem State.setSeqr_pitchWait (c : Nat) (q : Seqr) : (s.setSeqr c q).pitchWait = s.pitchWait := rfl
@[simp] theorem State.setSeqr_pitchRun (c : Nat) (q : Seqr) : (s.setSeqr c q).pitchRun = s.pitchRun := rfl
@[simp] theorem State.setSeqr_pitchHeld (c : Nat) (q : Seqr) : (s.setSeqr c q).pitchHeld = s.pitchHeld := rfl
@[simp] theorem State.setSeqr_railTest (c : Nat) (q : Seqr) : (s.setSeqr c q).railTest = s.railTest := rfl
@[simp] theorem State.setSeqr_unpowered (c : Nat) (q : Seqr) : (s.setSeqr c q).unpowered = s.unpowered := rfl
@[simp] theorem State.setSeqr_hotPitches (c : Nat) (q : Seqr) : (s.setSeqr c q).hotPitches = s.hotPitches := rfl
@[simp] theorem State.setSeqr_isoKept (c : Nat) (q : Seqr) : (s.setSeqr c q).isoKept = s.isoKept := rfl
@[simp] theorem State.setSeqr_isoPend (c : Nat) (q : Seqr) : (s.setSeqr c q).isoPend = s.isoPend := rfl
@[simp] theorem State.setSeqr_startPend (c : Nat) (q : Seqr) : (s.setSeqr c q).startPend = s.startPend := rfl
@[simp] theorem State.setSeqr_cmtDue (c : Nat) (q : Seqr) : (s.setSeqr c q).cmtDue = s.cmtDue := rfl
@[simp] theorem State.setSeqr_testing (c : Nat) (q : Seqr) : (s.setSeqr c q).testing = s.testing := rfl
@[simp] theorem State.setSeqr_wardenGone (c : Nat) (q : Seqr) : (s.setSeqr c q).wardenGone = s.wardenGone := rfl
@[simp] theorem State.setSeqr_staleWait (c : Nat) (q : Seqr) : (s.setSeqr c q).staleWait = s.staleWait := rfl
@[simp] theorem State.setSeqr_fwUp (c : Nat) (q : Seqr) : (s.setSeqr c q).fwUp = s.fwUp := rfl
@[simp] theorem State.setSeqr_weirAct (c : Nat) (q : Seqr) : (s.setSeqr c q).weirAct = s.weirAct := rfl
@[simp] theorem State.setSeqr_weirDrawn (c : Nat) (q : Seqr) : (s.setSeqr c q).weirDrawn = s.weirDrawn := rfl
@[simp] theorem State.setSeqr_weirCut (c : Nat) (q : Seqr) : (s.setSeqr c q).weirCut = s.weirCut := rfl
@[simp] theorem State.setSeqr_weirSkip (c : Nat) (q : Seqr) : (s.setSeqr c q).weirSkip = s.weirSkip := rfl
@[simp] theorem State.setSeqr_weirFrom (c : Nat) (q : Seqr) : (s.setSeqr c q).weirFrom = s.weirFrom := rfl
@[simp] theorem State.setSeqr_tmFirst (c : Nat) (q : Seqr) : (s.setSeqr c q).tmFirst = s.tmFirst := rfl
@[simp] theorem State.setSeqr_tmIn (c : Nat) (q : Seqr) : (s.setSeqr c q).tmIn = s.tmIn := rfl
@[simp] theorem State.setSeqr_tmOut (c : Nat) (q : Seqr) : (s.setSeqr c q).tmOut = s.tmOut := rfl
@[simp] theorem State.setSeqr_tmLost (c : Nat) (q : Seqr) : (s.setSeqr c q).tmLost = s.tmLost := rfl
@[simp] theorem State.setSeqr_holdAt (c : Nat) (q : Seqr) : (s.setSeqr c q).holdAt = s.holdAt := rfl
@[simp] theorem State.setSeqr_ppsLast (c : Nat) (q : Seqr) : (s.setSeqr c q).ppsLast = s.ppsLast := rfl
@[simp] theorem State.setSeqr_ppsMark (c : Nat) (q : Seqr) : (s.setSeqr c q).ppsMark = s.ppsMark := rfl
@[simp] theorem State.setSeqr_ppsSet (c : Nat) (q : Seqr) : (s.setSeqr c q).ppsSet = s.ppsSet := rfl
@[simp] theorem State.setSeqr_bgTable (c : Nat) (q : Seqr) : (s.setSeqr c q).bgTable = s.bgTable := rfl
@[simp] theorem State.setSeqr_bgNext (c : Nat) (q : Seqr) : (s.setSeqr c q).bgNext = s.bgNext := rfl
@[simp] theorem State.setSeqr_slotAt (c : Nat) (q : Seqr) : (s.setSeqr c q).slotAt = s.slotAt := rfl
@[simp] theorem State.setSeqr_fwFlash (c : Nat) (q : Seqr) : (s.setSeqr c q).fwFlash = s.fwFlash := rfl
@[simp] theorem State.setSeqr_fwStage (c : Nat) (q : Seqr) : (s.setSeqr c q).fwStage = s.fwStage := rfl
@[simp] theorem State.setSeqr_fwFail (c : Nat) (q : Seqr) : (s.setSeqr c q).fwFail = s.fwFail := rfl
@[simp] theorem State.setSeqr_boot (c : Nat) (q : Seqr) : (s.setSeqr c q).boot = s.boot := rfl
@[simp] theorem State.setSeqr_running (c : Nat) (q : Seqr) : (s.setSeqr c q).running = s.running := rfl
@[simp] theorem State.setSeqr_restarts (c : Nat) (q : Seqr) : (s.setSeqr c q).restarts = s.restarts := rfl
@[simp] theorem State.setSeqr_fetching (c : Nat) (q : Seqr) : (s.setSeqr c q).fetching = s.fetching := rfl
@[simp] theorem State.setSeqr_fetchAt (c : Nat) (q : Seqr) : (s.setSeqr c q).fetchAt = s.fetchAt := rfl
@[simp] theorem State.setSeqr_wipedN (c : Nat) (q : Seqr) : (s.setSeqr c q).wipedN = s.wipedN := rfl
@[simp] theorem State.setSeqr_lcPend (c : Nat) (q : Seqr) : (s.setSeqr c q).lcPend = s.lcPend := rfl
@[simp] theorem State.setSeqr_ptRecord (c : Nat) (q : Seqr) : (s.setSeqr c q).ptRecord = s.ptRecord := rfl
@[simp] theorem State.setSeqr_ownerChain (c : Nat) (q : Seqr) : (s.setSeqr c q).ownerChain = s.ownerChain := rfl
@[simp] theorem State.setSeqr_identity (c : Nat) (q : Seqr) : (s.setSeqr c q).identity = s.identity := rfl
@[simp] theorem State.setSeqr_mgmt (c : Nat) (q : Seqr) : (s.setSeqr c q).mgmt = s.mgmt := rfl
@[simp] theorem State.setSeqr_cmtA (c : Nat) (q : Seqr) : (s.setSeqr c q).cmtA = s.cmtA := rfl
@[simp] theorem State.setSeqr_cmtB (c : Nat) (q : Seqr) : (s.setSeqr c q).cmtB = s.cmtB := rfl
@[simp] theorem State.setSeqr_cmtFresh (c : Nat) (q : Seqr) : (s.setSeqr c q).cmtFresh = s.cmtFresh := rfl
@[simp] theorem State.setSeqr_warmHeld (c : Nat) (q : Seqr) : (s.setSeqr c q).warmHeld = s.warmHeld := rfl
@[simp] theorem State.setSeqr_warmAt (c : Nat) (q : Seqr) : (s.setSeqr c q).warmAt = s.warmAt := rfl
@[simp] theorem State.setSeqr_coreTest (c : Nat) (q : Seqr) : (s.setSeqr c q).coreTest = s.coreTest := rfl
@[simp] theorem State.setSeqr_mbReq (c : Nat) (q : Seqr) : (s.setSeqr c q).mbReq = s.mbReq := rfl
@[simp] theorem State.setSeqr_spdmHist (c : Nat) (q : Seqr) : (s.setSeqr c q).spdmHist = s.spdmHist := rfl
@[simp] theorem State.setSeqr_ideSel (c : Nat) (q : Seqr) : (s.setSeqr c q).ideSel = s.ideSel := rfl
@[simp] theorem State.setSeqr_perstLow (c : Nat) (q : Seqr) : (s.setSeqr c q).perstLow = s.perstLow := rfl
@[simp] theorem State.setSeqr_coolant (c : Nat) (q : Seqr) : (s.setSeqr c q).coolant = s.coolant := rfl
@[simp] theorem State.setSeqr_lineReads (c : Nat) (q : Seqr) : (s.setSeqr c q).lineReads = s.lineReads := rfl

@[simp] theorem State.setRcv_pending (c : Nat) (r : Rcv) : (s.setRcv c r).pending = s.pending := rfl
@[simp] theorem State.setRcv_clk (c : Nat) (r : Rcv) : (s.setRcv c r).clk = s.clk := rfl
@[simp] theorem State.setRcv_regs (c : Nat) (r : Rcv) : (s.setRcv c r).regs = s.regs := rfl
@[simp] theorem State.setRcv_staged (c : Nat) (r : Rcv) : (s.setRcv c r).staged = s.staged := rfl
@[simp] theorem State.setRcv_captured (c : Nat) (r : Rcv) : (s.setRcv c r).captured = s.captured := rfl
@[simp] theorem State.setRcv_slotMem (c : Nat) (r : Rcv) : (s.setRcv c r).slotMem = s.slotMem := rfl
@[simp] theorem State.setRcv_store (c : Nat) (r : Rcv) : (s.setRcv c r).store = s.store := rfl
@[simp] theorem State.setRcv_pool (c : Nat) (r : Rcv) : (s.setRcv c r).pool = s.pool := rfl
@[simp] theorem State.setRcv_stack (c : Nat) (r : Rcv) : (s.setRcv c r).stack = s.stack := rfl
@[simp] theorem State.setRcv_host (c : Nat) (r : Rcv) : (s.setRcv c r).host = s.host := rfl
@[simp] theorem State.setRcv_storePoison (c : Nat) (r : Rcv) : (s.setRcv c r).storePoison = s.storePoison := rfl
@[simp] theorem State.setRcv_poolPoison (c : Nat) (r : Rcv) : (s.setRcv c r).poolPoison = s.poolPoison := rfl
@[simp] theorem State.setRcv_stackPoison (c : Nat) (r : Rcv) : (s.setRcv c r).stackPoison = s.stackPoison := rfl
@[simp] theorem State.setRcv_rills (c : Nat) (r : Rcv) : (s.setRcv c r).rills = s.rills := rfl
@[simp] theorem State.setRcv_net (c : Nat) (r : Rcv) : (s.setRcv c r).net = s.net := rfl
@[simp] theorem State.setRcv_nextXid (c : Nat) (r : Rcv) : (s.setRcv c r).nextXid = s.nextXid := rfl
@[simp] theorem State.setRcv_cairn (c : Nat) (r : Rcv) : (s.setRcv c r).cairn = s.cairn := rfl
@[simp] theorem State.setRcv_ce (c : Nat) (r : Rcv) : (s.setRcv c r).ce = s.ce := rfl
@[simp] theorem State.setRcv_msix (c : Nat) (r : Rcv) : (s.setRcv c r).msix = s.msix := rfl
@[simp] theorem State.setRcv_msixPend (c : Nat) (r : Rcv) : (s.setRcv c r).msixPend = s.msixPend := rfl
@[simp] theorem State.setRcv_lastEvtMsi (c : Nat) (r : Rcv) : (s.setRcv c r).lastEvtMsi = s.lastEvtMsi := rfl
@[simp] theorem State.setRcv_out (c : Nat) (r : Rcv) : (s.setRcv c r).out = s.out := rfl
@[simp] theorem State.setRcv_freeCtr (c : Nat) (r : Rcv) : (s.setRcv c r).freeCtr = s.freeCtr := rfl
@[simp] theorem State.setRcv_msixFnMask (c : Nat) (r : Rcv) : (s.setRcv c r).msixFnMask = s.msixFnMask := rfl
@[simp] theorem State.setRcv_gaugePend (c : Nat) (r : Rcv) : (s.setRcv c r).gaugePend = s.gaugePend := rfl
@[simp] theorem State.setRcv_gaugeDue (c : Nat) (r : Rcv) : (s.setRcv c r).gaugeDue = s.gaugeDue := rfl
@[simp] theorem State.setRcv_memReqs (c : Nat) (r : Rcv) : (s.setRcv c r).memReqs = s.memReqs := rfl
@[simp] theorem State.setRcv_tlb (c : Nat) (r : Rcv) : (s.setRcv c r).tlb = s.tlb := rfl
@[simp] theorem State.setRcv_walkCache (c : Nat) (r : Rcv) : (s.setRcv c r).walkCache = s.walkCache := rfl
@[simp] theorem State.setRcv_hws (c : Nat) (r : Rcv) : (s.setRcv c r).hws = s.hws := rfl
@[simp] theorem State.setRcv_grads (c : Nat) (r : Rcv) : (s.setRcv c r).grads = s.grads := rfl
@[simp] theorem State.setRcv_hwWait (c : Nat) (r : Rcv) : (s.setRcv c r).hwWait = s.hwWait := rfl
@[simp] theorem State.setRcv_hwMan (c : Nat) (r : Rcv) : (s.setRcv c r).hwMan = s.hwMan := rfl
@[simp] theorem State.setRcv_hwBinding (c : Nat) (r : Rcv) : (s.setRcv c r).hwBinding = s.hwBinding := rfl
@[simp] theorem State.setRcv_hwKeys (c : Nat) (r : Rcv) : (s.setRcv c r).hwKeys = s.hwKeys := rfl
@[simp] theorem State.setRcv_keyReqs (c : Nat) (r : Rcv) : (s.setRcv c r).keyReqs = s.keyReqs := rfl
@[simp] theorem State.setRcv_portLeft (c : Nat) (r : Rcv) : (s.setRcv c r).portLeft = s.portLeft := rfl
@[simp] theorem State.setRcv_frontGo (c : Nat) (r : Rcv) : (s.setRcv c r).frontGo = s.frontGo := rfl
@[simp] theorem State.setRcv_seqrs (c : Nat) (r : Rcv) : (s.setRcv c r).seqrs = s.seqrs := rfl
@[simp] theorem State.setRcv_postSeq (c : Nat) (r : Rcv) : (s.setRcv c r).postSeq = s.postSeq := rfl
@[simp] theorem State.setRcv_failing (c : Nat) (r : Rcv) : (s.setRcv c r).failing = s.failing := rfl
@[simp] theorem State.setRcv_ezs (c : Nat) (r : Rcv) : (s.setRcv c r).ezs = s.ezs := rfl
@[simp] theorem State.setRcv_links (c : Nat) (r : Rcv) : (s.setRcv c r).links = s.links := rfl
@[simp] theorem State.setRcv_rx (c : Nat) (r : Rcv) : (s.setRcv c r).rx = s.rx := rfl
@[simp] theorem State.setRcv_early (c : Nat) (r : Rcv) : (s.setRcv c r).early = s.early := rfl
@[simp] theorem State.setRcv_keys (c : Nat) (r : Rcv) : (s.setRcv c r).keys = s.keys := rfl
@[simp] theorem State.setRcv_bcasts (c : Nat) (r : Rcv) : (s.setRcv c r).bcasts = s.bcasts := rfl
@[simp] theorem State.setRcv_groupInvalid (c : Nat) (r : Rcv) : (s.setRcv c r).groupInvalid = s.groupInvalid := rfl
@[simp] theorem State.setRcv_adderFails (c : Nat) (r : Rcv) : (s.setRcv c r).adderFails = s.adderFails := rfl
@[simp] theorem State.setRcv_wireHold (c : Nat) (r : Rcv) : (s.setRcv c r).wireHold = s.wireHold := rfl
@[simp] theorem State.setRcv_starved (c : Nat) (r : Rcv) : (s.setRcv c r).starved = s.starved := rfl
@[simp] theorem State.setRcv_stackErrs (c : Nat) (r : Rcv) : (s.setRcv c r).stackErrs = s.stackErrs := rfl
@[simp] theorem State.setRcv_shapes (c : Nat) (r : Rcv) : (s.setRcv c r).shapes = s.shapes := rfl
@[simp] theorem State.setRcv_wearNext (c : Nat) (r : Rcv) : (s.setRcv c r).wearNext = s.wearNext := rfl
@[simp] theorem State.setRcv_wearDue (c : Nat) (r : Rcv) : (s.setRcv c r).wearDue = s.wearDue := rfl
@[simp] theorem State.setRcv_wearSegs (c : Nat) (r : Rcv) : (s.setRcv c r).wearSegs = s.wearSegs := rfl
@[simp] theorem State.setRcv_inputStage (c : Nat) (r : Rcv) : (s.setRcv c r).inputStage = s.inputStage := rfl
@[simp] theorem State.setRcv_stageAt (c : Nat) (r : Rcv) : (s.setRcv c r).stageAt = s.stageAt := rfl
@[simp] theorem State.setRcv_vinMv (c : Nat) (r : Rcv) : (s.setRcv c r).vinMv = s.vinMv := rfl
@[simp] theorem State.setRcv_diodeOpen (c : Nat) (r : Rcv) : (s.setRcv c r).diodeOpen = s.diodeOpen := rfl
@[simp] theorem State.setRcv_strapPins (c : Nat) (r : Rcv) : (s.setRcv c r).strapPins = s.strapPins := rfl
@[simp] theorem State.setRcv_weirS (c : Nat) (r : Rcv) : (s.setRcv c r).weirS = s.weirS := rfl
@[simp] theorem State.setRcv_weirSet (c : Nat) (r : Rcv) : (s.setRcv c r).weirSet = s.weirSet := rfl
@[simp] theorem State.setRcv_weirUp (c : Nat) (r : Rcv) : (s.setRcv c r).weirUp = s.weirUp := rfl
@[simp] theorem State.setRcv_weirDown (c : Nat) (r : Rcv) : (s.setRcv c r).weirDown = s.weirDown := rfl
@[simp] theorem State.setRcv_weirRest (c : Nat) (r : Rcv) : (s.setRcv c r).weirRest = s.weirRest := rfl
@[simp] theorem State.setRcv_weirBelow (c : Nat) (r : Rcv) : (s.setRcv c r).weirBelow = s.weirBelow := rfl
@[simp] theorem State.setRcv_weirPend (c : Nat) (r : Rcv) : (s.setRcv c r).weirPend = s.weirPend := rfl
@[simp] theorem State.setRcv_weirAt (c : Nat) (r : Rcv) : (s.setRcv c r).weirAt = s.weirAt := rfl
@[simp] theorem State.setRcv_weirNj (c : Nat) (r : Rcv) : (s.setRcv c r).weirNj = s.weirNj := rfl
@[simp] theorem State.setRcv_ballNj (c : Nat) (r : Rcv) : (s.setRcv c r).ballNj = s.ballNj := rfl
@[simp] theorem State.setRcv_ptNj (c : Nat) (r : Rcv) : (s.setRcv c r).ptNj = s.ptNj := rfl
@[simp] theorem State.setRcv_leveeStart (c : Nat) (r : Rcv) : (s.setRcv c r).leveeStart = s.leveeStart := rfl
@[simp] theorem State.setRcv_pitchWait (c : Nat) (r : Rcv) : (s.setRcv c r).pitchWait = s.pitchWait := rfl
@[simp] theorem State.setRcv_pitchRun (c : Nat) (r : Rcv) : (s.setRcv c r).pitchRun = s.pitchRun := rfl
@[simp] theorem State.setRcv_pitchHeld (c : Nat) (r : Rcv) : (s.setRcv c r).pitchHeld = s.pitchHeld := rfl
@[simp] theorem State.setRcv_railTest (c : Nat) (r : Rcv) : (s.setRcv c r).railTest = s.railTest := rfl
@[simp] theorem State.setRcv_unpowered (c : Nat) (r : Rcv) : (s.setRcv c r).unpowered = s.unpowered := rfl
@[simp] theorem State.setRcv_hotPitches (c : Nat) (r : Rcv) : (s.setRcv c r).hotPitches = s.hotPitches := rfl
@[simp] theorem State.setRcv_isoKept (c : Nat) (r : Rcv) : (s.setRcv c r).isoKept = s.isoKept := rfl
@[simp] theorem State.setRcv_isoPend (c : Nat) (r : Rcv) : (s.setRcv c r).isoPend = s.isoPend := rfl
@[simp] theorem State.setRcv_startPend (c : Nat) (r : Rcv) : (s.setRcv c r).startPend = s.startPend := rfl
@[simp] theorem State.setRcv_cmtDue (c : Nat) (r : Rcv) : (s.setRcv c r).cmtDue = s.cmtDue := rfl
@[simp] theorem State.setRcv_testing (c : Nat) (r : Rcv) : (s.setRcv c r).testing = s.testing := rfl
@[simp] theorem State.setRcv_wardenGone (c : Nat) (r : Rcv) : (s.setRcv c r).wardenGone = s.wardenGone := rfl
@[simp] theorem State.setRcv_staleWait (c : Nat) (r : Rcv) : (s.setRcv c r).staleWait = s.staleWait := rfl
@[simp] theorem State.setRcv_fwUp (c : Nat) (r : Rcv) : (s.setRcv c r).fwUp = s.fwUp := rfl
@[simp] theorem State.setRcv_weirAct (c : Nat) (r : Rcv) : (s.setRcv c r).weirAct = s.weirAct := rfl
@[simp] theorem State.setRcv_weirDrawn (c : Nat) (r : Rcv) : (s.setRcv c r).weirDrawn = s.weirDrawn := rfl
@[simp] theorem State.setRcv_weirCut (c : Nat) (r : Rcv) : (s.setRcv c r).weirCut = s.weirCut := rfl
@[simp] theorem State.setRcv_weirSkip (c : Nat) (r : Rcv) : (s.setRcv c r).weirSkip = s.weirSkip := rfl
@[simp] theorem State.setRcv_weirFrom (c : Nat) (r : Rcv) : (s.setRcv c r).weirFrom = s.weirFrom := rfl
@[simp] theorem State.setRcv_tmFirst (c : Nat) (r : Rcv) : (s.setRcv c r).tmFirst = s.tmFirst := rfl
@[simp] theorem State.setRcv_tmIn (c : Nat) (r : Rcv) : (s.setRcv c r).tmIn = s.tmIn := rfl
@[simp] theorem State.setRcv_tmOut (c : Nat) (r : Rcv) : (s.setRcv c r).tmOut = s.tmOut := rfl
@[simp] theorem State.setRcv_tmLost (c : Nat) (r : Rcv) : (s.setRcv c r).tmLost = s.tmLost := rfl
@[simp] theorem State.setRcv_holdAt (c : Nat) (r : Rcv) : (s.setRcv c r).holdAt = s.holdAt := rfl
@[simp] theorem State.setRcv_ppsLast (c : Nat) (r : Rcv) : (s.setRcv c r).ppsLast = s.ppsLast := rfl
@[simp] theorem State.setRcv_ppsMark (c : Nat) (r : Rcv) : (s.setRcv c r).ppsMark = s.ppsMark := rfl
@[simp] theorem State.setRcv_ppsSet (c : Nat) (r : Rcv) : (s.setRcv c r).ppsSet = s.ppsSet := rfl
@[simp] theorem State.setRcv_bgTable (c : Nat) (r : Rcv) : (s.setRcv c r).bgTable = s.bgTable := rfl
@[simp] theorem State.setRcv_bgNext (c : Nat) (r : Rcv) : (s.setRcv c r).bgNext = s.bgNext := rfl
@[simp] theorem State.setRcv_slotAt (c : Nat) (r : Rcv) : (s.setRcv c r).slotAt = s.slotAt := rfl
@[simp] theorem State.setRcv_fwFlash (c : Nat) (r : Rcv) : (s.setRcv c r).fwFlash = s.fwFlash := rfl
@[simp] theorem State.setRcv_fwStage (c : Nat) (r : Rcv) : (s.setRcv c r).fwStage = s.fwStage := rfl
@[simp] theorem State.setRcv_fwFail (c : Nat) (r : Rcv) : (s.setRcv c r).fwFail = s.fwFail := rfl
@[simp] theorem State.setRcv_boot (c : Nat) (r : Rcv) : (s.setRcv c r).boot = s.boot := rfl
@[simp] theorem State.setRcv_running (c : Nat) (r : Rcv) : (s.setRcv c r).running = s.running := rfl
@[simp] theorem State.setRcv_restarts (c : Nat) (r : Rcv) : (s.setRcv c r).restarts = s.restarts := rfl
@[simp] theorem State.setRcv_fetching (c : Nat) (r : Rcv) : (s.setRcv c r).fetching = s.fetching := rfl
@[simp] theorem State.setRcv_fetchAt (c : Nat) (r : Rcv) : (s.setRcv c r).fetchAt = s.fetchAt := rfl
@[simp] theorem State.setRcv_wipedN (c : Nat) (r : Rcv) : (s.setRcv c r).wipedN = s.wipedN := rfl
@[simp] theorem State.setRcv_lcPend (c : Nat) (r : Rcv) : (s.setRcv c r).lcPend = s.lcPend := rfl
@[simp] theorem State.setRcv_ptRecord (c : Nat) (r : Rcv) : (s.setRcv c r).ptRecord = s.ptRecord := rfl
@[simp] theorem State.setRcv_ownerChain (c : Nat) (r : Rcv) : (s.setRcv c r).ownerChain = s.ownerChain := rfl
@[simp] theorem State.setRcv_identity (c : Nat) (r : Rcv) : (s.setRcv c r).identity = s.identity := rfl
@[simp] theorem State.setRcv_mgmt (c : Nat) (r : Rcv) : (s.setRcv c r).mgmt = s.mgmt := rfl
@[simp] theorem State.setRcv_cmtA (c : Nat) (r : Rcv) : (s.setRcv c r).cmtA = s.cmtA := rfl
@[simp] theorem State.setRcv_cmtB (c : Nat) (r : Rcv) : (s.setRcv c r).cmtB = s.cmtB := rfl
@[simp] theorem State.setRcv_cmtFresh (c : Nat) (r : Rcv) : (s.setRcv c r).cmtFresh = s.cmtFresh := rfl
@[simp] theorem State.setRcv_warmHeld (c : Nat) (r : Rcv) : (s.setRcv c r).warmHeld = s.warmHeld := rfl
@[simp] theorem State.setRcv_warmAt (c : Nat) (r : Rcv) : (s.setRcv c r).warmAt = s.warmAt := rfl
@[simp] theorem State.setRcv_coreTest (c : Nat) (r : Rcv) : (s.setRcv c r).coreTest = s.coreTest := rfl
@[simp] theorem State.setRcv_mbReq (c : Nat) (r : Rcv) : (s.setRcv c r).mbReq = s.mbReq := rfl
@[simp] theorem State.setRcv_spdmHist (c : Nat) (r : Rcv) : (s.setRcv c r).spdmHist = s.spdmHist := rfl
@[simp] theorem State.setRcv_ideSel (c : Nat) (r : Rcv) : (s.setRcv c r).ideSel = s.ideSel := rfl
@[simp] theorem State.setRcv_perstLow (c : Nat) (r : Rcv) : (s.setRcv c r).perstLow = s.perstLow := rfl
@[simp] theorem State.setRcv_coolant (c : Nat) (r : Rcv) : (s.setRcv c r).coolant = s.coolant := rfl
@[simp] theorem State.setRcv_lineReads (c : Nat) (r : Rcv) : (s.setRcv c r).lineReads = s.lineReads := rfl

@[simp] theorem State.setLink_pending (l : Nat) (x : LinkSt) : (s.setLink l x).pending = s.pending := rfl
@[simp] theorem State.setLink_clk (l : Nat) (x : LinkSt) : (s.setLink l x).clk = s.clk := rfl
@[simp] theorem State.setLink_regs (l : Nat) (x : LinkSt) : (s.setLink l x).regs = s.regs := rfl
@[simp] theorem State.setLink_staged (l : Nat) (x : LinkSt) : (s.setLink l x).staged = s.staged := rfl
@[simp] theorem State.setLink_captured (l : Nat) (x : LinkSt) : (s.setLink l x).captured = s.captured := rfl
@[simp] theorem State.setLink_slotMem (l : Nat) (x : LinkSt) : (s.setLink l x).slotMem = s.slotMem := rfl
@[simp] theorem State.setLink_store (l : Nat) (x : LinkSt) : (s.setLink l x).store = s.store := rfl
@[simp] theorem State.setLink_pool (l : Nat) (x : LinkSt) : (s.setLink l x).pool = s.pool := rfl
@[simp] theorem State.setLink_stack (l : Nat) (x : LinkSt) : (s.setLink l x).stack = s.stack := rfl
@[simp] theorem State.setLink_host (l : Nat) (x : LinkSt) : (s.setLink l x).host = s.host := rfl
@[simp] theorem State.setLink_storePoison (l : Nat) (x : LinkSt) : (s.setLink l x).storePoison = s.storePoison := rfl
@[simp] theorem State.setLink_poolPoison (l : Nat) (x : LinkSt) : (s.setLink l x).poolPoison = s.poolPoison := rfl
@[simp] theorem State.setLink_stackPoison (l : Nat) (x : LinkSt) : (s.setLink l x).stackPoison = s.stackPoison := rfl
@[simp] theorem State.setLink_rills (l : Nat) (x : LinkSt) : (s.setLink l x).rills = s.rills := rfl
@[simp] theorem State.setLink_net (l : Nat) (x : LinkSt) : (s.setLink l x).net = s.net := rfl
@[simp] theorem State.setLink_nextXid (l : Nat) (x : LinkSt) : (s.setLink l x).nextXid = s.nextXid := rfl
@[simp] theorem State.setLink_cairn (l : Nat) (x : LinkSt) : (s.setLink l x).cairn = s.cairn := rfl
@[simp] theorem State.setLink_ce (l : Nat) (x : LinkSt) : (s.setLink l x).ce = s.ce := rfl
@[simp] theorem State.setLink_msix (l : Nat) (x : LinkSt) : (s.setLink l x).msix = s.msix := rfl
@[simp] theorem State.setLink_msixPend (l : Nat) (x : LinkSt) : (s.setLink l x).msixPend = s.msixPend := rfl
@[simp] theorem State.setLink_lastEvtMsi (l : Nat) (x : LinkSt) : (s.setLink l x).lastEvtMsi = s.lastEvtMsi := rfl
@[simp] theorem State.setLink_out (l : Nat) (x : LinkSt) : (s.setLink l x).out = s.out := rfl
@[simp] theorem State.setLink_freeCtr (l : Nat) (x : LinkSt) : (s.setLink l x).freeCtr = s.freeCtr := rfl
@[simp] theorem State.setLink_msixFnMask (l : Nat) (x : LinkSt) : (s.setLink l x).msixFnMask = s.msixFnMask := rfl
@[simp] theorem State.setLink_gaugePend (l : Nat) (x : LinkSt) : (s.setLink l x).gaugePend = s.gaugePend := rfl
@[simp] theorem State.setLink_gaugeDue (l : Nat) (x : LinkSt) : (s.setLink l x).gaugeDue = s.gaugeDue := rfl
@[simp] theorem State.setLink_memReqs (l : Nat) (x : LinkSt) : (s.setLink l x).memReqs = s.memReqs := rfl
@[simp] theorem State.setLink_tlb (l : Nat) (x : LinkSt) : (s.setLink l x).tlb = s.tlb := rfl
@[simp] theorem State.setLink_walkCache (l : Nat) (x : LinkSt) : (s.setLink l x).walkCache = s.walkCache := rfl
@[simp] theorem State.setLink_hws (l : Nat) (x : LinkSt) : (s.setLink l x).hws = s.hws := rfl
@[simp] theorem State.setLink_grads (l : Nat) (x : LinkSt) : (s.setLink l x).grads = s.grads := rfl
@[simp] theorem State.setLink_hwWait (l : Nat) (x : LinkSt) : (s.setLink l x).hwWait = s.hwWait := rfl
@[simp] theorem State.setLink_hwMan (l : Nat) (x : LinkSt) : (s.setLink l x).hwMan = s.hwMan := rfl
@[simp] theorem State.setLink_hwBinding (l : Nat) (x : LinkSt) : (s.setLink l x).hwBinding = s.hwBinding := rfl
@[simp] theorem State.setLink_hwKeys (l : Nat) (x : LinkSt) : (s.setLink l x).hwKeys = s.hwKeys := rfl
@[simp] theorem State.setLink_keyReqs (l : Nat) (x : LinkSt) : (s.setLink l x).keyReqs = s.keyReqs := rfl
@[simp] theorem State.setLink_portLeft (l : Nat) (x : LinkSt) : (s.setLink l x).portLeft = s.portLeft := rfl
@[simp] theorem State.setLink_frontGo (l : Nat) (x : LinkSt) : (s.setLink l x).frontGo = s.frontGo := rfl
@[simp] theorem State.setLink_seqrs (l : Nat) (x : LinkSt) : (s.setLink l x).seqrs = s.seqrs := rfl
@[simp] theorem State.setLink_postSeq (l : Nat) (x : LinkSt) : (s.setLink l x).postSeq = s.postSeq := rfl
@[simp] theorem State.setLink_rcvs (l : Nat) (x : LinkSt) : (s.setLink l x).rcvs = s.rcvs := rfl
@[simp] theorem State.setLink_failing (l : Nat) (x : LinkSt) : (s.setLink l x).failing = s.failing := rfl
@[simp] theorem State.setLink_ezs (l : Nat) (x : LinkSt) : (s.setLink l x).ezs = s.ezs := rfl
@[simp] theorem State.setLink_rx (l : Nat) (x : LinkSt) : (s.setLink l x).rx = s.rx := rfl
@[simp] theorem State.setLink_early (l : Nat) (x : LinkSt) : (s.setLink l x).early = s.early := rfl
@[simp] theorem State.setLink_keys (l : Nat) (x : LinkSt) : (s.setLink l x).keys = s.keys := rfl
@[simp] theorem State.setLink_bcasts (l : Nat) (x : LinkSt) : (s.setLink l x).bcasts = s.bcasts := rfl
@[simp] theorem State.setLink_groupInvalid (l : Nat) (x : LinkSt) : (s.setLink l x).groupInvalid = s.groupInvalid := rfl
@[simp] theorem State.setLink_adderFails (l : Nat) (x : LinkSt) : (s.setLink l x).adderFails = s.adderFails := rfl
@[simp] theorem State.setLink_wireHold (l : Nat) (x : LinkSt) : (s.setLink l x).wireHold = s.wireHold := rfl
@[simp] theorem State.setLink_starved (l : Nat) (x : LinkSt) : (s.setLink l x).starved = s.starved := rfl
@[simp] theorem State.setLink_stackErrs (l : Nat) (x : LinkSt) : (s.setLink l x).stackErrs = s.stackErrs := rfl
@[simp] theorem State.setLink_shapes (l : Nat) (x : LinkSt) : (s.setLink l x).shapes = s.shapes := rfl
@[simp] theorem State.setLink_wearNext (l : Nat) (x : LinkSt) : (s.setLink l x).wearNext = s.wearNext := rfl
@[simp] theorem State.setLink_wearDue (l : Nat) (x : LinkSt) : (s.setLink l x).wearDue = s.wearDue := rfl
@[simp] theorem State.setLink_wearSegs (l : Nat) (x : LinkSt) : (s.setLink l x).wearSegs = s.wearSegs := rfl
@[simp] theorem State.setLink_inputStage (l : Nat) (x : LinkSt) : (s.setLink l x).inputStage = s.inputStage := rfl
@[simp] theorem State.setLink_stageAt (l : Nat) (x : LinkSt) : (s.setLink l x).stageAt = s.stageAt := rfl
@[simp] theorem State.setLink_vinMv (l : Nat) (x : LinkSt) : (s.setLink l x).vinMv = s.vinMv := rfl
@[simp] theorem State.setLink_diodeOpen (l : Nat) (x : LinkSt) : (s.setLink l x).diodeOpen = s.diodeOpen := rfl
@[simp] theorem State.setLink_strapPins (l : Nat) (x : LinkSt) : (s.setLink l x).strapPins = s.strapPins := rfl
@[simp] theorem State.setLink_weirS (l : Nat) (x : LinkSt) : (s.setLink l x).weirS = s.weirS := rfl
@[simp] theorem State.setLink_weirSet (l : Nat) (x : LinkSt) : (s.setLink l x).weirSet = s.weirSet := rfl
@[simp] theorem State.setLink_weirUp (l : Nat) (x : LinkSt) : (s.setLink l x).weirUp = s.weirUp := rfl
@[simp] theorem State.setLink_weirDown (l : Nat) (x : LinkSt) : (s.setLink l x).weirDown = s.weirDown := rfl
@[simp] theorem State.setLink_weirRest (l : Nat) (x : LinkSt) : (s.setLink l x).weirRest = s.weirRest := rfl
@[simp] theorem State.setLink_weirBelow (l : Nat) (x : LinkSt) : (s.setLink l x).weirBelow = s.weirBelow := rfl
@[simp] theorem State.setLink_weirPend (l : Nat) (x : LinkSt) : (s.setLink l x).weirPend = s.weirPend := rfl
@[simp] theorem State.setLink_weirAt (l : Nat) (x : LinkSt) : (s.setLink l x).weirAt = s.weirAt := rfl
@[simp] theorem State.setLink_weirNj (l : Nat) (x : LinkSt) : (s.setLink l x).weirNj = s.weirNj := rfl
@[simp] theorem State.setLink_ballNj (l : Nat) (x : LinkSt) : (s.setLink l x).ballNj = s.ballNj := rfl
@[simp] theorem State.setLink_ptNj (l : Nat) (x : LinkSt) : (s.setLink l x).ptNj = s.ptNj := rfl
@[simp] theorem State.setLink_leveeStart (l : Nat) (x : LinkSt) : (s.setLink l x).leveeStart = s.leveeStart := rfl
@[simp] theorem State.setLink_pitchWait (l : Nat) (x : LinkSt) : (s.setLink l x).pitchWait = s.pitchWait := rfl
@[simp] theorem State.setLink_pitchRun (l : Nat) (x : LinkSt) : (s.setLink l x).pitchRun = s.pitchRun := rfl
@[simp] theorem State.setLink_pitchHeld (l : Nat) (x : LinkSt) : (s.setLink l x).pitchHeld = s.pitchHeld := rfl
@[simp] theorem State.setLink_railTest (l : Nat) (x : LinkSt) : (s.setLink l x).railTest = s.railTest := rfl
@[simp] theorem State.setLink_unpowered (l : Nat) (x : LinkSt) : (s.setLink l x).unpowered = s.unpowered := rfl
@[simp] theorem State.setLink_hotPitches (l : Nat) (x : LinkSt) : (s.setLink l x).hotPitches = s.hotPitches := rfl
@[simp] theorem State.setLink_isoKept (l : Nat) (x : LinkSt) : (s.setLink l x).isoKept = s.isoKept := rfl
@[simp] theorem State.setLink_isoPend (l : Nat) (x : LinkSt) : (s.setLink l x).isoPend = s.isoPend := rfl
@[simp] theorem State.setLink_startPend (l : Nat) (x : LinkSt) : (s.setLink l x).startPend = s.startPend := rfl
@[simp] theorem State.setLink_cmtDue (l : Nat) (x : LinkSt) : (s.setLink l x).cmtDue = s.cmtDue := rfl
@[simp] theorem State.setLink_testing (l : Nat) (x : LinkSt) : (s.setLink l x).testing = s.testing := rfl
@[simp] theorem State.setLink_wardenGone (l : Nat) (x : LinkSt) : (s.setLink l x).wardenGone = s.wardenGone := rfl
@[simp] theorem State.setLink_staleWait (l : Nat) (x : LinkSt) : (s.setLink l x).staleWait = s.staleWait := rfl
@[simp] theorem State.setLink_fwUp (l : Nat) (x : LinkSt) : (s.setLink l x).fwUp = s.fwUp := rfl
@[simp] theorem State.setLink_weirAct (l : Nat) (x : LinkSt) : (s.setLink l x).weirAct = s.weirAct := rfl
@[simp] theorem State.setLink_weirDrawn (l : Nat) (x : LinkSt) : (s.setLink l x).weirDrawn = s.weirDrawn := rfl
@[simp] theorem State.setLink_weirCut (l : Nat) (x : LinkSt) : (s.setLink l x).weirCut = s.weirCut := rfl
@[simp] theorem State.setLink_weirSkip (l : Nat) (x : LinkSt) : (s.setLink l x).weirSkip = s.weirSkip := rfl
@[simp] theorem State.setLink_weirFrom (l : Nat) (x : LinkSt) : (s.setLink l x).weirFrom = s.weirFrom := rfl
@[simp] theorem State.setLink_tmFirst (l : Nat) (x : LinkSt) : (s.setLink l x).tmFirst = s.tmFirst := rfl
@[simp] theorem State.setLink_tmIn (l : Nat) (x : LinkSt) : (s.setLink l x).tmIn = s.tmIn := rfl
@[simp] theorem State.setLink_tmOut (l : Nat) (x : LinkSt) : (s.setLink l x).tmOut = s.tmOut := rfl
@[simp] theorem State.setLink_tmLost (l : Nat) (x : LinkSt) : (s.setLink l x).tmLost = s.tmLost := rfl
@[simp] theorem State.setLink_holdAt (l : Nat) (x : LinkSt) : (s.setLink l x).holdAt = s.holdAt := rfl
@[simp] theorem State.setLink_ppsLast (l : Nat) (x : LinkSt) : (s.setLink l x).ppsLast = s.ppsLast := rfl
@[simp] theorem State.setLink_ppsMark (l : Nat) (x : LinkSt) : (s.setLink l x).ppsMark = s.ppsMark := rfl
@[simp] theorem State.setLink_ppsSet (l : Nat) (x : LinkSt) : (s.setLink l x).ppsSet = s.ppsSet := rfl
@[simp] theorem State.setLink_bgTable (l : Nat) (x : LinkSt) : (s.setLink l x).bgTable = s.bgTable := rfl
@[simp] theorem State.setLink_bgNext (l : Nat) (x : LinkSt) : (s.setLink l x).bgNext = s.bgNext := rfl
@[simp] theorem State.setLink_slotAt (l : Nat) (x : LinkSt) : (s.setLink l x).slotAt = s.slotAt := rfl
@[simp] theorem State.setLink_fwFlash (l : Nat) (x : LinkSt) : (s.setLink l x).fwFlash = s.fwFlash := rfl
@[simp] theorem State.setLink_fwStage (l : Nat) (x : LinkSt) : (s.setLink l x).fwStage = s.fwStage := rfl
@[simp] theorem State.setLink_fwFail (l : Nat) (x : LinkSt) : (s.setLink l x).fwFail = s.fwFail := rfl
@[simp] theorem State.setLink_boot (l : Nat) (x : LinkSt) : (s.setLink l x).boot = s.boot := rfl
@[simp] theorem State.setLink_running (l : Nat) (x : LinkSt) : (s.setLink l x).running = s.running := rfl
@[simp] theorem State.setLink_restarts (l : Nat) (x : LinkSt) : (s.setLink l x).restarts = s.restarts := rfl
@[simp] theorem State.setLink_fetching (l : Nat) (x : LinkSt) : (s.setLink l x).fetching = s.fetching := rfl
@[simp] theorem State.setLink_fetchAt (l : Nat) (x : LinkSt) : (s.setLink l x).fetchAt = s.fetchAt := rfl
@[simp] theorem State.setLink_wipedN (l : Nat) (x : LinkSt) : (s.setLink l x).wipedN = s.wipedN := rfl
@[simp] theorem State.setLink_lcPend (l : Nat) (x : LinkSt) : (s.setLink l x).lcPend = s.lcPend := rfl
@[simp] theorem State.setLink_ptRecord (l : Nat) (x : LinkSt) : (s.setLink l x).ptRecord = s.ptRecord := rfl
@[simp] theorem State.setLink_ownerChain (l : Nat) (x : LinkSt) : (s.setLink l x).ownerChain = s.ownerChain := rfl
@[simp] theorem State.setLink_identity (l : Nat) (x : LinkSt) : (s.setLink l x).identity = s.identity := rfl
@[simp] theorem State.setLink_mgmt (l : Nat) (x : LinkSt) : (s.setLink l x).mgmt = s.mgmt := rfl
@[simp] theorem State.setLink_cmtA (l : Nat) (x : LinkSt) : (s.setLink l x).cmtA = s.cmtA := rfl
@[simp] theorem State.setLink_cmtB (l : Nat) (x : LinkSt) : (s.setLink l x).cmtB = s.cmtB := rfl
@[simp] theorem State.setLink_cmtFresh (l : Nat) (x : LinkSt) : (s.setLink l x).cmtFresh = s.cmtFresh := rfl
@[simp] theorem State.setLink_warmHeld (l : Nat) (x : LinkSt) : (s.setLink l x).warmHeld = s.warmHeld := rfl
@[simp] theorem State.setLink_warmAt (l : Nat) (x : LinkSt) : (s.setLink l x).warmAt = s.warmAt := rfl
@[simp] theorem State.setLink_coreTest (l : Nat) (x : LinkSt) : (s.setLink l x).coreTest = s.coreTest := rfl
@[simp] theorem State.setLink_mbReq (l : Nat) (x : LinkSt) : (s.setLink l x).mbReq = s.mbReq := rfl
@[simp] theorem State.setLink_spdmHist (l : Nat) (x : LinkSt) : (s.setLink l x).spdmHist = s.spdmHist := rfl
@[simp] theorem State.setLink_ideSel (l : Nat) (x : LinkSt) : (s.setLink l x).ideSel = s.ideSel := rfl
@[simp] theorem State.setLink_perstLow (l : Nat) (x : LinkSt) : (s.setLink l x).perstLow = s.perstLow := rfl
@[simp] theorem State.setLink_coolant (l : Nat) (x : LinkSt) : (s.setLink l x).coolant = s.coolant := rfl
@[simp] theorem State.setLink_lineReads (l : Nat) (x : LinkSt) : (s.setLink l x).lineReads = s.lineReads := rfl

@[simp] theorem State.emit_pending (m : OutMsg) : (s.emit m).pending = s.pending := rfl
@[simp] theorem State.emit_clk (m : OutMsg) : (s.emit m).clk = s.clk := rfl
@[simp] theorem State.emit_regs (m : OutMsg) : (s.emit m).regs = s.regs := rfl
@[simp] theorem State.emit_staged (m : OutMsg) : (s.emit m).staged = s.staged := rfl
@[simp] theorem State.emit_captured (m : OutMsg) : (s.emit m).captured = s.captured := rfl
@[simp] theorem State.emit_slotMem (m : OutMsg) : (s.emit m).slotMem = s.slotMem := rfl
@[simp] theorem State.emit_store (m : OutMsg) : (s.emit m).store = s.store := rfl
@[simp] theorem State.emit_pool (m : OutMsg) : (s.emit m).pool = s.pool := rfl
@[simp] theorem State.emit_stack (m : OutMsg) : (s.emit m).stack = s.stack := rfl
@[simp] theorem State.emit_host (m : OutMsg) : (s.emit m).host = s.host := rfl
@[simp] theorem State.emit_storePoison (m : OutMsg) : (s.emit m).storePoison = s.storePoison := rfl
@[simp] theorem State.emit_poolPoison (m : OutMsg) : (s.emit m).poolPoison = s.poolPoison := rfl
@[simp] theorem State.emit_stackPoison (m : OutMsg) : (s.emit m).stackPoison = s.stackPoison := rfl
@[simp] theorem State.emit_rills (m : OutMsg) : (s.emit m).rills = s.rills := rfl
@[simp] theorem State.emit_net (m : OutMsg) : (s.emit m).net = s.net := rfl
@[simp] theorem State.emit_nextXid (m : OutMsg) : (s.emit m).nextXid = s.nextXid := rfl
@[simp] theorem State.emit_cairn (m : OutMsg) : (s.emit m).cairn = s.cairn := rfl
@[simp] theorem State.emit_ce (m : OutMsg) : (s.emit m).ce = s.ce := rfl
@[simp] theorem State.emit_msix (m : OutMsg) : (s.emit m).msix = s.msix := rfl
@[simp] theorem State.emit_msixPend (m : OutMsg) : (s.emit m).msixPend = s.msixPend := rfl
@[simp] theorem State.emit_lastEvtMsi (m : OutMsg) : (s.emit m).lastEvtMsi = s.lastEvtMsi := rfl
@[simp] theorem State.emit_freeCtr (m : OutMsg) : (s.emit m).freeCtr = s.freeCtr := rfl
@[simp] theorem State.emit_msixFnMask (m : OutMsg) : (s.emit m).msixFnMask = s.msixFnMask := rfl
@[simp] theorem State.emit_gaugePend (m : OutMsg) : (s.emit m).gaugePend = s.gaugePend := rfl
@[simp] theorem State.emit_gaugeDue (m : OutMsg) : (s.emit m).gaugeDue = s.gaugeDue := rfl
@[simp] theorem State.emit_memReqs (m : OutMsg) : (s.emit m).memReqs = s.memReqs := rfl
@[simp] theorem State.emit_tlb (m : OutMsg) : (s.emit m).tlb = s.tlb := rfl
@[simp] theorem State.emit_walkCache (m : OutMsg) : (s.emit m).walkCache = s.walkCache := rfl
@[simp] theorem State.emit_hws (m : OutMsg) : (s.emit m).hws = s.hws := rfl
@[simp] theorem State.emit_grads (m : OutMsg) : (s.emit m).grads = s.grads := rfl
@[simp] theorem State.emit_hwWait (m : OutMsg) : (s.emit m).hwWait = s.hwWait := rfl
@[simp] theorem State.emit_hwMan (m : OutMsg) : (s.emit m).hwMan = s.hwMan := rfl
@[simp] theorem State.emit_hwBinding (m : OutMsg) : (s.emit m).hwBinding = s.hwBinding := rfl
@[simp] theorem State.emit_hwKeys (m : OutMsg) : (s.emit m).hwKeys = s.hwKeys := rfl
@[simp] theorem State.emit_keyReqs (m : OutMsg) : (s.emit m).keyReqs = s.keyReqs := rfl
@[simp] theorem State.emit_portLeft (m : OutMsg) : (s.emit m).portLeft = s.portLeft := rfl
@[simp] theorem State.emit_frontGo (m : OutMsg) : (s.emit m).frontGo = s.frontGo := rfl
@[simp] theorem State.emit_seqrs (m : OutMsg) : (s.emit m).seqrs = s.seqrs := rfl
@[simp] theorem State.emit_postSeq (m : OutMsg) : (s.emit m).postSeq = s.postSeq := rfl
@[simp] theorem State.emit_rcvs (m : OutMsg) : (s.emit m).rcvs = s.rcvs := rfl
@[simp] theorem State.emit_failing (m : OutMsg) : (s.emit m).failing = s.failing := rfl
@[simp] theorem State.emit_ezs (m : OutMsg) : (s.emit m).ezs = s.ezs := rfl
@[simp] theorem State.emit_links (m : OutMsg) : (s.emit m).links = s.links := rfl
@[simp] theorem State.emit_rx (m : OutMsg) : (s.emit m).rx = s.rx := rfl
@[simp] theorem State.emit_early (m : OutMsg) : (s.emit m).early = s.early := rfl
@[simp] theorem State.emit_keys (m : OutMsg) : (s.emit m).keys = s.keys := rfl
@[simp] theorem State.emit_bcasts (m : OutMsg) : (s.emit m).bcasts = s.bcasts := rfl
@[simp] theorem State.emit_groupInvalid (m : OutMsg) : (s.emit m).groupInvalid = s.groupInvalid := rfl
@[simp] theorem State.emit_adderFails (m : OutMsg) : (s.emit m).adderFails = s.adderFails := rfl
@[simp] theorem State.emit_wireHold (m : OutMsg) : (s.emit m).wireHold = s.wireHold := rfl
@[simp] theorem State.emit_starved (m : OutMsg) : (s.emit m).starved = s.starved := rfl
@[simp] theorem State.emit_stackErrs (m : OutMsg) : (s.emit m).stackErrs = s.stackErrs := rfl
@[simp] theorem State.emit_shapes (m : OutMsg) : (s.emit m).shapes = s.shapes := rfl
@[simp] theorem State.emit_wearNext (m : OutMsg) : (s.emit m).wearNext = s.wearNext := rfl
@[simp] theorem State.emit_wearDue (m : OutMsg) : (s.emit m).wearDue = s.wearDue := rfl
@[simp] theorem State.emit_wearSegs (m : OutMsg) : (s.emit m).wearSegs = s.wearSegs := rfl
@[simp] theorem State.emit_inputStage (m : OutMsg) : (s.emit m).inputStage = s.inputStage := rfl
@[simp] theorem State.emit_stageAt (m : OutMsg) : (s.emit m).stageAt = s.stageAt := rfl
@[simp] theorem State.emit_vinMv (m : OutMsg) : (s.emit m).vinMv = s.vinMv := rfl
@[simp] theorem State.emit_diodeOpen (m : OutMsg) : (s.emit m).diodeOpen = s.diodeOpen := rfl
@[simp] theorem State.emit_strapPins (m : OutMsg) : (s.emit m).strapPins = s.strapPins := rfl
@[simp] theorem State.emit_weirS (m : OutMsg) : (s.emit m).weirS = s.weirS := rfl
@[simp] theorem State.emit_weirSet (m : OutMsg) : (s.emit m).weirSet = s.weirSet := rfl
@[simp] theorem State.emit_weirUp (m : OutMsg) : (s.emit m).weirUp = s.weirUp := rfl
@[simp] theorem State.emit_weirDown (m : OutMsg) : (s.emit m).weirDown = s.weirDown := rfl
@[simp] theorem State.emit_weirRest (m : OutMsg) : (s.emit m).weirRest = s.weirRest := rfl
@[simp] theorem State.emit_weirBelow (m : OutMsg) : (s.emit m).weirBelow = s.weirBelow := rfl
@[simp] theorem State.emit_weirPend (m : OutMsg) : (s.emit m).weirPend = s.weirPend := rfl
@[simp] theorem State.emit_weirAt (m : OutMsg) : (s.emit m).weirAt = s.weirAt := rfl
@[simp] theorem State.emit_weirNj (m : OutMsg) : (s.emit m).weirNj = s.weirNj := rfl
@[simp] theorem State.emit_ballNj (m : OutMsg) : (s.emit m).ballNj = s.ballNj := rfl
@[simp] theorem State.emit_ptNj (m : OutMsg) : (s.emit m).ptNj = s.ptNj := rfl
@[simp] theorem State.emit_leveeStart (m : OutMsg) : (s.emit m).leveeStart = s.leveeStart := rfl
@[simp] theorem State.emit_pitchWait (m : OutMsg) : (s.emit m).pitchWait = s.pitchWait := rfl
@[simp] theorem State.emit_pitchRun (m : OutMsg) : (s.emit m).pitchRun = s.pitchRun := rfl
@[simp] theorem State.emit_pitchHeld (m : OutMsg) : (s.emit m).pitchHeld = s.pitchHeld := rfl
@[simp] theorem State.emit_railTest (m : OutMsg) : (s.emit m).railTest = s.railTest := rfl
@[simp] theorem State.emit_unpowered (m : OutMsg) : (s.emit m).unpowered = s.unpowered := rfl
@[simp] theorem State.emit_hotPitches (m : OutMsg) : (s.emit m).hotPitches = s.hotPitches := rfl
@[simp] theorem State.emit_isoKept (m : OutMsg) : (s.emit m).isoKept = s.isoKept := rfl
@[simp] theorem State.emit_isoPend (m : OutMsg) : (s.emit m).isoPend = s.isoPend := rfl
@[simp] theorem State.emit_startPend (m : OutMsg) : (s.emit m).startPend = s.startPend := rfl
@[simp] theorem State.emit_cmtDue (m : OutMsg) : (s.emit m).cmtDue = s.cmtDue := rfl
@[simp] theorem State.emit_testing (m : OutMsg) : (s.emit m).testing = s.testing := rfl
@[simp] theorem State.emit_wardenGone (m : OutMsg) : (s.emit m).wardenGone = s.wardenGone := rfl
@[simp] theorem State.emit_staleWait (m : OutMsg) : (s.emit m).staleWait = s.staleWait := rfl
@[simp] theorem State.emit_fwUp (m : OutMsg) : (s.emit m).fwUp = s.fwUp := rfl
@[simp] theorem State.emit_weirAct (m : OutMsg) : (s.emit m).weirAct = s.weirAct := rfl
@[simp] theorem State.emit_weirDrawn (m : OutMsg) : (s.emit m).weirDrawn = s.weirDrawn := rfl
@[simp] theorem State.emit_weirCut (m : OutMsg) : (s.emit m).weirCut = s.weirCut := rfl
@[simp] theorem State.emit_weirSkip (m : OutMsg) : (s.emit m).weirSkip = s.weirSkip := rfl
@[simp] theorem State.emit_weirFrom (m : OutMsg) : (s.emit m).weirFrom = s.weirFrom := rfl
@[simp] theorem State.emit_tmFirst (m : OutMsg) : (s.emit m).tmFirst = s.tmFirst := rfl
@[simp] theorem State.emit_tmIn (m : OutMsg) : (s.emit m).tmIn = s.tmIn := rfl
@[simp] theorem State.emit_tmOut (m : OutMsg) : (s.emit m).tmOut = s.tmOut := rfl
@[simp] theorem State.emit_tmLost (m : OutMsg) : (s.emit m).tmLost = s.tmLost := rfl
@[simp] theorem State.emit_holdAt (m : OutMsg) : (s.emit m).holdAt = s.holdAt := rfl
@[simp] theorem State.emit_ppsLast (m : OutMsg) : (s.emit m).ppsLast = s.ppsLast := rfl
@[simp] theorem State.emit_ppsMark (m : OutMsg) : (s.emit m).ppsMark = s.ppsMark := rfl
@[simp] theorem State.emit_ppsSet (m : OutMsg) : (s.emit m).ppsSet = s.ppsSet := rfl
@[simp] theorem State.emit_bgTable (m : OutMsg) : (s.emit m).bgTable = s.bgTable := rfl
@[simp] theorem State.emit_bgNext (m : OutMsg) : (s.emit m).bgNext = s.bgNext := rfl
@[simp] theorem State.emit_slotAt (m : OutMsg) : (s.emit m).slotAt = s.slotAt := rfl
@[simp] theorem State.emit_fwFlash (m : OutMsg) : (s.emit m).fwFlash = s.fwFlash := rfl
@[simp] theorem State.emit_fwStage (m : OutMsg) : (s.emit m).fwStage = s.fwStage := rfl
@[simp] theorem State.emit_fwFail (m : OutMsg) : (s.emit m).fwFail = s.fwFail := rfl
@[simp] theorem State.emit_boot (m : OutMsg) : (s.emit m).boot = s.boot := rfl
@[simp] theorem State.emit_running (m : OutMsg) : (s.emit m).running = s.running := rfl
@[simp] theorem State.emit_restarts (m : OutMsg) : (s.emit m).restarts = s.restarts := rfl
@[simp] theorem State.emit_fetching (m : OutMsg) : (s.emit m).fetching = s.fetching := rfl
@[simp] theorem State.emit_fetchAt (m : OutMsg) : (s.emit m).fetchAt = s.fetchAt := rfl
@[simp] theorem State.emit_wipedN (m : OutMsg) : (s.emit m).wipedN = s.wipedN := rfl
@[simp] theorem State.emit_lcPend (m : OutMsg) : (s.emit m).lcPend = s.lcPend := rfl
@[simp] theorem State.emit_ptRecord (m : OutMsg) : (s.emit m).ptRecord = s.ptRecord := rfl
@[simp] theorem State.emit_ownerChain (m : OutMsg) : (s.emit m).ownerChain = s.ownerChain := rfl
@[simp] theorem State.emit_identity (m : OutMsg) : (s.emit m).identity = s.identity := rfl
@[simp] theorem State.emit_mgmt (m : OutMsg) : (s.emit m).mgmt = s.mgmt := rfl
@[simp] theorem State.emit_cmtA (m : OutMsg) : (s.emit m).cmtA = s.cmtA := rfl
@[simp] theorem State.emit_cmtB (m : OutMsg) : (s.emit m).cmtB = s.cmtB := rfl
@[simp] theorem State.emit_cmtFresh (m : OutMsg) : (s.emit m).cmtFresh = s.cmtFresh := rfl
@[simp] theorem State.emit_warmHeld (m : OutMsg) : (s.emit m).warmHeld = s.warmHeld := rfl
@[simp] theorem State.emit_warmAt (m : OutMsg) : (s.emit m).warmAt = s.warmAt := rfl
@[simp] theorem State.emit_coreTest (m : OutMsg) : (s.emit m).coreTest = s.coreTest := rfl
@[simp] theorem State.emit_mbReq (m : OutMsg) : (s.emit m).mbReq = s.mbReq := rfl
@[simp] theorem State.emit_spdmHist (m : OutMsg) : (s.emit m).spdmHist = s.spdmHist := rfl
@[simp] theorem State.emit_ideSel (m : OutMsg) : (s.emit m).ideSel = s.ideSel := rfl
@[simp] theorem State.emit_perstLow (m : OutMsg) : (s.emit m).perstLow = s.perstLow := rfl
@[simp] theorem State.emit_coolant (m : OutMsg) : (s.emit m).coolant = s.coolant := rfl
@[simp] theorem State.emit_lineReads (m : OutMsg) : (s.emit m).lineReads = s.lineReads := rfl

@[simp] theorem State.storeWrite_pending (k a : Nat) (b : List Byte) (p : Bool) : (s.storeWrite k a b p).pending = s.pending := rfl
@[simp] theorem State.storeWrite_clk (k a : Nat) (b : List Byte) (p : Bool) : (s.storeWrite k a b p).clk = s.clk := rfl
@[simp] theorem State.storeWrite_regs (k a : Nat) (b : List Byte) (p : Bool) : (s.storeWrite k a b p).regs = s.regs := rfl
@[simp] theorem State.storeWrite_staged (k a : Nat) (b : List Byte) (p : Bool) : (s.storeWrite k a b p).staged = s.staged := rfl
@[simp] theorem State.storeWrite_captured (k a : Nat) (b : List Byte) (p : Bool) : (s.storeWrite k a b p).captured = s.captured := rfl
@[simp] theorem State.storeWrite_slotMem (k a : Nat) (b : List Byte) (p : Bool) : (s.storeWrite k a b p).slotMem = s.slotMem := rfl
@[simp] theorem State.storeWrite_pool (k a : Nat) (b : List Byte) (p : Bool) : (s.storeWrite k a b p).pool = s.pool := rfl
@[simp] theorem State.storeWrite_stack (k a : Nat) (b : List Byte) (p : Bool) : (s.storeWrite k a b p).stack = s.stack := rfl
@[simp] theorem State.storeWrite_host (k a : Nat) (b : List Byte) (p : Bool) : (s.storeWrite k a b p).host = s.host := rfl
@[simp] theorem State.storeWrite_poolPoison (k a : Nat) (b : List Byte) (p : Bool) : (s.storeWrite k a b p).poolPoison = s.poolPoison := rfl
@[simp] theorem State.storeWrite_stackPoison (k a : Nat) (b : List Byte) (p : Bool) : (s.storeWrite k a b p).stackPoison = s.stackPoison := rfl
@[simp] theorem State.storeWrite_rills (k a : Nat) (b : List Byte) (p : Bool) : (s.storeWrite k a b p).rills = s.rills := rfl
@[simp] theorem State.storeWrite_net (k a : Nat) (b : List Byte) (p : Bool) : (s.storeWrite k a b p).net = s.net := rfl
@[simp] theorem State.storeWrite_nextXid (k a : Nat) (b : List Byte) (p : Bool) : (s.storeWrite k a b p).nextXid = s.nextXid := rfl
@[simp] theorem State.storeWrite_cairn (k a : Nat) (b : List Byte) (p : Bool) : (s.storeWrite k a b p).cairn = s.cairn := rfl
@[simp] theorem State.storeWrite_ce (k a : Nat) (b : List Byte) (p : Bool) : (s.storeWrite k a b p).ce = s.ce := rfl
@[simp] theorem State.storeWrite_msix (k a : Nat) (b : List Byte) (p : Bool) : (s.storeWrite k a b p).msix = s.msix := rfl
@[simp] theorem State.storeWrite_msixPend (k a : Nat) (b : List Byte) (p : Bool) : (s.storeWrite k a b p).msixPend = s.msixPend := rfl
@[simp] theorem State.storeWrite_lastEvtMsi (k a : Nat) (b : List Byte) (p : Bool) : (s.storeWrite k a b p).lastEvtMsi = s.lastEvtMsi := rfl
@[simp] theorem State.storeWrite_out (k a : Nat) (b : List Byte) (p : Bool) : (s.storeWrite k a b p).out = s.out := rfl
@[simp] theorem State.storeWrite_freeCtr (k a : Nat) (b : List Byte) (p : Bool) : (s.storeWrite k a b p).freeCtr = s.freeCtr := rfl
@[simp] theorem State.storeWrite_msixFnMask (k a : Nat) (b : List Byte) (p : Bool) : (s.storeWrite k a b p).msixFnMask = s.msixFnMask := rfl
@[simp] theorem State.storeWrite_gaugePend (k a : Nat) (b : List Byte) (p : Bool) : (s.storeWrite k a b p).gaugePend = s.gaugePend := rfl
@[simp] theorem State.storeWrite_gaugeDue (k a : Nat) (b : List Byte) (p : Bool) : (s.storeWrite k a b p).gaugeDue = s.gaugeDue := rfl
@[simp] theorem State.storeWrite_memReqs (k a : Nat) (b : List Byte) (p : Bool) : (s.storeWrite k a b p).memReqs = s.memReqs := rfl
@[simp] theorem State.storeWrite_tlb (k a : Nat) (b : List Byte) (p : Bool) : (s.storeWrite k a b p).tlb = s.tlb := rfl
@[simp] theorem State.storeWrite_walkCache (k a : Nat) (b : List Byte) (p : Bool) : (s.storeWrite k a b p).walkCache = s.walkCache := rfl
@[simp] theorem State.storeWrite_hws (k a : Nat) (b : List Byte) (p : Bool) : (s.storeWrite k a b p).hws = s.hws := rfl
@[simp] theorem State.storeWrite_grads (k a : Nat) (b : List Byte) (p : Bool) : (s.storeWrite k a b p).grads = s.grads := rfl
@[simp] theorem State.storeWrite_hwWait (k a : Nat) (b : List Byte) (p : Bool) : (s.storeWrite k a b p).hwWait = s.hwWait := rfl
@[simp] theorem State.storeWrite_hwMan (k a : Nat) (b : List Byte) (p : Bool) : (s.storeWrite k a b p).hwMan = s.hwMan := rfl
@[simp] theorem State.storeWrite_hwBinding (k a : Nat) (b : List Byte) (p : Bool) : (s.storeWrite k a b p).hwBinding = s.hwBinding := rfl
@[simp] theorem State.storeWrite_hwKeys (k a : Nat) (b : List Byte) (p : Bool) : (s.storeWrite k a b p).hwKeys = s.hwKeys := rfl
@[simp] theorem State.storeWrite_keyReqs (k a : Nat) (b : List Byte) (p : Bool) : (s.storeWrite k a b p).keyReqs = s.keyReqs := rfl
@[simp] theorem State.storeWrite_portLeft (k a : Nat) (b : List Byte) (p : Bool) : (s.storeWrite k a b p).portLeft = s.portLeft := rfl
@[simp] theorem State.storeWrite_frontGo (k a : Nat) (b : List Byte) (p : Bool) : (s.storeWrite k a b p).frontGo = s.frontGo := rfl
@[simp] theorem State.storeWrite_seqrs (k a : Nat) (b : List Byte) (p : Bool) : (s.storeWrite k a b p).seqrs = s.seqrs := rfl
@[simp] theorem State.storeWrite_postSeq (k a : Nat) (b : List Byte) (p : Bool) : (s.storeWrite k a b p).postSeq = s.postSeq := rfl
@[simp] theorem State.storeWrite_rcvs (k a : Nat) (b : List Byte) (p : Bool) : (s.storeWrite k a b p).rcvs = s.rcvs := rfl
@[simp] theorem State.storeWrite_failing (k a : Nat) (b : List Byte) (p : Bool) : (s.storeWrite k a b p).failing = s.failing := rfl
@[simp] theorem State.storeWrite_ezs (k a : Nat) (b : List Byte) (p : Bool) : (s.storeWrite k a b p).ezs = s.ezs := rfl
@[simp] theorem State.storeWrite_links (k a : Nat) (b : List Byte) (p : Bool) : (s.storeWrite k a b p).links = s.links := rfl
@[simp] theorem State.storeWrite_rx (k a : Nat) (b : List Byte) (p : Bool) : (s.storeWrite k a b p).rx = s.rx := rfl
@[simp] theorem State.storeWrite_early (k a : Nat) (b : List Byte) (p : Bool) : (s.storeWrite k a b p).early = s.early := rfl
@[simp] theorem State.storeWrite_keys (k a : Nat) (b : List Byte) (p : Bool) : (s.storeWrite k a b p).keys = s.keys := rfl
@[simp] theorem State.storeWrite_bcasts (k a : Nat) (b : List Byte) (p : Bool) : (s.storeWrite k a b p).bcasts = s.bcasts := rfl
@[simp] theorem State.storeWrite_groupInvalid (k a : Nat) (b : List Byte) (p : Bool) : (s.storeWrite k a b p).groupInvalid = s.groupInvalid := rfl
@[simp] theorem State.storeWrite_adderFails (k a : Nat) (b : List Byte) (p : Bool) : (s.storeWrite k a b p).adderFails = s.adderFails := rfl
@[simp] theorem State.storeWrite_wireHold (k a : Nat) (b : List Byte) (p : Bool) : (s.storeWrite k a b p).wireHold = s.wireHold := rfl
@[simp] theorem State.storeWrite_starved (k a : Nat) (b : List Byte) (p : Bool) : (s.storeWrite k a b p).starved = s.starved := rfl
@[simp] theorem State.storeWrite_stackErrs (k a : Nat) (b : List Byte) (p : Bool) : (s.storeWrite k a b p).stackErrs = s.stackErrs := rfl
@[simp] theorem State.storeWrite_shapes (k a : Nat) (b : List Byte) (p : Bool) : (s.storeWrite k a b p).shapes = s.shapes := rfl
@[simp] theorem State.storeWrite_wearNext (k a : Nat) (b : List Byte) (p : Bool) : (s.storeWrite k a b p).wearNext = s.wearNext := rfl
@[simp] theorem State.storeWrite_wearDue (k a : Nat) (b : List Byte) (p : Bool) : (s.storeWrite k a b p).wearDue = s.wearDue := rfl
@[simp] theorem State.storeWrite_wearSegs (k a : Nat) (b : List Byte) (p : Bool) : (s.storeWrite k a b p).wearSegs = s.wearSegs := rfl
@[simp] theorem State.storeWrite_inputStage (k a : Nat) (b : List Byte) (p : Bool) : (s.storeWrite k a b p).inputStage = s.inputStage := rfl
@[simp] theorem State.storeWrite_stageAt (k a : Nat) (b : List Byte) (p : Bool) : (s.storeWrite k a b p).stageAt = s.stageAt := rfl
@[simp] theorem State.storeWrite_vinMv (k a : Nat) (b : List Byte) (p : Bool) : (s.storeWrite k a b p).vinMv = s.vinMv := rfl
@[simp] theorem State.storeWrite_diodeOpen (k a : Nat) (b : List Byte) (p : Bool) : (s.storeWrite k a b p).diodeOpen = s.diodeOpen := rfl
@[simp] theorem State.storeWrite_strapPins (k a : Nat) (b : List Byte) (p : Bool) : (s.storeWrite k a b p).strapPins = s.strapPins := rfl
@[simp] theorem State.storeWrite_weirS (k a : Nat) (b : List Byte) (p : Bool) : (s.storeWrite k a b p).weirS = s.weirS := rfl
@[simp] theorem State.storeWrite_weirSet (k a : Nat) (b : List Byte) (p : Bool) : (s.storeWrite k a b p).weirSet = s.weirSet := rfl
@[simp] theorem State.storeWrite_weirUp (k a : Nat) (b : List Byte) (p : Bool) : (s.storeWrite k a b p).weirUp = s.weirUp := rfl
@[simp] theorem State.storeWrite_weirDown (k a : Nat) (b : List Byte) (p : Bool) : (s.storeWrite k a b p).weirDown = s.weirDown := rfl
@[simp] theorem State.storeWrite_weirRest (k a : Nat) (b : List Byte) (p : Bool) : (s.storeWrite k a b p).weirRest = s.weirRest := rfl
@[simp] theorem State.storeWrite_weirBelow (k a : Nat) (b : List Byte) (p : Bool) : (s.storeWrite k a b p).weirBelow = s.weirBelow := rfl
@[simp] theorem State.storeWrite_weirPend (k a : Nat) (b : List Byte) (p : Bool) : (s.storeWrite k a b p).weirPend = s.weirPend := rfl
@[simp] theorem State.storeWrite_weirAt (k a : Nat) (b : List Byte) (p : Bool) : (s.storeWrite k a b p).weirAt = s.weirAt := rfl
@[simp] theorem State.storeWrite_weirNj (k a : Nat) (b : List Byte) (p : Bool) : (s.storeWrite k a b p).weirNj = s.weirNj := rfl
@[simp] theorem State.storeWrite_ballNj (k a : Nat) (b : List Byte) (p : Bool) : (s.storeWrite k a b p).ballNj = s.ballNj := rfl
@[simp] theorem State.storeWrite_ptNj (k a : Nat) (b : List Byte) (p : Bool) : (s.storeWrite k a b p).ptNj = s.ptNj := rfl
@[simp] theorem State.storeWrite_leveeStart (k a : Nat) (b : List Byte) (p : Bool) : (s.storeWrite k a b p).leveeStart = s.leveeStart := rfl
@[simp] theorem State.storeWrite_pitchWait (k a : Nat) (b : List Byte) (p : Bool) : (s.storeWrite k a b p).pitchWait = s.pitchWait := rfl
@[simp] theorem State.storeWrite_pitchRun (k a : Nat) (b : List Byte) (p : Bool) : (s.storeWrite k a b p).pitchRun = s.pitchRun := rfl
@[simp] theorem State.storeWrite_pitchHeld (k a : Nat) (b : List Byte) (p : Bool) : (s.storeWrite k a b p).pitchHeld = s.pitchHeld := rfl
@[simp] theorem State.storeWrite_railTest (k a : Nat) (b : List Byte) (p : Bool) : (s.storeWrite k a b p).railTest = s.railTest := rfl
@[simp] theorem State.storeWrite_unpowered (k a : Nat) (b : List Byte) (p : Bool) : (s.storeWrite k a b p).unpowered = s.unpowered := rfl
@[simp] theorem State.storeWrite_hotPitches (k a : Nat) (b : List Byte) (p : Bool) : (s.storeWrite k a b p).hotPitches = s.hotPitches := rfl
@[simp] theorem State.storeWrite_isoKept (k a : Nat) (b : List Byte) (p : Bool) : (s.storeWrite k a b p).isoKept = s.isoKept := rfl
@[simp] theorem State.storeWrite_isoPend (k a : Nat) (b : List Byte) (p : Bool) : (s.storeWrite k a b p).isoPend = s.isoPend := rfl
@[simp] theorem State.storeWrite_startPend (k a : Nat) (b : List Byte) (p : Bool) : (s.storeWrite k a b p).startPend = s.startPend := rfl
@[simp] theorem State.storeWrite_cmtDue (k a : Nat) (b : List Byte) (p : Bool) : (s.storeWrite k a b p).cmtDue = s.cmtDue := rfl
@[simp] theorem State.storeWrite_testing (k a : Nat) (b : List Byte) (p : Bool) : (s.storeWrite k a b p).testing = s.testing := rfl
@[simp] theorem State.storeWrite_wardenGone (k a : Nat) (b : List Byte) (p : Bool) : (s.storeWrite k a b p).wardenGone = s.wardenGone := rfl
@[simp] theorem State.storeWrite_staleWait (k a : Nat) (b : List Byte) (p : Bool) : (s.storeWrite k a b p).staleWait = s.staleWait := rfl
@[simp] theorem State.storeWrite_fwUp (k a : Nat) (b : List Byte) (p : Bool) : (s.storeWrite k a b p).fwUp = s.fwUp := rfl
@[simp] theorem State.storeWrite_weirAct (k a : Nat) (b : List Byte) (p : Bool) : (s.storeWrite k a b p).weirAct = s.weirAct := rfl
@[simp] theorem State.storeWrite_weirDrawn (k a : Nat) (b : List Byte) (p : Bool) : (s.storeWrite k a b p).weirDrawn = s.weirDrawn := rfl
@[simp] theorem State.storeWrite_weirCut (k a : Nat) (b : List Byte) (p : Bool) : (s.storeWrite k a b p).weirCut = s.weirCut := rfl
@[simp] theorem State.storeWrite_weirSkip (k a : Nat) (b : List Byte) (p : Bool) : (s.storeWrite k a b p).weirSkip = s.weirSkip := rfl
@[simp] theorem State.storeWrite_weirFrom (k a : Nat) (b : List Byte) (p : Bool) : (s.storeWrite k a b p).weirFrom = s.weirFrom := rfl
@[simp] theorem State.storeWrite_tmFirst (k a : Nat) (b : List Byte) (p : Bool) : (s.storeWrite k a b p).tmFirst = s.tmFirst := rfl
@[simp] theorem State.storeWrite_tmIn (k a : Nat) (b : List Byte) (p : Bool) : (s.storeWrite k a b p).tmIn = s.tmIn := rfl
@[simp] theorem State.storeWrite_tmOut (k a : Nat) (b : List Byte) (p : Bool) : (s.storeWrite k a b p).tmOut = s.tmOut := rfl
@[simp] theorem State.storeWrite_tmLost (k a : Nat) (b : List Byte) (p : Bool) : (s.storeWrite k a b p).tmLost = s.tmLost := rfl
@[simp] theorem State.storeWrite_holdAt (k a : Nat) (b : List Byte) (p : Bool) : (s.storeWrite k a b p).holdAt = s.holdAt := rfl
@[simp] theorem State.storeWrite_ppsLast (k a : Nat) (b : List Byte) (p : Bool) : (s.storeWrite k a b p).ppsLast = s.ppsLast := rfl
@[simp] theorem State.storeWrite_ppsMark (k a : Nat) (b : List Byte) (p : Bool) : (s.storeWrite k a b p).ppsMark = s.ppsMark := rfl
@[simp] theorem State.storeWrite_ppsSet (k a : Nat) (b : List Byte) (p : Bool) : (s.storeWrite k a b p).ppsSet = s.ppsSet := rfl
@[simp] theorem State.storeWrite_bgTable (k a : Nat) (b : List Byte) (p : Bool) : (s.storeWrite k a b p).bgTable = s.bgTable := rfl
@[simp] theorem State.storeWrite_bgNext (k a : Nat) (b : List Byte) (p : Bool) : (s.storeWrite k a b p).bgNext = s.bgNext := rfl
@[simp] theorem State.storeWrite_slotAt (k a : Nat) (b : List Byte) (p : Bool) : (s.storeWrite k a b p).slotAt = s.slotAt := rfl
@[simp] theorem State.storeWrite_fwFlash (k a : Nat) (b : List Byte) (p : Bool) : (s.storeWrite k a b p).fwFlash = s.fwFlash := rfl
@[simp] theorem State.storeWrite_fwStage (k a : Nat) (b : List Byte) (p : Bool) : (s.storeWrite k a b p).fwStage = s.fwStage := rfl
@[simp] theorem State.storeWrite_fwFail (k a : Nat) (b : List Byte) (p : Bool) : (s.storeWrite k a b p).fwFail = s.fwFail := rfl
@[simp] theorem State.storeWrite_boot (k a : Nat) (b : List Byte) (p : Bool) : (s.storeWrite k a b p).boot = s.boot := rfl
@[simp] theorem State.storeWrite_running (k a : Nat) (b : List Byte) (p : Bool) : (s.storeWrite k a b p).running = s.running := rfl
@[simp] theorem State.storeWrite_restarts (k a : Nat) (b : List Byte) (p : Bool) : (s.storeWrite k a b p).restarts = s.restarts := rfl
@[simp] theorem State.storeWrite_fetching (k a : Nat) (b : List Byte) (p : Bool) : (s.storeWrite k a b p).fetching = s.fetching := rfl
@[simp] theorem State.storeWrite_fetchAt (k a : Nat) (b : List Byte) (p : Bool) : (s.storeWrite k a b p).fetchAt = s.fetchAt := rfl
@[simp] theorem State.storeWrite_wipedN (k a : Nat) (b : List Byte) (p : Bool) : (s.storeWrite k a b p).wipedN = s.wipedN := rfl
@[simp] theorem State.storeWrite_lcPend (k a : Nat) (b : List Byte) (p : Bool) : (s.storeWrite k a b p).lcPend = s.lcPend := rfl
@[simp] theorem State.storeWrite_ptRecord (k a : Nat) (b : List Byte) (p : Bool) : (s.storeWrite k a b p).ptRecord = s.ptRecord := rfl
@[simp] theorem State.storeWrite_ownerChain (k a : Nat) (b : List Byte) (p : Bool) : (s.storeWrite k a b p).ownerChain = s.ownerChain := rfl
@[simp] theorem State.storeWrite_identity (k a : Nat) (b : List Byte) (p : Bool) : (s.storeWrite k a b p).identity = s.identity := rfl
@[simp] theorem State.storeWrite_mgmt (k a : Nat) (b : List Byte) (p : Bool) : (s.storeWrite k a b p).mgmt = s.mgmt := rfl
@[simp] theorem State.storeWrite_cmtA (k a : Nat) (b : List Byte) (p : Bool) : (s.storeWrite k a b p).cmtA = s.cmtA := rfl
@[simp] theorem State.storeWrite_cmtB (k a : Nat) (b : List Byte) (p : Bool) : (s.storeWrite k a b p).cmtB = s.cmtB := rfl
@[simp] theorem State.storeWrite_cmtFresh (k a : Nat) (b : List Byte) (p : Bool) : (s.storeWrite k a b p).cmtFresh = s.cmtFresh := rfl
@[simp] theorem State.storeWrite_warmHeld (k a : Nat) (b : List Byte) (p : Bool) : (s.storeWrite k a b p).warmHeld = s.warmHeld := rfl
@[simp] theorem State.storeWrite_warmAt (k a : Nat) (b : List Byte) (p : Bool) : (s.storeWrite k a b p).warmAt = s.warmAt := rfl
@[simp] theorem State.storeWrite_coreTest (k a : Nat) (b : List Byte) (p : Bool) : (s.storeWrite k a b p).coreTest = s.coreTest := rfl
@[simp] theorem State.storeWrite_mbReq (k a : Nat) (b : List Byte) (p : Bool) : (s.storeWrite k a b p).mbReq = s.mbReq := rfl
@[simp] theorem State.storeWrite_spdmHist (k a : Nat) (b : List Byte) (p : Bool) : (s.storeWrite k a b p).spdmHist = s.spdmHist := rfl
@[simp] theorem State.storeWrite_ideSel (k a : Nat) (b : List Byte) (p : Bool) : (s.storeWrite k a b p).ideSel = s.ideSel := rfl
@[simp] theorem State.storeWrite_perstLow (k a : Nat) (b : List Byte) (p : Bool) : (s.storeWrite k a b p).perstLow = s.perstLow := rfl
@[simp] theorem State.storeWrite_coolant (k a : Nat) (b : List Byte) (p : Bool) : (s.storeWrite k a b p).coolant = s.coolant := rfl
@[simp] theorem State.storeWrite_lineReads (k a : Nat) (b : List Byte) (p : Bool) : (s.storeWrite k a b p).lineReads = s.lineReads := rfl

@[simp] theorem State.poolWrite_pending (k a : Nat) (b : List Byte) (p : Bool) : (s.poolWrite k a b p).pending = s.pending := rfl
@[simp] theorem State.poolWrite_clk (k a : Nat) (b : List Byte) (p : Bool) : (s.poolWrite k a b p).clk = s.clk := rfl
@[simp] theorem State.poolWrite_regs (k a : Nat) (b : List Byte) (p : Bool) : (s.poolWrite k a b p).regs = s.regs := rfl
@[simp] theorem State.poolWrite_staged (k a : Nat) (b : List Byte) (p : Bool) : (s.poolWrite k a b p).staged = s.staged := rfl
@[simp] theorem State.poolWrite_captured (k a : Nat) (b : List Byte) (p : Bool) : (s.poolWrite k a b p).captured = s.captured := rfl
@[simp] theorem State.poolWrite_slotMem (k a : Nat) (b : List Byte) (p : Bool) : (s.poolWrite k a b p).slotMem = s.slotMem := rfl
@[simp] theorem State.poolWrite_store (k a : Nat) (b : List Byte) (p : Bool) : (s.poolWrite k a b p).store = s.store := rfl
@[simp] theorem State.poolWrite_stack (k a : Nat) (b : List Byte) (p : Bool) : (s.poolWrite k a b p).stack = s.stack := rfl
@[simp] theorem State.poolWrite_host (k a : Nat) (b : List Byte) (p : Bool) : (s.poolWrite k a b p).host = s.host := rfl
@[simp] theorem State.poolWrite_storePoison (k a : Nat) (b : List Byte) (p : Bool) : (s.poolWrite k a b p).storePoison = s.storePoison := rfl
@[simp] theorem State.poolWrite_stackPoison (k a : Nat) (b : List Byte) (p : Bool) : (s.poolWrite k a b p).stackPoison = s.stackPoison := rfl
@[simp] theorem State.poolWrite_rills (k a : Nat) (b : List Byte) (p : Bool) : (s.poolWrite k a b p).rills = s.rills := rfl
@[simp] theorem State.poolWrite_net (k a : Nat) (b : List Byte) (p : Bool) : (s.poolWrite k a b p).net = s.net := rfl
@[simp] theorem State.poolWrite_nextXid (k a : Nat) (b : List Byte) (p : Bool) : (s.poolWrite k a b p).nextXid = s.nextXid := rfl
@[simp] theorem State.poolWrite_cairn (k a : Nat) (b : List Byte) (p : Bool) : (s.poolWrite k a b p).cairn = s.cairn := rfl
@[simp] theorem State.poolWrite_ce (k a : Nat) (b : List Byte) (p : Bool) : (s.poolWrite k a b p).ce = s.ce := rfl
@[simp] theorem State.poolWrite_msix (k a : Nat) (b : List Byte) (p : Bool) : (s.poolWrite k a b p).msix = s.msix := rfl
@[simp] theorem State.poolWrite_msixPend (k a : Nat) (b : List Byte) (p : Bool) : (s.poolWrite k a b p).msixPend = s.msixPend := rfl
@[simp] theorem State.poolWrite_lastEvtMsi (k a : Nat) (b : List Byte) (p : Bool) : (s.poolWrite k a b p).lastEvtMsi = s.lastEvtMsi := rfl
@[simp] theorem State.poolWrite_out (k a : Nat) (b : List Byte) (p : Bool) : (s.poolWrite k a b p).out = s.out := rfl
@[simp] theorem State.poolWrite_freeCtr (k a : Nat) (b : List Byte) (p : Bool) : (s.poolWrite k a b p).freeCtr = s.freeCtr := rfl
@[simp] theorem State.poolWrite_msixFnMask (k a : Nat) (b : List Byte) (p : Bool) : (s.poolWrite k a b p).msixFnMask = s.msixFnMask := rfl
@[simp] theorem State.poolWrite_gaugePend (k a : Nat) (b : List Byte) (p : Bool) : (s.poolWrite k a b p).gaugePend = s.gaugePend := rfl
@[simp] theorem State.poolWrite_gaugeDue (k a : Nat) (b : List Byte) (p : Bool) : (s.poolWrite k a b p).gaugeDue = s.gaugeDue := rfl
@[simp] theorem State.poolWrite_memReqs (k a : Nat) (b : List Byte) (p : Bool) : (s.poolWrite k a b p).memReqs = s.memReqs := rfl
@[simp] theorem State.poolWrite_tlb (k a : Nat) (b : List Byte) (p : Bool) : (s.poolWrite k a b p).tlb = s.tlb := rfl
@[simp] theorem State.poolWrite_walkCache (k a : Nat) (b : List Byte) (p : Bool) : (s.poolWrite k a b p).walkCache = s.walkCache := rfl
@[simp] theorem State.poolWrite_hws (k a : Nat) (b : List Byte) (p : Bool) : (s.poolWrite k a b p).hws = s.hws := rfl
@[simp] theorem State.poolWrite_grads (k a : Nat) (b : List Byte) (p : Bool) : (s.poolWrite k a b p).grads = s.grads := rfl
@[simp] theorem State.poolWrite_hwWait (k a : Nat) (b : List Byte) (p : Bool) : (s.poolWrite k a b p).hwWait = s.hwWait := rfl
@[simp] theorem State.poolWrite_hwMan (k a : Nat) (b : List Byte) (p : Bool) : (s.poolWrite k a b p).hwMan = s.hwMan := rfl
@[simp] theorem State.poolWrite_hwBinding (k a : Nat) (b : List Byte) (p : Bool) : (s.poolWrite k a b p).hwBinding = s.hwBinding := rfl
@[simp] theorem State.poolWrite_hwKeys (k a : Nat) (b : List Byte) (p : Bool) : (s.poolWrite k a b p).hwKeys = s.hwKeys := rfl
@[simp] theorem State.poolWrite_keyReqs (k a : Nat) (b : List Byte) (p : Bool) : (s.poolWrite k a b p).keyReqs = s.keyReqs := rfl
@[simp] theorem State.poolWrite_portLeft (k a : Nat) (b : List Byte) (p : Bool) : (s.poolWrite k a b p).portLeft = s.portLeft := rfl
@[simp] theorem State.poolWrite_frontGo (k a : Nat) (b : List Byte) (p : Bool) : (s.poolWrite k a b p).frontGo = s.frontGo := rfl
@[simp] theorem State.poolWrite_seqrs (k a : Nat) (b : List Byte) (p : Bool) : (s.poolWrite k a b p).seqrs = s.seqrs := rfl
@[simp] theorem State.poolWrite_postSeq (k a : Nat) (b : List Byte) (p : Bool) : (s.poolWrite k a b p).postSeq = s.postSeq := rfl
@[simp] theorem State.poolWrite_rcvs (k a : Nat) (b : List Byte) (p : Bool) : (s.poolWrite k a b p).rcvs = s.rcvs := rfl
@[simp] theorem State.poolWrite_failing (k a : Nat) (b : List Byte) (p : Bool) : (s.poolWrite k a b p).failing = s.failing := rfl
@[simp] theorem State.poolWrite_ezs (k a : Nat) (b : List Byte) (p : Bool) : (s.poolWrite k a b p).ezs = s.ezs := rfl
@[simp] theorem State.poolWrite_links (k a : Nat) (b : List Byte) (p : Bool) : (s.poolWrite k a b p).links = s.links := rfl
@[simp] theorem State.poolWrite_rx (k a : Nat) (b : List Byte) (p : Bool) : (s.poolWrite k a b p).rx = s.rx := rfl
@[simp] theorem State.poolWrite_early (k a : Nat) (b : List Byte) (p : Bool) : (s.poolWrite k a b p).early = s.early := rfl
@[simp] theorem State.poolWrite_keys (k a : Nat) (b : List Byte) (p : Bool) : (s.poolWrite k a b p).keys = s.keys := rfl
@[simp] theorem State.poolWrite_bcasts (k a : Nat) (b : List Byte) (p : Bool) : (s.poolWrite k a b p).bcasts = s.bcasts := rfl
@[simp] theorem State.poolWrite_groupInvalid (k a : Nat) (b : List Byte) (p : Bool) : (s.poolWrite k a b p).groupInvalid = s.groupInvalid := rfl
@[simp] theorem State.poolWrite_adderFails (k a : Nat) (b : List Byte) (p : Bool) : (s.poolWrite k a b p).adderFails = s.adderFails := rfl
@[simp] theorem State.poolWrite_wireHold (k a : Nat) (b : List Byte) (p : Bool) : (s.poolWrite k a b p).wireHold = s.wireHold := rfl
@[simp] theorem State.poolWrite_starved (k a : Nat) (b : List Byte) (p : Bool) : (s.poolWrite k a b p).starved = s.starved := rfl
@[simp] theorem State.poolWrite_stackErrs (k a : Nat) (b : List Byte) (p : Bool) : (s.poolWrite k a b p).stackErrs = s.stackErrs := rfl
@[simp] theorem State.poolWrite_shapes (k a : Nat) (b : List Byte) (p : Bool) : (s.poolWrite k a b p).shapes = s.shapes := rfl
@[simp] theorem State.poolWrite_wearNext (k a : Nat) (b : List Byte) (p : Bool) : (s.poolWrite k a b p).wearNext = s.wearNext := rfl
@[simp] theorem State.poolWrite_wearDue (k a : Nat) (b : List Byte) (p : Bool) : (s.poolWrite k a b p).wearDue = s.wearDue := rfl
@[simp] theorem State.poolWrite_wearSegs (k a : Nat) (b : List Byte) (p : Bool) : (s.poolWrite k a b p).wearSegs = s.wearSegs := rfl
@[simp] theorem State.poolWrite_inputStage (k a : Nat) (b : List Byte) (p : Bool) : (s.poolWrite k a b p).inputStage = s.inputStage := rfl
@[simp] theorem State.poolWrite_stageAt (k a : Nat) (b : List Byte) (p : Bool) : (s.poolWrite k a b p).stageAt = s.stageAt := rfl
@[simp] theorem State.poolWrite_vinMv (k a : Nat) (b : List Byte) (p : Bool) : (s.poolWrite k a b p).vinMv = s.vinMv := rfl
@[simp] theorem State.poolWrite_diodeOpen (k a : Nat) (b : List Byte) (p : Bool) : (s.poolWrite k a b p).diodeOpen = s.diodeOpen := rfl
@[simp] theorem State.poolWrite_strapPins (k a : Nat) (b : List Byte) (p : Bool) : (s.poolWrite k a b p).strapPins = s.strapPins := rfl
@[simp] theorem State.poolWrite_weirS (k a : Nat) (b : List Byte) (p : Bool) : (s.poolWrite k a b p).weirS = s.weirS := rfl
@[simp] theorem State.poolWrite_weirSet (k a : Nat) (b : List Byte) (p : Bool) : (s.poolWrite k a b p).weirSet = s.weirSet := rfl
@[simp] theorem State.poolWrite_weirUp (k a : Nat) (b : List Byte) (p : Bool) : (s.poolWrite k a b p).weirUp = s.weirUp := rfl
@[simp] theorem State.poolWrite_weirDown (k a : Nat) (b : List Byte) (p : Bool) : (s.poolWrite k a b p).weirDown = s.weirDown := rfl
@[simp] theorem State.poolWrite_weirRest (k a : Nat) (b : List Byte) (p : Bool) : (s.poolWrite k a b p).weirRest = s.weirRest := rfl
@[simp] theorem State.poolWrite_weirBelow (k a : Nat) (b : List Byte) (p : Bool) : (s.poolWrite k a b p).weirBelow = s.weirBelow := rfl
@[simp] theorem State.poolWrite_weirPend (k a : Nat) (b : List Byte) (p : Bool) : (s.poolWrite k a b p).weirPend = s.weirPend := rfl
@[simp] theorem State.poolWrite_weirAt (k a : Nat) (b : List Byte) (p : Bool) : (s.poolWrite k a b p).weirAt = s.weirAt := rfl
@[simp] theorem State.poolWrite_weirNj (k a : Nat) (b : List Byte) (p : Bool) : (s.poolWrite k a b p).weirNj = s.weirNj := rfl
@[simp] theorem State.poolWrite_ballNj (k a : Nat) (b : List Byte) (p : Bool) : (s.poolWrite k a b p).ballNj = s.ballNj := rfl
@[simp] theorem State.poolWrite_ptNj (k a : Nat) (b : List Byte) (p : Bool) : (s.poolWrite k a b p).ptNj = s.ptNj := rfl
@[simp] theorem State.poolWrite_leveeStart (k a : Nat) (b : List Byte) (p : Bool) : (s.poolWrite k a b p).leveeStart = s.leveeStart := rfl
@[simp] theorem State.poolWrite_pitchWait (k a : Nat) (b : List Byte) (p : Bool) : (s.poolWrite k a b p).pitchWait = s.pitchWait := rfl
@[simp] theorem State.poolWrite_pitchRun (k a : Nat) (b : List Byte) (p : Bool) : (s.poolWrite k a b p).pitchRun = s.pitchRun := rfl
@[simp] theorem State.poolWrite_pitchHeld (k a : Nat) (b : List Byte) (p : Bool) : (s.poolWrite k a b p).pitchHeld = s.pitchHeld := rfl
@[simp] theorem State.poolWrite_railTest (k a : Nat) (b : List Byte) (p : Bool) : (s.poolWrite k a b p).railTest = s.railTest := rfl
@[simp] theorem State.poolWrite_unpowered (k a : Nat) (b : List Byte) (p : Bool) : (s.poolWrite k a b p).unpowered = s.unpowered := rfl
@[simp] theorem State.poolWrite_hotPitches (k a : Nat) (b : List Byte) (p : Bool) : (s.poolWrite k a b p).hotPitches = s.hotPitches := rfl
@[simp] theorem State.poolWrite_isoKept (k a : Nat) (b : List Byte) (p : Bool) : (s.poolWrite k a b p).isoKept = s.isoKept := rfl
@[simp] theorem State.poolWrite_isoPend (k a : Nat) (b : List Byte) (p : Bool) : (s.poolWrite k a b p).isoPend = s.isoPend := rfl
@[simp] theorem State.poolWrite_startPend (k a : Nat) (b : List Byte) (p : Bool) : (s.poolWrite k a b p).startPend = s.startPend := rfl
@[simp] theorem State.poolWrite_cmtDue (k a : Nat) (b : List Byte) (p : Bool) : (s.poolWrite k a b p).cmtDue = s.cmtDue := rfl
@[simp] theorem State.poolWrite_testing (k a : Nat) (b : List Byte) (p : Bool) : (s.poolWrite k a b p).testing = s.testing := rfl
@[simp] theorem State.poolWrite_wardenGone (k a : Nat) (b : List Byte) (p : Bool) : (s.poolWrite k a b p).wardenGone = s.wardenGone := rfl
@[simp] theorem State.poolWrite_staleWait (k a : Nat) (b : List Byte) (p : Bool) : (s.poolWrite k a b p).staleWait = s.staleWait := rfl
@[simp] theorem State.poolWrite_fwUp (k a : Nat) (b : List Byte) (p : Bool) : (s.poolWrite k a b p).fwUp = s.fwUp := rfl
@[simp] theorem State.poolWrite_weirAct (k a : Nat) (b : List Byte) (p : Bool) : (s.poolWrite k a b p).weirAct = s.weirAct := rfl
@[simp] theorem State.poolWrite_weirDrawn (k a : Nat) (b : List Byte) (p : Bool) : (s.poolWrite k a b p).weirDrawn = s.weirDrawn := rfl
@[simp] theorem State.poolWrite_weirCut (k a : Nat) (b : List Byte) (p : Bool) : (s.poolWrite k a b p).weirCut = s.weirCut := rfl
@[simp] theorem State.poolWrite_weirSkip (k a : Nat) (b : List Byte) (p : Bool) : (s.poolWrite k a b p).weirSkip = s.weirSkip := rfl
@[simp] theorem State.poolWrite_weirFrom (k a : Nat) (b : List Byte) (p : Bool) : (s.poolWrite k a b p).weirFrom = s.weirFrom := rfl
@[simp] theorem State.poolWrite_tmFirst (k a : Nat) (b : List Byte) (p : Bool) : (s.poolWrite k a b p).tmFirst = s.tmFirst := rfl
@[simp] theorem State.poolWrite_tmIn (k a : Nat) (b : List Byte) (p : Bool) : (s.poolWrite k a b p).tmIn = s.tmIn := rfl
@[simp] theorem State.poolWrite_tmOut (k a : Nat) (b : List Byte) (p : Bool) : (s.poolWrite k a b p).tmOut = s.tmOut := rfl
@[simp] theorem State.poolWrite_tmLost (k a : Nat) (b : List Byte) (p : Bool) : (s.poolWrite k a b p).tmLost = s.tmLost := rfl
@[simp] theorem State.poolWrite_holdAt (k a : Nat) (b : List Byte) (p : Bool) : (s.poolWrite k a b p).holdAt = s.holdAt := rfl
@[simp] theorem State.poolWrite_ppsLast (k a : Nat) (b : List Byte) (p : Bool) : (s.poolWrite k a b p).ppsLast = s.ppsLast := rfl
@[simp] theorem State.poolWrite_ppsMark (k a : Nat) (b : List Byte) (p : Bool) : (s.poolWrite k a b p).ppsMark = s.ppsMark := rfl
@[simp] theorem State.poolWrite_ppsSet (k a : Nat) (b : List Byte) (p : Bool) : (s.poolWrite k a b p).ppsSet = s.ppsSet := rfl
@[simp] theorem State.poolWrite_bgTable (k a : Nat) (b : List Byte) (p : Bool) : (s.poolWrite k a b p).bgTable = s.bgTable := rfl
@[simp] theorem State.poolWrite_bgNext (k a : Nat) (b : List Byte) (p : Bool) : (s.poolWrite k a b p).bgNext = s.bgNext := rfl
@[simp] theorem State.poolWrite_slotAt (k a : Nat) (b : List Byte) (p : Bool) : (s.poolWrite k a b p).slotAt = s.slotAt := rfl
@[simp] theorem State.poolWrite_fwFlash (k a : Nat) (b : List Byte) (p : Bool) : (s.poolWrite k a b p).fwFlash = s.fwFlash := rfl
@[simp] theorem State.poolWrite_fwStage (k a : Nat) (b : List Byte) (p : Bool) : (s.poolWrite k a b p).fwStage = s.fwStage := rfl
@[simp] theorem State.poolWrite_fwFail (k a : Nat) (b : List Byte) (p : Bool) : (s.poolWrite k a b p).fwFail = s.fwFail := rfl
@[simp] theorem State.poolWrite_boot (k a : Nat) (b : List Byte) (p : Bool) : (s.poolWrite k a b p).boot = s.boot := rfl
@[simp] theorem State.poolWrite_running (k a : Nat) (b : List Byte) (p : Bool) : (s.poolWrite k a b p).running = s.running := rfl
@[simp] theorem State.poolWrite_restarts (k a : Nat) (b : List Byte) (p : Bool) : (s.poolWrite k a b p).restarts = s.restarts := rfl
@[simp] theorem State.poolWrite_fetching (k a : Nat) (b : List Byte) (p : Bool) : (s.poolWrite k a b p).fetching = s.fetching := rfl
@[simp] theorem State.poolWrite_fetchAt (k a : Nat) (b : List Byte) (p : Bool) : (s.poolWrite k a b p).fetchAt = s.fetchAt := rfl
@[simp] theorem State.poolWrite_wipedN (k a : Nat) (b : List Byte) (p : Bool) : (s.poolWrite k a b p).wipedN = s.wipedN := rfl
@[simp] theorem State.poolWrite_lcPend (k a : Nat) (b : List Byte) (p : Bool) : (s.poolWrite k a b p).lcPend = s.lcPend := rfl
@[simp] theorem State.poolWrite_ptRecord (k a : Nat) (b : List Byte) (p : Bool) : (s.poolWrite k a b p).ptRecord = s.ptRecord := rfl
@[simp] theorem State.poolWrite_ownerChain (k a : Nat) (b : List Byte) (p : Bool) : (s.poolWrite k a b p).ownerChain = s.ownerChain := rfl
@[simp] theorem State.poolWrite_identity (k a : Nat) (b : List Byte) (p : Bool) : (s.poolWrite k a b p).identity = s.identity := rfl
@[simp] theorem State.poolWrite_mgmt (k a : Nat) (b : List Byte) (p : Bool) : (s.poolWrite k a b p).mgmt = s.mgmt := rfl
@[simp] theorem State.poolWrite_cmtA (k a : Nat) (b : List Byte) (p : Bool) : (s.poolWrite k a b p).cmtA = s.cmtA := rfl
@[simp] theorem State.poolWrite_cmtB (k a : Nat) (b : List Byte) (p : Bool) : (s.poolWrite k a b p).cmtB = s.cmtB := rfl
@[simp] theorem State.poolWrite_cmtFresh (k a : Nat) (b : List Byte) (p : Bool) : (s.poolWrite k a b p).cmtFresh = s.cmtFresh := rfl
@[simp] theorem State.poolWrite_warmHeld (k a : Nat) (b : List Byte) (p : Bool) : (s.poolWrite k a b p).warmHeld = s.warmHeld := rfl
@[simp] theorem State.poolWrite_warmAt (k a : Nat) (b : List Byte) (p : Bool) : (s.poolWrite k a b p).warmAt = s.warmAt := rfl
@[simp] theorem State.poolWrite_coreTest (k a : Nat) (b : List Byte) (p : Bool) : (s.poolWrite k a b p).coreTest = s.coreTest := rfl
@[simp] theorem State.poolWrite_mbReq (k a : Nat) (b : List Byte) (p : Bool) : (s.poolWrite k a b p).mbReq = s.mbReq := rfl
@[simp] theorem State.poolWrite_spdmHist (k a : Nat) (b : List Byte) (p : Bool) : (s.poolWrite k a b p).spdmHist = s.spdmHist := rfl
@[simp] theorem State.poolWrite_ideSel (k a : Nat) (b : List Byte) (p : Bool) : (s.poolWrite k a b p).ideSel = s.ideSel := rfl
@[simp] theorem State.poolWrite_perstLow (k a : Nat) (b : List Byte) (p : Bool) : (s.poolWrite k a b p).perstLow = s.perstLow := rfl
@[simp] theorem State.poolWrite_coolant (k a : Nat) (b : List Byte) (p : Bool) : (s.poolWrite k a b p).coolant = s.coolant := rfl

@[simp] theorem State.stackWrite_pending (pos off : Nat) (b : List Byte) (p : Bool) : (s.stackWrite pos off b p).pending = s.pending := rfl
@[simp] theorem State.stackWrite_clk (pos off : Nat) (b : List Byte) (p : Bool) : (s.stackWrite pos off b p).clk = s.clk := rfl
@[simp] theorem State.stackWrite_regs (pos off : Nat) (b : List Byte) (p : Bool) : (s.stackWrite pos off b p).regs = s.regs := rfl
@[simp] theorem State.stackWrite_staged (pos off : Nat) (b : List Byte) (p : Bool) : (s.stackWrite pos off b p).staged = s.staged := rfl
@[simp] theorem State.stackWrite_captured (pos off : Nat) (b : List Byte) (p : Bool) : (s.stackWrite pos off b p).captured = s.captured := rfl
@[simp] theorem State.stackWrite_slotMem (pos off : Nat) (b : List Byte) (p : Bool) : (s.stackWrite pos off b p).slotMem = s.slotMem := rfl
@[simp] theorem State.stackWrite_store (pos off : Nat) (b : List Byte) (p : Bool) : (s.stackWrite pos off b p).store = s.store := rfl
@[simp] theorem State.stackWrite_pool (pos off : Nat) (b : List Byte) (p : Bool) : (s.stackWrite pos off b p).pool = s.pool := rfl
@[simp] theorem State.stackWrite_host (pos off : Nat) (b : List Byte) (p : Bool) : (s.stackWrite pos off b p).host = s.host := rfl
@[simp] theorem State.stackWrite_storePoison (pos off : Nat) (b : List Byte) (p : Bool) : (s.stackWrite pos off b p).storePoison = s.storePoison := rfl
@[simp] theorem State.stackWrite_poolPoison (pos off : Nat) (b : List Byte) (p : Bool) : (s.stackWrite pos off b p).poolPoison = s.poolPoison := rfl
@[simp] theorem State.stackWrite_rills (pos off : Nat) (b : List Byte) (p : Bool) : (s.stackWrite pos off b p).rills = s.rills := rfl
@[simp] theorem State.stackWrite_net (pos off : Nat) (b : List Byte) (p : Bool) : (s.stackWrite pos off b p).net = s.net := rfl
@[simp] theorem State.stackWrite_nextXid (pos off : Nat) (b : List Byte) (p : Bool) : (s.stackWrite pos off b p).nextXid = s.nextXid := rfl
@[simp] theorem State.stackWrite_cairn (pos off : Nat) (b : List Byte) (p : Bool) : (s.stackWrite pos off b p).cairn = s.cairn := rfl
@[simp] theorem State.stackWrite_ce (pos off : Nat) (b : List Byte) (p : Bool) : (s.stackWrite pos off b p).ce = s.ce := rfl
@[simp] theorem State.stackWrite_msix (pos off : Nat) (b : List Byte) (p : Bool) : (s.stackWrite pos off b p).msix = s.msix := rfl
@[simp] theorem State.stackWrite_msixPend (pos off : Nat) (b : List Byte) (p : Bool) : (s.stackWrite pos off b p).msixPend = s.msixPend := rfl
@[simp] theorem State.stackWrite_lastEvtMsi (pos off : Nat) (b : List Byte) (p : Bool) : (s.stackWrite pos off b p).lastEvtMsi = s.lastEvtMsi := rfl
@[simp] theorem State.stackWrite_out (pos off : Nat) (b : List Byte) (p : Bool) : (s.stackWrite pos off b p).out = s.out := rfl
@[simp] theorem State.stackWrite_freeCtr (pos off : Nat) (b : List Byte) (p : Bool) : (s.stackWrite pos off b p).freeCtr = s.freeCtr := rfl
@[simp] theorem State.stackWrite_msixFnMask (pos off : Nat) (b : List Byte) (p : Bool) : (s.stackWrite pos off b p).msixFnMask = s.msixFnMask := rfl
@[simp] theorem State.stackWrite_gaugePend (pos off : Nat) (b : List Byte) (p : Bool) : (s.stackWrite pos off b p).gaugePend = s.gaugePend := rfl
@[simp] theorem State.stackWrite_gaugeDue (pos off : Nat) (b : List Byte) (p : Bool) : (s.stackWrite pos off b p).gaugeDue = s.gaugeDue := rfl
@[simp] theorem State.stackWrite_memReqs (pos off : Nat) (b : List Byte) (p : Bool) : (s.stackWrite pos off b p).memReqs = s.memReqs := rfl
@[simp] theorem State.stackWrite_tlb (pos off : Nat) (b : List Byte) (p : Bool) : (s.stackWrite pos off b p).tlb = s.tlb := rfl
@[simp] theorem State.stackWrite_walkCache (pos off : Nat) (b : List Byte) (p : Bool) : (s.stackWrite pos off b p).walkCache = s.walkCache := rfl
@[simp] theorem State.stackWrite_hws (pos off : Nat) (b : List Byte) (p : Bool) : (s.stackWrite pos off b p).hws = s.hws := rfl
@[simp] theorem State.stackWrite_grads (pos off : Nat) (b : List Byte) (p : Bool) : (s.stackWrite pos off b p).grads = s.grads := rfl
@[simp] theorem State.stackWrite_hwWait (pos off : Nat) (b : List Byte) (p : Bool) : (s.stackWrite pos off b p).hwWait = s.hwWait := rfl
@[simp] theorem State.stackWrite_hwMan (pos off : Nat) (b : List Byte) (p : Bool) : (s.stackWrite pos off b p).hwMan = s.hwMan := rfl
@[simp] theorem State.stackWrite_hwBinding (pos off : Nat) (b : List Byte) (p : Bool) : (s.stackWrite pos off b p).hwBinding = s.hwBinding := rfl
@[simp] theorem State.stackWrite_hwKeys (pos off : Nat) (b : List Byte) (p : Bool) : (s.stackWrite pos off b p).hwKeys = s.hwKeys := rfl
@[simp] theorem State.stackWrite_keyReqs (pos off : Nat) (b : List Byte) (p : Bool) : (s.stackWrite pos off b p).keyReqs = s.keyReqs := rfl
@[simp] theorem State.stackWrite_portLeft (pos off : Nat) (b : List Byte) (p : Bool) : (s.stackWrite pos off b p).portLeft = s.portLeft := rfl
@[simp] theorem State.stackWrite_frontGo (pos off : Nat) (b : List Byte) (p : Bool) : (s.stackWrite pos off b p).frontGo = s.frontGo := rfl
@[simp] theorem State.stackWrite_seqrs (pos off : Nat) (b : List Byte) (p : Bool) : (s.stackWrite pos off b p).seqrs = s.seqrs := rfl
@[simp] theorem State.stackWrite_postSeq (pos off : Nat) (b : List Byte) (p : Bool) : (s.stackWrite pos off b p).postSeq = s.postSeq := rfl
@[simp] theorem State.stackWrite_rcvs (pos off : Nat) (b : List Byte) (p : Bool) : (s.stackWrite pos off b p).rcvs = s.rcvs := rfl
@[simp] theorem State.stackWrite_failing (pos off : Nat) (b : List Byte) (p : Bool) : (s.stackWrite pos off b p).failing = s.failing := rfl
@[simp] theorem State.stackWrite_ezs (pos off : Nat) (b : List Byte) (p : Bool) : (s.stackWrite pos off b p).ezs = s.ezs := rfl
@[simp] theorem State.stackWrite_links (pos off : Nat) (b : List Byte) (p : Bool) : (s.stackWrite pos off b p).links = s.links := rfl
@[simp] theorem State.stackWrite_rx (pos off : Nat) (b : List Byte) (p : Bool) : (s.stackWrite pos off b p).rx = s.rx := rfl
@[simp] theorem State.stackWrite_early (pos off : Nat) (b : List Byte) (p : Bool) : (s.stackWrite pos off b p).early = s.early := rfl
@[simp] theorem State.stackWrite_keys (pos off : Nat) (b : List Byte) (p : Bool) : (s.stackWrite pos off b p).keys = s.keys := rfl
@[simp] theorem State.stackWrite_bcasts (pos off : Nat) (b : List Byte) (p : Bool) : (s.stackWrite pos off b p).bcasts = s.bcasts := rfl
@[simp] theorem State.stackWrite_groupInvalid (pos off : Nat) (b : List Byte) (p : Bool) : (s.stackWrite pos off b p).groupInvalid = s.groupInvalid := rfl
@[simp] theorem State.stackWrite_adderFails (pos off : Nat) (b : List Byte) (p : Bool) : (s.stackWrite pos off b p).adderFails = s.adderFails := rfl
@[simp] theorem State.stackWrite_wireHold (pos off : Nat) (b : List Byte) (p : Bool) : (s.stackWrite pos off b p).wireHold = s.wireHold := rfl
@[simp] theorem State.stackWrite_starved (pos off : Nat) (b : List Byte) (p : Bool) : (s.stackWrite pos off b p).starved = s.starved := rfl
@[simp] theorem State.stackWrite_stackErrs (pos off : Nat) (b : List Byte) (p : Bool) : (s.stackWrite pos off b p).stackErrs = s.stackErrs := rfl
@[simp] theorem State.stackWrite_shapes (pos off : Nat) (b : List Byte) (p : Bool) : (s.stackWrite pos off b p).shapes = s.shapes := rfl
@[simp] theorem State.stackWrite_wearNext (pos off : Nat) (b : List Byte) (p : Bool) : (s.stackWrite pos off b p).wearNext = s.wearNext := rfl
@[simp] theorem State.stackWrite_wearDue (pos off : Nat) (b : List Byte) (p : Bool) : (s.stackWrite pos off b p).wearDue = s.wearDue := rfl
@[simp] theorem State.stackWrite_wearSegs (pos off : Nat) (b : List Byte) (p : Bool) : (s.stackWrite pos off b p).wearSegs = s.wearSegs := rfl
@[simp] theorem State.stackWrite_inputStage (pos off : Nat) (b : List Byte) (p : Bool) : (s.stackWrite pos off b p).inputStage = s.inputStage := rfl
@[simp] theorem State.stackWrite_stageAt (pos off : Nat) (b : List Byte) (p : Bool) : (s.stackWrite pos off b p).stageAt = s.stageAt := rfl
@[simp] theorem State.stackWrite_vinMv (pos off : Nat) (b : List Byte) (p : Bool) : (s.stackWrite pos off b p).vinMv = s.vinMv := rfl
@[simp] theorem State.stackWrite_diodeOpen (pos off : Nat) (b : List Byte) (p : Bool) : (s.stackWrite pos off b p).diodeOpen = s.diodeOpen := rfl
@[simp] theorem State.stackWrite_strapPins (pos off : Nat) (b : List Byte) (p : Bool) : (s.stackWrite pos off b p).strapPins = s.strapPins := rfl
@[simp] theorem State.stackWrite_weirS (pos off : Nat) (b : List Byte) (p : Bool) : (s.stackWrite pos off b p).weirS = s.weirS := rfl
@[simp] theorem State.stackWrite_weirSet (pos off : Nat) (b : List Byte) (p : Bool) : (s.stackWrite pos off b p).weirSet = s.weirSet := rfl
@[simp] theorem State.stackWrite_weirUp (pos off : Nat) (b : List Byte) (p : Bool) : (s.stackWrite pos off b p).weirUp = s.weirUp := rfl
@[simp] theorem State.stackWrite_weirDown (pos off : Nat) (b : List Byte) (p : Bool) : (s.stackWrite pos off b p).weirDown = s.weirDown := rfl
@[simp] theorem State.stackWrite_weirRest (pos off : Nat) (b : List Byte) (p : Bool) : (s.stackWrite pos off b p).weirRest = s.weirRest := rfl
@[simp] theorem State.stackWrite_weirBelow (pos off : Nat) (b : List Byte) (p : Bool) : (s.stackWrite pos off b p).weirBelow = s.weirBelow := rfl
@[simp] theorem State.stackWrite_weirPend (pos off : Nat) (b : List Byte) (p : Bool) : (s.stackWrite pos off b p).weirPend = s.weirPend := rfl
@[simp] theorem State.stackWrite_weirAt (pos off : Nat) (b : List Byte) (p : Bool) : (s.stackWrite pos off b p).weirAt = s.weirAt := rfl
@[simp] theorem State.stackWrite_weirNj (pos off : Nat) (b : List Byte) (p : Bool) : (s.stackWrite pos off b p).weirNj = s.weirNj := rfl
@[simp] theorem State.stackWrite_ballNj (pos off : Nat) (b : List Byte) (p : Bool) : (s.stackWrite pos off b p).ballNj = s.ballNj := rfl
@[simp] theorem State.stackWrite_ptNj (pos off : Nat) (b : List Byte) (p : Bool) : (s.stackWrite pos off b p).ptNj = s.ptNj := rfl
@[simp] theorem State.stackWrite_leveeStart (pos off : Nat) (b : List Byte) (p : Bool) : (s.stackWrite pos off b p).leveeStart = s.leveeStart := rfl
@[simp] theorem State.stackWrite_pitchWait (pos off : Nat) (b : List Byte) (p : Bool) : (s.stackWrite pos off b p).pitchWait = s.pitchWait := rfl
@[simp] theorem State.stackWrite_pitchRun (pos off : Nat) (b : List Byte) (p : Bool) : (s.stackWrite pos off b p).pitchRun = s.pitchRun := rfl
@[simp] theorem State.stackWrite_pitchHeld (pos off : Nat) (b : List Byte) (p : Bool) : (s.stackWrite pos off b p).pitchHeld = s.pitchHeld := rfl
@[simp] theorem State.stackWrite_railTest (pos off : Nat) (b : List Byte) (p : Bool) : (s.stackWrite pos off b p).railTest = s.railTest := rfl
@[simp] theorem State.stackWrite_unpowered (pos off : Nat) (b : List Byte) (p : Bool) : (s.stackWrite pos off b p).unpowered = s.unpowered := rfl
@[simp] theorem State.stackWrite_hotPitches (pos off : Nat) (b : List Byte) (p : Bool) : (s.stackWrite pos off b p).hotPitches = s.hotPitches := rfl
@[simp] theorem State.stackWrite_isoKept (pos off : Nat) (b : List Byte) (p : Bool) : (s.stackWrite pos off b p).isoKept = s.isoKept := rfl
@[simp] theorem State.stackWrite_isoPend (pos off : Nat) (b : List Byte) (p : Bool) : (s.stackWrite pos off b p).isoPend = s.isoPend := rfl
@[simp] theorem State.stackWrite_startPend (pos off : Nat) (b : List Byte) (p : Bool) : (s.stackWrite pos off b p).startPend = s.startPend := rfl
@[simp] theorem State.stackWrite_cmtDue (pos off : Nat) (b : List Byte) (p : Bool) : (s.stackWrite pos off b p).cmtDue = s.cmtDue := rfl
@[simp] theorem State.stackWrite_testing (pos off : Nat) (b : List Byte) (p : Bool) : (s.stackWrite pos off b p).testing = s.testing := rfl
@[simp] theorem State.stackWrite_wardenGone (pos off : Nat) (b : List Byte) (p : Bool) : (s.stackWrite pos off b p).wardenGone = s.wardenGone := rfl
@[simp] theorem State.stackWrite_staleWait (pos off : Nat) (b : List Byte) (p : Bool) : (s.stackWrite pos off b p).staleWait = s.staleWait := rfl
@[simp] theorem State.stackWrite_fwUp (pos off : Nat) (b : List Byte) (p : Bool) : (s.stackWrite pos off b p).fwUp = s.fwUp := rfl
@[simp] theorem State.stackWrite_weirAct (pos off : Nat) (b : List Byte) (p : Bool) : (s.stackWrite pos off b p).weirAct = s.weirAct := rfl
@[simp] theorem State.stackWrite_weirDrawn (pos off : Nat) (b : List Byte) (p : Bool) : (s.stackWrite pos off b p).weirDrawn = s.weirDrawn := rfl
@[simp] theorem State.stackWrite_weirCut (pos off : Nat) (b : List Byte) (p : Bool) : (s.stackWrite pos off b p).weirCut = s.weirCut := rfl
@[simp] theorem State.stackWrite_weirSkip (pos off : Nat) (b : List Byte) (p : Bool) : (s.stackWrite pos off b p).weirSkip = s.weirSkip := rfl
@[simp] theorem State.stackWrite_weirFrom (pos off : Nat) (b : List Byte) (p : Bool) : (s.stackWrite pos off b p).weirFrom = s.weirFrom := rfl
@[simp] theorem State.stackWrite_tmFirst (pos off : Nat) (b : List Byte) (p : Bool) : (s.stackWrite pos off b p).tmFirst = s.tmFirst := rfl
@[simp] theorem State.stackWrite_tmIn (pos off : Nat) (b : List Byte) (p : Bool) : (s.stackWrite pos off b p).tmIn = s.tmIn := rfl
@[simp] theorem State.stackWrite_tmOut (pos off : Nat) (b : List Byte) (p : Bool) : (s.stackWrite pos off b p).tmOut = s.tmOut := rfl
@[simp] theorem State.stackWrite_tmLost (pos off : Nat) (b : List Byte) (p : Bool) : (s.stackWrite pos off b p).tmLost = s.tmLost := rfl
@[simp] theorem State.stackWrite_holdAt (pos off : Nat) (b : List Byte) (p : Bool) : (s.stackWrite pos off b p).holdAt = s.holdAt := rfl
@[simp] theorem State.stackWrite_ppsLast (pos off : Nat) (b : List Byte) (p : Bool) : (s.stackWrite pos off b p).ppsLast = s.ppsLast := rfl
@[simp] theorem State.stackWrite_ppsMark (pos off : Nat) (b : List Byte) (p : Bool) : (s.stackWrite pos off b p).ppsMark = s.ppsMark := rfl
@[simp] theorem State.stackWrite_ppsSet (pos off : Nat) (b : List Byte) (p : Bool) : (s.stackWrite pos off b p).ppsSet = s.ppsSet := rfl
@[simp] theorem State.stackWrite_bgTable (pos off : Nat) (b : List Byte) (p : Bool) : (s.stackWrite pos off b p).bgTable = s.bgTable := rfl
@[simp] theorem State.stackWrite_bgNext (pos off : Nat) (b : List Byte) (p : Bool) : (s.stackWrite pos off b p).bgNext = s.bgNext := rfl
@[simp] theorem State.stackWrite_slotAt (pos off : Nat) (b : List Byte) (p : Bool) : (s.stackWrite pos off b p).slotAt = s.slotAt := rfl
@[simp] theorem State.stackWrite_fwFlash (pos off : Nat) (b : List Byte) (p : Bool) : (s.stackWrite pos off b p).fwFlash = s.fwFlash := rfl
@[simp] theorem State.stackWrite_fwStage (pos off : Nat) (b : List Byte) (p : Bool) : (s.stackWrite pos off b p).fwStage = s.fwStage := rfl
@[simp] theorem State.stackWrite_fwFail (pos off : Nat) (b : List Byte) (p : Bool) : (s.stackWrite pos off b p).fwFail = s.fwFail := rfl
@[simp] theorem State.stackWrite_boot (pos off : Nat) (b : List Byte) (p : Bool) : (s.stackWrite pos off b p).boot = s.boot := rfl
@[simp] theorem State.stackWrite_running (pos off : Nat) (b : List Byte) (p : Bool) : (s.stackWrite pos off b p).running = s.running := rfl
@[simp] theorem State.stackWrite_restarts (pos off : Nat) (b : List Byte) (p : Bool) : (s.stackWrite pos off b p).restarts = s.restarts := rfl
@[simp] theorem State.stackWrite_fetching (pos off : Nat) (b : List Byte) (p : Bool) : (s.stackWrite pos off b p).fetching = s.fetching := rfl
@[simp] theorem State.stackWrite_fetchAt (pos off : Nat) (b : List Byte) (p : Bool) : (s.stackWrite pos off b p).fetchAt = s.fetchAt := rfl
@[simp] theorem State.stackWrite_wipedN (pos off : Nat) (b : List Byte) (p : Bool) : (s.stackWrite pos off b p).wipedN = s.wipedN := rfl
@[simp] theorem State.stackWrite_lcPend (pos off : Nat) (b : List Byte) (p : Bool) : (s.stackWrite pos off b p).lcPend = s.lcPend := rfl
@[simp] theorem State.stackWrite_ptRecord (pos off : Nat) (b : List Byte) (p : Bool) : (s.stackWrite pos off b p).ptRecord = s.ptRecord := rfl
@[simp] theorem State.stackWrite_ownerChain (pos off : Nat) (b : List Byte) (p : Bool) : (s.stackWrite pos off b p).ownerChain = s.ownerChain := rfl
@[simp] theorem State.stackWrite_identity (pos off : Nat) (b : List Byte) (p : Bool) : (s.stackWrite pos off b p).identity = s.identity := rfl
@[simp] theorem State.stackWrite_mgmt (pos off : Nat) (b : List Byte) (p : Bool) : (s.stackWrite pos off b p).mgmt = s.mgmt := rfl
@[simp] theorem State.stackWrite_cmtA (pos off : Nat) (b : List Byte) (p : Bool) : (s.stackWrite pos off b p).cmtA = s.cmtA := rfl
@[simp] theorem State.stackWrite_cmtB (pos off : Nat) (b : List Byte) (p : Bool) : (s.stackWrite pos off b p).cmtB = s.cmtB := rfl
@[simp] theorem State.stackWrite_cmtFresh (pos off : Nat) (b : List Byte) (p : Bool) : (s.stackWrite pos off b p).cmtFresh = s.cmtFresh := rfl
@[simp] theorem State.stackWrite_warmHeld (pos off : Nat) (b : List Byte) (p : Bool) : (s.stackWrite pos off b p).warmHeld = s.warmHeld := rfl
@[simp] theorem State.stackWrite_warmAt (pos off : Nat) (b : List Byte) (p : Bool) : (s.stackWrite pos off b p).warmAt = s.warmAt := rfl
@[simp] theorem State.stackWrite_coreTest (pos off : Nat) (b : List Byte) (p : Bool) : (s.stackWrite pos off b p).coreTest = s.coreTest := rfl
@[simp] theorem State.stackWrite_mbReq (pos off : Nat) (b : List Byte) (p : Bool) : (s.stackWrite pos off b p).mbReq = s.mbReq := rfl
@[simp] theorem State.stackWrite_spdmHist (pos off : Nat) (b : List Byte) (p : Bool) : (s.stackWrite pos off b p).spdmHist = s.spdmHist := rfl
@[simp] theorem State.stackWrite_ideSel (pos off : Nat) (b : List Byte) (p : Bool) : (s.stackWrite pos off b p).ideSel = s.ideSel := rfl
@[simp] theorem State.stackWrite_perstLow (pos off : Nat) (b : List Byte) (p : Bool) : (s.stackWrite pos off b p).perstLow = s.perstLow := rfl
@[simp] theorem State.stackWrite_coolant (pos off : Nat) (b : List Byte) (p : Bool) : (s.stackWrite pos off b p).coolant = s.coolant := rfl
@[simp] theorem State.stackWrite_lineReads (pos off : Nat) (b : List Byte) (p : Bool) : (s.stackWrite pos off b p).lineReads = s.lineReads := rfl

/-! ### Reading back -/

@[simp] theorem State.reg_setReg (a : Nat) (v : W32) : (s.setReg a v).reg a = v := by simp [State.reg, State.setReg]

theorem State.reg_setReg_other {a x : Nat} (v : W32) (h : x ≠ a) : (s.setReg a v).reg x = s.reg x := by
  simp [State.reg, State.setReg, look_put_other _ _ _ h]

@[simp] theorem State.rill_setRill (k : Nat) (r : Rill) : (s.setRill k r).rill k = r := by simp [State.rill, State.setRill]

theorem State.rill_setRill_other {k x : Nat} (r : Rill) (h : x ≠ k) : (s.setRill k r).rill x = s.rill x := by
  simp [State.rill, State.setRill, look_put_other _ _ _ h]

@[simp] theorem State.rill_modRill (k : Nat) (f : Rill → Rill) : (s.modRill k f).rill k = f (s.rill k) := by simp [State.modRill]

@[simp] theorem State.eng_setEng (c : Nat) (e : Engine) : (s.setEng c e).eng c = e := by simp [State.eng, State.setEng]

@[simp] theorem State.seqr_setSeqr (c : Nat) (q : Seqr) : (s.setSeqr c q).seqr c = q := by simp [State.seqr, State.setSeqr]

@[simp] theorem State.rcv_setRcv (c : Nat) (r : Rcv) : (s.setRcv c r).rcv c = r := by simp [State.rcv, State.setRcv]

@[simp] theorem State.link_setLink (l : Nat) (x : LinkSt) : (s.setLink l x).link l = x := by simp [State.link, State.setLink]

@[simp] theorem Rill.slot_setSlot (r : Rill) (n : Nat) (x : Slot) : (r.setSlot n x).slot n = x := by simp [Rill.slot, Rill.setSlot]

theorem Rill.slot_setSlot_other (r : Rill) {n m : Nat} (x : Slot) (h : m ≠ n) : (r.setSlot n x).slot m = r.slot m := by
  simp [Rill.slot, Rill.setSlot, look_put_other _ _ _ h]

@[simp] theorem Rill.queue_setQueue (r : Rill) (q : Nat) (x : Queue) : (r.setQueue q x).queue q = x := by simp [Rill.queue, Rill.setQueue]

@[simp] theorem Slot.greg_zero (x : Slot) : x.greg 0 = 0 := rfl

@[simp] theorem Slot.setG_zero (x : Slot) (v : W64) : x.setG 0 v = x := rfl

theorem Slot.greg_setG (x : Slot) {n : Nat} (v : W64) (h : n ≠ 0) : (x.setG n v).greg n = v := by simp [Slot.greg, Slot.setG, h]

theorem Slot.greg_setG_other (x : Slot) {n m : Nat} (v : W64) (h : m ≠ n) : (x.setG n v).greg m = x.greg m := by
  unfold Slot.greg Slot.setG
  split
  · rfl
  · split
    · rfl
    · exact look_put_other _ _ _ h

/-- Setting a key twice keeps the second value. -/
theorem put_put {α : Type} (m : AMap α) (x : Nat) (a b : α) : put (put m x a) x b = put m x b := by
  induction m with
  | nil => simp [put]
  | cons e t ih =>
    obtain ⟨k, v⟩ := e
    simp only [put]
    split
    · simp [put]
    · split
      · simp_all [put]
      · rename_i h1 h2
        simp [put, h1, h2, ih]

theorem State.setRill_setRill (k : Nat) (r r' : Rill) : (s.setRill k r).setRill k r' = s.setRill k r' := by simp [State.setRill, put_put]

end Sys2Proof.Machine
end

