-- ==== Sys2Proof/Laws/Issue.lean ====
section
/-! SUPPORT. What the pipeline of every rill instruction does, said once: a slot that may issue hands its issue to the meaning; the states
of Safety.lean in terms of the operations of the model. -/

namespace Sys2Proof.Machine

theorem onUnit_next {ok g : Bool} (s : State) (f : State → State) (h : ok = true) (k : g = true) : onUnit ok g s f = .next (f s) := by
  simp [onUnit, h, k]

theorem whenB_next {g : Bool} (s : State) (f : State → State) (k : g = true) : whenB g s f = .next (f s) := by simp [whenB, k]

theorem whenSome_next {α : Type} {o : Option α} {x : α} (s : State) (f : α → State → State) (k : o = some x) :
    whenSome o s f = .next (f x s) := by simp [whenSome, k]

theorem unitRow_ok {ok : Bool} {s : State} (o : Host.Outcome State Fault Refusal) (h : ok = true) : unitRow ok s o = o := by simp [unitRow, h]

theorem canIssue_parts {s : State} {a : SlotId} {op : Nat} (h : s.canIssue a op = true) :
    slotOk a = true ∧ s.eligible a op = true ∧ legalWord (s.wordNow a) = true
      ∧ (tregsOf (s.wordNow a)).any (fun t => (s.rill (slotK a)).owner t != a.slot) = false := by
  simp only [State.canIssue, Bool.and_eq_true] at h
  obtain ⟨⟨⟨h1, h2⟩, h3⟩, h4⟩ := h
  refine ⟨h1, h2, h3, ?_⟩
  simp only [List.any_eq_false, bne_iff_ne, ne_eq, Decidable.not_not]
  simpa [List.all_eq_true] using h4

/-- A slot that may issue hands its issue to the meaning, in the state in which the rill has issued. -/
theorem execIssue_canIssue {s : State} {a : SlotId} {op : Nat} (h : s.canIssue a op = true) (f : Issue → State → State) :
    execIssue op a s f = .next (f (s.issueNow a) (s.issued a)) := by
  obtain ⟨h1, h2, h3, h4⟩ := canIssue_parts h
  unfold execIssue
  rw [onUnit_next s _ h1 h2]
  simp only [State.wordNow, State.slotNow] at h3 h4
  simp only [h3, h4, Bool.not_true, Bool.false_eq_true, if_false]
  rfl

/-- An eligible slot whose word is no legal encoding faults with ILLEGAL before any effect. -/
theorem execIssue_illegal {s : State} {a : SlotId} {op : Nat} (h : slotOk a = true) (k : s.eligible a op = true)
    (w : legalWord (s.wordNow a) = false) (f : Issue → State → State) : execIssue op a s f = .next (s.traps a fIllegal) := by
  unfold execIssue
  rw [onUnit_next s _ h k]
  simp only [State.wordNow, State.slotNow] at w
  simp only [w, Bool.not_false, if_true]
  rfl

@[simp] theorem atCycle_store (s : State) (c : Nat) : (s.atCycle c).store = s.store := by unfold State.atCycle; split <;> rfl
@[simp] theorem atCycle_rills (s : State) (c : Nat) : (s.atCycle c).rills = s.rills := by unfold State.atCycle; split <;> rfl

/-- The issue changes no store and no pool. -/
@[simp] theorem issued_store (s : State) (a : SlotId) : (s.issued a).store = s.store := by
  simp only [State.issued, State.touchIssue, State.atCycle]; split <;> rfl
@[simp] theorem issued_storePoison (s : State) (a : SlotId) : (s.issued a).storePoison = s.storePoison := by
  simp only [State.issued, State.touchIssue, State.atCycle]; split <;> rfl
@[simp] theorem issued_pool (s : State) (a : SlotId) : (s.issued a).pool = s.pool := by
  simp only [State.issued, State.touchIssue, State.atCycle]; split <;> rfl
@[simp] theorem issued_poolPoison (s : State) (a : SlotId) : (s.issued a).poolPoison = s.poolPoison := by
  simp only [State.issued, State.touchIssue, State.atCycle]; split <;> rfl

@[simp] theorem issueNow_k (s : State) (a : SlotId) : (s.issueNow a).k = slotK a := rfl
@[simp] theorem issueNow_n (s : State) (a : SlotId) : (s.issueNow a).n = a.slot := rfl
@[simp] theorem issueNow_x (s : State) (a : SlotId) : (s.issueNow a).x = s.slotNow a := rfl
@[simp] theorem issueNow_w (s : State) (a : SlotId) : (s.issueNow a).w = s.wordNow a := rfl
@[simp] theorem issueNow_v1 (s : State) (a : SlotId) : (s.issueNow a).v1 = s.src1 a := rfl
@[simp] theorem issueNow_v2 (s : State) (a : SlotId) : (s.issueNow a).v2 = s.src2 a := rfl
@[simp] theorem issueNow_ea (s : State) (a : SlotId) : (s.issueNow a).ea = s.eaNow a := rfl
@[simp] theorem issueNow_target (s : State) (a : SlotId) : (s.issueNow a).target = s.targetNow a := rfl
@[simp] theorem issueNow_imm (s : State) (a : SlotId) : (s.issueNow a).imm = s.immNow a := rfl

/-- Setting the slot in a state in which it has issued: the rill keeps the rest. -/
theorem modSlot_eq (t : State) (a : SlotId) (f : Slot → Slot) :
    t.modSlot (slotK a) a.slot f = t.setRill (slotK a) ((t.rill (slotK a)).setSlot a.slot (f (t.slotNow a))) := rfl

/-- Retiring is what the statements call retiredIn, in any state in which the instruction has issued. -/
theorem retire_eq (s t : State) (a : SlotId) (f : Slot → Slot) (h : (t.slotNow a).pc = (s.slotNow a).pc) :
    t.retire (s.issueNow a) f = t.placedIn a ((s.slotNow a).pc + 8) id f := by
  simp only [State.retire, issueNow_k, issueNow_n, modSlot_eq, h]
  rfl

theorem targetFault_none {t : W64} (h : t.toNat < 0xC000) (k : t.toNat % 8 = 0) : targetFault t = none := by
  simp only [targetFault, Nat.not_le.mpr h, if_false, k, ne_eq, not_true_eq_false]

/-- A taken branch to a good target. -/
theorem branchTo_issued (s : State) (a : SlotId) {t : W64} (h : targetFault t = none) (f : Slot → Slot) :
    (s.issued a).branchTo (s.issueNow a) t f = s.placed a (t.truncate 32) id f := by
  simp only [State.branchTo, h, issueNow_k, issueNow_n]
  rfl

/-- A wait after the issue is the state that the statements call waiting. -/
theorem waitOn_issued (s : State) (a : SlotId) (wt : WaitFor) : (s.issued a).waitOn (s.issueNow a) wt = s.waits a wt := rfl

theorem faultAt_issued (s : State) (a : SlotId) (f : Nat) : (s.issued a).faultAt (s.issueNow a) f = s.traps a f := rfl

/-- What the issue does to the rill: the cycle is its last issue, and the slot's. -/
theorem issued_rill (s : State) (a : SlotId) : (s.issued a).rill (slotK a) =
    ({ s.rill (slotK a) with lastIssue := s.issueCycle a, wd := (s.issueCycle a, 0) }).setSlot a.slot
      { s.slotNow a with issuedAt := s.issueCycle a + 1 } := by
  simp only [State.issued, State.touchIssue, State.rill_modRill]
  simp only [State.slotNow, State.rill, Rill.slot, atCycle_rills]

/-- The issue leaves the slot's PC. -/
theorem issued_pc (s : State) (a : SlotId) : ((s.issued a).slotNow a).pc = (s.slotNow a).pc := by
  simp only [State.slotNow, State.issued, State.touchIssue, State.rill_modRill, Rill.slot_setSlot]
  simp only [State.rill, Rill.slot, atCycle_rills]

/-- Retiring after the issue is the state that the statements call retired. -/
theorem retire_issued (s : State) (a : SlotId) (f : Slot → Slot) : (s.issued a).retire (s.issueNow a) f = s.retired a f :=
  retire_eq s (s.issued a) a f (issued_pc s a)

/-- Retiring in any state reached after the issue. -/
theorem retire_in (s t : State) (a : SlotId) (f : Slot → Slot) : t.retire (s.issueNow a) f = t.retiredIn a f := rfl

/-- Retiring where the rill changed between, but for the slot. -/
theorem retire_modRill (s : State) (a : SlotId) (g : Rill → Rill) (f : Slot → Slot) (hs : ∀ r : Rill, (g r).slot a.slot = r.slot a.slot) :
    ((s.issued a).modRill (slotK a) g).retire (s.issueNow a) f = s.retiredWith a g f := by
  have e : ((s.issued a).modRill (slotK a) g).slotNow a = (s.issued a).slotNow a := by
    simp only [State.slotNow, State.rill_modRill, hs]
  rw [retire_in]
  unfold State.retiredIn State.retiredWith State.placed State.placedIn
  rw [e, issued_pc]
  simp only [State.modRill, State.rill_setRill, State.setRill_setRill, State.setRill_clk]
  rfl

/-- What a local access reads does not depend on the issue. -/
theorem localRead_issued (s : State) (a : SlotId) (l : Local) (n : Nat) : (s.issued a).localRead (slotK a) l n = s.localRead (slotK a) l n := by
  cases l <;> simp only [State.localRead, State.storePois, State.storeRead, State.poolPois, State.poolRead, issued_store, issued_storePoison, issued_pool, issued_poolPoison] <;> rfl

theorem execG_canIssue {s : State} {a : SlotId} {op : Nat} (h : s.canIssue a op = true) (v : Issue → W64) :
    execG op a s v = .next (s.gives a (v (s.issueNow a))) := by
  unfold execG
  rw [execIssue_canIssue h]
  simp only [retire_issued]
  rfl

end Sys2Proof.Machine
end

