-- ==== Sys2Proof/Laws/Kept.lean ====
section
/-! SUPPORT. Frames: `Kept m s t` says that `t` differs from `s` only where the mask `m` allows. Bit i of the mask, below 130, stands for
field number i of `State`, in the order of its declaration; bit 130 for the clocks' running forward, bit 131 for the memories' canonical form, bit 132 for the
list of messages sent (it only grows) and bit 133 for the count of free values (it only grows). A bit that is clear is a promise. -/

namespace Sys2Proof.Machine

/-- The clocks do not run back. -/
def clockFwd (s t : State) : Prop := s.clk.now ≤ t.clk.now ∧ s.clk.cycle ≤ t.clk.cycle
/-- The memories' canonical form is kept. -/
def memKept (s t : State) : Prop := s.memOk → t.memOk
/-- Messages that were sent stay sent. -/
def outKept (s t : State) : Prop := s.out <+: t.out
/-- No free value is drawn twice. -/
def drawKept (s t : State) : Prop := s.freeCtr ≤ t.freeCtr
/-- A field has its value. -/
def eqOn {α : Type} (f : State → α) (s t : State) : Prop := f t = f s

/-- What a frame can promise, in the order of the mask's bits. -/
def promises : List (State → State → Prop) := [
  eqOn State.pending, eqOn State.clk, eqOn State.regs, eqOn State.staged, eqOn State.captured, eqOn State.slotMem,
  eqOn State.store, eqOn State.pool, eqOn State.stack, eqOn State.host, eqOn State.storePoison, eqOn State.poolPoison,
  eqOn State.stackPoison, eqOn State.rills, eqOn State.net, eqOn State.nextXid, eqOn State.cairn, eqOn State.ce,
  eqOn State.msix, eqOn State.msixPend, eqOn State.lastEvtMsi, eqOn State.out, eqOn State.freeCtr, eqOn State.msixFnMask,
  eqOn State.gaugePend, eqOn State.gaugeDue, eqOn State.memReqs, eqOn State.tlb, eqOn State.walkCache, eqOn State.hws,
  eqOn State.grads, eqOn State.hwWait, eqOn State.hwMan, eqOn State.hwBinding, eqOn State.hwKeys, eqOn State.keyReqs,
  eqOn State.portLeft, eqOn State.frontGo, eqOn State.seqrs, eqOn State.postSeq, eqOn State.rcvs, eqOn State.failing,
  eqOn State.ezs, eqOn State.links, eqOn State.rx, eqOn State.early, eqOn State.keys, eqOn State.bcasts,
  eqOn State.groupInvalid, eqOn State.adderFails, eqOn State.wireHold, eqOn State.starved, eqOn State.stackErrs, eqOn State.shapes,
  eqOn State.wearNext, eqOn State.wearDue, eqOn State.wearSegs, eqOn State.inputStage, eqOn State.stageAt, eqOn State.vinMv,
  eqOn State.diodeOpen, eqOn State.strapPins, eqOn State.weirS, eqOn State.weirSet, eqOn State.weirUp, eqOn State.weirDown,
  eqOn State.weirRest, eqOn State.weirBelow, eqOn State.weirPend, eqOn State.weirAt, eqOn State.weirNj, eqOn State.ballNj,
  eqOn State.ptNj, eqOn State.leveeStart, eqOn State.pitchWait, eqOn State.pitchRun, eqOn State.pitchHeld, eqOn State.railTest,
  eqOn State.unpowered, eqOn State.hotPitches, eqOn State.isoKept, eqOn State.isoPend, eqOn State.startPend, eqOn State.cmtDue,
  eqOn State.testing, eqOn State.wardenGone, eqOn State.staleWait, eqOn State.fwUp, eqOn State.weirAct, eqOn State.weirDrawn,
  eqOn State.weirCut, eqOn State.weirSkip, eqOn State.weirFrom, eqOn State.tmFirst, eqOn State.tmIn, eqOn State.tmOut,
  eqOn State.tmLost, eqOn State.holdAt, eqOn State.ppsLast, eqOn State.ppsMark, eqOn State.ppsSet, eqOn State.bgTable,
  eqOn State.bgNext, eqOn State.slotAt, eqOn State.fwFlash, eqOn State.fwStage, eqOn State.fwFail, eqOn State.boot,
  eqOn State.running, eqOn State.restarts, eqOn State.fetching, eqOn State.fetchAt, eqOn State.wipedN, eqOn State.lcPend,
  eqOn State.ptRecord, eqOn State.ownerChain, eqOn State.identity, eqOn State.mgmt, eqOn State.cmtA, eqOn State.cmtB,
  eqOn State.cmtFresh, eqOn State.warmHeld, eqOn State.warmAt, eqOn State.coreTest, eqOn State.mbReq, eqOn State.spdmHist,
  eqOn State.ideSel, eqOn State.perstLow, eqOn State.coolant, eqOn State.lineReads, clockFwd, memKept,
  outKept, drawKept]

/-- A relation that a chain of operations can carry. -/
structure Carried (R : State → State → Prop) : Prop where
  here : ∀ s, R s s
  chain : ∀ s t u, R s t → R t u → R s u

theorem eqOn_carried {α : Type} (f : State → α) : Carried (eqOn f) := ⟨fun _ => rfl, fun _ _ _ h k => Eq.trans k h⟩
theorem clockFwd_carried : Carried clockFwd :=
  ⟨fun _ => ⟨Nat.le_refl _, Nat.le_refl _⟩, fun _ _ _ h k => ⟨Nat.le_trans h.1 k.1, Nat.le_trans h.2 k.2⟩⟩
theorem memKept_carried : Carried memKept := ⟨fun _ h => h, fun _ _ _ h k w => k (h w)⟩
theorem outKept_carried : Carried outKept := ⟨fun _ => List.prefix_refl _, fun _ _ _ h k => h.trans k⟩
theorem drawKept_carried : Carried drawKept := ⟨fun _ => Nat.le_refl _, fun _ _ _ h k => Nat.le_trans h k⟩

theorem promises_carried : ∀ R ∈ promises, Carried R := by
  simp only [promises, List.forall_mem_cons, eqOn_carried, clockFwd_carried, memKept_carried, outKept_carried, drawKept_carried, true_and]
  intro R h
  cases h

/-- The promises about two states. -/
def rels (s t : State) : List Prop := promises.map (fun R => R s t)

/-- `t` keeps every promise about `s` that the mask does not lift. -/
structure Kept (m : Nat) (s t : State) : Prop where
  on : ∀ i p, (rels s t)[i]? = some p → m.testBit i = false → p

/-- The same of the state, if any, of an optional result. -/
structure KeptO (m : Nat) (s : State) (o : Option State) : Prop where
  on : ∀ t, o = some t → Kept m s t

/-- The same of the next state, if any, that a command answers. -/
structure KeptR (m : Nat) (s : State) (o : Host.Outcome State Fault Refusal) : Prop where
  on : ∀ t, o = .next t → Kept m s t

theorem Kept.here {m : Nat} {s : State} : Kept m s s := by
  constructor
  intro i p hp _
  obtain ⟨R, hR, rfl⟩ := by simpa only [rels, List.getElem?_map, Option.map_eq_some_iff] using hp
  exact (promises_carried R (List.mem_of_getElem? hR)).here s

/-- Frames chain. -/
theorem Kept.chain {m : Nat} {s t u : State} (h : Kept m s t) (k : Kept m t u) : Kept m s u := by
  constructor
  intro i p hp hm
  obtain ⟨R, hR, rfl⟩ := by simpa only [rels, List.getElem?_map, Option.map_eq_some_iff] using hp
  have at' : ∀ a b, (rels a b)[i]? = some (R a b) := by
    intro a b
    simp only [rels, List.getElem?_map, hR, Option.map_some]
  exact (promises_carried R (List.mem_of_getElem? hR)).chain s t u (h.on i _ (at' s t) hm) (k.on i _ (at' t u) hm)

/-- A bit that a smaller mask lifts, a larger one lifts. -/
theorem bit_sub {g m i : Nat} (hm : g ||| m = m) (h : m.testBit i = false) : g.testBit i = false := by
  rw [← hm, Nat.testBit_or, Bool.or_eq_false_iff] at h
  exact h.1

/-- Masks that contain one another chain. -/
theorem sub_chain {a b c : Nat} (h : a ||| b = b) (k : b ||| c = c) : a ||| c = c := by
  rw [← k, ← Nat.or_assoc, h]

/-- A frame holds under a larger mask. -/
theorem Kept.grow {g m : Nat} {s t : State} (hm : g ||| m = m) (h : Kept g s t) : Kept m s t :=
  ⟨fun i p hp hi => h.on i p hp (bit_sub hm hi)⟩

/-- One operation after others. -/
theorem Kept.step {g m : Nat} {s0 s t : State} (k : Kept g s t) (hm : g ||| m = m) (h : Kept m s0 s) : Kept m s0 t :=
  h.chain (k.grow hm)

theorem KeptO.step {g m : Nat} {s0 s : State} {o : Option State} (k : KeptO g s o) (hm : g ||| m = m) (h : Kept m s0 s) : KeptO m s0 o :=
  ⟨fun t ht => Kept.step (k.on t ht) hm h⟩

theorem KeptR.step {g m : Nat} {s0 s : State} {o : Host.Outcome State Fault Refusal} (k : KeptR g s o)
    (hm : g ||| m = m) (h : Kept m s0 s) : KeptR m s0 o := ⟨fun t ht => Kept.step (k.on t ht) hm h⟩

/-- What a clear bit below %d promises: the field has its value. -/
theorem Kept.get {m : Nat} {s t : State} {p : Prop} (i : Nat) (h : Kept m s t) (hp : (rels s t)[i]? = some p := by rfl)
    (hm : m.testBit i = false := by rfl) : p := h.on i p hp hm

/-- One field set: its bit is lifted, every other promise stands. -/
theorem Kept.upd {m : Nat} {s0 s t : State} {q : Prop} (k : Nat) (hs : rels s0 t = (rels s0 s).set k q) (hm : 2 ^ k ||| m = m)
    (h : Kept m s0 s) : Kept m s0 t := by
  constructor
  intro i p hp hi
  have hk : k ≠ i := by
    rintro rfl
    have := bit_sub hm hi
    rw [Nat.testBit_two_pow_self] at this
    cases this
  rw [hs, List.getElem?_set_ne hk] at hp
  exact h.on i p hp hi

/-- One field set whose change keeps a promise of its own. -/
theorem Kept.upd2 {m : Nat} {s0 s t : State} {q r : Prop} (k j : Nat) (hs : rels s0 t = ((rels s0 s).set k q).set j r) (hm : 2 ^ k ||| m = m)
    (hr : Kept m s0 s → m.testBit j = false → r) (h : Kept m s0 s) : Kept m s0 t := by
  constructor
  intro i p hp hi
  by_cases hj : j = i
  · subst hj
    rw [hs, List.getElem?_set] at hp
    simp only [if_pos] at hp
    split at hp
    · cases hp
      exact hr h hi
    · cases hp
  · rw [hs, List.getElem?_set_ne hj] at hp
    have hk : k ≠ i := by
      rintro rfl
      have := bit_sub hm hi
      rw [Nat.testBit_two_pow_self] at this
      cases this
    rw [List.getElem?_set_ne hk] at hp
    exact h.on i p hp hi

/-- A frame shown promise by promise. -/
theorem Kept.ofAll {m n : Nat} {s t : State} (hn : (rels s t).length ≤ n)
    (h : ∀ i, i < n → m.testBit i = false → (rels s t)[i]?.getD True) : Kept m s t := by
  constructor
  intro i p hp hm
  have hi : i < n := by
    have := (List.getElem?_eq_some_iff.1 hp).1
    omega
  have := h i hi hm
  rw [hp] at this
  exact this

/-- Several promises replaced. -/
def puts (l : List Prop) : List Nat → List Prop → List Prop
  | k :: t, q :: u => puts (l.set k q) t u
  | _, _ => l

theorem puts_other {i : Nat} (ks : List Nat) : ∀ (qs l : List Prop), (∀ k ∈ ks, k ≠ i) → (puts l ks qs)[i]? = l[i]? := by
  induction ks with
  | nil => intro qs l _; cases qs <;> rfl
  | cons e t ih =>
    intro qs l h
    cases qs with
    | nil => rfl
    | cons q u => rw [puts, ih _ _ (fun x hx => h x (List.mem_cons_of_mem _ hx)), List.getElem?_set_ne (h e (List.mem_cons_self ..))]

/-- Several fields set at once, of which one may be a memory, the messages or the count of free values. -/
theorem Kept.upds {m : Nat} {s0 s t : State} (g : Nat) (ks : List Nat) (qs : List Prop)
    (hs : rels s0 t = puts (rels s0 s) ks qs) (hk : ks.all (fun e => g.testBit e || decide (130 ≤ e)) = true) (hm : g ||| m = m)
    (hc : clockFwd s t) (hw : memKept s t) (ho : outKept s t) (hd : drawKept s t) (h : Kept m s0 s) : Kept m s0 t := by
  constructor
  intro i p hp hi
  have four : ∀ (R : State → State → Prop), Carried R → R s t → (∀ a b, (rels a b)[i]? = some (R a b)) → p := by
    intro R hR hst hat
    have e : p = R s0 t := Option.some.inj (hp.symm.trans (hat s0 t))
    rw [e]
    exact hR.chain s0 s t (h.on i _ (hat s0 s) hi) hst
  by_cases h0 : i = 130
  · subst h0; exact four _ clockFwd_carried hc (fun _ _ => rfl)
  by_cases h1 : i = 131
  · subst h1; exact four _ memKept_carried hw (fun _ _ => rfl)
  by_cases h2 : i = 132
  · subst h2; exact four _ outKept_carried ho (fun _ _ => rfl)
  by_cases h3 : i = 133
  · subst h3; exact four _ drawKept_carried hd (fun _ _ => rfl)
  have hi' : i < 130 := by
    have := (List.getElem?_eq_some_iff.1 hp).1
    have hl : (rels s0 t).length = 134 := rfl
    omega
  rw [hs, puts_other] at hp
  · exact h.on i p hp hi
  · rintro e he rfl
    have := List.all_eq_true.1 hk e he
    rw [bit_sub hm hi, Bool.false_or, decide_eq_true_eq] at this
    omega

/-! ### Branches, loops, pairs and optional results -/

theorem Kept.ite {m : Nat} {s0 a b : State} {c : Prop} [Decidable c] (ha : Kept m s0 a) (hb : Kept m s0 b) : Kept m s0 (if c then a else b) := by
  split <;> assumption

theorem Kept.ite2 {α : Type} {m : Nat} {s0 : State} {a b : α × State} {c : Prop} [Decidable c] (ha : Kept m s0 a.2) (hb : Kept m s0 b.2) :
    Kept m s0 (if c then a else b).2 := by
  split <;> assumption

theorem Kept.ite1 {α : Type} {m : Nat} {s0 : State} {a b : State × α} {c : Prop} [Decidable c] (ha : Kept m s0 a.1) (hb : Kept m s0 b.1) :
    Kept m s0 (if c then a else b).1 := by
  split <;> assumption

theorem KeptO.ite {m : Nat} {s0 : State} {a b : Option State} {c : Prop} [Decidable c] (ha : KeptO m s0 a) (hb : KeptO m s0 b) :
    KeptO m s0 (if c then a else b) := by
  split <;> assumption

theorem KeptR.ite {m : Nat} {s0 : State} {a b : Host.Outcome State Fault Refusal} {c : Prop} [Decidable c] (ha : KeptR m s0 a)
    (hb : KeptR m s0 b) : KeptR m s0 (if c then a else b) := by
  split <;> assumption

theorem Kept.foldl {α : Type} {m : Nat} {s0 s : State} {f : State → α → State} (l : List α)
    (hf : ∀ x, Kept m s0 x → ∀ a, Kept m s0 (f x a)) (h : Kept m s0 s) : Kept m s0 (l.foldl f s) := by
  induction l generalizing s with
  | nil => exact h
  | cons a t ih => exact ih (hf s h a)

theorem Kept.foldl2 {α β : Type} {m : Nat} {s0 : State} {p : β × State} {f : β × State → α → β × State} (l : List α)
    (hf : ∀ x, Kept m s0 x.2 → ∀ a, Kept m s0 (f x a).2) (h : Kept m s0 p.2) : Kept m s0 (l.foldl f p).2 := by
  induction l generalizing p with
  | nil => exact h
  | cons a t ih => exact ih (hf p h a)

theorem Kept.foldl1 {α β : Type} {m : Nat} {s0 : State} {p : State × β} {f : State × β → α → State × β} (l : List α)
    (hf : ∀ x, Kept m s0 x.1 → ∀ a, Kept m s0 (f x a).1) (h : Kept m s0 p.1) : Kept m s0 (l.foldl f p).1 := by
  induction l generalizing p with
  | nil => exact h
  | cons a t ih => exact ih (hf p h a)

theorem Kept.eq2 {α : Type} {m : Nat} {s0 s : State} {p : α × State} {a : α} (e : p = (a, s)) (h : Kept m s0 p.2) : Kept m s0 s := by
  subst e
  exact h

theorem Kept.eq1 {α : Type} {m : Nat} {s0 s : State} {p : State × α} {a : α} (e : p = (s, a)) (h : Kept m s0 p.1) : Kept m s0 s := by
  subst e
  exact h

theorem Kept.pair2 {α : Type} {m : Nat} {s0 s : State} {a : α} (h : Kept m s0 s) : Kept m s0 (a, s).2 := h
theorem Kept.pair1 {α : Type} {m : Nat} {s0 s : State} {a : α} (h : Kept m s0 s) : Kept m s0 (s, a).1 := h

theorem KeptO.some {m : Nat} {s0 s : State} (h : Kept m s0 s) : KeptO m s0 (some s) := by
  constructor
  intro t ht
  cases ht
  exact h

theorem KeptO.none {m : Nat} {s0 : State} : KeptO m s0 none := by
  constructor
  intro t ht
  cases ht

theorem KeptO.getD {m : Nat} {s0 s : State} {o : Option State} (ho : KeptO m s0 o) (h : Kept m s0 s) : Kept m s0 (o.getD s) := by
  cases o with
  | none => exact h
  | some t => exact ho.on t rfl

theorem KeptR.next {m : Nat} {s0 s : State} (h : Kept m s0 s) : KeptR m s0 (.next s) := by
  constructor
  intro t ht
  cases ht
  exact h

theorem KeptR.fault {m : Nat} {s0 : State} {r : Fault} : KeptR m s0 (.fault r) := by
  constructor
  intro t ht
  cases ht

/-! ### Fields set -/

theorem Kept.upd_pending {m : Nat} {s0 s : State} {v_pending} (hm : 1 ||| m = m) (h : Kept m s0 s) :
    Kept m s0 { s with pending := v_pending } := Kept.upd (s := s) 0 rfl hm h
theorem Kept.upd_regs {m : Nat} {s0 s : State} {v_regs} (hm : 4 ||| m = m) (h : Kept m s0 s) :
    Kept m s0 { s with regs := v_regs } := Kept.upd (s := s) 2 rfl hm h
theorem Kept.upd_staged {m : Nat} {s0 s : State} {v_staged} (hm : 8 ||| m = m) (h : Kept m s0 s) :
    Kept m s0 { s with staged := v_staged } := Kept.upd (s := s) 3 rfl hm h
theorem Kept.upd_captured {m : Nat} {s0 s : State} {v_captured} (hm : 16 ||| m = m) (h : Kept m s0 s) :
    Kept m s0 { s with captured := v_captured } := Kept.upd (s := s) 4 rfl hm h
theorem Kept.upd_slotMem {m : Nat} {s0 s : State} {v_slotMem} (hm : 32 ||| m = m) (h_slotMem : Mem.wf s.slotMem = true → Mem.wf v_slotMem = true) (h : Kept m s0 s) :
    Kept m s0 { s with slotMem := v_slotMem } :=
  Kept.upds (s := s) 32 [5, 131] [_, _] rfl rfl hm ⟨Nat.le_refl _, Nat.le_refl _⟩ (fun w => ⟨h_slotMem w.1, w.2.1, w.2.2.1, w.2.2.2.1, w.2.2.2.2⟩) (List.prefix_refl _) (Nat.le_refl _) h
theorem Kept.upd_store {m : Nat} {s0 s : State} {v_store} (hm : 64 ||| m = m) (h_store : Mem.wf s.store = true → Mem.wf v_store = true) (h : Kept m s0 s) :
    Kept m s0 { s with store := v_store } :=
  Kept.upds (s := s) 64 [6, 131] [_, _] rfl rfl hm ⟨Nat.le_refl _, Nat.le_refl _⟩ (fun w => ⟨w.1, h_store w.2.1, w.2.2.1, w.2.2.2.1, w.2.2.2.2⟩) (List.prefix_refl _) (Nat.le_refl _) h
theorem Kept.upd_pool {m : Nat} {s0 s : State} {v_pool} (hm : 128 ||| m = m) (h_pool : Mem.wf s.pool = true → Mem.wf v_pool = true) (h : Kept m s0 s) :
    Kept m s0 { s with pool := v_pool } :=
  Kept.upds (s := s) 128 [7, 131] [_, _] rfl rfl hm ⟨Nat.le_refl _, Nat.le_refl _⟩ (fun w => ⟨w.1, w.2.1, h_pool w.2.2.1, w.2.2.2.1, w.2.2.2.2⟩) (List.prefix_refl _) (Nat.le_refl _) h
theorem Kept.upd_stack {m : Nat} {s0 s : State} {v_stack} (hm : 256 ||| m = m) (h_stack : Mem.wf s.stack = true → Mem.wf v_stack = true) (h : Kept m s0 s) :
    Kept m s0 { s with stack := v_stack } :=
  Kept.upds (s := s) 256 [8, 131] [_, _] rfl rfl hm ⟨Nat.le_refl _, Nat.le_refl _⟩ (fun w => ⟨w.1, w.2.1, w.2.2.1, h_stack w.2.2.2.1, w.2.2.2.2⟩) (List.prefix_refl _) (Nat.le_refl _) h
theorem Kept.upd_host {m : Nat} {s0 s : State} {v_host} (hm : 512 ||| m = m) (h_host : Mem.wf s.host = true → Mem.wf v_host = true) (h : Kept m s0 s) :
    Kept m s0 { s with host := v_host } :=
  Kept.upds (s := s) 512 [9, 131] [_, _] rfl rfl hm ⟨Nat.le_refl _, Nat.le_refl _⟩ (fun w => ⟨w.1, w.2.1, w.2.2.1, w.2.2.2.1, h_host w.2.2.2.2⟩) (List.prefix_refl _) (Nat.le_refl _) h
theorem Kept.upd_storePoison {m : Nat} {s0 s : State} {v_storePoison} (hm : 1024 ||| m = m) (h : Kept m s0 s) :
    Kept m s0 { s with storePoison := v_storePoison } := Kept.upd (s := s) 10 rfl hm h
theorem Kept.upd_poolPoison {m : Nat} {s0 s : State} {v_poolPoison} (hm : 2048 ||| m = m) (h : Kept m s0 s) :
    Kept m s0 { s with poolPoison := v_poolPoison } := Kept.upd (s := s) 11 rfl hm h
theorem Kept.upd_stackPoison {m : Nat} {s0 s : State} {v_stackPoison} (hm : 4096 ||| m = m) (h : Kept m s0 s) :
    Kept m s0 { s with stackPoison := v_stackPoison } := Kept.upd (s := s) 12 rfl hm h
theorem Kept.upd_rills {m : Nat} {s0 s : State} {v_rills} (hm : 8192 ||| m = m) (h : Kept m s0 s) :
    Kept m s0 { s with rills := v_rills } := Kept.upd (s := s) 13 rfl hm h
theorem Kept.upd_net {m : Nat} {s0 s : State} {v_net} (hm : 16384 ||| m = m) (h : Kept m s0 s) :
    Kept m s0 { s with net := v_net } := Kept.upd (s := s) 14 rfl hm h
theorem Kept.upd_nextXid {m : Nat} {s0 s : State} {v_nextXid} (hm : 32768 ||| m = m) (h : Kept m s0 s) :
    Kept m s0 { s with nextXid := v_nextXid } := Kept.upd (s := s) 15 rfl hm h
theorem Kept.upd_cairn {m : Nat} {s0 s : State} {v_cairn} (hm : 65536 ||| m = m) (h : Kept m s0 s) :
    Kept m s0 { s with cairn := v_cairn } := Kept.upd (s := s) 16 rfl hm h
theorem Kept.upd_ce {m : Nat} {s0 s : State} {v_ce} (hm : 131072 ||| m = m) (h : Kept m s0 s) :
    Kept m s0 { s with ce := v_ce } := Kept.upd (s := s) 17 rfl hm h
theorem Kept.upd_msix {m : Nat} {s0 s : State} {v_msix} (hm : 262144 ||| m = m) (h : Kept m s0 s) :
    Kept m s0 { s with msix := v_msix } := Kept.upd (s := s) 18 rfl hm h
theorem Kept.upd_msixPend {m : Nat} {s0 s : State} {v_msixPend} (hm : 524288 ||| m = m) (h : Kept m s0 s) :
    Kept m s0 { s with msixPend := v_msixPend } := Kept.upd (s := s) 19 rfl hm h
theorem Kept.upd_lastEvtMsi {m : Nat} {s0 s : State} {v_lastEvtMsi} (hm : 1048576 ||| m = m) (h : Kept m s0 s) :
    Kept m s0 { s with lastEvtMsi := v_lastEvtMsi } := Kept.upd (s := s) 20 rfl hm h
theorem Kept.upd_out {m : Nat} {s0 s : State} {v_out} (hm : 2097152 ||| m = m) (h_out : s.out <+: v_out) (h : Kept m s0 s) :
    Kept m s0 { s with out := v_out } :=
  Kept.upds (s := s) 2097152 [21, 132] [_, _] rfl rfl hm ⟨Nat.le_refl _, Nat.le_refl _⟩ id h_out (Nat.le_refl _) h
theorem Kept.upd_freeCtr {m : Nat} {s0 s : State} {v_freeCtr} (hm : 4194304 ||| m = m) (h_freeCtr : s.freeCtr ≤ v_freeCtr) (h : Kept m s0 s) :
    Kept m s0 { s with freeCtr := v_freeCtr } :=
  Kept.upds (s := s) 4194304 [22, 133] [_, _] rfl rfl hm ⟨Nat.le_refl _, Nat.le_refl _⟩ id (List.prefix_refl _) h_freeCtr h
theorem Kept.upd_msixFnMask {m : Nat} {s0 s : State} {v_msixFnMask} (hm : 8388608 ||| m = m) (h : Kept m s0 s) :
    Kept m s0 { s with msixFnMask := v_msixFnMask } := Kept.upd (s := s) 23 rfl hm h
theorem Kept.upd_gaugePend {m : Nat} {s0 s : State} {v_gaugePend} (hm : 16777216 ||| m = m) (h : Kept m s0 s) :
    Kept m s0 { s with gaugePend := v_gaugePend } := Kept.upd (s := s) 24 rfl hm h
theorem Kept.upd_gaugeDue {m : Nat} {s0 s : State} {v_gaugeDue} (hm : 33554432 ||| m = m) (h : Kept m s0 s) :
    Kept m s0 { s with gaugeDue := v_gaugeDue } := Kept.upd (s := s) 25 rfl hm h
theorem Kept.upd_memReqs {m : Nat} {s0 s : State} {v_memReqs} (hm : 67108864 ||| m = m) (h : Kept m s0 s) :
    Kept m s0 { s with memReqs := v_memReqs } := Kept.upd (s := s) 26 rfl hm h
theorem Kept.upd_tlb {m : Nat} {s0 s : State} {v_tlb} (hm : 134217728 ||| m = m) (h : Kept m s0 s) :
    Kept m s0 { s with tlb := v_tlb } := Kept.upd (s := s) 27 rfl hm h
theorem Kept.upd_walkCache {m : Nat} {s0 s : State} {v_walkCache} (hm : 268435456 ||| m = m) (h : Kept m s0 s) :
    Kept m s0 { s with walkCache := v_walkCache } := Kept.upd (s := s) 28 rfl hm h
theorem Kept.upd_hws {m : Nat} {s0 s : State} {v_hws} (hm : 536870912 ||| m = m) (h : Kept m s0 s) :
    Kept m s0 { s with hws := v_hws } := Kept.upd (s := s) 29 rfl hm h
theorem Kept.upd_grads {m : Nat} {s0 s : State} {v_grads} (hm : 1073741824 ||| m = m) (h : Kept m s0 s) :
    Kept m s0 { s with grads := v_grads } := Kept.upd (s := s) 30 rfl hm h
theorem Kept.upd_hwWait {m : Nat} {s0 s : State} {v_hwWait} (hm : 2147483648 ||| m = m) (h : Kept m s0 s) :
    Kept m s0 { s with hwWait := v_hwWait } := Kept.upd (s := s) 31 rfl hm h
theorem Kept.upd_hwMan {m : Nat} {s0 s : State} {v_hwMan} (hm : 4294967296 ||| m = m) (h : Kept m s0 s) :
    Kept m s0 { s with hwMan := v_hwMan } := Kept.upd (s := s) 32 rfl hm h
theorem Kept.upd_hwBinding {m : Nat} {s0 s : State} {v_hwBinding} (hm : 8589934592 ||| m = m) (h : Kept m s0 s) :
    Kept m s0 { s with hwBinding := v_hwBinding } := Kept.upd (s := s) 33 rfl hm h
theorem Kept.upd_hwKeys {m : Nat} {s0 s : State} {v_hwKeys} (hm : 17179869184 ||| m = m) (h : Kept m s0 s) :
    Kept m s0 { s with hwKeys := v_hwKeys } := Kept.upd (s := s) 34 rfl hm h
theorem Kept.upd_keyReqs {m : Nat} {s0 s : State} {v_keyReqs} (hm : 34359738368 ||| m = m) (h : Kept m s0 s) :
    Kept m s0 { s with keyReqs := v_keyReqs } := Kept.upd (s := s) 35 rfl hm h
theorem Kept.upd_portLeft {m : Nat} {s0 s : State} {v_portLeft} (hm : 68719476736 ||| m = m) (h : Kept m s0 s) :
    Kept m s0 { s with portLeft := v_portLeft } := Kept.upd (s := s) 36 rfl hm h
theorem Kept.upd_frontGo {m : Nat} {s0 s : State} {v_frontGo} (hm : 137438953472 ||| m = m) (h : Kept m s0 s) :
    Kept m s0 { s with frontGo := v_frontGo } := Kept.upd (s := s) 37 rfl hm h
theorem Kept.upd_seqrs {m : Nat} {s0 s : State} {v_seqrs} (hm : 274877906944 ||| m = m) (h : Kept m s0 s) :
    Kept m s0 { s with seqrs := v_seqrs } := Kept.upd (s := s) 38 rfl hm h
theorem Kept.upd_postSeq {m : Nat} {s0 s : State} {v_postSeq} (hm : 549755813888 ||| m = m) (h : Kept m s0 s) :
    Kept m s0 { s with postSeq := v_postSeq } := Kept.upd (s := s) 39 rfl hm h
theorem Kept.upd_rcvs {m : Nat} {s0 s : State} {v_rcvs} (hm : 1099511627776 ||| m = m) (h : Kept m s0 s) :
    Kept m s0 { s with rcvs := v_rcvs } := Kept.upd (s := s) 40 rfl hm h
theorem Kept.upd_failing {m : Nat} {s0 s : State} {v_failing} (hm : 2199023255552 ||| m = m) (h : Kept m s0 s) :
    Kept m s0 { s with failing := v_failing } := Kept.upd (s := s) 41 rfl hm h
theorem Kept.upd_ezs {m : Nat} {s0 s : State} {v_ezs} (hm : 4398046511104 ||| m = m) (h : Kept m s0 s) :
    Kept m s0 { s with ezs := v_ezs } := Kept.upd (s := s) 42 rfl hm h
theorem Kept.upd_links {m : Nat} {s0 s : State} {v_links} (hm : 8796093022208 ||| m = m) (h : Kept m s0 s) :
    Kept m s0 { s with links := v_links } := Kept.upd (s := s) 43 rfl hm h
theorem Kept.upd_rx {m : Nat} {s0 s : State} {v_rx} (hm : 17592186044416 ||| m = m) (h : Kept m s0 s) :
    Kept m s0 { s with rx := v_rx } := Kept.upd (s := s) 44 rfl hm h
theorem Kept.upd_early {m : Nat} {s0 s : State} {v_early} (hm : 35184372088832 ||| m = m) (h : Kept m s0 s) :
    Kept m s0 { s with early := v_early } := Kept.upd (s := s) 45 rfl hm h
theorem Kept.upd_keys {m : Nat} {s0 s : State} {v_keys} (hm : 70368744177664 ||| m = m) (h : Kept m s0 s) :
    Kept m s0 { s with keys := v_keys } := Kept.upd (s := s) 46 rfl hm h
theorem Kept.upd_bcasts {m : Nat} {s0 s : State} {v_bcasts} (hm : 140737488355328 ||| m = m) (h : Kept m s0 s) :
    Kept m s0 { s with bcasts := v_bcasts } := Kept.upd (s := s) 47 rfl hm h
theorem Kept.upd_groupInvalid {m : Nat} {s0 s : State} {v_groupInvalid} (hm : 281474976710656 ||| m = m) (h : Kept m s0 s) :
    Kept m s0 { s with groupInvalid := v_groupInvalid } := Kept.upd (s := s) 48 rfl hm h
theorem Kept.upd_adderFails {m : Nat} {s0 s : State} {v_adderFails} (hm : 562949953421312 ||| m = m) (h : Kept m s0 s) :
    Kept m s0 { s with adderFails := v_adderFails } := Kept.upd (s := s) 49 rfl hm h
theorem Kept.upd_wireHold {m : Nat} {s0 s : State} {v_wireHold} (hm : 1125899906842624 ||| m = m) (h : Kept m s0 s) :
    Kept m s0 { s with wireHold := v_wireHold } := Kept.upd (s := s) 50 rfl hm h
theorem Kept.upd_starved {m : Nat} {s0 s : State} {v_starved} (hm : 2251799813685248 ||| m = m) (h : Kept m s0 s) :
    Kept m s0 { s with starved := v_starved } := Kept.upd (s := s) 51 rfl hm h
theorem Kept.upd_stackErrs {m : Nat} {s0 s : State} {v_stackErrs} (hm : 4503599627370496 ||| m = m) (h : Kept m s0 s) :
    Kept m s0 { s with stackErrs := v_stackErrs } := Kept.upd (s := s) 52 rfl hm h
theorem Kept.upd_shapes {m : Nat} {s0 s : State} {v_shapes} (hm : 9007199254740992 ||| m = m) (h : Kept m s0 s) :
    Kept m s0 { s with shapes := v_shapes } := Kept.upd (s := s) 53 rfl hm h
theorem Kept.upd_wearNext {m : Nat} {s0 s : State} {v_wearNext} (hm : 18014398509481984 ||| m = m) (h : Kept m s0 s) :
    Kept m s0 { s with wearNext := v_wearNext } := Kept.upd (s := s) 54 rfl hm h
theorem Kept.upd_wearDue {m : Nat} {s0 s : State} {v_wearDue} (hm : 36028797018963968 ||| m = m) (h : Kept m s0 s) :
    Kept m s0 { s with wearDue := v_wearDue } := Kept.upd (s := s) 55 rfl hm h
theorem Kept.upd_wearSegs {m : Nat} {s0 s : State} {v_wearSegs} (hm : 72057594037927936 ||| m = m) (h : Kept m s0 s) :
    Kept m s0 { s with wearSegs := v_wearSegs } := Kept.upd (s := s) 56 rfl hm h
theorem Kept.upd_inputStage {m : Nat} {s0 s : State} {v_inputStage} (hm : 144115188075855872 ||| m = m) (h : Kept m s0 s) :
    Kept m s0 { s with inputStage := v_inputStage } := Kept.upd (s := s) 57 rfl hm h
theorem Kept.upd_stageAt {m : Nat} {s0 s : State} {v_stageAt} (hm : 288230376151711744 ||| m = m) (h : Kept m s0 s) :
    Kept m s0 { s with stageAt := v_stageAt } := Kept.upd (s := s) 58 rfl hm h
theorem Kept.upd_vinMv {m : Nat} {s0 s : State} {v_vinMv} (hm : 576460752303423488 ||| m = m) (h : Kept m s0 s) :
    Kept m s0 { s with vinMv := v_vinMv } := Kept.upd (s := s) 59 rfl hm h
theorem Kept.upd_diodeOpen {m : Nat} {s0 s : State} {v_diodeOpen} (hm : 1152921504606846976 ||| m = m) (h : Kept m s0 s) :
    Kept m s0 { s with diodeOpen := v_diodeOpen } := Kept.upd (s := s) 60 rfl hm h
theorem Kept.upd_strapPins {m : Nat} {s0 s : State} {v_strapPins} (hm : 2305843009213693952 ||| m = m) (h : Kept m s0 s) :
    Kept m s0 { s with strapPins := v_strapPins } := Kept.upd (s := s) 61 rfl hm h
theorem Kept.upd_weirS {m : Nat} {s0 s : State} {v_weirS} (hm : 4611686018427387904 ||| m = m) (h : Kept m s0 s) :
    Kept m s0 { s with weirS := v_weirS } := Kept.upd (s := s) 62 rfl hm h
theorem Kept.upd_weirSet {m : Nat} {s0 s : State} {v_weirSet} (hm : 9223372036854775808 ||| m = m) (h : Kept m s0 s) :
    Kept m s0 { s with weirSet := v_weirSet } := Kept.upd (s := s) 63 rfl hm h
theorem Kept.upd_weirUp {m : Nat} {s0 s : State} {v_weirUp} (hm : 18446744073709551616 ||| m = m) (h : Kept m s0 s) :
    Kept m s0 { s with weirUp := v_weirUp } := Kept.upd (s := s) 64 rfl hm h
theorem Kept.upd_weirDown {m : Nat} {s0 s : State} {v_weirDown} (hm : 36893488147419103232 ||| m = m) (h : Kept m s0 s) :
    Kept m s0 { s with weirDown := v_weirDown } := Kept.upd (s := s) 65 rfl hm h
theorem Kept.upd_weirRest {m : Nat} {s0 s : State} {v_weirRest} (hm : 73786976294838206464 ||| m = m) (h : Kept m s0 s) :
    Kept m s0 { s with weirRest := v_weirRest } := Kept.upd (s := s) 66 rfl hm h
theorem Kept.upd_weirBelow {m : Nat} {s0 s : State} {v_weirBelow} (hm : 147573952589676412928 ||| m = m) (h : Kept m s0 s) :
    Kept m s0 { s with weirBelow := v_weirBelow } := Kept.upd (s := s) 67 rfl hm h
theorem Kept.upd_weirPend {m : Nat} {s0 s : State} {v_weirPend} (hm : 295147905179352825856 ||| m = m) (h : Kept m s0 s) :
    Kept m s0 { s with weirPend := v_weirPend } := Kept.upd (s := s) 68 rfl hm h
theorem Kept.upd_weirAt {m : Nat} {s0 s : State} {v_weirAt} (hm : 590295810358705651712 ||| m = m) (h : Kept m s0 s) :
    Kept m s0 { s with weirAt := v_weirAt } := Kept.upd (s := s) 69 rfl hm h
theorem Kept.upd_weirNj {m : Nat} {s0 s : State} {v_weirNj} (hm : 1180591620717411303424 ||| m = m) (h : Kept m s0 s) :
    Kept m s0 { s with weirNj := v_weirNj } := Kept.upd (s := s) 70 rfl hm h
theorem Kept.upd_ballNj {m : Nat} {s0 s : State} {v_ballNj} (hm : 2361183241434822606848 ||| m = m) (h : Kept m s0 s) :
    Kept m s0 { s with ballNj := v_ballNj } := Kept.upd (s := s) 71 rfl hm h
theorem Kept.upd_ptNj {m : Nat} {s0 s : State} {v_ptNj} (hm : 4722366482869645213696 ||| m = m) (h : Kept m s0 s) :
    Kept m s0 { s with ptNj := v_ptNj } := Kept.upd (s := s) 72 rfl hm h
theorem Kept.upd_leveeStart {m : Nat} {s0 s : State} {v_leveeStart} (hm : 9444732965739290427392 ||| m = m) (h : Kept m s0 s) :
    Kept m s0 { s with leveeStart := v_leveeStart } := Kept.upd (s := s) 73 rfl hm h
theorem Kept.upd_pitchWait {m : Nat} {s0 s : State} {v_pitchWait} (hm : 18889465931478580854784 ||| m = m) (h : Kept m s0 s) :
    Kept m s0 { s with pitchWait := v_pitchWait } := Kept.upd (s := s) 74 rfl hm h
theorem Kept.upd_pitchRun {m : Nat} {s0 s : State} {v_pitchRun} (hm : 37778931862957161709568 ||| m = m) (h : Kept m s0 s) :
    Kept m s0 { s with pitchRun := v_pitchRun } := Kept.upd (s := s) 75 rfl hm h
theorem Kept.upd_pitchHeld {m : Nat} {s0 s : State} {v_pitchHeld} (hm : 75557863725914323419136 ||| m = m) (h : Kept m s0 s) :
    Kept m s0 { s with pitchHeld := v_pitchHeld } := Kept.upd (s := s) 76 rfl hm h
theorem Kept.upd_railTest {m : Nat} {s0 s : State} {v_railTest} (hm : 151115727451828646838272 ||| m = m) (h : Kept m s0 s) :
    Kept m s0 { s with railTest := v_railTest } := Kept.upd (s := s) 77 rfl hm h
theorem Kept.upd_unpowered {m : Nat} {s0 s : State} {v_unpowered} (hm : 302231454903657293676544 ||| m = m) (h : Kept m s0 s) :
    Kept m s0 { s with unpowered := v_unpowered } := Kept.upd (s := s) 78 rfl hm h
theorem Kept.upd_hotPitches {m : Nat} {s0 s : State} {v_hotPitches} (hm : 604462909807314587353088 ||| m = m) (h : Kept m s0 s) :
    Kept m s0 { s with hotPitches := v_hotPitches } := Kept.upd (s := s) 79 rfl hm h
theorem Kept.upd_isoKept {m : Nat} {s0 s : State} {v_isoKept} (hm : 1208925819614629174706176 ||| m = m) (h : Kept m s0 s) :
    Kept m s0 { s with isoKept := v_isoKept } := Kept.upd (s := s) 80 rfl hm h
theorem Kept.upd_isoPend {m : Nat} {s0 s : State} {v_isoPend} (hm : 2417851639229258349412352 ||| m = m) (h : Kept m s0 s) :
    Kept m s0 { s with isoPend := v_isoPend } := Kept.upd (s := s) 81 rfl hm h
theorem Kept.upd_startPend {m : Nat} {s0 s : State} {v_startPend} (hm : 4835703278458516698824704 ||| m = m) (h : Kept m s0 s) :
    Kept m s0 { s with startPend := v_startPend } := Kept.upd (s := s) 82 rfl hm h
theorem Kept.upd_cmtDue {m : Nat} {s0 s : State} {v_cmtDue} (hm : 9671406556917033397649408 ||| m = m) (h : Kept m s0 s) :
    Kept m s0 { s with cmtDue := v_cmtDue } := Kept.upd (s := s) 83 rfl hm h
theorem Kept.upd_testing {m : Nat} {s0 s : State} {v_testing} (hm : 19342813113834066795298816 ||| m = m) (h : Kept m s0 s) :
    Kept m s0 { s with testing := v_testing } := Kept.upd (s := s) 84 rfl hm h
theorem Kept.upd_wardenGone {m : Nat} {s0 s : State} {v_wardenGone} (hm : 38685626227668133590597632 ||| m = m) (h : Kept m s0 s) :
    Kept m s0 { s with wardenGone := v_wardenGone } := Kept.upd (s := s) 85 rfl hm h
theorem Kept.upd_staleWait {m : Nat} {s0 s : State} {v_staleWait} (hm : 77371252455336267181195264 ||| m = m) (h : Kept m s0 s) :
    Kept m s0 { s with staleWait := v_staleWait } := Kept.upd (s := s) 86 rfl hm h
theorem Kept.upd_fwUp {m : Nat} {s0 s : State} {v_fwUp} (hm : 154742504910672534362390528 ||| m = m) (h : Kept m s0 s) :
    Kept m s0 { s with fwUp := v_fwUp } := Kept.upd (s := s) 87 rfl hm h
theorem Kept.upd_weirAct {m : Nat} {s0 s : State} {v_weirAct} (hm : 309485009821345068724781056 ||| m = m) (h : Kept m s0 s) :
    Kept m s0 { s with weirAct := v_weirAct } := Kept.upd (s := s) 88 rfl hm h
theorem Kept.upd_weirDrawn {m : Nat} {s0 s : State} {v_weirDrawn} (hm : 618970019642690137449562112 ||| m = m) (h : Kept m s0 s) :
    Kept m s0 { s with weirDrawn := v_weirDrawn } := Kept.upd (s := s) 89 rfl hm h
theorem Kept.upd_weirCut {m : Nat} {s0 s : State} {v_weirCut} (hm : 1237940039285380274899124224 ||| m = m) (h : Kept m s0 s) :
    Kept m s0 { s with weirCut := v_weirCut } := Kept.upd (s := s) 90 rfl hm h
theorem Kept.upd_weirSkip {m : Nat} {s0 s : State} {v_weirSkip} (hm : 2475880078570760549798248448 ||| m = m) (h : Kept m s0 s) :
    Kept m s0 { s with weirSkip := v_weirSkip } := Kept.upd (s := s) 91 rfl hm h
theorem Kept.upd_weirFrom {m : Nat} {s0 s : State} {v_weirFrom} (hm : 4951760157141521099596496896 ||| m = m) (h : Kept m s0 s) :
    Kept m s0 { s with weirFrom := v_weirFrom } := Kept.upd (s := s) 92 rfl hm h
theorem Kept.upd_tmFirst {m : Nat} {s0 s : State} {v_tmFirst} (hm : 9903520314283042199192993792 ||| m = m) (h : Kept m s0 s) :
    Kept m s0 { s with tmFirst := v_tmFirst } := Kept.upd (s := s) 93 rfl hm h
theorem Kept.upd_tmIn {m : Nat} {s0 s : State} {v_tmIn} (hm : 19807040628566084398385987584 ||| m = m) (h : Kept m s0 s) :
    Kept m s0 { s with tmIn := v_tmIn } := Kept.upd (s := s) 94 rfl hm h
theorem Kept.upd_tmOut {m : Nat} {s0 s : State} {v_tmOut} (hm : 39614081257132168796771975168 ||| m = m) (h : Kept m s0 s) :
    Kept m s0 { s with tmOut := v_tmOut } := Kept.upd (s := s) 95 rfl hm h
theorem Kept.upd_tmLost {m : Nat} {s0 s : State} {v_tmLost} (hm : 79228162514264337593543950336 ||| m = m) (h : Kept m s0 s) :
    Kept m s0 { s with tmLost := v_tmLost } := Kept.upd (s := s) 96 rfl hm h
theorem Kept.upd_holdAt {m : Nat} {s0 s : State} {v_holdAt} (hm : 158456325028528675187087900672 ||| m = m) (h : Kept m s0 s) :
    Kept m s0 { s with holdAt := v_holdAt } := Kept.upd (s := s) 97 rfl hm h
theorem Kept.upd_ppsLast {m : Nat} {s0 s : State} {v_ppsLast} (hm : 316912650057057350374175801344 ||| m = m) (h : Kept m s0 s) :
    Kept m s0 { s with ppsLast := v_ppsLast } := Kept.upd (s := s) 98 rfl hm h
theorem Kept.upd_ppsMark {m : Nat} {s0 s : State} {v_ppsMark} (hm : 633825300114114700748351602688 ||| m = m) (h : Kept m s0 s) :
    Kept m s0 { s with ppsMark := v_ppsMark } := Kept.upd (s := s) 99 rfl hm h
theorem Kept.upd_ppsSet {m : Nat} {s0 s : State} {v_ppsSet} (hm : 1267650600228229401496703205376 ||| m = m) (h : Kept m s0 s) :
    Kept m s0 { s with ppsSet := v_ppsSet } := Kept.upd (s := s) 100 rfl hm h
theorem Kept.upd_bgTable {m : Nat} {s0 s : State} {v_bgTable} (hm : 2535301200456458802993406410752 ||| m = m) (h : Kept m s0 s) :
    Kept m s0 { s with bgTable := v_bgTable } := Kept.upd (s := s) 101 rfl hm h
theorem Kept.upd_bgNext {m : Nat} {s0 s : State} {v_bgNext} (hm : 5070602400912917605986812821504 ||| m = m) (h : Kept m s0 s) :
    Kept m s0 { s with bgNext := v_bgNext } := Kept.upd (s := s) 102 rfl hm h
theorem Kept.upd_slotAt {m : Nat} {s0 s : State} {v_slotAt} (hm : 10141204801825835211973625643008 ||| m = m) (h : Kept m s0 s) :
    Kept m s0 { s with slotAt := v_slotAt } := Kept.upd (s := s) 103 rfl hm h
theorem Kept.upd_fwFlash {m : Nat} {s0 s : State} {v_fwFlash} (hm : 20282409603651670423947251286016 ||| m = m) (h : Kept m s0 s) :
    Kept m s0 { s with fwFlash := v_fwFlash } := Kept.upd (s := s) 104 rfl hm h
theorem Kept.upd_fwStage {m : Nat} {s0 s : State} {v_fwStage} (hm : 40564819207303340847894502572032 ||| m = m) (h : Kept m s0 s) :
    Kept m s0 { s with fwStage := v_fwStage } := Kept.upd (s := s) 105 rfl hm h
theorem Kept.upd_fwFail {m : Nat} {s0 s : State} {v_fwFail} (hm : 81129638414606681695789005144064 ||| m = m) (h : Kept m s0 s) :
    Kept m s0 { s with fwFail := v_fwFail } := Kept.upd (s := s) 106 rfl hm h
theorem Kept.upd_boot {m : Nat} {s0 s : State} {v_boot} (hm : 162259276829213363391578010288128 ||| m = m) (h : Kept m s0 s) :
    Kept m s0 { s with boot := v_boot } := Kept.upd (s := s) 107 rfl hm h
theorem Kept.upd_running {m : Nat} {s0 s : State} {v_running} (hm : 324518553658426726783156020576256 ||| m = m) (h : Kept m s0 s) :
    Kept m s0 { s with running := v_running } := Kept.upd (s := s) 108 rfl hm h
theorem Kept.upd_restarts {m : Nat} {s0 s : State} {v_restarts} (hm : 649037107316853453566312041152512 ||| m = m) (h : Kept m s0 s) :
    Kept m s0 { s with restarts := v_restarts } := Kept.upd (s := s) 109 rfl hm h
theorem Kept.upd_fetching {m : Nat} {s0 s : State} {v_fetching} (hm : 1298074214633706907132624082305024 ||| m = m) (h : Kept m s0 s) :
    Kept m s0 { s with fetching := v_fetching } := Kept.upd (s := s) 110 rfl hm h
theorem Kept.upd_fetchAt {m : Nat} {s0 s : State} {v_fetchAt} (hm : 2596148429267413814265248164610048 ||| m = m) (h : Kept m s0 s) :
    Kept m s0 { s with fetchAt := v_fetchAt } := Kept.upd (s := s) 111 rfl hm h
theorem Kept.upd_wipedN {m : Nat} {s0 s : State} {v_wipedN} (hm : 5192296858534827628530496329220096 ||| m = m) (h : Kept m s0 s) :
    Kept m s0 { s with wipedN := v_wipedN } := Kept.upd (s := s) 112 rfl hm h
theorem Kept.upd_lcPend {m : Nat} {s0 s : State} {v_lcPend} (hm : 10384593717069655257060992658440192 ||| m = m) (h : Kept m s0 s) :
    Kept m s0 { s with lcPend := v_lcPend } := Kept.upd (s := s) 113 rfl hm h
theorem Kept.upd_ptRecord {m : Nat} {s0 s : State} {v_ptRecord} (hm : 20769187434139310514121985316880384 ||| m = m) (h : Kept m s0 s) :
    Kept m s0 { s with ptRecord := v_ptRecord } := Kept.upd (s := s) 114 rfl hm h
theorem Kept.upd_ownerChain {m : Nat} {s0 s : State} {v_ownerChain} (hm : 41538374868278621028243970633760768 ||| m = m) (h : Kept m s0 s) :
    Kept m s0 { s with ownerChain := v_ownerChain } := Kept.upd (s := s) 115 rfl hm h
theorem Kept.upd_identity {m : Nat} {s0 s : State} {v_identity} (hm : 83076749736557242056487941267521536 ||| m = m) (h : Kept m s0 s) :
    Kept m s0 { s with identity := v_identity } := Kept.upd (s := s) 116 rfl hm h
theorem Kept.upd_mgmt {m : Nat} {s0 s : State} {v_mgmt} (hm : 166153499473114484112975882535043072 ||| m = m) (h : Kept m s0 s) :
    Kept m s0 { s with mgmt := v_mgmt } := Kept.upd (s := s) 117 rfl hm h
theorem Kept.upd_cmtA {m : Nat} {s0 s : State} {v_cmtA} (hm : 332306998946228968225951765070086144 ||| m = m) (h : Kept m s0 s) :
    Kept m s0 { s with cmtA := v_cmtA } := Kept.upd (s := s) 118 rfl hm h
theorem Kept.upd_cmtB {m : Nat} {s0 s : State} {v_cmtB} (hm : 664613997892457936451903530140172288 ||| m = m) (h : Kept m s0 s) :
    Kept m s0 { s with cmtB := v_cmtB } := Kept.upd (s := s) 119 rfl hm h
theorem Kept.upd_cmtFresh {m : Nat} {s0 s : State} {v_cmtFresh} (hm : 1329227995784915872903807060280344576 ||| m = m) (h : Kept m s0 s) :
    Kept m s0 { s with cmtFresh := v_cmtFresh } := Kept.upd (s := s) 120 rfl hm h
theorem Kept.upd_warmHeld {m : Nat} {s0 s : State} {v_warmHeld} (hm : 2658455991569831745807614120560689152 ||| m = m) (h : Kept m s0 s) :
    Kept m s0 { s with warmHeld := v_warmHeld } := Kept.upd (s := s) 121 rfl hm h
theorem Kept.upd_warmAt {m : Nat} {s0 s : State} {v_warmAt} (hm : 5316911983139663491615228241121378304 ||| m = m) (h : Kept m s0 s) :
    Kept m s0 { s with warmAt := v_warmAt } := Kept.upd (s := s) 122 rfl hm h
theorem Kept.upd_coreTest {m : Nat} {s0 s : State} {v_coreTest} (hm : 10633823966279326983230456482242756608 ||| m = m) (h : Kept m s0 s) :
    Kept m s0 { s with coreTest := v_coreTest } := Kept.upd (s := s) 123 rfl hm h
theorem Kept.upd_mbReq {m : Nat} {s0 s : State} {v_mbReq} (hm : 21267647932558653966460912964485513216 ||| m = m) (h : Kept m s0 s) :
    Kept m s0 { s with mbReq := v_mbReq } := Kept.upd (s := s) 124 rfl hm h
theorem Kept.upd_spdmHist {m : Nat} {s0 s : State} {v_spdmHist} (hm : 42535295865117307932921825928971026432 ||| m = m) (h : Kept m s0 s) :
    Kept m s0 { s with spdmHist := v_spdmHist } := Kept.upd (s := s) 125 rfl hm h
theorem Kept.upd_ideSel {m : Nat} {s0 s : State} {v_ideSel} (hm : 85070591730234615865843651857942052864 ||| m = m) (h : Kept m s0 s) :
    Kept m s0 { s with ideSel := v_ideSel } := Kept.upd (s := s) 126 rfl hm h
theorem Kept.upd_perstLow {m : Nat} {s0 s : State} {v_perstLow} (hm : 170141183460469231731687303715884105728 ||| m = m) (h : Kept m s0 s) :
    Kept m s0 { s with perstLow := v_perstLow } := Kept.upd (s := s) 127 rfl hm h
theorem Kept.upd_coolant {m : Nat} {s0 s : State} {v_coolant} (hm : 340282366920938463463374607431768211456 ||| m = m) (h : Kept m s0 s) :
    Kept m s0 { s with coolant := v_coolant } := Kept.upd (s := s) 128 rfl hm h
theorem Kept.upd_lineReads {m : Nat} {s0 s : State} {v_lineReads} (hm : 680564733841876926926749214863536422912 ||| m = m) (h : Kept m s0 s) :
    Kept m s0 { s with lineReads := v_lineReads } := Kept.upd (s := s) 129 rfl hm h
theorem Kept.upd_rills_adderFails {m : Nat} {s0 s : State} {v_rills} {v_adderFails} (hm : 562949953429504 ||| m = m) (h : Kept m s0 s) :
    Kept m s0 { s with rills := v_rills, adderFails := v_adderFails } :=
  Kept.upds (s := s) 562949953429504 [13, 49] [_, _] rfl rfl hm ⟨Nat.le_refl _, Nat.le_refl _⟩ id (List.prefix_refl _) (Nat.le_refl _) h
theorem Kept.upd_gaugePend_gaugeDue {m : Nat} {s0 s : State} {v_gaugePend} {v_gaugeDue} (hm : 50331648 ||| m = m) (h : Kept m s0 s) :
    Kept m s0 { s with gaugePend := v_gaugePend, gaugeDue := v_gaugeDue } :=
  Kept.upds (s := s) 50331648 [24, 25] [_, _] rfl rfl hm ⟨Nat.le_refl _, Nat.le_refl _⟩ id (List.prefix_refl _) (Nat.le_refl _) h
theorem Kept.upd_memReqs_hws_grads_ezs {m : Nat} {s0 s : State} {v_memReqs} {v_hws} {v_grads} {v_ezs} (hm : 4399724232704 ||| m = m) (h : Kept m s0 s) :
    Kept m s0 { s with memReqs := v_memReqs, hws := v_hws, grads := v_grads, ezs := v_ezs } :=
  Kept.upds (s := s) 4399724232704 [26, 29, 30, 42] [_, _, _, _] rfl rfl hm ⟨Nat.le_refl _, Nat.le_refl _⟩ id (List.prefix_refl _) (Nat.le_refl _) h
theorem Kept.upd_store_storePoison {m : Nat} {s0 s : State} {v_store} {v_storePoison} (hm : 1088 ||| m = m) (h_store : Mem.wf s.store = true → Mem.wf v_store = true) (h : Kept m s0 s) :
    Kept m s0 { s with store := v_store, storePoison := v_storePoison } :=
  Kept.upds (s := s) 1088 [6, 10, 131] [_, _, _] rfl rfl hm ⟨Nat.le_refl _, Nat.le_refl _⟩ (fun w => ⟨w.1, h_store w.2.1, w.2.2.1, w.2.2.2.1, w.2.2.2.2⟩) (List.prefix_refl _) (Nat.le_refl _) h
theorem Kept.upd_stack_stackPoison {m : Nat} {s0 s : State} {v_stack} {v_stackPoison} (hm : 4352 ||| m = m) (h_stack : Mem.wf s.stack = true → Mem.wf v_stack = true) (h : Kept m s0 s) :
    Kept m s0 { s with stack := v_stack, stackPoison := v_stackPoison } :=
  Kept.upds (s := s) 4352 [8, 12, 131] [_, _, _] rfl rfl hm ⟨Nat.le_refl _, Nat.le_refl _⟩ (fun w => ⟨w.1, w.2.1, w.2.2.1, h_stack w.2.2.2.1, w.2.2.2.2⟩) (List.prefix_refl _) (Nat.le_refl _) h
theorem Kept.upd_pool_poolPoison_lineReads {m : Nat} {s0 s : State} {v_pool} {v_poolPoison} {v_lineReads} (hm : 680564733841876926926749214863536425088 ||| m = m) (h_pool : Mem.wf s.pool = true → Mem.wf v_pool = true) (h : Kept m s0 s) :
    Kept m s0 { s with pool := v_pool, poolPoison := v_poolPoison, lineReads := v_lineReads } :=
  Kept.upds (s := s) 680564733841876926926749214863536425088 [7, 11, 129, 131] [_, _, _, _] rfl rfl hm ⟨Nat.le_refl _, Nat.le_refl _⟩ (fun w => ⟨w.1, w.2.1, h_pool w.2.2.1, w.2.2.2.1, w.2.2.2.2⟩) (List.prefix_refl _) (Nat.le_refl _) h
theorem Kept.upd_boot_fetching {m : Nat} {s0 s : State} {v_boot} {v_fetching} (hm : 1460333491462920270524202092593152 ||| m = m) (h : Kept m s0 s) :
    Kept m s0 { s with boot := v_boot, fetching := v_fetching } :=
  Kept.upds (s := s) 1460333491462920270524202092593152 [107, 110] [_, _] rfl rfl hm ⟨Nat.le_refl _, Nat.le_refl _⟩ id (List.prefix_refl _) (Nat.le_refl _) h
theorem Kept.upd_boot_fetching_fetchAt {m : Nat} {s0 s : State} {v_boot} {v_fetching} {v_fetchAt} (hm : 4056481920730334084789450257203200 ||| m = m) (h : Kept m s0 s) :
    Kept m s0 { s with boot := v_boot, fetching := v_fetching, fetchAt := v_fetchAt } :=
  Kept.upds (s := s) 4056481920730334084789450257203200 [107, 110, 111] [_, _, _] rfl rfl hm ⟨Nat.le_refl _, Nat.le_refl _⟩ id (List.prefix_refl _) (Nat.le_refl _) h
theorem Kept.upd_wipedN_ptRecord_ownerChain_identity_mgmt {m : Nat} {s0 s : State} {v_wipedN} {v_ptRecord} {v_ownerChain} {v_identity} {v_mgmt} (hm : 316730108370624485340360276082425856 ||| m = m) (h : Kept m s0 s) :
    Kept m s0 { s with wipedN := v_wipedN, ptRecord := v_ptRecord, ownerChain := v_ownerChain, identity := v_identity, mgmt := v_mgmt } :=
  Kept.upds (s := s) 316730108370624485340360276082425856 [112, 114, 115, 116, 117] [_, _, _, _, _] rfl rfl hm ⟨Nat.le_refl _, Nat.le_refl _⟩ id (List.prefix_refl _) (Nat.le_refl _) h
theorem Kept.upd_fwFlash_fwFail_restarts {m : Nat} {s0 s : State} {v_fwFlash} {v_fwFail} {v_restarts} (hm : 750449155335111805686048297582592 ||| m = m) (h : Kept m s0 s) :
    Kept m s0 { s with fwFlash := v_fwFlash, fwFail := v_fwFail, restarts := v_restarts } :=
  Kept.upds (s := s) 750449155335111805686048297582592 [104, 106, 109] [_, _, _] rfl rfl hm ⟨Nat.le_refl _, Nat.le_refl _⟩ id (List.prefix_refl _) (Nat.le_refl _) h
theorem Kept.upd_wardenGone_fwUp_fwFail_restarts {m : Nat} {s0 s : State} {v_wardenGone} {v_fwUp} {v_fwFail} {v_restarts} (hm : 730166939159591273602768999284736 ||| m = m) (h : Kept m s0 s) :
    Kept m s0 { s with wardenGone := v_wardenGone, fwUp := v_fwUp, fwFail := v_fwFail, restarts := v_restarts } :=
  Kept.upds (s := s) 730166939159591273602768999284736 [85, 87, 106, 109] [_, _, _, _] rfl rfl hm ⟨Nat.le_refl _, Nat.le_refl _⟩ id (List.prefix_refl _) (Nat.le_refl _) h
theorem Kept.upd_weirUp_weirDown_tmFirst {m : Nat} {s0 s : State} {v_weirUp} {v_weirDown} {v_tmFirst} (hm : 9903520369623274420321648640 ||| m = m) (h : Kept m s0 s) :
    Kept m s0 { s with weirUp := v_weirUp, weirDown := v_weirDown, tmFirst := v_tmFirst } :=
  Kept.upds (s := s) 9903520369623274420321648640 [64, 65, 93] [_, _, _] rfl rfl hm ⟨Nat.le_refl _, Nat.le_refl _⟩ id (List.prefix_refl _) (Nat.le_refl _) h
theorem Kept.upd_hwWait_portLeft {m : Nat} {s0 s : State} {v_hwWait} {v_portLeft} (hm : 70866960384 ||| m = m) (h : Kept m s0 s) :
    Kept m s0 { s with hwWait := v_hwWait, portLeft := v_portLeft } :=
  Kept.upds (s := s) 70866960384 [31, 36] [_, _] rfl rfl hm ⟨Nat.le_refl _, Nat.le_refl _⟩ id (List.prefix_refl _) (Nat.le_refl _) h
theorem Kept.upd_rills_ce_seqrs_warmHeld_warmAt {m : Nat} {s0 s : State} {v_rills} {v_ce} {v_seqrs} {v_warmHeld} {v_warmAt} (hm : 7975367974709495237422842636560113664 ||| m = m) (h : Kept m s0 s) :
    Kept m s0 { s with rills := v_rills, ce := v_ce, seqrs := v_seqrs, warmHeld := v_warmHeld, warmAt := v_warmAt } :=
  Kept.upds (s := s) 7975367974709495237422842636560113664 [13, 17, 38, 121, 122] [_, _, _, _, _] rfl rfl hm ⟨Nat.le_refl _, Nat.le_refl _⟩ id (List.prefix_refl _) (Nat.le_refl _) h
theorem Kept.upd_host_freeCtr_keyReqs {m : Nat} {s0 s : State} {v_host} {v_freeCtr} {v_keyReqs} (hm : 34363933184 ||| m = m) (h_host : Mem.wf s.host = true → Mem.wf v_host = true) (h_freeCtr : s.freeCtr ≤ v_freeCtr) (h : Kept m s0 s) :
    Kept m s0 { s with host := v_host, freeCtr := v_freeCtr, keyReqs := v_keyReqs } :=
  Kept.upds (s := s) 34363933184 [9, 22, 35, 131, 133] [_, _, _, _, _] rfl rfl hm ⟨Nat.le_refl _, Nat.le_refl _⟩ (fun w => ⟨w.1, w.2.1, w.2.2.1, w.2.2.2.1, h_host w.2.2.2.2⟩) (List.prefix_refl _) h_freeCtr h
theorem Kept.upd_groupInvalid_shapes {m : Nat} {s0 s : State} {v_groupInvalid} {v_shapes} (hm : 9288674231451648 ||| m = m) (h : Kept m s0 s) :
    Kept m s0 { s with groupInvalid := v_groupInvalid, shapes := v_shapes } :=
  Kept.upds (s := s) 9288674231451648 [48, 53] [_, _] rfl rfl hm ⟨Nat.le_refl _, Nat.le_refl _⟩ id (List.prefix_refl _) (Nat.le_refl _) h
theorem Kept.upd_postSeq_shapes {m : Nat} {s0 s : State} {v_postSeq} {v_shapes} (hm : 9007749010554880 ||| m = m) (h : Kept m s0 s) :
    Kept m s0 { s with postSeq := v_postSeq, shapes := v_shapes } :=
  Kept.upds (s := s) 9007749010554880 [39, 53] [_, _] rfl rfl hm ⟨Nat.le_refl _, Nat.le_refl _⟩ id (List.prefix_refl _) (Nat.le_refl _) h
theorem Kept.upd_store_pool_storePoison_poolPoison {m : Nat} {s0 s : State} {v_store} {v_pool} {v_storePoison} {v_poolPoison} (hm : 3264 ||| m = m) (h_store : Mem.wf s.store = true → Mem.wf v_store = true) (h_pool : Mem.wf s.pool = true → Mem.wf v_pool = true) (h : Kept m s0 s) :
    Kept m s0 { s with store := v_store, pool := v_pool, storePoison := v_storePoison, poolPoison := v_poolPoison } :=
  Kept.upds (s := s) 3264 [6, 7, 10, 11, 131] [_, _, _, _, _] rfl rfl hm ⟨Nat.le_refl _, Nat.le_refl _⟩ (fun w => ⟨w.1, h_store w.2.1, h_pool w.2.2.1, w.2.2.2.1, w.2.2.2.2⟩) (List.prefix_refl _) (Nat.le_refl _) h
theorem Kept.upd_hwMan_hwBinding_hwKeys {m : Nat} {s0 s : State} {v_hwMan} {v_hwBinding} {v_hwKeys} (hm : 30064771072 ||| m = m) (h : Kept m s0 s) :
    Kept m s0 { s with hwMan := v_hwMan, hwBinding := v_hwBinding, hwKeys := v_hwKeys } :=
  Kept.upds (s := s) 30064771072 [32, 33, 34] [_, _, _] rfl rfl hm ⟨Nat.le_refl _, Nat.le_refl _⟩ id (List.prefix_refl _) (Nat.le_refl _) h
theorem Kept.upd_fwFlash_fwStage {m : Nat} {s0 s : State} {v_fwFlash} {v_fwStage} (hm : 60847228810955011271841753858048 ||| m = m) (h : Kept m s0 s) :
    Kept m s0 { s with fwFlash := v_fwFlash, fwStage := v_fwStage } :=
  Kept.upds (s := s) 60847228810955011271841753858048 [104, 105] [_, _] rfl rfl hm ⟨Nat.le_refl _, Nat.le_refl _⟩ id (List.prefix_refl _) (Nat.le_refl _) h
theorem Kept.upd_pitchHeld_staleWait {m : Nat} {s0 s : State} {v_pitchHeld} {v_staleWait} (hm : 77446810319062181504614400 ||| m = m) (h : Kept m s0 s) :
    Kept m s0 { s with pitchHeld := v_pitchHeld, staleWait := v_staleWait } :=
  Kept.upds (s := s) 77446810319062181504614400 [76, 86] [_, _] rfl rfl hm ⟨Nat.le_refl _, Nat.le_refl _⟩ id (List.prefix_refl _) (Nat.le_refl _) h
theorem Kept.upd_regs_staged_captured_slotMem_ce {m : Nat} {s0 s : State} {v_regs} {v_staged} {v_captured} {v_slotMem} {v_ce} (hm : 131132 ||| m = m) (h_slotMem : Mem.wf s.slotMem = true → Mem.wf v_slotMem = true) (h : Kept m s0 s) :
    Kept m s0 { s with regs := v_regs, staged := v_staged, captured := v_captured, slotMem := v_slotMem, ce := v_ce } :=
  Kept.upds (s := s) 131132 [2, 3, 4, 5, 17, 131] [_, _, _, _, _, _] rfl rfl hm ⟨Nat.le_refl _, Nat.le_refl _⟩ (fun w => ⟨h_slotMem w.1, w.2.1, w.2.2.1, w.2.2.2.1, w.2.2.2.2⟩) (List.prefix_refl _) (Nat.le_refl _) h
theorem Kept.upd_tlb_walkCache {m : Nat} {s0 s : State} {v_tlb} {v_walkCache} (hm : 402653184 ||| m = m) (h : Kept m s0 s) :
    Kept m s0 { s with tlb := v_tlb, walkCache := v_walkCache } :=
  Kept.upds (s := s) 402653184 [27, 28] [_, _] rfl rfl hm ⟨Nat.le_refl _, Nat.le_refl _⟩ id (List.prefix_refl _) (Nat.le_refl _) h
theorem Kept.upd_captured_msix_msixPend_msixFnMask_spdmHist_ideSel_perstLow {m : Nat} {s0 s : State} {v_captured} {v_msix} {v_msixPend} {v_msixFnMask} {v_spdmHist} {v_ideSel} {v_perstLow} (hm : 297747071055821155530452781502806360080 ||| m = m) (h : Kept m s0 s) :
    Kept m s0 { s with captured := v_captured, msix := v_msix, msixPend := v_msixPend, msixFnMask := v_msixFnMask, spdmHist := v_spdmHist, ideSel := v_ideSel, perstLow := v_perstLow } :=
  Kept.upds (s := s) 297747071055821155530452781502806360080 [4, 18, 19, 23, 125, 126, 127] [_, _, _, _, _, _, _] rfl rfl hm ⟨Nat.le_refl _, Nat.le_refl _⟩ id (List.prefix_refl _) (Nat.le_refl _) h
theorem Kept.upd_rx_keys {m : Nat} {s0 s : State} {v_rx} {v_keys} (hm : 87960930222080 ||| m = m) (h : Kept m s0 s) :
    Kept m s0 { s with rx := v_rx, keys := v_keys } :=
  Kept.upds (s := s) 87960930222080 [44, 46] [_, _] rfl rfl hm ⟨Nat.le_refl _, Nat.le_refl _⟩ id (List.prefix_refl _) (Nat.le_refl _) h
theorem Kept.upd_ezs_early {m : Nat} {s0 s : State} {v_ezs} {v_early} (hm : 39582418599936 ||| m = m) (h : Kept m s0 s) :
    Kept m s0 { s with ezs := v_ezs, early := v_early } :=
  Kept.upds (s := s) 39582418599936 [42, 45] [_, _] rfl rfl hm ⟨Nat.le_refl _, Nat.le_refl _⟩ id (List.prefix_refl _) (Nat.le_refl _) h
theorem Kept.upd_memReqs_tlb_walkCache {m : Nat} {s0 s : State} {v_memReqs} {v_tlb} {v_walkCache} (hm : 469762048 ||| m = m) (h : Kept m s0 s) :
    Kept m s0 { s with memReqs := v_memReqs, tlb := v_tlb, walkCache := v_walkCache } :=
  Kept.upds (s := s) 469762048 [26, 27, 28] [_, _, _] rfl rfl hm ⟨Nat.le_refl _, Nat.le_refl _⟩ id (List.prefix_refl _) (Nat.le_refl _) h
theorem Kept.upd_tmFirst_tmIn_tmOut_tmLost_ppsSet {m : Nat} {s0 s : State} {v_tmFirst} {v_tmIn} {v_tmOut} {v_tmLost} {v_ppsSet} (hm : 1416203404942475034484598112256 ||| m = m) (h : Kept m s0 s) :
    Kept m s0 { s with tmFirst := v_tmFirst, tmIn := v_tmIn, tmOut := v_tmOut, tmLost := v_tmLost, ppsSet := v_ppsSet } :=
  Kept.upds (s := s) 1416203404942475034484598112256 [93, 94, 95, 96, 100] [_, _, _, _, _] rfl rfl hm ⟨Nat.le_refl _, Nat.le_refl _⟩ id (List.prefix_refl _) (Nat.le_refl _) h
theorem Kept.upd_bgTable_bgNext {m : Nat} {s0 s : State} {v_bgTable} {v_bgNext} (hm : 7605903601369376408980219232256 ||| m = m) (h : Kept m s0 s) :
    Kept m s0 { s with bgTable := v_bgTable, bgNext := v_bgNext } :=
  Kept.upds (s := s) 7605903601369376408980219232256 [101, 102] [_, _] rfl rfl hm ⟨Nat.le_refl _, Nat.le_refl _⟩ id (List.prefix_refl _) (Nat.le_refl _) h
theorem Kept.upd_tmFirst_tmIn_tmOut_ppsSet {m : Nat} {s0 s : State} {v_tmFirst} {v_tmIn} {v_tmOut} {v_ppsSet} (hm : 1336975242428210696891054161920 ||| m = m) (h : Kept m s0 s) :
    Kept m s0 { s with tmFirst := v_tmFirst, tmIn := v_tmIn, tmOut := v_tmOut, ppsSet := v_ppsSet } :=
  Kept.upds (s := s) 1336975242428210696891054161920 [93, 94, 95, 100] [_, _, _, _] rfl rfl hm ⟨Nat.le_refl _, Nat.le_refl _⟩ id (List.prefix_refl _) (Nat.le_refl _) h
theorem Kept.upd_pitchWait_pitchRun_railTest_unpowered_hotPitches_startPend_testing {m : Nat} {s0 s : State} {v_pitchWait} {v_pitchRun} {v_railTest} {v_unpowered} {v_hotPitches} {v_startPend} {v_testing} (hm : 25292994882249819764555776 ||| m = m) (h : Kept m s0 s) :
    Kept m s0 { s with pitchWait := v_pitchWait, pitchRun := v_pitchRun, railTest := v_railTest, unpowered := v_unpowered, hotPitches := v_hotPitches, startPend := v_startPend, testing := v_testing } :=
  Kept.upds (s := s) 25292994882249819764555776 [74, 75, 77, 78, 79, 82, 84] [_, _, _, _, _, _, _] rfl rfl hm ⟨Nat.le_refl _, Nat.le_refl _⟩ id (List.prefix_refl _) (Nat.le_refl _) h
theorem Kept.upd_host_grads {m : Nat} {s0 s : State} {v_host} {v_grads} (hm : 1073742336 ||| m = m) (h_host : Mem.wf s.host = true → Mem.wf v_host = true) (h : Kept m s0 s) :
    Kept m s0 { s with host := v_host, grads := v_grads } :=
  Kept.upds (s := s) 1073742336 [9, 30, 131] [_, _, _] rfl rfl hm ⟨Nat.le_refl _, Nat.le_refl _⟩ (fun w => ⟨w.1, w.2.1, w.2.2.1, w.2.2.2.1, h_host w.2.2.2.2⟩) (List.prefix_refl _) (Nat.le_refl _) h
theorem Kept.upd_isoKept_cmtDue {m : Nat} {s0 s : State} {v_isoKept} {v_cmtDue} (hm : 10880332376531662572355584 ||| m = m) (h : Kept m s0 s) :
    Kept m s0 { s with isoKept := v_isoKept, cmtDue := v_cmtDue } :=
  Kept.upds (s := s) 10880332376531662572355584 [80, 83] [_, _] rfl rfl hm ⟨Nat.le_refl _, Nat.le_refl _⟩ id (List.prefix_refl _) (Nat.le_refl _) h
theorem Kept.upd_unpowered_testing {m : Nat} {s0 s : State} {v_unpowered} {v_testing} (hm : 19645044568737724088975360 ||| m = m) (h : Kept m s0 s) :
    Kept m s0 { s with unpowered := v_unpowered, testing := v_testing } :=
  Kept.upds (s := s) 19645044568737724088975360 [78, 84] [_, _] rfl rfl hm ⟨Nat.le_refl _, Nat.le_refl _⟩ id (List.prefix_refl _) (Nat.le_refl _) h
theorem Kept.upd_pitchRun_unpowered {m : Nat} {s0 s : State} {v_pitchRun} {v_unpowered} (hm : 340010386766614455386112 ||| m = m) (h : Kept m s0 s) :
    Kept m s0 { s with pitchRun := v_pitchRun, unpowered := v_unpowered } :=
  Kept.upds (s := s) 340010386766614455386112 [75, 78] [_, _] rfl rfl hm ⟨Nat.le_refl _, Nat.le_refl _⟩ id (List.prefix_refl _) (Nat.le_refl _) h
theorem Kept.upd_weirUp_weirDown {m : Nat} {s0 s : State} {v_weirUp} {v_weirDown} (hm : 55340232221128654848 ||| m = m) (h : Kept m s0 s) :
    Kept m s0 { s with weirUp := v_weirUp, weirDown := v_weirDown } :=
  Kept.upds (s := s) 55340232221128654848 [64, 65] [_, _] rfl rfl hm ⟨Nat.le_refl _, Nat.le_refl _⟩ id (List.prefix_refl _) (Nat.le_refl _) h
theorem Kept.upd_weirS_weirBelow {m : Nat} {s0 s : State} {v_weirS} {v_weirBelow} (hm : 152185638608103800832 ||| m = m) (h : Kept m s0 s) :
    Kept m s0 { s with weirS := v_weirS, weirBelow := v_weirBelow } :=
  Kept.upds (s := s) 152185638608103800832 [62, 67] [_, _] rfl rfl hm ⟨Nat.le_refl _, Nat.le_refl _⟩ id (List.prefix_refl _) (Nat.le_refl _) h
theorem Kept.upd_weirS_weirUp_weirRest {m : Nat} {s0 s : State} {v_weirS} {v_weirUp} {v_weirRest} (hm : 96845406386975145984 ||| m = m) (h : Kept m s0 s) :
    Kept m s0 { s with weirS := v_weirS, weirUp := v_weirUp, weirRest := v_weirRest } :=
  Kept.upds (s := s) 96845406386975145984 [62, 64, 66] [_, _, _] rfl rfl hm ⟨Nat.le_refl _, Nat.le_refl _⟩ id (List.prefix_refl _) (Nat.le_refl _) h
theorem Kept.upd_weirS_weirDown_weirRest {m : Nat} {s0 s : State} {v_weirS} {v_weirDown} {v_weirRest} (hm : 115292150460684697600 ||| m = m) (h : Kept m s0 s) :
    Kept m s0 { s with weirS := v_weirS, weirDown := v_weirDown, weirRest := v_weirRest } :=
  Kept.upds (s := s) 115292150460684697600 [62, 65, 66] [_, _, _] rfl rfl hm ⟨Nat.le_refl _, Nat.le_refl _⟩ id (List.prefix_refl _) (Nat.le_refl _) h
theorem Kept.upd_pitchWait_pitchRun {m : Nat} {s0 s : State} {v_pitchWait} {v_pitchRun} (hm : 56668397794435742564352 ||| m = m) (h : Kept m s0 s) :
    Kept m s0 { s with pitchWait := v_pitchWait, pitchRun := v_pitchRun } :=
  Kept.upds (s := s) 56668397794435742564352 [74, 75] [_, _] rfl rfl hm ⟨Nat.le_refl _, Nat.le_refl _⟩ id (List.prefix_refl _) (Nat.le_refl _) h
theorem Kept.upd_pitchWait_pitchRun_hotPitches {m : Nat} {s0 s : State} {v_pitchWait} {v_pitchRun} {v_hotPitches} (hm : 661131307601750329917440 ||| m = m) (h : Kept m s0 s) :
    Kept m s0 { s with pitchWait := v_pitchWait, pitchRun := v_pitchRun, hotPitches := v_hotPitches } :=
  Kept.upds (s := s) 661131307601750329917440 [74, 75, 79] [_, _, _] rfl rfl hm ⟨Nat.le_refl _, Nat.le_refl _⟩ id (List.prefix_refl _) (Nat.le_refl _) h
theorem Kept.upd_weirNj_ballNj {m : Nat} {s0 s : State} {v_weirNj} {v_ballNj} (hm : 3541774862152233910272 ||| m = m) (h : Kept m s0 s) :
    Kept m s0 { s with weirNj := v_weirNj, ballNj := v_ballNj } :=
  Kept.upds (s := s) 3541774862152233910272 [70, 71] [_, _] rfl rfl hm ⟨Nat.le_refl _, Nat.le_refl _⟩ id (List.prefix_refl _) (Nat.le_refl _) h
theorem Kept.upd_weirAt_weirDrawn {m : Nat} {s0 s : State} {v_weirAt} {v_weirDrawn} (hm : 618970609938500496155213824 ||| m = m) (h : Kept m s0 s) :
    Kept m s0 { s with weirAt := v_weirAt, weirDrawn := v_weirDrawn } :=
  Kept.upds (s := s) 618970609938500496155213824 [69, 89] [_, _] rfl rfl hm ⟨Nat.le_refl _, Nat.le_refl _⟩ id (List.prefix_refl _) (Nat.le_refl _) h
theorem Kept.upd_vinMv_weirAt_weirDrawn_weirCut {m : Nat} {s0 s : State} {v_vinMv} {v_weirAt} {v_weirDrawn} {v_weirCut} (hm : 1856910649800341523357761536 ||| m = m) (h : Kept m s0 s) :
    Kept m s0 { s with vinMv := v_vinMv, weirAt := v_weirAt, weirDrawn := v_weirDrawn, weirCut := v_weirCut } :=
  Kept.upds (s := s) 1856910649800341523357761536 [59, 69, 89, 90] [_, _, _, _] rfl rfl hm ⟨Nat.le_refl _, Nat.le_refl _⟩ id (List.prefix_refl _) (Nat.le_refl _) h
theorem Kept.upd_weirS_weirSet {m : Nat} {s0 s : State} {v_weirS} {v_weirSet} (hm : 13835058055282163712 ||| m = m) (h : Kept m s0 s) :
    Kept m s0 { s with weirS := v_weirS, weirSet := v_weirSet } :=
  Kept.upds (s := s) 13835058055282163712 [62, 63] [_, _] rfl rfl hm ⟨Nat.le_refl _, Nat.le_refl _⟩ id (List.prefix_refl _) (Nat.le_refl _) h
theorem Kept.upd_cmtA_cmtB_cmtFresh {m : Nat} {s0 s : State} {v_cmtA} {v_cmtB} {v_cmtFresh} (hm : 2326148992623602777581662355490603008 ||| m = m) (h : Kept m s0 s) :
    Kept m s0 { s with cmtA := v_cmtA, cmtB := v_cmtB, cmtFresh := v_cmtFresh } :=
  Kept.upds (s := s) 2326148992623602777581662355490603008 [118, 119, 120] [_, _, _] rfl rfl hm ⟨Nat.le_refl _, Nat.le_refl _⟩ id (List.prefix_refl _) (Nat.le_refl _) h
theorem Kept.upd_tmIn_tmOut {m : Nat} {s0 s : State} {v_tmIn} {v_tmOut} (hm : 59421121885698253195157962752 ||| m = m) (h : Kept m s0 s) :
    Kept m s0 { s with tmIn := v_tmIn, tmOut := v_tmOut } :=
  Kept.upds (s := s) 59421121885698253195157962752 [94, 95] [_, _] rfl rfl hm ⟨Nat.le_refl _, Nat.le_refl _⟩ id (List.prefix_refl _) (Nat.le_refl _) h
theorem Kept.upd_tmLost_ppsMark {m : Nat} {s0 s : State} {v_tmLost} {v_ppsMark} (hm : 713053462628379038341895553024 ||| m = m) (h : Kept m s0 s) :
    Kept m s0 { s with tmLost := v_tmLost, ppsMark := v_ppsMark } :=
  Kept.upds (s := s) 713053462628379038341895553024 [96, 99] [_, _] rfl rfl hm ⟨Nat.le_refl _, Nat.le_refl _⟩ id (List.prefix_refl _) (Nat.le_refl _) h
theorem Kept.upd_tmIn_tmLost {m : Nat} {s0 s : State} {v_tmIn} {v_tmLost} (hm : 99035203142830421991929937920 ||| m = m) (h : Kept m s0 s) :
    Kept m s0 { s with tmIn := v_tmIn, tmLost := v_tmLost } :=
  Kept.upds (s := s) 99035203142830421991929937920 [94, 96] [_, _] rfl rfl hm ⟨Nat.le_refl _, Nat.le_refl _⟩ id (List.prefix_refl _) (Nat.le_refl _) h
theorem Kept.upd_wearNext_wearDue {m : Nat} {s0 s : State} {v_wearNext} {v_wearDue} (hm : 54043195528445952 ||| m = m) (h : Kept m s0 s) :
    Kept m s0 { s with wearNext := v_wearNext, wearDue := v_wearDue } :=
  Kept.upds (s := s) 54043195528445952 [54, 55] [_, _] rfl rfl hm ⟨Nat.le_refl _, Nat.le_refl _⟩ id (List.prefix_refl _) (Nat.le_refl _) h
theorem Kept.upd_freeCtr_spdmHist {m : Nat} {s0 s : State} {v_freeCtr} {v_spdmHist} (hm : 42535295865117307932921825928975220736 ||| m = m) (h_freeCtr : s.freeCtr ≤ v_freeCtr) (h : Kept m s0 s) :
    Kept m s0 { s with freeCtr := v_freeCtr, spdmHist := v_spdmHist } :=
  Kept.upds (s := s) 42535295865117307932921825928975220736 [22, 125, 133] [_, _, _] rfl rfl hm ⟨Nat.le_refl _, Nat.le_refl _⟩ id (List.prefix_refl _) h_freeCtr h
theorem Kept.upd_stack_stackPoison_stackErrs {m : Nat} {s0 s : State} {v_stack} {v_stackPoison} {v_stackErrs} (hm : 4503599627374848 ||| m = m) (h_stack : Mem.wf s.stack = true → Mem.wf v_stack = true) (h : Kept m s0 s) :
    Kept m s0 { s with stack := v_stack, stackPoison := v_stackPoison, stackErrs := v_stackErrs } :=
  Kept.upds (s := s) 4503599627374848 [8, 12, 52, 131] [_, _, _, _] rfl rfl hm ⟨Nat.le_refl _, Nat.le_refl _⟩ (fun w => ⟨w.1, w.2.1, w.2.2.1, h_stack w.2.2.2.1, w.2.2.2.2⟩) (List.prefix_refl _) (Nat.le_refl _) h
theorem Kept.upd_inputStage_vinMv_weirFrom {m : Nat} {s0 s : State} {v_inputStage} {v_vinMv} {v_weirFrom} (hm : 4951760157862097039975776256 ||| m = m) (h : Kept m s0 s) :
    Kept m s0 { s with inputStage := v_inputStage, vinMv := v_vinMv, weirFrom := v_weirFrom } :=
  Kept.upds (s := s) 4951760157862097039975776256 [57, 59, 92] [_, _, _] rfl rfl hm ⟨Nat.le_refl _, Nat.le_refl _⟩ id (List.prefix_refl _) (Nat.le_refl _) h
theorem Kept.upd_inputStage_stageAt {m : Nat} {s0 s : State} {v_inputStage} {v_stageAt} (hm : 432345564227567616 ||| m = m) (h : Kept m s0 s) :
    Kept m s0 { s with inputStage := v_inputStage, stageAt := v_stageAt } :=
  Kept.upds (s := s) 432345564227567616 [57, 58] [_, _] rfl rfl hm ⟨Nat.le_refl _, Nat.le_refl _⟩ id (List.prefix_refl _) (Nat.le_refl _) h
theorem Kept.upd_inputStage_vinMv {m : Nat} {s0 s : State} {v_inputStage} {v_vinMv} (hm : 720575940379279360 ||| m = m) (h : Kept m s0 s) :
    Kept m s0 { s with inputStage := v_inputStage, vinMv := v_vinMv } :=
  Kept.upds (s := s) 720575940379279360 [57, 59] [_, _] rfl rfl hm ⟨Nat.le_refl _, Nat.le_refl _⟩ id (List.prefix_refl _) (Nat.le_refl _) h
theorem Kept.upd_cairn_inputStage_vinMv_fwUp {m : Nat} {s0 s : State} {v_cairn} {v_inputStage} {v_vinMv} {v_fwUp} (hm : 154742505631248474741735424 ||| m = m) (h : Kept m s0 s) :
    Kept m s0 { s with cairn := v_cairn, inputStage := v_inputStage, vinMv := v_vinMv, fwUp := v_fwUp } :=
  Kept.upds (s := s) 154742505631248474741735424 [16, 57, 59, 87] [_, _, _, _] rfl rfl hm ⟨Nat.le_refl _, Nat.le_refl _⟩ id (List.prefix_refl _) (Nat.le_refl _) h
theorem Kept.upd_cairn_lcPend {m : Nat} {s0 s : State} {v_cairn} {v_lcPend} (hm : 10384593717069655257060992658505728 ||| m = m) (h : Kept m s0 s) :
    Kept m s0 { s with cairn := v_cairn, lcPend := v_lcPend } :=
  Kept.upds (s := s) 10384593717069655257060992658505728 [16, 113] [_, _] rfl rfl hm ⟨Nat.le_refl _, Nat.le_refl _⟩ id (List.prefix_refl _) (Nat.le_refl _) h
theorem Kept.upd_freeCtr_identity {m : Nat} {s0 s : State} {v_freeCtr} {v_identity} (hm : 83076749736557242056487941271715840 ||| m = m) (h_freeCtr : s.freeCtr ≤ v_freeCtr) (h : Kept m s0 s) :
    Kept m s0 { s with freeCtr := v_freeCtr, identity := v_identity } :=
  Kept.upds (s := s) 83076749736557242056487941271715840 [22, 116, 133] [_, _, _] rfl rfl hm ⟨Nat.le_refl _, Nat.le_refl _⟩ id (List.prefix_refl _) h_freeCtr h
theorem Kept.upd_inputStage_fwUp {m : Nat} {s0 s : State} {v_inputStage} {v_fwUp} (hm : 154742505054787722438246400 ||| m = m) (h : Kept m s0 s) :
    Kept m s0 { s with inputStage := v_inputStage, fwUp := v_fwUp } :=
  Kept.upds (s := s) 154742505054787722438246400 [57, 87] [_, _] rfl rfl hm ⟨Nat.le_refl _, Nat.le_refl _⟩ id (List.prefix_refl _) (Nat.le_refl _) h
theorem Kept.upd_wearDue_leveeStart_testing {m : Nat} {s0 s : State} {v_wearDue} {v_leveeStart} {v_testing} (hm : 19352257882828603104690176 ||| m = m) (h : Kept m s0 s) :
    Kept m s0 { s with wearDue := v_wearDue, leveeStart := v_leveeStart, testing := v_testing } :=
  Kept.upds (s := s) 19352257882828603104690176 [55, 73, 84] [_, _, _] rfl rfl hm ⟨Nat.le_refl _, Nat.le_refl _⟩ id (List.prefix_refl _) (Nat.le_refl _) h
theorem Kept.upd_wardenGone_fwUp_boot_running_restarts {m : Nat} {s0 s : State} {v_wardenGone} {v_fwUp} {v_boot} {v_running} {v_restarts} (hm : 1135815131232624682081714025005056 ||| m = m) (h : Kept m s0 s) :
    Kept m s0 { s with wardenGone := v_wardenGone, fwUp := v_fwUp, boot := v_boot, running := v_running, restarts := v_restarts } :=
  Kept.upds (s := s) 1135815131232624682081714025005056 [85, 87, 107, 108, 109] [_, _, _, _, _] rfl rfl hm ⟨Nat.le_refl _, Nat.le_refl _⟩ id (List.prefix_refl _) (Nat.le_refl _) h
theorem Kept.upd_weirAt_weirDrawn_weirCut_weirSkip_weirFrom_ppsLast_slotAt {m : Nat} {s0 s : State} {v_weirAt} {v_weirDrawn} {v_weirCut} {v_weirSkip} {v_weirFrom} {v_ppsLast} {v_slotAt} (hm : 10467402002767828724768250527744 ||| m = m) (h : Kept m s0 s) :
    Kept m s0 { s with weirAt := v_weirAt, weirDrawn := v_weirDrawn, weirCut := v_weirCut, weirSkip := v_weirSkip, weirFrom := v_weirFrom, ppsLast := v_ppsLast, slotAt := v_slotAt } :=
  Kept.upds (s := s) 10467402002767828724768250527744 [69, 89, 90, 91, 92, 98, 103] [_, _, _, _, _, _, _] rfl rfl hm ⟨Nat.le_refl _, Nat.le_refl _⟩ id (List.prefix_refl _) (Nat.le_refl _) h

/-! ### The clocks -/

/-- The clocks set to any value. -/
theorem Kept.jump_clk {m : Nat} {s0 s : State} {v} (hm : 2 ^ 1 ||| m = m) (hn : 2 ^ 130 ||| m = m) (h : Kept m s0 s) : Kept m s0 { s with clk := v } :=
  Kept.upd2 (s := s) 1 130 rfl hm (fun _ hi => absurd hn (fun e => by
    have := bit_sub e hi
    rw [Nat.testBit_two_pow_self] at this
    cases this)) h

/-- The clocks moved on. -/
theorem Kept.upd_clk {m : Nat} {s0 s : State} {v} (hm : 2 ^ 1 ||| m = m) (hv : s.clk.now ≤ v.now ∧ s.clk.cycle ≤ v.cycle) (h : Kept m s0 s) :
    Kept m s0 { s with clk := v } :=
  Kept.upd2 (s := s) 1 130 rfl hm (fun h hi => clockFwd_carried.chain s0 s _ (h.on 130 _ rfl hi) hv) h

end Sys2Proof.Machine
end

