-- ==== Sys2Proof/Laws/KeepOps.lean ====
section
/-! SUPPORT. What each operation and each command of Machine/Ops.lean leaves as it was: one frame lemma for each. -/

namespace Sys2Proof.Machine

theorem State.emit_kept (s : State) (m1 : OutMsg) : Kept 2097152 s (State.emit s m1) := by
  unfold State.emit
  exact Kept.upd_out (s := s) rfl (List.prefix_append _ _) Kept.here

theorem State.setReg_kept (s : State) (a : Nat) (v : W32) : Kept 4 s (State.setReg s a v) := by
  unfold State.setReg
  exact Kept.upd_regs (s := s) rfl Kept.here

theorem State.setRegN_kept (s : State) (a : Nat) (v : Nat) : Kept 4 s (State.setRegN s a v) := by
  unfold State.setRegN
  exact Kept.step (State.setReg_kept ..) rfl Kept.here

theorem State.setReg64_kept (s : State) (a : Nat) (v : Nat) : Kept 4 s (State.setReg64 s a v) := by
  unfold State.setReg64
  exact Kept.step (State.setRegN_kept ..) rfl (Kept.step (State.setRegN_kept ..) rfl Kept.here)

theorem State.add64_kept (s : State) (a : Nat) (n : Nat) : Kept 4 s (State.add64 s a n) := by
  unfold State.add64
  exact Kept.step (State.setReg64_kept ..) rfl Kept.here

theorem State.tlpOut_kept (s : State) : Kept 4 s (State.tlpOut s) := by
  unfold State.tlpOut
  exact Kept.step (State.add64_kept ..) rfl Kept.here

theorem State.msiSend_kept (s : State) (fn : Nat) (vec : Nat) : Kept 2621444 s (State.msiSend s fn vec) := by
  unfold State.msiSend
  extract_lets -merge -underBinder +onlyGivenNames key
  try clear_value key
  split
  · refine Kept.ite ?_ ?_
    · exact Kept.upd_msixPend (s := s) rfl Kept.here
    · exact Kept.step (State.tlpOut_kept ..) rfl (Kept.step (State.emit_kept ..) rfl Kept.here)

theorem State.incSat_kept (s : State) (a : Nat) : Kept 4 s (State.incSat s a) := by
  unfold State.incSat
  refine Kept.ite ?_ ?_
  · exact Kept.here
  · exact Kept.step (State.setRegN_kept ..) rfl Kept.here

theorem State.cairnCount_kept (s : State) (w : Placed) (past : Nat) (drop : Nat) (sev : Nat) : Kept 4 s (State.cairnCount s w past drop sev) := by
  unfold State.cairnCount
  split
  · exact Kept.here
  · exact Kept.step (State.incSat_kept ..) rfl Kept.here
  · exact Kept.step (State.incSat_kept ..) rfl Kept.here

theorem State.setF_kept (s : State) (a : Nat) (lo : Nat) (n : Nat) (v : Nat) : Kept 4 s (State.setF s a lo n v) := by
  unfold State.setF
  exact Kept.step (State.setReg_kept ..) rfl Kept.here

theorem State.setB_kept (s : State) (a : Nat) (k : Nat) (b : Bool) : Kept 4 s (State.setB s a k b) := by
  unfold State.setB
  exact Kept.step (State.setF_kept ..) rfl Kept.here

theorem State.cairnSync_kept (s : State) : Kept 4 s (State.cairnSync s) := by
  unfold State.cairnSync
  extract_lets -merge -underBinder +onlyGivenNames b f oldest
  try clear_value b f oldest
  exact Kept.step (State.setB_kept ..) rfl (Kept.step (State.setB_kept ..) rfl (Kept.step (State.setB_kept ..) rfl (Kept.step (State.setReg64_kept ..) rfl (Kept.step (State.setF_kept ..) rfl (Kept.step (State.setRegN_kept ..) rfl Kept.here)))))

theorem State.cairnLog_kept (s : State) (sev : Nat) (cls : Nat) (inst : Nat) (code : Nat) (ctx : Nat) (items : List (Nat × List Byte)) : Kept 3735556 s (State.cairnLog s sev cls inst code ctx items) := by
  unfold State.cairnLog
  refine Kept.ite ?_ ?_
  · exact Kept.here
  · extract_lets -merge -underBinder +onlyGivenNames seq ceiling
    try clear_value seq ceiling
    split
    · extract_lets -merge -underBinder +onlyGivenNames noFw r
      try clear_value noFw r
      split
      · extract_lets -merge -underBinder +onlyGivenNames src s1
        try clear_value src
        have h_s1 : Kept 3735556 s s1 := by
          unfold s1
          exact Kept.upd_cairn (s := s) rfl Kept.here
        try clear_value s1
        extract_lets -merge -underBinder +onlyGivenNames s2
        have h_s2 : Kept 3735556 s s2 := by
          unfold s2
          exact Kept.step (State.cairnCount_kept ..) rfl (Kept.step (State.setReg64_kept ..) rfl h_s1)
        try clear_value s2
        extract_lets -merge -underBinder +onlyGivenNames s3
        have h_s3 : Kept 3735556 s s3 := by
          unfold s3
          exact Kept.step (State.cairnSync_kept ..) rfl (Kept.step (State.setReg64_kept ..) rfl h_s2)
        try clear_value s3
        extract_lets -merge -underBinder +onlyGivenNames evt
        try clear_value evt
        refine Kept.ite ?_ ?_
        · extract_lets -merge -underBinder +onlyGivenNames src1
          have h_src1 : Kept 3735556 s src1 := by
            unfold src1
            exact Kept.step (State.msiSend_kept ..) rfl h_s3
          try clear_value src1
          exact Kept.upd_lastEvtMsi (s := src1) rfl h_src1
        · exact h_s3

theorem State.setEng_kept (s : State) (c : Nat) (e : Engine) : Kept 131072 s (State.setEng s c e) := by
  unfold State.setEng
  exact Kept.upd_ce (s := s) rfl Kept.here

theorem State.ceInterrupt_kept (s : State) (c : Nat) : Kept 2752516 s (State.ceInterrupt s c) := by
  unfold State.ceInterrupt
  refine Kept.ite ?_ ?_
  · extract_lets -merge -underBinder +onlyGivenNames e gap
    try clear_value e gap
    split
    · refine Kept.ite ?_ ?_
      · exact Kept.step (State.msiSend_kept ..) rfl (Kept.step (State.setEng_kept ..) rfl Kept.here)
      · exact Kept.step (State.setEng_kept ..) rfl Kept.here
    · exact Kept.step (State.msiSend_kept ..) rfl (Kept.step (State.setEng_kept ..) rfl Kept.here)
  · exact Kept.here

theorem State.cqWrite_kept (s : State) (c : Nat) (r : Completion) : Kept 2753028 s (State.cqWrite s c r) := by
  unfold State.cqWrite
  extract_lets -merge -underBinder +onlyGivenNames tail e base
  try clear_value tail e base
  extract_lets -merge -underBinder +onlyGivenNames s1
  have h_s1 : Kept 2753028 s s1 := by
    unfold s1
    exact Kept.step (State.tlpOut_kept ..) rfl (Kept.upd_host (s := s) rfl (fun w => (writeBytes_wf _ _ _ w)) Kept.here)
  try clear_value s1
  extract_lets -merge -underBinder +onlyGivenNames next
  try clear_value next
  extract_lets -merge -underBinder +onlyGivenNames s2
  have h_s2 : Kept 2753028 s s2 := by
    unfold s2
    exact Kept.step (State.setEng_kept ..) rfl (Kept.step (State.setF_kept ..) rfl h_s1)
  try clear_value s2
  exact Kept.step (State.ceInterrupt_kept ..) rfl h_s2

theorem State.cqDrain_kept (s : State) (c : Nat) (l : List Completion) : Kept 2753028 s (State.cqDrain s c l) := by
  induction l generalizing s with
  | nil => exact Kept.step (State.setEng_kept ..) rfl Kept.here
  | cons r t ih =>
    unfold State.cqDrain
    extract_lets -merge -underBinder +onlyGivenNames e o
    clear_value e o
    refine Kept.ite ?_ ?_
    · exact Kept.step (ih _) rfl (Kept.step (State.setEng_kept ..) rfl (Kept.step (State.cqWrite_kept ..) rfl Kept.here))
    · exact Kept.step (State.setEng_kept ..) rfl Kept.here

theorem State.ceSync_kept (s : State) (c : Nat) : Kept 4 s (State.ceSync s c) := by
  unfold State.ceSync
  extract_lets -merge -underBinder +onlyGivenNames e
  try clear_value e
  exact Kept.step (State.setRegN_kept ..) rfl Kept.here

theorem State.post_kept (s : State) (c : Nat) (r : Completion) : Kept 2753028 s (State.post s c r) := by
  unfold State.post
  extract_lets -merge -underBinder +onlyGivenNames e
  try clear_value e
  split
  · exact Kept.step (State.ceSync_kept ..) rfl (Kept.step (State.incSat_kept ..) rfl Kept.here)
  · exact Kept.step (State.ceSync_kept ..) rfl (Kept.step (State.cqDrain_kept ..) rfl Kept.here)

theorem State.incWrap_kept (s : State) (a : Nat) : Kept 4 s (State.incWrap s a) := by
  unfold State.incWrap
  exact Kept.step (State.setRegN_kept ..) rfl Kept.here

theorem State.postEvent_kept (s : State) (c : Nat) (code : Nat) : Kept 2753028 s (State.postEvent s c code) := by
  unfold State.postEvent
  exact Kept.step (State.post_kept ..) rfl Kept.here

theorem State.draw64_kept (s : State) : Kept 4194304 s (State.draw64 s).2 := by
  unfold State.draw64
  refine Kept.pair2 ?_
  exact Kept.upd_freeCtr (s := s) rfl (Nat.le_succ _) Kept.here

theorem State.setRill_kept (s : State) (k : Nat) (r : Rill) : Kept 8192 s (State.setRill s k r) := by
  unfold State.setRill
  exact Kept.upd_rills (s := s) rfl Kept.here

theorem State.modRill_kept (s : State) (k : Nat) (f : Rill → Rill) : Kept 8192 s (State.modRill s k f) := by
  unfold State.modRill
  exact Kept.step (State.setRill_kept ..) rfl Kept.here

theorem State.modSlot_kept (s : State) (k : Nat) (n : Nat) (f : Slot → Slot) : Kept 8192 s (State.modSlot s k n f) := by
  unfold State.modSlot
  extract_lets -merge -underBinder +onlyGivenNames r
  try clear_value r
  exact Kept.step (State.setRill_kept ..) rfl Kept.here

theorem State.storeWrite_kept (s : State) (k : Nat) (a : Nat) (b : List Byte) (poison : Bool) : Kept 1088 s (State.storeWrite s k a b poison) := by
  unfold State.storeWrite
  exact Kept.upd_store_storePoison (s := s) rfl (fun w => (writeBytes_wf _ _ _ w)) Kept.here

theorem State.modQueue_kept (s : State) (k : Nat) (q : Nat) (f : Queue → Queue) : Kept 8192 s (State.modQueue s k q f) := by
  unfold State.modQueue
  exact Kept.step (State.modRill_kept ..) rfl Kept.here

theorem State.stackWrite_kept (s : State) (pos : Nat) (off : Nat) (b : List Byte) (poison : Bool) : Kept 4352 s (State.stackWrite s pos off b poison) := by
  unfold State.stackWrite
  exact Kept.upd_stack_stackPoison (s := s) rfl (fun w => (writeBytes_wf _ _ _ w)) Kept.here

theorem State.poolWrite_kept (s : State) (k : Nat) (a : Nat) (b : List Byte) (poison : Bool) : Kept 680564733841876926926749214863536425088 s (State.poolWrite s k a b poison) := by
  unfold State.poolWrite
  exact Kept.upd_pool_poolPoison_lineReads (s := s) rfl (fun w => (writeBytes_wf _ _ _ w)) Kept.here

theorem whenSome_kept {m : Nat} {s0 : State} {a : Type} {o : Option a} {s : State} {f : a → State → State} (hm : 0 ||| m = m) (h : Kept m s0 s) (hf : ∀ z0 x, Kept m s0 x → Kept m s0 (f z0 x)) :
    KeptR m s0 (whenSome o s f) := by
  unfold whenSome
  split
  · refine KeptR.next ?_
    exact hf _ _ h
  · refine KeptR.next ?_
    exact h

theorem State.setPendOff_kept (s : State) (cls : Nat) (inst : Nat) (b : Bool) : Kept 4 s (State.setPendOff s cls inst b) := by
  unfold State.setPendOff
  exact Kept.step (State.setB_kept ..) rfl Kept.here

theorem State.setPst_kept (s : State) (cls : Nat) (inst : Nat) (v : Nat) : Kept 4 s (State.setPst s cls inst v) := by
  unfold State.setPst
  exact Kept.step (State.setF_kept ..) rfl Kept.here

theorem State.setPendOn_kept (s : State) (cls : Nat) (inst : Nat) (b : Bool) : Kept 4 s (State.setPendOn s cls inst b) := by
  unfold State.setPendOn
  exact Kept.step (State.setB_kept ..) rfl Kept.here

theorem State.errBit_kept (s : State) (cls : Nat) (inst : Nat) (k : Nat) : Kept 4 s (State.errBit s cls inst k) := by
  unfold State.errBit
  exact Kept.step (State.setB_kept ..) rfl Kept.here

theorem State.ignored_kept (s : State) (cls : Nat) (inst : Nat) : Kept 4 s (State.ignored s cls inst) := by
  unfold State.ignored
  exact Kept.step (State.errBit_kept ..) rfl Kept.here

theorem whenB_kept {m : Nat} {s0 : State} {g : Bool} {s : State} {f : State → State} (hm : 0 ||| m = m) (h : Kept m s0 s) (hf : ∀ x, Kept m s0 x → Kept m s0 (f x)) :
    KeptR m s0 (whenB g s f) := by
  unfold whenB
  refine KeptR.ite ?_ ?_
  · refine KeptR.next ?_
    exact hf _ h
  · refine KeptR.next ?_
    exact h

theorem State.drawBytes_kept (s : State) (n : Nat) : Kept 4194304 s (State.drawBytes s n).2 := by
  unfold State.drawBytes
  refine Kept.pair2 ?_
  exact Kept.upd_freeCtr (s := s) rfl (Nat.le_succ _) Kept.here

theorem onUnit_kept {m : Nat} {s0 : State} {ok : Bool} {g : Bool} {s : State} {f : State → State} (hm : 0 ||| m = m) (h : Kept m s0 s) (hf : ∀ x, Kept m s0 x → Kept m s0 (f x)) :
    KeptR m s0 (onUnit ok g s f) := by
  unfold onUnit
  refine KeptR.ite ?_ ?_
  · refine KeptR.next ?_
    exact hf _ h
  · refine KeptR.next ?_
    exact h

theorem State.atTime_kept (s : State) (now : Nat) : Kept 2 s (State.atTime s now) := by
  unfold State.atTime
  split
  · next h => exact Kept.upd_clk (s := s) rfl ⟨Nat.le_of_lt h, Nat.le_add_right ..⟩ Kept.here
  · exact Kept.here

theorem State.atCycle_kept (s : State) (c : Nat) : Kept 2 s (State.atCycle s c) := by
  unfold State.atCycle
  split
  · next h => exact Kept.upd_clk (s := s) rfl ⟨Nat.le_add_right .., Nat.le_of_lt h⟩ Kept.here
  · exact Kept.here


/-- A row for a unit keeps what its answer keeps. -/
theorem unitRow_kept {m : Nat} {s0 s : State} {ok : Bool} {o : Host.Outcome State Fault Refusal} (hs : Kept m s0 s) (h : KeptR m s0 o) :
    KeptR m s0 (unitRow ok s o) := by
  unfold unitRow
  exact KeptR.ite h (KeptR.next hs)

theorem State.addSat_kept (s : State) (a : Nat) (n : Nat) : Kept 4 s (State.addSat s a n) := by
  unfold State.addSat
  exact Kept.step (State.setRegN_kept ..) rfl Kept.here

theorem State.utcApply_kept (s : State) : Kept 4 s (State.utcApply s) := by
  unfold State.utcApply
  refine Kept.ite ?_ ?_
  · exact Kept.step (State.setB_kept ..) rfl (Kept.step (State.setF_kept ..) rfl Kept.here)
  · exact Kept.here

theorem State.tlpIn_kept (s : State) : Kept 4 s (State.tlpIn s) := by
  unfold State.tlpIn
  exact Kept.step (State.add64_kept ..) rfl Kept.here

theorem State.urSent_kept (s : State) : Kept 4 s (State.urSent s) := by
  unfold State.urSent
  exact Kept.step (State.incSat_kept ..) rfl Kept.here

end Sys2Proof.Machine
end

