-- ==== Sys2Proof/Laws/KeepGauge.lean ====
section
/-! SUPPORT. What each operation and each command of Machine/Gauge.lean leaves as it was: one frame lemma for each. -/

namespace Sys2Proof.Machine

theorem State.setGaugeVal_kept (s : State) (ep : Nat) (g : Nat) (v : Nat) : Kept 4 s (State.setGaugeVal s ep g v) := by
  unfold State.setGaugeVal
  refine Kept.ite ?_ ?_
  · exact Kept.step (State.setReg64_kept ..) rfl Kept.here
  · exact Kept.step (State.setRegN_kept ..) rfl Kept.here

theorem State.gaugeBytes_kept (s : State) (ep : Nat) (g : Nat) (bytes : List Byte) : Kept 50331652 s (State.gaugeBytes s ep g bytes) := by
  unfold State.gaugeBytes
  extract_lets -merge -underBinder +onlyGivenNames key held
  try clear_value key held
  refine Kept.ite ?_ ?_
  · exact Kept.upd_gaugePend (s := s) rfl Kept.here
  · extract_lets -merge -underBinder +onlyGivenNames alg chunk
    try clear_value alg chunk
    split
    · extract_lets -merge -underBinder +onlyGivenNames s1
      have h_s1 : Kept 50331652 s s1 := by
        unfold s1
        exact Kept.step (State.setReg64_kept ..) rfl (Kept.step (State.setGaugeVal_kept ..) rfl Kept.here)
      try clear_value s1
      exact Kept.upd_gaugePend_gaugeDue (s := s1) rfl h_s1

theorem State.feedStream_kept (s : State) (ep : Nat) (dir : Nat) (col : Nat) (row : Nat) (q : Nat) (ctx : Nat) (bytes : List Byte) : Kept 50331652 s (State.feedStream s ep dir col row q ctx bytes) := by
  unfold State.feedStream
  refine Kept.foldl _ (fun x h_x a => ?_) ?_
  · extract_lets -merge -underBinder +onlyGivenNames sel rl
    try clear_value sel rl
    refine Kept.ite ?_ ?_
    · exact Kept.step (State.gaugeBytes_kept ..) rfl h_x
    · exact h_x
  · exact Kept.here

theorem State.feedUnit_kept (s : State) (ep : Nat) (kind : Nat) (unit : Nat) (dir : Nat) (bytes : List Byte) : Kept 50331652 s (State.feedUnit s ep kind unit dir bytes) := by
  unfold State.feedUnit
  refine Kept.foldl _ (fun x h_x a => ?_) ?_
  · extract_lets -merge -underBinder +onlyGivenNames sel
    try clear_value sel
    refine Kept.ite ?_ ?_
    · exact Kept.step (State.gaugeBytes_kept ..) rfl h_x
    · exact h_x
  · exact Kept.here

theorem State.gaugeIgnored_kept (s : State) (ep : Nat) (g : Nat) : Kept 4 s (State.gaugeIgnored s ep g) := by
  unfold State.gaugeIgnored
  exact Kept.step (State.ignored_kept ..) rfl (Kept.step (State.setB_kept ..) rfl Kept.here)

theorem State.gaugeCtl_kept (s : State) (ep : Nat) (g : Nat) (value : W32) : Kept 4 s (State.gaugeCtl s ep g value) := by
  unfold State.gaugeCtl
  extract_lets -merge -underBinder +onlyGivenNames len
  try clear_value len
  refine Kept.ite ?_ ?_
  · exact Kept.step (State.gaugeIgnored_kept ..) rfl Kept.here
  · refine Kept.ite ?_ ?_
    · exact Kept.step (State.gaugeIgnored_kept ..) rfl Kept.here
    · exact Kept.step (State.setReg_kept ..) rfl Kept.here

theorem execGaugeCtlWrite_kept (ep : Nat) (g : Nat) (value : W32) (s : State) : KeptR 4 s (execGaugeCtlWrite ep g value s) := by
  unfold execGaugeCtlWrite
  refine onUnit_kept rfl Kept.here (fun a h_a => ?_)
  · exact Kept.step (State.gaugeCtl_kept ..) rfl h_a

theorem execGaugeEnChange_kept (ep : Nat) (g : Nat) (s : State) : KeptR 4 s (execGaugeEnChange ep g s) := by
  unfold execGaugeEnChange
  refine onUnit_kept rfl Kept.here (fun a h_a => ?_)
  · extract_lets -merge -underBinder +onlyGivenNames en
    try clear_value en
    exact Kept.step (State.setB_kept ..) rfl h_a

theorem State.gaugeSet_kept (s : State) (ep : Nat) (g : Nat) (off : Nat) (value : W32) : Kept 12 s (State.gaugeSet s ep g off value) := by
  unfold State.gaugeSet
  extract_lets -merge -underBinder +onlyGivenNames a
  try clear_value a
  refine Kept.ite ?_ ?_
  · exact Kept.step (State.gaugeIgnored_kept ..) rfl Kept.here
  · refine Kept.ite ?_ ?_
    · exact Kept.step (State.setB_kept ..) rfl (Kept.step (State.setReg_kept ..) rfl Kept.here)
    · refine Kept.ite ?_ ?_
      · exact Kept.step (State.setReg_kept ..) rfl Kept.here
      · refine Kept.ite ?_ ?_
        · exact Kept.upd_staged (s := s) rfl Kept.here
        · extract_lets -merge -underBinder +onlyGivenNames lo
          try clear_value lo
          extract_lets -merge -underBinder +onlyGivenNames src
          have h_src : Kept 12 s src := by
            unfold src
            exact Kept.step (State.setReg_kept ..) rfl (Kept.step (State.setReg_kept ..) rfl Kept.here)
          try clear_value src
          exact Kept.upd_staged (s := src) rfl h_src

theorem execGaugeWrite_kept (ep : Nat) (g : Nat) (off : Nat) (value : W32) (s : State) : KeptR 12 s (execGaugeWrite ep g off value s) := by
  unfold execGaugeWrite
  refine onUnit_kept rfl Kept.here (fun a h_a => ?_)
  · exact Kept.step (State.gaugeSet_kept ..) rfl h_a

theorem execGaugeChunkBoundary_kept (ep : Nat) (g : Nat) (s : State) : KeptR 50331652 s (execGaugeChunkBoundary ep g s) := by
  unfold execGaugeChunkBoundary
  refine onUnit_kept rfl Kept.here (fun a h_a => ?_)
  · extract_lets -merge -underBinder +onlyGivenNames s1
    have h_s1 : Kept 50331652 s s1 := by
      unfold s1
      exact Kept.step (State.setReg64_kept ..) rfl h_a
    try clear_value s1
    extract_lets -merge -underBinder +onlyGivenNames s2
    have h_s2 : Kept 50331652 s s2 := by
      unfold s2
      exact Kept.step (State.setGaugeVal_kept ..) rfl (Kept.step (State.incWrap_kept ..) rfl h_s1)
    try clear_value s2
    exact Kept.step (State.gaugeBytes_kept ..) rfl (Kept.upd_gaugeDue (s := s2) rfl h_s2)

end Sys2Proof.Machine
end

