-- ==== Sys2Proof/Laws/KeepFabric.lean ====
section
/-! SUPPORT. What each operation and each command of Machine/Fabric.lean leaves as it was: one frame lemma for each. -/

namespace Sys2Proof.Machine

theorem State.fabAdd_kept (s : State) (rch : Nat) (off : Nat) (n : Nat) : Kept 4 s (State.fabAdd s rch off n) := by
  unfold State.fabAdd
  refine Kept.ite ?_ ?_
  · exact Kept.step (State.add64_kept ..) rfl Kept.here
  · exact Kept.here

theorem State.countFlits_kept (s : State) (p : Packet) (path : List (Nat × Nat)) : Kept 4 s (State.countFlits s p path) := by
  unfold State.countFlits
  refine Kept.foldl _ (fun x h_x a => ?_) ?_
  · exact Kept.step (State.fabAdd_kept ..) rfl h_x
  · exact Kept.here

theorem State.fabInc_kept (s : State) (rch : Nat) (off : Nat) : Kept 4 s (State.fabInc s rch off) := by
  unfold State.fabInc
  refine Kept.ite ?_ ?_
  · exact Kept.step (State.incSat_kept ..) rfl Kept.here
  · exact Kept.here

theorem State.dropAtLink_kept (s : State) (p : Packet) (gone : Nat × Nat → Bool) : Kept 4 s (State.dropAtLink s p gone) := by
  unfold State.dropAtLink
  extract_lets -merge -underBinder +onlyGivenNames before at'
  try clear_value before at'
  exact Kept.step (State.fabInc_kept ..) rfl (Kept.step (State.countFlits_kept ..) rfl Kept.here)

theorem State.inject?_kept (s : State) (p : Packet) : KeptO 50348036 s (State.inject? s p) := by
  unfold State.inject?
  split
  · exact KeptO.none
  · extract_lets -merge -underBinder +onlyGivenNames p1
    try clear_value p1
    extract_lets -merge -underBinder +onlyGivenNames s1
    have h_s1 : Kept 50348036 s s1 := by
      unfold s1
      refine Kept.ite ?_ ?_
      · exact Kept.step (State.dropAtLink_kept ..) rfl Kept.here
      · exact Kept.upd_net (s := s) rfl Kept.here
    try clear_value s1
    refine KeptO.some ?_
    refine Kept.ite ?_ ?_
    · exact Kept.step (State.feedStream_kept ..) rfl h_s1
    · exact h_s1

theorem State.unreachable_kept (s : State) (p : Packet) : Kept 3735556 s (State.unreachable s p) := by
  unfold State.unreachable
  extract_lets -merge -underBinder +onlyGivenNames s1
  have h_s1 : Kept 3735556 s s1 := by
    unfold s1
    exact Kept.step (State.fabInc_kept ..) rfl Kept.here
  try clear_value s1
  extract_lets -merge -underBinder +onlyGivenNames first
  try clear_value first
  exact Kept.step (State.cairnLog_kept ..) rfl h_s1

theorem State.inject_kept (s : State) (p : Packet) : Kept 54083588 s (State.inject s p) := by
  unfold State.inject
  split
  · exact Kept.step (State.unreachable_kept ..) rfl Kept.here
  · rename_i s' hq1
    have h_s' := (show KeptO 54083588 s _ by
      exact KeptO.step (State.inject?_kept ..) rfl Kept.here
      ).on _ hq1
    clear hq1
    exact h_s'

theorem State.fresh_kept (s : State) : Kept 32768 s (State.fresh s).2 := by
  unfold State.fresh
  refine Kept.pair2 ?_
  exact Kept.upd_nextXid (s := s) rfl Kept.here

theorem State.takePacket_kept (s : State) (i : Nat) (p : Packet) : Kept 50348036 s (State.takePacket s i p) := by
  unfold State.takePacket
  extract_lets -merge -underBinder +onlyGivenNames s1
  have h_s1 : Kept 50348036 s s1 := by
    unfold s1
    exact Kept.step (State.countFlits_kept ..) rfl (Kept.upd_net (s := s) rfl Kept.here)
  try clear_value s1
  refine Kept.ite ?_ ?_
  · exact Kept.step (State.feedStream_kept ..) rfl h_s1
  · exact h_s1

theorem State.rejectPacket_kept (s : State) (p : Packet) (cls : Nat) (inst : Nat) (code : Option Nat) : Kept 54083588 s (State.rejectPacket s p cls inst code) := by
  unfold State.rejectPacket
  extract_lets -merge -underBinder +onlyGivenNames s1
  have h_s1 : Kept 54083588 s s1 := by
    unfold s1
    refine Kept.ite ?_ ?_
    · exact Kept.here
    · exact Kept.step (State.cairnLog_kept ..) rfl Kept.here
  try clear_value s1
  split
  · exact h_s1
  · split
    · exact h_s1
    · exact Kept.step (State.inject_kept ..) rfl h_s1

theorem State.takes_kept {m : Nat} {s0 : State} {s : State} {i : Nat} {p : Packet} {f : State → State} (hm : 54083588 ||| m = m) (h : Kept m s0 s) (hf : ∀ x, Kept m s0 x → Kept m s0 (f x)) :
    Kept m s0 (State.takes s i p f) := by
  unfold State.takes
  extract_lets -merge -underBinder +onlyGivenNames s1
  have h_s1 : Kept m s0 s1 := by
    unfold s1
    exact Kept.step (State.takePacket_kept ..) (sub_chain rfl hm) h
  try clear_value s1
  refine Kept.ite ?_ ?_
  · exact Kept.step (State.fabInc_kept ..) (sub_chain rfl hm) h_s1
  · split
    · exact Kept.step (State.rejectPacket_kept ..) (sub_chain rfl hm) h_s1
    · exact hf _ h_s1

theorem State.packetRow_kept {m : Nat} {s0 : State} {s : State} {i : Nat} {kind : Nat} {pool : Bool} {f : Packet → State → State} (hm : 54083588 ||| m = m) (h : Kept m s0 s) (hf : ∀ z0 x, Kept m s0 x → Kept m s0 (f z0 x)) :
    KeptR m s0 (State.packetRow s i kind pool f) := by
  unfold State.packetRow
  refine whenSome_kept (sub_chain rfl hm) h (fun a a1 h_a1 => ?_)
  · refine State.takes_kept (sub_chain rfl hm) h_a1 (fun a2 h_a2 => ?_)
    · exact hf _ _ h_a2

theorem State.linkLoss_kept (s : State) (mesh : Bool → Bool) (gone : Nat × Nat → Bool) : Kept 4210692 s (State.linkLoss s mesh gone) := by
  unfold State.linkLoss
  split
  · rename_i keep s1 hq
    have h_s1 := Kept.eq2 hq (m := 4210692) (s0 := s) (by
      refine Kept.foldl2 _ (fun x h_x a => ?_) ?_
      · refine Kept.ite2 ?_ ?_
        · split
          · rename_i v s2 hq1
            have h_s2 := Kept.eq2 hq1 (m := 4210692) (s0 := s) (by
              exact Kept.step (State.draw64_kept ..) rfl h_x
              )
            clear hq1
            refine Kept.ite2 ?_ ?_
            · refine Kept.pair2 ?_
              exact Kept.step (State.dropAtLink_kept ..) rfl h_s2
            · refine Kept.pair2 ?_
              exact h_s2
        · refine Kept.pair2 ?_
          exact h_x
      · refine Kept.pair2 ?_
        exact Kept.here
      )
    clear hq
    exact Kept.upd_net (s := s1) rfl h_s1

end Sys2Proof.Machine
end

