-- ==== Sys2Proof/Laws/KeepEzWire.lean ====
section
/-! SUPPORT. What each operation and each command of Machine/EzWire.lean leaves as it was: one frame lemma for each. -/

namespace Sys2Proof.Machine

theorem State.routeDir_kept (s : State) (p : WirePkt) (via : Option Nat) : Kept 4194304 s (State.routeDir s p via).2 := by
  unfold State.routeDir
  split
  · refine Kept.pair2 ?_
    exact Kept.here
  · refine Kept.pair2 ?_
    exact Kept.here
  · refine Kept.ite2 ?_ ?_
    · refine Kept.pair2 ?_
      exact Kept.here
    · extract_lets -merge -underBinder +onlyGivenNames size plus minus short long ctl extra
      try clear_value size plus minus short long ctl extra
      refine Kept.ite2 ?_ ?_
      · refine Kept.ite2 ?_ ?_
        · refine Kept.pair2 ?_
          exact Kept.here
        · refine Kept.ite2 ?_ ?_
          · split
            · rename_i v s1 hq
              have h_s1 := Kept.eq2 hq (m := 4194304) (s0 := s) (by
                exact Kept.step (State.draw64_kept ..) rfl Kept.here
                )
              clear hq
              refine Kept.pair2 ?_
              exact h_s1
          · refine Kept.pair2 ?_
            exact Kept.here
      · refine Kept.pair2 ?_
        exact Kept.here

theorem State.setLink_kept (s : State) (l : Nat) (x : LinkSt) : Kept 8796093022208 s (State.setLink s l x) := by
  unfold State.setLink
  exact Kept.upd_links (s := s) rfl Kept.here

theorem State.noteCredit_kept (s : State) (dir : Nat) : Kept 2251799813685248 s (State.noteCredit s dir) := by
  unfold State.noteCredit
  exact Kept.upd_starved (s := s) rfl Kept.here

theorem State.sendCodeword_kept (s : State) (l : Nat) (fs : List TxFlit) : Kept 8796095119360 s (State.sendCodeword s l fs) := by
  unfold State.sendCodeword
  extract_lets -merge -underBinder +onlyGivenNames x fs1 cw pkts
  try clear_value x fs1 cw pkts
  exact Kept.step (State.emit_kept ..) rfl (Kept.step (State.setLink_kept ..) rfl Kept.here)

theorem State.sendFlits_kept (s : State) (l : Nat) (n : Nat) (fs : List TxFlit) : Kept 8796095119360 s (State.sendFlits s l n fs) := by
  induction n generalizing s fs with
  | zero => exact Kept.here
  | succ n ih => exact Kept.ite Kept.here (Kept.step (ih _ _) rfl (Kept.step (State.sendCodeword_kept ..) rfl Kept.here))

theorem State.linkPump_kept (s : State) (l : Nat) : Kept 2260595959136260 s (State.linkPump s l) := by
  unfold State.linkPump
  refine Kept.ite ?_ ?_
  · exact Kept.here
  · extract_lets -merge -underBinder +onlyGivenNames x room lc
    try clear_value x room lc
    split
    · extract_lets -merge -underBinder +onlyGivenNames ps fs
      try clear_value ps fs
      extract_lets -merge -underBinder +onlyGivenNames s1
      have h_s1 : Kept 2260595959136260 s s1 := by
        unfold s1
        exact Kept.step (State.sendFlits_kept ..) rfl (Kept.step (State.setLink_kept ..) rfl Kept.here)
      try clear_value s1
      extract_lets -merge -underBinder +onlyGivenNames s2
      have h_s2 : Kept 2260595959136260 s s2 := by
        unfold s2
        exact Kept.step (State.add64_kept ..) rfl h_s1
      try clear_value s2
      refine Kept.step (State.noteCredit_kept ..) rfl ?_
      refine Kept.foldl _ (fun x1 h_x1 a => ?_) ?_
      · exact Kept.step (State.feedUnit_kept ..) rfl h_x1
      · exact h_s2

theorem State.takeLink_kept (s : State) (p : WirePkt) (dir : Nat) : Kept 3386495865978884 s (State.takeLink s p dir) := by
  unfold State.takeLink
  split
  · exact Kept.upd_wireHold (s := s) rfl Kept.here
  · exact Kept.step (State.linkPump_kept ..) rfl (Kept.step (State.setLink_kept ..) rfl Kept.here)

theorem State.wireOut_kept (s : State) (p : WirePkt) (via : Option Nat) : Kept 3386495870173188 s (State.wireOut s p via) := by
  unfold State.wireOut
  split
  · rename_i s1 hq
    have h_s1 := Kept.eq2 hq (m := 3386495870173188) (s0 := s) (by
      exact Kept.step (State.routeDir_kept ..) rfl Kept.here
      )
    clear hq
    exact h_s1
  · rename_i dir s2 hq1
    have h_s2 := Kept.eq2 hq1 (m := 3386495870173188) (s0 := s) (by
      exact Kept.step (State.routeDir_kept ..) rfl Kept.here
      )
    clear hq1
    extract_lets -merge -underBinder +onlyGivenNames q
    try clear_value q
    refine Kept.ite ?_ ?_
    · exact Kept.step (State.takeLink_kept ..) rfl h_s2
    · exact Kept.upd_wireHold (s := s2) rfl h_s2

theorem State.wireTo_kept (s : State) (j : Nat) (rank : Nat) (p : WirePkt) : Kept 3386495870173188 s (State.wireTo s j rank p) := by
  unfold State.wireTo
  extract_lets -merge -underBinder +onlyGivenNames w
  try clear_value w
  exact Kept.step (State.wireOut_kept ..) rfl Kept.here

theorem State.retryHold_kept (s : State) : Kept 3386495870173188 s (State.retryHold s) := by
  unfold State.retryHold
  refine Kept.foldl _ (fun x h_x a => ?_) ?_
  · refine Kept.ite ?_ ?_
    · exact Kept.step (State.takeLink_kept ..) rfl h_x
    · exact Kept.step (State.wireOut_kept ..) rfl h_x
  · exact Kept.upd_wireHold (s := s) rfl Kept.here

end Sys2Proof.Machine
end

