-- ==== Sys2Proof/Laws/KeepXl.lean ====
section
/-! SUPPORT. What each operation and each command of Machine/Xl.lean leaves as it was: one frame lemma for each. -/

namespace Sys2Proof.Machine

theorem State.segsWrite_kept (s : State) (l : List (Nat × Nat × Nat)) (b : List Byte) (poison : Bool) :
    Kept 4352 s (State.segsWrite s l b poison) := by
  induction l generalizing s b with
  | nil => exact Kept.here
  | cons e t ih => exact Kept.step (ih _ _) rfl (Kept.step (State.stackWrite_kept ..) rfl Kept.here)

theorem State.xlLatch_kept (s : State) (c : Nat) (e : XlFail) (wr : Bool) : Kept 3735556 s (State.xlLatch s c e wr) := by
  unfold State.xlLatch
  extract_lets -merge -underBinder +onlyGivenNames s1
  have h_s1 : Kept 3735556 s s1 := by
    unfold s1
    exact Kept.step (State.incSat_kept ..) rfl Kept.here
  try clear_value s1
  refine Kept.ite ?_ ?_
  · exact h_s1
  · extract_lets -merge -underBinder +onlyGivenNames s2
    have h_s2 : Kept 3735556 s s2 := by
      unfold s2
      exact Kept.step (State.setRegN_kept ..) rfl h_s1
    try clear_value s2
    exact Kept.step (State.cairnLog_kept ..) rfl (Kept.step (State.setReg64_kept ..) rfl h_s2)

theorem State.walkStart_kept (s : State) (c : Nat) : Kept 4 s (State.walkStart s c) := by
  unfold State.walkStart
  exact Kept.step (State.add64_kept ..) rfl Kept.here

theorem State.tlbAdd_kept (s : State) (t : Tlb) : Kept 138412032 s (State.tlbAdd s t) := by
  unfold State.tlbAdd
  split
  · rename_i v s' hq
    have h_s' := Kept.eq2 hq (m := 138412032) (s0 := s) (by
      refine Kept.ite2 ?_ ?_
      · refine Kept.pair2 ?_
        exact Kept.here
      · exact Kept.step (State.draw64_kept ..) rfl Kept.here
      )
    clear hq
    exact Kept.upd_tlb (s := s') rfl h_s'

theorem State.walkAdd_kept (s : State) (w : WalkEnt) : Kept 272629760 s (State.walkAdd s w) := by
  unfold State.walkAdd
  split
  · rename_i v s' hq
    have h_s' := Kept.eq2 hq (m := 272629760) (s0 := s) (by
      refine Kept.ite2 ?_ ?_
      · refine Kept.pair2 ?_
        exact Kept.here
      · exact Kept.step (State.draw64_kept ..) rfl Kept.here
      )
    clear hq
    exact Kept.upd_walkCache (s := s') rfl h_s'

theorem State.walkEnd_kept (s : State) (unit : Nat) (c : Nat) (va : Nat) : Kept 406847488 s (State.walkEnd s unit c va).2 := by
  unfold State.walkEnd
  extract_lets -merge -underBinder +onlyGivenNames root
  try clear_value root
  split
  · refine Kept.pair2 ?_
    exact Kept.here
  · extract_lets -merge -underBinder +onlyGivenNames s1
    have h_s1 : Kept 406847488 s s1 := by
      unfold s1
      refine Kept.foldl _ (fun x h_x a => ?_) ?_
      · exact Kept.step (State.walkAdd_kept ..) rfl h_x
      · exact Kept.here
    try clear_value s1
    refine Kept.pair2 ?_
    refine Kept.ite ?_ ?_
    · exact h_s1
    · exact Kept.step (State.tlbAdd_kept ..) rfl h_s1

theorem State.xlPage_kept (s : State) (unit : Nat) (c : Nat) (va : Nat) : Kept 406847492 s (State.xlPage s unit c va).2 := by
  unfold State.xlPage
  split
  · refine Kept.pair2 ?_
    exact Kept.here
  · exact Kept.step (State.walkEnd_kept ..) rfl (Kept.step (State.walkStart_kept ..) rfl Kept.here)

theorem State.xlPages_kept (s : State) (unit : Nat) (c : Nat) (wr : Bool) (f : Nat) (va : Nat) (n : Nat) :
    Kept 406847492 s (State.xlPages s unit c wr f va n).2 := by
  induction f generalizing s va n with
  | zero => exact Kept.here
  | succ f ih =>
    unfold State.xlPages
    refine Kept.ite2 Kept.here ?_
    split
    · next e s1 hq => exact Kept.eq2 hq (Kept.step (State.xlPage_kept ..) rfl Kept.here)
    · next t s1 hq =>
      have h1 : Kept 406847492 s s1 := Kept.eq2 hq (Kept.step (State.xlPage_kept ..) rfl Kept.here)
      extract_lets -merge -underBinder +onlyGivenNames len
      clear_value len
      split
      · exact h1
      · split
        · next e s2 hr => exact Kept.eq2 hr (Kept.step (ih ..) rfl h1)
        · next l s2 hr => exact Kept.eq2 hr (Kept.step (ih ..) rfl h1)

theorem State.translate_kept (s : State) (unit : Nat) (c : Nat) (va : Nat) (n : Nat) (wr : Bool) : Kept 410583044 s (State.translate s unit c va n wr).2 := by
  unfold State.translate
  split
  · refine Kept.pair2 ?_
    exact Kept.step (State.xlLatch_kept ..) rfl Kept.here
  · split
    · rename_i e s1 hq
      have h_s1 := Kept.eq2 hq (m := 410583044) (s0 := s) (by
        exact Kept.step (State.xlPages_kept ..) rfl Kept.here
        )
      clear hq
      refine Kept.pair2 ?_
      exact Kept.step (State.xlLatch_kept ..) rfl h_s1
    · rename_i l s2 hq1
      have h_s2 := Kept.eq2 hq1 (m := 410583044) (s0 := s) (by
        exact Kept.step (State.xlPages_kept ..) rfl Kept.here
        )
      clear hq1
      refine Kept.pair2 ?_
      exact h_s2

theorem State.vaPoison_kept (s : State) (c : Nat) (va : Nat) (n : Nat) : Kept 410587396 s (State.vaPoison s c va n) := by
  unfold State.vaPoison
  split
  · rename_i val s1 hq
    have h_s1 := Kept.eq2 hq (m := 410587396) (s0 := s) (by
      exact Kept.step (State.translate_kept ..) rfl Kept.here
      )
    clear hq
    exact h_s1
  · rename_i l s2 hq1
    have h_s2 := Kept.eq2 hq1 (m := 410587396) (s0 := s) (by
      exact Kept.step (State.translate_kept ..) rfl Kept.here
      )
    clear hq1
    exact Kept.step (State.segsWrite_kept ..) rfl h_s2

theorem State.vaWrite_kept (s : State) (unit : Nat) (c : Nat) (va : Nat) (b : List Byte) (poison : Bool) : Kept 410587396 s (State.vaWrite s unit c va b poison).2 := by
  unfold State.vaWrite
  split
  · rename_i e s1 hq
    have h_s1 := Kept.eq2 hq (m := 410587396) (s0 := s) (by
      exact Kept.step (State.translate_kept ..) rfl Kept.here
      )
    clear hq
    refine Kept.pair2 ?_
    exact h_s1
  · rename_i l s2 hq1
    have h_s2 := Kept.eq2 hq1 (m := 410587396) (s0 := s) (by
      exact Kept.step (State.translate_kept ..) rfl Kept.here
      )
    clear hq1
    refine Kept.pair2 ?_
    exact Kept.step (State.segsWrite_kept ..) rfl h_s2

theorem State.vaRead_kept (s : State) (c : Nat) (va : Nat) (n : Nat) : Kept 410583044 s (State.vaRead s c va n).2 := by
  unfold State.vaRead
  split
  · rename_i e s1 hq
    have h_s1 := Kept.eq2 hq (m := 410583044) (s0 := s) (by
      exact Kept.step (State.translate_kept ..) rfl Kept.here
      )
    clear hq
    refine Kept.pair2 ?_
    exact h_s1
  · rename_i l s2 hq1
    have h_s2 := Kept.eq2 hq1 (m := 410583044) (s0 := s) (by
      exact Kept.step (State.translate_kept ..) rfl Kept.here
      )
    clear hq1
    refine Kept.ite2 ?_ ?_
    · refine Kept.pair2 ?_
      exact h_s2
    · refine Kept.pair2 ?_
      exact h_s2

theorem State.eccCorr_kept (s : State) (l : Corrected) : Kept 4 s (State.eccCorr s l) := by
  unfold State.eccCorr
  refine Kept.foldl _ (fun x h_x a => ?_) ?_
  · refine Kept.ite ?_ ?_
    · exact Kept.step (State.incSat_kept ..) rfl h_x
    · exact h_x
  · exact Kept.here

end Sys2Proof.Machine
end

