-- ==== Sys2Proof/Laws/KeepOpDesc.lean ====
section
/-! SUPPORT. What each operation and each command of Machine/OpDesc.lean leaves as it was: one frame lemma for each. -/

namespace Sys2Proof.Machine

theorem State.setRcv_kept (s : State) (c : Nat) (r : Rcv) : Kept 1099511627776 s (State.setRcv s c r) := by
  unfold State.setRcv
  exact Kept.upd_rcvs (s := s) rfl Kept.here

theorem State.endLong_kept (s : State) (c : Nat) (h1 : Nat) (code : Nat) (result : List Byte) : Kept 2753028 s (State.endLong s c h1 code result) := by
  unfold State.endLong
  split
  · exact Kept.here
  · extract_lets -merge -underBinder +onlyGivenNames e
    try clear_value e
    extract_lets -merge -underBinder +onlyGivenNames s1
    have h_s1 : Kept 2753028 s s1 := by
      unfold s1
      exact Kept.step (State.setEng_kept ..) rfl Kept.here
    try clear_value s1
    exact Kept.step (State.post_kept ..) rfl h_s1

theorem State.setSeqr_kept (s : State) (c : Nat) (q : Seqr) : Kept 274877906944 s (State.setSeqr s c q) := by
  unfold State.setSeqr
  exact Kept.upd_seqrs (s := s) rfl Kept.here

theorem State.setRstate_kept (s : State) (c : Nat) (v : Nat) : Kept 4 s (State.setRstate s c v) := by
  unfold State.setRstate
  exact Kept.step (State.setF_kept ..) rfl Kept.here

theorem State.setOp_kept (s : State) (c : Nat) (o : Op) : Kept 274877906944 s (State.setOp s c o) := by
  unfold State.setOp
  extract_lets -merge -underBinder +onlyGivenNames q
  try clear_value q
  exact Kept.step (State.setSeqr_kept ..) rfl Kept.here

theorem State.modLong_kept (s : State) (c : Nat) (h1 : Nat) (f : LongOp → LongOp) : Kept 131072 s (State.modLong s c h1 f) := by
  unfold State.modLong
  extract_lets -merge -underBinder +onlyGivenNames e
  try clear_value e
  exact Kept.step (State.setEng_kept ..) rfl Kept.here

theorem State.progressLong_kept (s : State) (c : Nat) (h1 : Nat) (code : Nat) : Kept 2753028 s (State.progressLong s c h1 code) := by
  unfold State.progressLong
  split
  · exact Kept.here
  · extract_lets -merge -underBinder +onlyGivenNames s1
    have h_s1 : Kept 2753028 s s1 := by
      unfold s1
      exact Kept.step (State.modLong_kept ..) rfl Kept.here
    try clear_value s1
    exact Kept.step (State.post_kept ..) rfl h_s1

end Sys2Proof.Machine
end

