-- ==== Sys2Proof/Laws/KeepEligible.lean ====
section
/-! SUPPORT. What each operation and each command of Machine/Eligible.lean leaves as it was: one frame lemma for each. -/

namespace Sys2Proof.Machine

theorem State.wdSync_kept (s : State) (k : Nat) : Kept 8192 s (State.wdSync s k) := by
  unfold State.wdSync
  extract_lets -merge -underBinder +onlyGivenNames n
  try clear_value n
  exact Kept.step (State.modRill_kept ..) rfl Kept.here

theorem State.wdSyncAll_kept (s : State) : Kept 8192 s (State.wdSyncAll s) := by
  unfold State.wdSyncAll
  refine Kept.foldl _ (fun x h_x a => ?_) ?_
  · exact Kept.step (State.wdSync_kept ..) rfl h_x
  · exact Kept.here

end Sys2Proof.Machine
end

