-- ==== Sys2Proof/Laws/KeepHolds.lean ====
section
/-! SUPPORT. What each operation and each command of Machine/Holds.lean leaves as it was: one frame lemma for each. -/

namespace Sys2Proof.Machine

theorem State.countReplay_kept (s : State) (c : Nat) (code : Nat) : Kept 1099515363332 s (State.countReplay s c code) := by
  unfold State.countReplay
  extract_lets -merge -underBinder +onlyGivenNames here
  try clear_value here
  refine Kept.ite ?_ ?_
  · exact Kept.step (State.incSat_kept ..) rfl (Kept.step (State.setF_kept ..) rfl Kept.here)
  · exact Kept.step (State.cairnLog_kept ..) rfl (Kept.step (State.setRcv_kept ..) rfl Kept.here)

theorem State.clearMarks_kept (s : State) (c : Nat) : Kept 562949953429504 s (State.clearMarks s c) := by
  unfold State.clearMarks
  extract_lets -merge -underBinder +onlyGivenNames hung e
  try clear_value hung e
  exact Kept.upd_rills_adderFails (s := s) rfl Kept.here

theorem State.retireKeys_kept (s : State) (past : List Nat → Bool) : Kept 70368744177664 s (State.retireKeys s past) := by
  unfold State.retireKeys
  exact Kept.upd_keys (s := s) rfl Kept.here

theorem State.retireBarrier_kept (s : State) (c : Nat) : Kept 70368744177664 s (State.retireBarrier s c) := by
  unfold State.retireBarrier
  split
  · exact Kept.here
  · exact Kept.step (State.retireKeys_kept ..) rfl Kept.here

theorem State.commitDo_kept (s : State) (c : Nat) (rec : CommitRec) : Kept 634693089894916 s (State.commitDo s c rec) := by
  unfold State.commitDo
  extract_lets -merge -underBinder +onlyGivenNames s1
  have h_s1 : Kept 634693089894916 s s1 := by
    unfold s1
    exact Kept.step (State.setF_kept ..) rfl (Kept.step (State.setReg64_kept ..) rfl (Kept.step (State.incWrap_kept ..) rfl (Kept.step (State.setRegN_kept ..) rfl Kept.here)))
  try clear_value s1
  extract_lets -merge -underBinder +onlyGivenNames r
  try clear_value r
  extract_lets -merge -underBinder +onlyGivenNames s2
  have h_s2 : Kept 634693089894916 s s2 := by
    unfold s2
    exact Kept.step (State.setRcv_kept ..) rfl h_s1
  try clear_value s2
  extract_lets -merge -underBinder +onlyGivenNames s3
  have h_s3 : Kept 634693089894916 s s3 := by
    unfold s3
    refine Kept.ite ?_ ?_
    · exact Kept.step (State.clearMarks_kept ..) rfl h_s2
    · exact h_s2
  try clear_value s3
  extract_lets -merge -underBinder +onlyGivenNames s4
  have h_s4 : Kept 634693089894916 s s4 := by
    unfold s4
    exact Kept.step (State.retireBarrier_kept ..) rfl h_s3
  try clear_value s4
  extract_lets -merge -underBinder +onlyGivenNames q done
  try clear_value q done
  extract_lets -merge -underBinder +onlyGivenNames s5
  have h_s5 : Kept 634693089894916 s s5 := by
    unfold s5
    exact Kept.step (State.setSeqr_kept ..) rfl h_s4
  try clear_value s5
  refine Kept.foldl _ (fun x h_x a => ?_) ?_
  · exact Kept.step (State.endLong_kept ..) rfl h_x
  · exact h_s5

theorem State.endRuns_kept (s : State) (c : Nat) (code : Nat) (opn : Nat) : Kept 274880659972 s (State.endRuns s c code opn) := by
  unfold State.endRuns
  extract_lets -merge -underBinder +onlyGivenNames hs q
  try clear_value hs q
  refine Kept.foldl _ (fun x h_x a => ?_) ?_
  · exact Kept.step (State.endLong_kept ..) rfl h_x
  · exact Kept.step (State.setSeqr_kept ..) rfl Kept.here

theorem State.wearSync_kept (s : State) : Kept 4 s (State.wearSync s) := by
  unfold State.wearSync
  refine Kept.foldl _ (fun x h_x a => ?_) ?_
  · refine Kept.ite ?_ ?_
    · exact Kept.step (State.setB_kept ..) rfl h_x
    · exact h_x
  · exact Kept.here

theorem State.wearDrop_kept (s : State) (c : Nat) : Kept 72057594037927940 s (State.wearDrop s c) := by
  unfold State.wearDrop
  exact Kept.step (State.wearSync_kept ..) rfl (Kept.upd_wearSegs (s := s) rfl Kept.here)

theorem State.holdBegin_kept (s : State) (c : Nat) (code : Nat) : Kept 75557935855251497812484 s (State.holdBegin s c code) := by
  unfold State.holdBegin
  extract_lets -merge -underBinder +onlyGivenNames r
  try clear_value r
  extract_lets -merge -underBinder +onlyGivenNames s1
  have h_s1 : Kept 75557935855251497812484 s s1 := by
    unfold s1
    refine Kept.ite ?_ ?_
    · exact Kept.step (State.wearDrop_kept ..) rfl Kept.here
    · exact Kept.here
  try clear_value s1
  extract_lets -merge -underBinder +onlyGivenNames s2
  have h_s2 : Kept 75557935855251497812484 s s2 := by
    unfold s2
    exact Kept.upd_pitchHeld (s := s1) rfl h_s1
  try clear_value s2
  extract_lets -merge -underBinder +onlyGivenNames s3
  have h_s3 : Kept 75557935855251497812484 s s3 := by
    unfold s3
    exact Kept.step (State.setRcv_kept ..) rfl h_s2
  try clear_value s3
  extract_lets -merge -underBinder +onlyGivenNames s4
  have h_s4 : Kept 75557935855251497812484 s s4 := by
    unfold s4
    exact Kept.step (State.postEvent_kept ..) rfl (Kept.step (State.setF_kept ..) rfl h_s3)
  try clear_value s4
  extract_lets -merge -underBinder +onlyGivenNames s5
  have h_s5 : Kept 75557935855251497812484 s s5 := by
    unfold s5
    exact Kept.step (State.endRuns_kept ..) rfl h_s4
  try clear_value s5
  extract_lets -merge -underBinder +onlyGivenNames q
  try clear_value q
  extract_lets -merge -underBinder +onlyGivenNames s6
  have h_s6 : Kept 75557935855251497812484 s s6 := by
    unfold s6
    exact Kept.step (State.setSeqr_kept ..) rfl h_s5
  try clear_value s6
  exact Kept.step (State.retireBarrier_kept ..) rfl (Kept.step (State.setRstate_kept ..) rfl (Kept.step (State.incWrap_kept ..) rfl h_s6))

theorem State.cfSync_kept (s : State) : Kept 4 s (State.cfSync s) := by
  unfold State.cfSync
  extract_lets -merge -underBinder +onlyGivenNames free ops waits held
  try clear_value free ops waits held
  extract_lets -merge -underBinder +onlyGivenNames s1
  have h_s1 : Kept 4 s s1 := by
    unfold s1
    exact Kept.step (State.setF_kept ..) rfl (Kept.step (State.setF_kept ..) rfl Kept.here)
  try clear_value s1
  extract_lets -merge -underBinder +onlyGivenNames s2
  have h_s2 : Kept 4 s s2 := by
    unfold s2
    refine Kept.foldl _ (fun x h_x a => ?_) ?_
    · exact Kept.step (State.setRegN_kept ..) rfl h_x
    · exact h_s1
  try clear_value s2
  refine Kept.foldl _ (fun x1 h_x1 a1 => ?_) ?_
  · extract_lets -merge -underBinder +onlyGivenNames l
    try clear_value l
    exact Kept.step (State.setRegN_kept ..) rfl (Kept.step (State.setRegN_kept ..) rfl h_x1)
  · exact h_s2

theorem State.retirePost_kept (s : State) (o : Op) : Kept 70368744177664 s (State.retirePost s o) := by
  unfold State.retirePost
  extract_lets -merge -underBinder +onlyGivenNames id
  try clear_value id
  extract_lets -merge -underBinder +onlyGivenNames s1
  have h_s1 : Kept 70368744177664 s s1 := by
    unfold s1
    exact Kept.step (State.retireKeys_kept ..) rfl Kept.here
  try clear_value s1
  exact Kept.upd_keys (s := s1) rfl h_s1

theorem State.releasePost_kept (s : State) (o : Op) : Kept 70368744177668 s (State.releasePost s o) := by
  unfold State.releasePost
  extract_lets -merge -underBinder +onlyGivenNames s1
  have h_s1 : Kept 70368744177668 s s1 := by
    unfold s1
    refine Kept.ite ?_ ?_
    · exact Kept.here
    · exact Kept.step (State.retirePost_kept ..) rfl Kept.here
  try clear_value s1
  refine Kept.ite ?_ ?_
  · extract_lets -merge -underBinder +onlyGivenNames a
    try clear_value a
    extract_lets -merge -underBinder +onlyGivenNames s2
    have h_s2 : Kept 70368744177668 s s2 := by
      unfold s2
      exact Kept.step (State.setF_kept ..) rfl h_s1
    try clear_value s2
    refine Kept.step (State.cfSync_kept ..) rfl ?_
    refine Kept.ite ?_ ?_
    · exact Kept.step (State.setF_kept ..) rfl h_s2
    · exact h_s2
  · exact Kept.step (State.cfSync_kept ..) rfl h_s1

theorem State.countLost_kept (s : State) (o : Op) (code : Nat) : Kept 4 s (State.countLost s o code) := by
  unfold State.countLost
  refine Kept.ite ?_ ?_
  · exact Kept.step (State.incSat_kept ..) rfl Kept.here
  · exact Kept.here

theorem State.opAbort_kept (s : State) (c : Nat) (o : Op) (code : Nat) : Kept 54083588 s (State.opAbort s c o code) := by
  unfold State.opAbort
  refine Kept.foldl _ (fun x h_x a => ?_) ?_
  · exact Kept.step (State.inject_kept ..) rfl h_x
  · exact Kept.here

theorem State.opAborts_kept (s : State) (c : Nat) (code : Nat) : Kept 54083588 s (State.opAborts s c code) := by
  unfold State.opAborts
  refine Kept.foldl _ (fun x h_x a => ?_) ?_
  · exact Kept.step (State.opAbort_kept ..) rfl h_x
  · exact Kept.here

theorem State.sendAbort_kept (s : State) (g : Nat) (seq : Nat) (code : Nat) (arg2 : Nat) : Kept 3386495870173188 s (State.sendAbort s g seq code arg2) := by
  unfold State.sendAbort
  extract_lets -merge -underBinder +onlyGivenNames j
  try clear_value j
  refine Kept.foldl _ (fun x h_x a => ?_) ?_
  · refine Kept.ite ?_ ?_
    · exact h_x
    · exact Kept.step (State.wireTo_kept ..) rfl h_x
  · exact Kept.here

theorem State.holdStep3_kept (s : State) (c : Nat) (code : Nat) (silent : Bool) : Kept 3458239005540356 s (State.holdStep3 s c code silent) := by
  unfold State.holdStep3
  extract_lets -merge -underBinder +onlyGivenNames ops
  try clear_value ops
  extract_lets -merge -underBinder +onlyGivenNames s1
  have h_s1 : Kept 3458239005540356 s s1 := by
    unfold s1
    exact Kept.step (State.opAborts_kept ..) rfl Kept.here
  try clear_value s1
  extract_lets -merge -underBinder +onlyGivenNames s2 lost s3
  have h_s2 : Kept 3458239005540356 s s2 := by
    unfold s2
    refine Kept.foldl _ (fun x h_x a => ?_) ?_
    · exact Kept.step (State.sendAbort_kept ..) rfl h_x
    · exact h_s1
  try clear_value s2
  try clear_value lost
  have h_s3 : Kept 3458239005540356 s s3 := by
    unfold s3
    refine Kept.ite ?_ ?_
    · exact h_s1
    · refine Kept.ite ?_ ?_
      · exact Kept.step (State.sendAbort_kept ..) rfl h_s2
      · exact h_s2
  try clear_value s3
  extract_lets -merge -underBinder +onlyGivenNames s4
  have h_s4 : Kept 3458239005540356 s s4 := by
    unfold s4
    refine Kept.foldl _ (fun x1 h_x1 a1 => ?_) ?_
    · refine Kept.step (State.releasePost_kept ..) rfl ?_
      refine Kept.ite ?_ ?_
      · exact h_x1
      · exact Kept.step (State.countLost_kept ..) rfl h_x1
    · exact h_s3
  try clear_value s4
  extract_lets -merge -underBinder +onlyGivenNames q
  try clear_value q
  exact Kept.step (State.cfSync_kept ..) rfl (Kept.step (State.setRcv_kept ..) rfl (Kept.step (State.setSeqr_kept ..) rfl h_s4))

theorem State.holdStep5_kept (s : State) (c : Nat) : Kept 4 s (State.holdStep5 s c) := by
  unfold State.holdStep5
  extract_lets -merge -underBinder +onlyGivenNames r
  try clear_value r
  exact Kept.step (State.setRstate_kept ..) rfl Kept.here

theorem State.hwSync_kept (s : State) : Kept 4 s (State.hwSync s) := by
  unfold State.hwSync
  refine Kept.foldl _ (fun x h_x a => ?_) ?_
  · exact Kept.step (State.setF_kept ..) rfl h_x
  · exact Kept.here

theorem State.retireP2p_kept (s : State) (e : EzStream) : Kept 70368744177664 s (State.retireP2p s e) := by
  unfold State.retireP2p
  split
  · exact Kept.here
  · refine Kept.ite ?_ ?_
    · exact Kept.step (State.retireKeys_kept ..) rfl Kept.here
    · exact Kept.here

theorem State.hwcSync_kept (s : State) (c : Nat) : Kept 4 s (State.hwcSync s c) := by
  unfold State.hwcSync
  extract_lets -merge -underBinder +onlyGivenNames front old running claims held
  try clear_value front old running claims held
  exact Kept.step (State.setRegN_kept ..) rfl (Kept.step (State.setRegN_kept ..) rfl Kept.here)

theorem State.holdStep4_kept (s : State) (c : Nat) : Kept 74768468410372 s (State.holdStep4 s c) := by
  unfold State.holdStep4
  extract_lets -merge -underBinder +onlyGivenNames s1
  have h_s1 : Kept 74768468410372 s s1 := by
    unfold s1
    refine Kept.foldl _ (fun x h_x a => ?_) ?_
    · exact Kept.step (State.retireP2p_kept ..) rfl h_x
    · exact Kept.here
  try clear_value s1
  exact Kept.step (State.hwcSync_kept ..) rfl (Kept.step (State.hwSync_kept ..) rfl (Kept.upd_memReqs_hws_grads_ezs (s := s1) rfl h_s1))

theorem State.dropRebuild_kept (s : State) (c : Nat) (code : Nat) : Kept 70643676168196 s (State.dropRebuild s c code) := by
  unfold State.dropRebuild
  extract_lets -merge -underBinder +onlyGivenNames ops
  try clear_value ops
  extract_lets -merge -underBinder +onlyGivenNames s1
  have h_s1 : Kept 70643676168196 s s1 := by
    unfold s1
    refine Kept.foldl _ (fun x h_x a => ?_) ?_
    · refine Kept.step (State.releasePost_kept ..) rfl ?_
      refine Kept.ite ?_ ?_
      · exact h_x
      · exact Kept.step (State.countLost_kept ..) rfl h_x
    · exact Kept.step (State.opAborts_kept ..) rfl Kept.here
  try clear_value s1
  exact Kept.step (State.cfSync_kept ..) rfl (Kept.step (State.setSeqr_kept ..) rfl h_s1)

theorem State.hold_kept (s : State) (c : Nat) (code : Nat) (repair : Bool) (silent : Bool) : Kept 75557939809097044681220 s (State.hold s c code repair silent) := by
  unfold State.hold
  extract_lets -merge -underBinder +onlyGivenNames st r
  try clear_value st r
  refine Kept.ite ?_ ?_
  · extract_lets -merge -underBinder +onlyGivenNames s1
    have h_s1 : Kept 75557939809097044681220 s s1 := by
      unfold s1
      split
      · refine Kept.ite ?_ ?_
        · exact Kept.step (State.commitDo_kept ..) rfl Kept.here
        · exact Kept.here
      · exact Kept.here
    try clear_value s1
    extract_lets -merge -underBinder +onlyGivenNames s2
    have h_s2 : Kept 75557939809097044681220 s s2 := by
      unfold s2
      exact Kept.step (State.holdBegin_kept ..) rfl h_s1
    try clear_value s2
    refine Kept.ite ?_ ?_
    · exact Kept.step (State.holdStep4_kept ..) rfl (Kept.step (State.setRcv_kept ..) rfl h_s2)
    · exact Kept.step (State.holdStep5_kept ..) rfl (Kept.step (State.countReplay_kept ..) rfl (Kept.step (State.holdStep4_kept ..) rfl (Kept.step (State.holdStep3_kept ..) rfl h_s2)))
  · refine Kept.ite ?_ ?_
    · extract_lets -merge -underBinder +onlyGivenNames s3 src s4
      have h_s3 : Kept 75557939809097044681220 s s3 := by
        unfold s3
        refine Kept.ite ?_ ?_
        · exact Kept.step (State.dropRebuild_kept ..) rfl Kept.here
        · exact Kept.here
      try clear_value s3
      try clear_value src
      have h_s4 : Kept 75557939809097044681220 s s4 := by
        unfold s4
        refine Kept.ite ?_ ?_
        · exact Kept.step (State.setRcv_kept ..) rfl (Kept.step (State.incWrap_kept ..) rfl h_s3)
        · exact Kept.here
      try clear_value s4
      exact Kept.step (State.holdStep5_kept ..) rfl h_s4
    · exact Kept.here

theorem State.rebuildFail_kept (s : State) (c : Nat) (code : Nat) : Kept 71743187795972 s (State.rebuildFail s c code) := by
  unfold State.rebuildFail
  extract_lets -merge -underBinder +onlyGivenNames s1
  have h_s1 : Kept 71743187795972 s s1 := by
    unfold s1
    exact Kept.step (State.dropRebuild_kept ..) rfl Kept.here
  try clear_value s1
  exact Kept.step (State.setRstate_kept ..) rfl (Kept.step (State.setF_kept ..) rfl (Kept.step (State.setRcv_kept ..) rfl h_s1))

theorem State.programFail_kept (s : State) (c : Nat) (opn : Nat) (code : Nat) : Kept 71743187927556 s (State.programFail s c opn code) := by
  unfold State.programFail
  extract_lets -merge -underBinder +onlyGivenNames q
  try clear_value q
  extract_lets -merge -underBinder +onlyGivenNames s1
  have h_s1 : Kept 71743187927556 s s1 := by
    unfold s1
    exact Kept.step (State.endRuns_kept ..) rfl (Kept.step (State.opAborts_kept ..) rfl Kept.here)
  try clear_value s1
  extract_lets -merge -underBinder +onlyGivenNames s2
  have h_s2 : Kept 71743187927556 s s2 := by
    unfold s2
    refine Kept.foldl _ (fun x h_x a => ?_) ?_
    · exact Kept.step (State.releasePost_kept ..) rfl h_x
    · exact h_s1
  try clear_value s2
  extract_lets -merge -underBinder +onlyGivenNames s3
  have h_s3 : Kept 71743187927556 s s3 := by
    unfold s3
    refine Kept.foldl _ (fun x1 h_x1 a1 => ?_) ?_
    · exact Kept.step (State.endLong_kept ..) rfl h_x1
    · exact h_s2
  try clear_value s3
  extract_lets -merge -underBinder +onlyGivenNames q1 lists
  try clear_value q1 lists
  extract_lets -merge -underBinder +onlyGivenNames src s4
  try clear_value src
  have h_s4 : Kept 71743187927556 s s4 := by
    unfold s4
    exact Kept.step (State.setRcv_kept ..) rfl h_s3
  try clear_value s4
  exact Kept.step (State.cfSync_kept ..) rfl (Kept.step (State.setSeqr_kept ..) rfl h_s4)

theorem State.failOp_kept (s : State) (c : Nat) (opn : Nat) (code : Nat) (program : Bool) (silent : Bool) : Kept 75557939809097044681220 s (State.failOp s c opn code program silent) := by
  unfold State.failOp
  refine Kept.ite ?_ ?_
  · exact Kept.step (State.rebuildFail_kept ..) rfl Kept.here
  · refine Kept.ite ?_ ?_
    · refine Kept.ite ?_ ?_
      · exact Kept.here
      · exact Kept.step (State.programFail_kept ..) rfl Kept.here
    · refine Kept.step (State.hold_kept ..) rfl ?_
      refine Kept.ite ?_ ?_
      · exact Kept.here
      · exact Kept.step (State.endRuns_kept ..) rfl Kept.here

theorem State.rillOpFail_kept (s : State) (k : Nat) (code : Nat) (program : Bool) : Kept 75557939809097044681220 s (State.rillOpFail s k code program) := by
  unfold State.rillOpFail
  extract_lets -merge -underBinder +onlyGivenNames c
  try clear_value c
  split
  · exact Kept.step (State.failOp_kept ..) rfl Kept.here
  · exact Kept.here

theorem State.programFault_kept (s : State) (k : Nat) : Kept 75557939809097044681220 s (State.programFault s k) := by
  unfold State.programFault
  exact Kept.step (State.rillOpFail_kept ..) rfl Kept.here

theorem State.stepFail_kept (s : State) (c : Nat) (code : Nat) : Kept 75557939809097044681220 s (State.stepFail s c code) := by
  unfold State.stepFail
  refine Kept.ite ?_ ?_
  · exact Kept.step (State.rebuildFail_kept ..) rfl Kept.here
  · exact Kept.step (State.hold_kept ..) rfl Kept.here

theorem State.hang_kept (s : State) (c : Nat) (k : Nat) : Kept 75557939809097044681220 s (State.hang s c k) := by
  unfold State.hang
  refine Kept.ite ?_ ?_
  · exact Kept.step (State.setRcv_kept ..) rfl Kept.here
  · exact Kept.step (State.stepFail_kept ..) rfl Kept.here

theorem State.slotFault_kept (s : State) (k : Nat) (n : Nat) (fault : Nat) : Kept 75557939809097044681220 s (State.slotFault s k n fault) := by
  unfold State.slotFault
  extract_lets -merge -underBinder +onlyGivenNames code
  try clear_value code
  extract_lets -merge -underBinder +onlyGivenNames s1
  have h_s1 : Kept 75557939809097044681220 s s1 := by
    unfold s1
    exact Kept.step (State.modSlot_kept ..) rfl (Kept.step (State.wdSync_kept ..) rfl Kept.here)
  try clear_value s1
  extract_lets -merge -underBinder +onlyGivenNames r c rch pc
  try clear_value r c rch pc
  refine Kept.ite ?_ ?_
  · extract_lets -merge -underBinder +onlyGivenNames s2
    have h_s2 : Kept 75557939809097044681220 s s2 := by
      unfold s2
      exact Kept.step (State.cairnLog_kept ..) rfl h_s1
    try clear_value s2
    split
    · exact Kept.step (State.failOp_kept ..) rfl h_s2
    · exact Kept.step (State.stepFail_kept ..) rfl h_s2
  · refine Kept.ite ?_ ?_
    · extract_lets -merge -underBinder +onlyGivenNames s3
      have h_s3 : Kept 75557939809097044681220 s s3 := by
        unfold s3
        exact Kept.step (State.modRill_kept ..) rfl h_s1
      try clear_value s3
      exact Kept.step (State.hang_kept ..) rfl (Kept.step (State.cairnLog_kept ..) rfl h_s3)
    · exact Kept.step (State.programFault_kept ..) rfl (Kept.step (State.cairnLog_kept ..) rfl h_s1)

theorem State.streamFault_kept (s : State) (k : Nat) (code : Nat) : Kept 75557939809097044681220 s (State.streamFault s k code) := by
  unfold State.streamFault
  exact Kept.step (State.rillOpFail_kept ..) rfl Kept.here

theorem State.opStartFail_kept (s : State) (c : Nat) (opn : Nat) (code : Nat) : Kept 75557939809097044681220 s (State.opStartFail s c opn code) := by
  unfold State.opStartFail
  split
  · exact Kept.step (State.failOp_kept ..) rfl Kept.here
  · exact Kept.here

theorem State.absentSync_kept (s : State) (l : List Nat) : Kept 4 s (State.absentSync s l) := by
  unfold State.absentSync
  refine Kept.foldl _ (fun x h_x a => ?_) ?_
  · exact Kept.step (State.setB_kept ..) rfl h_x
  · exact Kept.here

theorem State.holdFor_kept (s : State) (ctxs : List Nat) (remap : List Nat) (layout : List Nat) (flash : Bool) (code : Nat) : Kept 75557939809097044681220 s (State.holdFor s ctxs remap layout flash code) := by
  unfold State.holdFor
  refine Kept.foldl _ (fun x h_x a => ?_) ?_
  · extract_lets -merge -underBinder +onlyGivenNames r
    try clear_value r
    extract_lets -merge -underBinder +onlyGivenNames s1
    have h_s1 : Kept 75557939809097044681220 s s1 := by
      unfold s1
      exact Kept.step (State.setRcv_kept ..) rfl h_x
    try clear_value s1
    extract_lets -merge -underBinder +onlyGivenNames s2
    have h_s2 : Kept 75557939809097044681220 s s2 := by
      unfold s2
      refine Kept.ite ?_ ?_
      · exact Kept.step (State.setB_kept ..) rfl h_s1
      · exact h_s1
    try clear_value s2
    exact Kept.step (State.hold_kept ..) rfl h_s2
  · exact Kept.here

theorem State.countHole_kept (s : State) (k : Nat) : Kept 4 s (State.countHole s k) := by
  unfold State.countHole
  extract_lets -merge -underBinder +onlyGivenNames rch a
  try clear_value rch a
  extract_lets -merge -underBinder +onlyGivenNames s1
  have h_s1 : Kept 4 s s1 := by
    unfold s1
    exact Kept.step (State.setF_kept ..) rfl Kept.here
  try clear_value s1
  extract_lets -merge -underBinder +onlyGivenNames seg
  try clear_value seg
  extract_lets -merge -underBinder +onlyGivenNames s2
  have h_s2 : Kept 4 s s2 := by
    unfold s2
    exact Kept.step (State.setF_kept ..) rfl h_s1
  try clear_value s2
  extract_lets -merge -underBinder +onlyGivenNames s3
  have h_s3 : Kept 4 s s3 := by
    unfold s3
    refine Kept.ite ?_ ?_
    · exact Kept.step (State.setRegN_kept ..) rfl h_s2
    · exact h_s2
  try clear_value s3
  exact Kept.step (State.setF_kept ..) rfl h_s3

theorem State.setCmt_kept (s : State) (k : Nat) (st : Nat) (cause : Nat) : Kept 4 s (State.setCmt s k st cause) := by
  unfold State.setCmt
  extract_lets -merge -underBinder +onlyGivenNames s1
  have h_s1 : Kept 4 s s1 := by
    unfold s1
    refine Kept.ite ?_ ?_
    · exact Kept.step (State.countHole_kept ..) rfl Kept.here
    · exact Kept.here
  try clear_value s1
  exact Kept.step (State.setF_kept ..) rfl (Kept.step (State.setF_kept ..) rfl h_s1)

theorem State.cmtGen_kept (s : State) : Kept 4 s (State.cmtGen s) := by
  unfold State.cmtGen
  exact Kept.step (State.setRegN_kept ..) rfl Kept.here

theorem State.writeDead_kept (s : State) (rch : Nat) (l : List Nat) : Kept 4 s (State.writeDead s rch l) := by
  unfold State.writeDead
  extract_lets -merge -underBinder +onlyGivenNames l1
  try clear_value l1
  extract_lets -merge -underBinder +onlyGivenNames s1
  have h_s1 : Kept 4 s s1 := by
    unfold s1
    refine Kept.foldl _ (fun x h_x a => ?_) ?_
    · exact Kept.step (State.setRegN_kept ..) rfl h_x
    · exact Kept.here
  try clear_value s1
  exact Kept.step (State.setB_kept ..) rfl (Kept.step (State.setF_kept ..) rfl h_s1)

theorem State.addDead_kept (s : State) (rch : Nat) (c0 : Nat) (c1 : Nat) (r0 : Nat) (r1 : Nat) : Kept 4 s (State.addDead s rch c0 c1 r0 r1) := by
  unfold State.addDead
  exact Kept.step (State.writeDead_kept ..) rfl Kept.here

theorem State.makeHole_kept (s : State) (k : Nat) (cause : Nat) : Kept 3735556 s (State.makeHole s k cause) := by
  unfold State.makeHole
  extract_lets -merge -underBinder +onlyGivenNames col row rch
  try clear_value col row rch
  extract_lets -merge -underBinder +onlyGivenNames s1
  have h_s1 : Kept 3735556 s s1 := by
    unfold s1
    refine Kept.ite ?_ ?_
    · exact Kept.step (State.absentSync_kept ..) rfl (Kept.step (State.addDead_kept ..) rfl (Kept.step (State.setCmt_kept ..) rfl Kept.here))
    · exact Kept.step (State.setCmt_kept ..) rfl Kept.here
  try clear_value s1
  exact Kept.step (State.cairnLog_kept ..) rfl (Kept.step (State.cmtGen_kept ..) rfl h_s1)

theorem State.reportFailed_kept (s : State) (k : Nat) (cause : Nat) : Kept 75557939811296067936772 s (State.reportFailed s k cause) := by
  unfold State.reportFailed
  extract_lets -merge -underBinder +onlyGivenNames gone late
  try clear_value gone late
  refine Kept.ite ?_ ?_
  · exact Kept.here
  · extract_lets -merge -underBinder +onlyGivenNames s1
    have h_s1 : Kept 75557939811296067936772 s s1 := by
      unfold s1
      exact Kept.step (State.incSat_kept ..) rfl Kept.here
    try clear_value s1
    extract_lets -merge -underBinder +onlyGivenNames s2
    have h_s2 : Kept 75557939811296067936772 s s2 := by
      unfold s2
      exact Kept.step (State.modRill_kept ..) rfl h_s1
    try clear_value s2
    extract_lets -merge -underBinder +onlyGivenNames spare
    try clear_value spare
    refine Kept.ite ?_ ?_
    · extract_lets -merge -underBinder +onlyGivenNames own
      try clear_value own
      exact Kept.step (State.holdFor_kept ..) rfl (Kept.upd_failing (s := s2) rfl h_s2)
    · extract_lets -merge -underBinder +onlyGivenNames own1 all
      try clear_value own1 all
      extract_lets -merge -underBinder +onlyGivenNames s3
      have h_s3 : Kept 75557939811296067936772 s s3 := by
        unfold s3
        exact Kept.step (State.holdFor_kept ..) rfl h_s2
      try clear_value s3
      refine Kept.ite ?_ ?_
      · exact Kept.step (State.makeHole_kept ..) rfl h_s3
      · exact Kept.upd_failing (s := s3) rfl h_s3

theorem State.routerLost_kept (s : State) (pool : Bool) (k : Nat) (cause : Nat) : Kept 75557939811296067936772 s (State.routerLost s pool k cause) := by
  unfold State.routerLost
  extract_lets -merge -underBinder +onlyGivenNames s1
  have h_s1 : Kept 75557939811296067936772 s s1 := by
    unfold s1
    exact Kept.step (State.modRill_kept ..) rfl Kept.here
  try clear_value s1
  extract_lets -merge -underBinder +onlyGivenNames s2
  have h_s2 : Kept 75557939811296067936772 s s2 := by
    unfold s2
    exact Kept.step (State.linkLoss_kept ..) rfl (Kept.step (State.absentSync_kept ..) rfl h_s1)
  try clear_value s2
  exact Kept.step (State.reportFailed_kept ..) rfl h_s2

theorem State.idleLost_kept (s : State) (g : Nat) (cause : Nat) : Kept 3735556 s (State.idleLost s g cause) := by
  unfold State.idleLost
  refine Kept.ite ?_ ?_
  · extract_lets -merge -underBinder +onlyGivenNames s1
    have h_s1 : Kept 3735556 s s1 := by
      unfold s1
      refine Kept.foldl _ (fun x h_x a => ?_) ?_
      · exact Kept.step (State.setB_kept ..) rfl h_x
      · exact Kept.here
    try clear_value s1
    extract_lets -merge -underBinder +onlyGivenNames rch r
    try clear_value rch r
    exact Kept.step (State.cairnLog_kept ..) rfl (Kept.step (State.cmtGen_kept ..) rfl (Kept.step (State.setF_kept ..) rfl h_s1))
  · exact Kept.here

theorem State.idleFailed_kept (s : State) (g : Nat) (cause : Nat) : Kept 2199026991108 s (State.idleFailed s g cause) := by
  unfold State.idleFailed
  extract_lets -merge -underBinder +onlyGivenNames s1
  have h_s1 : Kept 2199026991108 s s1 := by
    unfold s1
    refine Kept.ite ?_ ?_
    · exact Kept.step (State.incSat_kept ..) rfl Kept.here
    · exact Kept.here
  try clear_value s1
  refine Kept.ite ?_ ?_
  · exact Kept.step (State.idleLost_kept ..) rfl h_s1
  · exact Kept.upd_failing (s := s1) rfl h_s1

theorem State.reportPos_kept (s : State) (n : Nat) (cause : Nat) : Kept 75557939811296067936772 s (State.reportPos s n cause) := by
  unfold State.reportPos
  refine Kept.ite ?_ ?_
  · exact Kept.step (State.reportFailed_kept ..) rfl Kept.here
  · refine Kept.ite ?_ ?_
    · exact Kept.step (State.idleFailed_kept ..) rfl Kept.here
    · exact Kept.step (State.routerLost_kept ..) rfl Kept.here

theorem State.holdGoOn_kept (s : State) (c : Nat) : Kept 3458239005540356 s (State.holdGoOn s c) := by
  unfold State.holdGoOn
  split
  · exact Kept.here
  · extract_lets -merge -underBinder +onlyGivenNames src s1
    try clear_value src
    have h_s1 : Kept 3458239005540356 s s1 := by
      unfold s1
      exact Kept.step (State.setRcv_kept ..) rfl Kept.here
    try clear_value s1
    exact Kept.step (State.holdStep5_kept ..) rfl (Kept.step (State.countReplay_kept ..) rfl (Kept.step (State.holdStep3_kept ..) rfl h_s1))

theorem State.contextFail_kept (s : State) (c : Nat) (code : Nat) (silent : Bool) : Kept 75557939809097044681220 s (State.contextFail s c code silent) := by
  unfold State.contextFail
  refine Kept.ite ?_ ?_
  · exact Kept.here
  · exact Kept.step (State.failOp_kept ..) rfl Kept.here

theorem State.countPresent_kept (s : State) (k : Nat) : Kept 4 s (State.countPresent s k) := by
  unfold State.countPresent
  extract_lets -merge -underBinder +onlyGivenNames rch a
  try clear_value rch a
  extract_lets -merge -underBinder +onlyGivenNames s1
  have h_s1 : Kept 4 s s1 := by
    unfold s1
    exact Kept.step (State.setF_kept ..) rfl Kept.here
  try clear_value s1
  extract_lets -merge -underBinder +onlyGivenNames seg
  try clear_value seg
  extract_lets -merge -underBinder +onlyGivenNames s2
  have h_s2 : Kept 4 s s2 := by
    unfold s2
    exact Kept.step (State.setF_kept ..) rfl h_s1
  try clear_value s2
  extract_lets -merge -underBinder +onlyGivenNames s3
  have h_s3 : Kept 4 s s3 := by
    unfold s3
    refine Kept.ite ?_ ?_
    · exact Kept.step (State.setRegN_kept ..) rfl h_s2
    · exact h_s2
  try clear_value s3
  exact Kept.step (State.setF_kept ..) rfl h_s3

theorem State.setDeadReach_kept (s : State) (rch : Nat) : Kept 4 s (State.setDeadReach s rch) := by
  unfold State.setDeadReach
  extract_lets -merge -underBinder +onlyGivenNames dead rows pos
  try clear_value dead rows pos
  exact Kept.step (State.writeDead_kept ..) rfl Kept.here

theorem State.failuresDue_kept (s : State) : Kept 2199026991108 s (State.failuresDue s) := by
  unfold State.failuresDue
  extract_lets -merge -underBinder +onlyGivenNames due
  try clear_value due
  refine Kept.foldl _ (fun x h_x a => ?_) ?_
  · refine Kept.ite ?_ ?_
    · exact Kept.step (State.idleLost_kept ..) rfl h_x
    · exact Kept.step (State.makeHole_kept ..) rfl h_x
  · exact Kept.upd_failing (s := s) rfl Kept.here

theorem State.hangDue_kept (s : State) (c : Nat) : Kept 75557939809097044681220 s (State.hangDue s c) := by
  unfold State.hangDue
  extract_lets -merge -underBinder +onlyGivenNames l
  try clear_value l
  extract_lets -merge -underBinder +onlyGivenNames src s1
  try clear_value src
  have h_s1 : Kept 75557939809097044681220 s s1 := by
    unfold s1
    exact Kept.step (State.setRcv_kept ..) rfl Kept.here
  try clear_value s1
  refine Kept.ite ?_ ?_
  · exact Kept.step (State.stepFail_kept ..) rfl h_s1
  · exact h_s1

theorem State.residueFault_kept (s : State) (k : Nat) (n : Nat) (pc : Nat) (e : CheckErr) : Kept 75557939811296067936772 s (State.residueFault s k n pc e) := by
  unfold State.residueFault
  extract_lets -merge -underBinder +onlyGivenNames s1
  have h_s1 : Kept 75557939811296067936772 s s1 := by
    unfold s1
    exact Kept.step (State.modSlot_kept ..) rfl (Kept.step (State.wdSync_kept ..) rfl Kept.here)
  try clear_value s1
  extract_lets -merge -underBinder +onlyGivenNames r c
  try clear_value r c
  extract_lets -merge -underBinder +onlyGivenNames s2
  have h_s2 : Kept 75557939811296067936772 s s2 := by
    unfold s2
    exact Kept.step (State.cairnLog_kept ..) rfl h_s1
  try clear_value s2
  extract_lets -merge -underBinder +onlyGivenNames again
  try clear_value again
  extract_lets -merge -underBinder +onlyGivenNames s3
  have h_s3 : Kept 75557939811296067936772 s s3 := by
    unfold s3
    exact Kept.step (State.modRill_kept ..) rfl h_s2
  try clear_value s3
  extract_lets -merge -underBinder +onlyGivenNames s4
  have h_s4 : Kept 75557939811296067936772 s s4 := by
    unfold s4
    split
    · exact Kept.step (State.failOp_kept ..) rfl h_s3
    · exact Kept.step (State.stepFail_kept ..) rfl h_s3
  try clear_value s4
  refine Kept.ite ?_ ?_
  · exact Kept.step (State.reportFailed_kept ..) rfl h_s4
  · exact h_s4

theorem State.ballastFail_kept (s : State) (k : Nat) (e : CheckErr) : Kept 75557939811296067936772 s (State.ballastFail s k e) := by
  unfold State.ballastFail
  extract_lets -merge -underBinder +onlyGivenNames s1
  have h_s1 : Kept 75557939811296067936772 s s1 := by
    unfold s1
    exact Kept.step (State.cairnLog_kept ..) rfl Kept.here
  try clear_value s1
  extract_lets -merge -underBinder +onlyGivenNames times
  try clear_value times
  extract_lets -merge -underBinder +onlyGivenNames s2
  have h_s2 : Kept 75557939811296067936772 s s2 := by
    unfold s2
    exact Kept.step (State.modRill_kept ..) rfl h_s1
  try clear_value s2
  refine Kept.ite ?_ ?_
  · exact Kept.step (State.reportFailed_kept ..) rfl h_s2
  · exact h_s2

end Sys2Proof.Machine
end

