-- ==== Sys2Proof/Laws/KeepOperands.lean ====
section
/-! SUPPORT. What each operation and each command of Machine/Operands.lean leaves as it was: one frame lemma for each. -/

namespace Sys2Proof.Machine

theorem State.faultAt_kept (s : State) (i : Issue) (fault : Nat) : Kept 75557939809097044681220 s (State.faultAt s i fault) := by
  unfold State.faultAt
  exact Kept.step (State.slotFault_kept ..) rfl Kept.here

theorem State.touchIssue_kept (s : State) (a : SlotId) : Kept 8194 s (State.touchIssue s a) := by
  unfold State.touchIssue
  extract_lets -merge -underBinder +onlyGivenNames c
  try clear_value c
  exact Kept.step (State.modRill_kept ..) rfl (Kept.step (State.atCycle_kept ..) rfl Kept.here)

theorem execIssue_kept {m : Nat} {s0 : State} {op : Nat} {a : SlotId} {s : State} {f : Issue → State → State} (hm : 75557939809097044681222 ||| m = m) (h : Kept m s0 s) (hf : ∀ z0 x, Kept m s0 x → Kept m s0 (f z0 x)) :
    KeptR m s0 (execIssue op a s f) := by
  unfold execIssue
  refine onUnit_kept (sub_chain rfl hm) h (fun a1 h_a1 => ?_)
  · extract_lets -merge -underBinder +onlyGivenNames r x w i
    try clear_value r x w i
    extract_lets -merge -underBinder +onlyGivenNames s1
    have h_s1 : Kept m s0 s1 := by
      unfold s1
      exact Kept.step (State.touchIssue_kept ..) (sub_chain rfl hm) h_a1
    try clear_value s1
    refine Kept.ite ?_ ?_
    · exact Kept.step (State.faultAt_kept ..) (sub_chain rfl hm) h_s1
    · refine Kept.ite ?_ ?_
      · exact Kept.step (State.faultAt_kept ..) (sub_chain rfl hm) h_s1
      · exact hf _ _ h_s1

theorem State.retire_kept (s : State) (i : Issue) (f : Slot → Slot) : Kept 8192 s (State.retire s i f) := by
  unfold State.retire
  exact Kept.step (State.modSlot_kept ..) rfl Kept.here

theorem State.retireLoad_kept (s : State) (i : Issue) (l : Local) (v : W64) : Kept 8192 s (State.retireLoad s i l v) := by
  unfold State.retireLoad
  exact Kept.step (State.retire_kept ..) rfl Kept.here

theorem State.localWrite_kept (s : State) (k : Nat) (l : Local) (b : List Byte) : Kept 680564733841876926926749214863536426176 s (State.localWrite s k l b) := by
  unfold State.localWrite
  split
  · exact Kept.here
  · exact Kept.step (State.storeWrite_kept ..) rfl Kept.here
  · exact Kept.step (State.poolWrite_kept ..) rfl Kept.here

theorem execG_kept (op : Nat) (a : SlotId) (s : State) (v : Issue → W64) : KeptR 75557939809097044681222 s (execG op a s v) := by
  unfold execG
  refine execIssue_kept rfl Kept.here (fun a1 a2 h_a2 => ?_)
  · exact Kept.step (State.retire_kept ..) rfl h_a2

end Sys2Proof.Machine
end

