-- ==== Sys2Proof/Laws/KeepMemInstr.lean ====
section
/-! SUPPORT. What each operation and each command of Machine/MemInstr.lean leaves as it was: one frame lemma for each. -/

namespace Sys2Proof.Machine

theorem execLoad_kept (op : Nat) (n : Nat) (a : SlotId) (s : State) : KeptR 75557939809097044681222 s (execLoad op n a s) := by
  unfold execLoad
  refine execIssue_kept rfl Kept.here (fun a1 a2 h_a2 => ?_)
  · extract_lets -merge -underBinder +onlyGivenNames l
    try clear_value l
    split
    · exact Kept.step (State.faultAt_kept ..) rfl h_a2
    · exact Kept.step (State.retireLoad_kept ..) rfl h_a2

theorem execStore_kept (op : Nat) (n : Nat) (a : SlotId) (s : State) : KeptR 680564733841877002484689023960581107398 s (execStore op n a s) := by
  unfold execStore
  refine execIssue_kept rfl Kept.here (fun a1 a2 h_a2 => ?_)
  · split
    · exact Kept.step (State.faultAt_kept ..) rfl h_a2
    · exact Kept.step (State.retire_kept ..) rfl (Kept.step (State.localWrite_kept ..) rfl h_a2)

theorem execLd8_kept (a : SlotId) (s : State) : KeptR 75557939809097044681222 s (execLd8 a s) := by
  unfold execLd8
  exact KeptR.step (execLoad_kept ..) rfl Kept.here

theorem execLd32_kept (a : SlotId) (s : State) : KeptR 75557939809097044681222 s (execLd32 a s) := by
  unfold execLd32
  exact KeptR.step (execLoad_kept ..) rfl Kept.here

theorem execLd64_kept (a : SlotId) (s : State) : KeptR 75557939809097044681222 s (execLd64 a s) := by
  unfold execLd64
  exact KeptR.step (execLoad_kept ..) rfl Kept.here

theorem execSt8_kept (a : SlotId) (s : State) : KeptR 680564733841877002484689023960581107398 s (execSt8 a s) := by
  unfold execSt8
  exact KeptR.step (execStore_kept ..) rfl Kept.here

theorem execSt32_kept (a : SlotId) (s : State) : KeptR 680564733841877002484689023960581107398 s (execSt32 a s) := by
  unfold execSt32
  exact KeptR.step (execStore_kept ..) rfl Kept.here

theorem execSt64_kept (a : SlotId) (s : State) : KeptR 680564733841877002484689023960581107398 s (execSt64 a s) := by
  unfold execSt64
  exact KeptR.step (execStore_kept ..) rfl Kept.here

theorem execAmo_kept (op : Nat) (f : W64 → W64 → W64) (a : SlotId) (s : State) : KeptR 680564733841877002484689023960581107398 s (execAmo op f a s) := by
  unfold execAmo
  refine execIssue_kept rfl Kept.here (fun a1 a2 h_a2 => ?_)
  · extract_lets -merge -underBinder +onlyGivenNames l
    try clear_value l
    split
    · exact Kept.step (State.faultAt_kept ..) rfl h_a2
    · extract_lets -merge -underBinder +onlyGivenNames old
      try clear_value old
      exact Kept.step (State.retireLoad_kept ..) rfl (Kept.step (State.localWrite_kept ..) rfl h_a2)

theorem execAmoadd_kept (a : SlotId) (s : State) : KeptR 680564733841877002484689023960581107398 s (execAmoadd a s) := by
  unfold execAmoadd
  exact KeptR.step (execAmo_kept ..) rfl Kept.here

theorem execAmoswap_kept (a : SlotId) (s : State) : KeptR 680564733841877002484689023960581107398 s (execAmoswap a s) := by
  unfold execAmoswap
  exact KeptR.step (execAmo_kept ..) rfl Kept.here

theorem execLdp64_kept (a : SlotId) (s : State) : KeptR 75557939809097044713990 s (execLdp64 a s) := by
  unfold execLdp64
  refine execIssue_kept rfl Kept.here (fun a1 a2 h_a2 => ?_)
  · split
    · exact Kept.step (State.faultAt_kept ..) rfl h_a2
    · refine Kept.ite ?_ ?_
      · exact Kept.step (State.faultAt_kept ..) rfl h_a2
      · refine Kept.ite ?_ ?_
        · split
          · exact Kept.step (State.faultAt_kept ..) rfl h_a2
          · exact Kept.step (State.retireLoad_kept ..) rfl h_a2
        · split
          · rename_i xid s1 hq
            have h_s1 := Kept.eq2 hq (m := 75557939809097044713990) (s0 := s) (by
              exact Kept.step (State.fresh_kept ..) rfl h_a2
              )
            clear hq
            extract_lets -merge -underBinder +onlyGivenNames src p
            try clear_value src
            try clear_value p
            split
            · exact Kept.step (State.faultAt_kept ..) rfl (Kept.step (State.unreachable_kept ..) rfl h_s1)
            · rename_i s2 hq2
              have h_s2 := (show KeptO 75557939809097044713990 s _ by
                exact KeptO.step (State.inject?_kept ..) rfl h_s1
                ).on _ hq2
              clear hq2
              exact Kept.step (State.retire_kept ..) rfl h_s2

theorem execStp64_kept (a : SlotId) (s : State) : KeptR 680564733841877002484689023960581140166 s (execStp64 a s) := by
  unfold execStp64
  refine execIssue_kept rfl Kept.here (fun a1 a2 h_a2 => ?_)
  · split
    · exact Kept.step (State.faultAt_kept ..) rfl h_a2
    · refine Kept.ite ?_ ?_
      · exact Kept.step (State.faultAt_kept ..) rfl h_a2
      · refine Kept.ite ?_ ?_
        · exact Kept.step (State.retire_kept ..) rfl (Kept.step (State.localWrite_kept ..) rfl h_a2)
        · split
          · rename_i xid s1 hq
            have h_s1 := Kept.eq2 hq (m := 680564733841877002484689023960581140166) (s0 := s) (by
              exact Kept.step (State.fresh_kept ..) rfl h_a2
              )
            clear hq
            extract_lets -merge -underBinder +onlyGivenNames src p
            try clear_value src
            try clear_value p
            split
            · exact Kept.step (State.faultAt_kept ..) rfl (Kept.step (State.unreachable_kept ..) rfl h_s1)
            · rename_i s2 hq2
              have h_s2 := (show KeptO 680564733841877002484689023960581140166 s _ by
                exact KeptO.step (State.inject?_kept ..) rfl h_s1
                ).on _ hq2
              clear hq2
              exact Kept.step (State.retire_kept ..) rfl h_s2

end Sys2Proof.Machine
end

