-- ==== Sys2Proof/Laws/KeepControl.lean ====
section
/-! SUPPORT. What each operation and each command of Machine/Control.lean leaves as it was: one frame lemma for each. -/

namespace Sys2Proof.Machine

theorem State.branchTo_kept (s : State) (i : Issue) (t : W64) (f : Slot → Slot) : Kept 75557939809097044681220 s (State.branchTo s i t f) := by
  unfold State.branchTo
  split
  · exact Kept.step (State.faultAt_kept ..) rfl Kept.here
  · exact Kept.step (State.modSlot_kept ..) rfl Kept.here

theorem execBranch_kept (op : Nat) (c : W64 → W64 → Bool) (a : SlotId) (s : State) : KeptR 75557939809097044681222 s (execBranch op c a s) := by
  unfold execBranch
  refine execIssue_kept rfl Kept.here (fun a1 a2 h_a2 => ?_)
  · refine Kept.ite ?_ ?_
    · exact Kept.step (State.branchTo_kept ..) rfl h_a2
    · exact Kept.step (State.retire_kept ..) rfl h_a2

theorem execJ_kept (a : SlotId) (s : State) : KeptR 75557939809097044681222 s (execJ a s) := by
  unfold execJ
  refine execIssue_kept rfl Kept.here (fun a1 a2 h_a2 => ?_)
  · exact Kept.step (State.branchTo_kept ..) rfl h_a2

theorem execJr_kept (a : SlotId) (s : State) : KeptR 75557939809097044681222 s (execJr a s) := by
  unfold execJr
  refine execIssue_kept rfl Kept.here (fun a1 a2 h_a2 => ?_)
  · exact Kept.step (State.branchTo_kept ..) rfl h_a2

theorem execCall_kept (a : SlotId) (s : State) : KeptR 75557939809097044681222 s (execCall a s) := by
  unfold execCall
  refine execIssue_kept rfl Kept.here (fun a1 a2 h_a2 => ?_)
  · exact Kept.step (State.branchTo_kept ..) rfl h_a2

theorem execBeq_kept (a : SlotId) (s : State) : KeptR 75557939809097044681222 s (execBeq a s) := by
  unfold execBeq
  exact KeptR.step (execBranch_kept ..) rfl Kept.here

theorem execBne_kept (a : SlotId) (s : State) : KeptR 75557939809097044681222 s (execBne a s) := by
  unfold execBne
  exact KeptR.step (execBranch_kept ..) rfl Kept.here

theorem execBlt_kept (a : SlotId) (s : State) : KeptR 75557939809097044681222 s (execBlt a s) := by
  unfold execBlt
  exact KeptR.step (execBranch_kept ..) rfl Kept.here

theorem execBltu_kept (a : SlotId) (s : State) : KeptR 75557939809097044681222 s (execBltu a s) := by
  unfold execBltu
  exact KeptR.step (execBranch_kept ..) rfl Kept.here

theorem execSpawn_kept (a : SlotId) (s : State) : KeptR 75557939809097044681222 s (execSpawn a s) := by
  unfold execSpawn
  refine execIssue_kept rfl Kept.here (fun a1 a2 h_a2 => ?_)
  · split
    · exact Kept.step (State.retire_kept ..) rfl h_a2
    · extract_lets -merge -underBinder +onlyGivenNames s1
      have h_s1 : Kept 75557939809097044681222 s s1 := by
        unfold s1
        exact Kept.step (State.modSlot_kept ..) rfl h_a2
      try clear_value s1
      exact Kept.step (State.retire_kept ..) rfl h_s1

theorem execExit_kept (a : SlotId) (s : State) : KeptR 75557939809097044681222 s (execExit a s) := by
  unfold execExit
  refine execIssue_kept rfl Kept.here (fun a1 a2 h_a2 => ?_)
  · exact Kept.step (State.modSlot_kept ..) rfl h_a2

theorem execExitComplete_kept (a : SlotId) (s : State) : KeptR 8192 s (execExitComplete a s) := by
  unfold execExitComplete
  extract_lets -merge -underBinder +onlyGivenNames r
  try clear_value r
  refine onUnit_kept rfl Kept.here (fun a1 h_a1 => ?_)
  · exact Kept.step (State.modRill_kept ..) rfl h_a1

theorem State.waitOn_kept (s : State) (i : Issue) (wt : WaitFor) : Kept 8192 s (State.waitOn s i wt) := by
  unfold State.waitOn
  exact Kept.step (State.modSlot_kept ..) rfl Kept.here

theorem State.wakeWith_kept (s : State) (k : Nat) (n : Nat) (f : Slot → Slot) : Kept 8192 s (State.wakeWith s k n f) := by
  unfold State.wakeWith
  exact Kept.step (State.modSlot_kept ..) rfl Kept.here

theorem execYield_kept (a : SlotId) (s : State) : KeptR 75557939809097044681222 s (execYield a s) := by
  unfold execYield
  refine execIssue_kept rfl Kept.here (fun a1 a2 h_a2 => ?_)
  · exact Kept.step (State.waitOn_kept ..) rfl h_a2

theorem execYieldExpiry_kept (a : SlotId) (cyc : Nat) (s : State) : KeptR 8194 s (execYieldExpiry a cyc s) := by
  unfold execYieldExpiry
  extract_lets -merge -underBinder +onlyGivenNames x
  try clear_value x
  refine onUnit_kept rfl Kept.here (fun a1 h_a1 => ?_)
  · exact Kept.step (State.wakeWith_kept ..) rfl (Kept.step (State.atCycle_kept ..) rfl h_a1)

theorem execWaitev_kept (a : SlotId) (s : State) : KeptR 75557939809097044681222 s (execWaitev a s) := by
  unfold execWaitev
  refine execIssue_kept rfl Kept.here (fun a1 a2 h_a2 => ?_)
  · extract_lets -merge -underBinder +onlyGivenNames m1 hit
    try clear_value m1 hit
    refine Kept.ite ?_ ?_
    · exact Kept.step (State.waitOn_kept ..) rfl h_a2
    · exact Kept.step (State.retire_kept ..) rfl h_a2

theorem execSignal_kept (a : SlotId) (s : State) : KeptR 75557939809097044681222 s (execSignal a s) := by
  unfold execSignal
  refine execIssue_kept rfl Kept.here (fun a1 a2 h_a2 => ?_)
  · extract_lets -merge -underBinder +onlyGivenNames n bit
    try clear_value n bit
    extract_lets -merge -underBinder +onlyGivenNames s1
    have h_s1 : Kept 75557939809097044681222 s s1 := by
      unfold s1
      exact Kept.step (State.modSlot_kept ..) rfl h_a2
    try clear_value s1
    exact Kept.step (State.retire_kept ..) rfl h_s1

theorem execTclaim_kept (a : SlotId) (s : State) : KeptR 75557939809097044681222 s (execTclaim a s) := by
  unfold execTclaim
  refine execIssue_kept rfl Kept.here (fun a1 a2 h_a2 => ?_)
  · extract_lets -merge -underBinder +onlyGivenNames r l
    try clear_value r l
    refine Kept.ite ?_ ?_
    · exact Kept.step (State.retire_kept ..) rfl (Kept.step (State.modRill_kept ..) rfl h_a2)
    · exact Kept.step (State.retire_kept ..) rfl h_a2

theorem execTfree_kept (a : SlotId) (s : State) : KeptR 75557939809097044681222 s (execTfree a s) := by
  unfold execTfree
  refine execIssue_kept rfl Kept.here (fun a1 a2 h_a2 => ?_)
  · extract_lets -merge -underBinder +onlyGivenNames r l
    try clear_value r l
    refine Kept.ite ?_ ?_
    · exact Kept.step (State.retire_kept ..) rfl (Kept.step (State.modRill_kept ..) rfl h_a2)
    · exact Kept.step (State.faultAt_kept ..) rfl h_a2

theorem execFence_kept (a : SlotId) (s : State) : KeptR 75557939809097044681222 s (execFence a s) := by
  unfold execFence
  refine execIssue_kept rfl Kept.here (fun a1 a2 h_a2 => ?_)
  · refine Kept.ite ?_ ?_
    · exact Kept.step (State.retire_kept ..) rfl h_a2
    · exact Kept.step (State.waitOn_kept ..) rfl h_a2

theorem execTrap_kept (a : SlotId) (s : State) : KeptR 75557939809097044681222 s (execTrap a s) := by
  unfold execTrap
  refine execIssue_kept rfl Kept.here (fun a1 a2 h_a2 => ?_)
  · exact Kept.step (State.slotFault_kept ..) rfl h_a2

theorem execNop_kept (a : SlotId) (s : State) : KeptR 75557939809097044681222 s (execNop a s) := by
  unfold execNop
  refine execIssue_kept rfl Kept.here (fun a1 a2 h_a2 => ?_)
  · exact Kept.step (State.retire_kept ..) rfl h_a2

theorem execCsrr_kept (a : SlotId) (s : State) : KeptR 75557939809097044681222 s (execCsrr a s) := by
  unfold execCsrr
  refine execIssue_kept rfl Kept.here (fun a1 a2 h_a2 => ?_)
  · split
    · exact Kept.step (State.faultAt_kept ..) rfl h_a2
    · exact Kept.step (State.retire_kept ..) rfl h_a2

theorem execCsrw_kept (a : SlotId) (s : State) : KeptR 75557939809097044681222 s (execCsrw a s) := by
  unfold execCsrw
  refine execIssue_kept rfl Kept.here (fun a1 a2 h_a2 => ?_)
  · extract_lets -merge -underBinder +onlyGivenNames r v
    try clear_value r v
    split
    · exact Kept.step (State.retire_kept ..) rfl h_a2
    · refine Kept.ite ?_ ?_
      · exact Kept.step (State.retire_kept ..) rfl (Kept.step (State.modRill_kept ..) rfl h_a2)
      · exact Kept.step (State.faultAt_kept ..) rfl h_a2
    · refine Kept.ite ?_ ?_
      · exact Kept.step (State.retire_kept ..) rfl (Kept.step (State.modRill_kept ..) rfl h_a2)
      · exact Kept.step (State.faultAt_kept ..) rfl h_a2
    · exact Kept.step (State.retire_kept ..) rfl (Kept.step (State.modRill_kept ..) rfl h_a2)
    · exact Kept.step (State.faultAt_kept ..) rfl h_a2

end Sys2Proof.Machine
end

