-- ==== Sys2Proof/Laws/KeepTensor.lean ====
section
/-! SUPPORT. What each operation and each command of Machine/Tensor.lean leaves as it was: one frame lemma for each. -/

namespace Sys2Proof.Machine

theorem execTld_kept (a : SlotId) (s : State) : KeptR 75557939809097044681222 s (execTld a s) := by
  unfold execTld
  refine execIssue_kept rfl Kept.here (fun a1 a2 h_a2 => ?_)
  · extract_lets -merge -underBinder +onlyGivenNames x y mx
    try clear_value x y mx
    split
    · exact Kept.step (State.faultAt_kept ..) rfl h_a2
    · split
      · extract_lets -merge -underBinder +onlyGivenNames lat
        try clear_value lat
        exact Kept.step (State.retire_kept ..) rfl (Kept.step (State.modRill_kept ..) rfl h_a2)
      · exact Kept.step (State.faultAt_kept ..) rfl h_a2

theorem execTst_kept (a : SlotId) (s : State) : KeptR 680564733841877002484689023960581107398 s (execTst a s) := by
  unfold execTst
  refine execIssue_kept rfl Kept.here (fun a1 a2 h_a2 => ?_)
  · extract_lets -merge -underBinder +onlyGivenNames x y r
    try clear_value x y r
    split
    · exact Kept.step (State.faultAt_kept ..) rfl h_a2
    · extract_lets -merge -underBinder +onlyGivenNames s1
      have h_s1 : Kept 680564733841877002484689023960581107398 s s1 := by
        unfold s1
        exact Kept.step (State.localWrite_kept ..) rfl h_a2
      try clear_value s1
      extract_lets -merge -underBinder +onlyGivenNames s2
      have h_s2 : Kept 680564733841877002484689023960581107398 s s2 := by
        unfold s2
        refine Kept.ite ?_ ?_
        · exact Kept.step (State.localWrite_kept ..) rfl h_s1
        · exact h_s1
      try clear_value s2
      exact Kept.step (State.retire_kept ..) rfl h_s2

theorem execTzero_kept (a : SlotId) (s : State) : KeptR 75557939809097044681222 s (execTzero a s) := by
  unfold execTzero
  refine execIssue_kept rfl Kept.here (fun a1 a2 h_a2 => ?_)
  · exact Kept.step (State.retire_kept ..) rfl (Kept.step (State.modRill_kept ..) rfl h_a2)

theorem execUnit_kept (op : Nat) (a : SlotId) (s : State) : KeptR 75557939809097044681222 s (execUnit op a s) := by
  unfold execUnit
  refine execIssue_kept rfl Kept.here (fun a1 a2 h_a2 => ?_)
  · extract_lets -merge -underBinder +onlyGivenNames o
    try clear_value o
    extract_lets -merge -underBinder +onlyGivenNames s1
    have h_s1 : Kept 75557939809097044681222 s s1 := by
      unfold s1
      exact Kept.step (State.modRill_kept ..) rfl h_a2
    try clear_value s1
    exact Kept.step (State.retire_kept ..) rfl h_s1

theorem execTmma_kept (a : SlotId) (s : State) : KeptR 75557939809097044681222 s (execTmma a s) := by
  unfold execTmma
  exact KeptR.step (execUnit_kept ..) rfl Kept.here

theorem execTmmas_kept (a : SlotId) (s : State) : KeptR 75557939809097044681222 s (execTmmas a s) := by
  unfold execTmmas
  exact KeptR.step (execUnit_kept ..) rfl Kept.here

theorem execTcvt_kept (a : SlotId) (s : State) : KeptR 75557939809097044681222 s (execTcvt a s) := by
  unfold execTcvt
  exact KeptR.step (execUnit_kept ..) rfl Kept.here

end Sys2Proof.Machine
end

