-- ==== Sys2Proof/Laws/KeepVector.lean ====
section
/-! SUPPORT. What each operation and each command of Machine/Vector.lean leaves as it was: one frame lemma for each. -/

namespace Sys2Proof.Machine

theorem execVadd_kept (a : SlotId) (s : State) : KeptR 75557939809097044681222 s (execVadd a s) := by
  unfold execVadd
  exact KeptR.step (execUnit_kept ..) rfl Kept.here

theorem execVmul_kept (a : SlotId) (s : State) : KeptR 75557939809097044681222 s (execVmul a s) := by
  unfold execVmul
  exact KeptR.step (execUnit_kept ..) rfl Kept.here

theorem execVmax_kept (a : SlotId) (s : State) : KeptR 75557939809097044681222 s (execVmax a s) := by
  unfold execVmax
  exact KeptR.step (execUnit_kept ..) rfl Kept.here

theorem execVfma_kept (a : SlotId) (s : State) : KeptR 75557939809097044681222 s (execVfma a s) := by
  unfold execVfma
  exact KeptR.step (execUnit_kept ..) rfl Kept.here

theorem execVexp2_kept (a : SlotId) (s : State) : KeptR 75557939809097044681222 s (execVexp2 a s) := by
  unfold execVexp2
  exact KeptR.step (execUnit_kept ..) rfl Kept.here

theorem execVrcp_kept (a : SlotId) (s : State) : KeptR 75557939809097044681222 s (execVrcp a s) := by
  unfold execVrcp
  exact KeptR.step (execUnit_kept ..) rfl Kept.here

theorem execVrsqrt_kept (a : SlotId) (s : State) : KeptR 75557939809097044681222 s (execVrsqrt a s) := by
  unfold execVrsqrt
  exact KeptR.step (execUnit_kept ..) rfl Kept.here

theorem execVredadd_kept (a : SlotId) (s : State) : KeptR 75557939809097044681222 s (execVredadd a s) := by
  unfold execVredadd
  exact KeptR.step (execUnit_kept ..) rfl Kept.here

theorem execVredmax_kept (a : SlotId) (s : State) : KeptR 75557939809097044681222 s (execVredmax a s) := by
  unfold execVredmax
  exact KeptR.step (execUnit_kept ..) rfl Kept.here

theorem execVbcast_kept (a : SlotId) (s : State) : KeptR 75557939809097044681222 s (execVbcast a s) := by
  unfold execVbcast
  exact KeptR.step (execUnit_kept ..) rfl Kept.here

theorem State.opUpset_kept (s : State) (k : Nat) (o : UnitOp) (e : CheckErr) : Kept 75557939811296067936772 s (State.opUpset s k o e) := by
  unfold State.opUpset
  exact Kept.step (State.residueFault_kept ..) rfl (Kept.step (State.modSlot_kept ..) rfl Kept.here)

theorem State.opDone_kept (s : State) (k : Nat) (o : UnitOp) (full : Bool) : Kept 8192 s (State.opDone s k o full) := by
  unfold State.opDone
  extract_lets -merge -underBinder +onlyGivenNames c
  try clear_value c
  exact Kept.step (State.modRill_kept ..) rfl Kept.here

theorem State.endUnitOp_kept {m : Nat} {s0 : State} {s : State} {k : Nat} {q : List UnitOp} {check : Option Upset} {pop : State → State} (hm : 75557939811296067936772 ||| m = m) (h : Kept m s0 s) (hpop : ∀ x, Kept m s0 x → Kept m s0 (pop x)) :
    Kept m s0 (State.endUnitOp s k q check pop) := by
  unfold State.endUnitOp
  split
  · exact h
  · split
    · exact Kept.step (State.opDone_kept ..) (sub_chain rfl hm) (hpop _ h)
    · exact Kept.step (State.opUpset_kept ..) (sub_chain rfl hm) (hpop _ h)

theorem execUnitOpComplete_kept (p : Pos) (u : UnitSel) (slot : Nat) (check : Option Upset) (now : Nat) (s : State) : KeptR 75557939811296067936774 s (execUnitOpComplete p u slot check now s) := by
  unfold execUnitOpComplete
  extract_lets -merge -underBinder +onlyGivenNames k r a ok
  try clear_value k r a ok
  split
  · refine onUnit_kept rfl Kept.here (fun a1 h_a1 => ?_)
    · refine State.endUnitOp_kept rfl (Kept.step (State.atTime_kept ..) rfl h_a1) (fun a2 h_a2 => ?_)
      · exact Kept.step (State.modRill_kept ..) rfl h_a2
  · refine onUnit_kept rfl Kept.here (fun a3 h_a3 => ?_)
    · refine State.endUnitOp_kept rfl (Kept.step (State.atTime_kept ..) rfl h_a3) (fun a4 h_a4 => ?_)
      · exact Kept.step (State.modRill_kept ..) rfl h_a4
  · split
    · refine onUnit_kept rfl Kept.here (fun a5 h_a5 => ?_)
      · exact h_a5
    · refine onUnit_kept rfl Kept.here (fun a6 h_a6 => ?_)
      · exact Kept.step (State.residueFault_kept ..) rfl (Kept.step (State.touchIssue_kept ..) rfl (Kept.step (State.atTime_kept ..) rfl h_a6))
  · split
    · refine onUnit_kept rfl Kept.here (fun a7 h_a7 => ?_)
      · exact h_a7
    · refine onUnit_kept rfl Kept.here (fun a8 h_a8 => ?_)
      · exact Kept.step (State.ballastFail_kept ..) rfl (Kept.step (State.atTime_kept ..) rfl h_a8)

end Sys2Proof.Machine
end

