-- ==== Sys2Proof/Laws/KeepStreams.lean ====
section
/-! SUPPORT. What each operation and each command of Machine/Streams.lean leaves as it was: one frame lemma for each. -/

namespace Sys2Proof.Machine

theorem State.fireEvent_kept (s : State) (k : Nat) (slot : Nat) (evt : Nat) : Kept 8192 s (State.fireEvent s k slot evt) := by
  unfold State.fireEvent
  refine Kept.ite ?_ ?_
  · exact Kept.step (State.modSlot_kept ..) rfl Kept.here
  · exact Kept.here

theorem State.trickleEnd_kept (s : State) (k : Nat) (t : Trickle) (code : Nat) : Kept 9280 s (State.trickleEnd s k t code) := by
  unfold State.trickleEnd
  extract_lets -merge -underBinder +onlyGivenNames s1
  have h_s1 : Kept 9280 s s1 := by
    unfold s1
    refine Kept.ite ?_ ?_
    · exact Kept.here
    · exact Kept.step (State.storeWrite_kept ..) rfl Kept.here
  try clear_value s1
  exact Kept.step (State.fireEvent_kept ..) rfl h_s1

theorem State.writeStat_kept (s : State) (k : Nat) (q : Nat) : Kept 1088 s (State.writeStat s k q) := by
  unfold State.writeStat
  extract_lets -merge -underBinder +onlyGivenNames x
  try clear_value x
  refine Kept.ite ?_ ?_
  · exact Kept.here
  · exact Kept.step (State.storeWrite_kept ..) rfl Kept.here

theorem State.setQst_kept (s : State) (k : Nat) (q : Nat) (st : Nat) : Kept 9280 s (State.setQst s k q st) := by
  unfold State.setQst
  exact Kept.step (State.writeStat_kept ..) rfl (Kept.step (State.modQueue_kept ..) rfl Kept.here)

theorem State.queueFault_kept (s : State) (k : Nat) (q : Nat) (code : Nat) (program : Bool) : Kept 75557939809097044682308 s (State.queueFault s k q code program) := by
  unfold State.queueFault
  extract_lets -merge -underBinder +onlyGivenNames x
  try clear_value x
  refine Kept.ite ?_ ?_
  · extract_lets -merge -underBinder +onlyGivenNames s1
    have h_s1 : Kept 75557939809097044682308 s s1 := by
      unfold s1
      exact Kept.step (State.setQst_kept ..) rfl (Kept.step (State.modQueue_kept ..) rfl Kept.here)
    try clear_value s1
    extract_lets -merge -underBinder +onlyGivenNames s2
    have h_s2 : Kept 75557939809097044682308 s s2 := by
      unfold s2
      refine Kept.ite ?_ ?_
      · exact Kept.step (State.setQst_kept ..) rfl (Kept.step (State.modQueue_kept ..) rfl h_s1)
      · exact h_s1
    try clear_value s2
    refine Kept.ite ?_ ?_
    · exact Kept.step (State.programFault_kept ..) rfl h_s2
    · exact Kept.step (State.streamFault_kept ..) rfl h_s2
  · refine Kept.ite ?_ ?_
    · exact Kept.step (State.modQueue_kept ..) rfl Kept.here
    · exact Kept.here

theorem State.queueSendOr_kept (s : State) (k : Nat) (q : Nat) (p : Packet) : Kept 75557939809097044682308 s (State.queueSendOr s k q p) := by
  unfold State.queueSendOr
  split
  · rename_i s1 hq
    have h_s1 := (show KeptO 75557939809097044682308 s _ by
      exact KeptO.step (State.inject?_kept ..) rfl Kept.here
      ).on _ hq
    clear hq
    exact h_s1
  · exact Kept.step (State.queueFault_kept ..) rfl (Kept.step (State.unreachable_kept ..) rfl Kept.here)

theorem State.advanceFilled_kept (s : State) (k : Nat) (q : Nat) (n : Nat) : Kept 9280 s (State.advanceFilled s k q n) := by
  induction n generalizing s with
  | zero => exact Kept.here
  | succ f ih =>
    unfold State.advanceFilled
    extract_lets -merge -underBinder +onlyGivenNames x
    clear_value x
    refine Kept.ite ?_ Kept.here
    extract_lets -merge -underBinder +onlyGivenNames s1
    have h1 : Kept 9280 s s1 := by
      unfold s1
      exact Kept.step (State.modQueue_kept ..) rfl Kept.here
    clear_value s1
    extract_lets -merge -underBinder +onlyGivenNames a s2
    have h2 : Kept 9280 s s2 := by
      unfold s2
      refine Kept.ite ?_ h1
      exact Kept.step (State.fireEvent_kept ..) rfl (Kept.step (State.writeStat_kept ..) rfl h1)
    clear_value s2
    exact Kept.step (ih _) rfl h2

theorem State.tileDone_kept (s : State) (k : Nat) (q : Nat) (n : Nat) : Kept 9280 s (State.tileDone s k q n) := by
  unfold State.tileDone
  extract_lets -merge -underBinder +onlyGivenNames s1
  have h_s1 : Kept 9280 s s1 := by
    unfold s1
    exact Kept.step (State.modQueue_kept ..) rfl Kept.here
  try clear_value s1
  exact Kept.step (State.advanceFilled_kept ..) rfl h_s1

theorem State.landTile_kept (s : State) (k : Nat) (q : Nat) (n : Nat) (bytes : List Byte) (poison : Bool) (kIn : Nat) : Kept 75557939809097044682308 s (State.landTile s k q n bytes poison kIn) := by
  unfold State.landTile
  extract_lets -merge -underBinder +onlyGivenNames x d kept
  try clear_value x d kept
  extract_lets -merge -underBinder +onlyGivenNames s1
  have h_s1 : Kept 75557939809097044682308 s s1 := by
    unfold s1
    exact Kept.step (State.storeWrite_kept ..) rfl Kept.here
  try clear_value s1
  extract_lets -merge -underBinder +onlyGivenNames slices rest kOut
  try clear_value slices rest kOut
  extract_lets -merge -underBinder +onlyGivenNames src p s2
  try clear_value src
  try clear_value p
  have h_s2 : Kept 75557939809097044682308 s s2 := by
    unfold s2
    refine Kept.ite ?_ ?_
    · exact Kept.step (State.queueSendOr_kept ..) rfl h_s1
    · exact h_s1
  try clear_value s2
  exact Kept.step (State.tileDone_kept ..) rfl h_s2

theorem State.queueClose_kept (s : State) (k : Nat) (q : Nat) : Kept 54124548 s (State.queueClose s k q) := by
  unfold State.queueClose
  extract_lets -merge -underBinder +onlyGivenNames x d
  try clear_value x d
  refine Kept.ite ?_ ?_
  · split
    · rename_i xid s1 hq
      have h_s1 := Kept.eq2 hq (m := 54124548) (s0 := s) (by
        exact Kept.step (State.fresh_kept ..) rfl Kept.here
        )
      clear hq
      extract_lets -merge -underBinder +onlyGivenNames src p
      try clear_value src
      try clear_value p
      split
      · rename_i s2 hq1
        have h_s2 := (show KeptO 54124548 s _ by
          exact KeptO.step (State.inject?_kept ..) rfl h_s1
          ).on _ hq1
        clear hq1
        exact Kept.step (State.modQueue_kept ..) rfl h_s2
      · exact Kept.step (State.unreachable_kept ..) rfl h_s1
  · exact Kept.here

theorem State.queueStop_kept (s : State) (k : Nat) (q : Nat) : Kept 54125636 s (State.queueStop s k q) := by
  unfold State.queueStop
  extract_lets -merge -underBinder +onlyGivenNames s1
  have h_s1 : Kept 54125636 s s1 := by
    unfold s1
    exact Kept.step (State.setQst_kept ..) rfl (Kept.step (State.modQueue_kept ..) rfl Kept.here)
  try clear_value s1
  exact Kept.step (State.queueClose_kept ..) rfl h_s1

theorem State.stopQueue_kept (s : State) (k : Nat) (q : Nat) : Kept 54125636 s (State.stopQueue s k q) := by
  unfold State.stopQueue
  extract_lets -merge -underBinder +onlyGivenNames x
  try clear_value x
  refine Kept.ite ?_ ?_
  · extract_lets -merge -underBinder +onlyGivenNames s1
    have h_s1 : Kept 54125636 s s1 := by
      unfold s1
      exact Kept.step (State.writeStat_kept ..) rfl (Kept.step (State.modQueue_kept ..) rfl Kept.here)
    try clear_value s1
    refine Kept.ite ?_ ?_
    · exact Kept.step (State.queueClose_kept ..) rfl h_s1
    · exact h_s1
  · refine Kept.ite ?_ ?_
    · exact Kept.step (State.queueStop_kept ..) rfl Kept.here
    · refine Kept.ite ?_ ?_
      · exact Kept.step (State.writeStat_kept ..) rfl (Kept.step (State.modQueue_kept ..) rfl Kept.here)
      · exact Kept.here

theorem State.queueStarted_kept (s : State) (k : Nat) (q : Nat) : Kept 54125636 s (State.queueStarted s k q) := by
  unfold State.queueStarted
  extract_lets -merge -underBinder +onlyGivenNames s1
  have h_s1 : Kept 54125636 s s1 := by
    unfold s1
    exact Kept.step (State.setQst_kept ..) rfl Kept.here
  try clear_value s1
  refine Kept.ite ?_ ?_
  · exact Kept.step (State.queueStop_kept ..) rfl h_s1
  · exact h_s1

theorem State.queueBegin_kept (s : State) (k : Nat) (q : Nat) (d : Desc) (slot : Nat) : Kept 75557939809097044715076 s (State.queueBegin s k q d slot) := by
  unfold State.queueBegin
  extract_lets -merge -underBinder +onlyGivenNames s1
  have h_s1 : Kept 75557939809097044715076 s s1 := by
    unfold s1
    exact Kept.step (State.modQueue_kept ..) rfl Kept.here
  try clear_value s1
  extract_lets -merge -underBinder +onlyGivenNames s2
  have h_s2 : Kept 75557939809097044715076 s s2 := by
    unfold s2
    exact Kept.step (State.setQst_kept ..) rfl h_s1
  try clear_value s2
  refine Kept.ite ?_ ?_
  · split
    · rename_i xid s3 hq
      have h_s3 := Kept.eq2 hq (m := 75557939809097044715076) (s0 := s) (by
        exact Kept.step (State.fresh_kept ..) rfl h_s2
        )
      clear hq
      extract_lets -merge -underBinder +onlyGivenNames src p
      try clear_value src
      try clear_value p
      exact Kept.step (State.queueSendOr_kept ..) rfl h_s3
  · exact h_s2

theorem State.trickleStart_kept (s : State) (k : Nat) (slot : Nat) (d : Desc) : Kept 75557939809097044715076 s (State.trickleStart s k slot d) := by
  unfold State.trickleStart
  split
  · rename_i xid s1 hq
    have h_s1 := Kept.eq2 hq (m := 75557939809097044715076) (s0 := s) (by
      exact Kept.step (State.fresh_kept ..) rfl Kept.here
      )
    clear hq
    extract_lets -merge -underBinder +onlyGivenNames t p
    try clear_value t p
    split
    · rename_i s2 hq1
      have h_s2 := (show KeptO 75557939809097044715076 s _ by
        exact KeptO.step (State.inject?_kept ..) rfl h_s1
        ).on _ hq1
      clear hq1
      exact Kept.step (State.modRill_kept ..) rfl h_s2
    · exact Kept.step (State.programFault_kept ..) rfl (Kept.step (State.trickleEnd_kept ..) rfl (Kept.step (State.unreachable_kept ..) rfl h_s1))

end Sys2Proof.Machine
end

