-- ==== Sys2Proof/Laws/KeepBlocks.lean ====
section
/-! SUPPORT. What each operation and each command of Machine/Blocks.lean leaves as it was: one frame lemma for each. -/

namespace Sys2Proof.Machine

theorem State.startDone_kept {m : Nat} {s0 : State} {s : State} {cls : Nat} {inst : Nat} {atStop : State → State} (hm : 4 ||| m = m) (h : Kept m s0 s) (hatStop : ∀ x, Kept m s0 x → Kept m s0 (atStop x)) :
    Kept m s0 (State.startDone s cls inst atStop) := by
  unfold State.startDone
  extract_lets -merge -underBinder +onlyGivenNames s1
  have h_s1 : Kept m s0 s1 := by
    unfold s1
    exact Kept.step (State.setPst_kept ..) (sub_chain rfl hm) h
  try clear_value s1
  refine Kept.ite ?_ ?_
  · exact hatStop _ (Kept.step (State.setPst_kept ..) (sub_chain rfl hm) (Kept.step (State.setPendOff_kept ..) (sub_chain rfl hm) h_s1))
  · exact h_s1

theorem State.pageFault_kept {m : Nat} {s0 : State} {s : State} {cls : Nat} {inst : Nat} {atStop : State → State} (hm : 4 ||| m = m) (h : Kept m s0 s) (hatStop : ∀ x, Kept m s0 x → Kept m s0 (atStop x)) :
    Kept m s0 (State.pageFault s cls inst atStop) := by
  unfold State.pageFault
  extract_lets -merge -underBinder +onlyGivenNames st
  try clear_value st
  refine Kept.ite ?_ ?_
  · extract_lets -merge -underBinder +onlyGivenNames s1
    have h_s1 : Kept m s0 s1 := by
      unfold s1
      exact Kept.step (State.setPst_kept ..) (sub_chain rfl hm) h
    try clear_value s1
    refine Kept.ite ?_ ?_
    · exact hatStop _ (Kept.step (State.setPst_kept ..) (sub_chain rfl hm) (Kept.step (State.setPendOff_kept ..) (sub_chain rfl hm) h_s1))
    · exact h_s1
  · refine Kept.ite ?_ ?_
    · exact Kept.step (State.setPst_kept ..) (sub_chain rfl hm) h
    · exact h

theorem State.stopDone_kept {m : Nat} {s0 : State} {s : State} {cls : Nat} {inst : Nat} {atStart : State → State} (hm : 4 ||| m = m) (h : Kept m s0 s) (hatStart : ∀ x, Kept m s0 x → Kept m s0 (atStart x)) :
    Kept m s0 (State.stopDone s cls inst atStart) := by
  unfold State.stopDone
  extract_lets -merge -underBinder +onlyGivenNames s1
  have h_s1 : Kept m s0 s1 := by
    unfold s1
    exact Kept.step (State.setPst_kept ..) (sub_chain rfl hm) h
  try clear_value s1
  refine Kept.ite ?_ ?_
  · exact hatStart _ (Kept.step (State.setPst_kept ..) (sub_chain rfl hm) (Kept.step (State.setPendOn_kept ..) (sub_chain rfl hm) h_s1))
  · exact h_s1

theorem State.isolatePage_kept (s : State) (cls : Nat) (inst : Nat) : Kept 4 s (State.isolatePage s cls inst) := by
  unfold State.isolatePage
  exact Kept.step (State.setPendOff_kept ..) rfl (Kept.step (State.setPendOn_kept ..) rfl (Kept.step (State.setPst_kept ..) rfl Kept.here))

theorem State.enReqOn_kept {m : Nat} {s0 : State} {s : State} {cls : Nat} {inst : Nat} {atStart : State → State} (hm : 4 ||| m = m) (h : Kept m s0 s) (hatStart : ∀ x, Kept m s0 x → Kept m s0 (atStart x)) :
    Kept m s0 (State.enReqOn s cls inst atStart) := by
  unfold State.enReqOn
  extract_lets -merge -underBinder +onlyGivenNames st
  try clear_value st
  refine Kept.ite ?_ ?_
  · exact hatStart _ (Kept.step (State.setPst_kept ..) (sub_chain rfl hm) h)
  · refine Kept.ite ?_ ?_
    · exact Kept.step (State.setPendOn_kept ..) (sub_chain rfl hm) h
    · exact h

theorem State.stopReqOn_kept {m : Nat} {s0 : State} {s : State} {cls : Nat} {inst : Nat} {atStop : State → State} (hm : 4 ||| m = m) (h : Kept m s0 s) (hatStop : ∀ x, Kept m s0 x → Kept m s0 (atStop x)) :
    Kept m s0 (State.stopReqOn s cls inst atStop) := by
  unfold State.stopReqOn
  extract_lets -merge -underBinder +onlyGivenNames st
  try clear_value st
  refine Kept.ite ?_ ?_
  · exact Kept.step (State.setPendOff_kept ..) (sub_chain rfl hm) h
  · refine Kept.ite ?_ ?_
    · exact hatStop _ (Kept.step (State.setPst_kept ..) (sub_chain rfl hm) h)
    · refine Kept.ite ?_ ?_
      · exact Kept.step (State.setPendOn_kept ..) (sub_chain rfl hm) h
      · exact h

theorem State.isolateOn_kept (s : State) (cls : Nat) (inst : Nat) : Kept 4 s (State.isolateOn s cls inst) := by
  unfold State.isolateOn
  extract_lets -merge -underBinder +onlyGivenNames st
  try clear_value st
  refine Kept.ite ?_ ?_
  · exact Kept.step (State.ignored_kept ..) rfl Kept.here
  · refine Kept.ite ?_ ?_
    · exact Kept.step (State.setPst_kept ..) rfl Kept.here
    · refine Kept.ite ?_ ?_
      · exact Kept.here
      · exact Kept.step (State.ignored_kept ..) rfl Kept.here

end Sys2Proof.Machine
end

