-- ==== Sys2Proof/Laws/KeepManifest.lean ====
section
/-! SUPPORT. What each operation and each command of Machine/Manifest.lean leaves as it was: one frame lemma for each. -/

namespace Sys2Proof.Machine

theorem State.unbind_kept (s : State) (c : Nat) (x : Nat) : Kept 30064771076 s (State.unbind s c x) := by
  unfold State.unbind
  extract_lets -merge -underBinder +onlyGivenNames s1
  have h_s1 : Kept 30064771076 s s1 := by
    unfold s1
    exact Kept.upd_hwMan_hwBinding_hwKeys (s := s) rfl Kept.here
  try clear_value s1
  exact Kept.step (State.setB_kept ..) rfl (Kept.step (State.setB_kept ..) rfl h_s1)

theorem State.goFront_kept (s : State) (c : Nat) : Kept 137438953472 s (State.goFront s c) := by
  unfold State.goFront
  refine Kept.ite ?_ ?_
  · exact Kept.upd_frontGo (s := s) rfl Kept.here
  · exact Kept.here

theorem State.bind_kept (s : State) (c : Nat) (x : Nat) : Kept 8589934592 s (State.bind s c x) := by
  unfold State.bind
  refine Kept.ite ?_ ?_
  · exact Kept.upd_hwBinding (s := s) rfl Kept.here
  · exact Kept.here

theorem execBind_kept (ctx : Nat) (slot : Nat) (s : State) : KeptR 8589934592 s (execBind ctx slot s) := by
  unfold execBind
  refine onUnit_kept rfl Kept.here (fun a h_a => ?_)
  · exact Kept.step (State.bind_kept ..) rfl h_a

theorem State.readMan_kept (s : State) (c : Nat) (x : Nat) : Kept 410583044 s (State.readMan s c x).2 := by
  unfold State.readMan
  extract_lets -merge -underBinder +onlyGivenNames va
  try clear_value va
  split
  · rename_i val s1 hq
    have h_s1 := Kept.eq2 hq (m := 410583044) (s0 := s) (by
      exact Kept.step (State.vaRead_kept ..) rfl Kept.here
      )
    clear hq
    refine Kept.pair2 ?_
    exact h_s1
  · rename_i h1 s2 hq1
    have h_s2 := Kept.eq2 hq1 (m := 410583044) (s0 := s) (by
      exact Kept.step (State.vaRead_kept ..) rfl Kept.here
      )
    clear hq1
    refine Kept.ite2 ?_ ?_
    · refine Kept.pair2 ?_
      exact h_s2
    · split
      · rename_i val1 s3 hq2
        have h_s3 := Kept.eq2 hq2 (m := 410583044) (s0 := s) (by
          exact Kept.step (State.vaRead_kept ..) rfl h_s2
          )
        clear hq2
        refine Kept.pair2 ?_
        exact h_s3
      · rename_i m1 s4 hq3
        have h_s4 := Kept.eq2 hq3 (m := 410583044) (s0 := s) (by
          exact Kept.step (State.vaRead_kept ..) rfl h_s2
          )
        clear hq3
        refine Kept.pair2 ?_
        exact h_s4

theorem execBindDone_kept (ctx : Nat) (slot : Nat) (s : State) : KeptR 13295484932 s (execBindDone ctx slot s) := by
  unfold execBindDone
  refine onUnit_kept rfl Kept.here (fun a h_a => ?_)
  · extract_lets -merge -underBinder +onlyGivenNames s1
    have h_s1 : Kept 13295484932 s s1 := by
      unfold s1
      exact Kept.upd_hwBinding (s := a) rfl h_a
    try clear_value s1
    split
    · rename_i a1 s2 hq
      have h_s2 := Kept.eq2 hq (m := 13295484932) (s0 := s) (by
        exact Kept.step (State.readMan_kept ..) rfl h_s1
        )
      clear hq
      extract_lets -merge -underBinder +onlyGivenNames good
      try clear_value good
      split
      · extract_lets -merge -underBinder +onlyGivenNames s3
        have h_s3 : Kept 13295484932 s s3 := by
          unfold s3
          exact Kept.upd_hwMan (s := s2) rfl h_s2
        try clear_value s3
        exact Kept.step (State.setRegN_kept ..) rfl (Kept.step (State.setB_kept ..) rfl h_s3)
      · extract_lets -merge -underBinder +onlyGivenNames s4
        have h_s4 : Kept 13295484932 s s4 := by
          unfold s4
          exact Kept.upd_hwMan (s := s2) rfl h_s2
        try clear_value s4
        exact Kept.step (State.cairnLog_kept ..) rfl (Kept.step (State.setB_kept ..) rfl h_s4)

theorem execFrontGo_kept (ctx : Nat) (s : State) : KeptR 137438953472 s (execFrontGo ctx s) := by
  unfold execFrontGo
  refine onUnit_kept rfl Kept.here (fun a h_a => ?_)
  · exact Kept.step (State.goFront_kept ..) rfl h_a

end Sys2Proof.Machine
end

