-- ==== Sys2Proof/Laws/KeepHeadwater.lean ====
section
/-! SUPPORT. What each operation and each command of Machine/Headwater.lean leaves as it was: one frame lemma for each. -/

namespace Sys2Proof.Machine

theorem State.setHw_kept (s : State) (h1 : HwStream) : Kept 536870912 s (State.setHw s h1) := by
  unfold State.setHw
  exact Kept.upd_hws (s := s) rfl Kept.here

theorem State.hwConfirm_kept (s : State) (h1 : HwStream) (code : Nat) : Kept 54083588 s (State.hwConfirm s h1 code) := by
  unfold State.hwConfirm
  exact Kept.step (State.inject_kept ..) rfl Kept.here

theorem State.hwFault_kept (s : State) (h1 : HwStream) (code : Nat) (record : Bool) : Kept 590954500 s (State.hwFault s h1 code record) := by
  unfold State.hwFault
  extract_lets -merge -underBinder +onlyGivenNames s1
  have h_s1 : Kept 590954500 s s1 := by
    unfold s1
    exact Kept.step (State.hwConfirm_kept ..) rfl (Kept.step (State.setHw_kept ..) rfl Kept.here)
  try clear_value s1
  refine Kept.ite ?_ ?_
  · extract_lets -merge -underBinder +onlyGivenNames r items u
    try clear_value r items u
    exact Kept.step (State.cairnLog_kept ..) rfl h_s1
  · exact h_s1

theorem State.hwStale_kept (s : State) (c : Nat) (code : Nat) : Kept 4 s (State.hwStale s c code) := by
  unfold State.hwStale
  refine Kept.ite ?_ ?_
  · exact Kept.step (State.incSat_kept ..) rfl Kept.here
  · exact Kept.here

theorem State.hwTakeUp_kept (s : State) (h1 : HwStream) (d : Desc) : Kept 590954500 s (State.hwTakeUp s h1 d) := by
  unfold State.hwTakeUp
  split
  · exact Kept.step (State.hwFault_kept ..) rfl (Kept.step (State.setHw_kept ..) rfl (Kept.step (State.hwStale_kept ..) rfl Kept.here))
  · refine Kept.ite ?_ ?_
    · exact Kept.step (State.setHw_kept ..) rfl Kept.here
    · exact Kept.step (State.setHw_kept ..) rfl Kept.here

theorem State.hwPump_kept (s : State) (port : Nat) (slot : Nat) (n : Nat) : Kept 590954500 s (State.hwPump s port slot n) := by
  induction n generalizing s with
  | zero => exact Kept.here
  | succ f ih =>
    unfold State.hwPump
    split
    · exact Kept.here
    · refine Kept.ite Kept.here (Kept.ite ?_ (Kept.ite Kept.here ?_))
      · split
        · exact Kept.step (State.setHw_kept ..) rfl Kept.here
        · exact Kept.ite Kept.here (Kept.step (ih _) rfl (Kept.step (State.hwTakeUp_kept ..) rfl Kept.here))
      · split
        · exact Kept.step (State.hwFault_kept ..) rfl Kept.here
        · extract_lets -merge -underBinder +onlyGivenNames off
          clear_value off
          refine Kept.ite ?_ ?_
          · exact Kept.step (State.hwFault_kept ..) rfl Kept.here
          · extract_lets -merge -underBinder +onlyGivenNames fs
            clear_value fs
            refine Kept.ite ?_ Kept.here
            extract_lets -merge -underBinder +onlyGivenNames s1
            have h1 : Kept 590954500 s s1 := by
              unfold s1
              exact Kept.step (State.inject_kept ..) rfl Kept.here
            clear_value s1
            extract_lets -merge -underBinder +onlyGivenNames h' keep
            exact Kept.step (ih _) rfl (Kept.step (State.setHw_kept ..) rfl h1)

theorem State.hwAfter_kept (s : State) (port : Nat) (slot : Nat) : Kept 590954500 s (State.hwAfter s port slot) := by
  unfold State.hwAfter
  split
  · exact Kept.step (State.hwSync_kept ..) rfl Kept.here
  · exact Kept.step (State.hwSync_kept ..) rfl (Kept.step (State.hwcSync_kept ..) rfl (Kept.step (State.hwPump_kept ..) rfl Kept.here))

theorem State.hwEmit_kept (s : State) (p : Nat) (d : Dgram) : Kept 52428804 s (State.hwEmit s p d) := by
  unfold State.hwEmit
  exact Kept.step (State.feedUnit_kept ..) rfl (Kept.step (State.emit_kept ..) rfl Kept.here)

theorem State.hwSendDgram_kept (s : State) (p : Nat) (d : Dgram) : Kept 2199912452 s (State.hwSendDgram s p d) := by
  unfold State.hwSendDgram
  extract_lets -merge -underBinder +onlyGivenNames d1 d2
  try clear_value d1 d2
  refine Kept.ite ?_ ?_
  · exact Kept.upd_hwWait (s := s) rfl Kept.here
  · exact Kept.step (State.hwEmit_kept ..) rfl Kept.here

theorem State.hwRequest_kept (s : State) (h1 : HwStream) (r : HwRange) (type : Nat) (frames : List Nat) : Kept 2199912452 s (State.hwRequest s h1 r type frames) := by
  unfold State.hwRequest
  refine Kept.ite ?_ ?_
  · refine Kept.foldl _ (fun x h_x a => ?_) ?_
    · refine Kept.foldl _ (fun x1 h_x1 a1 => ?_) ?_
      · exact Kept.step (State.emit_kept ..) rfl h_x1
      · exact h_x
    · exact Kept.here
  · refine Kept.foldl _ (fun x2 h_x2 a2 => ?_) ?_
    · extract_lets -merge -underBinder +onlyGivenNames pay
      try clear_value pay
      extract_lets -merge -underBinder +onlyGivenNames s1
      have h_s1 : Kept 2199912452 s s1 := by
        unfold s1
        exact Kept.step (State.hwSendDgram_kept ..) rfl h_x2
      try clear_value s1
      refine Kept.ite ?_ ?_
      · exact Kept.step (State.incSat_kept ..) rfl h_s1
      · exact h_s1
    · exact Kept.here

theorem State.hwMove_kept (s : State) (h1 : HwStream) : Kept 2736783364 s (State.hwMove s h1) := by
  unfold State.hwMove
  split
  · exact Kept.here
  · split
    · exact Kept.here
    · extract_lets -merge -underBinder +onlyGivenNames slot
      try clear_value slot
      refine Kept.ite ?_ ?_
      · exact Kept.here
      · extract_lets -merge -underBinder +onlyGivenNames h'
        try clear_value h'
        extract_lets -merge -underBinder +onlyGivenNames s1
        have h_s1 : Kept 2736783364 s s1 := by
          unfold s1
          exact Kept.upd_hws (s := s) rfl Kept.here
        try clear_value s1
        refine Kept.foldl _ (fun x h_x a => ?_) ?_
        · exact Kept.step (State.hwRequest_kept ..) rfl h_x
        · exact h_s1

theorem State.portLeave_kept (s : State) (p : Nat) : Kept 71456260100 s (State.portLeave s p) := by
  unfold State.portLeave
  extract_lets -merge -underBinder +onlyGivenNames s1
  have h_s1 : Kept 71456260100 s s1 := by
    unfold s1
    exact Kept.step (State.setB_kept ..) rfl (Kept.step (State.setB_kept ..) rfl Kept.here)
  try clear_value s1
  extract_lets -merge -underBinder +onlyGivenNames s2
  have h_s2 : Kept 71456260100 s s2 := by
    unfold s2
    exact Kept.upd_hwWait_portLeft (s := s1) rfl h_s1
  try clear_value s2
  refine Kept.step (State.hwSync_kept ..) rfl ?_
  refine Kept.foldl _ (fun x h_x a => ?_) ?_
  · exact Kept.step (State.hwMove_kept ..) rfl h_x
  · exact h_s2

theorem State.portAtStop_kept (s : State) (p : Nat) : Kept 71456260100 s (State.portAtStop s p) := by
  unfold State.portAtStop
  refine State.stopDone_kept rfl (Kept.step (State.portLeave_kept ..) rfl Kept.here) (fun a h_a => ?_)
  · exact h_a

theorem State.hwRest_kept (s : State) (c : Nat) : Kept 590954500 s (State.hwRest s c) := by
  unfold State.hwRest
  refine Kept.foldl _ (fun x h_x a => ?_) ?_
  · exact Kept.step (State.hwAfter_kept ..) rfl h_x
  · exact Kept.here

theorem State.swapCancel_kept (s : State) (c : Nat) : Kept 138029907972 s (State.swapCancel s c) := by
  unfold State.swapCancel
  extract_lets -merge -underBinder +onlyGivenNames s1
  have h_s1 : Kept 138029907972 s s1 := by
    unfold s1
    exact Kept.step (State.setB_kept ..) rfl (Kept.step (State.setF_kept ..) rfl Kept.here)
  try clear_value s1
  extract_lets -merge -underBinder +onlyGivenNames s2
  have h_s2 : Kept 138029907972 s s2 := by
    unfold s2
    exact Kept.upd_frontGo (s := s1) rfl h_s1
  try clear_value s2
  extract_lets -merge -underBinder +onlyGivenNames s3
  have h_s3 : Kept 138029907972 s s3 := by
    unfold s3
    refine Kept.foldl _ (fun x h_x a => ?_) ?_
    · extract_lets -merge -underBinder +onlyGivenNames s4
      have h_s4 : Kept 138029907972 s s4 := by
        unfold s4
        exact Kept.step (State.hwConfirm_kept ..) rfl (Kept.step (State.hwStale_kept ..) rfl h_x)
      try clear_value s4
      exact Kept.upd_hws (s := s4) rfl h_s4
    · exact h_s2
  try clear_value s3
  extract_lets -merge -underBinder +onlyGivenNames s5
  have h_s5 : Kept 138029907972 s s5 := by
    unfold s5
    refine Kept.foldl _ (fun x1 h_x1 a1 => ?_) ?_
    · split
      · exact Kept.step (State.hwTakeUp_kept ..) rfl h_x1
      · exact h_x1
    · exact h_s3
  try clear_value s5
  exact Kept.step (State.hwSync_kept ..) rfl (Kept.step (State.hwcSync_kept ..) rfl (Kept.step (State.hwRest_kept ..) rfl h_s5))

theorem State.hwDiscard_kept (s : State) (p : Nat) : Kept 4 s (State.hwDiscard s p) := by
  unfold State.hwDiscard
  exact Kept.step (State.incSat_kept ..) rfl Kept.here

theorem State.hwResume_kept (s : State) (p : Nat) : Kept 2199912452 s (State.hwResume s p) := by
  unfold State.hwResume
  refine Kept.foldl _ (fun x h_x a => ?_) ?_
  · exact Kept.step (State.hwEmit_kept ..) rfl h_x
  · exact Kept.upd_hwWait (s := s) rfl Kept.here

theorem State.hwRetry_kept (s : State) (h1 : HwStream) (e : Fetch) : Kept 2738438148 s (State.hwRetry s h1 e) := by
  unfold State.hwRetry
  split
  · exact Kept.step (State.hwFault_kept ..) rfl Kept.here
  · refine Kept.ite ?_ ?_
    · exact Kept.step (State.hwFault_kept ..) rfl Kept.here
    · exact Kept.step (State.hwRequest_kept ..) rfl (Kept.step (State.setHw_kept ..) rfl Kept.here)

theorem State.hwFrame_kept (s : State) (h1 : HwStream) (idx : Nat) (aad : List Byte) (body : List Byte) :
    Kept 2738438148 s (State.hwFrame s h1 idx aad body) := by
  unfold State.hwFrame
  refine Kept.ite Kept.here ?_
  extract_lets -merge -underBinder +onlyGivenNames count
  have hc : ∀ t off, Kept 2738438148 s t → Kept 2738438148 s (count t off) := by
    intro t off ht
    unfold count
    exact Kept.ite ht (Kept.step (State.incSat_kept ..) rfl ht)
  clear_value count
  split
  · extract_lets -merge -underBinder +onlyGivenNames nonce
    clear_value nonce
    split
    · extract_lets -merge -underBinder +onlyGivenNames s1
      have h_s1 : Kept 2738438148 s s1 := by
        unfold s1
        exact Kept.ite Kept.here (Kept.step (State.add64_kept ..) rfl Kept.here)
      clear_value s1
      exact Kept.step (State.hwAfter_kept ..) rfl (Kept.step (State.setHw_kept ..) rfl h_s1)
    · extract_lets -merge -underBinder +onlyGivenNames s2
      have h_s2 : Kept 2738438148 s s2 := hc _ _ Kept.here
      clear_value s2
      refine Kept.ite ?_ ?_
      · exact Kept.step (State.hwFault_kept ..) rfl h_s2
      · exact Kept.step (State.hwRequest_kept ..) rfl (Kept.step (State.setHw_kept ..) rfl h_s2)
  · exact Kept.here

theorem State.setGrad_kept (s : State) (g : Grad) : Kept 1073741824 s (State.setGrad s g) := by
  unfold State.setGrad
  exact Kept.upd_grads (s := s) rfl Kept.here

theorem State.gradSend_kept (s : State) (g : Grad) : Kept 3273654276 s (State.gradSend s g) := by
  unfold State.gradSend
  extract_lets -merge -underBinder +onlyGivenNames port g1
  try clear_value port g1
  extract_lets -merge -underBinder +onlyGivenNames s1
  have h_s1 : Kept 3273654276 s s1 := by
    unfold s1
    exact Kept.step (State.setGrad_kept ..) rfl Kept.here
  try clear_value s1
  refine Kept.ite ?_ ?_
  · exact h_s1
  · extract_lets -merge -underBinder +onlyGivenNames pay
    try clear_value pay
    exact Kept.step (State.hwSendDgram_kept ..) rfl h_s1

theorem State.gradWrite_kept (s : State) (g0 : Grad) (lo : Nat) (b : List Byte) : Kept 3273654276 s (State.gradWrite s g0 lo b) := by
  unfold State.gradWrite
  extract_lets -merge -underBinder +onlyGivenNames s1
  have h_s1 : Kept 3273654276 s s1 := by
    unfold s1
    refine Kept.ite ?_ ?_
    · exact Kept.here
    · exact Kept.upd_grads (s := s) rfl Kept.here
  try clear_value s1
  split
  · exact h_s1
  · refine Kept.ite ?_ ?_
    · exact h_s1
    · extract_lets -merge -underBinder +onlyGivenNames g
      try clear_value g
      extract_lets -merge -underBinder +onlyGivenNames s2
      have h_s2 : Kept 3273654276 s s2 := by
        unfold s2
        exact Kept.step (State.setGrad_kept ..) rfl h_s1
      try clear_value s2
      refine Kept.ite ?_ ?_
      · exact Kept.step (State.gradSend_kept ..) rfl h_s2
      · exact h_s2

theorem State.gradTile_kept (s : State) (h1 : HwStream) (r : HwRange) (layer : Nat) (step : Nat) (off : Nat) (b : List Byte) : Kept 3273654276 s (State.gradTile s h1 r layer step off b) := by
  unfold State.gradTile
  refine Kept.foldl _ (fun x h_x a => ?_) ?_
  · extract_lets -merge -underBinder +onlyGivenNames i len
    try clear_value i len
    exact Kept.step (State.gradWrite_kept ..) rfl h_x
  · exact Kept.here

theorem State.confirmHeld_kept (s : State) (c : Nat) (k : Nat) : Kept 590954500 s (State.confirmHeld s c k) := by
  unfold State.confirmHeld
  refine Kept.foldl _ (fun x h_x a => ?_) ?_
  · refine Kept.ite ?_ ?_
    · exact Kept.step (State.hwAfter_kept ..) rfl (Kept.step (State.hwConfirm_kept ..) rfl (Kept.step (State.setHw_kept ..) rfl h_x))
    · refine Kept.ite ?_ ?_
      · split
        · exact Kept.step (State.hwAfter_kept ..) rfl (Kept.step (State.hwTakeUp_kept ..) rfl h_x)
        · exact h_x
      · exact h_x
  · exact Kept.here

theorem State.swapComplete_kept (s : State) (c : Nat) : Kept 167506477572 s (State.swapComplete s c) := by
  unfold State.swapComplete
  extract_lets -merge -underBinder +onlyGivenNames old
  try clear_value old
  extract_lets -merge -underBinder +onlyGivenNames s1
  have h_s1 : Kept 167506477572 s s1 := by
    unfold s1
    exact Kept.step (State.unbind_kept ..) rfl (Kept.step (State.setB_kept ..) rfl Kept.here)
  try clear_value s1
  extract_lets -merge -underBinder +onlyGivenNames s2
  have h_s2 : Kept 167506477572 s s2 := by
    unfold s2
    exact Kept.step (State.setB_kept ..) rfl (Kept.step (State.setF_kept ..) rfl h_s1)
  try clear_value s2
  extract_lets -merge -underBinder +onlyGivenNames s3
  have h_s3 : Kept 167506477572 s s3 := by
    unfold s3
    exact Kept.upd_frontGo (s := s2) rfl h_s2
  try clear_value s3
  split
  · exact Kept.step (State.endLong_kept ..) rfl h_s3
  · exact h_s3

theorem State.rebind_kept (s : State) (c : Nat) : Kept 168094810628 s (State.rebind s c) := by
  unfold State.rebind
  extract_lets -merge -underBinder +onlyGivenNames k
  try clear_value k
  extract_lets -merge -underBinder +onlyGivenNames s1
  have h_s1 : Kept 168094810628 s s1 := by
    unfold s1
    exact Kept.step (State.setF_kept ..) rfl (Kept.step (State.setF_kept ..) rfl Kept.here)
  try clear_value s1
  extract_lets -merge -underBinder +onlyGivenNames s2
  have h_s2 : Kept 168094810628 s s2 := by
    unfold s2
    exact Kept.step (State.hwcSync_kept ..) rfl (Kept.step (State.confirmHeld_kept ..) rfl h_s1)
  try clear_value s2
  extract_lets -merge -underBinder +onlyGivenNames s3
  have h_s3 : Kept 168094810628 s s3 := by
    unfold s3
    split
    · exact Kept.step (State.progressLong_kept ..) rfl (Kept.step (State.modLong_kept ..) rfl h_s2)
    · exact h_s2
  try clear_value s3
  refine Kept.step (State.hwcSync_kept ..) rfl ?_
  refine Kept.step (State.hwRest_kept ..) rfl ?_
  refine Kept.ite ?_ ?_
  · exact Kept.step (State.swapComplete_kept ..) rfl h_s3
  · exact h_s3

theorem State.rebindAll_kept (s : State) (c : Nat) (n : Nat) : Kept 168094810628 s (State.rebindAll s c n) := by
  induction n generalizing s with
  | zero => exact Kept.here
  | succ n ih => exact Kept.ite (Kept.step (ih _) rfl (Kept.step (State.rebind_kept ..) rfl Kept.here)) Kept.here

end Sys2Proof.Machine
end

