-- ==== Sys2Proof/Laws/KeepStreamInstr.lean ====
section
/-! SUPPORT. What each operation and each command of Machine/StreamInstr.lean leaves as it was: one frame lemma for each. -/

namespace Sys2Proof.Machine

theorem execSarm_kept (a : SlotId) (s : State) : KeptR 75557939809097044715078 s (execSarm a s) := by
  unfold execSarm
  refine execIssue_kept rfl Kept.here (fun a1 a2 h_a2 => ?_)
  · split
    · exact Kept.step (State.faultAt_kept ..) rfl h_a2
    · extract_lets -merge -underBinder +onlyGivenNames raw d q r code
      try clear_value raw d q r code
      extract_lets -merge -underBinder +onlyGivenNames s1
      have h_s1 : Kept 75557939809097044715078 s s1 := by
        unfold s1
        exact Kept.step (State.retire_kept ..) rfl h_a2
      try clear_value s1
      refine Kept.ite ?_ ?_
      · exact h_s1
      · refine Kept.ite ?_ ?_
        · exact Kept.step (State.trickleStart_kept ..) rfl h_s1
        · extract_lets -merge -underBinder +onlyGivenNames s2
          have h_s2 : Kept 75557939809097044715078 s s2 := by
            unfold s2
            exact Kept.step (State.modQueue_kept ..) rfl h_s1
          try clear_value s2
          refine Kept.ite ?_ ?_
          · exact Kept.step (State.writeStat_kept ..) rfl (Kept.step (State.modQueue_kept ..) rfl h_s2)
          · exact Kept.step (State.queueBegin_kept ..) rfl h_s2

theorem execSrearm_kept (a : SlotId) (s : State) : KeptR 75557939809097044715078 s (execSrearm a s) := by
  unfold execSrearm
  refine execIssue_kept rfl Kept.here (fun a1 a2 h_a2 => ?_)
  · split
    · exact Kept.step (State.faultAt_kept ..) rfl h_a2
    · extract_lets -merge -underBinder +onlyGivenNames raw d q x code
      try clear_value raw d q x code
      extract_lets -merge -underBinder +onlyGivenNames s1
      have h_s1 : Kept 75557939809097044715078 s s1 := by
        unfold s1
        exact Kept.step (State.retire_kept ..) rfl h_a2
      try clear_value s1
      refine Kept.ite ?_ ?_
      · exact h_s1
      · extract_lets -merge -underBinder +onlyGivenNames s2
        have h_s2 : Kept 75557939809097044715078 s s2 := by
          unfold s2
          exact Kept.step (State.modQueue_kept ..) rfl h_s1
        try clear_value s2
        refine Kept.ite ?_ ?_
        · split
          · rename_i xid s3 hq
            have h_s3 := Kept.eq2 hq (m := 75557939809097044715078) (s0 := s) (by
              exact Kept.step (State.fresh_kept ..) rfl h_s2
              )
            clear hq
            extract_lets -merge -underBinder +onlyGivenNames src p
            try clear_value src
            try clear_value p
            exact Kept.step (State.queueSendOr_kept ..) rfl h_s3
        · exact h_s2

theorem State.wakeRacq_kept (s : State) (k : Nat) (q : Nat) (v : W64) : Kept 8192 s (State.wakeRacq s k q v) := by
  unfold State.wakeRacq
  refine Kept.foldl _ (fun x h_x a => ?_) ?_
  · split
    · refine Kept.ite ?_ ?_
      · exact Kept.step (State.wakeWith_kept ..) rfl h_x
      · exact h_x
    · exact h_x
  · exact Kept.here

theorem execSstop_kept (a : SlotId) (s : State) : KeptR 75557939809097044715078 s (execSstop a s) := by
  unfold execSstop
  refine execIssue_kept rfl Kept.here (fun a1 a2 h_a2 => ?_)
  · extract_lets -merge -underBinder +onlyGivenNames q x
    try clear_value q x
    extract_lets -merge -underBinder +onlyGivenNames s1
    have h_s1 : Kept 75557939809097044715078 s s1 := by
      unfold s1
      exact Kept.step (State.retire_kept ..) rfl h_a2
    try clear_value s1
    refine Kept.step (State.stopQueue_kept ..) rfl ?_
    refine Kept.ite ?_ ?_
    · exact h_s1
    · exact Kept.step (State.wakeRacq_kept ..) rfl h_s1

theorem execRacq_kept (a : SlotId) (s : State) : KeptR 75557939809097044681222 s (execRacq a s) := by
  unfold execRacq
  refine execIssue_kept rfl Kept.here (fun a1 a2 h_a2 => ?_)
  · extract_lets -merge -underBinder +onlyGivenNames q
    try clear_value q
    split
    · exact Kept.step (State.retire_kept ..) rfl (Kept.step (State.modRill_kept ..) rfl h_a2)
    · exact Kept.step (State.waitOn_kept ..) rfl h_a2

theorem execRrel_kept (a : SlotId) (s : State) : KeptR 75557939809097044681222 s (execRrel a s) := by
  unfold execRrel
  refine execIssue_kept rfl Kept.here (fun a1 a2 h_a2 => ?_)
  · exact Kept.step (State.retire_kept ..) rfl (Kept.step (State.modQueue_kept ..) rfl h_a2)

end Sys2Proof.Machine
end

