-- ==== Sys2Proof/Laws/KeepHwCmds.lean ====
section
/-! SUPPORT. What each operation and each command of Machine/HwCmds.lean leaves as it was: one frame lemma for each. -/

namespace Sys2Proof.Machine

theorem execHwOpen_kept (i : Nat) (s : State) : KeptR 168094810628 s (execHwOpen i s) := by
  unfold execHwOpen
  refine State.packetRow_kept rfl Kept.here (fun a a1 h_a1 => ?_)
  · extract_lets -merge -underBinder +onlyGivenNames s1
    have h_s1 : Kept 168094810628 s s1 := by
      unfold s1
      exact Kept.step (State.rebindAll_kept ..) rfl h_a1
    try clear_value s1
    extract_lets -merge -underBinder +onlyGivenNames d
    try clear_value d
    split
    · exact Kept.step (State.inject_kept ..) rfl (Kept.step (State.hwStale_kept ..) rfl h_s1)
    · extract_lets -merge -underBinder +onlyGivenNames port slot held h1
      try clear_value port slot held h1
      extract_lets -merge -underBinder +onlyGivenNames s2
      have h_s2 : Kept 168094810628 s s2 := by
        unfold s2
        exact Kept.upd_hws (s := s1) rfl h_s1
      try clear_value s2
      refine Kept.step (State.hwAfter_kept ..) rfl ?_
      refine Kept.ite ?_ ?_
      · exact h_s2
      · exact Kept.step (State.hwConfirm_kept ..) rfl h_s2

theorem execHwClose_kept (i : Nat) (s : State) : KeptR 2738438148 s (execHwClose i s) := by
  unfold execHwClose
  refine State.packetRow_kept rfl Kept.here (fun a a1 h_a1 => ?_)
  · split
    · exact Kept.step (State.inject_kept ..) rfl h_a1
    · extract_lets -merge -underBinder +onlyGivenNames s1
      have h_s1 : Kept 2738438148 s s1 := by
        unfold s1
        refine Kept.ite ?_ ?_
        · exact Kept.step (State.hwConfirm_kept ..) rfl h_a1
        · exact h_a1
      try clear_value s1
      extract_lets -merge -underBinder +onlyGivenNames s2
      have h_s2 : Kept 2738438148 s s2 := by
        unfold s2
        split
        · refine Kept.ite ?_ ?_
          · exact h_s1
          · exact Kept.step (State.hwSendDgram_kept ..) rfl h_s1
        · exact h_s1
      try clear_value s2
      extract_lets -merge -underBinder +onlyGivenNames s3
      have h_s3 : Kept 2738438148 s s3 := by
        unfold s3
        exact Kept.upd_hws (s := s2) rfl h_s2
      try clear_value s3
      exact Kept.step (State.hwSync_kept ..) rfl (Kept.step (State.hwcSync_kept ..) rfl (Kept.step (State.inject_kept ..) rfl h_s3))

theorem execHwRearm_kept (i : Nat) (s : State) : KeptR 168094810628 s (execHwRearm i s) := by
  unfold execHwRearm
  refine State.packetRow_kept rfl Kept.here (fun a a1 h_a1 => ?_)
  · extract_lets -merge -underBinder +onlyGivenNames s1
    have h_s1 : Kept 168094810628 s s1 := by
      unfold s1
      exact Kept.step (State.rebindAll_kept ..) rfl h_a1
    try clear_value s1
    split
    · exact h_s1
    · exact Kept.step (State.hwAfter_kept ..) rfl (Kept.step (State.setHw_kept ..) rfl h_s1)

theorem execHwSend_kept (i : Nat) (s : State) : KeptR 3812179972 s (execHwSend i s) := by
  unfold execHwSend
  refine whenSome_kept rfl Kept.here (fun a a1 h_a1 => ?_)
  · refine Kept.ite ?_ ?_
    · exact h_a1
    · refine State.takes_kept rfl h_a1 (fun a2 h_a2 => ?_)
      · split
        · exact Kept.step (State.inject_kept ..) rfl h_a2
        · extract_lets -merge -underBinder +onlyGivenNames layer off range
          try clear_value layer off range
          refine Kept.ite ?_ ?_
          · exact Kept.step (State.inject_kept ..) rfl h_a2
          · split
            · exact Kept.step (State.inject_kept ..) rfl h_a2
            · refine Kept.ite ?_ ?_
              · exact Kept.step (State.inject_kept ..) rfl h_a2
              · extract_lets -merge -underBinder +onlyGivenNames s1
                have h_s1 : Kept 3812179972 s s1 := by
                  unfold s1
                  exact Kept.step (State.gradTile_kept ..) rfl h_a2
                try clear_value s1
                exact Kept.step (State.hwAfter_kept ..) rfl (Kept.step (State.setHw_kept ..) rfl (Kept.step (State.inject_kept ..) rfl h_s1))

theorem execFetchIssue_kept (port : Nat) (slot : Nat) (s : State) : KeptR 2736783364 s (execFetchIssue port slot s) := by
  unfold execFetchIssue
  refine unitRow_kept ?_ ?_
  · exact Kept.here
  · split
    · refine KeptR.next ?_
      exact Kept.here
    · split
      · refine KeptR.next ?_
        exact Kept.here
      · extract_lets -merge -underBinder +onlyGivenNames need frames missing used room
        try clear_value need frames missing used room
        split
        · refine KeptR.next ?_
          exact Kept.here
        · extract_lets -merge -underBinder +onlyGivenNames run ask
          try clear_value run ask
          refine whenB_kept rfl Kept.here (fun a h_a => ?_)
          · extract_lets -merge -underBinder +onlyGivenNames h1
            try clear_value h1
            exact Kept.step (State.hwRequest_kept ..) rfl (Kept.step (State.setHw_kept ..) rfl h_a)

theorem execDgram_kept {m : Nat} {s0 : State} {port : Nat} {type : Nat} {d : Dgram} {f : HwStream → State → State} {s : State} (hm : 50331652 ||| m = m) (h : Kept m s0 s) (hf : ∀ z0 x, Kept m s0 x → Kept m s0 (f z0 x)) :
    KeptR m s0 (execDgram port type d f s) := by
  unfold execDgram
  refine onUnit_kept (sub_chain rfl hm) h (fun a h_a => ?_)
  · extract_lets -merge -underBinder +onlyGivenNames s1
    have h_s1 : Kept m s0 s1 := by
      unfold s1
      exact Kept.step (State.feedUnit_kept ..) (sub_chain rfl hm) h_a
    try clear_value s1
    refine Kept.ite ?_ ?_
    · split
      · exact hf _ _ h_s1
      · exact Kept.step (State.hwDiscard_kept ..) (sub_chain rfl hm) h_s1
    · exact Kept.step (State.hwDiscard_kept ..) (sub_chain rfl hm) h_s1

theorem execData_kept (port : Nat) (d : Dgram) (s : State) : KeptR 2738438148 s (execData port d s) := by
  unfold execData
  refine execDgram_kept rfl Kept.here (fun a a1 h_a1 => ?_)
  · exact Kept.step (State.hwFrame_kept ..) rfl h_a1

theorem execEndMsg_kept (port : Nat) (d : Dgram) (s : State) : KeptR 2738438148 s (execEndMsg port d s) := by
  unfold execEndMsg
  refine execDgram_kept rfl Kept.here (fun a a1 h_a1 => ?_)
  · extract_lets -merge -underBinder +onlyGivenNames status
    try clear_value status
    refine Kept.ite ?_ ?_
    · exact Kept.step (State.hwFault_kept ..) rfl h_a1
    · refine Kept.ite ?_ ?_
      · exact Kept.step (State.hwDiscard_kept ..) rfl h_a1
      · split
        · exact h_a1
        · refine Kept.ite ?_ ?_
          · exact Kept.step (State.hwRetry_kept ..) rfl h_a1
          · exact Kept.step (State.setHw_kept ..) rfl h_a1

theorem execGradAck_kept (port : Nat) (d : Dgram) (s : State) : KeptR 1124073476 s (execGradAck port d s) := by
  unfold execGradAck
  refine onUnit_kept rfl Kept.here (fun a h_a => ?_)
  · extract_lets -merge -underBinder +onlyGivenNames s1
    have h_s1 : Kept 1124073476 s s1 := by
      unfold s1
      exact Kept.step (State.feedUnit_kept ..) rfl h_a
    try clear_value s1
    extract_lets -merge -underBinder +onlyGivenNames a1 m1
    try clear_value a1 m1
    split
    · exact Kept.step (State.add64_kept ..) rfl (Kept.upd_grads (s := s1) rfl h_s1)
    · exact Kept.step (State.hwDiscard_kept ..) rfl h_s1

theorem execFetchRetryTimeout_kept (port : Nat) (slot : Nat) (now : Nat) (s : State) : KeptR 2738438150 s (execFetchRetryTimeout port slot now s) := by
  unfold execFetchRetryTimeout
  refine unitRow_kept ?_ ?_
  · exact Kept.here
  · split
    · refine KeptR.next ?_
      exact Kept.here
    · split
      · refine KeptR.next ?_
        exact Kept.here
      · refine whenB_kept rfl Kept.here (fun a h_a => ?_)
        · exact Kept.step (State.hwRetry_kept ..) rfl (Kept.step (State.atTime_kept ..) rfl h_a)

theorem execGradRetryTimeout_kept (n : Nat) (now : Nat) (s : State) : KeptR 3275292678 s (execGradRetryTimeout n now s) := by
  unfold execGradRetryTimeout
  split
  · refine KeptR.next ?_
    exact Kept.here
  · refine whenB_kept rfl Kept.here (fun a h_a => ?_)
    · extract_lets -merge -underBinder +onlyGivenNames s1
      have h_s1 : Kept 3275292678 s s1 := by
        unfold s1
        exact Kept.step (State.atTime_kept ..) rfl h_a
      try clear_value s1
      extract_lets -merge -underBinder +onlyGivenNames g
      try clear_value g
      extract_lets -merge -underBinder +onlyGivenNames s2
      have h_s2 : Kept 3275292678 s s2 := by
        unfold s2
        exact Kept.step (State.incSat_kept ..) rfl (Kept.step (State.setGrad_kept ..) rfl h_s1)
      try clear_value s2
      extract_lets -merge -underBinder +onlyGivenNames s3
      have h_s3 : Kept 3275292678 s s3 := by
        unfold s3
        refine Kept.ite ?_ ?_
        · exact Kept.step (State.cairnLog_kept ..) rfl h_s2
        · exact h_s2
      try clear_value s3
      exact Kept.step (State.gradSend_kept ..) rfl h_s3

theorem execNeighbourDiscovery_kept (port : Nat) (body : List Byte) (s : State) : KeptR 2097156 s (execNeighbourDiscovery port body s) := by
  unfold execNeighbourDiscovery
  refine onUnit_kept rfl Kept.here (fun a h_a => ?_)
  · refine Kept.ite ?_ ?_
    · exact Kept.step (State.hwDiscard_kept ..) rfl h_a
    · refine Kept.ite ?_ ?_
      · exact Kept.step (State.emit_kept ..) rfl h_a
      · exact h_a

theorem execEchoRequest_kept (port : Nat) (body : List Byte) (s : State) : KeptR 2097156 s (execEchoRequest port body s) := by
  unfold execEchoRequest
  refine onUnit_kept rfl Kept.here (fun a h_a => ?_)
  · refine Kept.ite ?_ ?_
    · exact Kept.step (State.emit_kept ..) rfl h_a
    · exact Kept.step (State.hwDiscard_kept ..) rfl h_a

theorem execPfcPause_kept (port : Nat) (prio : Nat) (pause : Bool) (s : State) : KeptR 2199912452 s (execPfcPause port prio pause s) := by
  unfold execPfcPause
  refine onUnit_kept rfl Kept.here (fun a h_a => ?_)
  · extract_lets -merge -underBinder +onlyGivenNames s1
    have h_s1 : Kept 2199912452 s s1 := by
      unfold s1
      exact Kept.step (State.setB_kept ..) rfl h_a
    try clear_value s1
    refine Kept.ite ?_ ?_
    · exact h_s1
    · exact Kept.step (State.hwResume_kept ..) rfl h_s1

theorem execHeadwaterLinkDown_kept (port : Nat) (now : Nat) (s : State) : KeptR 71456260102 s (execHeadwaterLinkDown port now s) := by
  unfold execHeadwaterLinkDown
  refine onUnit_kept rfl Kept.here (fun a h_a => ?_)
  · refine Kept.step (State.portLeave_kept ..) rfl ?_
    refine State.pageFault_kept rfl (Kept.step (State.atTime_kept ..) rfl h_a) (fun a1 h_a1 => ?_)
    · exact h_a1

theorem execHeadwaterPortUp_kept (port : Nat) (now : Nat) (s : State) : KeptR 71456260102 s (execHeadwaterPortUp port now s) := by
  unfold execHeadwaterPortUp
  refine onUnit_kept rfl Kept.here (fun a h_a => ?_)
  · extract_lets -merge -underBinder +onlyGivenNames s1
    have h_s1 : Kept 71456260102 s s1 := by
      unfold s1
      exact Kept.step (State.setB_kept ..) rfl (Kept.step (State.atTime_kept ..) rfl h_a)
    try clear_value s1
    extract_lets -merge -underBinder +onlyGivenNames s2
    have h_s2 : Kept 71456260102 s s2 := by
      unfold s2
      exact Kept.step (State.incWrap_kept ..) rfl h_s1
    try clear_value s2
    refine State.startDone_kept rfl h_s2 (fun a1 h_a1 => ?_)
    · exact Kept.step (State.portAtStop_kept ..) rfl h_a1

theorem execHostFetchReadDone_kept (slot : Nat) (frame : Nat) (s : State) : KeptR 2738438148 s (execHostFetchReadDone slot frame s) := by
  unfold execHostFetchReadDone
  refine unitRow_kept ?_ ?_
  · exact Kept.here
  · split
    · refine KeptR.next ?_
      exact Kept.here
    · split
      · refine KeptR.next ?_
        exact Kept.here
      · refine whenB_kept rfl Kept.here (fun a h_a => ?_)
        · extract_lets -merge -underBinder +onlyGivenNames b len ok
          try clear_value b len ok
          refine Kept.ite ?_ ?_
          · exact Kept.step (State.hwFrame_kept ..) rfl h_a
          · split
            · exact Kept.step (State.hwRetry_kept ..) rfl h_a
            · exact h_a

theorem execHostGradWriteDone_kept (n : Nat) (s : State) : KeptR 1073742336 s (execHostGradWriteDone n s) := by
  unfold execHostGradWriteDone
  split
  · refine KeptR.next ?_
    exact Kept.here
  · refine whenB_kept rfl Kept.here (fun a h_a => ?_)
    · extract_lets -merge -underBinder +onlyGivenNames body hdr
      try clear_value body hdr
      exact Kept.upd_host_grads (s := a) rfl (fun w => (writeBytes_wf _ _ _ w)) h_a

theorem execLayerRebind_kept (ctx : Nat) (now : Nat) (s : State) : KeptR 168094810630 s (execLayerRebind ctx now s) := by
  unfold execLayerRebind
  extract_lets -merge -underBinder +onlyGivenNames t
  have h_t : Kept 168094810630 s t := by
    unfold t
    exact Kept.step (State.utcApply_kept ..) rfl (Kept.step (State.atTime_kept ..) rfl Kept.here)
  try clear_value t
  refine unitRow_kept ?_ ?_
  · exact Kept.here
  · refine whenB_kept rfl Kept.here (fun a h_a => ?_)
    · exact Kept.step (State.rebind_kept ..) rfl h_t

end Sys2Proof.Machine
end

