-- ==== Sys2Proof/Laws/KeepImage.lean ====
section
/-! SUPPORT. What each operation and each command of Machine/Image.lean leaves as it was: one frame lemma for each. -/

namespace Sys2Proof.Machine

theorem State.freeSlots_kept (s : State) (k : Nat) : Kept 8192 s (State.freeSlots s k) := by
  unfold State.freeSlots
  exact Kept.step (State.modRill_kept ..) rfl Kept.here

theorem State.abandonQueue_kept (s : State) (k : Nat) (q : Nat) : Kept 9280 s (State.abandonQueue s k q) := by
  unfold State.abandonQueue
  refine Kept.ite ?_ ?_
  · exact Kept.here
  · exact Kept.step (State.modQueue_kept ..) rfl (Kept.step (State.setQst_kept ..) rfl Kept.here)

theorem State.beginLoad_kept (s : State) (c : Nat) (k : Nat) : Kept 54125636 s (State.beginLoad s c k) := by
  unfold State.beginLoad
  extract_lets -merge -underBinder +onlyGivenNames s1
  have h_s1 : Kept 54125636 s s1 := by
    unfold s1
    exact Kept.step (State.freeSlots_kept ..) rfl Kept.here
  try clear_value s1
  refine Kept.ite ?_ ?_
  · refine Kept.foldl _ (fun x h_x a => ?_) ?_
    · exact Kept.step (State.stopQueue_kept ..) rfl h_x
    · exact h_s1
  · refine Kept.step (State.modRill_kept ..) rfl ?_
    refine Kept.foldl _ (fun x1 h_x1 a1 => ?_) ?_
    · exact Kept.step (State.abandonQueue_kept ..) rfl h_x1
    · exact h_s1

theorem State.loadStore_kept (s : State) (k : Nat) (b : List Byte) : Kept 1088 s (State.loadStore s k b) :=
  Kept.upd_store_storePoison (s := s) rfl (fun w => writeBytes_wf _ _ _ (writeBytes_wf _ _ _ (memClear_wf _ _ _ w))) Kept.here

theorem State.loadRill_kept (s : State) (c : Nat) (k : Nat) (step : Nat) (b : List Byte) : Kept 9280 s (State.loadRill s c k step b) := by
  unfold State.loadRill
  exact Kept.step (State.modRill_kept ..) rfl (Kept.step (State.loadStore_kept ..) rfl Kept.here)

theorem State.loadImage_kept (s : State) (c : Nat) (step : Nat) (ks : List Nat) (b : List Byte) : Kept 9280 s (State.loadImage s c step ks b) := by
  unfold State.loadImage
  refine Kept.foldl _ (fun x h_x a => ?_) ?_
  · exact Kept.step (State.modRill_kept ..) rfl (Kept.step (State.loadRill_kept ..) rfl h_x)
  · exact Kept.here

theorem State.setImages_kept (s : State) (c : Nat) (l : List ImgEntry) : Kept 1099511627780 s (State.setImages s c l) := by
  unfold State.setImages
  exact Kept.step (State.setRegN_kept ..) rfl (Kept.step (State.setRcv_kept ..) rfl Kept.here)

end Sys2Proof.Machine
end

