-- ==== Sys2Proof/Laws/KeepOpCheck.lean ====
section
/-! SUPPORT. What each operation and each command of Machine/OpCheck.lean leaves as it was: one frame lemma for each. -/

namespace Sys2Proof.Machine

theorem State.mappedRW_kept (s : State) (c : Nat) (va : Nat) (n : Nat) : Kept 410583044 s (State.mappedRW s c va n).2 := by
  unfold State.mappedRW
  refine Kept.ite2 ?_ ?_
  · refine Kept.pair2 ?_
    exact Kept.here
  · split
    · rename_i e s1 hq
      have h_s1 := Kept.eq2 hq (m := 410583044) (s0 := s) (by
        exact Kept.step (State.translate_kept ..) rfl Kept.here
        )
      clear hq
      refine Kept.pair2 ?_
      exact h_s1
    · rename_i val s2 hq1
      have h_s2 := Kept.eq2 hq1 (m := 410583044) (s0 := s) (by
        exact Kept.step (State.translate_kept ..) rfl Kept.here
        )
      clear hq1
      split
      · rename_i e1 s3 hq2
        have h_s3 := Kept.eq2 hq2 (m := 410583044) (s0 := s) (by
          exact Kept.step (State.translate_kept ..) rfl h_s2
          )
        clear hq2
        refine Kept.pair2 ?_
        exact h_s3
      · rename_i val1 s4 hq3
        have h_s4 := Kept.eq2 hq3 (m := 410583044) (s0 := s) (by
          exact Kept.step (State.translate_kept ..) rfl h_s2
          )
        clear hq3
        refine Kept.pair2 ?_
        exact h_s4

theorem State.attnMapped_kept (s : State) (c : Nat) (o : Op) : Kept 410583044 s (State.attnMapped s c o).2 := by
  unfold State.attnMapped
  extract_lets -merge -underBinder +onlyGivenNames block
  try clear_value block
  extract_lets -merge -underBinder +onlyGivenNames blocks
  have h_blocks : Kept 410583044 s blocks.2 := by
    unfold blocks
    refine Kept.foldl2 _ (fun x h_x a => ?_) ?_
    · refine Kept.ite2 ?_ ?_
      · exact h_x
      · split
        · rename_i code s1 hq
          have h_s1 := Kept.eq2 hq (m := 410583044) (s0 := s) (by
            exact Kept.step (State.vaRead_kept ..) rfl h_x
            )
          clear hq
          refine Kept.pair2 ?_
          exact h_s1
        · rename_i e s2 hq1
          have h_s2 := Kept.eq2 hq1 (m := 410583044) (s0 := s) (by
            exact Kept.step (State.vaRead_kept ..) rfl h_x
            )
          clear hq1
          exact Kept.step (State.mappedRW_kept ..) rfl h_s2
    · refine Kept.pair2 ?_
      exact Kept.here
  try clear_value blocks
  refine Kept.ite2 ?_ ?_
  · exact h_blocks
  · exact Kept.step (State.mappedRW_kept ..) rfl h_blocks

theorem State.opCheck_kept (s : State) (c : Nat) (o : Op) (oldest : Nat) : Kept 410583044 s (State.opCheck s c o oldest).2 := by
  unfold State.opCheck
  extract_lets -merge -underBinder +onlyGivenNames blockOk
  try clear_value blockOk
  refine Kept.ite2 ?_ ?_
  · refine Kept.pair2 ?_
    exact Kept.here
  · refine Kept.ite2 ?_ ?_
    · split
      · rename_i code s1 hq
        have h_s1 := Kept.eq2 hq (m := 410583044) (s0 := s) (by
          exact Kept.step (State.vaRead_kept ..) rfl Kept.here
          )
        clear hq
        refine Kept.pair2 ?_
        exact h_s1
      · rename_i b s2 hq1
        have h_s2 := Kept.eq2 hq1 (m := 410583044) (s0 := s) (by
          exact Kept.step (State.vaRead_kept ..) rfl Kept.here
          )
        clear hq1
        refine Kept.ite2 ?_ ?_
        · exact Kept.step (State.attnMapped_kept ..) rfl h_s2
        · refine Kept.pair2 ?_
          exact h_s2
    · refine Kept.ite2 ?_ ?_
      · exact Kept.step (State.attnMapped_kept ..) rfl Kept.here
      · refine Kept.pair2 ?_
        exact Kept.here

end Sys2Proof.Machine
end

