-- ==== Sys2Proof/Laws/KeepReduce.lean ====
section
/-! SUPPORT. What each operation and each command of Machine/Reduce.lean leaves as it was: one frame lemma for each. -/

namespace Sys2Proof.Machine

theorem State.parkLine_kept (s : State) (c : Nat) (o : Op) (h1 : HeldLine) : Kept 4195392 s (State.parkLine s c o h1).1 := by
  unfold State.parkLine
  split
  · rename_i v s1 hq
    have h_s1 := Kept.eq2 hq (m := 4195392) (s0 := s) (by
      exact Kept.step (State.draw64_kept ..) rfl Kept.here
      )
    clear hq
    extract_lets -merge -underBinder +onlyGivenNames total
    try clear_value total
    split
    · refine Kept.pair1 ?_
      exact h_s1
    · extract_lets -merge -underBinder +onlyGivenNames p
      try clear_value p
      refine Kept.pair1 ?_
      exact Kept.step (State.storeWrite_kept ..) rfl h_s1

theorem State.parkAll_kept (s : State) (c : Nat) (o : Op) (l : List HeldLine) : Kept 4195392 s (State.parkAll s c o l).1 := by
  unfold State.parkAll
  refine Kept.ite1 ?_ ?_
  · refine Kept.foldl1 _ (fun x h_x a => ?_) ?_
    · exact Kept.step (State.parkLine_kept ..) rfl h_x
    · refine Kept.pair1 ?_
      exact Kept.here
  · refine Kept.pair1 ?_
    exact Kept.here

end Sys2Proof.Machine
end

