-- ==== Sys2Proof/Laws/KeepPost.lean ====
section
/-! SUPPORT. What each operation and each command of Machine/Post.lean leaves as it was: one frame lemma for each. -/

namespace Sys2Proof.Machine

theorem State.poisonOut_kept (s : State) (c : Nat) (o : Op) (chunks : List Nat) : Kept 680564733841876926926749214863947012484 s (State.poisonOut s c o chunks) := by
  unfold State.poisonOut
  refine Kept.foldl _ (fun x h_x a => ?_) ?_
  · extract_lets -merge -underBinder +onlyGivenNames n
    try clear_value n
    refine Kept.ite ?_ ?_
    · split
      · exact Kept.step (State.poolWrite_kept ..) rfl h_x
      · exact h_x
    · exact Kept.step (State.vaPoison_kept ..) rfl h_x
  · exact Kept.here

theorem State.collFail_kept (s : State) (c : Nat) (o : Op) (code : Nat) (silent : Bool) : Kept 680564733841877002484689023960983763844 s (State.collFail s c o code silent) := by
  unfold State.collFail
  exact Kept.step (State.failOp_kept ..) rfl (Kept.step (State.poisonOut_kept ..) rfl Kept.here)

theorem State.takeCount_kept (s : State) (c : Nat) (o : Op) (m1 : Nat) (count : Nat) (sig : Nat) : Kept 680564733841877002484689023960983763844 s (State.takeCount s c o m1 count sig) := by
  unfold State.takeCount
  refine Kept.ite ?_ ?_
  · exact Kept.step (State.collFail_kept ..) rfl Kept.here
  · extract_lets -merge -underBinder +onlyGivenNames n
    try clear_value n
    split
    · rename_i s1 hq
      have h_s1 := Kept.eq2 hq (m := 680564733841877002484689023960983763844) (s0 := s) (by
        exact Kept.step (State.vaWrite_kept ..) rfl Kept.here
        )
      clear hq
      extract_lets -merge -underBinder +onlyGivenNames o1
      try clear_value o1
      extract_lets -merge -underBinder +onlyGivenNames s2
      have h_s2 : Kept 680564733841877002484689023960983763844 s s2 := by
        unfold s2
        exact Kept.step (State.setOp_kept ..) rfl h_s1
      try clear_value s2
      refine Kept.ite ?_ ?_
      · exact Kept.step (State.collFail_kept ..) rfl h_s2
      · exact h_s2
    · rename_i code s3 hq1
      have h_s3 := Kept.eq2 hq1 (m := 680564733841877002484689023960983763844) (s0 := s) (by
        exact Kept.step (State.vaWrite_kept ..) rfl Kept.here
        )
      clear hq1
      exact Kept.step (State.failOp_kept ..) rfl h_s3

theorem State.digestCheck_kept (s : State) (c : Nat) (o : Op) (idx : Nat) : Kept 680564733841877002484689023960983763844 s (State.digestCheck s c o idx) := by
  unfold State.digestCheck
  split
  · refine Kept.ite ?_ ?_
    · exact Kept.here
    · extract_lets -merge -underBinder +onlyGivenNames s1
      have h_s1 : Kept 680564733841877002484689023960983763844 s s1 := by
        unfold s1
        exact Kept.step (State.setB_kept ..) rfl (Kept.step (State.incSat_kept ..) rfl Kept.here)
      try clear_value s1
      extract_lets -merge -underBinder +onlyGivenNames s2
      have h_s2 : Kept 680564733841877002484689023960983763844 s s2 := by
        unfold s2
        exact Kept.step (State.cairnLog_kept ..) rfl h_s1
      try clear_value s2
      refine Kept.ite ?_ ?_
      · exact Kept.step (State.collFail_kept ..) rfl h_s2
      · exact h_s2
  · exact Kept.here

theorem State.digestCompare_kept (s : State) (c : Nat) (opn : Nat) (idx : Nat) : Kept 680564733841877002484689023960983763844 s (State.digestCompare s c opn idx) := by
  unfold State.digestCompare
  split
  · exact Kept.here
  · refine Kept.ite ?_ ?_
    · exact Kept.step (State.digestCheck_kept ..) rfl Kept.here
    · exact Kept.here

theorem State.takeDigest_kept (s : State) (c : Nat) (o : Op) (p : WirePkt) : Kept 680564733841877002484689023960983763844 s (State.takeDigest s c o p) := by
  unfold State.takeDigest
  exact Kept.step (State.digestCompare_kept ..) rfl (Kept.step (State.setOp_kept ..) rfl Kept.here)

theorem State.takeGrant_kept (s : State) (c : Nat) (o : Op) (p : WirePkt) : Kept 680564733841877002484689023960983763844 s (State.takeGrant s c o p) := by
  unfold State.takeGrant
  split
  · exact Kept.here
  · refine Kept.ite ?_ ?_
    · exact Kept.step (State.collFail_kept ..) rfl Kept.here
    · refine Kept.ite ?_ ?_
      · exact Kept.step (State.setOp_kept ..) rfl Kept.here
      · refine Kept.ite ?_ ?_
        · exact Kept.step (State.setOp_kept ..) rfl Kept.here
        · exact Kept.here

theorem State.takeEarly_kept (s : State) (c : Nat) (opn : Nat) : Kept 680564733841877002484689059145355852676 s (State.takeEarly s c opn) := by
  unfold State.takeEarly
  split
  · exact Kept.here
  · extract_lets -merge -underBinder +onlyGivenNames mine
    try clear_value mine
    refine Kept.foldl _ (fun x h_x a => ?_) ?_
    · split
      · exact h_x
      · refine Kept.ite ?_ ?_
        · exact Kept.step (State.takeGrant_kept ..) rfl h_x
        · refine Kept.ite ?_ ?_
          · exact Kept.step (State.takeDigest_kept ..) rfl h_x
          · split
            · exact Kept.step (State.takeCount_kept ..) rfl h_x
            · exact h_x
    · exact Kept.upd_early (s := s) rfl Kept.here

theorem State.postAcks_kept (s : State) (c : Nat) (opn : Nat) : Kept 274931990532 s (State.postAcks s c opn) := by
  unfold State.postAcks
  split
  · exact Kept.here
  · extract_lets -merge -underBinder +onlyGivenNames plan out used
    try clear_value plan out used
    refine Kept.foldl _ (fun x h_x a => ?_) ?_
    · exact Kept.step (State.inject_kept ..) rfl h_x
    · exact Kept.step (State.setOp_kept ..) rfl Kept.here

theorem State.postSend_kept (s : State) (o : Op) (m1 : Nat) (p : WirePkt) : Kept 3386495870173188 s (State.postSend s o m1 p) := by
  unfold State.postSend
  extract_lets -merge -underBinder +onlyGivenNames j
  try clear_value j
  exact Kept.step (State.wireTo_kept ..) rfl Kept.here

theorem State.postDones_kept (s : State) (c : Nat) (opn : Nat) : Kept 3386770748080132 s (State.postDones s c opn) := by
  unfold State.postDones
  split
  · exact Kept.here
  · extract_lets -merge -underBinder +onlyGivenNames ready
    try clear_value ready
    refine Kept.ite ?_ ?_
    · split
      · rename_i s1 o hq
        have h_s1 := Kept.eq1 hq (m := 3386770748080132) (s0 := s) (by
          refine Kept.foldl1 _ (fun x h_x a => ?_) ?_
          · split
            · rename_i s2 o1
              refine Kept.ite1 ?_ ?_
              · exact h_x
              · refine Kept.pair1 ?_
                exact Kept.step (State.postSend_kept ..) rfl h_x
          · refine Kept.pair1 ?_
            exact Kept.here
          )
        clear hq
        exact Kept.step (State.setOp_kept ..) rfl h_s1
    · exact Kept.here

theorem State.postGrants_kept (s : State) (c : Nat) (opn : Nat) : Kept 3386770748080132 s (State.postGrants s c opn) := by
  unfold State.postGrants
  split
  · exact Kept.here
  · refine Kept.ite ?_ ?_
    · exact Kept.here
    · extract_lets -merge -underBinder +onlyGivenNames plan from'
      try clear_value plan from'
      split
      · rename_i s1 o hq
        have h_s1 := Kept.eq1 hq (m := 3386770748080132) (s0 := s) (by
          refine Kept.foldl1 _ (fun x h_x a => ?_) ?_
          · split
            · rename_i s2 o1
              extract_lets -merge -underBinder +onlyGivenNames limit due
              try clear_value limit due
              refine Kept.ite1 ?_ ?_
              · refine Kept.pair1 ?_
                exact Kept.step (State.postSend_kept ..) rfl h_x
              · exact h_x
          · refine Kept.pair1 ?_
            exact Kept.here
          )
        clear hq
        exact Kept.step (State.setOp_kept ..) rfl h_s1

theorem State.pointsDone_kept (s : State) (c : Nat) : Kept 274877906944 s (State.pointsDone s c) := by
  unfold State.pointsDone
  extract_lets -merge -underBinder +onlyGivenNames q sent
  try clear_value q sent
  exact Kept.step (State.setSeqr_kept ..) rfl Kept.here

theorem State.opComplete_kept (s : State) (c : Nat) (o : Op) : Kept 70643622084612 s (State.opComplete s c o) := by
  unfold State.opComplete
  extract_lets -merge -underBinder +onlyGivenNames s1
  have h_s1 : Kept 70643622084612 s s1 := by
    unfold s1
    exact Kept.step (State.releasePost_kept ..) rfl Kept.here
  try clear_value s1
  extract_lets -merge -underBinder +onlyGivenNames q past points
  try clear_value q past points
  extract_lets -merge -underBinder +onlyGivenNames s2
  have h_s2 : Kept 70643622084612 s s2 := by
    unfold s2
    exact Kept.step (State.setSeqr_kept ..) rfl h_s1
  try clear_value s2
  exact Kept.step (State.pointsDone_kept ..) rfl (Kept.step (State.cfSync_kept ..) rfl h_s2)

theorem State.dropPostKeys_kept (s : State) (o : Op) : Kept 70368744177664 s (State.dropPostKeys s o) := by
  unfold State.dropPostKeys
  exact Kept.upd_keys (s := s) rfl Kept.here

theorem State.nextRotation_kept (s : State) (c : Nat) (o : Op) : Kept 75557939809097447334404 s (State.nextRotation s c o) := by
  unfold State.nextRotation
  extract_lets -merge -underBinder +onlyGivenNames s1
  have h_s1 : Kept 75557939809097447334404 s s1 := by
    unfold s1
    exact Kept.step (State.retirePost_kept ..) rfl Kept.here
  try clear_value s1
  split
  · rename_i code s2 hq
    have h_s2 := Kept.eq2 hq (m := 75557939809097447334404) (s0 := s) (by
      exact Kept.step (State.vaRead_kept ..) rfl h_s1
      )
    clear hq
    exact Kept.step (State.failOp_kept ..) rfl h_s2
  · rename_i b s3 hq1
    have h_s3 := Kept.eq2 hq1 (m := 75557939809097447334404) (s0 := s) (by
      exact Kept.step (State.vaRead_kept ..) rfl h_s1
      )
    clear hq1
    exact Kept.step (State.setOp_kept ..) rfl (Kept.step (State.dropPostKeys_kept ..) rfl h_s3)

theorem State.rotationBegin_kept (s : State) (c : Nat) (o : Op) : Kept 75557939809097447334404 s (State.rotationBegin s c o) := by
  unfold State.rotationBegin
  split
  · rename_i v s1 hq
    have h_s1 := Kept.eq2 hq (m := 75557939809097447334404) (s0 := s) (by
      exact Kept.step (State.draw64_kept ..) rfl Kept.here
      )
    clear hq
    refine Kept.ite ?_ ?_
    · exact Kept.step (State.nextRotation_kept ..) rfl h_s1
    · exact h_s1

theorem State.postStages_kept (s : State) (c : Nat) (opn : Nat) : Kept 75557939809097447334404 s (State.postStages s c opn) := by
  unfold State.postStages
  split
  · exact Kept.here
  · extract_lets -merge -underBinder +onlyGivenNames o
    try clear_value o
    extract_lets -merge -underBinder +onlyGivenNames s1
    have h_s1 : Kept 75557939809097447334404 s s1 := by
      unfold s1
      exact Kept.step (State.setOp_kept ..) rfl Kept.here
    try clear_value s1
    refine Kept.ite ?_ ?_
    · refine Kept.ite ?_ ?_
      · exact Kept.step (State.rotationBegin_kept ..) rfl h_s1
      · exact Kept.step (State.opComplete_kept ..) rfl h_s1
    · exact h_s1

theorem State.postData_kept (s : State) (c : Nat) (opn : Nat) : Kept 3386770748080132 s (State.postData s c opn) := by
  unfold State.postData
  split
  · exact Kept.here
  · extract_lets -merge -underBinder +onlyGivenNames ins' out peers
    try clear_value ins' out peers
    split
    · rename_i s1 o hq
      have h_s1 := Kept.eq1 hq (m := 3386770748080132) (s0 := s) (by
        refine Kept.foldl1 _ (fun x h_x a => ?_) ?_
        · split
          · exact h_x
          · extract_lets -merge -underBinder +onlyGivenNames items total
            try clear_value items total
            refine Kept.foldl1 _ (fun x1 h_x1 a1 => ?_) ?_
            · split
              · rename_i s2 o1
                refine Kept.ite1 ?_ ?_
                · exact h_x1
                · split
                  · exact h_x1
                  · refine Kept.pair1 ?_
                    exact Kept.step (State.postSend_kept ..) rfl h_x1
            · exact h_x
        · refine Kept.pair1 ?_
          exact Kept.here
        )
      clear hq
      exact Kept.step (State.setOp_kept ..) rfl h_s1

theorem State.digestSend_kept (s : State) (c : Nat) (o : Op) (idx : Nat) (b : List Byte) : Kept 680564733841877002484689023960983763844 s (State.digestSend s c o idx b) := by
  unfold State.digestSend
  refine Kept.ite ?_ ?_
  · extract_lets -merge -underBinder +onlyGivenNames v j
    try clear_value v j
    extract_lets -merge -underBinder +onlyGivenNames s1
    have h_s1 : Kept 680564733841877002484689023960983763844 s s1 := by
      unfold s1
      exact Kept.step (State.setOp_kept ..) rfl Kept.here
    try clear_value s1
    extract_lets -merge -underBinder +onlyGivenNames src s2
    try clear_value src
    have h_s2 : Kept 680564733841877002484689023960983763844 s s2 := by
      unfold s2
      exact Kept.step (State.wireOut_kept ..) rfl h_s1
    try clear_value s2
    exact Kept.step (State.digestCompare_kept ..) rfl h_s2
  · exact Kept.step (State.setOp_kept ..) rfl Kept.here

theorem State.poolChunk_kept (s : State) (c : Nat) (o : Op) (k : Nat) (b : List Byte) : Kept 54116356 s (State.poolChunk s c o k b).1 := by
  unfold State.poolChunk
  refine Kept.foldl1 _ (fun x h_x a => ?_) ?_
  · split
    · rename_i xid s1 hq
      have h_s1 := Kept.eq2 hq (m := 54116356) (s0 := s) (by
        exact Kept.step (State.fresh_kept ..) rfl h_x
        )
      clear hq
      extract_lets -merge -underBinder +onlyGivenNames piece
      try clear_value piece
      refine Kept.pair1 ?_
      exact Kept.step (State.inject_kept ..) rfl h_s1
  · refine Kept.pair1 ?_
    exact Kept.here

theorem State.outWrite_kept (s : State) (c : Nat) (o : Op) (idx : Nat) (b : List Byte) : Kept 680564733841877002484689023960983796612 s (State.outWrite s c o idx b) := by
  unfold State.outWrite
  extract_lets -merge -underBinder +onlyGivenNames o1
  try clear_value o1
  refine Kept.ite ?_ ?_
  · split
    · refine Kept.ite ?_ ?_
      · split
        · rename_i s1 xs hq
          have h_s1 := Kept.eq1 hq (m := 680564733841877002484689023960983796612) (s0 := s) (by
            exact Kept.step (State.poolChunk_kept ..) rfl Kept.here
            )
          clear hq
          exact Kept.step (State.digestSend_kept ..) rfl h_s1
      · exact Kept.step (State.failOp_kept ..) rfl (Kept.step (State.setOp_kept ..) rfl Kept.here)
    · exact Kept.step (State.setOp_kept ..) rfl Kept.here
  · split
    · rename_i s2 hq1
      have h_s2 := Kept.eq2 hq1 (m := 680564733841877002484689023960983796612) (s0 := s) (by
        exact Kept.step (State.vaWrite_kept ..) rfl Kept.here
        )
      clear hq1
      exact Kept.step (State.digestSend_kept ..) rfl h_s2
    · rename_i code s3 hq2
      have h_s3 := Kept.eq2 hq2 (m := 680564733841877002484689023960983796612) (s0 := s) (by
        exact Kept.step (State.vaWrite_kept ..) rfl Kept.here
        )
      clear hq2
      exact Kept.step (State.failOp_kept ..) rfl (Kept.step (State.setOp_kept ..) rfl h_s3)

theorem State.postOut_kept (s : State) (c : Nat) (opn : Nat) : Kept 680564733841877002484689023960983796612 s (State.postOut s c opn) := by
  unfold State.postOut
  split
  · exact Kept.here
  · refine Kept.ite ?_ ?_
    · exact Kept.here
    · refine Kept.foldl _ (fun x h_x a => ?_) ?_
      · split
        · exact h_x
        · refine Kept.ite ?_ ?_
          · exact h_x
          · split
            · exact Kept.step (State.outWrite_kept ..) rfl h_x
            · exact h_x
      · exact Kept.here

theorem State.postSteps_kept (s : State) (c : Nat) (opn : Nat) : Kept 680564733841877002484689023960983796612 s (State.postSteps s c opn) := by
  unfold State.postSteps
  exact Kept.step (State.postStages_kept ..) rfl (Kept.step (State.postDones_kept ..) rfl (Kept.step (State.postOut_kept ..) rfl (Kept.step (State.postData_kept ..) rfl (Kept.step (State.postAcks_kept ..) rfl (Kept.step (State.postGrants_kept ..) rfl Kept.here)))))

theorem State.checkFail_kept (s : State) (c : Nat) (o : Op) : Kept 680564733841877002484689023960983763844 s (State.checkFail s c o) := by
  unfold State.checkFail
  exact Kept.step (State.collFail_kept ..) rfl (Kept.step (State.incSat_kept ..) rfl Kept.here)

theorem State.noteHeld_kept (s : State) (c : Nat) (opn : Nat) : Kept 274882102340 s (State.noteHeld s c opn) := by
  unfold State.noteHeld
  split
  · exact Kept.step (State.cfSync_kept ..) rfl Kept.here
  · extract_lets -merge -underBinder +onlyGivenNames l
    try clear_value l
    split
    · rename_i s1 o hq
      have h_s1 := Kept.eq1 hq (m := 274882102340) (s0 := s) (by
        exact Kept.step (State.parkAll_kept ..) rfl Kept.here
        )
      clear hq
      exact Kept.step (State.cfSync_kept ..) rfl (Kept.step (State.setOp_kept ..) rfl h_s1)

theorem State.postPump_kept (s : State) (c : Nat) (opn : Nat) : Kept 680564733841877002484689059145355886532 s (State.postPump s c opn) := by
  unfold State.postPump
  split
  · exact Kept.here
  · refine Kept.ite ?_ ?_
    · exact Kept.here
    · refine Kept.ite ?_ ?_
      · exact Kept.step (State.checkFail_kept ..) rfl Kept.here
      · refine Kept.step (State.noteHeld_kept ..) rfl ?_
        refine Kept.foldl _ (fun x h_x a => ?_) ?_
        · exact Kept.step (State.postSteps_kept ..) rfl (Kept.step (State.takeEarly_kept ..) rfl h_x)
        · exact Kept.here

theorem State.adderFail_kept (s : State) (c : Nat) (o : Op) (off : Nat) (e : CheckErr) : Kept 680564733841877002484689023960983763844 s (State.adderFail s c o off e) := by
  unfold State.adderFail
  split
  · rename_i v s1 hq
    have h_s1 := Kept.eq2 hq (m := 680564733841877002484689023960983763844) (s0 := s) (by
      exact Kept.step (State.draw64_kept ..) rfl Kept.here
      )
    clear hq
    extract_lets -merge -underBinder +onlyGivenNames t ok u items
    try clear_value t ok u items
    extract_lets -merge -underBinder +onlyGivenNames s2
    have h_s2 : Kept 680564733841877002484689023960983763844 s s2 := by
      unfold s2
      exact Kept.step (State.cairnLog_kept ..) rfl (Kept.step (State.incSat_kept ..) rfl h_s1)
    try clear_value s2
    extract_lets -merge -underBinder +onlyGivenNames key
    try clear_value key
    extract_lets -merge -underBinder +onlyGivenNames s3
    have h_s3 : Kept 680564733841877002484689023960983763844 s s3 := by
      unfold s3
      split
      · refine Kept.ite ?_ ?_
        · exact h_s2
        · extract_lets -merge -underBinder +onlyGivenNames left
          try clear_value left
          extract_lets -merge -underBinder +onlyGivenNames s4
          have h_s4 : Kept 680564733841877002484689023960983763844 s s4 := by
            unfold s4
            exact Kept.step (State.cairnLog_kept ..) rfl (Kept.step (State.setF_kept ..) rfl h_s2)
          try clear_value s4
          refine Kept.ite ?_ ?_
          · refine Kept.step (State.cfSync_kept ..) rfl ?_
            refine State.pageFault_kept rfl h_s4 (fun a h_a => ?_)
            · exact h_a
          · exact h_s4
      · exact Kept.upd_adderFails (s := s2) rfl h_s2
    try clear_value s3
    exact Kept.step (State.checkFail_kept ..) rfl h_s3

theorem State.rotationsDue_kept (s : State) (c : Nat) : Kept 680564733841877002484689059145355886532 s (State.rotationsDue s c) := by
  unfold State.rotationsDue
  refine Kept.ite ?_ ?_
  · refine Kept.foldl _ (fun x h_x a => ?_) ?_
    · exact Kept.step (State.postPump_kept ..) rfl h_x
    · exact Kept.here
  · exact Kept.here

end Sys2Proof.Machine
end

