-- ==== Sys2Proof/Laws/KeepMemEp.lean ====
section
/-! SUPPORT. What each operation and each command of Machine/MemEp.lean leaves as it was: one frame lemma for each. -/

namespace Sys2Proof.Machine

theorem State.memDrop_kept (s : State) (n : Nat) : Kept 67108864 s (State.memDrop s n) := by
  unfold State.memDrop
  exact Kept.upd_memReqs (s := s) rfl Kept.here

theorem State.memFlush_kept (s : State) (n : Nat) : Kept 121192452 s (State.memFlush s n) := by
  induction n generalizing s with
  | zero => exact Kept.here
  | succ f ih =>
    unfold State.memFlush
    split
    · exact Kept.here
    · split
      · exact Kept.here
      · exact Kept.step (ih _) rfl (Kept.step (State.inject_kept ..) rfl (Kept.step (State.memDrop_kept ..) rfl Kept.here))

theorem State.memAnswer_kept (s : State) (n : Nat) (a : Packet) : Kept 121192452 s (State.memAnswer s n a) := by
  unfold State.memAnswer
  extract_lets -merge -underBinder +onlyGivenNames s1
  have h_s1 : Kept 121192452 s s1 := by
    unfold s1
    exact Kept.step (State.inject_kept ..) rfl (Kept.step (State.memDrop_kept ..) rfl Kept.here)
  try clear_value s1
  exact Kept.step (State.memFlush_kept ..) rfl h_s1

theorem State.memPoolAnswer?_kept (s : State) (p : Packet) : KeptO 121192452 s (State.memPoolAnswer? s p) := by
  unfold State.memPoolAnswer?
  split
  · exact KeptO.none
  · split
    · exact KeptO.none
    · refine KeptO.some ?_
      refine Kept.ite ?_ ?_
      · extract_lets -merge -underBinder +onlyGivenNames s1
        have h_s1 : Kept 121192452 s s1 := by
          unfold s1
          exact Kept.step (State.feedStream_kept ..) rfl Kept.here
        try clear_value s1
        exact Kept.upd_memReqs (s := s1) rfl h_s1
      · exact Kept.step (State.memAnswer_kept ..) rfl Kept.here

theorem State.memTranslate_kept (s : State) (n : Nat) (r : MemReq) : Kept 70844420 s (State.memTranslate s n r) := by
  unfold State.memTranslate
  extract_lets -merge -underBinder +onlyGivenNames p unit
  try clear_value p unit
  split
  · refine Kept.ite ?_ ?_
    · extract_lets -merge -underBinder +onlyGivenNames src
      have h_src : Kept 70844420 s src := by
        unfold src
        exact Kept.step (State.walkStart_kept ..) rfl Kept.here
      try clear_value src
      exact Kept.upd_memReqs (s := src) rfl h_src
    · exact Kept.here
  · extract_lets -merge -underBinder +onlyGivenNames src1
    have h_src1 : Kept 70844420 s src1 := by
      unfold src1
      exact Kept.step (State.xlLatch_kept ..) rfl Kept.here
    try clear_value src1
    exact Kept.upd_memReqs (s := src1) rfl h_src1
  · exact Kept.upd_memReqs (s := s) rfl Kept.here

theorem State.memWalks_kept (s : State) (unit : Nat) : Kept 70844420 s (State.memWalks s unit) := by
  unfold State.memWalks
  refine Kept.foldl _ (fun x h_x a => ?_) ?_
  · split
    · refine Kept.ite ?_ ?_
      · exact Kept.step (State.memTranslate_kept ..) rfl h_x
      · exact h_x
    · exact h_x
  · exact Kept.here

theorem State.memGo_kept (s : State) (unit : Nat) : Kept 121192452 s (State.memGo s unit) := by
  unfold State.memGo
  extract_lets -merge -underBinder +onlyGivenNames s1
  have h_s1 : Kept 121192452 s s1 := by
    unfold s1
    exact Kept.step (State.memWalks_kept ..) rfl Kept.here
  try clear_value s1
  exact Kept.step (State.memFlush_kept ..) rfl h_s1

theorem State.memFailed_kept (s : State) (n : Nat) (r : MemReq) (code : Nat) (poison : Bool) : Kept 121192452 s (State.memFailed s n r code poison) := by
  unfold State.memFailed
  exact Kept.step (State.memGo_kept ..) rfl (Kept.upd_memReqs (s := s) rfl Kept.here)

theorem execMemRequest_kept (i : Nat) (kind : Nat) (s : State) : KeptR 121192452 s (execMemRequest i kind s) := by
  unfold execMemRequest
  refine State.packetRow_kept rfl Kept.here (fun a a1 h_a1 => ?_)
  · extract_lets -merge -underBinder +onlyGivenNames r n
    try clear_value r n
    extract_lets -merge -underBinder +onlyGivenNames s1
    have h_s1 : Kept 121192452 s s1 := by
      unfold s1
      exact Kept.upd_memReqs (s := a1) rfl h_a1
    try clear_value s1
    split
    · exact Kept.step (State.memFailed_kept ..) rfl (Kept.step (State.xlLatch_kept ..) rfl h_s1)
    · exact Kept.step (State.memGo_kept ..) rfl h_s1

theorem execSread_kept (i : Nat) (s : State) : KeptR 121192452 s (execSread i s) := by
  unfold execSread
  exact KeptR.step (execMemRequest_kept ..) rfl Kept.here

theorem execSwrite_kept (i : Nat) (s : State) : KeptR 121192452 s (execSwrite i s) := by
  unfold execSwrite
  exact KeptR.step (execMemRequest_kept ..) rfl Kept.here

theorem execSfill_kept (i : Nat) (s : State) : KeptR 121192452 s (execSfill i s) := by
  unfold execSfill
  exact KeptR.step (execMemRequest_kept ..) rfl Kept.here

theorem execSdrain_kept (i : Nat) (s : State) : KeptR 121192452 s (execSdrain i s) := by
  unfold execSdrain
  exact KeptR.step (execMemRequest_kept ..) rfl Kept.here

theorem execTranslationWalkDone_kept (i : Nat) (corrected : Corrected) (s : State) : KeptR 528039940 s (execTranslationWalkDone i corrected s) := by
  unfold execTranslationWalkDone
  split
  · refine KeptR.next ?_
    exact Kept.here
  · split
    · refine KeptR.next ?_
      exact Kept.step (State.memGo_kept ..) rfl Kept.here
    · extract_lets -merge -underBinder +onlyGivenNames p
      try clear_value p
      refine KeptR.next ?_
      split
      · rename_i e s1 hq
        have h_s1 := Kept.eq2 hq (m := 528039940) (s0 := s) (by
          exact Kept.step (State.walkEnd_kept ..) rfl (Kept.step (State.eccCorr_kept ..) rfl Kept.here)
          )
        clear hq
        exact Kept.step (State.memFailed_kept ..) rfl (Kept.step (State.xlLatch_kept ..) rfl h_s1)
      · rename_i val s2 hq1
        have h_s2 := Kept.eq2 hq1 (m := 528039940) (s0 := s) (by
          exact Kept.step (State.walkEnd_kept ..) rfl (Kept.step (State.eccCorr_kept ..) rfl Kept.here)
          )
        clear hq1
        exact Kept.step (State.memGo_kept ..) rfl (Kept.upd_memReqs (s := s2) rfl h_s2)

theorem State.memToPool_kept (s : State) (n : Nat) (r : MemReq) (data : List Byte) (poison : Bool) : Kept 121225220 s (State.memToPool s n r data poison) := by
  unfold State.memToPool
  split
  · exact Kept.step (State.memFailed_kept ..) rfl Kept.here
  · split
    · rename_i xid s1 hq
      have h_s1 := Kept.eq2 hq (m := 121225220) (s0 := s) (by
        exact Kept.step (State.fresh_kept ..) rfl Kept.here
        )
      clear hq
      extract_lets -merge -underBinder +onlyGivenNames q
      try clear_value q
      split
      · exact Kept.step (State.memFailed_kept ..) rfl (Kept.step (State.unreachable_kept ..) rfl h_s1)
      · rename_i s2 hq2
        have h_s2 := (show KeptO 121225220 s _ by
          exact KeptO.step (State.inject?_kept ..) rfl h_s1
          ).on _ hq2
        clear hq2
        extract_lets -merge -underBinder +onlyGivenNames s3
        have h_s3 : Kept 121225220 s s3 := by
          unfold s3
          exact Kept.step (State.feedStream_kept ..) rfl h_s2
        try clear_value s3
        exact Kept.upd_memReqs (s := s3) rfl h_s3

theorem execStackAccessComplete_kept (i : Nat) (corrected : Corrected) (s : State) : KeptR 680564733841877002484689059145355886532 s (execStackAccessComplete i corrected s) := by
  unfold execStackAccessComplete
  split
  · refine KeptR.next ?_
    exact Kept.here
  · refine whenB_kept rfl Kept.here (fun a h_a => ?_)
    · extract_lets -merge -underBinder +onlyGivenNames p
      try clear_value p
      extract_lets -merge -underBinder +onlyGivenNames s1
      have h_s1 : Kept 680564733841877002484689059145355886532 s s1 := by
        unfold s1
        exact Kept.step (State.eccCorr_kept ..) rfl h_a
      try clear_value s1
      split
      · exact Kept.step (State.memFailed_kept ..) rfl h_s1
      · refine Kept.ite ?_ ?_
        · exact Kept.step (State.rotationsDue_kept ..) rfl (Kept.step (State.memAnswer_kept ..) rfl h_s1)
        · refine Kept.ite ?_ ?_
          · exact Kept.step (State.memAnswer_kept ..) rfl (Kept.step (State.segsWrite_kept ..) rfl h_s1)
          · refine Kept.ite ?_ ?_
            · exact Kept.step (State.rotationsDue_kept ..) rfl (Kept.step (State.memToPool_kept ..) rfl h_s1)
            · refine Kept.ite ?_ ?_
              · exact Kept.step (State.memToPool_kept ..) rfl h_s1
              · exact Kept.step (State.memAnswer_kept ..) rfl (Kept.step (State.segsWrite_kept ..) rfl h_s1)

end Sys2Proof.Machine
end

