-- ==== Sys2Proof/Laws/KeepSequencer.lean ====
section
/-! SUPPORT. What each operation and each command of Machine/Sequencer.lean leaves as it was: one frame lemma for each. -/

namespace Sys2Proof.Machine

theorem State.endLoad_kept (s : State) (c : Nat) (h1 : Nat) (code : Nat) (rills : Nat) : Kept 274880659972 s (State.endLoad s c h1 code rills) := by
  unfold State.endLoad
  extract_lets -merge -underBinder +onlyGivenNames q
  try clear_value q
  exact Kept.step (State.endLong_kept ..) rfl (Kept.step (State.setSeqr_kept ..) rfl Kept.here)

theorem State.beginFront_kept (s : State) (c : Nat) : Kept 275339011652 s (State.beginFront s c) := by
  unfold State.beginFront
  extract_lets -merge -underBinder +onlyGivenNames q
  try clear_value q
  split
  · exact Kept.here
  · refine Kept.ite ?_ ?_
    · exact Kept.here
    · split
      · rename_i val s1 hq
        have h_s1 := Kept.eq2 hq (m := 275339011652) (s0 := s) (by
          exact Kept.step (State.vaRead_kept ..) rfl Kept.here
          )
        clear hq
        exact Kept.step (State.endLoad_kept ..) rfl h_s1
      · rename_i b s2 hq1
        have h_s2 := Kept.eq2 hq1 (m := 275339011652) (s0 := s) (by
          exact Kept.step (State.vaRead_kept ..) rfl Kept.here
          )
        clear hq1
        split
        · exact Kept.step (State.endLoad_kept ..) rfl h_s2
        · refine Kept.ite ?_ ?_
          · extract_lets -merge -underBinder +onlyGivenNames src s3
            try clear_value src
            have h_s3 : Kept 275339011652 s s3 := by
              unfold s3
              exact Kept.step (State.setSeqr_kept ..) rfl h_s2
            try clear_value s3
            refine Kept.foldl _ (fun x h_x a => ?_) ?_
            · exact Kept.step (State.beginLoad_kept ..) rfl h_x
            · exact h_s3
          · exact Kept.step (State.endLoad_kept ..) rfl h_s2

theorem State.imgPump_kept (s : State) (c : Nat) : Kept 275339011652 s (State.imgPump s c) := by
  unfold State.imgPump
  refine Kept.foldl _ (fun x h_x a => ?_) ?_
  · exact Kept.step (State.beginFront_kept ..) rfl h_x
  · exact Kept.here

theorem State.opStartAnswer_kept (s : State) (p : Packet) (o : Op) : Kept 680564733841877002484689059145355886532 s (State.opStartAnswer s p o) := by
  unfold State.opStartAnswer
  refine Kept.ite ?_ ?_
  · exact Kept.step (State.opStartFail_kept ..) rfl Kept.here
  · extract_lets -merge -underBinder +onlyGivenNames left
    try clear_value left
    extract_lets -merge -underBinder +onlyGivenNames s1
    have h_s1 : Kept 680564733841877002484689059145355886532 s s1 := by
      unfold s1
      exact Kept.step (State.setOp_kept ..) rfl Kept.here
    try clear_value s1
    refine Kept.ite ?_ ?_
    · exact Kept.step (State.imgPump_kept ..) rfl (Kept.step (State.postPump_kept ..) rfl h_s1)
    · exact h_s1

theorem State.loadOn_kept (s : State) (c : Nat) (ks : List Nat) : Kept 274878047296 s (State.loadOn s c ks) := by
  unfold State.loadOn
  split
  · extract_lets -merge -underBinder +onlyGivenNames n
    try clear_value n
    extract_lets -merge -underBinder +onlyGivenNames s1
    have h_s1 : Kept 274878047296 s s1 := by
      unfold s1
      exact Kept.step (State.loadImage_kept ..) rfl Kept.here
    try clear_value s1
    exact Kept.step (State.modLong_kept ..) rfl (Kept.step (State.setSeqr_kept ..) rfl h_s1)
  · exact Kept.here

theorem State.loadTo_kept (s : State) (c : Nat) (h1 : Nat) (n : Nat) : Kept 274878047296 s (State.loadTo s c h1 n) := by
  unfold State.loadTo
  split
  · exact Kept.step (State.loadOn_kept ..) rfl Kept.here
  · exact Kept.here

theorem State.finishLoad_kept (s : State) (c : Nat) (h1 : Nat) : Kept 1374850639428 s (State.finishLoad s c h1) := by
  unfold State.finishLoad
  split
  · refine Kept.ite ?_ ?_
    · split
      · exact Kept.step (State.imgPump_kept ..) rfl (Kept.step (State.endLoad_kept ..) rfl (Kept.step (State.setImages_kept ..) rfl (Kept.step (State.loadOn_kept ..) rfl Kept.here)))
      · exact Kept.step (State.imgPump_kept ..) rfl (Kept.step (State.endLoad_kept ..) rfl Kept.here)
    · exact Kept.here
  · exact Kept.here

theorem State.opStarts_kept (s : State) (c : Nat) (o : Op) (mark : Bool) : Kept 75557939809097044713988 s (State.opStarts s c o mark) := by
  unfold State.opStarts
  split
  · rename_i s1 xs lost hq
    have h_s1 := Kept.eq1 hq (m := 75557939809097044713988) (s0 := s) (by
      refine Kept.foldl1 _ (fun x h_x a => ?_) ?_
      · split
        · rename_i xid s2 hq1
          have h_s2 := Kept.eq2 hq1 (m := 75557939809097044713988) (s0 := s) (by
            exact Kept.step (State.fresh_kept ..) rfl h_x
            )
          clear hq1
          extract_lets -merge -underBinder +onlyGivenNames src p
          try clear_value src
          try clear_value p
          split
          · rename_i s3 hq2
            have h_s3 := (show KeptO 75557939809097044713988 s _ by
              exact KeptO.step (State.inject?_kept ..) rfl h_s2
              ).on _ hq2
            clear hq2
            refine Kept.pair1 ?_
            exact h_s3
          · refine Kept.pair1 ?_
            exact Kept.step (State.unreachable_kept ..) rfl h_s2
      · refine Kept.pair1 ?_
        exact Kept.here
      )
    clear hq
    extract_lets -merge -underBinder +onlyGivenNames s4
    have h_s4 : Kept 75557939809097044713988 s s4 := by
      unfold s4
      exact Kept.step (State.setOp_kept ..) rfl h_s1
    try clear_value s4
    refine Kept.ite ?_ ?_
    · exact Kept.step (State.failOp_kept ..) rfl h_s4
    · exact h_s4

theorem State.countPhase_kept (s : State) (c : Nat) (o : Op) : Kept 680564733841877002484689023960983763844 s (State.countPhase s c o) := by
  unfold State.countPhase
  refine Kept.ite ?_ ?_
  · extract_lets -merge -underBinder +onlyGivenNames n
    try clear_value n
    split
    · rename_i code s1 hq
      have h_s1 := Kept.eq2 hq (m := 680564733841877002484689023960983763844) (s0 := s) (by
        exact Kept.step (State.vaRead_kept ..) rfl Kept.here
        )
      clear hq
      exact Kept.step (State.failOp_kept ..) rfl h_s1
    · rename_i b s2 hq1
      have h_s2 := Kept.eq2 hq1 (m := 680564733841877002484689023960983763844) (s0 := s) (by
        exact Kept.step (State.vaRead_kept ..) rfl Kept.here
        )
      clear hq1
      extract_lets -merge -underBinder +onlyGivenNames l o1
      try clear_value l o1
      extract_lets -merge -underBinder +onlyGivenNames s3
      have h_s3 : Kept 680564733841877002484689023960983763844 s s3 := by
        unfold s3
        exact Kept.step (State.setOp_kept ..) rfl h_s2
      try clear_value s3
      refine Kept.ite ?_ ?_
      · exact Kept.step (State.collFail_kept ..) rfl h_s3
      · extract_lets -merge -underBinder +onlyGivenNames s4
        have h_s4 : Kept 680564733841877002484689023960983763844 s s4 := by
          unfold s4
          refine Kept.foldl _ (fun x h_x a => ?_) ?_
          · exact Kept.step (State.postSend_kept ..) rfl h_x
          · exact h_s3
        try clear_value s4
        exact Kept.step (State.takeCount_kept ..) rfl h_s4
  · exact Kept.here

theorem State.admitOp_kept (s : State) (c : Nat) (o : Op) : Kept 680564733841877002484689059695111700420 s (State.admitOp s c o) := by
  unfold State.admitOp
  extract_lets -merge -underBinder +onlyGivenNames q mark q1 q2 o1
  try clear_value q mark q1 q2 o1
  extract_lets -merge -underBinder +onlyGivenNames s1
  have h_s1 : Kept 680564733841877002484689059695111700420 s s1 := by
    unfold s1
    exact Kept.upd_postSeq (s := s) rfl Kept.here
  try clear_value s1
  extract_lets -merge -underBinder +onlyGivenNames s2
  have h_s2 : Kept 680564733841877002484689059695111700420 s s2 := by
    unfold s2
    exact Kept.step (State.setOp_kept ..) rfl (Kept.step (State.setSeqr_kept ..) rfl h_s1)
  try clear_value s2
  extract_lets -merge -underBinder +onlyGivenNames s3
  have h_s3 : Kept 680564733841877002484689059695111700420 s s3 := by
    unfold s3
    refine Kept.step (State.opStarts_kept ..) rfl ?_
    refine Kept.ite ?_ ?_
    · exact h_s2
    · exact Kept.step (State.dropPostKeys_kept ..) rfl h_s2
  try clear_value s3
  split
  · exact h_s3
  · exact Kept.step (State.imgPump_kept ..) rfl (Kept.step (State.cfSync_kept ..) rfl (Kept.step (State.postPump_kept ..) rfl (Kept.step (State.countPhase_kept ..) rfl h_s3)))

theorem State.tookEntry_kept (s : State) (c : Nat) (n : Nat) (rebuild : Bool) (o : Option Op) : Kept 1374389534720 s (State.tookEntry s c n rebuild o) := by
  unfold State.tookEntry
  extract_lets -merge -underBinder +onlyGivenNames src s1
  try clear_value src
  have h_s1 : Kept 1374389534720 s s1 := by
    unfold s1
    refine Kept.ite ?_ ?_
    · exact Kept.step (State.setRcv_kept ..) rfl Kept.here
    · exact Kept.here
  try clear_value s1
  extract_lets -merge -underBinder +onlyGivenNames q
  try clear_value q
  exact Kept.step (State.setSeqr_kept ..) rfl h_s1

theorem State.acceptOp_kept (s : State) (c : Nat) (o : Op) : Kept 680564733841877002484689059695111700420 s (State.acceptOp s c o) := by
  unfold State.acceptOp
  refine Kept.ite ?_ ?_
  · split
    · rename_i t s1 hq
      have h_s1 := Kept.eq2 hq (m := 680564733841877002484689059695111700420) (s0 := s) (by
        exact Kept.step (State.fresh_kept ..) rfl Kept.here
        )
      clear hq
      exact Kept.step (State.cfSync_kept ..) rfl (Kept.step (State.tookEntry_kept ..) rfl h_s1)
  · exact Kept.step (State.admitOp_kept ..) rfl (Kept.step (State.tookEntry_kept ..) rfl Kept.here)

theorem execOpAdmit_kept (ctx : Nat) (now : Nat) (s : State) : KeptR 680564733841877002484689059695111700422 s (execOpAdmit ctx now s) := by
  unfold execOpAdmit
  refine onUnit_kept rfl Kept.here (fun a h_a => ?_)
  · split
    · exact h_a
    · refine Kept.ite ?_ ?_
      · exact h_a
      · split
        · rename_i code s1 hq
          have h_s1 := Kept.eq2 hq (m := 680564733841877002484689059695111700422) (s0 := s) (by
            exact Kept.step (State.vaRead_kept ..) rfl (Kept.step (State.atTime_kept ..) rfl h_a)
            )
          clear hq
          exact Kept.step (State.failOp_kept ..) rfl (Kept.step (State.tookEntry_kept ..) rfl h_s1)
        · rename_i b s2 hq1
          have h_s2 := Kept.eq2 hq1 (m := 680564733841877002484689059695111700422) (s0 := s) (by
            exact Kept.step (State.vaRead_kept ..) rfl (Kept.step (State.atTime_kept ..) rfl h_a)
            )
          clear hq1
          extract_lets -merge -underBinder +onlyGivenNames src o
          try clear_value src
          try clear_value o
          split
          · rename_i code1 s3 hq2
            have h_s3 := Kept.eq2 hq2 (m := 680564733841877002484689059695111700422) (s0 := s) (by
              exact Kept.step (State.opCheck_kept ..) rfl h_s2
              )
            clear hq2
            refine Kept.ite ?_ ?_
            · exact Kept.step (State.failOp_kept ..) rfl (Kept.step (State.tookEntry_kept ..) rfl h_s3)
            · refine Kept.ite ?_ ?_
              · exact Kept.step (State.failOp_kept ..) rfl (Kept.step (State.tookEntry_kept ..) rfl h_s3)
              · refine Kept.ite ?_ ?_
                · exact h_a
                · exact Kept.step (State.acceptOp_kept ..) rfl h_s3

theorem State.takeHome_kept (s : State) (t : Nat) (slots : Nat) : Kept 4 s (State.takeHome s t slots) := by
  unfold State.takeHome
  extract_lets -merge -underBinder +onlyGivenNames a
  try clear_value a
  exact Kept.step (State.setF_kept ..) rfl (Kept.step (State.setF_kept ..) rfl Kept.here)

theorem execSlotReservationGrant_kept (now : Nat) (s : State) : KeptR 680564733841877002484689059695111700422 s (execSlotReservationGrant now s) := by
  unfold execSlotReservationGrant
  split
  · refine KeptR.next ?_
    exact Kept.here
  · split
    · refine KeptR.next ?_
      exact Kept.here
    · refine whenB_kept rfl Kept.here (fun a h_a => ?_)
      · exact Kept.step (State.admitOp_kept ..) rfl (Kept.step (State.takeHome_kept ..) rfl (Kept.step (State.atTime_kept ..) rfl h_a))

theorem execReduceFallback_kept (ctx : Nat) (opn : Nat) (now : Nat) (s : State) : KeptR 680564733841877002484689059695111700422 s (execReduceFallback ctx opn now s) := by
  unfold execReduceFallback
  refine unitRow_kept ?_ ?_
  · exact Kept.here
  · split
    · refine KeptR.next ?_
      exact Kept.here
    · refine whenB_kept rfl Kept.here (fun a h_a => ?_)
      · extract_lets -merge -underBinder +onlyGivenNames s1
        have h_s1 : Kept 680564733841877002484689059695111700422 s s1 := by
          unfold s1
          exact Kept.step (State.cairnLog_kept ..) rfl (Kept.step (State.atTime_kept ..) rfl h_a)
        try clear_value s1
        split
        · exact Kept.step (State.admitOp_kept ..) rfl (Kept.step (State.takeHome_kept ..) rfl (Kept.step (State.incSat_kept ..) rfl h_s1))
        · exact Kept.step (State.failOp_kept ..) rfl h_s1

end Sys2Proof.Machine
end

