-- ==== Sys2Proof/Laws/KeepEzLink.lean ====
section
/-! SUPPORT. What each operation and each command of Machine/EzLink.lean leaves as it was: one frame lemma for each. -/

namespace Sys2Proof.Machine

theorem State.linkAtStop_kept (s : State) (l : Nat) : Kept 3386495865978884 s (State.linkAtStop s l) := by
  unfold State.linkAtStop
  extract_lets -merge -underBinder +onlyGivenNames x
  try clear_value x
  refine Kept.foldl _ (fun x1 h_x1 a => ?_) ?_
  · exact Kept.step (State.takeLink_kept ..) rfl h_x1
  · exact Kept.step (State.setB_kept ..) rfl (Kept.step (State.setLink_kept ..) rfl Kept.here)

theorem State.sendLc_kept (s : State) (l : Nat) (type : Nat) : Kept 2260595959136260 s (State.sendLc s l type) := by
  unfold State.sendLc
  exact Kept.step (State.linkPump_kept ..) rfl (Kept.step (State.setLink_kept ..) rfl Kept.here)

theorem State.freeFlits_kept (s : State) (l : Nat) (p : WirePkt) : Kept 8796093022208 s (State.freeFlits s l p) := by
  unfold State.freeFlits
  extract_lets -merge -underBinder +onlyGivenNames x b
  try clear_value x b
  exact Kept.step (State.setLink_kept ..) rfl Kept.here

theorem State.occSync_kept (s : State) (l : Nat) : Kept 4 s (State.occSync s l) := by
  unfold State.occSync
  extract_lets -merge -underBinder +onlyGivenNames held
  try clear_value held
  exact Kept.step (State.setF_kept ..) rfl (Kept.step (State.setF_kept ..) rfl (Kept.step (State.setF_kept ..) rfl Kept.here))

theorem State.wireArrive_kept (s : State) (l : Nat) (p : WirePkt) (ok : Bool) : Kept 96757077311492 s (State.wireArrive s l p ok) := by
  unfold State.wireArrive
  extract_lets -merge -underBinder +onlyGivenNames s1
  have h_s1 : Kept 96757077311492 s s1 := by
    unfold s1
    exact Kept.step (State.add64_kept ..) rfl Kept.here
  try clear_value s1
  extract_lets -merge -underBinder +onlyGivenNames s2
  have h_s2 : Kept 96757077311492 s s2 := by
    unfold s2
    exact Kept.step (State.feedUnit_kept ..) rfl h_s1
  try clear_value s2
  extract_lets -merge -underBinder +onlyGivenNames here
  try clear_value here
  refine Kept.ite ?_ ?_
  · exact Kept.step (State.freeFlits_kept ..) rfl (Kept.step (State.incSat_kept ..) rfl h_s2)
  · refine Kept.ite ?_ ?_
    · exact Kept.step (State.freeFlits_kept ..) rfl (Kept.step (State.cairnLog_kept ..) rfl (Kept.step (State.incSat_kept ..) rfl h_s2))
    · refine Kept.ite ?_ ?_
      · exact Kept.step (State.freeFlits_kept ..) rfl (Kept.step (State.incSat_kept ..) rfl h_s2)
      · split
        · refine Kept.ite ?_ ?_
          · exact Kept.step (State.freeFlits_kept ..) rfl (Kept.step (State.incSat_kept ..) rfl h_s2)
          · exact Kept.upd_rx_keys (s := s2) rfl h_s2
        · exact Kept.upd_rx (s := s2) rfl h_s2

theorem execCodewordReceive_kept (link : Nat) (lanes : Lanes) (s : State) : KeptR 2348556890996740 s (execCodewordReceive link lanes s) := by
  unfold execCodewordReceive
  refine onUnit_kept rfl Kept.here (fun a h_a => ?_)
  · split
    · exact Kept.step (State.sendLc_kept ..) rfl (Kept.step (State.incSat_kept ..) rfl h_a)
    · extract_lets -merge -underBinder +onlyGivenNames s1
      have h_s1 : Kept 2348556890996740 s s1 := by
        unfold s1
        exact Kept.step (State.add64_kept ..) rfl h_a
      try clear_value s1
      extract_lets -merge -underBinder +onlyGivenNames x
      try clear_value x
      refine Kept.ite ?_ ?_
      · exact Kept.step (State.sendLc_kept ..) rfl h_s1
      · extract_lets -merge -underBinder +onlyGivenNames fs
        try clear_value fs
        split
        · extract_lets -merge -underBinder +onlyGivenNames lc
          try clear_value lc
          extract_lets -merge -underBinder +onlyGivenNames s2
          have h_s2 : Kept 2348556890996740 s s2 := by
            unfold s2
            exact Kept.step (State.setLink_kept ..) rfl h_s1
          try clear_value s2
          extract_lets -merge -underBinder +onlyGivenNames s3
          have h_s3 : Kept 2348556890996740 s s3 := by
            unfold s3
            refine Kept.step (State.occSync_kept ..) rfl ?_
            refine Kept.foldl _ (fun x1 h_x1 a1 => ?_) ?_
            · exact Kept.step (State.wireArrive_kept ..) rfl h_x1
            · exact h_s2
          try clear_value s3
          extract_lets -merge -underBinder +onlyGivenNames x2
          try clear_value x2
          refine Kept.ite ?_ ?_
          · exact Kept.step (State.sendLc_kept ..) rfl (Kept.step (State.setLink_kept ..) rfl h_s3)
          · exact h_s3

theorem State.lcTake_kept (s : State) (l : Nat) (f : LcFlit) : Kept 2260595959136260 s (State.lcTake s l f) := by
  unfold State.lcTake
  extract_lets -merge -underBinder +onlyGivenNames x
  try clear_value x
  exact Kept.step (State.linkPump_kept ..) rfl (Kept.step (State.setLink_kept ..) rfl Kept.here)

theorem execIdle_kept (link : Nat) (s : State) : KeptR 2260595959136260 s (execIdle link s) := by
  unfold execIdle
  refine unitRow_kept ?_ ?_
  · exact Kept.here
  · refine whenSome_kept rfl Kept.here (fun a a1 h_a1 => ?_)
    · exact Kept.step (State.lcTake_kept ..) rfl h_a1

theorem execAckCredit_kept (link : Nat) (s : State) : KeptR 2260595959136260 s (execAckCredit link s) := by
  unfold execAckCredit
  refine unitRow_kept ?_ ?_
  · exact Kept.here
  · refine whenSome_kept rfl Kept.here (fun a a1 h_a1 => ?_)
    · exact Kept.step (State.lcTake_kept ..) rfl h_a1

theorem State.linkLeave_kept (s : State) (l : Nat) : Kept 3404088052023300 s (State.linkLeave s l) := by
  unfold State.linkLeave
  extract_lets -merge -underBinder +onlyGivenNames x
  try clear_value x
  extract_lets -merge -underBinder +onlyGivenNames s1
  have h_s1 : Kept 3404088052023300 s s1 := by
    unfold s1
    exact Kept.step (State.setLink_kept ..) rfl Kept.here
  try clear_value s1
  extract_lets -merge -underBinder +onlyGivenNames s2
  have h_s2 : Kept 3404088052023300 s s2 := by
    unfold s2
    exact Kept.upd_rx (s := s1) rfl h_s1
  try clear_value s2
  extract_lets -merge -underBinder +onlyGivenNames s3
  have h_s3 : Kept 3404088052023300 s s3 := by
    unfold s3
    exact Kept.step (State.noteCredit_kept ..) rfl (Kept.step (State.occSync_kept ..) rfl (Kept.step (State.setB_kept ..) rfl h_s2))
  try clear_value s3
  refine Kept.foldl _ (fun x1 h_x1 a => ?_) ?_
  · exact Kept.step (State.takeLink_kept ..) rfl h_x1
  · exact h_s3

theorem State.claimGauges_kept (s : State) (l : Nat) (claim : Bool) : Kept 4 s (State.claimGauges s l claim) := by
  unfold State.claimGauges
  refine Kept.ite ?_ ?_
  · extract_lets -merge -underBinder +onlyGivenNames ep u
    try clear_value ep u
    refine Kept.foldl _ (fun x h_x a => ?_) ?_
    · extract_lets -merge -underBinder +onlyGivenNames g
      try clear_value g
      refine Kept.ite ?_ ?_
      · extract_lets -merge -underBinder +onlyGivenNames s1
        have h_s1 : Kept 4 s s1 := by
          unfold s1
          exact Kept.step (State.setRegN_kept ..) rfl (Kept.step (State.setRegN_kept ..) rfl h_x)
        try clear_value s1
        exact Kept.step (State.setRegN_kept ..) rfl (Kept.step (State.setReg64_kept ..) rfl (Kept.step (State.setReg64_kept ..) rfl h_s1))
      · exact Kept.step (State.setRegN_kept ..) rfl (Kept.step (State.setB_kept ..) rfl h_x)
    · exact Kept.here
  · exact Kept.here

theorem State.linkFault_kept (s : State) (l : Nat) (reason : Nat) : Kept 3404088052023300 s (State.linkFault s l reason) := by
  unfold State.linkFault
  extract_lets -merge -underBinder +onlyGivenNames up
  try clear_value up
  extract_lets -merge -underBinder +onlyGivenNames s1
  have h_s1 : Kept 3404088052023300 s s1 := by
    unfold s1
    exact Kept.step (State.setF_kept ..) rfl Kept.here
  try clear_value s1
  extract_lets -merge -underBinder +onlyGivenNames s2
  have h_s2 : Kept 3404088052023300 s s2 := by
    unfold s2
    refine State.pageFault_kept rfl h_s1 (fun a h_a => ?_)
    · exact h_a
  try clear_value s2
  refine Kept.ite ?_ ?_
  · exact Kept.step (State.linkLeave_kept ..) rfl (Kept.step (State.claimGauges_kept ..) rfl h_s2)
  · exact h_s2

theorem execNak_kept (link : Nat) (s : State) : KeptR 3404088052023300 s (execNak link s) := by
  unfold execNak
  refine unitRow_kept ?_ ?_
  · exact Kept.here
  · refine whenSome_kept rfl Kept.here (fun a a1 h_a1 => ?_)
    · extract_lets -merge -underBinder +onlyGivenNames x
      try clear_value x
      refine Kept.ite ?_ ?_
      · exact Kept.step (State.linkFault_kept ..) rfl (Kept.step (State.lcTake_kept ..) rfl h_a1)
      · extract_lets -merge -underBinder +onlyGivenNames src s1
        try clear_value src
        have h_s1 : Kept 3404088052023300 s s1 := by
          unfold s1
          exact Kept.step (State.setLink_kept ..) rfl h_a1
        try clear_value s1
        extract_lets -merge -underBinder +onlyGivenNames s2
        have h_s2 : Kept 3404088052023300 s s2 := by
          unfold s2
          refine Kept.foldl _ (fun x1 h_x1 a2 => ?_) ?_
          · exact Kept.step (State.emit_kept ..) rfl h_x1
          · exact Kept.step (State.addSat_kept ..) rfl h_s1
        try clear_value s2
        exact Kept.step (State.lcTake_kept ..) rfl h_s2

theorem execTrain_kept (link : Nat) (f : TrainFlit) (s : State) : KeptR 3404088052023300 s (execTrain link f s) := by
  unfold execTrain
  refine onUnit_kept rfl Kept.here (fun a h_a => ?_)
  · extract_lets -merge -underBinder +onlyGivenNames why
    try clear_value why
    refine Kept.ite ?_ ?_
    · exact Kept.step (State.linkFault_kept ..) rfl h_a
    · extract_lets -merge -underBinder +onlyGivenNames src s1
      try clear_value src
      have h_s1 : Kept 3404088052023300 s s1 := by
        unfold s1
        exact Kept.step (State.setLink_kept ..) rfl h_a
      try clear_value s1
      exact Kept.step (State.setB_kept ..) rfl (Kept.step (State.setRegN_kept ..) rfl h_s1)

theorem State.linkAtStart_kept (s : State) (l : Nat) : Kept 8796095119364 s (State.linkAtStart s l) := by
  unfold State.linkAtStart
  refine Kept.ite ?_ ?_
  · exact Kept.step (State.setPst_kept ..) rfl Kept.here
  · extract_lets -merge -underBinder +onlyGivenNames src s1
    try clear_value src
    have h_s1 : Kept 8796095119364 s s1 := by
      unfold s1
      exact Kept.step (State.setRegN_kept ..) rfl (Kept.step (State.setLink_kept ..) rfl Kept.here)
    try clear_value s1
    refine Kept.ite ?_ ?_
    · exact Kept.step (State.emit_kept ..) rfl h_s1
    · exact h_s1

theorem execLinkTrainingDone_kept (link : Nat) (now : Nat) (s : State) : KeptR 3386495870173190 s (execLinkTrainingDone link now s) := by
  unfold execLinkTrainingDone
  refine onUnit_kept rfl Kept.here (fun a h_a => ?_)
  · extract_lets -merge -underBinder +onlyGivenNames s1
    have h_s1 : Kept 3386495870173190 s s1 := by
      unfold s1
      exact Kept.step (State.atTime_kept ..) rfl h_a
    try clear_value s1
    extract_lets -merge -underBinder +onlyGivenNames src s2
    try clear_value src
    have h_s2 : Kept 3386495870173190 s s2 := by
      unfold s2
      exact Kept.step (State.setLink_kept ..) rfl h_s1
    try clear_value s2
    extract_lets -merge -underBinder +onlyGivenNames s3
    have h_s3 : Kept 3386495870173190 s s3 := by
      unfold s3
      exact Kept.step (State.setB_kept ..) rfl (Kept.step (State.claimGauges_kept ..) rfl (Kept.step (State.incWrap_kept ..) rfl h_s2))
    try clear_value s3
    refine Kept.step (State.retryHold_kept ..) rfl ?_
    refine Kept.step (State.noteCredit_kept ..) rfl ?_
    refine State.startDone_kept rfl h_s3 (fun a1 h_a1 => ?_)
    · exact Kept.step (State.linkAtStop_kept ..) rfl h_a1

theorem execLinkTrainingTimeout_kept (link : Nat) (step : Nat) (now : Nat) (s : State) : KeptR 3404088056217606 s (execLinkTrainingTimeout link step now s) := by
  unfold execLinkTrainingTimeout
  refine onUnit_kept rfl Kept.here (fun a h_a => ?_)
  · extract_lets -merge -underBinder +onlyGivenNames s1
    have h_s1 : Kept 3404088056217606 s s1 := by
      unfold s1
      exact Kept.step (State.atTime_kept ..) rfl h_a
    try clear_value s1
    refine Kept.ite ?_ ?_
    · exact Kept.step (State.linkFault_kept ..) rfl h_s1
    · split
      · rename_i v s2 hq
        have h_s2 := Kept.eq2 hq (m := 3404088056217606) (s0 := s) (by
          exact Kept.step (State.draw64_kept ..) rfl h_s1
          )
        clear hq
        exact Kept.step (State.linkFault_kept ..) rfl h_s2

theorem execLinkStopDone_kept (link : Nat) (s : State) : KeptR 3404088052023300 s (execLinkStopDone link s) := by
  unfold execLinkStopDone
  refine onUnit_kept rfl Kept.here (fun a h_a => ?_)
  · refine State.stopDone_kept rfl (Kept.step (State.linkLeave_kept ..) rfl (Kept.step (State.claimGauges_kept ..) rfl h_a)) (fun a1 h_a1 => ?_)
    · exact Kept.step (State.linkAtStart_kept ..) rfl h_a1

theorem execEztexLinkDown_kept (link : Nat) (s : State) : KeptR 3404088052023300 s (execEztexLinkDown link s) := by
  unfold execEztexLinkDown
  refine onUnit_kept rfl Kept.here (fun a h_a => ?_)
  · exact Kept.step (State.linkFault_kept ..) rfl h_a

theorem State.wireTake_kept (s : State) (i : Nat) (r : RxPkt) : Kept 26388279066628 s (State.wireTake s i r) := by
  unfold State.wireTake
  extract_lets -merge -underBinder +onlyGivenNames s1
  have h_s1 : Kept 26388279066628 s s1 := by
    unfold s1
    exact Kept.upd_rx (s := s) rfl Kept.here
  try clear_value s1
  refine Kept.ite ?_ ?_
  · exact Kept.step (State.occSync_kept ..) rfl (Kept.step (State.freeFlits_kept ..) rfl h_s1)
  · exact h_s1

theorem execKeyRetentionExpiry_kept (now : Nat) (s : State) : KeptR 70368744177666 s (execKeyRetentionExpiry now s) := by
  unfold execKeyRetentionExpiry
  extract_lets -merge -underBinder +onlyGivenNames t old
  try clear_value t old
  refine whenB_kept rfl Kept.here (fun a h_a => ?_)
  · extract_lets -merge -underBinder +onlyGivenNames src
    have h_src : Kept 70368744177666 s src := by
      unfold src
      exact Kept.step (State.atTime_kept ..) rfl h_a
    try clear_value src
    exact Kept.upd_keys (s := src) rfl h_src

end Sys2Proof.Machine
end

