-- ==== Sys2Proof/Laws/KeepEzPosts.lean ====
section
/-! SUPPORT. What each operation and each command of Machine/EzPosts.lean leaves as it was: one frame lemma for each. -/

namespace Sys2Proof.Machine

theorem State.keepEarly_kept (s : State) (p : WirePkt) : Kept 35184372088832 s (State.keepEarly s p) := by
  unfold State.keepEarly
  refine Kept.ite ?_ ?_
  · exact Kept.upd_early (s := s) rfl Kept.here
  · exact Kept.here

theorem State.noPost_kept {m : Nat} {s0 : State} {s : State} {l : Nat} {p : WirePkt} {other : State → State} (hm : 70368744177668 ||| m = m) (h : Kept m s0 s) (hother : ∀ x, Kept m s0 x → Kept m s0 (other x)) :
    Kept m s0 (State.noPost s l p other) := by
  unfold State.noPost
  refine Kept.ite ?_ ?_
  · exact Kept.step (State.incSat_kept ..) (sub_chain rfl hm) (Kept.step (State.retireKeys_kept ..) (sub_chain rfl hm) h)
  · exact hother _ h

theorem State.chkFail_kept (s : State) (p : WirePkt) : Kept 680564733841877002484689023960983763844 s (State.chkFail s p) := by
  unfold State.chkFail
  split
  · exact Kept.step (State.collFail_kept ..) rfl Kept.here
  · exact Kept.step (State.failOp_kept ..) rfl Kept.here
  · exact Kept.here

theorem execWirePacketForward_kept (i : Nat) (s : State) : KeptR 680564733841877002484689041553169808260 s (execWirePacketForward i s) := by
  unfold execWirePacketForward
  refine whenSome_kept rfl Kept.here (fun a a1 h_a1 => ?_)
  · refine Kept.ite ?_ ?_
    · exact h_a1
    · refine Kept.ite ?_ ?_
      · exact Kept.step (State.chkFail_kept ..) rfl (Kept.step (State.wireTake_kept ..) rfl h_a1)
      · extract_lets -merge -underBinder +onlyGivenNames d via
        try clear_value d via
        exact Kept.step (State.wireOut_kept ..) rfl (Kept.step (State.wireTake_kept ..) rfl h_a1)

theorem State.postInput_kept (s : State) (c : Nat) (o : Op) (o' : Op) (check : Option Upset) : Kept 680564733841877002484689059145355886532 s (State.postInput s c o o' check) := by
  unfold State.postInput
  refine Kept.ite ?_ ?_
  · exact Kept.step (State.checkFail_kept ..) rfl Kept.here
  · extract_lets -merge -underBinder +onlyGivenNames adds
    try clear_value adds
    extract_lets -merge -underBinder +onlyGivenNames s1
    have h_s1 : Kept 680564733841877002484689059145355886532 s s1 := by
      unfold s1
      exact Kept.step (State.setOp_kept ..) rfl Kept.here
    try clear_value s1
    extract_lets -merge -underBinder +onlyGivenNames s2
    have h_s2 : Kept 680564733841877002484689059145355886532 s s2 := by
      unfold s2
      refine Kept.ite ?_ ?_
      · exact Kept.step (State.add64_kept ..) rfl h_s1
      · exact h_s1
    try clear_value s2
    split
    · exact Kept.step (State.postPump_kept ..) rfl h_s2
    · split
      · rename_i v s3 hq
        have h_s3 := Kept.eq2 hq (m := 680564733841877002484689059145355886532) (s0 := s) (by
          exact Kept.step (State.draw64_kept ..) rfl h_s2
          )
        clear hq
        split
        · exact Kept.step (State.adderFail_kept ..) rfl h_s3
        · exact Kept.step (State.postPump_kept ..) rfl h_s3

theorem execGrant_kept (i : Nat) (s : State) : KeptR 680564733841877002484689076737541930948 s (execGrant i s) := by
  unfold execGrant
  refine whenSome_kept rfl Kept.here (fun a a1 h_a1 => ?_)
  · extract_lets -merge -underBinder +onlyGivenNames s1
    have h_s1 : Kept 680564733841877002484689076737541930948 s s1 := by
      unfold s1
      exact Kept.step (State.wireTake_kept ..) rfl h_a1
    try clear_value s1
    split
    · exact Kept.step (State.postPump_kept ..) rfl (Kept.step (State.takeGrant_kept ..) rfl h_s1)
    · exact Kept.step (State.rotationsDue_kept ..) rfl (Kept.step (State.keepEarly_kept ..) rfl h_s1)

theorem execChunk_kept (i : Nat) (check : Option Upset) (s : State) : KeptR 680564733841877002484689076737541930948 s (execChunk i check s) := by
  unfold execChunk
  refine whenSome_kept rfl Kept.here (fun a a1 h_a1 => ?_)
  · extract_lets -merge -underBinder +onlyGivenNames p bad
    try clear_value p bad
    extract_lets -merge -underBinder +onlyGivenNames s1
    have h_s1 : Kept 680564733841877002484689076737541930948 s s1 := by
      unfold s1
      exact Kept.step (State.wireTake_kept ..) rfl h_a1
    try clear_value s1
    refine Kept.ite ?_ ?_
    · exact Kept.step (State.chkFail_kept ..) rfl h_s1
    · split
      · refine State.noPost_kept rfl h_s1 (fun a2 h_a2 => ?_)
        · exact h_a2
      · split
        · exact h_s1
        · refine Kept.ite ?_ ?_
          · exact Kept.step (State.checkFail_kept ..) rfl h_s1
          · refine Kept.ite ?_ ?_
            · exact Kept.step (State.collFail_kept ..) rfl h_s1
            · refine Kept.ite ?_ ?_
              · exact Kept.step (State.postInput_kept ..) rfl h_s1
              · extract_lets -merge -underBinder +onlyGivenNames b
                try clear_value b
                exact Kept.step (State.postInput_kept ..) rfl h_s1

theorem execCount_kept (i : Nat) (s : State) : KeptR 680564733841877002484689076737541930948 s (execCount i s) := by
  unfold execCount
  refine whenSome_kept rfl Kept.here (fun a a1 h_a1 => ?_)
  · extract_lets -merge -underBinder +onlyGivenNames s1
    have h_s1 : Kept 680564733841877002484689076737541930948 s s1 := by
      unfold s1
      exact Kept.step (State.wireTake_kept ..) rfl h_a1
    try clear_value s1
    split
    · refine State.noPost_kept rfl h_s1 (fun a2 h_a2 => ?_)
      · exact Kept.step (State.keepEarly_kept ..) rfl h_a2
    · split
      · exact h_s1
      · exact Kept.step (State.postPump_kept ..) rfl (Kept.step (State.takeCount_kept ..) rfl h_s1)

theorem State.barrierAbort_kept (s : State) (c : Nat) (p : WirePkt) : Kept 3458239005540356 s (State.barrierAbort s c p) := by
  unfold State.barrierAbort
  extract_lets -merge -underBinder +onlyGivenNames g r
  try clear_value g r
  refine Kept.ite ?_ ?_
  · exact Kept.here
  · refine Kept.ite ?_ ?_
    · refine Kept.ite ?_ ?_
      · exact Kept.here
      · extract_lets -merge -underBinder +onlyGivenNames s1
        have h_s1 : Kept 3458239005540356 s s1 := by
          unfold s1
          exact Kept.step (State.setRcv_kept ..) rfl Kept.here
        try clear_value s1
        refine Kept.step (State.holdGoOn_kept ..) rfl ?_
        refine Kept.ite ?_ ?_
        · exact Kept.step (State.sendAbort_kept ..) rfl h_s1
        · exact h_s1
    · refine Kept.ite ?_ ?_
      · exact Kept.step (State.holdGoOn_kept ..) rfl Kept.here
      · exact Kept.here

theorem State.markLost_kept (s : State) (c : Nat) (o : Op) (code : Nat) (rank : Nat) : Kept 274877906944 s (State.markLost s c o code rank) := by
  unfold State.markLost
  refine Kept.ite ?_ ?_
  · extract_lets -merge -underBinder +onlyGivenNames q
    try clear_value q
    exact Kept.step (State.setSeqr_kept ..) rfl Kept.here
  · exact Kept.here

theorem execAbort_kept (i : Nat) (s : State) : KeptR 680564733841877002484689041553169808260 s (execAbort i s) := by
  unfold execAbort
  refine whenSome_kept rfl Kept.here (fun a a1 h_a1 => ?_)
  · extract_lets -merge -underBinder +onlyGivenNames p
    try clear_value p
    extract_lets -merge -underBinder +onlyGivenNames s1
    have h_s1 : Kept 680564733841877002484689041553169808260 s s1 := by
      unfold s1
      exact Kept.step (State.wireTake_kept ..) rfl h_a1
    try clear_value s1
    extract_lets -merge -underBinder +onlyGivenNames code
    try clear_value code
    split
    · exact h_s1
    · extract_lets -merge -underBinder +onlyGivenNames s2
      have h_s2 : Kept 680564733841877002484689041553169808260 s s2 := by
        unfold s2
        exact Kept.step (State.barrierAbort_kept ..) rfl h_s1
      try clear_value s2
      extract_lets -merge -underBinder +onlyGivenNames s3
      have h_s3 : Kept 680564733841877002484689041553169808260 s s3 := by
        unfold s3
        split
        · exact Kept.step (State.collFail_kept ..) rfl h_s2
        · extract_lets -merge -underBinder +onlyGivenNames s4
          have h_s4 : Kept 680564733841877002484689041553169808260 s s4 := by
            unfold s4
            refine Kept.ite ?_ ?_
            · exact Kept.step (State.markLost_kept ..) rfl (Kept.step (State.countLost_kept ..) rfl h_s2)
            · exact h_s2
          try clear_value s4
          exact Kept.step (State.contextFail_kept ..) rfl (Kept.step (State.poisonOut_kept ..) rfl h_s4)
        · exact Kept.step (State.contextFail_kept ..) rfl h_s2
      try clear_value s3
      exact Kept.step (State.barrierAbort_kept ..) rfl h_s3

theorem State.digestCame_kept (s : State) (p : WirePkt) : Kept 274877906944 s (State.digestCame s p) := by
  unfold State.digestCame
  split
  · exact Kept.here
  · extract_lets -merge -underBinder +onlyGivenNames q note
    try clear_value q note
    exact Kept.step (State.setSeqr_kept ..) rfl Kept.here

theorem execDigest_kept (i : Nat) (s : State) : KeptR 680564733841877002484689076737541930948 s (execDigest i s) := by
  unfold execDigest
  refine whenSome_kept rfl Kept.here (fun a a1 h_a1 => ?_)
  · extract_lets -merge -underBinder +onlyGivenNames p
    try clear_value p
    extract_lets -merge -underBinder +onlyGivenNames s1
    have h_s1 : Kept 680564733841877002484689076737541930948 s s1 := by
      unfold s1
      exact Kept.step (State.wireTake_kept ..) rfl h_a1
    try clear_value s1
    refine Kept.ite ?_ ?_
    · exact Kept.step (State.incSat_kept ..) rfl h_s1
    · split
      · exact Kept.step (State.postPump_kept ..) rfl (Kept.step (State.takeDigest_kept ..) rfl h_s1)
      · refine State.noPost_kept rfl (Kept.step (State.digestCame_kept ..) rfl h_s1) (fun a2 h_a2 => ?_)
        · refine Kept.ite ?_ ?_
          · exact Kept.step (State.keepEarly_kept ..) rfl h_a2
          · exact Kept.step (State.incSat_kept ..) rfl h_a2

theorem State.memberLost_kept (s : State) (c : Nat) (j : Nat) (rank : Nat) : Kept 3735556 s (State.memberLost s c j rank) := by
  unfold State.memberLost
  exact Kept.step (State.cairnLog_kept ..) rfl Kept.here

theorem State.barrierLost_kept (s : State) (c : Nat) : Kept 75557939809097044681220 s (State.barrierLost s c) := by
  unfold State.barrierLost
  extract_lets -merge -underBinder +onlyGivenNames g r
  try clear_value g r
  refine Kept.ite ?_ ?_
  · extract_lets -merge -underBinder +onlyGivenNames m1
    try clear_value m1
    extract_lets -merge -underBinder +onlyGivenNames s1
    have h_s1 : Kept 75557939809097044681220 s s1 := by
      unfold s1
      exact Kept.step (State.setRcv_kept ..) rfl (Kept.step (State.memberLost_kept ..) rfl Kept.here)
    try clear_value s1
    refine Kept.ite ?_ ?_
    · exact Kept.step (State.holdGoOn_kept ..) rfl h_s1
    · exact Kept.step (State.failOp_kept ..) rfl h_s1
  · extract_lets -merge -underBinder +onlyGivenNames s2
    have h_s2 : Kept 75557939809097044681220 s s2 := by
      unfold s2
      exact Kept.step (State.setRcv_kept ..) rfl (Kept.step (State.memberLost_kept ..) rfl Kept.here)
    try clear_value s2
    exact Kept.step (State.holdGoOn_kept ..) rfl (Kept.step (State.failOp_kept ..) rfl h_s2)

theorem execCollMemberLost_kept (ctx : Nat) (opn : Nat) (now : Nat) (s : State) : KeptR 680564733841877002484689023960983763846 s (execCollMemberLost ctx opn now s) := by
  unfold execCollMemberLost
  refine unitRow_kept ?_ ?_
  · exact Kept.here
  · extract_lets -merge -underBinder +onlyGivenNames t r g
    try clear_value t r g
    refine KeptR.ite ?_ ?_
    · refine KeptR.next ?_
      exact Kept.step (State.barrierLost_kept ..) rfl (Kept.step (State.atTime_kept ..) rfl Kept.here)
    · split
      · refine KeptR.next ?_
        exact Kept.here
      · extract_lets -merge -underBinder +onlyGivenNames j
        try clear_value j
        refine whenB_kept rfl Kept.here (fun a h_a => ?_)
        · extract_lets -merge -underBinder +onlyGivenNames rank
          try clear_value rank
          extract_lets -merge -underBinder +onlyGivenNames s1
          have h_s1 : Kept 680564733841877002484689023960983763846 s s1 := by
            unfold s1
            exact Kept.step (State.memberLost_kept ..) rfl (Kept.step (State.atTime_kept ..) rfl h_a)
          try clear_value s1
          extract_lets -merge -underBinder +onlyGivenNames o
          try clear_value o
          exact Kept.step (State.collFail_kept ..) rfl (Kept.step (State.setOp_kept ..) rfl h_s1)

theorem State.pumpAll_kept (s : State) : Kept 680564733841877002484689059145355886532 s (State.pumpAll s) := by
  unfold State.pumpAll
  refine Kept.foldl _ (fun x h_x a => ?_) ?_
  · refine Kept.foldl _ (fun x1 h_x1 a1 => ?_) ?_
    · exact Kept.step (State.postPump_kept ..) rfl h_x1
    · exact h_x
  · exact Kept.here

theorem execTwinDigestTimeout_kept (ctx : Nat) (opn : Nat) (chunk : Nat) (now : Nat) (s : State) : KeptR 680564733841877002484689059145355886534 s (execTwinDigestTimeout ctx opn chunk now s) := by
  unfold execTwinDigestTimeout
  extract_lets -merge -underBinder +onlyGivenNames t
  try clear_value t
  refine unitRow_kept ?_ ?_
  · exact Kept.here
  · split
    · refine KeptR.next ?_
      exact Kept.here
    · refine whenB_kept rfl Kept.here (fun a h_a => ?_)
      · extract_lets -merge -underBinder +onlyGivenNames s1
        have h_s1 : Kept 680564733841877002484689059145355886534 s s1 := by
          unfold s1
          exact Kept.step (State.setB_kept ..) rfl (Kept.step (State.atTime_kept ..) rfl h_a)
        try clear_value s1
        exact Kept.step (State.pumpAll_kept ..) rfl (Kept.step (State.cairnLog_kept ..) rfl h_s1)

end Sys2Proof.Machine
end

