-- ==== Sys2Proof/Laws/KeepEzStreams.lean ====
section
/-! SUPPORT. What each operation and each command of Machine/EzStreams.lean leaves as it was: one frame lemma for each. -/

namespace Sys2Proof.Machine

theorem State.setEz_kept (s : State) (e : EzStream) : Kept 4398046511104 s (State.setEz s e) := by
  unfold State.setEz
  exact Kept.upd_ezs (s := s) rfl Kept.here

theorem State.ezCredit_kept (s : State) (p : Packet) (e : EzStream) : Kept 3390893916684292 s (State.ezCredit s p e) := by
  unfold State.ezCredit
  split
  · exact Kept.here
  · extract_lets -merge -underBinder +onlyGivenNames limit
    try clear_value limit
    refine Kept.ite ?_ ?_
    · exact Kept.here
    · exact Kept.step (State.wireTo_kept ..) rfl (Kept.step (State.setEz_kept ..) rfl Kept.here)

theorem State.ezConfirm_kept (s : State) (e : EzStream) (code : Nat) : Kept 54083588 s (State.ezConfirm s e code) := by
  unfold State.ezConfirm
  exact Kept.step (State.inject_kept ..) rfl Kept.here

theorem State.ezDrain_kept (s : State) (e : EzStream) (l : List Packet) : Kept 3390893918339076 s (State.ezDrain s e l) := by
  induction l generalizing s e with
  | nil => exact Kept.step (State.setEz_kept ..) rfl Kept.here
  | cons p t ih =>
    unfold State.ezDrain
    split
    · exact Kept.step (State.setEz_kept ..) rfl Kept.here
    · refine Kept.ite ?_ ?_
      · exact Kept.step (State.setEz_kept ..) rfl Kept.here
      · extract_lets -merge -underBinder +onlyGivenNames n src s1
        have h1 : Kept 3390893918339076 s s1 := by
          unfold s1
          exact Kept.step (State.wireTo_kept ..) rfl Kept.here
        clear_value s1
        exact Kept.step (ih _ _) rfl (Kept.step (State.inject_kept ..) rfl h1)

theorem execEzOpen_kept (i : Nat) (s : State) : KeptR 39582472683524 s (execEzOpen i s) := by
  unfold execEzOpen
  refine State.packetRow_kept rfl Kept.here (fun a a1 h_a1 => ?_)
  · extract_lets -merge -underBinder +onlyGivenNames e code
    try clear_value e code
    refine Kept.ite ?_ ?_
    · exact Kept.step (State.inject_kept ..) rfl h_a1
    · extract_lets -merge -underBinder +onlyGivenNames e1
      try clear_value e1
      extract_lets -merge -underBinder +onlyGivenNames s1
      have h_s1 : Kept 39582472683524 s s1 := by
        unfold s1
        exact Kept.upd_ezs_early (s := a1) rfl h_a1
      try clear_value s1
      exact Kept.step (State.inject_kept ..) rfl h_s1

theorem execEzClose_kept (i : Nat) (s : State) : KeptR 74766844772356 s (execEzClose i s) := by
  unfold execEzClose
  refine State.packetRow_kept rfl Kept.here (fun a a1 h_a1 => ?_)
  · split
    · exact Kept.step (State.inject_kept ..) rfl h_a1
    · extract_lets -merge -underBinder +onlyGivenNames s1
      have h_s1 : Kept 74766844772356 s s1 := by
        unfold s1
        refine Kept.foldl _ (fun x h_x a2 => ?_) ?_
        · exact Kept.step (State.inject_kept ..) rfl h_x
        · exact Kept.step (State.retireP2p_kept ..) rfl h_a1
      try clear_value s1
      extract_lets -merge -underBinder +onlyGivenNames src
      have h_src : Kept 74766844772356 s src := by
        unfold src
        exact Kept.step (State.inject_kept ..) rfl h_s1
      try clear_value src
      exact Kept.upd_ezs (s := src) rfl h_src

theorem State.ezInTakeUp_kept (s : State) (e : EzStream) : Kept 4398100594692 s (State.ezInTakeUp s e) := by
  unfold State.ezInTakeUp
  extract_lets -merge -underBinder +onlyGivenNames e'
  try clear_value e'
  refine Kept.ite ?_ ?_
  · exact Kept.step (State.setEz_kept ..) rfl Kept.here
  · extract_lets -merge -underBinder +onlyGivenNames code
    try clear_value code
    refine Kept.ite ?_ ?_
    · exact Kept.step (State.setEz_kept ..) rfl Kept.here
    · exact Kept.step (State.ezConfirm_kept ..) rfl (Kept.step (State.setEz_kept ..) rfl Kept.here)

theorem execEzRearm_kept (i : Nat) (s : State) : KeptR 4398100594692 s (execEzRearm i s) := by
  unfold execEzRearm
  refine State.packetRow_kept rfl Kept.here (fun a a1 h_a1 => ?_)
  · split
    · exact h_a1
    · extract_lets -merge -underBinder +onlyGivenNames e
      try clear_value e
      refine Kept.ite ?_ ?_
      · exact Kept.step (State.ezInTakeUp_kept ..) rfl h_a1
      · exact Kept.step (State.setEz_kept ..) rfl h_a1

theorem execEzSend_kept (i : Nat) (s : State) : KeptR 3390893918339076 s (execEzSend i s) := by
  unfold execEzSend
  refine State.packetRow_kept rfl Kept.here (fun a a1 h_a1 => ?_)
  · split
    · exact Kept.step (State.inject_kept ..) rfl h_a1
    · extract_lets -merge -underBinder +onlyGivenNames e refused e1
      try clear_value e refused e1
      refine Kept.ite ?_ ?_
      · exact Kept.step (State.inject_kept ..) rfl (Kept.step (State.ezConfirm_kept ..) rfl (Kept.step (State.setEz_kept ..) rfl h_a1))
      · refine Kept.ite ?_ ?_
        · exact Kept.step (State.inject_kept ..) rfl h_a1
        · exact Kept.step (State.ezDrain_kept ..) rfl (Kept.step (State.setEz_kept ..) rfl h_a1)

theorem execEzContrib_kept (i : Nat) (check : Option Upset) (s : State) : KeptR 680564733841877002484689059145355886532 s (execEzContrib i check s) := by
  unfold execEzContrib
  refine State.packetRow_kept rfl Kept.here (fun a a1 h_a1 => ?_)
  · split
    · exact Kept.step (State.inject_kept ..) rfl h_a1
    · extract_lets -merge -underBinder +onlyGivenNames e refused rises
      try clear_value e refused rises
      extract_lets -merge -underBinder +onlyGivenNames s1
      have h_s1 : Kept 680564733841877002484689059145355886532 s s1 := by
        unfold s1
        exact Kept.step (State.setEz_kept ..) rfl h_a1
      try clear_value s1
      refine Kept.ite ?_ ?_
      · exact Kept.step (State.inject_kept ..) rfl (Kept.step (State.ezConfirm_kept ..) rfl h_s1)
      · split
        · exact Kept.step (State.inject_kept ..) rfl h_s1
        · extract_lets -merge -underBinder +onlyGivenNames rch src
          try clear_value rch src
          refine Kept.ite ?_ ?_
          · exact Kept.step (State.inject_kept ..) rfl h_s1
          · refine Kept.ite ?_ ?_
            · exact Kept.step (State.checkFail_kept ..) rfl (Kept.step (State.inject_kept ..) rfl h_s1)
            · refine Kept.ite ?_ ?_
              · exact Kept.step (State.failOp_kept ..) rfl (Kept.step (State.inject_kept ..) rfl h_s1)
              · extract_lets -merge -underBinder +onlyGivenNames o'
                try clear_value o'
                exact Kept.step (State.postInput_kept ..) rfl h_s1

theorem execP2p_kept (i : Nat) (s : State) : KeptR 680564733841877002484689041553169808260 s (execP2p i s) := by
  unfold execP2p
  refine whenSome_kept rfl Kept.here (fun a a1 h_a1 => ?_)
  · extract_lets -merge -underBinder +onlyGivenNames p bad
    try clear_value p bad
    extract_lets -merge -underBinder +onlyGivenNames s1
    have h_s1 : Kept 680564733841877002484689041553169808260 s s1 := by
      unfold s1
      exact Kept.step (State.wireTake_kept ..) rfl h_a1
    try clear_value s1
    refine Kept.ite ?_ ?_
    · exact Kept.step (State.chkFail_kept ..) rfl h_s1
    · split
      · exact h_s1
      · split
        · exact h_s1
        · refine Kept.ite ?_ ?_
          · exact Kept.step (State.ezConfirm_kept ..) rfl h_s1
          · extract_lets -merge -underBinder +onlyGivenNames src s2
            try clear_value src
            have h_s2 : Kept 680564733841877002484689041553169808260 s s2 := by
              unfold s2
              exact Kept.step (State.inject_kept ..) rfl h_s1
            try clear_value s2
            exact Kept.step (State.ezInTakeUp_kept ..) rfl h_s2

theorem execP2pGrant_kept (i : Nat) (s : State) : KeptR 3443670476472324 s (execP2pGrant i s) := by
  unfold execP2pGrant
  refine whenSome_kept rfl Kept.here (fun a a1 h_a1 => ?_)
  · extract_lets -merge -underBinder +onlyGivenNames p
    try clear_value p
    extract_lets -merge -underBinder +onlyGivenNames s1
    have h_s1 : Kept 3443670476472324 s s1 := by
      unfold s1
      exact Kept.step (State.wireTake_kept ..) rfl h_a1
    try clear_value s1
    split
    · extract_lets -merge -underBinder +onlyGivenNames e
      try clear_value e
      exact Kept.step (State.ezDrain_kept ..) rfl (Kept.step (State.setEz_kept ..) rfl h_s1)
    · extract_lets -merge -underBinder +onlyGivenNames other
      try clear_value other
      exact Kept.upd_early (s := s1) rfl h_s1

end Sys2Proof.Machine
end

