-- ==== Sys2Proof/Laws/KeepJobs.lean ====
section
/-! SUPPORT. What each operation and each command of Machine/Jobs.lean leaves as it was: one frame lemma for each. -/

namespace Sys2Proof.Machine

theorem State.gtStatus_kept (s : State) (g : Nat) (reason : Nat) : Kept 4 s (State.gtStatus s g reason) := by
  unfold State.gtStatus
  exact Kept.step (State.setRegN_kept ..) rfl Kept.here

theorem State.groupWord0_kept (s : State) (g : Nat) (v : W32) : Kept 9289223987265540 s (State.groupWord0 s g v) := by
  unfold State.groupWord0
  extract_lets -merge -underBinder +onlyGivenNames v1
  try clear_value v1
  refine Kept.ite ?_ ?_
  · refine Kept.ite ?_ ?_
    · exact Kept.step (State.gtStatus_kept ..) rfl Kept.here
    · refine Kept.ite ?_ ?_
      · exact Kept.step (State.gtStatus_kept ..) rfl Kept.here
      · extract_lets -merge -underBinder +onlyGivenNames src
        have h_src : Kept 9289223987265540 s src := by
          unfold src
          exact Kept.step (State.setReg_kept ..) rfl Kept.here
        try clear_value src
        exact Kept.upd_groupInvalid_shapes (s := src) rfl h_src
  · refine Kept.ite ?_ ?_
    · extract_lets -merge -underBinder +onlyGivenNames why
      try clear_value why
      extract_lets -merge -underBinder +onlyGivenNames s'
      have h_s' : Kept 9289223987265540 s s' := by
        unfold s'
        exact Kept.step (State.setReg_kept ..) rfl Kept.here
      try clear_value s'
      refine Kept.ite ?_ ?_
      · exact Kept.step (State.gtStatus_kept ..) rfl (Kept.step (State.setB_kept ..) rfl h_s')
      · extract_lets -merge -underBinder +onlyGivenNames shapes
        try clear_value shapes
        exact Kept.upd_postSeq_shapes (s := s') rfl h_s'
    · exact Kept.step (State.setReg_kept ..) rfl Kept.here

theorem State.groupWord1_kept (s : State) (g : Nat) (v : W32) : Kept 4 s (State.groupWord1 s g v) := by
  unfold State.groupWord1
  refine Kept.ite ?_ ?_
  · exact Kept.step (State.gtStatus_kept ..) rfl Kept.here
  · exact Kept.step (State.setReg_kept ..) rfl Kept.here

theorem State.memberWrite_kept (s : State) (m1 : Nat) (v : Nat) : Kept 4 s (State.memberWrite s m1 v) := by
  unfold State.memberWrite
  split
  · exact Kept.step (State.gtStatus_kept ..) rfl Kept.here
  · exact Kept.step (State.setF_kept ..) rfl Kept.here

theorem State.bcastAnswer_kept (s : State) (j : Nat) (b : Bcast) : Kept 3386495870173188 s (State.bcastAnswer s j b) := by
  unfold State.bcastAnswer
  split
  · exact Kept.here
  · exact Kept.step (State.wireTo_kept ..) rfl Kept.here

theorem State.setJobState_kept (s : State) (j : Nat) (v : Nat) : Kept 4 s (State.setJobState s j v) := by
  unfold State.setJobState
  exact Kept.step (State.setF_kept ..) rfl Kept.here

theorem State.bcastDown_kept (s : State) (j : Nat) (b : Bcast) (sub : Nat) (tStart : Nat) : Kept 3386495870173188 s (State.bcastDown s j b sub tStart) := by
  unfold State.bcastDown
  refine Kept.foldl _ (fun x h_x a => ?_) ?_
  · exact Kept.step (State.wireTo_kept ..) rfl h_x
  · exact Kept.here

theorem State.bcastBegin_kept (s : State) (j : Nat) (b : Bcast) : Kept 3527233358659588 s (State.bcastBegin s j b) := by
  unfold State.bcastBegin
  extract_lets -merge -underBinder +onlyGivenNames l self good b1 b2
  try clear_value l self good b1 b2
  extract_lets -merge -underBinder +onlyGivenNames s1
  have h_s1 : Kept 3527233358659588 s s1 := by
    unfold s1
    exact Kept.step (State.setJobState_kept ..) rfl Kept.here
  try clear_value s1
  extract_lets -merge -underBinder +onlyGivenNames s2
  have h_s2 : Kept 3527233358659588 s s2 := by
    unfold s2
    exact Kept.upd_bcasts (s := s1) rfl h_s1
  try clear_value s2
  exact Kept.step (State.bcastDown_kept ..) rfl (Kept.step (State.modLong_kept ..) rfl h_s2)

theorem State.bcastDrop_kept (s : State) (j : Nat) (b : Bcast) : Kept 3527233358528516 s (State.bcastDrop s j b) := by
  unfold State.bcastDrop
  extract_lets -merge -underBinder +onlyGivenNames s1
  have h_s1 : Kept 3527233358528516 s s1 := by
    unfold s1
    exact Kept.step (State.bcastDown_kept ..) rfl Kept.here
  extract_lets -merge -underBinder +onlyGivenNames s2
  have h_s2 : Kept 3527233358528516 s s2 := by
    unfold s2
    exact Kept.upd_bcasts (s := s1) rfl h_s1
  refine Kept.ite ?_ ?_
  · exact Kept.step (State.setJobState_kept ..) rfl h_s2
  · exact h_s2

theorem State.bcastFinish_kept (s : State) (j : Nat) (b : Bcast) : Kept 3527233359184388 s (State.bcastFinish s j b) := by
  unfold State.bcastFinish
  extract_lets -merge -underBinder +onlyGivenNames c
  try clear_value c
  split
  · exact Kept.step (State.endLong_kept ..) rfl (Kept.step (State.bcastDrop_kept ..) rfl Kept.here)
  · refine Kept.ite ?_ ?_
    · exact Kept.step (State.endLong_kept ..) rfl (Kept.step (State.bcastDrop_kept ..) rfl Kept.here)
    · extract_lets -merge -underBinder +onlyGivenNames t b1
      try clear_value t b1
      extract_lets -merge -underBinder +onlyGivenNames src s1
      have h_src : Kept 3527233359184388 s src := by
        unfold src
        exact Kept.step (State.setReg64_kept ..) rfl Kept.here
      try clear_value src
      have h_s1 : Kept 3527233359184388 s s1 := by
        unfold s1
        exact Kept.upd_bcasts (s := src) rfl h_src
      try clear_value s1
      exact Kept.step (State.bcastDown_kept ..) rfl (Kept.step (State.modLong_kept ..) rfl h_s1)

theorem State.bcastEnd_kept (s : State) (j : Nat) (b : Bcast) : Kept 3527233359184388 s (State.bcastEnd s j b) := by
  unfold State.bcastEnd
  extract_lets -merge -underBinder +onlyGivenNames b1 b2
  try clear_value b1 b2
  extract_lets -merge -underBinder +onlyGivenNames s1
  have h_s1 : Kept 3527233359184388 s s1 := by
    unfold s1
    exact Kept.upd_bcasts (s := s) rfl Kept.here
  try clear_value s1
  refine Kept.ite ?_ ?_
  · exact Kept.step (State.bcastAnswer_kept ..) rfl h_s1
  · refine Kept.ite ?_ ?_
    · extract_lets -merge -underBinder +onlyGivenNames s2
      have h_s2 : Kept 3527233359184388 s s2 := by
        unfold s2
        exact Kept.step (State.bcastBegin_kept ..) rfl h_s1
      try clear_value s2
      split
      · refine Kept.ite ?_ ?_
        · exact Kept.step (State.bcastFinish_kept ..) rfl h_s2
        · exact h_s2
      · exact h_s2
    · exact Kept.step (State.bcastFinish_kept ..) rfl h_s1

theorem State.bcastNext_kept (s : State) (j : Nat) : Kept 3527233359184388 s (State.bcastNext s j) := by
  unfold State.bcastNext
  split
  · exact Kept.here
  · refine Kept.ite ?_ ?_
    · exact Kept.step (State.bcastEnd_kept ..) rfl Kept.here
    · exact Kept.here

theorem State.bcastRoot_kept (s : State) (j : Nat) (handle : Nat) (excl : List Byte) : Kept 3527233359184388 s (State.bcastRoot s j handle excl) := by
  unfold State.bcastRoot
  extract_lets -merge -underBinder +onlyGivenNames seq d
  try clear_value seq d
  exact Kept.step (State.bcastNext_kept ..) rfl (Kept.step (State.bcastBegin_kept ..) rfl Kept.here)

theorem State.bcastCancel_kept (s : State) (j : Nat) : Kept 3527233358528516 s (State.bcastCancel s j) := by
  unfold State.bcastCancel
  split
  · exact Kept.here
  · exact Kept.step (State.bcastDrop_kept ..) rfl Kept.here

theorem State.stageWrite_kept (s : State) (c : Nat) (v : W32) : Kept 4 s (State.stageWrite s c v) := by
  unfold State.stageWrite
  refine Kept.ite ?_ ?_
  · exact Kept.step (State.ignored_kept ..) rfl Kept.here
  · exact Kept.step (State.setReg_kept ..) rfl Kept.here

theorem State.jobCtl_kept (s : State) (j : Nat) (v : W32) : Kept 140737488355332 s (State.jobCtl s j v) := by
  unfold State.jobCtl
  extract_lets -merge -underBinder +onlyGivenNames c cur
  try clear_value c cur
  refine Kept.ite ?_ ?_
  · refine Kept.ite ?_ ?_
    · refine Kept.ite ?_ ?_
      · exact Kept.here
      · exact Kept.step (State.ignored_kept ..) rfl Kept.here
    · refine Kept.ite ?_ ?_
      · exact Kept.step (State.ignored_kept ..) rfl Kept.here
      · extract_lets -merge -underBinder +onlyGivenNames src
        have h_src : Kept 140737488355332 s src := by
          unfold src
          exact Kept.step (State.setJobState_kept ..) rfl (Kept.step (State.setB_kept ..) rfl Kept.here)
        try clear_value src
        exact Kept.upd_bcasts (s := src) rfl h_src
  · refine Kept.ite ?_ ?_
    · exact Kept.step (State.ignored_kept ..) rfl Kept.here
    · exact Kept.step (State.setB_kept ..) rfl (Kept.step (State.setF_kept ..) rfl Kept.here)

theorem execJobCtlWrite_kept (job : Nat) (value : W32) (s : State) : KeptR 140737488355332 s (execJobCtlWrite job value s) := by
  unfold execJobCtlWrite
  refine onUnit_kept rfl Kept.here (fun a h_a => ?_)
  · exact Kept.step (State.jobCtl_kept ..) rfl h_a

theorem execGroupEntryValidate_kept (g : Nat) (word0 : W32) (s : State) : KeptR 9289223987265540 s (execGroupEntryValidate g word0 s) := by
  unfold execGroupEntryValidate
  refine onUnit_kept rfl Kept.here (fun a h_a => ?_)
  · exact Kept.step (State.groupWord0_kept ..) rfl h_a

theorem execStageWrite_kept (ctx : Nat) (value : W32) (s : State) : KeptR 4 s (execStageWrite ctx value s) := by
  unfold execStageWrite
  refine onUnit_kept rfl Kept.here (fun a h_a => ?_)
  · exact Kept.step (State.stageWrite_kept ..) rfl h_a

theorem execConfluenceRetestDone_kept (t : Nat) (okMask : Nat) (s : State) : KeptR 562949953421316 s (execConfluenceRetestDone t okMask s) := by
  unfold execConfluenceRetestDone
  refine onUnit_kept rfl Kept.here (fun a h_a => ?_)
  · extract_lets -merge -underBinder +onlyGivenNames s1
    have h_s1 : Kept 562949953421316 s s1 := by
      unfold s1
      exact Kept.step (State.setF_kept ..) rfl h_a
    try clear_value s1
    extract_lets -merge -underBinder +onlyGivenNames s2
    have h_s2 : Kept 562949953421316 s s2 := by
      unfold s2
      exact Kept.upd_adderFails (s := s1) rfl h_s1
    try clear_value s2
    refine Kept.step (State.cfSync_kept ..) rfl ?_
    refine Kept.ite ?_ ?_
    · refine State.pageFault_kept rfl h_s2 (fun a1 h_a1 => ?_)
      · exact h_a1
    · refine State.startDone_kept rfl h_s2 (fun a2 h_a2 => ?_)
      · exact h_a2

theorem execBcastStart_kept (i : Nat) (s : State) : KeptR 3544825545228804 s (execBcastStart i s) := by
  unfold execBcastStart
  refine whenSome_kept rfl Kept.here (fun a a1 h_a1 => ?_)
  · extract_lets -merge -underBinder +onlyGivenNames p
    try clear_value p
    extract_lets -merge -underBinder +onlyGivenNames s1
    have h_s1 : Kept 3544825545228804 s s1 := by
      unfold s1
      exact Kept.step (State.wireTake_kept ..) rfl h_a1
    try clear_value s1
    split
    · exact h_s1
    · extract_lets -merge -underBinder +onlyGivenNames seen
      try clear_value seen
      split
      · refine Kept.ite ?_ ?_
        · refine Kept.ite ?_ ?_
          · exact Kept.step (State.bcastAnswer_kept ..) rfl h_s1
          · exact h_s1
        · exact Kept.step (State.bcastNext_kept ..) rfl (Kept.step (State.bcastBegin_kept ..) rfl h_s1)
      · exact Kept.step (State.bcastNext_kept ..) rfl (Kept.step (State.bcastBegin_kept ..) rfl h_s1)

theorem execBcastOpen_kept (i : Nat) (s : State) : KeptR 3544825544572932 s (execBcastOpen i s) := by
  unfold execBcastOpen
  refine whenSome_kept rfl Kept.here (fun a a1 h_a1 => ?_)
  · extract_lets -merge -underBinder +onlyGivenNames s1
    have h_s1 : Kept 3544825544572932 s s1 := by
      unfold s1
      exact Kept.step (State.wireTake_kept ..) rfl h_a1
    try clear_value s1
    split
    · exact h_s1
    · refine Kept.ite ?_ ?_
      · exact h_s1
      · extract_lets -merge -underBinder +onlyGivenNames b
        try clear_value b
        refine Kept.step (State.bcastDown_kept ..) rfl ?_
        extract_lets -merge -underBinder +onlyGivenNames src
        have h_src : Kept 3544825544572932 s src := by
          unfold src
          exact Kept.step (State.setReg64_kept ..) rfl h_s1
        try clear_value src
        exact Kept.upd_bcasts (s := src) rfl h_src

theorem execBcastAbort_kept (i : Nat) (s : State) : KeptR 3544825544572932 s (execBcastAbort i s) := by
  unfold execBcastAbort
  refine whenSome_kept rfl Kept.here (fun a a1 h_a1 => ?_)
  · extract_lets -merge -underBinder +onlyGivenNames s1
    have h_s1 : Kept 3544825544572932 s s1 := by
      unfold s1
      exact Kept.step (State.wireTake_kept ..) rfl h_a1
    try clear_value s1
    split
    · exact h_s1
    · refine Kept.ite ?_ ?_
      · exact h_s1
      · exact Kept.step (State.bcastDrop_kept ..) rfl h_s1

theorem execBcastAck_kept (i : Nat) (s : State) : KeptR 3544825545228804 s (execBcastAck i s) := by
  unfold execBcastAck
  refine whenSome_kept rfl Kept.here (fun a a1 h_a1 => ?_)
  · extract_lets -merge -underBinder +onlyGivenNames p
    try clear_value p
    extract_lets -merge -underBinder +onlyGivenNames s1
    have h_s1 : Kept 3544825545228804 s s1 := by
      unfold s1
      exact Kept.step (State.wireTake_kept ..) rfl h_a1
    try clear_value s1
    split
    · exact h_s1
    · refine Kept.ite ?_ ?_
      · exact h_s1
      · extract_lets -merge -underBinder +onlyGivenNames b st b1
        try clear_value b st b1
        extract_lets -merge -underBinder +onlyGivenNames s2
        have h_s2 : Kept 3544825545228804 s s2 := by
          unfold s2
          exact Kept.upd_bcasts (s := s1) rfl h_s1
        try clear_value s2
        exact Kept.step (State.bcastNext_kept ..) rfl (Kept.step (State.modLong_kept ..) rfl h_s2)

theorem execBcastTimeout_kept (job : Nat) (now : Nat) (s : State) : KeptR 3527233359184390 s (execBcastTimeout job now s) := by
  unfold execBcastTimeout
  refine unitRow_kept ?_ ?_
  · exact Kept.here
  · split
    · refine KeptR.next ?_
      exact Kept.here
    · refine whenB_kept rfl Kept.here (fun a h_a => ?_)
      · exact Kept.step (State.bcastEnd_kept ..) rfl (Kept.step (State.atTime_kept ..) rfl h_a)

theorem execJobTStart_kept (job : Nat) (now : Nat) (s : State) : KeptR 2753030 s (execJobTStart job now s) := by
  unfold execJobTStart
  refine unitRow_kept ?_ ?_
  · exact Kept.here
  · split
    · refine KeptR.next ?_
      exact Kept.here
    · extract_lets -merge -underBinder +onlyGivenNames t
      have h_t : Kept 2753030 s t := by
        unfold t
        exact Kept.step (State.utcApply_kept ..) rfl (Kept.step (State.atTime_kept ..) rfl Kept.here)
      try clear_value t
      refine whenB_kept rfl Kept.here (fun a h_a => ?_)
      · extract_lets -merge -underBinder +onlyGivenNames s1
        have h_s1 : Kept 2753030 s s1 := by
          unfold s1
          exact Kept.step (State.setJobState_kept ..) rfl h_t
        try clear_value s1
        exact Kept.step (State.endLong_kept ..) rfl h_s1

end Sys2Proof.Machine
end

