-- ==== Sys2Proof/Laws/KeepRecovery.lean ====
section
/-! SUPPORT. What each operation and each command of Machine/Recovery.lean leaves as it was: one frame lemma for each. -/

namespace Sys2Proof.Machine

theorem State.readImages_kept (s : State) (c : Nat) (l : List ImgEntry) : Kept 410583044 s (State.readImages s c l).2 := by
  induction l generalizing s with
  | nil => exact Kept.here
  | cons e t ih =>
    unfold State.readImages
    split
    · next b s1 hq => exact Kept.eq2 hq (Kept.step (State.vaRead_kept ..) rfl Kept.here)
    · next b s1 hq =>
      have h1 : Kept 410583044 s s1 := Kept.eq2 hq (Kept.step (State.vaRead_kept ..) rfl Kept.here)
      split
      · next b2 s2 hr => exact Kept.eq2 hr (Kept.step (State.vaRead_kept ..) rfl h1)
      · next b2 s2 hr =>
        have h2 : Kept 410583044 s s2 := Kept.eq2 hr (Kept.step (State.vaRead_kept ..) rfl h1)
        refine Kept.ite2 ?_ h2
        split
        · next l s3 ht => exact Kept.eq2 ht (Kept.step (ih _) rfl h2)
        · next s3 ht => exact Kept.eq2 ht (Kept.step (ih _) rfl h2)

theorem State.restoreLoad_kept (s : State) (c : Nat) : KeptO 1649678033988 s (State.restoreLoad s c).1 ∧ Kept 1649678033988 s (State.restoreLoad s c).2 := by
  unfold State.restoreLoad
  extract_lets -merge -underBinder +onlyGivenNames r
  clear_value r
  split
  split
  · next s1 hq =>
    exact ⟨KeptO.none, Kept.eq2 hq (Kept.step (State.readImages_kept ..) rfl Kept.here)⟩
  · next l s1 hq =>
    have h1 : Kept 1649678033988 s s1 := Kept.eq2 hq (Kept.step (State.readImages_kept ..) rfl Kept.here)
    extract_lets -merge -underBinder +onlyGivenNames s2
    have h2 : Kept 1649678033988 s s2 := by
      unfold s2
      refine Kept.foldl _ (fun x hx e => ?_) h1
      exact Kept.foldl _ (fun y hy k => Kept.step (State.loadRill_kept ..) rfl hy) hx
    clear_value s2
    extract_lets -merge -underBinder +onlyGivenNames s3
    have h3 : Kept 1649678033988 s s3 := by
      unfold s3
      exact Kept.step (State.setImages_kept ..) rfl h2
    clear_value s3
    extract_lets -merge -underBinder +onlyGivenNames seqs s4
    have h4 : Kept 1649678033988 s s4 := by
      unfold s4
      exact Kept.upd_postSeq (s := s3) rfl h3
    clear_value s4
    exact ⟨KeptO.some (Kept.step (State.setRcv_kept ..) rfl h4), h4⟩

/-- Both ends of a restore, for a state that it starts from. -/
theorem State.restoreLoad_from {m : Nat} {s0 s : State} {c : Nat} (hm : 1649678033988 ||| m = m) (h : Kept m s0 s) {o : Option State} {t : State}
    (e : s.restoreLoad c = (o, t)) : KeptO m s0 o ∧ Kept m s0 t := by
  have k := State.restoreLoad_kept s c
  rw [e] at k
  exact ⟨KeptO.step k.1 hm h, Kept.step k.2 hm h⟩

theorem State.resumeRun_kept (s : State) (c : Nat) : Kept 75557863727289174058564 s (State.resumeRun s c) := by
  unfold State.resumeRun
  extract_lets -merge -underBinder +onlyGivenNames r q lists next step q1
  try clear_value r q lists next step q1
  extract_lets -merge -underBinder +onlyGivenNames s1
  have h_s1 : Kept 75557863727289174058564 s s1 := by
    unfold s1
    exact Kept.step (State.setRcv_kept ..) rfl Kept.here
  try clear_value s1
  extract_lets -merge -underBinder +onlyGivenNames s2
  have h_s2 : Kept 75557863727289174058564 s s2 := by
    unfold s2
    exact Kept.step (State.postEvent_kept ..) rfl (Kept.step (State.setRstate_kept ..) rfl (Kept.step (State.setSeqr_kept ..) rfl h_s1))
  try clear_value s2
  extract_lets -merge -underBinder +onlyGivenNames src src1 s3
  try clear_value src
  have h_src1 : Kept 75557863727289174058564 s src1 := by
    unfold src1
    exact Kept.step (State.setRstate_kept ..) rfl (Kept.step (State.setRcv_kept ..) rfl h_s2)
  try clear_value src1
  have h_s3 : Kept 75557863727289174058564 s s3 := by
    unfold s3
    refine Kept.ite ?_ ?_
    · exact h_s2
    · exact Kept.upd_pitchHeld (s := src1) rfl h_src1
  try clear_value s3
  exact Kept.step (State.imgPump_kept ..) rfl (Kept.step (State.pointsDone_kept ..) rfl (Kept.step (State.cairnLog_kept ..) rfl h_s3))

theorem State.heldMalformed_kept (s : State) (c : Nat) : Kept 1099511627780 s (State.heldMalformed s c) := by
  unfold State.heldMalformed
  exact Kept.step (State.setRstate_kept ..) rfl (Kept.step (State.setF_kept ..) rfl (Kept.step (State.setRcv_kept ..) rfl Kept.here))

theorem State.drainResume_kept (s : State) (c : Nat) : Kept 75557863727838929872452 s (State.drainResume s c) := by
  unfold State.drainResume
  extract_lets -merge -underBinder +onlyGivenNames src s1
  have h1 : Kept 75557863727838929872452 s s1 := by
    unfold s1
    exact Kept.step (State.incWrap_kept ..) rfl (Kept.step (State.setRcv_kept ..) rfl Kept.here)
  clear_value s1
  split
  · next s2 t hq => exact Kept.step (State.resumeRun_kept ..) rfl ((State.restoreLoad_from rfl h1 hq).1.on s2 rfl)
  · next s2 hq => exact Kept.step (State.heldMalformed_kept ..) rfl (State.restoreLoad_from rfl h1 hq).2

theorem State.pitchResume_kept (s : State) : Kept 75557863727838929872452 s (State.pitchResume s) := by
  unfold State.pitchResume
  refine Kept.ite ?_ ?_
  · extract_lets -merge -underBinder +onlyGivenNames held
    try clear_value held
    refine Kept.foldl _ (fun x h_x a => ?_) ?_
    · refine Kept.ite ?_ ?_
      · exact h_x
      · refine Kept.ite ?_ ?_
        · exact Kept.step (State.drainResume_kept ..) rfl h_x
        · exact Kept.step (State.setRstate_kept ..) rfl h_x
    · exact Kept.upd_pitchHeld (s := s) rfl Kept.here
  · exact Kept.here

theorem State.barrierSend_kept (s : State) (g : Nat) (m1 : Nat) (arg : Nat) (seq : Nat) (arg2 : Nat) : Kept 3386495870173188 s (State.barrierSend s g m1 arg seq arg2) := by
  unfold State.barrierSend
  extract_lets -merge -underBinder +onlyGivenNames j
  try clear_value j
  exact Kept.step (State.wireTo_kept ..) rfl Kept.here

theorem State.barrierAnswer_kept (s : State) (c : Nat) (arg : Nat) (seq : Nat) (arg2 : Nat) : Kept 3386495870173188 s (State.barrierAnswer s c arg seq arg2) := by
  unfold State.barrierAnswer
  refine Kept.foldl _ (fun x h_x a => ?_) ?_
  · exact Kept.step (State.barrierSend_kept ..) rfl h_x
  · exact Kept.here

theorem State.barrierWon_kept (s : State) (c : Nat) : Kept 4021188959101444 s (State.barrierWon s c) := by
  unfold State.barrierWon
  extract_lets -merge -underBinder +onlyGivenNames r
  try clear_value r
  split
  · exact Kept.here
  · refine Kept.ite ?_ ?_
    · exact Kept.step (State.holdGoOn_kept ..) rfl (Kept.step (State.commitDo_kept ..) rfl Kept.here)
    · exact Kept.step (State.setRcv_kept ..) rfl Kept.here

theorem State.commitLook_kept (s : State) (c : Nat) : Kept 4021188959101444 s (State.commitLook s c) := by
  unfold State.commitLook
  extract_lets -merge -underBinder +onlyGivenNames seq
  try clear_value seq
  refine Kept.ite ?_ ?_
  · exact Kept.step (State.barrierWon_kept ..) rfl (Kept.step (State.barrierAnswer_kept ..) rfl Kept.here)
  · exact Kept.here

theorem State.commitArrive_kept (s : State) (c : Nat) (opn : Nat) : Kept 4021188959101444 s (State.commitArrive s c opn) := by
  unfold State.commitArrive
  extract_lets -merge -underBinder +onlyGivenNames src s1
  try clear_value src
  have h_s1 : Kept 4021188959101444 s s1 := by
    unfold s1
    exact Kept.step (State.setRcv_kept ..) rfl Kept.here
  try clear_value s1
  extract_lets -merge -underBinder +onlyGivenNames g
  try clear_value g
  refine Kept.ite ?_ ?_
  · exact Kept.step (State.commitLook_kept ..) rfl h_s1
  · exact Kept.step (State.barrierSend_kept ..) rfl h_s1

theorem State.dropEarly_kept (s : State) (c : Nat) : Kept 35184372088832 s (State.dropEarly s c) := by
  unfold State.dropEarly
  exact Kept.upd_early (s := s) rfl Kept.here

theorem State.replayOutcome_kept (s : State) (c : Nat) (largest : Nat) : Kept 75557864361157627471428 s (State.replayOutcome s c largest) := by
  unfold State.replayOutcome
  extract_lets -merge -underBinder +onlyGivenNames own s1
  have h1 : Kept 75557864361157627471428 s s1 := by
    unfold s1
    exact Kept.step (State.retireBarrier_kept ..) rfl Kept.here
  clear_value own s1
  split
  · refine Kept.ite ?_ ?_
    · split
      · next s2 t hq =>
        exact Kept.step (State.resumeRun_kept ..) rfl
          ((State.restoreLoad_from rfl (Kept.step (State.commitDo_kept ..) rfl h1) hq).1.on s2 rfl)
      · next s2 hq =>
        exact Kept.step (State.heldMalformed_kept ..) rfl (State.restoreLoad_from rfl (Kept.step (State.commitDo_kept ..) rfl h1) hq).2
    · exact Kept.step (State.resumeRun_kept ..) rfl h1
  · exact Kept.step (State.resumeRun_kept ..) rfl h1

theorem State.replayLook_kept (s : State) (c : Nat) : Kept 75557867747653441021508 s (State.replayLook s c) := by
  unfold State.replayLook
  extract_lets -merge -underBinder +onlyGivenNames mine
  try clear_value mine
  refine Kept.ite ?_ ?_
  · extract_lets -merge -underBinder +onlyGivenNames all largest
    try clear_value all largest
    exact Kept.step (State.replayOutcome_kept ..) rfl (Kept.step (State.barrierAnswer_kept ..) rfl Kept.here)
  · exact Kept.here

theorem State.replayArrive_kept (s : State) (c : Nat) : Kept 75557867747653441021508 s (State.replayArrive s c) := by
  unfold State.replayArrive
  extract_lets -merge -underBinder +onlyGivenNames g
  try clear_value g
  extract_lets -merge -underBinder +onlyGivenNames s1
  have h_s1 : Kept 75557867747653441021508 s s1 := by
    unfold s1
    exact Kept.step (State.setRstate_kept ..) rfl Kept.here
  try clear_value s1
  refine Kept.ite ?_ ?_
  · exact Kept.step (State.replayLook_kept ..) rfl h_s1
  · extract_lets -merge -underBinder +onlyGivenNames count
    try clear_value count
    exact Kept.step (State.barrierSend_kept ..) rfl h_s1

theorem State.afterRebuild_kept (s : State) (c : Nat) : Kept 75557867747653441021508 s (State.afterRebuild s c) := by
  unfold State.afterRebuild
  refine Kept.ite ?_ ?_
  · refine Kept.ite ?_ ?_
    · exact Kept.step (State.replayArrive_kept ..) rfl Kept.here
    · exact Kept.step (State.heldMalformed_kept ..) rfl Kept.here
  · exact Kept.step (State.resumeRun_kept ..) rfl Kept.here

theorem State.epochOk_kept (s : State) (c : Nat) : Kept 77371252455336267181195268 s (State.epochOk s c) := by
  unfold State.epochOk
  extract_lets -merge -underBinder +onlyGivenNames mine
  try clear_value mine
  extract_lets -merge -underBinder +onlyGivenNames s1
  have h_s1 : Kept 77371252455336267181195268 s s1 := by
    unfold s1
    exact Kept.upd_staleWait (s := s) rfl Kept.here
  try clear_value s1
  refine Kept.foldl _ (fun x h_x a => ?_) ?_
  · refine Kept.ite ?_ ?_
    · exact h_x
    · exact Kept.step (State.setB_kept ..) rfl h_x
  · exact h_s1

theorem execHoldRestore_kept (ctx : Nat) (s : State) : KeptR 77446810323119104994305604 s (execHoldRestore ctx s) := by
  unfold execHoldRestore
  extract_lets -merge -underBinder +onlyGivenNames r
  clear_value r
  refine onUnit_kept rfl Kept.here (fun a ha => ?_)
  extract_lets -merge -underBinder +onlyGivenNames s1
  have h1 : Kept 77446810323119104994305604 s s1 := by
    unfold s1
    refine Kept.ite ?_ ha
    exact Kept.step (State.incSat_kept ..) rfl (Kept.step (State.setF_kept ..) rfl (Kept.step (State.setRcv_kept ..) rfl ha))
  clear_value s1
  split
  · next s2 hq => exact Kept.step (State.heldMalformed_kept ..) rfl (State.restoreLoad_from rfl (Kept.step (State.dropEarly_kept ..) rfl h1) hq).2
  · next s2 t hq =>
    have h2 := (State.restoreLoad_from rfl (Kept.step (State.dropEarly_kept ..) rfl h1) hq).1.on s2 rfl
    extract_lets -merge -underBinder +onlyGivenNames s3
    have h3 : Kept 77446810323119104994305604 s s3 := by
      unfold s3
      exact Kept.step (State.epochOk_kept ..) rfl h2
    clear_value s3
    refine Kept.ite (Kept.ite ?_ ?_) ?_
    · exact Kept.step (State.afterRebuild_kept ..) rfl (Kept.step (State.setB_kept ..) rfl h3)
    · exact Kept.step (State.setRcv_kept ..) rfl h3
    · exact Kept.step (State.afterRebuild_kept ..) rfl h3

theorem execRebuildListDone_kept (ctx : Nat) (code : Nat) (s : State) : KeptR 75557867747653441021508 s (execRebuildListDone ctx code s) := by
  unfold execRebuildListDone
  extract_lets -merge -underBinder +onlyGivenNames r
  try clear_value r
  refine onUnit_kept rfl Kept.here (fun a h_a => ?_)
  · exact Kept.step (State.afterRebuild_kept ..) rfl (Kept.step (State.setB_kept ..) rfl (Kept.step (State.setRcv_kept ..) rfl h_a))

theorem execCommitPointComplete_kept (ctx : Nat) (now : Nat) (s : State) : KeptR 75557939809097044681222 s (execCommitPointComplete ctx now s) := by
  unfold execCommitPointComplete
  refine unitRow_kept ?_ ?_
  · exact Kept.here
  · split
    · refine KeptR.next ?_
      exact Kept.here
    · refine whenB_kept rfl Kept.here (fun a h_a => ?_)
      · extract_lets -merge -underBinder +onlyGivenNames s1
        have h_s1 : Kept 75557939809097044681222 s s1 := by
          unfold s1
          exact Kept.step (State.atTime_kept ..) rfl h_a
        try clear_value s1
        extract_lets -merge -underBinder +onlyGivenNames r
        try clear_value r
        refine Kept.ite ?_ ?_
        · exact Kept.step (State.hangDue_kept ..) rfl (Kept.step (State.commitDo_kept ..) rfl h_s1)
        · refine Kept.ite ?_ ?_
          · exact Kept.step (State.failOp_kept ..) rfl h_s1
          · split
            · exact Kept.step (State.commitArrive_kept ..) rfl h_s1
            · refine Kept.ite ?_ ?_
              · exact Kept.step (State.hangDue_kept ..) rfl (Kept.step (State.commitDo_kept ..) rfl h_s1)
              · exact h_s1

theorem execCbar_kept (i : Nat) (s : State) : KeptR 75557939827239389226564 s (execCbar i s) := by
  unfold execCbar
  refine whenSome_kept rfl Kept.here (fun a a1 h_a1 => ?_)
  · extract_lets -merge -underBinder +onlyGivenNames p
    try clear_value p
    extract_lets -merge -underBinder +onlyGivenNames s1
    have h_s1 : Kept 75557939827239389226564 s s1 := by
      unfold s1
      exact Kept.step (State.wireTake_kept ..) rfl h_a1
    try clear_value s1
    split
    · exact h_s1
    · extract_lets -merge -underBinder +onlyGivenNames g replay
      try clear_value g replay
      refine Kept.ite ?_ ?_
      · exact h_s1
      · refine Kept.ite ?_ ?_
        · exact Kept.step (State.contextFail_kept ..) rfl h_s1
        · refine Kept.ite ?_ ?_
          · refine Kept.ite ?_ ?_
            · refine Kept.ite ?_ ?_
              · exact Kept.step (State.replayOutcome_kept ..) rfl h_s1
              · exact h_s1
            · refine Kept.ite ?_ ?_
              · exact Kept.step (State.barrierWon_kept ..) rfl h_s1
              · exact h_s1
          · split
            · exact h_s1
            · extract_lets -merge -underBinder +onlyGivenNames src s2
              try clear_value src
              have h_s2 : Kept 75557939827239389226564 s s2 := by
                unfold s2
                exact Kept.step (State.setRcv_kept ..) rfl h_s1
              try clear_value s2
              refine Kept.ite ?_ ?_
              · exact Kept.step (State.replayLook_kept ..) rfl h_s2
              · exact Kept.step (State.commitLook_kept ..) rfl h_s2

theorem State.loseRill_kept (s : State) (k : Nat) : Kept 680564733841876926926749214863540628672 s (State.loseRill s k) := by
  unfold State.loseRill
  split
  · rename_i b s1 hq
    have h_s1 := Kept.eq2 hq (m := 680564733841876926926749214863540628672) (s0 := s) (by
      exact Kept.step (State.drawBytes_kept ..) rfl Kept.here
      )
    clear hq
    split
    · rename_i p s2 hq1
      have h_s2 := Kept.eq2 hq1 (m := 680564733841876926926749214863540628672) (s0 := s) (by
        exact Kept.step (State.drawBytes_kept ..) rfl h_s1
        )
      clear hq1
      extract_lets -merge -underBinder +onlyGivenNames s3
      have h_s3 : Kept 680564733841876926926749214863540628672 s s3 := by
        unfold s3
        exact Kept.step (State.poolWrite_kept ..) rfl (Kept.step (State.storeWrite_kept ..) rfl h_s2)
      try clear_value s3
      extract_lets -merge -underBinder +onlyGivenNames r
      try clear_value r
      exact Kept.step (State.setRill_kept ..) rfl h_s3

theorem State.segShift_kept (s : State) (seg : Nat) (f : Nat) (d : Nat) : Kept 4 s (State.segShift s seg f d) := by
  unfold State.segShift
  extract_lets -merge -underBinder +onlyGivenNames ks old move
  try clear_value ks old move
  refine Kept.foldl _ (fun x h_x a => ?_) ?_
  · extract_lets -merge -underBinder +onlyGivenNames p
    try clear_value p
    split
    · extract_lets -merge -underBinder +onlyGivenNames s1
      have h_s1 : Kept 4 s s1 := by
        unfold s1
        exact Kept.step (State.setF_kept ..) rfl (Kept.step (State.setF_kept ..) rfl h_x)
      try clear_value s1
      exact Kept.step (State.setF_kept ..) rfl (Kept.step (State.setF_kept ..) rfl h_s1)
  · exact Kept.here

theorem execSpareSwap_kept (p : Pos) (s : State) : KeptR 680564733841876926926749218162079247556 s (execSpareSwap p s) := by
  unfold execSpareSwap
  extract_lets -merge -underBinder +onlyGivenNames k own
  try clear_value k own
  refine onUnit_kept rfl Kept.here (fun a h_a => ?_)
  · extract_lets -merge -underBinder +onlyGivenNames cause f d moved
    try clear_value cause f d moved
    extract_lets -merge -underBinder +onlyGivenNames s1
    have h_s1 : Kept 680564733841876926926749218162079247556 s s1 := by
      unfold s1
      refine Kept.foldl _ (fun x h_x a1 => ?_) ?_
      · exact Kept.step (State.loseRill_kept ..) rfl h_x
      · exact h_a
    try clear_value s1
    extract_lets -merge -underBinder +onlyGivenNames was
    try clear_value was
    extract_lets -merge -underBinder +onlyGivenNames s2
    have h_s2 : Kept 680564733841876926926749218162079247556 s s2 := by
      unfold s2
      exact Kept.upd_failing (s := s1) rfl h_s1
    try clear_value s2
    extract_lets -merge -underBinder +onlyGivenNames s3
    have h_s3 : Kept 680564733841876926926749218162079247556 s s3 := by
      unfold s3
      exact Kept.step (State.segShift_kept ..) rfl h_s2
    try clear_value s3
    extract_lets -merge -underBinder +onlyGivenNames s4
    have h_s4 : Kept 680564733841876926926749218162079247556 s s4 := by
      unfold s4
      refine Kept.foldl _ (fun x1 h_x1 a2 => ?_) ?_
      · exact Kept.step (State.setB_kept ..) rfl h_x1
      · exact h_s3
    try clear_value s4
    extract_lets -merge -underBinder +onlyGivenNames fresh
    try clear_value fresh
    extract_lets -merge -underBinder +onlyGivenNames s5
    have h_s5 : Kept 680564733841876926926749218162079247556 s s5 := by
      unfold s5
      refine Kept.foldl _ (fun x2 h_x2 a3 => ?_) ?_
      · exact Kept.step (State.holdStep5_kept ..) rfl (Kept.step (State.setRcv_kept ..) rfl h_x2)
      · exact h_s4
    try clear_value s5
    extract_lets -merge -underBinder +onlyGivenNames rch
    try clear_value rch
    extract_lets -merge -underBinder +onlyGivenNames s6
    have h_s6 : Kept 680564733841876926926749218162079247556 s s6 := by
      unfold s6
      exact Kept.step (State.setF_kept ..) rfl h_s5
    try clear_value s6
    extract_lets -merge -underBinder +onlyGivenNames s7
    have h_s7 : Kept 680564733841876926926749218162079247556 s s7 := by
      unfold s7
      refine Kept.ite ?_ ?_
      · exact Kept.step (State.setDeadReach_kept ..) rfl h_s6
      · exact h_s6
    try clear_value s7
    exact Kept.step (State.cairnLog_kept ..) rfl (Kept.step (State.incSat_kept ..) rfl (Kept.step (State.cmtGen_kept ..) rfl (Kept.step (State.absentSync_kept ..) rfl h_s7)))

theorem State.cmtSave_kept (s : State) : Kept 2326148992623602777581662355490603008 s (State.cmtSave s) := by
  unfold State.cmtSave
  extract_lets -merge -underBinder +onlyGivenNames t
  try clear_value t
  refine Kept.ite ?_ ?_
  · exact Kept.upd_cmtA_cmtB_cmtFresh (s := s) rfl Kept.here
  · extract_lets -merge -underBinder +onlyGivenNames g
    try clear_value g
    refine Kept.ite ?_ ?_
    · exact Kept.upd_cmtA (s := s) rfl Kept.here
    · exact Kept.upd_cmtB (s := s) rfl Kept.here

theorem execCmtFlashWriteDone_kept (s : State) : KeptR 2326148992633349742002307227818124868 s (execCmtFlashWriteDone s) := by
  unfold execCmtFlashWriteDone
  refine whenB_kept rfl Kept.here (fun a h_a => ?_)
  · extract_lets -merge -underBinder +onlyGivenNames s1
    have h_s1 : Kept 2326148992633349742002307227818124868 s s1 := by
      unfold s1
      refine Kept.foldl _ (fun x h_x a1 => ?_) ?_
      · exact Kept.step (State.setRcv_kept ..) rfl h_x
      · exact Kept.step (State.cmtSave_kept ..) rfl h_a
    try clear_value s1
    exact Kept.step (State.pitchResume_kept ..) rfl (Kept.upd_cmtDue (s := s1) rfl h_s1)

theorem State.wearMove_kept (s : State) (seg : Nat) : Kept 4 s (State.wearMove s seg) := by
  unfold State.wearMove
  extract_lets -merge -underBinder +onlyGivenNames d
  try clear_value d
  split
  · split
    · exact Kept.here
    · extract_lets -merge -underBinder +onlyGivenNames s1
      have h_s1 : Kept 4 s s1 := by
        unfold s1
        exact Kept.step (State.setF_kept ..) rfl Kept.here
      try clear_value s1
      extract_lets -merge -underBinder +onlyGivenNames s2
      have h_s2 : Kept 4 s s2 := by
        unfold s2
        refine Kept.foldl _ (fun x h_x a => ?_) ?_
        · exact Kept.step (State.setF_kept ..) rfl (Kept.step (State.setF_kept ..) rfl h_x)
        · exact h_s1
      try clear_value s2
      exact Kept.step (State.incSat_kept ..) rfl (Kept.step (State.cmtGen_kept ..) rfl h_s2)

theorem State.wearStart_kept (s : State) (rch : Nat) : Kept 72058693549555716 s (State.wearStart s rch) := by
  unfold State.wearStart
  extract_lets -merge -underBinder +onlyGivenNames segs free rest own
  try clear_value segs free rest own
  extract_lets -merge -underBinder +onlyGivenNames s1
  have h_s1 : Kept 72058693549555716 s s1 := by
    unfold s1
    refine Kept.foldl _ (fun x h_x a => ?_) ?_
    · exact Kept.step (State.wearMove_kept ..) rfl h_x
    · exact Kept.here
  try clear_value s1
  extract_lets -merge -underBinder +onlyGivenNames s2
  have h_s2 : Kept 72058693549555716 s s2 := by
    unfold s2
    exact Kept.upd_wearSegs (s := s1) rfl h_s1
  try clear_value s2
  extract_lets -merge -underBinder +onlyGivenNames s3
  have h_s3 : Kept 72058693549555716 s s3 := by
    unfold s3
    refine Kept.foldl _ (fun x1 h_x1 a1 => ?_) ?_
    · exact Kept.step (State.setRstate_kept ..) rfl (Kept.step (State.setRcv_kept ..) rfl h_x1)
    · exact h_s2
  try clear_value s3
  refine Kept.ite ?_ ?_
  · exact h_s3
  · exact Kept.step (State.setB_kept ..) rfl h_s3

theorem execDrainHoldResume_kept (ctx : Nat) (s : State) : KeptR 2326148992623678335517447788458403396 s (execDrainHoldResume ctx s) := by
  unfold execDrainHoldResume
  extract_lets -merge -underBinder +onlyGivenNames mine ready
  try clear_value mine ready
  refine onUnit_kept rfl Kept.here (fun a h_a => ?_)
  · extract_lets -merge -underBinder +onlyGivenNames s1
    have h_s1 : Kept 2326148992623678335517447788458403396 s s1 := by
      unfold s1
      refine Kept.ite ?_ ?_
      · exact h_a
      · refine Kept.step (State.cmtSave_kept ..) rfl ?_
        refine Kept.foldl _ (fun x h_x a1 => ?_) ?_
        · exact Kept.step (State.wearMove_kept ..) rfl h_x
        · exact h_a
    try clear_value s1
    extract_lets -merge -underBinder +onlyGivenNames s2
    have h_s2 : Kept 2326148992623678335517447788458403396 s s2 := by
      unfold s2
      exact Kept.step (State.wearSync_kept ..) rfl (Kept.upd_wearSegs (s := s1) rfl h_s1)
    try clear_value s2
    refine Kept.ite ?_ ?_
    · exact Kept.step (State.setRcv_kept ..) rfl h_s2
    · exact Kept.step (State.drainResume_kept ..) rfl h_s2

theorem execWearSkip_kept (ctx : Nat) (now : Nat) (s : State) : KeptR 72058693549555718 s (execWearSkip ctx now s) := by
  unfold execWearSkip
  refine onUnit_kept rfl Kept.here (fun a h_a => ?_)
  · extract_lets -merge -underBinder +onlyGivenNames s1
    have h_s1 : Kept 72058693549555718 s s1 := by
      unfold s1
      exact Kept.step (State.wearDrop_kept ..) rfl (Kept.step (State.atTime_kept ..) rfl h_a)
    try clear_value s1
    extract_lets -merge -underBinder +onlyGivenNames src s2
    try clear_value src
    have h_s2 : Kept 72058693549555718 s s2 := by
      unfold s2
      exact Kept.step (State.setRcv_kept ..) rfl h_s1
    try clear_value s2
    refine Kept.ite ?_ ?_
    · exact h_s2
    · exact Kept.step (State.setRstate_kept ..) rfl h_s2

end Sys2Proof.Machine
end

