-- ==== Sys2Proof/Laws/KeepMessage.lean ====
section
/-! SUPPORT. What each operation and each command of Machine/Message.lean leaves as it was: one frame lemma for each. -/

namespace Sys2Proof.Machine

theorem execSend_kept (a : SlotId) (s : State) : KeptR 75557939809097044713990 s (execSend a s) := by
  unfold execSend
  refine execIssue_kept rfl Kept.here (fun a1 a2 h_a2 => ?_)
  · extract_lets -merge -underBinder +onlyGivenNames len col row
    try clear_value len col row
    split
    · exact Kept.step (State.faultAt_kept ..) rfl h_a2
    · split
      · rename_i xid s1 hq
        have h_s1 := Kept.eq2 hq (m := 75557939809097044713990) (s0 := s) (by
          exact Kept.step (State.fresh_kept ..) rfl h_a2
          )
        clear hq
        extract_lets -merge -underBinder +onlyGivenNames src p
        try clear_value src
        try clear_value p
        split
        · exact Kept.step (State.faultAt_kept ..) rfl (Kept.step (State.unreachable_kept ..) rfl h_s1)
        · rename_i s2 hq2
          have h_s2 := (show KeptO 75557939809097044713990 s _ by
            exact KeptO.step (State.inject?_kept ..) rfl h_s1
            ).on _ hq2
          clear hq2
          exact Kept.step (State.retire_kept ..) rfl h_s2

theorem State.rxWrite_kept (s : State) (k : Nat) (p : Packet) : Kept 9280 s (State.rxWrite s k p) := by
  unfold State.rxWrite
  extract_lets -merge -underBinder +onlyGivenNames r size pad
  try clear_value r size pad
  extract_lets -merge -underBinder +onlyGivenNames s1
  have h_s1 : Kept 9280 s s1 := by
    unfold s1
    refine Kept.ite ?_ ?_
    · exact Kept.here
    · exact Kept.step (State.storeWrite_kept ..) rfl Kept.here
  try clear_value s1
  extract_lets -merge -underBinder +onlyGivenNames off padE flags
  try clear_value off padE flags
  extract_lets -merge -underBinder +onlyGivenNames s2
  have h_s2 : Kept 9280 s s2 := by
    unfold s2
    exact Kept.step (State.storeWrite_kept ..) rfl h_s1
  try clear_value s2
  extract_lets -merge -underBinder +onlyGivenNames s3
  have h_s3 : Kept 9280 s s3 := by
    unfold s3
    exact Kept.step (State.storeWrite_kept ..) rfl h_s2
  try clear_value s3
  exact Kept.step (State.modRill_kept ..) rfl h_s3

theorem execRecv_kept (a : SlotId) (s : State) : KeptR 75557939809097044681222 s (execRecv a s) := by
  unfold execRecv
  refine execIssue_kept rfl Kept.here (fun a1 a2 h_a2 => ?_)
  · split
    · exact Kept.step (State.retire_kept ..) rfl (Kept.step (State.setRill_kept ..) rfl h_a2)
    · exact Kept.step (State.waitOn_kept ..) rfl h_a2

theorem execMfree_kept (a : SlotId) (s : State) : KeptR 75557939809097044681222 s (execMfree a s) := by
  unfold execMfree
  refine execIssue_kept rfl Kept.here (fun a1 a2 h_a2 => ?_)
  · extract_lets -merge -underBinder +onlyGivenNames e mine
    try clear_value e mine
    refine Kept.ite ?_ ?_
    · exact Kept.step (State.retire_kept ..) rfl (Kept.step (State.modRill_kept ..) rfl h_a2)
    · exact Kept.step (State.faultAt_kept ..) rfl h_a2

theorem State.wake?_kept (s : State) (k : Nat) (n : Nat) : KeptO 8192 s (State.wake? s k n) := by
  unfold State.wake?
  extract_lets -merge -underBinder +onlyGivenNames r x
  try clear_value r x
  refine KeptO.ite ?_ ?_
  · exact KeptO.none
  · split
    · extract_lets -merge -underBinder +onlyGivenNames hit
      try clear_value hit
      refine KeptO.ite ?_ ?_
      · exact KeptO.none
      · refine KeptO.some ?_
        exact Kept.step (State.wakeWith_kept ..) rfl Kept.here
    · refine KeptO.ite ?_ ?_
      · refine KeptO.some ?_
        exact Kept.step (State.wakeWith_kept ..) rfl Kept.here
      · exact KeptO.none
    · split
      · refine KeptO.some ?_
        exact Kept.step (State.wakeWith_kept ..) rfl (Kept.step (State.modRill_kept ..) rfl Kept.here)
      · exact KeptO.none
    · split
      · refine KeptO.some ?_
        exact Kept.step (State.wakeWith_kept ..) rfl (Kept.step (State.setRill_kept ..) rfl Kept.here)
      · exact KeptO.none
    · exact KeptO.none

theorem execSlotWake_kept (a : SlotId) (s : State) : KeptR 8192 s (execSlotWake a s) := by
  unfold execSlotWake
  refine onUnit_kept rfl Kept.here (fun a1 h_a1 => ?_)
  · refine KeptO.getD ?_ ?_
    · exact KeptO.step (State.wake?_kept ..) rfl h_a1
    · exact h_a1

theorem execTaskWdExpiry_kept (a : SlotId) (cyc : Nat) (s : State) : KeptR 75557939809097044681222 s (execTaskWdExpiry a cyc s) := by
  unfold execTaskWdExpiry
  extract_lets -merge -underBinder +onlyGivenNames r x yieldDone
  try clear_value r x yieldDone
  refine onUnit_kept rfl Kept.here (fun a1 h_a1 => ?_)
  · exact Kept.step (State.slotFault_kept ..) rfl (Kept.step (State.atCycle_kept ..) rfl h_a1)

theorem execRillWdExpiry_kept (p : Pos) (s : State) : KeptR 75557939811296067936772 s (execRillWdExpiry p s) := by
  unfold execRillWdExpiry
  extract_lets -merge -underBinder +onlyGivenNames k
  try clear_value k
  refine onUnit_kept rfl Kept.here (fun a h_a => ?_)
  · exact Kept.step (State.reportFailed_kept ..) rfl h_a

end Sys2Proof.Machine
end

