-- ==== Sys2Proof/Laws/KeepPackets.lean ====
section
/-! SUPPORT. What each operation and each command of Machine/Packets.lean leaves as it was: one frame lemma for each. -/

namespace Sys2Proof.Machine

theorem execWrite_kept (i : Nat) (s : State) : KeptR 54084676 s (execWrite i s) := by
  unfold execWrite
  refine State.packetRow_kept rfl Kept.here (fun a a1 h_a1 => ?_)
  · extract_lets -merge -underBinder +onlyGivenNames s1
    have h_s1 : Kept 54084676 s s1 := by
      unfold s1
      exact Kept.step (State.storeWrite_kept ..) rfl h_a1
    try clear_value s1
    refine Kept.ite ?_ ?_
    · exact Kept.step (State.inject_kept ..) rfl h_s1
    · exact h_s1

theorem execRead_kept (i : Nat) (s : State) : KeptR 54083588 s (execRead i s) := by
  unfold execRead
  refine State.packetRow_kept rfl Kept.here (fun a a1 h_a1 => ?_)
  · extract_lets -merge -underBinder +onlyGivenNames k
    try clear_value k
    exact Kept.step (State.inject_kept ..) rfl h_a1

theorem State.stepBoundary_kept (s : State) (k : Nat) (p : Packet) : Kept 8192 s (State.stepBoundary s k p) := by
  unfold State.stepBoundary
  refine Kept.ite ?_ ?_
  · exact Kept.step (State.modRill_kept ..) rfl Kept.here
  · exact Kept.here

theorem State.msgFail_kept (s : State) (p : Packet) : Kept 75557939809097044681220 s (State.msgFail s p) := by
  unfold State.msgFail
  refine Kept.ite ?_ ?_
  · exact Kept.step (State.opStartFail_kept ..) rfl Kept.here
  · exact Kept.step (State.programFault_kept ..) rfl Kept.here

theorem State.rxNever_kept (s : State) (p : Packet) : Kept 75557939809097044681220 s (State.rxNever s p) := by
  unfold State.rxNever
  extract_lets -merge -underBinder +onlyGivenNames s1
  have h_s1 : Kept 75557939809097044681220 s s1 := by
    unfold s1
    exact Kept.step (State.cairnLog_kept ..) rfl Kept.here
  try clear_value s1
  exact Kept.step (State.msgFail_kept ..) rfl (Kept.step (State.inject_kept ..) rfl h_s1)

theorem State.rxTake_kept (s : State) (k : Nat) (p : Packet) : Kept 54092868 s (State.rxTake s k p) := by
  unfold State.rxTake
  extract_lets -merge -underBinder +onlyGivenNames s1
  have h_s1 : Kept 54092868 s s1 := by
    unfold s1
    exact Kept.step (State.stepBoundary_kept ..) rfl (Kept.step (State.rxWrite_kept ..) rfl Kept.here)
  try clear_value s1
  refine Kept.ite ?_ ?_
  · exact Kept.step (State.inject_kept ..) rfl h_s1
  · exact h_s1

theorem State.msgArrives_kept (s : State) (i : Nat) (p : Packet) : Kept 75557939809097044682308 s (State.msgArrives s i p) := by
  unfold State.msgArrives
  refine Kept.ite ?_ ?_
  · exact Kept.upd_net (s := s) rfl Kept.here
  · refine State.takes_kept rfl Kept.here (fun a h_a => ?_)
    · extract_lets -merge -underBinder +onlyGivenNames k
      try clear_value k
      refine Kept.ite ?_ ?_
      · exact Kept.step (State.rxNever_kept ..) rfl h_a
      · exact Kept.step (State.rxTake_kept ..) rfl h_a

theorem execMsg_kept (i : Nat) (s : State) : KeptR 75557939809097044682308 s (execMsg i s) := by
  unfold execMsg
  refine whenSome_kept rfl Kept.here (fun a a1 h_a1 => ?_)
  · exact Kept.step (State.msgArrives_kept ..) rfl h_a1

theorem execMsgRingEntry_kept (p : Pos) (s : State) : KeptR 75557939809097044682308 s (execMsgRingEntry p s) := by
  unfold execMsgRingEntry
  refine onUnit_kept rfl Kept.here (fun a h_a => ?_)
  · extract_lets -merge -underBinder +onlyGivenNames i
    try clear_value i
    split
    · exact h_a
    · exact Kept.step (State.msgArrives_kept ..) rfl h_a

theorem State.poolRefuse_kept (s : State) (p : Packet) : Kept 54083588 s (State.poolRefuse s p) := by
  unfold State.poolRefuse
  extract_lets -merge -underBinder +onlyGivenNames s1
  have h_s1 : Kept 54083588 s s1 := by
    unfold s1
    exact Kept.step (State.cairnLog_kept ..) rfl Kept.here
  try clear_value s1
  split
  · exact Kept.step (State.inject_kept ..) rfl h_s1
  · exact h_s1

theorem State.lineRead_kept (s : State) (rch : Nat) (line : Nat) : Kept 680564733841876926926749214863536422916 s (State.lineRead s rch line) := by
  unfold State.lineRead
  extract_lets -merge -underBinder +onlyGivenNames live
  try clear_value live
  refine Kept.ite ?_ ?_
  · exact Kept.step (State.fabAdd_kept ..) rfl (Kept.upd_lineReads (s := s) rfl Kept.here)
  · exact Kept.step (State.fabAdd_kept ..) rfl (Kept.upd_lineReads (s := s) rfl Kept.here)

theorem State.linesRead_kept (s : State) (rch : Nat) (line : Nat) (n : Nat) : Kept 680564733841876926926749214863536422916 s (State.linesRead s rch line n) := by
  induction n generalizing s line with
  | zero => exact Kept.here
  | succ n ih => exact Kept.step (ih _ _) rfl (Kept.step (State.lineRead_kept ..) rfl Kept.here)

theorem execPoolRead_kept (i : Nat) (s : State) : KeptR 680564733841876926926749214863590506500 s (execPoolRead i s) := by
  unfold execPoolRead
  refine State.packetRow_kept rfl Kept.here (fun a a1 h_a1 => ?_)
  · extract_lets -merge -underBinder +onlyGivenNames k
    try clear_value k
    refine Kept.ite ?_ ?_
    · extract_lets -merge -underBinder +onlyGivenNames s1
      have h_s1 : Kept 680564733841876926926749214863590506500 s s1 := by
        unfold s1
        exact Kept.step (State.linesRead_kept ..) rfl h_a1
      try clear_value s1
      exact Kept.step (State.inject_kept ..) rfl h_s1
    · exact Kept.step (State.poolRefuse_kept ..) rfl h_a1

theorem execPoolWrite_kept (i : Nat) (s : State) : KeptR 680564733841876926926749214863590508676 s (execPoolWrite i s) := by
  unfold execPoolWrite
  refine State.packetRow_kept rfl Kept.here (fun a a1 h_a1 => ?_)
  · refine Kept.ite ?_ ?_
    · extract_lets -merge -underBinder +onlyGivenNames s1
      have h_s1 : Kept 680564733841876926926749214863590508676 s s1 := by
        unfold s1
        exact Kept.step (State.poolWrite_kept ..) rfl h_a1
      try clear_value s1
      refine Kept.ite ?_ ?_
      · exact Kept.step (State.inject_kept ..) rfl h_s1
      · exact h_s1
    · exact Kept.step (State.poolRefuse_kept ..) rfl h_a1

theorem execHolePacketArrival_kept (i : Nat) (s : State) : KeptR 54083588 s (execHolePacketArrival i s) := by
  unfold execHolePacketArrival
  split
  · refine KeptR.next ?_
    exact Kept.here
  · extract_lets -merge -underBinder +onlyGivenNames k r st
    try clear_value k r st
    refine whenB_kept rfl Kept.here (fun a h_a => ?_)
    · refine Kept.ite ?_ ?_
      · exact Kept.step (State.dropAtLink_kept ..) rfl (Kept.upd_net (s := a) rfl h_a)
      · extract_lets -merge -underBinder +onlyGivenNames s1
        have h_s1 : Kept 54083588 s s1 := by
          unfold s1
          exact Kept.step (State.takePacket_kept ..) rfl h_a
        try clear_value s1
        refine Kept.ite ?_ ?_
        · exact Kept.step (State.fabInc_kept ..) rfl h_s1
        · extract_lets -merge -underBinder +onlyGivenNames s2
          have h_s2 : Kept 54083588 s s2 := by
            unfold s2
            split
            · exact h_s1
            · refine Kept.ite ?_ ?_
              · exact h_s1
              · exact Kept.step (State.cairnLog_kept ..) rfl h_s1
          try clear_value s2
          split
          · exact Kept.step (State.inject_kept ..) rfl h_s2
          · exact h_s2

theorem execPacketAgeDiscard_kept (i : Nat) (router : Pos) (cyc : Nat) (s : State) : KeptR 3751942 s (execPacketAgeDiscard i router cyc s) := by
  unfold execPacketAgeDiscard
  refine unitRow_kept ?_ ?_
  · exact Kept.here
  · split
    · refine KeptR.next ?_
      exact Kept.here
    · extract_lets -merge -underBinder +onlyGivenNames c
      try clear_value c
      refine whenB_kept rfl Kept.here (fun a h_a => ?_)
      · extract_lets -merge -underBinder +onlyGivenNames src s1
        have h_src : Kept 3751942 s src := by
          unfold src
          exact Kept.step (State.atCycle_kept ..) rfl h_a
        try clear_value src
        have h_s1 : Kept 3751942 s s1 := by
          unfold s1
          exact Kept.upd_net (s := src) rfl h_src
        try clear_value s1
        extract_lets -merge -underBinder +onlyGivenNames s2
        have h_s2 : Kept 3751942 s s2 := by
          unfold s2
          exact Kept.step (State.countFlits_kept ..) rfl h_s1
        try clear_value s2
        extract_lets -merge -underBinder +onlyGivenNames rch
        try clear_value rch
        exact Kept.step (State.cairnLog_kept ..) rfl (Kept.step (State.fabInc_kept ..) rfl h_s2)

theorem execFlitEccError_kept (i : Nat) (router : Pos) (err : FlitError) (now : Nat) (s : State) : KeptR 75557939811296067936774 s (execFlitEccError i router err now s) := by
  unfold execFlitEccError
  refine unitRow_kept ?_ ?_
  · exact Kept.here
  · split
    · refine KeptR.next ?_
      exact Kept.here
    · refine whenB_kept rfl Kept.here (fun a h_a => ?_)
      · extract_lets -merge -underBinder +onlyGivenNames s1
        have h_s1 : Kept 75557939811296067936774 s s1 := by
          unfold s1
          exact Kept.step (State.atTime_kept ..) rfl h_a
        try clear_value s1
        extract_lets -merge -underBinder +onlyGivenNames rch k
        try clear_value rch k
        split
        · exact Kept.step (State.fabInc_kept ..) rfl h_s1
        · extract_lets -merge -underBinder +onlyGivenNames p'
          try clear_value p'
          extract_lets -merge -underBinder +onlyGivenNames src s2
          have h_src : Kept 75557939811296067936774 s src := by
            unfold src
            exact Kept.step (State.fabInc_kept ..) rfl h_s1
          try clear_value src
          have h_s2 : Kept 75557939811296067936774 s s2 := by
            unfold s2
            exact Kept.upd_net (s := src) rfl h_src
          try clear_value s2
          extract_lets -merge -underBinder +onlyGivenNames times
          try clear_value times
          extract_lets -merge -underBinder +onlyGivenNames s3
          have h_s3 : Kept 75557939811296067936774 s s3 := by
            unfold s3
            exact Kept.step (State.modRill_kept ..) rfl h_s2
          try clear_value s3
          refine Kept.ite ?_ ?_
          · exact Kept.step (State.routerLost_kept ..) rfl h_s3
          · exact h_s3

theorem execMemoryUncorrError_kept (p : Pos) (pool : Bool) (line : Nat) (now : Nat) (s : State) : KeptR 75557939811296067939846 s (execMemoryUncorrError p pool line now s) := by
  unfold execMemoryUncorrError
  extract_lets -merge -underBinder +onlyGivenNames k
  try clear_value k
  refine onUnit_kept rfl Kept.here (fun a h_a => ?_)
  · extract_lets -merge -underBinder +onlyGivenNames s1
    have h_s1 : Kept 75557939811296067939846 s s1 := by
      unfold s1
      exact Kept.step (State.atTime_kept ..) rfl h_a
    try clear_value s1
    extract_lets -merge -underBinder +onlyGivenNames l
    try clear_value l
    extract_lets -merge -underBinder +onlyGivenNames s2
    have h_s2 : Kept 75557939811296067939846 s s2 := by
      unfold s2
      refine Kept.ite ?_ ?_
      · exact Kept.upd_poolPoison (s := s1) rfl h_s1
      · exact Kept.upd_storePoison (s := s1) rfl h_s1
    try clear_value s2
    extract_lets -merge -underBinder +onlyGivenNames times
    try clear_value times
    extract_lets -merge -underBinder +onlyGivenNames s3
    have h_s3 : Kept 75557939811296067939846 s s3 := by
      unfold s3
      exact Kept.step (State.modRill_kept ..) rfl h_s2
    try clear_value s3
    refine Kept.ite ?_ ?_
    · exact Kept.step (State.reportFailed_kept ..) rfl h_s3
    · exact h_s3

end Sys2Proof.Machine
end

