-- ==== Sys2Proof/Laws/KeepStreamEngine.lean ====
section
/-! SUPPORT. What each operation and each command of Machine/StreamEngine.lean leaves as it was: one frame lemma for each. -/

namespace Sys2Proof.Machine

theorem State.trickleAnswer_kept (s : State) (k : Nat) (t : Trickle) (p : Packet) : Kept 9280 s (State.trickleAnswer s k t p) := by
  unfold State.trickleAnswer
  extract_lets -merge -underBinder +onlyGivenNames s1
  have h_s1 : Kept 9280 s s1 := by
    unfold s1
    exact Kept.step (State.modRill_kept ..) rfl Kept.here
  try clear_value s1
  extract_lets -merge -underBinder +onlyGivenNames s2
  have h_s2 : Kept 9280 s s2 := by
    unfold s2
    refine Kept.ite ?_ ?_
    · exact Kept.step (State.storeWrite_kept ..) rfl h_s1
    · exact h_s1
  try clear_value s2
  exact Kept.step (State.trickleEnd_kept ..) rfl h_s2

theorem State.queueAnswer_kept (s : State) (k : Nat) (q : Nat) (f : Flight) (p : Packet) : Kept 75557939809097044682308 s (State.queueAnswer s k q f p) := by
  unfold State.queueAnswer
  extract_lets -merge -underBinder +onlyGivenNames s1
  have h_s1 : Kept 75557939809097044682308 s s1 := by
    unfold s1
    exact Kept.step (State.modQueue_kept ..) rfl Kept.here
  try clear_value s1
  extract_lets -merge -underBinder +onlyGivenNames x
  try clear_value x
  refine Kept.ite ?_ ?_
  · exact h_s1
  · refine Kept.ite ?_ ?_
    · refine Kept.step (State.queueFault_kept ..) rfl ?_
      refine Kept.ite ?_ ?_
      · exact Kept.step (State.storeWrite_kept ..) rfl h_s1
      · exact h_s1
    · refine Kept.ite ?_ ?_
      · refine Kept.ite ?_ ?_
        · exact h_s1
        · exact Kept.step (State.landTile_kept ..) rfl h_s1
      · exact Kept.step (State.tileDone_kept ..) rfl h_s1

theorem State.streamAnswer?_kept (s : State) (k : Nat) (p : Packet) : KeptO 75557939809097044682308 s (State.streamAnswer? s k p) := by
  unfold State.streamAnswer?
  split
  · exact KeptO.some (Kept.step (State.queueAnswer_kept ..) rfl Kept.here)
  · constructor
    intro t ht
    obtain ⟨x, _, rfl⟩ := Option.map_eq_some_iff.1 ht
    exact Kept.step (State.trickleAnswer_kept ..) rfl Kept.here

theorem State.screditRill_kept (s : State) (p : Packet) : Kept 8192 s (State.screditRill s p) := by
  unfold State.screditRill
  exact Kept.step (State.modQueue_kept ..) rfl Kept.here

theorem execSdata_kept (i : Nat) (s : State) : KeptR 75557939809097044682308 s (execSdata i s) := by
  unfold execSdata
  refine State.packetRow_kept rfl Kept.here (fun a a1 h_a1 => ?_)
  · refine KeptO.getD ?_ ?_
    · exact KeptO.step (State.streamAnswer?_kept ..) rfl h_a1
    · exact h_a1

theorem execSpush_kept (i : Nat) (s : State) : KeptR 75557939809097044682308 s (execSpush i s) := by
  unfold execSpush
  refine State.packetRow_kept rfl Kept.here (fun a a1 h_a1 => ?_)
  · extract_lets -merge -underBinder +onlyGivenNames k q x n
    try clear_value k q x n
    refine Kept.ite ?_ ?_
    · exact h_a1
    · refine Kept.ite ?_ ?_
      · exact Kept.step (State.queueFault_kept ..) rfl h_a1
      · exact Kept.step (State.landTile_kept ..) rfl h_a1

theorem State.sendCredit_kept (s : State) (k : Nat) (q : Nat) : Kept 54083588 s (State.sendCredit s k q) := by
  unfold State.sendCredit
  extract_lets -merge -underBinder +onlyGivenNames x up own
  try clear_value x up own
  extract_lets -merge -underBinder +onlyGivenNames src p
  try clear_value src
  try clear_value p
  exact Kept.step (State.inject_kept ..) rfl Kept.here

theorem State.queueConfirm_kept (s : State) (k : Nat) (q : Nat) (code : Nat) : Kept 75557939809097044715076 s (State.queueConfirm s k q code) := by
  unfold State.queueConfirm
  extract_lets -merge -underBinder +onlyGivenNames x
  try clear_value x
  refine Kept.ite ?_ ?_
  · refine Kept.ite ?_ ?_
    · exact Kept.step (State.queueStarted_kept ..) rfl Kept.here
    · exact Kept.here
  · refine Kept.ite ?_ ?_
    · exact Kept.step (State.queueStop_kept ..) rfl Kept.here
    · exact Kept.step (State.queueFault_kept ..) rfl Kept.here

theorem execConfirm_kept (i : Nat) (kind : Nat) (farKind : Nat) (s : State) : KeptR 75557939809097044715076 s (execConfirm i kind farKind s) := by
  unfold execConfirm
  refine State.packetRow_kept rfl Kept.here (fun a a1 h_a1 => ?_)
  · extract_lets -merge -underBinder +onlyGivenNames k x
    try clear_value k x
    refine Kept.ite ?_ ?_
    · exact Kept.step (State.queueConfirm_kept ..) rfl h_a1
    · exact h_a1

theorem execHwConfirm_kept (i : Nat) (s : State) : KeptR 75557939809097044715076 s (execHwConfirm i s) := by
  unfold execHwConfirm
  exact KeptR.step (execConfirm_kept ..) rfl Kept.here

theorem execEzConfirm_kept (i : Nat) (s : State) : KeptR 75557939809097044715076 s (execEzConfirm i s) := by
  unfold execEzConfirm
  exact KeptR.step (execConfirm_kept ..) rfl Kept.here

theorem State.issueTile_kept (s : State) (k : Nat) (q : Nat) : Kept 75557939809097044715076 s (State.issueTile s k q) := by
  unfold State.issueTile
  extract_lets -merge -underBinder +onlyGivenNames s1
  have h_s1 : Kept 75557939809097044715076 s s1 := by
    unfold s1
    exact Kept.step (State.modQueue_kept ..) rfl Kept.here
  try clear_value s1
  extract_lets -merge -underBinder +onlyGivenNames x
  try clear_value x
  refine Kept.ite ?_ ?_
  · exact Kept.step (State.sendCredit_kept ..) rfl (Kept.step (State.modQueue_kept ..) rfl h_s1)
  · split
    · exact Kept.step (State.queueFault_kept ..) rfl h_s1
    · split
      · rename_i xid s2 hq
        have h_s2 := Kept.eq2 hq (m := 75557939809097044715076) (s0 := s) (by
          exact Kept.step (State.fresh_kept ..) rfl h_s1
          )
        clear hq
        split
        · rename_i s3 hq1
          have h_s3 := (show KeptO 75557939809097044715076 s _ by
            exact KeptO.step (State.inject?_kept ..) rfl h_s2
            ).on _ hq1
          clear hq1
          exact Kept.step (State.modQueue_kept ..) rfl h_s3
        · exact Kept.step (State.queueFault_kept ..) rfl (Kept.step (State.unreachable_kept ..) rfl h_s2)

theorem execStreamTileIssue_kept (p : Pos) (q : Nat) (s : State) : KeptR 75557939809097044715076 s (execStreamTileIssue p q s) := by
  unfold execStreamTileIssue
  extract_lets -merge -underBinder +onlyGivenNames k x
  try clear_value k x
  refine onUnit_kept rfl Kept.here (fun a h_a => ?_)
  · exact Kept.step (State.issueTile_kept ..) rfl h_a

theorem execStreamStartDone_kept (p : Pos) (q : Nat) (s : State) : KeptR 75557939809097044715078 s (execStreamStartDone p q s) := by
  unfold execStreamStartDone
  extract_lets -merge -underBinder +onlyGivenNames k x
  try clear_value k x
  refine onUnit_kept rfl Kept.here (fun a h_a => ?_)
  · extract_lets -merge -underBinder +onlyGivenNames s1
    have h_s1 : Kept 75557939809097044715078 s s1 := by
      unfold s1
      exact Kept.step (State.atCycle_kept ..) rfl h_a
    try clear_value s1
    extract_lets -merge -underBinder +onlyGivenNames s2
    have h_s2 : Kept 75557939809097044715078 s s2 := by
      unfold s2
      refine Kept.ite ?_ ?_
      · exact Kept.step (State.issueTile_kept ..) rfl h_s1
      · exact h_s1
    try clear_value s2
    exact Kept.step (State.queueStarted_kept ..) rfl h_s2

theorem execStreamStopDone_kept (p : Pos) (q : Nat) (s : State) : KeptR 75557939809097044715076 s (execStreamStopDone p q s) := by
  unfold execStreamStopDone
  extract_lets -merge -underBinder +onlyGivenNames k x
  try clear_value k x
  refine onUnit_kept rfl Kept.here (fun a h_a => ?_)
  · extract_lets -merge -underBinder +onlyGivenNames s1
    have h_s1 : Kept 75557939809097044715076 s s1 := by
      unfold s1
      exact Kept.step (State.setQst_kept ..) rfl h_a
    try clear_value s1
    extract_lets -merge -underBinder +onlyGivenNames s2
    have h_s2 : Kept 75557939809097044715076 s s2 := by
      unfold s2
      exact Kept.step (State.modQueue_kept ..) rfl h_s1
    try clear_value s2
    split
    · refine Kept.ite ?_ ?_
      · exact Kept.step (State.queueBegin_kept ..) rfl h_s2
      · exact h_s2
    · exact h_s2

theorem execStreamOutInject_kept (p : Pos) (q : Nat) (s : State) : KeptR 75557939809097044715076 s (execStreamOutInject p q s) := by
  unfold execStreamOutInject
  extract_lets -merge -underBinder +onlyGivenNames k x
  try clear_value k x
  refine onUnit_kept rfl Kept.here (fun a h_a => ?_)
  · extract_lets -merge -underBinder +onlyGivenNames s1
    have h_s1 : Kept 75557939809097044715076 s s1 := by
      unfold s1
      exact Kept.step (State.modQueue_kept ..) rfl h_a
    try clear_value s1
    split
    · exact Kept.step (State.queueFault_kept ..) rfl h_s1
    · split
      · rename_i xid s2 hq
        have h_s2 := Kept.eq2 hq (m := 75557939809097044715076) (s0 := s) (by
          exact Kept.step (State.fresh_kept ..) rfl h_s1
          )
        clear hq
        split
        · exact Kept.step (State.queueFault_kept ..) rfl (Kept.step (State.unreachable_kept ..) rfl h_s2)
        · rename_i s3 hq2
          have h_s3 := (show KeptO 75557939809097044715076 s _ by
            exact KeptO.step (State.inject?_kept ..) rfl h_s2
            ).on _ hq2
          clear hq2
          extract_lets -merge -underBinder +onlyGivenNames s4
          have h_s4 : Kept 75557939809097044715076 s s4 := by
            unfold s4
            exact Kept.step (State.modQueue_kept ..) rfl h_s3
          try clear_value s4
          refine Kept.ite ?_ ?_
          · exact Kept.step (State.tileDone_kept ..) rfl h_s4
          · exact Kept.step (State.modQueue_kept ..) rfl h_s4

end Sys2Proof.Machine
end

