-- ==== Sys2Proof/Laws/KeepAnswers.lean ====
section
/-! SUPPORT. What each operation and each command of Machine/Answers.lean leaves as it was: one frame lemma for each. -/

namespace Sys2Proof.Machine

theorem State.loadAnswer_kept (s : State) (k : Nat) (n : Nat) (gd : Nat) (p : Packet) : Kept 75557939809097044681220 s (State.loadAnswer s k n gd p) := by
  unfold State.loadAnswer
  extract_lets -merge -underBinder +onlyGivenNames s1
  have h_s1 : Kept 75557939809097044681220 s s1 := by
    unfold s1
    exact Kept.step (State.modSlot_kept ..) rfl Kept.here
  try clear_value s1
  refine Kept.ite ?_ ?_
  · exact Kept.step (State.slotFault_kept ..) rfl h_s1
  · exact Kept.step (State.modSlot_kept ..) rfl h_s1

theorem State.readDataRill_kept (s : State) (k : Nat) (p : Packet) : Kept 75557939809097044682308 s (State.readDataRill s k p) := by
  unfold State.readDataRill
  split
  · rename_i s1 hq
    have h_s1 := (show KeptO 75557939809097044682308 s _ by
      exact KeptO.step (State.streamAnswer?_kept ..) rfl Kept.here
      ).on _ hq
    clear hq
    exact h_s1
  · split
    · exact Kept.step (State.loadAnswer_kept ..) rfl Kept.here
    · exact Kept.here

theorem State.ackRill_kept (s : State) (k : Nat) (p : Packet) : Kept 75557939809097044682308 s (State.ackRill s k p) := by
  unfold State.ackRill
  split
  · rename_i s1 hq
    have h_s1 := (show KeptO 75557939809097044682308 s _ by
      exact KeptO.step (State.streamAnswer?_kept ..) rfl Kept.here
      ).on _ hq
    clear hq
    exact h_s1
  · exact Kept.step (State.modRill_kept ..) rfl Kept.here

theorem State.outputAnswer_kept (s : State) (p : Packet) (o : Op) : Kept 680564733841877002484689059145355886532 s (State.outputAnswer s p o) := by
  unfold State.outputAnswer
  extract_lets -merge -underBinder +onlyGivenNames s1
  have h_s1 : Kept 680564733841877002484689059145355886532 s s1 := by
    unfold s1
    exact Kept.step (State.setOp_kept ..) rfl Kept.here
  try clear_value s1
  refine Kept.ite ?_ ?_
  · exact Kept.step (State.failOp_kept ..) rfl h_s1
  · exact Kept.step (State.postPump_kept ..) rfl h_s1

theorem State.ackEdge_kept (s : State) (p : Packet) : Kept 680564733841877002484689059145355886532 s (State.ackEdge s p) := by
  unfold State.ackEdge
  split
  · next s1 hq => exact (KeptO.step (State.memPoolAnswer?_kept ..) rfl Kept.here).on s1 hq
  · exact Kept.step (State.opStartAnswer_kept ..) rfl Kept.here
  · exact Kept.step (State.outputAnswer_kept ..) rfl Kept.here
  · exact Kept.here

theorem execReadData_kept (i : Nat) (s : State) : KeptR 75557939809097044682308 s (execReadData i s) := by
  unfold execReadData
  refine State.packetRow_kept rfl Kept.here (fun a a1 h_a1 => ?_)
  · refine Kept.ite ?_ ?_
    · refine KeptO.getD ?_ ?_
      · exact KeptO.step (State.memPoolAnswer?_kept ..) rfl h_a1
      · exact h_a1
    · exact Kept.step (State.readDataRill_kept ..) rfl h_a1

theorem execAck_kept (i : Nat) (s : State) : KeptR 680564733841877002484689059145355886532 s (execAck i s) := by
  unfold execAck
  refine State.packetRow_kept rfl Kept.here (fun a a1 h_a1 => ?_)
  · refine Kept.ite ?_ ?_
    · exact Kept.step (State.ackEdge_kept ..) rfl h_a1
    · exact Kept.step (State.ackRill_kept ..) rfl h_a1

theorem State.hwCredit_kept (s : State) (p : Packet) (h1 : HwStream) : Kept 590954500 s (State.hwCredit s p h1) := by
  unfold State.hwCredit
  refine Kept.ite ?_ ?_
  · exact Kept.here
  · exact Kept.step (State.hwAfter_kept ..) rfl (Kept.step (State.setHw_kept ..) rfl Kept.here)

theorem State.screditEdge_kept (s : State) (p : Packet) : Kept 3390894455209988 s (State.screditEdge s p) := by
  unfold State.screditEdge
  split
  · exact Kept.step (State.hwCredit_kept ..) rfl Kept.here
  · exact Kept.step (State.ezCredit_kept ..) rfl Kept.here
  · exact Kept.here

theorem execScredit_kept (i : Nat) (s : State) : KeptR 3390894455218180 s (execScredit i s) := by
  unfold execScredit
  refine State.packetRow_kept rfl Kept.here (fun a a1 h_a1 => ?_)
  · refine Kept.ite ?_ ?_
    · exact Kept.step (State.screditEdge_kept ..) rfl h_a1
    · exact Kept.step (State.screditRill_kept ..) rfl h_a1

end Sys2Proof.Machine
end

