-- ==== Sys2Proof/Laws/KeepStacks.lean ====
section
/-! SUPPORT. What each operation and each command of Machine/Stacks.lean leaves as it was: one frame lemma for each. -/

namespace Sys2Proof.Machine

theorem State.populate_kept (s : State) (x : Part) : Kept 4 s (State.populate s x) := by
  unfold State.populate
  split
  · exact Kept.here
  · refine Kept.foldl _ (fun x1 h_x1 a => ?_) ?_
    · exact Kept.step (State.setPst_kept ..) rfl (Kept.step (State.setRegN_kept ..) rfl h_x1)
    · exact Kept.step (State.setRegN_kept ..) rfl (Kept.step (State.setF_kept ..) rfl Kept.here)

theorem State.dropTlb_kept (s : State) (c : Nat) : Kept 402653184 s (State.dropTlb s c) := by
  unfold State.dropTlb
  exact Kept.upd_tlb_walkCache (s := s) rfl Kept.here

theorem State.invalStart_kept (s : State) (c : Nat) (whole : Bool) : Kept 469762052 s (State.invalStart s c whole) := by
  unfold State.invalStart
  extract_lets -merge -underBinder +onlyGivenNames va len gone dropped marks
  try clear_value va len gone dropped marks
  extract_lets -merge -underBinder +onlyGivenNames s1
  have h_s1 : Kept 469762052 s s1 := by
    unfold s1
    exact Kept.step (State.setB_kept ..) rfl Kept.here
  try clear_value s1
  exact Kept.upd_memReqs_tlb_walkCache (s := s1) rfl h_s1

theorem State.invalGo_kept (s : State) (c : Nat) (range : Bool) : Kept 469762052 s (State.invalGo s c range) := by
  unfold State.invalGo
  extract_lets -merge -underBinder +onlyGivenNames s1
  have h_s1 : Kept 469762052 s s1 := by
    unfold s1
    exact Kept.step (State.setB_kept ..) rfl Kept.here
  try clear_value s1
  refine Kept.ite ?_ ?_
  · exact Kept.step (State.setB_kept ..) rfl h_s1
  · exact Kept.step (State.invalStart_kept ..) rfl h_s1

theorem State.setWrite_kept (s : State) (c : Nat) (which : Nat) (v : W32) : Kept 12 s (State.setWrite s c which v) := by
  unfold State.setWrite
  refine Kept.ite ?_ ?_
  · exact Kept.step (State.ignored_kept ..) rfl Kept.here
  · refine Kept.ite ?_ ?_
    · refine Kept.ite ?_ ?_
      · exact Kept.step (State.ignored_kept ..) rfl Kept.here
      · exact Kept.step (State.setReg_kept ..) rfl Kept.here
    · refine Kept.ite ?_ ?_
      · exact Kept.upd_staged (s := s) rfl Kept.here
      · extract_lets -merge -underBinder +onlyGivenNames lo
        try clear_value lo
        extract_lets -merge -underBinder +onlyGivenNames src
        have h_src : Kept 12 s src := by
          unfold src
          exact Kept.step (State.setReg_kept ..) rfl (Kept.step (State.setReg_kept ..) rfl Kept.here)
        try clear_value src
        exact Kept.upd_staged (s := src) rfl h_src

theorem State.stackAtStop_kept (s : State) (pos : Nat) : Kept 4 s (State.stackAtStop s pos) := by
  unfold State.stackAtStop
  refine State.stopDone_kept rfl (Kept.step (State.setB_kept ..) rfl Kept.here) (fun a h_a => ?_)
  · exact h_a

theorem execStackTempSample_kept (pos : Nat) (temp : Nat) (s : State) : KeptR 3735556 s (execStackTempSample pos temp s) := by
  unfold execStackTempSample
  refine onUnit_kept rfl Kept.here (fun a h_a => ?_)
  · extract_lets -merge -underBinder +onlyGivenNames was now
    try clear_value was now
    extract_lets -merge -underBinder +onlyGivenNames s1
    have h_s1 : Kept 3735556 s s1 := by
      unfold s1
      exact Kept.step (State.setB_kept ..) rfl (Kept.step (State.setB_kept ..) rfl h_a)
    try clear_value s1
    refine Kept.ite ?_ ?_
    · exact Kept.step (State.cairnLog_kept ..) rfl h_s1
    · exact h_s1

theorem State.stackLost_kept (s : State) (pos : Nat) : Kept 3739908 s (State.stackLost s pos) := by
  unfold State.stackLost
  extract_lets -merge -underBinder +onlyGivenNames s1
  have h_s1 : Kept 3739908 s s1 := by
    unfold s1
    exact Kept.upd_stack_stackPoison (s := s) rfl (fun w => (memClear_wf _ _ _ w)) Kept.here
  try clear_value s1
  extract_lets -merge -underBinder +onlyGivenNames s2
  have h_s2 : Kept 3739908 s s2 := by
    unfold s2
    exact Kept.step (State.setB_kept ..) rfl h_s1
  try clear_value s2
  refine Kept.step (State.cairnLog_kept ..) rfl ?_
  refine State.pageFault_kept rfl h_s2 (fun a h_a => ?_)
  · exact Kept.step (State.stackAtStop_kept ..) rfl h_a

theorem execStackFail_kept (pos : Nat) (s : State) : KeptR 3739908 s (execStackFail pos s) := by
  unfold execStackFail
  refine onUnit_kept rfl Kept.here (fun a h_a => ?_)
  · exact Kept.step (State.stackLost_kept ..) rfl h_a

theorem execStackUncorrError_kept (pos : Nat) (offset : Nat) (now : Nat) (s : State) : KeptR 4503599631110406 s (execStackUncorrError pos offset now s) := by
  unfold execStackUncorrError
  refine onUnit_kept rfl Kept.here (fun a h_a => ?_)
  · extract_lets -merge -underBinder +onlyGivenNames s1
    have h_s1 : Kept 4503599631110406 s s1 := by
      unfold s1
      exact Kept.step (State.atTime_kept ..) rfl h_a
    try clear_value s1
    extract_lets -merge -underBinder +onlyGivenNames s2
    have h_s2 : Kept 4503599631110406 s s2 := by
      unfold s2
      exact Kept.upd_stackPoison (s := s1) rfl h_s1
    try clear_value s2
    extract_lets -merge -underBinder +onlyGivenNames s3
    have h_s3 : Kept 4503599631110406 s s3 := by
      unfold s3
      exact Kept.step (State.cairnLog_kept ..) rfl (Kept.step (State.errBit_kept ..) rfl (Kept.step (State.incSat_kept ..) rfl h_s2))
    try clear_value s3
    extract_lets -merge -underBinder +onlyGivenNames times
    try clear_value times
    extract_lets -merge -underBinder +onlyGivenNames s4
    have h_s4 : Kept 4503599631110406 s s4 := by
      unfold s4
      exact Kept.upd_stackErrs (s := s3) rfl h_s3
    try clear_value s4
    refine Kept.ite ?_ ?_
    · exact Kept.step (State.stackLost_kept ..) rfl h_s4
    · exact h_s4

theorem execStackTrainingDone_kept (pos : Nat) (ok : Bool) (repairs : Nat) (s : State) : KeptR 4503599627374852 s (execStackTrainingDone pos ok repairs s) := by
  unfold execStackTrainingDone
  refine onUnit_kept rfl Kept.here (fun a h_a => ?_)
  · extract_lets -merge -underBinder +onlyGivenNames s1
    have h_s1 : Kept 4503599627374852 s s1 := by
      unfold s1
      exact Kept.step (State.setRegN_kept ..) rfl h_a
    try clear_value s1
    refine Kept.ite ?_ ?_
    · extract_lets -merge -underBinder +onlyGivenNames s2
      have h_s2 : Kept 4503599627374852 s s2 := by
        unfold s2
        exact Kept.upd_stack_stackPoison_stackErrs (s := s1) rfl (fun w => (memClear_wf _ _ _ w)) h_s1
      try clear_value s2
      refine State.startDone_kept rfl (Kept.step (State.setB_kept ..) rfl h_s2) (fun a1 h_a1 => ?_)
      · exact Kept.step (State.stackAtStop_kept ..) rfl h_a1
    · refine State.pageFault_kept rfl h_s1 (fun a2 h_a2 => ?_)
      · exact Kept.step (State.stackAtStop_kept ..) rfl h_a2

theorem execTranslationStartDone_kept (ctx : Nat) (s : State) : KeptR 4 s (execTranslationStartDone ctx s) := by
  unfold execTranslationStartDone
  refine onUnit_kept rfl Kept.here (fun a h_a => ?_)
  · refine Kept.ite ?_ ?_
    · refine State.startDone_kept rfl h_a (fun a1 h_a1 => ?_)
      · exact h_a1
    · refine State.pageFault_kept rfl (Kept.step (State.errBit_kept ..) rfl h_a) (fun a2 h_a2 => ?_)
      · exact h_a2

theorem execTranslationStopDone_kept (ctx : Nat) (s : State) : KeptR 402653188 s (execTranslationStopDone ctx s) := by
  unfold execTranslationStopDone
  refine onUnit_kept rfl Kept.here (fun a h_a => ?_)
  · refine State.stopDone_kept rfl (Kept.step (State.dropTlb_kept ..) rfl h_a) (fun a1 h_a1 => ?_)
    · exact h_a1

theorem execSetWrite_kept (ctx : Nat) (which : Nat) (value : W32) (s : State) : KeptR 12 s (execSetWrite ctx which value s) := by
  unfold execSetWrite
  refine onUnit_kept rfl Kept.here (fun a h_a => ?_)
  · exact Kept.step (State.setWrite_kept ..) rfl h_a

theorem execInvalGo_kept (ctx : Nat) (range : Bool) (s : State) : KeptR 469762052 s (execInvalGo ctx range s) := by
  unfold execInvalGo
  refine onUnit_kept rfl Kept.here (fun a h_a => ?_)
  · exact Kept.step (State.invalGo_kept ..) rfl h_a

theorem execInvalDone_kept (ctx : Nat) (s : State) : KeptR 469762052 s (execInvalDone ctx s) := by
  unfold execInvalDone
  refine onUnit_kept rfl Kept.here (fun a h_a => ?_)
  · extract_lets -merge -underBinder +onlyGivenNames s1
    have h_s1 : Kept 469762052 s s1 := by
      unfold s1
      exact Kept.step (State.setB_kept ..) rfl h_a
    try clear_value s1
    refine Kept.ite ?_ ?_
    · exact Kept.step (State.invalStart_kept ..) rfl (Kept.step (State.setB_kept ..) rfl h_s1)
    · exact h_s1

theorem execXlFaultClear_kept (ctx : Nat) (s : State) : KeptR 4 s (execXlFaultClear ctx s) := by
  unfold execXlFaultClear
  refine onUnit_kept rfl Kept.here (fun a h_a => ?_)
  · exact Kept.step (State.setB_kept ..) rfl h_a

theorem State.bar2Segs_kept (s : State) (c : Nat) (offset : Nat) (n : Nat) (wr : Bool) : Kept 410583044 s (State.bar2Segs s c offset n wr).2 := by
  unfold State.bar2Segs
  extract_lets -merge -underBinder +onlyGivenNames a
  try clear_value a
  refine Kept.ite2 ?_ ?_
  · split
    · rename_i val s1 hq
      have h_s1 := Kept.eq2 hq (m := 410583044) (s0 := s) (by
        exact Kept.step (State.translate_kept ..) rfl Kept.here
        )
      clear hq
      refine Kept.pair2 ?_
      exact h_s1
    · rename_i l s2 hq1
      have h_s2 := Kept.eq2 hq1 (m := 410583044) (s0 := s) (by
        exact Kept.step (State.translate_kept ..) rfl Kept.here
        )
      clear hq1
      refine Kept.pair2 ?_
      exact h_s2
  · extract_lets -merge -underBinder +onlyGivenNames e
    try clear_value e
    split
    · refine Kept.pair2 ?_
      exact Kept.step (State.xlLatch_kept ..) rfl Kept.here
    · refine Kept.pair2 ?_
      exact Kept.here

theorem execBar2Read_kept (fn : Nat) (offset : Nat) (len : Nat) (tlp : Tlp) (corrected : Corrected) (s : State) : KeptR 410583044 s (execBar2Read fn offset len tlp corrected s) := by
  unfold execBar2Read
  refine onUnit_kept rfl Kept.here (fun a h_a => ?_)
  · extract_lets -merge -underBinder +onlyGivenNames s1
    have h_s1 : Kept 410583044 s s1 := by
      unfold s1
      exact Kept.step (State.tlpOut_kept ..) rfl (Kept.step (State.tlpIn_kept ..) rfl h_a)
    try clear_value s1
    refine Kept.ite ?_ ?_
    · exact Kept.step (State.urSent_kept ..) rfl h_s1
    · refine Kept.ite ?_ ?_
      · exact Kept.step (State.emit_kept ..) rfl h_s1
      · split
        · rename_i s2 hq
          have h_s2 := Kept.eq2 hq (m := 410583044) (s0 := s) (by
            exact Kept.step (State.bar2Segs_kept ..) rfl (Kept.step (State.eccCorr_kept ..) rfl h_s1)
            )
          clear hq
          exact Kept.step (State.emit_kept ..) rfl h_s2
        · rename_i l s3 hq1
          have h_s3 := Kept.eq2 hq1 (m := 410583044) (s0 := s) (by
            exact Kept.step (State.bar2Segs_kept ..) rfl (Kept.step (State.eccCorr_kept ..) rfl h_s1)
            )
          clear hq1
          exact Kept.step (State.emit_kept ..) rfl h_s3

theorem execBar2Write_kept (fn : Nat) (offset : Nat) (bytes : List Byte) (tlp : Tlp) (corrected : Corrected) (s : State) : KeptR 410587396 s (execBar2Write fn offset bytes tlp corrected s) := by
  unfold execBar2Write
  refine onUnit_kept rfl Kept.here (fun a h_a => ?_)
  · extract_lets -merge -underBinder +onlyGivenNames s1
    have h_s1 : Kept 410587396 s s1 := by
      unfold s1
      exact Kept.step (State.tlpIn_kept ..) rfl h_a
    try clear_value s1
    refine Kept.ite ?_ ?_
    · exact Kept.step (State.urSent_kept ..) rfl h_s1
    · refine Kept.ite ?_ ?_
      · exact h_s1
      · split
        · rename_i s2 hq
          have h_s2 := Kept.eq2 hq (m := 410587396) (s0 := s) (by
            exact Kept.step (State.bar2Segs_kept ..) rfl (Kept.step (State.eccCorr_kept ..) rfl h_s1)
            )
          clear hq
          exact h_s2
        · rename_i l s3 hq1
          have h_s3 := Kept.eq2 hq1 (m := 410587396) (s0 := s) (by
            exact Kept.step (State.bar2Segs_kept ..) rfl (Kept.step (State.eccCorr_kept ..) rfl h_s1)
            )
          clear hq1
          exact Kept.step (State.segsWrite_kept ..) rfl h_s3

end Sys2Proof.Machine
end

