-- ==== Sys2Proof/Laws/KeepPower.lean ====
section
/-! SUPPORT. What each operation and each command of Machine/Power.lean leaves as it was: one frame lemma for each. -/

namespace Sys2Proof.Machine

theorem State.pitchSync_kept (s : State) (p : Nat) : Kept 4 s (State.pitchSync s p) := by
  unfold State.pitchSync
  extract_lets -merge -underBinder +onlyGivenNames a
  try clear_value a
  extract_lets -merge -underBinder +onlyGivenNames s1
  have h_s1 : Kept 4 s s1 := by
    unfold s1
    exact Kept.step (State.setB_kept ..) rfl (Kept.step (State.setB_kept ..) rfl Kept.here)
  try clear_value s1
  exact Kept.step (State.setF_kept ..) rfl h_s1

theorem State.wipeRills_kept (s : State) (ks : List Nat) : Kept 3264 s (State.wipeRills s ks) := by
  unfold State.wipeRills
  exact Kept.upd_store_pool_storePoison_poolPoison (s := s) rfl (fun w => (mem_wf_filter _ _ w)) (fun w => (mem_wf_filter _ _ w)) Kept.here

theorem State.pitchTakeHold_kept (s : State) : Kept 75557863727013835046916 s (State.pitchTakeHold s) := by
  unfold State.pitchTakeHold
  refine Kept.foldl _ (fun x h_x a => ?_) ?_
  · refine Kept.ite ?_ ?_
    · extract_lets -merge -underBinder +onlyGivenNames src src1
      try clear_value src
      have h_src1 : Kept 75557863727013835046916 s src1 := by
        unfold src1
        exact Kept.step (State.setRstate_kept ..) rfl (Kept.step (State.setRcv_kept ..) rfl h_x)
      try clear_value src1
      exact Kept.upd_pitchHeld (s := src1) rfl h_src1
    · refine Kept.ite ?_ ?_
      · exact Kept.upd_pitchHeld (s := x) rfl h_x
      · exact h_x
  · exact Kept.here

theorem State.weirWrite_kept (s : State) (off : Nat) (v : W32) : Kept 295147905179352825868 s (State.weirWrite s off v) := by
  unfold State.weirWrite
  refine Kept.ite ?_ ?_
  · refine Kept.ite ?_ ?_
    · exact Kept.step (State.ignored_kept ..) rfl Kept.here
    · exact Kept.upd_staged (s := s) rfl Kept.here
  · extract_lets -merge -underBinder +onlyGivenNames lo key x
    try clear_value lo key x
    extract_lets -merge -underBinder +onlyGivenNames s1
    have h_s1 : Kept 295147905179352825868 s s1 := by
      unfold s1
      refine Kept.ite ?_ ?_
      · exact Kept.upd_staged (s := s) rfl Kept.here
      · exact Kept.here
    try clear_value s1
    refine Kept.ite ?_ ?_
    · exact Kept.step (State.ignored_kept ..) rfl h_s1
    · exact Kept.upd_weirPend (s := s1) rfl h_s1

theorem State.retSync_kept (s : State) (p : Nat) : Kept 302231454903657293676548 s (State.retSync s p) := by
  unfold State.retSync
  refine Kept.ite ?_ ?_
  · exact Kept.here
  · extract_lets -merge -underBinder +onlyGivenNames ret
    try clear_value ret
    extract_lets -merge -underBinder +onlyGivenNames src
    have h_src : Kept 302231454903657293676548 s src := by
      unfold src
      exact Kept.step (State.setB_kept ..) rfl Kept.here
    try clear_value src
    exact Kept.upd_unpowered (s := src) rfl h_src

theorem State.pitchBegin_kept (s : State) (p : Nat) : Kept 94447329658492415901700 s (State.pitchBegin s p) := by
  unfold State.pitchBegin
  exact Kept.step (State.pitchTakeHold_kept ..) rfl (Kept.upd_pitchWait (s := s) rfl Kept.here)

theorem State.pitchEn_kept (s : State) (p : Nat) : Kept 245563057110321062739972 s (State.pitchEn s p) := by
  unfold State.pitchEn
  refine Kept.ite ?_ ?_
  · exact Kept.step (State.ignored_kept ..) rfl Kept.here
  · refine Kept.ite ?_ ?_
    · exact Kept.upd_railTest (s := s) rfl Kept.here
    · refine State.enReqOn_kept rfl Kept.here (fun a h_a => ?_)
      · exact Kept.step (State.pitchBegin_kept ..) rfl h_a

theorem State.pitchTable_kept (s : State) (p : Nat) : Kept 1208925819614629178441732 s (State.pitchTable s p) := by
  unfold State.pitchTable
  extract_lets -merge -underBinder +onlyGivenNames ks gone
  try clear_value ks gone
  extract_lets -merge -underBinder +onlyGivenNames s1
  have h_s1 : Kept 1208925819614629178441732 s s1 := by
    unfold s1
    exact Kept.upd_isoKept (s := s) rfl Kept.here
  try clear_value s1
  extract_lets -merge -underBinder +onlyGivenNames s2
  have h_s2 : Kept 1208925819614629178441732 s s2 := by
    unfold s2
    refine Kept.foldl _ (fun x h_x a => ?_) ?_
    · exact Kept.step (State.setCmt_kept ..) rfl h_x
    · exact h_s1
  try clear_value s2
  extract_lets -merge -underBinder +onlyGivenNames s3
  have h_s3 : Kept 1208925819614629178441732 s s3 := by
    unfold s3
    exact Kept.step (State.addSat_kept ..) rfl (Kept.step (State.cmtGen_kept ..) rfl (Kept.step (State.setDeadReach_kept ..) rfl h_s2))
  try clear_value s3
  exact Kept.step (State.cairnLog_kept ..) rfl h_s3

theorem State.pitchLost_kept (s : State) (p : Nat) : Kept 3702335398652984568799748 s (State.pitchLost s p) := by
  unfold State.pitchLost
  extract_lets -merge -underBinder +onlyGivenNames s1
  have h_s1 : Kept 3702335398652984568799748 s s1 := by
    unfold s1
    exact Kept.step (State.linkLoss_kept ..) rfl (Kept.step (State.absentSync_kept ..) rfl (Kept.step (State.pitchSync_kept ..) rfl Kept.here))
  try clear_value s1
  extract_lets -merge -underBinder +onlyGivenNames s2
  have h_s2 : Kept 3702335398652984568799748 s s2 := by
    unfold s2
    refine Kept.foldl _ (fun x h_x a => ?_) ?_
    · split
      · exact Kept.step (State.setRill_kept ..) rfl h_x
      · exact h_x
    · exact h_s1
  try clear_value s2
  extract_lets -merge -underBinder +onlyGivenNames own
  try clear_value own
  extract_lets -merge -underBinder +onlyGivenNames s3
  have h_s3 : Kept 3702335398652984568799748 s s3 := by
    unfold s3
    exact Kept.step (State.holdFor_kept ..) rfl h_s2
  try clear_value s3
  refine Kept.ite ?_ ?_
  · exact Kept.step (State.pitchTable_kept ..) rfl h_s3
  · exact Kept.upd_isoPend (s := s3) rfl h_s3

theorem State.pitchOut_kept (s : State) (p : Nat) (cause : Nat) : Kept 25292994882249819764555780 s (State.pitchOut s p cause) := by
  unfold State.pitchOut
  extract_lets -merge -underBinder +onlyGivenNames s1
  have h_s1 : Kept 25292994882249819764555780 s s1 := by
    unfold s1
    exact Kept.step (State.isolatePage_kept ..) rfl Kept.here
  try clear_value s1
  extract_lets -merge -underBinder +onlyGivenNames s2
  have h_s2 : Kept 25292994882249819764555780 s s2 := by
    unfold s2
    exact Kept.step (State.setF_kept ..) rfl (Kept.step (State.setB_kept ..) rfl (Kept.step (State.setB_kept ..) rfl (Kept.step (State.setB_kept ..) rfl h_s1)))
  try clear_value s2
  exact Kept.upd_pitchWait_pitchRun_railTest_unpowered_hotPitches_startPend_testing (s := s2) rfl h_s2

theorem State.pitchIsolateReq_kept (s : State) (p : Nat) : Kept 28995330280903354491856452 s (State.pitchIsolateReq s p) := by
  unfold State.pitchIsolateReq
  refine Kept.ite ?_ ?_
  · exact Kept.step (State.pitchResume_kept ..) rfl (Kept.step (State.pitchLost_kept ..) rfl (Kept.step (State.pitchOut_kept ..) rfl Kept.here))
  · exact Kept.step (State.ignored_kept ..) rfl Kept.here

theorem State.pitchStop_kept (s : State) (p : Nat) : Kept 94447329658492415901700 s (State.pitchStop s p) := by
  unfold State.pitchStop
  refine Kept.ite ?_ ?_
  · refine Kept.step (State.pitchSync_kept ..) rfl ?_
    refine State.stopReqOn_kept rfl Kept.here (fun a h_a => ?_)
    · exact Kept.step (State.pitchBegin_kept ..) rfl h_a
  · exact Kept.step (State.ignored_kept ..) rfl Kept.here

theorem State.pitchTrip_kept (s : State) (p : Nat) (cause : Nat) (peak : Nat) : Kept 28995330280903354491856452 s (State.pitchTrip s p cause peak) := by
  unfold State.pitchTrip
  extract_lets -merge -underBinder +onlyGivenNames s1
  have h_s1 : Kept 28995330280903354491856452 s s1 := by
    unfold s1
    exact Kept.step (State.incSat_kept ..) rfl (Kept.step (State.pitchOut_kept ..) rfl Kept.here)
  try clear_value s1
  exact Kept.step (State.pitchResume_kept ..) rfl (Kept.step (State.pitchLost_kept ..) rfl (Kept.step (State.cairnLog_kept ..) rfl h_s1))

theorem execPitchIsolate_kept (pitch : Nat) (cause : Nat) (peak : Nat) (now : Nat) (s : State) : KeptR 28995330280903354491856454 s (execPitchIsolate pitch cause peak now s) := by
  unfold execPitchIsolate
  extract_lets -merge -underBinder +onlyGivenNames cond
  try clear_value cond
  refine onUnit_kept rfl Kept.here (fun a h_a => ?_)
  · exact Kept.step (State.pitchTrip_kept ..) rfl (Kept.step (State.atTime_kept ..) rfl h_a)

theorem execEfuseClear_kept (pitch : Nat) (current : Nat) (s : State) : KeptR 4 s (execEfuseClear pitch current s) := by
  unfold execEfuseClear
  extract_lets -merge -underBinder +onlyGivenNames cause
  try clear_value cause
  refine onUnit_kept rfl Kept.here (fun a h_a => ?_)
  · exact Kept.step (State.setF_kept ..) rfl (Kept.step (State.setB_kept ..) rfl h_a)

theorem execPitchThermalThrottle_kept (pitch : Nat) (temp : Nat) (s : State) : KeptR 604462909807314587361280 s (execPitchThermalThrottle pitch temp s) := by
  unfold execPitchThermalThrottle
  refine onUnit_kept rfl Kept.here (fun a h_a => ?_)
  · extract_lets -merge -underBinder +onlyGivenNames src
    have h_src : Kept 604462909807314587361280 s src := by
      unfold src
      exact Kept.step (State.wdSyncAll_kept ..) rfl h_a
    try clear_value src
    exact Kept.upd_hotPitches (s := src) rfl h_src

theorem execPitchThermalRecover_kept (pitch : Nat) (temp : Nat) (s : State) : KeptR 604462909807314587361280 s (execPitchThermalRecover pitch temp s) := by
  unfold execPitchThermalRecover
  refine onUnit_kept rfl Kept.here (fun a h_a => ?_)
  · extract_lets -merge -underBinder +onlyGivenNames src
    have h_src : Kept 604462909807314587361280 s src := by
      unfold src
      exact Kept.step (State.wdSyncAll_kept ..) rfl h_a
    try clear_value src
    exact Kept.upd_hotPitches (s := src) rfl h_src

theorem execPitchRailTestDone_kept (pitch : Nat) (mv : Nat) (s : State) : KeptR 547794512013978356416516 s (execPitchRailTestDone pitch mv s) := by
  unfold execPitchRailTestDone
  refine onUnit_kept rfl Kept.here (fun a h_a => ?_)
  · extract_lets -merge -underBinder +onlyGivenNames s1
    have h_s1 : Kept 547794512013978356416516 s s1 := by
      unfold s1
      exact Kept.upd_railTest (s := a) rfl h_a
    try clear_value s1
    refine Kept.ite ?_ ?_
    · refine Kept.step (State.pitchSync_kept ..) rfl ?_
      refine Kept.step (State.retSync_kept ..) rfl ?_
      refine State.enReqOn_kept rfl h_s1 (fun a1 h_a1 => ?_)
      · exact Kept.step (State.pitchBegin_kept ..) rfl h_a1
    · exact Kept.step (State.incSat_kept ..) rfl (Kept.step (State.setF_kept ..) rfl h_s1)

theorem State.rejoin_kept (s : State) (p : Nat) : Kept 77446810395145364225879748 s (State.rejoin s p) := by
  unfold State.rejoin
  extract_lets -merge -underBinder +onlyGivenNames stale
  try clear_value stale
  extract_lets -merge -underBinder +onlyGivenNames s1
  have h_s1 : Kept 77446810395145364225879748 s s1 := by
    unfold s1
    exact Kept.step (State.setF_kept ..) rfl (Kept.step (State.wipeRills_kept ..) rfl Kept.here)
  try clear_value s1
  refine Kept.ite ?_ ?_
  · exact h_s1
  · extract_lets -merge -underBinder +onlyGivenNames own
    try clear_value own
    extract_lets -merge -underBinder +onlyGivenNames s2
    have h_s2 : Kept 77446810395145364225879748 s s2 := by
      unfold s2
      exact Kept.step (State.cairnLog_kept ..) rfl h_s1
    try clear_value s2
    extract_lets -merge -underBinder +onlyGivenNames s3
    have h_s3 : Kept 77446810395145364225879748 s s3 := by
      unfold s3
      refine Kept.ite ?_ ?_
      · exact h_s2
      · exact Kept.step (State.setB_kept ..) rfl h_s2
    try clear_value s3
    exact Kept.step (State.holdFor_kept ..) rfl (Kept.upd_staleWait (s := s3) rfl h_s3)

theorem State.pitchPresent_kept (s : State) (p : Nat) : Kept 10880332376531662572355588 s (State.pitchPresent s p) := by
  unfold State.pitchPresent
  extract_lets -merge -underBinder +onlyGivenNames ks
  try clear_value ks
  refine Kept.ite ?_ ?_
  · exact Kept.here
  · extract_lets -merge -underBinder +onlyGivenNames s1
    have h_s1 : Kept 10880332376531662572355588 s s1 := by
      unfold s1
      refine Kept.foldl _ (fun x h_x a => ?_) ?_
      · split
        · exact Kept.step (State.setF_kept ..) rfl (Kept.step (State.setF_kept ..) rfl h_x)
        · exact Kept.step (State.countPresent_kept ..) rfl (Kept.step (State.setF_kept ..) rfl (Kept.step (State.setF_kept ..) rfl h_x))
      · exact Kept.here
    try clear_value s1
    extract_lets -merge -underBinder +onlyGivenNames src
    have h_src : Kept 10880332376531662572355588 s src := by
      unfold src
      exact Kept.step (State.cmtGen_kept ..) rfl h_s1
    try clear_value src
    exact Kept.upd_isoKept_cmtDue (s := src) rfl h_src

theorem State.pitchJoin_kept (s : State) (p : Nat) : Kept 112807890618873267586035396 s (State.pitchJoin s p) := by
  unfold State.pitchJoin
  extract_lets -merge -underBinder +onlyGivenNames s1
  have h_s1 : Kept 112807890618873267586035396 s s1 := by
    unfold s1
    exact Kept.step (State.rejoin_kept ..) rfl (Kept.step (State.pitchPresent_kept ..) rfl (Kept.upd_startPend (s := s) rfl Kept.here))
  try clear_value s1
  extract_lets -merge -underBinder +onlyGivenNames s2
  have h_s2 : Kept 112807890618873267586035396 s s2 := by
    unfold s2
    exact Kept.upd_unpowered_testing (s := s1) rfl h_s1
  try clear_value s2
  exact Kept.step (State.absentSync_kept ..) rfl (Kept.step (State.pitchSync_kept ..) rfl (Kept.step (State.setDeadReach_kept ..) rfl h_s2))

theorem execPitchStartDone_kept (pitch : Nat) (now : Nat) (s : State) : KeptR 112864559016668253487099590 s (execPitchStartDone pitch now s) := by
  unfold execPitchStartDone
  split
  · refine onUnit_kept rfl Kept.here (fun a h_a => ?_)
    · exact h_a
  · refine onUnit_kept rfl Kept.here (fun a1 h_a1 => ?_)
    · extract_lets -merge -underBinder +onlyGivenNames s1
      have h_s1 : Kept 112864559016668253487099590 s s1 := by
        unfold s1
        exact Kept.step (State.atTime_kept ..) rfl h_a1
      try clear_value s1
      extract_lets -merge -underBinder +onlyGivenNames s2
      have h_s2 : Kept 112864559016668253487099590 s s2 := by
        unfold s2
        exact Kept.upd_pitchRun (s := s1) rfl h_s1
      try clear_value s2
      extract_lets -merge -underBinder +onlyGivenNames s3
      have h_s3 : Kept 112864559016668253487099590 s s3 := by
        unfold s3
        exact Kept.step (State.incWrap_kept ..) rfl (Kept.step (State.setF_kept ..) rfl (Kept.step (State.setB_kept ..) rfl h_s2))
      try clear_value s3
      extract_lets -merge -underBinder +onlyGivenNames s4
      have h_s4 : Kept 112864559016668253487099590 s s4 := by
        unfold s4
        refine Kept.foldl _ (fun x h_x a2 => ?_) ?_
        · split
          · exact Kept.step (State.setRill_kept ..) rfl h_x
          · exact h_x
        · exact h_s3
      try clear_value s4
      extract_lets -merge -underBinder +onlyGivenNames s5
      have h_s5 : Kept 112864559016668253487099590 s s5 := by
        unfold s5
        refine State.startDone_kept rfl h_s4 (fun a3 h_a3 => ?_)
        · exact Kept.step (State.pitchBegin_kept ..) rfl h_a3
      try clear_value s5
      refine Kept.ite ?_ ?_
      · exact Kept.step (State.pitchResume_kept ..) rfl (Kept.step (State.pitchJoin_kept ..) rfl h_s5)
      · extract_lets -merge -underBinder +onlyGivenNames src
        have h_src : Kept 112864559016668253487099590 s src := by
          unfold src
          exact Kept.step (State.pitchSync_kept ..) rfl h_s5
        try clear_value src
        exact Kept.upd_startPend (s := src) rfl h_src

theorem execPitchPowerGoodTimeout_kept (pitch : Nat) (now : Nat) (s : State) : KeptR 28995330280903354491856454 s (execPitchPowerGoodTimeout pitch now s) := by
  unfold execPitchPowerGoodTimeout
  split
  · refine onUnit_kept rfl Kept.here (fun a h_a => ?_)
    · exact h_a
  · refine onUnit_kept rfl Kept.here (fun a1 h_a1 => ?_)
    · split
      · rename_i v s1 hq
        have h_s1 := Kept.eq2 hq (m := 28995330280903354491856454) (s0 := s) (by
          exact Kept.step (State.draw64_kept ..) rfl (Kept.step (State.atTime_kept ..) rfl h_a1)
          )
        clear hq
        exact Kept.step (State.pitchTrip_kept ..) rfl h_s1

theorem execPitchStopDone_kept (pitch : Nat) (now : Nat) (s : State) : KeptR 434457716425931966113350 s (execPitchStopDone pitch now s) := by
  unfold execPitchStopDone
  split
  · refine onUnit_kept rfl Kept.here (fun a h_a => ?_)
    · exact h_a
  · refine onUnit_kept rfl Kept.here (fun a1 h_a1 => ?_)
    · extract_lets -merge -underBinder +onlyGivenNames ret
      try clear_value ret
      extract_lets -merge -underBinder +onlyGivenNames s1
      have h_s1 : Kept 434457716425931966113350 s s1 := by
        unfold s1
        exact Kept.step (State.atTime_kept ..) rfl h_a1
      try clear_value s1
      extract_lets -merge -underBinder +onlyGivenNames s2
      have h_s2 : Kept 434457716425931966113350 s s2 := by
        unfold s2
        exact Kept.upd_pitchRun_unpowered (s := s1) rfl h_s1
      try clear_value s2
      extract_lets -merge -underBinder +onlyGivenNames s3
      have h_s3 : Kept 434457716425931966113350 s s3 := by
        unfold s3
        exact Kept.step (State.setB_kept ..) rfl (Kept.step (State.setB_kept ..) rfl h_s2)
      try clear_value s3
      refine Kept.step (State.pitchResume_kept ..) rfl ?_
      refine Kept.step (State.pitchSync_kept ..) rfl ?_
      refine State.stopDone_kept rfl h_s3 (fun a2 h_a2 => ?_)
      · exact Kept.step (State.pitchBegin_kept ..) rfl h_a2

theorem State.weirApply_kept (s : State) : Kept 295147905179352825860 s (State.weirApply s) := by
  unfold State.weirApply
  extract_lets -merge -underBinder +onlyGivenNames s1
  have h_s1 : Kept 295147905179352825860 s s1 := by
    unfold s1
    refine Kept.foldl _ (fun x h_x a => ?_) ?_
    · refine Kept.ite ?_ ?_
      · exact Kept.step (State.setReg64_kept ..) rfl h_x
      · exact Kept.step (State.setRegN_kept ..) rfl h_x
    · exact Kept.here
  try clear_value s1
  exact Kept.upd_weirPend (s := s1) rfl h_s1

theorem State.weirLimit_kept (s : State) : Kept 3735556 s (State.weirLimit s) := by
  unfold State.weirLimit
  refine Kept.ite ?_ ?_
  · exact Kept.here
  · exact Kept.step (State.setB_kept ..) rfl (Kept.step (State.incSat_kept ..) rfl (Kept.step (State.cairnLog_kept ..) rfl Kept.here))

theorem State.weirBand_kept (s : State) (inMw : Nat) : Kept 3735556 s (State.weirBand s inMw) := by
  unfold State.weirBand
  refine Kept.ite ?_ ?_
  · exact Kept.here
  · refine Kept.ite ?_ ?_
    · exact Kept.step (State.weirLimit_kept ..) rfl Kept.here
    · refine Kept.ite ?_ ?_
      · exact Kept.step (State.setB_kept ..) rfl Kept.here
      · exact Kept.here

theorem State.weirMove_kept (s : State) (b : Nat) (d : Nat) (ceil : Nat) : Kept 281312847124074397700 s (State.weirMove s b d ceil) := by
  unfold State.weirMove
  extract_lets -merge -underBinder +onlyGivenNames mode
  try clear_value mode
  refine Kept.ite ?_ ?_
  · exact Kept.here
  · extract_lets -merge -underBinder +onlyGivenNames stepMax deff up down sp
    try clear_value stepMax deff up down sp
    extract_lets -merge -underBinder +onlyGivenNames s1
    have h_s1 : Kept 281312847124074397700 s s1 := by
      unfold s1
      exact Kept.step (State.setB_kept ..) rfl (Kept.upd_weirUp_weirDown (s := s) rfl Kept.here)
    try clear_value s1
    refine Kept.ite ?_ ?_
    · extract_lets -merge -underBinder +onlyGivenNames s2
      have h_s2 : Kept 281312847124074397700 s s2 := by
        unfold s2
        refine Kept.ite ?_ ?_
        · exact Kept.step (State.weirLimit_kept ..) rfl h_s1
        · exact h_s1
      try clear_value s2
      exact Kept.upd_weirS_weirBelow (s := s2) rfl h_s2
    · refine Kept.ite ?_ ?_
      · refine Kept.ite ?_ ?_
        · exact h_s1
        · extract_lets -merge -underBinder +onlyGivenNames s3
          have h_s3 : Kept 281312847124074397700 s s3 := by
            unfold s3
            exact Kept.upd_weirBelow (s := s1) rfl h_s1
          try clear_value s3
          refine Kept.ite ?_ ?_
          · refine Kept.ite ?_ ?_
            · exact Kept.step (State.setB_kept ..) rfl h_s3
            · extract_lets -merge -underBinder +onlyGivenNames m1
              try clear_value m1
              exact Kept.upd_weirS_weirUp_weirRest (s := s3) rfl h_s3
          · exact h_s3
      · refine Kept.ite ?_ ?_
        · extract_lets -merge -underBinder +onlyGivenNames n
          try clear_value n
          extract_lets -merge -underBinder +onlyGivenNames s4
          have h_s4 : Kept 281312847124074397700 s s4 := by
            unfold s4
            exact Kept.upd_weirBelow (s := s1) rfl h_s1
          try clear_value s4
          refine Kept.ite ?_ ?_
          · extract_lets -merge -underBinder +onlyGivenNames m2
            try clear_value m2
            exact Kept.upd_weirS_weirDown_weirRest (s := s4) rfl h_s4
          · exact h_s4
        · exact Kept.upd_weirBelow (s := s1) rfl h_s1

theorem State.leveeUp_kept (s : State) : Kept 9444732965739290427396 s (State.leveeUp s) := by
  unfold State.leveeUp
  refine Kept.foldl _ (fun x h_x a => ?_) ?_
  · refine Kept.ite ?_ ?_
    · exact Kept.step (State.setPst_kept ..) rfl h_x
    · exact h_x
  · exact Kept.upd_leveeStart (s := s) rfl Kept.here

theorem State.admitStart_kept (s : State) (p : Nat) (b : Nat) : Kept 56668397794435742564356 s (State.admitStart s p b) := by
  unfold State.admitStart
  extract_lets -merge -underBinder +onlyGivenNames s1
  have h_s1 : Kept 56668397794435742564356 s s1 := by
    unfold s1
    exact Kept.upd_pitchWait_pitchRun (s := s) rfl Kept.here
  try clear_value s1
  exact Kept.step (State.setB_kept ..) rfl (Kept.step (State.setB_kept ..) rfl h_s1)

theorem State.admitStop_kept (s : State) (p : Nat) (b : Nat) : Kept 661131307601750329925636 s (State.admitStop s p b) := by
  unfold State.admitStop
  extract_lets -merge -underBinder +onlyGivenNames s1
  have h_s1 : Kept 661131307601750329925636 s s1 := by
    unfold s1
    exact Kept.upd_pitchWait_pitchRun_hotPitches (s := s) rfl Kept.here
  try clear_value s1
  extract_lets -merge -underBinder +onlyGivenNames s2
  have h_s2 : Kept 661131307601750329925636 s s2 := by
    unfold s2
    exact Kept.upd_rills (s := s1) rfl h_s1
  try clear_value s2
  exact Kept.step (State.setDeadReach_kept ..) rfl (Kept.step (State.setB_kept ..) rfl h_s2)

theorem State.admitAll_kept (s : State) (b cm cap resv share draw : Nat) (r : WeirReading) (l : List Nat) :
    Kept 661131307601750329925636 s (State.admitAll s b cm cap resv share draw r l) := by
  induction l generalizing s resv share draw with
  | nil => exact Kept.here
  | cons p t ih =>
    unfold State.admitAll
    refine Kept.ite ?_ ?_
    · extract_lets -merge -underBinder +onlyGivenNames w
      refine Kept.ite ?_ (ih ..)
      exact Kept.step (ih ..) rfl (Kept.step (State.admitStart_kept ..) rfl Kept.here)
    · split
      refine Kept.ite ?_ (ih ..)
      exact Kept.step (ih ..) rfl (Kept.step (State.admitStop_kept ..) rfl Kept.here)

theorem State.weirAdmit_kept (s : State) (b : Nat) (r : WeirReading) : Kept 746133904294503455399940 s (State.weirAdmit s b r) := by
  unfold State.weirAdmit
  refine Kept.ite ?_ ?_
  · exact Kept.here
  · extract_lets -merge -underBinder +onlyGivenNames cm levee
    try clear_value cm levee
    extract_lets -merge -underBinder +onlyGivenNames s1
    have h_s1 : Kept 746133904294503455399940 s s1 := by
      unfold s1
      refine Kept.ite ?_ ?_
      · exact Kept.step (State.leveeUp_kept ..) rfl Kept.here
      · exact Kept.here
    try clear_value s1
    extract_lets -merge -underBinder +onlyGivenNames s2
    have h_s2 : Kept 746133904294503455399940 s s2 := by
      unfold s2
      refine Kept.ite ?_ ?_
      · exact h_s1
      · exact Kept.step (State.pitchTakeHold_kept ..) rfl h_s1
    try clear_value s2
    refine Kept.ite ?_ ?_
    · exact Kept.step (State.admitAll_kept ..) rfl h_s2
    · exact h_s2

theorem State.weirEnergy_kept (s : State) (dur : Nat) (r : WeirReading) : Kept 8264141345021879123972 s (State.weirEnergy s dur r) := by
  unfold State.weirEnergy
  extract_lets -merge -underBinder +onlyGivenNames nj bj
  try clear_value nj bj
  extract_lets -merge -underBinder +onlyGivenNames s1
  have h_s1 : Kept 8264141345021879123972 s s1 := by
    unfold s1
    exact Kept.step (State.setReg64_kept ..) rfl (Kept.step (State.setReg64_kept ..) rfl (Kept.upd_weirNj_ballNj (s := s) rfl Kept.here))
  try clear_value s1
  refine Kept.foldl _ (fun x h_x a => ?_) ?_
  · refine Kept.ite ?_ ?_
    · extract_lets -merge -underBinder +onlyGivenNames j
      try clear_value j
      exact Kept.step (State.setReg64_kept ..) rfl (Kept.upd_ptNj (s := x) rfl h_x)
    · exact h_x
  · exact h_s1

theorem State.weirMarks_kept (s : State) (r : WeirReading) : Kept 4 s (State.weirMarks s r) := by
  unfold State.weirMarks
  refine Kept.foldl _ (fun x h_x a => ?_) ?_
  · extract_lets -merge -underBinder +onlyGivenNames bits v
    try clear_value bits v
    refine Kept.ite ?_ ?_
    · exact h_x
    · exact Kept.step (State.setF_kept ..) rfl h_x
  · exact Kept.here

theorem State.vsetSync_kept (s : State) : Kept 4 s (State.vsetSync s) := by
  unfold State.vsetSync
  refine Kept.foldl _ (fun x h_x a => ?_) ?_
  · extract_lets -merge -underBinder +onlyGivenNames v
    try clear_value v
    refine Kept.ite ?_ ?_
    · exact h_x
    · exact Kept.step (State.setRegN_kept ..) rfl h_x
  · exact Kept.here

theorem State.weirShow_kept (s : State) (d : Nat) (r : WeirReading) : Kept 309485009821345068724789252 s (State.weirShow s d r) := by
  unfold State.weirShow
  extract_lets -merge -underBinder +onlyGivenNames s1
  have h_s1 : Kept 309485009821345068724789252 s s1 := by
    unfold s1
    exact Kept.step (State.setRegN_kept ..) rfl (Kept.step (State.setRegN_kept ..) rfl Kept.here)
  try clear_value s1
  extract_lets -merge -underBinder +onlyGivenNames s2
  have h_s2 : Kept 309485009821345068724789252 s s2 := by
    unfold s2
    exact Kept.step (State.setRegN_kept ..) rfl h_s1
  try clear_value s2
  extract_lets -merge -underBinder +onlyGivenNames s3
  have h_s3 : Kept 309485009821345068724789252 s s3 := by
    unfold s3
    exact Kept.step (State.setB_kept ..) rfl (Kept.step (State.setB_kept ..) rfl (Kept.step (State.setB_kept ..) rfl h_s2))
  try clear_value s3
  extract_lets -merge -underBinder +onlyGivenNames src
  have h_src : Kept 309485009821345068724789252 s src := by
    unfold src
    exact Kept.step (State.wdSyncAll_kept ..) rfl h_s3
  try clear_value src
  exact Kept.upd_weirAct (s := src) rfl h_src

theorem State.weirBegin_kept (s : State) (b : Nat) : Kept 618970905086405675508039686 s (State.weirBegin s b) := by
  unfold State.weirBegin
  extract_lets -merge -underBinder +onlyGivenNames src
  have h_src : Kept 618970905086405675508039686 s src := by
    unfold src
    exact Kept.step (State.weirApply_kept ..) rfl (Kept.step (State.utcApply_kept ..) rfl (Kept.step (State.atTime_kept ..) rfl Kept.here))
  try clear_value src
  exact Kept.upd_weirAt_weirDrawn (s := src) rfl h_src

theorem State.weirJudge_kept (s : State) (a : Nat) (b : Nat) (r : WeirReading) : Kept 1856919209089591724593446918 s (State.weirJudge s a b r).1 := by
  unfold State.weirJudge
  extract_lets -merge -underBinder +onlyGivenNames src s1
  have h_src : Kept 1856919209089591724593446918 s src := by
    unfold src
    exact Kept.step (State.weirApply_kept ..) rfl (Kept.step (State.utcApply_kept ..) rfl (Kept.step (State.atTime_kept ..) rfl Kept.here))
  try clear_value src
  have h_s1 : Kept 1856919209089591724593446918 s s1 := by
    unfold s1
    exact Kept.upd_vinMv_weirAt_weirDrawn_weirCut (s := src) rfl h_src
  try clear_value s1
  extract_lets -merge -underBinder +onlyGivenNames s2
  have h_s2 : Kept 1856919209089591724593446918 s s2 := by
    unfold s2
    exact Kept.step (State.weirMarks_kept ..) rfl (Kept.step (State.weirEnergy_kept ..) rfl (Kept.step (State.weirBand_kept ..) rfl h_s1))
  try clear_value s2
  split
  · refine Kept.pair1 ?_
    exact Kept.step (State.setF_kept ..) rfl (Kept.step (State.setRegN_kept ..) rfl h_s2)

theorem State.weirEnd_kept (s : State) (a : Nat) (b : Nat) (r : WeirReading) : Kept 4643030721922211007497314310 s (State.weirEnd s a b r) := by
  unfold State.weirEnd
  split
  · rename_i s1 ceil hq
    have h_s1 := Kept.eq1 hq (m := 4643030721922211007497314310) (s0 := s) (by
      exact Kept.step (State.weirJudge_kept ..) rfl Kept.here
      )
    clear hq
    extract_lets -merge -underBinder +onlyGivenNames d
    try clear_value d
    extract_lets -merge -underBinder +onlyGivenNames s2
    have h_s2 : Kept 4643030721922211007497314310 s s2 := by
      unfold s2
      refine Kept.ite ?_ ?_
      · exact Kept.step (State.weirMove_kept ..) rfl h_s1
      · exact Kept.upd_weirS_weirSet (s := s1) rfl h_s1
    try clear_value s2
    extract_lets -merge -underBinder +onlyGivenNames s3
    have h_s3 : Kept 4643030721922211007497314310 s s3 := by
      unfold s3
      exact Kept.upd_weirSkip (s := s2) rfl h_s2
    try clear_value s3
    extract_lets -merge -underBinder +onlyGivenNames s4
    have h_s4 : Kept 4643030721922211007497314310 s s4 := by
      unfold s4
      refine Kept.ite ?_ ?_
      · exact Kept.step (State.setF_kept ..) rfl h_s3
      · exact h_s3
    try clear_value s4
    extract_lets -merge -underBinder +onlyGivenNames s5
    have h_s5 : Kept 4643030721922211007497314310 s s5 := by
      unfold s5
      exact Kept.step (State.weirAdmit_kept ..) rfl h_s4
    try clear_value s5
    extract_lets -merge -underBinder +onlyGivenNames s6
    have h_s6 : Kept 4643030721922211007497314310 s s6 := by
      unfold s6
      exact Kept.step (State.weirShow_kept ..) rfl h_s5
    try clear_value s6
    refine Kept.ite ?_ ?_
    · exact Kept.step (State.vsetSync_kept ..) rfl h_s6
    · exact h_s6

theorem execWeirFrame_kept (b : Nat) (r : WeirReading) (s : State) : KeptR 4643030721922211007497314310 s (execWeirFrame b r s) := by
  unfold execWeirFrame
  refine whenB_kept rfl Kept.here (fun a h_a => ?_)
  · split
    · exact Kept.step (State.weirBegin_kept ..) rfl h_a
    · refine Kept.ite ?_ ?_
      · exact Kept.step (State.weirEnd_kept ..) rfl h_a
      · exact h_a

theorem execWeirRegulate_kept (now : Nat) (drawnMj : Nat) (s : State) : KeptR 928455029464035206174351362 s (execWeirRegulate now drawnMj s) := by
  unfold execWeirRegulate
  refine whenSome_kept rfl Kept.here (fun a a1 h_a1 => ?_)
  · extract_lets -merge -underBinder +onlyGivenNames src s1
    have h_src : Kept 928455029464035206174351362 s src := by
      unfold src
      exact Kept.step (State.atTime_kept ..) rfl h_a1
    try clear_value src
    have h_s1 : Kept 928455029464035206174351362 s s1 := by
      unfold s1
      exact Kept.upd_weirDrawn (s := src) rfl h_src
    try clear_value s1
    extract_lets -merge -underBinder +onlyGivenNames due got
    try clear_value due got
    extract_lets -merge -underBinder +onlyGivenNames src1
    have h_src1 : Kept 928455029464035206174351362 s src1 := by
      unfold src1
      exact Kept.step (State.wdSyncAll_kept ..) rfl h_s1
    try clear_value src1
    exact Kept.upd_weirAct (s := src1) rfl h_src1

theorem execWeirWardenTimeout_kept (now : Nat) (s : State) : KeptR 6 s (execWeirWardenTimeout now s) := by
  unfold execWeirWardenTimeout
  refine whenSome_kept rfl Kept.here (fun a a1 h_a1 => ?_)
  · refine Kept.ite ?_ ?_
    · exact Kept.step (State.setF_kept ..) rfl (Kept.step (State.atTime_kept ..) rfl h_a1)
    · exact h_a1

theorem execWeirLock_kept (s : State) : KeptR 4 s (execWeirLock s) := by
  unfold execWeirLock
  refine KeptR.next ?_
  exact Kept.step (State.setB_kept ..) rfl Kept.here

theorem execWeirEnvelopeWrite_kept (off : Nat) (value : W32) (s : State) : KeptR 295147905179352825868 s (execWeirEnvelopeWrite off value s) := by
  unfold execWeirEnvelopeWrite
  refine whenB_kept rfl Kept.here (fun a h_a => ?_)
  · exact Kept.step (State.weirWrite_kept ..) rfl h_a

theorem execIdealDiodeOpen_kept (s : State) : KeptR 1152921504606846976 s (execIdealDiodeOpen s) := by
  unfold execIdealDiodeOpen
  refine KeptR.next ?_
  exact Kept.upd_diodeOpen (s := s) rfl Kept.here

theorem execPowerChipletFail_kept (n : Nat) (s : State) : KeptR 3735556 s (execPowerChipletFail n s) := by
  unfold execPowerChipletFail
  refine onUnit_kept rfl Kept.here (fun a h_a => ?_)
  · exact Kept.step (State.cairnLog_kept ..) rfl (Kept.step (State.setB_kept ..) rfl h_a)

end Sys2Proof.Machine
end

