-- ==== Sys2Proof/Laws/KeepSiteTime.lean ====
section
/-! SUPPORT. What each operation and each command of Machine/SiteTime.lean leaves as it was: one frame lemma for each. -/

namespace Sys2Proof.Machine

theorem State.setTimeState_kept (s : State) (v : Nat) : Kept 4 s (State.setTimeState s v) := by
  unfold State.setTimeState
  exact Kept.step (State.setF_kept ..) rfl Kept.here

theorem State.timeSet_kept (s : State) (hi : W32) : Kept 1267650600228229401496703205388 s (State.timeSet s hi) := by
  unfold State.timeSet
  extract_lets -merge -underBinder +onlyGivenNames lo
  try clear_value lo
  extract_lets -merge -underBinder +onlyGivenNames src s1
  have h_src : Kept 1267650600228229401496703205388 s src := by
    unfold src
    exact Kept.step (State.setReg_kept ..) rfl (Kept.step (State.setReg_kept ..) rfl Kept.here)
  try clear_value src
  have h_s1 : Kept 1267650600228229401496703205388 s s1 := by
    unfold s1
    exact Kept.upd_staged (s := src) rfl h_src
  try clear_value s1
  refine Kept.ite ?_ ?_
  · exact Kept.step (State.setB_kept ..) rfl (Kept.upd_ppsSet (s := s1) rfl h_s1)
  · exact h_s1

theorem State.timeAcquire_kept (s : State) : Kept 1416203404942475034484598112260 s (State.timeAcquire s) := by
  unfold State.timeAcquire
  exact Kept.step (State.setB_kept ..) rfl (Kept.step (State.setTimeState_kept ..) rfl (Kept.upd_tmFirst_tmIn_tmOut_tmLost_ppsSet (s := s) rfl Kept.here))

theorem State.bgTake_kept (s : State) : Kept 7605903601369376408980219232260 s (State.bgTake s) := by
  unfold State.bgTake
  split
  · exact Kept.step (State.setB_kept ..) rfl (Kept.upd_bgTable_bgNext (s := s) rfl Kept.here)
  · exact Kept.here

theorem State.timeStep_kept (s : State) (t : Nat) : Kept 1361129485757059457990703563475542605830 s (State.timeStep s t) := by
  unfold State.timeStep
  extract_lets -merge -underBinder +onlyGivenNames was land skipped frame src s1
  have h1 : Kept 1361129485757059457990703563475542605830 s s1 := by
    unfold s1
    exact Kept.upd_weirAt_weirDrawn_weirCut_weirSkip_weirFrom_ppsLast_slotAt (s := { s with clk := { s.clk with now := t } }) rfl (Kept.jump_clk (s := s) rfl rfl Kept.here)
  clear_value was land skipped frame src s1
  extract_lets -merge -underBinder +onlyGivenNames s2
  have h2 : Kept 1361129485757059457990703563475542605830 s s2 := by
    unfold s2
    exact Kept.step (State.addSat_kept ..) rfl (Kept.step (State.utcApply_kept ..) rfl h1)
  clear_value s2
  exact Kept.ite (Kept.step (State.bgTake_kept ..) rfl h2) h2

theorem State.timeReacquire_kept (s : State) : Kept 1361129487173262862933178597960140718086 s (State.timeReacquire s) := by
  unfold State.timeReacquire
  refine Kept.ite ?_ ?_
  · exact Kept.step (State.timeStep_kept ..) rfl Kept.here
  · exact Kept.step (State.timeAcquire_kept ..) rfl Kept.here

theorem State.timeSource_kept (s : State) (src : Nat) : Kept 1416203404942475034484598112260 s (State.timeSource s src) := by
  unfold State.timeSource
  extract_lets -merge -underBinder +onlyGivenNames s1
  have h_s1 : Kept 1416203404942475034484598112260 s s1 := by
    unfold s1
    exact Kept.step (State.setB_kept ..) rfl (Kept.step (State.setF_kept ..) rfl Kept.here)
  try clear_value s1
  refine Kept.ite ?_ ?_
  · exact Kept.step (State.setB_kept ..) rfl (Kept.step (State.setTimeState_kept ..) rfl (Kept.upd_tmFirst_tmIn_tmOut_ppsSet (s := s1) rfl h_s1))
  · exact Kept.step (State.timeAcquire_kept ..) rfl h_s1

theorem State.stCtl_kept (s : State) (v : W32) : Kept 1361129487173262862933178597960140718086 s (State.stCtl s v) := by
  unfold State.stCtl
  extract_lets -merge -underBinder +onlyGivenNames src
  try clear_value src
  extract_lets -merge -underBinder +onlyGivenNames s1
  have h_s1 : Kept 1361129487173262862933178597960140718086 s s1 := by
    unfold s1
    refine Kept.ite ?_ ?_
    · exact Kept.here
    · exact Kept.step (State.setB_kept ..) rfl (Kept.step (State.setF_kept ..) rfl Kept.here)
  try clear_value s1
  extract_lets -merge -underBinder +onlyGivenNames s2
  have h_s2 : Kept 1361129487173262862933178597960140718086 s s2 := by
    unfold s2
    exact Kept.step (State.setB_kept ..) rfl h_s1
  try clear_value s2
  extract_lets -merge -underBinder +onlyGivenNames s3
  have h_s3 : Kept 1361129487173262862933178597960140718086 s s3 := by
    unfold s3
    refine Kept.ite ?_ ?_
    · exact Kept.step (State.ignored_kept ..) rfl h_s2
    · refine Kept.ite ?_ ?_
      · exact h_s2
      · exact Kept.step (State.timeSource_kept ..) rfl h_s2
  try clear_value s3
  refine Kept.ite ?_ ?_
  · exact Kept.step (State.timeReacquire_kept ..) rfl h_s3
  · exact h_s3

theorem State.bgApply_kept (s : State) : Kept 5070602400912917605986812821508 s (State.bgApply s) := by
  unfold State.bgApply
  extract_lets -merge -underBinder +onlyGivenNames t
  try clear_value t
  refine Kept.ite ?_ ?_
  · exact Kept.step (State.setB_kept ..) rfl (Kept.upd_bgNext (s := s) rfl Kept.here)
  · exact Kept.step (State.ignored_kept ..) rfl Kept.here

theorem State.timeLocked_kept (s : State) : Kept 3735556 s (State.timeLocked s) := by
  unfold State.timeLocked
  exact Kept.step (State.cairnLog_kept ..) rfl (Kept.step (State.setReg64_kept ..) rfl (Kept.step (State.setTimeState_kept ..) rfl Kept.here))

theorem State.timeHoldover_kept (s : State) : Kept 158456325028528675187091636228 s (State.timeHoldover s) := by
  unfold State.timeHoldover
  exact Kept.step (State.cairnLog_kept ..) rfl (Kept.step (State.incSat_kept ..) rfl (Kept.step (State.setTimeState_kept ..) rfl (Kept.upd_holdAt (s := s) rfl Kept.here)))

theorem State.timeUnlocked_kept (s : State) : Kept 3735556 s (State.timeUnlocked s) := by
  unfold State.timeUnlocked
  exact Kept.step (State.cairnLog_kept ..) rfl (Kept.step (State.incSat_kept ..) rfl (Kept.step (State.setTimeState_kept ..) rfl Kept.here))

theorem State.slew_kept (s : State) : Kept 4194308 s (State.slew s) := by
  unfold State.slew
  split
  · rename_i v s1 hq
    have h_s1 := Kept.eq2 hq (m := 4194308) (s0 := s) (by
      exact Kept.step (State.draw64_kept ..) rfl Kept.here
      )
    clear hq
    exact Kept.step (State.setRegN_kept ..) rfl h_s1

theorem State.timeJudge_kept (s : State) (o : Int) : Kept 59421121885698253195161698308 s (State.timeJudge s o) := by
  unfold State.timeJudge
  extract_lets -merge -underBinder +onlyGivenNames lim n
  try clear_value lim n
  extract_lets -merge -underBinder +onlyGivenNames s1
  have h_s1 : Kept 59421121885698253195161698308 s s1 := by
    unfold s1
    exact Kept.upd_tmIn_tmOut (s := s) rfl Kept.here
  try clear_value s1
  split
  · refine Kept.ite ?_ ?_
    · exact Kept.step (State.timeLocked_kept ..) rfl h_s1
    · exact h_s1
  · refine Kept.ite ?_ ?_
    · exact Kept.step (State.timeUnlocked_kept ..) rfl (Kept.upd_tmIn (s := s1) rfl h_s1)
    · exact h_s1
  · refine Kept.ite ?_ ?_
    · exact Kept.step (State.timeUnlocked_kept ..) rfl (Kept.upd_tmIn (s := s1) rfl h_s1)
    · refine Kept.ite ?_ ?_
      · exact Kept.step (State.timeLocked_kept ..) rfl h_s1
      · exact h_s1
  · refine Kept.ite ?_ ?_
    · exact Kept.step (State.timeLocked_kept ..) rfl h_s1
    · exact h_s1
  · exact h_s1

theorem State.timeMeasure_kept (s : State) (o : Int) : Kept 1361129485826384100190684858869901492230 s (State.timeMeasure s o) := by
  unfold State.timeMeasure
  extract_lets -merge -underBinder +onlyGivenNames s1
  have h_s1 : Kept 1361129485826384100190684858869901492230 s s1 := by
    unfold s1
    exact Kept.step (State.setRegN_kept ..) rfl Kept.here
  try clear_value s1
  refine Kept.ite ?_ ?_
  · exact Kept.step (State.timeJudge_kept ..) rfl (Kept.step (State.timeStep_kept ..) rfl (Kept.upd_tmFirst (s := s1) rfl h_s1))
  · refine Kept.step (State.timeJudge_kept ..) rfl ?_
    refine Kept.ite ?_ ?_
    · exact h_s1
    · exact Kept.step (State.slew_kept ..) rfl h_s1

theorem execPtpSync_kept (domain : Nat) (now : Nat) (offset : Int) (s : State) : KeptR 1361129485905612262704949196463445442566 s (execPtpSync domain now offset s) := by
  unfold execPtpSync
  refine whenB_kept rfl Kept.here (fun a h_a => ?_)
  · refine Kept.step (State.timeMeasure_kept ..) rfl ?_
    extract_lets -merge -underBinder +onlyGivenNames src
    have h_src : Kept 1361129485905612262704949196463445442566 s src := by
      unfold src
      exact Kept.step (State.atTime_kept ..) rfl h_a
    try clear_value src
    exact Kept.upd_tmLost (s := src) rfl h_src

theorem execPtpAnnounce_kept (domain : Nat) (now : Nat) (utcOffset : Nat) (leap : Int) (midnight : Nat) (s : State) : KeptR 79228162514264337593543950342 s (execPtpAnnounce domain now utcOffset leap midnight s) := by
  unfold execPtpAnnounce
  refine whenB_kept rfl Kept.here (fun a h_a => ?_)
  · extract_lets -merge -underBinder +onlyGivenNames src s1
    have h_src : Kept 79228162514264337593543950342 s src := by
      unfold src
      exact Kept.step (State.atTime_kept ..) rfl h_a
    try clear_value src
    have h_s1 : Kept 79228162514264337593543950342 s s1 := by
      unfold s1
      exact Kept.step (State.setB_kept ..) rfl (Kept.upd_tmLost (s := src) rfl h_src)
    try clear_value s1
    extract_lets -merge -underBinder +onlyGivenNames s2
    have h_s2 : Kept 79228162514264337593543950342 s s2 := by
      unfold s2
      refine Kept.ite ?_ ?_
      · exact h_s1
      · exact Kept.step (State.setF_kept ..) rfl h_s1
    try clear_value s2
    refine Kept.ite ?_ ?_
    · exact h_s2
    · extract_lets -merge -underBinder +onlyGivenNames v
      try clear_value v
      exact Kept.step (State.setReg64_kept ..) rfl (Kept.step (State.setRegN_kept ..) rfl h_s2)

theorem execPpsEdge_kept (now : Nat) (ref10 : Bool) (s : State) : KeptR 1361129487807088163047293298708500250630 s (execPpsEdge now ref10 s) := by
  unfold execPpsEdge
  refine KeptR.next ?_
  extract_lets -merge -underBinder +onlyGivenNames src s1
  have h_src : Kept 1361129487807088163047293298708500250630 s src := by
    unfold src
    exact Kept.step (State.setB_kept ..) rfl (Kept.step (State.setB_kept ..) rfl (Kept.step (State.atTime_kept ..) rfl Kept.here))
  try clear_value src
  have h_s1 : Kept 1361129487807088163047293298708500250630 s s1 := by
    unfold s1
    exact Kept.upd_ppsLast (s := src) rfl h_src
  try clear_value s1
  refine Kept.ite ?_ ?_
  · exact h_s1
  · refine Kept.ite ?_ ?_
    · split
      · refine Kept.ite ?_ ?_
        · exact h_s1
        · refine Kept.ite ?_ ?_
          · exact Kept.step (State.timeMeasure_kept ..) rfl (Kept.upd_tmLost_ppsMark (s := s1) rfl h_s1)
          · exact Kept.upd_ppsSet (s := s1) rfl h_s1
      · exact h_s1
    · refine Kept.ite ?_ ?_
      · exact h_s1
      · extract_lets -merge -underBinder +onlyGivenNames s2
        have h_s2 : Kept 1361129487807088163047293298708500250630 s s2 := by
          unfold s2
          exact Kept.upd_tmLost (s := s1) rfl h_s1
        try clear_value s2
        extract_lets -merge -underBinder +onlyGivenNames v
        try clear_value v
        exact Kept.step (State.timeMeasure_kept ..) rfl (Kept.upd_ppsMark (s := s2) rfl h_s2)

theorem State.timeLost_kept (s : State) : Kept 257491528171359097179021574148 s (State.timeLost s) := by
  unfold State.timeLost
  extract_lets -merge -underBinder +onlyGivenNames s1
  have h_s1 : Kept 257491528171359097179021574148 s s1 := by
    unfold s1
    exact Kept.upd_tmIn_tmLost (s := s) rfl Kept.here
  try clear_value s1
  refine Kept.ite ?_ ?_
  · exact Kept.step (State.timeHoldover_kept ..) rfl h_s1
  · exact h_s1

theorem execRef10Loss_kept (now : Nat) (s : State) : KeptR 257491528171359097179021574150 s (execRef10Loss now s) := by
  unfold execRef10Loss
  refine KeptR.next ?_
  extract_lets -merge -underBinder +onlyGivenNames s1
  have h_s1 : Kept 257491528171359097179021574150 s s1 := by
    unfold s1
    exact Kept.step (State.setB_kept ..) rfl (Kept.step (State.atTime_kept ..) rfl Kept.here)
  try clear_value s1
  refine Kept.ite ?_ ?_
  · exact Kept.step (State.timeLost_kept ..) rfl h_s1
  · exact h_s1

theorem execSourceLost_kept (now : Nat) (s : State) : KeptR 257491528171359097179021574150 s (execSourceLost now s) := by
  unfold execSourceLost
  extract_lets -merge -underBinder +onlyGivenNames gap
  try clear_value gap
  refine whenB_kept rfl Kept.here (fun a h_a => ?_)
  · extract_lets -merge -underBinder +onlyGivenNames s1
    have h_s1 : Kept 257491528171359097179021574150 s s1 := by
      unfold s1
      exact Kept.step (State.atTime_kept ..) rfl h_a
    try clear_value s1
    exact Kept.step (State.timeLost_kept ..) rfl (Kept.step (State.setB_kept ..) rfl h_s1)

theorem execHoldoverTimeout_kept (now : Nat) (s : State) : KeptR 19807040628566084398389723142 s (execHoldoverTimeout now s) := by
  unfold execHoldoverTimeout
  refine whenB_kept rfl Kept.here (fun a h_a => ?_)
  · refine Kept.step (State.timeUnlocked_kept ..) rfl ?_
    extract_lets -merge -underBinder +onlyGivenNames src
    have h_src : Kept 19807040628566084398389723142 s src := by
      unfold src
      exact Kept.step (State.atTime_kept ..) rfl h_a
    try clear_value src
    exact Kept.upd_tmIn (s := src) rfl h_src

theorem execStCtlWrite_kept (value : W32) (s : State) : KeptR 1361129487173262862933178597960140718086 s (execStCtlWrite value s) := by
  unfold execStCtlWrite
  refine whenB_kept rfl Kept.here (fun a h_a => ?_)
  · exact Kept.step (State.stCtl_kept ..) rfl h_a

theorem execReacquire_kept (s : State) : KeptR 1361129487173262862933178597960140718086 s (execReacquire s) := by
  unfold execReacquire
  refine whenB_kept rfl Kept.here (fun a h_a => ?_)
  · exact Kept.step (State.timeReacquire_kept ..) rfl h_a

theorem execTimeSet_kept (hi : W32) (s : State) : KeptR 1267650600228229401496703205388 s (execTimeSet hi s) := by
  unfold execTimeSet
  refine whenB_kept rfl Kept.here (fun a h_a => ?_)
  · exact Kept.step (State.timeSet_kept ..) rfl h_a

theorem execUtcOffsetChange_kept (now : Nat) (s : State) : KeptR 6 s (execUtcOffsetChange now s) := by
  unfold execUtcOffsetChange
  refine KeptR.next ?_
  exact Kept.step (State.utcApply_kept ..) rfl (Kept.step (State.atTime_kept ..) rfl Kept.here)

theorem execApply_kept (s : State) : KeptR 5070602400912917605986812821508 s (execApply s) := by
  unfold execApply
  refine whenB_kept rfl Kept.here (fun a h_a => ?_)
  · exact Kept.step (State.bgApply_kept ..) rfl h_a

theorem State.scrubChunk_kept (s : State) (u : Nat) (corrected : Nat) : Kept 4 s (State.scrubChunk s u corrected) := by
  unfold State.scrubChunk
  extract_lets -merge -underBinder +onlyGivenNames chunk
  try clear_value chunk
  refine Kept.ite ?_ ?_
  · extract_lets -merge -underBinder +onlyGivenNames pos
    try clear_value pos
    extract_lets -merge -underBinder +onlyGivenNames s1
    have h_s1 : Kept 4 s s1 := by
      unfold s1
      exact Kept.step (State.addSat_kept ..) rfl Kept.here
    try clear_value s1
    refine Kept.ite ?_ ?_
    · exact Kept.step (State.incWrap_kept ..) rfl (Kept.step (State.setReg64_kept ..) rfl h_s1)
    · exact Kept.step (State.setReg64_kept ..) rfl h_s1
  · exact Kept.here

theorem State.telemSample_kept (s : State) (u : Nat) (now : Nat) (r : Readings) : Kept 340282366920938463463374607431768211460 s (State.telemSample s u now r) := by
  unfold State.telemSample
  extract_lets -merge -underBinder +onlyGivenNames v
  try clear_value v
  extract_lets -merge -underBinder +onlyGivenNames s1
  have h_s1 : Kept 340282366920938463463374607431768211460 s s1 := by
    unfold s1
    exact Kept.step (State.setReg64_kept ..) rfl Kept.here
  try clear_value s1
  refine Kept.ite ?_ ?_
  · extract_lets -merge -underBinder +onlyGivenNames s2
    have h_s2 : Kept 340282366920938463463374607431768211460 s s2 := by
      unfold s2
      refine Kept.foldl _ (fun x h_x a => ?_) ?_
      · exact Kept.step (State.setRegN_kept ..) rfl (Kept.step (State.setRegN_kept ..) rfl (Kept.step (State.setRegN_kept ..) rfl h_x))
      · exact h_s1
    try clear_value s2
    exact Kept.step (State.setRegN_kept ..) rfl h_s2
  · refine Kept.ite ?_ ?_
    · refine Kept.foldl _ (fun x1 h_x1 a1 => ?_) ?_
      · exact Kept.step (State.setRegN_kept ..) rfl h_x1
      · exact h_s1
    · extract_lets -merge -underBinder +onlyGivenNames src
      have h_src : Kept 340282366920938463463374607431768211460 s src := by
        unfold src
        exact Kept.step (State.setRegN_kept ..) rfl (Kept.step (State.setRegN_kept ..) rfl (Kept.step (State.setRegN_kept ..) rfl h_s1))
      try clear_value src
      exact Kept.upd_coolant (s := src) rfl h_src

theorem State.wearSlot_kept (s : State) (now : Nat) : Kept 126101889078001668 s (State.wearSlot s now) := by
  unfold State.wearSlot
  refine Kept.ite ?_ ?_
  · extract_lets -merge -underBinder +onlyGivenNames next
    try clear_value next
    extract_lets -merge -underBinder +onlyGivenNames s1
    have h_s1 : Kept 126101889078001668 s s1 := by
      unfold s1
      exact Kept.upd_wearNext_wearDue (s := s) rfl Kept.here
    try clear_value s1
    exact Kept.step (State.wearStart_kept ..) rfl h_s1
  · exact Kept.here

theorem execSlotStart_kept (now : Nat) (r : Readings) (s : State) : KeptR 340282384668046866658712330274691088390 s (execSlotStart now r s) := by
  unfold execSlotStart
  refine whenB_kept rfl Kept.here (fun a h_a => ?_)
  · extract_lets -merge -underBinder +onlyGivenNames n
    try clear_value n
    extract_lets -merge -underBinder +onlyGivenNames src s1
    have h_src : Kept 340282384668046866658712330274691088390 s src := by
      unfold src
      exact Kept.step (State.utcApply_kept ..) rfl (Kept.step (State.atTime_kept ..) rfl h_a)
    try clear_value src
    have h_s1 : Kept 340282384668046866658712330274691088390 s s1 := by
      unfold s1
      exact Kept.upd_slotAt (s := src) rfl h_src
    try clear_value s1
    extract_lets -merge -underBinder +onlyGivenNames s2
    have h_s2 : Kept 340282384668046866658712330274691088390 s s2 := by
      unfold s2
      refine Kept.ite ?_ ?_
      · exact Kept.step (State.bgTake_kept ..) rfl h_s1
      · exact h_s1
    try clear_value s2
    refine Kept.ite ?_ ?_
    · extract_lets -merge -underBinder +onlyGivenNames w u
      try clear_value w u
      split
      · exact Kept.step (State.scrubChunk_kept ..) rfl h_s2
      · exact Kept.step (State.telemSample_kept ..) rfl h_s2
      · exact Kept.step (State.wearSlot_kept ..) rfl h_s2
      · exact h_s2
    · exact h_s2

end Sys2Proof.Machine
end

