-- ==== Sys2Proof/Laws/KeepEngine.lean ====
section
/-! SUPPORT. What each operation and each command of Machine/Engine.lean leaves as it was: one frame lemma for each. -/

namespace Sys2Proof.Machine

theorem State.cmdTake_kept (s : State) (c : Nat) (b : List Byte) : Kept 4 s (State.cmdTake s c b) := by
  unfold State.cmdTake
  exact Kept.step (State.setRegN_kept ..) rfl Kept.here

theorem State.cmdDone_kept (s : State) (c : Nat) (b : List Byte) (code : Nat) (progress : Nat) (result : List Byte) : Kept 2753028 s (State.cmdDone s c b code progress result) := by
  unfold State.cmdDone
  exact Kept.step (State.post_kept ..) rfl Kept.here

theorem State.cmdReject_kept (s : State) (c : Nat) (b : List Byte) (reason : Nat) : Kept 2753028 s (State.cmdReject s c b reason) := by
  unfold State.cmdReject
  exact Kept.step (State.cmdDone_kept ..) rfl (Kept.step (State.incSat_kept ..) rfl Kept.here)

theorem cmdRow_kept {m : Nat} {s0 : State} {ctx : Nat} {op : Nat} {s : State} {f : List Byte → State → State} (hm : 2753028 ||| m = m) (h : Kept m s0 s) (hf : ∀ z0 x, Kept m s0 x → Kept m s0 (f z0 x)) :
    KeptR m s0 (cmdRow ctx op s f) := by
  unfold cmdRow
  split
  · refine onUnit_kept (sub_chain rfl hm) h (fun a h_a => ?_)
    · exact h_a
  · refine onUnit_kept (sub_chain rfl hm) h (fun a1 h_a1 => ?_)
    · extract_lets -merge -underBinder +onlyGivenNames s1
      have h_s1 : Kept m s0 s1 := by
        unfold s1
        exact Kept.step (State.cmdTake_kept ..) (sub_chain rfl hm) h_a1
      try clear_value s1
      extract_lets -merge -underBinder +onlyGivenNames r
      try clear_value r
      refine Kept.ite ?_ ?_
      · exact hf _ _ h_s1
      · exact Kept.step (State.cmdReject_kept ..) (sub_chain rfl hm) h_s1

theorem shortCmd_kept {m : Nat} {s0 : State} {ctx : Nat} {op : Nat} {s : State} {chk : List Byte → State → Nat}
    {act : List Byte → State → Nat × List Byte × State} (hm : 2753028 ||| m = m) (h : Kept m s0 s)
    (hact : ∀ z0 x, Kept m s0 x → Kept m s0 (act z0 x).2.2) : KeptR m s0 (shortCmd ctx op s chk act) := by
  unfold shortCmd
  refine cmdRow_kept (sub_chain rfl hm) h (fun b s1 h1 => ?_)
  extract_lets -merge -underBinder +onlyGivenNames r
  clear_value r
  refine Kept.ite ?_ ?_
  · have h2 := hact b s1 h1
    exact Kept.step (State.cmdDone_kept ..) (sub_chain rfl hm) h2
  · exact Kept.step (State.cmdReject_kept ..) (sub_chain rfl hm) h1

theorem State.openLong_kept (s : State) (c : Nat) (b : List Byte) (mark : Nat) (units : List Nat) : Kept 2753028 s (State.openLong s c b mark units).2 := by
  unfold State.openLong
  extract_lets -merge -underBinder +onlyGivenNames e h1 o
  try clear_value e h1 o
  extract_lets -merge -underBinder +onlyGivenNames s1
  have h_s1 : Kept 2753028 s s1 := by
    unfold s1
    exact Kept.step (State.setEng_kept ..) rfl Kept.here
  try clear_value s1
  refine Kept.pair2 ?_
  exact Kept.step (State.post_kept ..) rfl h_s1

theorem longCmd_kept {m : Nat} {s0 : State} {ctx : Nat} {op : Nat} {s : State} {chk : List Byte → State → Nat} {mk : List Byte → State → Nat × List Nat} {act : List Byte → Nat → State → State} (hm : 2753028 ||| m = m) (h : Kept m s0 s) (hact : ∀ z0 z1 x, Kept m s0 x → Kept m s0 (act z0 z1 x)) :
    KeptR m s0 (longCmd ctx op s chk mk act) := by
  unfold longCmd
  refine cmdRow_kept (sub_chain rfl hm) h (fun a a1 h_a1 => ?_)
  · extract_lets -merge -underBinder +onlyGivenNames r
    try clear_value r
    refine Kept.ite ?_ ?_
    · split
      · split
        · rename_i h1 s1 hq
          have h_s1 := Kept.eq2 hq (m := m) (s0 := s0) (by
            exact Kept.step (State.openLong_kept ..) (sub_chain rfl hm) h_a1
            )
          clear hq
          exact hact _ _ _ h_s1
    · exact Kept.step (State.cmdReject_kept ..) (sub_chain rfl hm) h_a1

theorem State.ceAtStop_kept (s : State) (c : Nat) : Kept 131076 s (State.ceAtStop s c) := by
  unfold State.ceAtStop
  extract_lets -merge -underBinder +onlyGivenNames e
  try clear_value e
  exact Kept.step (State.ceSync_kept ..) rfl (Kept.step (State.setEng_kept ..) rfl Kept.here)

theorem State.ceDrain_kept (s : State) (c : Nat) : Kept 2753028 s (State.ceDrain s c) := by
  unfold State.ceDrain
  exact Kept.step (State.ceSync_kept ..) rfl (Kept.step (State.cqDrain_kept ..) rfl Kept.here)

theorem State.ceOn_kept (s : State) (c : Nat) : Kept 2753028 s (State.ceOn s c) := by
  unfold State.ceOn
  refine Kept.step (State.ceDrain_kept ..) rfl ?_
  refine State.startDone_kept rfl Kept.here (fun a h_a => ?_)
  · exact Kept.step (State.ceAtStop_kept ..) rfl h_a

theorem State.slotsZero_kept (s : State) (c : Nat) : Kept 36 s (State.slotsZero s c) := by
  unfold State.slotsZero
  exact Kept.step (State.setRegN_kept ..) rfl (Kept.upd_slotMem (s := s) rfl (fun w => (memClear_wf _ _ _ w)) Kept.here)

theorem State.ceAtStart_kept (s : State) (c : Nat) : Kept 2753060 s (State.ceAtStart s c) := by
  unfold State.ceAtStart
  extract_lets -merge -underBinder +onlyGivenNames s1
  have h_s1 : Kept 2753060 s s1 := by
    unfold s1
    exact Kept.step (State.slotsZero_kept ..) rfl Kept.here
  try clear_value s1
  refine Kept.ite ?_ ?_
  · exact Kept.step (State.ceOn_kept ..) rfl h_s1
  · exact Kept.step (State.ceSync_kept ..) rfl h_s1

theorem execCeStopDone_kept (ctx : Nat) (s : State) : KeptR 2753060 s (execCeStopDone ctx s) := by
  unfold execCeStopDone
  refine onUnit_kept rfl Kept.here (fun a h_a => ?_)
  · refine Kept.step (State.ceSync_kept ..) rfl ?_
    refine State.stopDone_kept rfl h_a (fun a1 h_a1 => ?_)
    · exact Kept.step (State.ceAtStart_kept ..) rfl h_a1

theorem State.cqHead_kept (s : State) (c : Nat) (v : W32) : Kept 2753028 s (State.cqHead s c v) := by
  unfold State.cqHead
  exact Kept.step (State.ceDrain_kept ..) rfl (Kept.step (State.setRegN_kept ..) rfl Kept.here)

theorem execCqHeadWrite_kept (ctx : Nat) (value : W32) (s : State) : KeptR 2753028 s (execCqHeadWrite ctx value s) := by
  unfold execCqHeadWrite
  refine onUnit_kept rfl Kept.here (fun a h_a => ?_)
  · exact Kept.step (State.cqHead_kept ..) rfl h_a

theorem execMsixModerationExpiry_kept (ctx : Nat) (now : Nat) (s : State) : KeptR 2752518 s (execMsixModerationExpiry ctx now s) := by
  unfold execMsixModerationExpiry
  extract_lets -merge -underBinder +onlyGivenNames e due
  try clear_value e due
  refine onUnit_kept rfl Kept.here (fun a h_a => ?_)
  · extract_lets -merge -underBinder +onlyGivenNames s1
    have h_s1 : Kept 2752518 s s1 := by
      unfold s1
      exact Kept.step (State.atTime_kept ..) rfl h_a
    try clear_value s1
    extract_lets -merge -underBinder +onlyGivenNames s2
    have h_s2 : Kept 2752518 s s2 := by
      unfold s2
      exact Kept.step (State.setEng_kept ..) rfl h_s1
    try clear_value s2
    exact Kept.step (State.msiSend_kept ..) rfl h_s2

theorem State.msiRetry_kept (s : State) (fn : Nat) (vec : Nat) : Kept 2621444 s (State.msiRetry s fn vec) := by
  unfold State.msiRetry
  extract_lets -merge -underBinder +onlyGivenNames key
  try clear_value key
  refine Kept.ite ?_ ?_
  · exact Kept.step (State.msiSend_kept ..) rfl (Kept.upd_msixPend (s := s) rfl Kept.here)
  · exact Kept.here

theorem State.msiUnmask_kept (s : State) (fn : Nat) (vec : Nat) : Kept 2883588 s (State.msiUnmask s fn vec) := by
  unfold State.msiUnmask
  extract_lets -merge -underBinder +onlyGivenNames key
  try clear_value key
  split
  · exact Kept.step (State.msiRetry_kept ..) rfl (Kept.upd_msix (s := s) rfl Kept.here)

theorem State.ideWake_kept (s : State) : Kept 2753028 s (State.ideWake s) := by
  unfold State.ideWake
  refine Kept.foldl _ (fun x h_x a => ?_) ?_
  · refine Kept.ite ?_ ?_
    · refine Kept.foldl _ (fun x1 h_x1 a1 => ?_) ?_
      · exact Kept.step (State.msiRetry_kept ..) rfl h_x1
      · exact Kept.step (State.ceDrain_kept ..) rfl h_x
    · exact h_x
  · exact Kept.here

theorem execMsixVectorUnmask_kept (fn : Nat) (vec : Nat) (s : State) : KeptR 2883588 s (execMsixVectorUnmask fn vec s) := by
  unfold execMsixVectorUnmask
  refine onUnit_kept rfl Kept.here (fun a h_a => ?_)
  · exact Kept.step (State.msiUnmask_kept ..) rfl h_a

theorem execNopCommand_kept (ctx : Nat) (s : State) : KeptR 2753028 s (execNopCommand ctx s) := by
  unfold execNopCommand
  split
  · refine onUnit_kept rfl Kept.here (fun a h_a => ?_)
    · exact h_a
  · refine shortCmd_kept rfl Kept.here (fun a1 a2 h_a2 => ?_)
    · refine Kept.pair2 ?_
      exact h_a2

end Sys2Proof.Machine
end

