-- ==== Sys2Proof/Laws/KeepBoot.lean ====
section
/-! SUPPORT. What each operation and each command of Machine/Boot.lean leaves as it was: one frame lemma for each. -/

namespace Sys2Proof.Machine

theorem State.burnFor_kept (s : State) (b : List Byte) : Kept 4 s (State.burnFor s b) := by
  unfold State.burnFor
  extract_lets -merge -underBinder +onlyGivenNames s1
  have h_s1 : Kept 4 s s1 := by
    unfold s1
    exact Kept.step (State.setF_kept ..) rfl Kept.here
  try clear_value s1
  refine Kept.ite ?_ ?_
  · exact Kept.step (State.setF_kept ..) rfl h_s1
  · exact h_s1

theorem State.setWait_kept (s : State) (b : Bool) : Kept 4 s (State.setWait s b) := by
  unfold State.setWait
  exact Kept.step (State.setB_kept ..) rfl Kept.here

theorem State.setStage_kept (s : State) (v : Nat) : Kept 4 s (State.setStage s v) := by
  unfold State.setStage
  exact Kept.step (State.setF_kept ..) rfl Kept.here

theorem State.bootTake_kept (s : State) (b : List Byte) (i : BootImg) : Kept 1460333491462920270524202092593156 s (State.bootTake s b i) := by
  unfold State.bootTake
  extract_lets -merge -underBinder +onlyGivenNames src
  have h_src : Kept 1460333491462920270524202092593156 s src := by
    unfold src
    exact Kept.step (State.setWait_kept ..) rfl (Kept.step (State.burnFor_kept ..) rfl Kept.here)
  try clear_value src
  exact Kept.upd_boot_fetching (s := src) rfl h_src

theorem State.bootFetch_kept (s : State) (pcie : Bool) : Kept 4056481920730334084789450257203204 s (State.bootFetch s pcie) := by
  unfold State.bootFetch
  extract_lets -merge -underBinder +onlyGivenNames src
  have h_src : Kept 4056481920730334084789450257203204 s src := by
    unfold src
    exact Kept.step (State.setWait_kept ..) rfl Kept.here
  try clear_value src
  exact Kept.upd_boot_fetching_fetchAt (s := src) rfl h_src

theorem State.lcFinish_kept (s : State) : Kept 316730108370624485340360276082425856 s (State.lcFinish s) := by
  unfold State.lcFinish
  refine Kept.ite ?_ ?_
  · exact Kept.here
  · exact Kept.upd_wipedN_ptRecord_ownerChain_identity_mgmt (s := s) rfl Kept.here

theorem State.bootRom_kept (s : State) (update : Bool) : Kept 320786590291354819425149726339629060 s (State.bootRom s update) := by
  unfold State.bootRom
  extract_lets -merge -underBinder +onlyGivenNames s1
  have h_s1 : Kept 320786590291354819425149726339629060 s s1 := by
    unfold s1
    exact Kept.step (State.lcFinish_kept ..) rfl (Kept.step (State.setB_kept ..) rfl Kept.here)
  try clear_value s1
  refine Kept.ite ?_ ?_
  · exact Kept.step (State.setStage_kept ..) rfl h_s1
  · refine Kept.ite ?_ ?_
    · exact Kept.step (State.setStage_kept ..) rfl h_s1
    · refine Kept.ite ?_ ?_
      · exact Kept.step (State.bootFetch_kept ..) rfl h_s1
      · refine Kept.ite ?_ ?_
        · exact Kept.step (State.bootFetch_kept ..) rfl h_s1
        · split
          · refine Kept.ite ?_ ?_
            · exact Kept.step (State.bootFetch_kept ..) rfl h_s1
            · exact Kept.step (State.bootTake_kept ..) rfl h_s1
          · exact Kept.step (State.bootFetch_kept ..) rfl h_s1

theorem State.bootFetched_kept (s : State) (b : List Byte) (i : BootImg) : Kept 2210782646798032076210250390175748 s (State.bootFetched s b i) := by
  unfold State.bootFetched
  exact Kept.step (State.bootTake_kept ..) rfl (Kept.upd_fwFlash_fwFail_restarts (s := s) rfl Kept.here)

theorem State.mbEnd_kept (s : State) (code : Nat) (result : Nat) : Kept 4 s (State.mbEnd s code result) := by
  unfold State.mbEnd
  exact Kept.step (State.incWrap_kept ..) rfl (Kept.step (State.setRegN_kept ..) rfl (Kept.step (State.setF_kept ..) rfl (Kept.step (State.setB_kept ..) rfl (Kept.step (State.setB_kept ..) rfl Kept.here))))

theorem State.fwGone_kept (s : State) : Kept 730166939159591273602768999284740 s (State.fwGone s) := by
  unfold State.fwGone
  extract_lets -merge -underBinder +onlyGivenNames times
  try clear_value times
  exact Kept.step (State.setF_kept ..) rfl (Kept.upd_wardenGone_fwUp_fwFail_restarts (s := s) rfl Kept.here)

theorem State.wardenDown_kept (s : State) (update : Bool) : Kept 331901350947584065955813487997353988 s (State.wardenDown s update) := by
  unfold State.wardenDown
  extract_lets -merge -underBinder +onlyGivenNames src s1
  have h_src : Kept 331901350947584065955813487997353988 s src := by
    unfold src
    refine Kept.ite ?_ ?_
    · exact Kept.step (State.fwGone_kept ..) rfl Kept.here
    · exact Kept.here
  try clear_value src
  have h_s1 : Kept 331901350947584065955813487997353988 s s1 := by
    unfold s1
    exact Kept.upd_boot (s := src) rfl h_src
  try clear_value s1
  extract_lets -merge -underBinder +onlyGivenNames s2
  have h_s2 : Kept 331901350947584065955813487997353988 s s2 := by
    unfold s2
    exact Kept.step (State.setF_kept ..) rfl h_s1
  try clear_value s2
  extract_lets -merge -underBinder +onlyGivenNames src1 s3
  have h_src1 : Kept 331901350947584065955813487997353988 s src1 := by
    unfold src1
    exact Kept.step (State.mbEnd_kept ..) rfl h_s2
  try clear_value src1
  have h_s3 : Kept 331901350947584065955813487997353988 s s3 := by
    unfold s3
    refine Kept.ite ?_ ?_
    · exact Kept.upd_lcPend (s := src1) rfl h_src1
    · exact h_s2
  try clear_value s3
  exact Kept.step (State.bootRom_kept ..) rfl h_s3

theorem State.ptBuild_kept (s : State) : Kept 3735556 s (State.ptBuild s) := by
  unfold State.ptBuild
  extract_lets -merge -underBinder +onlyGivenNames good r
  try clear_value good r
  extract_lets -merge -underBinder +onlyGivenNames s1
  have h_s1 : Kept 3735556 s s1 := by
    unfold s1
    refine Kept.foldl _ (fun x h_x a => ?_) ?_
    · exact Kept.step (State.setRegN_kept ..) rfl h_x
    · exact Kept.here
  try clear_value s1
  extract_lets -merge -underBinder +onlyGivenNames s2
  have h_s2 : Kept 3735556 s s2 := by
    unfold s2
    exact Kept.step (State.setB_kept ..) rfl (Kept.step (State.setB_kept ..) rfl h_s1)
  try clear_value s2
  refine Kept.ite ?_ ?_
  · exact h_s2
  · exact Kept.step (State.cairnLog_kept ..) rfl h_s2

theorem State.applyStraps_kept (s : State) : Kept 9903520369623275519833276420 s (State.applyStraps s) := by
  unfold State.applyStraps
  extract_lets -merge -underBinder +onlyGivenNames v f
  try clear_value v f
  extract_lets -merge -underBinder +onlyGivenNames s1
  have h_s1 : Kept 9903520369623275519833276420 s s1 := by
    unfold s1
    exact Kept.step (State.setF_kept ..) rfl Kept.here
  try clear_value s1
  extract_lets -merge -underBinder +onlyGivenNames s2
  have h_s2 : Kept 9903520369623275519833276420 s s2 := by
    unfold s2
    exact Kept.upd_rcvs (s := s1) rfl h_s1
  try clear_value s2
  extract_lets -merge -underBinder +onlyGivenNames s3
  have h_s3 : Kept 9903520369623275519833276420 s s3 := by
    unfold s3
    exact Kept.step (State.setF_kept ..) rfl h_s2
  try clear_value s3
  extract_lets -merge -underBinder +onlyGivenNames src
  try clear_value src
  extract_lets -merge -underBinder +onlyGivenNames s4
  have h_s4 : Kept 9903520369623275519833276420 s s4 := by
    unfold s4
    exact Kept.step (State.setF_kept ..) rfl h_s3
  try clear_value s4
  extract_lets -merge -underBinder +onlyGivenNames s5
  have h_s5 : Kept 9903520369623275519833276420 s s5 := by
    unfold s5
    exact Kept.step (State.setTimeState_kept ..) rfl h_s4
  try clear_value s5
  split
  · extract_lets -merge -underBinder +onlyGivenNames s6
    have h_s6 : Kept 9903520369623275519833276420 s s6 := by
      unfold s6
      exact Kept.step (State.setRegN_kept ..) rfl (Kept.step (State.setRegN_kept ..) rfl (Kept.step (State.setRegN_kept ..) rfl (Kept.step (State.setRegN_kept ..) rfl (Kept.step (State.setRegN_kept ..) rfl (Kept.step (State.setRegN_kept ..) rfl h_s5)))))
    try clear_value s6
    extract_lets -merge -underBinder +onlyGivenNames s7
    have h_s7 : Kept 9903520369623275519833276420 s s7 := by
      unfold s7
      exact Kept.step (State.setF_kept ..) rfl (Kept.step (State.setB_kept ..) rfl h_s6)
    try clear_value s7
    exact Kept.upd_weirUp_weirDown_tmFirst (s := s7) rfl h_s7

theorem State.cmtCounts_kept (s : State) : Kept 4 s (State.cmtCounts s) := by
  unfold State.cmtCounts
  extract_lets -merge -underBinder +onlyGivenNames l gone
  try clear_value l gone
  extract_lets -merge -underBinder +onlyGivenNames s1
  have h_s1 : Kept 4 s s1 := by
    unfold s1
    refine Kept.foldl _ (fun x h_x a => ?_) ?_
    · extract_lets -merge -underBinder +onlyGivenNames mine bad
      try clear_value mine bad
      extract_lets -merge -underBinder +onlyGivenNames s2
      have h_s2 : Kept 4 s s2 := by
        unfold s2
        exact Kept.step (State.setF_kept ..) rfl (Kept.step (State.setF_kept ..) rfl h_x)
      try clear_value s2
      refine Kept.foldl _ (fun x1 h_x1 a1 => ?_) ?_
      · extract_lets -merge -underBinder +onlyGivenNames a2
        try clear_value a2
        exact Kept.step (State.setF_kept ..) rfl h_x1
      · exact h_s2
    · exact Kept.here
  try clear_value s1
  exact Kept.step (State.setRegN_kept ..) rfl (Kept.step (State.setF_kept ..) rfl h_s1)

theorem State.cmtPut_kept (s : State) (t : AMap W32) : Kept 4 s (State.cmtPut s t) := by
  unfold State.cmtPut
  exact Kept.upd_regs (s := s) rfl Kept.here

theorem carryRegs_kept (old : State) (l : List (Nat × Nat)) (new : State) : Kept 4 new (carryRegs old l new) := by
  unfold carryRegs
  refine Kept.foldl _ (fun x h_x a => ?_) ?_
  · split
    · exact Kept.step (State.setReg_kept ..) rfl h_x
    · exact h_x
  · exact Kept.here

theorem State.survivors_kept (s : State) : Kept 2549474771393996230451729570361212108286 s s.survivors := by
  refine Kept.ofAll (n := 134) (Nat.le_refl _) (fun i hi => ?_)
  interval_cases i <;> first
    | exact fun h => absurd h (by decide)
    | exact fun _ => rfl
    | exact fun _ h => ⟨rfl, rfl, rfl, rfl, h.2.2.2.2⟩
    | exact fun _ => List.prefix_refl _
    | exact fun _ => Nat.le_refl _

theorem State.powerOn_kept (s : State) : Kept 2549474771393996230451729570361212108286 s (State.powerOn s) := by
  unfold State.powerOn
  exact Kept.step (State.populate_kept ..) rfl (Kept.step (carryRegs_kept ..) rfl (Kept.step (State.survivors_kept ..) rfl Kept.here))

theorem State.cairnStart_kept (s : State) : Kept 3735556 s (State.cairnStart s) := by
  unfold State.cairnStart
  extract_lets -merge -underBinder +onlyGivenNames n
  try clear_value n
  extract_lets -merge -underBinder +onlyGivenNames src s1
  try clear_value src
  have h_s1 : Kept 3735556 s s1 := by
    unfold s1
    exact Kept.upd_cairn (s := s) rfl Kept.here
  try clear_value s1
  exact Kept.step (State.cairnLog_kept ..) rfl (Kept.step (State.setReg64_kept ..) rfl (Kept.step (State.setReg64_kept ..) rfl h_s1))

theorem State.warmClear_kept (s : State) (kind : Nat) : Kept 1177711459461853339849274855221230534140 s (State.warmClear s kind) := by
  unfold State.warmClear
  extract_lets -merge -underBinder +onlyGivenNames src src1 n
  have h_n : Kept 1177711459461853339849274855221230534140 s n := by
    refine Kept.ofAll (n := 134) (Nat.le_refl _) (fun i hi => ?_)
    interval_cases i <;> first
      | exact fun h => absurd h (by decide)
      | exact fun _ => rfl
      | exact fun _ h => ⟨rfl, rfl, rfl, rfl, h.2.2.2.2⟩
      | exact fun _ => List.prefix_refl _
      | exact fun _ => Nat.le_refl _
      | exact fun _ => ⟨Nat.le_refl _, Nat.le_refl _⟩
  clear_value n src src1
  extract_lets -merge -underBinder +onlyGivenNames n1 n2 n3 n4
  have h_4 : Kept 1177711459461853339849274855221230534140 s n4 := by
    have h_1 : Kept 1177711459461853339849274855221230534140 s n1 := Kept.upd_regs (s := n) rfl h_n
    have h_2 : Kept 1177711459461853339849274855221230534140 s n2 :=
      Kept.step (State.setB_kept ..) rfl (Kept.step (State.populate_kept ..) rfl (Kept.step (carryRegs_kept ..) rfl (Kept.step (carryRegs_kept ..) rfl h_1)))
    have h_3 : Kept 1177711459461853339849274855221230534140 s n3 := Kept.step (State.setF_kept ..) rfl (Kept.step (State.setStage_kept ..) rfl h_2)
    exact Kept.step (State.setF_kept ..) rfl (Kept.step (State.setF_kept ..) rfl h_3)
  clear_value n4
  extract_lets -merge -underBinder +onlyGivenNames n5
  have h_n5 : Kept 1177711459461853339849274855221230534140 s n5 := by
    unfold n5
    exact Kept.foldl _ (fun x h_x a => Kept.step (State.pitchSync_kept ..) rfl h_x) h_4
  clear_value n5
  extract_lets -merge -underBinder +onlyGivenNames f
  clear_value f
  exact Kept.step (State.setF_kept ..) rfl (Kept.step (State.setF_kept ..) rfl (Kept.upd_rcvs (s := n5) rfl h_n5))

theorem State.warmBegin_kept (s : State) (kind : Nat) : Kept 7975367974709495237426229203829923844 s (State.warmBegin s kind) := by
  unfold State.warmBegin
  extract_lets -merge -underBinder +onlyGivenNames s1
  have h_s1 : Kept 7975367974709495237426229203829923844 s s1 := by
    unfold s1
    exact Kept.upd_rills_ce_seqrs_warmHeld_warmAt (s := s) rfl Kept.here
  try clear_value s1
  extract_lets -merge -underBinder +onlyGivenNames s2
  have h_s2 : Kept 7975367974709495237426229203829923844 s s2 := by
    unfold s2
    refine Kept.foldl _ (fun x h_x a => ?_) ?_
    · exact Kept.step (State.setPst_kept ..) rfl h_x
    · exact h_s1
  try clear_value s2
  extract_lets -merge -underBinder +onlyGivenNames s3
  have h_s3 : Kept 7975367974709495237426229203829923844 s s3 := by
    unfold s3
    refine Kept.foldl _ (fun x1 h_x1 a1 => ?_) ?_
    · refine State.stopReqOn_kept rfl h_x1 (fun a2 h_a2 => ?_)
      · exact Kept.step (State.linkAtStop_kept ..) rfl h_a2
    · exact h_s2
  try clear_value s3
  extract_lets -merge -underBinder +onlyGivenNames s4
  have h_s4 : Kept 7975367974709495237426229203829923844 s s4 := by
    unfold s4
    refine Kept.foldl _ (fun x2 h_x2 a3 => ?_) ?_
    · refine State.stopReqOn_kept rfl h_x2 (fun a4 h_a4 => ?_)
      · exact Kept.step (State.portAtStop_kept ..) rfl h_a4
    · exact h_s3
  try clear_value s4
  exact Kept.step (State.setF_kept ..) rfl (Kept.step (State.setStage_kept ..) rfl h_s4)

end Sys2Proof.Machine
end

