-- ==== Sys2Proof/Laws/KeepStartup.lean ====
section
/-! SUPPORT. What each operation and each command of Machine/Startup.lean leaves as it was: one frame lemma for each. -/

namespace Sys2Proof.Machine

theorem execInputStageClose_kept (now : Nat) (mv : Nat) (s : State) : KeptR 2549474771393996230451729570361212108286 s (execInputStageClose now mv s) := by
  unfold execInputStageClose
  refine whenB_kept rfl Kept.here (fun a h_a => ?_)
  · extract_lets -merge -underBinder +onlyGivenNames s1
    have h_s1 : Kept 2549474771393996230451729570361212108286 s s1 := by
      unfold s1
      exact Kept.step (State.powerOn_kept ..) rfl (Kept.step (State.atTime_kept ..) rfl h_a)
    try clear_value s1
    exact Kept.upd_inputStage_vinMv_weirFrom (s := s1) rfl h_s1

theorem execPowerChipletEnable_kept (now : Nat) (capMv : Nat) (s : State) : KeptR 320786600195177420935674467697885190 s (execPowerChipletEnable now capMv s) := by
  unfold execPowerChipletEnable
  refine whenB_kept rfl Kept.here (fun a h_a => ?_)
  · extract_lets -merge -underBinder +onlyGivenNames s1
    have h_s1 : Kept 320786600195177420935674467697885190 s s1 := by
      unfold s1
      exact Kept.step (State.atTime_kept ..) rfl h_a
    try clear_value s1
    extract_lets -merge -underBinder +onlyGivenNames s2
    have h_s2 : Kept 320786600195177420935674467697885190 s s2 := by
      unfold s2
      exact Kept.step (State.setRegN_kept ..) rfl (Kept.upd_inputStage_stageAt (s := s1) rfl h_s1)
    try clear_value s2
    refine Kept.step (State.bootRom_kept ..) rfl ?_
    refine Kept.step (State.cairnStart_kept ..) rfl ?_
    refine Kept.foldl _ (fun x h_x a1 => ?_) ?_
    · exact Kept.step (State.retSync_kept ..) rfl h_x
    · exact Kept.step (State.applyStraps_kept ..) rfl h_s2

theorem State.powerDown_kept (s : State) : Kept 1188345303710242376596501758377228991996 s (State.powerDown s) := by
  unfold State.powerDown
  extract_lets -merge -underBinder +onlyGivenNames page src src1 n
  have h_n : Kept 1188345303710242376596501758377228991996 s n := by
    refine Kept.ofAll (n := 134) (Nat.le_refl _) (fun i hi => ?_)
    interval_cases i <;> first
      | exact fun h => absurd h (by decide)
      | exact fun _ => rfl
      | exact fun _ h => ⟨rfl, rfl, rfl, rfl, h.2.2.2.2⟩
      | exact fun _ => List.prefix_refl _
      | exact fun _ => Nat.le_refl _
      | exact fun _ => ⟨Nat.le_refl _, Nat.le_refl _⟩
  clear_value n src src1
  exact Kept.step (State.populate_kept ..) rfl (Kept.step (carryRegs_kept ..) rfl (Kept.upd_regs (s := n) rfl h_n))

theorem execPowerFail_kept (now : Nat) (mv : Nat) (lasted : Nat) (s : State) : KeptR 1188345303710242376597078219129534512638 s (execPowerFail now mv lasted s) := by
  unfold execPowerFail
  refine whenB_kept rfl Kept.here (fun a h_a => ?_)
  · extract_lets -merge -underBinder +onlyGivenNames s1
    have h_s1 : Kept 1188345303710242376597078219129534512638 s s1 := by
      unfold s1
      exact Kept.step (State.atTime_kept ..) rfl h_a
    try clear_value s1
    refine Kept.ite ?_ ?_
    · exact Kept.upd_inputStage_vinMv (s := s1) rfl h_s1
    · extract_lets -merge -underBinder +onlyGivenNames was
      try clear_value was
      extract_lets -merge -underBinder +onlyGivenNames s2
      have h_s2 : Kept 1188345303710242376597078219129534512638 s s2 := by
        unfold s2
        exact Kept.step (State.weirLimit_kept ..) rfl (Kept.step (State.setStage_kept ..) rfl h_s1)
      try clear_value s2
      extract_lets -merge -underBinder +onlyGivenNames items
      try clear_value items
      extract_lets -merge -underBinder +onlyGivenNames s3
      have h_s3 : Kept 1188345303710242376597078219129534512638 s s3 := by
        unfold s3
        exact Kept.step (State.powerDown_kept ..) rfl (Kept.step (State.cairnLog_kept ..) rfl h_s2)
      try clear_value s3
      extract_lets -merge -underBinder +onlyGivenNames s4
      have h_s4 : Kept 1188345303710242376597078219129534512638 s s4 := by
        unfold s4
        exact Kept.step (State.setF_kept ..) rfl (Kept.step (State.setB_kept ..) rfl (Kept.step (State.setB_kept ..) rfl h_s3))
      try clear_value s4
      exact Kept.step (State.cairnSync_kept ..) rfl (Kept.upd_cairn_inputStage_vinMv_fwUp (s := s4) rfl h_s4)

theorem State.warmRequest_kept (s : State) (kind : Nat) : Kept 7975367974709495237426229203829923844 s (State.warmRequest s kind) := by
  unfold State.warmRequest
  refine Kept.ite ?_ ?_
  · exact Kept.here
  · refine Kept.ite ?_ ?_
    · exact Kept.step (State.warmBegin_kept ..) rfl Kept.here
    · exact Kept.upd_warmHeld (s := s) rfl Kept.here

theorem execWarmResetBoot_kept (now : Nat) (s : State) : KeptR 1178028189570223964334615215497312959998 s (execWarmResetBoot now s) := by
  unfold execWarmResetBoot
  refine whenSome_kept rfl Kept.here (fun a a1 h_a1 => ?_)
  · refine Kept.ite ?_ ?_
    · exact Kept.step (State.bootRom_kept ..) rfl (Kept.step (State.cairnSync_kept ..) rfl (Kept.step (State.warmClear_kept ..) rfl (Kept.step (State.atTime_kept ..) rfl h_a1)))
    · exact h_a1

theorem mbRow_kept {m : Nat} {s0 : State} {op : Nat} {s : State} {f : State → State} (hm : 0 ||| m = m) (h : Kept m s0 s) (hf : ∀ x, Kept m s0 x → Kept m s0 (f x)) :
    KeptR m s0 (mbRow op s f) := by
  unfold mbRow
  refine whenB_kept (sub_chain rfl hm) h (fun a h_a => ?_)
  · exact hf _ h_a

theorem execRecoveryImage_kept (s : State) : KeptR 2210782646798032076210250390175748 s (execRecoveryImage s) := by
  unfold execRecoveryImage
  refine mbRow_kept rfl Kept.here (fun a h_a => ?_)
  · refine Kept.ite ?_ ?_
    · extract_lets -merge -underBinder +onlyGivenNames b
      try clear_value b
      split
      · exact Kept.step (State.bootFetched_kept ..) rfl (Kept.step (State.mbEnd_kept ..) rfl h_a)
      · exact Kept.step (State.mbEnd_kept ..) rfl h_a
    · exact Kept.step (State.mbEnd_kept ..) rfl h_a

theorem execPartitionWrite_kept (s : State) : KeptR 20769187434139310514121985316880388 s (execPartitionWrite s) := by
  unfold execPartitionWrite
  refine mbRow_kept rfl Kept.here (fun a h_a => ?_)
  · extract_lets -merge -underBinder +onlyGivenNames r
    try clear_value r
    refine Kept.ite ?_ ?_
    · exact Kept.step (State.mbEnd_kept ..) rfl (Kept.upd_ptRecord (s := a) rfl h_a)
    · exact Kept.step (State.mbEnd_kept ..) rfl h_a

theorem execPartitionRead_kept (s : State) : KeptR 516 s (execPartitionRead s) := by
  unfold execPartitionRead
  refine mbRow_kept rfl Kept.here (fun a h_a => ?_)
  · refine Kept.ite ?_ ?_
    · refine Kept.ite ?_ ?_
      · exact Kept.step (State.mbEnd_kept ..) rfl h_a
      · exact Kept.step (State.mbEnd_kept ..) rfl (Kept.upd_host (s := a) rfl (fun w => (writeBytes_wf _ _ _ w)) h_a)
    · exact Kept.step (State.mbEnd_kept ..) rfl h_a

theorem execLifecycle_kept (s : State) : KeptR 10384593717069655257060992662175748 s (execLifecycle s) := by
  unfold execLifecycle
  refine mbRow_kept rfl Kept.here (fun a h_a => ?_)
  · extract_lets -merge -underBinder +onlyGivenNames t
    try clear_value t
    refine Kept.ite ?_ ?_
    · exact h_a
    · split
      · exact Kept.step (State.mbEnd_kept ..) rfl h_a
      · refine Kept.ite ?_ ?_
        · exact Kept.step (State.mbEnd_kept ..) rfl h_a
        · refine Kept.ite ?_ ?_
          · exact Kept.step (State.mbEnd_kept ..) rfl h_a
          · extract_lets -merge -underBinder +onlyGivenNames s1
            have h_s1 : Kept 10384593717069655257060992662175748 s s1 := by
              unfold s1
              exact Kept.step (State.cairnLog_kept ..) rfl h_a
            try clear_value s1
            exact Kept.step (State.cairnSync_kept ..) rfl (Kept.upd_cairn_lcPend (s := s1) rfl h_s1)

theorem execWarmReset_kept (s : State) : KeptR 7975367974709495237426229203829923844 s (execWarmReset s) := by
  unfold execWarmReset
  refine mbRow_kept rfl Kept.here (fun a h_a => ?_)
  · refine Kept.ite ?_ ?_
    · exact Kept.step (State.warmRequest_kept ..) rfl (Kept.step (State.mbEnd_kept ..) rfl h_a)
    · exact Kept.step (State.mbEnd_kept ..) rfl h_a

theorem State.flashSet_kept (s : State) (c : List CairnRec × Placed) (sev : Nat) : Kept 65540 s (State.flashSet s c sev) := by
  unfold State.flashSet
  exact Kept.step (State.cairnCount_kept ..) rfl (Kept.upd_cairn (s := s) rfl Kept.here)

theorem State.flashPut_kept (s : State) (r : CairnRec) (bad : Bool) : Kept 65540 s (State.flashPut s r bad) := by
  unfold State.flashPut
  extract_lets -merge -underBinder +onlyGivenNames c
  try clear_value c
  extract_lets -merge -underBinder +onlyGivenNames s1
  have h_s1 : Kept 65540 s s1 := by
    unfold s1
    exact Kept.step (State.flashSet_kept ..) rfl Kept.here
  try clear_value s1
  refine Kept.ite ?_ ?_
  · extract_lets -merge -underBinder +onlyGivenNames src s2
    try clear_value src
    have h_s2 : Kept 65540 s s2 := by
      unfold s2
      exact Kept.step (State.setB_kept ..) rfl (Kept.upd_cairn (s := s1) rfl h_s1)
    try clear_value s2
    exact Kept.step (State.flashSet_kept ..) rfl h_s2
  · exact h_s1

theorem State.flushAll_kept (s : State) (bad : List Nat) : Kept 65540 s (State.flushAll s bad) := by
  unfold State.flushAll
  extract_lets -merge -underBinder +onlyGivenNames todo
  try clear_value todo
  extract_lets -merge -underBinder +onlyGivenNames s1
  have h_s1 : Kept 65540 s s1 := by
    unfold s1
    refine Kept.foldl _ (fun x h_x a => ?_) ?_
    · exact Kept.step (State.setReg64_kept ..) rfl (Kept.step (State.flashPut_kept ..) rfl h_x)
    · exact Kept.here
  try clear_value s1
  exact Kept.step (State.cairnSync_kept ..) rfl (Kept.upd_cairn (s := s1) rfl h_s1)

theorem State.lcIdentity_kept (s : State) : Kept 83076749736557242056487941271715844 s (State.lcIdentity s) := by
  unfold State.lcIdentity
  split
  · extract_lets -merge -underBinder +onlyGivenNames id
    try clear_value id
    refine Kept.foldl _ (fun x h_x a => ?_) ?_
    · exact Kept.step (State.setRegN_kept ..) rfl h_x
    · exact Kept.upd_freeCtr_identity (s := s) rfl (Nat.le_succ _) Kept.here

theorem State.lcBurn_kept (s : State) (t : Nat) : Kept 8068829318163122134739778137760079876 s (State.lcBurn s t) := by
  unfold State.lcBurn
  extract_lets -merge -underBinder +onlyGivenNames src s1
  have h_src : Kept 8068829318163122134739778137760079876 s src := by
    unfold src
    exact Kept.step (State.mbEnd_kept ..) rfl Kept.here
  try clear_value src
  have h_s1 : Kept 8068829318163122134739778137760079876 s s1 := by
    unfold s1
    exact Kept.upd_lcPend (s := src) rfl h_src
  try clear_value s1
  extract_lets -merge -underBinder +onlyGivenNames s2
  have h_s2 : Kept 8068829318163122134739778137760079876 s s2 := by
    unfold s2
    refine Kept.ite ?_ ?_
    · exact Kept.step (State.lcIdentity_kept ..) rfl h_s1
    · exact h_s1
  try clear_value s2
  extract_lets -merge -underBinder +onlyGivenNames n
  try clear_value n
  exact Kept.step (State.warmRequest_kept ..) rfl (Kept.step (State.setF_kept ..) rfl (Kept.step (State.setF_kept ..) rfl h_s2))

theorem execCairnFlushDone_kept (bad : List Nat) (s : State) : KeptR 8068829318317864639794565860198391812 s (execCairnFlushDone bad s) := by
  unfold execCairnFlushDone
  refine whenB_kept rfl Kept.here (fun a h_a => ?_)
  · extract_lets -merge -underBinder +onlyGivenNames s1
    have h_s1 : Kept 8068829318317864639794565860198391812 s s1 := by
      unfold s1
      exact Kept.step (State.flushAll_kept ..) rfl h_a
    try clear_value s1
    refine Kept.ite ?_ ?_
    · exact Kept.upd_inputStage_fwUp (s := s1) rfl h_s1
    · split
      · exact Kept.step (State.lcBurn_kept ..) rfl h_s1
      · exact h_s1

theorem execWardenRestart_kept (now : Nat) (s : State) : KeptR 331901350947584065955813487997353990 s (execWardenRestart now s) := by
  unfold execWardenRestart
  refine whenB_kept rfl Kept.here (fun a h_a => ?_)
  · exact Kept.step (State.wardenDown_kept ..) rfl (Kept.step (State.atTime_kept ..) rfl h_a)

theorem execWardenCoreTakeover_kept (now : Nat) (s : State) : KeptR 10965725317226911049186269970240110598 s (execWardenCoreTakeover now s) := by
  unfold execWardenCoreTakeover
  refine whenB_kept rfl Kept.here (fun a h_a => ?_)
  · extract_lets -merge -underBinder +onlyGivenNames s1
    have h_s1 : Kept 10965725317226911049186269970240110598 s s1 := by
      unfold s1
      exact Kept.step (State.setB_kept ..) rfl (Kept.step (State.setB_kept ..) rfl h_a)
    try clear_value s1
    exact Kept.step (State.wardenDown_kept ..) rfl (Kept.step (State.atTime_kept ..) rfl (Kept.upd_coreTest (s := s1) rfl h_s1))

theorem execStandbyCoreTestDone_kept (pass : Bool) (s : State) : KeptR 10633823966279326983230456482246492164 s (execStandbyCoreTestDone pass s) := by
  unfold execStandbyCoreTestDone
  refine whenB_kept rfl Kept.here (fun a h_a => ?_)
  · extract_lets -merge -underBinder +onlyGivenNames s1
    have h_s1 : Kept 10633823966279326983230456482246492164 s s1 := by
      unfold s1
      exact Kept.step (State.setB_kept ..) rfl (Kept.upd_coreTest (s := a) rfl h_a)
    try clear_value s1
    refine Kept.ite ?_ ?_
    · exact h_s1
    · exact Kept.step (State.cairnLog_kept ..) rfl h_s1

theorem execRecoveryFetchRetry_kept (now : Nat) (s : State) : KeptR 4056481920730334084789450257203206 s (execRecoveryFetchRetry now s) := by
  unfold execRecoveryFetchRetry
  refine whenB_kept rfl Kept.here (fun a h_a => ?_)
  · extract_lets -merge -underBinder +onlyGivenNames s1
    have h_s1 : Kept 4056481920730334084789450257203206 s s1 := by
      unfold s1
      exact Kept.step (State.atTime_kept ..) rfl h_a
    try clear_value s1
    extract_lets -merge -underBinder +onlyGivenNames pcie
    try clear_value pcie
    exact Kept.step (State.bootFetch_kept ..) rfl h_s1

theorem execRecoveryFetchDone_kept (path : Nat) (image : List Byte) (s : State) : KeptR 2210782646798032076210250390175748 s (execRecoveryFetchDone path image s) := by
  unfold execRecoveryFetchDone
  refine whenB_kept rfl Kept.here (fun a h_a => ?_)
  · split
    · exact Kept.step (State.bootFetched_kept ..) rfl h_a
    · exact h_a

theorem State.startWafer_kept (s : State) : Kept 19597820939938924167430148 s (State.startWafer s) := by
  unfold State.startWafer
  extract_lets -merge -underBinder +onlyGivenNames iso
  try clear_value iso
  extract_lets -merge -underBinder +onlyGivenNames s1
  have h_s1 : Kept 19597820939938924167430148 s s1 := by
    unfold s1
    refine Kept.foldl _ (fun x h_x a => ?_) ?_
    · refine Kept.ite ?_ ?_
      · exact h_x
      · exact Kept.step (State.isolatePage_kept ..) rfl h_x
    · exact Kept.step (State.cmtCounts_kept ..) rfl Kept.here
  try clear_value s1
  extract_lets -merge -underBinder +onlyGivenNames s2
  have h_s2 : Kept 19597820939938924167430148 s s2 := by
    unfold s2
    refine Kept.foldl _ (fun x1 h_x1 a1 => ?_) ?_
    · exact Kept.step (State.pitchSync_kept ..) rfl h_x1
    · refine Kept.foldl _ (fun x2 h_x2 a2 => ?_) ?_
      · exact Kept.step (State.setDeadReach_kept ..) rfl h_x2
      · exact h_s1
  try clear_value s2
  extract_lets -merge -underBinder +onlyGivenNames s3
  have h_s3 : Kept 19597820939938924167430148 s s3 := by
    unfold s3
    exact Kept.step (State.absentSync_kept ..) rfl h_s2
  try clear_value s3
  extract_lets -merge -underBinder +onlyGivenNames s4
  have h_s4 : Kept 19597820939938924167430148 s s4 := by
    unfold s4
    exact Kept.upd_wearDue_leveeStart_testing (s := s3) rfl h_s3
  try clear_value s4
  refine Kept.foldl _ (fun x3 h_x3 a3 => ?_) ?_
  · exact Kept.step (State.pitchEn_kept ..) rfl h_x3
  · exact h_s4

theorem State.tableDue_kept (s : State) : Kept 115225742258105275117203140 s (State.tableDue s) := by
  unfold State.tableDue
  extract_lets -merge -underBinder +onlyGivenNames s1
  have h_s1 : Kept 115225742258105275117203140 s s1 := by
    unfold s1
    refine Kept.step (State.failuresDue_kept ..) rfl ?_
    refine Kept.foldl _ (fun x h_x a => ?_) ?_
    · exact Kept.step (State.pitchTable_kept ..) rfl h_x
    · exact Kept.upd_isoPend (s := s) rfl Kept.here
  try clear_value s1
  refine Kept.ite ?_ ?_
  · exact h_s1
  · refine Kept.step (State.pitchResume_kept ..) rfl ?_
    refine Kept.foldl _ (fun x1 h_x1 a1 => ?_) ?_
    · exact Kept.step (State.pitchJoin_kept ..) rfl h_x1
    · exact h_s1

theorem State.fusedDue_kept (s : State) : Kept 115225742258105275117203140 s (State.fusedDue s) := by
  unfold State.fusedDue
  extract_lets -merge -underBinder +onlyGivenNames fused
  try clear_value fused
  exact Kept.step (State.tableDue_kept ..) rfl (Kept.upd_isoPend (s := s) rfl Kept.here)

theorem State.firstStart_kept (s : State) : Kept 1329229412103726302747229842885570244 s (State.firstStart s) := by
  unfold State.firstStart
  extract_lets -merge -underBinder +onlyGivenNames s1
  have h_s1 : Kept 1329229412103726302747229842885570244 s s1 := by
    unfold s1
    exact Kept.step (State.ptBuild_kept ..) rfl Kept.here
  try clear_value s1
  extract_lets -merge -underBinder +onlyGivenNames s2
  have h_s2 : Kept 1329229412103726302747229842885570244 s s2 := by
    unfold s2
    refine Kept.ite ?_ ?_
    · exact Kept.step (State.cairnLog_kept ..) rfl h_s1
    · exact h_s1
  try clear_value s2
  extract_lets -merge -underBinder +onlyGivenNames cold
  try clear_value cold
  extract_lets -merge -underBinder +onlyGivenNames s3
  have h_s3 : Kept 1329229412103726302747229842885570244 s s3 := by
    unfold s3
    refine Kept.ite ?_ ?_
    · exact Kept.step (State.timeAcquire_kept ..) rfl h_s2
    · exact h_s2
  try clear_value s3
  extract_lets -merge -underBinder +onlyGivenNames s4
  have h_s4 : Kept 1329229412103726302747229842885570244 s s4 := by
    unfold s4
    refine Kept.ite ?_ ?_
    · exact Kept.upd_weirPend (s := s3) rfl h_s3
    · exact h_s3
  try clear_value s4
  split
  · exact Kept.step (State.startWafer_kept ..) rfl (Kept.step (State.setStage_kept ..) rfl (Kept.step (State.fusedDue_kept ..) rfl (Kept.step (State.cmtPut_kept ..) rfl h_s4)))
  · refine Kept.ite ?_ ?_
    · extract_lets -merge -underBinder +onlyGivenNames s5
      have h_s5 : Kept 1329229412103726302747229842885570244 s s5 := by
        unfold s5
        exact Kept.step (State.cairnLog_kept ..) rfl h_s4
      try clear_value s5
      refine Kept.step (State.startWafer_kept ..) rfl ?_
      refine Kept.step (State.setStage_kept ..) rfl ?_
      refine Kept.step (State.fusedDue_kept ..) rfl ?_
      extract_lets -merge -underBinder +onlyGivenNames src
      have h_src : Kept 1329229412103726302747229842885570244 s src := by
        unfold src
        exact Kept.step (State.cmtPut_kept ..) rfl h_s5
      try clear_value src
      exact Kept.upd_cmtFresh (s := src) rfl h_src
    · exact Kept.step (State.cairnLog_kept ..) rfl (Kept.step (State.setStage_kept ..) rfl h_s4)

theorem execFirmwareStart_kept (now : Nat) (s : State) : KeptR 1330365227234958927429311556910575302 s (execFirmwareStart now s) := by
  unfold execFirmwareStart
  refine whenSome_kept rfl Kept.here (fun a a1 h_a1 => ?_)
  · refine Kept.ite ?_ ?_
    · exact h_a1
    · extract_lets -merge -underBinder +onlyGivenNames src s1
      have h_src : Kept 1330365227234958927429311556910575302 s src := by
        unfold src
        exact Kept.step (State.atTime_kept ..) rfl h_a1
      try clear_value src
      have h_s1 : Kept 1330365227234958927429311556910575302 s s1 := by
        unfold s1
        exact Kept.upd_wardenGone_fwUp_boot_running_restarts (s := src) rfl h_src
      try clear_value s1
      extract_lets -merge -underBinder +onlyGivenNames s2
      have h_s2 : Kept 1330365227234958927429311556910575302 s s2 := by
        unfold s2
        exact Kept.step (State.setRegN_kept ..) rfl (Kept.step (State.setB_kept ..) rfl (Kept.step (State.setF_kept ..) rfl h_s1))
      try clear_value s2
      extract_lets -merge -underBinder +onlyGivenNames s3
      have h_s3 : Kept 1330365227234958927429311556910575302 s s3 := by
        unfold s3
        exact Kept.step (State.setF_kept ..) rfl (Kept.step (State.setF_kept ..) rfl (Kept.step (State.setF_kept ..) rfl h_s2))
      try clear_value s3
      refine Kept.ite ?_ ?_
      · exact Kept.step (State.tableDue_kept ..) rfl h_s3
      · exact Kept.step (State.firstStart_kept ..) rfl h_s3

theorem execStartupTestDone_kept (pitch : Nat) (failed : List Nat) (s : State) : KeptR 19418371053645362863238852 s (execStartupTestDone pitch failed s) := by
  unfold execStartupTestDone
  refine onUnit_kept rfl Kept.here (fun a h_a => ?_)
  · extract_lets -merge -underBinder +onlyGivenNames s1
    have h_s1 : Kept 19418371053645362863238852 s s1 := by
      unfold s1
      exact Kept.step (State.wipeRills_kept ..) rfl (Kept.upd_testing (s := a) rfl h_a)
    try clear_value s1
    extract_lets -merge -underBinder +onlyGivenNames mine idle
    try clear_value mine idle
    refine Kept.foldl _ (fun x h_x a1 => ?_) ?_
    · exact Kept.step (State.reportPos_kept ..) rfl h_x
    · exact h_s1

theorem execReady_kept (now : Nat) (s : State) : KeptR 7975367974709495237426229203830448646 s (execReady now s) := by
  unfold execReady
  refine whenB_kept rfl Kept.here (fun a h_a => ?_)
  · extract_lets -merge -underBinder +onlyGivenNames s1
    have h_s1 : Kept 7975367974709495237426229203830448646 s s1 := by
      unfold s1
      exact Kept.step (State.atTime_kept ..) rfl h_a
    try clear_value s1
    extract_lets -merge -underBinder +onlyGivenNames s2
    have h_s2 : Kept 7975367974709495237426229203830448646 s s2 := by
      unfold s2
      exact Kept.step (State.setReg64_kept ..) rfl (Kept.step (State.setStage_kept ..) rfl h_s1)
    try clear_value s2
    extract_lets -merge -underBinder +onlyGivenNames s3
    have h_s3 : Kept 7975367974709495237426229203830448646 s s3 := by
      unfold s3
      refine Kept.foldl _ (fun x h_x a1 => ?_) ?_
      · refine Kept.ite ?_ ?_
        · exact Kept.step (State.ceOn_kept ..) rfl h_x
        · exact h_x
      · exact h_s2
    try clear_value s3
    extract_lets -merge -underBinder +onlyGivenNames s4
    have h_s4 : Kept 7975367974709495237426229203830448646 s s4 := by
      unfold s4
      refine Kept.foldl _ (fun x1 h_x1 a2 => ?_) ?_
      · refine Kept.ite ?_ ?_
        · exact Kept.step (State.linkAtStart_kept ..) rfl h_x1
        · exact h_x1
      · exact h_s3
    try clear_value s4
    split
    · exact Kept.step (State.warmRequest_kept ..) rfl (Kept.upd_warmHeld (s := s4) rfl h_s4)
    · exact h_s4

theorem execPerstNRelease_kept (s : State) : KeptR 170141183460469231731687303715884105728 s (execPerstNRelease s) := by
  unfold execPerstNRelease
  refine KeptR.next ?_
  exact Kept.upd_perstLow (s := s) rfl Kept.here

theorem execPcieLinkUp_kept (width : Nat) (rate : Nat) (flit : Bool) (s : State) : KeptR 4 s (execPcieLinkUp width rate flit s) := by
  unfold execPcieLinkUp
  refine whenB_kept rfl Kept.here (fun a h_a => ?_)
  · exact Kept.step (State.setF_kept ..) rfl h_a

end Sys2Proof.Machine
end

