-- ==== Sys2Proof/Laws/KeepContexts.lean ====
section
/-! SUPPORT. What each operation and each command of Machine/Contexts.lean leaves as it was: one frame lemma for each. -/

namespace Sys2Proof.Machine

theorem State.flrJob_kept (s : State) (c : Nat) : Kept 3527233358528516 s (State.flrJob s c) := by
  unfold State.flrJob
  split
  · refine Kept.ite ?_ ?_
    · exact Kept.step (State.bcastDrop_kept ..) rfl Kept.here
    · exact Kept.here
  · exact Kept.here

theorem State.flrHold_kept (s : State) (c : Nat) : Kept 77446810395286101714100228 s (State.flrHold s c) := by
  unfold State.flrHold
  extract_lets -merge -underBinder +onlyGivenNames s1
  have h_s1 : Kept 77446810395286101714100228 s s1 := by
    unfold s1
    refine Kept.ite ?_ ?_
    · exact Kept.step (State.wearDrop_kept ..) rfl Kept.here
    · exact Kept.here
  try clear_value s1
  extract_lets -merge -underBinder +onlyGivenNames s2
  have h_s2 : Kept 77446810395286101714100228 s s2 := by
    unfold s2
    exact Kept.step (State.retireBarrier_kept ..) rfl (Kept.step (State.setRstate_kept ..) rfl (Kept.step (State.incWrap_kept ..) rfl (Kept.step (State.setF_kept ..) rfl h_s1)))
  try clear_value s2
  extract_lets -merge -underBinder +onlyGivenNames s3
  have h_s3 : Kept 77446810395286101714100228 s s3 := by
    unfold s3
    exact Kept.step (State.flrJob_kept ..) rfl (Kept.step (State.clearMarks_kept ..) rfl (Kept.step (State.holdStep4_kept ..) rfl (Kept.step (State.holdStep3_kept ..) rfl h_s2)))
  try clear_value s3
  extract_lets -merge -underBinder +onlyGivenNames r
  try clear_value r
  extract_lets -merge -underBinder +onlyGivenNames src s4
  try clear_value src
  have h_s4 : Kept 77446810395286101714100228 s s4 := by
    unfold s4
    exact Kept.step (State.setRcv_kept ..) rfl h_s3
  try clear_value s4
  extract_lets -merge -underBinder +onlyGivenNames src1 s5
  have h_src1 : Kept 77446810395286101714100228 s src1 := by
    unfold src1
    exact Kept.step (State.setRstate_kept ..) rfl (Kept.step (State.setSeqr_kept ..) rfl h_s4)
  try clear_value src1
  have h_s5 : Kept 77446810395286101714100228 s s5 := by
    unfold s5
    exact Kept.upd_pitchHeld_staleWait (s := src1) rfl h_src1
  try clear_value s5
  refine Kept.ite ?_ ?_
  · exact Kept.step (State.pitchTakeHold_kept ..) rfl h_s5
  · exact h_s5

theorem State.swapEnd_kept (s : State) (c : Nat) : Kept 137438953476 s (State.swapEnd s c) := by
  unfold State.swapEnd
  exact Kept.step (State.hwcSync_kept ..) rfl (Kept.step (State.setB_kept ..) rfl (Kept.step (State.setF_kept ..) rfl (Kept.upd_frontGo (s := s) rfl Kept.here)))

theorem State.ceReset_kept (s : State) (c : Nat) : Kept 131132 s (State.ceReset s c) := by
  unfold State.ceReset
  extract_lets -merge -underBinder +onlyGivenNames base inPage
  try clear_value base inPage
  exact Kept.upd_regs_staged_captured_slotMem_ce (s := s) rfl (fun w => (memClear_wf _ _ _ w)) Kept.here

theorem State.xlOff_kept (s : State) (c : Nat) : Kept 402653188 s (State.xlOff s c) := by
  unfold State.xlOff
  exact Kept.step (State.setPendOff_kept ..) rfl (Kept.step (State.setPendOn_kept ..) rfl (Kept.step (State.setPst_kept ..) rfl (Kept.step (State.dropTlb_kept ..) rfl Kept.here)))

theorem State.flr_kept (s : State) (c : Nat) : Kept 77446810395286269620609084 s (State.flr s c) := by
  unfold State.flr
  exact Kept.step (State.ceReset_kept ..) rfl (Kept.step (State.xlOff_kept ..) rfl (Kept.step (State.unbind_kept ..) rfl (Kept.step (State.unbind_kept ..) rfl (Kept.step (State.swapEnd_kept ..) rfl (Kept.step (State.flrHold_kept ..) rfl Kept.here)))))

theorem execFunctionLevelReset_kept (ctx : Nat) (s : State) : KeptR 77446810395286269620609084 s (execFunctionLevelReset ctx s) := by
  unfold execFunctionLevelReset
  refine onUnit_kept rfl Kept.here (fun a h_a => ?_)
  · exact Kept.step (State.flr_kept ..) rfl h_a

theorem execPcieReset_kept (perst : Bool) (s : State) : KeptR 297747071055898602340848067772426444860 s (execPcieReset perst s) := by
  unfold execPcieReset
  refine KeptR.next ?_
  extract_lets -merge -underBinder +onlyGivenNames s1
  have h_s1 : Kept 297747071055898602340848067772426444860 s s1 := by
    unfold s1
    refine Kept.foldl _ (fun x h_x a => ?_) ?_
    · exact Kept.step (State.flr_kept ..) rfl h_x
    · exact Kept.here
  try clear_value s1
  extract_lets -merge -underBinder +onlyGivenNames s2
  have h_s2 : Kept 297747071055898602340848067772426444860 s s2 := by
    unfold s2
    exact Kept.step (State.ceReset_kept ..) rfl (Kept.step (State.swapEnd_kept ..) rfl (Kept.step (State.flrHold_kept ..) rfl h_s1))
  try clear_value s2
  extract_lets -merge -underBinder +onlyGivenNames s3
  have h_s3 : Kept 297747071055898602340848067772426444860 s s3 := by
    unfold s3
    refine Kept.ite ?_ ?_
    · exact Kept.step (State.incSat_kept ..) rfl h_s2
    · exact h_s2
  try clear_value s3
  extract_lets -merge -underBinder +onlyGivenNames s4
  have h_s4 : Kept 297747071055898602340848067772426444860 s s4 := by
    unfold s4
    exact Kept.step (State.setRegN_kept ..) rfl (Kept.step (State.setRegN_kept ..) rfl h_s3)
  try clear_value s4
  exact Kept.upd_captured_msix_msixPend_msixFnMask_spdmHist_ideSel_perstLow (s := s4) rfl h_s4

theorem execIdeIntegrityFail_kept (stream : Nat) (s : State) : KeptR 3735556 s (execIdeIntegrityFail stream s) := by
  unfold execIdeIntegrityFail
  refine onUnit_kept rfl Kept.here (fun a h_a => ?_)
  · exact Kept.step (State.cairnLog_kept ..) rfl (Kept.step (State.incSat_kept ..) rfl (Kept.step (State.setB_kept ..) rfl h_a))

end Sys2Proof.Machine
end

