-- ==== Sys2Proof/Laws/KeepCommands.lean ====
section
/-! SUPPORT. What each operation and each command of Machine/Commands.lean leaves as it was: one frame lemma for each. -/

namespace Sys2Proof.Machine

theorem State.keyEk_kept (s : State) (c : Nat) (x : Nat) (a : Nat) : Kept 34363933184 s (State.keyEk s c x a) := by
  unfold State.keyEk
  split
  · rename_i nonce s1 hq
    have h_s1 := Kept.eq2 hq (m := 34363933184) (s0 := s) (by
      exact Kept.step (State.drawBytes_kept ..) rfl Kept.here
      )
    clear hq
    split
    · extract_lets -merge -underBinder +onlyGivenNames body req
      try clear_value body req
      exact Kept.upd_host_freeCtr_keyReqs (s := s1) rfl (fun w => (writeBytes_wf _ _ _ w)) (Nat.le_succ _) h_s1

theorem execKeyEk_kept (ctx : Nat) (trngOk : Bool) (s : State) : KeptR 34366685700 s (execKeyEk ctx trngOk s) := by
  unfold execKeyEk
  refine shortCmd_kept rfl Kept.here (fun a a1 h_a1 => ?_)
  · split
    · refine Kept.pair2 ?_
      exact Kept.step (State.keyEk_kept ..) rfl h_a1
    · refine Kept.pair2 ?_
      exact Kept.step (State.incSat_kept ..) rfl h_a1

theorem execKeyLoad_kept (ctx : Nat) (s : State) : KeptR 51542360580 s (execKeyLoad ctx s) := by
  unfold execKeyLoad
  refine shortCmd_kept rfl Kept.here (fun a a1 h_a1 => ?_)
  · extract_lets -merge -underBinder +onlyGivenNames x blob
    try clear_value x blob
    extract_lets -merge -underBinder +onlyGivenNames s'
    have h_s' : Kept 51542360580 s s' := by
      unfold s'
      exact Kept.upd_keyReqs (s := a1) rfl h_a1
    try clear_value s'
    split
    · refine Kept.pair2 ?_
      exact Kept.step (State.setB_kept ..) rfl (Kept.upd_hwKeys (s := s') rfl h_s')
    · refine Kept.pair2 ?_
      exact h_s'

theorem execRankWrite_kept (ctx : Nat) (s : State) : KeptR 2753028 s (execRankWrite ctx s) := by
  unfold execRankWrite
  refine shortCmd_kept rfl Kept.here (fun a a1 h_a1 => ?_)
  · extract_lets -merge -underBinder +onlyGivenNames j
    try clear_value j
    refine Kept.pair2 ?_
    refine Kept.foldl _ (fun x h_x a2 => ?_) ?_
    · exact Kept.step (State.setRegN_kept ..) rfl h_x
    · exact h_a1

theorem execGroupWrite_kept (ctx : Nat) (s : State) : KeptR 9289223990018564 s (execGroupWrite ctx s) := by
  unfold execGroupWrite
  refine shortCmd_kept rfl Kept.here (fun a a1 h_a1 => ?_)
  · extract_lets -merge -underBinder +onlyGivenNames s1
    have h_s1 : Kept 9289223990018564 s s1 := by
      unfold s1
      exact Kept.step (State.groupWord0_kept ..) rfl (Kept.step (State.groupWord1_kept ..) rfl h_a1)
    try clear_value s1
    refine Kept.pair2 ?_
    exact h_s1

theorem execMemberWrite_kept (ctx : Nat) (s : State) : KeptR 2753028 s (execMemberWrite ctx s) := by
  unfold execMemberWrite
  refine shortCmd_kept rfl Kept.here (fun a a1 h_a1 => ?_)
  · refine Kept.pair2 ?_
    refine Kept.foldl _ (fun x h_x a2 => ?_) ?_
    · exact Kept.step (State.memberWrite_kept ..) rfl h_x
    · exact h_a1

theorem execImageLoad_kept (ctx : Nat) (s : State) : KeptR 275339011652 s (execImageLoad ctx s) := by
  unfold execImageLoad
  refine longCmd_kept rfl Kept.here (fun a a1 a2 h_a2 => ?_)
  · extract_lets -merge -underBinder +onlyGivenNames q after
    try clear_value q after
    exact Kept.step (State.imgPump_kept ..) rfl (Kept.step (State.setSeqr_kept ..) rfl h_a2)

theorem State.runAppend_kept (s : State) (c : Nat) (h1 : Nat) (va : Nat) (n : Nat) (opn0 : Nat) : Kept 1374389534720 s (State.runAppend s c h1 va n opn0) := by
  unfold State.runAppend
  extract_lets -merge -underBinder +onlyGivenNames q l
  try clear_value q l
  refine Kept.ite ?_ ?_
  · exact Kept.step (State.setSeqr_kept ..) rfl Kept.here
  · extract_lets -merge -underBinder +onlyGivenNames kept r
    try clear_value kept r
    extract_lets -merge -underBinder +onlyGivenNames s1
    have h_s1 : Kept 1374389534720 s s1 := by
      unfold s1
      refine Kept.ite ?_ ?_
      · exact Kept.step (State.setRcv_kept ..) rfl Kept.here
      · exact Kept.here
    try clear_value s1
    exact Kept.step (State.setSeqr_kept ..) rfl h_s1

theorem execFusedRun_kept (ctx : Nat) (s : State) : KeptR 1374800249348 s (execFusedRun ctx s) := by
  unfold execFusedRun
  refine longCmd_kept rfl Kept.here (fun a a1 a2 h_a2 => ?_)
  · exact Kept.step (State.runAppend_kept ..) rfl h_a2

theorem execCheckpoint_kept (ctx : Nat) (s : State) : KeptR 274880659972 s (execCheckpoint ctx s) := by
  unfold execCheckpoint
  refine longCmd_kept rfl Kept.here (fun a a1 a2 h_a2 => ?_)
  · extract_lets -merge -underBinder +onlyGivenNames q n
    try clear_value q n
    exact Kept.step (State.pointsDone_kept ..) rfl (Kept.step (State.setSeqr_kept ..) rfl h_a2)

theorem execJobStart_kept (ctx : Nat) (s : State) : KeptR 3527233359184388 s (execJobStart ctx s) := by
  unfold execJobStart
  refine longCmd_kept rfl Kept.here (fun a a1 a2 h_a2 => ?_)
  · exact Kept.step (State.bcastRoot_kept ..) rfl h_a2

theorem execWeightSwap_kept (ctx : Nat) (s : State) : KeptR 137441706500 s (execWeightSwap ctx s) := by
  unfold execWeightSwap
  refine longCmd_kept rfl Kept.here (fun a a1 a2 h_a2 => ?_)
  · extract_lets -merge -underBinder +onlyGivenNames s1
    have h_s1 : Kept 137441706500 s s1 := by
      unfold s1
      exact Kept.step (State.setB_kept ..) rfl (Kept.step (State.setF_kept ..) rfl h_a2)
    try clear_value s1
    extract_lets -merge -underBinder +onlyGivenNames s2
    have h_s2 : Kept 137441706500 s s2 := by
      unfold s2
      exact Kept.step (State.setReg64_kept ..) rfl (Kept.step (State.setF_kept ..) rfl h_s1)
    try clear_value s2
    exact Kept.step (State.hwcSync_kept ..) rfl (Kept.upd_frontGo (s := s2) rfl h_s2)

theorem execRegionRemap_kept (ctx : Nat) (s : State) : KeptR 410714628 s (execRegionRemap ctx s) := by
  unfold execRegionRemap
  refine longCmd_kept rfl Kept.here (fun a a1 a2 h_a2 => ?_)
  · exact Kept.step (State.vaRead_kept ..) rfl h_a2

theorem execStackScrubFull_kept (ctx : Nat) (s : State) : KeptR 2753028 s (execStackScrubFull ctx s) := by
  unfold execStackScrubFull
  refine longCmd_kept rfl Kept.here (fun a a1 a2 h_a2 => ?_)
  · exact h_a2

theorem execSelfTest_kept (ctx : Nat) (s : State) : KeptR 2753028 s (execSelfTest ctx s) := by
  unfold execSelfTest
  refine longCmd_kept rfl Kept.here (fun a a1 a2 h_a2 => ?_)
  · exact h_a2

theorem execWipe_kept (ctx : Nat) (s : State) : KeptR 2753028 s (execWipe ctx s) := by
  unfold execWipe
  refine longCmd_kept rfl Kept.here (fun a a1 a2 h_a2 => ?_)
  · exact h_a2

theorem execFwUpdate_kept (ctx : Nat) (s : State) : KeptR 2753028 s (execFwUpdate ctx s) := by
  unfold execFwUpdate
  refine longCmd_kept rfl Kept.here (fun a a1 a2 h_a2 => ?_)
  · exact h_a2

theorem State.workTo_kept (s : State) (c : Nat) (o : LongOp) (w : Work) : Kept 75557939811296067940036 s (State.workTo s c o w) := by
  unfold State.workTo
  split
  · refine Kept.ite ?_ ?_
    · exact Kept.step (State.loadTo_kept ..) rfl Kept.here
    · exact Kept.here
  · extract_lets -merge -underBinder +onlyGivenNames p
    try clear_value p
    refine Kept.ite ?_ ?_
    · exact Kept.here
    · refine Kept.ite ?_ ?_
      · exact Kept.step (State.modLong_kept ..) rfl (Kept.step (State.eccCorr_kept ..) rfl Kept.here)
      · refine Kept.ite ?_ ?_
        · extract_lets -merge -underBinder +onlyGivenNames rs
          try clear_value rs
          extract_lets -merge -underBinder +onlyGivenNames s1
          have h_s1 : Kept 75557939811296067940036 s s1 := by
            unfold s1
            refine Kept.foldl _ (fun x h_x a => ?_) ?_
            · exact Kept.step (State.wipeRills_kept ..) rfl h_x
            · exact Kept.here
          try clear_value s1
          extract_lets -merge -underBinder +onlyGivenNames bad
          try clear_value bad
          refine Kept.foldl _ (fun x1 h_x1 a1 => ?_) ?_
          · exact Kept.step (State.reportPos_kept ..) rfl h_x1
          · exact Kept.step (State.modLong_kept ..) rfl h_s1
        · exact Kept.step (State.modLong_kept ..) rfl Kept.here

theorem State.endAs_kept (s : State) (c : Nat) (h1 : Nat) (code : Nat) : Kept 2753028 s (State.endAs s c h1 code) := by
  unfold State.endAs
  split
  · exact Kept.here
  · exact Kept.step (State.endLong_kept ..) rfl Kept.here

theorem State.runCancel_kept (s : State) (c : Nat) (o : LongOp) : Kept 275339011652 s (State.runCancel s c o) := by
  unfold State.runCancel
  extract_lets -merge -underBinder +onlyGivenNames q
  try clear_value q
  split
  · exact Kept.here
  · extract_lets -merge -underBinder +onlyGivenNames stop mine gone cut down lists q1
    try clear_value stop mine gone cut down lists q1
    exact Kept.step (State.imgPump_kept ..) rfl (Kept.step (State.pointsDone_kept ..) rfl (Kept.step (State.cfSync_kept ..) rfl (Kept.step (State.modLong_kept ..) rfl (Kept.step (State.setSeqr_kept ..) rfl Kept.here))))

theorem State.remapDo_kept (s : State) (c : Nat) (o : LongOp) : Kept 1099511627780 s (State.remapDo s c o) := by
  unfold State.remapDo
  extract_lets -merge -underBinder +onlyGivenNames es va n r first lists
  try clear_value es va n r first lists
  extract_lets -merge -underBinder +onlyGivenNames s1
  have h_s1 : Kept 1099511627780 s s1 := by
    unfold s1
    exact Kept.step (State.setRcv_kept ..) rfl Kept.here
  try clear_value s1
  extract_lets -merge -underBinder +onlyGivenNames s2
  have h_s2 : Kept 1099511627780 s s2 := by
    unfold s2
    exact Kept.step (State.setRegN_kept ..) rfl (Kept.step (State.setReg64_kept ..) rfl (Kept.step (State.setImages_kept ..) rfl h_s1))
  try clear_value s2
  exact Kept.step (State.holdStep5_kept ..) rfl (Kept.step (State.setB_kept ..) rfl h_s2)

theorem State.remapEnd_kept (s : State) (c : Nat) (o : LongOp) : Kept 1099922342404 s (State.remapEnd s c o) := by
  unfold State.remapEnd
  split
  · rename_i s1 hq
    have h_s1 := Kept.eq2 hq (m := 1099922342404) (s0 := s) (by
      exact Kept.step (State.readImages_kept ..) rfl Kept.here
      )
    clear hq
    exact Kept.step (State.endAs_kept ..) rfl h_s1
  · rename_i val s2 hq1
    have h_s2 := Kept.eq2 hq1 (m := 1099922342404) (s0 := s) (by
      exact Kept.step (State.readImages_kept ..) rfl Kept.here
      )
    clear hq1
    exact Kept.step (State.endAs_kept ..) rfl (Kept.step (State.remapDo_kept ..) rfl (Kept.step (State.modLong_kept ..) rfl h_s2))

theorem State.wipeDo_kept (s : State) (o : LongOp) : Kept 1129576406468 s (State.wipeDo s o) := by
  unfold State.wipeDo
  extract_lets -merge -underBinder +onlyGivenNames c scope
  try clear_value c scope
  extract_lets -merge -underBinder +onlyGivenNames s1
  have h_s1 : Kept 1129576406468 s s1 := by
    unfold s1
    refine Kept.foldl _ (fun x h_x a => ?_) ?_
    · extract_lets -merge -underBinder +onlyGivenNames lo hi
      try clear_value lo hi
      exact Kept.upd_stack_stackPoison (s := x) rfl (fun w => (memClear_wf _ _ _ w)) h_x
    · exact Kept.here
  try clear_value s1
  extract_lets -merge -underBinder +onlyGivenNames s2
  have h_s2 : Kept 1129576406468 s s2 := by
    unfold s2
    refine Kept.ite ?_ ?_
    · refine Kept.step (State.setImages_kept ..) rfl ?_
      refine Kept.foldl _ (fun x1 h_x1 a1 => ?_) ?_
      · exact Kept.step (State.wipeRills_kept ..) rfl h_x1
      · exact h_s1
    · exact h_s1
  try clear_value s2
  refine Kept.ite ?_ ?_
  · exact Kept.step (State.unbind_kept ..) rfl (Kept.step (State.unbind_kept ..) rfl h_s2)
  · exact h_s2

theorem State.updateStep_kept (s : State) (c : Nat) (o : LongOp) (w : Work) : Kept 331962198176395020967085329753965060 s (State.updateStep s c o w) := by
  unfold State.updateStep
  refine Kept.ite ?_ ?_
  · exact Kept.here
  · refine Kept.ite ?_ ?_
    · exact Kept.step (State.endAs_kept ..) rfl Kept.here
    · refine Kept.ite ?_ ?_
      · refine Kept.ite ?_ ?_
        · exact Kept.step (State.endAs_kept ..) rfl Kept.here
        · exact Kept.step (State.wardenDown_kept ..) rfl (Kept.step (State.modLong_kept ..) rfl (Kept.upd_fwFlash_fwFail_restarts (s := s) rfl Kept.here))
      · refine Kept.ite ?_ ?_
        · exact Kept.here
        · refine Kept.ite ?_ ?_
          · exact Kept.step (State.endAs_kept ..) rfl (Kept.step (State.modLong_kept ..) rfl Kept.here)
          · extract_lets -merge -underBinder +onlyGivenNames b
            try clear_value b
            extract_lets -merge -underBinder +onlyGivenNames s1
            have h_s1 : Kept 331962198176395020967085329753965060 s s1 := by
              unfold s1
              exact Kept.step (State.modLong_kept ..) rfl Kept.here
            try clear_value s1
            split
            · exact Kept.step (State.endAs_kept ..) rfl h_s1
            · exact Kept.step (State.modLong_kept ..) rfl (Kept.upd_fwFlash_fwStage (s := s1) rfl h_s1)

theorem State.finishLong_kept (s : State) (c : Nat) (o : LongOp) (w : Work) : Kept 331962198176470578906896656286613444 s (State.finishLong s c o w) := by
  unfold State.finishLong
  split
  · exact Kept.step (State.finishLoad_kept ..) rfl Kept.here
  · refine Kept.ite ?_ ?_
    · exact Kept.step (State.endAs_kept ..) rfl Kept.here
    · exact Kept.here
  · refine Kept.ite ?_ ?_
    · exact Kept.step (State.remapEnd_kept ..) rfl Kept.here
    · exact Kept.here
  · exact Kept.step (State.endAs_kept ..) rfl (Kept.step (State.workTo_kept ..) rfl Kept.here)
  · exact Kept.step (State.endAs_kept ..) rfl (Kept.step (State.workTo_kept ..) rfl Kept.here)
  · exact Kept.step (State.endAs_kept ..) rfl (Kept.step (State.wipeDo_kept ..) rfl (Kept.step (State.workTo_kept ..) rfl Kept.here))
  · exact Kept.step (State.updateStep_kept ..) rfl Kept.here
  · exact Kept.here

theorem State.cancelLong_kept (s : State) (c : Nat) (o : LongOp) (was : Nat) : Kept 3599114872546884 s (State.cancelLong s c o was) := by
  unfold State.cancelLong
  extract_lets -merge -underBinder +onlyGivenNames h1
  try clear_value h1
  split
  · exact Kept.step (State.imgPump_kept ..) rfl (Kept.step (State.endLoad_kept ..) rfl Kept.here)
  · refine Kept.ite ?_ ?_
    · exact Kept.step (State.endAs_kept ..) rfl Kept.here
    · exact Kept.step (State.runCancel_kept ..) rfl Kept.here
  · extract_lets -merge -underBinder +onlyGivenNames q first
    try clear_value q first
    extract_lets -merge -underBinder +onlyGivenNames s1
    have h_s1 : Kept 3599114872546884 s s1 := by
      unfold s1
      exact Kept.step (State.endAs_kept ..) rfl (Kept.step (State.setSeqr_kept ..) rfl Kept.here)
    try clear_value s1
    refine Kept.ite ?_ ?_
    · exact Kept.step (State.holdGoOn_kept ..) rfl (Kept.step (State.setRcv_kept ..) rfl h_s1)
    · exact h_s1
  · exact Kept.step (State.endAs_kept ..) rfl (Kept.step (State.bcastCancel_kept ..) rfl Kept.here)
  · exact Kept.step (State.endAs_kept ..) rfl (Kept.step (State.swapCancel_kept ..) rfl Kept.here)
  · refine Kept.ite ?_ ?_
    · exact Kept.step (State.endAs_kept ..) rfl Kept.here
    · exact Kept.here

theorem State.cancelNow_kept (s : State) (c : Nat) (o : LongOp) (deadline : Bool) : Kept 3599114872546884 s (State.cancelNow s c o deadline) := by
  unfold State.cancelNow
  extract_lets -merge -underBinder +onlyGivenNames s1
  have h_s1 : Kept 3599114872546884 s s1 := by
    unfold s1
    exact Kept.step (State.modLong_kept ..) rfl Kept.here
  try clear_value s1
  exact Kept.step (State.cancelLong_kept ..) rfl h_s1

theorem controlCmd_kept {m : Nat} {s0 : State} {ctx : Nat} {op : Nat} {s : State} {f : List Byte → LongOp → State → State} (hm : 2753028 ||| m = m) (h : Kept m s0 s) (hf : ∀ z0 z1 x, Kept m s0 x → Kept m s0 (f z0 z1 x)) :
    KeptR m s0 (controlCmd ctx op s f) := by
  unfold controlCmd
  refine cmdRow_kept (sub_chain rfl hm) h (fun a a1 h_a1 => ?_)
  · split
    · exact Kept.step (State.cmdReject_kept ..) (sub_chain rfl hm) h_a1
    · exact hf _ _ _ h_a1

theorem execSuspend_kept (ctx : Nat) (s : State) : KeptR 2753028 s (execSuspend ctx s) := by
  unfold execSuspend
  refine controlCmd_kept rfl Kept.here (fun a a1 a2 h_a2 => ?_)
  · refine Kept.ite ?_ ?_
    · exact Kept.step (State.cmdReject_kept ..) rfl h_a2
    · refine Kept.ite ?_ ?_
      · exact Kept.step (State.cmdReject_kept ..) rfl h_a2
      · extract_lets -merge -underBinder +onlyGivenNames s1
        have h_s1 : Kept 2753028 s s1 := by
          unfold s1
          exact Kept.step (State.cmdDone_kept ..) rfl h_a2
        try clear_value s1
        refine Kept.ite ?_ ?_
        · exact Kept.step (State.modLong_kept ..) rfl h_s1
        · exact h_s1

theorem execResume_kept (ctx : Nat) (s : State) : KeptR 2753028 s (execResume ctx s) := by
  unfold execResume
  refine controlCmd_kept rfl Kept.here (fun a a1 a2 h_a2 => ?_)
  · refine Kept.ite ?_ ?_
    · exact Kept.step (State.cmdReject_kept ..) rfl h_a2
    · extract_lets -merge -underBinder +onlyGivenNames s1
      have h_s1 : Kept 2753028 s s1 := by
        unfold s1
        exact Kept.step (State.modLong_kept ..) rfl (Kept.step (State.cmdDone_kept ..) rfl h_a2)
      try clear_value s1
      refine Kept.ite ?_ ?_
      · exact Kept.step (State.setF_kept ..) rfl h_s1
      · exact h_s1

theorem execCancel_kept (ctx : Nat) (s : State) : KeptR 3599114872546884 s (execCancel ctx s) := by
  unfold execCancel
  refine controlCmd_kept rfl Kept.here (fun a a1 a2 h_a2 => ?_)
  · refine Kept.ite ?_ ?_
    · extract_lets -merge -underBinder +onlyGivenNames s1
      have h_s1 : Kept 3599114872546884 s s1 := by
        unfold s1
        exact Kept.step (State.cmdDone_kept ..) rfl h_a2
      try clear_value s1
      refine Kept.ite ?_ ?_
      · exact Kept.step (State.modLong_kept ..) rfl h_s1
      · exact h_s1
    · refine Kept.ite ?_ ?_
      · exact Kept.step (State.cmdReject_kept ..) rfl h_a2
      · exact Kept.step (State.cancelNow_kept ..) rfl (Kept.step (State.cmdDone_kept ..) rfl h_a2)

theorem execSuspendPointReached_kept (ctx : Nat) (handle : Nat) (w : Work) (s : State) : KeptR 75557939811296067940036 s (execSuspendPointReached ctx handle w s) := by
  unfold execSuspendPointReached
  split
  · refine onUnit_kept rfl Kept.here (fun a h_a => ?_)
    · exact h_a
  · refine onUnit_kept rfl Kept.here (fun a1 h_a1 => ?_)
    · extract_lets -merge -underBinder +onlyGivenNames s1
      have h_s1 : Kept 75557939811296067940036 s s1 := by
        unfold s1
        exact Kept.step (State.modLong_kept ..) rfl (Kept.step (State.workTo_kept ..) rfl h_a1)
      try clear_value s1
      extract_lets -merge -underBinder +onlyGivenNames s2
      have h_s2 : Kept 75557939811296067940036 s s2 := by
        unfold s2
        refine Kept.ite ?_ ?_
        · exact Kept.step (State.setF_kept ..) rfl h_s1
        · exact h_s1
      try clear_value s2
      exact Kept.step (State.progressLong_kept ..) rfl h_s2

theorem execLongOperationEnd_kept (ctx : Nat) (handle : Nat) (now : Nat) (w : Work) (s : State) : KeptR 331962198176470578906896656286613446 s (execLongOperationEnd ctx handle now w s) := by
  unfold execLongOperationEnd
  split
  · refine onUnit_kept rfl Kept.here (fun a h_a => ?_)
    · exact h_a
  · refine onUnit_kept rfl Kept.here (fun a1 h_a1 => ?_)
    · extract_lets -merge -underBinder +onlyGivenNames s1
      have h_s1 : Kept 331962198176470578906896656286613446 s s1 := by
        unfold s1
        exact Kept.step (State.atTime_kept ..) rfl h_a1
      try clear_value s1
      refine Kept.ite ?_ ?_
      · refine Kept.ite ?_ ?_
        · refine Kept.ite ?_ ?_
          · exact Kept.step (State.endAs_kept ..) rfl h_s1
          · exact h_s1
        · exact Kept.step (State.endAs_kept ..) rfl (Kept.step (State.workTo_kept ..) rfl h_s1)
      · exact Kept.step (State.finishLong_kept ..) rfl h_s1

theorem execDeadlineExpiry_kept (ctx : Nat) (handle : Nat) (now : Nat) (s : State) : KeptR 3599114872546886 s (execDeadlineExpiry ctx handle now s) := by
  unfold execDeadlineExpiry
  split
  · refine onUnit_kept rfl Kept.here (fun a h_a => ?_)
    · exact h_a
  · extract_lets -merge -underBinder +onlyGivenNames due
    try clear_value due
    refine onUnit_kept rfl Kept.here (fun a1 h_a1 => ?_)
    · extract_lets -merge -underBinder +onlyGivenNames s1
      have h_s1 : Kept 3599114872546886 s s1 := by
        unfold s1
        exact Kept.step (State.atTime_kept ..) rfl h_a1
      try clear_value s1
      refine Kept.ite ?_ ?_
      · exact Kept.step (State.cairnLog_kept ..) rfl (Kept.step (State.modLong_kept ..) rfl h_s1)
      · exact Kept.step (State.cancelNow_kept ..) rfl h_s1

theorem execProgressTimer_kept (ctx : Nat) (handle : Nat) (now : Nat) (w : Work) (s : State) : KeptR 75557939811296067940038 s (execProgressTimer ctx handle now w s) := by
  unfold execProgressTimer
  split
  · refine onUnit_kept rfl Kept.here (fun a h_a => ?_)
    · exact h_a
  · refine onUnit_kept rfl Kept.here (fun a1 h_a1 => ?_)
    · exact Kept.step (State.progressLong_kept ..) rfl (Kept.step (State.workTo_kept ..) rfl (Kept.step (State.atTime_kept ..) rfl h_a1))

end Sys2Proof.Machine
end

