-- ==== Sys2Proof/Laws/KeepSpdm.lean ====
section
/-! SUPPORT. What each operation and each command of Machine/Spdm.lean leaves as it was: one frame lemma for each. -/

namespace Sys2Proof.Machine

theorem State.spdmReply_kept (s : State) (doe : Bool) (req : List Byte) (carries : List Byte) : Kept 42535295865117307932921825928977317888 s (State.spdmReply s doe req carries) := by
  unfold State.spdmReply
  exact Kept.step (State.emit_kept ..) rfl (Kept.upd_freeCtr_spdmHist (s := s) rfl (Nat.le_succ _) Kept.here)

theorem spdmRow_kept {m : Nat} {s0 : State} {doe : Bool} {s : State} {f : State → State} (hm : 0 ||| m = m) (h : Kept m s0 s) (hf : ∀ x, Kept m s0 x → Kept m s0 (f x)) :
    KeptR m s0 (spdmRow doe s f) := by
  unfold spdmRow
  refine whenB_kept (sub_chain rfl hm) h (fun a h_a => ?_)
  · exact hf _ h_a

theorem execGetVersion_kept (doe : Bool) (req : List Byte) (s : State) : KeptR 42535295865117307932921825928977317888 s (execGetVersion doe req s) := by
  unfold execGetVersion
  refine spdmRow_kept rfl Kept.here (fun a h_a => ?_)
  · exact Kept.step (State.spdmReply_kept ..) rfl h_a

theorem execGetCapabilities_kept (doe : Bool) (req : List Byte) (s : State) : KeptR 42535295865117307932921825928977317888 s (execGetCapabilities doe req s) := by
  unfold execGetCapabilities
  refine spdmRow_kept rfl Kept.here (fun a h_a => ?_)
  · exact Kept.step (State.spdmReply_kept ..) rfl h_a

theorem execNegotiateAlgorithms_kept (doe : Bool) (req : List Byte) (s : State) : KeptR 42535295865117307932921825928977317888 s (execNegotiateAlgorithms doe req s) := by
  unfold execNegotiateAlgorithms
  refine spdmRow_kept rfl Kept.here (fun a h_a => ?_)
  · exact Kept.step (State.spdmReply_kept ..) rfl h_a

theorem execGetDigests_kept (doe : Bool) (req : List Byte) (s : State) : KeptR 42535295865117307932921825928977317888 s (execGetDigests doe req s) := by
  unfold execGetDigests
  refine spdmRow_kept rfl Kept.here (fun a h_a => ?_)
  · exact Kept.step (State.spdmReply_kept ..) rfl h_a

theorem execGetCertificate_kept (doe : Bool) (req : List Byte) (s : State) : KeptR 42535295865117307932921825928977317888 s (execGetCertificate doe req s) := by
  unfold execGetCertificate
  refine spdmRow_kept rfl Kept.here (fun a h_a => ?_)
  · exact Kept.step (State.spdmReply_kept ..) rfl h_a

theorem execChallenge_kept (doe : Bool) (req : List Byte) (s : State) : KeptR 42535295865117307932921825928977317888 s (execChallenge doe req s) := by
  unfold execChallenge
  refine spdmRow_kept rfl Kept.here (fun a h_a => ?_)
  · exact Kept.step (State.spdmReply_kept ..) rfl h_a

theorem execGetMeasurements_kept (doe : Bool) (req : List Byte) (s : State) : KeptR 42535295865117307932921825928977317888 s (execGetMeasurements doe req s) := by
  unfold execGetMeasurements
  refine spdmRow_kept rfl Kept.here (fun a h_a => ?_)
  · exact Kept.step (State.spdmReply_kept ..) rfl h_a

theorem execKeyExchange_kept (doe : Bool) (req : List Byte) (s : State) : KeptR 42535295865117307932921825928977317888 s (execKeyExchange doe req s) := by
  unfold execKeyExchange
  refine spdmRow_kept rfl Kept.here (fun a h_a => ?_)
  · exact Kept.step (State.spdmReply_kept ..) rfl h_a

theorem execFinish_kept (doe : Bool) (req : List Byte) (s : State) : KeptR 42535295865117307932921825928977317888 s (execFinish doe req s) := by
  unfold execFinish
  refine spdmRow_kept rfl Kept.here (fun a h_a => ?_)
  · exact Kept.step (State.spdmReply_kept ..) rfl h_a

theorem execKeyUpdate_kept (doe : Bool) (req : List Byte) (s : State) : KeptR 42535295865117307932921825928977317888 s (execKeyUpdate doe req s) := by
  unfold execKeyUpdate
  refine spdmRow_kept rfl Kept.here (fun a h_a => ?_)
  · exact Kept.step (State.spdmReply_kept ..) rfl h_a

theorem execHeartbeat_kept (doe : Bool) (req : List Byte) (s : State) : KeptR 42535295865117307932921825928977317888 s (execHeartbeat doe req s) := by
  unfold execHeartbeat
  refine spdmRow_kept rfl Kept.here (fun a h_a => ?_)
  · exact Kept.step (State.spdmReply_kept ..) rfl h_a

theorem execEndSession_kept (doe : Bool) (req : List Byte) (s : State) : KeptR 42535295865117307932921825928977317888 s (execEndSession doe req s) := by
  unfold execEndSession
  refine spdmRow_kept rfl Kept.here (fun a h_a => ?_)
  · exact Kept.step (State.spdmReply_kept ..) rfl h_a

theorem execGetCsr_kept (doe : Bool) (req : List Byte) (s : State) : KeptR 42535295865117307932921825928977317888 s (execGetCsr doe req s) := by
  unfold execGetCsr
  refine spdmRow_kept rfl Kept.here (fun a h_a => ?_)
  · exact Kept.step (State.spdmReply_kept ..) rfl h_a

theorem execSetCertificate_kept (doe : Bool) (req : List Byte) (s : State) : KeptR 42576834239985586553950069899611078656 s (execSetCertificate doe req s) := by
  unfold execSetCertificate
  refine spdmRow_kept rfl Kept.here (fun a h_a => ?_)
  · split
    · exact Kept.step (State.spdmReply_kept ..) rfl (Kept.upd_ownerChain (s := a) rfl h_a)
    · exact Kept.step (State.spdmReply_kept ..) rfl h_a

theorem execVendorDefinedRequest_kept (doe : Bool) (req : List Byte) (s : State) : KeptR 42535295865117307932921825928977973764 s (execVendorDefinedRequest doe req s) := by
  unfold execVendorDefinedRequest
  refine spdmRow_kept rfl Kept.here (fun a h_a => ?_)
  · extract_lets -merge -underBinder +onlyGivenNames go
    try clear_value go
    extract_lets -merge -underBinder +onlyGivenNames s1
    have h_s1 : Kept 42535295865117307932921825928977973764 s s1 := by
      unfold s1
      exact Kept.step (State.spdmReply_kept ..) rfl h_a
    try clear_value s1
    split
    · refine Kept.ite ?_ ?_
      · exact Kept.step (State.ideWake_kept ..) rfl (Kept.step (State.setB_kept ..) rfl h_s1)
      · exact h_s1
    · exact h_s1

end Sys2Proof.Machine
end

