-- ==== Sys2Proof/Laws/KeepCairnCmds.lean ====
section
/-! SUPPORT. What each operation and each command of Machine/CairnCmds.lean leaves as it was: one frame lemma for each. -/

namespace Sys2Proof.Machine

theorem State.cairnFlush_kept (s : State) : Kept 65540 s (State.cairnFlush s) := by
  unfold State.cairnFlush
  exact Kept.step (State.cairnSync_kept ..) rfl (Kept.upd_cairn (s := s) rfl Kept.here)

theorem execFlush_kept (s : State) : KeptR 65540 s (execFlush s) := by
  unfold execFlush
  refine whenB_kept rfl Kept.here (fun a h_a => ?_)
  · exact Kept.step (State.cairnFlush_kept ..) rfl h_a

theorem State.cairnGo_kept (s : State) : Kept 65540 s (State.cairnGo s) := by
  unfold State.cairnGo
  refine Kept.ite ?_ ?_
  · exact Kept.step (State.ignored_kept ..) rfl Kept.here
  · extract_lets -merge -underBinder +onlyGivenNames src s1
    try clear_value src
    have h_s1 : Kept 65540 s s1 := by
      unfold s1
      exact Kept.upd_cairn (s := s) rfl Kept.here
    try clear_value s1
    exact Kept.step (State.setB_kept ..) rfl (Kept.step (State.setB_kept ..) rfl h_s1)

theorem execCairnRead_kept (s : State) : KeptR 65540 s (execCairnRead s) := by
  unfold execCairnRead
  refine whenB_kept rfl Kept.here (fun a h_a => ?_)
  · exact Kept.step (State.cairnGo_kept ..) rfl h_a

theorem State.setRdData_kept (s : State) (b : List Byte) : Kept 4 s (State.setRdData s b) := by
  unfold State.setRdData
  refine Kept.foldl _ (fun x h_x a => ?_) ?_
  · exact Kept.step (State.setRegN_kept ..) rfl h_x
  · exact Kept.here

theorem State.cairnReadEnd_kept (s : State) (seq : Nat) (sev : Nat) : Kept 65540 s (State.cairnReadEnd s seq sev) := by
  unfold State.cairnReadEnd
  extract_lets -merge -underBinder +onlyGivenNames src s1
  try clear_value src
  have h_s1 : Kept 65540 s s1 := by
    unfold s1
    exact Kept.upd_cairn (s := s) rfl Kept.here
  try clear_value s1
  split
  · exact Kept.step (State.setRegN_kept ..) rfl (Kept.step (State.setReg64_kept ..) rfl (Kept.step (State.setRdData_kept ..) rfl h_s1))
  · exact Kept.step (State.setRegN_kept ..) rfl h_s1

theorem execCairnReadDone_kept (s : State) : KeptR 65540 s (execCairnReadDone s) := by
  unfold execCairnReadDone
  refine whenSome_kept rfl Kept.here (fun a a1 h_a1 => ?_)
  · exact Kept.step (State.cairnReadEnd_kept ..) rfl h_a1

end Sys2Proof.Machine
end

