-- ==== Sys2Proof/Laws/KeepPages.lean ====
section
/-! SUPPORT. What each operation and each command of Machine/Pages.lean leaves as it was: one frame lemma for each. -/

namespace Sys2Proof.Machine

theorem State.gaugeAtStop_kept (s : State) (ep : Nat) : Kept 4 s (State.gaugeAtStop s ep) := by
  unfold State.gaugeAtStop
  refine State.stopDone_kept rfl ?_ (fun a1 h_a1 => ?_)
  · refine Kept.foldl _ (fun x h_x a => ?_) ?_
    · exact Kept.step (State.setB_kept ..) rfl h_x
    · exact Kept.here
  · exact h_a1

theorem State.cfEn_kept (s : State) (t : Nat) : Kept 4 s (State.cfEn s t) := by
  unfold State.cfEn
  extract_lets -merge -underBinder +onlyGivenNames st
  try clear_value st
  extract_lets -merge -underBinder +onlyGivenNames s1
  have h_s1 : Kept 4 s s1 := by
    unfold s1
    refine State.enReqOn_kept rfl Kept.here (fun a h_a => ?_)
    · exact h_a
  try clear_value s1
  refine Kept.ite ?_ ?_
  · refine Kept.step (State.cfSync_kept ..) rfl ?_
    refine Kept.ite ?_ ?_
    · refine State.pageFault_kept rfl h_s1 (fun a1 h_a1 => ?_)
      · exact h_a1
    · refine State.startDone_kept rfl h_s1 (fun a2 h_a2 => ?_)
      · exact h_a2
  · exact h_s1

theorem State.pageEn_kept (s : State) (cls : Nat) (inst : Nat) : Kept 245563057119117158515236 s (State.pageEn s cls inst) := by
  unfold State.pageEn
  refine Kept.ite ?_ ?_
  · exact Kept.step (State.ignored_kept ..) rfl Kept.here
  · refine Kept.ite ?_ ?_
    · exact Kept.step (State.pitchEn_kept ..) rfl Kept.here
    · refine Kept.ite ?_ ?_
      · refine State.enReqOn_kept rfl Kept.here (fun a h_a => ?_)
        · exact Kept.step (State.linkAtStart_kept ..) rfl h_a
      · refine Kept.ite ?_ ?_
        · refine Kept.ite ?_ ?_
          · refine State.enReqOn_kept rfl Kept.here (fun a1 h_a1 => ?_)
            · exact h_a1
          · exact Kept.step (State.ignored_kept ..) rfl Kept.here
        · refine Kept.ite ?_ ?_
          · refine Kept.ite ?_ ?_
            · refine State.enReqOn_kept rfl Kept.here (fun a2 h_a2 => ?_)
              · exact Kept.step (State.ceAtStart_kept ..) rfl h_a2
            · exact Kept.step (State.ignored_kept ..) rfl Kept.here
          · refine Kept.ite ?_ ?_
            · refine State.enReqOn_kept rfl Kept.here (fun a3 h_a3 => ?_)
              · refine State.startDone_kept rfl h_a3 (fun a4 h_a4 => ?_)
                · exact Kept.step (State.gaugeAtStop_kept ..) rfl h_a4
            · refine Kept.ite ?_ ?_
              · exact Kept.step (State.cfEn_kept ..) rfl Kept.here
              · refine State.enReqOn_kept rfl Kept.here (fun a5 h_a5 => ?_)
                · exact h_a5

theorem State.pageIsolate_kept (s : State) (cls : Nat) (inst : Nat) : Kept 28995330280903354491856452 s (State.pageIsolate s cls inst) := by
  unfold State.pageIsolate
  refine Kept.ite ?_ ?_
  · exact Kept.step (State.ignored_kept ..) rfl Kept.here
  · refine Kept.ite ?_ ?_
    · exact Kept.step (State.pitchIsolateReq_kept ..) rfl Kept.here
    · exact Kept.step (State.isolateOn_kept ..) rfl Kept.here

theorem State.cfStop_kept (s : State) (t : Nat) : Kept 4 s (State.cfStop s t) := by
  unfold State.cfStop
  refine Kept.ite ?_ ?_
  · exact Kept.step (State.ignored_kept ..) rfl Kept.here
  · refine Kept.step (State.cfSync_kept ..) rfl ?_
    refine State.stopReqOn_kept rfl Kept.here (fun a h_a => ?_)
    · refine State.stopDone_kept rfl h_a (fun a1 h_a1 => ?_)
      · exact h_a1

theorem State.pageStop_kept (s : State) (cls : Nat) (inst : Nat) : Kept 94447333045059685842948 s (State.pageStop s cls inst) := by
  unfold State.pageStop
  refine Kept.ite ?_ ?_
  · exact Kept.step (State.ignored_kept ..) rfl Kept.here
  · refine Kept.ite ?_ ?_
    · exact Kept.step (State.pitchStop_kept ..) rfl Kept.here
    · refine Kept.ite ?_ ?_
      · refine State.stopReqOn_kept rfl Kept.here (fun a h_a => ?_)
        · exact Kept.step (State.linkAtStop_kept ..) rfl h_a
      · refine Kept.ite ?_ ?_
        · refine State.stopReqOn_kept rfl Kept.here (fun a1 h_a1 => ?_)
          · exact Kept.step (State.portAtStop_kept ..) rfl h_a1
        · refine Kept.ite ?_ ?_
          · refine Kept.ite ?_ ?_
            · exact Kept.step (State.ignored_kept ..) rfl Kept.here
            · refine State.stopReqOn_kept rfl Kept.here (fun a2 h_a2 => ?_)
              · exact Kept.step (State.stackAtStop_kept ..) rfl h_a2
          · refine Kept.ite ?_ ?_
            · refine State.stopReqOn_kept rfl Kept.here (fun a3 h_a3 => ?_)
              · exact Kept.step (State.ceAtStop_kept ..) rfl h_a3
            · refine Kept.ite ?_ ?_
              · refine State.stopReqOn_kept rfl Kept.here (fun a4 h_a4 => ?_)
                · exact Kept.step (State.gaugeAtStop_kept ..) rfl h_a4
              · refine Kept.ite ?_ ?_
                · exact Kept.step (State.cfStop_kept ..) rfl Kept.here
                · refine State.stopReqOn_kept rfl Kept.here (fun a5 h_a5 => ?_)
                  · exact h_a5

theorem State.blockCtl_kept (s : State) (cls : Nat) (inst : Nat) (bits : Nat) : Kept 28995330280903425358816868 s (State.blockCtl s cls inst bits) := by
  unfold State.blockCtl
  refine Kept.ite ?_ ?_
  · exact Kept.here
  · refine Kept.ite ?_ ?_
    · exact Kept.step (State.ignored_kept ..) rfl Kept.here
    · refine Kept.ite ?_ ?_
      · exact Kept.step (State.pageEn_kept ..) rfl Kept.here
      · refine Kept.ite ?_ ?_
        · exact Kept.step (State.pageStop_kept ..) rfl Kept.here
        · refine Kept.ite ?_ ?_
          · exact Kept.step (State.pageIsolate_kept ..) rfl Kept.here
          · exact Kept.step (State.ignored_kept ..) rfl Kept.here

theorem pageRow_kept {m : Nat} {s0 : State} {page : Nat} {s : State} {f : Nat → Nat → State → State} (hm : 0 ||| m = m) (h : Kept m s0 s) (hf : ∀ z0 z1 x, Kept m s0 x → Kept m s0 (f z0 z1 x)) :
    KeptR m s0 (pageRow page s f) := by
  unfold pageRow
  split
  · refine whenB_kept (sub_chain rfl hm) h (fun a h_a => ?_)
    · exact hf _ _ _ h_a
  · refine KeptR.next ?_
    exact h

theorem execEnReq_kept (page : Nat) (s : State) : KeptR 245563057119117158515236 s (execEnReq page s) := by
  unfold execEnReq
  refine pageRow_kept rfl Kept.here (fun a a1 a2 h_a2 => ?_)
  · exact Kept.step (State.pageEn_kept ..) rfl h_a2

theorem execStopReq_kept (page : Nat) (s : State) : KeptR 94447333045059685842948 s (execStopReq page s) := by
  unfold execStopReq
  refine pageRow_kept rfl Kept.here (fun a a1 a2 h_a2 => ?_)
  · exact Kept.step (State.pageStop_kept ..) rfl h_a2

theorem execIsolate_kept (page : Nat) (s : State) : KeptR 28995330280903354491856452 s (execIsolate page s) := by
  unfold execIsolate
  refine pageRow_kept rfl Kept.here (fun a a1 a2 h_a2 => ?_)
  · exact Kept.step (State.pageIsolate_kept ..) rfl h_a2

end Sys2Proof.Machine
end

