-- ==== Sys2Proof/Laws/KeepHostWrite.lean ====
section
/-! SUPPORT. What each operation and each command of Machine/HostWrite.lean leaves as it was: one frame lemma for each. -/

namespace Sys2Proof.Machine

theorem State.plainWrite_kept (s : State) (cls : Nat) (inst : Nat) (off : Nat) (v : W32) : Kept 12 s (State.plainWrite s cls inst off v) := by
  unfold State.plainWrite
  extract_lets -merge -underBinder +onlyGivenNames a
  try clear_value a
  refine Kept.ite ?_ ?_
  · exact Kept.upd_staged (s := s) rfl Kept.here
  · refine Kept.ite ?_ ?_
    · extract_lets -merge -underBinder +onlyGivenNames lo
      try clear_value lo
      extract_lets -merge -underBinder +onlyGivenNames src
      have h_src : Kept 12 s src := by
        unfold src
        exact Kept.step (State.setReg_kept ..) rfl (Kept.step (State.setReg_kept ..) rfl Kept.here)
      try clear_value src
      exact Kept.upd_staged (s := src) rfl h_src
    · exact Kept.step (State.setReg_kept ..) rfl Kept.here

theorem State.plainIf_kept (s : State) (ok : Bool) (cls : Nat) (inst : Nat) (off : Nat) (v : W32) : Kept 12 s (State.plainIf s ok cls inst off v) := by
  unfold State.plainIf
  refine Kept.ite ?_ ?_
  · exact Kept.step (State.plainWrite_kept ..) rfl Kept.here
  · exact Kept.step (State.ignored_kept ..) rfl Kept.here

theorem State.writeGlobal_kept (s : State) (off : Nat) (v : W32) : Kept 1099511627788 s (State.writeGlobal s off v) := by
  unfold State.writeGlobal
  refine Kept.ite ?_ ?_
  · refine Kept.ite ?_ ?_
    · exact Kept.step (State.ignored_kept ..) rfl Kept.here
    · extract_lets -merge -underBinder +onlyGivenNames s1
      have h_s1 : Kept 1099511627788 s s1 := by
        unfold s1
        exact Kept.step (State.plainWrite_kept ..) rfl Kept.here
      try clear_value s1
      refine Kept.foldl _ (fun x h_x a => ?_) ?_
      · refine Kept.ite ?_ ?_
        · exact Kept.step (State.setRcv_kept ..) rfl h_x
        · exact h_x
      · exact h_s1
  · refine Kept.ite ?_ ?_
    · exact Kept.step (State.plainIf_kept ..) rfl Kept.here
    · exact Kept.step (State.plainWrite_kept ..) rfl Kept.here

theorem State.writeMbox_kept (s : State) (off : Nat) (v : W32) : Kept 21267647932558653966460912964485513228 s (State.writeMbox s off v) := by
  unfold State.writeMbox
  refine Kept.ite ?_ ?_
  · refine Kept.ite ?_ ?_
    · exact Kept.step (State.ignored_kept ..) rfl Kept.here
    · extract_lets -merge -underBinder +onlyGivenNames s1
      have h_s1 : Kept 21267647932558653966460912964485513228 s s1 := by
        unfold s1
        exact Kept.step (State.plainWrite_kept ..) rfl Kept.here
      try clear_value s1
      extract_lets -merge -underBinder +onlyGivenNames s2
      have h_s2 : Kept 21267647932558653966460912964485513228 s s2 := by
        unfold s2
        exact Kept.upd_mbReq (s := s1) rfl h_s1
      try clear_value s2
      extract_lets -merge -underBinder +onlyGivenNames s3
      have h_s3 : Kept 21267647932558653966460912964485513228 s s3 := by
        unfold s3
        exact Kept.step (State.setB_kept ..) rfl (Kept.step (State.setB_kept ..) rfl h_s2)
      try clear_value s3
      refine Kept.ite ?_ ?_
      · exact h_s3
      · exact Kept.step (State.mbEnd_kept ..) rfl h_s3
  · exact Kept.step (State.plainWrite_kept ..) rfl Kept.here

theorem State.writeReach_kept (s : State) (r : Nat) (off : Nat) (v : W32) : Kept 12 s (State.writeReach s r off v) := by
  unfold State.writeReach
  extract_lets -merge -underBinder +onlyGivenNames s1
  have h_s1 : Kept 12 s s1 := by
    unfold s1
    exact Kept.step (State.plainWrite_kept ..) rfl Kept.here
  try clear_value s1
  refine Kept.ite ?_ ?_
  · refine Kept.foldl _ (fun x h_x a => ?_) ?_
    · exact Kept.step (State.setRegN_kept ..) rfl h_x
    · exact h_s1
  · exact h_s1

theorem State.writeLink_kept (s : State) (l : Nat) (off : Nat) (v : W32) : Kept 12 s (State.writeLink s l off v) := by
  unfold State.writeLink
  refine Kept.ite ?_ ?_
  · exact Kept.step (State.ignored_kept ..) rfl (Kept.step (State.plainWrite_kept ..) rfl Kept.here)
  · exact Kept.step (State.plainWrite_kept ..) rfl Kept.here

theorem State.writeHwc_kept (s : State) (c : Nat) (off : Nat) (v : W32) : Kept 146028888076 s (State.writeHwc s c off v) := by
  unfold State.writeHwc
  extract_lets -merge -underBinder +onlyGivenNames a
  try clear_value a
  refine Kept.ite ?_ ?_
  · extract_lets -merge -underBinder +onlyGivenNames s1
    have h_s1 : Kept 146028888076 s s1 := by
      unfold s1
      refine Kept.ite ?_ ?_
      · exact Kept.step (State.ignored_kept ..) rfl Kept.here
      · exact Kept.step (State.plainWrite_kept ..) rfl Kept.here
    try clear_value s1
    extract_lets -merge -underBinder +onlyGivenNames s2
    have h_s2 : Kept 146028888076 s s2 := by
      unfold s2
      refine Kept.ite ?_ ?_
      · exact Kept.step (State.bind_kept ..) rfl h_s1
      · exact h_s1
    try clear_value s2
    extract_lets -merge -underBinder +onlyGivenNames s3
    have h_s3 : Kept 146028888076 s s3 := by
      unfold s3
      refine Kept.ite ?_ ?_
      · exact Kept.step (State.bind_kept ..) rfl h_s2
      · exact h_s2
    try clear_value s3
    refine Kept.ite ?_ ?_
    · exact Kept.step (State.goFront_kept ..) rfl h_s3
    · exact h_s3
  · exact Kept.step (State.plainWrite_kept ..) rfl Kept.here

theorem State.writePort_kept (s : State) (p : Nat) (off : Nat) (v : W32) : Kept 146028888076 s (State.writePort s p off v) := by
  unfold State.writePort
  refine Kept.ite ?_ ?_
  · exact Kept.step (State.plainIf_kept ..) rfl Kept.here
  · refine Kept.ite ?_ ?_
    · exact Kept.step (State.plainIf_kept ..) rfl Kept.here
    · refine Kept.ite ?_ ?_
      · exact Kept.step (State.writeHwc_kept ..) rfl Kept.here
      · exact Kept.step (State.plainWrite_kept ..) rfl Kept.here

theorem State.writeGauge_kept (s : State) (ep : Nat) (off : Nat) (v : W32) : Kept 12 s (State.writeGauge s ep off v) := by
  unfold State.writeGauge
  extract_lets -merge -underBinder +onlyGivenNames g k
  try clear_value g k
  refine Kept.ite ?_ ?_
  · exact Kept.here
  · refine Kept.ite ?_ ?_
    · exact Kept.step (State.gaugeCtl_kept ..) rfl Kept.here
    · refine Kept.ite ?_ ?_
      · exact Kept.step (State.gaugeSet_kept ..) rfl Kept.here
      · exact Kept.step (State.plainWrite_kept ..) rfl Kept.here

theorem State.writeXl_kept (s : State) (c : Nat) (off : Nat) (v : W32) : Kept 469762060 s (State.writeXl s c off v) := by
  unfold State.writeXl
  refine Kept.ite ?_ ?_
  · exact Kept.step (State.setWrite_kept ..) rfl Kept.here
  · refine Kept.ite ?_ ?_
    · exact Kept.step (State.setWrite_kept ..) rfl Kept.here
    · refine Kept.ite ?_ ?_
      · exact Kept.step (State.setWrite_kept ..) rfl Kept.here
      · refine Kept.ite ?_ ?_
        · exact Kept.step (State.invalGo_kept ..) rfl Kept.here
        · exact Kept.step (State.plainWrite_kept ..) rfl Kept.here

theorem State.writeCf_kept (s : State) (t : Nat) (off : Nat) (v : W32) : Kept 680564733841877002484689059145355886540 s (State.writeCf s t off v) := by
  unfold State.writeCf
  refine Kept.ite ?_ ?_
  · refine Kept.ite ?_ ?_
    · exact Kept.step (State.ignored_kept ..) rfl Kept.here
    · extract_lets -merge -underBinder +onlyGivenNames held
      try clear_value held
      extract_lets -merge -underBinder +onlyGivenNames s1
      have h_s1 : Kept 680564733841877002484689059145355886540 s s1 := by
        unfold s1
        exact Kept.step (State.setB_kept ..) rfl (Kept.step (State.plainWrite_kept ..) rfl Kept.here)
      try clear_value s1
      refine Kept.ite ?_ ?_
      · exact Kept.step (State.pumpAll_kept ..) rfl h_s1
      · exact h_s1
  · refine Kept.ite ?_ ?_
    · exact Kept.step (State.stageWrite_kept ..) rfl Kept.here
    · exact Kept.step (State.plainWrite_kept ..) rfl Kept.here

theorem State.writeRank_kept (s : State) (off : Nat) (v : W32) : Kept 140737488355340 s (State.writeRank s off v) := by
  unfold State.writeRank
  extract_lets -merge -underBinder +onlyGivenNames off' sizes j k
  try clear_value off' sizes j k
  refine Kept.ite ?_ ?_
  · exact Kept.step (State.plainIf_kept ..) rfl Kept.here
  · refine Kept.ite ?_ ?_
    · exact Kept.step (State.plainIf_kept ..) rfl Kept.here
    · refine Kept.ite ?_ ?_
      · exact Kept.step (State.plainIf_kept ..) rfl Kept.here
      · refine Kept.ite ?_ ?_
        · exact Kept.here
        · refine Kept.ite ?_ ?_
          · exact Kept.step (State.jobCtl_kept ..) rfl Kept.here
          · refine Kept.ite ?_ ?_
            · exact Kept.step (State.plainIf_kept ..) rfl Kept.here
            · refine Kept.ite ?_ ?_
              · refine Kept.ite ?_ ?_
                · exact Kept.step (State.ignored_kept ..) rfl Kept.here
                · refine Kept.ite ?_ ?_
                  · exact Kept.step (State.ignored_kept ..) rfl (Kept.step (State.setF_kept ..) rfl Kept.here)
                  · exact Kept.step (State.plainIf_kept ..) rfl Kept.here
              · exact Kept.here

theorem State.writeWeir_kept (s : State) (off : Nat) (v : W32) : Kept 295147905179352825868 s (State.writeWeir s off v) := by
  unfold State.writeWeir
  refine Kept.ite ?_ ?_
  · extract_lets -merge -underBinder +onlyGivenNames s1
    have h_s1 : Kept 295147905179352825868 s s1 := by
      unfold s1
      refine Kept.ite ?_ ?_
      · exact Kept.here
      · exact Kept.step (State.plainWrite_kept ..) rfl Kept.here
    try clear_value s1
    refine Kept.ite ?_ ?_
    · exact Kept.step (State.setB_kept ..) rfl h_s1
    · exact h_s1
  · refine Kept.ite ?_ ?_
    · exact Kept.step (State.weirWrite_kept ..) rfl Kept.here
    · exact Kept.step (State.plainWrite_kept ..) rfl Kept.here

theorem State.writeTime_kept (s : State) (off : Nat) (v : W32) : Kept 1361129487173262862933178597960140718094 s (State.writeTime s off v) := by
  unfold State.writeTime
  refine Kept.ite ?_ ?_
  · exact Kept.step (State.stCtl_kept ..) rfl Kept.here
  · refine Kept.ite ?_ ?_
    · exact Kept.step (State.timeSet_kept ..) rfl Kept.here
    · refine Kept.ite ?_ ?_
      · refine Kept.ite ?_ ?_
        · exact Kept.here
        · exact Kept.step (State.plainWrite_kept ..) rfl Kept.here
      · refine Kept.ite ?_ ?_
        · exact Kept.step (State.plainIf_kept ..) rfl Kept.here
        · refine Kept.ite ?_ ?_
          · exact Kept.step (State.plainIf_kept ..) rfl Kept.here
          · exact Kept.step (State.plainWrite_kept ..) rfl Kept.here

theorem State.writeCairn_kept (s : State) (off : Nat) (v : W32) : Kept 65548 s (State.writeCairn s off v) := by
  unfold State.writeCairn
  refine Kept.ite ?_ ?_
  · extract_lets -merge -underBinder +onlyGivenNames s1
    have h_s1 : Kept 65548 s s1 := by
      unfold s1
      exact Kept.step (State.plainIf_kept ..) rfl Kept.here
    try clear_value s1
    refine Kept.ite ?_ ?_
    · exact Kept.step (State.cairnFlush_kept ..) rfl h_s1
    · exact h_s1
  · refine Kept.ite ?_ ?_
    · extract_lets -merge -underBinder +onlyGivenNames s2
      have h_s2 : Kept 65548 s s2 := by
        unfold s2
        exact Kept.step (State.plainWrite_kept ..) rfl Kept.here
      try clear_value s2
      refine Kept.ite ?_ ?_
      · exact Kept.step (State.cairnGo_kept ..) rfl h_s2
      · exact h_s2
    · exact Kept.step (State.plainWrite_kept ..) rfl Kept.here

theorem State.writeCe_kept (s : State) (fn : Nat) (c : Nat) (off : Nat) (v : W32) : Kept 2753036 s (State.writeCe s fn c off v) := by
  unfold State.writeCe
  extract_lets -merge -underBinder +onlyGivenNames idle
  try clear_value idle
  refine Kept.ite ?_ ?_
  · exact Kept.step (State.plainIf_kept ..) rfl Kept.here
  · refine Kept.ite ?_ ?_
    · exact Kept.step (State.ceSync_kept ..) rfl (Kept.step (State.plainIf_kept ..) rfl Kept.here)
    · refine Kept.ite ?_ ?_
      · exact Kept.step (State.cqHead_kept ..) rfl Kept.here
      · refine Kept.ite ?_ ?_
        · exact Kept.step (State.plainIf_kept ..) rfl Kept.here
        · refine Kept.ite ?_ ?_
          · exact Kept.step (State.plainIf_kept ..) rfl Kept.here
          · exact Kept.step (State.plainWrite_kept ..) rfl Kept.here

theorem State.pageWrite_kept (s : State) (fn : Nat) (cls : Nat) (inst : Nat) (off : Nat) (v : W32) : Kept 2062961868947727439451817710460763635694 s (State.pageWrite s fn cls inst off v) := by
  unfold State.pageWrite
  refine Kept.ite ?_ ?_
  · exact Kept.step (State.blockCtl_kept ..) rfl Kept.here
  · refine Kept.ite ?_ ?_
    · exact Kept.step (State.plainWrite_kept ..) rfl Kept.here
    · refine Kept.ite ?_ ?_
      · exact Kept.step (State.writeGlobal_kept ..) rfl Kept.here
      · refine Kept.ite ?_ ?_
        · exact Kept.step (State.writeMbox_kept ..) rfl Kept.here
        · refine Kept.ite ?_ ?_
          · exact Kept.step (State.writeReach_kept ..) rfl Kept.here
          · refine Kept.ite ?_ ?_
            · refine Kept.ite ?_ ?_
              · exact Kept.step (State.retSync_kept ..) rfl (Kept.step (State.plainIf_kept ..) rfl Kept.here)
              · exact Kept.here
            · refine Kept.ite ?_ ?_
              · exact Kept.step (State.writeLink_kept ..) rfl Kept.here
              · refine Kept.ite ?_ ?_
                · exact Kept.step (State.writePort_kept ..) rfl Kept.here
                · refine Kept.ite ?_ ?_
                  · exact Kept.step (State.writeGauge_kept ..) rfl Kept.here
                  · refine Kept.ite ?_ ?_
                    · exact Kept.step (State.writeXl_kept ..) rfl Kept.here
                    · refine Kept.ite ?_ ?_
                      · exact Kept.step (State.writeCf_kept ..) rfl Kept.here
                      · refine Kept.ite ?_ ?_
                        · exact Kept.step (State.writeRank_kept ..) rfl Kept.here
                        · refine Kept.ite ?_ ?_
                          · exact Kept.step (State.writeWeir_kept ..) rfl Kept.here
                          · refine Kept.ite ?_ ?_
                            · exact Kept.step (State.writeTime_kept ..) rfl Kept.here
                            · refine Kept.ite ?_ ?_
                              · extract_lets -merge -underBinder +onlyGivenNames s1
                                have h_s1 : Kept 2062961868947727439451817710460763635694 s s1 := by
                                  unfold s1
                                  exact Kept.step (State.plainWrite_kept ..) rfl Kept.here
                                try clear_value s1
                                refine Kept.ite ?_ ?_
                                · exact Kept.step (State.bgApply_kept ..) rfl h_s1
                                · exact h_s1
                              · refine Kept.ite ?_ ?_
                                · exact Kept.step (State.writeCairn_kept ..) rfl Kept.here
                                · refine Kept.ite ?_ ?_
                                  · exact Kept.step (State.writeCe_kept ..) rfl Kept.here
                                  · exact Kept.step (State.plainWrite_kept ..) rfl Kept.here

theorem State.tableWrite_kept (s : State) (a : Nat) (v : W32) : Kept 9289223987265540 s (State.tableWrite s a v) := by
  unfold State.tableWrite
  refine Kept.ite ?_ ?_
  · exact Kept.step (State.setReg_kept ..) rfl Kept.here
  · refine Kept.ite ?_ ?_
    · refine Kept.ite ?_ ?_
      · exact Kept.step (State.groupWord0_kept ..) rfl Kept.here
      · exact Kept.step (State.groupWord1_kept ..) rfl Kept.here
    · refine Kept.ite ?_ ?_
      · exact Kept.step (State.memberWrite_kept ..) rfl (Kept.step (State.memberWrite_kept ..) rfl Kept.here)
      · exact Kept.here

theorem State.slotWrite_kept (s : State) (c : Nat) (o : Nat) (b : List Byte) : Kept 36 s (State.slotWrite s c o b) := by
  unfold State.slotWrite
  extract_lets -merge -underBinder +onlyGivenNames s1
  have h_s1 : Kept 36 s s1 := by
    unfold s1
    exact Kept.upd_slotMem (s := s) rfl (fun w => (writeBytes_wf _ _ _ w)) Kept.here
  try clear_value s1
  extract_lets -merge -underBinder +onlyGivenNames want
  try clear_value want
  refine Kept.ite ?_ ?_
  · exact h_s1
  · refine Kept.ite ?_ ?_
    · exact h_s1
    · exact Kept.step (State.incSat_kept ..) rfl h_s1

theorem State.wordWrite_kept (s : State) (fn : Nat) (a : Nat) (v : W32) : Kept 2062961868947727439451826999134995087342 s (State.wordWrite s fn a v) := by
  unfold State.wordWrite
  refine Kept.ite ?_ ?_
  · exact Kept.here
  · split
    · refine Kept.ite ?_ ?_
      · exact Kept.step (State.slotWrite_kept ..) rfl Kept.here
      · exact Kept.here
    · split
      · exact Kept.here
      · split
        · exact Kept.step (State.pageWrite_kept ..) rfl Kept.here
        · exact Kept.step (State.tableWrite_kept ..) rfl Kept.here

theorem State.wordsWrite_kept (s : State) (fn : Nat) (n : Nat) (a : Nat) (b : List Byte) : Kept 2062961868947727439451826999134995087342 s (State.wordsWrite s fn n a b) := by
  induction n generalizing s a b with
  | zero => exact Kept.here
  | succ n ih => exact Kept.step (ih _ _ _) rfl (Kept.step (State.wordWrite_kept ..) rfl Kept.here)

theorem State.alignedWrite_kept (s : State) (fn : Nat) (a : Nat) (b : List Byte) : Kept 2062961868947727439451826999134995087342 s (State.alignedWrite s fn a b) := by
  unfold State.alignedWrite
  extract_lets -merge -underBinder +onlyGivenNames t
  have h_t : Kept 2062961868947727439451826999134995087342 s t := by
    unfold t
    exact Kept.step (State.wordsWrite_kept ..) rfl Kept.here
  try clear_value t
  refine Kept.ite ?_ ?_
  · split
    · refine Kept.ite ?_ ?_
      · exact Kept.step (State.ignored_kept ..) rfl h_t
      · exact h_t
    · exact h_t
  · exact h_t

theorem State.bar0Write_kept (s : State) (fn : Nat) (a : Nat) (b : List Byte) : Kept 2062961868947727439451826999134995087342 s (State.bar0Write s fn a b) := by
  unfold State.bar0Write
  extract_lets -merge -underBinder +onlyGivenNames n aligned
  try clear_value n aligned
  split
  · refine Kept.ite ?_ ?_
    · refine Kept.ite ?_ ?_
      · exact Kept.step (State.slotWrite_kept ..) rfl Kept.here
      · exact Kept.here
    · refine Kept.ite ?_ ?_
      · exact Kept.step (State.alignedWrite_kept ..) rfl Kept.here
      · refine Kept.ite ?_ ?_
        · exact Kept.step (State.ignored_kept ..) rfl Kept.here
        · exact Kept.here
  · refine Kept.ite ?_ ?_
    · refine Kept.ite ?_ ?_
      · exact Kept.step (State.memberWrite_kept ..) rfl Kept.here
      · exact Kept.here
    · refine Kept.ite ?_ ?_
      · exact Kept.step (State.alignedWrite_kept ..) rfl Kept.here
      · split
        · refine Kept.ite ?_ ?_
          · exact Kept.step (State.ignored_kept ..) rfl Kept.here
          · exact Kept.here
        · exact Kept.here

theorem State.msixWrite_kept (s : State) (fn : Nat) (o : Nat) (v : W32) : Kept 2883588 s (State.msixWrite s fn o v) := by
  unfold State.msixWrite
  extract_lets -merge -underBinder +onlyGivenNames vec key
  try clear_value vec key
  split
  · refine Kept.ite ?_ ?_
    · exact Kept.here
    · refine Kept.ite ?_ ?_
      · exact Kept.upd_msix (s := s) rfl Kept.here
      · refine Kept.ite ?_ ?_
        · exact Kept.upd_msix (s := s) rfl Kept.here
        · refine Kept.ite ?_ ?_
          · exact Kept.upd_msix (s := s) rfl Kept.here
          · refine Kept.ite ?_ ?_
            · exact Kept.upd_msix (s := s) rfl Kept.here
            · exact Kept.step (State.msiUnmask_kept ..) rfl Kept.here

theorem State.setVfs_kept (s : State) (n : Nat) : Kept 4 s (State.setVfs s n) := by
  unfold State.setVfs
  refine Kept.ite ?_ ?_
  · exact Kept.step (State.setF_kept ..) rfl Kept.here
  · exact Kept.here

theorem State.fnMask_kept (s : State) (fn : Nat) (masked : Bool) : Kept 11010052 s (State.fnMask s fn masked) := by
  unfold State.fnMask
  refine Kept.ite ?_ ?_
  · exact Kept.upd_msixFnMask (s := s) rfl Kept.here
  · refine Kept.foldl _ (fun x h_x a => ?_) ?_
    · refine Kept.ite ?_ ?_
      · exact h_x
      · exact Kept.step (State.msiRetry_kept ..) rfl h_x
    · exact Kept.upd_msixFnMask (s := s) rfl Kept.here

theorem State.hostWrite_kept (s : State) (fn : Nat) (off : Nat) (b : List Byte) : Kept 2148032460677962055317670650992945790958 s (State.hostWrite s fn off b) := by
  unfold State.hostWrite
  extract_lets -merge -underBinder +onlyGivenNames v
  try clear_value v
  refine Kept.ite ?_ ?_
  · exact Kept.step (State.bar0Write_kept ..) rfl Kept.here
  · refine Kept.ite ?_ ?_
    · refine Kept.ite ?_ ?_
      · exact Kept.here
      · extract_lets -merge -underBinder +onlyGivenNames s1
        have h_s1 : Kept 2148032460677962055317670650992945790958 s s1 := by
          unfold s1
          exact Kept.step (State.msixWrite_kept ..) rfl Kept.here
        try clear_value s1
        refine Kept.ite ?_ ?_
        · exact Kept.step (State.msixWrite_kept ..) rfl h_s1
        · exact h_s1
    · refine Kept.ite ?_ ?_
      · exact Kept.step (State.setVfs_kept ..) rfl Kept.here
      · refine Kept.ite ?_ ?_
        · exact Kept.step (State.fnMask_kept ..) rfl Kept.here
        · refine Kept.ite ?_ ?_
          · exact Kept.step (State.ideWake_kept ..) rfl (Kept.upd_ideSel (s := s) rfl Kept.here)
          · exact Kept.here

theorem execRegisterWrite_kept (fn : Nat) (off : Nat) (bytes : List Byte) (tlp : Tlp) (s : State) : KeptR 2148032460677962055317670650992945790958 s (execRegisterWrite fn off bytes tlp s) := by
  unfold execRegisterWrite
  refine onUnit_kept rfl Kept.here (fun a h_a => ?_)
  · extract_lets -merge -underBinder +onlyGivenNames s1
    have h_s1 : Kept 2148032460677962055317670650992945790958 s s1 := by
      unfold s1
      exact Kept.step (State.tlpIn_kept ..) rfl h_a
    try clear_value s1
    refine Kept.ite ?_ ?_
    · exact Kept.step (State.urSent_kept ..) rfl h_s1
    · refine Kept.ite ?_ ?_
      · exact h_s1
      · exact Kept.step (State.hostWrite_kept ..) rfl h_s1

end Sys2Proof.Machine
end

