-- ==== Sys2Proof/Laws/KeepPhysical.lean ====
section
/-! SUPPORT. What each operation and each command of Machine/Physical.lean leaves as it was: one frame lemma for each. -/

namespace Sys2Proof.Machine

theorem execCageInsert_kept (link : Bool) (n : Nat) (s : State) : KeptR 4 s (execCageInsert link n s) := by
  unfold execCageInsert
  refine onUnit_kept rfl Kept.here (fun a h_a => ?_)
  · exact Kept.step (State.setB_kept ..) rfl h_a

theorem execCageRemove_kept (link : Bool) (n : Nat) (now : Nat) (s : State) : KeptR 3404159455854598 s (execCageRemove link n now s) := by
  unfold execCageRemove
  refine onUnit_kept rfl Kept.here (fun a h_a => ?_)
  · extract_lets -merge -underBinder +onlyGivenNames s1
    have h_s1 : Kept 3404159455854598 s s1 := by
      unfold s1
      exact Kept.step (State.atTime_kept ..) rfl h_a
    try clear_value s1
    refine Kept.ite ?_ ?_
    · refine Kept.ite ?_ ?_
      · exact Kept.step (State.linkFault_kept ..) rfl h_s1
      · exact h_s1
    · extract_lets -merge -underBinder +onlyGivenNames up
      try clear_value up
      extract_lets -merge -underBinder +onlyGivenNames s2
      have h_s2 : Kept 3404159455854598 s s2 := by
        unfold s2
        exact Kept.step (State.setB_kept ..) rfl h_s1
      try clear_value s2
      extract_lets -merge -underBinder +onlyGivenNames s3
      have h_s3 : Kept 3404159455854598 s s3 := by
        unfold s3
        refine Kept.ite ?_ ?_
        · refine State.pageFault_kept rfl h_s2 (fun a1 h_a1 => ?_)
          · exact Kept.step (State.portAtStop_kept ..) rfl h_a1
        · exact h_s2
      try clear_value s3
      refine Kept.ite ?_ ?_
      · exact Kept.step (State.portLeave_kept ..) rfl h_s3
      · exact h_s3

theorem execCoolantAlarm_kept (inletTenths : Nat) (flowTenths : Nat) (lastedMs : Nat) (s : State) : KeptR 3735556 s (execCoolantAlarm inletTenths flowTenths lastedMs s) := by
  unfold execCoolantAlarm
  refine whenB_kept rfl Kept.here (fun a h_a => ?_)
  · exact Kept.step (State.cairnLog_kept ..) rfl h_a

end Sys2Proof.Machine
end

