-- ==== Sys2Proof/Laws/KeepScalar.lean ====
section
/-! SUPPORT. What each operation and each command of Machine/Scalar.lean leaves as it was: one frame lemma for each. -/

namespace Sys2Proof.Machine

theorem execAdd_kept (a : SlotId) (s : State) : KeptR 75557939809097044681222 s (execAdd a s) := by
  unfold execAdd
  exact KeptR.step (execG_kept ..) rfl Kept.here

theorem execSub_kept (a : SlotId) (s : State) : KeptR 75557939809097044681222 s (execSub a s) := by
  unfold execSub
  exact KeptR.step (execG_kept ..) rfl Kept.here

theorem execAnd_kept (a : SlotId) (s : State) : KeptR 75557939809097044681222 s (execAnd a s) := by
  unfold execAnd
  exact KeptR.step (execG_kept ..) rfl Kept.here

theorem execOr_kept (a : SlotId) (s : State) : KeptR 75557939809097044681222 s (execOr a s) := by
  unfold execOr
  exact KeptR.step (execG_kept ..) rfl Kept.here

theorem execXor_kept (a : SlotId) (s : State) : KeptR 75557939809097044681222 s (execXor a s) := by
  unfold execXor
  exact KeptR.step (execG_kept ..) rfl Kept.here

theorem execShl_kept (a : SlotId) (s : State) : KeptR 75557939809097044681222 s (execShl a s) := by
  unfold execShl
  exact KeptR.step (execG_kept ..) rfl Kept.here

theorem execShr_kept (a : SlotId) (s : State) : KeptR 75557939809097044681222 s (execShr a s) := by
  unfold execShr
  exact KeptR.step (execG_kept ..) rfl Kept.here

theorem execSra_kept (a : SlotId) (s : State) : KeptR 75557939809097044681222 s (execSra a s) := by
  unfold execSra
  exact KeptR.step (execG_kept ..) rfl Kept.here

theorem execMul_kept (a : SlotId) (s : State) : KeptR 75557939809097044681222 s (execMul a s) := by
  unfold execMul
  exact KeptR.step (execG_kept ..) rfl Kept.here

theorem execMulhu_kept (a : SlotId) (s : State) : KeptR 75557939809097044681222 s (execMulhu a s) := by
  unfold execMulhu
  exact KeptR.step (execG_kept ..) rfl Kept.here

theorem execCmpeq_kept (a : SlotId) (s : State) : KeptR 75557939809097044681222 s (execCmpeq a s) := by
  unfold execCmpeq
  exact KeptR.step (execG_kept ..) rfl Kept.here

theorem execCmplt_kept (a : SlotId) (s : State) : KeptR 75557939809097044681222 s (execCmplt a s) := by
  unfold execCmplt
  exact KeptR.step (execG_kept ..) rfl Kept.here

theorem execCmpltu_kept (a : SlotId) (s : State) : KeptR 75557939809097044681222 s (execCmpltu a s) := by
  unfold execCmpltu
  exact KeptR.step (execG_kept ..) rfl Kept.here

theorem execAddi_kept (a : SlotId) (s : State) : KeptR 75557939809097044681222 s (execAddi a s) := by
  unfold execAddi
  exact KeptR.step (execG_kept ..) rfl Kept.here

theorem execAndi_kept (a : SlotId) (s : State) : KeptR 75557939809097044681222 s (execAndi a s) := by
  unfold execAndi
  exact KeptR.step (execG_kept ..) rfl Kept.here

theorem execOri_kept (a : SlotId) (s : State) : KeptR 75557939809097044681222 s (execOri a s) := by
  unfold execOri
  exact KeptR.step (execG_kept ..) rfl Kept.here

theorem execXori_kept (a : SlotId) (s : State) : KeptR 75557939809097044681222 s (execXori a s) := by
  unfold execXori
  exact KeptR.step (execG_kept ..) rfl Kept.here

theorem execShli_kept (a : SlotId) (s : State) : KeptR 75557939809097044681222 s (execShli a s) := by
  unfold execShli
  exact KeptR.step (execG_kept ..) rfl Kept.here

theorem execShri_kept (a : SlotId) (s : State) : KeptR 75557939809097044681222 s (execShri a s) := by
  unfold execShri
  exact KeptR.step (execG_kept ..) rfl Kept.here

theorem execMovi_kept (a : SlotId) (s : State) : KeptR 75557939809097044681222 s (execMovi a s) := by
  unfold execMovi
  exact KeptR.step (execG_kept ..) rfl Kept.here

theorem execMovhi_kept (a : SlotId) (s : State) : KeptR 75557939809097044681222 s (execMovhi a s) := by
  unfold execMovhi
  exact KeptR.step (execG_kept ..) rfl Kept.here

theorem execUndefinedOpcode_kept (a : SlotId) (s : State) : KeptR 75557939809097044681222 s (execUndefinedOpcode a s) := by
  unfold execUndefinedOpcode
  extract_lets -merge -underBinder +onlyGivenNames x
  try clear_value x
  refine onUnit_kept rfl Kept.here (fun a1 h_a1 => ?_)
  · exact Kept.step (State.slotFault_kept ..) rfl (Kept.step (State.touchIssue_kept ..) rfl h_a1)

theorem execInstructionFetchFault_kept (a : SlotId) (s : State) : KeptR 75557939809097044681222 s (execInstructionFetchFault a s) := by
  unfold execInstructionFetchFault
  extract_lets -merge -underBinder +onlyGivenNames x
  try clear_value x
  refine onUnit_kept rfl Kept.here (fun a1 h_a1 => ?_)
  · exact Kept.step (State.slotFault_kept ..) rfl (Kept.step (State.touchIssue_kept ..) rfl h_a1)

end Sys2Proof.Machine
end

