-- ==== Sys2Proof/Laws/Taken.lean ====
section
/-! SUPPORT. What taking a packet out of the fabric leaves: it changes the net and the counts of reaches and gauges (R134, R170), so a register
below the gauge pages, every rill and every memory reads as before, and the checks of R47 answer the same before and after. -/

namespace Sys2Proof.Machine

theorem foldl_keeps {α β γ : Type} (view : β → γ) (f : β → α → β) (h : ∀ b a, view (f b a) = view b) (l : List α) (b : β) :
    view (l.foldl f b) = view b := by
  induction l generalizing b with
  | nil => rfl
  | cons x l ih => rw [List.foldl_cons, ih, h]

theorem setRegN_below {s : State} {a x v : Nat} (h : x < a) : (s.setRegN a v).reg x = s.reg x :=
  State.reg_setReg_other s _ (Nat.ne_of_lt h)

theorem setReg64_below {s : State} {a x v : Nat} (h : x < a) : (s.setReg64 a v).reg x = s.reg x := by
  unfold State.setReg64
  rw [setRegN_below (Nat.lt_of_lt_of_le h (Nat.le_add_right a 4)), setRegN_below h]

theorem setGaugeVal_below {s : State} {ep g x v : Nat} (h : x < aGauge ep g 0x10) : (s.setGaugeVal ep g v).reg x = s.reg x := by
  unfold State.setGaugeVal
  split
  · exact setReg64_below h
  · exact setRegN_below h

theorem gaugeBytes_below (s : State) {x : Nat} (ep g : Nat) (b : List Byte) (h : x < 0x2C0000) : (s.gaugeBytes ep g b).reg x = s.reg x := by
  have e : ∀ off, x < aGauge ep g off := by intro off; show x < pageBase clsGauge ep + (0x100 + 0x40 * g + off); rw [show pageBase clsGauge ep = 0x2C0000 + 0x1000 * ep from rfl]; omega
  unfold State.gaugeBytes
  simp only
  split
  · rfl
  · show State.reg (State.setReg64 _ _ _) x = _
    rw [setReg64_below (e _), setGaugeVal_below (e _)]

theorem feedStream_below (s : State) {x : Nat} (ep dir col row q ctx : Nat) (b : List Byte) (h : x < 0x2C0000) :
    (s.feedStream ep dir col row q ctx b).reg x = s.reg x := by
  unfold State.feedStream
  refine foldl_keeps (fun t : State => t.reg x) _ (fun t g => ?_) _ s
  simp only
  split
  · exact gaugeBytes_below t ep g b h
  · rfl

theorem countFlits_below (s : State) {x : Nat} (p : Packet) (l : List (Nat × Nat)) (h : x < 0x2C0000) : (s.countFlits p l).reg x = s.reg x := by
  unfold State.countFlits
  refine foldl_keeps (fun t : State => t.reg x) _ (fun t q => ?_) _ s
  unfold State.fabAdd State.add64
  split
  · exact setReg64_below (show x < pageBase clsReach _ + _ by rw [show pageBase clsReach (reachOf q.1 q.2) = 0x900000 + 0x1000 * reachOf q.1 q.2 from rfl]; omega)
  · rfl

theorem takePacket_below (s : State) {x : Nat} (i : Nat) (p : Packet) (h : x < 0x2C0000) : (s.takePacket i p).reg x = s.reg x := by
  unfold State.takePacket
  simp only
  split
  · rw [feedStream_below _ _ _ _ _ _ _ _ h, countFlits_below _ _ _ h]; rfl
  · rw [countFlits_below _ _ _ h]; rfl

/-- A part of the state that no register and no gauge queue is in. -/
theorem takePacket_part {γ : Type} (view : State → γ) (hr : ∀ s a v, view (State.setReg s a v) = view s)
    (hg : ∀ (s : State) x y, view { s with gaugePend := x, gaugeDue := y } = view s) (hn : ∀ (s : State) n, view { s with net := n } = view s)
    (s : State) (i : Nat) (p : Packet) : view (s.takePacket i p) = view s := by
  have e64 : ∀ (t : State) a v, view (t.setReg64 a v) = view t := fun t a v => by unfold State.setReg64 State.setRegN; rw [hr, hr]
  have ef : ∀ (t : State) l, view (t.countFlits p l) = view t := fun t l => by
    unfold State.countFlits
    refine foldl_keeps view _ (fun t q => ?_) l t
    unfold State.fabAdd State.add64
    split
    · exact e64 _ _ _
    · rfl
  have eg : ∀ (t : State) ep g b, view (t.gaugeBytes ep g b) = view t := fun t ep g b => by
    unfold State.gaugeBytes
    simp only
    split
    · exact hg t _ t.gaugeDue
    · rw [hg, e64]
      unfold State.setGaugeVal State.setRegN
      split
      · exact e64 _ _ _
      · exact hr _ _ _
  unfold State.takePacket
  simp only
  split
  · unfold State.feedStream
    rw [foldl_keeps view _ (fun t g => ?_) _ _, ef, hn]
    simp only
    split
    · exact eg _ _ _ _
    · rfl
  · rw [ef, hn]

@[simp] theorem takePacket_rills (s : State) (i : Nat) (p : Packet) : (s.takePacket i p).rills = s.rills :=
  takePacket_part State.rills (fun _ _ _ => rfl) (fun _ _ _ => rfl) (fun _ _ => rfl) s i p
@[simp] theorem takePacket_rill (s : State) (i : Nat) (p : Packet) (k : Nat) : (s.takePacket i p).rill k = s.rill k := by
  simp only [State.rill, takePacket_rills]
@[simp] theorem takePacket_store (s : State) (i : Nat) (p : Packet) : (s.takePacket i p).store = s.store :=
  takePacket_part State.store (fun _ _ _ => rfl) (fun _ _ _ => rfl) (fun _ _ => rfl) s i p
@[simp] theorem takePacket_pool (s : State) (i : Nat) (p : Packet) : (s.takePacket i p).pool = s.pool :=
  takePacket_part State.pool (fun _ _ _ => rfl) (fun _ _ _ => rfl) (fun _ _ => rfl) s i p
@[simp] theorem takePacket_stack (s : State) (i : Nat) (p : Packet) : (s.takePacket i p).stack = s.stack :=
  takePacket_part State.stack (fun _ _ _ => rfl) (fun _ _ _ => rfl) (fun _ _ => rfl) s i p
@[simp] theorem takePacket_clk (s : State) (i : Nat) (p : Packet) : (s.takePacket i p).clk = s.clk :=
  takePacket_part State.clk (fun _ _ _ => rfl) (fun _ _ _ => rfl) (fun _ _ => rfl) s i p

/-- The checks of R47 read no register of a reach or a gauge; CTX is checked before the EPOCH of the context is read. -/
theorem takePacket_unitCheck (s : State) (i : Nat) (p q : Packet) : (s.takePacket i p).unitCheck q = s.unitCheck q := by
  unfold State.unitCheck
  simp only [takePacket_rill]
  by_cases e : q.edge
  · simp only [e, if_true]
    by_cases c : 16 < q.ctx
    · simp [checkPacket, c]
    · have : aRc q.ctx 0x1C < 0x2C0000 := by simp only [aRc]; omega
      simp only [State.rillEpoch, State.regN, takePacket_below s i p this]
  · simp only [e, if_false, Bool.false_eq_true]

/-- A packet that comes whole to its unit and passes every check there has the effect of its row. -/
theorem takes_passes (s : State) (i : Nat) (p : Packet) (f : State → State) (h : p.abort = false) (k : s.unitCheck p = none) :
    s.takes i p f = f (s.takePacket i p) := by
  unfold State.takes
  simp only [h, takePacket_unitCheck, k, Bool.false_eq_true, if_false]

/-- One that fails a check is rejected with the code of the first. -/
theorem takes_fails (s : State) (i : Nat) (p : Packet) (f : State → State) {c : Option Nat} (h : p.abort = false) (k : s.unitCheck p = some c) :
    s.takes i p f = (s.takePacket i p).rejectPacket p p.dstUnit.1 p.dstUnit.2 c := by
  unfold State.takes
  simp only [h, takePacket_unitCheck, k, Bool.false_eq_true, if_false]

end Sys2Proof.Machine
end

