-- ==== Sys2Proof/Tests/Slice0.lean ====
section
/-! SUPPORT. The model's own tests: well-formedness, the spec's worked examples, instructions on values worked out by hand, and one witness for
each clause of a statement that has hypotheses. -/

namespace Sys2Proof.Tests
open Sys2Proof.Machine
set_option Elab.async false
set_option linter.unusedVariables false

/-! ### Small states -/

/-- Slot 0 of the rill at (0, 0). -/
def slot00 : SlotId := ⟨0, 0, 0⟩
/-- A state in which slot 0 of the rill at (0, 0) is READY at PC 0 with the word there and the scalar registers given. -/
def rillRuns (w : Nat) (g : AMap W64) : State :=
  { State.reset with
    rills := [(0, { Rill.init with slots := [(0, { Slot.init with st := .ready, g := g })] })]
    store := writeBytes [] 0 (leBytes 8 w) }
/-- The state in which slot 0 of the rill at (0, 0) runs, with the slot and the rill changed. -/
def rillWith (w : Nat) (f : Slot → Slot) (g : Rill → Rill) : State :=
  { State.reset with
    rills := [(0, g { Rill.init with slots := [(0, f { Slot.init with st := .ready })] })]
    store := writeBytes [] 0 (leBytes 8 w) }
/-- Every slot READY. -/
def rillFull (w : Nat) : State :=
  rillWith w id (fun r => { r with slots := (List.range 16).map (fun n => (n, { Slot.init with st := .ready })) })
/-- Slot 0 is exiting and owns tensor register 2. -/
def rillExits : State := rillWith 0 (fun x => { x with exiting := true }) (fun r => { r with own := [(2, 0)] })
/-- Slot 0 waits. -/
def rillWaits (wt : WaitFor) : State := rillWith 0 (fun x => { x with st := .waiting, wait := wt, event := 1 }) id
/-- Slot 0 holds EVENT bits. -/
def rillEvent (w : Nat) (e : W16) : State := rillWith w (fun x => { x with event := e }) id
/-- Slot 1 is listed and FREE. -/
def rillTwo (w : Nat) (g : AMap W64) : State :=
  rillWith w id (fun r => { r with slots := [(0, { Slot.init with st := .ready, g := g }), (1, Slot.init)] })
/-- Slot 0 waits for an acknowledgement. -/
def rillAcks (w : Nat) : State := rillWith w (fun x => { x with acks := [1] }) id
/-- Slot 0 owns tensor registers 0 to 5. -/
def rillOwns (w : Nat) : State := rillWith w id (fun r => { r with own := [(0, 0), (1, 0), (2, 0), (3, 0), (4, 0), (5, 0)] })
/-- The same, with scalar registers. -/
def rillOwnsG (w : Nat) (g : AMap W64) : State :=
  rillWith w (fun x => { x with g := g }) (fun r => { r with own := [(0, 0), (1, 0), (2, 0), (3, 0), (4, 0), (5, 0)] })
/-- The receive ring holds a message. -/
def rillRing (w : Nat) : State := rillWith w id (fun r => { r with rxLen := 0x400, rx := [⟨0, 128, false, 0, 64, none, false⟩] })
/-- An operation of slot 0: td = 0, ta = 1, tb = 2, gs1 = 3 where a reduction names it. -/
def unitOp (op : Nat) : UnitOp :=
  { slot := 0, pc := 0, word := BitVec.ofNat 64 (op * 2 ^ 56 + 2 ^ 48 + 2 * 2 ^ 44 + 3 * 2 ^ 35), s1 := 0, s2 := 0, draw := 0, step := 0 }
/-- A unit executes an operation. -/
def rillUnit (u : UnitSel) (op : Nat) : State :=
  rillWith 0 id (fun r => if u = .tensor then { r with tensorQ := [unitOp op] } else { r with vectorQ := [unitOp op] })
/-- An IN queue of memory endpoint 1: 3 ring slots of 256 bytes at 0x4000. -/
def tileIn : Desc :=
  { Desc.zero with
    farKind := 1, ringSlots := 3, prefetch := 1, outstanding := 1, memEp := 1, tileLen := 256, nearAddr := 0x4000, statAddr := 0xFFFF,
    up := 0xFFFFFFFF, down := 0xFFFFFFFF }
/-- The descriptor stands at 0x8000, gs1 = g1 points to it, and queue 0 is changed by f. -/
def rillDesc (w : Nat) (d : Desc) (f : Queue → Queue) : State :=
  { State.reset with
    rills := [(0, { Rill.init with slots := [(0, { Slot.init with st := .ready, g := [(1, 0x8000)] })], queues := [(0, f Queue.init)] })]
    store := writeBytes (writeBytes [] 0 (leBytes 8 w)) 0x8000 d.bytes }
/-- Slot 0 holds the ring's message, obtained by RECV. -/
def rillHolds (w : Nat) : State :=
  rillWith w id (fun r => { r with rxLen := 0x400, rx := [⟨0, 128, false, 0, 64, some 0, false⟩] })
/-- A packet of a kind from (1, 0) to (0, 0). -/
def pk (kind : Nat) : Packet := { Packet.blank with scol := 1, kind := kind }
/-- One packet in flight. -/
def netWith (p : Packet) : State := { State.reset with net := [p] }
/-- One packet in flight toward a rill with slot 0 and the rill changed. -/
def netRill (p : Packet) (f : Slot → Slot) (g : Rill → Rill) : State := { rillWith 0 f g with net := [p] }
/-- One packet in flight toward a rill whose ring of 1,024 bytes holds entries. -/
def netRing (l : List RxEntry) (p : Packet) : State := netRill p id (fun r => { r with rxLen := 1024, rx := l })
/-- A STARTING queue. -/
def tileQ : Queue := { Queue.init with st := stStarting, arms := [⟨0, tileIn, 0⟩] }
/-- A rill with queue 0. -/
def rillQ (x : Queue) : State := rillWith 0 id (fun r => { r with queues := [(0, x)] })
/-- A packet in flight toward an ON queue with a transfer in flight. -/
def netQueue (p : Packet) : State := { rillQ { tileQ with st := stOn, issued := 1, flights := [⟨7, 0⟩] } with net := [p] }
/-- An IN queue of a Headwater endpoint that has granted one tile. -/
def pushQueue : Queue := { tileQ with st := stOn, issued := 1, arms := [⟨0, { tileIn with farKind := 3, memEp := 0, up := 0x80000000 }, 0⟩] }
/-- A packet in flight toward it. -/
def netPush (p : Packet) : State := { rillQ pushQueue with net := [p] }
/-- A packet in flight toward a STARTING queue of a FAR_KIND. -/
def netFar (k : Nat) (p : Packet) : State := { rillQ { tileQ with arms := [⟨0, { tileIn with farKind := k }, 0⟩] } with net := [p] }
/-- An OUT queue with a released tile. -/
def outQ : Queue := { tileQ with st := stOn, released := 1, acquired := 1, arms := [⟨0, { tileIn with dir := 1, prefetch := 0 }, 0⟩] }
/-- An OUT queue toward a rill, with a released tile and credit for it. -/
def outPushQ : Queue :=
  { outQ with credit := 1, srcArm := some 1, arms := [⟨0, { tileIn with dir := 1, prefetch := 0, farKind := 2, memEp := 0, up := 0xFFFFFFFF, down := 1 }, 0⟩] }
/-- An OUT queue toward the pool of (1, 0), with a released tile. -/
def outPoolQ : Queue := { outQ with arms := [⟨0, { tileIn with dir := 1, prefetch := 0, farKind := 0, memEp := 0, up := 0xFFFFFFFF, farBase := 0x10000 }, 0⟩] }
/-- A trickle transfer of slot 0 in flight. -/
def tricks : Trickle := { slot := 0, desc := { tileIn with ringSlots := 0, prefetch := 0, outstanding := 0, tileLen := 64, count := 1, up := 0xFFFFFFFF }, xid := 7 }
/-- The position (0, 0) is a hole, toward which a packet goes. -/
def holeNet (p : Packet) : State := ({ State.reset with net := [p] }).setF (aCmt 0 0) 4 3 1
/-- A packet from the rill at (120, 0) to memory endpoint 1, which stands there. -/
def mpk (kind : Nat) : Packet := { Packet.blank with edge := true, dcol := 1, scol := 120, kind := kind, len := 8, way := (120, 0) }
/-- A TRANSLATION page of context 16 in a state, with its SET0 valid on an existing stack, at stage 4. -/
def xlPage (st : Nat) : State := ((State.reset.setPst clsXl 16 st).setF 0x108 0 3 4).setReg (aXl 16 0x108) 0x80000001
/-- Context 0 translates, with its root in SET0, and a packet is in flight toward memory endpoint 1. -/
def xlOn (p : Packet) : State := { (State.reset.setPst clsXl 0 stOn).setReg (aXl 0 0x108) 0x80000001 with net := [p] }
/-- A request that memory endpoint 1 holds. -/
def mreq (kind stage len : Nat) : MemReq :=
  { pkt := { mpk kind with len := len }, stage := stage, segs := [], code := 0, poison := false, data := [], xid := 0, old := false, walk := none, walkOld := false }
/-- Requests held. -/
def reqs (l : List MemReq) : State := { State.reset with memReqs := l }
/-- A walk of memory endpoint 1 is in progress whose entries stand in the walk cache. -/
def walkIn : State :=
  { reqs [{ mreq 0x10 0 8 with walk := some 0 }] with
    walkCache := [⟨0, 0, 4, 0, 1⟩, ⟨0, 0, 3, 0, 1⟩, ⟨0, 0, 2, 0, 1⟩, ⟨0, 0, 1, 0, 0x15F⟩] }
/-- Stack 23 is fitted, with its page in a state. -/
def stk (st : Nat) : State := (State.reset.setB (aStk 23 0x100) 0 true).setPst clsStack 23 st
/-- The PCIe link is up. -/
def hostUp : State := State.reset.setB (rg clsPcie 0 0x100) 0 true
/-- At stage 4 the link is up, context 0 has SET0 valid on stack 0, whose page is ON, and a window of 128 GiB. -/
def bar2On : State :=
  (((hostUp.setF 0x108 0 3 4).setReg (aXl 0 0x108) 0x80000001).setPst clsStack 0 stOn).setReg64 (aPt 0 4) 0x2000000000
/-- A weight manifest of one rank, one layer, one weight range of 16,384 bytes and one gradient range, one object and one server. -/
def manSmall : List Byte :=
  [90, 51, 87, 77, 0, 1, 0, 0, 1, 0, 0, 0, 0, 1, 0, 0, 1, 0, 1, 0, 1, 0, 0, 0, 224, 0, 0, 0, 192, 0, 0, 0, 128] ++ List.replicate 95 0 ++ [136, 0, 0, 0, 1, 0, 0, 0, 144, 0, 0, 0, 1, 0, 1] ++ List.replicate 18 0 ++ [64] ++ List.replicate 23 0 ++ [64] ++ List.replicate 7 0 ++ [64] ++ List.replicate 8 0 ++ [16] ++ List.replicate 25 0 ++ [255, 255, 255, 255] ++ List.replicate 8 0 ++ List.replicate 16 1
/-- Context 0 has the manifest bound as generation 1 in slot 0, with its key, and may use port 0, which is ON. -/
def hwBound : State :=
  ((((({ State.reset with hwMan := [(0, manSmall)], hwKeys := [(0, List.replicate 32 7)] }).setRegN (aHwc 0 4) 3).setRegN (aHwc 0 0x18) 1).setRegN
    (aPt 0 1) 0xFFFFFFFF).setPst clsPort 0 stOn)
/-- An IN stream of layer 0, range 0, generation 1, with tiles of 256 bytes. -/
def hwDesc : Desc := { tileIn with farKind := 3, memEp := 0, farArg := 1, farStride := 256, up := 0x80000002, outstanding := 0 }
/-- A stream of port 0 that is confirmed, wants frame 0 and has credit for one tile. -/
def hwStr : HwStream :=
  { port := 0, slot := 0, col := 240, row := 0, q := 0, ctx := 0, arm := 0, desc := hwDesc, first := 0, rearm := none, openP := pk 0x20,
    held := false, heldRearm := false, claim := some (0, 1), credit := 1, done := 0, frames := [], fetches := [], bad := [], failed := false }
/-- The same with an open FETCH of frame 0. -/
def hwAsking : HwStream := { hwStr with fetches := [⟨0, 1, [0], 0, 0⟩] }
/-- The same manifest is bound as generation 2 in slot 0, and as generation 1, with its key, in slot 1; a swap to slot 1 waits for FRONT_GO. -/
def hwSwapping : State :=
  (({ hwBound with hwMan := [(0, manSmall), (1, manSmall)], hwKeys := [(1, List.replicate 32 7)] }.setRegN (aHwc 0 4) 0xAD).setRegN
    (aHwc 0 0x18) 2).setRegN (aHwc 0 0x1C) 1
/-- Streams in a state. -/
def hwWith (l : List HwStream) (g : List Grad) (p : List Packet) : State := { hwBound with hws := l, grads := g, net := p }
/-- A packet from the rill at (240, 0) to the Levee endpoint of port 0, which stands there. -/
def lpk (kind : Nat) : Packet := { Packet.blank with edge := true, dcol := 2, scol := 240, kind := kind, way := (240, 0) }
/-- A datagram of a type for the stream. -/
def dg (type : Nat) (b : List Byte) : Dgram :=
  let d : Dgram :=
    { vlan := none, peer := List.replicate 16 1, peerUdp := 0, ownUdp := hwBound.regF (aPort 0 0x120) 0 16, sum := 0, ver := 0x31, type := type, flags := 0,
      session := 0, req := 0, len := b.length, gen := 1, object := 0x4000, index := 0, payload := b }
  { d with sum := hwBound.udpSum 0 d }
/-- A gradient frame of 64 bytes that has been sent. -/
def gr : Grad :=
  { ctx := 0, step := 1, seq := 0, layer := 0, rank := 0, port := 0, req := 0, object := 0x4000, index := 0, gen := 1, server := 1, ip := List.replicate 16 1, udp := 0, len := 64,
    bytes := List.replicate 64 0, body := [], cover := [], sent := true, attempts := 0, last := 0, session := 0 }
/-- A BIND of slot 0 of context 0 is under way, and the manifest stands at virtual 0, which the TLB maps to stack 0. -/
def manPlaced : State :=
  { bar2On.setPst clsXl 0 stOn with
    hwBinding := [0], stack := writeBytes [] 0 manSmall, tlb := [{ unit := 12, ctx := 0, va := 0, ps := 21, set := 0, base := 0, level := 1, rd := true, wr := true }] }
/-- A manifest whose rank 0 has 5 layers. -/
def manDeep : List Byte := overlay manSmall 132 [5]
/-- A packet from the rill at (0, 0) to torus endpoint 0, which stands there. -/
def epk (kind : Nat) : Packet := { Packet.blank with edge := true, kind := kind }
/-- A wire packet of a type for this module, from rank 1 of job 0. -/
def wp (t : Nat) : WirePkt :=
  { type := t, cls := 0, dateline := false, poison := false, last := false, len := 0, dst := { x := 0, y := 0, z := 0 }, dstTwin := false,
    dstRank := 0, srcRank := 1, jobId := 0, group := 0, seq := 0, sig := 0, age := 0, offset := 0, arg := 0, chk := 0, epoch := 0, arg2 := 0,
    payload := [] }
/-- Context 0 owns job slot 0, whose rank 1 is valid, and group 0 has ranks 0 and 1, of which this module is the first. -/
def jobUp : State :=
  (((((State.reset.setRegN (aJob 0 0) 0x80000000).setRegN (aRank 0 1) 0x80000000).setRegN (aGroup 0 0) 0x80000000).setRegN (aGroup 0 1) 2).setRegN
    (aMember 0) 0x10000)
/-- A wire packet waits at the input of link 0. -/
def rxIn (s : State) (p : WirePkt) : State := { s with rx := [⟨0, p, true⟩] }
/-- The descriptor of a VEC operation on the reach of (0, 0), without a collective. -/
def opVec : List Byte :=
  [0, 0, 0, 0, 8] ++ List.replicate 27 0 ++ [1] ++ List.replicate 31 0 ++ [1, 0, 0, 0, 1, 0, 0, 0, 64] ++ List.replicate 55 0
/-- An admitted operation with a collective of a code over group 0. -/
def opColl (coll : Nat) : Op := { Op.blank with desc := List.replicate 25 0 ++ [BitVec.ofNat 8 (16 * coll)] ++ List.replicate 102 0, stage := 1 }
/-- Operations of context 0. -/
def opsOf (s : State) (l : List Op) : State := { s with seqrs := [(0, { Seqr.init with ops := l })] }
/-- A run list of one VEC operation at virtual 0, which the TLB maps to stack 0. -/
def vecList : State :=
  { manPlaced with stack := writeBytes [] 0 opVec, seqrs := [(0, { Seqr.init with lists := [⟨0, 0, 1, 0⟩] })] }
/-- A point-to-point stream of FAR_KIND 4 toward rank 1. -/
def ezDesc (dir : Nat) : Desc :=
  { tileIn with dir := dir, farKind := 4, memEp := 0, farArg := 1 + 2 ^ 16, prefetch := 1 - dir, outstanding := dir,
                up := if dir = 0 then 0x80000000 else 0xFFFFFFFF, down := if dir = 0 then 0xFFFFFFFF else 0x80000000 }
/-- A stream that contributes to post 0. -/
def ezContr : Desc := { ezDesc 1 with farArg := 0 }
/-- A stream at torus endpoint 0. -/
def ezStr (d : Desc) : EzStream :=
  { ep := 0, col := 0, row := 0, q := 0, ctx := 0, arm := 0, desc := d, first := 0, rearm := none, lastOff := none, buf := [], limit := 0,
    bytes := 0, tiles := 0, granted := 0 }
/-- Link 0 in a state. -/
def linkIs (st : Nat) : State := State.reset.setPst clsLink 0 st
/-- A link-control flit. -/
def lc (type last : Nat) : LcFlit := { type := type, last := last, credits := [0, 0, 0, 0, 0, 0], epoch := 0 }
/-- A codeword of control flits only. -/
def cwOf (seq : Nat) : Codeword := { flits := List.replicate 10 (List.replicate 64 0), map := 0x3FF, seq := seq }
/-- A codeword whose first flit is the header of a packet without payload, and IDLE flits. -/
def cwHead : Codeword :=
  { flits := wireHead { wp 1 with dstTwin := true } :: List.replicate 9 (List.replicate 64 0), map := 0x3FE, seq := 0 }
/-- A codeword not acknowledged. -/
def txw (n : Nat) : TxWord := { cw := cwOf 5, resent := n, pkts := [] }
/-- Codeword 5 is not acknowledged, and a control flit has come. -/
def linkSent (n : Nat) (l : List LcFlit) : LinkSt := { LinkSt.init with txSeq := 6, unacked := [txw n], lcIn := l }
/-- The broadcast of job slot 0, of which this module is not the root and waits for rank 3. -/
def bc : Bcast :=
  { seq := 4, parent := some 1, kids := [3], ok := 1, status := 0, lost := 0, due := 20, answered := false, digest := [], excl := [],
    handle := 0, excl0 := [], opened := false }
/-- The same, staged. -/
def bcUp : State := { jobUp.setF (aJob 0 0) 16 2 1 with bcasts := [(0, bc)] }
/-- Firmware runs. -/
def fwOn : State := { State.reset with fwUp := true }
/-- Pitch 251 in a state. -/
def pitchIs (st : Nat) : State := State.reset.setPst clsPitch 251 st
/-- The input stage is closed and the Weir is at work. -/
def weirOn : State := { State.reset with inputStage := 2 }
/-- A frame's readings. -/
def wr : WeirReading :=
  { inMw := 900000, ballastMw := 0, withheldMw := 0, ballastCapMw := 0, mv := 54000, throttled := [], ballast := [], pitches := [] }
/-- Site Time with a source and a state. -/
def timeOn (src st : Nat) : State := (State.reset.setF (rg clsTime 0 0x100) 0 2 src).setF (rg clsTime 0 0x104) 0 3 st
/-- A command of an opcode with its operand bytes 12 to 59, as the first one of a slot. -/
def cmdB (op : Nat) (x : List Byte) : List Byte := [BitVec.ofNat 8 op] ++ List.replicate 11 0 ++ padTo 48 x ++ [1, 0, 0, 0]
/-- The command stands in the watched slot of context 0, whose engine is ON. -/
def cmdIn (s : State) (b : List Byte) : State := { s.setPst clsCe 0 stOn with slotMem := writeBytes [] 64 b }
/-- A command that names an operation. -/
def ctlB (op h : Nat) : List Byte := [BitVec.ofNat 8 op, 0, BitVec.ofNat 8 h] ++ List.replicate 57 0 ++ [1, 0, 0, 0]
/-- A state in which IMAGE_LOAD, FUSED_RUN and CHECKPOINT may run. -/
def runOk : State := State.reset.setPst clsXl 0 stOn
/-- An open long operation of an opcode in a state. -/
def lop (op st : Nat) : LongOp :=
  { handle := 7, opcode := op, seq := 3, state := st, deadline := some 16, byDeadline := false, cmd := cmdB op [], reportAt := 0, progress := 0,
    started := false, mark := 0, units := [] }
/-- Context 0 has the operation open. -/
def lopIn (s : State) (o : LongOp) : State := { s with ce := [(0, { Engine.init with ops := [o] })] }
/-- A swap of context 3 whose front is a layer, in a state of SWAP, with its operation open; each slot's manifest has 5 layers. -/
def swapRuns (front swap : Nat) : State :=
  { (State.reset.setF (aHwc 3 4) 5 2 swap).setF (aHwc 3 4) 8 16 front with
    hwMan := [(6, manDeep), (7, manDeep)], ce := [(3, { Engine.init with ops := [lop 0x24 0] })] }
/-- No work. -/
def noWork : Work := { done := 0, failed := [], corrected := [] }
/-- Slot 0 is READY at PC 0 with g1 = 0x4040, and queue 0 is ON with its ring of 768 bytes at 0x4000. -/
def rillArmed (w : Nat) : State :=
  rillWith w (fun x => { x with g := [(1, 0x4040)] }) (fun r => { r with queues := [(0, { tileQ with st := stOn })] })
/-- Firmware serves the mailbox, in which a request is in progress. -/
def mbIs (op addr len arg : Nat) : State :=
  { weirOn.setB (rg clsMbox 0 0x104) 0 true with fwUp := true, mbReq := [op, addr, len, arg] }
/-- A Cairn record of severity 2 with SEQ 5. -/
def recA : CairnRec := { sev := 2, flags := 0, code := 0, cls := 1, inst := 0, utc := 0, ctx := 0, seq := 5, stamp := 0, items := [] }
/-- A module whose last start-up tests have ended: no stack is fitted, every pitch is isolated, and the flash holds the table. -/
def readyUp : State :=
  let s : State := { fwOn with cmtA := ⟨1, true, []⟩ }
  ((List.range 252).foldl (fun s p => s.setPst clsPitch p stIsolated)
    ((List.range 24).foldl (fun s p => s.setPst clsStack p stOn) s)).setF 0x108 0 3 3
/-- Lanes that carry no codeword: every symbol is 1. -/
def noCodeword : Lanes := List.replicate 8 (List.replicate 68 1)
theorem cw5_read : codewordIn (cwLanes (cwOf 5)) = some (cwOf 5, 0) := by decide +kernel
theorem cwHead_read : codewordIn (cwLanes cwHead) = some (cwHead, 0) := by decide +kernel
theorem noCodeword_read : codewordIn noCodeword = none := by decide +kernel
/-- The ASCII digits 1 to 9. -/
def crcDigits : List Byte := [0x31, 0x32, 0x33, 0x34, 0x35, 0x36, 0x37, 0x38, 0x39]
/-- A seed that nothing draws from. -/
def noSeed : Seed := { step := 0, col := 0, row := 0, slot := 0, n := 0 }
/-- Context 3 of chapter 6's worked example. -/
def exampleSet : State :=
  ((State.reset.setReg (aXl 3 0x10C) 0x82555555).setReg64 (aPt 3 2) 0x200000000).setReg64 (aPt 3 4) 0x1000000000
/-- A record of a severity with a SEQ. -/
def recOf (sev seq : Nat) : CairnRec := { recA with sev := sev, seq := seq }
/-- Register g of slot 0 of the rill at (0, 0) in a next state. -/
def gOf (o : Host.Outcome State Fault Refusal) (g : Nat) : Option W64 :=
  match o with
  | .next t => some (((t.rill 0).slot 0).greg g)
  | _ => none
/-- PC of that slot in a next state. -/
def pcOf (o : Host.Outcome State Fault Refusal) : Option W32 :=
  match o with
  | .next t => some ((t.rill 0).slot 0).pc
  | _ => none

/-! ### Well-formedness refuses an ill-formed operand of each kind -/

theorem test_wf_slot_column : (Instr.add ⟨1080, 0, 0⟩).wellFormed = false := by decide
theorem test_wf_slot_row : (Instr.add ⟨0, 840, 0⟩).wellFormed = false := by decide
theorem test_wf_slot_number : (Instr.add ⟨0, 0, 16⟩).wellFormed = false := by decide
theorem test_wf_slot : (Instr.add ⟨1079, 839, 15⟩).wellFormed = true := by decide
theorem test_wf_position : (Instr.rillWdExpiry ⟨1080, 0⟩).wellFormed = false ∧ (Instr.spareSwap ⟨0, 840⟩).wellFormed = false := by decide
theorem test_wf_line :
    (Instr.memoryUncorrError ⟨0, 0⟩ false 768 0).wellFormed = false ∧ (Instr.memoryUncorrError ⟨0, 0⟩ true 767 0).wellFormed = true ∧
    (Instr.memoryUncorrError ⟨0, 0⟩ true 1024 0).wellFormed = false := by decide
theorem test_wf_queue : (Instr.streamStartDone ⟨0, 0⟩ 8).wellFormed = false := by decide
theorem test_wf_unit_slot : (Instr.streamTileIssue ⟨0, 840⟩ 0).wellFormed = false := by decide
theorem test_wf_port : (Instr.headwaterLinkDown 32 0).wellFormed = false ∧ (Instr.fetchIssue 33 0).wellFormed = false := by decide
theorem test_wf_stream_slot : (Instr.fetchIssue 31 192).wellFormed = false ∧ (Instr.fetchIssue 32 192).wellFormed = true := by decide
theorem test_wf_context : (Instr.frontGo 17).wellFormed = false ∧ (Instr.nopCommand 17).wellFormed = false := by decide
theorem test_wf_manifest_slot : (Instr.bind 0 2).wellFormed = false := by decide
theorem test_wf_link : (Instr.linkStopDone 76).wellFormed = false := by decide
theorem test_wf_job : (Instr.jobTStart 4 0).wellFormed = false := by decide
theorem test_wf_group : (Instr.groupEntryValidate 4096 0).wellFormed = false := by decide
theorem test_wf_confluence : (Instr.confluenceRetestDone 12 0).wellFormed = false := by decide
theorem test_wf_power_chiplet : (Instr.powerChipletFail 16).wellFormed = false := by decide
theorem test_wf_pitch : (Instr.pitchStopDone 252 0).wellFormed = false := by decide
theorem test_wf_stack : (Instr.stackFail 24).wellFormed = false := by decide
theorem test_wf_set : (Instr.setWrite 0 6 0).wellFormed = false := by decide
theorem test_wf_function : (Instr.registerWrite 17 0 [] ⟨none, false⟩).wellFormed = false ∧ (Instr.bar2Read 17 0 0 ⟨none, false⟩ []).wellFormed = false := by decide
theorem test_wf_vector : (Instr.msixVectorUnmask 1 120).wellFormed = false ∧ (Instr.msixVectorUnmask 0 127).wellFormed = true := by decide
theorem test_wf_virtual_function : (Instr.functionLevelReset 0).wellFormed = false := by decide
theorem test_wf_ide_stream : (Instr.ideIntegrityFail 9).wellFormed = false := by decide
theorem test_wf_gauge : (Instr.gaugeEnChange 36 0).wellFormed = false ∧ (Instr.gaugeEnChange 0 8).wellFormed = false := by decide
theorem test_wf_gauge_register : (Instr.gaugeWrite 0 0 0x0C 0).wellFormed = false := by decide
theorem test_wf_page : (Instr.enReq 0x2000).wellFormed = false ∧ (Instr.enReq 0x1000).wellFormed = true := by decide
theorem test_wf_cage : (Instr.cageInsert true 76).wellFormed = false ∧ (Instr.cageInsert false 32).wellFormed = false := by decide

/-! ### The spec's worked examples and tables -/

/-- Chapter 0: logical rill (500, 700) lies in pitch 49.3, segment 1. -/
theorem test_location : pitchOf 500 700 = 4 * 49 + 3 ∧ segOf 500 = 1 := by decide
/-- Chapter 18: pitch 49.3 has its page at 0x001C_7000, reach 49 at 0x0093_1000. -/
theorem test_pages : pageAt 0x1C7000 = some (clsPitch, 199, 0) ∧ pageAt 0x931000 = some (clsReach, 49, 0) := by decide
/-- R171: the running value and the check value of the ASCII string "123456789". -/
theorem test_crc32c : (crcDigits.foldl (gaugeStep 0) (gaugeInit 0)) = 0x1CF96D7C := by decide +kernel
theorem test_crc64 : (crcDigits.foldl (gaugeStep 1) (gaugeInit 1)) = 0x6C40DF5F0B497347 := by decide +kernel
/-- Chapter 3: the E4M3 partial is 8.0. -/
theorem test_partial :
    partialVal 3 0x7F 0x80 [(decEl 3 0x3C, decEl 3 0x44), (decEl 3 0xC0, decEl 3 0x28)] = 0x41000000 := by decide +kernel
/-- Chapter 3: 1.0 + 8.0 is 9.0. -/
theorem test_sum : fadd .rne 0x3F800000 0x41000000 = 0x41100000 := by decide +kernel
/-- R82: 1,000 as an E4M3 block of its own has scale byte 0x80 and element 448 (0x7E). -/
theorem test_mx_saturates : mxBlock 3 noSeed false [0x447A0000] 0 = (0x80, [0x7E]) := by decide +kernel
/-- Chapter 10: five reaches hold 1, 2^24, 1, -2^24 and 1; the tree of R337 gives 2.0. -/
theorem test_tree :
    ((treeOf (addOpt 0) 7 ([0x3F800000, 0x4B800000, 0x3F800000, 0xCB800000, 0x3F800000].map (fun n => some (leBytes 4 n ++ List.replicate 60 0)))).headD none)
      = some (leBytes 4 0x40000000 ++ List.replicate 60 0) := by decide +kernel
/-- Chapter 6: set address 0x4012_3456 of SET1, the 12 even positions with a granule of 16 KiB, in a window at 0x2_0000_0000. -/
theorem test_set_address : exampleSet.setPlace 3 1 0x40123456 = (8, 0x20556F456) := by decide +kernel
/-- R1 and R2: a ZX3-S12 holds its 12 stacks at the even positions. -/
theorem test_small_part :
    (State.reset.populate .s12).regN 0x110 = 0x555555 ∧ (State.reset.populate .s12).fitted 22 = true ∧ (State.reset.populate .s12).fitted 23 = false ∧
    (State.reset.populate .s12).pst clsStack 23 = stIsolated := by decide +kernel
/-- R91: 510 is a multiple of 255, -1 leaves 254, and -256 leaves 254 as well. -/
theorem test_residue : res255 510 = 0 ∧ res255 (-1) = 254 ∧ res255 (-256) = 254 ∧ res255 (-255) = 0 := by decide
/-- Chapter 13: 191,999 truncates to 191,992; slot 23 is SCRUB of stack 23, slot 24 CALIB of stack 0. -/
theorem test_grain : grain 191999 = 191992 ∧ slotReset 23 = 1 + 16 * 23 ∧ slotReset 24 = 2 := by decide
/-- Chapter 17, with a store of two cells: records of severity 2 and 3 are dropped, one of severity 5 overwrites the oldest below it. -/
theorem test_full_buffer :
    (place 2 [recOf 4 1, recOf 3 2] (recOf 2 3)).1 = [recOf 4 1, recOf 3 2] ∧ (place 2 [recOf 4 1, recOf 3 2] (recOf 3 4)).1 = [recOf 4 1, recOf 3 2] ∧
    (place 2 [recOf 4 1, recOf 3 2] (recOf 5 5)).1 = [recOf 3 2, recOf 5 5] := by decide +kernel

/-! ### Instructions of R41, on values worked out by hand -/

/-- 2^64 - 1 plus 1 is 0. -/
theorem test_add_wraps : gOf (execAdd slot00 (rillRuns 0x118440000000000 [(1, 0xFFFFFFFFFFFFFFFF), (2, 1)])) 3 = some 0 := by decide +kernel
/-- 5 minus 7 is -2: the first operand is gs1. -/
theorem test_sub_order : gOf (execSub slot00 (rillRuns 0x218440000000000 [(1, 5), (2, 7)])) 3 = some 0xFFFFFFFFFFFFFFFE := by decide +kernel
/-- -16 shifted right arithmetically by 66, of which the low 6 bits are 2, is -4. -/
theorem test_sra_sign : gOf (execSra slot00 (rillRuns 0x818440000000000 [(1, 0xFFFFFFFFFFFFFFF0), (2, 66)])) 3 = some 0xFFFFFFFFFFFFFFFC := by decide +kernel
/-- The high half of 2^63 times 4 is 2. -/
theorem test_mulhu : gOf (execMulhu slot00 (rillRuns 0xa18440000000000 [(1, 0x8000000000000000), (2, 4)])) 3 = some 2 := by decide +kernel
/-- -1 is less than 1 as a signed number. -/
theorem test_cmplt_signed : gOf (execCmplt slot00 (rillRuns 0xc18440000000000 [(1, 0xFFFFFFFFFFFFFFFF), (2, 1)])) 3 = some 1 := by decide +kernel
/-- 2^64 - 1 is not less than 1 as an unsigned number. -/
theorem test_cmpltu : gOf (execCmpltu slot00 (rillRuns 0xd18440000000000 [(1, 0xFFFFFFFFFFFFFFFF), (2, 1)])) 3 = some 0 := by decide +kernel
/-- An immediate of all ones is -1. -/
theorem test_addi_sign : gOf (execAddi slot00 (rillRuns 0x10184000ffffffff [(1, 3)])) 3 = some 2 := by decide +kernel
/-- MOVHI keeps the low word. -/
theorem test_movhi : gOf (execMovhi slot00 (rillRuns 0x17180000abcd0000 [(3, 0x11112222)])) 3 = some 0xABCD000011112222 := by decide +kernel
/-- A write of g0 is discarded. -/
theorem test_zero_register : gOf (execAdd slot00 (rillRuns 0x100440000000000 [(1, 1), (2, 1)])) 0 = some 0 := by decide +kernel
/-- BEQ with an offset of 64 goes from 0 to 64 where the operands are equal, and to 8 where they are not. -/
theorem test_beq :
    pcOf (execBeq slot00 (rillRuns 0x3300440000000040 [(1, 5), (2, 5)])) = some 64 ∧
    pcOf (execBeq slot00 (rillRuns 0x3300440000000040 [(1, 5), (2, 6)])) = some 8 := by decide +kernel
/-- CALL leaves PC + 8 in g31. -/
theorem test_call : gOf (execCall slot00 (rillRuns 0x3200000000000040 [])) 31 = some 8 := by decide +kernel
/-- A jump past the rill store faults with ADDR and leaves PC. -/
theorem test_jump_fault : pcOf (execJ slot00 (rillRuns 0x300000000000c000 [])) = some 0 := by decide +kernel

/-! ### Witnesses of the statements: a state and operands that meet all hypotheses of a clause -/

theorem witness_StepTakesFront_idle :
    ∃ (s : State), (s.pending = []) :=
  ⟨State.reset, by decide⟩
theorem witness_EveryCommandAnswers_answers :
    ∃ (s : State) (c : Instr), (c.wellFormed = true) :=
  ⟨State.reset, .nop ⟨0, 0, 0⟩, by decide⟩
theorem witness_EveryCommandAnswers_stops :
    ∃ (s : State) (c : Instr), (c.wellFormed = false) :=
  ⟨State.reset, .nop ⟨1080, 0, 0⟩, by decide⟩
theorem witness_QueueUntouchedByExec_queue :
    ∃ (s t : State) (c : Instr), (exec c s = .next t) :=
  ⟨State.reset, _, .idealDiodeOpen, rfl⟩
theorem witness_StepKeepsMemoriesCanonical_memories :
    ∃ (s t : State), (s.memOk) ∧ (step s = .next t) :=
  ⟨State.reset, State.reset, ⟨by decide, by decide, by decide, by decide, by decide⟩, rfl⟩
theorem witness_TimeNeverRunsBack_time :
    ∃ (s t : State) (c : Instr), (exec c s = .next t) ∧
    ((match c with | .inputStageClose _ _ | .ptpSync _ _ _ | .ppsEdge _ _ | .stCtlWrite _ | .reacquire | .registerWrite _ _ _ _ => False | _ => True)) :=
  ⟨State.reset, _, .idealDiodeOpen, rfl, trivial⟩
theorem witness_SentStaysSent_sent :
    ∃ (s t : State) (c : Instr), (exec c s = .next t) :=
  ⟨State.reset, _, .idealDiodeOpen, rfl⟩
theorem witness_FrameOfEveryCommand_frame :
    ∃ (s t : State) (c : Instr) (p : StatePart), (exec c s = .next t) ∧ (p ∉ mayChange c) :=
  ⟨State.reset, _, .idealDiodeOpen, .rills, rfl, by decide⟩
theorem witness_ScalarRegisterResults_add :
    ∃ (s : State) (a : SlotId), (s.canIssue a 0x01) :=
  ⟨rillRuns 0x118440000000000 [(1, 7), (2, 5)], slot00, by decide⟩
theorem witness_ScalarRegisterResults_sub :
    ∃ (s : State) (a : SlotId), (s.canIssue a 0x02) :=
  ⟨rillRuns 0x218440000000000 [(1, 7), (2, 5)], slot00, by decide⟩
theorem witness_ScalarRegisterResults_and :
    ∃ (s : State) (a : SlotId), (s.canIssue a 0x03) :=
  ⟨rillRuns 0x318440000000000 [(1, 7), (2, 5)], slot00, by decide⟩
theorem witness_ScalarRegisterResults_or :
    ∃ (s : State) (a : SlotId), (s.canIssue a 0x04) :=
  ⟨rillRuns 0x418440000000000 [(1, 7), (2, 5)], slot00, by decide⟩
theorem witness_ScalarRegisterResults_xor :
    ∃ (s : State) (a : SlotId), (s.canIssue a 0x05) :=
  ⟨rillRuns 0x518440000000000 [(1, 7), (2, 5)], slot00, by decide⟩
theorem witness_ScalarRegisterResults_shl :
    ∃ (s : State) (a : SlotId), (s.canIssue a 0x06) :=
  ⟨rillRuns 0x618440000000000 [(1, 7), (2, 5)], slot00, by decide⟩
theorem witness_ScalarRegisterResults_shr :
    ∃ (s : State) (a : SlotId), (s.canIssue a 0x07) :=
  ⟨rillRuns 0x718440000000000 [(1, 7), (2, 5)], slot00, by decide⟩
theorem witness_ScalarRegisterResults_sra :
    ∃ (s : State) (a : SlotId), (s.canIssue a 0x08) :=
  ⟨rillRuns 0x818440000000000 [(1, 7), (2, 5)], slot00, by decide⟩
theorem witness_ScalarRegisterResults_mul :
    ∃ (s : State) (a : SlotId), (s.canIssue a 0x09) :=
  ⟨rillRuns 0x918440000000000 [(1, 7), (2, 5)], slot00, by decide⟩
theorem witness_ScalarRegisterResults_mulhu :
    ∃ (s : State) (a : SlotId), (s.canIssue a 0x0A) :=
  ⟨rillRuns 0xa18440000000000 [(1, 7), (2, 5)], slot00, by decide⟩
theorem witness_ScalarRegisterResults_cmpeq :
    ∃ (s : State) (a : SlotId), (s.canIssue a 0x0B) :=
  ⟨rillRuns 0xb18440000000000 [(1, 7), (2, 5)], slot00, by decide⟩
theorem witness_ScalarRegisterResults_cmplt :
    ∃ (s : State) (a : SlotId), (s.canIssue a 0x0C) :=
  ⟨rillRuns 0xc18440000000000 [(1, 7), (2, 5)], slot00, by decide⟩
theorem witness_ScalarRegisterResults_cmpltu :
    ∃ (s : State) (a : SlotId), (s.canIssue a 0x0D) :=
  ⟨rillRuns 0xd18440000000000 [(1, 7), (2, 5)], slot00, by decide⟩
theorem witness_ImmediateResults_addi :
    ∃ (s : State) (a : SlotId), (s.canIssue a 0x10) :=
  ⟨rillRuns 0x10184000ffffffff [(1, 7), (2, 5)], slot00, by decide⟩
theorem witness_ImmediateResults_andi :
    ∃ (s : State) (a : SlotId), (s.canIssue a 0x11) :=
  ⟨rillRuns 0x1118400000000004 [(1, 7), (2, 5)], slot00, by decide⟩
theorem witness_ImmediateResults_ori :
    ∃ (s : State) (a : SlotId), (s.canIssue a 0x12) :=
  ⟨rillRuns 0x1218400000000004 [(1, 7), (2, 5)], slot00, by decide⟩
theorem witness_ImmediateResults_xori :
    ∃ (s : State) (a : SlotId), (s.canIssue a 0x13) :=
  ⟨rillRuns 0x1318400000000004 [(1, 7), (2, 5)], slot00, by decide⟩
theorem witness_ImmediateResults_shli :
    ∃ (s : State) (a : SlotId), (s.canIssue a 0x14) :=
  ⟨rillRuns 0x1418400000000004 [(1, 7), (2, 5)], slot00, by decide⟩
theorem witness_ImmediateResults_shri :
    ∃ (s : State) (a : SlotId), (s.canIssue a 0x15) :=
  ⟨rillRuns 0x1518400000000004 [(1, 7), (2, 5)], slot00, by decide⟩
theorem witness_ImmediateResults_movi :
    ∃ (s : State) (a : SlotId), (s.canIssue a 0x16) :=
  ⟨rillRuns 0x1618000080000000 [(1, 7), (2, 5)], slot00, by decide⟩
theorem witness_ImmediateResults_movhi :
    ∃ (s : State) (a : SlotId), (s.canIssue a 0x17) :=
  ⟨rillRuns 0x1718000080000000 [(1, 7), (2, 5)], slot00, by decide⟩
theorem witness_LocalLoads_ld8 :
    ∃ (s : State) (a : SlotId) (b : List Byte), (s.canIssue a 0x20) ∧ (s.localRead (slotK a) (localAt (s.eaNow a).toNat 1 1) 1 = .inr b) :=
  ⟨rillRuns 0x2018440000000000 [(1, 0x8000)], slot00, List.replicate 1 0, by decide +kernel⟩
theorem witness_LocalLoads_ld32 :
    ∃ (s : State) (a : SlotId) (b : List Byte), (s.canIssue a 0x21) ∧ (s.localRead (slotK a) (localAt (s.eaNow a).toNat 4 4) 4 = .inr b) :=
  ⟨rillRuns 0x2118440000000000 [(1, 0x8000)], slot00, List.replicate 4 0, by decide +kernel⟩
theorem witness_LocalLoads_ld64 :
    ∃ (s : State) (a : SlotId) (b : List Byte), (s.canIssue a 0x22) ∧ (s.localRead (slotK a) (localAt (s.eaNow a).toNat 8 8) 8 = .inr b) :=
  ⟨rillRuns 0x2218440000000000 [(1, 0x8000)], slot00, List.replicate 8 0, by decide +kernel⟩
theorem witness_LocalLoads_ld8Fault :
    ∃ (s : State) (a : SlotId) (f : Nat), (s.canIssue a 0x20) ∧ (s.localRead (slotK a) (localAt (s.eaNow a).toNat 1 1) 1 = .inl f) :=
  ⟨rillRuns 0x2018440000000000 [(1, 0xC000)], slot00, 3, by decide +kernel⟩
theorem witness_LocalLoads_ld32Fault :
    ∃ (s : State) (a : SlotId) (f : Nat), (s.canIssue a 0x21) ∧ (s.localRead (slotK a) (localAt (s.eaNow a).toNat 4 4) 4 = .inl f) :=
  ⟨rillRuns 0x2118440000000000 [(1, 0x8002)], slot00, 2, by decide +kernel⟩
theorem witness_LocalLoads_ld64Fault :
    ∃ (s : State) (a : SlotId) (f : Nat), (s.canIssue a 0x22) ∧ (s.localRead (slotK a) (localAt (s.eaNow a).toNat 8 8) 8 = .inl f) :=
  ⟨rillRuns 0x2218440000000000 [(1, 0x1FFFC)], slot00, 3, by decide +kernel⟩
theorem witness_LocalStores_st8 :
    ∃ (s : State) (a : SlotId) (x : Nat), (s.canIssue a 0x23) ∧ (localAt (s.eaNow a).toNat 1 1 = .store x) :=
  ⟨rillRuns 0x2300440000000000 [(1, 0x8000), (2, 258)], slot00, 0x8000, by decide +kernel⟩
theorem witness_LocalStores_st8Pool :
    ∃ (s : State) (a : SlotId) (x : Nat), (s.canIssue a 0x23) ∧ (localAt (s.eaNow a).toNat 1 1 = .pool x) :=
  ⟨rillRuns 0x2300440000000000 [(1, 0x1FFF8), (2, 258)], slot00, 0xFFF8, by decide +kernel⟩
theorem witness_LocalStores_st32 :
    ∃ (s : State) (a : SlotId) (x : Nat), (s.canIssue a 0x24) ∧ (localAt (s.eaNow a).toNat 4 4 = .store x) :=
  ⟨rillRuns 0x2400440000000000 [(1, 0x8000), (2, 258)], slot00, 0x8000, by decide +kernel⟩
theorem witness_LocalStores_st32Pool :
    ∃ (s : State) (a : SlotId) (x : Nat), (s.canIssue a 0x24) ∧ (localAt (s.eaNow a).toNat 4 4 = .pool x) :=
  ⟨rillRuns 0x2400440000000000 [(1, 0x1FFF8), (2, 258)], slot00, 0xFFF8, by decide +kernel⟩
theorem witness_LocalStores_st64 :
    ∃ (s : State) (a : SlotId) (x : Nat), (s.canIssue a 0x25) ∧ (localAt (s.eaNow a).toNat 8 8 = .store x) :=
  ⟨rillRuns 0x2500440000000000 [(1, 0x8000), (2, 258)], slot00, 0x8000, by decide +kernel⟩
theorem witness_LocalStores_st64Pool :
    ∃ (s : State) (a : SlotId) (x : Nat), (s.canIssue a 0x25) ∧ (localAt (s.eaNow a).toNat 8 8 = .pool x) :=
  ⟨rillRuns 0x2500440000000000 [(1, 0x1FFF8), (2, 258)], slot00, 0xFFF8, by decide +kernel⟩
theorem witness_LocalStores_st8Fault :
    ∃ (s : State) (a : SlotId) (f : Nat), (s.canIssue a 0x23) ∧ (localAt (s.eaNow a).toNat 1 1 = .fault f) :=
  ⟨rillRuns 0x2300440000000000 [(1, 0xC000)], slot00, 3, by decide +kernel⟩
theorem witness_LocalStores_st32Fault :
    ∃ (s : State) (a : SlotId) (f : Nat), (s.canIssue a 0x24) ∧ (localAt (s.eaNow a).toNat 4 4 = .fault f) :=
  ⟨rillRuns 0x2400440000000000 [(1, 0xBFFE)], slot00, 3, by decide +kernel⟩
theorem witness_LocalStores_st64Fault :
    ∃ (s : State) (a : SlotId) (f : Nat), (s.canIssue a 0x25) ∧ (localAt (s.eaNow a).toNat 8 8 = .fault f) :=
  ⟨rillRuns 0x2500440000000000 [(1, 0xBFFC)], slot00, 3, by decide +kernel⟩
theorem witness_StoredBytes_st8 :
    ∃ (s t : State) (a : SlotId) (x y : Nat), (s.canIssue a 0x23) ∧ (localAt (s.eaNow a).toNat 1 1 = .store x) ∧ (Mem.wf s.store = true) ∧ (exec (.st8 a) s = .next t) :=
  ⟨rillRuns 0x2300440000000000 [(1, 0x8000), (2, 258)], _, slot00, 0x8000, 0, by decide, by decide, by decide, rfl⟩
theorem witness_StoredBytes_st32 :
    ∃ (s t : State) (a : SlotId) (x y : Nat), (s.canIssue a 0x24) ∧ (localAt (s.eaNow a).toNat 4 4 = .store x) ∧ (Mem.wf s.store = true) ∧ (exec (.st32 a) s = .next t) :=
  ⟨rillRuns 0x2400440000000000 [(1, 0x8000), (2, 258)], _, slot00, 0x8000, 0, by decide, by decide, by decide, rfl⟩
theorem witness_StoredBytes_st64 :
    ∃ (s t : State) (a : SlotId) (x y : Nat), (s.canIssue a 0x25) ∧ (localAt (s.eaNow a).toNat 8 8 = .store x) ∧ (Mem.wf s.store = true) ∧ (exec (.st64 a) s = .next t) :=
  ⟨rillRuns 0x2500440000000000 [(1, 0x8000), (2, 258)], _, slot00, 0x8000, 0, by decide, by decide, by decide, rfl⟩
theorem witness_LocalAddressMap_store :
    ∃ (x n al : Nat), (0 < n) ∧ (x + n ≤ 0xC000) ∧ (x % al = 0) :=
  ⟨0xBFF8, 8, 8, by decide +kernel⟩
theorem witness_LocalAddressMap_pool :
    ∃ (x n al : Nat), (0 < n) ∧ (0x10000 ≤ x) ∧ (x + n ≤ 0x20000) ∧ (x % al = 0) :=
  ⟨0x1FFF8, 8, 8, by decide +kernel⟩
theorem witness_LocalAddressMap_align :
    ∃ (x n al : Nat), (0 < n) ∧ (x + n ≤ 0xC000 ∨ (0x10000 ≤ x ∧ x + n ≤ 0x20000)) ∧ (x % al ≠ 0) :=
  ⟨0xBFF4, 8, 8, by decide +kernel⟩
theorem witness_LocalAddressMap_addr :
    ∃ (x n al : Nat), (0 < n) ∧ (0xC000 < x + n) ∧ (x < 0x10000 ∨ 0x20000 < x + n) :=
  ⟨0xBFF9, 8, 8, by decide +kernel⟩
theorem witness_AtomicsAndGlobalPool_amoaddFault :
    ∃ (s : State) (a : SlotId) (f : Nat), (s.canIssue a 0x28) ∧ (s.localRead (slotK a) (localAt (s.eaNow a).toNat 8 8) 8 = .inl f) :=
  ⟨rillRuns 0x2818440000000000 [(1, 0x8004), (2, 5)], slot00, 2, by decide +kernel⟩
theorem witness_AtomicsAndGlobalPool_amoswapFault :
    ∃ (s : State) (a : SlotId) (f : Nat), (s.canIssue a 0x29) ∧ (s.localRead (slotK a) (localAt (s.eaNow a).toNat 8 8) 8 = .inl f) :=
  ⟨rillRuns 0x2918440000000000 [(1, 0x8004), (2, 5)], slot00, 2, by decide +kernel⟩
theorem witness_AtomicsAndGlobalPool_amoadd :
    ∃ (s : State) (a : SlotId) (x : Nat) (b : List Byte), (s.canIssue a 0x28) ∧ (localAt (s.eaNow a).toNat 8 8 = .store x) ∧ (s.localRead (slotK a) (.store x) 8 = .inr b) :=
  ⟨rillRuns 0x2818440000000000 [(1, 0x8000), (2, 5)], slot00, 0x8000, List.replicate 8 0, by decide +kernel⟩
theorem witness_AtomicsAndGlobalPool_amoaddPool :
    ∃ (s : State) (a : SlotId) (x : Nat) (b : List Byte), (s.canIssue a 0x28) ∧ (localAt (s.eaNow a).toNat 8 8 = .pool x) ∧ (s.localRead (slotK a) (.pool x) 8 = .inr b) :=
  ⟨rillRuns 0x2818440000000000 [(1, 0x10000), (2, 5)], slot00, 0, List.replicate 8 0, by decide +kernel⟩
theorem witness_AtomicsAndGlobalPool_amoswap :
    ∃ (s : State) (a : SlotId) (x : Nat) (b : List Byte), (s.canIssue a 0x29) ∧ (localAt (s.eaNow a).toNat 8 8 = .store x) ∧ (s.localRead (slotK a) (.store x) 8 = .inr b) :=
  ⟨rillRuns 0x2918440000000000 [(1, 0x8000), (2, 5)], slot00, 0x8000, List.replicate 8 0, by decide +kernel⟩
theorem witness_AtomicsAndGlobalPool_amoswapPool :
    ∃ (s : State) (a : SlotId) (x : Nat) (b : List Byte), (s.canIssue a 0x29) ∧ (localAt (s.eaNow a).toNat 8 8 = .pool x) ∧ (s.localRead (slotK a) (.pool x) 8 = .inr b) :=
  ⟨rillRuns 0x2918440000000000 [(1, 0x10000), (2, 5)], slot00, 0, List.replicate 8 0, by decide +kernel⟩
theorem witness_AtomicsAndGlobalPool_ldp64Own :
    ∃ (s : State) (a : SlotId) (x : Nat) (b : List Byte), (s.canIssue a 0x26) ∧ (poolAddr (s.eaNow a).toNat = some (slotK a, x)) ∧ (x % 8 = 0) ∧ (s.localRead (slotK a) (.pool x) 8 = .inr b) :=
  ⟨rillRuns 0x2618440000000000 [(1, 8)], slot00, 8, List.replicate 8 0, by decide +kernel⟩
theorem witness_AtomicsAndGlobalPool_ldp64 :
    ∃ (s : State) (a : SlotId) (u : State) (k x : Nat), (s.canIssue a 0x26) ∧ (poolAddr (s.eaNow a).toNat = some (k, x)) ∧ (x % 8 = 0) ∧ (k ≠ slotK a) ∧
    (((s.issued a).fresh.2).inject? { (s.issued a).fresh.2.slotPacket (slotK a) a.slot with dcol := rcol k, drow := rrow k, kind := 2, pool := true, len := 8, addr := x, xid := (s.issued a).fresh.1 } = some u) :=
  ⟨rillRuns 0x2618440000000000 [(1, 0x10008)], slot00, _, 1, 8, by decide, by decide, by decide, by decide, rfl⟩
theorem witness_AtomicsAndGlobalPool_ldp64Fault :
    ∃ (s : State) (a : SlotId), (s.canIssue a 0x26) ∧ (poolAddr (s.eaNow a).toNat = none ∨ (s.eaNow a).toNat % 8 ≠ 0) :=
  ⟨rillRuns 0x2618440000000000 [(1, 0x10009)], slot00, by decide +kernel⟩
theorem witness_AtomicsAndGlobalPool_stp64Fault :
    ∃ (s : State) (a : SlotId), (s.canIssue a 0x27) ∧ (poolAddr (s.eaNow a).toNat = none ∨ (s.eaNow a).toNat % 8 ≠ 0) :=
  ⟨rillRuns 0x2700440000000000 [(1, 0x10009), (2, 5)], slot00, by decide +kernel⟩
theorem witness_AtomicsAndGlobalPool_stp64Own :
    ∃ (s : State) (a : SlotId) (x : Nat), (s.canIssue a 0x27) ∧ (poolAddr (s.eaNow a).toNat = some (slotK a, x)) ∧ (x % 8 = 0) :=
  ⟨rillRuns 0x2700440000000000 [(1, 8), (2, 5)], slot00, 8, by decide +kernel⟩
theorem witness_AtomicsAndGlobalPool_stp64 :
    ∃ (s : State) (a : SlotId) (u : State) (k x : Nat), (s.canIssue a 0x27) ∧ (poolAddr (s.eaNow a).toNat = some (k, x)) ∧ (x % 8 = 0) ∧ (k ≠ slotK a) ∧
    (((s.issued a).fresh.2).inject? { (s.issued a).fresh.2.slotPacket (slotK a) a.slot with dcol := rcol k, drow := rrow k, kind := 1, pool := true, ackReq := true, len := 8, addr := x, payload := leBytes 8 (s.src2 a).toNat, xid := (s.issued a).fresh.1 } = some u) :=
  ⟨rillRuns 0x2700440000000000 [(1, 0x10008)], slot00, _, 1, 8, by decide, by decide, by decide, by decide, rfl⟩
theorem witness_JumpsAndBranches_j :
    ∃ (s : State) (a : SlotId), (s.canIssue a 0x30) ∧ ((s.targetNow a).toNat < 0xC000) ∧ ((s.targetNow a).toNat % 8 = 0) :=
  ⟨rillRuns 0x3000000000000010 [], slot00, by decide +kernel⟩
theorem witness_JumpsAndBranches_jr :
    ∃ (s : State) (a : SlotId), (s.canIssue a 0x31) ∧ ((s.src1 a).toNat < 0xC000) ∧ ((s.src1 a).toNat % 8 = 0) :=
  ⟨rillRuns 0x3100400000000000 [(1, 64)], slot00, by decide +kernel⟩
theorem witness_JumpsAndBranches_call :
    ∃ (s : State) (a : SlotId), (s.canIssue a 0x32) ∧ ((s.targetNow a).toNat < 0xC000) ∧ ((s.targetNow a).toNat % 8 = 0) :=
  ⟨rillRuns 0x3200000000000010 [], slot00, by decide +kernel⟩
theorem witness_JumpsAndBranches_beq :
    ∃ (s : State) (a : SlotId), (s.canIssue a 0x33) ∧ (s.src1 a = s.src2 a) ∧ ((s.targetNow a).toNat < 0xC000) ∧ ((s.targetNow a).toNat % 8 = 0) :=
  ⟨rillRuns 0x3300440000000010 [(1, 5), (2, 5)], slot00, by decide +kernel⟩
theorem witness_JumpsAndBranches_beqNot :
    ∃ (s : State) (a : SlotId), (s.canIssue a 0x33) ∧ (¬ s.src1 a = s.src2 a) :=
  ⟨rillRuns 0x3300440000000010 [(1, 5)], slot00, by decide +kernel⟩
theorem witness_JumpsAndBranches_bne :
    ∃ (s : State) (a : SlotId), (s.canIssue a 0x34) ∧ (s.src1 a ≠ s.src2 a) ∧ ((s.targetNow a).toNat < 0xC000) ∧ ((s.targetNow a).toNat % 8 = 0) :=
  ⟨rillRuns 0x3400440000000010 [(1, 5)], slot00, by decide +kernel⟩
theorem witness_JumpsAndBranches_bneNot :
    ∃ (s : State) (a : SlotId), (s.canIssue a 0x34) ∧ (¬ s.src1 a ≠ s.src2 a) :=
  ⟨rillRuns 0x3400440000000010 [(1, 5), (2, 5)], slot00, by decide +kernel⟩
theorem witness_JumpsAndBranches_blt :
    ∃ (s : State) (a : SlotId), (s.canIssue a 0x35) ∧ ((s.src1 a).toInt < (s.src2 a).toInt) ∧ ((s.targetNow a).toNat < 0xC000) ∧ ((s.targetNow a).toNat % 8 = 0) :=
  ⟨rillRuns 0x3500440000000010 [(1, -1), (2, 5)], slot00, by decide +kernel⟩
theorem witness_JumpsAndBranches_bltNot :
    ∃ (s : State) (a : SlotId), (s.canIssue a 0x35) ∧ (¬ (s.src1 a).toInt < (s.src2 a).toInt) :=
  ⟨rillRuns 0x3500440000000010 [(1, 1), (2, -1)], slot00, by decide +kernel⟩
theorem witness_JumpsAndBranches_bltu :
    ∃ (s : State) (a : SlotId), (s.canIssue a 0x36) ∧ ((s.src1 a).toNat < (s.src2 a).toNat) ∧ ((s.targetNow a).toNat < 0xC000) ∧ ((s.targetNow a).toNat % 8 = 0) :=
  ⟨rillRuns 0x3600440000000010 [(1, 1), (2, -1)], slot00, by decide +kernel⟩
theorem witness_JumpsAndBranches_bltuNot :
    ∃ (s : State) (a : SlotId), (s.canIssue a 0x36) ∧ (¬ (s.src1 a).toNat < (s.src2 a).toNat) :=
  ⟨rillRuns 0x3600440000000010 [(1, -1), (2, 5)], slot00, by decide +kernel⟩
theorem witness_JumpsAndBranches_jAddr :
    ∃ (s : State) (a : SlotId), (s.canIssue a 0x30) ∧ (0xC000 ≤ (s.targetNow a).toNat) :=
  ⟨rillRuns 0x300044000000c000 [], slot00, by decide +kernel⟩
theorem witness_JumpsAndBranches_jAlign :
    ∃ (s : State) (a : SlotId), (s.canIssue a 0x30) ∧ ((s.targetNow a).toNat < 0xC000) ∧ ((s.targetNow a).toNat % 8 ≠ 0) :=
  ⟨rillRuns 0x300044000000000c [], slot00, by decide +kernel⟩
theorem witness_JumpsAndBranches_jrAddr :
    ∃ (s : State) (a : SlotId), (s.canIssue a 0x31) ∧ (0xC000 ≤ (s.src1 a).toNat) :=
  ⟨rillRuns 0x3100440000000000 [(1, 0xC000)], slot00, by decide +kernel⟩
theorem witness_JumpsAndBranches_jrAlign :
    ∃ (s : State) (a : SlotId), (s.canIssue a 0x31) ∧ ((s.src1 a).toNat < 0xC000) ∧ ((s.src1 a).toNat % 8 ≠ 0) :=
  ⟨rillRuns 0x3100440000000000 [(1, 65)], slot00, by decide +kernel⟩
theorem witness_JumpsAndBranches_callAddr :
    ∃ (s : State) (a : SlotId), (s.canIssue a 0x32) ∧ (0xC000 ≤ (s.targetNow a).toNat) :=
  ⟨rillRuns 0x320044000000c000 [], slot00, by decide +kernel⟩
theorem witness_JumpsAndBranches_callAlign :
    ∃ (s : State) (a : SlotId), (s.canIssue a 0x32) ∧ ((s.targetNow a).toNat < 0xC000) ∧ ((s.targetNow a).toNat % 8 ≠ 0) :=
  ⟨rillRuns 0x320044000000000c [], slot00, by decide +kernel⟩
theorem witness_JumpsAndBranches_beqAddr :
    ∃ (s : State) (a : SlotId), (s.canIssue a 0x33) ∧ (s.src1 a = s.src2 a) ∧ (0xC000 ≤ (s.targetNow a).toNat) :=
  ⟨rillRuns 0x330044000000c000 [(1, 5), (2, 5)], slot00, by decide +kernel⟩
theorem witness_JumpsAndBranches_beqAlign :
    ∃ (s : State) (a : SlotId), (s.canIssue a 0x33) ∧ (s.src1 a = s.src2 a) ∧ ((s.targetNow a).toNat < 0xC000) ∧ ((s.targetNow a).toNat % 8 ≠ 0) :=
  ⟨rillRuns 0x330044000000000c [(1, 5), (2, 5)], slot00, by decide +kernel⟩
theorem witness_JumpsAndBranches_bneAddr :
    ∃ (s : State) (a : SlotId), (s.canIssue a 0x34) ∧ (s.src1 a ≠ s.src2 a) ∧ (0xC000 ≤ (s.targetNow a).toNat) :=
  ⟨rillRuns 0x340044000000c000 [(1, 5)], slot00, by decide +kernel⟩
theorem witness_JumpsAndBranches_bneAlign :
    ∃ (s : State) (a : SlotId), (s.canIssue a 0x34) ∧ (s.src1 a ≠ s.src2 a) ∧ ((s.targetNow a).toNat < 0xC000) ∧ ((s.targetNow a).toNat % 8 ≠ 0) :=
  ⟨rillRuns 0x340044000000000c [(1, 5)], slot00, by decide +kernel⟩
theorem witness_JumpsAndBranches_bltAddr :
    ∃ (s : State) (a : SlotId), (s.canIssue a 0x35) ∧ ((s.src1 a).toInt < (s.src2 a).toInt) ∧ (0xC000 ≤ (s.targetNow a).toNat) :=
  ⟨rillRuns 0x350044000000c000 [(1, -1), (2, 5)], slot00, by decide +kernel⟩
theorem witness_JumpsAndBranches_bltAlign :
    ∃ (s : State) (a : SlotId), (s.canIssue a 0x35) ∧ ((s.src1 a).toInt < (s.src2 a).toInt) ∧ ((s.targetNow a).toNat < 0xC000) ∧ ((s.targetNow a).toNat % 8 ≠ 0) :=
  ⟨rillRuns 0x350044000000000c [(1, -1), (2, 5)], slot00, by decide +kernel⟩
theorem witness_JumpsAndBranches_bltuAddr :
    ∃ (s : State) (a : SlotId), (s.canIssue a 0x36) ∧ ((s.src1 a).toNat < (s.src2 a).toNat) ∧ (0xC000 ≤ (s.targetNow a).toNat) :=
  ⟨rillRuns 0x360044000000c000 [(1, 1), (2, -1)], slot00, by decide +kernel⟩
theorem witness_JumpsAndBranches_bltuAlign :
    ∃ (s : State) (a : SlotId), (s.canIssue a 0x36) ∧ ((s.src1 a).toNat < (s.src2 a).toNat) ∧ ((s.targetNow a).toNat < 0xC000) ∧ ((s.targetNow a).toNat % 8 ≠ 0) :=
  ⟨rillRuns 0x360044000000000c [(1, 1), (2, -1)], slot00, by decide +kernel⟩
theorem witness_TaskControl_spawn :
    ∃ (s : State) (a : SlotId) (m : Nat), (s.canIssue a 0x40) ∧ (m < 16) ∧ (((s.rill (slotK a)).slot m).st = .free) ∧ (∀ j, j < m → ((s.rill (slotK a)).slot j).st ≠ .free) :=
  ⟨rillRuns 0x4018440000000000 [(1, 64)], slot00, 1, by decide +kernel⟩
theorem witness_TaskControl_spawnFull :
    ∃ (s : State) (a : SlotId), (s.canIssue a 0x40) ∧ (∀ j, j < 16 → ((s.rill (slotK a)).slot j).st ≠ .free) :=
  ⟨rillFull 0x4018440000000000, slot00, by decide +kernel⟩
theorem witness_TaskControl_exit :
    ∃ (s : State) (a : SlotId), (s.canIssue a 0x41) :=
  ⟨rillRuns 0x4100000000000000 [], slot00, by decide⟩
theorem witness_TaskControl_exitComplete :
    ∃ (s : State) (a : SlotId), (slotOk a) ∧ (s.alive (slotK a)) ∧ ((s.slotNow a).exiting) ∧ ((s.rill (slotK a)).inFlight a.slot = false) :=
  ⟨rillExits, slot00, by decide +kernel⟩
theorem witness_TaskControl_nop :
    ∃ (s : State) (a : SlotId), (s.canIssue a 0x83) :=
  ⟨rillRuns 0x8300000000000000 [], slot00, by decide⟩
theorem witness_TaskControl_trap :
    ∃ (s : State) (a : SlotId), (s.canIssue a 0x82) :=
  ⟨rillRuns 0x8200000000000009 [], slot00, by decide⟩
theorem witness_WaitsAndEvents_yieldOp :
    ∃ (s : State) (a : SlotId), (s.canIssue a 0x42) :=
  ⟨rillRuns 0x4200000000000005 [], slot00, by decide⟩
theorem witness_WaitsAndEvents_yieldExpiry :
    ∃ (s : State) (a : SlotId) (c u : Nat), (slotOk a) ∧ (s.alive (slotK a)) ∧ ((s.slotNow a).st = .waiting) ∧ ((s.slotNow a).wait = .yield u) ∧ (u ≤ max c s.clk.cycle) :=
  ⟨rillWaits (.yield 9), slot00, 9, 9, by decide +kernel⟩
theorem witness_WaitsAndEvents_waitev :
    ∃ (s : State) (a : SlotId), (s.canIssue a 0x43) ∧ ((s.slotNow a).event &&& BitVec.ofNat 16 (wf (s.wordNow a) 0 16) ≠ 0) :=
  ⟨rillEvent 0x4318000000000003 1, slot00, by decide +kernel⟩
theorem witness_WaitsAndEvents_waitevWaits :
    ∃ (s : State) (a : SlotId), (s.canIssue a 0x43) ∧ ((s.slotNow a).event &&& BitVec.ofNat 16 (wf (s.wordNow a) 0 16) = 0) :=
  ⟨rillEvent 0x4318000000000003 4, slot00, by decide +kernel⟩
theorem witness_WaitsAndEvents_signal :
    ∃ (s : State) (a : SlotId), (s.canIssue a 0x44) ∧ (((s.rill (slotK a)).slot ((s.src1 a).toNat % 16)).st ≠ .free) ∧
    (((s.rill (slotK a)).slot ((s.src1 a).toNat % 16)).st ≠ .faulted) :=
  ⟨rillRuns 0x4400400000000003 [(1, 16)], slot00, by decide +kernel⟩
theorem witness_WaitsAndEvents_signalFree :
    ∃ (s : State) (a : SlotId), (s.canIssue a 0x44) ∧
    (((s.rill (slotK a)).slot ((s.src1 a).toNat % 16)).st = .free ∨ ((s.rill (slotK a)).slot ((s.src1 a).toNat % 16)).st = .faulted) ∧
    ((s.src1 a).toNat % 16 ≠ a.slot) :=
  ⟨rillTwo 0x4400400000000003 [(1, 1)], slot00, by decide +kernel⟩
theorem witness_WaitsAndEvents_fence :
    ∃ (s : State) (a : SlotId), (s.canIssue a 0x47) ∧ ((s.rill (slotK a)).fenced a.slot) :=
  ⟨rillRuns 0x4700000000000000 [], slot00, by decide +kernel⟩
theorem witness_WaitsAndEvents_fenceWaits :
    ∃ (s : State) (a : SlotId), (s.canIssue a 0x47) ∧ ((s.rill (slotK a)).fenced a.slot = false) :=
  ⟨rillAcks 0x4700000000000000, slot00, by decide +kernel⟩
theorem witness_WaitsAndEvents_slotWake :
    ∃ (s : State) (a : SlotId) (m g : Nat), (slotOk a) ∧ (s.alive (slotK a)) ∧ ((s.slotNow a).st = .waiting) ∧ ((s.slotNow a).wait = .waitev m g) ∧
    ((s.slotNow a).event &&& BitVec.ofNat 16 m ≠ 0) :=
  ⟨rillWaits (.waitev 1 3), slot00, 1, 3, by decide +kernel⟩
theorem witness_WaitsAndEvents_slotWakeFence :
    ∃ (s : State) (a : SlotId), (slotOk a) ∧ (s.alive (slotK a)) ∧ ((s.slotNow a).st = .waiting) ∧ ((s.slotNow a).wait = .fence) ∧ ((s.rill (slotK a)).fenced a.slot) :=
  ⟨rillWaits .fence, slot00, by decide +kernel⟩
theorem witness_OwnershipAndControlRegisters_tclaim :
    ∃ (s : State) (a : SlotId), (s.canIssue a 0x45) ∧ (∀ t ∈ (bitsSet 16 (wf (s.wordNow a) 0 16)), (s.rill (slotK a)).owner t = 31) :=
  ⟨rillRuns 0x4518000000000003 [], slot00, by decide +kernel⟩
theorem witness_OwnershipAndControlRegisters_tclaimNone :
    ∃ (s : State) (a : SlotId), (s.canIssue a 0x45) ∧ (¬ ∀ t ∈ (bitsSet 16 (wf (s.wordNow a) 0 16)), (s.rill (slotK a)).owner t = 31) :=
  ⟨rillOwns 0x4518000000000003, slot00, by decide +kernel⟩
theorem witness_OwnershipAndControlRegisters_tfree :
    ∃ (s : State) (a : SlotId), (s.canIssue a 0x46) ∧ (∀ t ∈ (bitsSet 16 (wf (s.wordNow a) 0 16)), (s.rill (slotK a)).owner t = a.slot) :=
  ⟨rillOwns 0x4600000000000003, slot00, by decide +kernel⟩
theorem witness_OwnershipAndControlRegisters_tfreeFault :
    ∃ (s : State) (a : SlotId), (s.canIssue a 0x46) ∧ (¬ ∀ t ∈ (bitsSet 16 (wf (s.wordNow a) 0 16)), (s.rill (slotK a)).owner t = a.slot) :=
  ⟨rillOwns 0x4600000000008001, slot00, by decide +kernel⟩
theorem witness_OwnershipAndControlRegisters_csrr :
    ∃ (s : State) (a : SlotId) (v : W64), (s.canIssue a 0x80) ∧ ((s.issued a).csr (slotK a) a.slot (wf (s.wordNow a) 0 12) = some v) :=
  ⟨rillRuns 0x801800000000000f [], slot00, 16, by decide +kernel⟩
theorem witness_OwnershipAndControlRegisters_csrrUnlisted :
    ∃ (s : State) (a : SlotId), (s.canIssue a 0x80) ∧ (0x010 ≤ wf (s.wordNow a) 0 12) :=
  ⟨rillRuns 0x8018000000000010 [], slot00, by decide +kernel⟩
theorem witness_OwnershipAndControlRegisters_csrw :
    ∃ (s : State) (a : SlotId), (s.canIssue a 0x81) ∧ (wf (s.wordNow a) 0 12 = 0x005) :=
  ⟨rillRuns 0x8100400000000005 [(1, 0x10003)], slot00, by decide +kernel⟩
theorem witness_OwnershipAndControlRegisters_csrwTaskWd :
    ∃ (s : State) (a : SlotId), (s.canIssue a 0x81) ∧ (wf (s.wordNow a) 0 12 = 0x00E) :=
  ⟨rillRuns 0x810040000000000e [(1, 3)], slot00, by decide +kernel⟩
theorem witness_OwnershipAndControlRegisters_csrwRxBase :
    ∃ (s : State) (a : SlotId), (s.canIssue a 0x81) ∧ (wf (s.wordNow a) 0 12 = 0x008) ∧ ((s.src1 a).toNat % 64 = 0) ∧ ((s.src1 a).toNat < 0xC000) ∧
    ((s.rill (slotK a)).rxOk (s.src1 a).toNat (s.rill (slotK a)).rxLen) :=
  ⟨rillRuns 0x8100400000000008 [(1, 0x4000)], slot00, by decide +kernel⟩
theorem witness_OwnershipAndControlRegisters_csrwRxLen :
    ∃ (s : State) (a : SlotId), (s.canIssue a 0x81) ∧ (wf (s.wordNow a) 0 12 = 0x009) ∧ ((s.src1 a).toNat % 64 = 0) ∧
    ((s.rill (slotK a)).rxOk (s.rill (slotK a)).rxBase (s.src1 a).toNat) :=
  ⟨rillRuns 0x8100400000000009 [(1, 0x400)], slot00, by decide +kernel⟩
theorem witness_OwnershipAndControlRegisters_csrwHeld :
    ∃ (s : State) (a : SlotId), (s.canIssue a 0x81) ∧ (wf (s.wordNow a) 0 12 = 0x008 ∨ wf (s.wordNow a) 0 12 = 0x009) ∧ ((s.rill (slotK a)).rx ≠ []) :=
  ⟨rillRing 0x8100400000000008, slot00, by decide +kernel⟩
theorem witness_OwnershipAndControlRegisters_csrwReadOnly :
    ∃ (s : State) (a : SlotId), (s.canIssue a 0x81) ∧ (wf (s.wordNow a) 0 12 ≠ 0x005) ∧ (wf (s.wordNow a) 0 12 ≠ 0x008) ∧ (wf (s.wordNow a) 0 12 ≠ 0x009) ∧
    (wf (s.wordNow a) 0 12 ≠ 0x00E) :=
  ⟨rillRuns 0x8100400000000003 [], slot00, by decide +kernel⟩
theorem witness_TensorMoves_tld :
    ∃ (s : State) (a : SlotId) (b : List Byte), (s.canIssue a 0x50) ∧ (isMx (fmtOf (s.wordNow a)) = false) ∧ (s.localRead (slotK a) (localAt (s.tsrc1 a).toNat 256 64) 256 = .inr b) ∧
    (tldFault (fmtOf (s.wordNow a)) (s.tsrc1 a).toNat (s.tsrc2 a).toNat = none) :=
  ⟨rillOwnsG 0x5000000800000000 [(1, 0x8000)], slot00, List.replicate 256 0, by decide +kernel⟩
theorem witness_TensorMoves_tldMx :
    ∃ (s : State) (a : SlotId) (b c : List Byte), (s.canIssue a 0x50) ∧ (isMx (fmtOf (s.wordNow a))) ∧ (s.localRead (slotK a) (localAt (s.tsrc1 a).toNat 256 64) 256 = .inr b) ∧
    (s.localRead (slotK a) (localAt (s.tsrc2 a).toNat 16 16) 16 = .inr c) ∧
    (tldFault (fmtOf (s.wordNow a)) (s.tsrc1 a).toNat (s.tsrc2 a).toNat = none) :=
  ⟨rillOwnsG 0x500000088c000000 [(1, 0x8000), (2, 0x9010)], slot00, List.replicate 256 0, List.replicate 16 0, by decide +kernel⟩
theorem witness_TensorMoves_tst :
    ∃ (s : State) (a : SlotId) (x : Nat), (s.canIssue a 0x51) ∧ (isMx (fmtOf (s.wordNow a)) = false) ∧ (localAt (s.tsrc1 a).toNat 256 64 = .store x) :=
  ⟨rillOwnsG 0x5100000800000000 [(1, 0x8000)], slot00, 0x8000, by decide +kernel⟩
theorem witness_TensorMoves_tstMx :
    ∃ (s : State) (a : SlotId) (x y : Nat), (s.canIssue a 0x51) ∧ (isMx (fmtOf (s.wordNow a))) ∧ (localAt (s.tsrc1 a).toNat 256 64 = .store x) ∧
    (localAt (s.tsrc2 a).toNat 16 16 = .store y) :=
  ⟨rillOwnsG 0x510000088c000000 [(1, 0x8000), (2, 0x9010)], slot00, 0x8000, 0x9010, by decide +kernel⟩
theorem witness_TensorMoves_tzero :
    ∃ (s : State) (a : SlotId), (s.canIssue a 0x52) :=
  ⟨rillOwnsG 0x5200000000000000 [], slot00, by decide⟩
theorem witness_TensorMoves_tldFault :
    ∃ (s : State) (a : SlotId) (f : Nat), (s.canIssue a 0x50) ∧ (tldFault (fmtOf (s.wordNow a)) (s.tsrc1 a).toNat (s.tsrc2 a).toNat = some f) :=
  ⟨rillOwnsG 0x5000000800000000 [(1, 0xBF20)], slot00, 3, by decide +kernel⟩
theorem witness_TensorMoves_tstFault :
    ∃ (s : State) (a : SlotId) (f : Nat), (s.canIssue a 0x51) ∧ (tldFault (fmtOf (s.wordNow a)) (s.tsrc1 a).toNat (s.tsrc2 a).toNat = some f) :=
  ⟨rillOwnsG 0x5100000800000000 [(1, 0x8020)], slot00, 2, by decide +kernel⟩
theorem witness_UnitInstructionsIssue_tmma :
    ∃ (s : State) (a : SlotId), (s.canIssue a 0x53) :=
  ⟨rillOwnsG 0x5301200001000000 [(1, 5)], slot00, by decide⟩
theorem witness_UnitInstructionsIssue_tmmas :
    ∃ (s : State) (a : SlotId), (s.canIssue a 0x54) :=
  ⟨rillOwnsG 0x540245000c000000 [(1, 5)], slot00, by decide⟩
theorem witness_UnitInstructionsIssue_tcvt :
    ∃ (s : State) (a : SlotId), (s.canIssue a 0x55) :=
  ⟨rillOwnsG 0x550100080c000000 [(1, 5)], slot00, by decide⟩
theorem witness_UnitInstructionsIssue_vadd :
    ∃ (s : State) (a : SlotId), (s.canIssue a 0x60) :=
  ⟨rillOwnsG 0x6001200001000000 [(1, 5)], slot00, by decide⟩
theorem witness_UnitInstructionsIssue_vmul :
    ∃ (s : State) (a : SlotId), (s.canIssue a 0x61) :=
  ⟨rillOwnsG 0x6101200000000000 [(1, 5)], slot00, by decide⟩
theorem witness_UnitInstructionsIssue_vmax :
    ∃ (s : State) (a : SlotId), (s.canIssue a 0x62) :=
  ⟨rillOwnsG 0x6201200000000000 [(1, 5)], slot00, by decide⟩
theorem witness_UnitInstructionsIssue_vfma :
    ∃ (s : State) (a : SlotId), (s.canIssue a 0x63) :=
  ⟨rillOwnsG 0x6301230000000000 [(1, 5)], slot00, by decide⟩
theorem witness_UnitInstructionsIssue_vexp2 :
    ∃ (s : State) (a : SlotId), (s.canIssue a 0x64) :=
  ⟨rillOwnsG 0x6401000000000000 [(1, 5)], slot00, by decide⟩
theorem witness_UnitInstructionsIssue_vrcp :
    ∃ (s : State) (a : SlotId), (s.canIssue a 0x65) :=
  ⟨rillOwnsG 0x6501000000000000 [(1, 5)], slot00, by decide⟩
theorem witness_UnitInstructionsIssue_vrsqrt :
    ∃ (s : State) (a : SlotId), (s.canIssue a 0x66) :=
  ⟨rillOwnsG 0x6601000000000000 [(1, 5)], slot00, by decide⟩
theorem witness_UnitInstructionsIssue_vredadd :
    ∃ (s : State) (a : SlotId), (s.canIssue a 0x67) :=
  ⟨rillOwnsG 0x6701001800000000 [(1, 5)], slot00, by decide⟩
theorem witness_UnitInstructionsIssue_vredmax :
    ∃ (s : State) (a : SlotId), (s.canIssue a 0x68) :=
  ⟨rillOwnsG 0x6801001800000000 [(1, 5)], slot00, by decide⟩
theorem witness_UnitInstructionsIssue_vbcast :
    ∃ (s : State) (a : SlotId), (s.canIssue a 0x69) :=
  ⟨rillOwnsG 0x6900000800000000 [(1, 5)], slot00, by decide⟩
theorem witness_UnitOperationCompletes_tensor :
    ∃ (s : State) (p : Pos) (o : UnitOp) (q : List UnitOp) (now : Nat), (inGrid p.col p.row) ∧ (o.slot < 16) ∧ (s.alive (ridx p.col p.row)) ∧ ((s.rill (ridx p.col p.row)).tensorQ = o :: q) :=
  ⟨rillUnit .tensor 0x53, ⟨0, 0⟩, unitOp 0x53, [], 0, by decide +kernel⟩
theorem witness_UnitOperationCompletes_upset :
    ∃ (s : State) (p : Pos) (o : UnitOp) (q : List UnitOp) (now : Nat) (u : Upset) (e : CheckErr), (inGrid p.col p.row) ∧ (o.slot < 16) ∧ (s.alive (ridx p.col p.row)) ∧ ((s.rill (ridx p.col p.row)).vectorQ = o :: q) ∧
    (s.opCheckErr (ridx p.col p.row) o u = some e) :=
  ⟨rillUnit .vector 0x60, ⟨0, 0⟩, unitOp 0x60, [], 0, .copies 1 2, ⟨3, 1, 2⟩, by decide +kernel⟩
theorem witness_UnitOperationCompletes_tensorUpset :
    ∃ (s : State) (p : Pos) (o : UnitOp) (q : List UnitOp) (now : Nat) (u : Upset) (e : CheckErr), (inGrid p.col p.row) ∧ (o.slot < 16) ∧ (s.alive (ridx p.col p.row)) ∧ ((s.rill (ridx p.col p.row)).tensorQ = o :: q) ∧
    (s.opCheckErr (ridx p.col p.row) o u = some e) :=
  ⟨rillUnit .tensor 0x53, ⟨0, 0⟩, unitOp 0x53, [], 0, .copies 1 2, ⟨3, 1, 2⟩, by decide +kernel⟩
theorem witness_UnitOperationCompletes_vadd :
    ∃ (s : State) (p : Pos) (o : UnitOp) (q : List UnitOp) (now : Nat), (inGrid p.col p.row) ∧ (o.slot < 16) ∧ (s.alive (ridx p.col p.row)) ∧ ((s.rill (ridx p.col p.row)).vectorQ = o :: q) ∧
    (opOf o.word = 0x60) ∧ (rndOf o.word = 0) ∧ (tdOf o.word ≠ taOf o.word) :=
  ⟨rillUnit .vector 0x60, ⟨0, 0⟩, unitOp 0x60, [], 0, by decide +kernel⟩
theorem witness_UnitOperationCompletes_vmax :
    ∃ (s : State) (p : Pos) (o : UnitOp) (q : List UnitOp) (now : Nat), (inGrid p.col p.row) ∧ (o.slot < 16) ∧ (s.alive (ridx p.col p.row)) ∧ ((s.rill (ridx p.col p.row)).vectorQ = o :: q) ∧ (opOf o.word = 0x62) :=
  ⟨rillUnit .vector 0x62, ⟨0, 0⟩, unitOp 0x62, [], 0, by decide +kernel⟩
theorem witness_UnitOperationCompletes_vredadd :
    ∃ (s : State) (p : Pos) (o : UnitOp) (q : List UnitOp) (now : Nat), (inGrid p.col p.row) ∧ (o.slot < 16) ∧ (s.alive (ridx p.col p.row)) ∧ ((s.rill (ridx p.col p.row)).vectorQ = o :: q) ∧
    (opOf o.word = 0x67) ∧ (tgs1Of o.word ≠ 0) :=
  ⟨rillUnit .vector 0x67, ⟨0, 0⟩, unitOp 0x67, [], 0, by decide +kernel⟩
theorem witness_UnitOperationCompletes_vmul :
    ∃ (s : State) (p : Pos) (o : UnitOp) (q : List UnitOp) (now : Nat), (inGrid p.col p.row) ∧ (o.slot < 16) ∧ (s.alive (ridx p.col p.row)) ∧ ((s.rill (ridx p.col p.row)).vectorQ = o :: q) ∧
    (opOf o.word = 0x61) ∧ (rndOf o.word = 0) :=
  ⟨rillUnit .vector 0x61, ⟨0, 0⟩, unitOp 0x61, [], 0, by decide +kernel⟩
theorem witness_UnitOperationCompletes_vredmax :
    ∃ (s : State) (p : Pos) (o : UnitOp) (q : List UnitOp) (now : Nat), (inGrid p.col p.row) ∧ (o.slot < 16) ∧ (s.alive (ridx p.col p.row)) ∧ ((s.rill (ridx p.col p.row)).vectorQ = o :: q) ∧
    (opOf o.word = 0x68) ∧ (tgs1Of o.word ≠ 0) :=
  ⟨rillUnit .vector 0x68, ⟨0, 0⟩, unitOp 0x68, [], 0, by decide +kernel⟩
theorem witness_UnitOperationCompletes_vbcast :
    ∃ (s : State) (p : Pos) (o : UnitOp) (q : List UnitOp) (now : Nat), (inGrid p.col p.row) ∧ (o.slot < 16) ∧ (s.alive (ridx p.col p.row)) ∧ ((s.rill (ridx p.col p.row)).vectorQ = o :: q) ∧ (opOf o.word = 0x69) :=
  ⟨rillUnit .vector 0x69, ⟨0, 0⟩, unitOp 0x69, [], 0, by decide +kernel⟩
theorem witness_UnitOperationCompletes_tmmaInt8 :
    ∃ (s : State) (p : Pos) (o : UnitOp) (q : List UnitOp) (now : Nat), (inGrid p.col p.row) ∧ (o.slot < 16) ∧ (s.alive (ridx p.col p.row)) ∧ ((s.rill (ridx p.col p.row)).tensorQ = o :: q) ∧
    (opOf o.word = 0x53) ∧ (fmtOf o.word = 9) :=
  ⟨rillWith 0 id (fun r => { r with tensorQ := [{ unitOp 0x53 with word := 0x5301200024000000 }] }), ⟨0, 0⟩, { unitOp 0x53 with word := 0x5301200024000000 }, [], 0, by decide +kernel⟩
theorem witness_UnitOperationCompletes_scalar :
    ∃ (s : State) (a : SlotId) (u : Upset) (e : CheckErr) (now : Nat), (slotOk a) ∧ (s.scalarErr (slotK a) a.slot u = some e) ∧ (legalWord (s.instrAt (slotK a) a.slot)) ∧
    (s.eligible a (opOf (s.instrAt (slotK a) a.slot))) :=
  ⟨rillRuns 0x118440000000000 [], slot00, .sum 0 0 1, ⟨0, 0, 1⟩, 0, by decide +kernel⟩
theorem witness_UnitOperationCompletes_ballast :
    ∃ (s : State) (p : Pos) (n : Nat) (u : Upset) (e : CheckErr) (now : Nat), (inGrid p.col p.row) ∧ (n < 16) ∧ (s.alive (ridx p.col p.row)) ∧ (s.isOn clsPitch (pitchOf p.col p.row)) ∧
    (failedCheck u (ballastCheck u) = some e) :=
  ⟨State.reset.setPst clsPitch 0 stOn, ⟨0, 0⟩, 0, .inner 1 1 2, ⟨1, 1, 2⟩, 0, by decide +kernel⟩
theorem witness_UnitOperationCompletes_residueCatches :
    ∃ (l : List (El × El)) (k : Nat) (z : Int), (z = (l.map (fun e => e.1.sig * e.2.sig)).sum + 2 ^ k ∨ z = (l.map (fun e => e.1.sig * e.2.sig)).sum - 2 ^ k) :=
  ⟨[(.num 768, .num 1536)], 3, 1179656, by decide⟩
theorem witness_StreamInstructions_sarm :
    ∃ (s : State) (a : SlotId), (s.canIssue a 0x70) ∧ (s.descFault (slotK a) (s.src1 a) = none) ∧
    ((s.rill (slotK a)).sarmCode (queueOf (s.wordNow a)) (parseDesc (s.storeRead (slotK a) (s.src1 a).toNat 64)) (at' (s.storeRead (slotK a) (s.src1 a).toNat 64) 0x16 2) = 0) ∧
    ((parseDesc (s.storeRead (slotK a) (s.src1 a).toNat 64)).trickle = false) ∧
    (((s.rill (slotK a)).queue (queueOf (s.wordNow a))).st ≠ stStopping) :=
  ⟨rillDesc 0x7018440000000000 tileIn id, slot00, by decide +kernel⟩
theorem witness_StreamInstructions_sarmLatched :
    ∃ (s : State) (a : SlotId), (s.canIssue a 0x70) ∧ (s.descFault (slotK a) (s.src1 a) = none) ∧
    ((s.rill (slotK a)).sarmCode (queueOf (s.wordNow a)) (parseDesc (s.storeRead (slotK a) (s.src1 a).toNat 64)) (at' (s.storeRead (slotK a) (s.src1 a).toNat 64) 0x16 2) = 0) ∧
    ((parseDesc (s.storeRead (slotK a) (s.src1 a).toNat 64)).trickle = false) ∧
    (((s.rill (slotK a)).queue (queueOf (s.wordNow a))).st = stStopping) :=
  ⟨rillDesc 0x7018440000000000 tileIn (fun x => { x with st := stStopping, arms := [⟨0, tileIn, 0⟩] }), slot00, by decide +kernel⟩
theorem witness_StreamInstructions_sarmTrickle :
    ∃ (s : State) (a : SlotId), (s.canIssue a 0x70) ∧ (s.descFault (slotK a) (s.src1 a) = none) ∧
    ((s.rill (slotK a)).sarmCode (queueOf (s.wordNow a)) (parseDesc (s.storeRead (slotK a) (s.src1 a).toNat 64)) (at' (s.storeRead (slotK a) (s.src1 a).toNat 64) 0x16 2) = 0) ∧
    ((parseDesc (s.storeRead (slotK a) (s.src1 a).toNat 64)).trickle) :=
  ⟨rillDesc 0x7018440000000000 { tileIn with ringSlots := 0, prefetch := 0, outstanding := 0, tileLen := 64, count := 1, up := 0xFFFFFFFF } id, slot00, by decide +kernel⟩
theorem witness_StreamInstructions_sarmRefused :
    ∃ (s : State) (a : SlotId), (s.canIssue a 0x70) ∧ (s.descFault (slotK a) (s.src1 a) = none) ∧
    ((s.rill (slotK a)).sarmCode (queueOf (s.wordNow a)) (parseDesc (s.storeRead (slotK a) (s.src1 a).toNat 64)) (at' (s.storeRead (slotK a) (s.src1 a).toNat 64) 0x16 2) ≠ 0) :=
  ⟨rillDesc 0x7018440000000000 { tileIn with prefetch := 3 } id, slot00, by decide +kernel⟩
theorem witness_StreamInstructions_sarmFault :
    ∃ (s : State) (a : SlotId) (f : Nat), (s.canIssue a 0x70) ∧ (s.descFault (slotK a) (s.src1 a) = some f) :=
  ⟨rillRuns 0x7018440000000000 [(1, 0xBFE0)], slot00, 3, by decide +kernel⟩
theorem witness_StreamInstructions_srearm :
    ∃ (s : State) (a : SlotId), (s.canIssue a 0x71) ∧ (s.descFault (slotK a) (s.src1 a) = none) ∧
    (((s.rill (slotK a)).queue (queueOf (s.wordNow a))).srearmCode (parseDesc (s.storeRead (slotK a) (s.src1 a).toNat 64)) = 0) ∧
    (((s.rill (slotK a)).queue (queueOf (s.wordNow a))).desc.farKind < 3) :=
  ⟨rillDesc 0x7118440000000000 tileIn (fun x => { x with st := stOn, arms := [⟨0, tileIn, 0⟩] }), slot00, by decide +kernel⟩
theorem witness_StreamInstructions_srearmEndpoint :
    ∃ (s : State) (a : SlotId), (s.canIssue a 0x71) ∧ (s.descFault (slotK a) (s.src1 a) = none) ∧
    (((s.rill (slotK a)).queue (queueOf (s.wordNow a))).srearmCode (parseDesc (s.storeRead (slotK a) (s.src1 a).toNat 64)) = 0) ∧
    (3 ≤ ((s.rill (slotK a)).queue (queueOf (s.wordNow a))).desc.farKind) :=
  ⟨rillDesc 0x7118440000000000 hwDesc (fun x => { x with st := stOn, arms := [⟨0, hwDesc, 0⟩] }), slot00, by decide +kernel⟩
theorem witness_StreamInstructions_srearmRefused :
    ∃ (s : State) (a : SlotId), (s.canIssue a 0x71) ∧ (s.descFault (slotK a) (s.src1 a) = none) ∧
    (((s.rill (slotK a)).queue (queueOf (s.wordNow a))).srearmCode (parseDesc (s.storeRead (slotK a) (s.src1 a).toNat 64)) ≠ 0) :=
  ⟨rillDesc 0x7118440000000000 tileIn id, slot00, by decide +kernel⟩
theorem witness_StreamInstructions_srearmFault :
    ∃ (s : State) (a : SlotId) (f : Nat), (s.canIssue a 0x71) ∧ (s.descFault (slotK a) (s.src1 a) = some f) :=
  ⟨rillRuns 0x7118440000000000 [(1, 0xBFE0)], slot00, 3, by decide +kernel⟩
theorem witness_StreamInstructions_sstop :
    ∃ (s : State) (a : SlotId), (s.canIssue a 0x72) ∧ (((s.rill (slotK a)).queue (queueOf (s.wordNow a))).st ≠ stOff) :=
  ⟨rillDesc 0x7200000000000000 tileIn (fun x => { x with st := stOn, arms := [⟨0, tileIn, 0⟩] }), slot00, by decide +kernel⟩
theorem witness_StreamInstructions_sstopOff :
    ∃ (s : State) (a : SlotId), (s.canIssue a 0x72) ∧ (((s.rill (slotK a)).queue (queueOf (s.wordNow a))).st = stOff) :=
  ⟨rillRuns 0x7200000000000000 [], slot00, by decide +kernel⟩
theorem witness_StreamInstructions_racq :
    ∃ (s : State) (a : SlotId) (v : W64) (x : Queue), (s.canIssue a 0x73) ∧ (((s.rill (slotK a)).queue (queueOf (s.wordNow a))).racq a.slot = some (v, x)) :=
  ⟨rillRuns 0x7318000000000000 [], slot00, racqError cMalformed, Queue.init, by decide +kernel⟩
theorem witness_StreamInstructions_racqSlot :
    ∃ (s : State) (a : SlotId) (x : Queue), (s.canIssue a 0x73) ∧ (((s.rill (slotK a)).queue (queueOf (s.wordNow a))) = x) ∧ (x.st ≠ stOff) ∧ (x.desc.noRing = false) ∧
    (if x.desc.dir = 0 then x.st ≠ stStopping ∧ x.acquired < x.filled else x.acquired < x.issued + x.desc.ringSlots) :=
  ⟨rillDesc 0x7318000000000000 tileIn (fun x => { x with st := stOn, filled := 1, arms := [⟨0, tileIn, 0⟩] }), slot00, { Queue.init with st := stOn, filled := 1, arms := [⟨0, tileIn, 0⟩] }, by decide +kernel⟩
theorem witness_StreamInstructions_racqWaits :
    ∃ (s : State) (a : SlotId), (s.canIssue a 0x73) ∧ (((s.rill (slotK a)).queue (queueOf (s.wordNow a))).racq a.slot = none) :=
  ⟨rillDesc 0x7318000000000000 tileIn (fun x => { x with st := stOn, arms := [⟨0, tileIn, 0⟩] }), slot00, by decide +kernel⟩
theorem witness_StreamInstructions_rrel :
    ∃ (s : State) (a : SlotId), (s.canIssue a 0x74) :=
  ⟨rillRuns 0x7400000000000000 [], slot00, by decide⟩
theorem witness_MessageInstructions_send :
    ∃ (s : State) (a : SlotId) (u : State), (s.canIssue a 0x75) ∧ (sendFault (s.src1 a) ((s.src2 a).toNat % 0x2000) (wf (s.wordNow a) 0 11) (wf (s.wordNow a) 16 10) = none) ∧
    (((s.issued a).fresh.2).inject? { (s.issued a).fresh.2.slotPacket (slotK a) a.slot with dcol := wf (s.wordNow a) 0 11, drow := wf (s.wordNow a) 16 10, kind := 5, ackReq := true, len := (s.src2 a).toNat % 0x2000, payload := s.storeRead (slotK a) (s.src1 a).toNat ((s.src2 a).toNat % 0x2000), poison := s.storePois (slotK a) (s.src1 a).toNat ((s.src2 a).toNat % 0x2000), tag := (s.destNow a).toNat % 0x10000, xid := (s.issued a).fresh.1 } = some u) :=
  ⟨rillRuns 0x7518440000000001 [(1, 0x8000), (2, 64)], slot00, _, by decide, by decide, rfl⟩
theorem witness_MessageInstructions_sendUnreachable :
    ∃ (s : State) (a : SlotId), (s.canIssue a 0x75) ∧ (sendFault (s.src1 a) ((s.src2 a).toNat % 0x2000) (wf (s.wordNow a) 0 11) (wf (s.wordNow a) 16 10) = none) ∧
    (((s.issued a).fresh.2).inject? { (s.issued a).fresh.2.slotPacket (slotK a) a.slot with dcol := wf (s.wordNow a) 0 11, drow := wf (s.wordNow a) 16 10, kind := 5, ackReq := true, len := (s.src2 a).toNat % 0x2000, payload := s.storeRead (slotK a) (s.src1 a).toNat ((s.src2 a).toNat % 0x2000), poison := s.storePois (slotK a) (s.src1 a).toNat ((s.src2 a).toNat % 0x2000), tag := (s.destNow a).toNat % 0x10000, xid := (s.issued a).fresh.1 } = none) :=
  ⟨({ rillRuns 0x7518440000000001 [(1, 0x8000), (2, 64)] with regs := [(aDead 0 0, 0x80000000 + 1 + 1 * 2 ^ 7)] } : State), slot00, by decide +kernel⟩
theorem witness_MessageInstructions_sendFault :
    ∃ (s : State) (a : SlotId) (f : Nat), (s.canIssue a 0x75) ∧ (sendFault (s.src1 a) ((s.src2 a).toNat % 0x2000) (wf (s.wordNow a) 0 11) (wf (s.wordNow a) 16 10) = some f) :=
  ⟨rillRuns 0x7518440000000001 [(1, 0x8004), (2, 64)], slot00, 2, by decide +kernel⟩
theorem witness_MessageInstructions_recv :
    ∃ (s : State) (a : SlotId) (v : W64) (r : Rill), (s.canIssue a 0x76) ∧ (((s.issued a).rill (slotK a)).recv a.slot (wf (s.wordNow a) 0 16) = some (v, r)) :=
  ⟨rillRing 0x761800000000ffff, slot00, _, _, by decide, rfl⟩
theorem witness_MessageInstructions_recvWaits :
    ∃ (s : State) (a : SlotId), (s.canIssue a 0x76) ∧ ((s.rill (slotK a)).recv a.slot (wf (s.wordNow a) 0 16) = none) :=
  ⟨rillRing 0x7618000000000005, slot00, by decide +kernel⟩
theorem witness_MessageInstructions_mfree :
    ∃ (s : State) (a : SlotId), (s.canIssue a 0x77) ∧
    ((s.rill (slotK a)).rx.any (fun e => !e.pad && !e.freed && e.off == (s.src1 a).toNat % 0x10000 * 64 && e.holder == some a.slot)) :=
  ⟨rillHolds 0x7700400000000000, slot00, by decide +kernel⟩
theorem witness_MessageInstructions_mfreeFault :
    ∃ (s : State) (a : SlotId), (s.canIssue a 0x77) ∧
    ((s.rill (slotK a)).rx.any (fun e => !e.pad && !e.freed && e.off == (s.src1 a).toNat % 0x10000 * 64 && e.holder == some a.slot) = false) :=
  ⟨rillRing 0x7700400000000000, slot00, by decide +kernel⟩
theorem witness_WatchdogsAndBadFetches_undefinedOpcode :
    ∃ (s : State) (a : SlotId), (slotOk a) ∧ (s.mayIssue a) ∧ (s.fetchFault (slotK a) (s.slotNow a).pc = none) ∧ (formatOf (opOf (s.wordNow a)) = none) :=
  ⟨rillRuns 0xe18440000000000 [], slot00, by decide +kernel⟩
theorem witness_WatchdogsAndBadFetches_illegalWord :
    ∃ (s : State) (a : SlotId) (op : Nat) (c : SlotId → Instr), ((op, c) ∈ rillOps) ∧ (slotOk a) ∧ (s.eligible a op) ∧ (legalWord (s.wordNow a) = false) :=
  ⟨rillRuns 0x118440000000001 [], slot00, 1, .add, List.mem_cons_self, by decide, by decide, by decide⟩
theorem witness_WatchdogsAndBadFetches_notOwner :
    ∃ (s : State) (a : SlotId) (op : Nat) (c : SlotId → Instr) (t : Nat), ((op, c) ∈ rillOps) ∧ (slotOk a) ∧ (s.eligible a op) ∧ (legalWord (s.wordNow a)) ∧ (t ∈ tregsOf (s.wordNow a)) ∧
    ((s.rill (slotK a)).owner t ≠ a.slot) :=
  ⟨rillRuns 0x5200000000000000 [], slot00, 0x52, .tzero, 0, by simp [rillOps], by decide, by decide, by decide, by decide, by decide⟩
theorem witness_WatchdogsAndBadFetches_instructionFetchFault :
    ∃ (s : State) (a : SlotId) (f : Nat), (slotOk a) ∧ (s.mayIssue a) ∧ (s.fetchFault (slotK a) (s.slotNow a).pc = some f) :=
  ⟨rillWith 0 (fun x => { x with pc := 0xC000 }) id, slot00, 3, by decide +kernel⟩
theorem witness_WatchdogsAndBadFetches_taskWdExpiry :
    ∃ (s : State) (a : SlotId) (c : Nat), (slotOk a) ∧ (s.alive (slotK a)) ∧ ((s.slotNow a).st = .ready ∨ (s.slotNow a).st = .waiting) ∧
    ((s.slotNow a).lastRetire + s.wdLimit (s.rill (slotK a)) ≤ max c s.clk.cycle) ∧ (s.wake? (slotK a) a.slot = none) ∧
    (∀ u, (s.slotNow a).wait = .yield u → max c s.clk.cycle < u) :=
  ⟨rillRuns 0 [], slot00, 60000000, by decide, by decide, by decide, by decide, by decide, by intro u h; cases h⟩
theorem witness_WatchdogsAndBadFetches_rillWdCount :
    ∃ (s : State) (p : Pos), (inGrid p.col p.row) ∧ (s.alive (ridx p.col p.row)) ∧ (16384 ≤ s.wdCount (ridx p.col p.row)) :=
  ⟨rillWith 0 id (fun r => { r with wd := (0, 16384) }), ⟨0, 0⟩, by decide +kernel⟩
theorem witness_WatchdogsAndBadFetches_rillWdExpiry :
    ∃ (s : State) (p : Pos) (n : Nat), (inGrid p.col p.row) ∧ (s.alive (ridx p.col p.row)) ∧ (n < 16) ∧ (s.open' ⟨p.col, p.row, n⟩) ∧ (s.throttled ⟨p.col, p.row, n⟩ = false) ∧
    (max (s.rill (ridx p.col p.row)).wd.1 (s.eligibleSince (ridx p.col p.row) n) + 16384 ≤ s.clk.cycle + (s.rill (ridx p.col p.row)).wd.2) :=
  ⟨{ rillRuns 0x118440000000000 [] with clk := ⟨16384, 0⟩ }, ⟨0, 0⟩, 0, by decide +kernel⟩
theorem witness_RillPackets_write :
    ∃ (s : State) (i : Nat) (p : Packet), (s.rillGets i 1 p) ∧ (p.ackReq) :=
  ⟨netWith ({ pk 1 with len := 3, addr := 0xBFFD, payload := [1, 2, 3], ackReq := true }), 0, { pk 1 with len := 3, addr := 0xBFFD, payload := [1, 2, 3], ackReq := true }, by decide +kernel⟩
theorem witness_RillPackets_writeNoAck :
    ∃ (s : State) (i : Nat) (p : Packet), (s.rillGets i 1 p) ∧ (p.ackReq = false) :=
  ⟨netWith ({ pk 1 with len := 3, addr := 0xBFFD, payload := [1, 2, 3], ackReq := false }), 0, { pk 1 with len := 3, addr := 0xBFFD, payload := [1, 2, 3], ackReq := false }, by decide +kernel⟩
theorem witness_RillPackets_writeBytes :
    ∃ (s : State) (i : Nat) (p : Packet) (t : State) (y : Nat), (s.rillGets i 1 p) ∧ (p.payload.length = p.len) ∧ (Mem.wf s.store = true) ∧ (exec (.write i) s = .next t) :=
  ⟨netWith ({ pk 1 with len := 3, addr := 0xBFFD, payload := [1, 2, 3], ackReq := true }), 0, { pk 1 with len := 3, addr := 0xBFFD, payload := [1, 2, 3], ackReq := true }, _, 0, by decide, by decide, by decide, rfl⟩
theorem witness_RillPackets_read :
    ∃ (s : State) (i : Nat) (p : Packet), (s.rillGets i 2 p) :=
  ⟨netWith ({ pk 2 with len := 3, addr := 0xBFFD, arg := 8 }), 0, { pk 2 with len := 3, addr := 0xBFFD, arg := 8 }, by decide⟩
theorem witness_RillPackets_msg :
    ∃ (s : State) (i : Nat) (p : Packet), (s.rillGets i 5 p) ∧ (entrySize p.len ≤ (s.rill p.rillIdx).rxLen) ∧ ((s.rill p.rillIdx).rxRoom (entrySize p.len)) :=
  ⟨netRing [] ({ pk 5 with len := 64, ackReq := true }), 0, { pk 5 with len := 64, ackReq := true }, by decide +kernel⟩
theorem witness_RillPackets_msgHeld :
    ∃ (s : State) (i : Nat) (p : Packet), (s.rillGets i 5 p) ∧ (entrySize p.len ≤ (s.rill p.rillIdx).rxLen) ∧ ((s.rill p.rillIdx).rxRoom (entrySize p.len) = false) :=
  ⟨netRing [⟨0, 1024, false, 0, 960, none, false⟩] (pk 5), 0, pk 5, by decide +kernel⟩
theorem witness_RillPackets_msgNever :
    ∃ (s : State) (i : Nat) (p : Packet), (s.rillGets i 5 p) ∧ ((s.rill p.rillIdx).rxLen < entrySize p.len) :=
  ⟨netWith (pk 5), 0, pk 5, by decide +kernel⟩
theorem witness_RillPackets_msgRingEntry :
    ∃ (s : State) (i : Nat) (p : Packet) (c : Pos), (inGrid c.col c.row) ∧ (s.net.findIdx (fun q => q.waits && q.dcol == c.col && q.drow == c.row) = i) ∧ (s.rillGets i 5 p) ∧
    (entrySize p.len ≤ (s.rill p.rillIdx).rxLen) ∧ ((s.rill p.rillIdx).rxRoom (entrySize p.len)) :=
  ⟨netRing [] ({ pk 5 with waits := true }), 0, { pk 5 with waits := true }, ⟨0, 0⟩, by decide +kernel⟩
theorem witness_RillPackets_msgRingEntryStale :
    ∃ (s : State) (i : Nat) (p : Packet) (c : Pos) (e : Option Nat), (inGrid c.col c.row) ∧ (s.net.findIdx (fun q => q.waits && q.dcol == c.col && q.drow == c.row) = i) ∧ (s.arrives? i 5 false = some p) ∧
    (p.abort = false) ∧ (s.unitCheck p = some e) :=
  ⟨netRing [] ({ pk 5 with waits := true, epoch := 3 }), 0, { pk 5 with waits := true, epoch := 3 }, ⟨0, 0⟩, some cStaleEpoch, by decide +kernel⟩
theorem witness_RillPackets_writeRejected :
    ∃ (s : State) (i : Nat) (p : Packet) (e : Option Nat), (s.arrives? i 1 false = some p) ∧ (p.abort = false) ∧ (s.unitCheck p = some e) :=
  ⟨netWith { pk 1 with epoch := 3, resp := false, pool := false }, 0, { pk 1 with epoch := 3, resp := false, pool := false }, some cStaleEpoch, by decide +kernel⟩
theorem witness_RillPackets_readRejected :
    ∃ (s : State) (i : Nat) (p : Packet) (e : Option Nat), (s.arrives? i 2 false = some p) ∧ (p.abort = false) ∧ (s.unitCheck p = some e) :=
  ⟨netWith { pk 2 with epoch := 3, resp := false, pool := false }, 0, { pk 2 with epoch := 3, resp := false, pool := false }, some cStaleEpoch, by decide +kernel⟩
theorem witness_RillPackets_readDataRejected :
    ∃ (s : State) (i : Nat) (p : Packet) (e : Option Nat), (s.arrives? i 3 false = some p) ∧ (p.abort = false) ∧ (s.unitCheck p = some e) :=
  ⟨netWith { pk 3 with epoch := 3, resp := true, pool := false }, 0, { pk 3 with epoch := 3, resp := true, pool := false }, some cStaleEpoch, by decide +kernel⟩
theorem witness_RillPackets_ackRejected :
    ∃ (s : State) (i : Nat) (p : Packet) (e : Option Nat), (s.arrives? i 4 false = some p) ∧ (p.abort = false) ∧ (s.unitCheck p = some e) :=
  ⟨netWith { pk 4 with epoch := 3, resp := true, pool := false }, 0, { pk 4 with epoch := 3, resp := true, pool := false }, some cStaleEpoch, by decide +kernel⟩
theorem witness_RillPackets_msgRejected :
    ∃ (s : State) (i : Nat) (p : Packet) (e : Option Nat), (s.arrives? i 5 false = some p) ∧ (p.abort = false) ∧ (s.unitCheck p = some e) :=
  ⟨netWith { pk 5 with epoch := 3, resp := false, pool := false }, 0, { pk 5 with epoch := 3, resp := false, pool := false }, some cStaleEpoch, by decide +kernel⟩
theorem witness_RillPackets_poolWriteRejected :
    ∃ (s : State) (i : Nat) (p : Packet) (e : Option Nat), (s.arrives? i 1 true = some p) ∧ (p.abort = false) ∧ (s.unitCheck p = some e) :=
  ⟨netWith { pk 1 with epoch := 3, resp := false, pool := true }, 0, { pk 1 with epoch := 3, resp := false, pool := true }, some cStaleEpoch, by decide +kernel⟩
theorem witness_RillPackets_poolReadRejected :
    ∃ (s : State) (i : Nat) (p : Packet) (e : Option Nat), (s.arrives? i 2 true = some p) ∧ (p.abort = false) ∧ (s.unitCheck p = some e) :=
  ⟨netWith { pk 2 with epoch := 3, resp := false, pool := true }, 0, { pk 2 with epoch := 3, resp := false, pool := true }, some cStaleEpoch, by decide +kernel⟩
theorem witness_RillPackets_sdataRejected :
    ∃ (s : State) (i : Nat) (p : Packet) (e : Option Nat), (s.arrives? i 0x11 false = some p) ∧ (p.abort = false) ∧ (s.unitCheck p = some e) :=
  ⟨netWith { pk 0x11 with epoch := 3, resp := true, pool := false }, 0, { pk 0x11 with epoch := 3, resp := true, pool := false }, some cStaleEpoch, by decide +kernel⟩
theorem witness_RillPackets_spushRejected :
    ∃ (s : State) (i : Nat) (p : Packet) (e : Option Nat), (s.arrives? i 0x15 false = some p) ∧ (p.abort = false) ∧ (s.unitCheck p = some e) :=
  ⟨netWith { pk 0x15 with epoch := 3, resp := false, pool := false }, 0, { pk 0x15 with epoch := 3, resp := false, pool := false }, some cStaleEpoch, by decide +kernel⟩
theorem witness_RillPackets_screditRejected :
    ∃ (s : State) (i : Nat) (p : Packet) (e : Option Nat), (s.arrives? i 0x16 false = some p) ∧ (p.abort = false) ∧ (s.unitCheck p = some e) :=
  ⟨netWith { pk 0x16 with epoch := 3, resp := true, pool := false }, 0, { pk 0x16 with epoch := 3, resp := true, pool := false }, some cStaleEpoch, by decide +kernel⟩
theorem witness_RillPackets_hwConfirmRejected :
    ∃ (s : State) (i : Nat) (p : Packet) (e : Option Nat), (s.arrives? i 0x21 false = some p) ∧ (p.abort = false) ∧ (s.unitCheck p = some e) :=
  ⟨netWith { pk 0x21 with epoch := 3, resp := true, pool := false }, 0, { pk 0x21 with epoch := 3, resp := true, pool := false }, some cStaleEpoch, by decide +kernel⟩
theorem witness_RillPackets_ezConfirmRejected :
    ∃ (s : State) (i : Nat) (p : Packet) (e : Option Nat), (s.arrives? i 0x31 false = some p) ∧ (p.abort = false) ∧ (s.unitCheck p = some e) :=
  ⟨netWith { pk 0x31 with epoch := 3, resp := true, pool := false }, 0, { pk 0x31 with epoch := 3, resp := true, pool := false }, some cStaleEpoch, by decide +kernel⟩
theorem witness_RillPackets_sreadRejected :
    ∃ (s : State) (i : Nat) (p : Packet) (e : Option Nat), (s.arrives? i 0x10 false = some p) ∧ (p.abort = false) ∧ (s.unitCheck p = some e) :=
  ⟨netWith { pk 0x10 with epoch := 3, resp := false, pool := false }, 0, { pk 0x10 with epoch := 3, resp := false, pool := false }, some cStaleEpoch, by decide +kernel⟩
theorem witness_RillPackets_swriteRejected :
    ∃ (s : State) (i : Nat) (p : Packet) (e : Option Nat), (s.arrives? i 0x12 false = some p) ∧ (p.abort = false) ∧ (s.unitCheck p = some e) :=
  ⟨netWith { pk 0x12 with epoch := 3, resp := false, pool := false }, 0, { pk 0x12 with epoch := 3, resp := false, pool := false }, some cStaleEpoch, by decide +kernel⟩
theorem witness_RillPackets_sfillRejected :
    ∃ (s : State) (i : Nat) (p : Packet) (e : Option Nat), (s.arrives? i 0x13 false = some p) ∧ (p.abort = false) ∧ (s.unitCheck p = some e) :=
  ⟨netWith { pk 0x13 with epoch := 3, resp := false, pool := false }, 0, { pk 0x13 with epoch := 3, resp := false, pool := false }, some cStaleEpoch, by decide +kernel⟩
theorem witness_RillPackets_sdrainRejected :
    ∃ (s : State) (i : Nat) (p : Packet) (e : Option Nat), (s.arrives? i 0x14 false = some p) ∧ (p.abort = false) ∧ (s.unitCheck p = some e) :=
  ⟨netWith { pk 0x14 with epoch := 3, resp := false, pool := false }, 0, { pk 0x14 with epoch := 3, resp := false, pool := false }, some cStaleEpoch, by decide +kernel⟩
theorem witness_RillPackets_hwOpenRejected :
    ∃ (s : State) (i : Nat) (p : Packet) (e : Option Nat), (s.arrives? i 0x20 false = some p) ∧ (p.abort = false) ∧ (s.unitCheck p = some e) :=
  ⟨netWith { pk 0x20 with epoch := 3, resp := false, pool := false }, 0, { pk 0x20 with epoch := 3, resp := false, pool := false }, some cStaleEpoch, by decide +kernel⟩
theorem witness_RillPackets_hwCloseRejected :
    ∃ (s : State) (i : Nat) (p : Packet) (e : Option Nat), (s.arrives? i 0x22 false = some p) ∧ (p.abort = false) ∧ (s.unitCheck p = some e) :=
  ⟨netWith { pk 0x22 with epoch := 3, resp := false, pool := false }, 0, { pk 0x22 with epoch := 3, resp := false, pool := false }, some cStaleEpoch, by decide +kernel⟩
theorem witness_RillPackets_hwRearmRejected :
    ∃ (s : State) (i : Nat) (p : Packet) (e : Option Nat), (s.arrives? i 0x23 false = some p) ∧ (p.abort = false) ∧ (s.unitCheck p = some e) :=
  ⟨netWith { pk 0x23 with epoch := 3, resp := false, pool := false }, 0, { pk 0x23 with epoch := 3, resp := false, pool := false }, some cStaleEpoch, by decide +kernel⟩
theorem witness_RillPackets_hwSendRejected :
    ∃ (s : State) (i : Nat) (p : Packet) (e : Option Nat), (s.arrives? i 0x24 false = some p) ∧ (p.abort = false) ∧ (s.unitCheck p = some e) :=
  ⟨netWith { pk 0x24 with epoch := 3, resp := false, pool := false }, 0, { pk 0x24 with epoch := 3, resp := false, pool := false }, some cStaleEpoch, by decide +kernel⟩
theorem witness_RillPackets_ezOpenRejected :
    ∃ (s : State) (i : Nat) (p : Packet) (e : Option Nat), (s.arrives? i 0x30 false = some p) ∧ (p.abort = false) ∧ (s.unitCheck p = some e) :=
  ⟨netWith { pk 0x30 with epoch := 3, resp := false, pool := false }, 0, { pk 0x30 with epoch := 3, resp := false, pool := false }, some cStaleEpoch, by decide +kernel⟩
theorem witness_RillPackets_ezCloseRejected :
    ∃ (s : State) (i : Nat) (p : Packet) (e : Option Nat), (s.arrives? i 0x32 false = some p) ∧ (p.abort = false) ∧ (s.unitCheck p = some e) :=
  ⟨netWith { pk 0x32 with epoch := 3, resp := false, pool := false }, 0, { pk 0x32 with epoch := 3, resp := false, pool := false }, some cStaleEpoch, by decide +kernel⟩
theorem witness_RillPackets_ezRearmRejected :
    ∃ (s : State) (i : Nat) (p : Packet) (e : Option Nat), (s.arrives? i 0x33 false = some p) ∧ (p.abort = false) ∧ (s.unitCheck p = some e) :=
  ⟨netWith { pk 0x33 with epoch := 3, resp := false, pool := false }, 0, { pk 0x33 with epoch := 3, resp := false, pool := false }, some cStaleEpoch, by decide +kernel⟩
theorem witness_RillPackets_ezSendRejected :
    ∃ (s : State) (i : Nat) (p : Packet) (e : Option Nat), (s.arrives? i 0x35 false = some p) ∧ (p.abort = false) ∧ (s.unitCheck p = some e) :=
  ⟨netWith { pk 0x35 with epoch := 3, resp := false, pool := false }, 0, { pk 0x35 with epoch := 3, resp := false, pool := false }, some cStaleEpoch, by decide +kernel⟩
theorem witness_RillPackets_aborted :
    ∃ (s : State) (i : Nat) (p : Packet), (s.arrives? i 1 false = some p) ∧ (p.abort) :=
  ⟨netWith ({ pk 1 with abort := true }), 0, { pk 1 with abort := true }, by decide +kernel⟩
theorem witness_PoolPackets_poolWrite :
    ∃ (s : State) (i : Nat) (p : Packet), (s.poolGets i 1 p) ∧ (p.ackReq) :=
  ⟨netWith ({ pk 1 with len := 2, addr := 0xFFFE, payload := [1, 2], ackReq := true, pool := true }), 0, { pk 1 with len := 2, addr := 0xFFFE, payload := [1, 2], ackReq := true, pool := true }, by decide +kernel⟩
theorem witness_PoolPackets_poolRead :
    ∃ (s : State) (i : Nat) (p : Packet), (s.poolGets i 2 p) :=
  ⟨netWith ({ pk 2 with len := 2, addr := 0xFFFE, pool := true }), 0, { pk 2 with len := 2, addr := 0xFFFE, pool := true }, by decide⟩
theorem witness_PoolPackets_poolOutside :
    ∃ (s : State) (i : Nat) (p : Packet), (s.unitGets i 1 true p) ∧ (p.edge = false) ∧ (poolFits p = false) :=
  ⟨netWith ({ pk 1 with len := 2, addr := 0xFFFF, payload := [1, 2], pool := true }), 0, { pk 1 with len := 2, addr := 0xFFFF, payload := [1, 2], pool := true }, by decide +kernel⟩
theorem witness_PoolPackets_poolWriteNoAck :
    ∃ (s : State) (i : Nat) (p : Packet), (s.poolGets i 1 p) ∧ (p.ackReq = false) :=
  ⟨netWith ({ pk 1 with len := 2, addr := 0xFFFE, payload := [1, 2], pool := true }), 0, { pk 1 with len := 2, addr := 0xFFFE, payload := [1, 2], pool := true }, by decide +kernel⟩
theorem witness_PoolPackets_poolReadOutside :
    ∃ (s : State) (i : Nat) (p : Packet), (s.unitGets i 2 true p) ∧ (p.edge = false) ∧ (poolFits p = false) :=
  ⟨netWith ({ pk 2 with len := 2, addr := 0xFFFF, pool := true }), 0, { pk 2 with len := 2, addr := 0xFFFF, pool := true }, by decide +kernel⟩
theorem witness_PoolPackets_poolBytes :
    ∃ (s : State) (i : Nat) (p : Packet) (t : State) (y : Nat), (s.poolGets i 1 p) ∧ (p.payload.length = p.len) ∧ (Mem.wf s.pool = true) ∧ (exec (.poolWrite i) s = .next t) :=
  ⟨netWith ({ pk 1 with len := 2, addr := 0xFFFE, payload := [1, 2], ackReq := true, pool := true }), 0, { pk 1 with len := 2, addr := 0xFFFE, payload := [1, 2], ackReq := true, pool := true }, _, 0, by decide, by decide, by decide, rfl⟩
theorem witness_PacketAnswers_readData :
    ∃ (s : State) (i : Nat) (p : Packet) (n g : Nat), (s.rillGets i 3 p) ∧ ((s.rill p.rillIdx).flightOf p.xid = none) ∧ ((s.rill p.rillIdx).trickles.find? (fun t => t.xid == p.xid) = none) ∧
    ((s.rill p.rillIdx).loadOf p.xid = some (n, g)) :=
  ⟨netRill ({ pk 3 with resp := true, xid := 7, payload := [1, 0, 0, 0, 0, 0, 0, 0], len := 8 }) (fun x => { x with loads := [(7, 3)] }) id, 0, { pk 3 with resp := true, xid := 7, payload := [1, 0, 0, 0, 0, 0, 0, 0], len := 8 }, 0, 3, by decide +kernel⟩
theorem witness_PacketAnswers_readDataQueue :
    ∃ (s : State) (i : Nat) (p : Packet) (q : Nat) (f : Flight), (s.rillGets i 3 p) ∧ ((s.rill p.rillIdx).flightOf p.xid = some (q, f)) :=
  ⟨netQueue { pk 3 with resp := true, xid := 7 }, 0, { pk 3 with resp := true, xid := 7 }, 0, ⟨7, 0⟩, by decide +kernel⟩
theorem witness_PacketAnswers_ack :
    ∃ (s : State) (i : Nat) (p : Packet), (s.rillGets i 4 p) ∧ ((s.rill p.rillIdx).flightOf p.xid = none) ∧ ((s.rill p.rillIdx).trickles.find? (fun t => t.xid == p.xid) = none) :=
  ⟨netRill ({ pk 4 with resp := true, xid := 7 }) (fun x => { x with acks := [7] }) id, 0, { pk 4 with resp := true, xid := 7 }, by decide +kernel⟩
theorem witness_PacketAnswers_ackQueue :
    ∃ (s : State) (i : Nat) (p : Packet) (q : Nat) (f : Flight), (s.rillGets i 4 p) ∧ ((s.rill p.rillIdx).flightOf p.xid = some (q, f)) :=
  ⟨netQueue { pk 4 with resp := true, xid := 7 }, 0, { pk 4 with resp := true, xid := 7 }, 0, ⟨7, 0⟩, by decide +kernel⟩
theorem witness_PacketAnswers_readDataTrickle :
    ∃ (s : State) (i : Nat) (p : Packet) (r : Trickle), (s.rillGets i 3 p) ∧ ((s.rill p.rillIdx).flightOf p.xid = none) ∧ ((s.rill p.rillIdx).trickles.find? (fun t => t.xid == p.xid) = some r) :=
  ⟨netRill ({ pk 3 with resp := true, xid := 7 }) id (fun r => { r with trickles := [tricks] }), 0, { pk 3 with resp := true, xid := 7 }, tricks, by decide +kernel⟩
theorem witness_PacketAnswers_ackTrickle :
    ∃ (s : State) (i : Nat) (p : Packet) (r : Trickle), (s.rillGets i 4 p) ∧ ((s.rill p.rillIdx).flightOf p.xid = none) ∧ ((s.rill p.rillIdx).trickles.find? (fun t => t.xid == p.xid) = some r) :=
  ⟨netRill ({ pk 4 with resp := true, xid := 7 }) id (fun r => { r with trickles := [tricks] }), 0, { pk 4 with resp := true, xid := 7 }, tricks, by decide +kernel⟩
theorem witness_PacketAnswers_sdataTrickle :
    ∃ (s : State) (i : Nat) (p : Packet) (r : Trickle), (s.rillGets i 17 p) ∧ ((s.rill p.rillIdx).flightOf p.xid = none) ∧ ((s.rill p.rillIdx).trickles.find? (fun t => t.xid == p.xid) = some r) :=
  ⟨netRill ({ pk 17 with resp := true, xid := 7 }) id (fun r => { r with trickles := [tricks] }), 0, { pk 17 with resp := true, xid := 7 }, tricks, by decide +kernel⟩
theorem witness_PacketAnswers_sdata :
    ∃ (s : State) (i : Nat) (p : Packet) (q : Nat) (f : Flight), (s.rillGets i 17 p) ∧ ((s.rill p.rillIdx).flightOf p.xid = some (q, f)) :=
  ⟨netQueue { pk 0x11 with resp := true, xid := 7 }, 0, { pk 0x11 with resp := true, xid := 7 }, 0, ⟨7, 0⟩, by decide +kernel⟩
theorem witness_PacketAnswers_scredit :
    ∃ (s : State) (i : Nat) (p : Packet), (s.rillGets i 22 p) ∧ (p.edge = false) :=
  ⟨netQueue { pk 0x16 with resp := true, arg := 9 }, 0, { pk 0x16 with resp := true, arg := 9 }, by decide +kernel⟩
theorem witness_StreamTraffic_spush :
    ∃ (s : State) (i : Nat) (p : Packet) (x : Queue), (s.rillGets i 21 p) ∧ ((s.rill p.rillIdx).queue (p.tag % 8) = x) ∧ (x.st ≠ stOff) ∧ (x.st ≠ stStopping) ∧ (x.desc.push) ∧
    (p.arg / 256 % 256 = x.armNo % 256) ∧ (x.tileOf (p.tag / 8) < x.issued) ∧ (p.len = x.desc.tileLen) :=
  ⟨netPush { pk 0x15 with len := 256, payload := List.replicate 256 1 }, 0, { pk 0x15 with len := 256, payload := List.replicate 256 1 }, pushQueue, by decide +kernel⟩
theorem witness_StreamTraffic_spushLength :
    ∃ (s : State) (i : Nat) (p : Packet) (x : Queue), (s.rillGets i 21 p) ∧ ((s.rill p.rillIdx).queue (p.tag % 8) = x) ∧ (x.st ≠ stOff) ∧ (x.st ≠ stStopping) ∧ (x.desc.push) ∧
    (p.arg / 256 % 256 = x.armNo % 256) ∧ (x.tileOf (p.tag / 8) < x.issued) ∧ (p.len ≠ x.desc.tileLen) :=
  ⟨netPush { pk 0x15 with len := 255, payload := List.replicate 255 1 }, 0, { pk 0x15 with len := 255, payload := List.replicate 255 1 }, pushQueue, by decide +kernel⟩
theorem witness_StreamTraffic_spushIgnored :
    ∃ (s : State) (i : Nat) (p : Packet) (x : Queue), (s.rillGets i 21 p) ∧ ((s.rill p.rillIdx).queue (p.tag % 8) = x) ∧
    (x.st = stOff ∨ x.st = stStopping ∨ x.desc.push = false ∨ p.arg / 256 % 256 ≠ x.armNo % 256 ∨ x.issued ≤ x.tileOf (p.tag / 8)) :=
  ⟨netPush { pk 0x15 with tag := 8 }, 0, { pk 0x15 with tag := 8 }, pushQueue, by decide +kernel⟩
theorem witness_StreamTraffic_hwConfirm :
    ∃ (s : State) (i : Nat) (p : Packet), (s.rillGets i 33 p) ∧ (((s.rill p.rillIdx).queue (p.tag % 8)).st = stStarting) ∧
    (((s.rill p.rillIdx).queue (p.tag % 8)).desc.farKind = 3) ∧ (p.arg % 0x10000 = 0) :=
  ⟨netFar 3 (pk 33), 0, pk 33, by decide +kernel⟩
theorem witness_StreamTraffic_ezConfirm :
    ∃ (s : State) (i : Nat) (p : Packet), (s.rillGets i 49 p) ∧ (((s.rill p.rillIdx).queue (p.tag % 8)).st = stStarting) ∧
    (((s.rill p.rillIdx).queue (p.tag % 8)).desc.farKind = 4) ∧ (p.arg % 0x10000 = 0) :=
  ⟨netFar 4 (pk 49), 0, pk 49, by decide +kernel⟩
theorem witness_StreamTraffic_hwConfirmCode :
    ∃ (s : State) (i : Nat) (p : Packet), (s.rillGets i 33 p) ∧ (((s.rill p.rillIdx).queue (p.tag % 8)).st ≠ stOff) ∧ (((s.rill p.rillIdx).queue (p.tag % 8)).desc.farKind = 3) ∧
    (p.arg % 0x10000 ≠ 0) ∧ (p.arg % 0x10000 ≠ cCancelled) :=
  ⟨netFar 3 ({ pk 33 with arg := 1 }), 0, { pk 33 with arg := 1 }, by decide +kernel⟩
theorem witness_StreamTraffic_ezConfirmCode :
    ∃ (s : State) (i : Nat) (p : Packet), (s.rillGets i 49 p) ∧ (((s.rill p.rillIdx).queue (p.tag % 8)).st ≠ stOff) ∧ (((s.rill p.rillIdx).queue (p.tag % 8)).desc.farKind = 4) ∧
    (p.arg % 0x10000 ≠ 0) ∧ (p.arg % 0x10000 ≠ cCancelled) :=
  ⟨netFar 4 ({ pk 49 with arg := 1 }), 0, { pk 49 with arg := 1 }, by decide +kernel⟩
theorem witness_StreamTraffic_streamStartDone :
    ∃ (s : State) (p : Pos) (q : Nat) (x : Queue), (inGrid p.col p.row) ∧ (q < 8) ∧ (s.alive (ridx p.col p.row)) ∧ ((s.rill (ridx p.col p.row)).queue q = x) ∧ (x.st = stStarting) ∧
    (x.desc.farKind ≤ 2) ∧ (x.desc.push = false) :=
  ⟨rillQ tileQ, ⟨0, 0⟩, 0, tileQ, by decide +kernel⟩
theorem witness_StreamTraffic_streamStartPush :
    ∃ (s : State) (p : Pos) (q : Nat) (x : Queue), (inGrid p.col p.row) ∧ (q < 8) ∧ (s.alive (ridx p.col p.row)) ∧ ((s.rill (ridx p.col p.row)).queue q = x) ∧ (x.st = stStarting) ∧
    (x.desc.farKind ≤ 2) ∧ (x.desc.push) ∧ (x.inAdmits) :=
  ⟨rillQ { tileQ with arms := [⟨0, { tileIn with farKind := 2 }, 0⟩] }, ⟨0, 0⟩, 0, { tileQ with arms := [⟨0, { tileIn with farKind := 2 }, 0⟩] }, by decide +kernel⟩
theorem witness_StreamTraffic_streamStopDone :
    ∃ (s : State) (p : Pos) (q : Nat) (x : Queue), (inGrid p.col p.row) ∧ (q < 8) ∧ (s.alive (ridx p.col p.row)) ∧ ((s.rill (ridx p.col p.row)).queue q = x) ∧ (x.st = stStopping) ∧
    (x.flights = []) ∧ (x.acqs = []) ∧ (x.latched = none ∨ x.pendOn = false) :=
  ⟨rillQ { tileQ with st := stStopping }, ⟨0, 0⟩, 0, { tileQ with st := stStopping }, by decide +kernel⟩
theorem witness_StreamTraffic_streamStopLatched :
    ∃ (s : State) (p : Pos) (q : Nat) (x : Queue) (d : Desc) (n : Nat), (inGrid p.col p.row) ∧ (q < 8) ∧ (s.alive (ridx p.col p.row)) ∧ ((s.rill (ridx p.col p.row)).queue q = x) ∧ (x.st = stStopping) ∧
    (x.flights = []) ∧ (x.acqs = []) ∧ (x.latched = some (d, n)) ∧ (x.pendOn) :=
  ⟨rillQ { tileQ with st := stStopping, pendOn := true, latched := some (tileIn, 2) }, ⟨0, 0⟩, 0, { tileQ with st := stStopping, pendOn := true, latched := some (tileIn, 2) }, tileIn, 2, by decide +kernel⟩
theorem witness_StreamTraffic_streamTileIssue :
    ∃ (s : State) (p : Pos) (q : Nat) (x : Queue), (inGrid p.col p.row) ∧ (q < 8) ∧ (s.alive (ridx p.col p.row)) ∧ (((s.rill (ridx p.col p.row)).queue q).takeUp = x) ∧ (x.st = stOn) ∧
    (if x.desc.dir = 0 then x.inAdmits = true else x.desc.dir ≠ 1 ∧ x.moveAdmits = true) :=
  ⟨rillQ { tileQ with st := stOn }, ⟨0, 0⟩, 0, { tileQ with st := stOn }, by decide +kernel⟩
theorem witness_StreamTraffic_streamOutInject :
    ∃ (s u : State) (p : Pos) (q : Nat) (x : Queue) (k : Packet), (inGrid p.col p.row) ∧ (q < 8) ∧ (s.alive (ridx p.col p.row)) ∧ (((s.rill (ridx p.col p.row)).queue q).takeUp = x) ∧ (x.st = stOn) ∧
    (x.outReady) ∧ (x.desc.farKind ≠ 2) ∧ ((s.modQueue (ridx p.col p.row) q Queue.takeUp).outPacket (ridx p.col p.row) q x = .inr k) ∧
    (((s.modQueue (ridx p.col p.row) q Queue.takeUp).fresh.2).inject? { k with xid := s.nextXid } = some u) :=
  ⟨rillQ outQ, _, ⟨0, 0⟩, 0, outQ, _, by decide, by decide, by decide, by decide, by decide, by decide, by decide, rfl, rfl⟩
theorem witness_StreamTraffic_streamOutPush :
    ∃ (s u : State) (p : Pos) (q : Nat) (x : Queue) (k : Packet), (inGrid p.col p.row) ∧ (q < 8) ∧ (s.alive (ridx p.col p.row)) ∧ (((s.rill (ridx p.col p.row)).queue q).takeUp = x) ∧ (x.st = stOn) ∧
    (x.outReady) ∧ (x.desc.farKind = 2) ∧ ((s.modQueue (ridx p.col p.row) q Queue.takeUp).outPacket (ridx p.col p.row) q x = .inr k) ∧
    (((s.modQueue (ridx p.col p.row) q Queue.takeUp).fresh.2).inject? { k with xid := s.nextXid } = some u) :=
  ⟨rillQ outPushQ, _, ⟨0, 0⟩, 0, outPushQ, _, by decide, by decide, by decide, by decide, by decide, by decide, by decide, rfl, rfl⟩
theorem witness_StreamTraffic_streamOutRefused :
    ∃ (s : State) (p : Pos) (q : Nat) (x : Queue) (c : Nat), (inGrid p.col p.row) ∧ (q < 8) ∧ (s.alive (ridx p.col p.row)) ∧ (((s.rill (ridx p.col p.row)).queue q).takeUp = x) ∧ (x.st = stOn) ∧
    (x.outReady) ∧ ((s.modQueue (ridx p.col p.row) q Queue.takeUp).outPacket (ridx p.col p.row) q x = .inl c) :=
  ⟨rillQ { outQ with arms := [⟨0, { tileIn with dir := 1, prefetch := 0, farKind := 0, memEp := 0, farBase := 2 ^ 37 }, 0⟩] }, ⟨0, 0⟩, 0, { outQ with arms := [⟨0, { tileIn with dir := 1, prefetch := 0, farKind := 0, memEp := 0, farBase := 2 ^ 37 }, 0⟩] }, cMalformed, by decide +kernel⟩
theorem witness_StreamTraffic_streamOutUnreachable :
    ∃ (s : State) (p : Pos) (q : Nat) (x : Queue) (k : Packet), (inGrid p.col p.row) ∧ (q < 8) ∧ (s.alive (ridx p.col p.row)) ∧ (((s.rill (ridx p.col p.row)).queue q).takeUp = x) ∧ (x.st = stOn) ∧
    (x.outReady) ∧ ((s.modQueue (ridx p.col p.row) q Queue.takeUp).outPacket (ridx p.col p.row) q x = .inr k) ∧
    (((s.modQueue (ridx p.col p.row) q Queue.takeUp).fresh.2).inject? { k with xid := s.nextXid } = none) :=
  ⟨{ rillQ outPoolQ with regs := [(aDead 0 0, 0x80000000 + 1 + 1 * 2 ^ 7)] }, ⟨0, 0⟩, 0, outPoolQ, _, by decide, by decide, by decide, by decide, by decide, by decide, rfl, by decide⟩
theorem witness_FabricEvents_holePacketArrival :
    ∃ (s : State) (i : Nat) (p : Packet) (a : Packet), (s.deliverable i = some p) ∧ (p.edge = false) ∧ ((s.cmtState p.rillIdx = 1 ∨ (s.cmtState p.rillIdx = 0 ∧ (s.rill p.rillIdx).failed))) ∧
    ((if p.pool then (s.rill p.rillIdx).poolRouterFailed else (s.rill p.rillIdx).routerFailed) = false) ∧ (p.abort = false) ∧
    (checkPacket p (some (s.rill p.rillIdx).ctx) (s.rill p.rillIdx).epoch true true = none) ∧ (p.holeAnswer = some a) :=
  ⟨holeNet { pk 1 with ackReq := true }, 0, { pk 1 with ackReq := true }, { pk 1 with ackReq := true }.ack cHoleCreated, by decide +kernel⟩
theorem witness_FabricEvents_holeSilent :
    ∃ (s : State) (i : Nat) (p : Packet), (s.deliverable i = some p) ∧ (p.edge = false) ∧ ((s.cmtState p.rillIdx = 1 ∨ (s.cmtState p.rillIdx = 0 ∧ (s.rill p.rillIdx).failed))) ∧
    ((if p.pool then (s.rill p.rillIdx).poolRouterFailed else (s.rill p.rillIdx).routerFailed) = false) ∧ (p.abort = false) ∧
    (checkPacket p (some (s.rill p.rillIdx).ctx) (s.rill p.rillIdx).epoch true true = none) ∧ (p.holeAnswer = none) :=
  ⟨holeNet (pk 1), 0, pk 1, by decide +kernel⟩
theorem witness_FabricEvents_holeRefused :
    ∃ (s : State) (i : Nat) (p : Packet) (a : Packet) (c : Option Nat), (s.deliverable i = some p) ∧ (p.edge = false) ∧ ((s.cmtState p.rillIdx = 1 ∨ (s.cmtState p.rillIdx = 0 ∧ (s.rill p.rillIdx).failed))) ∧
    ((if p.pool then (s.rill p.rillIdx).poolRouterFailed else (s.rill p.rillIdx).routerFailed) = false) ∧ (p.abort = false) ∧
    (checkPacket p (some (s.rill p.rillIdx).ctx) (s.rill p.rillIdx).epoch true true = some c) ∧ ((p.resp && c == some cStaleEpoch) = false) ∧
    (p.holeAnswer = some a) :=
  ⟨holeNet { pk 1 with ackReq := true, ctx := 5 }, 0, { pk 1 with ackReq := true, ctx := 5 }, { pk 1 with ackReq := true, ctx := 5 }.ack cHoleCreated, some cAuthFail, by decide +kernel⟩
theorem witness_FabricEvents_holeAborted :
    ∃ (s : State) (i : Nat) (p : Packet), (s.deliverable i = some p) ∧ (p.edge = false) ∧ ((s.cmtState p.rillIdx = 1 ∨ (s.cmtState p.rillIdx = 0 ∧ (s.rill p.rillIdx).failed))) ∧
    ((if p.pool then (s.rill p.rillIdx).poolRouterFailed else (s.rill p.rillIdx).routerFailed) = false) ∧ (p.abort) :=
  ⟨holeNet { pk 1 with abort := true }, 0, { pk 1 with abort := true }, by decide +kernel⟩
theorem witness_FabricEvents_deadRouter :
    ∃ (s : State) (i : Nat) (p : Packet), (s.deliverable i = some p) ∧ (p.edge = false) ∧ ((s.cmtState p.rillIdx ≠ 0 ∨ (s.rill p.rillIdx).failed)) ∧
    (((if p.pool then (s.rill p.rillIdx).poolRouterFailed else (s.rill p.rillIdx).routerFailed) = true ∨ s.cmtState p.rillIdx = 2 ∨ s.cmtState p.rillIdx = 3)) :=
  ⟨netRill (pk 1) id (fun r => { r with failed := true, routerFailed := true }), 0, pk 1, by decide +kernel⟩
theorem witness_FabricEvents_packetAgeDiscard :
    ∃ (s : State) (i : Nat) (p : Packet) (r : Pos) (c : Nat), (inGrid r.col r.row) ∧ (s.net[i]? = some p) ∧ (p.passes r) ∧ (2 ^ 30 ≤ (max c s.clk.cycle % 2 ^ 32 + 2 ^ 32 - p.age) % 2 ^ 32) :=
  ⟨netWith (pk 1), 0, pk 1, ⟨0, 0⟩, 1073741824, by decide +kernel⟩
theorem witness_FabricEvents_flitCorrected :
    ∃ (s : State) (i : Nat) (p : Packet) (r : Pos) (n : Nat), (inGrid r.col r.row) ∧ (s.net[i]? = some p) ∧ (p.passes r) :=
  ⟨netWith (pk 1), 0, pk 1, ⟨0, 0⟩, 5, by decide +kernel⟩
theorem witness_FabricEvents_flitPayload :
    ∃ (s : State) (i : Nat) (p : Packet) (r : Pos) (n : Nat), (inGrid r.col r.row) ∧ (s.net[i]? = some p) ∧ (p.passes r) ∧
    ((within (if p.pool then (s.rill (ridx r.col r.row)).poolErrTimes else (s.rill (ridx r.col r.row)).linkErrTimes) (s.atTime n).clk.now 1000000).length < 15) :=
  ⟨netWith (pk 1), 0, pk 1, ⟨0, 0⟩, 5, by decide +kernel⟩
theorem witness_FabricEvents_flitHeader :
    ∃ (s : State) (i : Nat) (p : Packet) (r : Pos) (n : Nat), (inGrid r.col r.row) ∧ (s.net[i]? = some p) ∧ (p.passes r) ∧
    ((within (if p.pool then (s.rill (ridx r.col r.row)).poolErrTimes else (s.rill (ridx r.col r.row)).linkErrTimes) (s.atTime n).clk.now 1000000).length < 15) :=
  ⟨netWith (pk 1), 0, pk 1, ⟨0, 0⟩, 5, by decide +kernel⟩
theorem witness_FabricEvents_flitRouterFails :
    ∃ (s : State) (i : Nat) (p : Packet) (r : Pos) (n : Nat) (e : FlitError), (inGrid r.col r.row) ∧ (s.net[i]? = some p) ∧ (p.passes r) ∧ (e ≠ .corrected) ∧
    (15 ≤ (within (if p.pool then (s.rill (ridx r.col r.row)).poolErrTimes else (s.rill (ridx r.col r.row)).linkErrTimes) (s.atTime n).clk.now 1000000).length) :=
  ⟨netRill (pk 1) id (fun r => { r with linkErrTimes := List.replicate 15 0 }), 0, pk 1, ⟨0, 0⟩, 5, .payload, by decide +kernel⟩
theorem witness_FabricEvents_memoryUncorrError :
    ∃ (s : State) (p : Pos) (line n : Nat), (inGrid p.col p.row) ∧ (s.alive (ridx p.col p.row)) ∧ (line < 768) :=
  ⟨State.reset, ⟨0, 0⟩, 767, 5, by decide +kernel⟩
theorem witness_FabricEvents_storeErrorThird :
    ∃ (s : State) (p : Pos) (line n : Nat) (l : List Nat), (inGrid p.col p.row) ∧ (s.alive (ridx p.col p.row)) ∧ (line < 768) ∧
    ((s.atTime n).clk.now :: within (s.rill (ridx p.col p.row)).errTimes (s.atTime n).clk.now 1000000000 = l) ∧ (3 ≤ l.length) :=
  ⟨rillWith 0 id (fun r => { r with errTimes := [1, 2] }), ⟨0, 0⟩, 767, 5, [5, 1, 2], by decide +kernel⟩
theorem witness_FabricEvents_storeErrorFew :
    ∃ (s : State) (p : Pos) (line n : Nat) (l : List Nat), (inGrid p.col p.row) ∧ (s.alive (ridx p.col p.row)) ∧ (line < 768) ∧
    ((s.atTime n).clk.now :: within (s.rill (ridx p.col p.row)).errTimes (s.atTime n).clk.now 1000000000 = l) ∧ (l.length < 3) :=
  ⟨rillWith 0 id (fun r => { r with errTimes := [1] }), ⟨0, 0⟩, 0, 5, [5, 1], by decide +kernel⟩
theorem witness_FabricEvents_poolUncorrError :
    ∃ (s : State) (p : Pos) (line n : Nat), (inGrid p.col p.row) ∧ (s.alive (ridx p.col p.row)) ∧ (line < 1024) :=
  ⟨State.reset, ⟨0, 0⟩, 1023, 5, by decide +kernel⟩
theorem witness_FabricEvents_poolErrorThird :
    ∃ (s : State) (p : Pos) (line n : Nat) (l : List Nat), (inGrid p.col p.row) ∧ (s.alive (ridx p.col p.row)) ∧ (line < 1024) ∧
    ((s.atTime n).clk.now :: within (s.rill (ridx p.col p.row)).errTimes (s.atTime n).clk.now 1000000000 = l) ∧ (3 ≤ l.length) :=
  ⟨rillWith 0 id (fun r => { r with errTimes := [1, 2] }), ⟨0, 0⟩, 1023, 5, [5, 1, 2], by decide +kernel⟩
theorem witness_MemoryRequests_sread :
    ∃ (s : State) (i : Nat) (p : Packet), (s.edgeGets i 0x10 p) ∧ (s.xlEarly p.ctx p.addr p.len = none) :=
  ⟨xlOn (mpk 0x10), 0, mpk 0x10, by decide +kernel⟩
theorem witness_MemoryRequests_sreadFails :
    ∃ (s : State) (i : Nat) (p : Packet) (e : XlFail), (s.edgeGets i 0x10 p) ∧ (s.xlEarly p.ctx p.addr p.len = some e) :=
  ⟨netWith (mpk 0x10), 0, mpk 0x10, _, by decide, rfl⟩
theorem witness_MemoryRequests_swrite :
    ∃ (s : State) (i : Nat) (p : Packet), (s.edgeGets i 0x12 p) ∧ (s.xlEarly p.ctx p.addr p.len = none) :=
  ⟨xlOn (mpk 0x12), 0, mpk 0x12, by decide +kernel⟩
theorem witness_MemoryRequests_swriteFails :
    ∃ (s : State) (i : Nat) (p : Packet) (e : XlFail), (s.edgeGets i 0x12 p) ∧ (s.xlEarly p.ctx p.addr p.len = some e) :=
  ⟨netWith (mpk 0x12), 0, mpk 0x12, _, by decide, rfl⟩
theorem witness_MemoryRequests_sfill :
    ∃ (s : State) (i : Nat) (p : Packet), (s.edgeGets i 0x13 p) ∧ (s.xlEarly p.ctx p.addr p.len = none) :=
  ⟨xlOn (mpk 0x13), 0, mpk 0x13, by decide +kernel⟩
theorem witness_MemoryRequests_sfillFails :
    ∃ (s : State) (i : Nat) (p : Packet) (e : XlFail), (s.edgeGets i 0x13 p) ∧ (s.xlEarly p.ctx p.addr p.len = some e) :=
  ⟨netWith (mpk 0x13), 0, mpk 0x13, _, by decide, rfl⟩
theorem witness_MemoryRequests_sdrain :
    ∃ (s : State) (i : Nat) (p : Packet), (s.edgeGets i 0x14 p) ∧ (s.xlEarly p.ctx p.addr p.len = none) :=
  ⟨xlOn (mpk 0x14), 0, mpk 0x14, by decide +kernel⟩
theorem witness_MemoryRequests_sdrainFails :
    ∃ (s : State) (i : Nat) (p : Packet) (e : XlFail), (s.edgeGets i 0x14 p) ∧ (s.xlEarly p.ctx p.addr p.len = some e) :=
  ⟨netWith (mpk 0x14), 0, mpk 0x14, _, by decide, rfl⟩
theorem witness_MemoryRequestsEnd_translationWalkDone :
    ∃ (s : State) (i : Nat) (c : Corrected) (r : MemReq) (t : State) (x : Nat) (w : Tlb), (s.memReqs[i]? = some r) ∧ (r.walk = some x) ∧ ((s.eccCorr c).walkEnd (memUnit r.pkt.dcol) r.pkt.ctx x = (.inr w, t)) :=
  ⟨walkIn, 0, [], { mreq 0x10 0 8 with walk := some 0 }, _, 0, _, by decide, by decide, rfl⟩
theorem witness_MemoryRequestsEnd_walkFails :
    ∃ (s : State) (i : Nat) (c : Corrected) (r : MemReq) (t : State) (x : Nat) (e : XlFail), (s.memReqs[i]? = some r) ∧ (r.walk = some x) ∧ ((s.eccCorr c).walkEnd (memUnit r.pkt.dcol) r.pkt.ctx x = (.inl e, t)) :=
  ⟨reqs [{ mreq 0x10 0 8 with walk := some 0 }], 0, [], { mreq 0x10 0 8 with walk := some 0 }, _, 0, _, by decide, by decide, rfl⟩
theorem witness_MemoryRequestsEnd_noWalk :
    ∃ (s : State) (i : Nat) (c : Corrected) (r : MemReq), (s.memReqs[i]? = some r) ∧ (r.walk = none) :=
  ⟨reqs [mreq 0x10 1 8], 0, [], mreq 0x10 1 8, by decide +kernel⟩
theorem witness_MemoryRequestsEnd_stackAccessComplete :
    ∃ (s : State) (i : Nat) (c : Corrected) (r : MemReq), (s.memReqs[i]? = some r) ∧ (r.stage = 1) ∧ (s.turnOf i r) ∧ ((s.eccCorr c).segsKind r.segs = none) ∧ (r.pkt.kind = 0x10) :=
  ⟨reqs [mreq 0x10 1 8], 0, [3], mreq 0x10 1 8, by decide +kernel⟩
theorem witness_MemoryRequestsEnd_stackWrite :
    ∃ (s : State) (i : Nat) (c : Corrected) (r : MemReq), (s.memReqs[i]? = some r) ∧ (r.stage = 1) ∧ ((s.eccCorr c).segsKind r.segs = none) ∧ (r.pkt.kind = 0x12) :=
  ⟨reqs [mreq 0x12 1 8], 0, [], mreq 0x12 1 8, by decide +kernel⟩
theorem witness_MemoryRequestsEnd_stackFill :
    ∃ (s : State) (i : Nat) (c : Corrected) (r : MemReq), (s.memReqs[i]? = some r) ∧ (r.stage = 1) ∧ ((s.eccCorr c).segsKind r.segs = none) ∧ (r.pkt.kind = 0x13) :=
  ⟨reqs [mreq 0x13 1 8], 0, [], mreq 0x13 1 8, by decide +kernel⟩
theorem witness_MemoryRequestsEnd_stackDrain :
    ∃ (s : State) (i : Nat) (c : Corrected) (r : MemReq), (s.memReqs[i]? = some r) ∧ (r.stage = 1) ∧ ((s.eccCorr c).segsKind r.segs = none) ∧ (r.pkt.kind = 0x14) :=
  ⟨reqs [mreq 0x14 1 8], 0, [], mreq 0x14 1 8, by decide +kernel⟩
theorem witness_MemoryRequestsEnd_stackDrained :
    ∃ (s : State) (i : Nat) (c : Corrected) (r : MemReq), (s.memReqs[i]? = some r) ∧ (r.stage = 3) ∧ ((s.eccCorr c).segsKind r.segs = none) ∧ (r.pkt.kind = 0x14) :=
  ⟨reqs [mreq 0x14 3 8], 0, [], mreq 0x14 3 8, by decide +kernel⟩
theorem witness_MemoryRequestsEnd_stackLost :
    ∃ (s : State) (i : Nat) (c : Corrected) (r : MemReq) (k : Nat), (s.memReqs[i]? = some r) ∧ ((r.stage = 1 ∨ r.stage = 3)) ∧ (s.turnOf i r) ∧ ((s.eccCorr c).segsKind r.segs = some k) :=
  ⟨reqs [{ mreq 0x10 1 8 with segs := [(0, 0, 8)] }], 0, [], { mreq 0x10 1 8 with segs := [(0, 0, 8)] }, 10, by decide +kernel⟩
theorem witness_StackEvents_stackTrainingDone :
    ∃ (s : State) (pos n : Nat), (pos < 24) ∧ (s.fitted pos) ∧ (s.pst clsStack pos = stStarting) :=
  ⟨stk stStarting, 23, 5, by decide +kernel⟩
theorem witness_StackEvents_trainingFails :
    ∃ (s : State) (pos n : Nat), (pos < 24) ∧ (s.fitted pos) ∧ (s.pst clsStack pos = stStarting) :=
  ⟨stk stStarting, 23, 5, by decide +kernel⟩
theorem witness_StackEvents_stackTempSample :
    ∃ (s : State) (pos x : Nat), (pos < 24) ∧ (s.fitted pos) ∧ ((x < 95 ∨ s.regB (aStk pos 0x100) 3 = true)) :=
  ⟨stk stOn, 23, 94, by decide +kernel⟩
theorem witness_StackEvents_tempHot :
    ∃ (s : State) (pos x : Nat), (pos < 24) ∧ (s.fitted pos) ∧ (95 ≤ x) ∧ (s.regB (aStk pos 0x100) 3 = false) :=
  ⟨stk stOn, 23, 95, by decide +kernel⟩
theorem witness_StackEvents_stackUncorrError :
    ∃ (s : State) (pos x n : Nat), (pos < 24) ∧ (s.isOn clsStack pos) ∧ (x < 96 * 2 ^ 30) ∧
    (((look [] s.stackErrs pos).filter (fun u => inWindow (s.atTime n).clk.now u 1000000000)).length < 4096) :=
  ⟨stk stOn, 23, 103079215103, 5, by decide +kernel⟩
theorem witness_StackEvents_stackFail :
    ∃ (s : State) (pos : Nat), (pos < 24) ∧ (s.isOn clsStack pos) :=
  ⟨stk stOn, 23, by decide +kernel⟩
theorem witness_TranslationPages_translationStartDone :
    ∃ (s : State) (x : Nat), (x < 17) ∧ (s.pst clsXl x = stStarting) ∧ (s.stage = 4) ∧ (s.setOk x 0) ∧ (s.setOk x (s.regF (aXl x 0x100) 0 2)) :=
  ⟨xlPage stStarting, 16, by decide +kernel⟩
theorem witness_TranslationPages_startBadSet :
    ∃ (s : State) (x : Nat), (x < 17) ∧ (s.pst clsXl x = stStarting) ∧ (s.stage = 4) ∧ (s.setOk x 0 = false) :=
  ⟨(xlPage stStarting).setB (aXl 16 0x108) 31 false, 16, by decide +kernel⟩
theorem witness_TranslationPages_translationStopDone :
    ∃ (s : State) (x : Nat), (x < 17) ∧ (s.pst clsXl x = stStopping) ∧ (∀ r ∈ s.memReqs, r.pkt.ctx ≠ x) :=
  ⟨xlPage stStopping, 16, by decide +kernel⟩
theorem witness_TranslationPages_setWrite :
    ∃ (s : State) (x k : Nat) (v : W32), (x < 17) ∧ (k < 4) ∧ (s.served) ∧ (s.pst clsXl x = stOff) ∧ (bitOf v 31 = true → s.setWritable x v = true) :=
  ⟨xlPage stOff, 16, 3, 0x7FFFFFFF, by decide +kernel⟩
theorem witness_TranslationPages_rootLow :
    ∃ (s : State) (x : Nat) (v : W32), (x < 17) ∧ (s.served) ∧ (s.pst clsXl x = stOff) :=
  ⟨xlPage stOff, 16, 0xFFFFFFFF, by decide +kernel⟩
theorem witness_TranslationPages_rootHigh :
    ∃ (s : State) (x : Nat) (v lo : W32), (x < 17) ∧ (s.served) ∧ (s.pst clsXl x = stOff) ∧ (look (s.reg (aXl x 0x100)) s.staged (aXl x 0x100) = lo) :=
  ⟨xlPage stOff, 16, 0xFFFFFFFF, 0, by decide +kernel⟩
theorem witness_TranslationPages_setNotOff :
    ∃ (s : State) (x k : Nat) (v : W32), (x < 17) ∧ (k < 6) ∧ (s.served) ∧ (s.pst clsXl x ≠ stOff) :=
  ⟨xlPage stOn, 16, 3, 0, by decide +kernel⟩
theorem witness_TranslationPages_setBad :
    ∃ (s : State) (x k : Nat) (v : W32), (x < 17) ∧ (k < 4) ∧ (s.served) ∧ (s.pst clsXl x = stOff) ∧ (bitOf v 31) ∧ (s.setWritable x v = false) :=
  ⟨xlPage stOff, 16, 3, 0x80000000 + 24 * 2 ^ 24, by decide +kernel⟩
theorem witness_TranslationPages_invalGo :
    ∃ (s : State) (x : Nat) (b : Bool), (x < 17) ∧ (s.served) ∧ ((s.setB (aXl x 0x118) 1 b).regB (aXl x 0x118) 2 = false) :=
  ⟨xlPage stOn, 16, true, by decide +kernel⟩
theorem witness_TranslationPages_invalPending :
    ∃ (s : State) (x : Nat) (b : Bool), (x < 17) ∧ (s.served) ∧ ((s.setB (aXl x 0x118) 1 b).regB (aXl x 0x118) 2 = true) :=
  ⟨(xlPage stOn).setB (aXl 16 0x118) 2 true, 16, true, by decide +kernel⟩
theorem witness_TranslationPages_invalDone :
    ∃ (s : State) (x : Nat), (x < 17) ∧ (s.regB (aXl x 0x118) 2) ∧ (∀ r ∈ s.memReqs, r.pkt.ctx = x → r.old = false ∧ (r.walk.isSome → r.walkOld = false)) ∧
    ((s.setB (aXl x 0x118) 2 false).regB (aXl x 0x118) 3 = false) :=
  ⟨State.reset.setB (aXl 16 0x118) 2 true, 16, by decide +kernel⟩
theorem witness_TranslationPages_invalNext :
    ∃ (s : State) (x : Nat), (x < 17) ∧ (s.regB (aXl x 0x118) 2) ∧ (∀ r ∈ s.memReqs, r.pkt.ctx = x → r.old = false ∧ (r.walk.isSome → r.walkOld = false)) ∧
    ((s.setB (aXl x 0x118) 2 false).regB (aXl x 0x118) 3) :=
  ⟨(State.reset.setB (aXl 16 0x118) 2 true).setB (aXl 16 0x118) 3 true, 16, by decide +kernel⟩
theorem witness_TranslationPages_invalWaits :
    ∃ (s : State) (x : Nat) (r : MemReq), (x < 17) ∧ (r ∈ s.memReqs) ∧ (r.pkt.ctx = x) ∧ ((r.old = true ∨ (r.walk.isSome ∧ r.walkOld = true))) :=
  ⟨reqs [{ mreq 0x10 0 8 with old := true }], 0, { mreq 0x10 0 8 with old := true }, by decide +kernel⟩
theorem witness_TranslationPages_xlFaultClear :
    ∃ (s : State) (x : Nat), (x < 17) ∧ (s.served) :=
  ⟨xlPage stOn, 16, by decide +kernel⟩
theorem witness_Bar2Aperture_bar2Read :
    ∃ (s t : State) (f x n : Nat) (tl : Tlp) (c : Corrected) (l : List (Nat × Nat × Nat)), (f < 17) ∧ (s.fnUp f) ∧ (x + n ≤ 64 * 2 ^ 30) ∧ (tl.ats = false) ∧ (s.tlpIn.tlpOut.ideIn f tl) ∧ (s.tlpIn.tlpOut.served) ∧
    ((s.tlpIn.tlpOut.eccCorr c).bar2Segs f x n false = (some l, t)) :=
  ⟨bar2On, _, 0, 68719476735, 1, ⟨none, false⟩, [0], _, by decide, by decide, by decide, by decide, by decide, by decide, rfl⟩
theorem witness_Bar2Aperture_readFails :
    ∃ (s t : State) (f x n : Nat) (tl : Tlp) (c : Corrected), (f < 17) ∧ (s.fnUp f) ∧ (x + n ≤ 64 * 2 ^ 30) ∧ (tl.ats = false) ∧ (s.tlpIn.tlpOut.ideIn f tl) ∧ (s.tlpIn.tlpOut.served) ∧
    ((s.tlpIn.tlpOut.eccCorr c).bar2Segs f x n false = (none, t)) :=
  ⟨hostUp.setF 0x108 0 3 4, _, 0, 0, 4, ⟨none, false⟩, [], by decide, by decide, by decide, by decide, by decide, by decide, rfl⟩
theorem witness_Bar2Aperture_readEarly :
    ∃ (s : State) (f x n : Nat) (tl : Tlp) (c : Corrected), (f < 17) ∧ (s.fnUp f) ∧ (x + n ≤ 64 * 2 ^ 30) ∧ (tl.ats = false) ∧ (s.tlpIn.tlpOut.ideIn f tl) ∧ (s.tlpIn.tlpOut.served = false) :=
  ⟨hostUp, 0, 0, 4, ⟨none, false⟩, [], by decide +kernel⟩
theorem witness_Bar2Aperture_readRefused :
    ∃ (s : State) (f x n : Nat) (tl : Tlp) (c : Corrected), (f < 17) ∧ (s.fnUp f) ∧ (x + n ≤ 64 * 2 ^ 30) ∧ ((tl.ats = true ∨ s.tlpIn.tlpOut.ideIn f tl = false)) :=
  ⟨hostUp.setReg (aPt 0 0) 0x10, 0, 0, 4, ⟨some 1, false⟩, [], by decide +kernel⟩
theorem witness_Bar2Aperture_bar2Write :
    ∃ (s t : State) (f x : Nat) (b : List Byte) (tl : Tlp) (c : Corrected) (l : List (Nat × Nat × Nat)), (f < 17) ∧ (s.fnUp f) ∧ (x + b.length ≤ 64 * 2 ^ 30) ∧ (tl.ats = false) ∧ (s.tlpIn.ideIn f tl) ∧ (s.tlpIn.served) ∧
    ((s.tlpIn.eccCorr c).bar2Segs f x b.length true = (some l, t)) :=
  ⟨bar2On, _, 0, 0, [1], ⟨none, false⟩, [], _, by decide, by decide, by decide, by decide, by decide, by decide, rfl⟩
theorem witness_Bar2Aperture_writeFails :
    ∃ (s t : State) (f x : Nat) (b : List Byte) (tl : Tlp) (c : Corrected), (f < 17) ∧ (s.fnUp f) ∧ (x + b.length ≤ 64 * 2 ^ 30) ∧ (tl.ats = false) ∧ (s.tlpIn.ideIn f tl) ∧ (s.tlpIn.served) ∧
    ((s.tlpIn.eccCorr c).bar2Segs f x b.length true = (none, t)) :=
  ⟨hostUp.setF 0x108 0 3 4, _, 0, 0, [1], ⟨none, false⟩, [], by decide, by decide, by decide, by decide, by decide, by decide, rfl⟩
theorem witness_Bar2Aperture_writeAts :
    ∃ (s : State) (f x : Nat) (b : List Byte) (tl : Tlp) (c : Corrected), (f < 17) ∧ (s.fnUp f) ∧ (x + b.length ≤ 64 * 2 ^ 30) ∧ (tl.ats) :=
  ⟨hostUp, 0, 0, [1], ⟨none, true⟩, [], by decide +kernel⟩
theorem witness_Bar2Aperture_writeDropped :
    ∃ (s : State) (f x : Nat) (b : List Byte) (tl : Tlp) (c : Corrected), (f < 17) ∧ (s.fnUp f) ∧ (x + b.length ≤ 64 * 2 ^ 30) ∧ (tl.ats = false) ∧ ((s.tlpIn.ideIn f tl = false ∨ s.tlpIn.served = false)) :=
  ⟨hostUp.setReg (aPt 0 0) 0x10, 0, 0, [1], ⟨none, false⟩, [], by decide +kernel⟩
theorem witness_HeadwaterStreams_hwOpen :
    ∃ (s : State) (i : Nat) (p : Packet), (s.edgeGets i 0x20 p) ∧
    (((s.takePacket i p).rebindAll p.ctx 65536).hwRefusal p.dcol p.ctx (parseDesc p.payload) (at' p.payload 0x16 2) true = none) ∧
    (((s.takePacket i p).rebindAll p.ctx 65536).genVerdict p.ctx (parseDesc p.payload).hwLayer (parseDesc p.payload).hwGen = .confirm) :=
  ⟨hwWith [] [] [{ lpk 0x20 with payload := hwDesc.bytes }], 0, { lpk 0x20 with payload := hwDesc.bytes }, by decide +kernel⟩
theorem witness_HeadwaterStreams_hwOpenHeld :
    ∃ (s : State) (i : Nat) (p : Packet), (s.edgeGets i 0x20 p) ∧
    (((s.takePacket i p).rebindAll p.ctx 65536).hwRefusal p.dcol p.ctx (parseDesc p.payload) (at' p.payload 0x16 2) true = none) ∧
    (((s.takePacket i p).rebindAll p.ctx 65536).genVerdict p.ctx (parseDesc p.payload).hwLayer (parseDesc p.payload).hwGen = .held) :=
  ⟨{ hwSwapping with net := [{ lpk 0x20 with payload := hwDesc.bytes }] }, 0, { lpk 0x20 with payload := hwDesc.bytes }, by decide +kernel⟩
theorem witness_HeadwaterStreams_hwOpenRefused :
    ∃ (s : State) (i : Nat) (p : Packet) (code : Nat), (s.edgeGets i 0x20 p) ∧
    (((s.takePacket i p).rebindAll p.ctx 65536).hwRefusal p.dcol p.ctx (parseDesc p.payload) (at' p.payload 0x16 2) true = some code) :=
  ⟨netWith (lpk 0x20), 0, lpk 0x20, cMalformed, by decide +kernel⟩
theorem witness_HeadwaterStreams_hwClose :
    ∃ (s : State) (i : Nat) (p : Packet) (h : HwStream), (s.edgeGets i 0x22 p) ∧ ((s.takePacket i p).hwOf p = some h) :=
  ⟨hwWith [hwStr] [] [lpk 0x22], 0, lpk 0x22, hwStr, by decide +kernel⟩
theorem witness_HeadwaterStreams_hwCloseNone :
    ∃ (s : State) (i : Nat) (p : Packet), (s.edgeGets i 0x22 p) ∧ ((s.takePacket i p).hwOf p = none) :=
  ⟨hwWith [] [] [lpk 0x22], 0, lpk 0x22, by decide +kernel⟩
theorem witness_HeadwaterStreams_hwRearm :
    ∃ (s : State) (i : Nat) (p : Packet) (h : HwStream), (s.edgeGets i 0x23 p) ∧ (((s.takePacket i p).rebindAll p.ctx 65536).hwOf p = some h) :=
  ⟨hwWith [hwStr] [] [lpk 0x23], 0, lpk 0x23, hwStr, by decide +kernel⟩
theorem witness_HeadwaterStreams_hwSend :
    ∃ (s : State) (i : Nat) (p : Packet) (h : HwStream) (r : HwRange) (x : Nat), (s.edgeGets i 0x24 p) ∧ (s.sendBuffer p.dcol + 2 * 8192 ≤ 16 * 2 ^ 20) ∧ ((s.takePacket i p).hwOf p = some h) ∧ (p.poison = false) ∧
    ((s.takePacket i p).slotOfGen h.ctx h.desc.hwGen = some x) ∧
    ((s.takePacket i p).hwRange? h.ctx x true (p.addr % 65536) (p.addr / 65536 % 65536) = some r) ∧ (p.addr / 2 ^ 32 + p.len ≤ r.length) :=
  ⟨hwWith [hwStr] [] [{ lpk 0x24 with len := 64 }], 0, { lpk 0x24 with len := 64 }, hwStr, manRange manSmall 168, 0, by decide +kernel⟩
theorem witness_HeadwaterStreams_hwSendRange :
    ∃ (s : State) (i : Nat) (p : Packet) (h : HwStream) (r : HwRange) (x : Nat), (s.edgeGets i 0x24 p) ∧ (s.sendBuffer p.dcol + 2 * 8192 ≤ 16 * 2 ^ 20) ∧ ((s.takePacket i p).hwOf p = some h) ∧ (p.poison = false) ∧
    ((s.takePacket i p).slotOfGen h.ctx h.desc.hwGen = some x) ∧
    ((s.takePacket i p).hwRange? h.ctx x true (p.addr % 65536) (p.addr / 65536 % 65536) = some r) ∧ (r.length < p.addr / 2 ^ 32 + p.len) :=
  ⟨hwWith [hwStr] [] [{ lpk 0x24 with len := 64, addr := 16384 * 2 ^ 32 }], 0, { lpk 0x24 with len := 64, addr := 16384 * 2 ^ 32 }, hwStr, manRange manSmall 168, 0, by decide +kernel⟩
theorem witness_HeadwaterStreams_hwSendNone :
    ∃ (s : State) (i : Nat) (p : Packet), (s.edgeGets i 0x24 p) ∧ (s.sendBuffer p.dcol + 2 * 8192 ≤ 16 * 2 ^ 20) ∧ ((s.takePacket i p).hwOf p = none) :=
  ⟨hwWith [] [] [lpk 0x24], 0, lpk 0x24, by decide +kernel⟩
theorem witness_HeadwaterStreams_hwSendPoison :
    ∃ (s : State) (i : Nat) (p : Packet) (h : HwStream), (s.edgeGets i 0x24 p) ∧ (s.sendBuffer p.dcol + 2 * 8192 ≤ 16 * 2 ^ 20) ∧ ((s.takePacket i p).hwOf p = some h) ∧ (p.poison) :=
  ⟨hwWith [hwStr] [] [{ lpk 0x24 with poison := true }], 0, { lpk 0x24 with poison := true }, hwStr, by decide +kernel⟩
theorem witness_HeadwaterStreams_hwSendWaits :
    ∃ (s : State) (i : Nat) (p : Packet), (s.edgeGets i 0x24 p) ∧ (16 * 2 ^ 20 < s.sendBuffer p.dcol + 2 * 8192) :=
  ⟨hwWith [] [{ gr with len := 16 * 2 ^ 20 }] [lpk 0x24], 0, lpk 0x24, by decide +kernel⟩
theorem witness_HeadwaterStreams_fetchIssue :
    ∃ (s : State) (port slot f : Nat) (l ask : List Nat) (h : HwStream) (r : HwRange), (streamAt port slot) ∧ ((if port = 32 then s.ideOk h.ctx (r.object + 8256 * f) (8256 * ask.length) else s.isOn clsPort port) = true) ∧
    (s.hw? port slot = some h) ∧ (s.descRange h.ctx h.desc = some r) ∧ (h.frames.length + h.want.length < 32) ∧ (h.failed = false) ∧
    (h.held = false) ∧ (h.desc.dir = 0) ∧
    ((h.needFrames r h.needTiles).filter (fun j => !h.want.contains j && (look? h.frames j).isNone) = f :: l) ∧
    (((List.range (min 8 (min (32 - (h.frames.length + h.want.length)) (6144 - sumL ((s.hws.filter (fun x => portEndpoint x.port == portEndpoint port)).map (fun x => x.frames.length + x.want.length)))))).takeWhile (fun j => (f :: l).contains (f + j))).map (· + f) = ask) ∧
    (ask ≠ []) :=
  ⟨hwWith [{ hwStr with desc := { hwDesc with count := 1 } }] [] [], 0, 0, 0, [], [0], { hwStr with desc := { hwDesc with count := 1 } }, manRange manSmall 144, by decide +kernel⟩
theorem witness_HeadwaterStreams_hostFetchReadDone :
    ∃ (s : State) (slot frame : Nat) (h : HwStream) (r : HwRange), (s.hw? 32 slot = some h) ∧ (s.ideOk h.ctx (r.object + 8256 * frame) 8256) ∧ (s.descRange h.ctx h.desc = some r) ∧ (frame ∈ h.want) ∧
    (at' (readBytes s.host (r.object + 8256 * frame) 8256) 0 1 = 0x31) ∧ (at' (readBytes s.host (r.object + 8256 * frame) 8256) 1 1 = 2) ∧
    (beNat (((readBytes s.host (r.object + 8256 * frame) 8256).drop 12).take 4) = h.desc.hwGen) ∧
    (beNat (((readBytes s.host (r.object + 8256 * frame) 8256).drop 16).take 8) = r.object) ∧
    (beNat (((readBytes s.host (r.object + 8256 * frame) 8256).drop 24).take 8) = frame) :=
  ⟨{ hwWith [{ hwAsking with port := 32 }] [] [] with host := writeBytes [] 0x4000 ([0x31, 2] ++ List.replicate 10 0 ++ beBytes 4 1 ++ beBytes 8 0x4000) }, 0, 0, { hwAsking with port := 32 }, manRange manSmall 144, by decide +kernel⟩
theorem witness_HeadwaterStreams_hostFetchAgain :
    ∃ (s : State) (slot frame : Nat) (h : HwStream) (r : HwRange) (e : Fetch), (s.hw? 32 slot = some h) ∧ (s.ideOk h.ctx (r.object + 8256 * frame) 8256) ∧ (s.descRange h.ctx h.desc = some r) ∧ (frame ∈ h.want) ∧
    (at' (readBytes s.host (r.object + 8256 * frame) 8256) 0 1 ≠ 0x31) ∧ (h.fetchAt? frame = some e) :=
  ⟨hwWith [{ hwAsking with port := 32 }] [] [], 0, 0, { hwAsking with port := 32 }, manRange manSmall 144, ⟨0, 1, [0], 0, 0⟩, by decide +kernel⟩
theorem witness_HeadwaterDatagrams_data :
    ∃ (s : State) (port : Nat) (d : Dgram) (h : HwStream) (r : HwRange) (x : Nat), (port < 32) ∧ (s.isOn clsPort port) ∧ ((s.feedUnit (portEndpoint port) 1 (port % 4) 0 (dgramGauged d)).udpOk port d) ∧ (dgramOk d 2) ∧
    ((s.feedUnit (portEndpoint port) 1 (port % 4) 0 (dgramGauged d)).openReq port d = some h) ∧ (d.index ∈ h.want) ∧
    (look? h.frames d.index = none) ∧ ((s.feedUnit (portEndpoint port) 1 (port % 4) 0 (dgramGauged d)).descRange h.ctx h.desc = some r) ∧
    ((s.feedUnit (portEndpoint port) 1 (port % 4) 0 (dgramGauged d)).slotOfGen h.ctx h.desc.hwGen = some x) :=
  ⟨hwWith [hwAsking] [] [], 0, dg 2 [], hwAsking, manRange manSmall 144, 0, by decide +kernel⟩
theorem witness_HeadwaterDatagrams_dataNotAsked :
    ∃ (s : State) (port : Nat) (d : Dgram) (h : HwStream), (port < 32) ∧ (s.isOn clsPort port) ∧ ((s.feedUnit (portEndpoint port) 1 (port % 4) 0 (dgramGauged d)).udpOk port d) ∧ (dgramOk d 2) ∧
    ((s.feedUnit (portEndpoint port) 1 (port % 4) 0 (dgramGauged d)).openReq port d = some h) ∧ (d.index ∉ h.want) :=
  ⟨hwWith [{ hwStr with fetches := [⟨3, 1, [3], 0, 0⟩] }] [] [], 0, dg 2 [], { hwStr with fetches := [⟨3, 1, [3], 0, 0⟩] }, by decide +kernel⟩
theorem witness_HeadwaterDatagrams_endMsg :
    ∃ (s : State) (port : Nat) (d : Dgram) (h : HwStream) (e : Fetch), (port < 32) ∧ (s.isOn clsPort port) ∧ ((s.feedUnit (portEndpoint port) 1 (port % 4) 0 (dgramGauged d)).udpOk port d) ∧ (dgramOk d 3) ∧
    ((s.feedUnit (portEndpoint port) 1 (port % 4) 0 (dgramGauged d)).openReq port d = some h) ∧ (beNat (d.payload.take 4) = 0) ∧
    (h.fetchAt? d.index = some e) :=
  ⟨hwWith [hwAsking] [] [], 0, dg 3 [0, 0, 0, 0], hwAsking, ⟨0, 1, [0], 0, 0⟩, by decide +kernel⟩
theorem witness_HeadwaterDatagrams_endFaults :
    ∃ (s : State) (port : Nat) (d : Dgram) (h : HwStream), (port < 32) ∧ (s.isOn clsPort port) ∧ ((s.feedUnit (portEndpoint port) 1 (port % 4) 0 (dgramGauged d)).udpOk port d) ∧ (dgramOk d 3) ∧
    ((s.feedUnit (portEndpoint port) 1 (port % 4) 0 (dgramGauged d)).openReq port d = some h) ∧
    ((beNat (d.payload.take 4) = 1 ∨ beNat (d.payload.take 4) = 2)) :=
  ⟨hwWith [hwAsking] [] [], 0, dg 3 [0, 0, 0, 2], hwAsking, by decide +kernel⟩
theorem witness_HeadwaterDatagrams_endDelays :
    ∃ (s : State) (port : Nat) (d : Dgram) (h : HwStream) (e : Fetch), (port < 32) ∧ (s.isOn clsPort port) ∧ ((s.feedUnit (portEndpoint port) 1 (port % 4) 0 (dgramGauged d)).udpOk port d) ∧ (dgramOk d 3) ∧
    ((s.feedUnit (portEndpoint port) 1 (port % 4) 0 (dgramGauged d)).openReq port d = some h) ∧ (beNat (d.payload.take 4) = 3) ∧
    (h.fetchAt? d.index = some e) :=
  ⟨hwWith [hwAsking] [] [], 0, dg 3 [0, 0, 0, 3], hwAsking, ⟨0, 1, [0], 0, 0⟩, by decide +kernel⟩
theorem witness_HeadwaterDatagrams_endOther :
    ∃ (s : State) (port : Nat) (d : Dgram) (h : HwStream), (port < 32) ∧ (s.isOn clsPort port) ∧ ((s.feedUnit (portEndpoint port) 1 (port % 4) 0 (dgramGauged d)).udpOk port d) ∧ (dgramOk d 3) ∧
    ((s.feedUnit (portEndpoint port) 1 (port % 4) 0 (dgramGauged d)).openReq port d = some h) ∧ (3 < beNat (d.payload.take 4)) :=
  ⟨hwWith [hwAsking] [] [], 0, dg 3 [0, 0, 0, 4], hwAsking, by decide +kernel⟩
theorem witness_HeadwaterDatagrams_noRequest :
    ∃ (s : State) (port : Nat) (d : Dgram), (port < 32) ∧ (s.isOn clsPort port) ∧ ((s.feedUnit (portEndpoint port) 1 (port % 4) 0 (dgramGauged d)).openReq port d = none) :=
  ⟨hwWith [] [] [], 0, dg 2 [], by decide +kernel⟩
theorem witness_HeadwaterDatagrams_badDatagram :
    ∃ (s : State) (port : Nat) (d : Dgram), (port < 32) ∧ (s.isOn clsPort port) ∧
    (((s.feedUnit (portEndpoint port) 1 (port % 4) 0 (dgramGauged d)).udpOk port d && dgramOk d 2) = false) :=
  ⟨hwWith [] [] [], 0, { dg 2 [] with sum := 0 }, by decide +kernel⟩
theorem witness_HeadwaterDatagrams_gradAck :
    ∃ (s : State) (port : Nat) (d : Dgram) (g : Grad), (port < 32) ∧ (s.isOn clsPort port) ∧ ((s.feedUnit (portEndpoint port) 1 (port % 4) 0 (dgramGauged d)).udpOk port d) ∧ (dgramOk d 6) ∧
    (d.payload.length = 16) ∧
    (s.grads.find? (fun g => g.sent && g.port == port && g.session == d.session && g.req == d.req && beNat ((d.payload.drop 0).take 8) == g.step && beNat ((d.payload.drop 8).take 4) == g.seq && beNat ((d.payload.drop 14).take 2) == g.rank) = some g) :=
  ⟨hwWith [] [gr] [], 0, dg 6 gr.pre, gr, by decide +kernel⟩
theorem witness_HeadwaterDatagrams_gradAckNone :
    ∃ (s : State) (port : Nat) (d : Dgram), (port < 32) ∧ (s.isOn clsPort port) ∧ (s.grads = []) :=
  ⟨hwWith [] [] [], 0, dg 6 gr.pre, by decide +kernel⟩
theorem witness_HeadwaterDatagrams_fetchRetryTimeout :
    ∃ (s : State) (port slot now : Nat) (h : HwStream) (e : Fetch), (streamAt port slot) ∧ (s.hw? port slot = some h) ∧ (h.failed = false) ∧
    (h.fetches.find? (fun e => !inWindow (max now s.clk.now) e.last (s.retryNs port)) = some e) :=
  ⟨hwWith [hwAsking] [] [], 0, 0, 65535000, hwAsking, ⟨0, 1, [0], 0, 0⟩, by decide +kernel⟩
theorem witness_HeadwaterDatagrams_fetchGivesUp :
    ∃ (s : State) (port slot now : Nat) (r : HwRange) (h : HwStream) (e : Fetch), (streamAt port slot) ∧ (s.hw? port slot = some h) ∧ (h.failed = false) ∧
    (h.fetches.find? (fun e => !inWindow (max now s.clk.now) e.last (s.retryNs port)) = some e) ∧
    ((s.atTime now).descRange h.ctx h.desc = some r) ∧ ((s.atTime now).retryMax h.port ≤ e.attempts) :=
  ⟨hwWith [{ hwStr with fetches := [⟨0, 1, [0], 0, 15⟩] }] [] [], 0, 0, 65535000, manRange manSmall 144, { hwStr with fetches := [⟨0, 1, [0], 0, 15⟩] }, ⟨0, 1, [0], 0, 15⟩, by decide +kernel⟩
theorem witness_HeadwaterDatagrams_gradRetryTimeout :
    ∃ (s : State) (n now : Nat) (g : Grad), (s.grads[n]? = some g) ∧ (g.sent) ∧ (g.port ≠ 32) ∧ (inWindow (max now s.clk.now) g.last (s.retryNs g.port) = false) ∧
    (g.attempts + 1 ≠ (s.atTime now).retryMax g.port) :=
  ⟨hwWith [] [{ gr with attempts := 20 }] [], 0, 65535000, { gr with attempts := 20 }, by decide +kernel⟩
theorem witness_HeadwaterDatagrams_gradLate :
    ∃ (s : State) (n now : Nat) (g : Grad), (s.grads[n]? = some g) ∧ (g.sent) ∧ (g.port ≠ 32) ∧ (inWindow (max now s.clk.now) g.last (s.retryNs g.port) = false) ∧
    (g.attempts + 1 = (((s.atTime now).setGrad { g with attempts := g.attempts + 1 }).incSat (aPort g.port 0x140)).retryMax g.port) :=
  ⟨hwWith [] [{ gr with attempts := 7 }] [], 0, 65535000, { gr with attempts := 7 }, by decide +kernel⟩
theorem witness_HeadwaterDatagrams_hostGradWriteDone :
    ∃ (s : State) (n : Nat) (g : Grad), (s.grads[n]? = some g) ∧ (g.sent) ∧ (g.port = 32) ∧ (s.ideOk g.ctx (g.object + 8256 * g.index) 8256) :=
  ⟨hwWith [] [{ gr with port := 32 }] [], 0, { gr with port := 32 }, by decide +kernel⟩
theorem witness_HeadwaterDatagrams_neighbourDiscovery :
    ∃ (s : State) (port : Nat) (body : List Byte), (port < 32) ∧ (s.isOn clsPort port) ∧ (133 ≤ icmpType body) ∧ (icmpType body ≤ 137) :=
  ⟨hwBound, 0, [135], by decide +kernel⟩
theorem witness_HeadwaterDatagrams_otherDiscovery :
    ∃ (s : State) (port : Nat) (body : List Byte), (port < 32) ∧ (s.isOn clsPort port) ∧ ((icmpType body < 133 ∨ 137 < icmpType body)) :=
  ⟨hwBound, 0, [138], by decide +kernel⟩
theorem witness_HeadwaterDatagrams_echoRequest :
    ∃ (s : State) (port : Nat) (body : List Byte), (port < 32) ∧ (s.isOn clsPort port) ∧ (icmpType body = 128) :=
  ⟨hwBound, 0, [128], by decide +kernel⟩
theorem witness_HeadwaterDatagrams_otherEcho :
    ∃ (s : State) (port : Nat) (body : List Byte), (port < 32) ∧ (s.isOn clsPort port) ∧ (icmpType body ≠ 128) :=
  ⟨hwBound, 0, [129], by decide +kernel⟩
theorem witness_HeadwaterPortsAndBindings_pfcPause :
    ∃ (s : State) (port prio : Nat), (port < 32) ∧ (s.isOn clsPort port) ∧ (s.regB (aPort port 0x100) 0) ∧ (s.regF (aPort port 0x100) 1 3 = prio) :=
  ⟨hwBound.setF (aPort 0 0x100) 0 4 11, 0, 5, by decide +kernel⟩
theorem witness_HeadwaterPortsAndBindings_pfcResume :
    ∃ (s : State) (port prio : Nat), (port < 32) ∧ (s.isOn clsPort port) ∧ (s.regB (aPort port 0x100) 0) ∧ (s.regF (aPort port 0x100) 1 3 = prio) :=
  ⟨hwBound.setF (aPort 0 0x100) 0 4 11, 0, 5, by decide +kernel⟩
theorem witness_HeadwaterPortsAndBindings_headwaterLinkDown :
    ∃ (s : State) (port now : Nat), (port < 32) ∧ (s.isOn clsPort port) :=
  ⟨hwBound, 0, 9, by decide +kernel⟩
theorem witness_HeadwaterPortsAndBindings_headwaterPortUp :
    ∃ (s : State) (port now : Nat), (port < 32) ∧ (s.pst clsPort port = stStarting) ∧ (s.regB (aPort port 0x104) 1) ∧ (s.stage = 4) ∧
    ((match look? s.portLeft port with | some t => !inWindow (max now s.clk.now) t 50000000 | none => true) = true) :=
  ⟨((State.reset.setPst clsPort 3 stStarting).setB (aPort 3 0x104) 1 true).setF 0x108 0 3 4, 3, 9, by decide +kernel⟩
theorem witness_HeadwaterPortsAndBindings_portTooSoon :
    ∃ (s : State) (port now t : Nat), (port < 32) ∧ (look? s.portLeft port = some t) ∧ (inWindow (max now s.clk.now) t 50000000) :=
  ⟨{ State.reset with portLeft := [(3, 7)] }, 3, 49999999, 7, by decide +kernel⟩
theorem witness_HeadwaterPortsAndBindings_bind :
    ∃ (s : State) (ctx slot : Nat), (ctx < 17) ∧ (slot < 2) ∧ (s.served) ∧ (bitOf (s.reg (aPt ctx 0)) 1) :=
  ⟨(State.reset.setRegN (aPt 16 0) 2).setF 0x108 0 3 4, 16, 1, by decide +kernel⟩
theorem witness_HeadwaterPortsAndBindings_bindDone :
    ∃ (s : State) (ctx slot : Nat) (m : List Byte), (ctx < 17) ∧ (slot < 2) ∧ (2 * ctx + slot ∈ s.hwBinding) ∧
    ((({ s with hwBinding := rem s.hwBinding (2 * ctx + slot) } : State).readMan ctx slot).1 = some m) :=
  ⟨manPlaced, 0, 0, manSmall, by decide +kernel⟩
theorem witness_HeadwaterPortsAndBindings_bindRecorded :
    ∃ (s t : State) (ctx slot : Nat) (m : List Byte), (ctx < 17) ∧ (slot < 2) ∧ (2 * ctx + slot ∈ s.hwBinding) ∧
    ((({ s with hwBinding := rem s.hwBinding (2 * ctx + slot) } : State).readMan ctx slot).1 = some m) ∧
    (t = (({ s with hwBinding := rem s.hwBinding (2 * ctx + slot) } : State).readMan ctx slot).2) ∧
    (¬ (manTablesOk m ∧ manDigestOk m ∧ t.hwRank ctx < at' m 0x10 2)) :=
  ⟨manPlaced.setRegN (aHwc 0 0) 1, _, 0, 0, manSmall, by decide, by decide, by decide +kernel, by decide +kernel, rfl, by decide +kernel⟩
theorem witness_HeadwaterPortsAndBindings_bindRefused :
    ∃ (s t : State) (ctx slot : Nat), (ctx < 17) ∧ (slot < 2) ∧ (2 * ctx + slot ∈ s.hwBinding) ∧
    (({ s with hwBinding := rem s.hwBinding (2 * ctx + slot) } : State).readMan ctx slot = (none, t)) :=
  ⟨{ State.reset with hwBinding := [33] }, _, 16, 1, by decide, by decide, by decide, rfl⟩
theorem witness_HeadwaterPortsAndBindings_frontGo :
    ∃ (s : State) (ctx : Nat), (ctx < 17) ∧ (s.served) ∧ (s.hwSwap ctx ≠ 0) ∧ (s.regB (aHwc ctx 4) 7) :=
  ⟨(State.reset.setF (aHwc 3 4) 5 3 5).setF 0x108 0 3 4, 3, by decide +kernel⟩
theorem witness_HeadwaterPortsAndBindings_frontGoOutside :
    ∃ (s : State) (ctx : Nat), (ctx < 17) ∧ (s.hwSwap ctx = 0 ∨ s.regB (aHwc ctx 4) 7 = false) :=
  ⟨State.reset.setF (aHwc 3 4) 5 3 1, 3, by decide +kernel⟩
theorem witness_HeadwaterPortsAndBindings_layerRebind :
    ∃ (s t : State) (ctx now : Nat) (o : LongOp), (ctx < 17) ∧ (t = (s.atTime now).utcApply) ∧ (t.opensLater ctx = false) ∧ (t.rstate ctx = 0) ∧ (t.swapOp ctx = some o) ∧ (o.state ≠ 1) ∧
    (o.state ≠ 2) ∧ ((∀ h ∈ t.hws, h.ctx = ctx → h.claim ≠ some (t.hwFront ctx, t.genOf ctx (t.hwActive ctx)))) ∧ (t.hwSwap ctx = 2) ∧
    (t.hwFront ctx ≠ 0) :=
  ⟨swapRuns 1 2, _, 3, 9, lop 0x24 0, by decide, rfl, by decide +kernel, by decide +kernel, by decide +kernel, by decide +kernel, by decide +kernel, by decide +kernel, by decide +kernel, by decide +kernel⟩
theorem witness_HeadwaterPortsAndBindings_layerZero :
    ∃ (s t : State) (ctx now : Nat) (o : LongOp), (ctx < 17) ∧ (t = (s.atTime now).utcApply) ∧ (t.opensLater ctx = false) ∧ (t.rstate ctx = 0) ∧ (t.swapOp ctx = some o) ∧ (o.state ≠ 1) ∧
    (o.state ≠ 2) ∧ ((∀ h ∈ t.hws, h.ctx = ctx → h.claim ≠ some (t.hwFront ctx, t.genOf ctx (t.hwActive ctx)))) ∧ (t.hwSwap ctx = 1) ∧
    (t.hwFront ctx = 0) ∧ ((if t.regB (aHwc ctx 4) 7 then ctx ∈ t.frontGo else t.reg64 (aHwc ctx 0x20) ≤ grain t.clk.now)) :=
  ⟨swapRuns 0 1, _, 3, 9, lop 0x24 0, by decide, rfl, by decide +kernel, by decide +kernel, by decide +kernel, by decide +kernel, by decide +kernel, by decide +kernel, by decide +kernel, by decide +kernel, by decide +kernel⟩
theorem witness_HeadwaterPortsAndBindings_rebindLocked :
    ∃ (s t : State) (ctx now : Nat), (ctx < 17) ∧ (t = (s.atTime now).utcApply) ∧ (t.hwFront ctx = 0) ∧
    ((if t.regB (aHwc ctx 4) 7 then ctx ∉ t.frontGo else grain t.clk.now < t.reg64 (aHwc ctx 0x20))) :=
  ⟨(swapRuns 0 1).setReg64 (aHwc 3 0x20) 0x1000, _, 3, 9, by decide, rfl, by decide +kernel, by decide +kernel⟩
theorem witness_HeadwaterPortsAndBindings_rebindSuspended :
    ∃ (s t : State) (ctx now : Nat) (o : LongOp), (ctx < 17) ∧ (t = (s.atTime now).utcApply) ∧ (t.swapOp ctx = some o) ∧ ((o.state = 1 ∨ o.state = 2)) :=
  ⟨{ swapRuns 1 2 with ce := [(3, { Engine.init with ops := [lop 0x24 2] })] }, _, 3, 9, lop 0x24 2, by decide, rfl, by decide +kernel, by decide +kernel⟩
theorem witness_HeadwaterPortsAndBindings_rebindBlocked :
    ∃ (s t : State) (ctx now : Nat) (h : HwStream), (ctx < 17) ∧ (t = (s.atTime now).utcApply) ∧ (h ∈ t.hws) ∧ (h.ctx = ctx) ∧ (h.claim = some (t.hwFront ctx, t.genOf ctx (t.hwActive ctx))) :=
  ⟨hwWith [hwStr] [] [], _, 0, 9, hwStr, by decide, rfl, by decide +kernel, by decide +kernel, by decide +kernel⟩
theorem witness_HeadwaterPortsAndBindings_frontMoves :
    ∃ (s : State) (ctx : Nat), (ctx < 17) ∧ (s.hwFront ctx + 1 < 65536) :=
  ⟨State.reset, 16, by decide +kernel⟩
theorem witness_HeadwaterPortsAndBindings_rebindMiddle :
    ∃ (s t : State) (ctx : Nat) (o : LongOp), ((∀ h ∈ s.hws, h.ctx = ctx → h.held = false ∧ h.heldRearm = false)) ∧ (t = (s.frontMoved ctx).hwcSync ctx) ∧ (t.swapOp ctx = some o) ∧
    (s.hwFront ctx + 1 < (t.rebindTold ctx o (s.hwFront ctx)).hwLayers ctx (1 - (t.rebindTold ctx o (s.hwFront ctx)).hwActive ctx)) :=
  ⟨swapRuns 1 2, _, 3, lop 0x24 0, by decide, rfl, by decide +kernel, by decide +kernel⟩
theorem witness_HeadwaterPortsAndBindings_rebindLast :
    ∃ (s t : State) (ctx : Nat) (o : LongOp), ((∀ h ∈ s.hws, h.ctx = ctx → h.held = false ∧ h.heldRearm = false)) ∧ (t = (s.frontMoved ctx).hwcSync ctx) ∧ (t.swapOp ctx = some o) ∧
    ((t.rebindTold ctx o (s.hwFront ctx)).hwLayers ctx (1 - (t.rebindTold ctx o (s.hwFront ctx)).hwActive ctx) ≤ s.hwFront ctx + 1) :=
  ⟨swapRuns 4 2, _, 3, lop 0x24 0, by decide, rfl, by decide +kernel, by decide +kernel⟩
theorem witness_HeadwaterPortsAndBindings_rebindHeld :
    ∃ (s t : State) (ctx : Nat) (o : LongOp) (h : HwStream), (s.hws.filter (fun x => x.ctx == ctx) = [h]) ∧ (h.held) ∧ (h.desc.hwLayer = s.hwFront ctx) ∧
    (t = ((((s.frontMoved ctx).setHw { h with held := false, claim := some (s.hwFront ctx, h.desc.hwGen) }).hwConfirm h 0).hwAfter h.port h.slot).hwcSync ctx) ∧
    (t.swapOp ctx = some o) ∧
    (s.hwFront ctx + 1 < (t.rebindTold ctx o (s.hwFront ctx)).hwLayers ctx (1 - (t.rebindTold ctx o (s.hwFront ctx)).hwActive ctx)) :=
  ⟨{ swapRuns 0 1 with hws := [{ hwStr with ctx := 3, held := true, claim := none }] }, _, 3, lop 0x24 0, { hwStr with ctx := 3, held := true, claim := none }, by decide +kernel, by decide +kernel, by decide +kernel, rfl, by decide +kernel, by decide +kernel⟩
theorem witness_HeadwaterPortsAndBindings_swapEnds :
    ∃ (s : State) (ctx : Nat), (ctx < 17) ∧ (s.hwSwap ctx = 2) :=
  ⟨swapRuns 4 2, 3, by decide +kernel⟩
theorem witness_EztexStreams_ezOpen :
    ∃ (s : State) (i : Nat) (p : Packet), (s.edgeGets i 0x30 p) ∧
    ((s.takePacket i p).ezRefusal ({ ep := p.dcol, col := p.scol, row := p.srow, q := p.tag % 8, ctx := p.ctx, arm := p.arg % 256, desc := parseDesc p.payload, first := 0, rearm := none, lastOff := none, buf := [], limit := 0, bytes := 0, tiles := 0, granted := 0 } : EzStream) (at' p.payload 0x16 2) = 0) ∧
    (s.early = []) :=
  ⟨{ jobUp with net := [{ epk 48 with payload := Desc.bytes (ezDesc 0) }] }, 0, { epk 48 with payload := Desc.bytes (ezDesc 0) }, by decide +kernel⟩
theorem witness_EztexStreams_ezOpenRefused :
    ∃ (s : State) (i : Nat) (p : Packet), (s.edgeGets i 0x30 p) ∧
    ((s.takePacket i p).ezRefusal ({ ep := p.dcol, col := p.scol, row := p.srow, q := p.tag % 8, ctx := p.ctx, arm := p.arg % 256, desc := parseDesc p.payload, first := 0, rearm := none, lastOff := none, buf := [], limit := 0, bytes := 0, tiles := 0, granted := 0 } : EzStream) (at' p.payload 0x16 2) ≠ 0) :=
  ⟨{ State.reset with net := [epk 0x30] }, 0, epk 0x30, by decide +kernel⟩
theorem witness_EztexStreams_ezClose :
    ∃ (s : State) (i : Nat) (p : Packet) (e : EzStream), (s.edgeGets i 0x32 p) ∧ ((s.takePacket i p).ezOf p = some e) :=
  ⟨{ jobUp with net := [epk 0x32], ezs := [ezStr (ezDesc 1)] }, 0, epk 0x32, ezStr (ezDesc 1), by decide +kernel⟩
theorem witness_EztexStreams_ezRearm :
    ∃ (s : State) (i : Nat) (p : Packet) (e : EzStream), (s.edgeGets i 0x33 p) ∧ ((s.takePacket i p).ezOf p = some e) ∧ (e.desc.dir = 1) :=
  ⟨{ jobUp with net := [epk 0x33], ezs := [ezStr (ezDesc 1)] }, 0, epk 0x33, ezStr (ezDesc 1), by decide +kernel⟩
theorem witness_EztexStreams_ezRearmIn :
    ∃ (s : State) (i : Nat) (p : Packet) (e : EzStream), (s.edgeGets i 0x33 p) ∧ ((s.takePacket i p).ezOf p = some e) ∧ (e.desc.dir = 0) :=
  ⟨{ jobUp with net := [epk 0x33], ezs := [ezStr (ezDesc 0)] }, 0, epk 0x33, ezStr (ezDesc 0), by decide +kernel⟩
theorem witness_EztexStreams_ezSend :
    ∃ (s : State) (i : Nat) (p : Packet) (e : EzStream) (j : Nat), (s.edgeGets i 0x35 p) ∧ ((s.takePacket i p).ezOf p = some e) ∧ (e.rearm = none) ∧ (e.desc.dir = 1) ∧ (e.desc.p2p) ∧ (e.buf = []) ∧
    ((s.takePacket i p).jobOf e.ctx = some j) ∧ (e.bytes + p.len ≤ e.limit) :=
  ⟨{ jobUp with net := [epk 0x35], ezs := [ezStr (ezDesc 1)] }, 0, epk 0x35, ezStr (ezDesc 1), 0, by decide +kernel⟩
theorem witness_EztexStreams_ezSendWaits :
    ∃ (s : State) (i : Nat) (p : Packet) (e : EzStream) (j : Nat), (s.edgeGets i 0x35 p) ∧ ((s.takePacket i p).ezOf p = some e) ∧ (e.rearm = none) ∧ (e.desc.dir = 1) ∧ (e.desc.p2p) ∧ (e.buf = []) ∧
    ((s.takePacket i p).jobOf e.ctx = some j) ∧ (e.limit < e.bytes + p.len) :=
  ⟨{ jobUp with net := [{ epk 0x35 with len := 64 }], ezs := [ezStr (ezDesc 1)] }, 0, { epk 0x35 with len := 64 }, ezStr (ezDesc 1), 0, by decide +kernel⟩
theorem witness_EztexStreams_ezContrib :
    ∃ (s : State) (i : Nat) (p : Packet) (e : EzStream) (o : Op) (ck : Option Upset), (s.edgeGets i 0x34 p) ∧ ((s.takePacket i p).ezOf p = some e) ∧ (e.rearm = none) ∧ ((∀ x, e.lastOff = some x → x < p.addr)) ∧
    ((s.seqr p.ctx).ops.find? (fun o => o.opn % 2 ^ 32 == p.arg % 2 ^ 32) = some o) ∧ ((s.takePacket i p).contribOk o p) ∧
    (p.poison = false) ∧
    (meetsRange o.cin (if (s.takePacket i p).doneInput o ∨ o.reduces then reachOf p.scol p.srow else 63) p.addr p.len = false) ∧
    (((s.takePacket i p).doneInput o → ∀ x ∈ o.cin, x.1 ≠ reachOf p.scol p.srow)) :=
  ⟨{ jobUp with net := [epk 0x34], ezs := [ezStr ezContr], seqrs := [(0, { Seqr.init with lists := [⟨0, 0, 9, 0⟩], ops := [{ Op.blank with opn := 5, desc := opVec, stage := 2 }, { Op.blank with desc := opVec, stage := 2 }] })] }, 0, epk 0x34, ezStr ezContr, { Op.blank with desc := opVec, stage := 2 }, none, by decide +kernel, by decide +kernel, by decide +kernel, (by intro x h; cases h), by decide +kernel, by decide +kernel, by decide +kernel, by decide +kernel, (by intro _ x h; cases h)⟩
theorem witness_EztexStreams_contribUnknown :
    ∃ (s : State) (i : Nat) (p : Packet) (e : EzStream) (ck : Option Upset), (s.edgeGets i 0x34 p) ∧ ((s.takePacket i p).ezOf p = some e) ∧ (e.rearm = none) ∧
    ((s.seqr p.ctx).ops.find? (fun o => o.opn % 2 ^ 32 == p.arg % 2 ^ 32) = none) :=
  ⟨{ jobUp with net := [epk 0x34], ezs := [ezStr ezContr] }, 0, epk 0x34, ezStr ezContr, none, by decide +kernel⟩
theorem witness_EztexStreams_contribTwice :
    ∃ (s : State) (i : Nat) (p : Packet) (e : EzStream) (o : Op) (ck : Option Upset), (s.edgeGets i 0x34 p) ∧ ((s.takePacket i p).ezOf p = some e) ∧ (e.rearm = none) ∧ ((∀ x, e.lastOff = some x → x < p.addr)) ∧
    ((s.seqr p.ctx).ops.find? (fun o => o.opn % 2 ^ 32 == p.arg % 2 ^ 32) = some o) ∧ ((s.takePacket i p).contribOk o p) ∧
    (p.poison = false) ∧ (meetsRange o.cin (if (s.takePacket i p).doneInput o ∨ o.reduces then reachOf p.scol p.srow else 63) p.addr p.len) :=
  ⟨{ jobUp with net := [{ epk 0x34 with len := 64 }], ezs := [ezStr ezContr], seqrs := [(0, { Seqr.init with ops := [{ Op.blank with desc := opVec, stage := 2, cin := [(0, 0, 64), (63, 0, 64)] }] })] }, 0, { epk 0x34 with len := 64 }, ezStr ezContr, { Op.blank with desc := opVec, stage := 2, cin := [(0, 0, 64), (63, 0, 64)] }, none, by decide +kernel, by decide +kernel, by decide +kernel, (by intro x h; cases h), by decide +kernel, by decide +kernel, by decide +kernel, by decide +kernel⟩
theorem witness_EztexStreams_contribRefused :
    ∃ (s : State) (i : Nat) (p : Packet) (e : EzStream) (x : Nat), (s.edgeGets i 0x34 p) ∧ ((s.takePacket i p).ezOf p = some e) ∧ (e.rearm = none) ∧ (e.lastOff = some x) ∧ (p.addr ≤ x) :=
  ⟨{ jobUp with net := [epk 0x34], ezs := [{ ezStr ezContr with lastOff := some 0 }] }, 0, epk 0x34, { ezStr ezContr with lastOff := some 0 }, 0, by decide +kernel⟩
theorem witness_EztexStreams_p2p :
    ∃ (s : State) (i : Nat) (r : RxPkt) (e : EzStream) (c : Nat), (s.wireAt? i 5 = some r) ∧ ((s.wireTake i r).jobCtx r.pkt = some c) ∧ (s.chkBad r = false) ∧
    ((s.wireTake i r).ezs.find? (fun e => e.ctx == c && e.desc.p2p && e.desc.dir == 0 && e.desc.peer == r.pkt.srcRank && e.desc.chan == r.pkt.group) = some e) ∧
    (e.rearm = none) ∧ (r.pkt.len = e.desc.tileLen) :=
  ⟨rxIn { jobUp with ezs := [ezStr (ezDesc 0)] } { wp 5 with len := 256 }, 0, ⟨0, { wp 5 with len := 256 }, true⟩, ezStr (ezDesc 0), 0, by decide +kernel⟩
theorem witness_EztexStreams_p2pLength :
    ∃ (s : State) (i : Nat) (r : RxPkt) (e : EzStream) (c : Nat), (s.wireAt? i 5 = some r) ∧ ((s.wireTake i r).jobCtx r.pkt = some c) ∧ (s.chkBad r = false) ∧
    ((s.wireTake i r).ezs.find? (fun e => e.ctx == c && e.desc.p2p && e.desc.dir == 0 && e.desc.peer == r.pkt.srcRank && e.desc.chan == r.pkt.group) = some e) ∧
    (r.pkt.len ≠ e.desc.tileLen) :=
  ⟨rxIn { jobUp with ezs := [ezStr (ezDesc 0)] } (wp 5), 0, ⟨0, wp 5, true⟩, ezStr (ezDesc 0), 0, by decide +kernel⟩
theorem witness_EztexStreams_p2pGrant :
    ∃ (s : State) (i : Nat) (r : RxPkt) (e : EzStream), (s.wireAt? i 6 = some r) ∧ ((s.wireTake i r).ezs.find? (fun e => (s.wireTake i r).grantFor e r.pkt) = some e) :=
  ⟨rxIn { jobUp with ezs := [ezStr (ezDesc 1)] } { wp 6 with arg2 := 512 }, 0, ⟨0, { wp 6 with arg2 := 512 }, true⟩, ezStr (ezDesc 1), by decide +kernel⟩
theorem witness_EztexStreams_p2pBad :
    ∃ (s : State) (i : Nat) (r : RxPkt), (s.wireAt? i 5 = some r) ∧ (s.chkBad r) :=
  ⟨rxIn (jobUp.setB (aLink 0 0x100) 0 true) { wp 5 with len := 256, chk := 1 }, 0, ⟨0, { wp 5 with len := 256, chk := 1 }, true⟩, by decide +kernel⟩
theorem witness_EztexStreams_grantEarly :
    ∃ (s : State) (i : Nat) (r : RxPkt), (s.wireAt? i 6 = some r) ∧ ((s.wireTake i r).ezs.find? (fun e => (s.wireTake i r).grantFor e r.pkt) = none) ∧ (s.early = []) :=
  ⟨rxIn jobUp (wp 6), 0, ⟨0, wp 6, true⟩, by decide +kernel⟩
theorem witness_EztexLinks_codewordReceive :
    ∃ (s : State) (link : Nat) (lanes : Lanes) (cw : Codeword) (n : Nat) (rest : List (List Byte)), (link < 76) ∧ (lanesOk lanes) ∧ (s.linkUp link) ∧ (codewordIn lanes = some (cw, n)) ∧ (cw.seq = ((s.link link).last + 1) % 1024) ∧
    (wholePackets ((s.link link).rxFlits ++ pickFlits cw false).length ((s.link link).rxFlits ++ pickFlits cw false) = ([], rest)) ∧
    ((s.link link).sinceAck < 31) :=
  ⟨{ linkIs stOn with links := [(0, { LinkSt.init with rxLast := some 4 })] }, 0, cwLanes (cwOf 5), cwOf 5, 0, [], by decide +kernel, by decide +kernel, by decide +kernel, cw5_read, by decide +kernel, by decide +kernel, by decide +kernel⟩
theorem witness_EztexLinks_codewordPackets :
    ∃ (s : State) (link : Nat) (lanes : Lanes) (cw : Codeword) (n : Nat) (rest : List (List Byte)) (p : WirePkt), (link < 76) ∧ (lanesOk lanes) ∧ (s.linkUp link) ∧ (codewordIn lanes = some (cw, n)) ∧ (cw.seq = ((s.link link).last + 1) % 1024) ∧
    (wholePackets ((s.link link).rxFlits ++ pickFlits cw false).length ((s.link link).rxFlits ++ pickFlits cw false) = ([(p, true)], rest)) ∧
    ((s.link link).sinceAck < 31) ∧ (p.type = 1) ∧ (p.epoch = (s.link link).peerEpoch) ∧ (p.dstTwin) ∧ (linkDir link ≠ 6) :=
  ⟨linkIs stOn, 0, cwLanes cwHead, cwHead, 0, [], { wp 1 with dstTwin := true }, by decide +kernel, by decide +kernel, by decide +kernel, cwHead_read, by decide +kernel, by decide +kernel, by decide +kernel, by decide +kernel, by decide +kernel, by decide +kernel, by decide +kernel⟩
theorem witness_EztexLinks_codewordAck :
    ∃ (s : State) (link : Nat) (lanes : Lanes) (cw : Codeword) (n : Nat) (rest : List (List Byte)), (link < 76) ∧ (lanesOk lanes) ∧ (s.linkUp link) ∧ (codewordIn lanes = some (cw, n)) ∧ (cw.seq = ((s.link link).last + 1) % 1024) ∧
    (wholePackets ((s.link link).rxFlits ++ pickFlits cw false).length ((s.link link).rxFlits ++ pickFlits cw false) = ([], rest)) ∧
    ((s.link link).sinceAck = 31) ∧ ((s.link link).wait = []) ∧ ((s.link link).lcOut = []) ∧ ((s.link link).unacked.length < 512) :=
  ⟨{ linkIs stOn with links := [(0, { LinkSt.init with rxLast := some 4, sinceAck := 31 })] }, 0, cwLanes (cwOf 5), cwOf 5, 0, [], by decide +kernel, by decide +kernel, by decide +kernel, cw5_read, by decide +kernel, by decide +kernel, by decide +kernel, by decide +kernel, by decide +kernel, by decide +kernel⟩
theorem witness_EztexLinks_codewordBad :
    ∃ (s : State) (link : Nat) (lanes : Lanes), (link < 76) ∧ (lanesOk lanes) ∧ (s.linkUp link) ∧ (codewordIn lanes = none) :=
  ⟨linkIs stOn, 0, noCodeword, by decide +kernel, by decide +kernel, by decide +kernel, noCodeword_read⟩
theorem witness_EztexLinks_codewordOutOfOrder :
    ∃ (s : State) (link : Nat) (lanes : Lanes) (cw : Codeword) (n : Nat), (link < 76) ∧ (lanesOk lanes) ∧ (s.linkUp link) ∧ (codewordIn lanes = some (cw, n)) ∧ (cw.seq ≠ ((s.link link).last + 1) % 1024) :=
  ⟨linkIs stOn, 0, cwLanes (cwOf 5), cwOf 5, 0, by decide +kernel, by decide +kernel, by decide +kernel, cw5_read, by decide +kernel⟩
theorem witness_EztexLinks_idle :
    ∃ (s : State) (link : Nat) (f : LcFlit), (link < 76) ∧ (s.lcFront link 0 = some f) :=
  ⟨{ linkIs stOn with links := [(0, linkSent 0 [lc 0 5])] }, 0, lc 0 5, by decide +kernel⟩
theorem witness_EztexLinks_ackCredit :
    ∃ (s : State) (link : Nat) (f : LcFlit), (link < 76) ∧ (s.lcFront link 1 = some f) :=
  ⟨{ linkIs stOn with links := [(0, linkSent 0 [lc 1 5])] }, 0, lc 1 5, by decide +kernel⟩
theorem witness_EztexLinks_lcNone :
    ∃ (s : State) (link : Nat), (link < 76) ∧ ((s.link link).lcIn = []) :=
  ⟨linkIs stOn, 0, by decide +kernel⟩
theorem witness_EztexLinks_creditTaken :
    ∃ (s : State) (link : Nat) (f : LcFlit), (link < 76) ∧ (s.lcFront link 1 = some f) ∧ ((s.link link).wait = []) ∧ ((s.link link).lcOut = []) :=
  ⟨{ linkIs stOn with links := [(0, linkSent 0 [lc 1 5])] }, 0, lc 1 5, by decide +kernel⟩
theorem witness_EztexLinks_nak :
    ∃ (s : State) (link : Nat) (f : LcFlit), (link < 76) ∧ (s.lcFront link 2 = some f) ∧ ((s.link link).wait = []) ∧ ((s.link link).lcOut = []) ∧
    (∀ e ∈ (s.link link).unacked, e.resent < 16) ∧ (∀ e ∈ (s.link link).unacked, e.cw.seq ≠ f.last) :=
  ⟨{ linkIs stOn with links := [(0, linkSent 3 [lc 2 4])] }, 0, lc 2 4, by decide +kernel⟩
theorem witness_EztexLinks_nakFaults :
    ∃ (s : State) (link : Nat) (f : LcFlit) (e : TxWord), (link < 76) ∧ (s.lcFront link 2 = some f) ∧ (e ∈ ((s.link link).acked f.last).unacked) ∧ (16 ≤ e.resent) :=
  ⟨{ linkIs stOn with links := [(0, linkSent 16 [lc 2 4])] }, 0, lc 2 4, txw 16, by decide +kernel⟩
theorem witness_EztexLinks_linkStopDone :
    ∃ (s : State) (link : Nat), (link < 76) ∧ (s.pst clsLink link = stStopping) ∧ ((s.link link).unacked = []) :=
  ⟨linkIs stStopping, 0, by decide +kernel⟩
theorem witness_EztexLinks_linkStopWaits :
    ∃ (s : State) (link : Nat), (link < 76) ∧ ((s.link link).unacked ≠ []) :=
  ⟨{ linkIs stStopping with links := [(0, linkSent 0 [])] }, 0, by decide +kernel⟩
theorem witness_EztexLinks_eztexLinkDown :
    ∃ (s : State) (link : Nat), (link < 76) ∧ (s.linkUp link) :=
  ⟨State.reset.setPst clsLink 75 stOn, 75, by decide +kernel⟩
theorem witness_EztexTrainingAndTransit_train :
    ∃ (s : State) (link : Nat) (f : TrainFlit), (link < 76) ∧ (f.crcOk) ∧ (s.pst clsLink link = stStarting) ∧ (s.stage = 4) ∧ (s.trainReason link f = 0) :=
  ⟨((linkIs stStarting).setRegN (rg clsRank 0 0x104) 0x010404).setF 0x108 0 3 4, 0, { coord := { x := 0, y := 1, z := 0 }, plane := 0, dir := 3, bundle := 0, mode := 0, z2 := false, epoch := 9, crcOk := true }, by decide +kernel⟩
theorem witness_EztexTrainingAndTransit_trainRefused :
    ∃ (s : State) (link : Nat) (f : TrainFlit), (link < 76) ∧ (f.crcOk) ∧ (s.pst clsLink link = stStarting) ∧ (s.stage = 4) ∧ (s.trainReason link f ≠ 0) :=
  ⟨(linkIs stStarting).setF 0x108 0 3 4, 0, { coord := { x := 1, y := 0, z := 0 }, plane := 0, dir := 4, bundle := 0, mode := 0, z2 := false, epoch := 9, crcOk := true }, by decide +kernel⟩
theorem witness_EztexTrainingAndTransit_linkTrainingDone :
    ∃ (s : State) (link : Nat) (now : Nat), (link < 76) ∧ (s.pst clsLink link = stStarting) ∧ ((s.link link).accepted) ∧ (s.stage = 4) ∧ (s.wireHold = []) ∧
    (s.pendOff clsLink link = false) ∧ (s.regB (aLink link 0x100) 0 = false) ∧
    (inWindow (max now s.clk.now) (s.link link).startAt (sumL trainLimits)) :=
  ⟨{ (linkIs stStarting).setF 0x108 0 3 4 with links := [(0, { LinkSt.init with accepted := true })] }, 0, 7, by decide +kernel⟩
theorem witness_EztexTrainingAndTransit_linkTrainingTimeout :
    ∃ (s : State) (link : Nat) (step now : Nat), (link < 76) ∧ (s.pst clsLink link = stStarting) ∧ (1 ≤ step) ∧ (step ≤ 3) ∧ (s.stage = 4) ∧ ((s.link link).accepted = false) ∧
    (inWindow (max now s.clk.now) (s.link link).startAt (trainLimits.getD (step - 1) 0) = false) :=
  ⟨(linkIs stStarting).setF 0x108 0 3 4, 0, 3, 50000000, by decide +kernel⟩
theorem witness_EztexTrainingAndTransit_step4Timeout :
    ∃ (s : State) (link : Nat) (now : Nat), (link < 76) ∧ (s.pst clsLink link = stStarting) ∧ (s.stage = 4) ∧ ((s.link link).accepted = false) ∧
    (inWindow (max now s.clk.now) (s.link link).startAt 1000000 = false) :=
  ⟨(linkIs stStarting).setF 0x108 0 3 4, 0, 1000000, by decide +kernel⟩
theorem witness_EztexTrainingAndTransit_wirePacketForward :
    ∃ (s : State) (i : Nat) (r : RxPkt), (s.rxAt i = some r) ∧ (s.isHere r.link r.pkt = false) ∧ (s.chkBad r = false) :=
  ⟨rxIn State.reset { wp 1 with dst := ⟨1, 0, 0⟩ }, 0, ⟨0, { wp 1 with dst := ⟨1, 0, 0⟩ }, true⟩, by decide +kernel⟩
theorem witness_EztexTrainingAndTransit_wireBad :
    ∃ (s : State) (i : Nat) (r : RxPkt), (s.rxAt i = some r) ∧ (s.isHere r.link r.pkt = false) ∧ (s.chkBad r) :=
  ⟨rxIn (State.reset.setB (aLink 0 0x100) 0 true) { wp 2 with dst := ⟨1, 0, 0⟩, len := 64, chk := 1 }, 0, ⟨0, { wp 2 with dst := ⟨1, 0, 0⟩, len := 64, chk := 1 }, true⟩, by decide +kernel⟩
theorem witness_EztexTrainingAndTransit_wireStays :
    ∃ (s : State) (i : Nat) (r : RxPkt), (s.rxAt i = some r) ∧ (s.isHere r.link r.pkt) :=
  ⟨rxIn State.reset (wp 1), 0, ⟨0, wp 1, true⟩, by decide +kernel⟩
theorem witness_EztexTrainingAndTransit_keyRetentionExpiry :
    ∃ (s : State) (now : Nat) (k : List Nat) (x : Nat), ((k, some x) ∈ s.keys) ∧ (reached (max now s.clk.now) x) :=
  ⟨{ State.reset with keys := [([1], some 5), ([2], none)] }, 5, [1], 5, by decide +kernel⟩
theorem witness_PostsOfCollectives_grant :
    ∃ (s : State) (i : Nat) (r : RxPkt) (c : Nat) (o : Op) (m : Nat), (s.wireAt? i 1 = some r) ∧ ((s.wireTake i r).postOf r.pkt = some (c, o)) ∧ ((s.wireTake i r).memberOf o.group r.pkt.srcRank = some m) ∧
    (look 0 o.limits m < r.pkt.arg2) :=
  ⟨rxIn (opsOf jobUp [opColl 3]) { wp 1 with arg2 := 64 }, 0, ⟨0, { wp 1 with arg2 := 64 }, true⟩, 0, opColl 3, 1, by decide +kernel⟩
theorem witness_PostsOfCollectives_grantZero :
    ∃ (s : State) (i : Nat) (r : RxPkt) (c : Nat) (o : Op) (m : Nat), (s.wireAt? i 1 = some r) ∧ ((s.wireTake i r).postOf r.pkt = some (c, o)) ∧ ((s.wireTake i r).memberOf o.group r.pkt.srcRank = some m) ∧
    (r.pkt.arg2 = 0) ∧ (look? o.limits m = none) :=
  ⟨rxIn (opsOf jobUp [opColl 3]) (wp 1), 0, ⟨0, (wp 1), true⟩, 0, opColl 3, 1, by decide +kernel⟩
theorem witness_PostsOfCollectives_grantEarly :
    ∃ (s : State) (i : Nat) (r : RxPkt), (s.wireAt? i 1 = some r) ∧ ((s.wireTake i r).postOf r.pkt = none) ∧ ((s.wireTake i r).postToCome r.pkt) :=
  ⟨rxIn jobUp (wp 1), 0, ⟨0, wp 1, true⟩, by decide +kernel⟩
theorem witness_PostsOfCollectives_chunk :
    ∃ (s : State) (i : Nat) (r : RxPkt) (c : Nat) (o : Op) (m : Nat), (s.wireAt? i 2 = some r) ∧ ((s.wireTake i r).postOf r.pkt = some (c, o)) ∧ ((s.wireTake i r).memberOf o.group r.pkt.srcRank = some m) ∧
    (s.chkBad r = false) ∧ (r.pkt.poison = false) ∧ (r.pkt.len = 0) :=
  ⟨rxIn (opsOf jobUp [opColl 3]) (wp 2), 0, ⟨0, (wp 2), true⟩, 0, opColl 3, 1, by decide +kernel⟩
theorem witness_PostsOfCollectives_chunkData :
    ∃ (s : State) (i : Nat) (r : RxPkt) (c : Nat) (o : Op) (m : Nat), (s.wireAt? i 2 = some r) ∧ ((s.wireTake i r).postOf r.pkt = some (c, o)) ∧ ((s.wireTake i r).memberOf o.group r.pkt.srcRank = some m) ∧
    (s.chkBad r = false) ∧ (r.pkt.poison = false) ∧ (r.pkt.len ≠ 0) :=
  ⟨rxIn (opsOf jobUp [opColl 3]) { wp 2 with len := 64 }, 0, ⟨0, { wp 2 with len := 64 }, true⟩, 0, opColl 3, 1, by decide +kernel⟩
theorem witness_PostsOfCollectives_chunkBad :
    ∃ (s : State) (i : Nat) (r : RxPkt), (s.wireAt? i 2 = some r) ∧ (s.chkBad r) :=
  ⟨rxIn (jobUp.setB (aLink 0 0x100) 0 true) { wp 2 with len := 64, chk := 1 }, 0, ⟨0, { wp 2 with len := 64, chk := 1 }, true⟩, by decide +kernel⟩
theorem witness_PostsOfCollectives_chunkCopy :
    ∃ (s : State) (i : Nat) (r : RxPkt), (s.wireAt? i 2 = some r) ∧ (s.chkBad r = false) ∧ ((s.wireTake i r).postOf r.pkt = none) ∧ ((s.wireTake i r).postEnded r.pkt) :=
  ⟨rxIn { jobUp with keys := [([0, 0, 0], none)] } (wp 2), 0, ⟨0, wp 2, true⟩, by decide +kernel⟩
theorem witness_PostsOfCollectives_chunkPoison :
    ∃ (s : State) (i : Nat) (r : RxPkt) (c : Nat) (o : Op) (m : Nat), (s.wireAt? i 2 = some r) ∧ ((s.wireTake i r).postOf r.pkt = some (c, o)) ∧ ((s.wireTake i r).memberOf o.group r.pkt.srcRank = some m) ∧
    (s.chkBad r = false) ∧ (r.pkt.poison) :=
  ⟨rxIn (opsOf jobUp [opColl 3]) { wp 2 with poison := true }, 0, ⟨0, { wp 2 with poison := true }, true⟩, 0, opColl 3, 1, by decide +kernel⟩
theorem witness_PostsOfCollectives_count :
    ∃ (s : State) (i : Nat) (r : RxPkt) (c : Nat) (o : Op) (m : Nat), (s.wireAt? i 3 = some r) ∧ ((s.wireTake i r).postOf r.pkt = some (c, o)) ∧ ((s.wireTake i r).memberOf o.group r.pkt.srcRank = some m) :=
  ⟨rxIn (opsOf jobUp [opColl 3]) (wp 3), 0, ⟨0, (wp 3), true⟩, 0, opColl 3, 1, by decide +kernel⟩
theorem witness_PostsOfCollectives_abort :
    ∃ (s : State) (i : Nat) (r : RxPkt) (c : Nat) (o : Op), (s.wireAt? i 4 = some r) ∧ ((s.wireTake i r).jobCtx r.pkt = some c) ∧ (((s.wireTake i r).barrierAbort c r.pkt).postOf r.pkt = some (c, o)) :=
  ⟨rxIn (opsOf jobUp [opColl 3]) { wp 4 with arg := 0x203 }, 0, ⟨0, { wp 4 with arg := 0x203 }, true⟩, 0, opColl 3, by decide +kernel⟩
theorem witness_PostsOfCollectives_abortNone :
    ∃ (s : State) (i : Nat) (r : RxPkt) (c : Nat), (s.wireAt? i 4 = some r) ∧ ((s.wireTake i r).jobCtx r.pkt = some c) ∧ (((s.wireTake i r).barrierAbort c r.pkt).postOf r.pkt = none) ∧
    (((s.wireTake i r).barrierAbort c r.pkt).pastOf r.pkt = none) :=
  ⟨rxIn jobUp (wp 4), 0, ⟨0, wp 4, true⟩, 0, by decide +kernel⟩
theorem witness_PostsOfCollectives_abortPast :
    ∃ (s : State) (i : Nat) (r : RxPkt) (c : Nat) (o : Op), (s.wireAt? i 4 = some r) ∧ ((s.wireTake i r).jobCtx r.pkt = some c) ∧ (((s.wireTake i r).barrierAbort c r.pkt).postOf r.pkt = none) ∧
    (((s.wireTake i r).barrierAbort c r.pkt).pastOf r.pkt = some (c, o)) ∧ (o.lost.isSome) :=
  ⟨rxIn { jobUp with seqrs := [(0, { Seqr.init with past := [{ opColl 3 with lost := some 1 }] })] } (wp 4), 0, ⟨0, wp 4, true⟩, 0, { opColl 3 with lost := some 1 }, by decide +kernel⟩
theorem witness_PostsOfCollectives_abortPastLost :
    ∃ (s : State) (i : Nat) (r : RxPkt) (c : Nat) (o : Op), (s.wireAt? i 4 = some r) ∧ ((s.wireTake i r).jobCtx r.pkt = some c) ∧ (((s.wireTake i r).barrierAbort c r.pkt).postOf r.pkt = none) ∧
    (((s.wireTake i r).barrierAbort c r.pkt).pastOf r.pkt = some (c, o)) ∧ (o.lost = none) :=
  ⟨rxIn { jobUp with seqrs := [(0, { Seqr.init with past := [opColl 3] })] } (wp 4), 0, ⟨0, wp 4, true⟩, 0, opColl 3, by decide +kernel⟩
theorem witness_PostsOfCollectives_digestCopy :
    ∃ (s : State) (i : Nat) (r : RxPkt), (s.wireAt? i 9 = some r) ∧ ((s.wireTake i r).regB (rg clsCf 12 0x108) 0 = false) ∧ ((s.wireTake i r).postOf r.pkt = none) ∧
    (((s.wireTake i r).digestCame r.pkt).postEnded r.pkt) :=
  ⟨rxIn { jobUp with keys := [([0, 0, 0], none)] } (wp 9), 0, ⟨0, wp 9, true⟩, by decide +kernel⟩
theorem witness_PostsOfCollectives_digest :
    ∃ (s : State) (i : Nat) (r : RxPkt) (c : Nat) (o : Op), (s.wireAt? i 9 = some r) ∧ ((s.wireTake i r).postOf r.pkt = some (c, o)) ∧ ((s.wireTake i r).regB (rg clsCf 12 0x108) 0 = false) :=
  ⟨rxIn ((opsOf jobUp [opColl 3]).setRegN (rg clsCf 12 0x100) 1 |>.setF (rg clsRank 0 0x100) 24 2 1) (wp 9), 0, ⟨0, wp 9, true⟩, 0, opColl 3, by decide +kernel⟩
theorem witness_PostsOfCollectives_unpaired :
    ∃ (s : State) (i : Nat) (r : RxPkt), (s.wireAt? i 9 = some r) ∧ ((s.wireTake i r).regB (rg clsCf 12 0x108) 0) :=
  ⟨rxIn (jobUp.setB (rg clsCf 12 0x108) 0 true) (wp 9), 0, ⟨0, wp 9, true⟩, by decide +kernel⟩
theorem witness_PostsOfCollectives_cbar :
    ∃ (s : State) (i : Nat) (r : RxPkt) (c m : Nat), (s.wireAt? i 10 = some r) ∧ ((s.wireTake i r).jobCtx r.pkt = some c) ∧ ((s.wireTake i r).groupEn c) ∧
    (r.pkt.group = (s.wireTake i r).commitGroup c) ∧ ((s.wireTake i r).groupOk c r.pkt.group) ∧ (r.pkt.arg % 4 = 0) ∧
    ((s.wireTake i r).memberOf r.pkt.group r.pkt.srcRank = some m) :=
  ⟨rxIn (jobUp.setRegN (aRc 0 0) 0x1000) (wp 10), 0, ⟨0, wp 10, true⟩, 0, 1, by decide +kernel⟩
theorem witness_PostsOfCollectives_replayArrival :
    ∃ (s : State) (i : Nat) (r : RxPkt) (c m : Nat), (s.wireAt? i 10 = some r) ∧ ((s.wireTake i r).jobCtx r.pkt = some c) ∧ ((s.wireTake i r).groupEn c) ∧
    (r.pkt.group = (s.wireTake i r).commitGroup c) ∧ ((s.wireTake i r).groupOk c r.pkt.group) ∧ (r.pkt.arg % 4 = 1) ∧
    (r.pkt.sig = (s.wireTake i r).barrierSig ((s.wireTake i r).groupJob r.pkt.group) r.pkt.group r.pkt.seq) ∧
    ((s.wireTake i r).memberOf r.pkt.group r.pkt.srcRank = some m) :=
  ⟨rxIn (jobUp.setRegN (aRc 0 0) 0x1000) { wp 10 with arg := 1, sig := jobUp.barrierSig 0 0 0 }, 0, ⟨0, { wp 10 with arg := 1, sig := jobUp.barrierSig 0 0 0 }, true⟩, 0, 1, by decide +kernel⟩
theorem witness_PostsOfCollectives_outcome :
    ∃ (s : State) (i : Nat) (r : RxPkt) (c : Nat), (s.wireAt? i 10 = some r) ∧ ((s.wireTake i r).jobCtx r.pkt = some c) ∧ ((s.wireTake i r).groupEn c) ∧
    (r.pkt.group = (s.wireTake i r).commitGroup c) ∧ ((s.wireTake i r).groupOk c r.pkt.group) ∧ (r.pkt.arg % 4 = 2) ∧
    (r.pkt.sig = (s.wireTake i r).barrierSig ((s.wireTake i r).groupJob r.pkt.group) r.pkt.group r.pkt.seq) ∧
    (r.pkt.seq = (s.wireTake i r).regN (aRc c 0xC)) :=
  ⟨rxIn (jobUp.setRegN (aRc 0 0) 0x1000) { wp 10 with arg := 2, sig := jobUp.barrierSig 0 0 0 }, 0, ⟨0, { wp 10 with arg := 2, sig := jobUp.barrierSig 0 0 0 }, true⟩, 0, by decide +kernel⟩
theorem witness_OpsAndTheirLimits_opAdmit :
    ∃ (s : State) (ctx now h va n oldest : Nat) (rb : Bool) (b : List Byte), (ctx ≤ 16) ∧ (s.nextEntry ctx = some (h, va, n, oldest, rb)) ∧ (s.mayAdmit ctx h n rb) ∧ (((s.atTime now).vaRead ctx va 128).1 = .inr b) ∧
    (at' b 0 4 = n % 2 ^ 32) ∧
    ((((s.atTime now).vaRead ctx va 128).2.opCheck ctx ({ Op.blank with opn := n, desc := b, rebuild := rb } : Op) oldest).1 = 0) ∧
    (((((s.atTime now).vaRead ctx va 128).2.opCheck ctx ({ Op.blank with opn := n, desc := b, rebuild := rb } : Op) oldest).2.seqr ctx).depMet ({ Op.blank with opn := n, desc := b, rebuild := rb } : Op) ({ Op.blank with opn := n, desc := b, rebuild := rb } : Op).dep1 (({ Op.blank with opn := n, desc := b, rebuild := rb } : Op).depStage % 2)) ∧
    (((((s.atTime now).vaRead ctx va 128).2.opCheck ctx ({ Op.blank with opn := n, desc := b, rebuild := rb } : Op) oldest).2.seqr ctx).depMet ({ Op.blank with opn := n, desc := b, rebuild := rb } : Op) ({ Op.blank with opn := n, desc := b, rebuild := rb } : Op).dep2 (({ Op.blank with opn := n, desc := b, rebuild := rb } : Op).depStage / 2 % 2)) ∧
    ((((s.atTime now).vaRead ctx va 128).2.opCheck ctx ({ Op.blank with opn := n, desc := b, rebuild := rb } : Op) oldest).2.jobStarted ({ Op.blank with opn := n, desc := b, rebuild := rb } : Op)) :=
  ⟨vecList, 0, 5, 0, 0, 0, 0, false, opVec, by decide +kernel⟩
theorem witness_OpsAndTheirLimits_opRefused :
    ∃ (s : State) (ctx now h va n oldest : Nat) (rb : Bool) (b : List Byte), (ctx ≤ 16) ∧ (s.nextEntry ctx = some (h, va, n, oldest, rb)) ∧ (s.mayAdmit ctx h n rb) ∧ (((s.atTime now).vaRead ctx va 128).1 = .inr b) ∧
    (at' b 0 4 = n % 2 ^ 32) ∧
    ((((s.atTime now).vaRead ctx va 128).2.opCheck ctx ({ Op.blank with opn := n, desc := b, rebuild := rb } : Op) oldest).1 ≠ 0) :=
  ⟨{ vecList with stack := [] }, 0, 5, 0, 0, 0, 0, false, List.replicate 128 0, by decide +kernel⟩
theorem witness_OpsAndTheirLimits_slotReservationGrant :
    ∃ (s : State) (now c t : Nat) (o : Op), (s.firstRequest = some (c, o)) ∧ (s.slotHome o.slotNeed = some t) ∧ (inWindow (max now s.clk.now) o.reqAt 20000) :=
  ⟨opsOf ((jobUp.setPst clsCf 3 stOn).setF (rg clsCf 3 0x100) 0 7 64) [{ opColl 2 with waiting := true, stage := 0 }], 5, 0, 0, { opColl 2 with waiting := true, stage := 0 }, by decide +kernel⟩
theorem witness_OpsAndTheirLimits_reduceFallback :
    ∃ (s : State) (ctx opn now t : Nat) (o : Op), (ctx ≤ 16) ∧ (s.op? ctx opn = some o) ∧ (o.waiting) ∧ (inWindow (max now s.clk.now) o.reqAt 20000 = false) ∧
    ((List.range 12).find? (((s.atTime now).cairnLog 2 clsCf 12 cReduceFallback ctx []).isOn clsCf) = some t) :=
  ⟨opsOf (jobUp.setPst clsCf 3 stOn) [{ opColl 2 with waiting := true, stage := 0 }], 0, 0, 20000, 0, { opColl 2 with waiting := true, stage := 0 }, by decide +kernel⟩
theorem witness_OpsAndTheirLimits_noHome :
    ∃ (s : State) (ctx opn now : Nat) (o : Op), (ctx ≤ 16) ∧ (s.op? ctx opn = some o) ∧ (o.waiting) ∧ (inWindow (max now s.clk.now) o.reqAt 20000 = false) ∧
    ((List.range 12).find? (((s.atTime now).cairnLog 2 clsCf 12 cReduceFallback ctx []).isOn clsCf) = none) :=
  ⟨opsOf ((List.range 12).foldl (fun s t => s.setPst clsCf t stOff) jobUp) [{ opColl 2 with waiting := true, stage := 0 }], 0, 0, 20000, { opColl 2 with waiting := true, stage := 0 }, by decide +kernel⟩
theorem witness_OpsAndTheirLimits_collMemberLost :
    ∃ (s : State) (ctx opn now : Nat) (o : Op), (ctx ≤ 16) ∧ ((s.rcv ctx).formed = none) ∧ (s.op? ctx opn = some o) ∧ (1 ≤ o.stage) ∧ (o.coll ≠ 0) ∧
    (inWindow (max now s.clk.now) o.progress (s.collTimeout (s.groupJob o.group)) = false) :=
  ⟨opsOf jobUp [{ opColl 8 with stage := 2 }], 0, 0, 10000000, { opColl 8 with stage := 2 }, by decide +kernel⟩
theorem witness_OpsAndTheirLimits_barrierLost :
    ∃ (s : State) (ctx opn now : Nat) (x : CommitRec), (ctx ≤ 16) ∧ ((s.rcv ctx).formed = some x) ∧ (x.opn = opn) ∧ ((s.rcv ctx).won = false) ∧
    (inWindow (max now s.clk.now) (s.rcv ctx).barrierAt (s.collTimeout (s.groupJob (s.regF (aRc ctx 0) 0 12))) = false) ∧
    ((s.rstate ctx = 0 ∨ s.rstate ctx = 1 ∨ s.rstate ctx = 5)) :=
  ⟨{ jobUp with rcvs := [(0, { Rcv.init with formed := some ⟨0, 0, 0, [], [], 0, 0⟩ })] }, 0, 0, 10000000, ⟨0, 0, 0, [], [], 0, 0⟩, by decide +kernel⟩
theorem witness_OpsAndTheirLimits_twinDigestTimeout :
    ∃ (s : State) (ctx opn chunk now : Nat) (o : Op), (ctx ≤ 16) ∧
    (((s.seqr ctx).ops ++ (s.seqr ctx).past ++ (s.seqr ctx).owed).find? (fun o => o.opn == opn && s.digestLate o chunk (max now s.clk.now)) = some o) ∧
    (s.pairing) :=
  ⟨opsOf (jobUp.setRegN (rg clsCf 12 0x100) 1 |>.setF (rg clsRank 0 0x100) 24 2 1) [{ opColl 3 with own := [(0, (5, 1))] }], 0, 0, 0, 10000001, { opColl 3 with own := [(0, (5, 1))] }, by decide +kernel⟩
theorem witness_OpsAndTheirLimits_digestLate :
    ∃ (s : State) (o : Op) (chunk n v t : Nat), (look? o.own chunk = some (v, t)) ∧ (look? o.twin chunk = none) :=
  ⟨State.reset, { opColl 3 with own := [(0, (5, 1))] }, 0, 10000001, 5, 1, by decide +kernel⟩
theorem witness_JobStartTree_bcastStart :
    ∃ (s : State) (i : Nat) (r : RxPkt) (j : Nat), (s.bcastAt? i 0 = some r) ∧ ((s.wireTake i r).jobOfId r.pkt.jobId = some j) ∧ (look? s.bcasts j = none) :=
  ⟨rxIn jobUp (wp 7), 0, ⟨0, wp 7, true⟩, 0, by decide +kernel⟩
theorem witness_JobStartTree_startCopy :
    ∃ (s : State) (i : Nat) (r : RxPkt) (j : Nat) (b : Bcast), (s.bcastAt? i 0 = some r) ∧ ((s.wireTake i r).jobOfId r.pkt.jobId = some j) ∧ (look? s.bcasts j = some b) ∧ (r.pkt.seq ≤ b.seq) ∧
    (b.answered = false) :=
  ⟨rxIn bcUp { wp 7 with seq := 4, arg := 0 }, 0, ⟨0, { wp 7 with seq := 4, arg := 0 }, true⟩, 0, bc, by decide +kernel⟩
theorem witness_JobStartTree_startAgain :
    ∃ (s : State) (i : Nat) (r : RxPkt) (j : Nat) (b : Bcast), (s.bcastAt? i 0 = some r) ∧ ((s.wireTake i r).jobOfId r.pkt.jobId = some j) ∧ (look? s.bcasts j = some b) ∧ (b.seq < r.pkt.seq) :=
  ⟨rxIn bcUp { wp 7 with seq := 5 }, 0, ⟨0, { wp 7 with seq := 5 }, true⟩, 0, bc, by decide +kernel⟩
theorem witness_JobStartTree_startAnswered :
    ∃ (s : State) (i : Nat) (r : RxPkt) (j : Nat) (b : Bcast), (s.bcastAt? i 0 = some r) ∧ ((s.wireTake i r).jobOfId r.pkt.jobId = some j) ∧ (look? s.bcasts j = some b) ∧ (r.pkt.seq ≤ b.seq) ∧
    (b.answered) ∧ (b.parent.isSome) :=
  ⟨rxIn { bcUp with bcasts := [(0, { bc with answered := true })] } { wp 7 with seq := 4 }, 0, ⟨0, { wp 7 with seq := 4 }, true⟩, 0, { bc with answered := true }, by decide +kernel⟩
theorem witness_JobStartTree_bcastOpen :
    ∃ (s : State) (i : Nat) (r : RxPkt) (j : Nat) (b : Bcast), (s.bcastAt? i 1 = some r) ∧ ((s.wireTake i r).bcastOf r.pkt = some (j, b)) ∧ (b.opened = false) ∧ ((s.wireTake i r).jobState j = 1) :=
  ⟨rxIn bcUp { wp 7 with seq := 4, arg := 1 }, 0, ⟨0, { wp 7 with seq := 4, arg := 1 }, true⟩, 0, bc, by decide +kernel⟩
theorem witness_JobStartTree_openIgnored :
    ∃ (s : State) (i : Nat) (r : RxPkt) (j : Nat) (b : Bcast), (s.bcastAt? i 1 = some r) ∧ ((s.wireTake i r).bcastOf r.pkt = some (j, b)) ∧ ((b.opened = true ∨ (s.wireTake i r).jobState j ≠ 1)) :=
  ⟨rxIn { bcUp with bcasts := [(0, { bc with opened := true })] } { wp 7 with seq := 4, arg := 1 }, 0, ⟨0, { wp 7 with seq := 4, arg := 1 }, true⟩, 0, { bc with opened := true }, by decide +kernel⟩
theorem witness_JobStartTree_bcastAbort :
    ∃ (s : State) (i : Nat) (r : RxPkt) (j : Nat) (b : Bcast), (s.bcastAt? i 2 = some r) ∧ ((s.wireTake i r).bcastOf r.pkt = some (j, b)) ∧ (b.opened = false) :=
  ⟨rxIn bcUp { wp 7 with seq := 4, arg := 2 }, 0, ⟨0, { wp 7 with seq := 4, arg := 2 }, true⟩, 0, bc, by decide +kernel⟩
theorem witness_JobStartTree_abortAfterOpen :
    ∃ (s : State) (i : Nat) (r : RxPkt) (j : Nat) (b : Bcast), (s.bcastAt? i 2 = some r) ∧ ((s.wireTake i r).bcastOf r.pkt = some (j, b)) ∧ (b.opened) :=
  ⟨rxIn { bcUp with bcasts := [(0, { bc with opened := true })] } { wp 7 with seq := 4, arg := 2 }, 0, ⟨0, { wp 7 with seq := 4, arg := 2 }, true⟩, 0, { bc with opened := true }, by decide +kernel⟩
theorem witness_JobStartTree_bcastAck :
    ∃ (s : State) (i : Nat) (r : RxPkt) (j : Nat) (b : Bcast), (s.wireAt? i 8 = some r) ∧ ((s.wireTake i r).bcastOf r.pkt = some (j, b)) ∧ (r.pkt.srcRank ∈ b.kids) ∧ (r.pkt.arg2 / 16384 % 4 = 0) :=
  ⟨rxIn bcUp { wp 8 with seq := 4, srcRank := 3, arg := 2 }, 0, ⟨0, { wp 8 with seq := 4, srcRank := 3, arg := 2 }, true⟩, 0, bc, by decide +kernel⟩
theorem witness_JobStartTree_ackMissed :
    ∃ (s : State) (i : Nat) (r : RxPkt) (j : Nat) (b : Bcast), (s.wireAt? i 8 = some r) ∧ ((s.wireTake i r).bcastOf r.pkt = some (j, b)) ∧ (r.pkt.srcRank ∈ b.kids) ∧ (r.pkt.arg2 / 16384 % 4 ≠ 0) :=
  ⟨rxIn bcUp { wp 8 with seq := 4, srcRank := 3, arg2 := 16384 }, 0, ⟨0, { wp 8 with seq := 4, srcRank := 3, arg2 := 16384 }, true⟩, 0, bc, by decide +kernel⟩
theorem witness_JobStartTree_bcastTimeout :
    ∃ (s : State) (job now : Nat) (b : Bcast), (job < 4) ∧ (look? s.bcasts job = some b) ∧ (b.answered = false) ∧ (b.kids ≠ []) ∧ (reached (max now s.clk.now) b.due) :=
  ⟨bcUp, 0, 20, bc, by decide +kernel⟩
theorem witness_JobStartTree_jobTStart :
    ∃ (s t : State) (job now : Nat) (b : Bcast), (job < 4) ∧ (t = (s.atTime now).utcApply) ∧ (look? t.bcasts job = some b) ∧ (b.opened) ∧ (t.jobState job = 1) ∧
    (reached t.clk.now (t.reg64 (aJob job 0x10))) ∧ (t.startsLater job = false) :=
  ⟨{ bcUp with bcasts := [(0, { bc with opened := true })] }, _, 0, 20, { bc with opened := true }, by decide, rfl, by decide +kernel, by decide +kernel, by decide +kernel, by decide +kernel, by decide +kernel⟩
theorem witness_JobStartTree_tStartWaits :
    ∃ (s t : State) (job now : Nat), (job < 4) ∧ (t = (s.atTime now).utcApply) ∧ ((reached t.clk.now (t.reg64 (aJob job 0x10)) = false ∨ t.startsLater job = true)) :=
  ⟨bcUp.setRegN (aJob 0 0x10) 16, _, 0, 15, by decide, rfl, by decide +kernel⟩
theorem witness_JobsGroupsAndStages_jobCtlWrite :
    ∃ (s : State) (job : Nat) (v : W32), (job < 4) ∧ (s.served) ∧ (s.jobValid job = false) ∧ (fld v 0 5 ≤ 16) ∧ (bitOf (s.reg (aPt (fld v 0 5) 0)) 3) ∧
    (bitOf v 31 = true → s.jobOf (fld v 0 5) = none) :=
  ⟨(State.reset.setRegN (aPt 16 0) 8).setF 0x108 0 3 4, 3, 0x80000010, by decide +kernel⟩
theorem witness_JobsGroupsAndStages_ctxKept :
    ∃ (s : State) (job : Nat) (v : W32), (job < 4) ∧ (s.served) ∧ (s.jobValid job) ∧ (bitOf v 31) ∧ (fld v 0 5 ≠ s.slotCtx job) :=
  ⟨jobUp.setF 0x108 0 3 4, 0, 0x80000010, by decide +kernel⟩
theorem witness_JobsGroupsAndStages_groupEntryValidate :
    ∃ (s : State) (g : Nat) (v : W32), (g < 4096) ∧ (s.served) ∧ (s.groupValid g = false) ∧ (bitOf v 31) ∧ (s.groupReason g (v &&& 0x8033FFFF) = 0) :=
  ⟨jobUp.setRegN (aGroup 0 0) 0 |>.setRegN (aRank 0 0) 0x80000000 |>.setF 0x108 0 3 4, 0, 0x80000000, by decide +kernel⟩
theorem witness_JobsGroupsAndStages_groupRefused :
    ∃ (s : State) (g : Nat) (v : W32), (g < 4096) ∧ (s.served) ∧ (s.groupValid g = false) ∧ (bitOf v 31) ∧ (s.groupReason g (v &&& 0x8033FFFF) ≠ 0) :=
  ⟨State.reset.setF 0x108 0 3 4, 7, 0x80000000, by decide +kernel⟩
theorem witness_JobsGroupsAndStages_stageWrite :
    ∃ (s : State) (ctx : Nat) (v : W32), (ctx ≤ 16) ∧ (s.served) ∧ (s.reduceOpen ctx = false) ∧ (fld v 0 6 + fld v 8 6 ≤ 48) :=
  ⟨State.reset.setF 0x108 0 3 4, 16, 0x1818, by decide +kernel⟩
theorem witness_JobsGroupsAndStages_stageIgnored :
    ∃ (s : State) (ctx : Nat) (v : W32), (ctx ≤ 16) ∧ (s.served) ∧ (s.reduceOpen ctx ∨ 48 < fld v 0 6 + fld v 8 6) :=
  ⟨State.reset.setF 0x108 0 3 4, 16, 0x1918, by decide +kernel⟩
theorem witness_JobsGroupsAndStages_confluenceRetestDone :
    ∃ (s : State) (t m : Nat), (t < 12) ∧ (s.pst clsCf t = stStarting) ∧ (m % 4 ≠ 0) ∧ (s.pendOff clsCf t = false) :=
  ⟨State.reset.setPst clsCf 11 stStarting, 11, 6, by decide +kernel⟩
theorem witness_JobsGroupsAndStages_retestFails :
    ∃ (s : State) (t m : Nat), (t < 12) ∧ (s.pst clsCf t = stStarting) ∧ (m % 4 = 0) ∧ (s.pendOff clsCf t = false) :=
  ⟨State.reset.setPst clsCf 11 stStarting, 11, 4, by decide +kernel⟩
theorem witness_CommitAndRecovery_commitPointComplete :
    ∃ (s : State) (ctx now : Nat) (x : Point), (ctx ≤ 16) ∧ (s.pointReady ctx = some x) ∧ ((s.rstate ctx = 0 ∨ s.rstate ctx = 5)) ∧ (s.groupEn ctx = false) :=
  ⟨{ State.reset with seqrs := [(3, { Seqr.init with points := [⟨7, 0, true, []⟩] })] }, 3, 9, ⟨7, 0, true, []⟩, by decide +kernel⟩
theorem witness_CommitAndRecovery_commitArrives :
    ∃ (s : State) (ctx now : Nat) (x : Point), (ctx ≤ 16) ∧ (s.pointReady ctx = some x) ∧ ((s.rstate ctx = 0 ∨ s.rstate ctx = 5)) ∧ (s.groupEn ctx) ∧
    (s.groupOk ctx (s.commitGroup ctx)) ∧ ((s.rcv ctx).formed = none) :=
  ⟨{ jobUp.setRegN (aRc 0 0) 0x1000 with seqrs := [(0, { Seqr.init with points := [⟨7, 0, true, []⟩] })] }, 0, 9, ⟨7, 0, true, []⟩, by decide +kernel⟩
theorem witness_CommitAndRecovery_commitWon :
    ∃ (s : State) (ctx now : Nat) (x : Point) (v : CommitRec), (ctx ≤ 16) ∧ (s.pointReady ctx = some x) ∧ ((s.rstate ctx = 0 ∨ s.rstate ctx = 5)) ∧ (s.groupEn ctx) ∧
    (s.groupOk ctx (s.commitGroup ctx)) ∧ ((s.rcv ctx).formed = some v) ∧ ((s.rcv ctx).won) :=
  ⟨{ jobUp.setRegN (aRc 0 0) 0x1000 with seqrs := [(0, { Seqr.init with points := [⟨7, 0, true, []⟩] })], rcvs := [(0, { Rcv.init with formed := some ⟨7, 0, 0, [], [], 0, 0⟩, won := true })] }, 0, 9, ⟨7, 0, true, []⟩, ⟨7, 0, 0, [], [], 0, 0⟩, by decide +kernel⟩
theorem witness_CommitAndRecovery_commitFacts :
    ∃ (s : State) (ctx now : Nat) (x : Point), (ctx ≤ 16) ∧ (s.pointReady ctx = some x) ∧ ((s.rstate ctx = 0 ∨ s.rstate ctx = 5)) ∧ (s.groupEn ctx = false) ∧
    (∀ y ∈ (s.seqr ctx).points, y.handle = 0) :=
  ⟨{ State.reset with seqrs := [(3, { Seqr.init with points := [⟨7, 0, true, []⟩] })] }, 3, 9, ⟨7, 0, true, []⟩, by decide +kernel⟩
theorem witness_CommitAndRecovery_commitWaits :
    ∃ (s : State) (ctx now : Nat), (ctx ≤ 16) ∧ (s.pointReady ctx = none) :=
  ⟨State.reset, 3, 9, by decide +kernel⟩
theorem witness_CommitAndRecovery_holdRestore :
    ∃ (s u : State) (ctx : Nat), (ctx ≤ 16) ∧ (s.rstate ctx = 3) ∧ ((s.rcv ctx).repairs = 0) ∧ ((s.rcv ctx).loaded = false) ∧ ((s.rcv ctx).uncounted = false) ∧
    (((s.dropEarly ctx).restoreLoad ctx).1 = some u) ∧ ((u.epochOk ctx).regB (aRc ctx 4) 3 = false) :=
  ⟨State.reset.setRstate 3 3, _, 3, by decide, by decide +kernel, by decide +kernel, by decide +kernel, by decide +kernel, by rfl, by decide +kernel⟩
theorem witness_CommitAndRecovery_restoreRebuilds :
    ∃ (s u : State) (ctx : Nat), (ctx ≤ 16) ∧ (s.rstate ctx = 3) ∧ ((s.rcv ctx).repairs = 0) ∧ ((s.rcv ctx).loaded = false) ∧ ((s.rcv ctx).uncounted = false) ∧
    (((s.dropEarly ctx).restoreLoad ctx).1 = some u) ∧ ((u.epochOk ctx).regB (aRc ctx 4) 3) ∧ ((u.epochOk ctx).rebuildCount ctx ≠ 0) :=
  ⟨((State.reset.setRstate 3 3).setB (aRc 3 4) 3 true).setRegN (aRc 3 0x28) 2, _, 3, by decide, by decide +kernel, by decide +kernel, by decide +kernel, by decide +kernel, by rfl, by decide +kernel, by decide +kernel⟩
theorem witness_CommitAndRecovery_restoreFails :
    ∃ (s : State) (ctx : Nat), (ctx ≤ 16) ∧ (s.rstate ctx = 3) ∧ ((s.rcv ctx).repairs = 0) ∧ ((s.rcv ctx).loaded = false) ∧ ((s.rcv ctx).uncounted = false) ∧
    (((s.dropEarly ctx).restoreLoad ctx).1 = none) :=
  ⟨{ State.reset.setRstate 3 3 with rcvs := [(3, { Rcv.init with images := [(0, 0, 0, 0, 0)] })] }, 3, by decide +kernel⟩
theorem witness_CommitAndRecovery_rebuildListDone :
    ∃ (s : State) (ctx n : Nat), (ctx ≤ 16) ∧ (s.rstate ctx = 3) ∧ ((s.seqr ctx).ops = []) ∧ ((s.rcv ctx).rebuild = some n) ∧ (s.rebuildCount ctx ≤ n) :=
  ⟨{ State.reset.setRstate 3 3 with rcvs := [(3, { Rcv.init with rebuild := some 0 })] }, 3, 0, by decide +kernel⟩
theorem witness_CommitAndRecovery_spareSwap :
    ∃ (s : State) (p : Pos) (cause : Nat), (inGrid p.col p.row) ∧ (look? s.failing (ridx p.col p.row) = some (cause, false)) ∧ (s.fwRuns) ∧
    (∀ c ∈ s.ownersOf (segmentOf (ridx p.col p.row)), s.rstate c = 2 ∨ s.rstate c = 3 ∨ s.rstate c = 4) :=
  ⟨{ fwOn with failing := [(0, 2, false)], rcvs := [(3, { Rcv.init with images := [(0, 0, 0, 0, 0)] })] }.setRstate 3 3, ⟨0, 0⟩, 2, by decide +kernel⟩
theorem witness_CommitAndRecovery_failureHolds :
    ∃ (s t : State) (k cause c : Nat), (s.present k) ∧ (s.failing = []) ∧ (s.regB (aCmtK k) 7) ∧ ((s.rill k).noRouter = false) ∧
    (t = (s.incSat (rg clsReach (reachOf (rcol k) (rrow k)) 0x104)).modRill k (fun r => { r with failed := true })) ∧ (t.regB (aCmtK k) 7) ∧
    ((t.rill k).noRouter = false) ∧ (t.ownersOf (segmentOf k) = [c]) :=
  ⟨{ fwOn with rcvs := [(3, { Rcv.init with images := [(0, 0, 0, 0, 0)] })] }, _, 0, 2, 3, by decide +kernel, by decide +kernel, by decide +kernel, by decide +kernel, rfl, by decide +kernel, by decide +kernel, by decide +kernel⟩
theorem witness_CommitAndRecovery_swapWaits :
    ∃ (s : State) (p : Pos) (c : Nat), (c ∈ s.ownersOf (segmentOf (ridx p.col p.row))) ∧ (s.rstate c = 0) :=
  ⟨{ fwOn with failing := [(0, 2, false)], rcvs := [(3, { Rcv.init with images := [(0, 0, 0, 0, 0)] })] }, ⟨0, 0⟩, 3, by decide +kernel⟩
theorem witness_CommitAndRecovery_flashWritten :
    ∃ (s : State), (s.fwRuns) ∧ ((s.stage = 4 ∨ s.testsOver = true)) :=
  ⟨fwOn.setF 0x108 0 3 4, by decide +kernel⟩
theorem witness_CommitAndRecovery_cmtFlashWriteDone :
    ∃ (s : State), (s.fwRuns) ∧ ((s.stage = 4 ∨ s.testsOver = true)) ∧ (s.pitchHeld = []) :=
  ⟨fwOn.setF 0x108 0 3 4, by decide +kernel⟩
theorem witness_CommitAndRecovery_flashEarly :
    ∃ (s : State), ((s.fwRuns = false ∨ (s.stage ≠ 4 ∧ s.testsOver = false))) :=
  ⟨fwOn, by decide⟩
theorem witness_CommitAndRecovery_drainHoldResume :
    ∃ (s : State) (ctx r : Nat), (ctx ≤ 16) ∧ (s.rstate ctx = 5) ∧ ((s.rcv ctx).drain = some r) ∧ ((s.rcv ctx).drained) ∧ (s.fwRuns) ∧ ((s.seqr ctx).ops = []) ∧
    (∀ g ∈ s.wearSegs, ∀ c ∈ s.wearOwners g, s.rstate c ≠ 5 ∨ (s.rcv c).drained = true) ∧
    ((s.wearSegs.filter (fun g => (s.wearOwners g).contains ctx)) = []) ∧ (ctx ∉ s.pitchHeld) :=
  ⟨{ fwOn.setRstate 3 5 with rcvs := [(3, { Rcv.init with drain := some 0, drained := true })] }, 3, 0, by decide +kernel⟩
theorem witness_CommitAndRecovery_drainMoves :
    ∃ (s : State) (ctx r : Nat), (ctx ≤ 16) ∧ (s.rstate ctx = 5) ∧ ((s.rcv ctx).drain = some r) ∧ ((s.rcv ctx).drained) ∧ (s.fwRuns) ∧ ((s.seqr ctx).ops = []) ∧
    (∀ g ∈ s.wearSegs, ∀ c ∈ s.wearOwners g, s.rstate c ≠ 5 ∨ (s.rcv c).drained = true) ∧
    ((s.wearSegs.filter (fun g => (s.wearOwners g).contains ctx)) ≠ []) ∧ (ctx ∉ s.pitchHeld) :=
  ⟨{ fwOn.setRstate 3 5 with wearSegs := [0], rcvs := [(3, { Rcv.init with images := [(0, 0, 119, 0, 119)], drain := some 0, drained := true })] }, 3, 0, by decide +kernel⟩
theorem witness_CommitAndRecovery_wearSkip :
    ∃ (s : State) (ctx r now : Nat), (ctx ≤ 16) ∧ (s.rstate ctx = 5) ∧ ((s.rcv ctx).drain = some r) ∧ ((s.rcv ctx).drained = false) ∧
    (inWindow (max now s.clk.now) (s.rcv ctx).drainAt 3600000000000 = false) ∧ (ctx ∉ s.pitchHeld) :=
  ⟨{ State.reset.setRstate 3 5 with rcvs := [(3, { Rcv.init with drain := some 0 })] }, 3, 0, 3600000000000, by decide +kernel⟩
theorem witness_Pitches_pitchIsolate :
    ∃ (s : State) (pitch now : Nat) (cause peak : Nat), (pitch < 252) ∧ (cause = 1 ∨ cause = 3 ∨ cause = 5) ∧ (s.pst clsPitch pitch ≠ stIsolated) :=
  ⟨pitchIs stOn, 251, 9, 1, 5, by decide +kernel⟩
theorem witness_Pitches_underVoltage :
    ∃ (s : State) (pitch now : Nat) (peak : Nat), (pitch < 252) ∧ (s.regB (aPt2 pitch 0x104) 3 = false) :=
  ⟨pitchIs stStarting, 251, 9, 5, by decide +kernel⟩
theorem witness_Pitches_efuseClear :
    ∃ (s : State) (pitch current : Nat), (pitch < 252) ∧ (s.pst clsPitch pitch = stIsolated) ∧ (100 < current) ∧ (s.regB (aPt2 pitch 0x104) 1) ∧
    (s.regF (aPt2 pitch 0x104) 4 4 ∈ [1, 2, 3, 5]) :=
  ⟨(pitchIs stIsolated).setF (rg clsPitch 251 0x104) 4 4 3, 251, 101, by decide +kernel⟩
theorem witness_Pitches_pitchThermalThrottle :
    ∃ (s : State) (pitch temp : Nat), (pitch < 252) ∧ (110 ≤ temp) ∧ (temp < 125) ∧ (s.regB (aPt2 pitch 0x104) 0) :=
  ⟨(pitchIs stOn).setB (rg clsPitch 251 0x104) 0 true, 251, 124, by decide +kernel⟩
theorem witness_Pitches_pitchThermalRecover :
    ∃ (s : State) (pitch temp : Nat), (pitch < 252) ∧ (temp < 105) ∧ (pitch ∈ s.hotPitches) :=
  ⟨{ State.reset with hotPitches := [251] }, 251, 104, by decide +kernel⟩
theorem witness_Pitches_stillHot :
    ∃ (s : State) (pitch temp : Nat), (pitch < 252) ∧ (105 ≤ temp) ∧ (temp < 110) :=
  ⟨State.reset, 251, 105, by decide +kernel⟩
theorem witness_Pitches_pitchRailTestDone :
    ∃ (s : State) (pitch mv : Nat), (pitch < 252) ∧ (pitch ∈ s.railTest) ∧ (400 ≤ mv) :=
  ⟨{ pitchIs stIsolated with railTest := [251] }, 251, 400, by decide +kernel⟩
theorem witness_Pitches_railFails :
    ∃ (s : State) (pitch mv : Nat), (pitch < 252) ∧ (pitch ∈ s.railTest) ∧ (mv < 400) :=
  ⟨{ pitchIs stIsolated with railTest := [251] }, 251, 399, by decide +kernel⟩
theorem witness_Pitches_pitchStartDone :
    ∃ (s : State) (pitch now : Nat) (b : Nat), (pitch < 252) ∧ (look? s.pitchRun pitch = some b) ∧ (s.pst clsPitch pitch = stStarting) ∧ (s.fwRuns) ∧ (inWindow now b 80000 = false) ∧
    (inWindow now b 1000000) ∧ (s.pendOff clsPitch pitch = false) ∧ (s.pitchHeld = []) :=
  ⟨{ pitchIs stStarting with fwUp := true, pitchRun := [(251, 8)] }, 251, 80008, 8, by decide +kernel⟩
theorem witness_Pitches_pitchPowerGoodTimeout :
    ∃ (s : State) (pitch now : Nat) (b : Nat), (pitch < 252) ∧ (look? s.pitchRun pitch = some b) ∧ (s.pst clsPitch pitch = stStarting) ∧ (inWindow now b 1000000 = false) :=
  ⟨{ pitchIs stStarting with pitchRun := [(251, 8)] }, 251, 1000008, 8, by decide +kernel⟩
theorem witness_Pitches_pitchStopDone :
    ∃ (s : State) (pitch now : Nat) (b : Nat), (pitch < 252) ∧ (look? s.pitchRun pitch = some b) ∧ (s.pst clsPitch pitch = stStopping) ∧ (inWindow now b 50000 = false) ∧
    (s.pendOn clsPitch pitch = false) ∧ (s.pitchHeld = []) :=
  ⟨{ pitchIs stStopping with pitchRun := [(251, 8)] }, 251, 50008, 8, by decide +kernel⟩
theorem witness_Pitches_stopTooSoon :
    ∃ (s : State) (pitch now : Nat) (b : Nat), (pitch < 252) ∧ (look? s.pitchRun pitch = some b) ∧ (inWindow now b 50000) :=
  ⟨{ pitchIs stStopping with pitchRun := [(251, 8)] }, 251, 50007, 8, by decide +kernel⟩
theorem witness_WeirAndInput_frameBegins :
    ∃ (s : State) (b : Nat) (r : WeirReading), ((s.inputStage = 1 ∨ s.inputStage = 2)) ∧ (s.weirBoundary b) ∧ ((s.earlierDue b 3 && reached b s.clk.now) = false) ∧ (s.weirAt = none) :=
  ⟨{ weirOn with slotAt := some 0 }, 0, wr, by decide +kernel⟩
theorem witness_WeirAndInput_weirFrame :
    ∃ (s : State) (a b : Nat) (r : WeirReading), ((s.inputStage = 1 ∨ s.inputStage = 2)) ∧ (s.weirBoundary b) ∧ ((s.earlierDue b 3 && reached b s.clk.now) = false) ∧ (s.weirAt = some a) ∧
    (s.weirSet = false) :=
  ⟨{ weirOn with weirAt := some 0, slotAt := some 1000000 }, 0, 1000000, wr, by decide +kernel⟩
theorem witness_WeirAndInput_laterFrame :
    ∃ (s : State) (a b : Nat) (r : WeirReading), ((s.inputStage = 1 ∨ s.inputStage = 2)) ∧ (s.weirBoundary b) ∧ ((s.earlierDue b 3 && reached b s.clk.now) = false) ∧ (s.weirAt = some a) ∧
    (s.weirSet) ∧ (s.weirHolds r) :=
  ⟨{ weirOn with weirAt := some 0, slotAt := some 1000000, weirSet := true, weirS := 900000 }, 0, 1000000, wr, by decide +kernel⟩
theorem witness_WeirAndInput_ceilingOf :
    ∃ (s : State) (a b : Nat) (r : WeirReading), (s.weirPend = []) ∧ (50000 ≤ r.mv) :=
  ⟨weirOn, 0, 0, wr, by decide +kernel⟩
theorem witness_WeirAndInput_demandOf :
    ∃ (s : State) (r : WeirReading), (s.leveeStart ≠ 1) :=
  ⟨weirOn, wr, by decide⟩
theorem witness_WeirAndInput_notABoundary :
    ∃ (s : State) (b : Nat) (r : WeirReading), (s.weirBoundary b = false) :=
  ⟨weirOn, 1, wr, by decide⟩
theorem witness_WeirAndInput_moveUp :
    ∃ (s : State) (b d ceil : Nat), (s.weirS ≤ ceil) :=
  ⟨weirOn, 0, 5, 9, by decide⟩
theorem witness_WeirAndInput_moveDown :
    ∃ (s : State) (b d ceil : Nat), (ceil < s.weirS) ∧ (s.regF (aWeir 0x104) 0 2 ≠ 1) :=
  ⟨{ weirOn with weirS := 9 }, 0, 5, 8, by decide +kernel⟩
theorem witness_WeirAndInput_frozen :
    ∃ (s : State) (b d ceil : Nat), (s.regF (aWeir 0x104) 0 2 = 1) :=
  ⟨weirOn.setF (rg clsWeir 0 0x104) 0 2 1, 0, 5, 8, by decide⟩
theorem witness_WeirAndInput_rises :
    ∃ (s : State) (b d ceil e : Nat), (s.regF (aWeir 0x104) 0 2 = 0) ∧ (s.regB (aWeir 0x100) 0) ∧ ((s.weirRest = false ∨ s.weirGate b = true)) ∧
    (e = min (max d (s.regF (aWeir 0x130) 0 16 * 1000)) (s.regF (aWeir 0x134) 0 16 * 1000)) ∧ (s.weirS ≤ ceil) ∧ (s.weirS < e) :=
  ⟨((weirOn.setB (rg clsWeir 0 0x100) 0 true).setF (rg clsWeir 0 0x134) 0 16 30000).setF (rg clsWeir 0 0x130) 0 16 0 |> fun s => { s with weirRest := false }, 0, 5, 9, 5, by decide +kernel⟩
theorem witness_WeirAndInput_follows :
    ∃ (s : State) (b d ceil e : Nat), (s.regF (aWeir 0x104) 0 2 ≠ 1) ∧ (e = min (max d (s.regF (aWeir 0x130) 0 16 * 1000)) (s.regF (aWeir 0x134) 0 16 * 1000)) ∧
    (s.weirS ≤ ceil) ∧ (e < s.weirS) :=
  ⟨{ (weirOn.setF (rg clsWeir 0 0x134) 0 16 30000).setF (rg clsWeir 0 0x130) 0 16 0 with weirS := 7 }, 0, 5, 9, 5, by decide +kernel⟩
theorem witness_WeirAndInput_weirRegulate :
    ∃ (s : State) (now mj a : Nat), (s.weirAt = some a) ∧ (s.weirCompares a now mj) :=
  ⟨{ weirOn with weirAt := some 0, weirS := 5 }, 8000, 0, 0, by decide +kernel⟩
theorem witness_WeirAndInput_weirWardenTimeout :
    ∃ (s : State) (now t : Nat), (s.wardenGone = some t) ∧ (inWindow now t 50000000 = false) ∧ (s.regF (aWeir 0x104) 0 2 = 1) :=
  ⟨{ weirOn.setF (rg clsWeir 0 0x104) 0 2 1 with wardenGone := some 4 }, 50000004, 4, by decide +kernel⟩
theorem witness_WeirAndInput_weirEnvelopeWrite :
    ∃ (s : State) (v : W32), (s.served) ∧ (s.regB (aWeir 0x100) 1 = false) ∧ (1 ≤ v.toNat) ∧ (v.toNat ≤ 30000000) :=
  ⟨State.reset.setF 0x108 0 3 4, 30000000, by decide +kernel⟩
theorem witness_WeirAndInput_otherEnvelope :
    ∃ (s : State) (off : Nat) (v : W32), (off ∈ [0x12C, 0x130, 0x134, 0x138]) ∧ (s.served) ∧ (s.regB (aWeir 0x100) 1 = false) ∧ (s.weirInRange off (fld v 0 16)) :=
  ⟨State.reset.setF 0x108 0 3 4, 0x138, 3, by decide +kernel⟩
theorem witness_WeirAndInput_underLock :
    ∃ (s : State) (off : Nat) (v : W32), (off ∈ [0x124, 0x128, 0x12C, 0x130, 0x134, 0x138, 0x13C, 0x140]) ∧ (s.served) ∧ (s.regB (aWeir 0x100) 1) :=
  ⟨(State.reset.setB (rg clsWeir 0 0x100) 1 true).setF 0x108 0 3 4, 0x140, 3, by decide +kernel⟩
theorem witness_WeirAndInput_powerChipletFail :
    ∃ (s : State) (n : Nat), (n < 16) ∧ (s.regB (aWeir 0x148) n) :=
  ⟨State.reset.setRegN (rg clsWeir 0 0x148) 0xFFFF, 15, by decide +kernel⟩
theorem witness_WeirAndInput_inputStageClose :
    ∃ (s : State) (now mv : Nat), (s.inputStage = 0) ∧ (50000 ≤ mv) ∧ (mv ≤ 60000) :=
  ⟨State.reset, 5, 60000, by decide +kernel⟩
theorem witness_WeirAndInput_powerChipletEnable :
    ∃ (s : State) (now cap : Nat), (s.inputStage = 1) ∧ (s.vinMv ≤ cap + 1000) :=
  ⟨{ State.reset with inputStage := 1, vinMv := 54000 }, 5, 53000, by decide +kernel⟩
theorem witness_WeirAndInput_powerFail :
    ∃ (s : State) (now mv lasted : Nat), (s.inputStage = 2) ∧ (mv < 45000 ∧ 20000 ≤ lasted ∨ 61500 < mv ∧ 100000 ≤ lasted) :=
  ⟨weirOn, 5, 44999, 20000, by decide +kernel⟩
theorem witness_WeirAndInput_failWhileCharging :
    ∃ (s : State) (now mv lasted : Nat), (s.inputStage = 1) ∧ (mv < 45000) ∧ (20000 ≤ lasted) :=
  ⟨{ State.reset with inputStage := 1 }, 5, 44999, 20000, by decide +kernel⟩
theorem witness_SiteTime_ptpSync :
    ∃ (s : State) (now : Nat) (d : Nat) (o : Int), (s.timeSrc = 0) ∧ (d = s.regF (aTime 0x100) 8 8) ∧ (s.regB (aTime 0x104) 3) ∧ (s.tmFirst) :=
  ⟨(timeOn 0 1).setB (rg clsTime 0 0x104) 3 true, 9, 0, 1000, by decide +kernel⟩
theorem witness_SiteTime_laterSync :
    ∃ (s : State) (now : Nat) (d : Nat) (o : Int), (s.timeSrc = 0) ∧ (d = s.regF (aTime 0x100) 8 8) ∧ (s.regB (aTime 0x104) 3) ∧ (s.tmFirst = false) ∧ (s.timeState ≠ 3) :=
  ⟨{ (timeOn 0 1).setB (rg clsTime 0 0x104) 3 true with tmFirst := false }, 9, 0, 1000, by decide +kernel⟩
theorem witness_SiteTime_holdoverSync :
    ∃ (s : State) (now : Nat) (d : Nat) (o : Int), (s.timeSrc = 0) ∧ (d = s.regF (aTime 0x100) 8 8) ∧ (s.regB (aTime 0x104) 3) ∧ (s.tmFirst = false) ∧ (s.timeState = 3) :=
  ⟨{ (timeOn 0 3).setB (rg clsTime 0 0x104) 3 true with tmFirst := false }, 9, 0, 1000, by decide +kernel⟩
theorem witness_SiteTime_otherDomain :
    ∃ (s : State) (now : Nat) (d u m : Nat) (o l : Int), (d ≠ s.regF (aTime 0x100) 8 8) :=
  ⟨timeOn 0 1, 9, 7, 37, 0, 1000, 0, by decide⟩
theorem witness_SiteTime_ptpAnnounce :
    ∃ (s : State) (now : Nat) (d u m : Nat), (s.timeSrc = 0) ∧ (d = s.regF (aTime 0x100) 8 8) ∧ (s.regB (aTime 0x100) 17 = false) :=
  ⟨timeOn 0 1, 9, 0, 37, 0, by decide +kernel⟩
theorem witness_SiteTime_announceLeap :
    ∃ (s : State) (now : Nat) (d u m : Nat), (s.timeSrc = 0) ∧ (d = s.regF (aTime 0x100) 8 8) ∧ (s.regB (aTime 0x100) 17 = false) ∧ (u < 65535) ∧ (m < 2 ^ 64) :=
  ⟨timeOn 0 1, 9, 0, 37, 17, by decide +kernel⟩
theorem witness_SiteTime_ppsEdge :
    ∃ (s : State) (now : Nat) (v t0 : Nat), (s.timeSrc = 1) ∧ (s.tmFirst) ∧ (s.ppsSet = some (v, t0)) ∧ (reached (s.atTime now).clk.now (t0 + 1000000)) :=
  ⟨{ timeOn 1 1 with ppsSet := some (7000000000, 3), tmFirst := true }, 1000003, 7000000000, 3, by decide +kernel⟩
theorem witness_SiteTime_edgeOfOther :
    ∃ (s : State) (now : Nat) (x : Bool), (s.timeSrc ≠ 1) :=
  ⟨timeOn 0 1, 5, true, by decide⟩
theorem witness_SiteTime_edgeAlone :
    ∃ (s : State) (now : Nat), ((s.tmFirst = false ∨ s.ppsSet = none)) :=
  ⟨timeOn 1 1, 5, by decide⟩
theorem witness_SiteTime_edgeTooSoon :
    ∃ (s : State) (now : Nat) (x : Bool) (v t0 : Nat), (s.timeSrc = 1) ∧ (s.tmFirst) ∧ (s.ppsSet = some (v, t0)) ∧ (reached (s.atTime now).clk.now (t0 + 1000000) = false) :=
  ⟨{ timeOn 1 1 with ppsSet := some (7000000000, 3), tmFirst := true }, 999999, true, 7000000000, 3, by decide +kernel⟩
theorem witness_SiteTime_edgeNamed :
    ∃ (s : State) (now : Nat) (v t0 : Nat), (s.timeSrc = 1) ∧ (s.tmFirst) ∧ (s.ppsSet = some (v, t0)) ∧ (reached (s.atTime now).clk.now (t0 + 1000000)) :=
  ⟨{ timeOn 1 1 with ppsSet := some (7000000000, 3), tmFirst := true }, 1000003, 7000000000, 3, by decide +kernel⟩
theorem witness_SiteTime_ref10Loss :
    ∃ (s : State) (now : Nat), (s.timeSrc = 1) ∧ (s.timeState = 2) :=
  ⟨timeOn 1 2, 5, by decide +kernel⟩
theorem witness_SiteTime_sourceLost :
    ∃ (s : State) (now : Nat), (s.timeSrc = 0) ∧ (s.timeState = 2) :=
  ⟨timeOn 0 2, 5, by decide +kernel⟩
theorem witness_SiteTime_edgesLost :
    ∃ (s : State) (now : Nat) (t0 : Nat), (s.timeSrc = 1) ∧ (s.timeState = 2) ∧ (s.ppsLast = some t0) ∧ (inWindow (max now s.clk.now) t0 2000000000 = false) :=
  ⟨{ timeOn 1 2 with ppsLast := some 0 }, 2000000000, 0, by decide +kernel⟩
theorem witness_SiteTime_edgesCome :
    ∃ (s : State) (now : Nat) (t0 : Nat), (s.timeSrc = 1) ∧ (s.ppsLast = some t0) ∧ (inWindow (max now s.clk.now) t0 2000000000) :=
  ⟨{ timeOn 1 2 with ppsLast := some 1 }, 1999999999, 1, by decide +kernel⟩
theorem witness_SiteTime_freeRuns :
    ∃ (s : State) (now : Nat), (s.timeSrc = 2) :=
  ⟨timeOn 2 0, 5, by decide⟩
theorem witness_SiteTime_lostElsewhere :
    ∃ (s : State) (now : Nat), (s.timeSrc = 0) ∧ (s.timeState ≠ 2) :=
  ⟨timeOn 0 1, 5, by decide +kernel⟩
theorem witness_SiteTime_holdoverTimeout :
    ∃ (s : State) (now : Nat), (s.timeState = 3) ∧ (inWindow (max now s.clk.now) s.holdAt (s.regF (aTime 0x130) 0 17 * 1000000000) = false) :=
  ⟨(timeOn 0 3).setF (rg clsTime 0 0x130) 0 17 1, 1000000000, by decide +kernel⟩
theorem witness_SiteTime_stCtlWrite :
    ∃ (s : State) (v : W32), (s.served) ∧ (s.timeSrc ≠ 2) ∧ (fld v 0 2 = 2) ∧ (bitOf v 16 = false) :=
  ⟨(timeOn 0 1).setF 0x108 0 3 4, 2, by decide +kernel⟩
theorem witness_SiteTime_srcKept :
    ∃ (s : State) (v : W32), (s.served) ∧ (fld v 0 2 = 3) ∧ (bitOf v 16 = false) :=
  ⟨(timeOn 0 1).setF 0x108 0 3 4, 3, by decide +kernel⟩
theorem witness_SiteTime_domainChanges :
    ∃ (s : State) (v : W32), (s.served) ∧ (fld v 0 2 = s.timeSrc) ∧ (bitOf v 16 = false) ∧ (fld v 8 8 ≠ s.regF (aTime 0x100) 8 8) :=
  ⟨(timeOn 0 1).setF 0x108 0 3 4, 0x700, by decide +kernel⟩
theorem witness_SiteTime_reacquire :
    ∃ (s : State), (s.served) ∧ (s.timeSrc = 2) :=
  ⟨((timeOn 2 0).setF 0x108 0 3 4).setRegN (rg clsTime 0 0x110) 4096, by decide +kernel⟩
theorem witness_SiteTime_reacquireSource :
    ∃ (s : State), (s.served) ∧ (s.timeSrc ≠ 2) :=
  ⟨(timeOn 0 2).setF 0x108 0 3 4, by decide +kernel⟩
theorem witness_SiteTime_timeSet :
    ∃ (s : State) (hi lo : W32), (s.served) ∧ (look? s.staged (aTime 0x110) = some lo) ∧ (s.timeSrc ≠ 1) :=
  ⟨{ (timeOn 2 0).setF 0x108 0 3 4 with staged := [(rg clsTime 0 0x110, 5)] }, 1, 5, by decide +kernel⟩
theorem witness_SiteTime_utcOffsetChange :
    ∃ (s : State) (now : Nat), (s.regB (aTime 0x124) 31) ∧ (s.reg64 (aTime 0x128) ≤ grain (s.atTime now).clk.now) :=
  ⟨(timeOn 0 2).setRegN (rg clsTime 0 0x124) 0x80000026, 8, by decide +kernel⟩
theorem witness_SiteTime_utcPends :
    ∃ (s : State) (now : Nat), (grain (s.atTime now).clk.now < s.reg64 (aTime 0x128)) :=
  ⟨(timeOn 0 2).setRegN (rg clsTime 0 0x128) 16, 15, by decide⟩
theorem witness_SiteTime_apply :
    ∃ (s : State), (s.served) ∧ (∀ n, n < 125 → slotValid (s.regN (aBg (0x200 + 4 * n)))) :=
  ⟨State.reset.setF 0x108 0 3 4, by decide +kernel⟩
theorem witness_SiteTime_applyInvalid :
    ∃ (s : State) (n : Nat), (s.served) ∧ (n < 125) ∧ (slotValid (s.regN (aBg (0x200 + 4 * n))) = false) :=
  ⟨(State.reset.setF 0x108 0 3 4).setRegN (rg clsBg 0 0x204) 5, 1, by decide +kernel⟩
theorem witness_SiteTime_slotStart :
    ∃ (s t : State) (now : Nat) (r : Readings), (s.slotDue now) ∧ (reached now s.clk.now) ∧ (t = ({ (s.atTime now).utcApply with slotAt := some now } : State)) ∧ (now % 1000000 ≠ 0) ∧
    (t.regB (aBg 0x100) 1 = false) :=
  ⟨weirOn.setB (rg clsBg 0 0x100) 1 false, _, 8000, [], by decide, by decide, rfl, by decide +kernel, by decide +kernel⟩
theorem witness_SiteTime_frameTakesTable :
    ∃ (s t : State) (now : Nat) (r : Readings), (s.slotDue now) ∧ (reached now s.clk.now) ∧ (t = ({ (s.atTime now).utcApply with slotAt := some now } : State)) ∧ (now % 1000000 = 0) ∧
    (t.bgTake.regB (aBg 0x100) 1 = false) :=
  ⟨weirOn.setB (rg clsBg 0 0x100) 1 false, _, 1000000, [], by decide, by decide, rfl, by decide +kernel, by decide +kernel⟩
theorem witness_SiteTime_noneSlot :
    ∃ (s t : State) (now w : Nat) (r : Readings), (s.slotDue now) ∧ (reached now s.clk.now) ∧ (t = ({ (s.atTime now).utcApply with slotAt := some now } : State)) ∧ (now % 1000000 ≠ 0) ∧
    (t.regB (aBg 0x100) 1) ∧ (look (slotReset (now % 1000000 / 8000)) t.bgTable (now % 1000000 / 8000) = w) ∧ (nfld w 0 4 = 0) :=
  ⟨{ weirOn.setB (rg clsBg 0 0x100) 1 true with bgTable := [(1, 32)] }, _, 8000, 32, [], by decide, by decide, rfl, by decide +kernel, by decide +kernel, by decide +kernel, by decide +kernel⟩
theorem witness_SiteTime_patrolSlot :
    ∃ (s t : State) (now w : Nat) (r : Readings), (s.slotDue now) ∧ (reached now s.clk.now) ∧ (t = ({ (s.atTime now).utcApply with slotAt := some now } : State)) ∧ (now % 1000000 ≠ 0) ∧
    (t.regB (aBg 0x100) 1) ∧ (look (slotReset (now % 1000000 / 8000)) t.bgTable (now % 1000000 / 8000) = w) ∧ (nfld w 0 4 = 1) :=
  ⟨{ weirOn.setB (rg clsBg 0 0x100) 1 true with bgTable := [(1, 33)] }, _, 8000, 33, [], by decide, by decide, rfl, by decide +kernel, by decide +kernel, by decide +kernel, by decide +kernel⟩
theorem witness_SiteTime_calibSlot :
    ∃ (s t : State) (now w : Nat) (r : Readings), (s.slotDue now) ∧ (reached now s.clk.now) ∧ (t = ({ (s.atTime now).utcApply with slotAt := some now } : State)) ∧ (now % 1000000 ≠ 0) ∧
    (t.regB (aBg 0x100) 1) ∧ (look (slotReset (now % 1000000 / 8000)) t.bgTable (now % 1000000 / 8000) = w) ∧ (nfld w 0 4 = 2) :=
  ⟨{ weirOn.setB (rg clsBg 0 0x100) 1 true with bgTable := [(1, 34)] }, _, 8000, 34, [], by decide, by decide, rfl, by decide +kernel, by decide +kernel, by decide +kernel, by decide +kernel⟩
theorem witness_SiteTime_telemSlot :
    ∃ (s t : State) (now w : Nat) (r : Readings), (s.slotDue now) ∧ (reached now s.clk.now) ∧ (t = ({ (s.atTime now).utcApply with slotAt := some now } : State)) ∧ (now % 1000000 ≠ 0) ∧
    (t.regB (aBg 0x100) 1) ∧ (look (slotReset (now % 1000000 / 8000)) t.bgTable (now % 1000000 / 8000) = w) ∧ (nfld w 0 4 = 3) :=
  ⟨{ weirOn.setB (rg clsBg 0 0x100) 1 true with bgTable := [(1, 35)] }, _, 8000, 35, [], by decide, by decide, rfl, by decide +kernel, by decide +kernel, by decide +kernel, by decide +kernel⟩
theorem witness_SiteTime_wearSlot :
    ∃ (s t : State) (now w : Nat) (r : Readings), (s.slotDue now) ∧ (reached now s.clk.now) ∧ (t = ({ (s.atTime now).utcApply with slotAt := some now } : State)) ∧ (now % 1000000 ≠ 0) ∧
    (t.regB (aBg 0x100) 1) ∧ (look (slotReset (now % 1000000 / 8000)) t.bgTable (now % 1000000 / 8000) = w) ∧ (nfld w 0 4 = 4) :=
  ⟨{ weirOn.setB (rg clsBg 0 0x100) 1 true with bgTable := [(1, 36)] }, _, 8000, 36, [], by decide, by decide, rfl, by decide +kernel, by decide +kernel, by decide +kernel, by decide +kernel⟩
theorem witness_SiteTime_telemStacks :
    ∃ (s : State) (now p : Nat) (r : Readings), (p < 24) ∧ (s.fitted p) :=
  ⟨stk stOn, 8000, 23, [], by decide +kernel⟩
theorem witness_SiteTime_wearDue :
    ∃ (s : State) (now : Nat), ((s.regB 0x200 8 && s.fwRuns && reached now s.wearDue) = false) :=
  ⟨State.reset, 8000, by decide⟩
theorem witness_SiteTime_wearStarts :
    ∃ (s : State) (now : Nat), (s.regB 0x200 8) ∧ (s.fwRuns) ∧ (reached now s.wearDue) ∧ (now < s.wearDue + s.wearGap) ∧ (s.wearNext < 62) :=
  ⟨fwOn.setB 0x200 8 true, 8, by decide +kernel⟩
theorem witness_SiteTime_slotNotDue :
    ∃ (s : State) (now : Nat) (r : Readings), ((s.slotDue now = false ∨ reached now s.clk.now = false)) :=
  ⟨weirOn, 8001, [], by decide⟩
theorem witness_ShortCommands_nopCommand :
    ∃ (s : State) (ctx : Nat) (b : List Byte), (ctx ≤ 16) ∧ (s.cmdReady ctx = some b) ∧ (at' b 0 1 = 1) ∧ ((s.cmdTake ctx b).cmdReason ctx b = 0) :=
  ⟨cmdIn (State.reset) (cmdB 1 []), 0, cmdB 1 [], by decide +kernel⟩
theorem witness_ShortCommands_undefinedOpcode :
    ∃ (s : State) (ctx : Nat) (b : List Byte), (ctx ≤ 16) ∧ (s.cmdReady ctx = some b) ∧ (at' b 0 1 ∉ cmdOpcodes) :=
  ⟨cmdIn (State.reset) (cmdB 119 []), 0, cmdB 119 [], by decide +kernel⟩
theorem witness_ShortCommands_noCommand :
    ∃ (s : State) (ctx : Nat), (ctx ≤ 16) ∧ (s.cmdReady ctx = none) :=
  ⟨State.reset, 16, by decide +kernel⟩
theorem witness_ShortCommands_withoutIde :
    ∃ (s : State) (ctx : Nat) (b : List Byte) (a n : Nat), (ctx ≤ 16) ∧ (s.cmdReady ctx = some b) ∧
    ((at' b 0 1, a, n) ∈ [(0x10, at' b 16 8, 4917), (0x11, at' b 16 8, 1664), (0x18, at' b 16 8, 4 * at' b 14 2), (0x1A, at' b 24 8, 2 * at' b 16 2), (0x23, at' b 16 8, 2048)]) ∧
    (s.ideOk ctx a n = false) :=
  ⟨cmdIn (State.reset.setRegN (aPt 0 0) 16) (cmdB 26 [0, 0, 0, 0, 2]), 0, cmdB 26 [0, 0, 0, 0, 2], 0, 4, by decide +kernel⟩
theorem witness_ShortCommands_keyEk :
    ∃ (s : State) (ctx : Nat) (b : List Byte), (ctx ≤ 16) ∧ (s.cmdReady ctx = some b) ∧ (at' b 0 1 = 16) ∧ ((s.cmdTake ctx b).cmdReason ctx b = 0) ∧ (s.ideOk ctx (at' b 16 8) 4917) ∧
    (at' b 12 1 ≤ 1) ∧ ((s.cmdTake ctx b).ptFlag ctx 1) ∧ ((s.cmdTake ctx b).lcState = 2) ∧ (at' b 16 8 + 4917 ≤ 2 ^ 64) :=
  ⟨cmdIn ((State.reset.setRegN (aPt 0 0) 2).setRegN (rg clsSec 0 0x100) 2) (cmdB 16 [1]), 0, cmdB 16 [1], by decide +kernel⟩
theorem witness_ShortCommands_noRandomness :
    ∃ (s : State) (ctx : Nat) (b : List Byte), (ctx ≤ 16) ∧ (s.cmdReady ctx = some b) ∧ (at' b 0 1 = 16) ∧ ((s.cmdTake ctx b).cmdReason ctx b = 0) ∧ (s.ideOk ctx (at' b 16 8) 4917) ∧
    (at' b 12 1 ≤ 1) ∧ ((s.cmdTake ctx b).ptFlag ctx 1) ∧ ((s.cmdTake ctx b).lcState = 2) ∧ (at' b 16 8 + 4917 ≤ 2 ^ 64) :=
  ⟨cmdIn ((State.reset.setRegN (aPt 0 0) 2).setRegN (rg clsSec 0 0x100) 2) (cmdB 16 [1]), 0, cmdB 16 [1], by decide +kernel⟩
theorem witness_ShortCommands_keyLoad :
    ∃ (s : State) (ctx : Nat) (b : List Byte), (ctx ≤ 16) ∧ (s.cmdReady ctx = some b) ∧ (at' b 0 1 = 17) ∧ ((s.cmdTake ctx b).cmdReason ctx b = 0) ∧ (s.ideOk ctx (at' b 16 8) 1664) ∧
    (at' b 12 1 ≤ 1) ∧ ((s.cmdTake ctx b).ptFlag ctx 1) ∧ (at' b 16 8 + 1664 ≤ 2 ^ 64) :=
  ⟨cmdIn (State.reset.setRegN (aPt 0 0) 2) (cmdB 17 [1]), 0, cmdB 17 [1], by decide +kernel⟩
theorem witness_ShortCommands_rankWrite :
    ∃ (s : State) (ctx : Nat) (b : List Byte) (j : Nat), (ctx ≤ 16) ∧ (s.cmdReady ctx = some b) ∧ (at' b 0 1 = 24) ∧ ((s.cmdTake ctx b).cmdReason ctx b = 0) ∧
    (s.ideOk ctx (at' b 16 8) (4 * at' b 14 2)) ∧ (1 ≤ at' b 14 2) ∧ (at' b 14 2 ≤ 1024) ∧ (at' b 12 2 + at' b 14 2 ≤ 16384) ∧
    ((s.cmdTake ctx b).ptFlag ctx 3) ∧ ((s.cmdTake ctx b).jobOf ctx = some j) ∧ (at' b 16 8 % 4 = 0) ∧ (at' b 16 8 + 4 * at' b 14 2 ≤ 2 ^ 64) :=
  ⟨cmdIn (jobUp.setRegN (aPt 0 0) 8) (cmdB 24 [0, 0, 1, 0]), 0, cmdB 24 [0, 0, 1, 0], 0, by decide +kernel⟩
theorem witness_ShortCommands_groupWrite :
    ∃ (s : State) (ctx : Nat) (b : List Byte) (j : Nat), (ctx ≤ 16) ∧ (s.cmdReady ctx = some b) ∧ (at' b 0 1 = 25) ∧ ((s.cmdTake ctx b).cmdReason ctx b = 0) ∧ (at' b 12 2 < 4096) ∧
    ((s.cmdTake ctx b).ptFlag ctx 3) ∧ ((s.cmdTake ctx b).jobOf ctx = some j) ∧ (at' b 20 4 / 2 ^ 20 % 4 = j) ∧
    ((s.cmdTake ctx b).groupValid (at' b 12 2) = false) :=
  ⟨cmdIn (jobUp.setRegN (aPt 0 0) 8) (cmdB 25 [9, 0, 0, 0, 1]), 0, cmdB 25 [9, 0, 0, 0, 1], 0, by decide +kernel⟩
theorem witness_ShortCommands_memberWrite :
    ∃ (s : State) (ctx : Nat) (b : List Byte), (ctx ≤ 16) ∧ (s.cmdReady ctx = some b) ∧ (at' b 0 1 = 26) ∧ ((s.cmdTake ctx b).cmdReason ctx b = 0) ∧
    (s.ideOk ctx (at' b 24 8) (2 * at' b 16 2)) ∧ (1 ≤ at' b 16 2) ∧ (at' b 16 2 ≤ 2048) ∧ ((s.cmdTake ctx b).ptFlag ctx 3) ∧
    ((s.cmdTake ctx b).regF (aCe ctx 0x128) 0 18 ≤ at' b 12 4) ∧
    (at' b 12 4 + at' b 16 2 ≤ (s.cmdTake ctx b).regF (aCe ctx 0x128) 0 18 + (s.cmdTake ctx b).regF (aCe ctx 0x12C) 0 19) ∧
    (at' b 12 4 + at' b 16 2 ≤ 262144) ∧ (at' b 24 8 % 2 = 0) ∧ (at' b 24 8 + 2 * at' b 16 2 ≤ 2 ^ 64) :=
  ⟨cmdIn ((State.reset.setRegN (aPt 0 0) 8).setRegN (aCe 0 0x12C) 9) (cmdB 26 [0, 0, 0, 0, 2]), 0, cmdB 26 [0, 0, 0, 0, 2], by decide +kernel⟩
theorem witness_LongCommands_imageLoad :
    ∃ (s : State) (ctx : Nat) (b : List Byte), (ctx ≤ 16) ∧ (s.cmdReady ctx = some b) ∧ (at' b 0 1 = 32) ∧ ((s.cmdTake ctx b).cmdReason ctx b = 0) ∧ ((s.cmdTake ctx b).mayRun ctx) ∧
    ((s.cmdTake ctx b).vaReach ctx (at' b 16 8) (at' b 24 4)) :=
  ⟨cmdIn (manPlaced) (cmdB 32 (List.replicate 12 0 ++ [128])), 0, cmdB 32 (List.replicate 12 0 ++ [128]), by decide +kernel⟩
theorem witness_LongCommands_unreachableImage :
    ∃ (s : State) (ctx : Nat) (b : List Byte), (ctx ≤ 16) ∧ (s.cmdReady ctx = some b) ∧ (at' b 0 1 = 32) ∧ ((s.cmdTake ctx b).cmdReason ctx b = 0) ∧ ((s.cmdTake ctx b).mayRun ctx) ∧
    ((s.cmdTake ctx b).vaReach ctx (at' b 16 8) (at' b 24 4) = false) :=
  ⟨cmdIn (runOk) (cmdB 32 (List.replicate 12 0 ++ [128])), 0, cmdB 32 (List.replicate 12 0 ++ [128]), by decide +kernel⟩
theorem witness_LongCommands_fusedRun :
    ∃ (s : State) (ctx : Nat) (b : List Byte) (n : Nat), (ctx ≤ 16) ∧ (s.cmdReady ctx = some b) ∧ (at' b 0 1 = 33) ∧ ((s.cmdTake ctx b).cmdReason ctx b = 0) ∧ (1 ≤ at' b 24 4) ∧
    (at' b 24 4 ≤ 65536) ∧ ((s.cmdTake ctx b).mayRun ctx) ∧ (at' b 16 8 % 128 = 0) ∧
    ((s.cmdTake ctx b).vaReach ctx (at' b 16 8) (128 * at' b 24 4)) ∧ ((s.cmdTake ctx b).runStart ctx (at' b 28 4) = some n) ∧
    (((s.cmdTake ctx b).openLong ctx b (n + at' b 24 4) []).2.runStart ctx (at' b 28 4) = some n) :=
  ⟨cmdIn (manPlaced) (cmdB 33 (List.replicate 12 0 ++ [3])), 0, cmdB 33 (List.replicate 12 0 ++ [3]), 0, by decide +kernel⟩
theorem witness_LongCommands_unreachableRun :
    ∃ (s : State) (ctx : Nat) (b : List Byte), (ctx ≤ 16) ∧ (s.cmdReady ctx = some b) ∧ (at' b 0 1 = 33) ∧ ((s.cmdTake ctx b).cmdReason ctx b = 0) ∧ (1 ≤ at' b 24 4) ∧
    (at' b 24 4 ≤ 65536) ∧ ((s.cmdTake ctx b).mayRun ctx) ∧ ((s.cmdTake ctx b).vaReach ctx (at' b 16 8) (128 * at' b 24 4) = false) :=
  ⟨cmdIn (runOk) (cmdB 33 (List.replicate 12 0 ++ [3])), 0, cmdB 33 (List.replicate 12 0 ++ [3]), by decide +kernel⟩
theorem witness_LongCommands_emptyRun :
    ∃ (s : State) (ctx : Nat) (b : List Byte), (ctx ≤ 16) ∧ (s.cmdReady ctx = some b) ∧ (at' b 0 1 = 33) ∧ ((s.cmdTake ctx b).cmdReason ctx b = 0) ∧ (at' b 24 4 = 0) :=
  ⟨cmdIn (runOk) (cmdB 33 []), 0, cmdB 33 [], by decide +kernel⟩
theorem witness_LongCommands_checkpoint :
    ∃ (s : State) (ctx : Nat) (b : List Byte), (ctx ≤ 16) ∧ (s.cmdReady ctx = some b) ∧ (at' b 0 1 = 34) ∧ ((s.cmdTake ctx b).cmdReason ctx b = 0) ∧ ((s.cmdTake ctx b).mayRun ctx) :=
  ⟨cmdIn (runOk) (cmdB 34 []), 0, cmdB 34 [], by decide +kernel⟩
theorem witness_LongCommands_jobStart :
    ∃ (s : State) (ctx : Nat) (b : List Byte) (j : Nat), (ctx ≤ 16) ∧ (s.cmdReady ctx = some b) ∧ (at' b 0 1 = 35) ∧ ((s.cmdTake ctx b).cmdReason ctx b = 0) ∧ (s.ideOk ctx (at' b 16 8) 2048) ∧
    ((s.cmdTake ctx b).ptFlag ctx 3) ∧ ((s.cmdTake ctx b).jobOf ctx = some j) ∧ ((s.cmdTake ctx b).selfRank j = 0) ∧
    ((s.cmdTake ctx b).jobState j = 0) ∧ (((s.cmdTake ctx b).boundDigest ctx).isSome) ∧ (at' b 16 8 + 2048 ≤ 2 ^ 64) :=
  ⟨cmdIn ({ (jobUp.setRegN (aPt 0 0) 8).setRegN (aHwc 0 4) 1 with hwMan := [(0, manSmall)] }) (cmdB 35 []), 0, cmdB 35 [], 0, by decide +kernel⟩
theorem witness_LongCommands_weightSwap :
    ∃ (s : State) (ctx : Nat) (b : List Byte), (ctx ≤ 16) ∧ (s.cmdReady ctx = some b) ∧ (at' b 0 1 = 36) ∧ ((s.cmdTake ctx b).cmdReason ctx b = 0) ∧ (at' b 12 1 ≤ 1) ∧
    ((s.cmdTake ctx b).manOk ctx 0) ∧ ((s.cmdTake ctx b).manOk ctx 1) ∧ ((s.cmdTake ctx b).keyOk ctx 0) ∧ ((s.cmdTake ctx b).keyOk ctx 1) ∧
    ((s.cmdTake ctx b).genOf ctx 0 ≠ (s.cmdTake ctx b).genOf ctx 1) ∧ ((s.cmdTake ctx b).hwSwap ctx = 0) :=
  ⟨cmdIn ((State.reset.setRegN (aHwc 0 4) 15).setRegN (aHwc 0 0x18) 1) (cmdB 36 [1]), 0, cmdB 36 [1], by decide +kernel⟩
theorem witness_LongCommands_regionRemap :
    ∃ (s : State) (ctx : Nat) (b : List Byte) (l : List Byte), (ctx ≤ 16) ∧ (s.cmdReady ctx = some b) ∧ (at' b 0 1 = 37) ∧ ((s.cmdTake ctx b).cmdReason ctx b = 0) ∧ (1 ≤ at' b 24 2) ∧
    (at' b 24 2 ≤ 1024) ∧ (at' b 48 4 ≤ 65536) ∧ ((s.cmdTake ctx b).rstate ctx = 2) ∧ (at' b 28 8 % 128 = 0) ∧ (at' b 40 8 % 128 = 0) ∧
    (at' b 36 4 = 0 ∨ (s.cmdTake ctx b).vaReach ctx (at' b 28 8) (128 * at' b 36 4)) ∧
    (at' b 48 4 = 0 ∨ (s.cmdTake ctx b).vaReach ctx (at' b 40 8) (128 * at' b 48 4)) ∧
    (((s.cmdTake ctx b).vaRead ctx (at' b 16 8) (16 * at' b 24 2)).1 = .inr l) ∧
    ((remapEntries l (at' b 24 2)).all (fun e => rectOk e.2.1 e.2.2.1 e.2.2.2.1 e.2.2.2.2)) :=
  ⟨cmdIn (vecList.setRstate 0 2) (cmdB 37 (List.replicate 12 0 ++ [1])), 0, cmdB 37 (List.replicate 12 0 ++ [1]), opVec.take 16, by decide +kernel⟩
theorem witness_LongCommands_stackScrubFull :
    ∃ (s : State) (ctx : Nat) (b : List Byte), (ctx ≤ 16) ∧ (s.cmdReady ctx = some b) ∧ (at' b 0 1 = 48) ∧ ((s.cmdTake ctx b).cmdReason ctx b = 0) ∧ (1 ≤ at' b 12 1) ∧ (at' b 12 1 ≤ 8) :=
  ⟨cmdIn (State.reset) (cmdB 48 [8]), 0, cmdB 48 [8], by decide +kernel⟩
theorem witness_LongCommands_selfTest :
    ∃ (s : State) (ctx : Nat) (b : List Byte), (ctx ≤ 16) ∧ (s.cmdReady ctx = some b) ∧ (at' b 0 1 = 49) ∧ ((s.cmdTake ctx b).cmdReason ctx b = 0) ∧ (at' b 16 8 < 2 ^ 63) ∧
    (∀ r ∈ bitsSet 63 (at' b 16 8), (s.cmdTake ctx b).reachUsed r = false) :=
  ⟨cmdIn (State.reset) (cmdB 49 [0, 0, 0, 0, 5]), 0, cmdB 49 [0, 0, 0, 0, 5], by decide +kernel⟩
theorem witness_LongCommands_wipe :
    ∃ (s : State) (ctx : Nat) (b : List Byte), (ctx ≤ 16) ∧ (s.cmdReady ctx = some b) ∧ (at' b 0 1 = 50) ∧ ((s.cmdTake ctx b).cmdReason ctx b = 0) ∧ (at' b 12 1 ≤ 16) ∧
    (at' b 13 1 ≤ 7) ∧ ((s.cmdTake ctx b).ptFlag (at' b 12 1) 0) ∧ ((s.cmdTake ctx b).pst clsXl (at' b 12 1) = stOff) ∧
    (((s.cmdTake ctx b).eng (at' b 12 1)).ops = []) :=
  ⟨cmdIn (State.reset.setRegN (aPt 3 0) 1) (cmdB 50 [3, 7]), 0, cmdB 50 [3, 7], by decide +kernel⟩
theorem witness_LongCommands_fwUpdate :
    ∃ (s : State) (ctx : Nat) (b : List Byte), (ctx ≤ 16) ∧ (s.cmdReady ctx = some b) ∧ (at' b 0 1 = 51) ∧ ((s.cmdTake ctx b).cmdReason ctx b = 0) ∧ (0x1500 ≤ at' b 24 4) ∧
    (at' b 24 4 ≤ 32 * 2 ^ 20) ∧ (∀ o ∈ ((s.cmdTake ctx b).eng ctx).ops, o.opcode ≠ 0x33) ∧ (at' b 16 8 + at' b 24 4 ≤ 2 ^ 64) :=
  ⟨cmdIn (State.reset) (cmdB 51 (List.replicate 12 0 ++ [0, 0x15])), 0, cmdB 51 (List.replicate 12 0 ++ [0, 0x15]), by decide +kernel⟩
theorem witness_LongOperations_suspend :
    ∃ (s : State) (ctx : Nat) (b : List Byte) (o : LongOp), (ctx ≤ 16) ∧ (s.cmdReady ctx = some b) ∧ (at' b 0 1 = 2) ∧ ((s.cmdTake ctx b).cmdReason ctx b = 0) ∧ (at' b 2 2 ≠ 0) ∧
    ((s.cmdTake ctx b).longOp? ctx (at' b 2 2) = some o) ∧ (o.state = 0) ∧ (o.opcode ∉ [0x20, 0x22, 0x23, 0x32]) :=
  ⟨lopIn (cmdIn (State.reset) (ctlB 2 7)) (lop 0x21 0), 0, ctlB 2 7, lop 0x21 0, by decide +kernel⟩
theorem witness_LongOperations_suspendRefused :
    ∃ (s : State) (ctx : Nat) (b : List Byte) (o : LongOp), (ctx ≤ 16) ∧ (s.cmdReady ctx = some b) ∧ (at' b 0 1 = 2) ∧ ((s.cmdTake ctx b).cmdReason ctx b = 0) ∧ (at' b 2 2 ≠ 0) ∧
    ((s.cmdTake ctx b).longOp? ctx (at' b 2 2) = some o) ∧ (o.state = 0) ∧ (o.opcode ∈ [0x20, 0x22, 0x23, 0x32]) :=
  ⟨lopIn (cmdIn (State.reset) (ctlB 2 7)) (lop 0x20 0), 0, ctlB 2 7, lop 0x20 0, by decide +kernel⟩
theorem witness_LongOperations_resume :
    ∃ (s : State) (ctx : Nat) (b : List Byte) (o : LongOp), (ctx ≤ 16) ∧ (s.cmdReady ctx = some b) ∧ (at' b 0 1 = 3) ∧ ((s.cmdTake ctx b).cmdReason ctx b = 0) ∧ (at' b 2 2 ≠ 0) ∧
    ((s.cmdTake ctx b).longOp? ctx (at' b 2 2) = some o) ∧ (o.state = 1 ∨ o.state = 2) ∧ (o.opcode ≠ 0x24) :=
  ⟨lopIn (cmdIn (State.reset) (ctlB 3 7)) (lop 0x21 2), 0, ctlB 3 7, lop 0x21 2, by decide +kernel⟩
theorem witness_LongOperations_cancel :
    ∃ (s : State) (ctx : Nat) (b : List Byte) (o : LongOp), (ctx ≤ 16) ∧ (s.cmdReady ctx = some b) ∧ (at' b 0 1 = 4) ∧ ((s.cmdTake ctx b).cmdReason ctx b = 0) ∧ (at' b 2 2 ≠ 0) ∧
    ((s.cmdTake ctx b).longOp? ctx (at' b 2 2) = some o) ∧ (o.state ≠ 3) ∧ ((s.cmdTake ctx b).cancelRefused ctx o = false) :=
  ⟨lopIn (cmdIn (State.reset) (ctlB 4 7)) (lop 0x21 0), 0, ctlB 4 7, lop 0x21 0, by decide +kernel⟩
theorem witness_LongOperations_cancelRefused :
    ∃ (s : State) (ctx : Nat) (b : List Byte) (o : LongOp), (ctx ≤ 16) ∧ (s.cmdReady ctx = some b) ∧ (at' b 0 1 = 4) ∧ ((s.cmdTake ctx b).cmdReason ctx b = 0) ∧ (at' b 2 2 ≠ 0) ∧
    ((s.cmdTake ctx b).longOp? ctx (at' b 2 2) = some o) ∧ (o.state ≠ 3) ∧ ((s.cmdTake ctx b).cancelRefused ctx o) :=
  ⟨lopIn (cmdIn (State.reset) (ctlB 4 7)) (lop 0x32 0), 0, ctlB 4 7, lop 0x32 0, by decide +kernel⟩
theorem witness_LongOperations_noSuchHandle :
    ∃ (s : State) (ctx : Nat) (b : List Byte), (ctx ≤ 16) ∧ (s.cmdReady ctx = some b) ∧ (at' b 0 1 = 4) ∧ ((s.cmdTake ctx b).cmdReason ctx b = 0) ∧
    ((s.cmdTake ctx b).longOp? ctx (at' b 2 2) = none) :=
  ⟨cmdIn State.reset (ctlB 4 7), 0, ctlB 4 7, by decide +kernel⟩
theorem witness_LongOperations_suspendPointReached :
    ∃ (s : State) (ctx h : Nat) (w : Work) (o : LongOp), (ctx ≤ 16) ∧ (s.longOp? ctx h = some o) ∧ (o.state = 1) ∧ (s.suspendHere ctx o) ∧ (o.opcode ≠ 0x24) :=
  ⟨lopIn State.reset (lop 0x30 1), 0, 7, noWork, lop 0x30 1, by decide +kernel⟩
theorem witness_LongOperations_longOperationEnd :
    ∃ (s : State) (ctx h now : Nat) (w : Work) (o : LongOp), (ctx ≤ 16) ∧ (s.longOp? ctx h = some o) ∧ (o.state = 0) :=
  ⟨lopIn State.reset (lop 0x30 0), 0, 7, 0, noWork, lop 0x30 0, by decide +kernel⟩
theorem witness_LongOperations_endCancelled :
    ∃ (s : State) (ctx h now : Nat) (w : Work) (o : LongOp), (ctx ≤ 16) ∧ (s.longOp? ctx h = some o) ∧ (o.state = 3) ∧ (o.opcode ≠ 0x21) :=
  ⟨lopIn State.reset (lop 0x30 3), 0, 7, 0, noWork, lop 0x30 3, by decide +kernel⟩
theorem witness_LongOperations_suspendedStays :
    ∃ (s : State) (ctx h now : Nat) (w : Work) (o : LongOp), (ctx ≤ 16) ∧ (s.longOp? ctx h = some o) ∧ (o.state = 2) :=
  ⟨lopIn State.reset (lop 0x30 2), 0, 7, 0, noWork, lop 0x30 2, by decide +kernel⟩
theorem witness_LongOperations_deadlineExpiry :
    ∃ (s : State) (ctx h now t : Nat) (o : LongOp), (ctx ≤ 16) ∧ (s.longOp? ctx h = some o) ∧ (o.state ≠ 3) ∧ (o.deadline = some t) ∧ (grain t ≤ grain (max now s.clk.now)) ∧
    ((s.atTime now).cancelRefused ctx o = false) :=
  ⟨lopIn State.reset (lop 0x30 0), 0, 7, 16, 16, lop 0x30 0, by decide +kernel⟩
theorem witness_LongOperations_deadlineRefused :
    ∃ (s : State) (ctx h now t : Nat) (o : LongOp), (ctx ≤ 16) ∧ (s.longOp? ctx h = some o) ∧ (o.state ≠ 3) ∧ (o.deadline = some t) ∧ (grain t ≤ grain (max now s.clk.now)) ∧
    ((s.atTime now).cancelRefused ctx o) :=
  ⟨lopIn State.reset (lop 0x32 0), 0, 7, 16, 16, lop 0x32 0, by decide +kernel⟩
theorem witness_LongOperations_progressTimer :
    ∃ (s : State) (ctx h now : Nat) (w : Work) (o : LongOp), (ctx ≤ 16) ∧ (s.longOp? ctx h = some o) ∧ (inWindow (max now s.clk.now) o.reportAt 100000000 = false) :=
  ⟨lopIn State.reset (lop 0x30 0), 0, 7, 100000000, noWork, lop 0x30 0, by decide +kernel⟩
theorem witness_LongOperations_tooSoon :
    ∃ (s : State) (ctx h now : Nat) (w : Work) (o : LongOp), (ctx ≤ 16) ∧ (s.longOp? ctx h = some o) ∧ (inWindow (max now s.clk.now) o.reportAt 100000000) :=
  ⟨lopIn State.reset (lop 0x30 0), 0, 7, 99999999, noWork, lop 0x30 0, by decide +kernel⟩
theorem witness_RingInterruptsAndResets_cqHeadWrite :
    ∃ (s : State) (ctx : Nat) (v : W32), (ctx ≤ 16) ∧ (s.served) :=
  ⟨State.reset.setF 0x108 0 3 4, 16, 3, by decide +kernel⟩
theorem witness_RingInterruptsAndResets_headOnly :
    ∃ (s : State) (ctx : Nat) (v : W32), (ctx ≤ 16) ∧ (s.served) ∧ ((s.eng ctx).waiting = []) :=
  ⟨State.reset.setF 0x108 0 3 4, 16, 3, by decide +kernel⟩
theorem witness_RingInterruptsAndResets_msixModerationExpiry :
    ∃ (s : State) (ctx now t : Nat), (ctx ≤ 16) ∧ ((s.eng ctx).owesMsi) ∧ ((s.eng ctx).lastMsi = some t) ∧
    (inWindow (max now s.clk.now) t (s.regF (aCe ctx 0x11C) 20 12 * 1000) = false) :=
  ⟨{ State.reset with ce := [(4, { Engine.init with owesMsi := true, lastMsi := some 0 })] }, 4, 5, 0, by decide +kernel⟩
theorem witness_RingInterruptsAndResets_msixVectorUnmask :
    ∃ (s : State) (fn vec addr data : Nat) (m : Bool), (fn ≤ 16) ∧ (vec < vecsOf fn) ∧ (look (0, 0, true) s.msix (fn * 128 + vec) = (addr, data, m)) ∧ (fn * 128 + vec ∈ s.msixPend) ∧
    (fn ∉ s.msixFnMask) ∧ (s.ideOk fn addr 4) :=
  ⟨{ State.reset with msix := [(5, (64, 9, true))], msixPend := [5] }, 0, 5, 64, 9, true, by decide +kernel⟩
theorem witness_RingInterruptsAndResets_heldBack :
    ∃ (s : State) (fn vec addr data : Nat) (m : Bool), (fn ≤ 16) ∧ (vec < vecsOf fn) ∧ (look (0, 0, true) s.msix (fn * 128 + vec) = (addr, data, m)) ∧ (fn * 128 + vec ∈ s.msixPend) ∧
    (fn ∈ s.msixFnMask ∨ s.ideOk fn addr 4 = false) :=
  ⟨{ State.reset with msix := [(5, (64, 9, true))], msixPend := [5], msixFnMask := [0] }, 0, 5, 64, 9, true, by decide +kernel⟩
theorem witness_RingInterruptsAndResets_notPending :
    ∃ (s : State) (fn vec addr data : Nat) (m : Bool), (fn ≤ 16) ∧ (vec < vecsOf fn) ∧ (look (0, 0, true) s.msix (fn * 128 + vec) = (addr, data, m)) ∧ (fn * 128 + vec ∉ s.msixPend) :=
  ⟨State.reset, 1, 119, 0, 0, true, by decide +kernel⟩
theorem witness_RingInterruptsAndResets_ceStopDone :
    ∃ (s : State) (ctx : Nat), (ctx ≤ 16) ∧ (s.pst clsCe ctx = stStopping) ∧ ((s.eng ctx).stopWaits = 0) ∧ (s.pendOn clsCe ctx = false) :=
  ⟨State.reset.setPst clsCe 5 stStopping, 5, by decide +kernel⟩
theorem witness_RingInterruptsAndResets_functionLevelReset :
    ∃ (s : State) (ctx : Nat), (1 ≤ ctx) ∧ (ctx ≤ 16) :=
  ⟨State.reset, 16, by decide +kernel⟩
theorem witness_RingInterruptsAndResets_ideIntegrityFail :
    ∃ (s : State) (k : Nat), (k ≤ 8) ∧ (s.regB (rg clsSec 0 0x110) k) :=
  ⟨State.reset.setRegN (rg clsSec 0 0x110) 0x100, 8, by decide +kernel⟩
theorem witness_SpdmResponder_plain :
    ∃ (s : State) (d : Bool) (r : List Byte), (s.fwUp) ∧ (s.inputStage = 2) ∧ ((d = false ∨ s.regB (rg clsPcie 0 0x100) 0 = true)) :=
  ⟨{ weirOn.setB (rg clsPcie 0 0x100) 0 true with fwUp := true }, true, [1], by decide +kernel⟩
theorem witness_SpdmResponder_algorithms :
    ∃ (s : State) (d : Bool) (r : List Byte), (s.fwUp) ∧ (s.inputStage = 2) ∧ ((d = false ∨ s.regB (rg clsPcie 0 0x100) 0 = true)) :=
  ⟨{ weirOn.setB (rg clsPcie 0 0x100) 0 true with fwUp := true }, true, [1], by decide +kernel⟩
theorem witness_SpdmResponder_chains :
    ∃ (s : State) (d : Bool) (r : List Byte), (s.fwUp) ∧ (s.inputStage = 2) ∧ ((d = false ∨ s.regB (rg clsPcie 0 0x100) 0 = true)) :=
  ⟨{ weirOn.setB (rg clsPcie 0 0x100) 0 true with fwUp := true }, true, [1], by decide +kernel⟩
theorem witness_SpdmResponder_signed :
    ∃ (s : State) (d : Bool) (r : List Byte), (s.fwUp) ∧ (s.inputStage = 2) ∧ ((d = false ∨ s.regB (rg clsPcie 0 0x100) 0 = true)) :=
  ⟨{ weirOn.setB (rg clsPcie 0 0x100) 0 true with fwUp := true }, true, [1], by decide +kernel⟩
theorem witness_SpdmResponder_getMeasurements :
    ∃ (s : State) (d : Bool) (r : List Byte), (s.fwUp) ∧ (s.inputStage = 2) ∧ ((d = false ∨ s.regB (rg clsPcie 0 0x100) 0 = true)) :=
  ⟨{ weirOn.setB (rg clsPcie 0 0x100) 0 true with fwUp := true }, true, [1], by decide +kernel⟩
theorem witness_SpdmResponder_getCsr :
    ∃ (s : State) (d : Bool) (r : List Byte), (s.fwUp) ∧ (s.inputStage = 2) ∧ ((d = false ∨ s.regB (rg clsPcie 0 0x100) 0 = true)) :=
  ⟨{ weirOn.setB (rg clsPcie 0 0x100) 0 true with fwUp := true }, true, [1], by decide +kernel⟩
theorem witness_SpdmResponder_setCertificate :
    ∃ (s : State) (d : Bool) (r : List Byte), (s.fwUp) ∧ (s.inputStage = 2) ∧ ((d = false ∨ s.regB (rg clsPcie 0 0x100) 0 = true)) :=
  ⟨{ weirOn.setB (rg clsPcie 0 0x100) 0 true with fwUp := true }, true, [1], by decide +kernel⟩
theorem witness_SpdmResponder_certificateRefused :
    ∃ (s : State) (d : Bool) (r : List Byte), (s.fwUp) ∧ (s.inputStage = 2) ∧ ((d = false ∨ s.regB (rg clsPcie 0 0x100) 0 = true)) ∧ (s.lcState ≠ 2) :=
  ⟨{ (weirOn.setB (rg clsPcie 0 0x100) 0 true).setRegN (rg clsSec 0 0x100) 3 with fwUp := true }, true, [1], by decide +kernel⟩
theorem witness_SpdmResponder_vendorDefinedRequest :
    ∃ (s : State) (d : Bool) (r : List Byte), (s.fwUp) ∧ (s.inputStage = 2) ∧ ((d = false ∨ s.regB (rg clsPcie 0 0x100) 0 = true)) :=
  ⟨{ weirOn.setB (rg clsPcie 0 0x100) 0 true with fwUp := true }, true, [1], by decide +kernel⟩
theorem witness_SpdmResponder_silence :
    ∃ (s : State) (d : Bool) (r : List Byte), ((s.fwUp = false ∨ s.inputStage ≠ 2 ∨ d = true ∧ s.regB (rg clsPcie 0 0x100) 0 = false)) :=
  ⟨State.reset, true, [1], by decide⟩
theorem witness_MailboxAndTransitions_recoveryImage :
    ∃ (s : State), (s.mbRequest = some 1) ∧ ((s.mbLen = 0 ∨ s.ideOk 0 s.mbAddr s.mbLen = true)) ∧ (s.fetching) ∧ (s.regB (aMb 0x104) 3) ∧
    (s.mbLen ≤ 32 * 2 ^ 20) :=
  ⟨{ (mbIs 1 0 100 0).setB (rg clsMbox 0 0x104) 3 true with fetching := true }, by decide +kernel⟩
theorem witness_MailboxAndTransitions_noneWaited :
    ∃ (s : State), (s.mbRequest = some 1) ∧ ((s.mbLen = 0 ∨ s.ideOk 0 s.mbAddr s.mbLen = true)) ∧ (s.fetching = false) :=
  ⟨mbIs 1 0 100 0, by decide +kernel⟩
theorem witness_MailboxAndTransitions_partitionWrite :
    ∃ (s : State), (s.mbRequest = some 2) ∧ ((s.mbLen = 0 ∨ s.ideOk 0 s.mbAddr s.mbLen = true)) ∧ (s.fwUp) ∧ (s.inputStage = 2) ∧ (s.stage ≠ 5) ∧
    (s.mbLen = 608) :=
  ⟨mbIs 2 0 608 0, by decide +kernel⟩
theorem witness_MailboxAndTransitions_partitionRead :
    ∃ (s : State), (s.mbRequest = some 3) ∧ ((s.mbLen = 0 ∨ s.ideOk 0 s.mbAddr s.mbLen = true)) ∧ (s.fwUp) ∧ (s.inputStage = 2) ∧ (s.mbLen = 608) ∧
    (s.ptRecord ≠ []) :=
  ⟨{ mbIs 3 0 608 0 with ptRecord := [1] }, by decide +kernel⟩
theorem witness_MailboxAndTransitions_noRecord :
    ∃ (s : State), (s.mbRequest = some 3) ∧ ((s.mbLen = 0 ∨ s.ideOk 0 s.mbAddr s.mbLen = true)) ∧ (s.fwUp) ∧ (s.inputStage = 2) ∧ (s.mbLen = 608) ∧
    (s.ptRecord = []) :=
  ⟨mbIs 3 0 608 0, by decide +kernel⟩
theorem witness_MailboxAndTransitions_lifecycle :
    ∃ (s : State), (s.mbRequest = some 4) ∧ (s.lcPend = none) ∧ (s.fwUp) ∧ (s.inputStage = 2) ∧ (s.mbLen = 0) ∧ (s.lcAllowed (s.mbArg % 8) = some false) :=
  ⟨mbIs 4 0 0 3, by decide +kernel⟩
theorem witness_MailboxAndTransitions_tokenMissing :
    ∃ (s : State), (s.mbRequest = some 4) ∧ (s.lcPend = none) ∧ (s.fwUp) ∧ (s.inputStage = 2) ∧ (s.mbLen = 0) ∧ (s.lcAllowed (s.mbArg % 8) = some true) :=
  ⟨(mbIs 4 0 0 2).setF (rg clsSec 0 0x100) 0 3 3, by decide +kernel⟩
theorem witness_MailboxAndTransitions_notAllowed :
    ∃ (s : State), (s.mbRequest = some 4) ∧ ((s.mbLen = 0 ∨ s.ideOk 0 s.mbAddr s.mbLen = true)) ∧ (s.lcPend = none) ∧ (s.lcAllowed (s.mbArg % 8) = none) :=
  ⟨mbIs 4 0 0 7, by decide +kernel⟩
theorem witness_MailboxAndTransitions_burnt :
    ∃ (s : State) (bad : List Nat) (n : Nat), (s.cairn.flushing) ∧ (s.inputStage ≠ 3) ∧ (s.lcPend = some n) :=
  ⟨{ weirOn with lcPend := some 3, cairn := { State.reset.cairn with flushing := true } }, [], 3, by decide +kernel⟩
theorem witness_MailboxAndTransitions_flushed :
    ∃ (s : State) (bad : List Nat), (s.cairn.flushing) ∧ (s.inputStage ≠ 3) ∧ (s.lcPend = none) :=
  ⟨{ weirOn with cairn := { State.reset.cairn with flushing := true } }, [7], by decide +kernel⟩
theorem witness_MailboxAndTransitions_poweredDown :
    ∃ (s : State) (bad : List Nat), (s.cairn.flushing) ∧ (s.inputStage = 3) :=
  ⟨{ weirOn with inputStage := 3, cairn := { State.reset.cairn with flushing := true } }, [], by decide +kernel⟩
theorem witness_MailboxAndTransitions_warmReset :
    ∃ (s : State), (s.mbRequest = some 5) ∧ (s.fwUp) ∧ (s.inputStage = 2) ∧ (s.stage = 4) ∧ (s.warmHeld = none) ∧ (s.warmRuns = false) :=
  ⟨(mbIs 5 0 0 0).setF 0x108 0 3 4, by decide +kernel⟩
theorem witness_MailboxAndTransitions_warmHeld :
    ∃ (s : State), (s.mbRequest = some 5) ∧ (s.fwUp) ∧ (s.inputStage = 2) ∧ (s.stage < 4) ∧ (s.warmHeld = none) ∧ (s.warmRuns = false) :=
  ⟨mbIs 5 0 0 0, by decide +kernel⟩
theorem witness_MailboxAndTransitions_withoutIde :
    ∃ (s : State) (op : Nat), (s.mbRequest = some op) ∧ (op ≠ 5) ∧ (s.mbLen ≠ 0) ∧ (s.ideOk 0 s.mbAddr s.mbLen = false) :=
  ⟨(mbIs 2 0 608 0).setRegN (aPt 0 0) 16, 2, by decide +kernel⟩
theorem witness_MailboxAndTransitions_others :
    ∃ (s : State), (s.mbRequest = none) :=
  ⟨State.reset, by decide⟩
theorem witness_WardenStartsAndCairnReads_warmResetBoot :
    ∃ (s : State) (now : Nat) (t0 : Nat), (s.warmAt = some t0) ∧ (inWindow (max now s.clk.now) t0 1000000 = false) ∧ (s.inputStage = 2) :=
  ⟨{ weirOn with warmAt := some 5 }, 1000005, 5, by decide +kernel⟩
theorem witness_WardenStartsAndCairnReads_tooEarly :
    ∃ (s : State) (now : Nat) (t0 : Nat), (s.warmAt = some t0) ∧ (inWindow (max now s.clk.now) t0 1000000) :=
  ⟨{ weirOn with warmAt := some 5 }, 999999, 5, by decide +kernel⟩
theorem witness_WardenStartsAndCairnReads_wardenRestart :
    ∃ (s : State) (now : Nat), (s.fwUp) ∧ (s.inputStage = 2) :=
  ⟨{ weirOn with fwUp := true }, 5, by decide +kernel⟩
theorem witness_WardenStartsAndCairnReads_wardenCoreTakeover :
    ∃ (s : State) (now : Nat), (s.inputStage = 2) ∧ (s.regB (aSec 0x100) 10) :=
  ⟨({ weirOn with fwUp := true }).setB (rg clsSec 0 0x100) 10 true, 5, by decide +kernel⟩
theorem witness_WardenStartsAndCairnReads_standbyCoreTestDone :
    ∃ (s : State), (s.coreTest) ∧ (s.fwUp) :=
  ⟨{ weirOn with coreTest := true, fwUp := true }, by decide +kernel⟩
theorem witness_WardenStartsAndCairnReads_recoveryFetchRetry :
    ∃ (s : State) (now : Nat), (s.fetching) ∧ (inWindow (max now s.clk.now) s.fetchAt 10000000000 = false) :=
  ⟨{ weirOn with fetching := true, fetchAt := 3 }, 10000000003, by decide +kernel⟩
theorem witness_WardenStartsAndCairnReads_recoveryFetchDone :
    ∃ (s : State) (path : Nat) (b : List Byte), (s.fetching) ∧ (path = 1 ∧ s.regB (aMb 0x104) 3 ∨ path = 2 ∧ s.regB (aMb 0x104) 3 = false) :=
  ⟨{ weirOn with fetching := true }, 2, [], by decide +kernel⟩
theorem witness_WardenStartsAndCairnReads_firmwareStart :
    ∃ (s : State) (now : Nat) (i : BootImg), (s.boot = some i) ∧ (s.fwUp = false) ∧ (s.inputStage = 2) :=
  ⟨{ weirOn.setF 0x108 0 3 4 with boot := some ⟨1, 0, 0, 0, []⟩ }, 5, ⟨1, 0, 0, 0, []⟩, by decide +kernel⟩
theorem witness_WardenStartsAndCairnReads_restartLeavesWork :
    ∃ (s : State) (now : Nat) (i : BootImg), (s.boot = some i) ∧ (s.fwUp = false) ∧ (s.inputStage = 2) ∧ (s.regB (aSec 0x100) 8) ∧ (s.startPend = []) :=
  ⟨{ (weirOn.setF 0x108 0 3 4).setB (rg clsSec 0 0x100) 8 true with boot := some ⟨1, 0, 0, 0, []⟩ }, 5, ⟨1, 0, 0, 0, []⟩, by decide +kernel⟩
theorem witness_WardenStartsAndCairnReads_noTable :
    ∃ (s : State) (now : Nat) (i : BootImg), (s.boot = some i) ∧ (s.fwUp = false) ∧ (s.inputStage = 2) ∧ (s.regB (aSec 0x100) 8 = false) ∧ (s.cmtCopy = none) ∧ (s.lcState ≠ 3) :=
  ⟨{ weirOn with boot := some ⟨1, 0, 0, 0, []⟩, cmtA := ⟨0, false, []⟩, cmtB := ⟨0, false, []⟩ }, 5, ⟨1, 0, 0, 0, []⟩, by decide +kernel⟩
theorem witness_WardenStartsAndCairnReads_startupTestDone :
    ∃ (s : State) (p : Nat), (p < 252) ∧ (p ∈ s.testing) :=
  ⟨{ weirOn with testing := [251] }, 251, by decide +kernel⟩
theorem witness_WardenStartsAndCairnReads_ready :
    ∃ (s : State) (now : Nat), (s.fwUp) ∧ (1 ≤ s.stage ∧ s.stage ≤ 3) ∧ (s.readyOk) ∧ (s.warmHeld = none) :=
  ⟨readyUp, 5, by decide +kernel⟩
theorem witness_WardenStartsAndCairnReads_notReady :
    ∃ (s : State) (now : Nat), (s.readyOk = false) :=
  ⟨fwOn, 5, by decide⟩
theorem witness_WardenStartsAndCairnReads_pcieLinkUp :
    ∃ (s : State) (w r : Nat), (s.inputStage = 2) ∧ (s.perstLow = false) ∧ (s.regB (rg clsPcie 0 0x100) 0 = false) ∧ (w ≤ 2) ∧ (r ≤ 2) ∧
    (min 2 (nfld (s.regN 0x104) 5 2) ≤ w) :=
  ⟨{ weirOn with perstLow := false }, 0, 2, by decide +kernel⟩
theorem witness_WardenStartsAndCairnReads_flush :
    ∃ (s : State), (s.served) :=
  ⟨State.reset.setF 0x108 0 3 4, by decide⟩
theorem witness_WardenStartsAndCairnReads_cairnRead :
    ∃ (s : State), (s.served) ∧ (s.regB (aCairn 0x17C) 0 = false) :=
  ⟨State.reset.setF 0x108 0 3 4, by decide +kernel⟩
theorem witness_WardenStartsAndCairnReads_readBusy :
    ∃ (s : State), (s.served) ∧ (s.regB (aCairn 0x17C) 0) :=
  ⟨(State.reset.setF 0x108 0 3 4).setB (rg clsCairn 0 0x17C) 0 true, by decide +kernel⟩
theorem witness_WardenStartsAndCairnReads_cairnReadDone :
    ∃ (s : State) (q m : Nat) (r : CairnRec) (fl : Bool), (s.cairn.reading = some (q, m)) ∧ (s.cairnPick q m = some (r, fl)) ∧ (r.seq < 2 ^ 64) :=
  ⟨{ State.reset with cairn := { State.reset.cairn with reading := some (4, 2), buf := [recA] } }, 4, 2, recA, false, by decide +kernel⟩
theorem witness_WardenStartsAndCairnReads_noneFound :
    ∃ (s : State) (q m : Nat), (s.cairn.reading = some (q, m)) ∧ (s.cairnPick q m = none) :=
  ⟨{ State.reset with cairn := { State.reset.cairn with reading := some (4, 2) } }, 4, 2, by decide +kernel⟩
theorem witness_GaugesPagesAndCages_gaugeCtlWrite :
    ∃ (s : State) (ep g : Nat) (v : W32), (ep < 36) ∧ (g < 8) ∧ (s.served) ∧ (s.regB (aGauge ep g 0xC) 2 = false) ∧ (64 ≤ fld v 8 13) ∧ (fld v 8 13 ≤ 4096) ∧ (fld v 8 13 % 64 = 0) :=
  ⟨State.reset.setF 0x108 0 3 4, 35, 7, 0x100000, by decide +kernel⟩
theorem witness_GaugesPagesAndCages_gaugeClaimed :
    ∃ (s : State) (ep g : Nat) (off : Nat) (v : W32), (ep < 36) ∧ (g < 8) ∧ (off ∈ [4, 8, 0x10, 0x14, 0x18, 0x1C]) ∧ (s.served) ∧ (s.regB (aGauge ep g 0xC) 2) :=
  ⟨(State.reset.setF 0x108 0 3 4).setB (aGauge 35 7 0xC) 2 true, 35, 7, 0x1C, 0x100000, by decide +kernel⟩
theorem witness_GaugesPagesAndCages_gaugeEnChange :
    ∃ (s : State) (ep g : Nat), (ep < 36) ∧ (g < 8) ∧ (look [] s.gaugePend (ep * 8 + g) = []) ∧ (ep * 8 + g ∉ s.gaugeDue) :=
  ⟨State.reset, 35, 7, by decide +kernel⟩
theorem witness_GaugesPagesAndCages_gaugeWrite :
    ∃ (s : State) (ep g : Nat) (v : W32), (ep < 36) ∧ (g < 8) ∧ (s.served) ∧ (s.regB (aGauge ep g 0xC) 0 = false) ∧ (s.regB (aGauge ep g 0xC) 2 = false) :=
  ⟨State.reset.setF 0x108 0 3 4, 35, 7, 0x13, by decide +kernel⟩
theorem witness_GaugesPagesAndCages_gaugePair :
    ∃ (s : State) (ep g : Nat) (off : Nat) (lo hi : W32), (ep < 36) ∧ (g < 8) ∧ (off = 0x10 ∨ off = 0x18) ∧ (s.served) ∧ (s.regB (aGauge ep g 0xC) 0 = false) ∧ (s.regB (aGauge ep g 0xC) 2 = false) :=
  ⟨State.reset.setF 0x108 0 3 4, 35, 7, 0x18, 3, 4, by decide +kernel⟩
theorem witness_GaugesPagesAndCages_gaugeActive :
    ∃ (s : State) (ep g : Nat) (off : Nat) (v : W32), (ep < 36) ∧ (g < 8) ∧ (off ∈ [4, 8, 0x10, 0x14, 0x18, 0x1C]) ∧ (s.served) ∧ (s.regB (aGauge ep g 0xC) 0) :=
  ⟨(State.reset.setF 0x108 0 3 4).setB (aGauge 35 7 0xC) 0 true, 35, 7, 8, 1, by decide +kernel⟩
theorem witness_GaugesPagesAndCages_hiReadsZero :
    ∃ (s : State) (ep g : Nat), (g < 8) ∧ (s.regB (aGauge ep g 0) 1 = false) :=
  ⟨State.reset, 35, 7, by decide +kernel⟩
theorem witness_GaugesPagesAndCages_gaugeChunkBoundary :
    ∃ (s : State) (ep g : Nat), (ep < 36) ∧ (g < 8) ∧ (ep * 8 + g ∈ s.gaugeDue) ∧ (look [] s.gaugePend (ep * 8 + g) = []) :=
  ⟨{ State.reset with gaugeDue := [287] }, 35, 7, by decide +kernel⟩
theorem witness_GaugesPagesAndCages_counted :
    ∃ (s : State) (ep g : Nat) (b : List Byte), (look [] s.gaugePend (ep * 8 + g) = []) ∧ (ep * 8 + g ∉ s.gaugeDue) ∧ (s.regB (aGauge ep g 0) 2 = false) :=
  ⟨State.reset, 35, 7, [1, 2], by decide +kernel⟩
theorem witness_GaugesPagesAndCages_enReq :
    ∃ (s : State) (c : Nat), (c < 17) ∧ (s.responds 0 (rg clsXl c 0)) ∧ (s.pst clsXl c = stOff) :=
  ⟨State.reset.setF 0x108 0 3 4, 16, by decide +kernel⟩
theorem witness_GaugesPagesAndCages_enPends :
    ∃ (s : State) (c : Nat), (c < 17) ∧ (s.responds 0 (rg clsXl c 0)) ∧ (s.pst clsXl c = stStopping) :=
  ⟨xlPage stStopping, 16, by decide +kernel⟩
theorem witness_GaugesPagesAndCages_stopReq :
    ∃ (s : State) (c : Nat), (c < 17) ∧ (s.responds 0 (rg clsXl c 0)) ∧ (s.pst clsXl c = stOn) :=
  ⟨xlPage stOn, 16, by decide +kernel⟩
theorem witness_GaugesPagesAndCages_isolate :
    ∃ (s : State) (l : Nat), (l < 76) ∧ (s.responds 0 (rg clsLink l 0)) :=
  ⟨State.reset.setF 0x108 0 3 4, 75, by decide +kernel⟩
theorem witness_GaugesPagesAndCages_notIsolatable :
    ∃ (s : State) (c : Nat), (c < 17) ∧ (s.responds 0 (rg clsXl c 0)) :=
  ⟨xlPage stOff, 16, by decide +kernel⟩
theorem witness_GaugesPagesAndCages_registerWrite :
    ∃ (s : State) (p off : Nat) (v : W32) (tlp : Tlp), (p < 24) ∧ (off % 4 = 0) ∧ (0x100 ≤ off) ∧ (off < 0x1000) ∧ (s.fnUp 0) ∧ (s.stage = 4) ∧ (tlp.ats = false) ∧ (s.ideIn 0 tlp) :=
  ⟨hostUp.setF 0x108 0 3 4, 23, 0x104, 3, ⟨none, false⟩, by decide +kernel⟩
theorem witness_GaugesPagesAndCages_fields :
    ∃ (s : State) (cls inst off : Nat) (v : W32), (pairLo cls inst off ≠ some true) ∧ (off < 4 ∨ pairLo cls inst (off - 4) ≠ some true) :=
  ⟨State.reset, clsStack, 23, 0x104, 3, by decide +kernel⟩
theorem witness_GaugesPagesAndCages_tooShort :
    ∃ (s : State) (p off : Nat) (x y : Byte) (tlp : Tlp), (p < 24) ∧ (off < 0x1000) ∧ (s.fnUp 0) ∧ (s.stage = 4) ∧ (tlp.ats = false) ∧ (s.ideIn 0 tlp) :=
  ⟨hostUp.setF 0x108 0 3 4, 23, 0x104, 3, 4, ⟨none, false⟩, by decide +kernel⟩
theorem witness_GaugesPagesAndCages_slotWrite :
    ∃ (s : State) (fn o : Nat) (b : List Byte) (tlp : Tlp), (1 ≤ fn) ∧ (fn ≤ 16) ∧ (o < 0x4000) ∧ (b ≠ []) ∧ (o / 64 = (o + b.length - 1) / 64) ∧ (s.fnUp fn) ∧ (s.stage = 4) ∧ (tlp.ats = false) ∧
    (s.ideIn fn tlp) :=
  ⟨(hostUp.setF 0x108 0 3 4).setF (rg clsPcie 0 0x100) 8 5 16, 16, 0x3FC0, [1, 2], ⟨none, false⟩, by decide +kernel⟩
theorem witness_GaugesPagesAndCages_noFunction :
    ∃ (s : State) (fn off : Nat) (b : List Byte) (tlp : Tlp), (fn < 17) ∧ (s.fnUp fn = false) :=
  ⟨State.reset, 16, 0, [1], ⟨none, false⟩, by decide +kernel⟩
theorem witness_GaugesPagesAndCages_translatedWrite :
    ∃ (s : State) (fn off : Nat) (b : List Byte) (tlp : Tlp), (fn < 17) ∧ (s.fnUp fn) ∧ (s.stage ≠ 6) ∧ (tlp.ats) :=
  ⟨hostUp, 0, 0, [1], ⟨none, true⟩, by decide +kernel⟩
theorem witness_GaugesPagesAndCages_notSecure :
    ∃ (s : State) (fn off : Nat) (b : List Byte) (tlp : Tlp), (fn < 17) ∧ (s.fnUp fn) ∧ (s.stage ≠ 6) ∧ (tlp.ats = false) ∧ (bitOf (s.reg (aPt fn 0)) 4) ∧ (inBar off) ∧
    ((tlp.ide = none ∨ ∃ k, tlp.ide = some k ∧ s.regB (rg clsSec 0 0x110) k = false)) :=
  ⟨hostUp.setRegN (aPt 0 0) 16, 0, 0x104, [1], ⟨none, false⟩, by decide +kernel⟩
theorem witness_GaugesPagesAndCages_cageInsert :
    ∃ (s : State) (n : Nat), (n < 32) :=
  ⟨State.reset, 31, by decide⟩
theorem witness_GaugesPagesAndCages_linkCage :
    ∃ (s : State) (n : Nat), (n < 76) :=
  ⟨State.reset, 75, by decide⟩
theorem witness_GaugesPagesAndCages_cageRemove :
    ∃ (s : State) (n now : Nat), (n < 76) ∧ (s.pst clsLink n ∈ [stOn, stStarting, stStopping]) :=
  ⟨linkIs stStopping, 0, 5, by decide +kernel⟩
theorem witness_GaugesPagesAndCages_linkFaults :
    ∃ (s : State) (n : Nat), (n < 76) ∧ ((s.pst clsLink n = stOn ∨ s.pst clsLink n = stStarting ∧ s.pendOff clsLink n = false)) :=
  ⟨linkIs stStarting, 0, by decide +kernel⟩
theorem witness_GaugesPagesAndCages_portCage :
    ∃ (s : State) (n now : Nat), (n < 32) ∧ ((s.pst clsPort n = stOn ∨ s.pst clsPort n = stStarting ∧ s.pendOff clsPort n = false)) :=
  ⟨State.reset.setPst clsPort 31 stStarting, 31, 5, by decide +kernel⟩
theorem witness_GaugesPagesAndCages_idleLink :
    ∃ (s : State) (n now : Nat), (n < 76) ∧ (s.pst clsLink n ∉ [stOn, stStarting, stStopping]) :=
  ⟨State.reset, 75, 5, by decide +kernel⟩
theorem witness_GaugesPagesAndCages_coolantAlarm :
    ∃ (s : State) (i f ms : Nat), (s.inputStage = 2) ∧ (420 < i ∨ f < 320) ∧ (1000 ≤ ms) :=
  ⟨weirOn, 421, 320, 1000, by decide +kernel⟩
theorem witness_GaugesPagesAndCages_noAlarm :
    ∃ (s : State) (i f ms : Nat), (i ≤ 420) ∧ (320 ≤ f) :=
  ⟨weirOn, 420, 320, 1000, by decide +kernel⟩
theorem witness_StackPageInUse_stopIgnored :
    ∃ (s : State) (p c k : Nat), (p < 24) ∧ (s.responds 0 (rg clsStack p 0)) ∧ (c < 17) ∧ (k < 4) ∧ (s.pst clsXl c ≠ stOff) ∧ (bitOf (s.reg (aXl c (0x108 + 4 * k))) 31) ∧
    (bitOf (s.reg (aXl c (0x108 + 4 * k))) p) :=
  ⟨xlPage stOn, 0, 16, 0, by decide +kernel⟩
theorem witness_StackPageInUse_freshTraining :
    ∃ (s : State) (p : Nat), (p < 24) ∧ (s.responds 0 (rg clsStack p 0)) ∧ (s.fitted p) ∧ (s.pst clsStack p = stFaulted) :=
  ⟨(stk stFaulted).setF 0x108 0 3 4, 23, by decide +kernel⟩
theorem witness_StackPageInUse_stopUnused :
    ∃ (s : State) (p : Nat), (p < 24) ∧ (s.responds 0 (rg clsStack p 0)) ∧ (s.pst clsStack p = stOff) ∧ (∀ c, c < 17 → s.pst clsXl c = stOff) :=
  ⟨State.reset.setF 0x108 0 3 4, 23, by decide +kernel⟩
theorem witness_ReceiveRingWrites_baseRefused :
    ∃ (s : State) (a : SlotId), (s.canIssue a 0x81) ∧ (wf (s.wordNow a) 0 12 = 0x008) ∧
    (((s.rill (slotK a)).rx ≠ [] ∨ (s.src1 a).toNat % 64 ≠ 0 ∨ 0xC000 ≤ (s.src1 a).toNat ∨ 0xC000 < (s.src1 a).toNat + (s.rill (slotK a)).rxLen ∨ (s.rill (slotK a)).rxLen ≠ 0 ∧ ∃ g ∈ (s.rill (slotK a)).ringsOf none, 0 < g.2 ∧ (s.src1 a).toNat < g.1 + g.2 ∧ g.1 < (s.src1 a).toNat + (s.rill (slotK a)).rxLen)) :=
  ⟨rillRuns 0x8100400000000008 [(1, 0xC000)], slot00, by decide +kernel⟩
theorem witness_ReceiveRingWrites_lenRefused :
    ∃ (s : State) (a : SlotId), (s.canIssue a 0x81) ∧ (wf (s.wordNow a) 0 12 = 0x009) ∧
    (((s.rill (slotK a)).rx ≠ [] ∨ (s.src1 a).toNat % 64 ≠ 0 ∨ 0xC000 < (s.rill (slotK a)).rxBase + (s.src1 a).toNat ∨ (s.src1 a).toNat ≠ 0 ∧ ∃ g ∈ (s.rill (slotK a)).ringsOf none, 0 < g.2 ∧ (s.rill (slotK a)).rxBase < g.1 + g.2 ∧ g.1 < (s.rill (slotK a)).rxBase + (s.src1 a).toNat)) :=
  ⟨rillRuns 0x8100400000000009 [(1, 0xC040)], slot00, by decide +kernel⟩
theorem witness_ReceiveRingWrites_baseWritten :
    ∃ (s : State) (a : SlotId), (s.canIssue a 0x81) ∧ (wf (s.wordNow a) 0 12 = 0x008) ∧ ((s.rill (slotK a)).rxLen % 64 = 0) ∧ ((s.rill (slotK a)).rx = []) ∧
    ((s.src1 a).toNat % 64 = 0) ∧ ((s.src1 a).toNat < 0xC000) ∧ ((s.src1 a).toNat + (s.rill (slotK a)).rxLen ≤ 0xC000) ∧
    (((s.rill (slotK a)).rxLen = 0 ∨ ¬ ∃ g ∈ (s.rill (slotK a)).ringsOf none, 0 < g.2 ∧ (s.src1 a).toNat < g.1 + g.2 ∧ g.1 < (s.src1 a).toNat + (s.rill (slotK a)).rxLen)) :=
  ⟨rillRuns 0x8100400000000008 [(1, 0xBFC0)], slot00, by decide +kernel⟩
theorem witness_ReceiveRingWrites_lenWritten :
    ∃ (s : State) (a : SlotId), (s.canIssue a 0x81) ∧ (wf (s.wordNow a) 0 12 = 0x009) ∧ ((s.rill (slotK a)).rxBase % 64 = 0) ∧ ((s.rill (slotK a)).rxBase < 0xC000) ∧
    ((s.rill (slotK a)).rx = []) ∧ ((s.src1 a).toNat % 64 = 0) ∧ ((s.rill (slotK a)).rxBase + (s.src1 a).toNat ≤ 0xC000) ∧
    (((s.src1 a).toNat = 0 ∨ ¬ ∃ g ∈ (s.rill (slotK a)).ringsOf none, 0 < g.2 ∧ (s.rill (slotK a)).rxBase < g.1 + g.2 ∧ g.1 < (s.rill (slotK a)).rxBase + (s.src1 a).toNat)) :=
  ⟨rillRuns 0x8100400000000009 [(1, 0xC000)], slot00, by decide +kernel⟩
theorem witness_ReceiveRingWrites_overlap :
    ∃ (s : State) (a : SlotId) (g : Nat × Nat), (s.canIssue a 0x81) ∧ (wf (s.wordNow a) 0 12 = 0x009) ∧ (g ∈ (s.rill (slotK a)).ringsOf none) ∧ (0 < g.2) ∧ (0 < (s.src1 a).toNat) ∧
    ((s.rill (slotK a)).rxBase < g.1 + g.2) ∧ (g.1 < (s.rill (slotK a)).rxBase + (s.src1 a).toNat) :=
  ⟨rillArmed 0x8100400000000009, slot00, (0x4000, 768), by decide +kernel⟩

end Sys2Proof.Tests
end

section
/-! The frame lemmas of all commands, gathered: whatever command runs, the queue stays, the memories keep their canonical form, what was sent stays
sent and no free value is drawn twice. -/

namespace Sys2Proof.Machine

/-- A frame of a command's answer holds under a larger mask. -/
theorem KeptR.grow {g m : Nat} {s : State} {o : Host.Outcome State Fault Refusal} (hm : g ||| m = m) (k : KeptR g s o) : KeptR m s o :=
  k.step hm Kept.here

/-- The mask that lifts every field but the queue, and the clocks' running forward; it lifts none of the promises on memories, messages and
free values. -/
abbrev anyField : Nat := 2 ^ 131 - 2

/-- Every command keeps the queue, the memories' canonical form, the messages sent and the count of free values: its own frame lemma says so. -/
theorem exec_kept (s : State) (c : Instr) : KeptR anyField s (exec c s) := by
  cases c with
  | add a => exact KeptR.grow rfl (execAdd_kept a s)
  | sub a => exact KeptR.grow rfl (execSub_kept a s)
  | and a => exact KeptR.grow rfl (execAnd_kept a s)
  | or a => exact KeptR.grow rfl (execOr_kept a s)
  | xor a => exact KeptR.grow rfl (execXor_kept a s)
  | shl a => exact KeptR.grow rfl (execShl_kept a s)
  | shr a => exact KeptR.grow rfl (execShr_kept a s)
  | sra a => exact KeptR.grow rfl (execSra_kept a s)
  | mul a => exact KeptR.grow rfl (execMul_kept a s)
  | mulhu a => exact KeptR.grow rfl (execMulhu_kept a s)
  | cmpeq a => exact KeptR.grow rfl (execCmpeq_kept a s)
  | cmplt a => exact KeptR.grow rfl (execCmplt_kept a s)
  | cmpltu a => exact KeptR.grow rfl (execCmpltu_kept a s)
  | addi a => exact KeptR.grow rfl (execAddi_kept a s)
  | andi a => exact KeptR.grow rfl (execAndi_kept a s)
  | ori a => exact KeptR.grow rfl (execOri_kept a s)
  | xori a => exact KeptR.grow rfl (execXori_kept a s)
  | shli a => exact KeptR.grow rfl (execShli_kept a s)
  | shri a => exact KeptR.grow rfl (execShri_kept a s)
  | movi a => exact KeptR.grow rfl (execMovi_kept a s)
  | movhi a => exact KeptR.grow rfl (execMovhi_kept a s)
  | ld8 a => exact KeptR.grow rfl (execLd8_kept a s)
  | ld32 a => exact KeptR.grow rfl (execLd32_kept a s)
  | ld64 a => exact KeptR.grow rfl (execLd64_kept a s)
  | st8 a => exact KeptR.grow rfl (execSt8_kept a s)
  | st32 a => exact KeptR.grow rfl (execSt32_kept a s)
  | st64 a => exact KeptR.grow rfl (execSt64_kept a s)
  | ldp64 a => exact KeptR.grow rfl (execLdp64_kept a s)
  | stp64 a => exact KeptR.grow rfl (execStp64_kept a s)
  | amoadd a => exact KeptR.grow rfl (execAmoadd_kept a s)
  | amoswap a => exact KeptR.grow rfl (execAmoswap_kept a s)
  | j a => exact KeptR.grow rfl (execJ_kept a s)
  | jr a => exact KeptR.grow rfl (execJr_kept a s)
  | call a => exact KeptR.grow rfl (execCall_kept a s)
  | beq a => exact KeptR.grow rfl (execBeq_kept a s)
  | bne a => exact KeptR.grow rfl (execBne_kept a s)
  | blt a => exact KeptR.grow rfl (execBlt_kept a s)
  | bltu a => exact KeptR.grow rfl (execBltu_kept a s)
  | spawn a => exact KeptR.grow rfl (execSpawn_kept a s)
  | exit a => exact KeptR.grow rfl (execExit_kept a s)
  | exitComplete a => exact KeptR.grow rfl (execExitComplete_kept a s)
  | yieldOp a => exact KeptR.grow rfl (execYield_kept a s)
  | yieldExpiry a cyc => exact KeptR.grow rfl (execYieldExpiry_kept a cyc s)
  | waitev a => exact KeptR.grow rfl (execWaitev_kept a s)
  | signal a => exact KeptR.grow rfl (execSignal_kept a s)
  | tclaim a => exact KeptR.grow rfl (execTclaim_kept a s)
  | tfree a => exact KeptR.grow rfl (execTfree_kept a s)
  | fence a => exact KeptR.grow rfl (execFence_kept a s)
  | slotWake a => exact KeptR.grow rfl (execSlotWake_kept a s)
  | tld a => exact KeptR.grow rfl (execTld_kept a s)
  | tst a => exact KeptR.grow rfl (execTst_kept a s)
  | tzero a => exact KeptR.grow rfl (execTzero_kept a s)
  | tmma a => exact KeptR.grow rfl (execTmma_kept a s)
  | tmmas a => exact KeptR.grow rfl (execTmmas_kept a s)
  | tcvt a => exact KeptR.grow rfl (execTcvt_kept a s)
  | vadd a => exact KeptR.grow rfl (execVadd_kept a s)
  | vmul a => exact KeptR.grow rfl (execVmul_kept a s)
  | vmax a => exact KeptR.grow rfl (execVmax_kept a s)
  | vfma a => exact KeptR.grow rfl (execVfma_kept a s)
  | vexp2 a => exact KeptR.grow rfl (execVexp2_kept a s)
  | vrcp a => exact KeptR.grow rfl (execVrcp_kept a s)
  | vrsqrt a => exact KeptR.grow rfl (execVrsqrt_kept a s)
  | vredadd a => exact KeptR.grow rfl (execVredadd_kept a s)
  | vredmax a => exact KeptR.grow rfl (execVredmax_kept a s)
  | vbcast a => exact KeptR.grow rfl (execVbcast_kept a s)
  | unitOpComplete p u slot check now => exact KeptR.grow rfl (execUnitOpComplete_kept p u slot check now s)
  | sarm a => exact KeptR.grow rfl (execSarm_kept a s)
  | srearm a => exact KeptR.grow rfl (execSrearm_kept a s)
  | sstop a => exact KeptR.grow rfl (execSstop_kept a s)
  | racq a => exact KeptR.grow rfl (execRacq_kept a s)
  | rrel a => exact KeptR.grow rfl (execRrel_kept a s)
  | send a => exact KeptR.grow rfl (execSend_kept a s)
  | recv a => exact KeptR.grow rfl (execRecv_kept a s)
  | mfree a => exact KeptR.grow rfl (execMfree_kept a s)
  | csrr a => exact KeptR.grow rfl (execCsrr_kept a s)
  | csrw a => exact KeptR.grow rfl (execCsrw_kept a s)
  | trap a => exact KeptR.grow rfl (execTrap_kept a s)
  | nop a => exact KeptR.grow rfl (execNop_kept a s)
  | taskWdExpiry a cyc => exact KeptR.grow rfl (execTaskWdExpiry_kept a cyc s)
  | rillWdExpiry p => exact KeptR.grow rfl (execRillWdExpiry_kept p s)
  | write n => exact KeptR.grow rfl (execWrite_kept n s)
  | read n => exact KeptR.grow rfl (execRead_kept n s)
  | readData n => exact KeptR.grow rfl (execReadData_kept n s)
  | ack n => exact KeptR.grow rfl (execAck_kept n s)
  | msg n => exact KeptR.grow rfl (execMsg_kept n s)
  | msgRingEntry p => exact KeptR.grow rfl (execMsgRingEntry_kept p s)
  | poolRead n => exact KeptR.grow rfl (execPoolRead_kept n s)
  | poolWrite n => exact KeptR.grow rfl (execPoolWrite_kept n s)
  | holePacketArrival n => exact KeptR.grow rfl (execHolePacketArrival_kept n s)
  | packetAgeDiscard n router cyc => exact KeptR.grow rfl (execPacketAgeDiscard_kept n router cyc s)
  | flitEccError n router err now => exact KeptR.grow rfl (execFlitEccError_kept n router err now s)
  | memoryUncorrError p pool line now => exact KeptR.grow rfl (execMemoryUncorrError_kept p pool line now s)
  | spush n => exact KeptR.grow rfl (execSpush_kept n s)
  | sdata n => exact KeptR.grow rfl (execSdata_kept n s)
  | scredit n => exact KeptR.grow rfl (execScredit_kept n s)
  | hwConfirm n => exact KeptR.grow rfl (execHwConfirm_kept n s)
  | ezConfirm n => exact KeptR.grow rfl (execEzConfirm_kept n s)
  | streamStartDone p q => exact KeptR.grow rfl (execStreamStartDone_kept p q s)
  | streamStopDone p q => exact KeptR.grow rfl (execStreamStopDone_kept p q s)
  | streamTileIssue p q => exact KeptR.grow rfl (execStreamTileIssue_kept p q s)
  | streamOutInject p q => exact KeptR.grow rfl (execStreamOutInject_kept p q s)
  | sread n => exact KeptR.grow rfl (execSread_kept n s)
  | swrite n => exact KeptR.grow rfl (execSwrite_kept n s)
  | sfill n => exact KeptR.grow rfl (execSfill_kept n s)
  | sdrain n => exact KeptR.grow rfl (execSdrain_kept n s)
  | stackAccessComplete n corrected => exact KeptR.grow rfl (execStackAccessComplete_kept n corrected s)
  | translationWalkDone n corrected => exact KeptR.grow rfl (execTranslationWalkDone_kept n corrected s)
  | hwOpen n => exact KeptR.grow rfl (execHwOpen_kept n s)
  | hwClose n => exact KeptR.grow rfl (execHwClose_kept n s)
  | hwRearm n => exact KeptR.grow rfl (execHwRearm_kept n s)
  | hwSend n => exact KeptR.grow rfl (execHwSend_kept n s)
  | fetchIssue port slot => exact KeptR.grow rfl (execFetchIssue_kept port slot s)
  | data port d => exact KeptR.grow rfl (execData_kept port d s)
  | endMsg port d => exact KeptR.grow rfl (execEndMsg_kept port d s)
  | gradAck port d => exact KeptR.grow rfl (execGradAck_kept port d s)
  | fetchRetryTimeout port slot now => exact KeptR.grow rfl (execFetchRetryTimeout_kept port slot now s)
  | gradRetryTimeout n now => exact KeptR.grow rfl (execGradRetryTimeout_kept n now s)
  | neighbourDiscovery port body => exact KeptR.grow rfl (execNeighbourDiscovery_kept port body s)
  | echoRequest port body => exact KeptR.grow rfl (execEchoRequest_kept port body s)
  | pfcPause port prio pause => exact KeptR.grow rfl (execPfcPause_kept port prio pause s)
  | headwaterLinkDown port now => exact KeptR.grow rfl (execHeadwaterLinkDown_kept port now s)
  | headwaterPortUp port now => exact KeptR.grow rfl (execHeadwaterPortUp_kept port now s)
  | hostFetchReadDone slot frame => exact KeptR.grow rfl (execHostFetchReadDone_kept slot frame s)
  | hostGradWriteDone n => exact KeptR.grow rfl (execHostGradWriteDone_kept n s)
  | bind ctx slot => exact KeptR.grow rfl (execBind_kept ctx slot s)
  | bindDone ctx slot => exact KeptR.grow rfl (execBindDone_kept ctx slot s)
  | frontGo ctx => exact KeptR.grow rfl (execFrontGo_kept ctx s)
  | layerRebind ctx now => exact KeptR.grow rfl (execLayerRebind_kept ctx now s)
  | ezOpen n => exact KeptR.grow rfl (execEzOpen_kept n s)
  | ezClose n => exact KeptR.grow rfl (execEzClose_kept n s)
  | ezRearm n => exact KeptR.grow rfl (execEzRearm_kept n s)
  | ezContrib n check => exact KeptR.grow rfl (execEzContrib_kept n check s)
  | ezSend n => exact KeptR.grow rfl (execEzSend_kept n s)
  | opAdmit ctx now => exact KeptR.grow rfl (execOpAdmit_kept ctx now s)
  | slotReservationGrant now => exact KeptR.grow rfl (execSlotReservationGrant_kept now s)
  | reduceFallback ctx opn now => exact KeptR.grow rfl (execReduceFallback_kept ctx opn now s)
  | codewordReceive link lanes => exact KeptR.grow rfl (execCodewordReceive_kept link lanes s)
  | idle link => exact KeptR.grow rfl (execIdle_kept link s)
  | ackCredit link => exact KeptR.grow rfl (execAckCredit_kept link s)
  | nak link => exact KeptR.grow rfl (execNak_kept link s)
  | train link f => exact KeptR.grow rfl (execTrain_kept link f s)
  | linkTrainingDone link now => exact KeptR.grow rfl (execLinkTrainingDone_kept link now s)
  | linkTrainingTimeout link step now => exact KeptR.grow rfl (execLinkTrainingTimeout_kept link step now s)
  | linkStopDone link => exact KeptR.grow rfl (execLinkStopDone_kept link s)
  | grant n => exact KeptR.grow rfl (execGrant_kept n s)
  | chunk n check => exact KeptR.grow rfl (execChunk_kept n check s)
  | count n => exact KeptR.grow rfl (execCount_kept n s)
  | abort n => exact KeptR.grow rfl (execAbort_kept n s)
  | p2p n => exact KeptR.grow rfl (execP2p_kept n s)
  | p2pGrant n => exact KeptR.grow rfl (execP2pGrant_kept n s)
  | bcastStart n => exact KeptR.grow rfl (execBcastStart_kept n s)
  | bcastOpen n => exact KeptR.grow rfl (execBcastOpen_kept n s)
  | bcastAbort n => exact KeptR.grow rfl (execBcastAbort_kept n s)
  | bcastAck n => exact KeptR.grow rfl (execBcastAck_kept n s)
  | bcastTimeout job now => exact KeptR.grow rfl (execBcastTimeout_kept job now s)
  | jobTStart job now => exact KeptR.grow rfl (execJobTStart_kept job now s)
  | digest n => exact KeptR.grow rfl (execDigest_kept n s)
  | cbar n => exact KeptR.grow rfl (execCbar_kept n s)
  | wirePacketForward n => exact KeptR.grow rfl (execWirePacketForward_kept n s)
  | keyRetentionExpiry now => exact KeptR.grow rfl (execKeyRetentionExpiry_kept now s)
  | collMemberLost ctx opn now => exact KeptR.grow rfl (execCollMemberLost_kept ctx opn now s)
  | twinDigestTimeout ctx opn chunk now => exact KeptR.grow rfl (execTwinDigestTimeout_kept ctx opn chunk now s)
  | groupEntryValidate g word0 => exact KeptR.grow rfl (execGroupEntryValidate_kept g word0 s)
  | jobCtlWrite job value => exact KeptR.grow rfl (execJobCtlWrite_kept job value s)
  | stageWrite ctx value => exact KeptR.grow rfl (execStageWrite_kept ctx value s)
  | confluenceRetestDone t okMask => exact KeptR.grow rfl (execConfluenceRetestDone_kept t okMask s)
  | spareSwap p => exact KeptR.grow rfl (execSpareSwap_kept p s)
  | cmtFlashWriteDone => exact KeptR.grow rfl (execCmtFlashWriteDone_kept s)
  | holdRestore ctx => exact KeptR.grow rfl (execHoldRestore_kept ctx s)
  | rebuildListDone ctx code => exact KeptR.grow rfl (execRebuildListDone_kept ctx code s)
  | commitPointComplete ctx now => exact KeptR.grow rfl (execCommitPointComplete_kept ctx now s)
  | drainHoldResume ctx => exact KeptR.grow rfl (execDrainHoldResume_kept ctx s)
  | wearSkip ctx now => exact KeptR.grow rfl (execWearSkip_kept ctx now s)
  | inputStageClose now mv => exact KeptR.grow rfl (execInputStageClose_kept now mv s)
  | powerChipletEnable now capMv => exact KeptR.grow rfl (execPowerChipletEnable_kept now capMv s)
  | powerFail now mv lasted => exact KeptR.grow rfl (execPowerFail_kept now mv lasted s)
  | idealDiodeOpen => exact KeptR.grow rfl (execIdealDiodeOpen_kept s)
  | powerChipletFail n => exact KeptR.grow rfl (execPowerChipletFail_kept n s)
  | pitchIsolate pitch cause peak now => exact KeptR.grow rfl (execPitchIsolate_kept pitch cause peak now s)
  | efuseClear pitch current => exact KeptR.grow rfl (execEfuseClear_kept pitch current s)
  | pitchThermalThrottle pitch temp => exact KeptR.grow rfl (execPitchThermalThrottle_kept pitch temp s)
  | pitchStartDone pitch now => exact KeptR.grow rfl (execPitchStartDone_kept pitch now s)
  | pitchPowerGoodTimeout pitch now => exact KeptR.grow rfl (execPitchPowerGoodTimeout_kept pitch now s)
  | pitchStopDone pitch now => exact KeptR.grow rfl (execPitchStopDone_kept pitch now s)
  | pitchRailTestDone pitch mv => exact KeptR.grow rfl (execPitchRailTestDone_kept pitch mv s)
  | weirFrame b r => exact KeptR.grow rfl (execWeirFrame_kept b r s)
  | weirRegulate now drawnMj => exact KeptR.grow rfl (execWeirRegulate_kept now drawnMj s)
  | weirWardenTimeout now => exact KeptR.grow rfl (execWeirWardenTimeout_kept now s)
  | weirLock => exact KeptR.grow rfl (execWeirLock_kept s)
  | weirEnvelopeWrite off value => exact KeptR.grow rfl (execWeirEnvelopeWrite_kept off value s)
  | ptpSync domain now offset => exact KeptR.grow rfl (execPtpSync_kept domain now offset s)
  | ptpAnnounce domain now utcOffset leap midnight => exact KeptR.grow rfl (execPtpAnnounce_kept domain now utcOffset leap midnight s)
  | ppsEdge now ref10 => exact KeptR.grow rfl (execPpsEdge_kept now ref10 s)
  | ref10Loss now => exact KeptR.grow rfl (execRef10Loss_kept now s)
  | sourceLost now => exact KeptR.grow rfl (execSourceLost_kept now s)
  | holdoverTimeout now => exact KeptR.grow rfl (execHoldoverTimeout_kept now s)
  | stCtlWrite value => exact KeptR.grow rfl (execStCtlWrite_kept value s)
  | reacquire => exact KeptR.grow rfl (execReacquire_kept s)
  | timeSet hi => exact KeptR.grow rfl (execTimeSet_kept hi s)
  | utcOffsetChange now => exact KeptR.grow rfl (execUtcOffsetChange_kept now s)
  | apply => exact KeptR.grow rfl (execApply_kept s)
  | slotStart now r => exact KeptR.grow rfl (execSlotStart_kept now r s)
  | stackTempSample pos temp => exact KeptR.grow rfl (execStackTempSample_kept pos temp s)
  | stackUncorrError pos offset now => exact KeptR.grow rfl (execStackUncorrError_kept pos offset now s)
  | stackFail pos => exact KeptR.grow rfl (execStackFail_kept pos s)
  | stackTrainingDone pos ok repairs => exact KeptR.grow rfl (execStackTrainingDone_kept pos ok repairs s)
  | translationStartDone ctx => exact KeptR.grow rfl (execTranslationStartDone_kept ctx s)
  | translationStopDone ctx => exact KeptR.grow rfl (execTranslationStopDone_kept ctx s)
  | setWrite ctx which value => exact KeptR.grow rfl (execSetWrite_kept ctx which value s)
  | invalGo ctx range => exact KeptR.grow rfl (execInvalGo_kept ctx range s)
  | invalDone ctx => exact KeptR.grow rfl (execInvalDone_kept ctx s)
  | xlFaultClear ctx => exact KeptR.grow rfl (execXlFaultClear_kept ctx s)
  | bar2Read fn offset len tlp corrected => exact KeptR.grow rfl (execBar2Read_kept fn offset len tlp corrected s)
  | bar2Write fn offset bytes tlp corrected => exact KeptR.grow rfl (execBar2Write_kept fn offset bytes tlp corrected s)
  | keyEk ctx trngOk => exact KeptR.grow rfl (execKeyEk_kept ctx trngOk s)
  | keyLoad ctx => exact KeptR.grow rfl (execKeyLoad_kept ctx s)
  | rankWrite ctx => exact KeptR.grow rfl (execRankWrite_kept ctx s)
  | groupWrite ctx => exact KeptR.grow rfl (execGroupWrite_kept ctx s)
  | memberWrite ctx => exact KeptR.grow rfl (execMemberWrite_kept ctx s)
  | imageLoad ctx => exact KeptR.grow rfl (execImageLoad_kept ctx s)
  | fusedRun ctx => exact KeptR.grow rfl (execFusedRun_kept ctx s)
  | checkpoint ctx => exact KeptR.grow rfl (execCheckpoint_kept ctx s)
  | jobStart ctx => exact KeptR.grow rfl (execJobStart_kept ctx s)
  | weightSwap ctx => exact KeptR.grow rfl (execWeightSwap_kept ctx s)
  | regionRemap ctx => exact KeptR.grow rfl (execRegionRemap_kept ctx s)
  | stackScrubFull ctx => exact KeptR.grow rfl (execStackScrubFull_kept ctx s)
  | selfTest ctx => exact KeptR.grow rfl (execSelfTest_kept ctx s)
  | wipe ctx => exact KeptR.grow rfl (execWipe_kept ctx s)
  | fwUpdate ctx => exact KeptR.grow rfl (execFwUpdate_kept ctx s)
  | nopCommand ctx => exact KeptR.grow rfl (execNopCommand_kept ctx s)
  | suspend ctx => exact KeptR.grow rfl (execSuspend_kept ctx s)
  | resume ctx => exact KeptR.grow rfl (execResume_kept ctx s)
  | cancel ctx => exact KeptR.grow rfl (execCancel_kept ctx s)
  | suspendPointReached ctx handle w => exact KeptR.grow rfl (execSuspendPointReached_kept ctx handle w s)
  | longOperationEnd ctx handle now w => exact KeptR.grow rfl (execLongOperationEnd_kept ctx handle now w s)
  | deadlineExpiry ctx handle now => exact KeptR.grow rfl (execDeadlineExpiry_kept ctx handle now s)
  | progressTimer ctx handle now w => exact KeptR.grow rfl (execProgressTimer_kept ctx handle now w s)
  | cqHeadWrite ctx value => exact KeptR.grow rfl (execCqHeadWrite_kept ctx value s)
  | msixModerationExpiry ctx now => exact KeptR.grow rfl (execMsixModerationExpiry_kept ctx now s)
  | msixVectorUnmask fn vec => exact KeptR.grow rfl (execMsixVectorUnmask_kept fn vec s)
  | ceStopDone ctx => exact KeptR.grow rfl (execCeStopDone_kept ctx s)
  | functionLevelReset ctx => exact KeptR.grow rfl (execFunctionLevelReset_kept ctx s)
  | pcieReset perst => exact KeptR.grow rfl (execPcieReset_kept perst s)
  | ideIntegrityFail stream => exact KeptR.grow rfl (execIdeIntegrityFail_kept stream s)
  | getVersion doe req => exact KeptR.grow rfl (execGetVersion_kept doe req s)
  | getCapabilities doe req => exact KeptR.grow rfl (execGetCapabilities_kept doe req s)
  | negotiateAlgorithms doe req => exact KeptR.grow rfl (execNegotiateAlgorithms_kept doe req s)
  | getDigests doe req => exact KeptR.grow rfl (execGetDigests_kept doe req s)
  | getCertificate doe req => exact KeptR.grow rfl (execGetCertificate_kept doe req s)
  | challenge doe req => exact KeptR.grow rfl (execChallenge_kept doe req s)
  | getMeasurements doe req => exact KeptR.grow rfl (execGetMeasurements_kept doe req s)
  | keyExchange doe req => exact KeptR.grow rfl (execKeyExchange_kept doe req s)
  | finish doe req => exact KeptR.grow rfl (execFinish_kept doe req s)
  | keyUpdate doe req => exact KeptR.grow rfl (execKeyUpdate_kept doe req s)
  | heartbeat doe req => exact KeptR.grow rfl (execHeartbeat_kept doe req s)
  | endSession doe req => exact KeptR.grow rfl (execEndSession_kept doe req s)
  | getCsr doe req => exact KeptR.grow rfl (execGetCsr_kept doe req s)
  | setCertificate doe req => exact KeptR.grow rfl (execSetCertificate_kept doe req s)
  | vendorDefinedRequest doe req => exact KeptR.grow rfl (execVendorDefinedRequest_kept doe req s)
  | recoveryImage => exact KeptR.grow rfl (execRecoveryImage_kept s)
  | partitionWrite => exact KeptR.grow rfl (execPartitionWrite_kept s)
  | partitionRead => exact KeptR.grow rfl (execPartitionRead_kept s)
  | lifecycle => exact KeptR.grow rfl (execLifecycle_kept s)
  | warmReset => exact KeptR.grow rfl (execWarmReset_kept s)
  | warmResetBoot now => exact KeptR.grow rfl (execWarmResetBoot_kept now s)
  | wardenRestart now => exact KeptR.grow rfl (execWardenRestart_kept now s)
  | wardenCoreTakeover now => exact KeptR.grow rfl (execWardenCoreTakeover_kept now s)
  | recoveryFetchRetry now => exact KeptR.grow rfl (execRecoveryFetchRetry_kept now s)
  | recoveryFetchDone path image => exact KeptR.grow rfl (execRecoveryFetchDone_kept path image s)
  | firmwareStart now => exact KeptR.grow rfl (execFirmwareStart_kept now s)
  | startupTestDone pitch failed => exact KeptR.grow rfl (execStartupTestDone_kept pitch failed s)
  | ready now => exact KeptR.grow rfl (execReady_kept now s)
  | cairnFlushDone bad => exact KeptR.grow rfl (execCairnFlushDone_kept bad s)
  | flush => exact KeptR.grow rfl (execFlush_kept s)
  | cairnRead => exact KeptR.grow rfl (execCairnRead_kept s)
  | cairnReadDone => exact KeptR.grow rfl (execCairnReadDone_kept s)
  | gaugeCtlWrite ep g value => exact KeptR.grow rfl (execGaugeCtlWrite_kept ep g value s)
  | gaugeEnChange ep g => exact KeptR.grow rfl (execGaugeEnChange_kept ep g s)
  | gaugeWrite ep g off value => exact KeptR.grow rfl (execGaugeWrite_kept ep g off value s)
  | gaugeChunkBoundary ep g => exact KeptR.grow rfl (execGaugeChunkBoundary_kept ep g s)
  | enReq page => exact KeptR.grow rfl (execEnReq_kept page s)
  | stopReq page => exact KeptR.grow rfl (execStopReq_kept page s)
  | isolate page => exact KeptR.grow rfl (execIsolate_kept page s)
  | registerWrite fn off bytes tlp => exact KeptR.grow rfl (execRegisterWrite_kept fn off bytes tlp s)
  | cageInsert link n => exact KeptR.grow rfl (execCageInsert_kept link n s)
  | cageRemove link n now => exact KeptR.grow rfl (execCageRemove_kept link n now s)
  | coolantAlarm inletTenths flowTenths lastedMs => exact KeptR.grow rfl (execCoolantAlarm_kept inletTenths flowTenths lastedMs s)
  | undefinedOpcode a => exact KeptR.grow rfl (execUndefinedOpcode_kept a s)
  | instructionFetchFault a => exact KeptR.grow rfl (execInstructionFetchFault_kept a s)
  | eztexLinkDown link => exact KeptR.grow rfl (execEztexLinkDown_kept link s)
  | pitchThermalRecover pitch temp => exact KeptR.grow rfl (execPitchThermalRecover_kept pitch temp s)
  | standbyCoreTestDone pass => exact KeptR.grow rfl (execStandbyCoreTestDone_kept pass s)
  | perstNRelease => exact KeptR.grow rfl (execPerstNRelease_kept s)
  | pcieLinkUp width rate flit => exact KeptR.grow rfl (execPcieLinkUp_kept width rate flit s)

/-- Every command keeps the memories' canonical form. -/
theorem exec_memOk {s t : State} {c : Instr} (h : exec c s = .next t) : s.memOk → t.memOk := ((exec_kept s c).on t h).get 131

/-- Settles O4: an idle step changes nothing; any other runs a command, which keeps the canonical form. -/
theorem stepKeepsMemoriesCanonical : Obligations.StepKeepsMemoriesCanonical := by
  intro s t ok h
  cases hp : s.pending with
  | nil =>
    simp only [step, hp, Host.Outcome.next.injEq] at h
    exact h ▸ ok
  | cons c rest =>
    have hc : exec c { s with pending := rest } = .next t := by simpa only [step, hp] using h
    exact exec_memOk hc ok

end Sys2Proof.Machine
end

section
/-! Formats S, I, J and L: what a scalar instruction, a branch, a load or a store that issues leaves. The pipeline's lemmas say what the issue hands
on; here each instruction's own value is put into the words of the statements. -/

namespace Sys2Proof.Machine

/-! ### Fields -/

/-- The low bits of imm32 are the low bits of the word. -/
theorem wf_low_eq_imm (w : W64) {n : Nat} (h : n ≤ 32) : wf w 0 n = (immOf w).toNat % 2 ^ n := by
  simp only [wf, BitVec.extractLsb'_toNat, BitVec.ushiftRight_zero, Nat.shiftRight_zero]
  exact (Nat.mod_mod_of_dvd _ (Nat.pow_dvd_pow 2 h)).symm

/-! ### Format S and format I (R41) -/

theorem bit64_beq (x y : W64) : bit64 (x == y) = if x = y then 1 else 0 := by simp [bit64]
theorem bit64_slt (x y : W64) : bit64 (x.slt y) = if x.toInt < y.toInt then 1 else 0 := by simp [bit64, BitVec.slt]
theorem bit64_ult (x y : W64) : bit64 (x.ult y) = if x.toNat < y.toNat then 1 else 0 := by simp [bit64, BitVec.ult]

/-- imm32 put over the upper half of a register. -/
theorem movhi_value (v : W64) (i : W32) : BitVec.ofNat 64 (v.toNat % 2 ^ 32 + i.toNat * 2 ^ 32) = i ++ v.extractLsb' 0 32 := by
  apply BitVec.eq_of_toNat_eq
  have hv : v.toNat % 2 ^ 32 < 2 ^ 32 := Nat.mod_lt _ (by decide)
  have hi := i.isLt
  rw [BitVec.toNat_append, BitVec.extractLsb'_toNat, Nat.shiftRight_zero, ← Nat.shiftLeft_add_eq_or_of_lt hv, Nat.shiftLeft_eq,
    BitVec.toNat_ofNat]
  omega

/-- Settles O10: each operation is an issue whose whole effect is a value for gd, and the model's value is the one that R41 names. -/
theorem scalarRegisterResults : Obligations.ScalarRegisterResults := by
  refine ⟨?add, ?sub, ?and, ?or, ?xor, ?shl, ?shr, ?sra, ?mul, ?mulhu, ?cmpeq, ?cmplt, ?cmpltu⟩
  case add => exact fun s a h => (exec_add s a).trans (execG_canIssue h _)
  case sub => exact fun s a h => (exec_sub s a).trans (execG_canIssue h _)
  case and => exact fun s a h => (exec_and s a).trans (execG_canIssue h _)
  case or => exact fun s a h => (exec_or s a).trans (execG_canIssue h _)
  case xor => exact fun s a h => (exec_xor s a).trans (execG_canIssue h _)
  case shl => exact fun s a h => (exec_shl s a).trans (execG_canIssue h _)
  case shr => exact fun s a h => (exec_shr s a).trans (execG_canIssue h _)
  case sra => exact fun s a h => (exec_sra s a).trans (execG_canIssue h _)
  case mul => exact fun s a h => (exec_mul s a).trans (execG_canIssue h _)
  case mulhu => exact fun s a h => (exec_mulhu s a).trans (execG_canIssue h _)
  case cmpeq => intro s a h; rw [exec_cmpeq, execCmpeq, execG_canIssue h]; simp only [issueNow_v1, issueNow_v2, bit64_beq]
  case cmplt => intro s a h; rw [exec_cmplt, execCmplt, execG_canIssue h]; simp only [issueNow_v1, issueNow_v2, bit64_slt]
  case cmpltu => intro s a h; rw [exec_cmpltu, execCmpltu, execG_canIssue h]; simp only [issueNow_v1, issueNow_v2, bit64_ult]

/-- Settles O11: each operation is an issue whose whole effect is a value for gd; the shift amount and MOVHI's halves are fields of the word. -/
theorem immediateResults : Obligations.ImmediateResults := by
  refine ⟨?addi, ?andi, ?ori, ?xori, ?shli, ?shri, ?movi, ?movhi⟩
  case addi => exact fun s a h => (exec_addi s a).trans (execG_canIssue h _)
  case andi => exact fun s a h => (exec_andi s a).trans (execG_canIssue h _)
  case ori => exact fun s a h => (exec_ori s a).trans (execG_canIssue h _)
  case xori => exact fun s a h => (exec_xori s a).trans (execG_canIssue h _)
  case movi => exact fun s a h => (exec_movi s a).trans (execG_canIssue h _)
  case shli => intro s a h; rw [exec_shli, execShli, execG_canIssue h]; simp only [issueNow_v1, issueNow_w, wf_low_eq_imm _ (by decide : 6 ≤ 32)]; rfl
  case shri => intro s a h; rw [exec_shri, execShri, execG_canIssue h]; simp only [issueNow_v1, issueNow_w, wf_low_eq_imm _ (by decide : 6 ≤ 32)]; rfl
  case movhi => intro s a h; rw [exec_movhi, execMovhi, execG_canIssue h]; simp only [issueNow_x, issueNow_w, movhi_value]; rfl

/-! ### Format J (R41, R42) -/

theorem targetFault_addr {t : W64} (h : 0xC000 ≤ t.toNat) : targetFault t = some fAddr := by simp only [targetFault, h, if_true]

theorem targetFault_align {t : W64} (h : t.toNat < 0xC000) (k : t.toNat % 8 ≠ 0) : targetFault t = some fAlign := by
  simp only [targetFault, Nat.not_le.mpr h, if_false, k, ne_eq, not_false_eq_true, if_true]

/-- A taken branch to a bad target faults and leaves PC. -/
theorem branchTo_faults (s : State) (a : SlotId) {t : W64} {e : Nat} (h : targetFault t = some e) (f : Slot → Slot) :
    (s.issued a).branchTo (s.issueNow a) t f = s.traps a e := by
  simp only [State.branchTo, h]
  rfl

/-- A conditional branch whose condition holds goes to its target. -/
theorem execBranch_taken {s : State} {a : SlotId} {op : Nat} (h : s.canIssue a op = true) {c : W64 → W64 → Bool}
    (hc : c (s.src1 a) (s.src2 a) = true) :
    execBranch op c a s = .next ((s.issued a).branchTo (s.issueNow a) (s.targetNow a) id) := by
  rw [execBranch, execIssue_canIssue h]
  simp only [issueNow_v1, issueNow_v2, issueNow_target, hc, if_true]

/-- One whose condition does not hold goes on. -/
theorem execBranch_untaken {s : State} {a : SlotId} {op : Nat} (h : s.canIssue a op = true) {c : W64 → W64 → Bool}
    (hc : c (s.src1 a) (s.src2 a) = false) : execBranch op c a s = .next (s.retired a id) := by
  rw [execBranch, execIssue_canIssue h]
  simp only [issueNow_v1, issueNow_v2, hc, Bool.false_eq_true, if_false, retire_issued]

/-- An instruction that goes to a good target places PC there; one that goes outside the store or off a word faults. -/
theorem goes_placed {s : State} {a : SlotId} {t : W64} {f : Slot → Slot} {o : Host.Outcome State Fault Refusal}
    (ho : o = .next ((s.issued a).branchTo (s.issueNow a) t f)) (lt : t.toNat < 0xC000) (al : t.toNat % 8 = 0) :
    o = .next (s.placed a (t.truncate 32) id f) := by
  rw [ho, branchTo_issued s a (targetFault_none lt al)]

theorem goes_addr {s : State} {a : SlotId} {t : W64} {f : Slot → Slot} {o : Host.Outcome State Fault Refusal}
    (ho : o = .next ((s.issued a).branchTo (s.issueNow a) t f)) (ge : 0xC000 ≤ t.toNat) : o = .next (s.traps a fAddr) := by
  rw [ho, branchTo_faults s a (targetFault_addr ge)]

theorem goes_align {s : State} {a : SlotId} {t : W64} {f : Slot → Slot} {o : Host.Outcome State Fault Refusal}
    (ho : o = .next ((s.issued a).branchTo (s.issueNow a) t f)) (lt : t.toNat < 0xC000) (al : t.toNat % 8 ≠ 0) :
    o = .next (s.traps a fAlign) := by
  rw [ho, branchTo_faults s a (targetFault_align lt al)]

section
variable {s : State} {a : SlotId}

theorem j_goes (h : s.canIssue a 0x30 = true) :
    exec (.j a) s = .next ((s.issued a).branchTo (s.issueNow a) (s.targetNow a) id) := (exec_j s a).trans (execIssue_canIssue h _)

theorem jr_goes (h : s.canIssue a 0x31 = true) :
    exec (.jr a) s = .next ((s.issued a).branchTo (s.issueNow a) (s.src1 a) id) := (exec_jr s a).trans (execIssue_canIssue h _)

theorem call_goes (h : s.canIssue a 0x32 = true) : exec (.call a) s =
    .next ((s.issued a).branchTo (s.issueNow a) (s.targetNow a) (fun x => x.setG 31 (((s.slotNow a).pc + 8).zeroExtend 64))) :=
  (exec_call s a).trans (execIssue_canIssue h _)

theorem beq_goes (h : s.canIssue a 0x33 = true) (c : s.src1 a = s.src2 a) :
    exec (.beq a) s = .next ((s.issued a).branchTo (s.issueNow a) (s.targetNow a) id) :=
  (exec_beq s a).trans (execBranch_taken h (beq_iff_eq.2 c))

theorem bne_goes (h : s.canIssue a 0x34 = true) (c : s.src1 a ≠ s.src2 a) :
    exec (.bne a) s = .next ((s.issued a).branchTo (s.issueNow a) (s.targetNow a) id) :=
  (exec_bne s a).trans (execBranch_taken h (bne_iff_ne.2 c))

theorem blt_goes (h : s.canIssue a 0x35 = true) (c : (s.src1 a).toInt < (s.src2 a).toInt) :
    exec (.blt a) s = .next ((s.issued a).branchTo (s.issueNow a) (s.targetNow a) id) :=
  (exec_blt s a).trans (execBranch_taken h (decide_eq_true c))

theorem bltu_goes (h : s.canIssue a 0x36 = true) (c : (s.src1 a).toNat < (s.src2 a).toNat) :
    exec (.bltu a) s = .next ((s.issued a).branchTo (s.issueNow a) (s.targetNow a) id) :=
  (exec_bltu s a).trans (execBranch_taken h (decide_eq_true c))

theorem beq_stays (h : s.canIssue a 0x33 = true) (c : ¬ s.src1 a = s.src2 a) : exec (.beq a) s = .next (s.retired a id) :=
  (exec_beq s a).trans (execBranch_untaken h (beq_eq_false_iff_ne.2 c))

theorem bne_stays (h : s.canIssue a 0x34 = true) (c : ¬ s.src1 a ≠ s.src2 a) : exec (.bne a) s = .next (s.retired a id) :=
  (exec_bne s a).trans (execBranch_untaken h (bne_eq_false_iff_eq.2 (not_not.1 c)))

theorem blt_stays (h : s.canIssue a 0x35 = true) (c : ¬ (s.src1 a).toInt < (s.src2 a).toInt) : exec (.blt a) s = .next (s.retired a id) :=
  (exec_blt s a).trans (execBranch_untaken h (decide_eq_false c))

theorem bltu_stays (h : s.canIssue a 0x36 = true) (c : ¬ (s.src1 a).toNat < (s.src2 a).toNat) : exec (.bltu a) s = .next (s.retired a id) :=
  (exec_bltu s a).trans (execBranch_untaken h (decide_eq_false c))

end

/-- Settles O17: every jump and every taken branch goes to its target, which decides between the new PC and the two faults. -/
theorem jumpsAndBranches : Obligations.JumpsAndBranches :=
  ⟨fun _ _ h => goes_placed (j_goes h), fun _ _ h => goes_placed (jr_goes h), fun _ _ h => goes_placed (call_goes h),
    fun _ _ h c => goes_placed (beq_goes h c), fun _ _ h => beq_stays h,
    fun _ _ h c => goes_placed (bne_goes h c), fun _ _ h => bne_stays h,
    fun _ _ h c => goes_placed (blt_goes h c), fun _ _ h => blt_stays h,
    fun _ _ h c => goes_placed (bltu_goes h c), fun _ _ h => bltu_stays h,
    fun _ _ h => goes_addr (j_goes h), fun _ _ h => goes_align (j_goes h),
    fun _ _ h => goes_addr (jr_goes h), fun _ _ h => goes_align (jr_goes h),
    fun _ _ h => goes_addr (call_goes h), fun _ _ h => goes_align (call_goes h),
    fun _ _ h c => goes_addr (beq_goes h c), fun _ _ h c => goes_align (beq_goes h c),
    fun _ _ h c => goes_addr (bne_goes h c), fun _ _ h c => goes_align (bne_goes h c),
    fun _ _ h c => goes_addr (blt_goes h c), fun _ _ h c => goes_align (blt_goes h c),
    fun _ _ h c => goes_addr (bltu_goes h c), fun _ _ h c => goes_align (bltu_goes h c)⟩

/-! ### The local address space (R26) -/

/-- Settles O15: the two ranges do not meet, and ALIGN is asked only within one of them. -/
theorem localAddressMap : Obligations.LocalAddressMap := by
  refine ⟨fun x n al _ hs ha => ?_, fun x n al _ lo hi ha => ?_, fun x n al _ hr ha => ?_, fun x n al _ hs hr => ?_⟩
  · simp only [localAt, hs, ha, if_true]
  · simp only [localAt, show ¬ x + n ≤ 0xC000 by omega, lo, hi, and_self, ha, if_true, if_false]
  · rcases hr with hs | hp
    · simp only [localAt, hs, ha, if_true, if_false]
    · simp only [localAt, show ¬ x + n ≤ 0xC000 by omega, hp, and_self, ha, if_true, if_false]
  · simp only [localAt, show ¬ x + n ≤ 0xC000 by omega, show ¬ (0x10000 ≤ x ∧ x + n ≤ 0x20000) by omega, if_false]

/-! ### Loads and stores (R26, R28, R41) -/

/-- A load that retires after the issue is the state that the statements call loaded. -/
theorem retireLoad_issued (s : State) (a : SlotId) (l : Local) (v : W64) :
    (s.issued a).retireLoad (s.issueNow a) l v = s.loaded a l v := retire_issued s a _

/-- A load of readable bytes gives them to gd. -/
theorem execLoad_reads {s : State} {a : SlotId} {op n : Nat} {b : List Byte} (h : s.canIssue a op = true)
    (hr : s.localRead (slotK a) (localAt (s.eaNow a).toNat n n) n = .inr b) :
    execLoad op n a s = .next (s.loaded a (localAt (s.eaNow a).toNat n n) (BitVec.ofNat 64 (leNat b))) := by
  rw [execLoad, execIssue_canIssue h]
  simp only [issueNow_ea, issueNow_k, localRead_issued, hr, retireLoad_issued]

/-- A load whose address faults faults the slot. -/
theorem execLoad_faults {s : State} {a : SlotId} {op n f : Nat} (h : s.canIssue a op = true)
    (hr : s.localRead (slotK a) (localAt (s.eaNow a).toNat n n) n = .inl f) : execLoad op n a s = .next (s.traps a f) := by
  rw [execLoad, execIssue_canIssue h]
  simp only [issueNow_ea, issueNow_k, localRead_issued, hr, faultAt_issued]

/-- Settles O12: the three loads are one operation at three sizes. -/
theorem localLoads : Obligations.LocalLoads :=
  ⟨fun s a _ h hr => (exec_ld8 s a).trans (execLoad_reads h hr), fun s a _ h hr => (exec_ld32 s a).trans (execLoad_reads h hr),
    fun s a _ h hr => (exec_ld64 s a).trans (execLoad_reads h hr), fun s a _ h hr => (exec_ld8 s a).trans (execLoad_faults h hr),
    fun s a _ h hr => (exec_ld32 s a).trans (execLoad_faults h hr), fun s a _ h hr => (exec_ld64 s a).trans (execLoad_faults h hr)⟩

/-- A store into the rill store. -/
theorem execStore_store {s : State} {a : SlotId} {op n x : Nat} (h : s.canIssue a op = true)
    (hl : localAt (s.eaNow a).toNat n n = .store x) : execStore op n a s =
    .next (((s.issued a).storeWrite (slotK a) x (leBytes n (s.src2 a).toNat) false).retiredIn a id) := by
  rw [execStore, execIssue_canIssue h]
  simp only [issueNow_ea, issueNow_k, issueNow_v2, hl, State.localWrite, retire_in]

/-- A store into the home pool. -/
theorem execStore_pool {s : State} {a : SlotId} {op n x : Nat} (h : s.canIssue a op = true)
    (hl : localAt (s.eaNow a).toNat n n = .pool x) : execStore op n a s =
    .next (((s.issued a).poolWrite (slotK a) x (leBytes n (s.src2 a).toNat) false).retiredIn a id) := by
  rw [execStore, execIssue_canIssue h]
  simp only [issueNow_ea, issueNow_k, issueNow_v2, hl, State.localWrite, retire_in]

/-- A store whose address faults faults the slot and stores nothing. -/
theorem execStore_faults {s : State} {a : SlotId} {op n f : Nat} (h : s.canIssue a op = true)
    (hl : localAt (s.eaNow a).toNat n n = .fault f) : execStore op n a s = .next (s.traps a f) := by
  rw [execStore, execIssue_canIssue h]
  simp only [issueNow_ea, hl, faultAt_issued]

/-- Settles O13: the three stores are one operation at three sizes. -/
theorem localStores : Obligations.LocalStores :=
  ⟨fun s a _ h hl => (exec_st8 s a).trans (execStore_store h hl), fun s a _ h hl => (exec_st8 s a).trans (execStore_pool h hl),
    fun s a _ h hl => (exec_st32 s a).trans (execStore_store h hl), fun s a _ h hl => (exec_st32 s a).trans (execStore_pool h hl),
    fun s a _ h hl => (exec_st64 s a).trans (execStore_store h hl), fun s a _ h hl => (exec_st64 s a).trans (execStore_pool h hl),
    fun s a _ h hl => (exec_st8 s a).trans (execStore_faults h hl), fun s a _ h hl => (exec_st32 s a).trans (execStore_faults h hl),
    fun s a _ h hl => (exec_st64 s a).trans (execStore_faults h hl)⟩

/-! ### The bytes that a store changes -/

@[simp] theorem leBytes_length (n v : Nat) : (leBytes n v).length = n := by
  induction n generalizing v with
  | zero => rfl
  | succ n ih => simp only [leBytes, List.length_cons, ih]

/-- Byte i of a number, lowest first. -/
theorem leBytes_getElem (n v i : Nat) (h : i < (leBytes n v).length) : (leBytes n v)[i] = BitVec.ofNat 8 (v / 256 ^ i) := by
  induction n generalizing v i with
  | zero => simp at h
  | succ n ih =>
    cases i with
    | zero => simp [leBytes]
    | succ i => simp only [leBytes, List.getElem_cons_succ, ih, Nat.div_div_eq_div_mul, Nat.pow_succ, Nat.mul_comm]

@[simp] theorem issued_stack (s : State) (a : SlotId) : (s.issued a).stack = s.stack := by
  simp only [State.issued, State.touchIssue, State.atCycle]; split <;> rfl
@[simp] theorem issued_host (s : State) (a : SlotId) : (s.issued a).host = s.host := by
  simp only [State.issued, State.touchIssue, State.atCycle]; split <;> rfl

/-- What bytes written at an address of a memory change: they read back there, and every other byte reads as before. -/
theorem writeBytes_reads {m : Mem} (hm : Mem.wf m = true) (a y n v : Nat) :
    (∀ i, i < n → memRead (writeBytes m a (leBytes n v)) (a + i) = BitVec.ofNat 8 (v / 256 ^ i)) ∧
    ((y < a ∨ a + n ≤ y) → memRead (writeBytes m a (leBytes n v)) y = memRead m y) := by
  refine ⟨fun i hi => ?_, fun hy => memRead_writeBytes_outside _ _ _ _ (by rwa [leBytes_length])⟩
  rw [memRead_writeBytes_inside _ _ _ i (by rwa [leBytes_length]) hm, leBytes_getElem]

/-- Retiring changes a slot, and no memory. -/
theorem retiredIn_memories (t : State) (a : SlotId) (f : Slot → Slot) : (t.retiredIn a f).store = t.store ∧
    (t.retiredIn a f).pool = t.pool ∧ (t.retiredIn a f).stack = t.stack ∧ (t.retiredIn a f).host = t.host := ⟨rfl, rfl, rfl, rfl⟩

theorem storeWrite_store (s : State) (k a : Nat) (b : List Byte) (p : Bool) :
    (s.storeWrite k a b p).store = writeBytes s.store (sbase k + a) b := rfl

/-- A store into the rill store changes its bytes and no other of any memory. -/
theorem execStore_bytes {s t : State} {a : SlotId} {op n x : Nat} (y : Nat) (h : s.canIssue a op = true)
    (hl : localAt (s.eaNow a).toNat n n = .store x) (hm : Mem.wf s.store = true) (ht : execStore op n a s = .next t) :
    (∀ i, i < n → memRead t.store (sbase (slotK a) + x + i) = BitVec.ofNat 8 ((s.src2 a).toNat / 256 ^ i)) ∧
    ((y < sbase (slotK a) + x ∨ sbase (slotK a) + x + n ≤ y) → memRead t.store y = memRead s.store y) ∧
    t.pool = s.pool ∧ t.stack = s.stack ∧ t.host = s.host := by
  rw [execStore_store h hl, Host.Outcome.next.injEq] at ht
  subst ht
  obtain ⟨hstore, hpool, hstack, hhost⟩ := retiredIn_memories ((s.issued a).storeWrite (slotK a) x (leBytes n (s.src2 a).toNat) false) a id
  simp only [hstore, hpool, hstack, hhost, storeWrite_store, State.storeWrite_pool, State.storeWrite_stack, State.storeWrite_host, issued_store]
  obtain ⟨hin, hout⟩ := writeBytes_reads hm (sbase (slotK a) + x) y n (s.src2 a).toNat
  exact ⟨hin, hout, issued_pool s a, issued_stack s a, issued_host s a⟩

/-- Settles O14: the bytes written read back, every other byte reads as before. -/
theorem storedBytes : Obligations.StoredBytes :=
  ⟨fun s _ a _ y h hl hm ht => execStore_bytes y h hl hm ((exec_st8 s a).symm.trans ht),
    fun s _ a _ y h hl hm ht => execStore_bytes y h hl hm ((exec_st32 s a).symm.trans ht),
    fun s _ a _ y h hl hm ht => execStore_bytes y h hl hm ((exec_st64 s a).symm.trans ht)⟩

/-! ### Atomics and global pool addresses (R26, R46, R127) -/

/-- An atomic whose address faults faults the slot. -/
theorem execAmo_faults {s : State} {a : SlotId} {op f : Nat} {g : W64 → W64 → W64} (h : s.canIssue a op = true)
    (hr : s.localRead (slotK a) (localAt (s.eaNow a).toNat 8 8) 8 = .inl f) : execAmo op g a s = .next (s.traps a f) := by
  rw [execAmo, execIssue_canIssue h]
  simp only [issueNow_ea, issueNow_k, localRead_issued, hr, faultAt_issued]

/-- An atomic access stores its value and gives gd what was there. -/
theorem execAmo_swaps {s : State} {a : SlotId} {op : Nat} {g : W64 → W64 → W64} {l : Local} {b : List Byte} (h : s.canIssue a op = true)
    (hl : localAt (s.eaNow a).toNat 8 8 = l) (hr : s.localRead (slotK a) l 8 = .inr b) : execAmo op g a s =
    .next (((s.issued a).localWrite (slotK a) l (leBytes 8 (g (BitVec.ofNat 64 (leNat b)) (s.src2 a)).toNat)).retireLoad (s.issueNow a) l
      (BitVec.ofNat 64 (leNat b))) := by
  rw [execAmo, execIssue_canIssue h]
  simp only [issueNow_ea, issueNow_k, issueNow_v2, localRead_issued, hl, hr]

/-- The offset of a global pool address is its low 16 bits, so it is a multiple of 8 where the address is. -/
theorem poolAddr_offset {v k x : Nat} (h : poolAddr v = some (k, x)) : x % 8 = v % 8 := by
  simp only [poolAddr, Option.ite_none_right_eq_some, Option.some.injEq, Prod.mk.injEq] at h
  omega

/-- LDP64 and STP64 of an address that names no pool, or is no multiple of 8. -/
theorem ldp64_faults {s : State} {a : SlotId} (h : s.canIssue a 0x26 = true)
    (hx : poolAddr (s.eaNow a).toNat = none ∨ (s.eaNow a).toNat % 8 ≠ 0) : execLdp64 a s = .next (s.traps a fAddr) := by
  rw [execLdp64, execIssue_canIssue h]
  cases hp : poolAddr (s.eaNow a).toNat with
  | none => simp only [issueNow_ea, hp, faultAt_issued]
  | some p =>
    have h8 : p.2 % 8 ≠ 0 := by rw [poolAddr_offset hp]; exact hx.resolve_left (by simp [hp])
    simp only [issueNow_ea, hp, if_pos h8, faultAt_issued]

theorem stp64_faults {s : State} {a : SlotId} (h : s.canIssue a 0x27 = true)
    (hx : poolAddr (s.eaNow a).toNat = none ∨ (s.eaNow a).toNat % 8 ≠ 0) : execStp64 a s = .next (s.traps a fAddr) := by
  rw [execStp64, execIssue_canIssue h]
  cases hp : poolAddr (s.eaNow a).toNat with
  | none => simp only [issueNow_ea, hp, faultAt_issued]
  | some p =>
    have h8 : p.2 % 8 ≠ 0 := by rw [poolAddr_offset hp]; exact hx.resolve_left (by simp [hp])
    simp only [issueNow_ea, hp, if_pos h8, faultAt_issued]

/-- LDP64 of the own home pool reads over the bond. -/
theorem ldp64_own {s : State} {a : SlotId} {x : Nat} {b : List Byte} (h : s.canIssue a 0x26 = true)
    (hp : poolAddr (s.eaNow a).toNat = some (slotK a, x)) (h8 : x % 8 = 0) (hr : s.localRead (slotK a) (.pool x) 8 = .inr b) :
    execLdp64 a s = .next (s.loaded a (.pool x) (BitVec.ofNat 64 (leNat b))) := by
  rw [execLdp64, execIssue_canIssue h]
  simp only [issueNow_ea, issueNow_k, hp, h8, ne_eq, not_true_eq_false, if_true, if_false, localRead_issued, hr, retireLoad_issued]

/-- LDP64 of another pool sends a READ and leaves the load pending. -/
theorem ldp64_sends {s u : State} {a : SlotId} {k x : Nat} (h : s.canIssue a 0x26 = true)
    (hp : poolAddr (s.eaNow a).toNat = some (k, x)) (h8 : x % 8 = 0) (hk : k ≠ slotK a)
    (hu : ((s.issued a).fresh.2).inject? { (s.issued a).fresh.2.slotPacket (slotK a) a.slot with dcol := rcol k, drow := rrow k, kind := 2, pool := true, len := 8, addr := x, xid := (s.issued a).fresh.1 } = some u) :
    execLdp64 a s = .next (u.retiredIn a (fun y => { y with loads := y.loads ++ [((s.issued a).fresh.1, gdOf (s.wordNow a))] })) := by
  rw [execLdp64, execIssue_canIssue h]
  simp only [issueNow_ea, issueNow_k, issueNow_n, issueNow_w, hp, h8, hk, ne_eq, not_true_eq_false, if_false, hu, retire_in]

/-- STP64 of the own home pool writes over the bond. -/
theorem stp64_own {s : State} {a : SlotId} {x : Nat} (h : s.canIssue a 0x27 = true)
    (hp : poolAddr (s.eaNow a).toNat = some (slotK a, x)) (h8 : x % 8 = 0) : execStp64 a s =
    .next (((s.issued a).poolWrite (slotK a) x (leBytes 8 (s.src2 a).toNat) false).retiredIn a id) := by
  rw [execStp64, execIssue_canIssue h]
  simp only [issueNow_ea, issueNow_k, issueNow_v2, hp, h8, ne_eq, not_true_eq_false, if_true, if_false, State.localWrite, retire_in]

/-- STP64 of another pool sends a WRITE and leaves its acknowledgement outstanding. -/
theorem stp64_sends {s u : State} {a : SlotId} {k x : Nat} (h : s.canIssue a 0x27 = true)
    (hp : poolAddr (s.eaNow a).toNat = some (k, x)) (h8 : x % 8 = 0) (hk : k ≠ slotK a)
    (hu : ((s.issued a).fresh.2).inject? { (s.issued a).fresh.2.slotPacket (slotK a) a.slot with dcol := rcol k, drow := rrow k, kind := 1, pool := true, ackReq := true, len := 8, addr := x, payload := leBytes 8 (s.src2 a).toNat, xid := (s.issued a).fresh.1 } = some u) :
    execStp64 a s = .next (u.retiredIn a (fun y => { y with acks := y.acks ++ [(s.issued a).fresh.1] })) := by
  rw [execStp64, execIssue_canIssue h]
  simp only [issueNow_ea, issueNow_k, issueNow_n, issueNow_v2, hp, h8, hk, ne_eq, not_true_eq_false, if_false, hu, retire_in]

/-- Settles O16: an atomic reads and writes one place; LDP64 and STP64 go over the bond or into the fabric as their address says. -/
theorem atomicsAndGlobalPool : Obligations.AtomicsAndGlobalPool :=
  ⟨fun s a _ h hr => (exec_amoadd s a).trans (execAmo_faults h hr), fun s a _ h hr => (exec_amoswap s a).trans (execAmo_faults h hr),
    fun s a _ _ h hl hr => (exec_amoadd s a).trans (execAmo_swaps h hl hr), fun s a _ _ h hl hr => (exec_amoadd s a).trans (execAmo_swaps h hl hr),
    fun s a _ _ h hl hr => (exec_amoswap s a).trans (execAmo_swaps h hl hr), fun s a _ _ h hl hr => (exec_amoswap s a).trans (execAmo_swaps h hl hr),
    fun s a _ _ h hp h8 hr => (exec_ldp64 s a).trans (ldp64_own h hp h8 hr),
    fun s a _ _ _ h hp h8 hk hu => (exec_ldp64 s a).trans (ldp64_sends h hp h8 hk hu),
    fun s a h hx => (exec_ldp64 s a).trans (ldp64_faults h hx), fun s a h hx => (exec_stp64 s a).trans (stp64_faults h hx),
    fun s a _ h hp h8 => (exec_stp64 s a).trans (stp64_own h hp h8),
    fun s a _ _ _ h hp h8 hk hu => (exec_stp64 s a).trans (stp64_sends h hp h8 hk hu)⟩

end Sys2Proof.Machine
end

section
/-! Format M and the units: task control, waits and events, ownership, control registers, messages, the tensor and vector units' issue, and the
watchdogs. -/

namespace Sys2Proof.Machine

/-! ### What the issue leaves of the rill -/

/-- The issue's cycle is never before the clock. -/
theorem cycle_le_issueCycle (s : State) (a : SlotId) : s.clk.cycle ≤ s.issueCycle a := by
  unfold State.issueCycle
  generalize hc : max (max s.clk.cycle ((s.rill (slotK a)).lastIssue + 1)) (s.operandsAt (slotK a) a.slot) = c
  have h : s.clk.cycle ≤ c := by omega
  simp only
  split
  · cases hf : ((List.range 32).map (c + ·)).find? (fun c => !s.shut a c) with
    | none => exact Nat.le_trans h (Nat.le_add_right c 31)
    | some y =>
      obtain ⟨i, -, rfl⟩ := List.mem_map.1 (List.mem_of_find?_eq_some hf)
      exact Nat.le_trans h (Nat.le_add_right c i)
  · exact h

@[simp] theorem issued_cycle (s : State) (a : SlotId) : (s.issued a).clk.cycle = s.issueCycle a := by
  have h := cycle_le_issueCycle s a
  show (s.atCycle (s.issueCycle a)).clk.cycle = _
  unfold State.atCycle
  split
  · rfl
  · omega

/-- The issue changes no slot but its own, and of that one only the time of its last issue. -/
theorem issued_slot (s : State) (a : SlotId) (n : Nat) : ((s.issued a).rill (slotK a)).slot n =
    if n = a.slot then { s.slotNow a with issuedAt := s.issueCycle a + 1 } else (s.rill (slotK a)).slot n := by
  rw [issued_rill]
  split
  · next h => rw [h, Rill.slot_setSlot]
  · next h => rw [Rill.slot_setSlot_other _ _ h]; rfl

theorem issued_slotNow (s : State) (a : SlotId) : (s.issued a).slotNow a = { s.slotNow a with issuedAt := s.issueCycle a + 1 } := by
  rw [State.slotNow, issued_slot, if_pos rfl]

/-- A part of the rill that neither the watchdog's count nor the slots are in. -/
theorem issued_rillPart {α : Type} (view : Rill → α) (hv : ∀ r c w m, view { r with lastIssue := c, wd := w, slots := m } = view r)
    (s : State) (a : SlotId) : view ((s.issued a).rill (slotK a)) = view (s.rill (slotK a)) := by
  rw [issued_rill]
  exact hv (s.rill (slotK a)) _ _ _

/-- A part of a slot that is not the time of its last issue. -/
theorem issued_slotPart {α : Type} (view : Slot → α) (hv : ∀ x c, view { x with issuedAt := c } = view x) (s : State) (a : SlotId) (n : Nat) :
    view (((s.issued a).rill (slotK a)).slot n) = view ((s.rill (slotK a)).slot n) := by
  rw [issued_slot]
  split
  · next h => rw [hv, h]; rfl
  · rfl

@[simp] theorem issued_slotSt (s : State) (a : SlotId) (n : Nat) :
    (((s.issued a).rill (slotK a)).slot n).st = ((s.rill (slotK a)).slot n).st := issued_slotPart Slot.st (fun _ _ => rfl) s a n
@[simp] theorem issued_owner (s : State) (a : SlotId) (t : Nat) : ((s.issued a).rill (slotK a)).owner t = (s.rill (slotK a)).owner t :=
  issued_rillPart (·.owner t) (fun _ _ _ _ => rfl) s a
@[simp] theorem issued_rx (s : State) (a : SlotId) : ((s.issued a).rill (slotK a)).rx = (s.rill (slotK a)).rx :=
  issued_rillPart Rill.rx (fun _ _ _ _ => rfl) s a
@[simp] theorem issued_rxBase (s : State) (a : SlotId) : ((s.issued a).rill (slotK a)).rxBase = (s.rill (slotK a)).rxBase :=
  issued_rillPart Rill.rxBase (fun _ _ _ _ => rfl) s a
@[simp] theorem issued_rxLen (s : State) (a : SlotId) : ((s.issued a).rill (slotK a)).rxLen = (s.rill (slotK a)).rxLen :=
  issued_rillPart Rill.rxLen (fun _ _ _ _ => rfl) s a
@[simp] theorem issued_rxOk (s : State) (a : SlotId) (b l : Nat) : ((s.issued a).rill (slotK a)).rxOk b l = (s.rill (slotK a)).rxOk b l :=
  issued_rillPart (·.rxOk b l) (fun _ _ _ _ => rfl) s a
@[simp] theorem issued_rillStep (s : State) (a : SlotId) : ((s.issued a).rill (slotK a)).step = (s.rill (slotK a)).step :=
  issued_rillPart Rill.step (fun _ _ _ _ => rfl) s a
@[simp] theorem issued_fenced (s : State) (a : SlotId) : ((s.issued a).rill (slotK a)).fenced a.slot = (s.rill (slotK a)).fenced a.slot := by
  have acks := issued_slotPart Slot.acks (fun _ _ => rfl) s a a.slot
  have tr := issued_rillPart Rill.trickles (fun _ _ _ _ => rfl) s a
  have qs := issued_rillPart Rill.queues (fun _ _ _ _ => rfl) s a
  simp only [Rill.fenced, acks, tr, qs]

/-! ### Task control (R31, R35, R41) -/

/-- The lowest number below a bound that a test picks. -/
theorem find?_range_eq {p : Nat → Bool} {b m : Nat} (hm : m < b) (h : p m = true) (hl : ∀ j, j < m → p j = false) :
    (List.range b).find? p = some m := by
  rw [List.find?_range_eq_some]
  exact ⟨h, List.mem_range.2 hm, fun j hj => by simp [hl j hj]⟩

/-- SPAWN with a FREE slot. -/
theorem spawn_starts {s : State} {a : SlotId} {m : Nat} (h : s.canIssue a 0x40 = true) (hm : m < 16)
    (hf : ((s.rill (slotK a)).slot m).st = .free) (hl : ∀ j, j < m → ((s.rill (slotK a)).slot j).st ≠ .free) : execSpawn a s =
    .next (((s.issued a).modSlot (slotK a) m (fun x => x.begin (pcAt (s.src1 a)) [(1, s.src2 a), (2, BitVec.ofNat 64 a.slot)] (s.issued a).clk.cycle)).retiredIn a (fun x => x.setG (gdOf (s.wordNow a)) (BitVec.ofNat 64 m))) := by
  have hfind : (List.range 16).find? (fun n => (((s.issued a).rill (slotK a)).slot n).st == .free) = some m :=
    find?_range_eq hm (by simp [hf]) (fun j hj => by simp [hl j hj])
  rw [execSpawn, execIssue_canIssue h]
  simp only [issueNow_k, hfind, retire_in, issueNow_v1, issueNow_v2, issueNow_n, issueNow_w]

/-- SPAWN without one. -/
theorem spawn_none {s : State} {a : SlotId} (h : s.canIssue a 0x40 = true) (hl : ∀ j, j < 16 → ((s.rill (slotK a)).slot j).st ≠ .free) :
    execSpawn a s = .next (s.gives a (-1)) := by
  have hfind : (List.range 16).find? (fun n => (((s.issued a).rill (slotK a)).slot n).st == .free) = none := by
    rw [List.find?_range_eq_none]
    exact fun j hj => by simp [hl j hj]
  rw [execSpawn, execIssue_canIssue h]
  simp only [issueNow_k, hfind, retire_issued]
  rfl

/-- Freeing entries of the receive ring leaves ownership. -/
theorem rxFree_own (r : Rill) (p : RxEntry → Bool) : (r.rxFree p).own = r.own := by
  simp only [Rill.rxFree, Rill.rxSettle]
  split <;> rfl

/-- Freeing entries of the receive ring leaves the slots. -/
theorem rxFree_slots (r : Rill) (p : RxEntry → Bool) : (r.rxFree p).slots = r.slots := by
  simp only [Rill.rxFree, Rill.rxSettle]
  split <;> rfl

/-- Putting one value under the keys of a list that a test picks. -/
theorem look_foldl_put {α : Type} (d v : α) (p : Nat → Prop) [DecidablePred p] (l : List Nat) (m : AMap α) (t : Nat) :
    look d (l.foldl (fun m t => if p t then put m t v else m) m) t = if t ∈ l ∧ p t then v else look d m t := by
  induction l generalizing m with
  | nil => simp
  | cons x l ih =>
    rw [List.foldl_cons, ih]
    by_cases hx : p x <;> by_cases ht : t = x
    · subst ht; simp [hx]
    · simp [hx, look_put_other _ _ _ ht, ht]
    · subst ht; simp [hx]
    · simp [hx, ht]

/-- A task that ended owns no tensor register. -/
theorem endTask_owner (r : Rill) (n t : Nat) (ht : t < 16) (ho : r.owner t = n) : (r.endTask n).owner t = 31 := by
  have own : (r.endTask n).own = (List.range 16).foldl (fun m t => if r.owner t = n then put m t 31 else m) r.own := rxFree_own _ _
  rw [Rill.owner, own]
  exact (look_foldl_put 31 31 (fun t => r.owner t = n) _ _ t).trans (if_pos ⟨List.mem_range.2 ht, ho⟩)

/-- Settles O18: SPAWN takes the first FREE slot; EXIT only marks its slot, and the end of the task does the rest. -/
theorem taskControl : Obligations.TaskControl := by
  refine ⟨fun s a m h hm hf hl => (exec_spawn s a).trans (spawn_starts h hm hf hl), fun s a h hl => (exec_spawn s a).trans (spawn_none h hl),
    fun s a h => (exec_exit s a).trans (execIssue_canIssue h _), fun s a ok al hx hw => ⟨?_, ?_, ?_, fun t => endTask_owner _ _ t⟩,
    fun s a h => ?_, fun s a h => ?_⟩
  · have hx' : ((s.rill (slotK a)).slot a.slot).exiting = true := hx
    rw [exec_exitComplete, execExitComplete]
    exact onUnit_next s _ ok (by simp only [hx', hw, al, Bool.not_false, Bool.and_self])
  · simp only [Rill.endTask, Rill.slot_setSlot]
  · simp only [Rill.endTask, Rill.slot_setSlot]
  · rw [exec_nop, execNop, execIssue_canIssue h, retire_issued]
  · rw [exec_trap, execTrap, execIssue_canIssue h, issueNow_w, wf_low_eq_imm _ (by decide : 8 ≤ 32)]
    rfl

/-! ### Waits and events (R31, R41, R46) -/

/-- A wait with nothing to do before it: the slot waits at the instruction. -/
theorem waits_of_issue {s : State} {a : SlotId} {op : Nat} (h : s.canIssue a op = true) (w : Issue → State → WaitFor) :
    execIssue op a s (fun i s => s.waitOn i (w i s)) = .next (s.waits a (w (s.issueNow a) (s.issued a))) := by
  rw [execIssue_canIssue h, waitOn_issued]

/-- WAITEV with one of its events there. -/
theorem waitev_hit {s : State} {a : SlotId} (h : s.canIssue a 0x43 = true)
    (hit : (s.slotNow a).event &&& BitVec.ofNat 16 (wf (s.wordNow a) 0 16) ≠ 0) : execWaitev a s =
    .next (s.retired a (fun x => { x.setG (gdOf (s.wordNow a)) (((s.slotNow a).event &&& BitVec.ofNat 16 (wf (s.wordNow a) 0 16)).zeroExtend 64) with event := x.event &&& ~~~((s.slotNow a).event &&& BitVec.ofNat 16 (wf (s.wordNow a) 0 16)) })) := by
  rw [execWaitev, execIssue_canIssue h]
  simp only [issueNow_x, issueNow_w, if_neg hit, retire_issued]

/-- WAITEV with none. -/
theorem waitev_waits {s : State} {a : SlotId} (h : s.canIssue a 0x43 = true)
    (miss : (s.slotNow a).event &&& BitVec.ofNat 16 (wf (s.wordNow a) 0 16) = 0) : execWaitev a s =
    .next (s.waits a (.waitev (BitVec.ofNat 16 (wf (s.wordNow a) 0 16)).toNat (gdOf (s.wordNow a)))) := by
  rw [execWaitev, execIssue_canIssue h]
  simp only [issueNow_x, issueNow_w, miss, if_true, waitOn_issued]

/-- SIGNAL, whatever the slot that it names. -/
theorem execSignal_issued {s : State} {a : SlotId} (h : s.canIssue a 0x44 = true) : execSignal a s =
    .next (((s.issued a).modSlot (slotK a) ((s.src1 a).toNat % 16) (fun x => if x.st = .free ∨ x.st = .faulted then x
      else { x with event := x.event ||| 1 <<< wf (s.wordNow a) 0 4 })).retiredIn a id) := by
  rw [execSignal, execIssue_canIssue h]
  simp only [issueNow_v1, issueNow_w, issueNow_k, retire_in]

/-- A slot changed: the slot, seen. -/
theorem modSlot_congr (t : State) (k n : Nat) {f g : Slot → Slot} (h : f ((t.rill k).slot n) = g ((t.rill k).slot n)) :
    t.modSlot k n f = t.modSlot k n g := by
  simp only [State.modSlot, h]

/-- SIGNAL of a slot that is neither FREE nor FAULTED. -/
theorem signal_sets {s : State} {a : SlotId} (h : s.canIssue a 0x44 = true)
    (hf : ((s.rill (slotK a)).slot ((s.src1 a).toNat % 16)).st ≠ .free) (hx : ((s.rill (slotK a)).slot ((s.src1 a).toNat % 16)).st ≠ .faulted) :
    execSignal a s = .next (((s.issued a).modSlot (slotK a) ((s.src1 a).toNat % 16)
      (fun x => { x with event := x.event ||| 1 <<< wf (s.wordNow a) 0 4 })).retiredIn a id) := by
  rw [execSignal_issued h]
  exact congrArg (fun t => Host.Outcome.next (State.retiredIn t a id)) (modSlot_congr _ _ _ (by simp only [issued_slotSt, hf, hx, or_self, if_false]))

/-- SIGNAL of another slot that is FREE or FAULTED changes no more than its own slot's PC and times. -/
theorem signal_ignored {s : State} {a : SlotId} (h : s.canIssue a 0x44 = true)
    (hf : ((s.rill (slotK a)).slot ((s.src1 a).toNat % 16)).st = .free ∨ ((s.rill (slotK a)).slot ((s.src1 a).toNat % 16)).st = .faulted)
    (hn : (s.src1 a).toNat % 16 ≠ a.slot) : ∃ t, exec (.signal a) s = .next t ∧
    (t.rill (slotK a)).slot ((s.src1 a).toNat % 16) = (s.rill (slotK a)).slot ((s.src1 a).toNat % 16) ∧
    t.slotNow a = { s.slotNow a with pc := (s.slotNow a).pc + 8, lastRetire := t.clk.cycle, issuedAt := t.clk.cycle + 1 } := by
  refine ⟨_, (exec_signal s a).trans (execSignal_issued h), ?_, ?_⟩
  · simp only [State.retiredIn, State.placedIn, State.modSlot, State.rill_setRill, Rill.slot_setSlot_other _ _ hn, Rill.slot_setSlot,
      issued_slotSt, hf, if_true, id]
    rw [issued_slot, if_neg hn]
  · simp only [State.retiredIn, State.placedIn, State.slotNow, State.modSlot, State.rill_setRill, Rill.slot_setSlot,
      Rill.slot_setSlot_other _ _ hn.symm, State.setRill_clk, issued_cycle, id]
    rw [issued_slot, if_pos rfl]
    rfl

/-- FENCE. -/
theorem fence_retires {s : State} {a : SlotId} (h : s.canIssue a 0x47 = true) (hf : (s.rill (slotK a)).fenced a.slot = true) :
    execFence a s = .next (s.retired a id) := by
  rw [execFence, execIssue_canIssue h]
  simp only [issueNow_k, issueNow_n, issued_fenced, hf, if_true, retire_issued]

theorem fence_waits {s : State} {a : SlotId} (h : s.canIssue a 0x47 = true) (hf : (s.rill (slotK a)).fenced a.slot = false) :
    execFence a s = .next (s.waits a .fence) := by
  rw [execFence, execIssue_canIssue h]
  simp only [issueNow_k, issueNow_n, issued_fenced, hf, Bool.false_eq_true, if_false, waitOn_issued]

/-- SLOT_WAKE of a slot whose wait ends. -/
theorem slotWake_ends {s t : State} {a : SlotId} (ok : slotOk a = true) (al : s.alive (slotK a) = true)
    (hw : s.wake? (slotK a) a.slot = some t) : execSlotWake a s = .next t := by
  rw [execSlotWake, onUnit_next s _ ok (by simp [al, hw]), hw]
  rfl

/-- The wait of WAITEV ends where one of its events is there. -/
theorem wake?_waitev {s : State} {k n m g : Nat} (hs : ((s.rill k).slot n).st = .waiting) (hw : ((s.rill k).slot n).wait = .waitev m g)
    (hit : ((s.rill k).slot n).event &&& BitVec.ofNat 16 m ≠ 0) : s.wake? k n = some (s.wakeWith k n (fun x =>
      { x.setG g ((((s.rill k).slot n).event &&& BitVec.ofNat 16 m).zeroExtend 64) with
        event := x.event &&& ~~~(((s.rill k).slot n).event &&& BitVec.ofNat 16 m) })) := by
  simp only [State.wake?, hs, hw, hit, bne_self_eq_false, Bool.false_eq_true, if_false]

/-- The wait of FENCE ends where nothing of the slot is outstanding. -/
theorem wake?_fence {s : State} {k n : Nat} (hs : ((s.rill k).slot n).st = .waiting) (hw : ((s.rill k).slot n).wait = .fence)
    (hf : (s.rill k).fenced n = true) : s.wake? k n = some (s.wakeWith k n id) := by
  simp only [State.wake?, hs, hw, hf, bne_self_eq_false, Bool.false_eq_true, if_false, if_true]

/-- A YIELD whose count has run out by the cycle given. -/
theorem yieldExpiry_wakes {s : State} {a : SlotId} {c u : Nat} (ok : slotOk a = true) (al : s.alive (slotK a) = true)
    (hs : (s.slotNow a).st = .waiting) (hw : (s.slotNow a).wait = .yield u) (hu : u ≤ max c s.clk.cycle) :
    execYieldExpiry a c s = .next ((s.atCycle c).wakeWith (slotK a) a.slot id) := by
  simp only [State.slotNow] at hs hw
  rw [execYieldExpiry]
  exact onUnit_next s _ ok (by simp only [hs, hw, beq_self_eq_true, hu, decide_true, al, Bool.and_self])

/-- Settles O19: each instruction either retires or leaves its slot waiting; SLOT_WAKE ends the wait as the instruction would have retired. -/
theorem waitsAndEvents : Obligations.WaitsAndEvents := by
  refine ⟨fun s a h => ?_, fun s a c u ok al hs hw hu => (exec_yieldExpiry s a c).trans (yieldExpiry_wakes ok al hs hw hu),
    fun s a h hit => (exec_waitev s a).trans (waitev_hit h hit), fun s a h miss => (exec_waitev s a).trans (waitev_waits h miss),
    fun s a h hf hx => (exec_signal s a).trans (signal_sets h hf hx), fun s a h hf hn => signal_ignored h hf hn,
    fun s a h hf => (exec_fence s a).trans (fence_retires h hf), fun s a h hf => (exec_fence s a).trans (fence_waits h hf),
    fun s a m g ok al hs hw hit => (exec_slotWake s a).trans (slotWake_ends ok al (wake?_waitev hs hw hit)),
    fun s a ok al hs hw hf => (exec_slotWake s a).trans (slotWake_ends ok al (wake?_fence hs hw hf))⟩
  rw [exec_yieldOp, execYield, waits_of_issue h, issueNow_w, wf_low_eq_imm _ (by decide : 16 ≤ 32)]
  rfl

end Sys2Proof.Machine
end

section
/-! Ownership, control registers, messages, the tensor and vector units' issue, and the watchdogs. -/

namespace Sys2Proof.Machine

/-! ### Ownership (R25) -/

/-- TCLAIM of registers that are all unowned takes them. -/
theorem tclaim_takes {s : State} {a : SlotId} (h : s.canIssue a 0x45 = true)
    (ho : ∀ t ∈ bitsSet 16 (wf (s.wordNow a) 0 16), (s.rill (slotK a)).owner t = 31) : execTclaim a s =
    .next (s.retiredWith a (fun r => { r with own := (bitsSet 16 (wf (s.wordNow a) 0 16)).foldl (fun m t => put m t a.slot) r.own }) (fun x => x.setG (gdOf (s.wordNow a)) 1)) := by
  have hall : (bitsSet 16 (wf (s.wordNow a) 0 16)).all (fun t => ((s.issued a).rill (slotK a)).owner t == 31) = true :=
    List.all_eq_true.2 (fun t ht => by simp [ho t ht])
  rw [execTclaim, execIssue_canIssue h]
  simp only [issueNow_k, issueNow_w, issueNow_n, hall, if_true]
  rw [retire_modRill]
  exact fun _ => rfl

/-- TCLAIM of registers of which one is owned takes none. -/
theorem tclaim_refuses {s : State} {a : SlotId} (h : s.canIssue a 0x45 = true)
    (ho : ¬ ∀ t ∈ bitsSet 16 (wf (s.wordNow a) 0 16), (s.rill (slotK a)).owner t = 31) : execTclaim a s = .next (s.gives a 0) := by
  have hall : (bitsSet 16 (wf (s.wordNow a) 0 16)).all (fun t => ((s.issued a).rill (slotK a)).owner t == 31) = false := by
    simpa [List.all_eq_false] using ho
  rw [execTclaim, execIssue_canIssue h]
  simp only [issueNow_k, issueNow_w, hall, Bool.false_eq_true, if_false, retire_issued]
  rfl

/-- TFREE of registers that the slot owns makes them unowned. -/
theorem tfree_frees {s : State} {a : SlotId} (h : s.canIssue a 0x46 = true)
    (ho : ∀ t ∈ bitsSet 16 (wf (s.wordNow a) 0 16), (s.rill (slotK a)).owner t = a.slot) : execTfree a s =
    .next (s.retiredWith a (fun r => { r with own := (bitsSet 16 (wf (s.wordNow a) 0 16)).foldl (fun m t => put m t 31) r.own }) id) := by
  have hall : (bitsSet 16 (wf (s.wordNow a) 0 16)).all (fun t => ((s.issued a).rill (slotK a)).owner t == a.slot) = true :=
    List.all_eq_true.2 (fun t ht => by simp [ho t ht])
  rw [execTfree, execIssue_canIssue h]
  simp only [issueNow_k, issueNow_w, issueNow_n, hall, if_true]
  rw [retire_modRill]
  exact fun _ => rfl

/-- TFREE of registers of which it does not own one faults. -/
theorem tfree_faults {s : State} {a : SlotId} (h : s.canIssue a 0x46 = true)
    (ho : ¬ ∀ t ∈ bitsSet 16 (wf (s.wordNow a) 0 16), (s.rill (slotK a)).owner t = a.slot) : execTfree a s = .next (s.traps a fTreg) := by
  have hall : (bitsSet 16 (wf (s.wordNow a) 0 16)).all (fun t => ((s.issued a).rill (slotK a)).owner t == a.slot) = false := by
    simpa [List.all_eq_false] using ho
  rw [execTfree, execIssue_canIssue h]
  simp only [issueNow_k, issueNow_w, issueNow_n, hall, Bool.false_eq_true, if_false, faultAt_issued]

/-! ### Control registers (R29, R30) -/

/-- R29 lists sixteen control registers. -/
theorem csr_unlisted (s : State) (k n : Nat) {num : Nat} (h : 0x010 ≤ num) : s.csr k n num = none := by
  obtain ⟨m, rfl⟩ := Nat.exists_eq_add_of_le' h
  rfl

/-- CSRR gives what the register holds as the slot issues. -/
theorem csrr_gives {s : State} {a : SlotId} {v : W64} (h : s.canIssue a 0x80 = true)
    (hv : (s.issued a).csr (slotK a) a.slot (wf (s.wordNow a) 0 12) = some v) : execCsrr a s = .next (s.gives a v) := by
  rw [execCsrr, execIssue_canIssue h]
  simp only [issueNow_k, issueNow_n, issueNow_w, hv, retire_issued]
  rfl

theorem csrr_unlisted {s : State} {a : SlotId} (h : s.canIssue a 0x80 = true) (hn : 0x010 ≤ wf (s.wordNow a) 0 12) :
    execCsrr a s = .next (s.traps a fIllegal) := by
  rw [execCsrr, execIssue_canIssue h]
  simp only [issueNow_k, issueNow_n, issueNow_w, csr_unlisted _ _ _ hn, faultAt_issued]

section
variable {s : State} {a : SlotId}

/-- CSRW of EVENT. -/
theorem csrw_event (h : s.canIssue a 0x81 = true) (hw : wf (s.wordNow a) 0 12 = 0x005) :
    execCsrw a s = .next (s.retired a (fun x => { x with event := BitVec.ofNat 16 (s.src1 a).toNat })) := by
  rw [execCsrw, execIssue_canIssue h]
  simp only [issueNow_w, issueNow_v1, hw, retire_issued]

/-- CSRW of TASK_WD. -/
theorem csrw_taskWd (h : s.canIssue a 0x81 = true) (hw : wf (s.wordNow a) 0 12 = 0x00E) :
    execCsrw a s = .next (s.retiredWith a (fun r => { r with taskWd := s.src1 a }) id) := by
  rw [execCsrw, execIssue_canIssue h]
  simp only [issueNow_w, issueNow_k, issueNow_v1, hw]
  rw [retire_modRill]
  exact fun _ => rfl

/-- CSRW of RX_BASE writes a value that R30 allows and faults otherwise. -/
theorem csrw_rxBase (h : s.canIssue a 0x81 = true) (hw : wf (s.wordNow a) 0 12 = 0x008) : execCsrw a s = .next
    (if (s.src1 a).toNat % 64 = 0 ∧ (s.src1 a).toNat < 0xC000 ∧ (s.rill (slotK a)).rxOk (s.src1 a).toNat (s.rill (slotK a)).rxLen = true
      then s.retiredWith a (fun r => { r with rxBase := (s.src1 a).toNat, rxWr := 0, rxRd := 0 }) id else s.traps a fIllegal) := by
  rw [execCsrw, execIssue_canIssue h]
  simp only [issueNow_w, issueNow_k, issueNow_v1, hw, issued_rxOk, issued_rxLen, faultAt_issued]
  rw [retire_modRill]
  exact fun _ => rfl

/-- CSRW of RX_LEN likewise. -/
theorem csrw_rxLen (h : s.canIssue a 0x81 = true) (hw : wf (s.wordNow a) 0 12 = 0x009) : execCsrw a s = .next
    (if (s.src1 a).toNat % 64 = 0 ∧ (s.rill (slotK a)).rxOk (s.rill (slotK a)).rxBase (s.src1 a).toNat = true
      then s.retiredWith a (fun r => { r with rxLen := (s.src1 a).toNat, rxWr := 0, rxRd := 0 }) id else s.traps a fIllegal) := by
  rw [execCsrw, execIssue_canIssue h]
  simp only [issueNow_w, issueNow_k, issueNow_v1, hw, issued_rxOk, issued_rxBase, faultAt_issued]
  rw [retire_modRill]
  exact fun _ => rfl

/-- CSRW of any other number. -/
theorem csrw_unlisted (h : s.canIssue a 0x81 = true) (h5 : wf (s.wordNow a) 0 12 ≠ 0x005) (h8 : wf (s.wordNow a) 0 12 ≠ 0x008)
    (h9 : wf (s.wordNow a) 0 12 ≠ 0x009) (hE : wf (s.wordNow a) 0 12 ≠ 0x00E) : execCsrw a s = .next (s.traps a fIllegal) := by
  rw [execCsrw, execIssue_canIssue h]
  simp only [issueNow_w, faultAt_issued]

end

/-- A receive ring that holds a message may not be set. -/
theorem rxOk_of_message {r : Rill} (h : r.rx ≠ []) (b l : Nat) : r.rxOk b l = false := by
  simp [Rill.rxOk, List.isEmpty_eq_false_iff.2 h]

/-- Settles O20: ownership goes by the mask as a whole; a control register is given, written, or refused with ILLEGAL. -/
theorem ownershipAndControlRegisters : Obligations.OwnershipAndControlRegisters := by
  refine ⟨fun s a h ho => (exec_tclaim s a).trans (tclaim_takes h ho), fun s a h ho => (exec_tclaim s a).trans (tclaim_refuses h ho),
    fun s a h ho => (exec_tfree s a).trans (tfree_frees h ho), fun s a h ho => (exec_tfree s a).trans (tfree_faults h ho),
    fun s a v h hv => (exec_csrr s a).trans (csrr_gives h hv), fun s a h hn => (exec_csrr s a).trans (csrr_unlisted h hn),
    fun s a h hw => (exec_csrw s a).trans (csrw_event h hw), fun s a h hw => (exec_csrw s a).trans (csrw_taskWd h hw),
    fun s a h hw hm hb hr => ?_, fun s a h hw hm hr => ?_, fun s a h hw hx => ?_,
    fun s a h h5 h8 h9 hE => (exec_csrw s a).trans (csrw_unlisted h h5 h8 h9 hE)⟩
  · rw [exec_csrw, csrw_rxBase h hw, if_pos ⟨hm, hb, hr⟩]
  · rw [exec_csrw, csrw_rxLen h hw, if_pos ⟨hm, hr⟩]
  · rcases hw with hw | hw
    · rw [exec_csrw, csrw_rxBase h hw, if_neg (by simp [rxOk_of_message hx])]
    · rw [exec_csrw, csrw_rxLen h hw, if_neg (by simp [rxOk_of_message hx])]

/-! ### The receive ring's registers (R30) -/

/-- When R30 allows a base and a length, its form aside. -/
theorem rxOk_iff (r : Rill) (b l : Nat) : r.rxOk b l = true ↔
    r.rx = [] ∧ b + l ≤ 0xC000 ∧ (l = 0 ∨ ¬ ∃ g ∈ r.ringsOf none, 0 < g.2 ∧ b < g.1 + g.2 ∧ g.1 < b + l) := by
  have hover : ∀ g : Nat × Nat, l ≠ 0 → (overlaps b l g.1 g.2 = true ↔ 0 < g.2 ∧ b < g.1 + g.2 ∧ g.1 < b + l) := by
    intro g hl
    simp only [overlaps, Bool.and_eq_true, decide_eq_true_eq]
    omega
  simp only [Rill.rxOk, Bool.and_eq_true, List.isEmpty_iff, decide_eq_true_eq, Bool.or_eq_true, beq_iff_eq, Bool.not_eq_true',
    ← Bool.not_eq_true, List.any_eq_true, and_assoc]
  by_cases hl : l = 0
  · simp [hl]
  · simp only [hl, false_or, hover _ hl]

/-- What a write of the receive ring's registers leaves of the state. -/
theorem retiredWith_parts (s : State) (a : SlotId) (g : Rill → Rill) (f : Slot → Slot) :
    (s.retiredWith a g f).rill (slotK a) = (g ((s.issued a).rill (slotK a))).setSlot a.slot
      { f ((s.issued a).slotNow a) with pc := (s.slotNow a).pc + 8, lastRetire := (s.issued a).clk.cycle } ∧
    (s.retiredWith a g f).store = s.store ∧ (s.retiredWith a g f).regs = s.regs := by
  refine ⟨State.rill_setRill _ _ _, issued_store s a, ?_⟩
  simp only [State.retiredWith, State.placed, State.placedIn, State.setRill_regs, State.issued, State.touchIssue, State.modRill, State.atCycle]
  split <;> rfl

/-- Settles O60: the model's test of R30 is the list of its cases, so a write faults in exactly those. -/
theorem receiveRingWrites : Obligations.ReceiveRingWrites := by
  refine ⟨fun s a h hw bad => ?_, fun s a h hw bad => ?_, fun s a h hw _ hx hm hb hs hg => ?_, fun s a h hw _ _ hx hm hs hg => ?_,
    fun s a g h hw hg hg2 hv hlo hhi => ?_⟩
  · rw [exec_csrw, csrw_rxBase h hw, if_neg]
    rw [rxOk_iff]
    rintro ⟨hm, hb, hx, hs, hg⟩
    rcases bad with bad | bad | bad | bad | ⟨hl, bad⟩
    · exact bad hx
    · exact bad hm
    · omega
    · omega
    · exact hg.elim hl (fun hg => hg bad)
  · rw [exec_csrw, csrw_rxLen h hw, if_neg]
    rw [rxOk_iff]
    rintro ⟨hm, hx, hs, hg⟩
    rcases bad with bad | bad | bad | ⟨hl, bad⟩
    · exact bad hx
    · exact bad hm
    · omega
    · exact hg.elim hl (fun hg => hg bad)
  · obtain ⟨hr, hst, hrg⟩ := retiredWith_parts s a (fun r => { r with rxBase := (s.src1 a).toNat, rxWr := 0, rxRd := 0 }) id
    refine ⟨_, ?_, ?_, ?_, ?_, hst, hrg⟩
    · rw [exec_csrw, csrw_rxBase h hw, if_pos ⟨hm, hb, (rxOk_iff _ _ _).2 ⟨hx, hs, hg⟩⟩]
    · rw [hr]; rfl
    · rw [hr]; exact issued_rxLen s a
    · rw [State.slotNow, hr, Rill.slot_setSlot]
  · obtain ⟨hr, hst, hrg⟩ := retiredWith_parts s a (fun r => { r with rxLen := (s.src1 a).toNat, rxWr := 0, rxRd := 0 }) id
    refine ⟨_, ?_, ?_, ?_, ?_, hst, hrg⟩
    · rw [exec_csrw, csrw_rxLen h hw, if_pos ⟨hm, (rxOk_iff _ _ _).2 ⟨hx, hs, hg⟩⟩]
    · rw [hr]; rfl
    · rw [hr]; exact issued_rxBase s a
    · rw [State.slotNow, hr, Rill.slot_setSlot]
  · rw [exec_csrw, csrw_rxLen h hw, if_neg]
    rw [rxOk_iff]
    rintro ⟨-, -, -, hl | hn⟩
    · omega
    · exact hn ⟨g, hg, hg2, hlo, hhi⟩

/-! ### Messages (R41, R50, R51) -/

theorem fresh_storeRead (s : State) (k x n : Nat) : s.fresh.2.storeRead k x n = s.storeRead k x n := rfl
theorem fresh_storePois (s : State) (k x n : Nat) : s.fresh.2.storePois k x n = s.storePois k x n := rfl
theorem issued_storeRead (s : State) (a : SlotId) (k x n : Nat) : (s.issued a).storeRead k x n = s.storeRead k x n := by
  simp only [State.storeRead, issued_store]
theorem issued_storePois (s : State) (a : SlotId) (k x n : Nat) : (s.issued a).storePois k x n = s.storePois k x n := by
  simp only [State.storePois, issued_storePoison]
theorem issueNow_dest (s : State) (a : SlotId) : (s.issueNow a).x.greg (gdOf (s.wordNow a)) = s.destNow a := rfl

section
variable {s : State} {a : SlotId}

/-- The MSG that a SEND becomes, in the state in which it has issued. -/
def State.sendPacket (s : State) (a : SlotId) : Packet :=
  { (s.issued a).fresh.2.slotPacket (slotK a) a.slot with dcol := wf (s.wordNow a) 0 11, drow := wf (s.wordNow a) 16 10, kind := 5, ackReq := true, len := (s.src2 a).toNat % 0x2000, payload := s.storeRead (slotK a) (s.src1 a).toNat ((s.src2 a).toNat % 0x2000), poison := s.storePois (slotK a) (s.src1 a).toNat ((s.src2 a).toNat % 0x2000), tag := (s.destNow a).toNat % 0x10000, xid := (s.issued a).fresh.1 }

/-- SEND with good operands and a route: the packet is on its way and its acknowledgement outstanding. -/
theorem execSend_sends {u : State} (h : s.canIssue a 0x75 = true)
    (hf : sendFault (s.src1 a) ((s.src2 a).toNat % 0x2000) (wf (s.wordNow a) 0 11) (wf (s.wordNow a) 16 10) = none)
    (hu : ((s.issued a).fresh.2).inject? (s.sendPacket a) = some u) :
    execSend a s = .next (u.retiredIn a (fun x => { x with acks := x.acks ++ [(s.issued a).fresh.1] })) := by
  simp only [State.sendPacket] at hu
  rw [execSend, execIssue_canIssue h]
  simp only [issueNow_w, issueNow_v1, issueNow_v2, issueNow_k, issueNow_n, hf, fresh_storeRead, fresh_storePois, issued_storeRead,
    issued_storePois, issueNow_dest, hu, retire_in]

/-- SEND with good operands and no route left: the slot faults. -/
theorem execSend_unreachable (h : s.canIssue a 0x75 = true)
    (hf : sendFault (s.src1 a) ((s.src2 a).toNat % 0x2000) (wf (s.wordNow a) 0 11) (wf (s.wordNow a) 16 10) = none)
    (hu : ((s.issued a).fresh.2).inject? (s.sendPacket a) = none) :
    execSend a s = .next ((((s.issued a).fresh.2).unreachable (s.sendPacket a)).slotFault (slotK a) a.slot fAddr) := by
  simp only [State.sendPacket] at hu ⊢
  rw [execSend, execIssue_canIssue h]
  simp only [issueNow_w, issueNow_v1, issueNow_v2, issueNow_k, issueNow_n, hf, fresh_storeRead, fresh_storePois, issued_storeRead,
    issued_storePois, issueNow_dest, hu, State.faultAt]

theorem execSend_faults {f : Nat} (h : s.canIssue a 0x75 = true)
    (hf : sendFault (s.src1 a) ((s.src2 a).toNat % 0x2000) (wf (s.wordNow a) 0 11) (wf (s.wordNow a) 16 10) = some f) :
    execSend a s = .next (s.traps a f) := by
  rw [execSend, execIssue_canIssue h]
  simp only [issueNow_w, issueNow_v1, issueNow_v2, hf, faultAt_issued]

/-- RECV with a message to give. -/
theorem execRecv_gives {v : W64} {r : Rill} (h : s.canIssue a 0x76 = true)
    (hr : ((s.issued a).rill (slotK a)).recv a.slot (wf (s.wordNow a) 0 16) = some (v, r)) :
    execRecv a s = .next (((s.issued a).setRill (slotK a) r).retiredIn a (fun x => x.setG (gdOf (s.wordNow a)) v)) := by
  rw [execRecv, execIssue_canIssue h]
  simp only [issueNow_k, issueNow_n, issueNow_w, hr, retire_in]

/-- Whether RECV has a message to give hangs on the receive ring alone. -/
theorem recv_eq_none_iff (r : Rill) (n tag : Nat) : r.recv n tag = none ↔
    r.rx.find? (fun e => !e.pad && !e.freed && e.holder.isNone && (tag == 0xFFFF || e.tag == tag)) = none := by
  unfold Rill.recv
  generalize r.rx.find? _ = found
  cases found <;> simp

/-- RECV with none. -/
theorem execRecv_waits (h : s.canIssue a 0x76 = true) (hr : (s.rill (slotK a)).recv a.slot (wf (s.wordNow a) 0 16) = none) :
    execRecv a s = .next (s.waits a (.recv (wf (s.wordNow a) 0 16) (gdOf (s.wordNow a)))) := by
  have hr' : ((s.issued a).rill (slotK a)).recv a.slot (wf (s.wordNow a) 0 16) = none := by
    rw [recv_eq_none_iff] at hr ⊢
    rwa [issued_rx]
  rw [execRecv, execIssue_canIssue h]
  simp only [issueNow_k, issueNow_n, issueNow_w, hr', waitOn_issued]

/-- MFREE of an entry that the slot obtained. -/
theorem execMfree_frees (h : s.canIssue a 0x77 = true)
    (hm : (s.rill (slotK a)).rx.any (fun e => !e.pad && !e.freed && e.off == (s.src1 a).toNat % 0x10000 * 64 && e.holder == some a.slot) = true) :
    execMfree a s = .next (s.retiredWith a (fun r => r.rxFree (fun e => !e.pad && !e.freed && e.off == (s.src1 a).toNat % 0x10000 * 64 && e.holder == some a.slot)) id) := by
  rw [execMfree, execIssue_canIssue h]
  simp only [issueNow_k, issueNow_n, issueNow_v1, issued_rx, hm, if_true]
  rw [retire_modRill]
  exact fun r => congrArg (look Slot.init · a.slot) (rxFree_slots r _)

/-- MFREE of any other. -/
theorem execMfree_faults (h : s.canIssue a 0x77 = true)
    (hm : (s.rill (slotK a)).rx.any (fun e => !e.pad && !e.freed && e.off == (s.src1 a).toNat % 0x10000 * 64 && e.holder == some a.slot) = false) :
    execMfree a s = .next (s.traps a fIllegal) := by
  rw [execMfree, execIssue_canIssue h]
  simp only [issueNow_k, issueNow_n, issueNow_v1, issued_rx, hm, Bool.false_eq_true, if_false, faultAt_issued]

end

/-- Settles O25: SEND by its operands and its route, RECV and MFREE by what the receive ring holds. -/
theorem messageInstructions : Obligations.MessageInstructions := by
  exact ⟨fun s a u h hf hu => (exec_send s a).trans (execSend_sends h hf hu),
    fun s a h hf hu => (exec_send s a).trans (execSend_unreachable h hf hu),
    fun s a f h hf => (exec_send s a).trans (execSend_faults h hf),
    fun s a v r h hr => (exec_recv s a).trans (execRecv_gives h hr), fun s a h hr => (exec_recv s a).trans (execRecv_waits h hr),
    fun s a h hm => (exec_mfree s a).trans (execMfree_frees h hm), fun s a h hm => (exec_mfree s a).trans (execMfree_faults h hm)⟩

/-! ### The units (R34, R86, R89) -/

/-- The operation that an issue puts into its unit is the one that the statements name. -/
theorem execUnit_tensor {s : State} {a : SlotId} {op : Nat} (h : s.canIssue a op = true) (hu : unitOf op = some true) :
    execUnit op a s = .next (s.retiredWith a (fun r => { r with tensorQ := r.tensorQ ++ [s.unitOpNow a] }) (s.drawn a)) := by
  rw [execUnit, execIssue_canIssue h]
  simp only [issueNow_k, issueNow_n, issueNow_x, issueNow_w, hu, if_true, issued_rillStep]
  rw [retire_modRill]
  · rfl
  · exact fun _ => rfl

theorem execUnit_vector {s : State} {a : SlotId} {op : Nat} (h : s.canIssue a op = true) (hu : unitOf op = some false) :
    execUnit op a s = .next (s.retiredWith a (fun r => { r with vectorQ := r.vectorQ ++ [s.unitOpNow a] }) (s.drawn a)) := by
  rw [execUnit, execIssue_canIssue h]
  simp only [issueNow_k, issueNow_n, issueNow_x, issueNow_w, hu, Option.some.injEq, Bool.false_eq_true, if_false, issued_rillStep]
  rw [retire_modRill]
  · rfl
  · exact fun _ => rfl

/-- Settles O22: every operation of a unit issues alike; its opcode says which unit. -/
theorem unitInstructionsIssue : Obligations.UnitInstructionsIssue :=
  ⟨fun s a h => (exec_tmma s a).trans (execUnit_tensor h rfl), fun s a h => (exec_tmmas s a).trans (execUnit_tensor h rfl),
    fun s a h => (exec_tcvt s a).trans (execUnit_vector h rfl), fun s a h => (exec_vadd s a).trans (execUnit_vector h rfl),
    fun s a h => (exec_vmul s a).trans (execUnit_vector h rfl), fun s a h => (exec_vmax s a).trans (execUnit_vector h rfl),
    fun s a h => (exec_vfma s a).trans (execUnit_vector h rfl), fun s a h => (exec_vexp2 s a).trans (execUnit_vector h rfl),
    fun s a h => (exec_vrcp s a).trans (execUnit_vector h rfl), fun s a h => (exec_vrsqrt s a).trans (execUnit_vector h rfl),
    fun s a h => (exec_vredadd s a).trans (execUnit_vector h rfl), fun s a h => (exec_vredmax s a).trans (execUnit_vector h rfl),
    fun s a h => (exec_vbcast s a).trans (execUnit_vector h rfl)⟩

end Sys2Proof.Machine
end

section
/-! Bad fetches and the watchdogs (R26, R38, R53 to R56). -/

namespace Sys2Proof.Machine

/-! ### Faults before any effect (R25, R26, R38) -/

/-- Every command in which a slot issues an instruction goes through the pipeline with its opcode. -/
theorem rillOps_issue : ∀ e ∈ rillOps, ∃ f : Issue → State → State, ∀ a s, exec (e.2 a) s = execIssue e.1 a s f := by
  simp only [rillOps, List.cons_append, List.nil_append, List.forall_mem_cons]
  refine ⟨⟨_, fun a s => (exec_add s a).trans (Eq.refl (execG ..))⟩, ⟨_, fun a s => (exec_sub s a).trans (Eq.refl (execG ..))⟩,
    ⟨_, fun a s => (exec_and s a).trans (Eq.refl (execG ..))⟩, ⟨_, fun a s => (exec_or s a).trans (Eq.refl (execG ..))⟩,
    ⟨_, fun a s => (exec_xor s a).trans (Eq.refl (execG ..))⟩, ⟨_, fun a s => (exec_shl s a).trans (Eq.refl (execG ..))⟩,
    ⟨_, fun a s => (exec_shr s a).trans (Eq.refl (execG ..))⟩, ⟨_, fun a s => (exec_sra s a).trans (Eq.refl (execG ..))⟩,
    ⟨_, fun a s => (exec_mul s a).trans (Eq.refl (execG ..))⟩, ⟨_, fun a s => (exec_mulhu s a).trans (Eq.refl (execG ..))⟩,
    ⟨_, fun a s => (exec_cmpeq s a).trans (Eq.refl (execG ..))⟩, ⟨_, fun a s => (exec_cmplt s a).trans (Eq.refl (execG ..))⟩,
    ⟨_, fun a s => (exec_cmpltu s a).trans (Eq.refl (execG ..))⟩, ?immediate⟩
  refine ⟨⟨_, fun a s => (exec_addi s a).trans (Eq.refl (execG ..))⟩, ⟨_, fun a s => (exec_andi s a).trans (Eq.refl (execG ..))⟩,
    ⟨_, fun a s => (exec_ori s a).trans (Eq.refl (execG ..))⟩, ⟨_, fun a s => (exec_xori s a).trans (Eq.refl (execG ..))⟩,
    ⟨_, fun a s => (exec_shli s a).trans (Eq.refl (execG ..))⟩, ⟨_, fun a s => (exec_shri s a).trans (Eq.refl (execG ..))⟩,
    ⟨_, fun a s => (exec_movi s a).trans (Eq.refl (execG ..))⟩, ⟨_, fun a s => (exec_movhi s a).trans (Eq.refl (execG ..))⟩, ?memory⟩
  refine ⟨⟨_, fun a s => (exec_ld8 s a).trans (Eq.refl (execLoad ..))⟩, ⟨_, fun a s => (exec_ld32 s a).trans (Eq.refl (execLoad ..))⟩,
    ⟨_, fun a s => (exec_ld64 s a).trans (Eq.refl (execLoad ..))⟩, ⟨_, fun a s => (exec_st8 s a).trans (Eq.refl (execStore ..))⟩,
    ⟨_, fun a s => (exec_st32 s a).trans (Eq.refl (execStore ..))⟩, ⟨_, fun a s => (exec_st64 s a).trans (Eq.refl (execStore ..))⟩,
    ⟨_, fun a s => exec_ldp64 s a⟩, ⟨_, fun a s => exec_stp64 s a⟩, ⟨_, fun a s => (exec_amoadd s a).trans (Eq.refl (execAmo ..))⟩,
    ⟨_, fun a s => (exec_amoswap s a).trans (Eq.refl (execAmo ..))⟩, ?jumps⟩
  refine ⟨⟨_, fun a s => exec_j s a⟩, ⟨_, fun a s => exec_jr s a⟩, ⟨_, fun a s => exec_call s a⟩,
    ⟨_, fun a s => (exec_beq s a).trans (Eq.refl (execBranch ..))⟩, ⟨_, fun a s => (exec_bne s a).trans (Eq.refl (execBranch ..))⟩,
    ⟨_, fun a s => (exec_blt s a).trans (Eq.refl (execBranch ..))⟩, ⟨_, fun a s => (exec_bltu s a).trans (Eq.refl (execBranch ..))⟩, ?tasks⟩
  refine ⟨⟨_, fun a s => exec_spawn s a⟩, ⟨_, fun a s => exec_exit s a⟩, ⟨_, fun a s => exec_yieldOp s a⟩, ⟨_, fun a s => exec_waitev s a⟩,
    ⟨_, fun a s => exec_signal s a⟩, ⟨_, fun a s => exec_tclaim s a⟩, ⟨_, fun a s => exec_tfree s a⟩, ⟨_, fun a s => exec_fence s a⟩, ?tensor⟩
  refine ⟨⟨_, fun a s => exec_tld s a⟩, ⟨_, fun a s => exec_tst s a⟩, ⟨_, fun a s => exec_tzero s a⟩,
    ⟨_, fun a s => (exec_tmma s a).trans (Eq.refl (execUnit ..))⟩, ⟨_, fun a s => (exec_tmmas s a).trans (Eq.refl (execUnit ..))⟩,
    ⟨_, fun a s => (exec_tcvt s a).trans (Eq.refl (execUnit ..))⟩, ?vector⟩
  refine ⟨⟨_, fun a s => (exec_vadd s a).trans (Eq.refl (execUnit ..))⟩, ⟨_, fun a s => (exec_vmul s a).trans (Eq.refl (execUnit ..))⟩,
    ⟨_, fun a s => (exec_vmax s a).trans (Eq.refl (execUnit ..))⟩, ⟨_, fun a s => (exec_vfma s a).trans (Eq.refl (execUnit ..))⟩,
    ⟨_, fun a s => (exec_vexp2 s a).trans (Eq.refl (execUnit ..))⟩, ⟨_, fun a s => (exec_vrcp s a).trans (Eq.refl (execUnit ..))⟩,
    ⟨_, fun a s => (exec_vrsqrt s a).trans (Eq.refl (execUnit ..))⟩, ⟨_, fun a s => (exec_vredadd s a).trans (Eq.refl (execUnit ..))⟩,
    ⟨_, fun a s => (exec_vredmax s a).trans (Eq.refl (execUnit ..))⟩, ⟨_, fun a s => (exec_vbcast s a).trans (Eq.refl (execUnit ..))⟩, ?streams⟩
  refine ⟨⟨_, fun a s => exec_sarm s a⟩, ⟨_, fun a s => exec_srearm s a⟩, ⟨_, fun a s => exec_sstop s a⟩, ⟨_, fun a s => exec_racq s a⟩,
    ⟨_, fun a s => exec_rrel s a⟩, ⟨_, fun a s => exec_send s a⟩, ⟨_, fun a s => exec_recv s a⟩, ⟨_, fun a s => exec_mfree s a⟩, ?control⟩
  exact ⟨⟨_, fun a s => exec_csrr s a⟩, ⟨_, fun a s => exec_csrw s a⟩, ⟨_, fun a s => exec_trap s a⟩, ⟨_, fun a s => exec_nop s a⟩,
    fun _ h => nomatch h⟩

/-- A legal word that names a tensor register which the slot does not own faults with TREG_OWNER. -/
theorem execIssue_treg {s : State} {a : SlotId} {op t : Nat} (h : slotOk a = true) (k : s.eligible a op = true)
    (w : legalWord (s.wordNow a) = true) (ht : t ∈ tregsOf (s.wordNow a)) (ho : (s.rill (slotK a)).owner t ≠ a.slot)
    (f : Issue → State → State) : execIssue op a s f = .next (s.traps a fTreg) := by
  have hany : (tregsOf (s.wordNow a)).any (fun t => (s.rill (slotK a)).owner t != a.slot) = true :=
    List.any_eq_true.2 ⟨t, ht, bne_iff_ne.2 ho⟩
  unfold execIssue
  rw [onUnit_next s _ h k]
  simp only [State.wordNow, State.slotNow] at w hany
  simp only [w, hany, Bool.not_true, Bool.false_eq_true, if_false, if_true]
  rfl

/-! ### The rill watchdog (R53) -/

theorem rcol_ridx {col row : Nat} (h : inGrid col row = true) : rcol (ridx col row) = col := by
  simp only [inGrid, Bool.and_eq_true, decide_eq_true_eq] at h
  simp only [rcol, ridx]
  omega

theorem rrow_ridx {col row : Nat} (h : inGrid col row = true) : rrow (ridx col row) = row := by
  simp only [inGrid, Bool.and_eq_true, decide_eq_true_eq] at h
  simp only [rrow, ridx]
  omega

/-- The least of a start and of the values of a list is no more than each value. -/
theorem foldl_min_le {α : Type} (f : α → Nat) (l : List α) (t : Nat) {m : α} (h : m ∈ l) : l.foldl (fun t m => min t (f m)) t ≤ f m := by
  have start : ∀ (l : List α) (t : Nat), l.foldl (fun t m => min t (f m)) t ≤ t := by
    intro l
    induction l with
    | nil => exact fun _ => Nat.le_refl _
    | cons x l ih => exact fun t => Nat.le_trans (ih _) (Nat.min_le_left _ _)
  induction l generalizing t with
  | nil => cases h
  | cons x l ih =>
    rcases List.mem_cons.1 h with rfl | h
    · exact Nat.le_trans (start l _) (Nat.min_le_right _ _)
    · exact ih _ h

/-- The rill watchdog counts at least the cycles in which a slot that throttling does not bear on was eligible. -/
theorem wdCount_ge (s : State) (k n : Nat) (hn : n < 16) (ho : s.open' ⟨rcol k, rrow k, n⟩ = true)
    (ht : s.throttled ⟨rcol k, rrow k, n⟩ = false) :
    (s.rill k).wd.2 + (s.clk.cycle - max (s.rill k).wd.1 (s.eligibleSince k n)) ≤ s.wdCount k := by
  have hmem : n ∈ ((List.range 16).filter (fun m => s.open' ⟨rcol k, rrow k, m⟩)).filter (fun m => !s.throttled ⟨rcol k, rrow k, m⟩) :=
    List.mem_filter.2 ⟨List.mem_filter.2 ⟨List.mem_range.2 hn, ho⟩, by simp [ht]⟩
  have hle := foldl_min_le (s.eligibleSince k) _ s.clk.cycle hmem
  exact Nat.le_trans (Nat.add_le_add_left (Nat.sub_le_sub_left (max_le_max (Nat.le_refl _) hle) _) _) (Nat.le_add_right _ _)

/-- Settles O26: a bad word or fetch faults where the slot issues; each watchdog fires where its count has run out. -/
theorem watchdogsAndBadFetches : Obligations.WatchdogsAndBadFetches := by
  refine ⟨fun s a ok hi hf hw => ?_, fun s a op c hc ok he hw => ?_, fun s a op c t hc ok he hw ht ho => ?_, fun s a f ok hi hf => ?_,
    fun s a c ok al hs hl hk hy => ?_, fun s p hp al hc => ?_, fun s p n hp al hn ho ht hc => ?_⟩
  · rw [exec_undefinedOpcode, execUndefinedOpcode]
    simp only [State.wordNow, State.slotNow] at hf hw
    exact onUnit_next s _ ok (by simp only [hi, hf, State.instrAt, hw, Option.isNone_none, Bool.and_self])
  · obtain ⟨f, hf⟩ := rillOps_issue _ hc
    rw [hf, execIssue_illegal ok he hw]
  · obtain ⟨f, hf⟩ := rillOps_issue _ hc
    rw [hf, execIssue_treg ok he hw ht ho]
  · rw [exec_instructionFetchFault, execInstructionFetchFault]
    simp only [State.slotNow] at hf
    rw [onUnit_next s _ ok (by simp only [hi, hf, Option.isSome_some, Bool.and_self]), hf]
    rfl
  · have hst : (((s.rill (slotK a)).slot a.slot).st == .ready || ((s.rill (slotK a)).slot a.slot).st == .waiting) = true := by
      simpa [State.slotNow] using hs
    have hyield : (match ((s.rill (slotK a)).slot a.slot).wait with
        | .yield u => decide (u ≤ max c s.clk.cycle)
        | _ => false) = false := by
      split
      · exact decide_eq_false (Nat.not_le.2 (hy _ ‹_›))
      · rfl
    simp only [State.slotNow] at hl
    rw [exec_taskWdExpiry, execTaskWdExpiry]
    refine onUnit_next s _ ok ?_
    rw [hst, decide_eq_true hl, al, hk]
    exact congrArg (!·) hyield
  · rw [exec_rillWdExpiry, execRillWdExpiry]
    exact onUnit_next s _ hp (by rw [al, decide_eq_true hc]; rfl)
  · have hge := wdCount_ge s (ridx p.col p.row) n hn (by rwa [rcol_ridx hp, rrow_ridx hp]) (by rwa [rcol_ridx hp, rrow_ridx hp])
    have hc' : 16384 ≤ s.wdCount (ridx p.col p.row) := by omega
    rw [exec_rillWdExpiry, execRillWdExpiry]
    exact onUnit_next s _ hp (by rw [al, decide_eq_true hc']; rfl)

end Sys2Proof.Machine
end

section
/-! The reset state, and the residue check of ballast work. -/

namespace Sys2Proof.Machine

/-! ### Reset (R23) -/

@[simp] theorem initSlot_greg (g : Nat) : Slot.init.greg g = 0 := by
  unfold Slot.greg
  split <;> rfl

/-- Settles O9: the reset state's memories, maps and queues are empty, and the page states are read off its registers. -/
theorem resetValues : Obligations.ResetValues := by
  have pages : (∀ p, p < 32 → State.reset.pst clsPort p = stOff) ∧ (∀ l, l < 76 → State.reset.pst clsLink l = stOff) ∧
      (∀ p, p < 24 → State.reset.pst clsStack p = stOff) ∧ (∀ p, p < 252 → State.reset.pst clsPitch p = stOff) ∧
      (∀ x, x < 17 → State.reset.pst clsXl x = stOff ∧ State.reset.pst clsCe x = stOff) := by decide +kernel
  have stage : State.reset.stage = 0 := by decide +kernel
  exact ⟨rfl, rfl, rfl, rfl, rfl, fun _ => ⟨rfl, rfl, rfl, rfl, rfl⟩, rfl, rfl, rfl, fun _ => rfl,
    fun _ _ g => ⟨rfl, rfl, rfl, initSlot_greg g, rfl, rfl, rfl, rfl, rfl, rfl, rfl, rfl⟩, stage, pages⟩

/-! ### Ballast (R421) -/

/-- A module whose first pitch is ON while BALLAST_EN is 0. -/
def ballastOff : State := (State.reset.setPst clsPitch 0 stOn).setB (aWeir 0x100) 2 false

/-- No ballast runs there, so no ballast work can fail its check. -/
theorem ballastOff_unchanged : exec (.unitOpComplete ⟨0, 0⟩ .ballast 0 (some (.copies 0 1)) 0) ballastOff = .next ballastOff := by
  have off : (ballastOff.alive (ridx 0 0) && ballastOff.isOn clsPitch (pitchOf 0 0) && ballastOff.regB (aWeir 0x100) 2) = false := by
    decide +kernel
  have found : (some (Upset.copies 0 1)).bind (fun u => failedCheck u (ballastCheck u)) = some ⟨3, 0, 1⟩ := by decide
  rw [exec_unitOpComplete, execUnitOpComplete]
  simp only [found, onUnit, off, Bool.and_false, Bool.false_eq_true, if_false]

/-- Refutes O23: its clause on ballast work asks that the pitch is ON, not that BALLAST_EN is 1. Where it is 0 no ballast runs (R421) and the model
leaves the state as it is, while the clause has the rill record a failure. -/
theorem not_unitOperationCompletes : ¬ Obligations.UnitOperationCompletes := by
  intro h
  obtain ⟨-, -, -, -, -, -, -, -, -, -, -, ballast, -⟩ := h
  have fails := ballast ballastOff ⟨0, 0⟩ 0 (.copies 0 1) ⟨3, 0, 1⟩ 0 (by decide) (by decide) (by decide +kernel) (by decide +kernel) (by decide)
  rw [ballastOff_unchanged, Host.Outcome.next.injEq] at fails
  have counted : (((ballastOff.atTime 0).ballastFail (ridx 0 0) ⟨3, 0, 1⟩).rill 0).ballastFails ≠ (ballastOff.rill 0).ballastFails := by
    decide +kernel
  exact counted (congrArg (fun t => (t.rill 0).ballastFails) fails).symm

end Sys2Proof.Machine
end

section
/-! Packets at rills (R45 to R52) and the answers that reach them (R46, R130, R146, R164). -/

namespace Sys2Proof.Machine

/-! ### What a unit does with a packet that has come to it (R47, R115) -/

section
variable {s : State} {i kind : Nat} {pool : Bool} {p : Packet} {f : Packet → State → State}

/-- The parts of a packet's being taken in and served. -/
theorem unitGets_parts (h : s.unitGets i kind pool p = true) : s.arrives? i kind pool = some p ∧ p.abort = false ∧ s.unitCheck p = none := by
  simpa [State.unitGets, and_assoc] using h

/-- The same at a rill. -/
theorem rillGets_parts (h : s.rillGets i kind p = true) : s.unitGets i kind false p = true ∧ p.edge = false := by
  simpa [State.rillGets] using h

/-- A packet that passes every check has the effect of its row. -/
theorem packetRow_serves (h : s.unitGets i kind pool p = true) : s.packetRow i kind pool f = .next (f p (s.takePacket i p)) := by
  obtain ⟨ha, hab, hc⟩ := unitGets_parts h
  rw [State.packetRow, whenSome_next s _ ha, takes_passes s i p _ hab hc]

/-- At a rill. -/
theorem packetRow_rillGets (h : s.rillGets i kind p = true) : s.packetRow i kind false f = .next (f p (s.takePacket i p)) :=
  packetRow_serves (rillGets_parts h).1

/-- One that fails a check is rejected under the first. -/
theorem packetRow_rejects {e : Option Nat} (h : s.arrives? i kind pool = some p) (hab : p.abort = false) (hc : s.unitCheck p = some e) :
    s.packetRow i kind pool f = .next ((s.takePacket i p).rejectPacket p p.dstUnit.1 p.dstUnit.2 e) := by
  rw [State.packetRow, whenSome_next s _ h, takes_fails s i p _ hab hc]

/-- One with ABORT is discarded and counted. -/
theorem packetRow_aborts (h : s.arrives? i kind pool = some p) (hab : p.abort = true) :
    s.packetRow i kind pool f = .next ((s.takePacket i p).fabInc (reachOf p.exit.1 p.exit.2) 0x440) := by
  rw [State.packetRow, whenSome_next s _ h]
  simp only [State.takes, hab, if_true]

end

/-! ### WRITE and READ at a rill (R45, R48) -/

section
variable {s : State} {i : Nat} {p : Packet}

/-- What WRITE does at a rill. -/
theorem write_serves (h : s.rillGets i 1 p = true) : exec (.write i) s = .next
    (if p.ackReq = true then ((s.takePacket i p).storeWrite p.rillIdx p.addr (p.payload.take p.len) p.poison).inject (p.ack 0)
      else (s.takePacket i p).storeWrite p.rillIdx p.addr (p.payload.take p.len) p.poison) :=
  (exec_write s i).trans (packetRow_rillGets h)

/-- What READ answers. -/
theorem read_serves (h : s.rillGets i 2 p = true) : exec (.read i) s =
    .next ((s.takePacket i p).inject (p.readData (s.storeRead p.rillIdx p.addr p.len) (s.storePois p.rillIdx p.addr p.len))) := by
  have pois : (s.takePacket i p).storePoison = s.storePoison :=
    takePacket_part State.storePoison (fun _ _ _ => rfl) (fun _ _ _ => rfl) (fun _ _ => rfl) s i p
  rw [exec_read, execRead, packetRow_rillGets h]
  simp only [State.storeRead, State.storePois, takePacket_store, pois, Packet.rillIdx]

@[simp] theorem takePacket_host (s : State) (i : Nat) (p : Packet) : (s.takePacket i p).host = s.host :=
  takePacket_part State.host (fun _ _ _ => rfl) (fun _ _ _ => rfl) (fun _ _ => rfl) s i p

/-- An answer injected leaves the memories. -/
theorem inject_memories (s : State) (p : Packet) :
    (s.inject p).store = s.store ∧ (s.inject p).pool = s.pool ∧ (s.inject p).stack = s.stack ∧ (s.inject p).host = s.host :=
  have k := State.inject_kept s p
  ⟨k.get 6, k.get 7, k.get 8, k.get 9⟩

/-- The memories that WRITE leaves, acknowledged or not. -/
theorem write_memories {t : State} (h : s.rillGets i 1 p = true) (ht : exec (.write i) s = .next t) :
    t.store = writeBytes s.store (sbase p.rillIdx + p.addr) (p.payload.take p.len) ∧ t.pool = s.pool ∧ t.stack = s.stack ∧ t.host = s.host := by
  rw [write_serves h, Host.Outcome.next.injEq] at ht
  subst ht
  have written : ∀ u : State, u = (s.takePacket i p).storeWrite p.rillIdx p.addr (p.payload.take p.len) p.poison →
      u.store = writeBytes s.store (sbase p.rillIdx + p.addr) (p.payload.take p.len) ∧ u.pool = s.pool ∧ u.stack = s.stack ∧ u.host = s.host := by
    rintro u rfl
    exact ⟨congrArg (writeBytes · _ _) (takePacket_store s i p), takePacket_pool s i p, takePacket_stack s i p, takePacket_host s i p⟩
  split
  · obtain ⟨hst, hp, hk, hh⟩ := inject_memories ((s.takePacket i p).storeWrite p.rillIdx p.addr (p.payload.take p.len) p.poison) (p.ack 0)
    rw [hst, hp, hk, hh]
    exact written _ rfl
  · exact written _ rfl

/-! ### MSG at a rill (R49, R52) -/

/-- A MSG that fails a check does not wait. -/
theorem msgWaits_fails {e : Option Nat} (hc : s.unitCheck p = some e) : s.msgWaits p = false := by simp [State.msgWaits, hc]

/-- A MSG that passes every check waits where its entry could find room and finds none now. -/
theorem msgWaits_passes (hab : p.abort = false) (hc : s.unitCheck p = none) : s.msgWaits p =
    (decide (entrySize p.len ≤ (s.rill p.rillIdx).rxLen) && !(s.rill p.rillIdx).rxRoom (entrySize p.len)) := by
  simp only [State.msgWaits, hab, hc, Option.isNone_none, Bool.not_false, Bool.true_and]
  rfl

/-- What a MSG that passes every check does, of the ring and its length. -/
theorem msgArrives_serves (hab : p.abort = false) (hc : s.unitCheck p = none) : s.msgArrives i p =
    if (s.rill p.rillIdx).rxLen < entrySize p.len then (s.takePacket i p).rxNever p
    else if (s.rill p.rillIdx).rxRoom (entrySize p.len) = true then (s.takePacket i p).rxTake p.rillIdx p
    else { s with net := setAt s.net i { p with waits := true } } := by
  unfold State.msgArrives
  rw [msgWaits_passes hab hc, takes_passes s i p _ hab hc]
  simp only [takePacket_rill]
  by_cases never : (s.rill p.rillIdx).rxLen < entrySize p.len
  · have : ¬ entrySize p.len ≤ (s.rill p.rillIdx).rxLen := Nat.not_le.2 never
    simp only [this, never, decide_false, Bool.false_and, Bool.false_eq_true, if_false, if_true]
    exact if_pos never
  · have : entrySize p.len ≤ (s.rill p.rillIdx).rxLen := Nat.not_lt.1 never
    cases room : (s.rill p.rillIdx).rxRoom (entrySize p.len)
    · simp only [this, never, decide_true, Bool.not_false, Bool.and_self, if_true, if_false, Bool.false_eq_true]
    · simp only [this, never, decide_true, Bool.not_true, Bool.and_false, Bool.false_eq_true, if_false, if_true]
      exact if_neg never

/-- One that fails a check is rejected under the first. -/
theorem msgArrives_fails {e : Option Nat} (hab : p.abort = false) (hc : s.unitCheck p = some e) :
    s.msgArrives i p = (s.takePacket i p).rejectPacket p p.dstUnit.1 p.dstUnit.2 e := by
  unfold State.msgArrives
  rw [msgWaits_fails hc, takes_fails s i p _ hab hc]
  exact if_neg Bool.false_ne_true

theorem msg_rejects {e : Option Nat} (h : s.arrives? i 5 false = some p) (hab : p.abort = false) (hc : s.unitCheck p = some e) :
    exec (.msg i) s = .next ((s.takePacket i p).rejectPacket p p.dstUnit.1 p.dstUnit.2 e) := by
  rw [exec_msg, execMsg, whenSome_next s _ h, msgArrives_fails hab hc]

/-- HW_SEND looks at its endpoint's buffers before a tile that passes the checks, and at nothing else before it rejects one. -/
theorem hwSend_rejects {e : Option Nat} (h : s.arrives? i 0x24 false = some p) (hab : p.abort = false) (hc : s.unitCheck p = some e) :
    exec (.hwSend i) s = .next ((s.takePacket i p).rejectPacket p p.dstUnit.1 p.dstUnit.2 e) := by
  rw [exec_hwSend, execHwSend, whenSome_next s _ h]
  simp only [hc, Option.isNone_some, Bool.and_false, Bool.false_and, Bool.false_eq_true, if_false, takes_fails s i p _ hab hc]

/-- MSG of a packet that passes every check. -/
theorem msg_serves (h : s.rillGets i 5 p = true) : exec (.msg i) s = .next (if (s.rill p.rillIdx).rxLen < entrySize p.len
    then (s.takePacket i p).rxNever p else if (s.rill p.rillIdx).rxRoom (entrySize p.len) = true then (s.takePacket i p).rxTake p.rillIdx p
    else { s with net := setAt s.net i { p with waits := true } }) := by
  obtain ⟨ha, hab, hc⟩ := unitGets_parts (rillGets_parts h).1
  rw [exec_msg, execMsg, whenSome_next s _ ha, msgArrives_serves hab hc]

/-- MSG_RING_ENTRY looks at the packet that waits at the position. -/
theorem msgRingEntry_arrives {c : Pos} (hg : inGrid c.col c.row = true)
    (hi : s.net.findIdx (fun q => q.waits && q.dcol == c.col && q.drow == c.row) = i) (ha : s.arrives? i 5 false = some p) :
    exec (.msgRingEntry c) s = .next (s.msgArrives i p) := by
  rw [exec_msgRingEntry, execMsgRingEntry, onUnit_next s _ hg rfl]
  simp only [hi, ha]

end

/-- Settles O27: each row serves a packet that passes the checks of R47 and rejects another one; a MSG waits in between. -/
theorem rillPackets : Obligations.RillPackets := by
  refine ⟨fun s i p h ack => ?_, fun s i p h ack => ?_, fun s i p t y h hl hm ht => ?_, fun s i p h => read_serves h,
    fun s i p h fits room => ?_, fun s i p h fits room => ?_, fun s i p h never => ?_, fun s i p c hg hi h fits room => ?_,
    fun s i p c e hg hi ha hab hc => ?_, ?rejected⟩
  · rw [write_serves h, if_pos ack]
  · rw [write_serves h, if_neg (by simp [ack])]
  · obtain ⟨hst, hpool, hstack, hhost⟩ := write_memories h ht
    have whole : p.payload.take p.len = p.payload := List.take_of_length_le (Nat.le_of_eq hl)
    rw [hst, whole]
    refine ⟨fun j hj => ?_, fun hy => memRead_writeBytes_outside _ _ _ _ (by rwa [hl]), hpool, hstack, hhost⟩
    rw [memRead_writeBytes_inside _ _ _ j (by rwa [hl]) hm, List.getD_eq_getElem]
  · rw [msg_serves h, if_neg (Nat.not_lt.2 fits), if_pos room]
  · rw [msg_serves h, if_neg (Nat.not_lt.2 fits), if_neg (by simp [room])]
  · rw [msg_serves h, if_pos never]
  · obtain ⟨ha, hab, hc⟩ := unitGets_parts (rillGets_parts h).1
    rw [msgRingEntry_arrives hg hi ha, msgArrives_serves hab hc, if_neg (Nat.not_lt.2 fits), if_pos room]
  · rw [msgRingEntry_arrives hg hi ha, msgArrives_fails hab hc]
  exact ⟨fun s i p e h ab hc => (exec_write s i).trans (packetRow_rejects h ab hc),
    fun s i p e h ab hc => (exec_read s i).trans (packetRow_rejects h ab hc),
    fun s i p e h ab hc => (exec_readData s i).trans (packetRow_rejects h ab hc),
    fun s i p e h ab hc => (exec_ack s i).trans (packetRow_rejects h ab hc),
    fun s i p e h ab hc => msg_rejects h ab hc,
    fun s i p e h ab hc => (exec_poolWrite s i).trans (packetRow_rejects h ab hc),
    fun s i p e h ab hc => (exec_poolRead s i).trans (packetRow_rejects h ab hc),
    fun s i p e h ab hc => (exec_sdata s i).trans (packetRow_rejects h ab hc),
    fun s i p e h ab hc => (exec_spush s i).trans (packetRow_rejects h ab hc),
    fun s i p e h ab hc => (exec_scredit s i).trans (packetRow_rejects h ab hc),
    fun s i p e h ab hc => (exec_hwConfirm s i).trans (packetRow_rejects h ab hc),
    fun s i p e h ab hc => (exec_ezConfirm s i).trans (packetRow_rejects h ab hc),
    fun s i p e h ab hc => (exec_sread s i).trans (packetRow_rejects h ab hc),
    fun s i p e h ab hc => (exec_swrite s i).trans (packetRow_rejects h ab hc),
    fun s i p e h ab hc => (exec_sfill s i).trans (packetRow_rejects h ab hc),
    fun s i p e h ab hc => (exec_sdrain s i).trans (packetRow_rejects h ab hc),
    fun s i p e h ab hc => (exec_hwOpen s i).trans (packetRow_rejects h ab hc),
    fun s i p e h ab hc => (exec_hwClose s i).trans (packetRow_rejects h ab hc),
    fun s i p e h ab hc => (exec_hwRearm s i).trans (packetRow_rejects h ab hc),
    fun s i p e h ab hc => hwSend_rejects h ab hc,
    fun s i p e h ab hc => (exec_ezOpen s i).trans (packetRow_rejects h ab hc),
    fun s i p e h ab hc => (exec_ezClose s i).trans (packetRow_rejects h ab hc),
    fun s i p e h ab hc => (exec_ezRearm s i).trans (packetRow_rejects h ab hc),
    fun s i p e h ab hc => (exec_ezSend s i).trans (packetRow_rejects h ab hc),
    fun s i p h ab => (exec_write s i).trans (packetRow_aborts h ab)⟩

/-! ### Answers at a rill (R46, R130, R146, R159, R164) -/

/-- The rill's stream engine takes an answer of one of its queues' transfers. -/
theorem streamAnswer?_queue {s : State} {k q : Nat} {f : Flight} {p : Packet} (h : (s.rill k).flightOf p.xid = some (q, f)) :
    s.streamAnswer? k p = some (s.queueAnswer k q f p) := by simp only [State.streamAnswer?, h]

/-- One of a trickle transfer. -/
theorem streamAnswer?_trickle {s : State} {k : Nat} {t : Trickle} {p : Packet} (h : (s.rill k).flightOf p.xid = none)
    (ht : (s.rill k).trickles.find? (fun t => t.xid == p.xid) = some t) : s.streamAnswer? k p = some (s.trickleAnswer k t p) := by
  simp only [State.streamAnswer?, h, ht, Option.map_some]

/-- And no other. -/
theorem streamAnswer?_none {s : State} {k : Nat} {p : Packet} (h : (s.rill k).flightOf p.xid = none)
    (ht : (s.rill k).trickles.find? (fun t => t.xid == p.xid) = none) : s.streamAnswer? k p = none := by
  simp only [State.streamAnswer?, h, ht, Option.map_none]

section
variable {s : State} {i : Nat} {p : Packet}

/-- READ_DATA at a rill. -/
theorem readData_serves (h : s.rillGets i 3 p = true) : exec (.readData i) s = .next ((s.takePacket i p).readDataRill p.rillIdx p) := by
  rw [exec_readData, execReadData, packetRow_rillGets h]
  simp only [(rillGets_parts h).2, Bool.false_eq_true, if_false, Packet.rillIdx]

/-- ACK at a rill. -/
theorem ack_serves (h : s.rillGets i 4 p = true) : exec (.ack i) s = .next ((s.takePacket i p).ackRill p.rillIdx p) := by
  rw [exec_ack, execAck, packetRow_rillGets h]
  simp only [(rillGets_parts h).2, Bool.false_eq_true, if_false, Packet.rillIdx]

/-- SDATA at a rill. -/
theorem sdata_serves (h : s.rillGets i 17 p = true) :
    exec (.sdata i) s = .next (((s.takePacket i p).streamAnswer? p.rillIdx p).getD (s.takePacket i p)) :=
  (exec_sdata s i).trans (packetRow_rillGets h)

/-- SCREDIT at a rill. -/
theorem scredit_serves (h : s.rillGets i 22 p = true) : exec (.scredit i) s = .next ((s.takePacket i p).screditRill p) := by
  rw [exec_scredit, execScredit, packetRow_rillGets h]
  simp only [(rillGets_parts h).2, Bool.false_eq_true, if_false]

/-- An answer of the stream engine is taken by it, whichever packet brings it. -/
theorem readDataRill_stream {k : Nat} {t : State} (h : s.streamAnswer? k p = some t) : s.readDataRill k p = t := by
  simp only [State.readDataRill, h]

theorem ackRill_stream {k : Nat} {t : State} (h : s.streamAnswer? k p = some t) : s.ackRill k p = t := by
  simp only [State.ackRill, h]

end

/-- Settles O29: an answer goes to the queue, the trickle transfer, the load or the acknowledgement that its identity names. -/
theorem packetAnswers : Obligations.PacketAnswers := by
  refine ⟨fun s i p n g h hf ht hl => ?_, fun s i p q f h hf => ?_, fun s i p h hf ht => ?_, fun s i p q f h hf => ?_,
    fun s i p r h hf ht => ?_, fun s i p r h hf ht => ?_, fun s i p r h hf ht => ?_, fun s i p q f h hf => ?_,
    fun s i p h _ => scredit_serves h⟩
  all_goals rw [← takePacket_rill s i p] at hf
  · rw [← takePacket_rill s i p] at ht hl
    rw [readData_serves h]
    simp only [State.readDataRill, streamAnswer?_none hf ht, hl]
  · rw [readData_serves h, readDataRill_stream (streamAnswer?_queue hf)]
  · rw [← takePacket_rill s i p] at ht
    rw [ack_serves h]
    simp only [State.ackRill, streamAnswer?_none hf ht]
  · rw [ack_serves h, ackRill_stream (streamAnswer?_queue hf)]
  · rw [← takePacket_rill s i p] at ht
    rw [readData_serves h, readDataRill_stream (streamAnswer?_trickle hf ht)]
  · rw [← takePacket_rill s i p] at ht
    rw [ack_serves h, ackRill_stream (streamAnswer?_trickle hf ht)]
  · rw [← takePacket_rill s i p] at ht
    rw [sdata_serves h, streamAnswer?_trickle hf ht]
    rfl
  · rw [sdata_serves h, streamAnswer?_queue hf]
    rfl

end Sys2Proof.Machine
end

section
/-! POOL_READ and POOL_WRITE at home pools (R128, R130 to R132). -/

namespace Sys2Proof.Machine

/-! ### A packet that its pool serves or refuses (R128) -/

section
variable {s : State} {i kind : Nat} {p : Packet}

/-- The parts of a pool's serving a packet. -/
theorem poolGets_parts (h : s.poolGets i kind p = true) : s.unitGets i kind true p = true ∧ poolFits p = true := by
  simp only [State.poolGets, Bool.and_eq_true] at h
  obtain ⟨⟨gets, -⟩, fits⟩ := h
  exact ⟨gets, fits⟩

/-- What POOL_WRITE does with a packet that lies within the pool. -/
theorem poolWrite_serves (h : s.poolGets i 1 p = true) : exec (.poolWrite i) s = .next
    (if p.ackReq = true then ((s.takePacket i p).poolWrite p.rillIdx p.addr (p.payload.take p.len) p.poison).inject (p.ack 0)
      else (s.takePacket i p).poolWrite p.rillIdx p.addr (p.payload.take p.len) p.poison) := by
  obtain ⟨hu, fits⟩ := poolGets_parts h
  rw [exec_poolWrite, execPoolWrite, packetRow_serves hu]
  simp only [fits, if_true, Packet.rillIdx]

/-- A POOL_WRITE that does not lie within the pool is refused. -/
theorem poolWrite_refuses (h : s.unitGets i 1 true p = true) (out : poolFits p = false) :
    exec (.poolWrite i) s = .next ((s.takePacket i p).poolRefuse p) := by
  rw [exec_poolWrite, execPoolWrite, packetRow_serves h]
  simp only [out, Bool.false_eq_true, if_false]

/-- So is such a POOL_READ. -/
theorem poolRead_refuses (h : s.unitGets i 2 true p = true) (out : poolFits p = false) :
    exec (.poolRead i) s = .next ((s.takePacket i p).poolRefuse p) := by
  rw [exec_poolRead, execPoolRead, packetRow_serves h]
  simp only [out, Bool.false_eq_true, if_false]

end

/-! ### What a pool answers, and what it keeps -/

@[simp] theorem takePacket_poolPoison (s : State) (i : Nat) (p : Packet) : (s.takePacket i p).poolPoison = s.poolPoison :=
  (State.takePacket_kept s i p).get 11

/-- Line reads are counted and merged; the pool's bytes and poison bits stay. -/
theorem linesRead_pool (s : State) (rch line n : Nat) :
    (s.linesRead rch line n).pool = s.pool ∧ (s.linesRead rch line n).poolPoison = s.poolPoison :=
  have k := State.linesRead_kept s rch line n
  ⟨k.get 7, k.get 11⟩

section
variable {s t : State} {i : Nat} {p : Packet}

/-- What POOL_READ answers: neither the packet's leaving the net nor the counting of line reads touches what it reads. -/
theorem poolRead_serves (h : s.poolGets i 2 p = true) : exec (.poolRead i) s = .next
    (((s.takePacket i p).linesRead (reachOf p.dcol p.drow) ((sbase p.rillIdx + p.addr) / 64) (poolLines p)).inject
      (p.readData (s.poolRead p.rillIdx p.addr p.len) (s.poolPois p.rillIdx p.addr p.len))) := by
  obtain ⟨hu, fits⟩ := poolGets_parts h
  obtain ⟨bytes, poison⟩ :=
    linesRead_pool (s.takePacket i p) (reachOf p.dcol p.drow) ((sbase p.rillIdx + p.addr) / 64) (poolLines p)
  rw [takePacket_pool] at bytes
  rw [takePacket_poolPoison] at poison
  rw [exec_poolRead, execPoolRead, packetRow_serves hu]
  simp only [Packet.rillIdx] at bytes poison ⊢
  simp only [fits, if_true, State.poolRead, State.poolPois, bytes, poison]

/-- Bytes written into a pool change no other memory. -/
theorem poolWrite_memories (s : State) (k a : Nat) (b : List Byte) (poison : Bool) :
    (s.poolWrite k a b poison).pool = writeBytes s.pool (sbase k + a) b ∧ (s.poolWrite k a b poison).store = s.store ∧
    (s.poolWrite k a b poison).stack = s.stack ∧ (s.poolWrite k a b poison).host = s.host := ⟨rfl, rfl, rfl, rfl⟩

/-- The memories that POOL_WRITE leaves, acknowledged or not. -/
theorem execPoolWrite_memories (h : s.poolGets i 1 p = true) (ht : exec (.poolWrite i) s = .next t) :
    t.pool = writeBytes s.pool (sbase p.rillIdx + p.addr) (p.payload.take p.len) ∧
    t.store = s.store ∧ t.stack = s.stack ∧ t.host = s.host := by
  rw [poolWrite_serves h, Host.Outcome.next.injEq] at ht
  subst ht
  have written := poolWrite_memories (s.takePacket i p) p.rillIdx p.addr (p.payload.take p.len) p.poison
  rw [takePacket_pool, takePacket_store, takePacket_stack, takePacket_host] at written
  split
  · obtain ⟨hst, hp, hk, hh⟩ := inject_memories ((s.takePacket i p).poolWrite p.rillIdx p.addr (p.payload.take p.len) p.poison) (p.ack 0)
    rwa [hp, hst, hk, hh]
  · exact written

/-- The bytes that POOL_WRITE changes: its own, and no other of any memory. -/
theorem execPoolWrite_bytes (y : Nat) (h : s.poolGets i 1 p = true) (hl : p.payload.length = p.len) (hm : Mem.wf s.pool = true)
    (ht : exec (.poolWrite i) s = .next t) :
    (∀ j, j < p.len → memRead t.pool (sbase p.rillIdx + p.addr + j) = p.payload.getD j 0) ∧
    ((y < sbase p.rillIdx + p.addr ∨ sbase p.rillIdx + p.addr + p.len ≤ y) → memRead t.pool y = memRead s.pool y) ∧
    t.store = s.store ∧ t.stack = s.stack ∧ t.host = s.host := by
  obtain ⟨hpool, others⟩ := execPoolWrite_memories h ht
  rw [hpool, List.take_of_length_le (Nat.le_of_eq hl)]
  refine ⟨fun j hj => ?_, fun hy => memRead_writeBytes_outside _ _ _ _ (by rwa [hl]), others⟩
  rw [memRead_writeBytes_inside _ _ _ j (by rwa [hl]) hm, List.getD_eq_getElem]

end

/-- Settles O28: R128 alone decides between serving and refusing; a read leaves what it reads, a write changes its bytes. -/
theorem poolPackets : Obligations.PoolPackets := by
  refine ⟨fun s i p h ack => ?_, fun s i p h => poolRead_serves h, fun s i p h _ out => poolWrite_refuses h out,
    fun s i p h noAck => ?_, fun s i p h _ out => poolRead_refuses h out, fun s i p t y h hl hm ht => execPoolWrite_bytes y h hl hm ht⟩
  · rw [poolWrite_serves h, if_pos ack]
  · rw [poolWrite_serves h, if_neg (by simp [noAck])]

end Sys2Proof.Machine
end

section
/-! The stream instructions: SARM, SREARM, SSTOP, RACQ and RREL (R41, R143, R144, R152 to R154, R157). -/

namespace Sys2Proof.Machine

/-! ### What the issue leaves of queues and descriptors -/

section
variable {s : State} {a : SlotId}

theorem issued_descFault (s : State) (a : SlotId) (k : Nat) (v : W64) : (s.issued a).descFault k v = s.descFault k v := by
  simp only [State.descFault, issued_storePois]

theorem issued_queue (s : State) (a : SlotId) (q : Nat) : ((s.issued a).rill (slotK a)).queue q = (s.rill (slotK a)).queue q :=
  issued_rillPart (·.queue q) (fun _ _ _ _ => rfl) s a

theorem issued_sarmCode (s : State) (a : SlotId) (q : Nat) (d : Desc) (r : Nat) :
    ((s.issued a).rill (slotK a)).sarmCode q d r = (s.rill (slotK a)).sarmCode q d r :=
  issued_rillPart (·.sarmCode q d r) (fun _ _ _ _ => rfl) s a

/-- SARM of a readable descriptor: its code, and what follows from code 0. -/
theorem execSarm_readable {d : Desc} {q c : Nat} (h : s.canIssue a 0x70 = true) (hf : s.descFault (slotK a) (s.src1 a) = none)
    (hd : parseDesc (s.storeRead (slotK a) (s.src1 a).toNat 64) = d) (hq : queueOf (s.wordNow a) = q)
    (hc : (s.rill (slotK a)).sarmCode q d (at' (s.storeRead (slotK a) (s.src1 a).toNat 64) 0x16 2) = c) :
    execSarm a s = .next (if c ≠ 0 then s.gives a (BitVec.ofNat 64 c)
      else if d.trickle = true then (s.gives a (BitVec.ofNat 64 c)).trickleStart (slotK a) a.slot d
      else if ((s.rill (slotK a)).queue q).st = stStopping then
        (((s.gives a (BitVec.ofNat 64 c)).modQueue (slotK a) q (fun x => { x with armNo := x.armNo + 1 })).modQueue (slotK a) q
          (fun x => { x with pendOn := true, latched := some (d, a.slot) })).writeStat (slotK a) q
      else ((s.gives a (BitVec.ofNat 64 c)).modQueue (slotK a) q (fun x => { x with armNo := x.armNo + 1 })).queueBegin (slotK a) q d a.slot) := by
  subst hd hq hc
  rw [execSarm, execIssue_canIssue h]
  simp only [issueNow_k, issueNow_n, issueNow_v1, issueNow_w, issued_descFault, hf, issued_storeRead, issued_sarmCode, issued_queue, retire_issued]
  rfl

/-- SARM of a descriptor whose address faults. -/
theorem execSarm_faults {f : Nat} (h : s.canIssue a 0x70 = true) (hf : s.descFault (slotK a) (s.src1 a) = some f) :
    execSarm a s = .next (s.traps a f) := by
  rw [execSarm, execIssue_canIssue h]
  simp only [issueNow_k, issueNow_v1, issued_descFault, hf, faultAt_issued]

/-- SREARM of a readable descriptor: its code, the pending re-arm, and what it sends its endpoint. -/
theorem execSrearm_readable {raw : List Byte} {d : Desc} {q c : Nat} {x : Queue} {u : State} (h : s.canIssue a 0x71 = true)
    (hf : s.descFault (slotK a) (s.src1 a) = none) (hr : s.storeRead (slotK a) (s.src1 a).toNat 64 = raw) (hd : parseDesc raw = d)
    (hq : queueOf (s.wordNow a) = q) (hx : (s.rill (slotK a)).queue q = x) (hc : x.srearmCode d = c)
    (hu : (s.gives a (BitVec.ofNat 64 c)).modQueue (slotK a) q (fun x => { x with rearm := some (x.desc.rearm d, a.slot) }) = u) :
    execSrearm a s = .next (if c ≠ 0 then s.gives a (BitVec.ofNat 64 c)
      else if 3 ≤ x.desc.farKind then u.fresh.2.queueSendOr (slotK a) q
        (({ u.fresh.2.slotPacket (slotK a) a.slot with
            kind := if x.desc.farKind = 3 then 0x23 else 0x33, arg := x.armNo % 256, tag := streamTag q 0, len := 64, payload := raw,
            xid := u.fresh.1 } : Packet).toUnit (if x.desc.dir = 0 then x.desc.up else x.desc.down))
      else u) := by
  subst hr hd hq hx hc hu
  rw [execSrearm, execIssue_canIssue h]
  simp only [issueNow_k, issueNow_n, issueNow_v1, issueNow_w, issued_descFault, hf, issued_storeRead, issued_queue, retire_issued]
  rfl

/-- SREARM of a descriptor whose address faults. -/
theorem execSrearm_faults {f : Nat} (h : s.canIssue a 0x71 = true) (hf : s.descFault (slotK a) (s.src1 a) = some f) :
    execSrearm a s = .next (s.traps a f) := by
  rw [execSrearm, execIssue_canIssue h]
  simp only [issueNow_k, issueNow_v1, issued_descFault, hf, faultAt_issued]

/-- SSTOP of a queue that is not OFF. -/
theorem execSstop_stops (h : s.canIssue a 0x72 = true) (hq : ((s.rill (slotK a)).queue (queueOf (s.wordNow a))).st ≠ stOff) :
    execSstop a s = .next (((s.retired a id).wakeRacq (slotK a) (queueOf (s.wordNow a)) (racqError cCancelled)).stopQueue (slotK a)
      (queueOf (s.wordNow a))) := by
  rw [execSstop, execIssue_canIssue h]
  simp only [issueNow_k, issueNow_w, issued_queue, hq, if_false, retire_issued]

/-- Retiring changes no queue. -/
theorem retired_queue (s : State) (a : SlotId) (f : Slot → Slot) (q : Nat) :
    ((s.retired a f).rill (slotK a)).queue q = (s.rill (slotK a)).queue q := by
  rw [State.retired, (retiredWith_parts s a id f).1]
  exact issued_queue s a q

/-- A queue that is OFF has nothing to stop. -/
theorem stopQueue_off {k q : Nat} (h : ((s.rill k).queue q).st = stOff) : s.stopQueue k q = s := by
  simp only [State.stopQueue, h]
  rfl

/-- SSTOP of a queue that is OFF. -/
theorem execSstop_off (h : s.canIssue a 0x72 = true) (hq : ((s.rill (slotK a)).queue (queueOf (s.wordNow a))).st = stOff) :
    execSstop a s = .next (s.retired a id) := by
  rw [execSstop, execIssue_canIssue h]
  simp only [issueNow_k, issueNow_w, issued_queue, hq, if_true, retire_issued]
  rw [stopQueue_off (by rw [retired_queue]; exact hq)]

/-- RACQ of a queue that has a value ready. -/
theorem execRacq_gives {v : W64} {x : Queue} (h : s.canIssue a 0x73 = true)
    (hr : ((s.rill (slotK a)).queue (queueOf (s.wordNow a))).racq a.slot = some (v, x)) : execRacq a s =
    .next (s.retiredWith a (fun r => r.setQueue (queueOf (s.wordNow a)) x) (fun y => y.setG (gdOf (s.wordNow a)) v)) := by
  rw [execRacq, execIssue_canIssue h]
  simp only [issueNow_k, issueNow_n, issueNow_w, issued_queue, hr]
  exact congrArg Host.Outcome.next (retire_modRill s a (fun r => r.setQueue _ x) _ (fun _ => rfl))

/-- RACQ of a queue that has none. -/
theorem execRacq_waits (h : s.canIssue a 0x73 = true) (hr : ((s.rill (slotK a)).queue (queueOf (s.wordNow a))).racq a.slot = none) :
    execRacq a s = .next (s.waits a (.racq (queueOf (s.wordNow a)) (gdOf (s.wordNow a)))) := by
  rw [execRacq, execIssue_canIssue h]
  simp only [issueNow_k, issueNow_n, issueNow_w, issued_queue, hr, waitOn_issued]

/-- What RACQ takes of a queue with a ring: the next filled slot of an IN queue that is not STOPPING, the next free slot of an OUT queue. -/
theorem racq_takes {x : Queue} (n : Nat) (off : x.st ≠ stOff) (ring : x.desc.noRing = false)
    (ready : if x.desc.dir = 0 then x.st ≠ stStopping ∧ x.acquired < x.filled else x.acquired < x.issued + x.desc.ringSlots) :
    x.racq n = some (BitVec.ofNat 64 (x.slotAddr x.acquired),
      { x with acquired := x.acquired + 1, acqs := x.acqs ++ [⟨x.acquired, n, false⟩] }) := by
  have ok : (if x.desc.dir = 0 then x.st != stStopping && decide (x.acquired < x.filled)
      else decide (x.acquired < x.issued + x.desc.ringSlots)) = true := by
    split at ready <;> simp_all
  simp only [Queue.racq, off, ring, ok, Bool.false_eq_true, if_false, if_true]

/-- RREL. -/
theorem execRrel_releases (h : s.canIssue a 0x74 = true) : execRrel a s =
    .next (s.retiredWith a (fun r => r.setQueue (queueOf (s.wordNow a)) ((r.queue (queueOf (s.wordNow a))).rrel)) id) := by
  rw [execRrel, execIssue_canIssue h]
  simp only [issueNow_k, issueNow_w, State.modQueue]
  exact congrArg Host.Outcome.next (retire_modRill s a (fun r => r.setQueue _ (r.queue _).rrel) _ (fun _ => rfl))

end

/-- Settles O24: SARM and SREARM by their code, SSTOP and RACQ by the queue's state; each other effect is that of the issue. -/
theorem streamInstructions : Obligations.StreamInstructions := by
  refine ⟨fun s a h hf hc ht hs => ?_, fun s a h hf hc ht hs => ?_, fun s a h hf hc ht => ?_, fun s a h hf hc => ?_,
    fun s a f h hf => (exec_sarm s a).trans (execSarm_faults h hf), fun s a h hf hc hk => ?_, fun s a h hf hc hk => ?_,
    fun s a h hf hc => ?_, fun s a f h hf => (exec_srearm s a).trans (execSrearm_faults h hf),
    fun s a h hq => (exec_sstop s a).trans (execSstop_stops h hq), fun s a h hq => (exec_sstop s a).trans (execSstop_off h hq),
    fun s a v x h hr => (exec_racq s a).trans (execRacq_gives h hr), fun s a x h hx off ring ready => ?_,
    fun s a h hr => (exec_racq s a).trans (execRacq_waits h hr), fun s a h => (exec_rrel s a).trans (execRrel_releases h)⟩
  · rw [exec_sarm, execSarm_readable h hf rfl rfl hc, if_neg (not_not.2 rfl), if_neg (by simp [ht]), if_neg hs]
    rfl
  · rw [exec_sarm, execSarm_readable h hf rfl rfl hc, if_neg (not_not.2 rfl), if_neg (by simp [ht]), if_pos hs]
    rfl
  · rw [exec_sarm, execSarm_readable h hf rfl rfl hc, if_neg (not_not.2 rfl), if_pos ht]
    rfl
  · rw [exec_sarm, execSarm_readable h hf rfl rfl rfl, if_pos hc]
  · rw [exec_srearm, execSrearm_readable h hf rfl rfl rfl rfl hc rfl, if_neg (not_not.2 rfl), if_neg (Nat.not_le.2 hk)]
    rfl
  · rw [exec_srearm, execSrearm_readable h hf rfl rfl rfl rfl hc rfl, if_neg (not_not.2 rfl), if_pos hk]
    rfl
  · rw [exec_srearm, execSrearm_readable h hf rfl rfl rfl rfl rfl rfl, if_pos hc]
  · subst hx
    rw [exec_racq, execRacq_gives h (racq_takes a.slot off ring ready)]

end Sys2Proof.Machine
end

section
/-! Traffic of the stream queues: pushes, confirmations, and the events of a queue (R144 to R146, R151, R153, R165, R166, R228, R249). -/

namespace Sys2Proof.Machine

/-! ### Pushes and confirmations (R145, R165, R166, R228, R249) -/

section
variable {s : State} {i : Nat} {p : Packet} {x : Queue}

/-- SPUSH at a rill, of the queue that its TAG names. -/
theorem spush_serves (h : s.rillGets i 0x15 p = true) (hx : (s.rill p.rillIdx).queue (p.tag % 8) = x) : exec (.spush i) s = .next
    (if x.st = stOff ∨ x.st = stStopping ∨ x.desc.push = false ∨ p.arg / 256 % 256 ≠ x.armNo % 256 ∨ x.issued ≤ x.tileOf (p.tag / 8)
      then s.takePacket i p
      else if p.len ≠ x.desc.tileLen then (s.takePacket i p).queueFault p.rillIdx (p.tag % 8) cMalformed false
      else (s.takePacket i p).landTile p.rillIdx (p.tag % 8) (x.tileOf (p.tag / 8)) p.payload p.poison (p.arg % 256)) := by
  subst hx
  rw [exec_spush, execSpush, packetRow_rillGets h]
  simp only [takePacket_rill]
  rfl

/-- A push of the arm, within its credit, that its queue takes. -/
theorem spush_taken (h : s.rillGets i 0x15 p = true) (hx : (s.rill p.rillIdx).queue (p.tag % 8) = x) (off : x.st ≠ stOff)
    (stop : x.st ≠ stStopping) (push : x.desc.push = true) (arm : p.arg / 256 % 256 = x.armNo % 256)
    (credit : x.tileOf (p.tag / 8) < x.issued) : exec (.spush i) s = .next
    (if p.len ≠ x.desc.tileLen then (s.takePacket i p).queueFault p.rillIdx (p.tag % 8) cMalformed false
      else (s.takePacket i p).landTile p.rillIdx (p.tag % 8) (x.tileOf (p.tag / 8)) p.payload p.poison (p.arg % 256)) := by
  rw [spush_serves h hx, if_neg]
  rintro (e | e | e | e | e)
  · exact off e
  · exact stop e
  · simp [push] at e
  · exact e arm
  · exact Nat.not_le.2 credit e

/-- A confirmation of its endpoint's kind, for a queue that is not OFF. -/
theorem execConfirm_serves {kind far : Nat} (h : s.rillGets i kind p = true) (off : ((s.rill p.rillIdx).queue (p.tag % 8)).st ≠ stOff)
    (hk : ((s.rill p.rillIdx).queue (p.tag % 8)).desc.farKind = far) :
    execConfirm i kind far s = .next ((s.takePacket i p).queueConfirm p.rillIdx (p.tag % 8) (p.arg % 0x10000)) := by
  simp only [Packet.rillIdx] at off hk ⊢
  rw [execConfirm, packetRow_rillGets h]
  simp only [takePacket_rill, off, hk, ne_eq, not_false_eq_true, and_self, if_true]

/-- A good confirmation ends STARTING. -/
theorem queueConfirm_starts {k q : Nat} (h : ((s.rill k).queue q).st = stStarting) : s.queueConfirm k q 0 = s.queueStarted k q := by
  simp only [State.queueConfirm, h, if_true]

/-- A code other than that of a cancelled open faults the queue. -/
theorem queueConfirm_faults {k q c : Nat} (h : c ≠ 0) (hc : c ≠ cCancelled) : s.queueConfirm k q c = s.queueFault k q c false := by
  simp only [State.queueConfirm, h, hc, false_and, if_false]

/-- A confirmation with ARG 0 of a STARTING queue. -/
theorem execConfirm_starts {kind far : Nat} (h : s.rillGets i kind p = true) (hs : ((s.rill p.rillIdx).queue (p.tag % 8)).st = stStarting)
    (hk : ((s.rill p.rillIdx).queue (p.tag % 8)).desc.farKind = far) (ha : p.arg % 0x10000 = 0) :
    execConfirm i kind far s = .next ((s.takePacket i p).queueStarted p.rillIdx (p.tag % 8)) := by
  rw [execConfirm_serves h (by rw [hs]; decide) hk, ha, queueConfirm_starts (by rwa [takePacket_rill])]

/-- A confirmation with a code. -/
theorem execConfirm_faults {kind far : Nat} (h : s.rillGets i kind p = true) (off : ((s.rill p.rillIdx).queue (p.tag % 8)).st ≠ stOff)
    (hk : ((s.rill p.rillIdx).queue (p.tag % 8)).desc.farKind = far) (ha : p.arg % 0x10000 ≠ 0) (hc : p.arg % 0x10000 ≠ cCancelled) :
    execConfirm i kind far s = .next ((s.takePacket i p).queueFault p.rillIdx (p.tag % 8) (p.arg % 0x10000) false) := by
  rw [execConfirm_serves h off hk, queueConfirm_faults ha hc]

end

/-! ### The events of a queue (R144 to R146, R151, R153) -/

section
variable {s : State} {p : Pos} {q : Nat} {x : Queue}

/-- STREAM_START_DONE of a queue that starts by itself: one that is pushed to grants its first tile. -/
theorem execStreamStartDone_starts (hg : inGrid p.col p.row = true) (hq : q < 8) (al : s.alive (ridx p.col p.row) = true)
    (hx : (s.rill (ridx p.col p.row)).queue q = x) (hs : x.st = stStarting) (hk : x.desc.farKind ≤ 2)
    (hp : x.desc.push = true → x.inAdmits = true) : execStreamStartDone p q s = .next
    ((if x.desc.push = true then (s.atCycle (x.startedAt + 4)).issueTile (ridx p.col p.row) q else s.atCycle (x.startedAt + 4)).queueStarted
      (ridx p.col p.row) q) := by
  subst hx
  have ready : (!((s.rill (ridx p.col p.row)).queue q).desc.push || ((s.rill (ridx p.col p.row)).queue q).inAdmits) = true := by
    cases hpush : ((s.rill (ridx p.col p.row)).queue q).desc.push with
    | false => rfl
    | true => exact hp hpush
  rw [execStreamStartDone]
  exact onUnit_next s _ (by simp [hg, hq]) (by simp only [al, hs, hk, ready, beq_self_eq_true, decide_true, Bool.and_self])

/-- STREAM_STOP_DONE of a STOPPING queue with nothing outstanding. -/
theorem execStreamStopDone_ends (hg : inGrid p.col p.row = true) (hq : q < 8) (al : s.alive (ridx p.col p.row) = true)
    (hx : (s.rill (ridx p.col p.row)).queue q = x) (hs : x.st = stStopping) (hf : x.flights = []) (ha : x.acqs = []) {t : State}
    (ht : (s.setQst (ridx p.col p.row) q stOff).modQueue (ridx p.col p.row) q (fun y => { y with credit := 0, srcArm := none, arms := [] }) = t) :
    execStreamStopDone p q s = .next (match x.latched with
      | some (d, n) => if x.pendOn = true then t.queueBegin (ridx p.col p.row) q d n else t
      | none => t) := by
  subst hx ht
  rw [execStreamStopDone]
  exact onUnit_next s _ (by simp [hg, hq]) (by simp [al, hs, hf, ha])

/-- STREAM_TILE_ISSUE of an ON queue that admits a tile. -/
theorem execStreamTileIssue_issues (hg : inGrid p.col p.row = true) (hq : q < 8) (al : s.alive (ridx p.col p.row) = true)
    (hx : ((s.rill (ridx p.col p.row)).queue q).takeUp = x) (hs : x.st = stOn)
    (admits : if x.desc.dir = 0 then x.inAdmits = true else x.desc.dir ≠ 1 ∧ x.moveAdmits = true) :
    execStreamTileIssue p q s = .next (s.issueTile (ridx p.col p.row) q) := by
  subst hx
  rw [execStreamTileIssue]
  refine onUnit_next s _ (by simp [hg, hq]) ?_
  simp only [al, hs, beq_self_eq_true, Bool.and_self, Bool.true_and]
  split at admits
  · next hd => rw [if_pos hd]; exact admits
  · next hd => rw [if_neg hd]; simp [admits.1, admits.2]

/-- STREAM_OUT_INJECT of an ON queue with a released tile. -/
theorem execStreamOutInject_sends (hg : inGrid p.col p.row = true) (hq : q < 8) (al : s.alive (ridx p.col p.row) = true)
    (hx : ((s.rill (ridx p.col p.row)).queue q).takeUp = x) (hs : x.st = stOn) (hr : x.outReady = true) {t : State}
    (ht : s.modQueue (ridx p.col p.row) q Queue.takeUp = t) : execStreamOutInject p q s = .next
    (match t.outPacket (ridx p.col p.row) q x with
      | .inl c => t.queueFault (ridx p.col p.row) q c (decide (x.desc.farKind = 0))
      | .inr k => match t.fresh.2.inject? { k with xid := s.nextXid } with
        | none => (t.fresh.2.unreachable k).queueFault (ridx p.col p.row) q cMalformed true
        | some u => if x.desc.farKind = 2
          then (u.modQueue (ridx p.col p.row) q (fun y => { y with issued := y.issued + 1 })).tileDone (ridx p.col p.row) q x.issued
          else (u.modQueue (ridx p.col p.row) q (fun y => { y with issued := y.issued + 1 })).modQueue (ridx p.col p.row) q
            (fun y => { y with flights := y.flights ++ [⟨s.nextXid, x.issued⟩] })) := by
  subst hx ht
  rw [execStreamOutInject]
  exact onUnit_next s _ (by simp [hg, hq]) (by simp [al, hs, hr])

end

/-- Settles O30: a push and a confirmation by what the queue is, each event by what it does once its queue is ready for it. -/
theorem streamTraffic : Obligations.StreamTraffic := by
  refine ⟨fun s i p x h hx off stop push arm credit len => ?_, fun s i p x h hx off stop push arm credit len => ?_,
    fun s i p x h hx bad => ?_, fun s i p h hs hk ha => (exec_hwConfirm s i).trans (execConfirm_starts h hs hk ha),
    fun s i p h hs hk ha => (exec_ezConfirm s i).trans (execConfirm_starts h hs hk ha),
    fun s i p h off hk ha hc => (exec_hwConfirm s i).trans (execConfirm_faults h off hk ha hc),
    fun s i p h off hk ha hc => (exec_ezConfirm s i).trans (execConfirm_faults h off hk ha hc),
    fun s p q x hg hq al hx hs hk push => ?_, fun s p q x hg hq al hx hs hk push adm => ?_,
    fun s p q x hg hq al hx hs hf ha idle => ?_, fun s p q x d n hg hq al hx hs hf ha hl hp => ?_,
    fun s p q x hg hq al hx hs adm => (exec_streamTileIssue s p q).trans (execStreamTileIssue_issues hg hq al hx hs adm),
    fun s u p q x k hg hq al hx hs hr hk ho hu => ?_, fun s u p q x k hg hq al hx hs hr hk ho hu => ?_,
    fun s p q x c hg hq al hx hs hr ho => ?_, fun s p q x k hg hq al hx hs hr ho hu => ?_⟩
  · rw [spush_taken h hx off stop push arm credit, if_neg (not_not.2 len)]
  · rw [spush_taken h hx off stop push arm credit, if_pos len]
  · rw [spush_serves h hx, if_pos bad]
  · rw [exec_streamStartDone, execStreamStartDone_starts hg hq al hx hs hk (by simp [push]), if_neg (by simp [push])]
  · rw [exec_streamStartDone, execStreamStartDone_starts hg hq al hx hs hk (fun _ => adm), if_pos push]
  · rw [exec_streamStopDone, execStreamStopDone_ends hg hq al hx hs hf ha rfl]
    cases hl : x.latched with
    | none => rfl
    | some e =>
      have hp : x.pendOn = false := idle.resolve_left (by simp [hl])
      exact congrArg Host.Outcome.next (if_neg (by simp [hp]))
  · rw [exec_streamStopDone, execStreamStopDone_ends hg hq al hx hs hf ha rfl, hl]
    exact congrArg Host.Outcome.next (if_pos hp)
  · rw [exec_streamOutInject, execStreamOutInject_sends hg hq al hx hs hr rfl, ho]
    simp only [hu, hk, if_false]
  · rw [exec_streamOutInject, execStreamOutInject_sends hg hq al hx hs hr rfl, ho]
    simp only [hu, hk, if_true]
  · rw [exec_streamOutInject, execStreamOutInject_sends hg hq al hx hs hr rfl, ho]
  · rw [exec_streamOutInject, execStreamOutInject_sends hg hq al hx hs hr rfl, ho]
    simp only [hu]

end Sys2Proof.Machine
end

section
/-! Requests at the memory endpoints, and the ends of their walks and stack accesses (R163, R179, R187, R188, R198, R201). -/

namespace Sys2Proof.Machine

/-! ### Registers that taking a packet leaves

The gauge pages end below 0x2E4000 and the reach pages begin at 0x900000: a register between them, as those of the TRANSLATION pages are, is
counted by neither. -/

/-- A fold keeps a view that each of its steps keeps. -/
theorem foldl_keeps_mem {α β γ : Type} (view : β → γ) (f : β → α → β) (l : List α) (h : ∀ b, ∀ a ∈ l, view (f b a) = view b) (b : β) :
    view (l.foldl f b) = view b := by
  induction l generalizing b with
  | nil => rfl
  | cons x l ih =>
    rw [List.foldl_cons, ih (fun b a ha => h b a (List.mem_cons_of_mem _ ha)), h b x List.mem_cons_self]

theorem setReg64_other {s : State} {a x : Nat} (v : Nat) (h : x ≠ a) (h4 : x ≠ a + 4) : (s.setReg64 a v).reg x = s.reg x := by
  rw [State.setReg64, State.setRegN, State.reg_setReg_other _ _ h4, State.setRegN, State.reg_setReg_other _ _ h]

theorem setGaugeVal_other {s : State} {ep g x : Nat} (v : Nat) (h : x ≠ aGauge ep g 0x10) (h4 : x ≠ aGauge ep g 0x10 + 4) :
    (s.setGaugeVal ep g v).reg x = s.reg x := by
  unfold State.setGaugeVal
  split
  · exact setReg64_other v h h4
  · exact State.reg_setReg_other s _ h

/-- A gauge that counts bytes changes its own value and its own count. -/
theorem gaugeBytes_other {s : State} {ep g x : Nat} (b : List Byte) (h10 : x ≠ aGauge ep g 0x10) (h14 : x ≠ aGauge ep g 0x10 + 4)
    (h18 : x ≠ aGauge ep g 0x18) (h1C : x ≠ aGauge ep g 0x18 + 4) : (s.gaugeBytes ep g b).reg x = s.reg x := by
  unfold State.gaugeBytes
  simp only
  split
  · rfl
  · show State.reg (State.setReg64 _ _ _) x = _
    rw [setReg64_other _ h18 h1C, setGaugeVal_other _ h10 h14]

theorem aGauge_eq (ep g off : Nat) : aGauge ep g off = 0x2C0000 + 0x1000 * ep + (0x100 + 0x40 * g + off) := rfl
theorem rgXl_eq (c off : Nat) : rg clsXl c off = 0x320000 + 0x1000 * c + off := rfl

/-- A register above the gauge pages. -/
theorem feedStream_above (s : State) {x : Nat} (ep dir col row q ctx : Nat) (b : List Byte) (h : 0x2E4000 ≤ x) :
    (s.feedStream ep dir col row q ctx b).reg x = s.reg x := by
  unfold State.feedStream
  refine foldl_keeps_mem (fun t : State => t.reg x) _ _ (fun t g hg => ?_) s
  simp only
  split
  · next counts =>
    have hep : ep < 36 := by
      simp only [State.gaugeCounts, Bool.and_eq_true, decide_eq_true_eq, and_assoc] at counts
      exact counts.1
    have hg := List.mem_range.1 hg
    exact gaugeBytes_other b (by rw [aGauge_eq]; omega) (by rw [aGauge_eq]; omega) (by rw [aGauge_eq]; omega) (by rw [aGauge_eq]; omega)
  · rfl

/-- A register below the reach pages. -/
theorem countFlits_belowReach (s : State) {x : Nat} (p : Packet) (l : List (Nat × Nat)) (h : x < 0x900000) :
    (s.countFlits p l).reg x = s.reg x := by
  unfold State.countFlits
  refine foldl_keeps (fun t : State => t.reg x) _ (fun t q => ?_) l s
  unfold State.fabAdd State.add64
  have below : ∀ r off, x < rg clsReach r off := fun r off => by
    rw [show rg clsReach r off = 0x900000 + 0x1000 * r + off from rfl]
    omega
  split
  · exact setReg64_below (below _ _)
  · rfl

/-- A register between the gauge pages and the reach pages. -/
theorem takePacket_between (s : State) {x : Nat} (i : Nat) (p : Packet) (lo : 0x2E4000 ≤ x) (hi : x < 0x900000) :
    (s.takePacket i p).reg x = s.reg x := by
  unfold State.takePacket
  simp only
  split
  · rw [feedStream_above _ _ _ _ _ _ _ _ lo, countFlits_belowReach _ _ _ hi]
    rfl
  · rw [countFlits_belowReach _ _ _ hi]
    rfl

@[simp] theorem takePacket_memReqs (s : State) (i : Nat) (p : Packet) : (s.takePacket i p).memReqs = s.memReqs :=
  takePacket_part State.memReqs (fun _ _ _ => rfl) (fun _ _ _ => rfl) (fun _ _ => rfl) s i p

/-- The failures without a walk read the state of a TRANSLATION page alone. -/
theorem takePacket_xlEarly (s : State) (i : Nat) (p : Packet) {c : Nat} (va n : Nat) (hc : c ≤ 16) :
    (s.takePacket i p).xlEarly c va n = s.xlEarly c va n := by
  have hr : (s.takePacket i p).reg (rg clsXl c 0x00C) = s.reg (rg clsXl c 0x00C) :=
    takePacket_between s i p (by rw [rgXl_eq]; omega) (by rw [rgXl_eq]; omega)
  have on : (s.takePacket i p).isOn clsXl c = s.isOn clsXl c := by simp only [State.isOn, State.pst, State.regF, hr]
  unfold State.xlEarly
  rw [on]

/-! ### Requests (R163, R179, R201) -/

/-- A Levee endpoint that serves a packet knows its context. -/
theorem edgeGets_parts {s : State} {i kind : Nat} {p : Packet} (h : s.edgeGets i kind p = true) :
    s.unitGets i kind false p = true ∧ p.ctx ≤ 16 := by
  simp only [State.edgeGets, Bool.and_eq_true] at h
  obtain ⟨hu, he⟩ := h
  refine ⟨hu, Nat.not_lt.1 fun far => ?_⟩
  have hc := (unitGets_parts hu).2.2
  simp only [State.unitCheck, he, if_true, checkPacket, far, decide_true] at hc
  split at hc <;> simp at hc

/-- A request as it arrives at a memory endpoint: not yet translated. -/
def Packet.memReq (p : Packet) : MemReq :=
  { pkt := p, stage := 0, segs := [], code := 0, poison := false, data := [], xid := 0, old := false, walk := none, walkOld := false }

section
variable {s : State} {i kind : Nat} {p : Packet}

/-- A request joins those that its endpoint holds, and goes on or fails by what shows without a walk. -/
theorem execMemRequest_joins (h : s.edgeGets i kind p = true) {t : State}
    (ht : { s.takePacket i p with memReqs := s.memReqs ++ [p.memReq] } = t) : execMemRequest i kind s = .next
    (match s.xlEarly p.ctx p.addr p.len with
      | some e => (t.xlLatch p.ctx e p.wantsWr).memFailed s.memReqs.length p.memReq (xlCode e.kind p.wantsWr) false
      | none => t.memGo (memUnit p.dcol)) := by
  obtain ⟨hu, hc⟩ := edgeGets_parts h
  subst ht
  rw [← takePacket_xlEarly s i p _ _ hc, execMemRequest, packetRow_serves hu]
  simp only [takePacket_memReqs]
  rfl

theorem execMemRequest_goes (h : s.edgeGets i kind p = true) (he : s.xlEarly p.ctx p.addr p.len = none) :
    execMemRequest i kind s = .next (({ s.takePacket i p with memReqs := s.memReqs ++ [p.memReq] } : State).memGo (memUnit p.dcol)) := by
  rw [execMemRequest_joins h rfl, he]

theorem execMemRequest_fails {e : XlFail} (h : s.edgeGets i kind p = true) (he : s.xlEarly p.ctx p.addr p.len = some e) :
    execMemRequest i kind s = .next ((({ s.takePacket i p with memReqs := s.memReqs ++ [p.memReq] } : State).xlLatch p.ctx e
      p.wantsWr).memFailed s.memReqs.length p.memReq (xlCode e.kind p.wantsWr) false) := by
  rw [execMemRequest_joins h rfl, he]

end

/-- Settles O32: the four requests arrive alike. -/
theorem memoryRequests : Obligations.MemoryRequests :=
  ⟨fun s i _ h he => (exec_sread s i).trans (execMemRequest_goes h he), fun s i _ _ h he => (exec_sread s i).trans (execMemRequest_fails h he),
    fun s i _ h he => (exec_swrite s i).trans (execMemRequest_goes h he), fun s i _ _ h he => (exec_swrite s i).trans (execMemRequest_fails h he),
    fun s i _ h he => (exec_sfill s i).trans (execMemRequest_goes h he), fun s i _ _ h he => (exec_sfill s i).trans (execMemRequest_fails h he),
    fun s i _ h he => (exec_sdrain s i).trans (execMemRequest_goes h he),
    fun s i _ _ h he => (exec_sdrain s i).trans (execMemRequest_fails h he)⟩

/-! ### The ends of walks and of stack accesses (R163, R187, R188, R198) -/

section
variable {s : State} {i : Nat} {c : Corrected} {r : MemReq}

/-- TRANSLATION_WALK_DONE of a request whose walk is in progress. -/
theorem execTranslationWalkDone_walk {x : Nat} (hr : s.memReqs[i]? = some r) (hw : r.walk = some x) :
    execTranslationWalkDone i c s = .next (match (s.eccCorr c).walkEnd (memUnit r.pkt.dcol) r.pkt.ctx x with
      | (.inl e, t) => (t.xlLatch r.pkt.ctx e r.pkt.wantsWr).memFailed i r (xlCode e.kind r.pkt.wantsWr) (xlPoison e.kind r.pkt.wantsWr)
      | (.inr _, t) => ({ t with memReqs := setAt t.memReqs i { r with walk := none } } : State).memGo (memUnit r.pkt.dcol)) := by
  simp only [execTranslationWalkDone, hr, hw] <;> rfl

/-- Of a request without one. -/
theorem execTranslationWalkDone_none (hr : s.memReqs[i]? = some r) (hw : r.walk = none) :
    execTranslationWalkDone i c s = .next (s.memGo (memUnit r.pkt.dcol)) := by
  simp only [execTranslationWalkDone, hr, hw]

/-- Any request but an SREAD may be answered at once. -/
theorem turnOf_other (hk : r.pkt.kind ≠ 0x10) : s.turnOf i r = true := by simp [State.turnOf, hk]

/-- STACK_ACCESS_COMPLETE of a request whose stacks may be reached and whose turn has come. -/
theorem execStackAccessComplete_turn (hr : s.memReqs[i]? = some r) (hst : r.stage = 1 ∨ r.stage = 3) (ht : s.turnOf i r = true) {u : State}
    (hu : s.eccCorr c = u) : execStackAccessComplete i c s = .next (match u.segsKind r.segs with
      | some k => u.memFailed i r (xlCode k r.pkt.wantsWr) (xlPoison k r.pkt.wantsWr)
      | none =>
        if r.pkt.kind = 0x10 then (u.memAnswer i (r.pkt.sdata (u.segsRead r.segs) (u.segsPois r.segs) 0)).rotationsDue r.pkt.ctx
        else if r.pkt.kind = 0x12 then (u.segsWrite r.segs (r.pkt.payload.take r.pkt.len) r.pkt.poison).memAnswer i (r.pkt.ack 0)
        else if r.pkt.kind = 0x13 then (u.memToPool i r (u.segsRead r.segs) (u.segsPois r.segs)).rotationsDue r.pkt.ctx
        else if r.stage = 1 then u.memToPool i r [] false
        else (u.segsWrite r.segs r.data r.poison).memAnswer i (r.pkt.ack 0)) := by
  subst hu
  simp only [execStackAccessComplete, hr]
  refine whenB_next s _ ?_
  rcases hst with hst | hst <;> simp [hst, ht]

end

/-- Settles O33: a walk by its outcome; an access by the state of its stacks, then by its request's kind and stage. -/
theorem memoryRequestsEnd : Obligations.MemoryRequestsEnd := by
  refine ⟨fun s i c r t x w hr hw he => ?_, fun s i c r t x e hr hw he => ?_,
    fun s i c r hr hw => (exec_translationWalkDone s i c).trans (execTranslationWalkDone_none hr hw),
    fun s i c r hr hst ht hs hk => ?sread, fun s i c r hr hst hs hk => ?swrite, fun s i c r hr hst hs hk => ?sfill,
    fun s i c r hr hst hs hk => ?sdrainReads, fun s i c r hr hst hs hk => ?sdrainWrites, fun s i c r k hr hst ht hs => ?lost⟩
  · rw [exec_translationWalkDone, execTranslationWalkDone_walk hr hw, he]
  · rw [exec_translationWalkDone, execTranslationWalkDone_walk hr hw, he]
  case sread =>
    rw [exec_stackAccessComplete, execStackAccessComplete_turn hr (.inl hst) ht rfl, hs]
    simp only [hk, if_true]
  case swrite =>
    rw [exec_stackAccessComplete, execStackAccessComplete_turn hr (.inl hst) (turnOf_other (by rw [hk]; decide)) rfl, hs]
    simp only [hk, Nat.reduceEqDiff, if_true, if_false]
  case sfill =>
    rw [exec_stackAccessComplete, execStackAccessComplete_turn hr (.inl hst) (turnOf_other (by rw [hk]; decide)) rfl, hs]
    simp only [hk, Nat.reduceEqDiff, if_true, if_false]
  case sdrainReads =>
    rw [exec_stackAccessComplete, execStackAccessComplete_turn hr (.inl hst) (turnOf_other (by rw [hk]; decide)) rfl, hs]
    simp only [hk, hst, Nat.reduceEqDiff, if_true, if_false]
  case sdrainWrites =>
    rw [exec_stackAccessComplete, execStackAccessComplete_turn hr (.inr hst) (turnOf_other (by rw [hk]; decide)) rfl, hs]
    simp only [hk, hst, Nat.reduceEqDiff, if_false]
  case lost => rw [exec_stackAccessComplete, execStackAccessComplete_turn hr hst ht rfl, hs]

end Sys2Proof.Machine
end

section
/-! Fields of registers, and the registers of a gauge (R169 to R177). -/

namespace Sys2Proof.Machine

/-! ### Fields of words -/

/-- A bit of a word whose field was set. -/
theorem bitOf_setFld (w : W32) (lo n v k : Nat) :
    bitOf (setFld w lo n v) k = if lo ≤ k ∧ k < lo + n then decide (k < 32) && v.testBit (k - lo) else bitOf w k := by
  have mask : ∀ j, (BitVec.ofNat 32 (2 ^ n - 1)).getLsbD j = (decide (j < 32) && decide (j < n)) := fun j => by
    rw [BitVec.getLsbD_ofNat, Nat.testBit_two_pow_sub_one]
  simp only [bitOf, setFld, BitVec.getLsbD_or, BitVec.getLsbD_and, BitVec.getLsbD_not, BitVec.getLsbD_shiftLeft, BitVec.getLsbD_ofNat, mask]
  by_cases hk : k < 32
  · by_cases hl : lo ≤ k
    · by_cases hn : k < lo + n
      · simp [hk, hl, hn, show k - lo < 32 by omega, show k - lo < n by omega, show ¬ k < lo by omega]
      · simp [hk, hl, hn, show ¬ k - lo < n by omega]
    · simp [hk, hl, show k < lo by omega]
  · have := BitVec.getLsbD_of_ge w k (by omega)
    simp [hk, this]

/-- A field, bit by bit. -/
theorem fld_testBit (w : W32) (lo n j : Nat) : (fld w lo n).testBit j = (decide (j < n) && bitOf w (lo + j)) := by
  rw [fld, Nat.testBit_mod_two_pow, BitVec.testBit_toNat, BitVec.getLsbD_ushiftRight, bitOf]

/-- A field reads back. -/
theorem fld_setFld (w : W32) {lo n v : Nat} (hv : v < 2 ^ n) (h : lo + n ≤ 32) : fld (setFld w lo n v) lo n = v := by
  refine Nat.eq_of_testBit_eq fun j => ?_
  rw [fld_testBit, bitOf_setFld]
  by_cases hj : j < n
  · simp [hj, show lo + j < 32 by omega]
  · simp [hj, Nat.testBit_lt_two_pow (Nat.lt_of_lt_of_le hv (Nat.pow_le_pow_right (by decide) (Nat.not_lt.1 hj)))]

/-- A field of one bit. -/
theorem fld_one (w : W32) (k : Nat) : fld w k 1 = b2n (bitOf w k) := by
  refine Nat.eq_of_testBit_eq fun j => ?_
  rw [fld_testBit, b2n]
  cases j with
  | zero => cases bitOf w k <;> simp
  | succ j => cases bitOf w k <;> simp [Nat.testBit_succ]

/-! ### Fields of registers -/

theorem reg_setF_other (s : State) {a x : Nat} (lo n v : Nat) (h : x ≠ a) : (s.setF a lo n v).reg x = s.reg x :=
  State.reg_setReg_other s _ h

theorem reg_setB_other (s : State) {a x : Nat} (k : Nat) (b : Bool) (h : x ≠ a) : (s.setB a k b).reg x = s.reg x :=
  State.reg_setReg_other s _ h

theorem regF_setF (s : State) (a : Nat) {lo n v : Nat} (hv : v < 2 ^ n) (h : lo + n ≤ 32) : (s.setF a lo n v).regF a lo n = v := by
  rw [State.regF, State.setF, State.reg_setReg, fld_setFld _ hv h]

theorem regB_setB (s : State) (a : Nat) {k : Nat} (b : Bool) (h : k < 32) : (s.setB a k b).regB a k = b := by
  have bit : (b2n b).testBit 0 = b := by cases b <;> rfl
  rw [State.regB, State.setB, State.setF, State.reg_setReg, bitOf_setFld, if_pos (by omega), Nat.sub_self, bit, decide_eq_true h, Bool.true_and]

theorem regB_setF_other (s : State) (a : Nat) {lo n k : Nat} (v : Nat) (h : k < lo ∨ lo + n ≤ k) :
    (s.setF a lo n v).regB a k = s.regB a k := by
  rw [State.regB, State.setF, State.reg_setReg, bitOf_setFld, if_neg (by omega), State.regB]

/-! ### Pairs of registers -/

theorem reg64_lt (s : State) (a : Nat) : s.reg64 a < 2 ^ 64 := by
  have h1 := (s.reg a).isLt
  have h2 := (s.reg (a + 4)).isLt
  simp only [State.reg64, State.regN]
  omega

theorem regN_setRegN (s : State) (a v : Nat) : (s.setRegN a v).regN a = v % 2 ^ 32 := by
  rw [State.regN, State.setRegN, State.reg_setReg, BitVec.toNat_ofNat]

/-- A pair reads back what it can hold. -/
theorem reg64_setReg64 (s : State) (a v : Nat) : (s.setReg64 a v).reg64 a = v % 2 ^ 64 := by
  have lo : ((s.setRegN a v).setRegN (a + 4) (v / 0x100000000)).regN a = v % 2 ^ 32 := by
    rw [State.regN, State.setRegN, State.reg_setReg_other _ _ (by omega : a ≠ a + 4)]
    exact regN_setRegN s a v
  rw [State.reg64, State.setReg64, lo, regN_setRegN]
  omega

/-- A pair is what its two words are. -/
theorem reg64_congr {s t : State} {a : Nat} (h : s.reg a = t.reg a) (h4 : s.reg (a + 4) = t.reg (a + 4)) : s.reg64 a = t.reg64 a := by
  simp only [State.reg64, State.regN, h, h4]

/-! ### Writes of a gauge (R172, R173, R176) -/

section
variable {s : State} {ep g : Nat}

/-- Registers of one gauge lie apart. -/
theorem aGauge_ne {off off' : Nat} (h : off ≠ off') : aGauge ep g off ≠ aGauge ep g off' := by
  simp only [aGauge_eq]
  omega

theorem aGauge_add (ep g off n : Nat) : aGauge ep g off + n = aGauge ep g (off + n) := by
  simp only [aGauge_eq]
  omega

/-- GAUGE_CTL_WRITE of an endpoint's gauge. -/
theorem execGaugeCtlWrite_ctl (he : ep < 36) (hg : g < 8) (hs : s.served = true) (v : W32) :
    execGaugeCtlWrite ep g v s = .next (s.gaugeCtl ep g v) := onUnit_next s _ (by simp [gaugeOk, he, hg]) hs

/-- GAUGE_WRITE of one of the registers that it may name. -/
theorem execGaugeWrite_set {off : Nat} (he : ep < 36) (hg : g < 8) (ho : off ∈ [4, 8, 0x10, 0x14, 0x18, 0x1C]) (hs : s.served = true) (v : W32) :
    execGaugeWrite ep g off v s = .next (s.gaugeSet ep g off v) := by
  refine onUnit_next s _ ?_ hs
  simp only [List.mem_cons, List.not_mem_nil, or_false] at ho
  rcases ho with rfl | rfl | rfl | rfl | rfl | rfl <;> simp [gaugeOk, he, hg]

/-- A gauge that no collective has claimed takes a control word of a good CHUNK_LEN. -/
theorem gaugeCtl_takes {v : W32} (hc : s.regB (aGauge ep g 0xC) 2 = false) (lo : 64 ≤ fld v 8 13) (hi : fld v 8 13 ≤ 4096)
    (al : fld v 8 13 % 64 = 0) : s.gaugeCtl ep g v = s.setReg (aGauge ep g 0) (v &&& 0x001FFF07) := by
  simp only [State.gaugeCtl, hc, Bool.false_eq_true, if_false]
  exact if_neg (by omega)

/-- A claimed gauge ignores it. -/
theorem gaugeCtl_claimed (hc : s.regB (aGauge ep g 0xC) 2 = true) (v : W32) :
    s.gaugeCtl ep g v = (s.setB (aGauge ep g 0xC) 3 true).ignored clsGauge ep := by
  simp only [State.gaugeCtl, hc, if_true, State.gaugeIgnored]

/-- A gauge that counts, or is claimed, ignores a write of its other registers. -/
theorem gaugeSet_ignored (h : s.regB (aGauge ep g 0xC) 0 = true ∨ s.regB (aGauge ep g 0xC) 2 = true) (off : Nat) (v : W32) :
    s.gaugeSet ep g off v = (s.setB (aGauge ep g 0xC) 3 true).ignored clsGauge ep := by
  have busy : (s.regB (aGauge ep g 0xC) 0 || s.regB (aGauge ep g 0xC) 2) = true := by simpa using h
  simp only [State.gaugeSet, busy, if_true, State.gaugeIgnored]

/-- G_SEL of an idle gauge. -/
theorem gaugeSet_sel (ha : s.regB (aGauge ep g 0xC) 0 = false) (hc : s.regB (aGauge ep g 0xC) 2 = false) (v : W32) :
    s.gaugeSet ep g 4 v = (s.setReg (aGauge ep g 4) (v &&& 0x0000FFF7)).setB (aGauge ep g 0xC) 1 (!gaugeSelOk ep v) := by
  simp only [State.gaugeSet, ha, hc, Bool.or_self, Bool.false_eq_true, if_false, if_true]

/-- A LO word staged until its HI word is written (R554). -/
def State.staging (s : State) (a : Nat) (v : W32) : State := { s with staged := put s.staged a v }

theorem staging_staged (s : State) (a : Nat) (v d : W32) : look d (s.staging a v).staged a = v := look_put_same _ _ _ _

/-- The LO word of G_VAL or G_BYTES of an idle gauge. -/
theorem gaugeSet_lo {off : Nat} (ho : off = 0x10 ∨ off = 0x18) (ha : s.regB (aGauge ep g 0xC) 0 = false)
    (hc : s.regB (aGauge ep g 0xC) 2 = false) (v : W32) : s.gaugeSet ep g off v = s.staging (aGauge ep g off) v := by
  have idle : (s.regB (aGauge ep g 0xC) 0 || s.regB (aGauge ep g 0xC) 2) = false := by rw [ha, hc]; rfl
  rcases ho with rfl | rfl <;> simp [State.gaugeSet, idle, State.staging]

/-- Their HI word: the LO word is what was staged, if anything was. -/
theorem gaugeSet_hi {off : Nat} (ho : off = 0x10 ∨ off = 0x18) (ha : s.regB (aGauge ep g 0xC) 0 = false)
    (hc : s.regB (aGauge ep g 0xC) 2 = false) (v : W32) :
    (s.gaugeSet ep g (off + 4) v).reg (aGauge ep g off) = look (s.reg (aGauge ep g off)) s.staged (aGauge ep g off) ∧
    (s.gaugeSet ep g (off + 4) v).reg (aGauge ep g off + 4) = v := by
  have idle : (s.regB (aGauge ep g 0xC) 0 || s.regB (aGauge ep g 0xC) 2) = false := by rw [ha, hc]; rfl
  have regs : (s.gaugeSet ep g (off + 4) v).regs =
      ((s.setReg (aGauge ep g off) (look (s.reg (aGauge ep g off)) s.staged (aGauge ep g off))).setReg (aGauge ep g off + 4) v).regs := by
    have hi : aGauge ep g (off + 4) = aGauge ep g off + 4 := (aGauge_add ep g off 4).symm
    rcases ho with rfl | rfl <;> simp [State.gaugeSet, idle, hi] at hi ⊢
  unfold State.reg at *
  rw [regs]
  exact ⟨(State.reg_setReg_other _ v (Nat.ne_of_lt (Nat.lt_add_of_pos_right (by decide)))).trans (State.reg_setReg _ _ _), State.reg_setReg _ _ _⟩

/-- LO, then HI: the pair holds both. -/
theorem gaugeSet_pair {off : Nat} (ho : off = 0x10 ∨ off = 0x18) (ha : s.regB (aGauge ep g 0xC) 0 = false)
    (hc : s.regB (aGauge ep g 0xC) 2 = false) (lo hi : W32) :
    ((s.staging (aGauge ep g off) lo).gaugeSet ep g (off + 4) hi).reg64 (aGauge ep g off) = lo.toNat + 2 ^ 32 * hi.toNat := by
  obtain ⟨h1, h2⟩ := gaugeSet_hi (s := s.staging (aGauge ep g off) lo) ho ha hc hi
  simp only [State.reg64, State.regN, h1, h2, staging_staged]
  rfl

end

/-! ### What a gauge counts (R171, R177) -/

/-- Outside chunk mode every byte is counted and no boundary falls due. -/
theorem gaugeRun_unchunked (alg : Nat) (b : List Byte) (v n : Nat) :
    (gaugeRun alg 0 b v n).2.1 = n + b.length ∧ (gaugeRun alg 0 b v n).2.2.2 = false := by
  induction b generalizing v n with
  | nil => exact ⟨rfl, rfl⟩
  | cons x b ih =>
    simp only [gaugeRun, ne_eq, not_true_eq_false, false_and, if_false, List.length_cons]
    obtain ⟨hn, hd⟩ := ih (gaugeStep alg v x) (n + 1)
    exact ⟨by rw [hn]; omega, hd⟩

theorem setGaugeVal_pend (s : State) (ep g v : Nat) :
    (s.setGaugeVal ep g v).gaugePend = s.gaugePend ∧ (s.setGaugeVal ep g v).gaugeDue = s.gaugeDue := by
  unfold State.setGaugeVal
  split <;> exact ⟨rfl, rfl⟩

/-- What a gauge of which no boundary is due does with bytes. -/
theorem gaugeBytes_runs {s : State} {ep g : Nat} (b : List Byte) (hd : ep * 8 + g ∉ s.gaugeDue) {r : Nat × Nat × List Byte × Bool}
    (hr : gaugeRun (s.regF (aGauge ep g 0) 1 1) (if s.regB (aGauge ep g 0) 2 = true then s.regF (aGauge ep g 0) 8 13 else 0)
      (look [] s.gaugePend (ep * 8 + g) ++ b) (s.gaugeVal ep g) (s.reg64 (aGauge ep g 0x18)) = r) : s.gaugeBytes ep g b =
    { (s.setGaugeVal ep g r.1).setReg64 (aGauge ep g 0x18) (r.2.1 % 2 ^ 64) with
      gaugePend := if r.2.2.1.isEmpty = true then del s.gaugePend (ep * 8 + g) else put s.gaugePend (ep * 8 + g) r.2.2.1
      gaugeDue := if r.2.2.2 = true then ins s.gaugeDue (ep * 8 + g) else s.gaugeDue } := by
  subst hr
  have hc : s.gaugeDue.contains (ep * 8 + g) = false := by simpa using hd
  obtain ⟨hp, hq⟩ := setGaugeVal_pend s ep g (gaugeRun (s.regF (aGauge ep g 0) 1 1) (if s.regB (aGauge ep g 0) 2 = true then s.regF (aGauge ep g 0) 8 13 else 0)
      (look [] s.gaugePend (ep * 8 + g) ++ b) (s.gaugeVal ep g) (s.reg64 (aGauge ep g 0x18))).1
  simp only [State.gaugeBytes, hc, Bool.false_eq_true, if_false]
  simp only [State.setReg64, State.setRegN_gaugePend, State.setRegN_gaugeDue, hp, hq]

/-- Outside chunk mode bytes raise G_BYTES, and no boundary falls due. -/
theorem gaugeBytes_unchunked {s : State} {ep g : Nat} (b : List Byte) (hp : look [] s.gaugePend (ep * 8 + g) = [])
    (hd : ep * 8 + g ∉ s.gaugeDue) (hm : s.regB (aGauge ep g 0) 2 = false) :
    (s.gaugeBytes ep g b).reg64 (aGauge ep g 0x18) = (s.reg64 (aGauge ep g 0x18) + b.length) % 2 ^ 64 ∧
    (s.gaugeBytes ep g b).gaugeDue = s.gaugeDue := by
  rw [gaugeBytes_runs b hd rfl]
  simp only [hm, Bool.false_eq_true, if_false, hp, List.nil_append]
  obtain ⟨hn, hdue⟩ := gaugeRun_unchunked (s.regF (aGauge ep g 0) 1 1) b (s.gaugeVal ep g) (s.reg64 (aGauge ep g 0x18))
  simp only [hn, hdue, Bool.false_eq_true, if_false, and_true]
  exact (reg64_setReg64 _ _ _).trans (Nat.mod_mod _ _)

/-- A word written over itself. -/
theorem reg_setRegN_self (s : State) (a x : Nat) : (s.setRegN a (s.regN a)).reg x = s.reg x := by
  by_cases h : x = a
  · subst h
    rw [State.setRegN, State.reg_setReg, State.regN, BitVec.ofNat_toNat, BitVec.setWidth_eq]
  · exact State.reg_setReg_other s _ h

/-- A pair written over itself. -/
theorem reg_setReg64_self (s : State) (a x : Nat) : (s.setReg64 a (s.reg64 a)).reg x = s.reg x := by
  have h0 := (s.reg a).isLt
  have h4 := (s.reg (a + 4)).isLt
  have lo : BitVec.ofNat 32 (s.reg64 a) = s.reg a := by
    refine BitVec.eq_of_toNat_eq ?_
    simp only [State.reg64, State.regN, BitVec.toNat_ofNat]
    omega
  have hi : BitVec.ofNat 32 (s.reg64 a / 0x100000000) = s.reg (a + 4) := by
    refine BitVec.eq_of_toNat_eq ?_
    simp only [State.reg64, State.regN, BitVec.toNat_ofNat]
    omega
  simp only [State.setReg64, State.setRegN, lo, hi]
  by_cases e4 : x = a + 4
  · subst e4
    exact State.reg_setReg _ _ _
  · rw [State.reg_setReg_other _ _ e4]
    by_cases e : x = a
    · subst e
      exact State.reg_setReg _ _ _
    · exact State.reg_setReg_other _ _ e

/-- The running value written over itself. -/
theorem reg_setGaugeVal_self (s : State) (ep g x : Nat) : (s.setGaugeVal ep g (s.gaugeVal ep g)).reg x = s.reg x := by
  unfold State.setGaugeVal State.gaugeVal
  split
  · exact reg_setReg64_self s _ x
  · exact reg_setRegN_self s _ x

/-- A gauge that is given no bytes keeps every register. -/
theorem gaugeBytes_nil {s : State} {ep g : Nat} (hp : look [] s.gaugePend (ep * 8 + g) = []) (hd : ep * 8 + g ∉ s.gaugeDue) (x : Nat) :
    (s.gaugeBytes ep g []).reg x = s.reg x := by
  have count : (s.setGaugeVal ep g (s.gaugeVal ep g)).reg64 (aGauge ep g 0x18) = s.reg64 (aGauge ep g 0x18) :=
    reg64_congr (reg_setGaugeVal_self s ep g _) (reg_setGaugeVal_self s ep g _)
  rw [gaugeBytes_runs [] hd rfl]
  simp only [hp, List.append_nil, gaugeRun]
  rw [Nat.mod_eq_of_lt (reg64_lt s _), ← count]
  exact (reg_setReg64_self _ _ x).trans (reg_setGaugeVal_self s ep g x)

/-! ### The chunk boundary (R177) -/

/-- The registers of a gauge just after its chunk boundary: the running value has moved to G_CHUNK, G_CHUNKS has counted, and the running value
is that of an empty chunk. -/
def State.chunkMoved (s : State) (ep g : Nat) : State :=
  ((s.setReg64 (aGauge ep g 0x20) (s.gaugeVal ep g)).incWrap (aGauge ep g 0x28)).setGaugeVal ep g (gaugeInit (s.regF (aGauge ep g 0) 1 1))

section
variable {s : State} {ep g : Nat}

theorem gaugeChunk_reg {x : Nat} (h20 : x ≠ aGauge ep g 0x20) (h24 : x ≠ aGauge ep g 0x20 + 4) (h28 : x ≠ aGauge ep g 0x28) :
    ((s.setReg64 (aGauge ep g 0x20) (s.gaugeVal ep g)).incWrap (aGauge ep g 0x28)).reg x = s.reg x := by
  rw [State.incWrap, State.setRegN, State.reg_setReg_other _ _ h28, setReg64_other _ h20 h24]

/-- A running value reads back. -/
theorem setGaugeVal_crc64 (v : Nat) (h : s.regB (aGauge ep g 0) 1 = true) :
    (s.setGaugeVal ep g v).reg64 (aGauge ep g 0x10) = v % 2 ^ 64 := by
  rw [State.setGaugeVal, if_pos h, reg64_setReg64]

theorem setGaugeVal_crc32 (v : Nat) (h : s.regB (aGauge ep g 0) 1 = false) :
    (s.setGaugeVal ep g v).regN (aGauge ep g 0x10) = v % 2 ^ 32 := by
  rw [State.setGaugeVal, if_neg (by simp [h]), regN_setRegN]

/-- GAUGE_CHUNK_BOUNDARY of a gauge whose boundary is due, with no bytes waiting: what it leaves in the registers. -/
theorem execGaugeChunkBoundary_moves (he : ep < 36) (hg : g < 8) (hd : ep * 8 + g ∈ s.gaugeDue)
    (hp : look [] s.gaugePend (ep * 8 + g) = []) :
    ∃ t, execGaugeChunkBoundary ep g s = .next t ∧ ∀ x, t.reg x = (s.chunkMoved ep g).reg x := by
  have ctl : (s.setReg64 (aGauge ep g 0x20) (s.gaugeVal ep g)).regF (aGauge ep g 0) 1 1 = s.regF (aGauge ep g 0) 1 1 := by
    rw [State.regF, setReg64_other _ (aGauge_ne (by decide)) (by rw [aGauge_add]; exact aGauge_ne (by decide)), State.regF]
  have kept : (s.chunkMoved ep g).gaugePend = s.gaugePend ∧ (s.chunkMoved ep g).gaugeDue = s.gaugeDue := setGaugeVal_pend _ ep g _
  refine ⟨_, onUnit_next s _ (by simp [gaugeOk, he, hg]) (by simpa using hd), fun x => ?_⟩
  simp only [ctl]
  refine (gaugeBytes_nil (s := { s.chunkMoved ep g with gaugeDue := rem (s.chunkMoved ep g).gaugeDue (ep * 8 + g) }) ?_ ?_ x).trans rfl
  · exact (congrArg (look [] · (ep * 8 + g)) kept.1).trans hp
  · simp [rem]

/-- What G_CHUNK, the running value and G_CHUNKS hold after it. -/
theorem chunkMoved_parts (s : State) (ep g : Nat) :
    (s.chunkMoved ep g).reg64 (aGauge ep g 0x20) = s.gaugeVal ep g ∧
    (if s.regB (aGauge ep g 0) 1 = true then (s.chunkMoved ep g).reg64 (aGauge ep g 0x10) = 0
      else (s.chunkMoved ep g).regN (aGauge ep g 0x10) = 0xFFFFFFFF) ∧
    (s.chunkMoved ep g).regN (aGauge ep g 0x28) = (s.regN (aGauge ep g 0x28) + 1) % 2 ^ 32 := by
  have ne : ∀ {a b : Nat}, a ≠ b → aGauge ep g a ≠ aGauge ep g b := fun h => aGauge_ne h
  have alg : ((s.setReg64 (aGauge ep g 0x20) (s.gaugeVal ep g)).incWrap (aGauge ep g 0x28)).regB (aGauge ep g 0) 1 =
      s.regB (aGauge ep g 0) 1 := by
    rw [State.regB, gaugeChunk_reg (ne (by decide)) (by rw [aGauge_add]; exact ne (by decide)) (ne (by decide)), State.regB]
  have val : s.gaugeVal ep g < 2 ^ 64 := by
    unfold State.gaugeVal
    split
    · exact reg64_lt s _
    · exact Nat.lt_trans (s.reg (aGauge ep g 0x10)).isLt (by decide)
  refine ⟨?_, ?_, ?_⟩
  · have chunk : ∀ n ∈ [0x20, 0x24], (s.chunkMoved ep g).reg (aGauge ep g n) = (s.setReg64 (aGauge ep g 0x20) (s.gaugeVal ep g)).reg (aGauge ep g n) := by
      intro n hn
      have : n = 0x20 ∨ n = 0x24 := by simpa using hn
      rw [State.chunkMoved, setGaugeVal_other _ (ne (by omega)) (by rw [aGauge_add]; exact ne (by omega)), State.incWrap, State.setRegN,
        State.reg_setReg_other _ _ (ne (by omega))]
    rw [reg64_congr (chunk 0x20 (by simp)) (by rw [aGauge_add]; exact chunk 0x24 (by simp)), reg64_setReg64, Nat.mod_eq_of_lt val]
  · split
    · next h => rw [State.chunkMoved, setGaugeVal_crc64 _ (alg.trans h), State.regF, fld_one, ← State.regB, h]; rfl
    · next h =>
      have h := Bool.eq_false_iff.2 h
      rw [State.chunkMoved, setGaugeVal_crc32 _ (alg.trans h), State.regF, fld_one, ← State.regB, h]
      rfl
  · rw [State.regN, State.chunkMoved, setGaugeVal_other _ (ne (by decide)) (by rw [aGauge_add]; exact ne (by decide)), ← State.regN, State.incWrap,
      regN_setRegN, State.regN, setReg64_other _ (ne (by decide)) (by rw [aGauge_add]; exact ne (by decide)), ← State.regN]

end

end Sys2Proof.Machine
end

section
/-! Requests to pages, and writes of registers (R460, R465, R552, R553, R562). -/

namespace Sys2Proof.Machine

/-! ### Where pages lie (R566, R567) -/

/-- An address in one of the ranges of the link, STACK and TRANSLATION pages names the page and the offset that it is made of. -/
theorem pageAt_of_parts {a k i o cls : Nat} (ha : a = 0x1000 * (k + i) + o) (ho : o < 0x1000)
    (hk : k = 0x200 ∧ i < 76 ∧ cls = clsLink ∨ k = 0x300 ∧ i < 24 ∧ cls = clsStack ∨ k = 0x320 ∧ i < 17 ∧ cls = clsXl) :
    pageAt a = some (cls, i, o) := by
  have page : a / 0x1000 = k + i := by omega
  have offset : a % 0x1000 = o := by omega
  simp only [pageAt, page, offset, Bool.and_eq_true, decide_eq_true_eq]
  rcases hk with ⟨rfl, hi, rfl⟩ | ⟨rfl, hi, rfl⟩ | ⟨rfl, hi, rfl⟩
  all_goals
    repeat rw [if_neg (by omega)]
    rw [if_pos (by omega), Nat.add_sub_cancel_left]

theorem pageAt_link {l : Nat} (hl : l < 76) : pageAt (rg clsLink l 0) = some (clsLink, l, 0) :=
  pageAt_of_parts (k := 0x200) (by rw [show rg clsLink l 0 = 0x200000 + 0x1000 * l + 0 from rfl]; omega) (by decide) (.inl ⟨rfl, hl, rfl⟩)

theorem rgStack_eq (p o : Nat) : rg clsStack p o = 0x300000 + 0x1000 * p + o := rfl

theorem pageAt_stack {p o : Nat} (hp : p < 24) (ho : o < 0x1000) : pageAt (rg clsStack p o) = some (clsStack, p, o) :=
  pageAt_of_parts (k := 0x300) (by rw [rgStack_eq]; omega) ho (.inr (.inl ⟨rfl, hp, rfl⟩))

theorem pageAt_xl {c : Nat} (hc : c < 17) : pageAt (rg clsXl c 0) = some (clsXl, c, 0) :=
  pageAt_of_parts (k := 0x320) (by rw [rgXl_eq]; omega) (by decide) (.inr (.inr ⟨rfl, hc, rfl⟩))

/-! ### Requests (R562) -/

/-- A request of a page that responds. -/
theorem pageRow_page {page cls inst off : Nat} {s : State} (h : pageAt page = some (cls, inst, off)) (r : s.responds 0 page = true)
    (f : Nat → Nat → State → State) : pageRow page s f = .next (f cls inst s) := by
  simp only [pageRow, h]
  exact whenB_next s (f cls inst) r

section
variable {s : State} {c : Nat} (hc : c < 17) (r : s.responds 0 (rg clsXl c 0) = true)
include hc r

theorem execEnReq_xl : execEnReq (rg clsXl c 0) s = .next (s.enReqOn clsXl c id) := pageRow_page (pageAt_xl hc) r _
theorem execStopReq_xl : execStopReq (rg clsXl c 0) s = .next (s.stopReqOn clsXl c id) := pageRow_page (pageAt_xl hc) r _
theorem execIsolate_xl : execIsolate (rg clsXl c 0) s = .next (s.ignored clsXl c) := pageRow_page (pageAt_xl hc) r _

theorem execEnReq_off (h : s.pst clsXl c = stOff) : execEnReq (rg clsXl c 0) s = .next (s.setPst clsXl c stStarting) := by
  rw [execEnReq_xl hc r, State.enReqOn, if_pos (.inl h), id]

theorem execEnReq_stopping (h : s.pst clsXl c = stStopping) : execEnReq (rg clsXl c 0) s = .next (s.setPendOn clsXl c true) := by
  rw [execEnReq_xl hc r, State.enReqOn, if_neg (by simp [h]), if_pos h]

theorem execStopReq_stopping (h : s.pst clsXl c = stStopping) : execStopReq (rg clsXl c 0) s = .next (s.setPendOn clsXl c false) := by
  rw [execStopReq_xl hc r, State.stopReqOn, if_neg (by simp [h]), if_neg (by simp [h]), if_pos h]

theorem execStopReq_on (h : s.pst clsXl c = stOn) : execStopReq (rg clsXl c 0) s = .next (s.setPst clsXl c stStopping) := by
  rw [execStopReq_xl hc r, State.stopReqOn, if_neg (by simp [h]), if_pos (.inl h), id]

end

/-- ISOLATE of a link's page. -/
theorem execIsolate_link {s : State} {l : Nat} (hl : l < 76) (r : s.responds 0 (rg clsLink l 0) = true) :
    execIsolate (rg clsLink l 0) s = .next (if s.pst clsLink l = stOff then s.setPst clsLink l stIsolated
      else if s.pst clsLink l = stIsolated then s else s.ignored clsLink l) := pageRow_page (pageAt_link hl) r _

/-! ### What a gauge's page reads (R172) -/

/-- The HI word of the running value of a 32-bit gauge reads 0. -/
theorem pageWord_gaugeHi {s : State} {ep g : Nat} (hg : g < 8) (h : s.regB (aGauge ep g 0) 1 = false) :
    s.pageWord clsGauge ep (0x100 + 0x40 * g + 0x14) = 0 := by
  have ctl : rg clsGauge ep (0x100 + 0x40 * g + 0x14 - 0x14) = aGauge ep g 0 := by
    rw [Nat.add_sub_cancel]; rfl
  have hi : clsGauge = clsGauge ∧ 0x100 ≤ 0x100 + 0x40 * g + 0x14 ∧ 0x100 + 0x40 * g + 0x14 < 0x300 ∧
      (0x100 + 0x40 * g + 0x14 - 0x100) % 0x40 = 0x14 ∧ s.regB (rg clsGauge ep (0x100 + 0x40 * g + 0x14 - 0x14)) 1 = false :=
    ⟨rfl, by omega, by omega, by omega, ctl ▸ h⟩
  rw [State.pageWord, if_neg (by simp), if_neg (by simp), if_neg (by simp), if_neg (by simp), if_neg (by simp), if_pos hi]

/-! ### A write that arrives (R460, R509, R527) -/

/-- A TLP that is counted leaves the registers outside its counter. -/
theorem tlpIn_other (s : State) {x : Nat} (h : x ≠ 0x2F0120) (h4 : x ≠ 0x2F0124) : s.tlpIn.reg x = s.reg x := setReg64_other _ h h4

theorem tlpIn_stage (s : State) : s.tlpIn.stage = s.stage := by
  rw [State.stage, State.regF, tlpIn_other s (by decide) (by decide)]
  rfl

theorem tlpIn_ideIn (s : State) (fn : Nat) (tlp : Tlp) : s.tlpIn.ideIn fn tlp = s.ideIn fn tlp := by
  have entry : s.tlpIn.reg (aPt fn 0) = s.reg (aPt fn 0) := tlpIn_other s (by unfold aPt; omega) (by unfold aPt; omega)
  have secure : s.tlpIn.ideSecure = s.ideSecure := by
    funext k
    rw [State.ideSecure, State.regB, tlpIn_other s (by decide) (by decide)]
    rfl
  rw [State.ideIn, entry, secure]
  rfl

/-- Every page responds at RUNTIME. -/
theorem responds_runtime {s : State} (h : s.stage = 4) (fn a : Nat) : s.responds fn a = true := by
  simp [State.responds, h]

section
variable {s : State} {fn off : Nat} {b : List Byte} {tlp : Tlp}

/-- What a write of a function that exists does. -/
theorem execRegisterWrite_arrives (hf : fn < 17) (up : s.fnUp fn = true) (st : s.stage ≠ 6) : execRegisterWrite fn off b tlp s = .next
    (if tlp.ats = true then s.tlpIn.urSent
      else if (inBar off && !s.ideIn fn tlp) = true then s.tlpIn else s.tlpIn.hostWrite fn off b) := by
  refine (onUnit_next s _ (by simpa using hf) (by simp [up, st])).trans ?_
  simp only [tlpIn_ideIn]

/-- A write of BAR0 that IDE lets in. -/
theorem execRegisterWrite_bar0 (hf : fn < 17) (up : s.fnUp fn = true) (st : s.stage = 4) (ats : tlp.ats = false)
    (ide : s.ideIn fn tlp = true) (ho : off < 2 ^ 32) : execRegisterWrite fn off b tlp s = .next (s.tlpIn.bar0Write fn off b) := by
  rw [execRegisterWrite_arrives hf up (by omega), if_neg (by simp [ats]), if_neg (by simp [ide]), State.hostWrite, if_pos ho]

/-- A write with an ATS translation type. -/
theorem execRegisterWrite_ats (hf : fn < 17) (up : s.fnUp fn = true) (st : s.stage ≠ 6) (ats : tlp.ats = true) :
    execRegisterWrite fn off b tlp s = .next s.tlpIn.urSent := by
  rw [execRegisterWrite_arrives hf up st, if_pos ats]

/-- A write outside the Secure stream that IDE_REQ asks for. -/
theorem execRegisterWrite_discarded (hf : fn < 17) (up : s.fnUp fn = true) (st : s.stage ≠ 6) (ats : tlp.ats = false)
    (bar : inBar off = true) (ide : s.ideIn fn tlp = false) : execRegisterWrite fn off b tlp s = .next s.tlpIn := by
  rw [execRegisterWrite_arrives hf up st, if_neg (by simp [ats]), if_pos (by simp [bar, ide])]

/-- With IDE_REQ set, a TLP outside every Secure stream does not come in. -/
theorem ideIn_refused (req : bitOf (s.reg (aPt fn 0)) 4 = true)
    (h : tlp.ide = none ∨ ∃ k, tlp.ide = some k ∧ s.regB (rg clsSec 0 0x110) k = false) : s.ideIn fn tlp = false := by
  rcases h with h | ⟨k, h, hk⟩
  · simp [State.ideIn, req, h]
  · simp [State.ideIn, req, h, State.ideSecure, hk]

/-- A function that does not exist takes no write. -/
theorem execRegisterWrite_absent (up : s.fnUp fn = false) : execRegisterWrite fn off b tlp s = .next s := by
  simp [execRegisterWrite, onUnit, up]

end

/-! ### A word of a STACK page (R552, R553) -/

/-- The number that its own four bytes spell. -/
theorem ofNat_at'_leBytes (v : W32) : BitVec.ofNat 32 (at' (leBytes 4 v.toNat) 0 4) = v := by
  have hv := v.isLt
  refine BitVec.eq_of_toNat_eq ?_
  simp only [at', leBytes, List.drop_zero, List.take_succ_cons, List.take_zero, leNat, BitVec.toNat_ofNat]
  omega

section
variable {s : State} {p off : Nat} (hp : p < 24) (ho : off < 0x1000)
include hp ho

theorem cmdAt_stack : cmdAt 0 (rg clsStack p off) = none := by
  rw [rgStack_eq, cmdAt, if_pos rfl, if_neg (by omega)]

/-- A word written into a STACK page, past its header. -/
theorem wordWrite_stack (st : s.stage = 4) (lo : 0x100 ≤ off) (v : W32) :
    s.wordWrite 0 (rg clsStack p off) v = s.plainWrite clsStack p off v := by
  have at0 : s.wordAt 0 (rg clsStack p off) = some (rg clsStack p off) := by
    rw [State.wordAt, if_pos rfl, if_pos (by rw [rgStack_eq]; omega)]
  rw [State.wordWrite, responds_runtime st]
  simp only [Bool.not_true, Bool.false_eq_true, if_false, cmdAt_stack hp ho, at0, pageAt_stack hp ho]
  rw [State.pageWrite, if_neg (by omega), if_neg (by omega)]
  simp

/-- Four bytes of a STACK page. -/
theorem bar0Write_stack (st : s.stage = 4) (al : off % 4 = 0) (lo : 0x100 ≤ off) (v : W32) :
    s.bar0Write 0 (rg clsStack p off) (leBytes 4 v.toNat) = s.plainWrite clsStack p off v := by
  have al : rg clsStack p off % 4 = 0 := by rw [rgStack_eq]; omega
  simp [State.bar0Write, cmdAt_stack hp ho, isMul, al, State.alignedWrite, State.wordsWrite, ofNat_at'_leBytes, wordWrite_stack hp ho st lo]

/-- Two bytes of a STACK page are ignored. -/
theorem bar0Write_stackShort (st : s.stage = 4) (x y : Byte) :
    s.bar0Write 0 (rg clsStack p off) [x, y] = s.ignored clsStack p := by
  have page : pageOf 0 (rg clsStack p off) = some (clsStack, p) := by
    rw [pageOf, if_pos rfl, pageAt_stack hp ho]
    rfl
  have member : ¬ 0x480000 ≤ rg clsStack p off := by rw [rgStack_eq]; omega
  simp [State.bar0Write, cmdAt_stack hp ho, member, page, responds_runtime st]

end

/-- A register that is no half of a pair takes its RW bits, loses the W1C bits written 1, and is all that changes. -/
theorem plainWrite_word {s : State} {cls inst off : Nat} (v : W32) (h : pairLo cls inst off ≠ some true)
    (h4 : off < 4 ∨ pairLo cls inst (off - 4) ≠ some true) :
    s.plainWrite cls inst off v = s.setReg (rg cls inst off) (wordAfter cls inst off (s.reg (rg cls inst off)) v) := by
  rw [State.plainWrite, if_neg h, if_neg (by rintro ⟨hlo, hpair⟩; exact h4.elim (by omega) (absurd hpair))]

/-! ### Command slots (R465, R470) -/

theorem incSat_slotMem (s : State) (a : Nat) : (s.incSat a).slotMem = s.slotMem := by
  unfold State.incSat
  split <;> rfl

/-- Bytes written into slots stand there. -/
theorem slotWrite_slotMem (s : State) (c o : Nat) (b : List Byte) :
    (s.slotWrite c o b).slotMem = writeBytes s.slotMem (c * 0x4000 + o) b := by
  unfold State.slotWrite
  simp only
  split
  · rfl
  · split
    · rfl
    · exact incSat_slotMem _ _

/-- Where PF0 sees the slots of a context. -/
theorem rgSlot_eq {fn : Nat} (o : Nat) (h16 : fn ≤ 16) : rg clsCe fn 0x1000 + o = 0x10000 + 0x8000 * fn + 0x1000 + o := by
  rw [rg, pageBase, if_neg (by decide), if_neg (by decide), if_pos rfl, if_pos (by omega)]

theorem slot_inBar0 {fn o : Nat} (h16 : fn ≤ 16) (ho : o < 0x4000) : rg clsCe fn 0x1000 + o < 2 ^ 32 := by
  rw [rgSlot_eq o h16]
  omega

section
variable {s : State} {fn o : Nat} {b : List Byte} (h1 : 1 ≤ fn) (h16 : fn ≤ 16) (ho : o < 0x4000) (hb : b ≠ []) (one : o / 64 = (o + b.length - 1) / 64)
include h1 h16 ho hb one

/-- A function's own slots, within one slot. -/
theorem bar0Write_slot (st : s.stage = 4) : s.bar0Write fn (0x1000 + o) b = s.slotWrite fn o b := by
  have cmd : cmdAt fn (0x1000 + o) = some (fn, o) := by
    rw [cmdAt, if_neg (by omega), if_pos (by omega), Nat.add_sub_cancel_left]
  have within : b.length ≠ 0 ∧ o / 64 = (o + b.length - 1) / 64 := ⟨by simpa using hb, one⟩
  simp only [State.bar0Write, cmd]
  rw [if_pos within, if_pos ⟨trivial, responds_runtime st _ _⟩]

/-- PF0 writes the slots of no other context. -/
theorem bar0Write_otherSlot : s.bar0Write 0 (rg clsCe fn 0x1000 + o) b = s := by
  have cmd : cmdAt 0 (rg clsCe fn 0x1000 + o) = some (fn, o) := by
    rw [rgSlot_eq o h16, cmdAt, if_pos rfl, if_pos (by omega)]
    exact congrArg some (Prod.ext (by dsimp only; omega) (by dsimp only; omega))
  have within : b.length ≠ 0 ∧ o / 64 = (o + b.length - 1) / 64 := ⟨by simpa using hb, one⟩
  simp only [State.bar0Write, cmd]
  rw [if_pos within, if_neg (by omega)]

end

end Sys2Proof.Machine
end

section
/-! Cages, and what a removed module does to its link or port (R251, R562, R577). -/

namespace Sys2Proof.Machine

/-! ### Registers below the gauge pages -/

theorem feedUnit_below (s : State) {x : Nat} (ep kind unit dir : Nat) (b : List Byte) (h : x < 0x2C0000) :
    (s.feedUnit ep kind unit dir b).reg x = s.reg x := by
  unfold State.feedUnit
  refine foldl_keeps (fun t : State => t.reg x) _ (fun t g => ?_) _ s
  simp only
  split
  · exact gaugeBytes_below t ep g b h
  · rfl

theorem aGauge_above (ep g off : Nat) : 0x2C0000 ≤ aGauge ep g off := by
  rw [aGauge_eq]
  omega

/-- The gauges of a link lie above its page. -/
theorem releaseGauges_below (s : State) {x : Nat} (l : Nat) (h : x < 0x2C0000) : (s.claimGauges l false).reg x = s.reg x := by
  have ne : ∀ ep g off, x ≠ aGauge ep g off := fun ep g off => Nat.ne_of_lt (Nat.lt_of_lt_of_le h (aGauge_above ep g off))
  unfold State.claimGauges
  split
  · refine foldl_keeps (fun t : State => t.reg x) _ (fun t d => ?_) _ s
    simp only [Bool.false_eq_true, if_false]
    rw [State.setRegN, State.reg_setReg_other _ _ (ne _ _ _), reg_setB_other _ _ _ (ne _ _ _)]
  · rfl

/-! ### The state of a link's page (R562) -/

section
variable {x : Nat} (hx : x < 0x2C0000) (hdr : x % 0x1000 = 0xC)

theorem sendFlits_reg (s : State) (l f x : Nat) (fs : List TxFlit) : (s.sendFlits l f fs).reg x = s.reg x := by
  induction f generalizing s fs with
  | zero => rfl
  | succ f ih =>
    unfold State.sendFlits
    split
    · rfl
    · exact (ih _ _).trans rfl

theorem noteCredit_reg (s : State) (dir x : Nat) : (s.noteCredit dir).reg x = s.reg x := rfl

include hdr

/-- The STATE word of a page is no register past its header. -/
theorem header_ne_rgLink (l : Nat) {off : Nat} (h : 0x100 ≤ off ∧ off < 0x1000) : x ≠ rg clsLink l off := by
  rw [show rg clsLink l off = 0x200000 + 0x1000 * l + off from rfl]
  omega

theorem occSync_header (s : State) (l : Nat) : (s.occSync l).reg x = s.reg x := by
  have ne : ∀ off, 0x100 ≤ off ∧ off < 0x1000 → x ≠ aLink l off := fun off h => header_ne_rgLink hdr l h
  unfold State.occSync
  rw [reg_setF_other _ _ _ _ (ne _ (by decide)), reg_setF_other _ _ _ _ (ne _ (by decide)), reg_setF_other _ _ _ _ (ne _ (by decide))]

include hx

theorem linkPump_header (s : State) (l : Nat) : (s.linkPump l).reg x = s.reg x := by
  unfold State.linkPump
  split
  · rfl
  · simp only
    refine (foldl_keeps (fun t : State => t.reg x) _ (fun t e => feedUnit_below t _ _ _ _ _ hx) _ _).trans ?_
    rw [State.add64, setReg64_other _ (header_ne_rgLink hdr l (by decide)) (header_ne_rgLink hdr l (off := 0x114) (by decide))]
    exact (sendFlits_reg _ _ _ _ _).trans rfl

theorem takeLink_header (s : State) (p : WirePkt) (dir : Nat) : (s.takeLink p dir).reg x = s.reg x := by
  unfold State.takeLink
  split
  · rfl
  · exact (linkPump_header hx hdr _ _).trans rfl

/-- A link that leaves its bundle keeps the STATE words. -/
theorem linkLeave_header (s : State) (l : Nat) : (s.linkLeave l).reg x = s.reg x := by
  unfold State.linkLeave
  simp only
  refine (foldl_keeps (fun t : State => t.reg x) _ (fun t p => takeLink_header hx hdr t p _) _ _).trans ?_
  rw [noteCredit_reg, occSync_header hdr, reg_setB_other _ _ _ (header_ne_rgLink hdr l (by decide))]
  rfl

end

/-! ### Faults of a page (R562) -/

theorem pst_setPst (s : State) (cls inst : Nat) {v : Nat} (h : v < 8) : (s.setPst cls inst v).pst cls inst = v := regF_setF s _ h (by decide)

/-- A page that is ON, or STARTING without PEND_OFF, is FAULTED by a fault, and nothing else happens. -/
theorem pageFault_faults {s : State} {cls inst : Nat} (h : s.pst cls inst = stOn ∨ s.pst cls inst = stStarting ∧ s.pendOff cls inst = false)
    (atStop : State → State) : s.pageFault cls inst atStop = s.setPst cls inst stFaulted := by
  rcases h with on | ⟨starting, pend⟩
  · simp [State.pageFault, on]
  · have pend : (s.setPst cls inst stFaulted).pendOff cls inst = false := (regB_setF_other s _ _ (by decide)).trans pend
    simp [State.pageFault, starting, pend]

theorem pst_congr {s t : State} {cls inst : Nat} (h : t.reg (rg cls inst 0xC) = s.reg (rg cls inst 0xC)) : t.pst cls inst = s.pst cls inst := by
  rw [State.pst, State.regF, h]
  rfl

theorem pendOff_congr {s t : State} {cls inst : Nat} (h : t.reg (rg cls inst 0xC) = s.reg (rg cls inst 0xC)) :
    t.pendOff cls inst = s.pendOff cls inst := by
  rw [State.pendOff, State.regB, h]
  rfl

/-- A link whose page was ON, or STARTING with no stop pending, is FAULTED. -/
theorem linkFault_faults {s : State} {n : Nat} (reason : Nat) (hn : n < 76)
    (h : s.pst clsLink n = stOn ∨ s.pst clsLink n = stStarting ∧ s.pendOff clsLink n = false) : (s.linkFault n reason).pst clsLink n = stFaulted := by
  have addr : rg clsLink n 0xC = 0x200000 + 0x1000 * n + 0xC := rfl
  have page : (s.setF (aLink n 0x104) 12 4 reason).reg (rg clsLink n 0xC) = s.reg (rg clsLink n 0xC) :=
    reg_setF_other s _ _ _ (header_ne_rgLink (by omega) n (by decide))
  have faulted := pageFault_faults (s := s.setF (aLink n 0x104) 12 4 reason) (by rwa [pst_congr page, pendOff_congr page]) id
  unfold State.linkFault
  simp only [faulted]
  split
  · rw [pst_congr ((linkLeave_header (by omega) (by omega) _ n).trans (releaseGauges_below _ n (by omega)))]
    exact pst_setPst _ _ _ (by decide)
  · exact pst_setPst _ _ _ (by decide)

/-! ### A port that is removed (R235, R251) -/

section
variable {x : Nat} (hx : x < 0x2C0000)
include hx

omit hx in
theorem emit_reg (s : State) (m : OutMsg) (x : Nat) : (s.emit m).reg x = s.reg x := rfl

theorem hwEmit_below (s : State) (p : Nat) (d : Dgram) : (s.hwEmit p d).reg x = s.reg x := feedUnit_below _ _ _ _ _ _ hx

theorem hwSendDgram_below (s : State) (p : Nat) (d : Dgram) : (s.hwSendDgram p d).reg x = s.reg x := by
  unfold State.hwSendDgram
  simp only
  split
  · rfl
  · exact hwEmit_below hx s p _

/-- A request for rows asks, and counts nothing. -/
theorem hwRequest_below (s : State) (h : HwStream) (r : HwRange) (frames : List Nat) : (s.hwRequest h r 1 frames).reg x = s.reg x := by
  unfold State.hwRequest
  split
  · exact foldl_keeps (fun t : State => t.reg x) _ (fun t f => foldl_keeps (fun t : State => t.reg x) _ (fun u e => emit_reg u _ x) _ t) _ s
  · refine foldl_keeps (fun t : State => t.reg x) _ (fun t e => ?_) _ s
    exact hwSendDgram_below hx t _ _

/-- The streams of a port that move to another send their requests there. -/
theorem hwMove_below (s : State) (h : HwStream) : (s.hwMove h).reg x = s.reg x := by
  unfold State.hwMove
  split
  · rfl
  · split
    · rfl
    · extract_lets slot h' t
      split
      · rfl
      · exact (foldl_keeps (fun u : State => u.reg x) _ (fun u e => hwRequest_below hx u _ _ _) _ t).trans rfl

end

/-- Registers of ports lie apart. -/
theorem aPort_ne {p q off off' : Nat} (ho : off < 0x1000) (ho' : off' < 0x1000) (h : p ≠ q ∨ off ≠ off') : aPort p off ≠ aPort q off' := by
  show 0x280000 + 0x1000 * p + off ≠ 0x280000 + 0x1000 * q + off'
  omega

/-- The counts of streams stand in a field of PORT_STAT. -/
theorem hwSync_port (s : State) (n : Nat) :
    s.hwSync.reg (aPort n 0xC) = s.reg (aPort n 0xC) ∧ s.hwSync.regB (aPort n 0x104) 1 = s.regB (aPort n 0x104) 1 := by
  unfold State.hwSync
  constructor
  · refine foldl_keeps (fun t : State => t.reg (aPort n 0xC)) _ (fun t p => ?_) _ s
    exact reg_setF_other t _ _ _ (aPort_ne (by decide) (by decide) (.inr (by decide)))
  · refine foldl_keeps (fun t : State => t.regB (aPort n 0x104) 1) _ (fun t p => ?_) _ s
    by_cases h : p = n
    · subst h
      exact regB_setF_other t _ _ (by decide)
    · exact congrArg (bitOf · 1) (reg_setF_other t _ _ _ (aPort_ne (by decide) (by decide) (.inl (Ne.symm h))))

/-- A port that leaves the bonds keeps its STATE word and its MODULE_PRESENT. -/
theorem portLeave_port (s : State) {n : Nat} (hn : n < 32) :
    (s.portLeave n).reg (aPort n 0xC) = s.reg (aPort n 0xC) ∧ (s.portLeave n).regB (aPort n 0x104) 1 = s.regB (aPort n 0x104) 1 := by
  have moves : ∀ (l : List HwStream) (t : State) (off : Nat), off < 0x1000 →
      (l.foldl (fun s h => s.hwMove h) t).reg (aPort n off) = t.reg (aPort n off) := fun l t off ho =>
    foldl_keeps (fun u : State => u.reg (aPort n off)) _ (fun u h => hwMove_below (by show 0x280000 + 0x1000 * n + off < 0x2C0000; omega) u h) l t
  have ne : aPort n 0xC ≠ aPort n 0x104 := aPort_ne (by decide) (by decide) (.inr (by decide))
  unfold State.portLeave
  extract_lets t u
  obtain ⟨header, present⟩ := hwSync_port ((u.hws.filter (fun h => h.port == n)).foldl (fun s h => s.hwMove h) u) n
  constructor
  · rw [header, moves _ _ _ (by decide)]
    exact (reg_setB_other _ _ _ ne).trans (reg_setB_other _ _ _ ne)
  · rw [present, State.regB, moves _ _ _ (by decide)]
    exact (regB_setF_other (s.setB (aPort n 0x104) 0 false) _ _ (by decide)).trans (regB_setF_other s _ _ (by decide))

/-! ### Cages (R562, R577) -/

theorem atTime_reg (s : State) (now x : Nat) : (s.atTime now).reg x = s.reg x := by
  unfold State.atTime
  split <;> rfl

theorem atTime_pst (s : State) (now cls inst : Nat) : (s.atTime now).pst cls inst = s.pst cls inst := pst_congr (atTime_reg s now _)

section
variable {s : State} {n : Nat} (now : Nat)

/-- A removed link module faults a link that starts or runs. -/
theorem execCageRemove_link (hn : n < 76) (h : s.pst clsLink n ∈ [stOn, stStarting, stStopping]) :
    execCageRemove true n now s = .next ((s.atTime now).linkFault n 7) := by
  have runs : ((s.atTime now).linkUp n || (s.atTime now).pst clsLink n == stStarting) = true := by
    rw [State.linkUp, State.isOn, atTime_pst]
    simp only [List.mem_cons, List.not_mem_nil, or_false] at h
    rcases h with h | h | h <;> rw [h] <;> rfl
  refine (onUnit_next s _ (by simpa using hn) rfl).trans ?_
  simp only [runs, if_true]

/-- Any other link stays as it is. -/
theorem execCageRemove_idleLink (hn : n < 76) (h : s.pst clsLink n ∉ [stOn, stStarting, stStopping]) :
    execCageRemove true n now s = .next (s.atTime now) := by
  have idle : ((s.atTime now).linkUp n || (s.atTime now).pst clsLink n == stStarting) = false := by
    simp only [List.mem_cons, List.not_mem_nil, or_false, not_or] at h
    obtain ⟨on, starting, stopping⟩ := h
    simp [State.linkUp, State.isOn, atTime_pst, on, starting, stopping]
  refine (onUnit_next s _ (by simpa using hn) rfl).trans ?_
  simp only [idle, if_true, Bool.false_eq_true, if_false]

/-- A port without its module: MODULE_PRESENT clear, and FAULTED. -/
def State.portPulled (s : State) (n : Nat) : State := (s.setB (aPort n 0x104) 1 false).setPst clsPort n stFaulted

theorem portPulled_pst (s : State) (n : Nat) : (s.portPulled n).pst clsPort n = stFaulted := pst_setPst _ _ _ (by decide)

theorem portPulled_present (s : State) (n : Nat) : (s.portPulled n).regB (aPort n 0x104) 1 = false := by
  have ne : aPort n 0x104 ≠ aPort n 0xC := aPort_ne (by decide) (by decide) (.inr (by decide))
  exact (congrArg (bitOf · 1) (reg_setF_other _ _ _ _ ne)).trans (regB_setB s _ false (by decide))

/-- A removed port module faults a port that starts or runs; one that runs leaves the bonds. -/
theorem execCageRemove_port (hn : n < 32) (h : s.pst clsPort n = stOn ∨ s.pst clsPort n = stStarting ∧ s.pendOff clsPort n = false) :
    execCageRemove false n now s =
      .next (if s.isOn clsPort n = true then ((s.atTime now).portPulled n).portLeave n else (s.atTime now).portPulled n) := by
  have ne : aPort n 0xC ≠ aPort n 0x104 := aPort_ne (by decide) (by decide) (.inr (by decide))
  have word : ((s.atTime now).setB (aPort n 0x104) 1 false).reg (rg clsPort n 0xC) = s.reg (rg clsPort n 0xC) :=
    (reg_setB_other _ _ _ ne).trans (atTime_reg s now _)
  have pst := pst_congr word
  have runs : (s.isOn clsPort n || s.pst clsPort n == stStarting) = true := by
    rcases h with h | ⟨h, -⟩ <;> rw [State.isOn, h] <;> rfl
  have on : (s.atTime now).isOn clsPort n = s.isOn clsPort n := by rw [State.isOn, atTime_pst, State.isOn]
  have faulted := pageFault_faults (s := (s.atTime now).setB (aPort n 0x104) 1 false) (by rwa [pst, pendOff_congr word]) (fun s => s.portAtStop n)
  refine (onUnit_next s _ (by simpa using hn) rfl).trans ?_
  simp only [Bool.false_eq_true, if_false, on, pst, runs, if_true, faulted]
  rfl

end

theorem cageRemove_port_parts {s : State} {n : Nat} (now : Nat) (hn : n < 32)
    (h : s.pst clsPort n = stOn ∨ s.pst clsPort n = stStarting ∧ s.pendOff clsPort n = false) :
    ∃ t, execCageRemove false n now s = .next t ∧ t.regB (aPort n 0x104) 1 = false ∧ t.pst clsPort n = stFaulted := by
  refine ⟨_, execCageRemove_port now hn h, ?_⟩
  split
  · obtain ⟨header, present⟩ := portLeave_port ((s.atTime now).portPulled n) hn
    exact ⟨present.trans (portPulled_present _ n), (pst_congr header).trans (portPulled_pst _ n)⟩
  · exact ⟨portPulled_present _ n, portPulled_pst _ n⟩

end Sys2Proof.Machine
end

section
/-! Gauges, pages, register writes, cages and coolant: O58. -/

namespace Sys2Proof.Machine

/-! ### The two rows of a gauge -/

section
variable {s : State} {ep g : Nat} (he : ep < 36) (hg : g < 8)
include he hg

/-- GAUGE_EN_CHANGE of a gauge with no bytes waiting and no boundary due: ACTIVE follows EN. -/
theorem execGaugeEnChange_active (hp : look [] s.gaugePend (ep * 8 + g) = []) (hd : ep * 8 + g ∉ s.gaugeDue) :
    execGaugeEnChange ep g s =
      .next (s.setB (aGauge ep g 0xC) 0 (s.regB (aGauge ep g 0) 0 && s.isOn clsGauge ep && !s.regB (aGauge ep g 0xC) 1)) :=
  onUnit_next s _ (by simp [gaugeOk, he, hg]) (by simp [hp, hd])

/-- A gauge that no collective has claimed takes its control word and keeps its values and G_SEL. -/
theorem gaugeCtlWrite_takes (hs : s.served = true) (hc : s.regB (aGauge ep g 0xC) 2 = false) {v : W32} (lo : 64 ≤ fld v 8 13)
    (hi : fld v 8 13 ≤ 4096) (al : fld v 8 13 % 64 = 0) :
    ∃ t, execGaugeCtlWrite ep g v s = .next t ∧ t.reg (aGauge ep g 0) = v &&& 0x001FFF07 ∧
      t.reg64 (aGauge ep g 0x10) = s.reg64 (aGauge ep g 0x10) ∧ t.reg64 (aGauge ep g 0x18) = s.reg64 (aGauge ep g 0x18) ∧
      t.reg (aGauge ep g 4) = s.reg (aGauge ep g 4) := by
  have other : ∀ off, off ≠ 0 → (s.setReg (aGauge ep g 0) (v &&& 0x001FFF07)).reg (aGauge ep g off) = s.reg (aGauge ep g off) :=
    fun off h => State.reg_setReg_other s _ (aGauge_ne h)
  have pair : ∀ off, off ≠ 0 → (s.setReg (aGauge ep g 0) (v &&& 0x001FFF07)).reg64 (aGauge ep g off) = s.reg64 (aGauge ep g off) :=
    fun off h => reg64_congr (other off h) (by rw [aGauge_add]; exact other _ (by omega))
  refine ⟨_, (execGaugeCtlWrite_ctl he hg hs v).trans (congrArg _ (gaugeCtl_takes hc lo hi al)), State.reg_setReg _ _ _, ?_⟩
  exact ⟨pair _ (by decide), pair _ (by decide), other _ (by decide)⟩

/-- G_SEL of a gauge that neither counts nor is claimed: SEL_BAD says whether the selection is one of R172. -/
theorem gaugeWrite_sel (hs : s.served = true) (ha : s.regB (aGauge ep g 0xC) 0 = false) (hc : s.regB (aGauge ep g 0xC) 2 = false) (v : W32) :
    ∃ t, execGaugeWrite ep g 4 v s = .next t ∧ t.reg (aGauge ep g 4) = v &&& 0x0000FFF7 ∧ t.regB (aGauge ep g 0xC) 1 = !gaugeSelOk ep v := by
  refine ⟨_, (execGaugeWrite_set he hg (by simp) hs v).trans (congrArg _ (gaugeSet_sel ha hc v)), ?_, regB_setB _ _ _ (by decide)⟩
  rw [reg_setB_other _ _ _ (aGauge_ne (by decide)), State.reg_setReg]

/-- G_VAL and G_BYTES: the LO word waits for its HI word. -/
theorem gaugeWrite_pair (hs : s.served = true) (ha : s.regB (aGauge ep g 0xC) 0 = false) (hc : s.regB (aGauge ep g 0xC) 2 = false)
    {off : Nat} (ho : off = 0x10 ∨ off = 0x18) (lo hi : W32) : ∃ t u, execGaugeWrite ep g off lo s = .next t ∧
      t.reg64 (aGauge ep g off) = s.reg64 (aGauge ep g off) ∧ execGaugeWrite ep g (off + 4) hi t = .next u ∧
      u.reg64 (aGauge ep g off) = lo.toNat + 2 ^ 32 * hi.toNat := by
  have low : off ∈ [4, 8, 0x10, 0x14, 0x18, 0x1C] := by rcases ho with rfl | rfl <;> simp
  have high : off + 4 ∈ [4, 8, 0x10, 0x14, 0x18, 0x1C] := by rcases ho with rfl | rfl <;> simp
  exact ⟨_, _, (execGaugeWrite_set he hg low hs lo).trans (congrArg _ (gaugeSet_lo ho ha hc lo)), rfl,
    execGaugeWrite_set he hg high (s := s.staging (aGauge ep g off) lo) hs hi, gaugeSet_pair ho ha hc lo hi⟩

/-- The chunk boundary, register by register (R177). -/
theorem gaugeChunkBoundary_parts (hd : ep * 8 + g ∈ s.gaugeDue) (hp : look [] s.gaugePend (ep * 8 + g) = []) :
    ∃ t, execGaugeChunkBoundary ep g s = .next t ∧ t.reg64 (aGauge ep g 0x20) = s.gaugeVal ep g ∧
      (if s.regB (aGauge ep g 0) 1 = true then t.reg64 (aGauge ep g 0x10) = 0 else t.regN (aGauge ep g 0x10) = 0xFFFFFFFF) ∧
      t.regN (aGauge ep g 0x28) = (s.regN (aGauge ep g 0x28) + 1) % 2 ^ 32 := by
  obtain ⟨t, ht, regs⟩ := execGaugeChunkBoundary_moves he hg hd hp
  have pair : ∀ a, t.reg64 a = (s.chunkMoved ep g).reg64 a := fun a => reg64_congr (regs a) (regs (a + 4))
  have word : ∀ a, t.regN a = (s.chunkMoved ep g).regN a := fun a => congrArg BitVec.toNat (regs a)
  refine ⟨t, ht, ?_⟩
  rw [pair, pair, word, word]
  exact chunkMoved_parts s ep g

end

/-! ### Coolant (R585) -/

theorem execCoolantAlarm_logs {s : State} {i f ms : Nat} (st : s.inputStage = 2) (bad : 420 < i ∨ f < 320) (long : 1000 ≤ ms) :
    execCoolantAlarm i f ms s = .next (s.cairnLog 5 clsWeir 0 0 noCtx []) :=
  whenB_next s _ (by simp [st, bad, long])

theorem execCoolantAlarm_good (s : State) {i f : Nat} (ms : Nat) (hi : i ≤ 420) (hf : 320 ≤ f) : execCoolantAlarm i f ms s = .next s := by
  have good : (s.inputStage == 2 && (decide (420 < i) || decide (f < 320)) && decide (1000 ≤ ms)) = false := by
    simp [show ¬ 420 < i by omega, show ¬ f < 320 by omega]
  rw [execCoolantAlarm, whenB, good]
  rfl

/-- Settles O58: gauges by the equations of their rows; pages by the address map and the state machine; writes by following a word from the TLP to
its register or slot; a removed module by the registers that a link or port leaves behind as it goes. -/
theorem gaugesPagesAndCages : Obligations.GaugesPagesAndCages := by
  unfold Obligations.GaugesPagesAndCages
  simp only [exec_gaugeCtlWrite, exec_gaugeWrite, exec_gaugeEnChange, exec_gaugeChunkBoundary, exec_enReq, exec_stopReq, exec_isolate,
    exec_registerWrite, exec_cageInsert, exec_cageRemove, exec_coolantAlarm]
  refine ⟨?ctl, ?claimed, ?enChange, ?sel, ?pair, ?active, ?hiReads, ?chunk, ?counted, ?enReq, ?pends, ?stopReq, ?isolate, ?notIsolatable, ?word,
    ?fields, ?tooShort, ?slots, ?noFunction, ?translated, ?notSecure, ?portCage, ?linkCage, ?removeLink, ?linkFaults, ?removePort, ?idleLink,
    ?alarm, ?noAlarm⟩
  case ctl => exact fun s ep g v he hg hs hc lo hi al => gaugeCtlWrite_takes he hg hs hc lo hi al
  case claimed => exact fun s ep g off v he hg ho hs hc => ⟨(execGaugeCtlWrite_ctl he hg hs v).trans (congrArg _ (gaugeCtl_claimed hc v)),
    (execGaugeWrite_set he hg ho hs v).trans (congrArg _ (gaugeSet_ignored (.inr hc) off v))⟩
  case enChange => exact fun s ep g he hg hp hd => execGaugeEnChange_active he hg hp hd
  case sel => exact fun s ep g v he hg hs ha hc => gaugeWrite_sel he hg hs ha hc v
  case pair => exact fun s ep g off lo hi he hg ho hs ha hc => gaugeWrite_pair he hg hs ha hc ho lo hi
  case active => exact fun s ep g off v he hg ho hs ha =>
    (execGaugeWrite_set he hg ho hs v).trans (congrArg _ (gaugeSet_ignored (.inl ha) off v))
  case hiReads => exact fun s ep g hg h => pageWord_gaugeHi hg h
  case chunk => exact fun s ep g he hg hd hp => gaugeChunkBoundary_parts he hg hd hp
  case counted => exact fun s ep g b hp hd hm => gaugeBytes_unchunked b hp hd hm
  case enReq => exact fun s c hc r h => execEnReq_off hc r h
  case pends => exact fun s c hc r h => ⟨execEnReq_stopping hc r h, execStopReq_stopping hc r h⟩
  case stopReq => exact fun s c hc r h => execStopReq_on hc r h
  case isolate => exact fun s l hl r => execIsolate_link hl r
  case notIsolatable => exact fun s c hc r => execIsolate_xl hc r
  case word =>
    intro s p off v tlp hp al lo hi up st ats ide
    rw [execRegisterWrite_bar0 (by decide) up st ats ide (by rw [rgStack_eq]; omega),
      bar0Write_stack hp hi ((tlpIn_stage s).trans st) al lo]
  case fields =>
    intro s cls inst off v h h4
    rw [plainWrite_word v h h4]
    exact ⟨State.reg_setReg _ _ _, fun a ha => State.reg_setReg_other _ _ ha⟩
  case tooShort =>
    intro s p off x y tlp hp ho up st ats ide
    rw [execRegisterWrite_bar0 (by decide) up st ats ide (by rw [rgStack_eq]; omega),
      bar0Write_stackShort hp ho ((tlpIn_stage s).trans st)]
  case slots =>
    intro s fn o b tlp h1 h16 ho hb one up st ats ide
    have own : execRegisterWrite fn (0x1000 + o) b tlp s = .next (s.tlpIn.slotWrite fn o b) := by
      rw [execRegisterWrite_bar0 (by omega) up st ats ide (by omega), bar0Write_slot h1 h16 ho hb one ((tlpIn_stage s).trans st)]
    have up0 : s.fnUp 0 = true := by
      simp only [State.fnUp, Bool.and_eq_true] at up ⊢
      exact ⟨up.1, by simp⟩
    refine ⟨⟨_, own, slotWrite_slotMem _ _ _ _⟩, ?_⟩
    by_cases ide0 : s.ideIn 0 tlp = true
    · rw [execRegisterWrite_bar0 (by decide) up0 st ats ide0 (slot_inBar0 h16 ho), bar0Write_otherSlot h1 h16 ho hb one]
    · exact execRegisterWrite_discarded (by decide) up0 (by omega) ats (decide_eq_true (Nat.lt_trans (slot_inBar0 h16 ho) (by decide)))
        (Bool.eq_false_iff.2 ide0)
  case noFunction => exact fun s fn off b tlp _ up => execRegisterWrite_absent up
  case translated => exact fun s fn off b tlp hf up st ats => execRegisterWrite_ats hf up st ats
  case notSecure => exact fun s fn off b tlp hf up st ats req bar h => execRegisterWrite_discarded hf up st ats bar (ideIn_refused req h)
  case portCage => exact fun s n hn => onUnit_next s _ (by simpa using hn) rfl
  case linkCage => exact fun s n _ => by simp [execCageInsert, onUnit]
  case removeLink => exact fun s n now hn h => execCageRemove_link now hn h
  case linkFaults => exact fun s n hn h => linkFault_faults 7 hn h
  case removePort => exact fun s n now hn h => cageRemove_port_parts now hn h
  case idleLink => exact fun s n now hn h => execCageRemove_idleLink now hn h
  case alarm => exact fun s i f ms st bad long => execCoolantAlarm_logs st bad long
  case noAlarm => exact fun s i f ms hi hf => execCoolantAlarm_good s ms hi hf

end Sys2Proof.Machine
end

section
/-! STACK pages that translation sets name, and the BAR2 aperture (R186, R189, R194): O59, O36. -/

namespace Sys2Proof.Machine

/-! ### Requests to a STACK page (R189, R562) -/

theorem mem_bitsSet {n v k : Nat} : k ∈ bitsSet n v ↔ k < n ∧ v.testBit k = true := by
  simp [bitsSet]

theorem mem_setMembers {s : State} {c k p : Nat} : p ∈ s.setMembers c k ↔ p < 24 ∧ bitOf (s.setWord c k) p = true := by
  rw [State.setMembers, mem_bitsSet, fld_testBit, Nat.zero_add]
  simp

/-- A position is in use exactly where a context whose TRANSLATION page is not OFF has a valid set that names it. -/
theorem stackUsed_iff {s : State} {p : Nat} : s.stackUsed p = true ↔
    ∃ c < 17, s.pst clsXl c ≠ stOff ∧ ∃ k < 4, s.setOk c k = true ∧ p ∈ s.setMembers c k := by
  have sets : ∀ k, k ∈ [0, 1, 2, 3] ↔ k < 4 := by simp; omega
  simp [-List.any_cons, State.stackUsed, sets]

section
variable {s : State} {p : Nat} (hp : p < 24) (r : s.responds 0 (rg clsStack p 0) = true)
include hp r

theorem execStopReq_stack : execStopReq (rg clsStack p 0) s = .next
    (if s.stackUsed p = true then s.ignored clsStack p else s.stopReqOn clsStack p (fun s => s.stackAtStop p)) :=
  pageRow_page (pageAt_stack hp (by decide)) r _

theorem execEnReq_stack : execEnReq (rg clsStack p 0) s = .next
    (if s.fitted p = true then s.enReqOn clsStack p id else s.ignored clsStack p) :=
  pageRow_page (pageAt_stack hp (by decide)) r _

theorem execStopReq_stackUsed (u : s.stackUsed p = true) : execStopReq (rg clsStack p 0) s = .next (s.ignored clsStack p) := by
  rw [execStopReq_stack hp r, if_pos u]

theorem execStopReq_stackOff (u : s.stackUsed p = false) (h : s.pst clsStack p = stOff) : execStopReq (rg clsStack p 0) s = .next s := by
  rw [execStopReq_stack hp r, if_neg (by simp [u]), State.stopReqOn, if_neg (by simp [h]), if_neg (by simp [h]), if_neg (by simp [h])]

theorem execEnReq_stackFaulted (fit : s.fitted p = true) (h : s.pst clsStack p = stFaulted) :
    execEnReq (rg clsStack p 0) s = .next (s.setPst clsStack p stStarting) := by
  rw [execEnReq_stack hp r, if_pos fit, State.enReqOn, if_pos (.inr (.inl h)), id]

end

/-- Settles O59: a stop looks for a set that names the position, and a start of a FAULTED page needs only that the stack is fitted. -/
theorem stackPageInUse : Obligations.StackPageInUse := by
  unfold Obligations.StackPageInUse
  simp only [exec_stopReq, exec_enReq]
  refine ⟨?inUse, ?faulted, ?unused⟩
  case inUse =>
    intro s p c k hp r hc hk on valid named
    exact execStopReq_stackUsed hp r (stackUsed_iff.2 ⟨c, hc, on, k, hk, valid, mem_setMembers.2 ⟨hp, named⟩⟩)
  case faulted => exact fun s p hp r fit h => execEnReq_stackFaulted hp r fit h
  case unused =>
    intro s p hp r h off
    have unused : s.stackUsed p = false := Bool.eq_false_iff.2 fun u => by
      obtain ⟨c, hc, on, -⟩ := stackUsed_iff.1 u
      exact on (off c hc)
    exact execStopReq_stackOff hp r unused h

/-! ### The BAR2 aperture (R194, R460, R466, R509, R527) -/

section
variable {s : State} {fn off : Nat} {tlp : Tlp}

/-- An access of a function that is up, within the aperture's 64 GiB, takes effect. -/
theorem onUnit_bar2 {n : Nat} (hf : fn < 17) (up : s.fnUp fn = true) (range : off + n ≤ 64 * 2 ^ 30) (f : State → State) :
    onUnit (decide (fn < 17)) (s.fnUp fn && decide (off + n ≤ 64 * 2 ^ 30)) s f = .next (f s) :=
  onUnit_next s f (decide_eq_true hf) (by rw [up, decide_eq_true range, Bool.and_self])

section
variable {n : Nat} (hf : fn < 17) (up : s.fnUp fn = true) (range : off + n ≤ 64 * 2 ^ 30) (c : Corrected)
include hf up range

/-- A read with an ATS translation type, or outside the Secure stream that IDE_REQ asks for, is an Unsupported Request. -/
theorem execBar2Read_unsupported (h : tlp.ats = true ∨ s.tlpIn.tlpOut.ideIn fn tlp = false) :
    execBar2Read fn off n tlp c s = .next s.tlpIn.tlpOut.urSent := by
  have refused : (tlp.ats || !s.tlpIn.tlpOut.ideIn fn tlp) = true := by simpa using h
  refine (onUnit_bar2 hf up range _).trans ?_
  simp only [refused, if_true]

variable (ats : tlp.ats = false) (ide : s.tlpIn.tlpOut.ideIn fn tlp = true)
include ats ide

/-- A read before FIRMWARE answers 0. -/
theorem execBar2Read_early (early : s.tlpIn.tlpOut.served = false) :
    execBar2Read fn off n tlp c s = .next (s.tlpIn.tlpOut.emit (.readData fn (List.replicate n 0))) := by
  refine (onUnit_bar2 hf up range _).trans ?_
  simp only [ats, ide, early, Bool.not_true, Bool.or_self, Bool.not_false, Bool.false_eq_true, if_false, if_true]

/-- Any other read answers the bytes of its places, or all bits 1 where the translation gives none. -/
theorem execBar2Read_answers (sv : s.tlpIn.tlpOut.served = true) {places : Option (List (Nat × Nat × Nat))} {t : State}
    (h : (s.tlpIn.tlpOut.eccCorr c).bar2Segs fn off n false = (places, t)) :
    execBar2Read fn off n tlp c s = .next (t.emit (.readData fn (places.elim (List.replicate n 0xFF) t.segsRead))) := by
  refine (onUnit_bar2 hf up range _).trans ?_
  simp only [ats, ide, sv, h, Bool.not_true, Bool.or_self, Bool.false_eq_true, if_false]
  cases places <;> rfl

end

section
variable {b : List Byte} (hf : fn < 17) (up : s.fnUp fn = true) (range : off + b.length ≤ 64 * 2 ^ 30) (c : Corrected)
include hf up range

/-- A write with an ATS translation type is an Unsupported Request. -/
theorem execBar2Write_unsupported (ats : tlp.ats = true) : execBar2Write fn off b tlp c s = .next s.tlpIn.urSent := by
  refine (onUnit_bar2 hf up range _).trans ?_
  simp only [ats, if_true]

variable (ats : tlp.ats = false)
include ats

/-- A write outside the Secure stream that IDE_REQ asks for, or before FIRMWARE, is counted and discarded. -/
theorem execBar2Write_discarded (h : s.tlpIn.ideIn fn tlp = false ∨ s.tlpIn.served = false) :
    execBar2Write fn off b tlp c s = .next s.tlpIn := by
  have discarded : (!s.tlpIn.ideIn fn tlp || !s.tlpIn.served) = true := by simpa using h
  refine (onUnit_bar2 hf up range _).trans ?_
  simp only [ats, discarded, Bool.false_eq_true, if_false, if_true]

/-- Any other write goes to its places, or nowhere where the translation gives none. -/
theorem execBar2Write_stores (ide : s.tlpIn.ideIn fn tlp = true) (sv : s.tlpIn.served = true)
    {places : Option (List (Nat × Nat × Nat))} {t : State} (h : (s.tlpIn.eccCorr c).bar2Segs fn off b.length true = (places, t)) :
    execBar2Write fn off b tlp c s = .next (places.elim t (fun l => t.segsWrite l b false)) := by
  refine (onUnit_bar2 hf up range _).trans ?_
  simp only [ats, ide, sv, h, Bool.not_true, Bool.or_self, Bool.false_eq_true, if_false]
  cases places <;> rfl

end

end

/-- Settles O36: the packet's own checks come first, and what is left reads or writes the places that the translation gives. -/
theorem bar2Aperture : Obligations.Bar2Aperture := by
  unfold Obligations.Bar2Aperture
  simp only [exec_bar2Read, exec_bar2Write]
  refine ⟨?reads, ?readFails, ?readEarly, ?readRefused, ?writes, ?writeFails, ?writeAts, ?writeDropped⟩
  case reads => exact fun s t f x n tl c l hf up hr ats ide sv h => execBar2Read_answers hf up hr c ats ide sv h
  case readFails => exact fun s t f x n tl c hf up hr ats ide sv h => execBar2Read_answers hf up hr c ats ide sv h
  case readEarly => exact fun s f x n tl c hf up hr ats ide early => execBar2Read_early hf up hr c ats ide early
  case readRefused => exact fun s f x n tl c hf up hr h => execBar2Read_unsupported hf up hr c h
  case writes => exact fun s t f x b tl c l hf up hr ats ide sv h => execBar2Write_stores hf up hr c ats ide sv h
  case writeFails => exact fun s t f x b tl c hf up hr ats ide sv h => execBar2Write_stores hf up hr c ats ide sv h
  case writeAts => exact fun s f x b tl c hf up hr ats => execBar2Write_unsupported hf up hr c ats
  case writeDropped => exact fun s f x b tl c hf up hr ats h => execBar2Write_discarded hf up hr c ats h

end Sys2Proof.Machine
end

section
/-! The rows of the Headwater endpoints: HW_OPEN, HW_CLOSE, HW_REARM, HW_SEND, and the frames that a stream asks for (R226 to R241, R249): O37. -/

namespace Sys2Proof.Machine

/-! ### Streams and the ports they are on (R215, R228) -/

/-- The port on which an open asks for a stream: the host chiplet's, or the one that its descriptor names. -/
def Packet.hwPort (p : Packet) : Nat :=
  if p.dcol = 4 then 32
  else 4 * hwChiplet p.dcol + nfld (if (parseDesc p.payload).dir = 0 then (parseDesc p.payload).up else (parseDesc p.payload).down) 28 3

/-- The stream that an open makes, held or with its claim. -/
def State.hwOpened (s : State) (p : Packet) (held : Bool) : HwStream :=
  { port := p.hwPort, slot := s.freeSlot p.hwPort, col := p.scol, row := p.srow, q := p.tag % 8, ctx := p.ctx, arm := p.arg % 256,
    desc := parseDesc p.payload, first := 0, rearm := none, openP := p, held, heldRearm := false,
    claim := if held then none else some ((parseDesc p.payload).hwLayer, (parseDesc p.payload).hwGen), credit := 0, done := 0, frames := [],
    fetches := [], bad := [], failed := false }

section
variable {s t : State} {i : Nat} {p : Packet}

/-! ### HW_OPEN and HW_REARM (R228, R229, R232, R242, R244) -/

/-- An open that R229 refuses. -/
theorem execHwOpen_refused (g : s.edgeGets i 0x20 p = true) (ht : (s.takePacket i p).rebindAll p.ctx 65536 = t) {code : Nat}
    (h : t.hwRefusal p.dcol p.ctx (parseDesc p.payload) (at' p.payload 0x16 2) true = some code) :
    execHwOpen i s = .next ((t.hwStale p.ctx code).inject (p.answer 0x21 0 code [] false)) := by
  obtain ⟨hu, -⟩ := edgeGets_parts g
  rw [execHwOpen, packetRow_serves hu]
  simp only [ht, h]

/-- An open that R229 does not refuse joins the streams; one that is not held is confirmed. -/
theorem execHwOpen_opens (g : s.edgeGets i 0x20 p = true) (ht : (s.takePacket i p).rebindAll p.ctx 65536 = t)
    (h : t.hwRefusal p.dcol p.ctx (parseDesc p.payload) (at' p.payload 0x16 2) true = none) {held : Bool}
    (hv : (t.genVerdict p.ctx (parseDesc p.payload).hwLayer (parseDesc p.payload).hwGen == .held) = held) {x : HwStream}
    (hx : t.hwOpened p held = x) :
    execHwOpen i s = .next ((if held then { t with hws := t.hws ++ [x] } else ({ t with hws := t.hws ++ [x] } : State).hwConfirm x 0).hwAfter
      x.port x.slot) := by
  obtain ⟨hu, -⟩ := edgeGets_parts g
  subst hx
  rw [execHwOpen, packetRow_serves hu]
  simp only [ht, h, hv]
  rfl

/-- A re-arm of a stream waits in it for the arm to end. -/
theorem execHwRearm_waits (g : s.edgeGets i 0x23 p = true) (ht : (s.takePacket i p).rebindAll p.ctx 65536 = t) {h : HwStream}
    (hh : t.hwOf p = some h) :
    execHwRearm i s = .next ((t.setHw { h with rearm := some (h.desc.rearm (parseDesc p.payload)) }).hwAfter h.port h.slot) := by
  obtain ⟨hu, -⟩ := edgeGets_parts g
  rw [execHwRearm, packetRow_serves hu]
  simp only [ht, hh]

/-! ### HW_CLOSE (R232, R249) -/

/-- A close of no stream is acknowledged. -/
theorem execHwClose_none (g : s.edgeGets i 0x22 p = true) (hh : (s.takePacket i p).hwOf p = none) :
    execHwClose i s = .next ((s.takePacket i p).inject (p.ack 0)) := by
  obtain ⟨hu, -⟩ := edgeGets_parts g
  rw [execHwClose, packetRow_serves hu]
  simp only [hh]

theorem inject_hws (s : State) (p : Packet) : (s.inject p).hws = s.hws := (State.inject_kept s p).get 29
theorem hwConfirm_hws (s : State) (h : HwStream) (c : Nat) : (s.hwConfirm h c).hws = s.hws := (State.hwConfirm_kept s h c).get 29
theorem hwSendDgram_hws (s : State) (port : Nat) (d : Dgram) : (s.hwSendDgram port d).hws = s.hws := (State.hwSendDgram_kept s port d).get 29
theorem hwcSync_hws (s : State) (c : Nat) : (s.hwcSync c).hws = s.hws := (State.hwcSync_kept s c).get 29
theorem hwSync_hws (s : State) : s.hwSync.hws = s.hws := (State.hwSync_kept s).get 29

/-- A close answers a held open and tells the server, which changes no stream, and takes its own stream away. -/
theorem execHwClose_closes (g : s.edgeGets i 0x22 p = true) {h : HwStream} (hh : (s.takePacket i p).hwOf p = some h) :
    ∃ t, execHwClose i s = .next t ∧
      t.hws = (s.takePacket i p).hws.filter (fun x => !(x.port == h.port && x.slot == h.slot)) := by
  obtain ⟨hu, -⟩ := edgeGets_parts g
  rw [execHwClose, packetRow_serves hu]
  simp only [hh]
  refine ⟨_, rfl, ?_⟩
  rw [hwSync_hws, hwcSync_hws, inject_hws]
  have answered : (if h.held then (s.takePacket i p).hwConfirm h cCancelled else s.takePacket i p).hws = (s.takePacket i p).hws := by
    split
    · exact hwConfirm_hws _ _ _
    · rfl
  refine congrArg (List.filter _) (Eq.trans ?_ answered)
  split
  · split
    · rfl
    · exact hwSendDgram_hws _ _ _
  · rfl

/-! ### HW_SEND (R226, R236) -/

/-- A tile for which the send buffer has no room waits in the network. -/
theorem execHwSend_waits (g : s.edgeGets i 0x24 p = true) (full : 16 * 2 ^ 20 < s.sendBuffer p.dcol + 2 * 8192) : execHwSend i s = .next s := by
  obtain ⟨hu, -⟩ := edgeGets_parts g
  obtain ⟨ha, hab, hc⟩ := unitGets_parts hu
  rw [execHwSend, whenSome_next s _ ha, if_pos (by simpa [hab, hc] using full)]

section
variable (g : s.edgeGets i 0x24 p = true) (room : s.sendBuffer p.dcol + 2 * 8192 ≤ 16 * 2 ^ 20) (ht : s.takePacket i p = t)
include g room ht

/-- A tile of no stream. -/
theorem execHwSend_none (hh : t.hwOf p = none) : execHwSend i s = .next (t.inject (p.ack cMalformed)) := by
  obtain ⟨hu, -⟩ := edgeGets_parts g
  obtain ⟨ha, hab, hc⟩ := unitGets_parts hu
  rw [execHwSend, whenSome_next s _ ha, if_neg (by simp; omega), takes_passes s i p _ hab hc]
  simp only [ht, hh]

/-- A tile of a stream: a poisoned one, one outside its range, and one within it, which goes into frames. -/
theorem execHwSend_tile {h : HwStream} (hh : t.hwOf p = some h) : execHwSend i s = .next
    (if p.poison then t.inject (p.ack cRegionLost)
      else match (t.slotOfGen h.ctx h.desc.hwGen).bind (fun x => t.hwRange? h.ctx x true (p.addr % 65536) (p.addr / 65536 % 65536)) with
        | none => t.inject (p.ack cShardRange)
        | some r =>
          if r.length < p.addr / 2 ^ 32 + p.len then t.inject (p.ack cShardRange)
          else (((t.gradTile h r (p.addr % 65536) p.arg (p.addr / 2 ^ 32) (p.payload.take p.len)).inject (p.ack 0)).setHw
            { h with done := h.done + 1 }).hwAfter h.port h.slot) := by
  obtain ⟨hu, -⟩ := edgeGets_parts g
  obtain ⟨ha, hab, hc⟩ := unitGets_parts hu
  rw [execHwSend, whenSome_next s _ ha, if_neg (by simp; omega), takes_passes s i p _ hab hc]
  simp only [ht, hh] <;> rfl

end

end

/-! ### Frames asked for, and frames read from host memory (R230, R231, R241, R509) -/

section
variable {s : State} {port slot : Nat} {h : HwStream} {r : HwRange}

/-- FETCH_ISSUE of a stream whose window is not full: its run of missing frames is asked for, where the port or IDE lets the request go out. -/
theorem execFetchIssue_asks (at? : streamAt port slot = true) (hh : s.hw? port slot = some h) (hr : s.descRange h.ctx h.desc = some r)
    (window : h.frames.length + h.want.length < 32) {f : Nat} {l ask : List Nat}
    (missing : (h.needFrames r h.needTiles).filter (fun j => !h.want.contains j && (look? h.frames j).isNone) = f :: l)
    (run : (((List.range (min 8 (min (32 - (h.frames.length + h.want.length)) (6144 - sumL ((s.hws.filter (fun x => portEndpoint x.port ==
      portEndpoint port)).map (fun x => x.frames.length + x.want.length)))))).takeWhile (fun j => (f :: l).contains (f + j))).map (· + f) = ask))
    (some : ask ≠ []) (failed : h.failed = false) (held : h.held = false) (dir : h.desc.dir = 0)
    (goes : (if port = 32 then s.ideOk h.ctx (r.object + 8256 * f) (8256 * ask.length) else s.isOn clsPort port) = true) :
    execFetchIssue port slot s = .next ((s.setHw { h with fetches := h.fetches ++ [⟨f, ask.length, ask, s.clk.now, 0⟩] }).hwRequest
      { h with fetches := h.fetches ++ [⟨f, ask.length, ask, s.clk.now, 0⟩] } r 1 ask) := by
  have going : (!ask.isEmpty && !h.failed && !h.held && h.desc.dir == 0
      && (if port == 32 then s.ideOk h.ctx (r.object + 8256 * f) (8256 * ask.length) else s.isOn clsPort port)) = true := by
    simpa [some, failed, held, dir] using goes
  rw [execFetchIssue, unitRow_ok _ at?]
  simp only [hh, hr, if_neg (Nat.not_le.2 window), missing, run]
  exact whenB_next s _ going

/-- HOST_FETCH_READ_DONE of a frame that was asked for: it is processed where its header agrees, and read again otherwise. -/
theorem execHostFetchReadDone_read {frame : Nat} {b : List Byte} (hh : s.hw? 32 slot = some h) (hr : s.descRange h.ctx h.desc = some r)
    (asked : frame ∈ h.want) (goes : s.ideOk h.ctx (r.object + 8256 * frame) 8256 = true)
    (hb : readBytes s.host (r.object + 8256 * frame) 8256 = b) : execHostFetchReadDone slot frame s = .next
    (if at' b 0 1 == 0x31 && at' b 1 1 == 2 && beNat ((b.drop 12).take 4) == h.desc.hwGen && beNat ((b.drop 16).take 8) == r.object
        && beNat ((b.drop 24).take 8) == frame then s.hwFrame h frame ((b.drop 12).take 20) ((b.drop 32).take (beNat ((b.drop 10).take 2)))
      else match h.fetchAt? frame with
        | some e => s.hwRetry h e
        | none => s) := by
  subst hb
  rw [execHostFetchReadDone, unitRow_ok (ok := streamAt 32 slot) _ rfl]
  simp only [hh, hr]
  exact (whenB_next s _ (by simp [asked, goes])).trans rfl

end

/-- Settles O37: each packet is served by what its endpoint holds of its stream; a close has the frame of its row. -/
theorem headwaterStreams : Obligations.HeadwaterStreams := by
  unfold Obligations.HeadwaterStreams
  simp only [exec_hwOpen, exec_hwClose, exec_hwRearm, exec_hwSend, exec_fetchIssue, exec_hostFetchReadDone]
  refine ⟨?confirmed, ?held, ?refused, ?closed, ?closedNone, ?rearm, ?sent, ?sentBeyond, ?sentNone, ?sentPoison, ?sentWaits, ?fetch, ?frame, ?again⟩
  case confirmed =>
    intro s i p g none verdict
    exact ⟨_, rfl, execHwOpen_opens g rfl none (held := false) (by rw [verdict]; rfl) rfl⟩
  case held =>
    intro s i p g none verdict
    exact ⟨_, rfl, execHwOpen_opens g rfl none (held := true) (by rw [verdict]; rfl) rfl⟩
  case refused => exact fun s i p code g h => execHwOpen_refused g rfl h
  case closed =>
    intro s i p h g hh
    obtain ⟨t, ht, hws⟩ := execHwClose_closes g hh
    have kept := (execHwClose_kept i s).on t ht
    exact ⟨t, ht, hws, kept.get 30, kept.get 13⟩
  case closedNone => exact fun s i p g hh => execHwClose_none g hh
  case rearm => exact fun s i p h g hh => execHwRearm_waits g rfl hh
  case sent =>
    intro s i p h r x g room hh clean hx hr fits
    rw [execHwSend_tile g room rfl hh, if_neg (by simp [clean]), hx, Option.bind_some, hr]
    exact congrArg Host.Outcome.next (if_neg (Nat.not_lt.2 fits))
  case sentBeyond =>
    intro s i p h r x g room hh clean hx hr beyond
    rw [execHwSend_tile g room rfl hh, if_neg (by simp [clean]), hx, Option.bind_some, hr]
    exact congrArg Host.Outcome.next (if_pos beyond)
  case sentNone => exact fun s i p g room hh => execHwSend_none g room rfl hh
  case sentPoison =>
    intro s i p h g room hh poison
    rw [execHwSend_tile g room rfl hh, if_pos poison]
  case sentWaits => exact fun s i p g full => execHwSend_waits g full
  case fetch =>
    intro s port slot f l ask h r at? goes hh hr window failed held dir missing run some
    exact execFetchIssue_asks at? hh hr window missing run some failed held dir goes
  case frame =>
    intro s slot frame h r hh goes hr asked ver type gen object index
    rw [execHostFetchReadDone_read hh hr asked goes rfl, if_pos (by simp [ver, type, gen, object, index])]
  case again =>
    intro s slot frame h r e hh goes hr asked ver he
    rw [execHostFetchReadDone_read hh hr asked goes rfl, if_neg (by simp [ver]), he]

end Sys2Proof.Machine
end

section
/-! What the writes of a gradient frame leave in host memory (R241), and the frame that O38 does not give them. -/

namespace Sys2Proof.Machine

/-- The 32 B header of a gradient frame in host memory. -/
def Grad.hostHdr (g : Grad) : List Byte :=
  beBytes 1 0x31 ++ beBytes 1 2 ++ beBytes 2 0 ++ beBytes 4 g.session ++ beBytes 2 g.req ++ beBytes 2 g.body.length ++ g.hdr

theorem hostHdr_length (g : Grad) : g.hostHdr.length = 32 := by simp [Grad.hostHdr, Grad.hdr, beBytes]

section
variable {s : State} {n : Nat} {g : Grad} (hg : s.grads[n]? = some g) (sent : g.sent = true) (host : g.port = 32)
  (goes : s.ideOk g.ctx (g.object + 8256 * g.index) 8256 = true)
include hg sent host goes

/-- HOST_GRAD_WRITE_DONE of a frame that has gone to host memory: its header and its sealed bytes stand there, and it is released. -/
theorem execHostGradWriteDone_writes : execHostGradWriteDone n s = .next
    { s with host := writeBytes s.host (g.object + 8256 * g.index) (padTo 8256 (g.hostHdr ++ g.body)),
             grads := s.grads.filter (fun x => !sameGrad x g) } := by
  simp only [execHostGradWriteDone, hg]
  exact (whenB_next s _ (by simp [sent, host, goes])).trans rfl

/-- Every sealed byte of the frame is written, also past the 8,256 B that a frame takes: padding lengthens and never cuts. -/
theorem execHostGradWriteDone_body {t : State} (ht : execHostGradWriteDone n s = .next t) (wf : Mem.wf s.host = true) {j : Nat}
    (hj : j < g.body.length) : memRead t.host (g.object + 8256 * g.index + (32 + j)) = g.body[j] := by
  rw [execHostGradWriteDone_writes hg sent host goes] at ht
  cases ht
  have length : (g.hostHdr ++ g.body).length = 32 + g.body.length := by rw [List.length_append, hostHdr_length]
  have inside : 32 + j < (padTo 8256 (g.hostHdr ++ g.body)).length := by
    rw [padTo, List.length_append, length]
    omega
  rw [memRead_writeBytes_inside _ _ _ _ inside wf]
  simp only [padTo]
  rw [List.getElem_append_left (by omega), List.getElem_append_right (by rw [hostHdr_length]; omega)]
  simp only [hostHdr_length, Nat.add_sub_cancel_left]

end

/-- A gradient frame of the host chiplet whose sealed bytes are one more than fit behind the header in 8,256 B. -/
def overlongGrad : Grad :=
  { ctx := 0, step := 0, seq := 0, layer := 0, rank := 0, port := 32, req := 0, object := 0, index := 0, gen := 0, server := 0, ip := [],
    udp := 0, len := 0, bytes := [], body := List.replicate 8225 1, cover := [], sent := true, attempts := 0, last := 0, session := 0 }

/-- Refutes O38, by its clause of HOST_GRAD_WRITE_DONE: no byte past the frame's 8,256 B is to change, and nothing in the clause bounds the sealed
bytes of the frame. The writes of `overlongGrad`, held in the state after reset, reach byte 8,256. (R217 cuts a frame to 8,192 B, which fit there
with their tag and header; the clause speaks of every frame that a state can list.) -/
theorem not_headwaterDatagrams : ¬ Obligations.HeadwaterDatagrams := by
  unfold Obligations.HeadwaterDatagrams
  simp only [exec_hostGradWriteDone]
  rintro ⟨-, -, -, -, -, -, -, -, -, -, -, -, -, -, hostGradWriteDone, -⟩
  have held : ({ State.reset with grads := [overlongGrad] } : State).grads[0]? = some overlongGrad := rfl
  have goes : ({ State.reset with grads := [overlongGrad] } : State).ideOk 0 0 8256 = true := by decide
  obtain ⟨t, ht, -, -, -, outside⟩ := hostGradWriteDone _ 0 overlongGrad held rfl rfl goes
  have unwritten : memRead t.host 8256 = 0 := outside 8256 (.inr (Nat.le_refl _))
  have last : 8224 < overlongGrad.body.length := by
    rw [show overlongGrad.body.length = 8225 from List.length_replicate]
    decide
  have written : memRead t.host 8256 = overlongGrad.body[8224] := execHostGradWriteDone_body held rfl rfl goes ht rfl last
  have one : overlongGrad.body[8224] = 1 := List.getElem_replicate ..
  rw [unwritten, one] at written
  exact absurd written (by decide)

end Sys2Proof.Machine
end

section
/-! Ports, bindings and rebindings of Headwater (R214, R215, R223, R235, R242 to R250): O39. -/

namespace Sys2Proof.Machine

/-! ### Rows whose event does not occur (log 9) -/

theorem onUnit_stays {ok g : Bool} (s : State) (f : State → State) (h : g = false) : onUnit ok g s f = .next s := by simp [onUnit, h]

theorem whenB_stays {g : Bool} (s : State) (f : State → State) (h : g = false) : whenB g s f = .next s := by simp [whenB, h]

/-! ### Ports (R214, R215, R235, R250) -/

section
variable {s : State} {port : Nat} (hp : port < 32)
include hp

/-- PFC_PAUSE of the priority that the port is configured for. -/
theorem execPfcPause_shows {prio : Nat} (on : s.isOn clsPort port = true) (en : s.regB (aPort port 0x100) 0 = true)
    (own : s.regF (aPort port 0x100) 1 3 = prio) (pause : Bool) : execPfcPause port prio pause s = .next
      (if pause then s.setB (aPort port 0x104) 2 pause else (s.setB (aPort port 0x104) 2 pause).hwResume port) :=
  onUnit_next s _ (decide_eq_true hp) (by simp [on, en, own])

theorem execHeadwaterLinkDown_leaves (now : Nat) (on : s.isOn clsPort port = true) :
    execHeadwaterLinkDown port now s = .next (((s.atTime now).pageFault clsPort port id).portLeave port) :=
  onUnit_next s _ (decide_eq_true hp) on

/-- HEADWATER_PORT_UP of a port with its module that starts, at READY, 50 ms or more after it left ON. -/
theorem execHeadwaterPortUp_starts (now : Nat) (starting : s.pst clsPort port = stStarting) (module : s.regB (aPort port 0x104) 1 = true)
    (ready : s.stage = 4)
    (rested : (match look? s.portLeft port with | some t => !inWindow (max now s.clk.now) t 50000000 | none => true) = true) :
    execHeadwaterPortUp port now s = .next ((((s.atTime now).setB (aPort port 0x104) 0 true).incWrap (rg clsPort port 0x024)).startDone clsPort
      port (fun s => s.portAtStop port)) :=
  onUnit_next s _ (decide_eq_true hp) (by rw [starting, module, ready]; exact rested)

omit hp in
/-- One that left ON less than 50 ms before stays down. -/
theorem execHeadwaterPortUp_early (now : Nat) {t : Nat} (left : look? s.portLeft port = some t)
    (early : inWindow (max now s.clk.now) t 50000000 = true) : execHeadwaterPortUp port now s = .next s :=
  onUnit_stays s _ (by simp [left, early])

end

/-! ### What a Cairn record leaves of the registers (R544, R550, R589) -/

theorem ite_reg {b : Bool} {t u : State} {x : Nat} {w : W32} (ht : t.reg x = w) (hu : u.reg x = w) : (if b then t else u).reg x = w := by
  cases b
  · exact hu
  · exact ht

section
variable {x : Nat} (hx : x < 0x2C0000)
include hx

theorem msiSend_below (s : State) (fn vec : Nat) : (s.msiSend fn vec).reg x = s.reg x := by
  unfold State.msiSend
  simp only
  split
  · rfl
  · exact (setReg64_below (Nat.lt_trans hx (by decide))).trans rfl

theorem aCairn_ne (off : Nat) : x ≠ aCairn off := by
  show x ≠ 0x700000 + off
  omega

theorem cairnSync_below (s : State) : s.cairnSync.reg x = s.reg x := by
  unfold State.cairnSync
  simp only
  rw [reg_setB_other _ _ _ (aCairn_ne hx _), reg_setB_other _ _ _ (aCairn_ne hx _), reg_setB_other _ _ _ (aCairn_ne hx _),
    setReg64_other _ (aCairn_ne hx _) (aCairn_ne hx 0x114), reg_setF_other _ _ _ _ (aCairn_ne hx _)]
  exact State.reg_setReg_other s _ (aCairn_ne hx _)

omit hx in
theorem incSat_other (s : State) {a : Nat} (h : x ≠ a) : (s.incSat a).reg x = s.reg x := by
  unfold State.incSat
  split
  · rfl
  · exact State.reg_setReg_other s _ h

theorem cairnCount_below (s : State) (w : Placed) (past drop sev : Nat) : (s.cairnCount w past drop sev).reg x = s.reg x := by
  cases w with
  | stored => rfl
  | overwrote7 => exact incSat_other s (aCairn_ne hx _)
  | dropped => exact incSat_other s (aCairn_ne hx _)

/-- A record changes the LAST_CAIRN_SEQ of its page, and no other register below those of the gauges. -/
theorem cairnLog_other (s : State) (sev cls inst code ctx : Nat) (items : List (Nat × List Byte)) (h : x ≠ rg cls inst 0x1C)
    (h4 : x ≠ rg cls inst 0x1C + 4) : (s.cairnLog sev cls inst code ctx items).reg x = s.reg x := by
  unfold State.cairnLog
  split
  · rfl
  · extract_lets -merge -underBinder seq ceiling
    split
    extract_lets -merge -underBinder noFw r
    split
    extract_lets -merge -underBinder cairn placed counted logged evt
    have places : placed.reg x = s.reg x := rfl
    have counts : counted.reg x = s.reg x := by
      rw [← places]
      exact (cairnCount_below hx _ _ _ _ _).trans (setReg64_other _ (aCairn_ne hx _) (aCairn_ne hx 0x10C))
    have logs : logged.reg x = s.reg x := by
      rw [← counts]
      exact (cairnSync_below hx _).trans (setReg64_other _ h h4)
    exact ite_reg ((msiSend_below hx logged _ _).trans logs) logs

end

/-! ### BIND and BIND_DONE (R223) -/

theorem look_del (m : AMap (List Byte)) (x : Nat) : look [] (del m x) x = [] := by
  have absent : look? (del m x) x = none := by
    induction m with
    | nil => rfl
    | cons e t ih =>
      obtain ⟨k, v⟩ := e
      by_cases hk : k = x
      · subst hk
        simpa [del] using ih
      · have other : del ((k, v) :: t) x = (k, v) :: del t x := by simp [del, hk]
        rw [other, look?, if_neg (Ne.symm hk), ih]
  rw [look, absent, Option.getD_none]

theorem not_mem_rem (l : List Nat) (x : Nat) : x ∉ rem l x := by simp [rem]

/-- What BIND asks of a manifest that was read: its tables, its digest and the rank of the context (R220 to R223). -/
def State.manFits (s : State) (c : Nat) (m : List Byte) : Prop := manTablesOk m = true ∧ manDigestOk m = true ∧ s.hwRank c < at' m 0x10 2

/-- A manifest is bound. -/
def State.manBound (s : State) (c x : Nat) (m : List Byte) : State :=
  (({ s with hwMan := put s.hwMan (2 * c + x) m } : State).setB (aHwc c 4) (2 * x) true).setRegN (aHwc c (0x18 + 4 * x)) (at' m 8 4)

/-- A manifest is recorded as malformed, and its slot is not bound. -/
def State.manRefused (s : State) (c x : Nat) : State :=
  (({ s with hwMan := del s.hwMan (2 * c + x) } : State).setB (aHwc c 4) (2 * x) false).cairnLog 4 clsPort 0 cMalformed c []

section
variable {s t : State} {ctx slot : Nat}

theorem execBind_begins (hc : ctx < 17) (hs : slot < 2) (up : s.served = true) (en : bitOf (s.reg (aPt ctx 0)) 1 = true) :
    execBind ctx slot s = .next { s with hwBinding := ins s.hwBinding (2 * ctx + slot) } :=
  (onUnit_next s _ (by simp [hc, hs]) up).trans (congrArg Host.Outcome.next (if_pos en))

section
variable (hc : ctx < 17) (hs : slot < 2) (under : 2 * ctx + slot ∈ s.hwBinding)
include hc hs under

theorem execBindDone_binds {m : List Byte}
    (hm : ({ s with hwBinding := rem s.hwBinding (2 * ctx + slot) } : State).readMan ctx slot = (some m, t)) (fits : t.manFits ctx m) :
    execBindDone ctx slot s = .next (t.manBound ctx slot m) := by
  obtain ⟨tables, digest, rank⟩ := fits
  refine (onUnit_next s _ (by simp [hc, hs]) (by simpa using under)).trans ?_
  simp only [hm, tables, digest, rank, decide_true, Bool.and_self, if_true]
  rfl

theorem execBindDone_refuses {m : List Byte}
    (hm : ({ s with hwBinding := rem s.hwBinding (2 * ctx + slot) } : State).readMan ctx slot = (some m, t)) (bad : ¬ t.manFits ctx m) :
    execBindDone ctx slot s = .next (t.manRefused ctx slot) := by
  have bad : ¬ (manTablesOk m && manDigestOk m && decide (t.hwRank ctx < at' m 0x10 2)) = true := by
    simpa [State.manFits, and_assoc] using bad
  refine (onUnit_next s _ (by simp [hc, hs]) (by simpa using under)).trans ?_
  simp only [hm, if_neg bad]
  rfl

theorem execBindDone_unread
    (hm : ({ s with hwBinding := rem s.hwBinding (2 * ctx + slot) } : State).readMan ctx slot = (none, t)) :
    execBindDone ctx slot s = .next (t.manRefused ctx slot) := by
  refine (onUnit_next s _ (by simp [hc, hs]) (by simpa using under)).trans ?_
  simp only [hm]
  rfl

end

/-- The registers of a context block lie apart from each other and from the header of port 0. -/
theorem aHwc_eq (c off : Nat) : aHwc c off = 0x280400 + 0x40 * c + off := rfl

theorem manBound_parts (t : State) (ctx : Nat) {slot : Nat} (hs : slot < 2) (m : List Byte) :
    (t.manBound ctx slot m).manOk ctx slot = true ∧ (t.manBound ctx slot m).genOf ctx slot = at' m 8 4 % 2 ^ 32 ∧
      (t.manBound ctx slot m).man ctx slot = m := by
  refine ⟨?_, regN_setRegN _ _ _, look_put_same _ _ _ _⟩
  have word := State.reg_setReg_other (({ t with hwMan := put t.hwMan (2 * ctx + slot) m } : State).setB (aHwc ctx 4) (2 * slot) true)
    (BitVec.ofNat 32 (at' m 8 4)) (show aHwc ctx 4 ≠ aHwc ctx (0x18 + 4 * slot) by rw [aHwc_eq, aHwc_eq]; omega)
  exact (congrArg (bitOf · (2 * slot)) word).trans (regB_setB _ _ true (by omega))

theorem manRefused_hwMan (t : State) (ctx slot : Nat) : (t.manRefused ctx slot).hwMan = del t.hwMan (2 * ctx + slot) :=
  (State.cairnLog_kept _ _ _ _ _ _ _).get 32

theorem manRefused_hwBinding (t : State) (ctx slot : Nat) : (t.manRefused ctx slot).hwBinding = t.hwBinding :=
  (State.cairnLog_kept _ _ _ _ _ _ _).get 33

theorem manRefused_parts (t : State) {ctx slot : Nat} (hc : ctx < 17) (hs : slot < 2) :
    (t.manRefused ctx slot).manOk ctx slot = false ∧ (t.manRefused ctx slot).man ctx slot = [] := by
  constructor
  · have word := cairnLog_other (x := aHwc ctx 4) (by rw [aHwc_eq]; omega)
      (({ t with hwMan := del t.hwMan (2 * ctx + slot) } : State).setB (aHwc ctx 4) (2 * slot) false) 4 clsPort 0 cMalformed ctx []
      (by rw [aHwc_eq]; show _ ≠ 0x28001C; omega) (by rw [aHwc_eq]; show _ ≠ 0x280020; omega)
    exact (congrArg (bitOf · (2 * slot)) word).trans (regB_setB _ _ false (by omega))
  · rw [State.man, manRefused_hwMan, look_del]

/-- A binding under way whose manifest was read ends bound or refused, as the manifest fits the context. -/
theorem execBindDone_ends (hc : ctx < 17) (hs : slot < 2) (under : 2 * ctx + slot ∈ s.hwBinding) {m : List Byte}
    (hm : ({ s with hwBinding := rem s.hwBinding (2 * ctx + slot) } : State).readMan ctx slot = (some m, t)) :
    ∃ u, execBindDone ctx slot s = .next u ∧
      (t.manFits ctx m → u.manOk ctx slot = true ∧ u.genOf ctx slot = at' m 8 4 % 2 ^ 32 ∧ u.man ctx slot = m) ∧
      (¬ t.manFits ctx m → u.manOk ctx slot = false ∧ u.man ctx slot = []) := by
  by_cases fits : t.manFits ctx m
  · exact ⟨_, execBindDone_binds hc hs under hm fits, fun _ => manBound_parts t ctx hs m, fun bad => absurd fits bad⟩
  · exact ⟨_, execBindDone_refuses hc hs under hm fits, fun good => absurd good fits, fun _ => manRefused_parts t hc hs⟩

/-! ### FRONT_GO and LAYER_REBIND (R243, R246, R247, R390, R453) -/

theorem execFrontGo_counts (hc : ctx < 17) (up : s.served = true) (swap : s.hwSwap ctx ≠ 0) (follow : s.regB (aHwc ctx 4) 7 = true) :
    execFrontGo ctx s = .next { s with frontGo := ins s.frontGo ctx } :=
  (onUnit_next s _ (decide_eq_true hc) up).trans (congrArg Host.Outcome.next (if_pos ⟨swap, follow⟩))

theorem execFrontGo_ignored (h : s.hwSwap ctx = 0 ∨ s.regB (aHwc ctx 4) 7 = false) : execFrontGo ctx s = .next s := by
  have none : s.goFront ctx = s := if_neg (by rintro ⟨swap, follow⟩; simp [swap, follow] at h)
  simp only [execFrontGo, onUnit, none, ite_self]

/-- Does no stream of a context claim the front layer under the old generation? -/
theorem unclaimed_iff : s.hws.any (fun h => h.ctx == ctx && h.claim == some (s.hwFront ctx, s.genOf ctx (s.hwActive ctx))) = false ↔
    ∀ h ∈ s.hws, h.ctx = ctx → h.claim ≠ some (s.hwFront ctx, s.genOf ctx (s.hwActive ctx)) := by
  simp

section
variable {now : Nat} (ht : t = (s.atTime now).utcApply)
include ht

/-- LAYER_REBIND of a swap whose front layer may be rebound. -/
theorem execLayerRebind_rebinds (hc : ctx < 17) (first : t.opensLater ctx = false) (due : t.rebindDue ctx = true) :
    execLayerRebind ctx now s = .next (t.rebind ctx) := by
  subst ht
  exact (unitRow_ok _ (decide_eq_true hc)).trans (whenB_next s _ (by rw [due, first]; rfl))

/-- LAYER_REBIND where it may not. -/
theorem execLayerRebind_waits (due : t.rebindDue ctx = false) : execLayerRebind ctx now s = .next s := by
  subst ht
  rw [execLayerRebind, unitRow, whenB_stays s _ (by rw [due]; rfl), ite_self]

end

section
variable {o : LongOp} (swap : t.hwSwap ctx = 1 ∨ t.hwSwap ctx = 2) (running : t.rstate ctx = 0) (ho : t.swapOp ctx = some o)
  (h1 : o.state ≠ 1) (h2 : o.state ≠ 2)
  (unclaimed : ∀ h ∈ t.hws, h.ctx = ctx → h.claim ≠ some (t.hwFront ctx, t.genOf ctx (t.hwActive ctx)))
include swap running ho h1 h2 unclaimed

/-- The front layer of a swap that runs, of a context that runs, which no stream claims under the old generation, is due as its opening is. -/
theorem rebindDue_eq : t.rebindDue ctx = (t.hwFront ctx != 0 ||
    (if t.regB (aHwc ctx 4) 7 then t.frontGo.contains ctx else decide (t.reg64 (aHwc ctx 0x20) ≤ grain t.clk.now))) := by
  have on : (t.hwSwap ctx == 1 || t.hwSwap ctx == 2) = true := by simpa using swap
  simp only [State.rebindDue, on, running, ho, unclaimed_iff.2 unclaimed]
  simp [h1, h2]

end

theorem rebindDue_unopened (front : t.hwFront ctx = 0)
    (shut : if t.regB (aHwc ctx 4) 7 then ctx ∉ t.frontGo else grain t.clk.now < t.reg64 (aHwc ctx 0x20)) : t.rebindDue ctx = false := by
  have unopened : (t.hwFront ctx != 0 ||
      (if t.regB (aHwc ctx 4) 7 then t.frontGo.contains ctx else decide (t.reg64 (aHwc ctx 0x20) ≤ grain t.clk.now))) = false := by
    split at shut <;> simp_all
  rw [State.rebindDue, unopened, Bool.and_false]

theorem rebindDue_suspended {o : LongOp} (ho : t.swapOp ctx = some o) (h : o.state = 1 ∨ o.state = 2) : t.rebindDue ctx = false := by
  rcases h with h | h <;> simp [State.rebindDue, ho, h]

theorem rebindDue_claimed {h : HwStream} (mem : h ∈ t.hws) (hctx : h.ctx = ctx)
    (claim : h.claim = some (t.hwFront ctx, t.genOf ctx (t.hwActive ctx))) : t.rebindDue ctx = false := by
  have claimed : t.hws.any (fun h => h.ctx == ctx && h.claim == some (t.hwFront ctx, t.genOf ctx (t.hwActive ctx))) = true :=
    List.any_eq_true.2 ⟨h, mem, by simp [hctx, claim]⟩
  rw [State.rebindDue, claimed, Bool.not_true, Bool.and_false, Bool.false_and]

end

/-! ### What a rebinding does (R243, R247) -/

/-- A field of a word where another one was set. -/
theorem fld_setFld_other (w : W32) {lo n lo' n' : Nat} (v : Nat) (h : lo' + n' ≤ lo ∨ lo + n ≤ lo') : fld (setFld w lo n v) lo' n' = fld w lo' n' := by
  refine Nat.eq_of_testBit_eq fun j => ?_
  rw [fld_testBit, fld_testBit, bitOf_setFld]
  by_cases hj : j < n'
  · rw [if_neg (by omega)]
  · simp [hj]

section
variable (s : State) (c : Nat)

theorem frontMoved_word : (s.frontMoved c).reg (aHwc c 4) = setFld (setFld (s.reg (aHwc c 4)) 8 16 (s.hwFront c + 1)) 5 2 2 := by
  simp only [State.frontMoved, State.setF, State.reg_setReg]

theorem frontMoved_parts (h : s.hwFront c + 1 < 65536) : (s.frontMoved c).hwFront c = s.hwFront c + 1 ∧ (s.frontMoved c).hwSwap c = 2 ∧
    (s.frontMoved c).hwActive c = s.hwActive c := by
  simp only [State.hwFront, State.hwSwap, State.hwActive, State.regF, frontMoved_word]
  refine ⟨?_, fld_setFld _ (by decide) (by decide), ?_⟩
  · rw [fld_setFld_other _ _ (.inr (by decide)), fld_setFld _ h (by decide)]
  · rw [fld_setFld_other _ _ (.inl (by decide)), fld_setFld_other _ _ (.inl (by decide))]

variable {s c} in
/-- Where no stream of the context is held, none is confirmed. -/
theorem confirmHeld_none (k : Nat) (h : ∀ x ∈ s.hws, x.ctx = c → x.held = false ∧ x.heldRearm = false) : s.confirmHeld c k = s := by
  refine foldl_keeps_mem id _ _ (fun t x hx => ?_) s
  obtain ⟨mem, hctx⟩ := List.mem_filter.1 hx
  obtain ⟨held, rearm⟩ := h x mem (by simpa using hctx)
  simp [held, rearm]

/-- Where the one stream of the context is an open held for the layer, it is confirmed and claims the layer. -/
theorem confirmHeld_one {h : HwStream} (one : s.hws.filter (fun x => x.ctx == c) = [h]) (held : h.held = true) :
    s.confirmHeld c h.desc.hwLayer = ((s.setHw { h with held := false, claim := some (h.desc.hwLayer, h.desc.hwGen) }).hwConfirm h 0).hwAfter
      h.port h.slot := by
  rw [State.confirmHeld, one, List.foldl_cons, List.foldl_nil, if_pos ⟨held, rfl⟩]

/-- A rebinding: the front moves, held opens are confirmed, the operation of the swap tells of it, and after the last layer the swap is complete. -/
theorem rebind_told {t : State} {o : LongOp} (ht : ((s.frontMoved c).confirmHeld c (s.hwFront c)).hwcSync c = t) (ho : t.swapOp c = some o)
    {u : State} (hu : t.rebindTold c o (s.hwFront c) = u) :
    s.rebind c = ((if u.hwLayers c (1 - u.hwActive c) ≤ s.hwFront c + 1 then u.swapComplete c else u).hwRest c).hwcSync c := by
  subst hu ht
  simp only [State.frontMoved] at ho
  simp only [State.rebind, ho]
  rfl

/-- The swap as its end leaves it, before the operation is told (R247). -/
def State.swapped (s : State) (c : Nat) : State :=
  let t := ((((s.setB (aHwc c 4) 4 (s.hwActive c == 0)).unbind c (s.hwActive c)).setF (aHwc c 4) 5 2 0).setB (aHwc c 4) 7 false)
  { t with frontGo := rem t.frontGo c }

theorem swapComplete_eq : s.swapComplete c = s.swapped c ∨ ∃ h code x, s.swapComplete c = (s.swapped c).endLong c h code x := by
  unfold State.swapComplete
  simp only
  split
  · exact .inr ⟨_, _, _, rfl⟩
  · exact .inl rfl

theorem swapped_word : (s.swapped c).reg (aHwc c 4) = setFld (setFld (setFld (setFld (setFld (s.reg (aHwc c 4)) 4 1 (b2n (s.hwActive c == 0)))
    (2 * s.hwActive c) 1 (b2n false)) (2 * s.hwActive c + 1) 1 (b2n false)) 5 2 0) 7 1 (b2n false) := by
  simp only [State.swapped, State.unbind, State.setB, State.setF, State.setReg, State.reg, look_put_same]

theorem hwActive_lt : s.hwActive c < 2 := Nat.mod_lt _ (by decide)

theorem swapped_parts : (s.swapped c).hwActive c = 1 - s.hwActive c ∧ (s.swapped c).hwSwap c = 0 ∧
    (s.swapped c).manOk c (s.hwActive c) = false ∧ (s.swapped c).keyOk c (s.hwActive c) = false ∧ c ∉ (s.swapped c).frontGo := by
  have two := hwActive_lt s c
  refine ⟨?_, ?_, ?_, ?_, not_mem_rem _ _⟩
  · have flips : b2n (s.hwActive c == 0) = 1 - s.hwActive c := by
      rcases Nat.lt_or_ge (s.hwActive c) 1 with h | h
      · simp [show s.hwActive c = 0 by omega, b2n]
      · simp [show s.hwActive c = 1 by omega, b2n]
    rw [State.hwActive, State.regF, swapped_word, fld_setFld_other _ _ (.inl (by decide)), fld_setFld_other _ _ (.inl (by decide)),
      fld_setFld_other _ _ (.inr (by omega)), fld_setFld_other _ _ (.inr (by omega)), flips, fld_setFld _ (by omega) (by decide)]
  · rw [State.hwSwap, State.regF, swapped_word, fld_setFld_other _ _ (.inl (by decide)), fld_setFld _ (by decide) (by decide)]
  · rw [State.manOk, State.regB, swapped_word, bitOf_setFld, if_neg (by omega), bitOf_setFld, if_neg (by omega), bitOf_setFld, if_neg (by omega),
      bitOf_setFld, if_pos (by omega), Nat.sub_self]
    simp [b2n]
  · rw [State.keyOk, State.regB, swapped_word, bitOf_setFld, if_neg (by omega), bitOf_setFld, if_neg (by omega), bitOf_setFld, if_pos (by omega),
      Nat.sub_self]
    simp [b2n]

end

/-- Settles O39: a port's rows by their guard, a binding by whether its manifest fits, LAYER_REBIND by whether the front layer is due; what a
rebinding and the end of a swap leave are fields of one word of the context's block. -/
theorem headwaterPortsAndBindings : Obligations.HeadwaterPortsAndBindings := by
  unfold Obligations.HeadwaterPortsAndBindings
  simp only [exec_pfcPause, exec_headwaterLinkDown, exec_headwaterPortUp, exec_bind, exec_bindDone, exec_frontGo, exec_layerRebind]
  refine ⟨?pause, ?resume, ?linkDown, ?portUp, ?portEarly, ?bind, ?bindDone, ?bindRefused, ?bindUnread, ?frontGo, ?frontIgnored, ?rebindsLater,
    ?rebindsFirst, ?unopened, ?suspended, ?claimed, ?front, ?rebindNone, ?rebindLast, ?rebindHeld, ?complete⟩
  case pause => exact fun s port prio hp on en own => execPfcPause_shows hp on en own true
  case resume => exact fun s port prio hp on en own => execPfcPause_shows hp on en own false
  case linkDown => exact fun s port now hp on => execHeadwaterLinkDown_leaves hp now on
  case portUp => exact fun s port now hp starting module ready rested => execHeadwaterPortUp_starts hp now starting module ready rested
  case portEarly => exact fun s port now t _ left early => execHeadwaterPortUp_early now left early
  case bind => exact fun s ctx slot hc hs up en => execBind_begins hc hs up en
  case bindDone =>
    intro s ctx slot m hc hs under hm
    obtain ⟨u, hu, good, bad⟩ := execBindDone_ends hc hs under (Prod.ext hm rfl)
    have kept := (execBindDone_kept ctx slot s).on u hu
    refine ⟨u, hu, ?_, kept.get 34, kept.get 13⟩
    split
    · next fits => exact good fits
    · next misfits => exact bad misfits
  case bindRefused =>
    intro s t ctx slot m hc hs under hm ht bad
    exact execBindDone_refuses hc hs under (Prod.ext hm ht.symm) bad
  case bindUnread =>
    intro s t ctx slot hc hs under hm
    refine ⟨_, execBindDone_unread hc hs under hm, manRefused_hwMan _ _ _, ?_, rfl⟩
    have read : t.hwBinding = rem s.hwBinding (2 * ctx + slot) := (Kept.eq2 hm (State.readMan_kept _ _ _)).get 33
    rw [manRefused_hwBinding, read]
    exact not_mem_rem _ _
  case frontGo => exact fun s ctx hc up swap follow => execFrontGo_counts hc up swap follow
  case frontIgnored => exact fun s ctx _ h => execFrontGo_ignored h
  case rebindsLater =>
    intro s t ctx now o hc ht first running ho h1 h2 unclaimed swap front
    refine execLayerRebind_rebinds ht hc first ?_
    simp [rebindDue_eq (.inr swap) running ho h1 h2 unclaimed, front]
  case rebindsFirst =>
    intro s t ctx now o hc ht first running ho h1 h2 unclaimed swap _ opened
    refine execLayerRebind_rebinds ht hc first ?_
    rw [rebindDue_eq (.inl swap) running ho h1 h2 unclaimed, Bool.or_eq_true]
    refine .inr ?_
    split at opened <;> simp_all
  case unopened => exact fun s t ctx now _ ht front shut => execLayerRebind_waits ht (rebindDue_unopened front shut)
  case suspended => exact fun s t ctx now o _ ht ho h => execLayerRebind_waits ht (rebindDue_suspended ho h)
  case claimed => exact fun s t ctx now h _ ht mem hctx claim => execLayerRebind_waits ht (rebindDue_claimed mem hctx claim)
  case front =>
    intro s ctx _ h
    obtain ⟨front, swap, active⟩ := frontMoved_parts s ctx h
    exact ⟨front, swap, active, rfl⟩
  case rebindNone =>
    intro s t ctx o unheld ht ho more
    rw [rebind_told s ctx (by rw [confirmHeld_none (s := s.frontMoved ctx) _ unheld, ht]) ho rfl, if_neg (Nat.not_le.2 more)]
  case rebindLast =>
    intro s t ctx o unheld ht ho last
    rw [rebind_told s ctx (by rw [confirmHeld_none (s := s.frontMoved ctx) _ unheld, ht]) ho rfl, if_pos last]
  case rebindHeld =>
    intro s t ctx o h one held layer ht ho more
    have confirmed := confirmHeld_one (s.frontMoved ctx) ctx one held
    rw [layer] at confirmed
    rw [rebind_told s ctx (by rw [confirmed, ht]) ho rfl, if_neg (Nat.not_le.2 more)]
  case complete => exact fun s ctx _ _ => ⟨s.swapped ctx, swapComplete_eq s ctx, swapped_parts s ctx⟩

end Sys2Proof.Machine
end

section
/-! OP_ADMIT, SLOT_RESERVATION_GRANT, REDUCE_FALLBACK, COLL_MEMBER_LOST and TWIN_DIGEST_TIMEOUT (R257 to R259, R320, R347, R348, R358, R380). -/

namespace Sys2Proof.Machine

/-! ### OP_ADMIT (R257, R259) -/

/-- The operation of entry n of a list as its descriptor's bytes give it, before it is admitted. -/
abbrev Op.ofEntry (n : Nat) (b : List Byte) (rebuild : Bool) : Op := { Op.blank with opn := n, desc := b, rebuild }

/-- May an operation start now: both dependencies have reached their stages and the job of its post has started (R259, R326)? -/
def State.unblocked (s : State) (c : Nat) (o : Op) : Bool :=
  (s.seqr c).depMet o o.dep1 (o.depStage % 2) && (s.seqr c).depMet o o.dep2 (o.depStage / 2 % 2) && s.jobStarted o

section
variable {s t : State} {ctx now h va n oldest : Nat} {rb : Bool} {b : List Byte} (hc : ctx ≤ 16)
  (next : s.nextEntry ctx = some (h, va, n, oldest, rb)) (may : s.mayAdmit ctx h n rb = true)
  (read : (s.atTime now).vaRead ctx va 128 = (.inr b, t)) (named : at' b 0 4 = n % 2 ^ 32)
include hc next may read named

/-- OP_ADMIT of a descriptor that is read and holds its own OPN: the check's code refuses it, or what blocks it makes it wait, or it is accepted. -/
theorem execOpAdmit_read {code : Nat} {u : State} (checked : t.opCheck ctx (Op.ofEntry n b rb) oldest = (code, u)) :
    execOpAdmit ctx now s = .next (if code ≠ 0 then (u.tookEntry ctx n rb none).failOp ctx n code false false
      else if !u.unblocked ctx (Op.ofEntry n b rb) then s else u.acceptOp ctx (Op.ofEntry n b rb)) := by
  refine (onUnit_next s _ (decide_eq_true hc) rfl).trans (congrArg Host.Outcome.next ?_)
  simp only [next, may, read, checked, named]
  exact (if_neg Bool.false_ne_true).trans (if_neg (not_not_intro rfl))

theorem execOpAdmit_accepts (passes : (t.opCheck ctx (Op.ofEntry n b rb) oldest).1 = 0)
    (free : (t.opCheck ctx (Op.ofEntry n b rb) oldest).2.unblocked ctx (Op.ofEntry n b rb) = true) :
    execOpAdmit ctx now s = .next ((t.opCheck ctx (Op.ofEntry n b rb) oldest).2.acceptOp ctx (Op.ofEntry n b rb)) := by
  rw [execOpAdmit_read hc next may read named (Prod.ext passes rfl), if_neg (not_not_intro rfl), free]
  rfl

theorem execOpAdmit_refuses {code : Nat} {u : State} (checked : t.opCheck ctx (Op.ofEntry n b rb) oldest = (code, u)) (bad : code ≠ 0) :
    execOpAdmit ctx now s = .next ((u.tookEntry ctx n rb none).failOp ctx n code false false) := by
  rw [execOpAdmit_read hc next may read named checked, if_pos bad]

end

/-! ### Slots and the fallback (R347, R348) -/

theorem execSlotReservationGrant_grants {s : State} {now c t : Nat} {o : Op} (first : s.firstRequest = some (c, o))
    (home : s.slotHome o.slotNeed = some t) (inside : inWindow (max now s.clk.now) o.reqAt 20000 = true) :
    execSlotReservationGrant now s = .next (((s.atTime now).takeHome t o.slotNeed).admitOp c { o with home := t, slots := o.slotNeed }) := by
  simp only [execSlotReservationGrant, first, home]
  exact whenB_next s _ inside

/-- The state in which a post whose window has passed looks for a chiplet: the fallback is recorded at severity 2, whatever the outcome (log 157). -/
def State.fallbackLogged (s : State) (ctx now : Nat) : State := (s.atTime now).cairnLog 2 clsCf 12 cReduceFallback ctx []

/-- REDUCE_FALLBACK of a waiting post after its window: staged on the lowest ON chiplet, or failed where there is none. -/
theorem execReduceFallback_late {s : State} {ctx opn now : Nat} {o : Op} (hc : ctx ≤ 16) (ho : s.op? ctx opn = some o) (waits : o.waiting = true)
    (late : inWindow (max now s.clk.now) o.reqAt 20000 = false) : execReduceFallback ctx opn now s = .next
      (match (List.range 12).find? ((s.fallbackLogged ctx now).isOn clsCf) with
       | some t => (((s.fallbackLogged ctx now).incSat (rg clsCf 12 0x10C)).takeHome t 0).admitOp ctx { o with home := t, slots := 0, staged := true }
       | none => (s.fallbackLogged ctx now).failOp ctx opn cRegionLost false false) := by
  rw [execReduceFallback, unitRow_ok _ (decide_eq_true hc), ho]
  exact (whenB_next s _ (by rw [waits, late]; rfl)).trans rfl

/-! ### A lost member (R320, R380) -/

/-- Has a commit barrier of this OPN gone COLL_TIMEOUT without its outcome, in a context that runs, is being held or is replayed (R380)? -/
def State.barrierLate (s : State) (ctx opn now : Nat) : Bool :=
  (s.rcv ctx).formed.isSome && !(s.rcv ctx).won && ((s.rcv ctx).formed.map (fun x => x.opn == opn)).getD false
    && !inWindow (max now s.clk.now) (s.rcv ctx).barrierAt (s.collTimeout (s.groupJob (s.regF (aRc ctx 0) 0 12)))
    && (s.rstate ctx == 0 || s.rstate ctx == 5 || s.rstate ctx == 1)

section
variable {s : State} {ctx opn now : Nat} (hc : ctx ≤ 16)
include hc

theorem execCollMemberLost_barrier (late : s.barrierLate ctx opn now = true) :
    execCollMemberLost ctx opn now s = .next ((s.atTime now).barrierLost ctx) :=
  (unitRow_ok _ (decide_eq_true hc)).trans (if_pos late)

/-- Without a barrier that is late, a post to which nothing came for COLL_TIMEOUT fails, and names the member that it waits on. -/
theorem execCollMemberLost_post {o : Op} {rank : Nat} (barrier : s.barrierLate ctx opn now = false) (ho : s.op? ctx opn = some o)
    (admitted : 1 ≤ o.stage) (coll : o.coll ≠ 0) (late : inWindow (max now s.clk.now) o.progress (s.collTimeout (s.groupJob o.group)) = false)
    (waited : s.memberRank o.group (s.waitsOn o) = rank) : execCollMemberLost ctx opn now s = .next
      ((((s.atTime now).memberLost ctx (s.groupJob o.group) rank).setOp ctx { o with lost := some rank }).collFail ctx
        { o with lost := some rank } cCollMemberLost false) := by
  subst waited
  refine (unitRow_ok _ (decide_eq_true hc)).trans ((if_neg (Bool.eq_false_iff.1 barrier)).trans ?_)
  rw [ho]
  exact whenB_next s _ (by simp [admitted, coll, late])

end

theorem barrierLate_unformed {s : State} {ctx : Nat} (h : (s.rcv ctx).formed = none) (opn now : Nat) : s.barrierLate ctx opn now = false := by
  rw [State.barrierLate, h]
  rfl

theorem barrierLate_formed {s : State} {ctx now : Nat} {x : CommitRec} (formed : (s.rcv ctx).formed = some x) (unwon : (s.rcv ctx).won = false)
    (late : inWindow (max now s.clk.now) (s.rcv ctx).barrierAt (s.collTimeout (s.groupJob (s.regF (aRc ctx 0) 0 12))) = false)
    (state : s.rstate ctx = 0 ∨ s.rstate ctx = 1 ∨ s.rstate ctx = 5) : s.barrierLate ctx x.opn now = true := by
  simp only [State.barrierLate, formed, unwon, late]
  rcases state with h | h | h <;> simp [h]

/-! ### Twins (R358) -/

theorem execTwinDigestTimeout_unpairs {s : State} {ctx opn chunk now : Nat} {o : Op} (hc : ctx ≤ 16)
    (late : ((s.seqr ctx).ops ++ (s.seqr ctx).past ++ (s.seqr ctx).owed).find?
      (fun o => o.opn == opn && s.digestLate o chunk (max now s.clk.now)) = some o) (pairing : s.pairing = true) :
    execTwinDigestTimeout ctx opn chunk now s = .next ((((s.atTime now).setB (rg clsCf 12 0x108) 0 true).cairnLog 5 clsCf 12 0 ctx
      [itPost o.group o.seq chunk (chunk * o.chunk)]).pumpAll) := by
  refine (unitRow_ok _ (decide_eq_true hc)).trans ?_
  rw [late]
  exact whenB_next s _ pairing

/-- The twin's digest is late by the time of the chunk's own digest alone. -/
theorem digestLate_own {s : State} {o : Op} {chunk v t : Nat} (own : look? o.own chunk = some (v, t)) (twin : look? o.twin chunk = none) (n : Nat) :
    s.digestLate o chunk n = !inWindow n t (s.collTimeout (s.groupJob o.group)) := by
  simp only [State.digestLate, own, twin, Option.isNone_none, Bool.true_and]

/-- Settles O44: OP_ADMIT by the outcome of its check, a request by its window, a lost member by whether a commit barrier is late. -/
theorem opsAndTheirLimits : Obligations.OpsAndTheirLimits := by
  unfold Obligations.OpsAndTheirLimits
  simp only [exec_opAdmit, exec_slotReservationGrant, exec_reduceFallback, exec_collMemberLost, exec_twinDigestTimeout]
  refine ⟨?accepted, ?refused, ?granted, ?staged, ?noHome, ?memberLost, ?barrierLost, ?unpaired, ?digestLate⟩
  case accepted =>
    intro s ctx now h va n oldest rb b hc next may read named passes dep1 dep2 started
    refine execOpAdmit_accepts hc next may (Prod.ext read rfl) named passes ?_
    rw [State.unblocked, dep1, dep2, started]
    rfl
  case refused =>
    intro s ctx now h va n oldest rb b hc next may read named bad
    exact execOpAdmit_refuses hc next may (Prod.ext read rfl) named rfl bad
  case granted => exact fun s now c t o first home inside => execSlotReservationGrant_grants first home inside
  case staged =>
    intro s ctx opn now t o hc ho waits late on
    rw [execReduceFallback_late hc ho waits late, State.fallbackLogged, on]
  case noHome =>
    intro s ctx opn now o hc ho waits late off
    rw [execReduceFallback_late hc ho waits late, State.fallbackLogged, off]
  case memberLost =>
    intro s ctx opn now o hc unformed ho admitted coll late
    exact execCollMemberLost_post hc (barrierLate_unformed unformed opn now) ho admitted coll late rfl
  case barrierLost =>
    rintro s ctx _ now x hc formed rfl unwon late state
    exact execCollMemberLost_barrier hc (barrierLate_formed formed unwon late state)
  case unpaired => exact fun s ctx opn chunk now o hc late pairing => execTwinDigestTimeout_unpairs hc late pairing
  case digestLate => exact fun s o chunk n v t own twin => digestLate_own own twin n

end Sys2Proof.Machine
end

section
/-! Codewords and link-control flits of an Eztex link that is up (R294, R298, R299, R301): O41. -/

namespace Sys2Proof.Machine

/-! ### What a link sends while no packet waits (R298) -/

/-- A link is up by the STATE of its page. -/
theorem linkUp_congr {s t : State} {l : Nat} (h : t.reg (rg clsLink l 0xC) = s.reg (rg clsLink l 0xC)) : t.linkUp l = s.linkUp l := by
  rw [State.linkUp, State.linkUp, State.isOn, State.isOn, pst_congr h]

/-- The flits of codewords that the window of 512 has room for. -/
def State.lcRoom (s : State) (l : Nat) : Nat := 10 * (512 - (s.link l).unacked.length)

/-- The control flits that a link sends now. -/
def State.lcFlits (s : State) (l : Nat) : List TxFlit := ((s.link l).lcOut.take (s.lcRoom l)).map (fun k => (true, (s.lcNow l k).bytes, none))

/-- What a link keeps of a codeword that it sends: its number is used up and it waits to be acknowledged. -/
theorem sendCodeword_parts (s : State) (l : Nat) (fs : List TxFlit) :
    ((s.sendCodeword l fs).link l).lcOut = (s.link l).lcOut ∧ ((s.sendCodeword l fs).link l).sinceAck = (s.link l).sinceAck ∧
      (s.sendCodeword l fs).out.length = s.out.length + 1 := by
  have link : ∃ n u, (s.sendCodeword l fs).link l = { s.link l with txSeq := n, unacked := u } := ⟨_, _, State.link_setLink s l _⟩
  obtain ⟨n, u, link⟩ := link
  rw [link]
  exact ⟨rfl, rfl, List.length_append⟩

section
variable {s : State} {l : Nat} (wait : (s.link l).wait = [])
include wait

/-- With no packet waiting, a link sends its control flits alone. -/
theorem linkPump_controls (up : s.linkUp l = true) : s.linkPump l =
    (((s.setLink l { s.link l with lcOut := (s.link l).lcOut.drop (s.lcRoom l) }).sendFlits l (s.lcFlits l).length (s.lcFlits l)).add64
      (rg clsLink l 0x110) 0).noteCredit (linkDir l) := by
  simp [State.linkPump, up, wait, LinkSt.choose, State.lcFlits, State.lcRoom, sumL]

/-- With nothing to send, a link stays as it is and nothing goes out. -/
theorem linkPump_idle (lc : (s.link l).lcOut = []) : (s.linkPump l).link l = s.link l ∧ (s.linkPump l).out = s.out := by
  by_cases up : s.linkUp l = true
  · have none : s.lcFlits l = [] := by rw [State.lcFlits, lc, List.take_nil, List.map_nil]
    rw [linkPump_controls wait up, none]
    refine ⟨(State.link_setLink s l _).trans ?_, rfl⟩
    rw [lc, List.drop_nil, ← lc]
  · simp [State.linkPump, up]

/-- A control flit that is due while nothing else is goes out at once, in a codeword of its own. -/
theorem linkPump_control {k : Nat} (up : s.linkUp l = true) (lc : (s.link l).lcOut = [k]) (window : (s.link l).unacked.length < 512) :
    ((s.linkPump l).link l).lcOut = [] ∧ ((s.linkPump l).link l).sinceAck = (s.link l).sinceAck ∧ (s.linkPump l).out.length = s.out.length + 1 := by
  have room : [k].length ≤ s.lcRoom l := by
    rw [State.lcRoom, List.length_singleton]
    omega
  have one : s.lcFlits l = [(true, (s.lcNow l k).bytes, none)] := by rw [State.lcFlits, lc, List.take_of_length_le room]; rfl
  obtain ⟨lcOut, sinceAck, out⟩ := sendCodeword_parts (s.setLink l { s.link l with lcOut := [] }) l [(true, (s.lcNow l k).bytes, none)]
  rw [State.link_setLink] at lcOut sinceAck
  rw [linkPump_controls wait up, one, lc, List.drop_eq_nil_of_le room]
  exact ⟨lcOut, sinceAck, out⟩

end

/-- The control flit of an LC_TYPE goes out at once where nothing else waits. -/
theorem sendLc_parts {s : State} {l : Nat} (up : s.linkUp l = true) (wait : (s.link l).wait = []) (lc : (s.link l).lcOut = [])
    (window : (s.link l).unacked.length < 512) (k : Nat) :
    ((s.sendLc l k).link l).lcOut = [] ∧ ((s.sendLc l k).link l).sinceAck = (s.link l).sinceAck ∧
      (s.sendLc l k).out.length = s.out.length + 1 := by
  have due : (s.setLink l { s.link l with lcOut := (s.link l).lcOut ++ [k] }).link l = { s.link l with lcOut := [k] } := by
    rw [State.link_setLink, lc, List.nil_append]
  have sent := linkPump_control (s := s.setLink l { s.link l with lcOut := (s.link l).lcOut ++ [k] }) (k := k) (by rw [due]; exact wait) up
    (by rw [due]) (by rw [due]; exact window)
  rw [due] at sent
  exact sent

/-! ### CODEWORD_RECEIVE (R294, R298, R301) -/

/-- What a codeword that is the next leaves at its link, before its packets arrive. -/
def LinkSt.codewordIn (x : LinkSt) (cw : Codeword) (rest : List (List Byte)) : LinkSt :=
  { x with rxLast := some cw.seq, sinceAck := x.sinceAck + 1, rxFlits := rest,
           lcIn := x.lcIn ++ ((pickFlits cw true).filterMap lcFlitOf).filter (fun f => decide (f.type < 3)) }

/-- A codeword with `wrong` symbols corrected, taken in with the whole packets that it ends. -/
def State.codewordTaken (s : State) (l : Nat) (cw : Codeword) (wrong : Nat) (ps : List (WirePkt × Bool)) (rest : List (List Byte)) : State :=
  (ps.foldl (fun s p => s.wireArrive l p.1 p.2) ((s.add64 (aLink l 0x120) wrong).setLink l ((s.link l).codewordIn cw rest))).occSync l

/-- The thirty-second codeword since the last ACK_CREDIT asks for one. -/
def State.ackDue (s : State) (l : Nat) : State :=
  if 32 ≤ (s.link l).sinceAck then (s.setLink l { s.link l with sinceAck := 0 }).sendLc l 1 else s

section
variable {s : State} {l : Nat} {lanes : Lanes} (hl : l < 76) (ok : lanesOk lanes = true) (up : s.linkUp l = true)
include hl ok up

/-- A codeword that the code cannot correct is counted and answered by a NAK. -/
theorem execCodewordReceive_uncorrectable (h : codewordIn lanes = none) :
    execCodewordReceive l lanes s = .next ((s.incSat (aLink l 0x128)).sendLc l 2) := by
  rw [execCodewordReceive, onUnit_next s _ (by simp [hl, ok]) up, h]

variable {cw : Codeword} {wrong : Nat} (h : codewordIn lanes = some (cw, wrong))
include h

/-- One that is not the next is answered by a NAK. -/
theorem execCodewordReceive_notNext (seq : cw.seq ≠ ((s.link l).last + 1) % 1024) :
    execCodewordReceive l lanes s = .next ((s.add64 (aLink l 0x120) wrong).sendLc l 2) := by
  rw [execCodewordReceive, onUnit_next s _ (by simp [hl, ok]) up, h]
  exact congrArg Host.Outcome.next (if_pos seq)

/-- The next one is taken in, and acknowledged where that is due. -/
theorem execCodewordReceive_next (seq : cw.seq = ((s.link l).last + 1) % 1024) {ps : List (WirePkt × Bool)} {rest : List (List Byte)}
    (cut : wholePackets ((s.link l).rxFlits ++ pickFlits cw false).length ((s.link l).rxFlits ++ pickFlits cw false) = (ps, rest)) :
    execCodewordReceive l lanes s = .next ((s.codewordTaken l cw wrong ps rest).ackDue l) := by
  have link : (s.add64 (aLink l 0x120) wrong).link l = s.link l := rfl
  rw [execCodewordReceive, onUnit_next s _ (by simp [hl, ok]) up, h]
  simp only [link, cut]
  exact congrArg Host.Outcome.next (if_neg (not_not_intro seq))

end

/-- A codeword that ends no packet changes its link and counts, and no input. -/
theorem codewordTaken_flits (s : State) (l : Nat) (cw : Codeword) (wrong : Nat) (rest : List (List Byte)) :
    (s.codewordTaken l cw wrong [] rest).link l = (s.link l).codewordIn cw rest := State.link_setLink _ l _

/-- It leaves the STATE of the link's page. -/
theorem codewordTaken_up (s : State) (l : Nat) (cw : Codeword) (wrong : Nat) (rest : List (List Byte)) :
    (s.codewordTaken l cw wrong [] rest).linkUp l = s.linkUp l := by
  have addr : rg clsLink l 0xC % 0x1000 = 0xC := by
    rw [show rg clsLink l 0xC = 0x200000 + 0x1000 * l + 0xC from rfl]
    omega
  refine linkUp_congr ((occSync_header addr _ l).trans ?_)
  exact setReg64_other _ (header_ne_rgLink addr l (by decide)) (header_ne_rgLink addr l (off := 0x124) (by decide))

theorem ackDue_early {s : State} {l : Nat} (h : (s.link l).sinceAck < 32) : s.ackDue l = s := if_neg (Nat.not_le.2 h)

theorem ackDue_kept (s : State) (l : Nat) : Kept 2260595959136260 s (s.ackDue l) := by
  unfold State.ackDue
  split
  · exact Kept.step (State.sendLc_kept _ l 1) rfl (Kept.step (State.setLink_kept s l _) rfl Kept.here)
  · exact Kept.here

/-- The ACK_CREDIT that is due goes out at once where nothing else waits, and the count begins again. -/
theorem ackDue_sends {s : State} {l : Nat} (up : s.linkUp l = true) (due : 32 ≤ (s.link l).sinceAck) (wait : (s.link l).wait = [])
    (lc : (s.link l).lcOut = []) (window : (s.link l).unacked.length < 512) :
    ((s.ackDue l).link l).lcOut = [] ∧ ((s.ackDue l).link l).sinceAck = 0 ∧ (s.ackDue l).out.length = s.out.length + 1 := by
  have link := State.link_setLink s l { s.link l with sinceAck := 0 }
  obtain ⟨lcOut, sinceAck, out⟩ := sendLc_parts (s := s.setLink l { s.link l with sinceAck := 0 }) (l := l) up (by rw [link]; exact wait)
    (by rw [link]; exact lc) (by rw [link]; exact window) 1
  rw [State.ackDue, if_pos due]
  exact ⟨lcOut, sinceAck.trans (by rw [link]), out⟩

/-- A packet for the twin plane that came over another link is in transit. -/
theorem isHere_twin (s : State) {l : Nat} {p : WirePkt} (twin : p.dstTwin = true) (dir : linkDir l ≠ 6) : s.isHere l p = false := by
  simp [State.isHere, twin, dir]

/-- A good packet in transit, of a link's present EPOCH, waits at the input, and no key is kept of it. -/
theorem wireArrive_transit {s : State} {l : Nat} {p : WirePkt} (type : 1 ≤ p.type ∧ p.type ≤ 10) (epoch : p.epoch = (s.link l).peerEpoch)
    (twin : p.dstTwin = true) (dir : linkDir l ≠ 6) :
    (s.wireArrive l p true).rx = s.rx ++ [⟨l, p, true⟩] ∧ (s.wireArrive l p true).keys = s.keys ∧ (s.wireArrive l p true).link l = s.link l := by
  have fed := State.feedUnit_kept (s.add64 (aLink l 0x118) (wireFlits p)) (linkEndpoint l) 2 (linkUnit l) 0 p.payload
  have links : (((s.add64 (aLink l 0x118) (wireFlits p)).feedUnit (linkEndpoint l) 2 (linkUnit l) 0 p.payload)).link l = s.link l :=
    congrArg (fun m => look LinkSt.init m l) (fed.get 43)
  have rx : (((s.add64 (aLink l 0x118) (wireFlits p)).feedUnit (linkEndpoint l) 2 (linkUnit l) 0 p.payload)).rx = s.rx := fed.get 44
  obtain ⟨lo, hi⟩ := type
  have known : ¬(true = false ∨ p.type = 0 ∨ 10 < p.type) := by simp; omega
  unfold State.wireArrive
  simp only [isHere_twin _ twin dir, links, Bool.false_and, Bool.false_eq_true, if_false]
  rw [if_neg known, if_neg (not_not_intro epoch)]
  exact ⟨congrArg (· ++ _) rx, fed.get 46, links⟩

/-! ### IDLE, ACK_CREDIT and NAK (R298, R299) -/

theorem acked_wait (x : LinkSt) (n : Nat) : (x.acked n).wait = x.wait := by unfold LinkSt.acked; split <;> rfl
theorem acked_lcOut (x : LinkSt) (n : Nat) : (x.acked n).lcOut = x.lcOut := by unfold LinkSt.acked; split <;> rfl
theorem acked_lcIn (x : LinkSt) (n : Nat) : (x.acked n).lcIn = x.lcIn := by unfold LinkSt.acked; split <;> rfl

/-- A number that no codeword in the window has acknowledges none. -/
theorem acked_unknown {x : LinkSt} {n : Nat} (h : ∀ e ∈ x.unacked, e.cw.seq ≠ n) : x.acked n = x := by
  have none : x.unacked.any (fun e => e.cw.seq == n) = false := by
    rw [List.any_eq_false]
    exact fun e he => by simpa using h e he
  rw [LinkSt.acked, none]
  rfl

/-- What a link knows after a control flit of its peer: what it acknowledges, and the credits that it gives. -/
def LinkSt.told (x : LinkSt) (f : LcFlit) : LinkSt :=
  { x.acked f.last with lcIn := (x.acked f.last).lcIn.drop 1,
                        credit := (List.range 6).map (fun b => (bufSizes.getD b 0 + f.credits.getD b 0) % 65536) }

theorem lcTake_told (s : State) (l : Nat) (f : LcFlit) : s.lcTake l f = (s.setLink l ((s.link l).told f)).linkPump l := rfl

/-- A control flit taken while the link has nothing to send: its credits and its acknowledgement are noted, and nothing goes out. -/
theorem lcTake_quiet {s : State} {l : Nat} (wait : (s.link l).wait = []) (lc : (s.link l).lcOut = []) (f : LcFlit) :
    ((s.lcTake l f).link l).credit = (List.range 6).map (fun b => (bufSizes.getD b 0 + f.credits.getD b 0) % 65536) ∧
      ((s.lcTake l f).link l).unacked = ((s.link l).acked f.last).unacked ∧ ((s.lcTake l f).link l).lcIn = (s.link l).lcIn.drop 1 ∧
      (s.lcTake l f).out = s.out := by
  have told := State.link_setLink s l ((s.link l).told f)
  obtain ⟨link, out⟩ := linkPump_idle (s := s.setLink l ((s.link l).told f)) (l := l) (by rw [told]; exact (acked_wait _ _).trans wait)
    (by rw [told]; exact (acked_lcOut _ _).trans lc)
  rw [lcTake_told, link, told]
  exact ⟨rfl, rfl, congrArg (List.drop 1) (acked_lcIn _ _), out⟩

/-- Without a control flit no row of one has an effect. -/
theorem lcFront_empty {s : State} {l : Nat} (h : (s.link l).lcIn = []) (type : Nat) : s.lcFront l type = none := by
  simp [State.lcFront, h]

theorem whenSome_stays {α : Type} {o : Option α} (s : State) (f : α → State → State) (k : o = none) : whenSome o s f = .next s := by
  simp [whenSome, k]

/-- Messages sent one after the other. -/
theorem foldl_emit {α : Type} (m : α → OutMsg) (l : List α) (s : State) :
    l.foldl (fun s e => s.emit (m e)) s = { s with out := s.out ++ l.map m } := by
  induction l generalizing s with
  | nil => rw [List.foldl_nil, List.map_nil, List.append_nil]
  | cons e l ih =>
    rw [List.foldl_cons, ih]
    simp only [State.emit, List.append_assoc, List.map_cons, List.singleton_append]

/-- A codeword sent once more. -/
def TxWord.again (e : TxWord) : TxWord := { e with resent := e.resent + 1 }

/-- Every codeword of the window sent again and counted. -/
def State.resends (s : State) (l : Nat) : State :=
  (s.link l).unacked.foldl (fun s e => s.emit (.codeword l (cwLanes e.cw)))
    ((s.setLink l { s.link l with unacked := (s.link l).unacked.map TxWord.again }).addSat (aLink l 0x12C) (s.link l).unacked.length)

theorem resends_parts (s : State) (l : Nat) : (s.resends l).link l = { s.link l with unacked := (s.link l).unacked.map TxWord.again } ∧
    (s.resends l).out = s.out ++ (s.link l).unacked.map (fun e => OutMsg.codeword l (cwLanes e.cw)) := by
  rw [State.resends, foldl_emit (fun e : TxWord => OutMsg.codeword l (cwLanes e.cw))]
  exact ⟨State.link_setLink s l _, rfl⟩

/-- The NAK that asked for them acknowledges none of them, and nothing else goes out. -/
theorem resends_lcTake {s : State} {l : Nat} (f : LcFlit) (wait : (s.link l).wait = []) (lc : (s.link l).lcOut = [])
    (unknown : ∀ e ∈ (s.link l).unacked, e.cw.seq ≠ f.last) :
    (((s.resends l).lcTake l f).link l).unacked = (s.link l).unacked.map TxWord.again ∧
      ((s.resends l).lcTake l f).out = s.out ++ (s.link l).unacked.map (fun e => OutMsg.codeword l (cwLanes e.cw)) := by
  obtain ⟨link, sent⟩ := resends_parts s l
  obtain ⟨-, unacked, -, out⟩ := lcTake_quiet (s := s.resends l) (l := l) (by rw [link]; exact wait) (by rw [link]; exact lc) f
  have unknown : ∀ e ∈ ((s.resends l).link l).unacked, e.cw.seq ≠ f.last := by
    rw [link]
    exact List.forall_mem_map.2 unknown
  refine ⟨unacked.trans ?_, out.trans sent⟩
  rw [acked_unknown unknown, link]

section
variable {s : State} {l : Nat} {f : LcFlit} (hl : l < 76)
include hl

theorem execIdle_takes (h : s.lcFront l 0 = some f) : execIdle l s = .next (s.lcTake l f) :=
  (unitRow_ok _ (decide_eq_true hl)).trans (whenSome_next s _ h)

theorem execAckCredit_takes (h : s.lcFront l 1 = some f) : execAckCredit l s = .next (s.lcTake l f) :=
  (unitRow_ok _ (decide_eq_true hl)).trans (whenSome_next s _ h)

theorem execLc_none (h : (s.link l).lcIn = []) : execIdle l s = .next s ∧ execAckCredit l s = .next s ∧ execNak l s = .next s :=
  ⟨(unitRow_ok _ (decide_eq_true hl)).trans (whenSome_stays s _ (lcFront_empty h 0)),
    (unitRow_ok _ (decide_eq_true hl)).trans (whenSome_stays s _ (lcFront_empty h 1)),
    (unitRow_ok _ (decide_eq_true hl)).trans (whenSome_stays s _ (lcFront_empty h 2))⟩

/-- A NAK after a codeword that was sent again 16 times faults the link. -/
theorem execNak_faults {e : TxWord} (h : s.lcFront l 2 = some f) (he : e ∈ ((s.link l).acked f.last).unacked) (often : 16 ≤ e.resent) :
    execNak l s = .next ((s.lcTake l f).linkFault l 7) := by
  refine (unitRow_ok _ (decide_eq_true hl)).trans ((whenSome_next s _ h).trans (congrArg Host.Outcome.next (if_pos ?_)))
  exact List.any_eq_true.2 ⟨e, he, decide_eq_true often⟩

/-- A NAK that names no codeword in the window, none of which was sent again 16 times, sends all of them again. -/
theorem execNak_resends (h : s.lcFront l 2 = some f) (few : ∀ e ∈ (s.link l).unacked, e.resent < 16)
    (unknown : ∀ e ∈ (s.link l).unacked, e.cw.seq ≠ f.last) : execNak l s = .next ((s.resends l).lcTake l f) := by
  have rare : ¬(s.link l).unacked.any (fun e => decide (16 ≤ e.resent)) = true := by
    rw [List.any_eq_true]
    rintro ⟨e, he, often⟩
    exact absurd (of_decide_eq_true often) (Nat.not_le.2 (few e he))
  have all : (s.link l).unacked.map (fun e => if (s.link l).unacked.contains e then { e with resent := e.resent + 1 } else e)
      = (s.link l).unacked.map TxWord.again := List.map_congr_left fun e he => if_pos (List.contains_iff_mem.2 he)
  rw [execNak, unitRow_ok _ (decide_eq_true hl), whenSome_next s _ h]
  simp only [acked_unknown unknown, all]
  exact congrArg Host.Outcome.next (if_neg rare)

end

/-- Settles O41: a codeword by its decoding and its number, a control flit by what it acknowledges and names. -/
theorem eztexLinks : Obligations.EztexLinks := by
  unfold Obligations.EztexLinks
  simp only [exec_codewordReceive, exec_idle, exec_ackCredit, exec_nak, exec_linkStopDone, exec_eztexLinkDown]
  refine ⟨?flits, ?packet, ?acknowledged, ?uncorrectable, ?notNext, ?idle, ?ackCredit, ?nothing, ?credits, ?again, ?tooOften, ?stopped, ?unacked,
    ?down⟩
  case flits =>
    intro s l lanes cw n rest hl ok up h seq cut few
    have link := codewordTaken_flits s l cw n rest
    refine ⟨_, execCodewordReceive_next hl ok up h seq cut, ?_⟩
    rw [ackDue_early (by rw [link]; exact Nat.succ_lt_succ few), link]
    exact ⟨rfl, rfl, rfl, rfl, rfl, rfl⟩
  case packet =>
    intro s l lanes cw n rest p hl ok up h seq cut few type epoch twin dir
    obtain ⟨rx, keys, link⟩ := wireArrive_transit (s := (s.add64 (aLink l 0x120) n).setLink l ((s.link l).codewordIn cw rest)) (l := l) (p := p)
      (by omega) (by rw [State.link_setLink]; exact epoch) twin dir
    have link : (s.codewordTaken l cw n [(p, true)] rest).link l = (s.link l).codewordIn cw rest := link.trans (State.link_setLink _ l _)
    refine ⟨_, execCodewordReceive_next hl ok up h seq cut, ?_⟩
    rw [ackDue_early (by rw [link]; exact Nat.succ_lt_succ few), link]
    exact ⟨rx, keys, rfl⟩
  case acknowledged =>
    intro s l lanes cw n rest hl ok up h seq cut last wait lc window
    obtain ⟨lcOut, sinceAck, out⟩ := ackDue_sends (s := s.codewordTaken l cw n [] rest) (l := l) ((codewordTaken_up s l cw n rest).trans up)
      (by rw [codewordTaken_flits]; exact Nat.le_of_eq (congrArg Nat.succ last).symm) (by rw [codewordTaken_flits]; exact wait)
      (by rw [codewordTaken_flits]; exact lc) (by rw [codewordTaken_flits]; exact window)
    exact ⟨_, execCodewordReceive_next hl ok up h seq cut, sinceAck, lcOut, (ackDue_kept _ l).get 44, out⟩
  case uncorrectable => exact fun s l lanes hl ok up h => execCodewordReceive_uncorrectable hl ok up h
  case notNext => exact fun s l lanes cw n hl ok up h seq => execCodewordReceive_notNext hl ok up h seq
  case idle => exact fun s l f hl h => execIdle_takes hl h
  case ackCredit => exact fun s l f hl h => execAckCredit_takes hl h
  case nothing => exact fun s l hl h => execLc_none hl h
  case credits =>
    intro s l f hl h wait lc
    exact ⟨_, execAckCredit_takes hl h, lcTake_quiet wait lc f⟩
  case again =>
    intro s l f hl h wait lc few unknown
    obtain ⟨unacked, out⟩ := resends_lcTake f wait lc unknown
    exact ⟨_, execNak_resends hl h few unknown, unacked, out⟩
  case tooOften => exact fun s l f e hl h he often => execNak_faults hl h he often
  case stopped => exact fun s l hl stopping acked => onUnit_next s _ (decide_eq_true hl) (by rw [stopping, acked]; rfl)
  case unacked => exact fun s l hl waiting => onUnit_stays s _ (by simp [waiting])
  case down => exact fun s l hl up => onUnit_next s _ (decide_eq_true hl) up

end Sys2Proof.Machine
end

section
/-! Packets of posts: GRANT, CHUNK, COUNT, ABORT, DIGEST and CBAR (R302, R317 to R322, R327, R353, R357, R380, R386): O43. -/

namespace Sys2Proof.Machine

@[simp] theorem wireTake_early (s : State) (i : Nat) (r : RxPkt) : (s.wireTake i r).early = s.early := (State.wireTake_kept s i r).get 45

/-! ### GRANT (R317, R319) -/

section
variable {s : State} {c m : Nat} {o : Op} {p : WirePkt} (member : s.memberOf o.group p.srcRank = some m)
include member

/-- A grant above the member's limit raises it. -/
theorem takeGrant_raises (h : look 0 o.limits m < p.arg2) : s.takeGrant c o p =
    if p.sig = s.sigTo o m then s.setOp c { o with limits := put o.limits m p.arg2, progress := s.clk.now }
    else s.collFail c o cCollMismatch false := by
  simp only [State.takeGrant, member, if_pos h, ne_eq, ite_not]

/-- A member's first grant, of 0 bytes, is noted and is no progress (log 50). -/
theorem takeGrant_first (zero : p.arg2 = 0) (first : look? o.limits m = none) : s.takeGrant c o p =
    if p.sig = s.sigTo o m then s.setOp c { o with limits := put o.limits m 0 } else s.collFail c o cCollMismatch false := by
  simp only [State.takeGrant, member, zero, first, Nat.not_lt_zero, if_false, Option.isNone_none, if_true, ne_eq, ite_not]

end

section
variable {s t : State} {i : Nat} {r : RxPkt} (came : s.wireAt? i 1 = some r) (ht : s.wireTake i r = t)
include came ht

theorem execGrant_admitted {c : Nat} {o : Op} (post : t.postOf r.pkt = some (c, o)) :
    execGrant i s = .next ((t.takeGrant c o r.pkt).postPump c o.opn) := by
  rw [execGrant, whenSome_next s _ came, ht]
  simp only [post]

/-- A grant for a post to come waits for it, and may let rotations begin (log 48, log 104). -/
theorem execGrant_early (post : t.postOf r.pkt = none) (toCome : t.postToCome r.pkt = true) :
    execGrant i s = .next (({ t with early := s.early ++ [r.pkt] } : State).rotationsDue ((t.jobCtx r.pkt).getD 17)) := by
  have early : t.early = s.early := by rw [← ht, wireTake_early]
  rw [execGrant, whenSome_next s _ came, ht]
  simp only [post, State.keepEarly, toCome, if_true, early]

end

/-! ### CHUNK (R317, R319, R327) -/

section
variable {s t : State} {i : Nat} {r : RxPkt} (came : s.wireAt? i 2 = some r) (ht : s.wireTake i r = t)
include came

theorem execChunk_chkBad (check : Option Upset) (bad : s.chkBad r = true) : execChunk i check s = .next ((s.wireTake i r).chkFail r.pkt) := by
  rw [execChunk, whenSome_next s _ came]
  exact congrArg Host.Outcome.next (if_pos bad)

variable (good : s.chkBad r = false)
include good ht

/-- A chunk for a post that has ended is a copy. -/
theorem execChunk_copy (check : Option Upset) (post : t.postOf r.pkt = none) (ended : t.postEnded r.pkt = true) :
    execChunk i check s = .next ((t.retireKeys (fun k => some k == wireKey r.pkt)).incSat (aLink r.link 0x134)) := by
  rw [execChunk, whenSome_next s _ came]
  simp only [good, ht, post, State.noPost, ended, Bool.false_eq_true, if_false, if_true]

variable {c m : Nat} {o : Op} (post : t.postOf r.pkt = some (c, o)) (member : t.memberOf o.group r.pkt.srcRank = some m)
include post member

theorem execChunk_poisoned (check : Option Upset) (poison : r.pkt.poison = true) : execChunk i check s = .next (t.checkFail c o) := by
  rw [execChunk, whenSome_next s _ came]
  simp only [good, ht, post, member, poison, Bool.false_eq_true, if_false, if_true]

variable (clean : r.pkt.poison = false)
include clean

/-- A done chunk marks its member done. -/
theorem execChunk_done (check : Option Upset) (len : r.pkt.len = 0) : execChunk i check s = .next
    (if r.pkt.sig = t.sigFrom o m then t.postInput c o { o with dones := ins o.dones m } none else t.collFail c o cCollMismatch false) := by
  rw [execChunk, whenSome_next s _ came]
  simp only [good, ht, post, member, clean, len, Bool.false_eq_true, if_false, if_true, ne_eq, ite_not]

/-- A chunk with bytes adds those that count. -/
theorem execChunk_bytes (check : Option Upset) (len : r.pkt.len ≠ 0) : execChunk i check s = .next
    (if r.pkt.sig = t.sigFrom o m then t.postInput c o { o with
        progress := t.clk.now, got := o.got ++ [(m, r.pkt.offset, (t.chunkData o m r.pkt).length)],
        gotMem := writeBytes o.gotMem (m * 2 ^ 40 + r.pkt.offset) (t.chunkData o m r.pkt) } check
      else t.collFail c o cCollMismatch false) := by
  rw [execChunk, whenSome_next s _ came]
  simp only [good, ht, post, member, clean, len, Bool.false_eq_true, if_false, ne_eq, ite_not]

end

/-! ### COUNT (R322) and DIGEST (R302, R357, R358) -/

theorem execCount_admitted {s t : State} {i c m : Nat} {r : RxPkt} {o : Op} (came : s.wireAt? i 3 = some r) (ht : s.wireTake i r = t)
    (post : t.postOf r.pkt = some (c, o)) (member : t.memberOf o.group r.pkt.srcRank = some m) :
    execCount i s = .next ((t.takeCount c o m r.pkt.arg2 r.pkt.sig).postPump c o.opn) := by
  rw [execCount, whenSome_next s _ came, ht]
  simp only [post, member]

section
variable {s t : State} {i : Nat} {r : RxPkt} (came : s.wireAt? i 9 = some r) (ht : s.wireTake i r = t)
include came ht

/-- A digest that comes while the pair is not compared is counted and discarded. -/
theorem execDigest_unpaired (unpaired : t.regB (rg clsCf 12 0x108) 0 = true) : execDigest i s = .next (t.incSat (aLink r.link 0x130)) := by
  rw [execDigest, whenSome_next s _ came, ht]
  exact congrArg Host.Outcome.next (if_pos unpaired)

variable (paired : t.regB (rg clsCf 12 0x108) 0 = false)
include paired

theorem execDigest_admitted {c : Nat} {o : Op} (post : t.postOf r.pkt = some (c, o)) :
    execDigest i s = .next ((t.takeDigest c o r.pkt).postPump c o.opn) := by
  rw [execDigest, whenSome_next s _ came, ht]
  simp only [paired, post, Bool.false_eq_true, if_false]

/-- A digest for a post that has ended is a copy, and has arrived all the same (log 175). -/
theorem execDigest_copy (post : t.postOf r.pkt = none) (ended : (t.digestCame r.pkt).postEnded r.pkt = true) :
    execDigest i s = .next (((t.digestCame r.pkt).retireKeys (fun k => some k == wireKey r.pkt)).incSat (aLink r.link 0x134)) := by
  rw [execDigest, whenSome_next s _ came, ht]
  simp only [paired, post, State.noPost, ended, Bool.false_eq_true, if_false, if_true]

end

/-! ### ABORT (R319, R331, R380, R387) -/

section
variable {s t : State} {i c : Nat} {r : RxPkt} (came : s.wireAt? i 4 = some r) (ctx : (s.wireTake i r).jobCtx r.pkt = some c)
  (ht : (s.wireTake i r).barrierAbort c r.pkt = t)
include came ctx ht

/-- An ABORT of an open post fails it. -/
theorem execAbort_open {o : Op} (post : t.postOf r.pkt = some (c, o)) :
    execAbort i s = .next ((t.collFail c o (r.pkt.arg % 65536) true).barrierAbort c r.pkt) := by
  rw [execAbort, whenSome_next s _ came]
  simp only [ctx, ht, post]

variable (notOpen : t.postOf r.pkt = none)
include notOpen

/-- An ABORT of no post that is open or complete fails the context. -/
theorem execAbort_context (notPast : t.pastOf r.pkt = none) :
    execAbort i s = .next ((t.contextFail c (r.pkt.arg % 65536) true).barrierAbort c r.pkt) := by
  rw [execAbort, whenSome_next s _ came]
  simp only [ctx, ht, notOpen, notPast]

/-- An ABORT of a complete post poisons what it wrote; it counts a lost member unless the post has one. -/
theorem execAbort_past {o : Op} (past : t.pastOf r.pkt = some (c, o)) : execAbort i s = .next
    ((((if o.lost.isNone then (t.countLost o (r.pkt.arg % 65536)).markLost c o (r.pkt.arg % 65536) r.pkt.arg2 else t).poisonOut c o
      o.outDone).contextFail c (r.pkt.arg % 65536) true).barrierAbort c r.pkt) := by
  rw [execAbort, whenSome_next s _ came]
  simp only [ctx, ht, notOpen, past]

end

/-! ### CBAR (R380, R386, R387) -/

/-- An arrival of member m at the commit barrier, or at the replay barrier, noted. -/
def State.barrierArrival (s : State) (c m : Nat) (p : WirePkt) (replay : Bool) : State :=
  s.setRcv c { s.rcv c with arrivals := (s.rcv c).arrivals ++ [(m, p.seq + 2 ^ 32 * b2n replay, p.arg2)] }

/-- Is the SIG of a barrier's packet the right one (R319)? -/
def State.barrierSigOk (s : State) (p : WirePkt) : Prop := p.sig = s.barrierSig (s.groupJob p.group) p.group p.seq

section
variable {s t : State} {i c : Nat} {r : RxPkt} (came : s.wireAt? i 10 = some r) (ht : s.wireTake i r = t) (ctx : t.jobCtx r.pkt = some c)
  (en : t.groupEn c = true) (group : r.pkt.group = t.commitGroup c) (ok : t.groupOk c r.pkt.group = true)
include came ht ctx en group ok

theorem execCbar_mismatch (sig : ¬t.barrierSigOk r.pkt) : execCbar i s = .next (t.contextFail c cCollMismatch false) := by
  rw [execCbar, whenSome_next s _ came, ht]
  simp only [ctx, en, ← group, ok]
  exact congrArg Host.Outcome.next ((if_neg (by simp)).trans (if_pos sig))

variable (sig : t.barrierSigOk r.pkt)
include sig

/-- An arrival of a member is noted, and the barrier it is for looks at its arrivals. -/
theorem execCbar_arrival {m : Nat} {replay : Bool} (kind : r.pkt.arg / 2 % 2 = 0) (which : (r.pkt.arg % 2 == 1) = replay)
    (member : t.memberOf r.pkt.group r.pkt.srcRank = some m) : execCbar i s = .next
      (if replay then (t.barrierArrival c m r.pkt replay).replayLook c else (t.barrierArrival c m r.pkt replay).commitLook c) := by
  rw [execCbar, whenSome_next s _ came, ht]
  simp only [ctx, en, ← group, ok, member, which]
  exact congrArg Host.Outcome.next ((if_neg (by simp)).trans ((if_neg (not_not_intro sig)).trans (if_neg (by omega))))

/-- The outcome of the present commit barrier is learnt. -/
theorem execCbar_won (kind : r.pkt.arg % 4 = 2) (now : r.pkt.seq = t.regN (aRc c 0xC)) : execCbar i s = .next (t.barrierWon c) := by
  have commit : (r.pkt.arg % 2 == 1) = false := beq_false_of_ne (by omega)
  rw [execCbar, whenSome_next s _ came, ht]
  simp only [ctx, en, ← group, ok, commit]
  exact congrArg Host.Outcome.next ((if_neg (by simp)).trans ((if_neg (not_not_intro sig)).trans ((if_pos (by omega)).trans (if_pos now))))

end

/-- Settles O43: each packet by the post or the barrier that it names, then by its SIG. -/
theorem postsOfCollectives : Obligations.PostsOfCollectives := by
  unfold Obligations.PostsOfCollectives
  simp only [exec_grant, exec_chunk, exec_count, exec_abort, exec_digest, exec_cbar]
  refine ⟨?raised, ?granted0, ?early, ?done, ?bytes, ?chkBad, ?copy, ?poisoned, ?count, ?abortOpen, ?abortContext, ?abortAgain, ?abortPast,
    ?digestCopy, ?digest, ?unpaired, ?commitArrival, ?replayArrival, ?won⟩
  case raised =>
    intro s i r c o m came post member more
    rw [execGrant_admitted came rfl post, takeGrant_raises member more]
  case granted0 =>
    intro s i r c o m came post member zero first
    rw [execGrant_admitted came rfl post, takeGrant_first member zero first]
  case early => exact fun s i r came post toCome => execGrant_early came rfl post toCome
  case done => exact fun s i r c o m came post member good clean len => execChunk_done came rfl good post member clean none len
  case bytes => exact fun s i r c o m came post member good clean len => execChunk_bytes came rfl good post member clean none len
  case chkBad => exact fun s i r came bad => execChunk_chkBad came none bad
  case copy => exact fun s i r came good post ended => execChunk_copy came rfl good none post ended
  case poisoned => exact fun s i r c o m came post member good poison => execChunk_poisoned came rfl good post member none poison
  case count => exact fun s i r c o m came post member => execCount_admitted came rfl post member
  case abortOpen => exact fun s i r c o came ctx post => execAbort_open came ctx rfl post
  case abortContext => exact fun s i r c came ctx notOpen notPast => execAbort_context came ctx rfl notOpen notPast
  case abortAgain =>
    intro s i r c o came ctx notOpen past lost
    rw [execAbort_past came ctx rfl notOpen past, if_neg (by simpa using Option.isSome_iff_ne_none.1 lost)]
  case abortPast =>
    intro s i r c o came ctx notOpen past lost
    rw [execAbort_past came ctx rfl notOpen past, if_pos (by simp [lost])]
  case digestCopy => exact fun s i r came paired post ended => execDigest_copy came rfl paired post ended
  case digest => exact fun s i r c o came post paired => execDigest_admitted came rfl paired post
  case unpaired => exact fun s i r came unpaired => execDigest_unpaired came rfl unpaired
  case commitArrival =>
    intro s i r c m came ctx en group ok kind member
    split
    · next sig => exact execCbar_arrival came rfl ctx en group ok sig (by omega) (beq_false_of_ne (by omega)) member
    · next sig => exact execCbar_mismatch came rfl ctx en group ok sig
  case replayArrival =>
    intro s i r c m came ctx en group ok kind sig member
    exact execCbar_arrival came rfl ctx en group ok sig (by omega) (beq_iff_eq.2 (by omega)) member
  case won => exact fun s i r c came ctx en group ok kind sig now => execCbar_won came rfl ctx en group ok sig kind now

end Sys2Proof.Machine
end

section
/-! The job-start tree: BCAST_START, BCAST_OPEN, BCAST_ABORT, BCAST_ACK, BCAST_TIMEOUT and JOB_T_START (R323 to R326, R453): O45. -/

namespace Sys2Proof.Machine

@[simp] theorem wireTake_bcasts (s : State) (i : Nat) (r : RxPkt) : (s.wireTake i r).bcasts = s.bcasts := (State.wireTake_kept s i r).get 47

/-! ### BCAST_START (R324) -/

/-- The DIGEST and the EXCLUDE bitmap of a START, as a node takes them up that had no broadcast of the job before. -/
def Bcast.ofStart (p : WirePkt) : Bcast :=
  { seq := p.seq, parent := some p.srcRank, kids := [], ok := 0, status := 0, lost := 0, due := 0, answered := false,
    digest := p.payload.take 32, excl := padTo 2048 (p.payload.drop 32), handle := 0, excl0 := [], opened := false }

/-- A node's broadcast of a job, taken up again with a later START. -/
def Bcast.restart (b : Bcast) (p : WirePkt) : Bcast :=
  { b with seq := p.seq, parent := some p.srcRank, digest := p.payload.take 32, excl := padTo 2048 (p.payload.drop 32), handle := 0 }

section
variable {s t : State} {i j : Nat} {r : RxPkt} (came : s.bcastAt? i 0 = some r) (ht : s.wireTake i r = t)
  (job : t.jobOfId r.pkt.jobId = some j)
include came ht job

theorem execBcastStart_first (none : look? s.bcasts j = none) :
    execBcastStart i s = .next ((t.bcastBegin j (Bcast.ofStart r.pkt)).bcastNext j) := by
  have none : look? t.bcasts j = Option.none := by rw [← ht, wireTake_bcasts, none]
  rw [execBcastStart, whenSome_next s _ came, ht]
  simp only [job, none]
  rfl

variable {b : Bcast} (seen : look? s.bcasts j = some b)
include seen

/-- A START of a job whose broadcast is known: a copy, answered once the answer was given, or a later one. -/
theorem execBcastStart_seen : execBcastStart i s = .next
    (if r.pkt.seq ≤ b.seq then (if b.answered ∧ b.parent.isSome then t.bcastAnswer j b else t)
      else (t.bcastBegin j (b.restart r.pkt)).bcastNext j) := by
  have seen : look? t.bcasts j = some b := by rw [← ht, wireTake_bcasts, seen]
  rw [execBcastStart, whenSome_next s _ came, ht]
  simp only [job, seen, Option.map_some]
  rfl

theorem execBcastStart_copy (old : r.pkt.seq ≤ b.seq) (waits : b.answered = false) : execBcastStart i s = .next t := by
  rw [execBcastStart_seen came ht job seen, if_pos old, if_neg (by simp [waits])]

theorem execBcastStart_answers (old : r.pkt.seq ≤ b.seq) (answered : b.answered = true) (parent : b.parent.isSome = true) :
    execBcastStart i s = .next (t.bcastAnswer j b) := by
  rw [execBcastStart_seen came ht job seen, if_pos old, if_pos ⟨answered, parent⟩]

theorem execBcastStart_later (later : b.seq < r.pkt.seq) :
    execBcastStart i s = .next ((t.bcastBegin j (b.restart r.pkt)).bcastNext j) := by
  rw [execBcastStart_seen came ht job seen, if_neg (Nat.not_le.2 later)]

end

/-! ### BCAST_OPEN and BCAST_ABORT (R325, R326) -/

section
variable {s t : State} {i j : Nat} {r : RxPkt} {b : Bcast} (ht : s.wireTake i r = t) (named : t.bcastOf r.pkt = some (j, b))
include ht named

theorem execBcastOpen_of (came : s.bcastAt? i 1 = some r) : execBcastOpen i s = .next
    (if b.opened ∨ t.jobState j ≠ 1 then t
      else ({ t.setReg64 (aJob j 0x10) r.pkt.arg2 with bcasts := put s.bcasts j { b with opened := true } } : State).bcastDown j
        { b with opened := true } 1 r.pkt.arg2) := by
  have bcasts : t.bcasts = s.bcasts := by rw [← ht, wireTake_bcasts]
  rw [execBcastOpen, whenSome_next s _ came, ht]
  simp only [named, bcasts]

theorem execBcastAbort_of (came : s.bcastAt? i 2 = some r) : execBcastAbort i s = .next (if b.opened then t else t.bcastDrop j b) := by
  rw [execBcastAbort, whenSome_next s _ came, ht]
  simp only [named]

end

/-! ### BCAST_ACK and BCAST_TIMEOUT (R324) -/

/-- What a child's answer adds to a broadcast: its confirmations, and the rank that it did not get one from. -/
def Bcast.heard (b : Bcast) (p : WirePkt) : Bcast :=
  if p.arg2 / 16384 % 4 = 0 then { b with kids := rem b.kids p.srcRank, ok := b.ok + p.arg }
  else ({ b with kids := rem b.kids p.srcRank, ok := b.ok + p.arg } : Bcast).miss (p.arg2 / 16384 % 4) (p.arg2 % 16384)

/-- A broadcast at this node set, its confirmations shown in the PROGRESS of JOB_START. -/
def State.bcastShown (s : State) (j : Nat) (b : Bcast) : State :=
  ({ s with bcasts := put s.bcasts j b } : State).modLong (({ s with bcasts := put s.bcasts j b } : State).slotCtx j) b.handle
    (fun o => { o with progress := b.ok })

/-- The answer of a child that is awaited. -/
theorem execBcastAck_child {s t : State} {i j : Nat} {r : RxPkt} {b : Bcast} (came : s.wireAt? i 8 = some r) (ht : s.wireTake i r = t)
    (named : t.bcastOf r.pkt = some (j, b)) (child : r.pkt.srcRank ∈ b.kids) :
    execBcastAck i s = .next ((t.bcastShown j (b.heard r.pkt)).bcastNext j) := by
  rw [execBcastAck, whenSome_next s _ came, ht]
  simp only [named, List.contains_iff_mem.2 child, Bool.not_true, Bool.false_eq_true, if_false]
  rfl

theorem execBcastTimeout_ends {s : State} {job now : Nat} {b : Bcast} (hj : job < 4) (hb : look? s.bcasts job = some b)
    (waits : b.answered = false) (kids : b.kids ≠ []) (late : reached (max now s.clk.now) b.due = true) :
    execBcastTimeout job now s = .next ((s.atTime now).bcastEnd job b) := by
  rw [execBcastTimeout, unitRow_ok _ (decide_eq_true hj), hb]
  exact whenB_next s _ (by simp [waits, kids, late])

/-! ### JOB_T_START (R326, R453, R454) -/

@[simp] theorem atTime_bcasts (s : State) (now : Nat) : (s.atTime now).bcasts = s.bcasts := (State.atTime_kept s now).get 47
@[simp] theorem utcApply_bcasts (s : State) : s.utcApply.bcasts = s.bcasts := (State.utcApply_kept s).get 47

/-- JOB_START done at a job whose slot is STARTED. -/
def State.jobStartEnd (s : State) (j : Nat) (b : Bcast) : State :=
  s.endLong (s.slotCtx j) b.handle 0 (jobResult (s.reg64 (aJob j 0x10)) 0)

section
variable {s t : State} {job now : Nat} (hj : job < 4) (ht : t = (s.atTime now).utcApply)
include hj ht

/-- A job that is opened and STAGED starts at T_START, when no event before it is due. -/
theorem execJobTStart_starts {b : Bcast} (hb : look? t.bcasts job = some b) (opened : b.opened = true) (staged : t.jobState job = 1)
    (time : reached t.clk.now (t.reg64 (aJob job 0x10)) = true) (first : t.startsLater job = false) :
    execJobTStart job now s = .next ((t.setJobState job 2).jobStartEnd job b) := by
  have bcasts : t.bcasts = s.bcasts := by
    rw [ht, utcApply_bcasts, atTime_bcasts]
  have starts : t.jobStarts job = true := by simp [State.jobStarts, hb, opened, staged, time]
  rw [execJobTStart, unitRow_ok _ (decide_eq_true hj), ← bcasts, hb]
  simp only [← ht]
  exact whenB_next s _ (by rw [starts, first]; rfl)

/-- Before T_START, or while another event of the grain comes first, nothing happens. -/
theorem execJobTStart_stays (h : reached t.clk.now (t.reg64 (aJob job 0x10)) = false ∨ t.startsLater job = true) :
    execJobTStart job now s = .next s := by
  have notYet : (t.jobStarts job && !t.startsLater job) = false := by
    rcases h with early | later
    · simp [State.jobStarts, early]
    · simp [later]
  rw [execJobTStart, unitRow_ok _ (decide_eq_true hj)]
  split
  · rfl
  · simp only [← ht]
    exact whenB_stays s _ notYet

end

/-- Settles O45: a packet of the tree by the broadcast that this node knows of the job; the two rows of time by whether the time has come. -/
theorem jobStartTree : Obligations.JobStartTree := by
  unfold Obligations.JobStartTree
  simp only [exec_bcastStart, exec_bcastOpen, exec_bcastAbort, exec_bcastAck, exec_bcastTimeout, exec_jobTStart]
  refine ⟨?first, ?copy, ?later, ?answers, ?opens, ?openLate, ?drops, ?abortLate, ?confirmed, ?missed, ?timeout, ?starts, ?stays⟩
  case first => exact fun s i r j came job none => execBcastStart_first came rfl job none
  case copy => exact fun s i r j b came job seen old waits => execBcastStart_copy came rfl job seen old waits
  case later => exact fun s i r j b came job seen later => execBcastStart_later came rfl job seen later
  case answers => exact fun s i r j b came job seen old answered parent => execBcastStart_answers came rfl job seen old answered parent
  case opens =>
    intro s i r j b came named closed staged
    rw [execBcastOpen_of rfl named came, if_neg (by simp [closed, staged])]
  case openLate =>
    intro s i r j b came named late
    rw [execBcastOpen_of rfl named came, if_pos late]
  case drops =>
    intro s i r j b came named closed
    rw [execBcastAbort_of rfl named came, if_neg (by simp [closed])]
  case abortLate =>
    intro s i r j b came named opened
    rw [execBcastAbort_of rfl named came, if_pos opened]
  case confirmed =>
    intro s i r j b came named child all
    rw [execBcastAck_child came rfl named child, Bcast.heard, if_pos all, State.bcastShown, wireTake_bcasts]
  case missed =>
    intro s i r j b came named child missed
    rw [execBcastAck_child came rfl named child, Bcast.heard, if_neg missed, State.bcastShown, wireTake_bcasts]
  case timeout => exact fun s job now b hj hb waits kids late => execBcastTimeout_ends hj hb waits kids late
  case starts => exact fun s t job now b hj ht hb opened staged time first => execJobTStart_starts hj ht hb opened staged time first
  case stays => exact fun s t job now hj ht h => execJobTStart_stays hj ht h

end Sys2Proof.Machine
end

section
/-! JOB_CTL_WRITE, GROUP_ENTRY_VALIDATE, STAGE_WRITE and CONFLUENCE_RETEST_DONE (R312, R316, R331, R354, R361, R527): O46. -/

namespace Sys2Proof.Machine

theorem regF_setF_other (s : State) (a : Nat) {lo n lo' n' : Nat} (v : Nat) (h : lo' + n' ≤ lo ∨ lo + n ≤ lo') :
    (s.setF a lo n v).regF a lo' n' = s.regF a lo' n' := by
  rw [State.regF, State.setF, State.reg_setReg, fld_setFld_other _ _ h, State.regF]

/-! ### JOB_CTL_WRITE (R312, R331) -/

section
variable {s : State} {job : Nat} {v : W32} (hj : job < 4) (served : s.served = true)
include hj served

/-- An invalid slot takes CTX and VALID of a context that may own it. -/
theorem execJobCtlWrite_takes (invalid : s.jobValid job = false) (ctx : fld v 0 5 ≤ 16) (used : bitOf (s.reg (aPt (fld v 0 5) 0)) 3 = true)
    (free : bitOf v 31 = true → s.jobOf (fld v 0 5) = none) :
    execJobCtlWrite job v s = .next ((s.setF (aJob job 0) 0 5 (fld v 0 5)).setB (aJob job 0) 31 (bitOf v 31)) := by
  have may : ¬(16 < fld v 0 5 ∨ bitOf (s.reg (aPt (fld v 0 5) 0)) 3 = false ∨ (bitOf v 31 = true ∧ (s.jobOf (fld v 0 5)).isSome = true)) := by
    rintro (far | unused | ⟨valid, owns⟩)
    · exact Nat.not_lt.2 ctx far
    · simp [used] at unused
    · simp [free valid] at owns
  rw [execJobCtlWrite, onUnit_next s _ (decide_eq_true hj) served]
  simp only [State.jobCtl, invalid, Bool.false_eq_true, if_false, if_neg may]

/-- A valid slot keeps its CTX. -/
theorem execJobCtlWrite_keeps (valid : s.jobValid job = true) (stays : bitOf v 31 = true) (other : fld v 0 5 ≠ s.slotCtx job) :
    execJobCtlWrite job v s = .next (s.ignored clsRank 0) := by
  rw [execJobCtlWrite, onUnit_next s _ (decide_eq_true hj) served]
  simp only [State.jobCtl, valid, stays, if_true, if_neg other]

end

/-- The fields of JOB_CTL after a slot took CTX and VALID. -/
theorem jobCtl_fields (s : State) (job c : Nat) (valid : Bool) (hc : c < 32) :
    ((s.setF (aJob job 0) 0 5 c).setB (aJob job 0) 31 valid).jobValid job = valid ∧
      ((s.setF (aJob job 0) 0 5 c).setB (aJob job 0) 31 valid).slotCtx job = c ∧
      ((s.setF (aJob job 0) 0 5 c).setB (aJob job 0) 31 valid).jobState job = s.jobState job :=
  ⟨regB_setB _ _ _ (by decide), (regF_setF_other _ _ _ (.inl (by decide))).trans (regF_setF _ _ hc (by decide)),
    (regF_setF_other _ _ _ (.inl (by decide))).trans (regF_setF_other _ _ _ (.inr (by decide)))⟩

/-! ### GROUP_ENTRY_VALIDATE (R316, R333) -/

/-- The registers of a group entry and GT_STATUS lie apart. -/
theorem aGroup_ne_status (g w : Nat) : aGroup g w ≠ rg clsGroup 0 0x100 := by
  show 0x460000 + 8 * g + 4 * w ≠ 0x411000 + 0x100
  omega

/-- An entry whose word 0 was set begins: its post sequence is 0, and its shape is noted where it is a box. -/
def State.groupEntered (s : State) (g : Nat) : State :=
  { s with postSeq := put s.postSeq g 0,
           shapes := match s.groupShape g with | some x => put s.shapes g x | none => del s.shapes g }

/-- The reasons of R316 are numbered from 1 to 6. -/
theorem groupReason_le (s : State) (g : Nat) (w : W32) : s.groupReason g w ≤ 6 := by
  unfold State.groupReason
  simp only
  repeat' split
  all_goals omega

/-- Bit 31 is one of the fields of word 0. -/
theorem groupMask_valid (v : W32) : bitOf (v &&& BitVec.ofNat 32 groupMask) 31 = bitOf v 31 := by
  rw [bitOf, BitVec.getLsbD_and, show (BitVec.ofNat 32 groupMask).getLsbD 31 = true from by decide, Bool.and_true, bitOf]

section
variable {s : State} {g : Nat} {v : W32} (hg : g < 4096) (served : s.served = true) (invalid : s.groupValid g = false) (valid : bitOf v 31 = true)
include hg served invalid valid

/-- An entry that passes every check becomes VALID, with post sequence 0. -/
theorem execGroupEntryValidate_passes (why : s.groupReason g (v &&& BitVec.ofNat 32 groupMask) = 0) :
    execGroupEntryValidate g v s = .next ((s.setReg (aGroup g 0) (v &&& BitVec.ofNat 32 groupMask)).groupEntered g) := by
  rw [execGroupEntryValidate, onUnit_next s _ (decide_eq_true hg) served]
  simp only [State.groupWord0, invalid, groupMask_valid, valid, why, Bool.false_eq_true, if_false, if_true, ne_eq, not_true_eq_false]
  rfl

/-- One that does not stays invalid, and GT_STATUS tells why. -/
theorem execGroupEntryValidate_refused (why : s.groupReason g (v &&& BitVec.ofNat 32 groupMask) ≠ 0) :
    execGroupEntryValidate g v s = .next (((s.setReg (aGroup g 0) (v &&& BitVec.ofNat 32 groupMask)).setB (aGroup g 0) 31 false).gtStatus g
      (s.groupReason g (v &&& BitVec.ofNat 32 groupMask))) := by
  rw [execGroupEntryValidate, onUnit_next s _ (decide_eq_true hg) served]
  simp only [State.groupWord0, invalid, groupMask_valid, valid, Bool.false_eq_true, if_false, if_true]
  exact congrArg Host.Outcome.next (if_pos why)

end

/-- GT_STATUS holds the entry and the reason. -/
theorem gtStatus_reads (s : State) {g why : Nat} (hg : g < 4096) (hw : why ≤ 6) :
    (s.gtStatus g why).regN (rg clsGroup 0 0x100) = g + 4096 * why := by
  rw [State.gtStatus, regN_setRegN, Nat.mod_eq_of_lt hg]
  omega

theorem gtStatus_groupValid (s : State) (g why : Nat) : (s.gtStatus g why).groupValid g = s.groupValid g :=
  congrArg (bitOf · 31) (State.reg_setReg_other s _ (aGroup_ne_status g 0))

/-! ### STAGE_WRITE (R361) -/

theorem execStageWrite_writes {s : State} {ctx : Nat} {v : W32} (hc : ctx ≤ 16) (served : s.served = true) (idle : s.reduceOpen ctx = false)
    (rows : fld v 0 6 + fld v 8 6 ≤ 48) : execStageWrite ctx v s = .next (s.setReg (aStage ctx) (v &&& 0x3F3F)) := by
  refine (onUnit_next s _ (decide_eq_true hc) served).trans (congrArg Host.Outcome.next (if_neg ?_))
  rw [idle]
  exact not_or.2 ⟨Bool.false_ne_true, Nat.not_lt.2 rows⟩

theorem execStageWrite_ignored {s : State} {ctx : Nat} {v : W32} (hc : ctx ≤ 16) (served : s.served = true)
    (h : s.reduceOpen ctx = true ∨ 48 < fld v 0 6 + fld v 8 6) : execStageWrite ctx v s = .next (s.ignored clsCf 12) :=
  (onUnit_next s _ (decide_eq_true hc) served).trans (congrArg Host.Outcome.next (if_pos h))

/-! ### CONFLUENCE_RETEST_DONE (R354, R359, R361, R362) -/

/-- CF_SUMMARY and the occupancies are all that it sets: no other register of a chiplet's page. -/
theorem cfSync_reg (s : State) {t off : Nat} (ht : t < 12) (ho : off < 0x110) : s.cfSync.reg (rg clsCf t off) = s.reg (rg clsCf t off) := by
  have addr : ∀ i o, rg clsCf i o = 0x400000 + 0x1000 * i + o := fun _ _ => rfl
  have summary : ∀ o, rg clsCf t off ≠ rg clsCf 12 o := fun o => by
    rw [addr, addr]
    omega
  have occupancy : ∀ i o, 0x110 ≤ o ∧ o < 0x1000 → rg clsCf t off ≠ rg clsCf i o := fun i o h => by
    rw [addr, addr]
    omega
  unfold State.cfSync
  simp only
  refine (foldl_keeps (fun u : State => u.reg (rg clsCf t off)) _ (fun u i => ?_) _ _).trans ?_
  · exact (State.reg_setReg_other _ _ (occupancy i _ (by decide))).trans (State.reg_setReg_other _ _ (occupancy i _ (by decide)))
  refine (foldl_keeps (fun u : State => u.reg (rg clsCf t off)) _ (fun u d => State.reg_setReg_other _ _ (summary _)) _ _).trans ?_
  exact (reg_setF_other _ _ _ _ (summary _)).trans (reg_setF_other _ _ _ _ (summary _))

/-- The units that passed noted, the failures of the chiplet's adders forgotten. -/
def State.retested (s : State) (t m : Nat) : State :=
  { s.setF (rg clsCf t 0x100) 8 2 (m % 4) with adderFails := s.adderFails.filter (fun e => e.1 / 34 != t) }

theorem retested_header (s : State) (t m : Nat) : (s.retested t m).reg (rg clsCf t 0xC) = s.reg (rg clsCf t 0xC) :=
  reg_setF_other s _ _ _ (by show 0x400000 + 0x1000 * t + 0xC ≠ 0x400000 + 0x1000 * t + 0x100; omega)

/-- A start that no stop waits for makes the page ON. -/
theorem startDone_on {s : State} {cls inst : Nat} (h : s.pendOff cls inst = false) (atStop : State → State) :
    s.startDone cls inst atStop = s.setPst cls inst stOn := by
  have pend : (s.setPst cls inst stOn).pendOff cls inst = false := (regB_setF_other s _ _ (by decide)).trans h
  simp [State.startDone, pend]

section
variable {s : State} {t m : Nat} (ht : t < 12) (starting : s.pst clsCf t = stStarting) (pend : s.pendOff clsCf t = false)
include ht starting

/-- CONFLUENCE_RETEST_DONE of a chiplet that starts. -/
theorem execConfluenceRetestDone_tested : execConfluenceRetestDone t m s = .next
    (if m % 4 = 0 then (s.retested t m).pageFault clsCf t id else (s.retested t m).startDone clsCf t id).cfSync :=
  onUnit_next s _ (decide_eq_true ht) (beq_iff_eq.2 starting)

include pend

/-- With a good unit the page becomes ON. -/
theorem execConfluenceRetestDone_good (good : m % 4 ≠ 0) :
    execConfluenceRetestDone t m s = .next ((s.retested t m).setPst clsCf t stOn).cfSync := by
  have pend : (s.retested t m).pendOff clsCf t = false := (pendOff_congr (retested_header s t m)).trans pend
  rw [execConfluenceRetestDone_tested ht starting, if_neg good, startDone_on pend]

/-- Without one it becomes FAULTED. -/
theorem execConfluenceRetestDone_bad (bad : m % 4 = 0) :
    execConfluenceRetestDone t m s = .next ((s.retested t m).setPst clsCf t stFaulted).cfSync := by
  have header := retested_header s t m
  rw [execConfluenceRetestDone_tested ht starting, if_pos bad,
    pageFault_faults (.inr ⟨(pst_congr header).trans starting, (pendOff_congr header).trans pend⟩) id]

end

/-- The STATE of a chiplet that was re-tested. -/
theorem retested_pst (s : State) {t v : Nat} (m : Nat) (ht : t < 12) (hv : v < 8) :
    ((s.retested t m).setPst clsCf t v).cfSync.pst clsCf t = v :=
  (pst_congr (cfSync_reg _ ht (by decide))).trans (pst_setPst _ _ _ hv)

/-- The units of a chiplet that was re-tested, and the failures left. -/
theorem retested_units (s : State) {t : Nat} (m v : Nat) (ht : t < 12) :
    ((s.retested t m).setPst clsCf t v).cfSync.regF (rg clsCf t 0x100) 8 2 = m % 4 ∧
      ((s.retested t m).setPst clsCf t v).cfSync.adderFails = s.adderFails.filter (fun e => e.1 / 34 != t) := by
  constructor
  · rw [State.regF, cfSync_reg _ ht (by decide)]
    have apart : rg clsCf t 0x100 ≠ rg clsCf t 0xC := by
      show 0x400000 + 0x1000 * t + 0x100 ≠ 0x400000 + 0x1000 * t + 0xC
      omega
    rw [State.setPst, reg_setF_other _ _ _ _ apart]
    exact regF_setF s _ (Nat.mod_lt _ (by decide)) (by decide)
  · exact (State.cfSync_kept _).get 49

/-- Settles O46: each write by the checks that let it act, a re-test by whether a unit is good. -/
theorem jobsGroupsAndStages : Obligations.JobsGroupsAndStages := by
  unfold Obligations.JobsGroupsAndStages
  simp only [exec_jobCtlWrite, exec_groupEntryValidate, exec_stageWrite, exec_confluenceRetestDone]
  refine ⟨?takes, ?keeps, ?passes, ?refused, ?stage, ?stageIgnored, ?good, ?bad⟩
  case takes =>
    intro s job v hj served invalid ctx used free
    obtain ⟨valid, owner, state⟩ := jobCtl_fields s job (fld v 0 5) (bitOf v 31) (by omega)
    refine ⟨_, execJobCtlWrite_takes hj served invalid ctx used free, valid, owner, state, fun a ha => ?_⟩
    rw [reg_setB_other _ _ _ ha, reg_setF_other _ _ _ _ ha]
  case keeps => exact fun s job v hj served valid stays other => execJobCtlWrite_keeps hj served valid stays other
  case passes =>
    intro s g v hg served invalid valid why
    have word : (s.setReg (aGroup g 0) (v &&& BitVec.ofNat 32 groupMask)).reg (aGroup g 0) = v &&& BitVec.ofNat 32 groupMask := State.reg_setReg s _ _
    refine ⟨_, execGroupEntryValidate_passes hg served invalid valid why, ?_, look_put_same _ _ _ _, word, rfl⟩
    exact (congrArg (bitOf · 31) word).trans ((groupMask_valid v).trans valid)
  case refused =>
    intro s g v hg served invalid valid why
    refine ⟨_, execGroupEntryValidate_refused hg served invalid valid why, ?_, gtStatus_reads _ hg (groupReason_le s g _), rfl⟩
    exact (gtStatus_groupValid _ g _).trans (regB_setB _ _ _ (by decide))
  case stage => exact fun s ctx v hc served idle rows => execStageWrite_writes hc served idle rows
  case stageIgnored => exact fun s ctx v hc served h => execStageWrite_ignored hc served h
  case good =>
    intro s t m ht starting good pend
    obtain ⟨units, fails⟩ := retested_units s m stOn ht
    refine ⟨_, execConfluenceRetestDone_good ht starting pend good, retested_pst s m ht (by decide), units, fun e he => ?_⟩
    rw [fails] at he
    simpa using (List.mem_filter.1 he).2
  case bad =>
    intro s t m ht starting bad pend
    exact ⟨_, execConfluenceRetestDone_bad ht starting pend bad, retested_pst s m ht (by decide)⟩

end Sys2Proof.Machine
end

section
/-! Operations that set no register of the global page (R105, R114, R298, R383, R471, R542, R567). -/

namespace Sys2Proof.Machine

/-! ### Operations that keep a view of the state -/

/-- A view of the state is the same after as before. -/
structure Same {α : Type} (view : State → α) (s t : State) : Prop where
  on : view t = view s

section
variable {α : Type} {view : State → α} {s t u : State}

theorem Same.refl : Same view s s := ⟨rfl⟩

/-- One operation after others. -/
theorem Same.after (k : Same view t u) (h : Same view s t) : Same view s u := ⟨k.on.trans h.on⟩

theorem Same.ite {b : Prop} [Decidable b] (ht : Same view s t) (hu : Same view s u) : Same view s (if b then t else u) := by
  split
  · exact ht
  · exact hu

theorem Same.foldl_mem {β : Type} {f : State → β → State} (l : List β) (h : ∀ t, ∀ a ∈ l, Same view t (f t a)) (s : State) :
    Same view s (l.foldl f s) := ⟨foldl_keeps_mem view f l (fun t a ha => (h t a ha).on) s⟩

theorem Same.foldl {β : Type} {f : State → β → State} (h : ∀ t a, Same view t (f t a)) (l : List β) (s : State) :
    Same view s (l.foldl f s) :=
  .foldl_mem l (fun t a _ => h t a) s

end

/-! ### Registers of the global page (R567) -/

/-- The registers of the global page. -/
def State.globalRegs (s : State) : { x : Nat // x < 0x1000 } → W32 := fun x => s.reg x

/-- The registers of the global page stand. -/
abbrev GlobalKept (s t : State) : Prop := Same State.globalRegs s t

theorem GlobalKept.of {s t : State} (h : ∀ x, x < 0x1000 → t.reg x = s.reg x) : GlobalKept s t := ⟨funext fun x => h x.1 x.2⟩

theorem GlobalKept.reg {s t : State} (h : GlobalKept s t) {x : Nat} (hx : x < 0x1000) : t.reg x = s.reg x := congrFun h.on ⟨x, hx⟩

theorem GlobalKept.ofRegs {s t : State} (h : t.regs = s.regs) : GlobalKept s t :=
  GlobalKept.of fun x _ => congrArg (look (resetReg x) · x) h

/-- An operation that keeps every register. -/
theorem GlobalKept.ofKept {m : Nat} {s t : State} (h : Kept m s t) (hm : m.testBit 2 = false := by rfl) :
    GlobalKept s t := GlobalKept.ofRegs (h.get 2 rfl hm)

/-- A register of another page is set. -/
theorem GlobalKept.setReg {s : State} {a : Nat} (h : 0x1000 ≤ a) (v : W32) : GlobalKept s (s.setReg a v) :=
  GlobalKept.of fun _ hx => State.reg_setReg_other s v (Nat.ne_of_lt (Nat.lt_of_lt_of_le hx h))

theorem GlobalKept.setF {s : State} {a : Nat} (h : 0x1000 ≤ a) (lo n v : Nat) : GlobalKept s (s.setF a lo n v) :=
  GlobalKept.setReg h _

theorem GlobalKept.setRegN {s : State} {a : Nat} (h : 0x1000 ≤ a) (v : Nat) : GlobalKept s (s.setRegN a v) :=
  GlobalKept.setReg h _

theorem GlobalKept.setReg64 {s : State} {a : Nat} (h : 0x1000 ≤ a) (v : Nat) : GlobalKept s (s.setReg64 a v) :=
  .after (GlobalKept.setRegN (Nat.le_add_right_of_le h) _) (GlobalKept.setRegN h _)

theorem GlobalKept.incSat {s : State} {a : Nat} (h : 0x1000 ≤ a) : GlobalKept s (s.incSat a) := by
  unfold State.incSat
  exact .ite .refl (GlobalKept.setRegN h _)

theorem le_choice {b : Prop} [Decidable b] {n x y : Nat} (hx : n ≤ x) (hy : n ≤ y) : n ≤ if b then x else y := by
  split
  · exact hx
  · exact hy

/-- Every other page lies above the global one. -/
theorem le_rg {cls : Nat} (h : cls ≠ clsGlobal) (inst off : Nat) : 0x1000 ≤ rg cls inst off := by
  refine Nat.le_trans ?_ (Nat.le_add_right _ _)
  rw [pageBase, if_neg h]
  repeat' with_reducible apply le_choice
  all_goals omega

/-! ### Packets, records and completions (R105, R114, R471, R542) -/

theorem cairnLog_global (s : State) {cls : Nat} (h : cls ≠ clsGlobal) (sev inst code ctx : Nat) (items : List (Nat × List Byte)) :
    GlobalKept s (s.cairnLog sev cls inst code ctx items) := by
  have page := le_rg h inst 0x1C
  exact GlobalKept.of fun x hx => cairnLog_other (Nat.lt_trans hx (by decide)) s _ _ _ _ _ _ (by omega) (by omega)

theorem fabInc_global (s : State) (rch off : Nat) : GlobalKept s (s.fabInc rch off) := by
  unfold State.fabInc
  exact .ite (GlobalKept.incSat (le_rg (by decide) _ _)) .refl

theorem countFlits_global (s : State) (p : Packet) (l : List (Nat × Nat)) : GlobalKept s (s.countFlits p l) :=
  GlobalKept.of fun _ hx => countFlits_below s p l (Nat.lt_trans hx (by decide))

theorem dropAtLink_global (s : State) (p : Packet) (gone : Nat × Nat → Bool) : GlobalKept s (s.dropAtLink p gone) := by
  unfold State.dropAtLink
  exact .after (fabInc_global _ _ _) (countFlits_global s p _)

theorem epUnit_page (ep : Nat) : (epUnit ep).1 ≠ clsGlobal := by
  unfold epUnit
  split
  all_goals exact Nat.ne_of_beq_eq_false rfl

theorem srcUnit_page (p : Packet) : p.srcUnit.1 ≠ clsGlobal := by
  unfold Packet.srcUnit
  split
  · exact epUnit_page _
  · exact Nat.ne_of_beq_eq_false rfl

theorem unreachable_global (s : State) (p : Packet) : GlobalKept s (s.unreachable p) := by
  unfold State.unreachable
  exact .after (cairnLog_global _ (srcUnit_page p) _ _ _ _ _) (fabInc_global s _ _)

theorem feedStream_global (s : State) (ep dir col row q ctx : Nat) (b : List Byte) :
    GlobalKept s (s.feedStream ep dir col row q ctx b) :=
  GlobalKept.of fun _ hx => feedStream_below s ep dir col row q ctx b (Nat.lt_trans hx (by decide))

theorem inject_global (s : State) (p : Packet) : GlobalKept s (s.inject p) := by
  unfold State.inject State.inject?
  cases s.chooseWay p.entry p.exit with
  | none => exact unreachable_global s p
  | some w =>
    have sent : ∀ (b : Bool) (q : Packet) gone n, GlobalKept s (if b then s.dropAtLink q gone else { s with net := n }) :=
      fun _ q gone _ => .ite (dropAtLink_global s q gone) (GlobalKept.ofRegs rfl)
    exact .after (.ite (feedStream_global _ _ _ _ _ _ _ _) .refl) (sent _ _ _ _)

theorem tlpOut_global (s : State) : GlobalKept s s.tlpOut := by
  unfold State.tlpOut State.add64
  exact GlobalKept.setReg64 (le_rg (by decide) _ _) _

theorem msiSend_global (s : State) (fn vec : Nat) : GlobalKept s (s.msiSend fn vec) :=
  GlobalKept.of fun _ hx => msiSend_below (Nat.lt_trans hx (by decide)) s fn vec

theorem ceSync_global (s : State) (c : Nat) : GlobalKept s (s.ceSync c) := by
  unfold State.ceSync
  exact GlobalKept.setRegN (le_rg (by decide) _ _) _

theorem setEng_global (s : State) (c : Nat) (e : Engine) : GlobalKept s (s.setEng c e) := GlobalKept.ofRegs rfl

theorem ceInterrupt_global (s : State) (c : Nat) : GlobalKept s (s.ceInterrupt c) := by
  have told : ∀ e vec, GlobalKept s ((s.setEng c e).msiSend c vec) := fun e vec => .after (msiSend_global _ c vec) (setEng_global s c e)
  unfold State.ceInterrupt
  split
  · simp only
    split
    · exact .ite (told _ _) (setEng_global s c _)
    · exact told _ _
  · exact .refl

theorem cqWrite_global (s : State) (c : Nat) (r : Completion) : GlobalKept s (s.cqWrite c r) := by
  unfold State.cqWrite
  have written : ∀ h, GlobalKept s ({ s with host := h } : State).tlpOut :=
    fun h => .after (tlpOut_global _) (GlobalKept.ofRegs rfl)
  exact .after (ceInterrupt_global _ c) (.after (setEng_global _ c _)
    (.after (GlobalKept.setF (le_rg (by decide) c 0x118) _ _ _) (written _)))

theorem cqDrain_global (s : State) (c : Nat) (l : List Completion) : GlobalKept s (s.cqDrain c l) := by
  induction l generalizing s with
  | nil => exact setEng_global s c _
  | cons r l ih =>
    unfold State.cqDrain
    exact .ite (.after (ih _) (.after (setEng_global _ c _) (cqWrite_global s c r))) (setEng_global s c _)

theorem post_global (s : State) (c : Nat) (r : Completion) : GlobalKept s (s.post c r) := by
  unfold State.post
  simp only
  split
  · exact .after (ceSync_global _ c) (GlobalKept.incSat (le_rg (by decide) c 0x138))
  · exact .after (ceSync_global _ c) (cqDrain_global s c _)

theorem endLong_global (s : State) (c h code : Nat) (result : List Byte) : GlobalKept s (s.endLong c h code result) := by
  unfold State.endLong
  split
  · exact .refl
  · exact .after (post_global _ c _) (setEng_global s c _)

theorem setSeqr_global (s : State) (c : Nat) (q : Seqr) : GlobalKept s (s.setSeqr c q) := GlobalKept.ofRegs rfl

theorem endRuns_global (s : State) (c code opn : Nat) : GlobalKept s (s.endRuns c code opn) := by
  unfold State.endRuns
  exact .after (.foldl (fun t h => endLong_global t c h code _) _ _) (setSeqr_global s c _)

/-! ### Packets of links (R298, R309) -/

theorem feedUnit_global (s : State) (ep kind unit dir : Nat) (b : List Byte) : GlobalKept s (s.feedUnit ep kind unit dir b) :=
  GlobalKept.of fun _ hx => feedUnit_below s ep kind unit dir b (Nat.lt_trans hx (by decide))

theorem sendFlits_global (s : State) (l f : Nat) (fs : List TxFlit) : GlobalKept s (s.sendFlits l f fs) :=
  GlobalKept.of fun x _ => sendFlits_reg s l f x fs

theorem linkPump_global (s : State) (l : Nat) : GlobalKept s (s.linkPump l) := by
  have counted : ∀ (t : State) n, GlobalKept t (t.add64 (rg clsLink l 0x110) n) := fun t n => GlobalKept.setReg64 (le_rg (by decide) l 0x110) _
  have noted : ∀ (t : State) d, GlobalKept t (t.noteCredit d) := fun t d => GlobalKept.of fun x _ => noteCredit_reg t d x
  have pumped : ∀ x n fs, GlobalKept s ((s.setLink l x).sendFlits l n fs) := fun x n fs =>
    .after (sendFlits_global _ l n fs) (GlobalKept.ofRegs rfl)
  unfold State.linkPump
  split
  · exact .refl
  · exact .after (noted _ _) (.after (.foldl (fun t e => feedUnit_global t _ _ _ _ _) _ _) (.after (counted _ _) (pumped _ _ _)))

theorem takeLink_global (s : State) (p : WirePkt) (dir : Nat) : GlobalKept s (s.takeLink p dir) := by
  unfold State.takeLink
  split
  · exact GlobalKept.ofRegs rfl
  · exact .after (linkPump_global _ _) (GlobalKept.ofRegs rfl)

theorem wireOut_global (s : State) (p : WirePkt) (via : Option Nat) : GlobalKept s (s.wireOut p via) := by
  have routed := GlobalKept.ofKept (State.routeDir_kept s p via)
  unfold State.wireOut
  split
  · next t way => rwa [way] at routed
  · next dir t way =>
    rw [way] at routed
    exact .after (.ite (takeLink_global t _ dir) (GlobalKept.ofRegs rfl)) routed

theorem sendAbort_global (s : State) (g seq code arg2 : Nat) : GlobalKept s (s.sendAbort g seq code arg2) := by
  unfold State.sendAbort
  exact .foldl (fun t _ => .ite .refl (wireOut_global t _ none)) _ s

/-! ### The steps of a hold (R383) -/

theorem opAborts_global (s : State) (c code : Nat) : GlobalKept s (s.opAborts c code) := by
  unfold State.opAborts State.opAbort
  exact .foldl (fun t _ => .foldl (fun u _ => inject_global u _) _ t) _ s

theorem cfSync_global (s : State) : GlobalKept s s.cfSync := by
  have page : ∀ t off, 0x1000 ≤ rg clsCf t off := le_rg (by decide)
  unfold State.cfSync
  simp only
  refine .after (.foldl (fun u i => .after (GlobalKept.setRegN (page i 0x114) _) (GlobalKept.setRegN (page i 0x110) _)) _ _) ?_
  exact .after (.foldl (fun u d => GlobalKept.setRegN (page 12 _) _) _ _)
    (.after (GlobalKept.setF (page 12 0x104) _ _ _) (GlobalKept.setF (page 12 0x104) _ _ _))

theorem releasePost_global (s : State) (o : Op) : GlobalKept s (s.releasePost o) := by
  have ended : GlobalKept s (if o.stage = 0 ∨ o.coll = 0 then s else s.retirePost o) := .ite .refl (GlobalKept.ofKept (State.retirePost_kept s o))
  have page : 0x1000 ≤ rg clsCf o.home 0x100 := le_rg (by decide) _ _
  unfold State.releasePost
  refine .after (.ite ?_ (cfSync_global _)) ended
  exact .after (cfSync_global _) (.after (.ite (GlobalKept.setF page _ _ _) .refl) (GlobalKept.setF page _ _ _))

theorem aJob_page (j off : Nat) : 0x1000 ≤ aJob j off := by
  unfold aJob
  omega

/-- The release of an operation that ends with a code. -/
theorem releaseLost_global (s : State) (o : Op) (code : Nat) :
    GlobalKept s ((if o.stage = 0 then s else s.countLost o code).releasePost o) := by
  unfold State.countLost
  exact .after (releasePost_global _ o) (.ite .refl (.ite (GlobalKept.incSat (aJob_page _ _)) .refl))

theorem wearSync_global (s : State) : GlobalKept s s.wearSync := by
  unfold State.wearSync
  exact .foldl (fun t _ => .ite (GlobalKept.setF (le_rg (by decide) _ _) _ _ _) .refl) _ s

theorem wearDrop_global (s : State) (c : Nat) : GlobalKept s (s.wearDrop c) := by
  unfold State.wearDrop
  exact .after (wearSync_global _) (GlobalKept.ofRegs rfl)

theorem hwSync_global (s : State) : GlobalKept s s.hwSync := by
  unfold State.hwSync
  exact .foldl (fun _ p => GlobalKept.setF (le_rg (by decide) p 0x104) _ _ _) _ s

theorem hwcSync_global (s : State) (c : Nat) : GlobalKept s (s.hwcSync c) := by
  have page : ∀ off, 0x1000 ≤ aHwc c off := fun off => by
    unfold aHwc
    omega
  unfold State.hwcSync
  exact .after (GlobalKept.setRegN (page _) _) (GlobalKept.setRegN (page _) _)

theorem holdStep4_global (s : State) (c : Nat) : GlobalKept s (s.holdStep4 c) := by
  unfold State.holdStep4
  exact .after (hwcSync_global _ c) (.after (hwSync_global _)
    (GlobalKept.ofRegs (foldl_keeps State.regs _ (fun t e => (State.retireP2p_kept t e).get 2) _ s)))

end Sys2Proof.Machine
end

section
/-! Operations, holds and failures that leave the last commit point of a context as it was (R379, R383, R385, R401). -/

namespace Sys2Proof.Machine

/-! ### The last commit point of a context (R379, R381, R401) -/

/-- COMMIT_OPN and COMMIT_COUNT of a context, and the record formed at its barrier. -/
def State.lastPoint (c : Nat) (s : State) : W32 × W32 × Option CommitRec := (s.reg (aRc c 8), s.reg (aRc c 0xC), (s.rcv c).formed)

/-- The last commit point of a context stands. -/
abbrev PointKept (c : Nat) (s t : State) : Prop := Same (State.lastPoint c) s t

section
variable {c : Nat} {s t : State}

theorem PointKept.of (opn : t.reg (aRc c 8) = s.reg (aRc c 8)) (count : t.reg (aRc c 0xC) = s.reg (aRc c 0xC))
    (formed : (t.rcv c).formed = (s.rcv c).formed) : PointKept c s t := ⟨Prod.ext opn (Prod.ext count formed)⟩

theorem PointKept.opn (h : PointKept c s t) : t.reg (aRc c 8) = s.reg (aRc c 8) := congrArg Prod.fst h.on

theorem PointKept.count (h : PointKept c s t) : t.reg (aRc c 0xC) = s.reg (aRc c 0xC) := congrArg (fun x => x.2.1) h.on

theorem PointKept.formed (h : PointKept c s t) : (t.rcv c).formed = (s.rcv c).formed := congrArg (fun x => x.2.2) h.on

/-- An operation that sets no register of the global page and no part of the recovery state. -/
theorem PointKept.ofGlobal (hc : c ≤ 16) (g : GlobalKept s t) (h : t.rcvs = s.rcvs) : PointKept c s t := by
  have low : ∀ off, off < 0x40 → aRc c off < 0x1000 := fun off ho => by
    unfold aRc
    omega
  exact PointKept.of (g.reg (low _ (by decide))) (g.reg (low _ (by decide))) (congrArg (fun m => (look Rcv.init m c).formed) h)

theorem PointKept.ofKept {m : Nat} (hc : c ≤ 16) (g : GlobalKept s t) (k : Kept m s t) (hm : m.testBit 40 = false := by rfl) :
    PointKept c s t :=
  PointKept.ofGlobal hc g (k.get 40 rfl hm)

/-- Another register of the block is set. -/
theorem PointKept.setReg {off : Nat} (h : off ≠ 8 ∧ off ≠ 0xC) (v : W32) : PointKept c s (s.setReg (aRc c off) v) :=
  PointKept.of (State.reg_setReg_other s v fun e => h.1 (Nat.add_left_cancel e).symm)
    (State.reg_setReg_other s v fun e => h.2 (Nat.add_left_cancel e).symm) rfl

theorem PointKept.incSat {off : Nat} (h : off ≠ 8 ∧ off ≠ 0xC) : PointKept c s (s.incSat (aRc c off)) := by
  unfold State.incSat
  exact .ite .refl (PointKept.setReg h _)

/-- The recovery state is set, but for the record formed. -/
theorem PointKept.setRcv {r : Rcv} (h : r.formed = (s.rcv c).formed) : PointKept c s (s.setRcv c r) :=
  PointKept.of rfl rfl (by rw [State.rcv_setRcv, h])

end

section
variable {c : Nat} (hc : c ≤ 16)
include hc

theorem cairnLog_point (s : State) (sev inst code ctx : Nat) (items : List (Nat × List Byte)) :
    PointKept c s (s.cairnLog sev clsCe inst code ctx items) :=
  PointKept.ofKept hc (cairnLog_global s (by decide) _ _ _ _ _) (State.cairnLog_kept ..)

theorem wearDrop_point (s : State) (ctx : Nat) : PointKept c s (s.wearDrop ctx) :=
  PointKept.ofKept hc (wearDrop_global s ctx) (State.wearDrop_kept ..)
theorem postEvent_point (s : State) (ctx code : Nat) : PointKept c s (s.postEvent ctx code) :=
  PointKept.ofKept hc (post_global s ctx _) (State.postEvent_kept s ctx code)
theorem endRuns_point (s : State) (ctx code opn : Nat) : PointKept c s (s.endRuns ctx code opn) :=
  PointKept.ofKept hc (endRuns_global s ctx code opn) (State.endRuns_kept ..)
theorem endLong_point (s : State) (ctx h code : Nat) (result : List Byte) : PointKept c s (s.endLong ctx h code result) :=
  PointKept.ofKept hc (endLong_global s ctx h code result) (State.endLong_kept ..)
theorem retireBarrier_point (s : State) (ctx : Nat) : PointKept c s (s.retireBarrier ctx) :=
  PointKept.ofKept hc (GlobalKept.ofKept (State.retireBarrier_kept s ctx)) (State.retireBarrier_kept ..)
theorem clearMarks_point (s : State) (ctx : Nat) : PointKept c s (s.clearMarks ctx) :=
  PointKept.ofKept hc (GlobalKept.ofKept (State.clearMarks_kept s ctx)) (State.clearMarks_kept ..)
theorem setSeqr_point (s : State) (ctx : Nat) (q : Seqr) : PointKept c s (s.setSeqr ctx q) :=
  PointKept.ofGlobal hc (setSeqr_global s ctx q) rfl
theorem opAborts_point (s : State) (ctx code : Nat) : PointKept c s (s.opAborts ctx code) :=
  PointKept.ofKept hc (opAborts_global s ctx code) (State.opAborts_kept ..)
theorem sendAbort_point (s : State) (g seq code arg2 : Nat) : PointKept c s (s.sendAbort g seq code arg2) :=
  PointKept.ofKept hc (sendAbort_global s g seq code arg2) (State.sendAbort_kept ..)
theorem cfSync_point (s : State) : PointKept c s s.cfSync := PointKept.ofKept hc (cfSync_global s) (State.cfSync_kept s)
theorem holdStep4_point (s : State) (ctx : Nat) : PointKept c s (s.holdStep4 ctx) :=
  PointKept.ofKept hc (holdStep4_global s ctx) (State.holdStep4_kept ..)

/-- The release of an operation that ends with a code. -/
theorem releaseLost_point (s : State) (o : Op) (code : Nat) :
    PointKept c s ((if o.stage = 0 then s else s.countLost o code).releasePost o) := by
  have counted : Kept 4 s (if o.stage = 0 then s else s.countLost o code) := .ite .here (State.countLost_kept s o code)
  exact PointKept.ofKept hc (releaseLost_global s o code) (Kept.step (m := 70368744177668)
    (State.releasePost_kept _ o) rfl (counted.grow rfl))

theorem holdBegin_point (s : State) (code : Nat) : PointKept c s (s.holdBegin c code) := by
  have dropped : PointKept c s (if s.rstate c = 5 then s.wearDrop c else s) := .ite (wearDrop_point hc s c) .refl
  have left : ∀ (t : State) l, PointKept c t { t with pitchHeld := l } := fun _ _ => ⟨rfl⟩
  unfold State.holdBegin
  refine .after (retireBarrier_point hc _ c) (.after (PointKept.setReg (by decide) _)
    (.after (PointKept.setReg (by decide) _) ?_))
  refine .after (setSeqr_point hc _ c _) (.after (endRuns_point hc _ c _ _) (.after (postEvent_point hc _ c _) ?_))
  exact .after (PointKept.setReg (by decide) _) (.after (PointKept.setRcv dropped.formed.symm) (.after (left _ _) dropped))

theorem holdStep3_point (s : State) (code : Nat) (silent : Bool) : PointKept c s (s.holdStep3 c code silent) := by
  have aborted : ∀ (l : List Op) (arg : Op → Nat), PointKept c s (l.foldl (fun t o => t.sendAbort o.group o.seq code (arg o)) (s.opAborts c code)) :=
    fun l arg => .after (.foldl (fun t o => sendAbort_point hc t _ _ _ _) _ _) (opAborts_point hc s c code)
  unfold State.holdStep3
  refine .after (cfSync_point hc _) (.after (PointKept.setRcv rfl)
    (.after (setSeqr_point hc _ c _) (.after (.foldl (fun t o => releaseLost_point hc t o code) _ _) ?_)))
  exact .ite (opAborts_point hc s c code) (.ite (.after (sendAbort_point hc _ _ _ _ _) (aborted _ _)) (aborted _ _))

theorem countReplay_point (s : State) (code : Nat) : PointKept c s (s.countReplay c code) := by
  unfold State.countReplay
  exact .ite (.after (PointKept.incSat (by decide)) (PointKept.setReg (by decide) _))
    (.after (cairnLog_point hc _ _ _ _ _ _) (PointKept.setRcv rfl))

/-- A hold that a fault begins, where no barrier's record is formed (R383): it does not touch the last commit point. -/
theorem hold_point {s : State} (formed : (s.rcv c).formed = none) (code : Nat) (silent : Bool) :
    PointKept c s (s.hold c code false silent) := by
  have begun := holdBegin_point hc s code
  have unformed : ((s.holdBegin c code).rcv c).formed.isSome = false := by rw [begun.formed, formed, Option.isSome_none]
  unfold State.hold
  simp only [formed, unformed, Bool.false_eq_true, false_and, if_false]
  refine .ite ?_ .refl
  refine .after (PointKept.setReg (by decide) _) (.after (countReplay_point hc _ code) ?_)
  exact .after (holdStep4_point hc _ c) (.after (holdStep3_point hc _ code silent) begun)

/-- A failure while the rebuild list runs (R385) does not touch it either. -/
theorem rebuildFail_point (s : State) (code : Nat) : PointKept c s (s.rebuildFail c code) := by
  have dropped : PointKept c s (s.dropRebuild c code) := by
    unfold State.dropRebuild
    refine .after (cfSync_point hc _) (.after (setSeqr_point hc _ c _) ?_)
    exact .after (.foldl (fun t o => releaseLost_point hc t o code) _ _) (opAborts_point hc s c code)
  unfold State.rebuildFail
  exact .after (PointKept.setReg (by decide) _) (.after (PointKept.setReg (by decide) _) (.after (PointKept.setRcv rfl) dropped))

/-- A hang that waited for the commit point (R56) does not touch it. -/
theorem hangDue_point {s : State} (formed : (s.rcv c).formed = none) : PointKept c s (s.hangDue c) := by
  have noted : PointKept c s (s.setRcv c { s.rcv c with hung := [] }) := PointKept.setRcv rfl
  have holds : PointKept c (s.setRcv c { s.rcv c with hung := [] })
    ((s.setRcv c { s.rcv c with hung := [] }).stepFail c cDeadline) := by
    unfold State.stepFail
    exact .ite (rebuildFail_point hc _ _) (hold_point hc (noted.formed.trans formed) _ _)
  unfold State.hangDue
  exact .ite (.after holds noted) noted

end

end Sys2Proof.Machine
end

section
/-! COMMIT_POINT_COMPLETE, HOLD_RESTORE and REBUILD_LIST_DONE (R379 to R381, R383, R385, R389). -/

namespace Sys2Proof.Machine

/-! ### What a complete commit point leaves (R379, R381) -/

theorem regN_incWrap (s : State) (a : Nat) : (s.incWrap a).regN a = (s.regN a + 1) % 2 ^ 32 := regN_setRegN s a _

theorem aRc_ne {c off off' : Nat} (h : off ≠ off') : aRc c off ≠ aRc c off' := fun e => h (Nat.add_left_cancel e)

/-- The registers of a commit point: its OPN, the count, its time, and the replays counted anew. -/
def State.commitRegs (s : State) (c opn : Nat) : State :=
  (((s.setRegN (aRc c 8) opn).incWrap (aRc c 0xC)).setReg64 (aRc c 0x10) s.clk.now).setF (aRc c 4) 4 3 0

theorem commitRegs_reg (s : State) (c opn : Nat) {off : Nat} (h : off = 8 ∨ off = 0xC) :
    (s.commitRegs c opn).reg (aRc c off) = ((s.setRegN (aRc c 8) opn).incWrap (aRc c 0xC)).reg (aRc c off) := by
  rw [State.commitRegs, reg_setF_other _ _ _ _ (aRc_ne (by omega)), setReg64_other _ (aRc_ne (by omega))
    (aRc_ne (off' := 0x14) (by omega))]

/-- COMMIT_OPN names the commit point, and COMMIT_COUNT rises by one. -/
theorem commitRegs_point (s : State) (c opn : Nat) :
    (s.commitRegs c opn).regN (aRc c 8) = opn % 2 ^ 32 ∧
      (s.commitRegs c opn).regN (aRc c 0xC) = (s.regN (aRc c 0xC) + 1) % 2 ^ 32 := by
  constructor
  · rw [State.regN, commitRegs_reg s c opn (.inl rfl), State.incWrap, State.setRegN,
      State.reg_setReg_other _ _ (aRc_ne (by decide))]
    exact regN_setRegN s (aRc c 8) opn
  · rw [State.regN, commitRegs_reg s c opn (.inr rfl)]
    refine (regN_incWrap _ _).trans ?_
    rw [State.regN, State.setRegN, State.reg_setReg_other _ _ (aRc_ne (by decide)), State.regN]

/-- The commit point's record in the place of the previous one. -/
def State.commitNoted (s : State) (c : Nat) (rec : CommitRec) : State :=
  let s := s.commitRegs c rec.opn
  s.setRcv c { s.rcv c with
    commit := some rec, formed := none, won := false, profile := s.regF 0x200 0 1,
    arrivals := (s.rcv c).arrivals.filter (fun a => a.2.1.testBit 32), drained := s.rstate c == 5 }

theorem commitDo_point {c : Nat} (hc : c ≤ 16) (s : State) (rec : CommitRec) :
    PointKept c (s.commitNoted c rec) (s.commitDo c rec) := by
  have cleared : PointKept c (s.commitNoted c rec)
      (if (s.commitNoted c rec).rstate c = 0 ∨ (s.commitNoted c rec).rstate c = 5 then
      (s.commitNoted c rec).clearMarks c else s.commitNoted c rec) := .ite (clearMarks_point hc _ c) .refl
  unfold State.commitDo
  exact .after (.foldl (fun t x => endLong_point hc t c _ _ _) _ _)
    (.after (setSeqr_point hc _ c _) (.after (retireBarrier_point hc _ c) cleared))

/-- A complete commit point, and the hold that waited for it: COMMIT_OPN, COMMIT_COUNT and the record formed. -/
theorem commitDone_point {c : Nat} (hc : c ≤ 16) (s : State) (rec : CommitRec) :
    ((s.commitDo c rec).hangDue c).regN (aRc c 8) = rec.opn % 2 ^ 32 ∧
      ((s.commitDo c rec).hangDue c).regN (aRc c 0xC) = (s.regN (aRc c 0xC) + 1) % 2 ^ 32 ∧
      (((s.commitDo c rec).hangDue c).rcv c).formed = none := by
  have noted : ((s.commitNoted c rec).rcv c).formed = none := by rw [State.commitNoted, State.rcv_setRcv]
  have committed := commitDo_point hc s rec
  have done : PointKept c (s.commitNoted c rec) ((s.commitDo c rec).hangDue c) := .after (hangDue_point hc (committed.formed.trans noted)) committed
  obtain ⟨named, counted⟩ := commitRegs_point s c rec.opn
  exact ⟨(congrArg BitVec.toNat done.opn).trans named, (congrArg BitVec.toNat done.count).trans counted, done.formed.trans noted⟩

/-! ### The row (R379, R380) -/

/-- What a step of Site Time leaves of a context's group and recovery state. -/
theorem atTime_commit (s : State) (now c : Nat) : (s.atTime now).groupEn c = s.groupEn c ∧
    (s.atTime now).groupOk c ((s.atTime now).commitGroup c) = s.groupOk c (s.commitGroup c) ∧ (s.atTime now).rcv c = s.rcv c := by
  unfold State.atTime
  split
  · exact ⟨rfl, rfl, rfl⟩
  · exact ⟨rfl, rfl, rfl⟩

section
variable {s : State} {ctx : Nat} {x : Point} (hc : ctx ≤ 16) (ready : s.pointReady ctx = some x)
  (runs : s.rstate ctx = 0 ∨ s.rstate ctx = 5)
include hc ready runs

/-- A commit point without a commit group is complete at once. -/
theorem execCommitPointComplete_alone (alone : s.groupEn ctx = false) (now : Nat) : execCommitPointComplete ctx now s =
    .next (((s.atTime now).commitDo ctx ((s.atTime now).formRecord ctx x.opn)).hangDue ctx) := by
  obtain ⟨en, -, -⟩ := atTime_commit s now ctx
  rw [execCommitPointComplete, unitRow_ok _ (decide_eq_true hc), ready]
  refine (whenB_next s _ (by simpa using runs)).trans (congrArg Host.Outcome.next (if_pos ?_))
  rw [en, alone]
  rfl

variable (group : s.groupEn ctx = true) (ok : s.groupOk ctx (s.commitGroup ctx) = true)
include group ok

/-- One with a commit group: the first event is the arrival at its barrier. -/
theorem execCommitPointComplete_arrives (unformed : (s.rcv ctx).formed = none) (now : Nat) :
    execCommitPointComplete ctx now s = .next ((s.atTime now).commitArrive ctx x.opn) := by
  obtain ⟨en, valid, recovery⟩ := atTime_commit s now ctx
  rw [execCommitPointComplete, unitRow_ok _ (decide_eq_true hc), ready]
  refine (whenB_next s _ (by simpa using runs)).trans (congrArg Host.Outcome.next ?_)
  simp only [en, group, valid, ok, recovery, unformed, Bool.not_true, Bool.false_eq_true, if_false]

/-- The next one, after the barrier has succeeded, completes it. -/
theorem execCommitPointComplete_won {rec : CommitRec} (formed : (s.rcv ctx).formed = some rec)
    (won : (s.rcv ctx).won = true) (now : Nat) :
    execCommitPointComplete ctx now s = .next (((s.atTime now).commitDo ctx rec).hangDue ctx) := by
  obtain ⟨en, valid, recovery⟩ := atTime_commit s now ctx
  rw [execCommitPointComplete, unitRow_ok _ (decide_eq_true hc), ready]
  refine (whenB_next s _ (by simpa using runs)).trans (congrArg Host.Outcome.next ?_)
  simp only [en, group, valid, ok, recovery, formed, won, Bool.not_true, Bool.false_eq_true, if_false, if_true]

end

theorem execCommitPointComplete_waits {s : State} {ctx : Nat} (hc : ctx ≤ 16) (waits : s.pointReady ctx = none) (now : Nat) :
    execCommitPointComplete ctx now s = .next s := by
  rw [execCommitPointComplete, unitRow_ok _ (decide_eq_true hc), waits]

/-! ### HOLD_RESTORE and REBUILD_LIST_DONE (R383, R385, R389) -/

/-- A restore whose images stand in the rills (R383, R385): the rebuild list runs, or steps 8 and 9 follow. -/
def State.restored (s : State) (c : Nat) : State :=
  if s.regB (aRc c 4) 3 then
    if s.rebuildCount c = 0 then (s.setB (aRc c 4) 3 false).afterRebuild c else s.setRcv c { s.rcv c with rebuild := some 0 }
  else s.afterRebuild c

section
variable {s : State} {ctx : Nat} (hc : ctx ≤ 16) (restoring : s.rstate ctx = 3)
include hc restoring

section
variable (repaired : (s.rcv ctx).repairs = 0) (unloaded : (s.rcv ctx).loaded = false) (counted : (s.rcv ctx).uncounted = false)
include repaired unloaded counted

/-- A replay that is counted and whose repairs are in flash goes on where its images can be read. -/
theorem execHoldRestore_goesOn {u : State} (load : ((s.dropEarly ctx).restoreLoad ctx).1 = some u) :
    execHoldRestore ctx s = .next ((u.epochOk ctx).restored ctx) := by
  rw [execHoldRestore]
  refine (onUnit_next s _ (decide_eq_true hc) (by simp [restoring, repaired, unloaded])).trans (congrArg Host.Outcome.next ?_)
  simp only [counted, Bool.false_eq_true, if_false]
  split
  · next none => simp [none] at load
  · next read =>
    rw [read] at load
    rw [Option.some.inj load]
    rfl

/-- Otherwise its context is HELD. -/
theorem execHoldRestore_held (load : ((s.dropEarly ctx).restoreLoad ctx).1 = none) :
    execHoldRestore ctx s = .next (((s.dropEarly ctx).restoreLoad ctx).2.heldMalformed ctx) := by
  rw [execHoldRestore]
  refine (onUnit_next s _ (decide_eq_true hc) (by simp [restoring, repaired, unloaded])).trans (congrArg Host.Outcome.next ?_)
  simp only [counted, Bool.false_eq_true, if_false]
  split
  · next none => rw [none]
  · next read => simp [read] at load

end

/-- A rebuild list whose every operation is complete. -/
theorem execRebuildListDone_done {n : Nat} (idle : (s.seqr ctx).ops = [])
    (list : (s.rcv ctx).rebuild = some n) (done : s.rebuildCount ctx ≤ n) :
    execRebuildListDone ctx 0 s =
      .next (((s.setRcv ctx { s.rcv ctx with rebuild := none }).setB (aRc ctx 4) 3 false).afterRebuild ctx) := by
  rw [execRebuildListDone]
  exact onUnit_next s _ (decide_eq_true hc) (by simp [restoring, idle, list, done])

end

end Sys2Proof.Machine
end

section
/-! SPARE_SWAP, and the failure before it (R366, R369, R372 to R374). -/

namespace Sys2Proof.Machine

/-! ### Lists that keep a property, and the failure before a swap (R366, R369) -/

/-- What holds of every entry of a list once its own step has made it so, and what each step keeps, holds of all in the end. -/
theorem foldl_forall {α β : Type} {p : β → α → Prop} {f : β → α → β} (own : ∀ b a, p (f b a) a)
    (keeps : ∀ b a x, p b x → p (f b a) x)
    (l : List α) (b : β) : ∀ x ∈ l, p (l.foldl f b) x := by
  have stays : ∀ (l : List α) b x, p b x → p (l.foldl f b) x := fun l => by
    induction l with
    | nil => exact fun _ _ h => h
    | cons a l ih => exact fun b x h => ih _ x (keeps b a x h)
  induction l generalizing b with
  | nil => exact fun _ h => absurd h List.not_mem_nil
  | cons a l ih =>
    intro x hx
    rcases List.mem_cons.1 hx with rfl | hx
    · exact stays l _ _ (own b _)
    · exact ih _ x hx

/-- A context that a repair holds (R367, R372). -/
theorem holdFor_one (s : State) (c code : Nat) : s.holdFor [c] [] [c] true code =
    ((s.setRcv c { s.rcv c with repairs := (s.rcv c).repairs + 1 }).setB (aRc c 4) 3 true).hold c code true false := by
  simp [State.holdFor, b2n]

theorem reportFailed_holds {s t : State} {k cause c : Nat} (present : s.present k = true)
    (sole : s.failing = []) (router : (s.rill k).noRouter = false)
    (ht : t = (s.incSat (rg clsReach (reachOf (rcol k) (rrow k)) 0x104)).modRill k (fun r => { r with failed := true }))
    (spare : t.regB (aCmtK k) 7 = true) (owner : t.ownersOf (segmentOf k) = [c]) :
    s.reportFailed k cause = ((({ t with failing := [(k, cause, false)] } : State).setRcv c { t.rcv c with repairs := (t.rcv c).repairs + 1 }).setB
      (aRc c 4) 3 true).hold c cCoreRemapped true false := by
  have counted : t.failing = [] := by
    rw [ht]
    exact Eq.trans ((State.incSat_kept s _).get 41) sole
  refine .trans ?_ (holdFor_one { t with failing := [(k, cause, false)] } c cCoreRemapped)
  unfold State.reportFailed
  simp only [present, sole, router, ← ht, counted, owner, spare, List.any_nil, Bool.false_and, Bool.not_true,
    Bool.not_false, Bool.or_self, Bool.and_self,
    Bool.false_eq_true, if_false, if_true, List.nil_append]

/-! ### What the end of a swap leaves of the Core Map Table (R364, R372) -/

/-- The positions that wait for a repair, and the Core Map Table (R364), which lies above the pages. -/
def State.repairTable (s : State) : List (Nat × Nat × Bool) × ({ x : Nat // 0x1000000 ≤ x } → W32) :=
  (s.failing, fun x => s.reg x)

/-- The positions that wait and the table stand. -/
abbrev TableKept (s t : State) : Prop := Same State.repairTable s t

section
variable {s t : State}

theorem TableKept.failing (h : TableKept s t) : t.failing = s.failing := congrArg Prod.fst h.on

theorem TableKept.table (h : TableKept s t) {x : Nat} (hx : 0x1000000 ≤ x) : t.reg x = s.reg x :=
  congrFun (congrArg Prod.snd h.on) ⟨x, hx⟩

/-- A register below the table is set. -/
theorem TableKept.setReg {a : Nat} (h : a < 0x1000000) (v : W32) : TableKept s (s.setReg a v) :=
  ⟨Prod.ext rfl (funext fun x => State.reg_setReg_other s v (Nat.ne_of_gt (Nat.lt_of_lt_of_le h x.2)))⟩

theorem TableKept.setF {a : Nat} (h : a < 0x1000000) (lo n v : Nat) : TableKept s (s.setF a lo n v) := TableKept.setReg h _

theorem TableKept.setB {a : Nat} (h : a < 0x1000000) (k : Nat) (b : Bool) : TableKept s (s.setB a k b) := TableKept.setReg h _

theorem TableKept.setRegN {a : Nat} (h : a < 0x1000000) (v : Nat) : TableKept s (s.setRegN a v) := TableKept.setReg h _

theorem TableKept.setReg64 {a : Nat} (h : a + 4 < 0x1000000) (v : Nat) : TableKept s (s.setReg64 a v) :=
  .after (TableKept.setRegN h _) (TableKept.setRegN (Nat.lt_of_le_of_lt (Nat.le_add_right a 4) h) _)

theorem TableKept.incSat {a : Nat} (h : a < 0x1000000) : TableKept s (s.incSat a) := by
  unfold State.incSat
  exact .ite .refl (TableKept.setRegN h _)

end

theorem rgReach_lt {r off : Nat} (hr : r < 63) (ho : off < 0x1000) : rg clsReach r off < 0x1000000 := by
  show 0x900000 + 0x1000 * r + off < 0x1000000
  omega

theorem msiSend_table (s : State) (fn vec : Nat) : TableKept s (s.msiSend fn vec) := by
  have sent : ∀ t : State, TableKept t t.tlpOut := fun t => TableKept.setReg64 (by decide) _
  unfold State.msiSend
  exact .ite ⟨rfl⟩ (.after (sent _) ⟨rfl⟩)

theorem cairnSync_table (s : State) : TableKept s s.cairnSync := by
  unfold State.cairnSync
  refine .after (TableKept.setB (by decide) _ _) (.after (TableKept.setB (by decide) _ _)
    (.after (TableKept.setB (by decide) _ _) (.after (TableKept.setReg64 (by decide) _) ?_)))
  exact .after (TableKept.setF (by decide) _ _ _) (TableKept.setRegN (by decide) _)

/-- The records that a repair makes: severity 4, of a reach. -/
theorem cairnLog_table (s : State) {r : Nat} (hr : r < 63) (code ctx : Nat) (items : List (Nat × List Byte)) :
    TableKept s (s.cairnLog 4 clsReach r code ctx items) := by
  unfold State.cairnLog
  split
  · exact .refl
  · extract_lets -merge -underBinder seq ceiling
    split
    extract_lets -merge -underBinder noFw rec
    split
    next buf w _ =>
    extract_lets -merge -underBinder cairn placed counted logged evt
    have counts : TableKept s counted := by
      have numbered : TableKept s (placed.setReg64 (aCairn 0x108) (seq + 1)) := .after (TableKept.setReg64 (by decide) _) ⟨rfl⟩
      cases w with
      | stored => exact numbered
      | overwrote7 => exact .after (TableKept.incSat (by decide)) numbered
      | dropped => exact .after (TableKept.incSat (by decide)) numbered
    have logs : TableKept s logged := .after (cairnSync_table _)
      (.after (TableKept.setReg64 (rgReach_lt (off := 0x20) hr (by decide)) _) counts)
    exact .ite (.after (t := logged.msiSend 0 _) ⟨rfl⟩ (.after (msiSend_table _ _ _) logs)) logs

theorem setDeadReach_table (s : State) {r : Nat} (hr : r < 63) : TableKept s (s.setDeadReach r) := by
  have word : ∀ i ∈ List.range 8, aDead r i < 0x1000000 := fun i hi => by
    have := List.mem_range.1 hi
    show 0x900000 + 0x1000 * r + 0x460 + 4 * i < 0x1000000
    omega
  unfold State.setDeadReach State.writeDead
  exact .after (TableKept.setB (rgReach_lt hr (by decide)) _ _)
    (.after (TableKept.setF (rgReach_lt hr (by decide)) _ _ _)
    (.foldl_mem _ (fun t i hi => TableKept.setRegN (word i hi) _) _))

theorem reachOf_lt {col row : Nat} (hc : col < 1080) (hr : row < 840) : reachOf col row < 63 := by
  unfold reachOf
  omega

theorem reachesNear_lt {k : Nat} (hk : rrow k < 840) : ∀ r ∈ reachesNear k, r < 63 := by
  have col : rcol k < 1080 := Nat.mod_lt _ (by decide)
  intro r hr
  simp only [reachesNear, List.mem_append, List.mem_singleton, List.mem_ite_nil_right] at hr
  rcases hr with (((rfl | ⟨-, rfl⟩) | ⟨right, rfl⟩) | ⟨-, rfl⟩) | ⟨down, rfl⟩
  all_goals exact reachOf_lt (by omega) (by omega)

theorem absentSync_table (s : State) {l : List Nat} (hl : ∀ r ∈ l, r < 63) : TableKept s (s.absentSync l) := by
  unfold State.absentSync
  exact .foldl_mem l (fun t r hr => TableKept.setB (rgReach_lt (hl r hr) (by decide)) _ _) s

/-- The contexts whose replay set holds a position that became a hole while the swap waited wait for a placement (R366, R375). -/
def State.swapHolds (s : State) (fresh : List Nat) : State :=
  (s.ownersOf fresh).foldl (fun s c => (s.setRcv c { s.rcv c with remap := true }).holdStep5 c) s

theorem swapHolds_table (s : State) (fresh : List Nat) : TableKept s (s.swapHolds fresh) := by
  refine .foldl_mem _ (fun t c hc => ?_) s
  have ctx : c < 17 := List.mem_range.1 (List.mem_filter.1 hc).1
  have block : aRc c 4 < 0x1000000 := by
    unfold aRc
    omega
  exact .after (t := t.setRcv c { t.rcv c with remap := true }) (TableKept.setF block _ _ _) ⟨rfl⟩

/-- The counts, dead regions and absent links after a swap, and its record (R110, R374, R399). -/
def State.swapTold (s : State) (p : Pos) (cause : Nat) : State :=
  let k := ridx p.col p.row
  let rch := reachOf p.col p.row
  let s := s.setF (rg clsReach rch 0x100) 16 10 (s.regF (rg clsReach rch 0x100) 16 10 - 1)
  let s := if (segmentOf k).any (fun x => s.cmtState x == 2) then s.setDeadReach rch else s
  ((s.absentSync (reachesNear k)).cmtGen.incSat (rg clsReach rch 0x108)).cairnLog 4 clsReach rch cCoreRemapped noCtx [itRill p.col p.row, itFault 0 cause]

theorem swapTold_table (s : State) {p : Pos} (hp : inGrid p.col p.row = true) (cause : Nat) :
    TableKept s (s.swapTold p cause) := by
  simp only [inGrid, Bool.and_eq_true, decide_eq_true_eq] at hp
  obtain ⟨col, row⟩ := hp
  have reach := reachOf_lt col row
  have near : rrow (ridx p.col p.row) < 840 := by
    unfold rrow ridx
    omega
  unfold State.swapTold
  refine .after (cairnLog_table _ reach _ _ _) (.after (TableKept.incSat (rgReach_lt reach (by decide)))
    (.after (TableKept.setRegN (by decide) _) ?_))
  refine .after (absentSync_table _ (reachesNear_lt near)) (.after (.ite (setDeadReach_table _ reach) .refl)
    (TableKept.setF (rgReach_lt reach (by decide)) _ _ _))

/-! ### The idle position of a segment (R366, R372) -/

/-- A field of any register where a field beside it was set. -/
theorem regF_setF_apart (s : State) (a b : Nat) {lo n lo' n' : Nat} (v : Nat) (h : lo' + n' ≤ lo ∨ lo + n ≤ lo') :
    (s.setF a lo n v).regF b lo' n' = s.regF b lo' n' := by
  by_cases e : b = a
  · rw [e, regF_setF_other s a v h]
  · rw [State.regF, reg_setF_other s _ _ _ e, State.regF]

theorem look?_mem {α : Type} {m : AMap α} {k : Nat} {v : α} (h : look? m k = some v) : (k, v) ∈ m := by
  induction m with
  | nil => cases h
  | cons e m ih =>
    rw [look?] at h
    split at h
    · next same =>
      rw [← Option.some.inj h, same]
      exact List.mem_cons_self
    · exact List.mem_cons_of_mem _ (ih h)

/-- Every entry of a segment names the new idle position. -/
theorem segShift_idle (s : State) {k f : Nat} (d : Nat) (hf : f < 16) :
    ∀ x ∈ segmentOf k, (s.segShift k f d).regF (aCmtK x) 8 4 = f := by
  have entry : ∀ (t : State) a b p st cause, ((((t.setF a 0 4 p).setF a 8 4 f).setF a 4 3 st).setF a 12 4 cause).regF b 8 4 =
      ((t.setF a 0 4 p).setF a 8 4 f).regF b 8 4 := fun t a b p st cause => by
    rw [regF_setF_apart _ _ _ _ (.inl (by decide)), regF_setF_apart _ _ _ _ (.inr (by decide))]
  unfold State.segShift
  extract_lets ks old move
  refine foldl_forall (p := fun (t : State) x => t.regF (aCmtK x) 8 4 = f) (fun t a => ?_) (fun t a x h => ?_) _ _
  · extract_lets p
    split
    exact (entry _ _ _ _ _ _).trans (regF_setF _ _ hf (by decide))
  · extract_lets p
    split
    refine (entry _ _ _ _ _ _).trans ?_
    by_cases e : aCmtK x = aCmtK a
    · rw [e]
      exact regF_setF _ _ hf (by decide)
    · rw [State.regF, reg_setF_other _ _ _ _ e, reg_setF_other _ _ _ _ e]
      exact h

/-- The table after a swap (R372): the entries shifted, and no working idle position. -/
def State.swapTable (s : State) (k f d : Nat) : State :=
  (segmentOf k).foldl (fun s x => s.setB (aCmtK x) 7 false) (s.segShift k f d)

theorem swapTable_idle (s : State) {k f : Nat} (d : Nat) (hf : f < 16) :
    ∀ x ∈ segmentOf k, (s.swapTable k f d).regF (aCmtK x) 8 4 = f := by
  intro x hx
  rw [State.swapTable]
  exact (foldl_keeps (fun t : State => t.regF (aCmtK x) 8 4) (fun t y => t.setB (aCmtK y) 7 false)
    (fun t y => regF_setF_apart t (aCmtK y) (aCmtK x) _ (.inr (by decide))) _ _).trans (segShift_idle s d hf x hx)

theorem swapTable_failing (s : State) (k f d : Nat) : (s.swapTable k f d).failing = s.failing := by
  have shifted : (s.segShift k f d).failing = s.failing := (State.segShift_kept s k f d).get 41
  rw [State.swapTable]
  exact (foldl_keeps State.failing (fun t y => t.setB (aCmtK y) 7 false) (fun _ _ => rfl) _ _).trans shifted

/-- The rills that a swap moves lose their contents, and its failure no longer waits (R373). -/
def State.swapLoses (s : State) (k f d : Nat) : State :=
  let moved := (segmentOf k).filter (fun x =>
    let q := s.regF (aCmtK x) 0 4
    if f < d then decide (f ≤ q) && decide (q < d) else decide (d < q) && decide (q ≤ f))
  let t := moved.foldl State.loseRill s
  { t with failing := t.failing.filter (fun e => e.1 != k) }

theorem swapLoses_failing (s : State) (k f d : Nat) : (s.swapLoses k f d).failing = s.failing.filter (fun e => e.1 != k) :=
  congrArg (List.filter _) (foldl_keeps State.failing _ (fun t x => (State.loseRill_kept t x).get 41) _ s)

/-- The positions that the swap of a segment leaves absent although they were not before: each failed while it waited (R366). -/
def State.swapFresh (s : State) (k f d : Nat) : List Nat :=
  let was := (segmentOf k).filter (fun x => !(s.swapLoses k f d).present x)
  (segmentOf k).filter (fun x => !((s.swapLoses k f d).swapTable k f d).present x && !was.contains x)

/-- The whole swap of a segment whose position k failed, its idle position at d. -/
def State.swapsSpare (s : State) (p : Pos) (f d cause : Nat) : State :=
  let k := ridx p.col p.row
  (((s.swapLoses k f d).swapTable k f d).swapHolds (s.swapFresh k f d)).swapTold p cause

theorem swapsSpare_table (s : State) {p : Pos} (hp : inGrid p.col p.row = true) (f d cause : Nat) :
    TableKept ((s.swapLoses (ridx p.col p.row) f d).swapTable (ridx p.col p.row) f d) (s.swapsSpare p f d cause) :=
  .after (swapTold_table _ hp cause) (swapHolds_table _ _)

/-- A swap removes the failure. -/
theorem swapsSpare_failing (s : State) {p : Pos} (hp : inGrid p.col p.row = true) (f d cause : Nat) :
    (s.swapsSpare p f d cause).failing = s.failing.filter (fun e => e.1 != ridx p.col p.row) :=
  (swapsSpare_table s hp f d cause).failing.trans ((swapTable_failing _ _ f d).trans (swapLoses_failing s _ f d))

/-- The idle position of the segment is the one that f names. -/
theorem swapsSpare_idle (s : State) {p : Pos} (hp : inGrid p.col p.row = true) {f : Nat} (d cause : Nat) (hf : f < 16) :
    ∀ x ∈ segmentOf (ridx p.col p.row), (s.swapsSpare p f d cause).regF (aCmtK x) 8 4 = f := fun x hx =>
  (congrArg (fld · 8 4) ((swapsSpare_table s hp f d cause).table (x := aCmtK x)
    (Nat.le_add_right _ _))).trans (swapTable_idle _ d hf x hx)

/-- The cause of the failure that waits at a position. -/
def State.failCause (s : State) (k : Nat) : Nat := ((s.failing.find? (fun e => e.1 == k)).map (fun e => e.2.1)).getD 0

theorem execSpareSwap_swaps {s : State} {p : Pos} (hp : inGrid p.col p.row = true)
    (waits : s.failing.any (fun e => e.1 == ridx p.col p.row && !e.2.2) = true) (fw : s.fwRuns = true)
    (held : ∀ c ∈ s.ownersOf (segmentOf (ridx p.col p.row)), s.rstate c = 2 ∨ s.rstate c = 3 ∨ s.rstate c = 4) :
    execSpareSwap p s = .next (s.swapsSpare p (s.regF (aCmtK (ridx p.col p.row)) 0 4) (s.regF (aCmtK (ridx p.col p.row)) 8 4)
      (s.failCause (ridx p.col p.row))) := by
  have past : (s.ownersOf (segmentOf (ridx p.col p.row))).all
      (fun c => s.rstate c == 2 || s.rstate c == 3 || s.rstate c == 4) = true := by
    simpa [or_assoc] using held
  rw [execSpareSwap]
  refine (onUnit_next s _ hp (by rw [waits, fw, past]; rfl)).trans (congrArg Host.Outcome.next ?_)
  unfold State.swapsSpare State.swapTold State.swapHolds State.swapFresh State.swapTable State.swapLoses State.failCause
  rfl

theorem execSpareSwap_waits {s : State} {p : Pos} {c : Nat} (owner : c ∈ s.ownersOf (segmentOf (ridx p.col p.row))) (runs : s.rstate c = 0) :
    execSpareSwap p s = .next s := by
  have late : (s.ownersOf (segmentOf (ridx p.col p.row))).all
      (fun c => s.rstate c == 2 || s.rstate c == 3 || s.rstate c == 4) = false :=
    List.all_eq_false.2 ⟨c, owner, by simp [runs]⟩
  rw [execSpareSwap]
  exact onUnit_stays s _ (by rw [late, Bool.and_false])

end Sys2Proof.Machine
end

section
/-! CMT_FLASH_WRITE_DONE, DRAIN_HOLD_RESUME and WEAR_SKIP (R367, R394, R395, R531): O47. -/

namespace Sys2Proof.Machine

/-! ### CMT_FLASH_WRITE_DONE (R367, R374, R531) -/

/-- The repairs that a context waits for after a flash write: no more than are left. -/
def State.repairsMade (s : State) (c : Nat) : State :=
  s.setRcv c { s.rcv c with repairs := min (s.rcv c).repairs (s.repairsLeft c) }

/-- The table is in flash, and every context knows which of its repairs are. -/
def State.flashWritten (s : State) : State := { (List.range 17).foldl State.repairsMade s.cmtSave with cmtDue := false }

theorem execCmtFlashWriteDone_writes {s : State} (fw : s.fwRuns = true) (due : s.stage = 4 ∨ s.testsOver = true) :
    execCmtFlashWriteDone s = .next s.flashWritten.pitchResume := by
  rw [execCmtFlashWriteDone]
  exact whenB_next s _ (by simpa [fw] using due)

theorem execCmtFlashWriteDone_early {s : State} (early : s.fwRuns = false ∨ (s.stage ≠ 4 ∧ s.testsOver = false)) :
    execCmtFlashWriteDone s = .next s := by
  rw [execCmtFlashWriteDone]
  exact whenB_stays s _ (by
    rcases early with fw | ⟨stage, tests⟩
    · rw [fw, Bool.false_and]
    · simp [stage, tests])

/-- Where no context is held for a pitch, none goes on. -/
theorem pitchResume_none {s : State} (none : s.pitchHeld = []) : s.pitchResume = s := by
  have same : ({ s with pitchHeld := [] } : State) = s := by rw [← none]
  unfold State.pitchResume
  split
  · rw [none]
    exact same
  · rfl

theorem cmtSave_table (s : State) :
    (s.cmtSave.cmtA.table = s.cmtNow ∨ s.cmtSave.cmtB.table = s.cmtNow) ∧ s.cmtSave.cmtFresh = false := by
  unfold State.cmtSave
  simp only
  split
  · exact ⟨.inl rfl, rfl⟩
  · next old =>
    have fresh := Bool.eq_false_iff.2 old
    split
    · exact ⟨.inl rfl, fresh⟩
    · exact ⟨.inr rfl, fresh⟩

theorem repairsMade_kept (s : State) (c : Nat) : Kept (2 ^ 40) s (s.repairsMade c) := State.setRcv_kept s c _

/-- All but the recovery state and the mark is as the write of the table left it. -/
theorem flashWritten_kept (s : State) : Kept (2 ^ 83 + 2 ^ 40) s.cmtSave s.flashWritten :=
  Kept.upd_cmtDue rfl (Kept.foldl _ (fun _ h c => Kept.step (repairsMade_kept _ c) rfl h) .here)

/-- What a context's repairs are counted from: the failures that wait, the table, and the replay sets. -/
theorem repairsLeft_congr {s t : State} (failing : t.failing = s.failing) (regs : t.regs = s.regs)
    (images : ∀ c, (t.rcv c).images = (s.rcv c).images) (c : Nat) : t.repairsLeft c = s.repairsLeft c := by
  have owners : ∀ l, t.ownersOf l = s.ownersOf l := fun l => by simp only [State.ownersOf, State.owns, images]
  have table : ∀ x, t.cmtState x = s.cmtState x := fun x => by simp only [State.cmtState, State.regF, State.reg, regs]
  simp only [State.repairsLeft, failing, owners, table]

theorem repairsMade_images (s : State) (c x : Nat) : ((s.repairsMade c).rcv x).images = (s.rcv x).images := by
  by_cases e : x = c
  · rw [e, State.repairsMade, State.rcv_setRcv]
  · exact congrArg Rcv.images (look_put_other Rcv.init s.rcvs _ e)

theorem repairsMade_left (s : State) (c x : Nat) : (s.repairsMade c).repairsLeft x = s.repairsLeft x :=
  repairsLeft_congr (s := s) (t := s.repairsMade c) rfl rfl (repairsMade_images s c) x

/-- Once every context was looked at, none waits for more repairs than are left. -/
theorem repairsMade_all (s : State) {c : Nat} (hc : c ≤ 16) :
    (((List.range 17).foldl State.repairsMade s).rcv c).repairs ≤ ((List.range 17).foldl State.repairsMade s).repairsLeft c := by
  have made : ∀ (t : State) a, ((t.repairsMade a).rcv a).repairs ≤ (t.repairsMade a).repairsLeft a := fun t a => by
    rw [repairsMade_left, State.repairsMade, State.rcv_setRcv]
    exact Nat.min_le_right _ _
  have stays : ∀ (t : State) a x, (t.rcv x).repairs ≤ t.repairsLeft x →
    ((t.repairsMade a).rcv x).repairs ≤ (t.repairsMade a).repairsLeft x := by
    intro t a x h
    by_cases e : x = a
    · exact e ▸ made t x
    · rw [repairsMade_left, State.rcv, State.repairsMade, State.setRcv, look_put_other _ _ _ e]
      exact h
  exact foldl_forall (p := fun (t : State) x => (t.rcv x).repairs ≤ t.repairsLeft x)
    (f := State.repairsMade) made stays (List.range 17) s c
    (List.mem_range.2 (Nat.lt_succ_of_le hc))

theorem cmtSave_repairsLeft (s : State) (c : Nat) : s.cmtSave.repairsLeft c = s.repairsLeft c := by
  have saved := State.cmtSave_kept s
  have images : s.cmtSave.rcvs = s.rcvs := saved.get 40
  exact repairsLeft_congr (saved.get 41) (saved.get 2) (fun x => congrArg (fun m => (look Rcv.init m x).images) images) c

theorem flashWritten_repairs (s : State) {c : Nat} (hc : c ≤ 16) : (s.flashWritten.rcv c).repairs ≤ s.repairsLeft c := by
  have counted : ((List.range 17).foldl State.repairsMade s.cmtSave).repairsLeft c = s.cmtSave.repairsLeft c :=
    foldl_keeps (fun t : State => t.repairsLeft c) State.repairsMade (fun t a => repairsMade_left t a c) _ _
  have noted : ∀ t : State, ({ t with cmtDue := false } : State).rcv c = t.rcv c := fun _ => rfl
  rw [← cmtSave_repairsLeft, ← counted, State.flashWritten, noted]
  exact repairsMade_all s.cmtSave hc

theorem flashWritten_table (s : State) :
    (s.flashWritten.cmtA.table = s.cmtNow ∨ s.flashWritten.cmtB.table = s.cmtNow) ∧ s.flashWritten.cmtFresh = false := by
  have a : s.flashWritten.cmtA = s.cmtSave.cmtA := (flashWritten_kept s).get 118
  have b : s.flashWritten.cmtB = s.cmtSave.cmtB := (flashWritten_kept s).get 119
  have fresh : s.flashWritten.cmtFresh = s.cmtSave.cmtFresh := (flashWritten_kept s).get 120
  rw [a, b, fresh]
  exact cmtSave_table s

/-- A flash write leaves the registers, the rills and the contexts held for a pitch. -/
theorem flashWritten_rest (s : State) :
    s.flashWritten.regs = s.regs ∧ s.flashWritten.rills = s.rills ∧
      s.flashWritten.pitchHeld = s.pitchHeld := by
  have saved := State.cmtSave_kept s
  have written := flashWritten_kept s
  exact ⟨Eq.trans (written.get 2) (saved.get 2), Eq.trans (written.get 13) (saved.get 13),
    Eq.trans (written.get 76) (saved.get 76)⟩

/-! ### DRAIN_HOLD_RESUME and WEAR_SKIP (R394, R395) -/

/-- The moves that wait for a context. -/
def State.wearMine (s : State) (c : Nat) : List Nat := s.wearSegs.filter (fun g => (s.wearOwners g).contains c)

/-- Moves that no longer wait. -/
def State.wearDone (s : State) (l : List Nat) : State :=
  ({ s with wearSegs := s.wearSegs.filter (fun g => !l.contains g) } : State).wearSync

theorem wearDone_pitchHeld (s : State) (l : List Nat) : (s.wearDone l).pitchHeld = s.pitchHeld := (State.wearSync_kept _).get 76

/-- The rills of a context move, and the table is written (R367). -/
def State.wearMoved (s : State) (l : List Nat) : State := (l.foldl State.wearMove s).cmtSave

theorem wearMoved_pitchHeld (s : State) (l : List Nat) : (s.wearMoved l).pitchHeld = s.pitchHeld := by
  have moved : (l.foldl State.wearMove s).pitchHeld = s.pitchHeld :=
    foldl_keeps State.pitchHeld State.wearMove (fun t g => (State.wearMove_kept t g).get 76) l s
  exact Eq.trans ((State.cmtSave_kept _).get 76) moved

section
variable {s : State} {ctx r : Nat} (hc : ctx ≤ 16) (draining : s.rstate ctx = 5) (begun : (s.rcv ctx).drain = some r)
include hc draining begun

section
variable (drained : (s.rcv ctx).drained = true) (fw : s.fwRuns = true) (idle : (s.seqr ctx).ops = [])
  (ready : ∀ g ∈ s.wearSegs, ∀ c ∈ s.wearOwners g, s.rstate c ≠ 5 ∨ (s.rcv c).drained = true) (pitch : ctx ∉ s.pitchHeld)
include drained fw idle ready pitch

/-- A drained context whose commit point and whose neighbours' are complete goes on; its moves, if any wait, are made and written before. -/
theorem execDrainHoldResume_resumes {t : State} (ht : (if (s.wearMine ctx).isEmpty then s else s.wearMoved (s.wearMine ctx)) = t) :
    execDrainHoldResume ctx s = .next ((t.wearDone (s.wearMine ctx)).drainResume ctx) := by
  have all : (s.wearMine ctx).all (fun g => (s.wearOwners g).all (fun c => s.rstate c != 5 || (s.rcv c).drained)) = true := by
    simp only [List.all_eq_true, Bool.or_eq_true, bne_iff_ne]
    exact fun g hg => ready g (List.mem_filter.1 hg).1
  have held : (t.wearDone (s.wearMine ctx)).pitchHeld.contains ctx = false := by
    have kept : t.pitchHeld = s.pitchHeld := by
      rw [← ht]
      split
      · rfl
      · exact wearMoved_pitchHeld s _
    rw [wearDone_pitchHeld, kept]
    simpa using pitch
  subst ht
  have guard : (s.rstate ctx == 5 && (s.rcv ctx).drain.isSome && (s.rcv ctx).drained && s.fwRuns && (s.seqr ctx).ops.isEmpty) = true := by
    simp [draining, begun, drained, fw, idle]
  rw [execDrainHoldResume]
  exact (onUnit_next s _ (decide_eq_true hc) (Bool.and_eq_true_iff.2 ⟨guard, all⟩)).trans
    (congrArg Host.Outcome.next (if_neg (Bool.eq_false_iff.1 held)))

end

/-- A context that has waited an hour is skipped. -/
theorem execWearSkip_skips {now : Nat} (waits : (s.rcv ctx).drained = false)
    (hour : inWindow (max now s.clk.now) (s.rcv ctx).drainAt 3600000000000 = false)
    (pitch : ctx ∉ s.pitchHeld) : execWearSkip ctx now s = .next
      ((((s.atTime now).wearDrop ctx).setRcv ctx { ((s.atTime now).wearDrop ctx).rcv ctx with drain := none }).setRstate ctx 0) := by
  have held : ((s.atTime now).wearDrop ctx).pitchHeld.contains ctx = false := by
    have kept : ((s.atTime now).wearDrop ctx).pitchHeld = s.pitchHeld := Eq.trans ((State.wearDrop_kept _ ctx).get 76) ((State.atTime_kept s now).get 76)
    rw [kept]
    simpa using pitch
  rw [execWearSkip]
  exact (onUnit_next s _ (decide_eq_true hc) (by simp [draining, begun, waits, hour])).trans
    (congrArg Host.Outcome.next (if_neg (Bool.eq_false_iff.1 held)))

end

/-- Settles O47: a commit point by its group and its barrier, a restore by what reads the images, a drain by whether moves wait; what a complete
commit point and a swap leave are the registers that nothing after them sets. -/
theorem commitAndRecovery : Obligations.CommitAndRecovery := by
  unfold Obligations.CommitAndRecovery
  simp only [exec_commitPointComplete, exec_holdRestore, exec_rebuildListDone, exec_spareSwap,
    exec_cmtFlashWriteDone, exec_drainHoldResume, exec_wearSkip]
  refine ⟨?alone, ?arrives, ?won, ?facts, ?waits, ?restored, ?rebuilds, ?unreadable, ?rebuilt, ?swap,
    ?failure, ?swapWaits, ?written, ?flash, ?early,
    ?resumes, ?moves, ?skipped⟩
  case alone => exact fun s ctx now x hc ready runs alone => execCommitPointComplete_alone hc ready runs alone now
  case arrives => exact fun s ctx now x hc ready runs group ok unformed => execCommitPointComplete_arrives hc ready runs group ok unformed now
  case won => exact fun s ctx now x v hc ready runs group ok formed won => execCommitPointComplete_won hc ready runs group ok formed won now
  case facts =>
    intro s ctx now x hc ready runs alone _
    obtain ⟨opn, count, formed⟩ := commitDone_point hc (s.atTime now) ((s.atTime now).formRecord ctx x.opn)
    have row := execCommitPointComplete_alone hc ready runs alone now
    have kept := (execCommitPointComplete_kept ctx now s).on _ row
    have before : (s.atTime now).regN (aRc ctx 0xC) = s.regN (aRc ctx 0xC) := congrArg BitVec.toNat (atTime_reg s now _)
    exact ⟨_, row, opn, before ▸ count, formed, kept.get 6, kept.get 8⟩
  case waits => exact fun s ctx now hc waits => execCommitPointComplete_waits hc waits now
  case restored =>
    intro s u ctx hc restoring repaired unloaded counted load same
    rw [execHoldRestore_goesOn hc restoring repaired unloaded counted load, State.restored, if_neg (Bool.eq_false_iff.1 same)]
  case rebuilds =>
    intro s u ctx hc restoring repaired unloaded counted load changed list
    rw [execHoldRestore_goesOn hc restoring repaired unloaded counted load, State.restored, if_pos changed, if_neg list]
  case unreadable => exact fun s ctx hc restoring repaired unloaded counted load => execHoldRestore_held hc restoring repaired unloaded counted load
  case rebuilt => exact fun s ctx n hc restoring idle list done => execRebuildListDone_done hc restoring idle list done
  case swap =>
    intro s p cause hp waits fw held
    have row := execSpareSwap_swaps hp (List.any_eq_true.2 ⟨_, look?_mem waits, by simp⟩) fw held
    have kept := (execSpareSwap_kept p s).on _ row
    exact ⟨_, row, swapsSpare_failing s hp _ _ _, kept.get 38, kept.get 8, swapsSpare_idle s hp _ _ (Nat.mod_lt _ (by decide))⟩
  case failure => exact fun s t k cause c present sole _ router ht spare _ owner => reportFailed_holds present sole router ht spare owner
  case swapWaits => exact fun s p c owner runs => execSpareSwap_waits owner runs
  case written => exact fun s fw due => execCmtFlashWriteDone_writes fw due
  case flash =>
    intro s fw due none
    obtain ⟨regs, rills, held⟩ := flashWritten_rest s
    obtain ⟨table, fresh⟩ := flashWritten_table s
    refine ⟨s.flashWritten, ?_, table, regs, rills, fresh, fun c hc => flashWritten_repairs s hc⟩
    rw [execCmtFlashWriteDone_writes fw due, pitchResume_none (held.trans none)]
  case early => exact fun s early => execCmtFlashWriteDone_early early
  case resumes =>
    intro s ctx r hc draining begun drained fw idle ready still pitch
    exact execDrainHoldResume_resumes hc draining begun drained fw idle ready pitch (if_pos (List.isEmpty_iff.2 still))
  case moves =>
    intro s ctx r hc draining begun drained fw idle ready moves pitch
    exact execDrainHoldResume_resumes hc draining begun drained fw idle ready pitch (if_neg (mt List.isEmpty_iff.1 moves))
  case skipped =>
    intro s ctx r now hc draining begun waits hour pitch
    have row := execWearSkip_skips hc draining begun waits hour pitch
    have kept := (execWearSkip_kept ctx now s).on _ row
    exact ⟨_, row, regF_setF _ _ (by decide) (by decide), congrArg Rcv.drain (State.rcv_setRcv _ ctx _), kept.get 6, kept.get 14⟩

end Sys2Proof.Machine
end

section
/-! Operations that set no STATE word of a page below the gauges: packets, records, completions, and a hold (R105, R298, R383, R471, R542,
R562). -/

namespace Sys2Proof.Machine

/-! ### The steps of a hold (R383) -/

/-- What every step of a hold keeps, a hold keeps. -/
theorem hold_rule {P : State → Prop} {s : State} {c code : Nat} {silent : Bool} (start : P s) (commits : ∀ rec, P (s.commitDo c rec))
    (rcv : ∀ t r, P t → P (t.setRcv c r)) (begins : ∀ t, P t → P (t.holdBegin c code)) (step3 : ∀ t, P t → P (t.holdStep3 c code silent))
    (step4 : ∀ t, P t → P (t.holdStep4 c)) (counts : ∀ t, P t → P (t.countReplay c code)) (step5 : ∀ t, P t → P (t.holdStep5 c))
    (drops : P (s.dropRebuild c code)) (epoch : ∀ t, P t → P (t.incWrap (aRc c 0x1C))) (repair : Bool) : P (s.hold c code repair silent) := by
  unfold State.hold
  extract_lets -merge -underBinder st r committed begun src dropped src' reloads
  split
  · have begins : P begun := begins committed (by
      unfold committed
      split
      · split
        · exact commits _
        · exact start
      · exact start)
    split
    · exact step4 _ (rcv begun _ begins)
    · exact step5 _ (counts _ (step4 _ (step3 begun begins)))
  · split
    · have drops : P dropped := by
        unfold dropped
        split
        · exact drops
        · exact start
      refine step5 reloads ?_
      unfold reloads
      split
      · exact rcv _ _ (epoch dropped drops)
      · exact start
    · exact start

/-! ### STATE words (R561, R566, R567) -/

/-- The address of the STATE word of a page that lies between the global page and the gauges. -/
structure StateWord (x : Nat) : Prop where
  above : 0x1000 ≤ x
  below : x < 0x2C0000
  header : x % 0x1000 = 0xC

/-- A register stands. -/
abbrev RegKept (x : Nat) (s t : State) : Prop := Same (State.reg · x) s t

section
variable {x a : Nat} {s t : State}

theorem RegKept.ofRegs (h : t.regs = s.regs) : RegKept x s t := ⟨congrArg (look (resetReg x) · x) h⟩

/-- An operation that keeps every register. -/
theorem RegKept.ofKept {m : Nat} (h : Kept m s t) (hm : m.testBit 2 = false := by rfl) : RegKept x s t := RegKept.ofRegs (h.get 2 rfl hm)

theorem RegKept.setReg (h : x ≠ a) (v : W32) : RegKept x s (s.setReg a v) := ⟨State.reg_setReg_other s v h⟩

theorem RegKept.setReg64 (h : x ≠ a) (h4 : x ≠ a + 4) (v : Nat) : RegKept x s (s.setReg64 a v) := ⟨setReg64_other v h h4⟩

theorem RegKept.setEng (c : Nat) (e : Engine) : RegKept x s (s.setEng c e) := RegKept.ofRegs rfl

theorem RegKept.setSeqr (c : Nat) (q : Seqr) : RegKept x s (s.setSeqr c q) := RegKept.ofRegs rfl

theorem RegKept.setRcv (c : Nat) (r : Rcv) : RegKept x s (s.setRcv c r) := RegKept.ofRegs rfl

theorem RegKept.incSat (h : x ≠ a) : RegKept x s (s.incSat a) := ⟨incSat_other s h⟩

end

theorem mod_choice {b : Prop} [Decidable b] {n x y : Nat} (hx : x % n = 0) (hy : y % n = 0) : (if b then x else y) % n = 0 := by
  split
  · exact hx
  · exact hy

theorem pageBase_aligned (cls inst : Nat) : pageBase cls inst % 0x1000 = 0 := by
  unfold pageBase
  repeat' with_reducible apply mod_choice
  all_goals omega

section
variable {x : Nat} (hx : StateWord x)
include hx

/-- A register past the first four words of its page is no STATE word. -/
theorem StateWord.ne_rg (cls inst : Nat) {off : Nat} (h : 0x10 ≤ off ∧ off < 0x1000) : x ≠ rg cls inst off := by
  have aligned := pageBase_aligned cls inst
  have header := hx.header
  show x ≠ pageBase cls inst + off
  omega

theorem StateWord.ne_above {a : Nat} (h : 0x2C0000 ≤ a) : x ≠ a := Nat.ne_of_lt (Nat.lt_of_lt_of_le hx.below h)

theorem StateWord.ne_global {a : Nat} (h : a < 0x1000) : x ≠ a := Nat.ne_of_gt (Nat.lt_of_lt_of_le h hx.above)

theorem StateWord.ne_reach (rch off : Nat) : x ≠ rg clsReach rch off := hx.ne_above (by
  show 0x2C0000 ≤ 0x900000 + 0x1000 * rch + off
  omega)

/-- The recovery block of a context lies in the global page. -/
theorem StateWord.ne_aRc {c off : Nat} (hc : c ≤ 16) (ho : off < 0x40) : x ≠ aRc c off := hx.ne_global (by
  unfold aRc
  omega)

/-! ### Packets, records and completions (R105, R114, R471, R542) -/

theorem cairnLog_stateWord (s : State) (sev cls inst code ctx : Nat) (items : List (Nat × List Byte)) :
    RegKept x s (s.cairnLog sev cls inst code ctx items) :=
  ⟨cairnLog_other hx.below s _ _ _ _ _ _ (hx.ne_rg cls inst (by decide)) (hx.ne_rg cls inst (off := 0x20) (by decide))⟩

theorem fabInc_stateWord (s : State) (rch off : Nat) : RegKept x s (s.fabInc rch off) := .ite (RegKept.incSat (hx.ne_reach _ _)) .refl

theorem unreachable_stateWord (s : State) (p : Packet) : RegKept x s (s.unreachable p) := by
  unfold State.unreachable
  exact .after (cairnLog_stateWord hx _ _ _ _ _ _ _) (fabInc_stateWord hx s _ _)

theorem inject_stateWord (s : State) (p : Packet) : RegKept x s (s.inject p) := by
  have counted : ∀ q path, RegKept x s (s.countFlits q path) := fun q path => ⟨countFlits_below s q path hx.below⟩
  have sent : ∀ (b : Bool) q gone n, RegKept x s (if b then s.dropAtLink q gone else { s with net := n }) := fun _ _ _ _ =>
    .ite (.after (fabInc_stateWord hx _ _ _) (counted _ _)) (RegKept.ofRegs rfl)
  have fed : ∀ (t : State) ep dir col row q c b, RegKept x t (t.feedStream ep dir col row q c b) := fun t _ _ _ _ _ _ b =>
    ⟨feedStream_below t _ _ _ _ _ _ b hx.below⟩
  unfold State.inject State.inject?
  cases s.chooseWay p.entry p.exit with
  | none => exact unreachable_stateWord hx s p
  | some w => exact .after (.ite (fed _ _ _ _ _ _ _ _) .refl) (sent _ _ _ _)

theorem ceInterrupt_stateWord (s : State) (c : Nat) : RegKept x s (s.ceInterrupt c) := by
  have told : ∀ e vec, RegKept x s ((s.setEng c e).msiSend c vec) := fun e vec => .after ⟨msiSend_below hx.below _ c vec⟩ (RegKept.setEng c e)
  unfold State.ceInterrupt
  split
  · simp only
    split
    · exact .ite (told _ _) (RegKept.setEng c _)
    · exact told _ _
  · exact .refl

theorem cqWrite_stateWord (s : State) (c : Nat) (r : Completion) : RegKept x s (s.cqWrite c r) := by
  have written : ∀ h, RegKept x s ({ s with host := h } : State).tlpOut := fun _ =>
    .after (RegKept.setReg64 (hx.ne_above (by decide)) (hx.ne_above (by decide)) _) (RegKept.ofRegs rfl)
  unfold State.cqWrite
  exact .after (ceInterrupt_stateWord hx _ c) (.after (RegKept.setEng c _) (.after (RegKept.setReg (hx.ne_rg clsCe c (off := 0x118) (by decide)) _) (written _)))

theorem cqDrain_stateWord (s : State) (c : Nat) (l : List Completion) : RegKept x s (s.cqDrain c l) := by
  induction l generalizing s with
  | nil => exact RegKept.setEng c _
  | cons r l ih =>
    unfold State.cqDrain
    exact .ite (.after (ih _) (.after (RegKept.setEng c _) (cqWrite_stateWord hx s c r))) (RegKept.setEng c _)

theorem post_stateWord (s : State) (c : Nat) (r : Completion) : RegKept x s (s.post c r) := by
  have shown : ∀ t : State, RegKept x t (t.ceSync c) := fun _ => RegKept.setReg (hx.ne_rg clsCe c (off := 0x100) (by decide)) _
  unfold State.post
  simp only
  split
  · exact .after (shown _) (RegKept.incSat (hx.ne_rg clsCe c (by decide)))
  · exact .after (shown _) (cqDrain_stateWord hx s c _)

theorem endLong_stateWord (s : State) (c h code : Nat) (result : List Byte) : RegKept x s (s.endLong c h code result) := by
  unfold State.endLong
  split
  · exact .refl
  · exact .after (post_stateWord hx _ c _) (RegKept.setEng c _)

theorem endRuns_stateWord (s : State) (c code opn : Nat) : RegKept x s (s.endRuns c code opn) := by
  unfold State.endRuns
  exact .after (.foldl (fun t h => endLong_stateWord hx t c h code _) _ _) (RegKept.setSeqr c _)

theorem sendAbort_stateWord (s : State) (g seq code arg2 : Nat) : RegKept x s (s.sendAbort g seq code arg2) := by
  have sent : ∀ t p, RegKept x t (State.wireOut t p none) := fun t p => by
    have routed := RegKept.ofKept (x := x) (State.routeDir_kept t p none)
    unfold State.wireOut
    split
    · next u way => rwa [way] at routed
    · next dir u way =>
      rw [way] at routed
      exact .after (.ite ⟨takeLink_header hx.below hx.header u _ dir⟩ (RegKept.ofRegs rfl)) routed
  exact .foldl (fun t _ => .ite .refl (sent t _)) _ s

/-! ### What the steps of a hold set (R383) -/

theorem opAborts_stateWord (s : State) (c code : Nat) : RegKept x s (s.opAborts c code) :=
  .foldl (fun t _ => .foldl (fun u _ => inject_stateWord hx u _) _ t) _ s

theorem cfSync_stateWord (s : State) : RegKept x s s.cfSync := by
  have page : ∀ t off, x ≠ rg clsCf t off := fun t off => hx.ne_above (by
    show 0x2C0000 ≤ 0x400000 + 0x1000 * t + off
    omega)
  unfold State.cfSync
  simp only
  refine .after (.foldl (fun u i => .after (RegKept.setReg (page i 0x114) _) (RegKept.setReg (page i 0x110) _)) _ _) ?_
  exact .after (.foldl (fun u d => RegKept.setReg (page 12 _) _) _ _) (.after (RegKept.setReg (page 12 0x104) _) (RegKept.setReg (page 12 0x104) _))

/-- The release of an operation that ends with a code. -/
theorem releaseLost_stateWord (s : State) (o : Op) (code : Nat) :
    RegKept x s ((if o.stage = 0 then s else s.countLost o code).releasePost o) := by
  have job : ∀ j off, x ≠ aJob j off := fun j off => hx.ne_above (by
    unfold aJob
    omega)
  have home : x ≠ rg clsCf o.home 0x100 := hx.ne_rg _ _ (by decide)
  have counted : RegKept x s (if o.stage = 0 then s else s.countLost o code) := .ite .refl (.ite (RegKept.incSat (job _ _)) .refl)
  have ended : ∀ t : State, RegKept x t (if o.stage = 0 ∨ o.coll = 0 then t else t.retirePost o) := fun t =>
    .ite .refl (RegKept.ofKept (State.retirePost_kept t o))
  unfold State.releasePost
  refine .after (.ite ?_ (cfSync_stateWord hx _)) (.after (ended _) counted)
  exact .after (cfSync_stateWord hx _) (.after (.ite (RegKept.setReg home _) .refl) (RegKept.setReg home _))

theorem wearDrop_stateWord (s : State) (c : Nat) : RegKept x s (s.wearDrop c) := by
  unfold State.wearDrop State.wearSync
  exact .after (.foldl (fun t _ => .ite (RegKept.setReg (hx.ne_reach _ _) _) .refl) _ _) (RegKept.ofRegs rfl)

theorem holdStep4_stateWord (s : State) (c : Nat) : RegKept x s (s.holdStep4 c) := by
  have claims : ∀ off, off % 0x40 ≠ 0xC → x ≠ aHwc c off := fun off ho => by
    have header := hx.header
    unfold aHwc
    omega
  have retired : ∀ l : List EzStream, RegKept x s (l.foldl State.retireP2p s) := fun l => .foldl (fun t e => RegKept.ofKept (State.retireP2p_kept t e)) l s
  unfold State.holdStep4 State.hwcSync State.hwSync
  refine .after (.after (RegKept.setReg (claims 0x2C (by decide)) _) (RegKept.setReg (claims 0x28 (by decide)) _)) ?_
  exact .after (.foldl (fun t q => RegKept.setReg (hx.ne_rg clsPort q (off := 0x104) (by decide)) _) _ _) ⟨(retired _).on⟩

theorem holdStep3_stateWord (s : State) (c code : Nat) (silent : Bool) : RegKept x s (s.holdStep3 c code silent) := by
  have aborted : ∀ (l : List Op) (arg : Op → Nat), RegKept x s (l.foldl (fun t o => t.sendAbort o.group o.seq code (arg o)) (s.opAborts c code)) :=
    fun l arg => .after (.foldl (fun t o => sendAbort_stateWord hx t _ _ _ _) _ _) (opAborts_stateWord hx s c code)
  unfold State.holdStep3
  refine .after (cfSync_stateWord hx _) (.after (RegKept.setRcv c _) (.after (RegKept.setSeqr c _)
    (.after (.foldl (fun t o => releaseLost_stateWord hx t o code) _ _) ?_)))
  exact .ite (opAborts_stateWord hx s c code) (.ite (.after (sendAbort_stateWord hx _ _ _ _ _) (aborted _ _)) (aborted _ _))

theorem dropRebuild_stateWord (s : State) (c code : Nat) : RegKept x s (s.dropRebuild c code) := by
  unfold State.dropRebuild
  exact .after (cfSync_stateWord hx _) (.after (RegKept.setSeqr c _)
    (.after (.foldl (fun t o => releaseLost_stateWord hx t o code) _ _) (opAborts_stateWord hx s c code)))

section
variable {c : Nat} (hc : c ≤ 16)
include hc

theorem commitDo_stateWord (s : State) (rec : CommitRec) : RegKept x s (s.commitDo c rec) := by
  have point : ∀ {off}, off < 0x40 → x ≠ aRc c off := hx.ne_aRc hc
  have cleared : ∀ t : State, RegKept x t (if t.rstate c = 0 ∨ t.rstate c = 5 then t.clearMarks c else t) := fun t =>
    .ite (RegKept.ofKept (State.clearMarks_kept t c)) .refl
  unfold State.commitDo
  refine .after (.foldl (fun t e => endLong_stateWord hx t c _ _ _) _ _) (.after (RegKept.setSeqr c _) ?_)
  refine .after (RegKept.ofKept (State.retireBarrier_kept _ c)) (.after (cleared _) (.after (RegKept.setRcv c _) ?_))
  exact .after (RegKept.setReg (point (off := 4) (by decide)) _) (.after (RegKept.setReg64 (point (off := 0x10) (by decide)) (point (off := 0x14) (by decide)) _)
    (.after (RegKept.setReg (point (off := 0xC) (by decide)) _) (RegKept.setReg (point (off := 8) (by decide)) _)))

theorem holdBegin_stateWord (s : State) (code : Nat) : RegKept x s (s.holdBegin c code) := by
  have point : ∀ {off}, off < 0x40 → x ≠ aRc c off := hx.ne_aRc hc
  have dropped : RegKept x s (if s.rstate c = 5 then s.wearDrop c else s) := .ite (wearDrop_stateWord hx s c) .refl
  unfold State.holdBegin
  refine .after (RegKept.ofKept (State.retireBarrier_kept _ c)) (.after (RegKept.setReg (point (off := 4) (by decide)) _)
    (.after (RegKept.setReg (point (off := 0x1C) (by decide)) _) (.after (RegKept.setSeqr c _) (.after (endRuns_stateWord hx _ c _ _) ?_))))
  refine .after (post_stateWord hx _ c _) (.after (RegKept.setReg (point (off := 4) (by decide)) _) (.after (RegKept.setRcv c _) ?_))
  exact ⟨dropped.on⟩

theorem countReplay_stateWord (s : State) (code : Nat) : RegKept x s (s.countReplay c code) := by
  have point : ∀ {off}, off < 0x40 → x ≠ aRc c off := hx.ne_aRc hc
  unfold State.countReplay
  exact .ite (.after (RegKept.incSat (point (by decide))) (RegKept.setReg (point (off := 4) (by decide)) _))
    (.after (cairnLog_stateWord hx _ _ _ _ _ _ _) (RegKept.setRcv c _))

theorem hold_stateWord (s : State) (code : Nat) (repair silent : Bool) : RegKept x s (s.hold c code repair silent) := by
  have point : ∀ {off}, off < 0x40 → x ≠ aRc c off := hx.ne_aRc hc
  refine hold_rule (P := RegKept x s) .refl ?commits ?rcv ?begins ?step3 ?step4 ?counts ?step5 ?drops ?epoch repair
  case commits => exact commitDo_stateWord hx hc s
  case rcv => exact fun _ r h => .after (RegKept.setRcv c r) h
  case begins => exact fun t h => .after (holdBegin_stateWord hx hc t code) h
  case step3 => exact fun t h => .after (holdStep3_stateWord hx t c code silent) h
  case step4 => exact fun t h => .after (holdStep4_stateWord hx t c) h
  case counts => exact fun t h => .after (countReplay_stateWord hx hc t code) h
  case step5 => exact fun _ h => .after (RegKept.setReg (point (off := 4) (by decide)) _) h
  case drops => exact dropRebuild_stateWord hx s c code
  case epoch => exact fun _ h => .after (RegKept.setReg (point (off := 0x1C) (by decide)) _) h

end

/-- Holds for a repair (R372 to R375). -/
theorem holdFor_stateWord (s : State) {ctxs : List Nat} (hc : ∀ c ∈ ctxs, c ≤ 16) (remap layout : List Nat) (flash : Bool) (code : Nat) :
    RegKept x s (s.holdFor ctxs remap layout flash code) := by
  refine .foldl_mem ctxs (fun t c mem => ?_) s
  have ctx := hc c mem
  exact .after (hold_stateWord hx ctx _ code true false) (.after (.ite (RegKept.setReg (hx.ne_aRc ctx (off := 4) (by decide)) _) .refl) (RegKept.setRcv c _))

end

/-! ### Contexts held for a pitch (R411) -/

theorem holdBegin_pitchHeld (s : State) (c code : Nat) : (s.holdBegin c code).pitchHeld = rem s.pitchHeld c := by
  have dropped : (if s.rstate c = 5 then s.wearDrop c else s).pitchHeld = s.pitchHeld := by
    split
    · exact (State.wearDrop_kept s c).get 76
    · rfl
  have posted : ∀ t : State, (t.postEvent c code).pitchHeld = t.pitchHeld := fun t => (State.postEvent_kept t c code).get 76
  have ended : ∀ (t : State) opn, (t.endRuns c code opn).pitchHeld = t.pitchHeld := fun t opn => (State.endRuns_kept t c code opn).get 76
  have retired : ∀ t : State, (t.retireBarrier c).pitchHeld = t.pitchHeld := fun t => (State.retireBarrier_kept t c).get 76
  simp only [State.holdBegin, retired, State.setRstate, State.incWrap, State.setF_pitchHeld, State.setRegN_pitchHeld, State.setSeqr_pitchHeld, ended,
    posted, State.setRcv_pitchHeld, dropped]

/-- A hold adds no context to those that a pitch holds. -/
theorem hold_pitchHeld {s : State} (held : s.pitchHeld = []) (c code : Nat) (repair silent : Bool) : (s.hold c code repair silent).pitchHeld = [] := by
  refine hold_rule (P := fun t => t.pitchHeld = []) held ?commits ?rcv ?begins ?step3 ?step4 ?counts ?step5 ?drops ?epoch repair
  case commits => exact fun rec => Eq.trans ((State.commitDo_kept s c rec).get 76) held
  case rcv => exact fun _ _ h => h
  case begins => exact fun t h => (holdBegin_pitchHeld t c code).trans (congrArg (rem · c) h)
  case step3 => exact fun t h => Eq.trans ((State.holdStep3_kept t c code silent).get 76) h
  case step4 => exact fun t h => Eq.trans ((State.holdStep4_kept t c).get 76) h
  case counts => exact fun t h => Eq.trans ((State.countReplay_kept t c code).get 76) h
  case step5 => exact fun t h => Eq.trans ((State.holdStep5_kept t c).get 76) h
  case drops => exact Eq.trans ((State.dropRebuild_kept s c code).get 76) held
  case epoch => exact fun _ h => h

theorem holdFor_pitchHeld {s : State} (held : s.pitchHeld = []) (ctxs remap layout : List Nat) (flash : Bool) (code : Nat) :
    (s.holdFor ctxs remap layout flash code).pitchHeld = [] := by
  induction ctxs generalizing s with
  | nil => exact held
  | cons c ctxs ih =>
    refine ih (hold_pitchHeld ?_ c code true false)
    split
    · exact held
    · exact held

end Sys2Proof.Machine
end

section
/-! Pitches: isolation, throttling, rail tests, starts and stops (R408, R412 to R417): O48. -/

namespace Sys2Proof.Machine

/-! ### Lists, windows and counts -/

theorem mem_ins_self (l : List Nat) (x : Nat) : x ∈ ins l x := by
  induction l with
  | nil => simp [ins]
  | cons k l ih =>
    unfold ins
    split
    · exact List.mem_cons_self
    · split
      · next e => exact e ▸ List.mem_cons_self
      · exact List.mem_cons_of_mem _ ih

theorem look?_del_same {α : Type} (m : AMap α) (x : Nat) : look? (del m x) x = none := by
  induction m with
  | nil => rfl
  | cons e m ih =>
    obtain ⟨k, v⟩ := e
    by_cases h : k = x
    · rw [del, List.filter_cons_of_neg (by simp [h])]
      exact ih
    · rw [del, List.filter_cons_of_pos (by simp [h]), look?, if_neg (Ne.symm h)]
      exact ih

/-- A window that is open is open for longer. -/
theorem inWindow_mono {t start m n : Nat} (h : m ≤ n) (w : inWindow t start m = true) : inWindow t start n = true :=
  decide_eq_true (Nat.lt_of_lt_of_le (of_decide_eq_true w) (Nat.add_le_add_left h (grain start)))

theorem regN_incSat (s : State) (a : Nat) : (s.incSat a).regN a = min 0xFFFFFFFF (s.regN a + 1) := by
  have bound : s.regN a < 2 ^ 32 := BitVec.isLt _
  unfold State.incSat
  split
  · omega
  · rw [regN_setRegN]
    omega

/-- A stop that no start waits behind ends OFF (R562). -/
theorem stopDone_off {s : State} {cls inst : Nat} (h : s.pendOn cls inst = false) (atStart : State → State) :
    s.stopDone cls inst atStart = s.setPst cls inst stOff := by
  have pend : (s.setPst cls inst stOff).pendOn cls inst = false := (regB_setF_other s _ _ (by decide)).trans h
  simp [State.stopDone, pend]

theorem pendOn_congr {s t : State} {cls inst : Nat} (h : t.reg (rg cls inst 0xC) = s.reg (rg cls inst 0xC)) :
    t.pendOn cls inst = s.pendOn cls inst := by
  rw [State.pendOn, State.regB, h]
  rfl

/-! ### STATE of a pitch (R561, R567) -/

theorem aPt2_ne (p : Nat) {off off' : Nat} (h : off ≠ off') : aPt2 p off ≠ aPt2 p off' := fun e => h (Nat.add_left_cancel e)

theorem pitch_stateWord {p : Nat} (hp : p < 252) : StateWord (aPt2 p 0xC) := by
  have addr : aPt2 p 0xC = 0x100000 + 0x1000 * p + 0xC := rfl
  constructor
  all_goals omega

section
variable {x : Nat} (hx : StateWord x)
include hx

theorem pitchSync_stateWord (s : State) (p : Nat) : RegKept x s (s.pitchSync p) := by
  unfold State.pitchSync
  exact .after (RegKept.setReg (hx.ne_global (a := 0x204) (by decide)) _)
    (.after (RegKept.setReg (hx.ne_reach (p / 4) 0x300) _) (RegKept.setReg (hx.ne_reach (p / 4) 0x300) _))

theorem setDeadReach_stateWord (s : State) (rch : Nat) : RegKept x s (s.setDeadReach rch) := by
  have entry : ∀ i, x ≠ aDead rch i := fun i => hx.ne_above (by
    show 0x2C0000 ≤ 0x900000 + 0x1000 * rch + 0x460 + 4 * i
    omega)
  unfold State.setDeadReach State.writeDead
  exact .after (RegKept.setReg (hx.ne_reach rch 0x404) _) (.after (RegKept.setReg (hx.ne_reach rch 0x404) _)
    (.foldl (fun _ i => RegKept.setReg (entry i) _) _ _))

theorem absentSync_stateWord (s : State) (l : List Nat) : RegKept x s (s.absentSync l) :=
  .foldl (fun _ r => RegKept.setReg (hx.ne_reach r 0x404) _) l s

theorem countPresent_stateWord (s : State) (k : Nat) : RegKept x s (s.countPresent k) := by
  unfold State.countPresent
  refine .after (RegKept.setReg (hx.ne_global (a := 0x204) (by decide)) _)
    (.after (.ite (RegKept.setReg (hx.ne_global (a := 0x10C) (by decide)) _) .refl) ?_)
  exact .after (RegKept.setReg (hx.ne_reach _ _) _) (RegKept.setReg (hx.ne_reach _ 0x100) _)

/-- The Core Map Table lies above the pages, and the counts of its holes in the pages of the reaches and the global page. -/
theorem pitchPresent_stateWord (s : State) (p : Nat) : RegKept x s (s.pitchPresent p) := by
  have entry : ∀ k, x ≠ aCmtK k := fun k => hx.ne_above (by
    unfold aCmtK aCmt
    omega)
  unfold State.pitchPresent
  extract_lets -merge -underBinder ks entered src
  have enters : RegKept x s entered := by
    refine .foldl (fun t k => ?_) ks s
    have entries : ∀ v w, RegKept x t ((t.setF (aCmtK k) 4 3 v).setF (aCmtK k) 12 4 w) := fun _ _ =>
      .after (RegKept.setReg (entry k) _) (RegKept.setReg (entry k) _)
    split
    · exact entries _ _
    · exact .after (countPresent_stateWord hx _ k) (entries 0 0)
  have changes : RegKept x entered src := RegKept.setReg (hx.ne_global (a := 0x208) (by decide)) _
  exact .ite .refl (.after (RegKept.ofRegs (s := src) rfl) (.after changes enters))

end

/-- The state of a pitch stands. -/
abbrev PitchKept (p : Nat) (s t : State) : Prop := Same (State.pst · clsPitch p) s t

theorem PitchKept.ofWord {p : Nat} {s t : State} (h : RegKept (aPt2 p 0xC) s t) : PitchKept p s t := ⟨pst_congr h.on⟩

section
variable {p : Nat} (hp : p < 252)
include hp

/-- The rejoin check sets a mark beside the STATE field, makes a record, and holds contexts (R393). -/
theorem rejoin_pitch (s : State) : PitchKept p s (s.rejoin p) := by
  have word := pitch_stateWord hp
  have marked : ∀ (t : State) v, PitchKept p t (t.setF (aPt2 p 0xC) 5 1 v) := fun t v => ⟨regF_setF_other t _ v (by decide)⟩
  have ctx : ∀ (t : State) l, ∀ c ∈ t.ownersOf l, c ≤ 16 := fun t l c hc => Nat.le_of_lt_succ (List.mem_range.1 (List.mem_filter.1 hc).1)
  unfold State.rejoin
  extract_lets -merge -underBinder stale wiped own logged told
  have wipes : PitchKept p s wiped := .after (marked (s.wipeRills stale) 1) (PitchKept.ofWord (RegKept.ofRegs rfl))
  have logs : PitchKept p s logged := .after (PitchKept.ofWord (cairnLog_stateWord word wiped _ _ _ _ _ _)) wipes
  have tells : PitchKept p s told := .ite logs (.after (marked logged 0) logs)
  exact .ite wipes (.after (PitchKept.ofWord (holdFor_stateWord word _ (ctx _ _) _ _ _ _)) ⟨tells.on⟩)

theorem pitchJoin_pitch (s : State) : PitchKept p s (s.pitchJoin p) := by
  have word := pitch_stateWord hp
  have present : ∀ t : State, t.regs = s.regs → PitchKept p s (t.pitchPresent p) := fun t h =>
    .after (PitchKept.ofWord (pitchPresent_stateWord word t p)) (PitchKept.ofWord (RegKept.ofRegs h))
  unfold State.pitchJoin
  extract_lets -merge -underBinder rejoined powered
  have rejoins : PitchKept p s powered :=
    .after (PitchKept.ofWord (RegKept.ofRegs (s := rejoined) rfl)) (.after (rejoin_pitch hp _) (present _ rfl))
  exact .after (PitchKept.ofWord (absentSync_stateWord word _ _)) (.after (PitchKept.ofWord (pitchSync_stateWord word _ p))
    (.after (PitchKept.ofWord (setDeadReach_stateWord word powered _)) rejoins))

omit hp in
/-- Its rail is powered once a pitch has joined (R412). -/
theorem pitchJoin_unpowered (s : State) : p ∉ (s.pitchJoin p).unpowered := by
  have shown : ∀ t : State, (((t.setDeadReach (p / 4)).pitchSync p).absentSync (pitchNear p)).unpowered = t.unpowered := fun t =>
    Eq.trans ((State.absentSync_kept _ _).get 78) (Eq.trans ((State.pitchSync_kept _ p).get 78) ((State.setDeadReach_kept t _).get 78))
  unfold State.pitchJoin
  rw [shown]
  exact not_mem_rem _ p

omit hp in
/-- Where no context is held for a pitch, a pitch that joins holds none. -/
theorem pitchJoin_pitchHeld {s : State} (held : s.pitchHeld = []) : (s.pitchJoin p).pitchHeld = [] := by
  have shown : ∀ t : State, (((t.setDeadReach (p / 4)).pitchSync p).absentSync (pitchNear p)).pitchHeld = t.pitchHeld := fun t =>
    Eq.trans ((State.absentSync_kept _ _).get 76) (Eq.trans ((State.pitchSync_kept _ p).get 76) ((State.setDeadReach_kept t _).get 76))
  have present : ∀ t : State, t.pitchHeld = [] → (t.pitchPresent p).pitchHeld = [] := fun t ht => Eq.trans ((State.pitchPresent_kept t p).get 76) ht
  have rejoined : ∀ t : State, t.pitchHeld = [] → (t.rejoin p).pitchHeld = [] := fun t ht => by
    unfold State.rejoin
    extract_lets -merge -underBinder stale wiped own logged told
    have logs : logged.pitchHeld = [] := Eq.trans ((State.cairnLog_kept wiped ..).get 76) ht
    have tells : told.pitchHeld = [] := (apply_ite State.pitchHeld _ _ _).trans (by rw [State.setB_pitchHeld, ite_self, logs])
    split
    · exact ht
    · refine holdFor_pitchHeld ?_ own [] own false cStaleEpoch
      exact tells
  unfold State.pitchJoin
  extract_lets -merge -underBinder rejoins powered
  have joined : rejoins.pitchHeld = [] := rejoined _ (present _ held)
  exact (shown powered).trans joined

end

/-! ### Isolation and the e-fuse (R415, R416) -/

theorem execPitchIsolate_notYetGood {s : State} {p : Nat} (never : s.regB (aPt2 p 0x104) 3 = false) (peak now : Nat) :
    execPitchIsolate p 2 peak now s = .next s := by
  rw [execPitchIsolate]
  exact onUnit_stays s _ (by simp [never])

section
variable {s : State} {p : Nat} (hp : p < 252)
include hp

theorem execPitchIsolate_trips {cause : Nat} (isolates : cause = 1 ∨ cause = 3 ∨ cause = 5) (serves : s.pst clsPitch p ≠ stIsolated) (peak now : Nat) :
    execPitchIsolate p cause peak now s = .next ((s.atTime now).pitchTrip p cause peak) := by
  rw [execPitchIsolate]
  refine onUnit_next s _ (decide_eq_true hp) (Bool.and_eq_true_iff.2 ⟨?_, bne_iff_ne.2 serves⟩)
  rcases isolates with rfl | rfl | rfl
  · rfl
  · simp
  · simp

theorem execEfuseClear_clears {current : Nat} (isolated : s.pst clsPitch p = stIsolated) (flows : 100 < current)
    (fuse : s.regB (aPt2 p 0x104) 1 = true) (cause : s.regF (aPt2 p 0x104) 4 4 ∈ [1, 2, 3, 5]) :
    execEfuseClear p current s = .next ((s.setB (aPt2 p 0x104) 1 false).setF (aPt2 p 0x104) 4 4 4) := by
  rw [execEfuseClear]
  refine onUnit_next s _ (decide_eq_true hp) ?_
  rw [isolated, fuse, decide_eq_true flows, List.contains_iff_mem.2 cause]
  rfl

end

/-! ### The rail test (R417) -/

/-- A rail that does not reach 400 mV: FAULT_CAUSE 7, and one failure more. -/
def State.railFailed (s : State) (p : Nat) : State :=
  ({ s with railTest := rem s.railTest p }.setF (aPt2 p 0x104) 4 4 7).incSat (aPt2 p 0x118)

theorem execPitchRailTestDone_of {s : State} {p : Nat} (hp : p < 252) (tests : p ∈ s.railTest) (mv : Nat) :
    execPitchRailTestDone p mv s = .next (if 400 ≤ mv then
      (({ s with railTest := rem s.railTest p }.enReqOn clsPitch p (fun s => s.pitchBegin p)).retSync p).pitchSync p else s.railFailed p) :=
  onUnit_next s _ (decide_eq_true hp) (List.contains_iff_mem.2 tests)

section
variable (s : State) (p : Nat)

theorem railFailed_cause : (s.railFailed p).regF (aPt2 p 0x104) 4 4 = 7 := by
  unfold State.railFailed State.regF
  rw [incSat_other _ (aPt2_ne p (by decide))]
  exact regF_setF _ _ (by decide) (by decide)

theorem railFailed_pst : (s.railFailed p).pst clsPitch p = s.pst clsPitch p :=
  pst_congr ((incSat_other _ (aPt2_ne p (by decide))).trans (reg_setF_other _ _ _ _ (aPt2_ne p (by decide))))

theorem railFailed_count : (s.railFailed p).regN (aPt2 p 0x118) = min 0xFFFFFFFF (s.regN (aPt2 p 0x118) + 1) := by
  rw [State.railFailed, regN_incSat, State.regN, reg_setF_other _ _ _ _ (aPt2_ne p (by decide))]
  rfl

theorem railFailed_railTest : (s.railFailed p).railTest = rem s.railTest p :=
  (State.incSat_kept _ _).get 77

end

/-! ### The end of a start (R412) -/

/-- A rill that is in use works again. -/
def State.rillWorks (s : State) (k : Nat) : State :=
  match look? s.rills k with
  | some r => s.setRill k { r with failed := false }
  | none => s

theorem rillWorks_kept (s : State) (k : Nat) : Kept (2 ^ 13) s (s.rillWorks k) := by
  unfold State.rillWorks
  split
  · exact State.setRill_kept ..
  · exact .here

/-- Power is good: what a start leaves before the page is ON (R412). -/
def State.railGood (s : State) (p now : Nat) : State :=
  let s := { s.atTime now with pitchRun := del (s.atTime now).pitchRun p }
  (pitchRills p).foldl State.rillWorks (((s.setB (aPt2 p 0x104) 3 true).setF (aPt2 p 0x104) 4 4 0).incWrap (aPt2 p 0x024))

/-- The clock, registers, rills, and the pitches that start or stop. -/
theorem railGood_kept (s : State) (p now : Nat) : Kept (2 ^ 1 + 2 ^ 2 + 2 ^ 13 + 2 ^ 75) s (s.railGood p now) :=
  Kept.foldl _ (fun t h k => Kept.step (rillWorks_kept t k) rfl h)
    (Kept.step (State.incWrap_kept ..) rfl (Kept.step (State.setF_kept ..) rfl (Kept.step (State.setB_kept ..) rfl
      (Kept.upd_pitchRun rfl (Kept.step (State.atTime_kept ..) rfl .here)))))

theorem railGood_pitchRun (s : State) (p now : Nat) : look? (s.railGood p now).pitchRun p = none := by
  have gone : (s.railGood p now).pitchRun = del (s.atTime now).pitchRun p :=
    foldl_keeps State.pitchRun State.rillWorks (fun t k => (rillWorks_kept t k).get 75) _ _
  rw [gone, look?_del_same]

theorem railGood_state (s : State) (p now : Nat) : (s.railGood p now).reg (aPt2 p 0xC) = s.reg (aPt2 p 0xC) := by
  refine (foldl_keeps (State.reg · (aPt2 p 0xC)) State.rillWorks (fun t k => (RegKept.ofKept (rillWorks_kept t k)).on) _ _).trans ?_
  rw [State.incWrap, State.setRegN, State.reg_setReg_other _ _ (aPt2_ne p (by decide)), reg_setF_other _ _ _ _ (aPt2_ne p (by decide)),
    reg_setB_other _ _ _ (aPt2_ne p (by decide))]
  exact atTime_reg s now _

section
variable {s : State} {p now b : Nat} (hp : p < 252) (running : look? s.pitchRun p = some b)
include hp running

section
variable (starting : s.pst clsPitch p = stStarting)
include starting

theorem execPitchStartDone_on (fw : s.fwRuns = true) (admitted : inWindow now b 80000 = false) (good : inWindow now b 1000000 = true)
    (stays : s.pendOff clsPitch p = false) :
    execPitchStartDone p now s = .next (((s.railGood p now).setPst clsPitch p stOn).pitchJoin p).pitchResume := by
  have pend : (s.railGood p now).pendOff clsPitch p = false := (pendOff_congr (railGood_state s p now)).trans stays
  have runs : ((s.railGood p now).setPst clsPitch p stOn).fwRuns = true := Eq.trans ((railGood_kept s p now).get 87) fw
  simp only [execPitchStartDone, running]
  refine (onUnit_next s _ (decide_eq_true hp) (by simp [starting, admitted, good])).trans (congrArg Host.Outcome.next ?_)
  show (if ((s.railGood p now).startDone clsPitch p (fun s => s.pitchBegin p)).fwRuns = true then
    ((s.railGood p now).startDone clsPitch p (fun s => s.pitchBegin p)).pitchJoin p |>.pitchResume else _) = _
  rw [startDone_on pend, if_pos runs]

theorem execPitchPowerGoodTimeout_trips (late : inWindow now b 1000000 = false) :
    execPitchPowerGoodTimeout p now s = .next ((s.atTime now).draw64.2.pitchTrip p 5 ((s.atTime now).draw64.1.toNat % 2 ^ 32)) := by
  simp only [execPitchPowerGoodTimeout, running]
  exact onUnit_next s _ (decide_eq_true hp) (by simp [starting, late])

end

omit hp in
/-- Until 50 µs after the boundary neither a start nor a stop ends. -/
theorem pitch_tooSoon (soon : inWindow now b 50000 = true) : execPitchStopDone p now s = .next s ∧ execPitchStartDone p now s = .next s ∧
    execPitchPowerGoodTimeout p now s = .next s := by
  have start := inWindow_mono (n := 80000) (by decide) soon
  have good := inWindow_mono (n := 1000000) (by decide) soon
  simp only [execPitchStopDone, execPitchStartDone, execPitchPowerGoodTimeout, running]
  exact ⟨onUnit_stays s _ (by simp [soon]), onUnit_stays s _ (by simp [start]), onUnit_stays s _ (by simp [good])⟩

end

/-! ### The end of a stop (R413) -/

/-- The load switch is open, and retention holds the rail if RET_EN is 1 (R409, R413). -/
def State.switchOpen (s : State) (p now : Nat) : State :=
  let ret := s.regB (aPt2 p 0x100) 8
  let s := s.atTime now
  let s := { s with pitchRun := del s.pitchRun p, unpowered := if ret then rem s.unpowered p else ins s.unpowered p }
  (s.setB (aPt2 p 0x104) 0 false).setB (aPt2 p 0x104) 2 ret

theorem switchOpen_state (s : State) (p now : Nat) : (s.switchOpen p now).reg (aPt2 p 0xC) = s.reg (aPt2 p 0xC) := by
  rw [State.switchOpen, reg_setB_other _ _ _ (aPt2_ne p (by decide)), reg_setB_other _ _ _ (aPt2_ne p (by decide))]
  exact atTime_reg s now _

theorem switchOpen_kept (s : State) (p now : Nat) : Kept (2 ^ 1 + 2 ^ 2 + 2 ^ 75 + 2 ^ 78) s (s.switchOpen p now) :=
  Kept.step (State.setB_kept ..) rfl (Kept.step (State.setB_kept ..) rfl
    (Kept.upd_pitchRun_unpowered (s := s.atTime now) rfl (Kept.step (State.atTime_kept ..) rfl .here)))

theorem switchOpen_pitchRun (s : State) (p now : Nat) : look? (s.switchOpen p now).pitchRun p = none := by
  rw [State.switchOpen, State.setB_pitchRun, State.setB_pitchRun, look?_del_same]

theorem switchOpen_unpowered (s : State) (p now : Nat) : p ∈ (s.switchOpen p now).unpowered ↔ s.regB (aPt2 p 0x100) 8 = false := by
  show p ∈ (if s.regB (aPt2 p 0x100) 8 then rem (s.atTime now).unpowered p else ins (s.atTime now).unpowered p) ↔ _
  cases s.regB (aPt2 p 0x100) 8 with
  | true => simp [not_mem_rem]
  | false => simp [mem_ins_self]

/-- A stop that ends leaves its pitch OFF, its rail as RET_EN says, and every rill (R413). -/
theorem pitchStopped_leaves {p : Nat} (hp : p < 252) (s : State) (now : Nat) {t : State}
    (ht : ((s.switchOpen p now).setPst clsPitch p stOff).pitchSync p = t := by rfl) :
    t.pst clsPitch p = stOff ∧ look? t.pitchRun p = none ∧ (p ∈ t.unpowered ↔ s.regB (aPt2 p 0x100) 8 = false) ∧
      t.rills = s.rills ∧ t.pitchHeld = s.pitchHeld := by
  have opened := switchOpen_kept s p now
  have synced : Kept 4 (s.switchOpen p now) t := ht ▸ Kept.step (State.pitchSync_kept ..) rfl (State.setF_kept ..)
  have run : t.pitchRun = (s.switchOpen p now).pitchRun := synced.get 75
  have unpowered : t.unpowered = (s.switchOpen p now).unpowered := synced.get 78
  refine ⟨?_, run ▸ switchOpen_pitchRun s p now, unpowered ▸ switchOpen_unpowered s p now,
    Eq.trans (synced.get 13) (opened.get 13), Eq.trans (synced.get 76) (opened.get 76)⟩
  subst ht
  exact (PitchKept.ofWord (pitchSync_stateWord (pitch_stateWord hp) _ p)).on.trans (pst_setPst _ _ _ (by decide))

theorem execPitchStopDone_off {s : State} {p now b : Nat} (hp : p < 252) (running : look? s.pitchRun p = some b)
    (stopping : s.pst clsPitch p = stStopping) (admitted : inWindow now b 50000 = false) (stays : s.pendOn clsPitch p = false) :
    execPitchStopDone p now s = .next (((s.switchOpen p now).setPst clsPitch p stOff).pitchSync p).pitchResume := by
  have pend : (s.switchOpen p now).pendOn clsPitch p = false := (pendOn_congr (switchOpen_state s p now)).trans stays
  simp only [execPitchStopDone, running]
  refine (onUnit_next s _ (decide_eq_true hp) (by simp [stopping, admitted])).trans (congrArg Host.Outcome.next ?_)
  show (((s.switchOpen p now).stopDone clsPitch p (fun s => s.pitchBegin p)).pitchSync p).pitchResume = _
  rw [stopDone_off pend]

/-- Settles O48: isolation, throttling and rail tests by their guards; what the end of a start leaves of its pitch is what the rejoin check
and its holds do not touch, and the end of a stop changes no rill. -/
theorem pitches : Obligations.Pitches := by
  unfold Obligations.Pitches
  simp only [exec_pitchIsolate, exec_efuseClear, exec_pitchThermalThrottle, exec_pitchThermalRecover, exec_pitchRailTestDone,
    exec_pitchStartDone, exec_pitchPowerGoodTimeout, exec_pitchStopDone]
  refine ⟨?isolates, ?underVoltage, ?efuse, ?throttles, ?recovers, ?between, ?railGood, ?railFails, ?starts, ?timeout, ?stops, ?soon⟩
  case isolates => exact fun s p now cause peak hp isolates serves => execPitchIsolate_trips hp isolates serves peak now
  case underVoltage => exact fun s p now peak _ never => execPitchIsolate_notYetGood never peak now
  case efuse =>
    intro s p current hp isolated flows fuse cause
    refine ⟨_, execEfuseClear_clears hp isolated flows fuse cause, ?_, regF_setF _ _ (by decide) (by decide), fun a ha => ?_⟩
    · exact (regB_setF_other _ _ _ (by decide)).trans (regB_setB s _ false (by decide))
    · exact (reg_setF_other _ _ _ _ ha).trans (reg_setB_other s _ _ ha)
  case throttles => exact fun s p temp hp hot cool on => onUnit_next s _ (decide_eq_true hp) (by simp [hot, cool, on])
  case recovers => exact fun s p temp hp cool hot => onUnit_next s _ (decide_eq_true hp) (by simp [cool, hot])
  case between =>
    exact fun s p temp hp lo hi => ⟨onUnit_stays s _ (by simp [Nat.not_lt.2 lo]), onUnit_stays s _ (by simp [Nat.not_le.2 hi])⟩
  case railGood => exact fun s p mv hp tests good => (execPitchRailTestDone_of hp tests mv).trans (congrArg Host.Outcome.next (if_pos good))
  case railFails =>
    intro s p mv hp tests low
    have row := (execPitchRailTestDone_of hp tests mv).trans (congrArg Host.Outcome.next (if_neg (Nat.not_le.2 low)))
    exact ⟨_, row, railFailed_cause s p, railFailed_pst s p, railFailed_count s p, railFailed_railTest s p⟩
  case starts =>
    intro s p now b hp running starting fw admitted good stays held
    have row := execPitchStartDone_on hp running starting fw admitted good stays
    have noneHeld : ((s.railGood p now).setPst clsPitch p stOn).pitchHeld = [] := Eq.trans ((railGood_kept s p now).get 76) held
    rw [pitchResume_none (pitchJoin_pitchHeld noneHeld)] at row
    refine ⟨_, row, (pitchJoin_pitch hp _).on.trans (pst_setPst _ _ _ (by decide)), ?_, pitchJoin_unpowered _⟩
    have run : (((s.railGood p now).setPst clsPitch p stOn).pitchJoin p).pitchRun = (s.railGood p now).pitchRun := (State.pitchJoin_kept _ p).get 75
    rw [run, railGood_pitchRun]
  case timeout => exact fun s p now b hp running starting late => ⟨_, execPitchPowerGoodTimeout_trips hp running starting late⟩
  case stops =>
    intro s p now b hp running stopping admitted stays held
    have row := execPitchStopDone_off hp running stopping admitted stays
    obtain ⟨state, run, unpowered, rills, pitchHeld⟩ := pitchStopped_leaves hp s now
    rw [pitchResume_none (pitchHeld.trans held)] at row
    exact ⟨_, row, state, run, unpowered, rills⟩
  case soon => exact fun s p now b _ running soon => pitch_tooSoon running soon

end Sys2Proof.Machine
end

section
/-! Time under every command but the power-on and those that may step Site Time (R119, R437 to R442): O6. -/

namespace Sys2Proof.Machine

/-- The power-on and the commands that may step Site Time (R440 to R442; log 87). -/
inductive MayStepTime : Instr → Prop where
  | inputStageClose (now mv : Nat) : MayStepTime (.inputStageClose now mv)
  | ptpSync (domain now : Nat) (offset : Int) : MayStepTime (.ptpSync domain now offset)
  | ppsEdge (now : Nat) (ref10 : Bool) : MayStepTime (.ppsEdge now ref10)
  | stCtlWrite (value : W32) : MayStepTime (.stCtlWrite value)
  | reacquire : MayStepTime .reacquire
  | registerWrite (fn off : Nat) (bytes : List Byte) (tlp : Tlp) : MayStepTime (.registerWrite fn off bytes tlp)

/-- The mask that lifts every field but the queue; it does not lift the clocks' running forward. -/
abbrev anyFieldForward : Nat := 2 ^ 130 - 2

/-- Every other command moves its clocks forward if at all: its own frame lemma says so. -/
theorem exec_forward (s : State) (c : Instr) (h : ¬ MayStepTime c) : KeptR anyFieldForward s (exec c s) := by
  cases c with
  | add a => exact KeptR.grow rfl (execAdd_kept a s)
  | sub a => exact KeptR.grow rfl (execSub_kept a s)
  | and a => exact KeptR.grow rfl (execAnd_kept a s)
  | or a => exact KeptR.grow rfl (execOr_kept a s)
  | xor a => exact KeptR.grow rfl (execXor_kept a s)
  | shl a => exact KeptR.grow rfl (execShl_kept a s)
  | shr a => exact KeptR.grow rfl (execShr_kept a s)
  | sra a => exact KeptR.grow rfl (execSra_kept a s)
  | mul a => exact KeptR.grow rfl (execMul_kept a s)
  | mulhu a => exact KeptR.grow rfl (execMulhu_kept a s)
  | cmpeq a => exact KeptR.grow rfl (execCmpeq_kept a s)
  | cmplt a => exact KeptR.grow rfl (execCmplt_kept a s)
  | cmpltu a => exact KeptR.grow rfl (execCmpltu_kept a s)
  | addi a => exact KeptR.grow rfl (execAddi_kept a s)
  | andi a => exact KeptR.grow rfl (execAndi_kept a s)
  | ori a => exact KeptR.grow rfl (execOri_kept a s)
  | xori a => exact KeptR.grow rfl (execXori_kept a s)
  | shli a => exact KeptR.grow rfl (execShli_kept a s)
  | shri a => exact KeptR.grow rfl (execShri_kept a s)
  | movi a => exact KeptR.grow rfl (execMovi_kept a s)
  | movhi a => exact KeptR.grow rfl (execMovhi_kept a s)
  | ld8 a => exact KeptR.grow rfl (execLd8_kept a s)
  | ld32 a => exact KeptR.grow rfl (execLd32_kept a s)
  | ld64 a => exact KeptR.grow rfl (execLd64_kept a s)
  | st8 a => exact KeptR.grow rfl (execSt8_kept a s)
  | st32 a => exact KeptR.grow rfl (execSt32_kept a s)
  | st64 a => exact KeptR.grow rfl (execSt64_kept a s)
  | ldp64 a => exact KeptR.grow rfl (execLdp64_kept a s)
  | stp64 a => exact KeptR.grow rfl (execStp64_kept a s)
  | amoadd a => exact KeptR.grow rfl (execAmoadd_kept a s)
  | amoswap a => exact KeptR.grow rfl (execAmoswap_kept a s)
  | j a => exact KeptR.grow rfl (execJ_kept a s)
  | jr a => exact KeptR.grow rfl (execJr_kept a s)
  | call a => exact KeptR.grow rfl (execCall_kept a s)
  | beq a => exact KeptR.grow rfl (execBeq_kept a s)
  | bne a => exact KeptR.grow rfl (execBne_kept a s)
  | blt a => exact KeptR.grow rfl (execBlt_kept a s)
  | bltu a => exact KeptR.grow rfl (execBltu_kept a s)
  | spawn a => exact KeptR.grow rfl (execSpawn_kept a s)
  | exit a => exact KeptR.grow rfl (execExit_kept a s)
  | exitComplete a => exact KeptR.grow rfl (execExitComplete_kept a s)
  | yieldOp a => exact KeptR.grow rfl (execYield_kept a s)
  | yieldExpiry a cyc => exact KeptR.grow rfl (execYieldExpiry_kept a cyc s)
  | waitev a => exact KeptR.grow rfl (execWaitev_kept a s)
  | signal a => exact KeptR.grow rfl (execSignal_kept a s)
  | tclaim a => exact KeptR.grow rfl (execTclaim_kept a s)
  | tfree a => exact KeptR.grow rfl (execTfree_kept a s)
  | fence a => exact KeptR.grow rfl (execFence_kept a s)
  | slotWake a => exact KeptR.grow rfl (execSlotWake_kept a s)
  | tld a => exact KeptR.grow rfl (execTld_kept a s)
  | tst a => exact KeptR.grow rfl (execTst_kept a s)
  | tzero a => exact KeptR.grow rfl (execTzero_kept a s)
  | tmma a => exact KeptR.grow rfl (execTmma_kept a s)
  | tmmas a => exact KeptR.grow rfl (execTmmas_kept a s)
  | tcvt a => exact KeptR.grow rfl (execTcvt_kept a s)
  | vadd a => exact KeptR.grow rfl (execVadd_kept a s)
  | vmul a => exact KeptR.grow rfl (execVmul_kept a s)
  | vmax a => exact KeptR.grow rfl (execVmax_kept a s)
  | vfma a => exact KeptR.grow rfl (execVfma_kept a s)
  | vexp2 a => exact KeptR.grow rfl (execVexp2_kept a s)
  | vrcp a => exact KeptR.grow rfl (execVrcp_kept a s)
  | vrsqrt a => exact KeptR.grow rfl (execVrsqrt_kept a s)
  | vredadd a => exact KeptR.grow rfl (execVredadd_kept a s)
  | vredmax a => exact KeptR.grow rfl (execVredmax_kept a s)
  | vbcast a => exact KeptR.grow rfl (execVbcast_kept a s)
  | unitOpComplete p u slot check now => exact KeptR.grow rfl (execUnitOpComplete_kept p u slot check now s)
  | sarm a => exact KeptR.grow rfl (execSarm_kept a s)
  | srearm a => exact KeptR.grow rfl (execSrearm_kept a s)
  | sstop a => exact KeptR.grow rfl (execSstop_kept a s)
  | racq a => exact KeptR.grow rfl (execRacq_kept a s)
  | rrel a => exact KeptR.grow rfl (execRrel_kept a s)
  | send a => exact KeptR.grow rfl (execSend_kept a s)
  | recv a => exact KeptR.grow rfl (execRecv_kept a s)
  | mfree a => exact KeptR.grow rfl (execMfree_kept a s)
  | csrr a => exact KeptR.grow rfl (execCsrr_kept a s)
  | csrw a => exact KeptR.grow rfl (execCsrw_kept a s)
  | trap a => exact KeptR.grow rfl (execTrap_kept a s)
  | nop a => exact KeptR.grow rfl (execNop_kept a s)
  | taskWdExpiry a cyc => exact KeptR.grow rfl (execTaskWdExpiry_kept a cyc s)
  | rillWdExpiry p => exact KeptR.grow rfl (execRillWdExpiry_kept p s)
  | write n => exact KeptR.grow rfl (execWrite_kept n s)
  | read n => exact KeptR.grow rfl (execRead_kept n s)
  | readData n => exact KeptR.grow rfl (execReadData_kept n s)
  | ack n => exact KeptR.grow rfl (execAck_kept n s)
  | msg n => exact KeptR.grow rfl (execMsg_kept n s)
  | msgRingEntry p => exact KeptR.grow rfl (execMsgRingEntry_kept p s)
  | poolRead n => exact KeptR.grow rfl (execPoolRead_kept n s)
  | poolWrite n => exact KeptR.grow rfl (execPoolWrite_kept n s)
  | holePacketArrival n => exact KeptR.grow rfl (execHolePacketArrival_kept n s)
  | packetAgeDiscard n router cyc => exact KeptR.grow rfl (execPacketAgeDiscard_kept n router cyc s)
  | flitEccError n router err now => exact KeptR.grow rfl (execFlitEccError_kept n router err now s)
  | memoryUncorrError p pool line now => exact KeptR.grow rfl (execMemoryUncorrError_kept p pool line now s)
  | spush n => exact KeptR.grow rfl (execSpush_kept n s)
  | sdata n => exact KeptR.grow rfl (execSdata_kept n s)
  | scredit n => exact KeptR.grow rfl (execScredit_kept n s)
  | hwConfirm n => exact KeptR.grow rfl (execHwConfirm_kept n s)
  | ezConfirm n => exact KeptR.grow rfl (execEzConfirm_kept n s)
  | streamStartDone p q => exact KeptR.grow rfl (execStreamStartDone_kept p q s)
  | streamStopDone p q => exact KeptR.grow rfl (execStreamStopDone_kept p q s)
  | streamTileIssue p q => exact KeptR.grow rfl (execStreamTileIssue_kept p q s)
  | streamOutInject p q => exact KeptR.grow rfl (execStreamOutInject_kept p q s)
  | sread n => exact KeptR.grow rfl (execSread_kept n s)
  | swrite n => exact KeptR.grow rfl (execSwrite_kept n s)
  | sfill n => exact KeptR.grow rfl (execSfill_kept n s)
  | sdrain n => exact KeptR.grow rfl (execSdrain_kept n s)
  | stackAccessComplete n corrected => exact KeptR.grow rfl (execStackAccessComplete_kept n corrected s)
  | translationWalkDone n corrected => exact KeptR.grow rfl (execTranslationWalkDone_kept n corrected s)
  | hwOpen n => exact KeptR.grow rfl (execHwOpen_kept n s)
  | hwClose n => exact KeptR.grow rfl (execHwClose_kept n s)
  | hwRearm n => exact KeptR.grow rfl (execHwRearm_kept n s)
  | hwSend n => exact KeptR.grow rfl (execHwSend_kept n s)
  | fetchIssue port slot => exact KeptR.grow rfl (execFetchIssue_kept port slot s)
  | data port d => exact KeptR.grow rfl (execData_kept port d s)
  | endMsg port d => exact KeptR.grow rfl (execEndMsg_kept port d s)
  | gradAck port d => exact KeptR.grow rfl (execGradAck_kept port d s)
  | fetchRetryTimeout port slot now => exact KeptR.grow rfl (execFetchRetryTimeout_kept port slot now s)
  | gradRetryTimeout n now => exact KeptR.grow rfl (execGradRetryTimeout_kept n now s)
  | neighbourDiscovery port body => exact KeptR.grow rfl (execNeighbourDiscovery_kept port body s)
  | echoRequest port body => exact KeptR.grow rfl (execEchoRequest_kept port body s)
  | pfcPause port prio pause => exact KeptR.grow rfl (execPfcPause_kept port prio pause s)
  | headwaterLinkDown port now => exact KeptR.grow rfl (execHeadwaterLinkDown_kept port now s)
  | headwaterPortUp port now => exact KeptR.grow rfl (execHeadwaterPortUp_kept port now s)
  | hostFetchReadDone slot frame => exact KeptR.grow rfl (execHostFetchReadDone_kept slot frame s)
  | hostGradWriteDone n => exact KeptR.grow rfl (execHostGradWriteDone_kept n s)
  | bind ctx slot => exact KeptR.grow rfl (execBind_kept ctx slot s)
  | bindDone ctx slot => exact KeptR.grow rfl (execBindDone_kept ctx slot s)
  | frontGo ctx => exact KeptR.grow rfl (execFrontGo_kept ctx s)
  | layerRebind ctx now => exact KeptR.grow rfl (execLayerRebind_kept ctx now s)
  | ezOpen n => exact KeptR.grow rfl (execEzOpen_kept n s)
  | ezClose n => exact KeptR.grow rfl (execEzClose_kept n s)
  | ezRearm n => exact KeptR.grow rfl (execEzRearm_kept n s)
  | ezContrib n check => exact KeptR.grow rfl (execEzContrib_kept n check s)
  | ezSend n => exact KeptR.grow rfl (execEzSend_kept n s)
  | opAdmit ctx now => exact KeptR.grow rfl (execOpAdmit_kept ctx now s)
  | slotReservationGrant now => exact KeptR.grow rfl (execSlotReservationGrant_kept now s)
  | reduceFallback ctx opn now => exact KeptR.grow rfl (execReduceFallback_kept ctx opn now s)
  | codewordReceive link lanes => exact KeptR.grow rfl (execCodewordReceive_kept link lanes s)
  | idle link => exact KeptR.grow rfl (execIdle_kept link s)
  | ackCredit link => exact KeptR.grow rfl (execAckCredit_kept link s)
  | nak link => exact KeptR.grow rfl (execNak_kept link s)
  | train link f => exact KeptR.grow rfl (execTrain_kept link f s)
  | linkTrainingDone link now => exact KeptR.grow rfl (execLinkTrainingDone_kept link now s)
  | linkTrainingTimeout link step now => exact KeptR.grow rfl (execLinkTrainingTimeout_kept link step now s)
  | linkStopDone link => exact KeptR.grow rfl (execLinkStopDone_kept link s)
  | grant n => exact KeptR.grow rfl (execGrant_kept n s)
  | chunk n check => exact KeptR.grow rfl (execChunk_kept n check s)
  | count n => exact KeptR.grow rfl (execCount_kept n s)
  | abort n => exact KeptR.grow rfl (execAbort_kept n s)
  | p2p n => exact KeptR.grow rfl (execP2p_kept n s)
  | p2pGrant n => exact KeptR.grow rfl (execP2pGrant_kept n s)
  | bcastStart n => exact KeptR.grow rfl (execBcastStart_kept n s)
  | bcastOpen n => exact KeptR.grow rfl (execBcastOpen_kept n s)
  | bcastAbort n => exact KeptR.grow rfl (execBcastAbort_kept n s)
  | bcastAck n => exact KeptR.grow rfl (execBcastAck_kept n s)
  | bcastTimeout job now => exact KeptR.grow rfl (execBcastTimeout_kept job now s)
  | jobTStart job now => exact KeptR.grow rfl (execJobTStart_kept job now s)
  | digest n => exact KeptR.grow rfl (execDigest_kept n s)
  | cbar n => exact KeptR.grow rfl (execCbar_kept n s)
  | wirePacketForward n => exact KeptR.grow rfl (execWirePacketForward_kept n s)
  | keyRetentionExpiry now => exact KeptR.grow rfl (execKeyRetentionExpiry_kept now s)
  | collMemberLost ctx opn now => exact KeptR.grow rfl (execCollMemberLost_kept ctx opn now s)
  | twinDigestTimeout ctx opn chunk now => exact KeptR.grow rfl (execTwinDigestTimeout_kept ctx opn chunk now s)
  | groupEntryValidate g word0 => exact KeptR.grow rfl (execGroupEntryValidate_kept g word0 s)
  | jobCtlWrite job value => exact KeptR.grow rfl (execJobCtlWrite_kept job value s)
  | stageWrite ctx value => exact KeptR.grow rfl (execStageWrite_kept ctx value s)
  | confluenceRetestDone t okMask => exact KeptR.grow rfl (execConfluenceRetestDone_kept t okMask s)
  | spareSwap p => exact KeptR.grow rfl (execSpareSwap_kept p s)
  | cmtFlashWriteDone => exact KeptR.grow rfl (execCmtFlashWriteDone_kept s)
  | holdRestore ctx => exact KeptR.grow rfl (execHoldRestore_kept ctx s)
  | rebuildListDone ctx code => exact KeptR.grow rfl (execRebuildListDone_kept ctx code s)
  | commitPointComplete ctx now => exact KeptR.grow rfl (execCommitPointComplete_kept ctx now s)
  | drainHoldResume ctx => exact KeptR.grow rfl (execDrainHoldResume_kept ctx s)
  | wearSkip ctx now => exact KeptR.grow rfl (execWearSkip_kept ctx now s)
  | inputStageClose _ _ => exact absurd (.inputStageClose _ _) h
  | powerChipletEnable now capMv => exact KeptR.grow rfl (execPowerChipletEnable_kept now capMv s)
  | powerFail now mv lasted => exact KeptR.grow rfl (execPowerFail_kept now mv lasted s)
  | idealDiodeOpen => exact KeptR.grow rfl (execIdealDiodeOpen_kept s)
  | powerChipletFail n => exact KeptR.grow rfl (execPowerChipletFail_kept n s)
  | pitchIsolate pitch cause peak now => exact KeptR.grow rfl (execPitchIsolate_kept pitch cause peak now s)
  | efuseClear pitch current => exact KeptR.grow rfl (execEfuseClear_kept pitch current s)
  | pitchThermalThrottle pitch temp => exact KeptR.grow rfl (execPitchThermalThrottle_kept pitch temp s)
  | pitchStartDone pitch now => exact KeptR.grow rfl (execPitchStartDone_kept pitch now s)
  | pitchPowerGoodTimeout pitch now => exact KeptR.grow rfl (execPitchPowerGoodTimeout_kept pitch now s)
  | pitchStopDone pitch now => exact KeptR.grow rfl (execPitchStopDone_kept pitch now s)
  | pitchRailTestDone pitch mv => exact KeptR.grow rfl (execPitchRailTestDone_kept pitch mv s)
  | weirFrame b r => exact KeptR.grow rfl (execWeirFrame_kept b r s)
  | weirRegulate now drawnMj => exact KeptR.grow rfl (execWeirRegulate_kept now drawnMj s)
  | weirWardenTimeout now => exact KeptR.grow rfl (execWeirWardenTimeout_kept now s)
  | weirLock => exact KeptR.grow rfl (execWeirLock_kept s)
  | weirEnvelopeWrite off value => exact KeptR.grow rfl (execWeirEnvelopeWrite_kept off value s)
  | ptpSync _ _ _ => exact absurd (.ptpSync _ _ _) h
  | ptpAnnounce domain now utcOffset leap midnight => exact KeptR.grow rfl (execPtpAnnounce_kept domain now utcOffset leap midnight s)
  | ppsEdge _ _ => exact absurd (.ppsEdge _ _) h
  | ref10Loss now => exact KeptR.grow rfl (execRef10Loss_kept now s)
  | sourceLost now => exact KeptR.grow rfl (execSourceLost_kept now s)
  | holdoverTimeout now => exact KeptR.grow rfl (execHoldoverTimeout_kept now s)
  | stCtlWrite _ => exact absurd (.stCtlWrite _) h
  | reacquire => exact absurd .reacquire h
  | timeSet hi => exact KeptR.grow rfl (execTimeSet_kept hi s)
  | utcOffsetChange now => exact KeptR.grow rfl (execUtcOffsetChange_kept now s)
  | apply => exact KeptR.grow rfl (execApply_kept s)
  | slotStart now r => exact KeptR.grow rfl (execSlotStart_kept now r s)
  | stackTempSample pos temp => exact KeptR.grow rfl (execStackTempSample_kept pos temp s)
  | stackUncorrError pos offset now => exact KeptR.grow rfl (execStackUncorrError_kept pos offset now s)
  | stackFail pos => exact KeptR.grow rfl (execStackFail_kept pos s)
  | stackTrainingDone pos ok repairs => exact KeptR.grow rfl (execStackTrainingDone_kept pos ok repairs s)
  | translationStartDone ctx => exact KeptR.grow rfl (execTranslationStartDone_kept ctx s)
  | translationStopDone ctx => exact KeptR.grow rfl (execTranslationStopDone_kept ctx s)
  | setWrite ctx which value => exact KeptR.grow rfl (execSetWrite_kept ctx which value s)
  | invalGo ctx range => exact KeptR.grow rfl (execInvalGo_kept ctx range s)
  | invalDone ctx => exact KeptR.grow rfl (execInvalDone_kept ctx s)
  | xlFaultClear ctx => exact KeptR.grow rfl (execXlFaultClear_kept ctx s)
  | bar2Read fn offset len tlp corrected => exact KeptR.grow rfl (execBar2Read_kept fn offset len tlp corrected s)
  | bar2Write fn offset bytes tlp corrected => exact KeptR.grow rfl (execBar2Write_kept fn offset bytes tlp corrected s)
  | keyEk ctx trngOk => exact KeptR.grow rfl (execKeyEk_kept ctx trngOk s)
  | keyLoad ctx => exact KeptR.grow rfl (execKeyLoad_kept ctx s)
  | rankWrite ctx => exact KeptR.grow rfl (execRankWrite_kept ctx s)
  | groupWrite ctx => exact KeptR.grow rfl (execGroupWrite_kept ctx s)
  | memberWrite ctx => exact KeptR.grow rfl (execMemberWrite_kept ctx s)
  | imageLoad ctx => exact KeptR.grow rfl (execImageLoad_kept ctx s)
  | fusedRun ctx => exact KeptR.grow rfl (execFusedRun_kept ctx s)
  | checkpoint ctx => exact KeptR.grow rfl (execCheckpoint_kept ctx s)
  | jobStart ctx => exact KeptR.grow rfl (execJobStart_kept ctx s)
  | weightSwap ctx => exact KeptR.grow rfl (execWeightSwap_kept ctx s)
  | regionRemap ctx => exact KeptR.grow rfl (execRegionRemap_kept ctx s)
  | stackScrubFull ctx => exact KeptR.grow rfl (execStackScrubFull_kept ctx s)
  | selfTest ctx => exact KeptR.grow rfl (execSelfTest_kept ctx s)
  | wipe ctx => exact KeptR.grow rfl (execWipe_kept ctx s)
  | fwUpdate ctx => exact KeptR.grow rfl (execFwUpdate_kept ctx s)
  | nopCommand ctx => exact KeptR.grow rfl (execNopCommand_kept ctx s)
  | suspend ctx => exact KeptR.grow rfl (execSuspend_kept ctx s)
  | resume ctx => exact KeptR.grow rfl (execResume_kept ctx s)
  | cancel ctx => exact KeptR.grow rfl (execCancel_kept ctx s)
  | suspendPointReached ctx handle w => exact KeptR.grow rfl (execSuspendPointReached_kept ctx handle w s)
  | longOperationEnd ctx handle now w => exact KeptR.grow rfl (execLongOperationEnd_kept ctx handle now w s)
  | deadlineExpiry ctx handle now => exact KeptR.grow rfl (execDeadlineExpiry_kept ctx handle now s)
  | progressTimer ctx handle now w => exact KeptR.grow rfl (execProgressTimer_kept ctx handle now w s)
  | cqHeadWrite ctx value => exact KeptR.grow rfl (execCqHeadWrite_kept ctx value s)
  | msixModerationExpiry ctx now => exact KeptR.grow rfl (execMsixModerationExpiry_kept ctx now s)
  | msixVectorUnmask fn vec => exact KeptR.grow rfl (execMsixVectorUnmask_kept fn vec s)
  | ceStopDone ctx => exact KeptR.grow rfl (execCeStopDone_kept ctx s)
  | functionLevelReset ctx => exact KeptR.grow rfl (execFunctionLevelReset_kept ctx s)
  | pcieReset perst => exact KeptR.grow rfl (execPcieReset_kept perst s)
  | ideIntegrityFail stream => exact KeptR.grow rfl (execIdeIntegrityFail_kept stream s)
  | getVersion doe req => exact KeptR.grow rfl (execGetVersion_kept doe req s)
  | getCapabilities doe req => exact KeptR.grow rfl (execGetCapabilities_kept doe req s)
  | negotiateAlgorithms doe req => exact KeptR.grow rfl (execNegotiateAlgorithms_kept doe req s)
  | getDigests doe req => exact KeptR.grow rfl (execGetDigests_kept doe req s)
  | getCertificate doe req => exact KeptR.grow rfl (execGetCertificate_kept doe req s)
  | challenge doe req => exact KeptR.grow rfl (execChallenge_kept doe req s)
  | getMeasurements doe req => exact KeptR.grow rfl (execGetMeasurements_kept doe req s)
  | keyExchange doe req => exact KeptR.grow rfl (execKeyExchange_kept doe req s)
  | finish doe req => exact KeptR.grow rfl (execFinish_kept doe req s)
  | keyUpdate doe req => exact KeptR.grow rfl (execKeyUpdate_kept doe req s)
  | heartbeat doe req => exact KeptR.grow rfl (execHeartbeat_kept doe req s)
  | endSession doe req => exact KeptR.grow rfl (execEndSession_kept doe req s)
  | getCsr doe req => exact KeptR.grow rfl (execGetCsr_kept doe req s)
  | setCertificate doe req => exact KeptR.grow rfl (execSetCertificate_kept doe req s)
  | vendorDefinedRequest doe req => exact KeptR.grow rfl (execVendorDefinedRequest_kept doe req s)
  | recoveryImage => exact KeptR.grow rfl (execRecoveryImage_kept s)
  | partitionWrite => exact KeptR.grow rfl (execPartitionWrite_kept s)
  | partitionRead => exact KeptR.grow rfl (execPartitionRead_kept s)
  | lifecycle => exact KeptR.grow rfl (execLifecycle_kept s)
  | warmReset => exact KeptR.grow rfl (execWarmReset_kept s)
  | warmResetBoot now => exact KeptR.grow rfl (execWarmResetBoot_kept now s)
  | wardenRestart now => exact KeptR.grow rfl (execWardenRestart_kept now s)
  | wardenCoreTakeover now => exact KeptR.grow rfl (execWardenCoreTakeover_kept now s)
  | recoveryFetchRetry now => exact KeptR.grow rfl (execRecoveryFetchRetry_kept now s)
  | recoveryFetchDone path image => exact KeptR.grow rfl (execRecoveryFetchDone_kept path image s)
  | firmwareStart now => exact KeptR.grow rfl (execFirmwareStart_kept now s)
  | startupTestDone pitch failed => exact KeptR.grow rfl (execStartupTestDone_kept pitch failed s)
  | ready now => exact KeptR.grow rfl (execReady_kept now s)
  | cairnFlushDone bad => exact KeptR.grow rfl (execCairnFlushDone_kept bad s)
  | flush => exact KeptR.grow rfl (execFlush_kept s)
  | cairnRead => exact KeptR.grow rfl (execCairnRead_kept s)
  | cairnReadDone => exact KeptR.grow rfl (execCairnReadDone_kept s)
  | gaugeCtlWrite ep g value => exact KeptR.grow rfl (execGaugeCtlWrite_kept ep g value s)
  | gaugeEnChange ep g => exact KeptR.grow rfl (execGaugeEnChange_kept ep g s)
  | gaugeWrite ep g off value => exact KeptR.grow rfl (execGaugeWrite_kept ep g off value s)
  | gaugeChunkBoundary ep g => exact KeptR.grow rfl (execGaugeChunkBoundary_kept ep g s)
  | enReq page => exact KeptR.grow rfl (execEnReq_kept page s)
  | stopReq page => exact KeptR.grow rfl (execStopReq_kept page s)
  | isolate page => exact KeptR.grow rfl (execIsolate_kept page s)
  | registerWrite _ _ _ _ => exact absurd (.registerWrite _ _ _ _) h
  | cageInsert link n => exact KeptR.grow rfl (execCageInsert_kept link n s)
  | cageRemove link n now => exact KeptR.grow rfl (execCageRemove_kept link n now s)
  | coolantAlarm inletTenths flowTenths lastedMs => exact KeptR.grow rfl (execCoolantAlarm_kept inletTenths flowTenths lastedMs s)
  | undefinedOpcode a => exact KeptR.grow rfl (execUndefinedOpcode_kept a s)
  | instructionFetchFault a => exact KeptR.grow rfl (execInstructionFetchFault_kept a s)
  | eztexLinkDown link => exact KeptR.grow rfl (execEztexLinkDown_kept link s)
  | pitchThermalRecover pitch temp => exact KeptR.grow rfl (execPitchThermalRecover_kept pitch temp s)
  | standbyCoreTestDone pass => exact KeptR.grow rfl (execStandbyCoreTestDone_kept pass s)
  | perstNRelease => exact KeptR.grow rfl (execPerstNRelease_kept s)
  | pcieLinkUp width rate flit => exact KeptR.grow rfl (execPcieLinkUp_kept width rate flit s)

/-- Settles O6: the frame of every command that does not step Site Time promises that the clocks run forward. -/
theorem timeNeverRunsBack : Obligations.TimeNeverRunsBack := by
  intro s t c h steady
  have runsOn : ¬ MayStepTime c := by
    intro may
    cases may
    all_goals exact steady
  have forward : clockFwd s t := ((exec_forward s c runsOn).on t h).get 130
  exact forward

end Sys2Proof.Machine
end

section
/-! Registers of the SITE_TIME page, steps of Site Time, and measurements (R437 to R445, R454, R455). -/

namespace Sys2Proof.Machine

/-! ### Registers of the SITE_TIME page (R455, R567) -/

/-- The address of a register of the SITE_TIME page past its header. -/
structure TimeReg (x : Nat) : Prop where
  above : 0x600100 ≤ x
  below : x < 0x601000

section
variable {x : Nat} (hx : TimeReg x)
include hx

theorem TimeReg.ne_cairn (off : Nat) : x ≠ aCairn off := by
  have below := hx.below
  show x ≠ 0x700000 + off
  omega

theorem TimeReg.ne_bg (off : Nat) : x ≠ aBg off := by
  have below := hx.below
  show x ≠ 0x601000 + off
  omega

/-- The page's header and the PCIE page lie below it. -/
theorem TimeReg.ne_under {a : Nat} (h : a < 0x600100) : x ≠ a := Nat.ne_of_gt (Nat.lt_of_lt_of_le h hx.above)

theorem msiSend_timeReg (s : State) (fn vec : Nat) : RegKept x s (s.msiSend fn vec) := by
  unfold State.msiSend
  extract_lets
  split
  · exact .ite (RegKept.ofRegs rfl) (.after (RegKept.setReg64 (hx.ne_under (by decide)) (hx.ne_under (by decide)) _) (RegKept.ofRegs rfl))

theorem cairnSync_timeReg (s : State) : RegKept x s s.cairnSync := by
  have set : ∀ (t : State) off v, RegKept x t (t.setReg (aCairn off) v) := fun _ off v => RegKept.setReg (hx.ne_cairn off) v
  unfold State.cairnSync
  exact .after (set _ _ _) (.after (set _ _ _) (.after (set _ _ _) (.after (RegKept.setReg64 (hx.ne_cairn _) (hx.ne_cairn 0x114) _)
    (.after (set _ _ _) (set _ _ _)))))

theorem cairnCount_timeReg (s : State) (w : Placed) (past drop sev : Nat) : RegKept x s (s.cairnCount w past drop sev) := by
  cases w with
  | stored => exact .refl
  | overwrote7 => exact RegKept.incSat (hx.ne_cairn _)
  | dropped => exact RegKept.incSat (hx.ne_cairn _)

/-- A record of Site Time changes, on its own page, only the header (R589). -/
theorem cairnLog_timeReg (s : State) (sev code ctx : Nat) (items : List (Nat × List Byte)) :
    RegKept x s (s.cairnLog sev clsTime 0 code ctx items) := by
  unfold State.cairnLog
  refine .ite .refl ?_
  extract_lets -merge -underBinder seq ceiling
  split
  extract_lets -merge -underBinder noFw r
  split
  extract_lets -merge -underBinder cairn placed counted logged evt
  have counts : RegKept x s counted := .after (cairnCount_timeReg hx _ _ _ _ _)
    (.after (RegKept.setReg64 (s := placed) (hx.ne_cairn _) (hx.ne_cairn 0x10C) _) (RegKept.ofRegs rfl))
  have logs : RegKept x counted logged := .after (cairnSync_timeReg hx _)
    (RegKept.setReg64 (hx.ne_under (by decide)) (hx.ne_under (by decide)) _)
  have tells : RegKept x logged { logged.msiSend 0 (logged.regF evt 0 7) with lastEvtMsi := some logged.clk.now } :=
    .after (RegKept.ofRegs (s := logged.msiSend 0 (logged.regF evt 0 7)) rfl) (msiSend_timeReg hx logged _ _)
  exact .after (.ite tells .refl) (.after logs counts)

end

theorem timeReg {off : Nat} (h : 0x100 ≤ off ∧ off < 0x1000) : TimeReg (aTime off) :=
  ⟨Nat.add_le_add_left h.1 0x600000, Nat.add_lt_add_left h.2 0x600000⟩

/-- What a register that stands says of its bits. -/
theorem RegKept.regB {a : Nat} {s t : State} (h : RegKept a s t) (k : Nat) : t.regB a k = s.regB a k := congrArg (bitOf · k) h.on

/-- What a register that stands says of its fields. -/
theorem RegKept.regF {a : Nat} {s t : State} (h : RegKept a s t) (lo n : Nat) : t.regF a lo n = s.regF a lo n := congrArg (fld · lo n) h.on

theorem RegKept.atTime (x : Nat) (s : State) (now : Nat) : RegKept x s (s.atTime now) := ⟨atTime_reg s now x⟩

theorem RegKept.setB {x a : Nat} {s : State} (h : x ≠ a) (k : Nat) (b : Bool) : RegKept x s (s.setB a k b) := RegKept.setReg h _

theorem RegKept.addSat {x a : Nat} {s : State} (h : x ≠ a) (n : Nat) : RegKept x s (s.addSat a n) := RegKept.setReg h _

/-! ### The states of Site Time (R443) -/

theorem timeState_setTimeState (s : State) {v : Nat} (h : v < 8) : (s.setTimeState v).timeState = v := regF_setF s _ h (by decide)

/-- STATE set leaves the other bits of ST_STATUS. -/
theorem regB_setTimeState (s : State) (v : Nat) {k : Nat} (h : 3 ≤ k) : (s.setTimeState v).regB (aTime 0x104) k = s.regB (aTime 0x104) k :=
  regB_setF_other s _ v (Or.inr h)

/-- ST_STATUS after an entry to a state of R443: its STATE, and the rest as before. -/
structure EntersState (v : Nat) (s t : State) : Prop where
  state : t.timeState = v
  bits : ∀ k, 3 ≤ k → t.regB (aTime 0x104) k = s.regB (aTime 0x104) k

/-- Whatever follows STATE set, and leaves ST_STATUS. -/
theorem EntersState.of {v : Nat} {s t : State} (h : v < 8) (k : RegKept (aTime 0x104) (s.setTimeState v) t) : EntersState v s t :=
  ⟨(k.regF 0 3).trans (timeState_setTimeState s h), fun b hb => (k.regB b).trans (regB_setTimeState s v hb)⟩

theorem timeLocked_enters (s : State) : EntersState 2 s s.timeLocked :=
  .of (by decide) (.after (cairnLog_timeReg (timeReg (by decide)) _ _ _ _ _) (RegKept.setReg64 (by decide) (by decide) _))

theorem timeHoldover_enters (s : State) : EntersState 3 s s.timeHoldover := by
  have entered : EntersState 3 { s with holdAt := s.clk.now } s.timeHoldover :=
    .of (by decide) (.after (cairnLog_timeReg (timeReg (by decide)) _ _ _ _ _) (RegKept.incSat (by decide)))
  exact ⟨entered.state, entered.bits⟩

theorem timeUnlocked_enters (s : State) : EntersState 4 s s.timeUnlocked :=
  .of (by decide) (.after (cairnLog_timeReg (timeReg (by decide)) _ _ _ _ _) (RegKept.incSat (by decide)))

/-- A source lost in LOCKED (R443). -/
theorem timeLost_locked {s : State} (locked : s.timeState = 2) :
    s.timeLost = ({ s with tmLost := true, tmIn := 0 } : State).timeHoldover := if_pos locked

/-- A source lost in another state. -/
theorem timeLost_unlocked {s : State} (other : s.timeState ≠ 2) : s.timeLost = { s with tmLost := true, tmIn := 0 } := if_neg other

/-! ### What a measurement leaves of the states (R443) -/

/-- What the entries to LOCKED and UNLOCKED keep, and no count of measurements touches, a measurement's judgement keeps. -/
theorem timeJudge_same {α : Type} {view : State → α} (locks : ∀ t : State, Same view t t.timeLocked)
    (unlocks : ∀ t : State, Same view t t.timeUnlocked) (counts : ∀ (t : State) m n, Same view t { t with tmIn := m, tmOut := n }) (s : State)
    (o : Int) : Same view s (s.timeJudge o) := by
  unfold State.timeJudge
  extract_lets lim n s1
  refine .after (t := s1) ?_ (counts s _ _)
  have unlocked : Same view s1 ({ s1 with tmIn := 0 } : State).timeUnlocked := .after (unlocks _) (counts s1 0 s1.tmOut)
  split
  · exact .ite (locks s1) .refl
  · exact .ite unlocked .refl
  · exact .ite unlocked (.ite (locks s1) .refl)
  · exact .ite (locks s1) .refl
  · exact .refl

/-- FREQ_ADJ is none of the registers that a change of state sets. -/
theorem timeJudge_correction (s : State) (o : Int) : RegKept (aTime 0x11C) s (s.timeJudge o) := by
  have log : ∀ (t : State) sev code, RegKept (aTime 0x11C) t (t.cairnLog sev clsTime 0 code noCtx []) := fun t sev code =>
    cairnLog_timeReg (timeReg (by decide)) t sev code noCtx []
  refine timeJudge_same (fun t => ?_) (fun t => ?_) (fun t m n => RegKept.ofRegs rfl) s o
  · exact .after (log _ _ _) (.after (RegKept.setReg64 (by decide) (by decide) _) (RegKept.setReg (by decide) _))
  · exact .after (log _ _ _) (.after (RegKept.incSat (by decide)) (RegKept.setReg (by decide) _))

/-- The inputs that ST_STATUS shows are not the judgement's. -/
theorem timeJudge_bits (s : State) (o : Int) {k : Nat} (h : 3 ≤ k) : Same (State.regB · (aTime 0x104) k) s (s.timeJudge o) :=
  timeJudge_same (fun t => ⟨(timeLocked_enters t).bits k h⟩) (fun t => ⟨(timeUnlocked_enters t).bits k h⟩) (fun _ _ _ => ⟨rfl⟩) s o

/-! ### Steps (R442, R454) -/

/-- What a step of Site Time leaves: the instant, and no slot begun there. -/
structure SteppedTo (n : Nat) (s t : State) : Prop where
  now : t.clk.now = n
  slotAt : t.slotAt = none
  weirS : t.weirS = s.weirS
  tmFirst : t.tmFirst = s.tmFirst
  tmLost : t.tmLost = s.tmLost
  ppsMark : t.ppsMark = s.ppsMark
  bits : ∀ k, 3 ≤ k → t.regB (aTime 0x104) k = s.regB (aTime 0x104) k

theorem utcApply_reg {x : Nat} (h : x ≠ aTime 0x120) (h' : x ≠ aTime 0x124) (s : State) : RegKept x s s.utcApply :=
  .ite (.after (RegKept.setReg h' _) (RegKept.setReg h _)) .refl

theorem bgTake_reg {x : Nat} (h : x ≠ aBg 0x104) (s : State) : RegKept x s s.bgTake := by
  unfold State.bgTake
  split
  · exact .after (RegKept.setReg h _) (RegKept.ofRegs rfl)
  · exact .refl

/-- What follows the landing: a UTC offset whose instant has come, the count of skipped slots, and an applied table where a frame began. -/
def State.landing (s : State) (skipped : Nat) (frame : Bool) : State :=
  if frame then (s.utcApply.addSat (aBg 0x108) skipped).bgTake else s.utcApply.addSat (aBg 0x108) skipped

theorem landing_kept (s : State) (skipped : Nat) (frame : Bool) : Kept 7605903601369376408980219232260 s (s.landing skipped frame) := by
  have counted : Kept 7605903601369376408980219232260 s (s.utcApply.addSat (aBg 0x108) skipped) :=
    Kept.step (State.addSat_kept ..) rfl (Kept.step (State.utcApply_kept s) rfl .here)
  exact Kept.ite (Kept.step (State.bgTake_kept _) rfl counted) counted

theorem landing_status (s : State) (skipped : Nat) (frame : Bool) : RegKept (aTime 0x104) s (s.landing skipped frame) := by
  have counted : RegKept (aTime 0x104) s (s.utcApply.addSat (aBg 0x108) skipped) :=
    .after (RegKept.addSat (by decide) _) (utcApply_reg (by decide) (by decide) s)
  exact .ite (.after (bgTake_reg (by decide) _) counted) counted

theorem timeStep_steps (s : State) (n : Nat) : SteppedTo n s (s.timeStep n) := by
  have kept := State.timeStep_kept s n
  obtain ⟨t, skipped, frame, landed, now, slot, regs⟩ : ∃ t skipped frame, s.timeStep n = State.landing t skipped frame ∧ t.clk.now = n ∧
      t.slotAt = none ∧ t.regs = s.regs := ⟨_, _, _, rfl, rfl, rfl, rfl⟩
  have rest := landing_kept t skipped frame
  have status : RegKept (aTime 0x104) s (t.landing skipped frame) := .after (landing_status t skipped frame) (RegKept.ofRegs regs)
  rw [landed] at kept ⊢
  exact {
    now := Eq.trans (congrArg Clock.now (rest.get 1)) now
    slotAt := Eq.trans (rest.get 103) slot
    weirS := kept.get 62
    tmFirst := kept.get 93
    tmLost := kept.get 96
    ppsMark := kept.get 99
    bits := fun k _ => status.regB k }

end Sys2Proof.Machine
end

section
/-! Sources of Site Time: measurements, PTP, PPS and the 10 MHz input (R438 to R445). -/

namespace Sys2Proof.Machine

/-! ### Time that runs on leaves the measurements -/

theorem atTime_tmFirst (s : State) (now : Nat) : (s.atTime now).tmFirst = s.tmFirst := (State.atTime_kept s now).get 93

theorem atTime_weirS (s : State) (now : Nat) : (s.atTime now).weirS = s.weirS := (State.atTime_kept s now).get 62

theorem atTime_freeCtr (s : State) (now : Nat) : (s.atTime now).freeCtr = s.freeCtr := (State.atTime_kept s now).get 22

/-! ### Measurements (R438, R442) -/

/-- The first measurement of an acquisition steps Site Time to the source. -/
theorem timeMeasure_first {s : State} (first : s.tmFirst = true) (o : Int) :
    SteppedTo ((s.clk.now : Int) + o).toNat { s with tmFirst := false } (s.timeMeasure o) := by
  have measure : s.timeMeasure o =
      (({ s.setRegN (aTime 0x118) (sat32 o) with tmFirst := false } : State).timeStep ((s.clk.now : Int) + o).toNat).timeJudge o := if_pos first
  have stepped := timeStep_steps { s.setRegN (aTime 0x118) (sat32 o) with tmFirst := false } ((s.clk.now : Int) + o).toNat
  rw [measure]
  generalize State.timeStep _ _ = t at stepped
  have judged := State.timeJudge_kept t o
  have status : RegKept (aTime 0x104) s (s.setRegN (aTime 0x118) (sat32 o)) := RegKept.setReg (by decide) _
  exact {
    now := Eq.trans (congrArg Clock.now (judged.get 1)) stepped.now
    slotAt := Eq.trans (judged.get 103) stepped.slotAt
    weirS := Eq.trans (judged.get 62) stepped.weirS
    tmFirst := Eq.trans (judged.get 93) stepped.tmFirst
    tmLost := Eq.trans (judged.get 96) stepped.tmLost
    ppsMark := Eq.trans (judged.get 99) stepped.ppsMark
    bits := fun k h => (timeJudge_bits t o h).on.trans ((stepped.bits k h).trans (status.regB k)) }

/-- A number that FREQ_ADJ can hold is held as it is. -/
theorem toInt_sat32 {x : Int} (lo : -10000000 ≤ x) (hi : x ≤ 10000000) : (BitVec.ofNat 32 (sat32 x)).toInt = x := by
  rw [sat32, BitVec.ofNat_toNat, BitVec.setWidth_eq, BitVec.toInt_ofInt, max_eq_right (by omega), min_eq_right (by omega)]
  exact Int.bmod_eq_of_le (by omega) (by omega)

/-- The correction by which a slew goes toward the source: at most 100 µs per second either way (R438). -/
theorem slew_bounded (s : State) : (s.slew.reg (aTime 0x11C)).toInt ≤ 10000000 ∧ -10000000 ≤ (s.slew.reg (aTime 0x11C)).toInt := by
  have reg : s.slew.reg (aTime 0x11C) =
      BitVec.ofNat 32 (sat32 ((((Config.freeValue s.freeCtr).toNat % 20000001 : Nat) : Int) - 10000000)) := State.reg_setReg _ _ _
  rw [reg, toInt_sat32 (by omega) (by omega)]
  omega

section
variable {s : State} (later : s.tmFirst = false)
include later

/-- A later measurement, unless in HOLDOVER, draws the correction of its slew and leaves the clock. -/
theorem timeMeasure_slews (running : s.timeState ≠ 3) (o : Int) :
    (s.timeMeasure o).clk = s.clk ∧ (s.timeMeasure o).freeCtr = s.freeCtr + 1 ∧
    ((s.timeMeasure o).reg (aTime 0x11C)).toInt ≤ 10000000 ∧ -10000000 ≤ ((s.timeMeasure o).reg (aTime 0x11C)).toInt := by
  have status : RegKept (aTime 0x104) s (s.setRegN (aTime 0x118) (sat32 o)) := RegKept.setReg (by decide) _
  have state : (s.setRegN (aTime 0x118) (sat32 o)).timeState ≠ 3 := fun e => running ((status.regF 0 3).symm.trans e)
  have measure : s.timeMeasure o = (s.setRegN (aTime 0x118) (sat32 o)).slew.timeJudge o := by
    simp only [State.timeMeasure, State.setRegN_tmFirst, later, if_neg state, Bool.false_eq_true, if_false]
  have judged := State.timeJudge_kept (s.setRegN (aTime 0x118) (sat32 o)).slew o
  rw [measure, (timeJudge_correction _ o).on]
  exact ⟨judged.get 1, judged.get 22, slew_bounded _⟩

/-- In HOLDOVER the last correction stays. -/
theorem timeMeasure_holds (held : s.timeState = 3) (o : Int) :
    (s.timeMeasure o).clk = s.clk ∧ (s.timeMeasure o).reg (aTime 0x11C) = s.reg (aTime 0x11C) := by
  have status : RegKept (aTime 0x104) s (s.setRegN (aTime 0x118) (sat32 o)) := RegKept.setReg (by decide) _
  have state : (s.setRegN (aTime 0x118) (sat32 o)).timeState = 3 := (status.regF 0 3).trans held
  have measure : s.timeMeasure o = (s.setRegN (aTime 0x118) (sat32 o)).timeJudge o := by
    simp only [State.timeMeasure, State.setRegN_tmFirst, later, if_pos state, Bool.false_eq_true, if_false]
  rw [measure, (timeJudge_correction _ o).on]
  exact ⟨(State.timeJudge_kept _ o).get 1, State.reg_setReg_other s _ (by decide)⟩

end

/-! ### PTP (R439, R445) -/

theorem ptpIn_iff {s : State} {d : Nat} : s.ptpIn d = true ↔ s.timeSrc = 0 ∧ d = s.regF (aTime 0x100) 8 8 := by
  rw [State.ptpIn, Bool.and_eq_true, beq_iff_eq, beq_iff_eq]

theorem ptpIn_other {s : State} {d : Nat} (h : d ≠ s.regF (aTime 0x100) 8 8) : s.ptpIn d = false :=
  Bool.eq_false_iff.2 fun e => h (ptpIn_iff.1 e).2

/-- A Sync of the selected master is a measurement. -/
theorem execPtpSync_measures {s : State} {d : Nat} (ptp : s.ptpIn d = true) (selected : s.regB (aTime 0x104) 3 = true) (now : Nat) (o : Int) :
    execPtpSync d now o s = .next (({ s.atTime now with tmLost := false } : State).timeMeasure o) :=
  whenB_next s _ (by rw [ptp, selected]; rfl)

/-- The state in which an Announce has selected a master and given its UTC offset. -/
def State.ptpSelected (s : State) (now u : Nat) : State :=
  (({ s.atTime now with tmLost := false } : State).setB (aTime 0x104) 3 true).setF (aTime 0x120) 0 16 u

/-- A field takes the low bits of what is written to it. -/
theorem regF_setF_mod (s : State) (a v : Nat) {lo n : Nat} (h : lo + n ≤ 32) : (s.setF a lo n v).regF a lo n = v % 2 ^ n := by
  rw [State.regF, State.setF, State.reg_setReg]
  refine Nat.eq_of_testBit_eq fun j => ?_
  rw [fld_testBit, bitOf_setFld, Nat.testBit_mod_two_pow]
  by_cases hj : j < n
  · simp [hj, show lo + j < 32 by omega]
  · simp [hj]

theorem ptpSelected_utc (s : State) (now u : Nat) : (s.ptpSelected now u).regF (aTime 0x120) 0 16 = u % 65536 :=
  regF_setF_mod _ _ u (by decide)

theorem ptpSelected_selected (s : State) (now u : Nat) : (s.ptpSelected now u).regB (aTime 0x104) 3 = true :=
  ((RegKept.setReg (by decide) _ : RegKept (aTime 0x104) _ (s.ptpSelected now u)).regB 3).trans (regB_setB _ _ true (by decide))

/-- An Announce in the domain selects its master; where its UTC offset counts, a leap flag makes a change of it pend. -/
theorem execPtpAnnounce_selects {s : State} {d : Nat} (ptp : s.ptpIn d = true) (counts : s.regB (aTime 0x100) 17 = false) (now u m : Nat)
    (leap : Int) : execPtpAnnounce d now u leap m s = .next (if leap = 0 then s.ptpSelected now u else
      ((s.ptpSelected now u).setRegN (aTime 0x124)
        (2 ^ 31 + (((s.ptpSelected now u).regF (aTime 0x120) 0 16 : Int) + leap).toNat % 65536)).setReg64 (aTime 0x128) (grain m)) := by
  have control : RegKept (aTime 0x100) s (({ s.atTime now with tmLost := false } : State).setB (aTime 0x104) 3 true) :=
    .after (RegKept.setB (by decide) 3 true) ⟨(RegKept.atTime (aTime 0x100) s now).on⟩
  refine (whenB_next s _ ptp).trans ?_
  simp only [State.ptpSelected, (control.regB 17).trans counts, Bool.false_eq_true, if_false]

/-! ### PPS and the 10 MHz input (R440, R441) -/

/-- The state in which an edge has been seen. -/
def State.ppsEdgeSeen (s : State) (now : Nat) (ref10 : Bool) : State :=
  { ((s.atTime now).setB (aTime 0x104) 4 true).setB (aTime 0x104) 5 ref10 with ppsLast := some (max now s.clk.now) }

theorem ppsEdgeSeen_kept (s : State) (now : Nat) (ref10 : Bool) : Kept (2 ^ 98 + 6) s (s.ppsEdgeSeen now ref10) :=
  Kept.upd_ppsLast rfl (Kept.step (State.setB_kept ..) rfl (Kept.step (State.setB_kept ..) rfl (Kept.step (State.atTime_kept s now) rfl .here)))

theorem ppsEdgeSeen_clk (s : State) (now : Nat) (ref10 : Bool) : (s.ppsEdgeSeen now ref10).clk = (s.atTime now).clk := rfl

theorem ppsEdgeSeen_timeSrc (s : State) (now : Nat) (ref10 : Bool) : (s.ppsEdgeSeen now ref10).timeSrc = s.timeSrc := by
  have control : RegKept (aTime 0x100) s (((s.atTime now).setB (aTime 0x104) 4 true).setB (aTime 0x104) 5 ref10) :=
    .after (RegKept.setB (by decide) _ _) (.after (RegKept.setB (by decide) _ _) (RegKept.atTime _ s now))
  exact control.regF 0 2

theorem ppsEdgeSeen_ref10 (s : State) (now : Nat) (ref10 : Bool) : (s.ppsEdgeSeen now ref10).regB (aTime 0x104) 5 = ref10 :=
  regB_setB _ _ ref10 (by decide)

theorem ppsEdgeSeen_tmFirst (s : State) (now : Nat) (ref10 : Bool) : (s.ppsEdgeSeen now ref10).tmFirst = s.tmFirst :=
  (ppsEdgeSeen_kept s now ref10).get 93

theorem ppsEdgeSeen_ppsSet (s : State) (now : Nat) (ref10 : Bool) : (s.ppsEdgeSeen now ref10).ppsSet = s.ppsSet :=
  (ppsEdgeSeen_kept s now ref10).get 100

/-- Under another source an edge is seen and no more. -/
theorem execPpsEdge_other {s : State} (other : s.timeSrc ≠ 1) (now : Nat) (ref10 : Bool) :
    execPpsEdge now ref10 s = .next (s.ppsEdgeSeen now ref10) :=
  congrArg Host.Outcome.next (if_pos fun e => other ((ppsEdgeSeen_timeSrc s now ref10).symm.trans e))

/-- An edge while an acquisition awaits the second that software named. -/
theorem execPpsEdge_awaits {s : State} {v t0 : Nat} (src : s.timeSrc = 1) (first : s.tmFirst = true) (set : s.ppsSet = some (v, t0)) (now : Nat)
    (ref10 : Bool) : execPpsEdge now ref10 s = .next (
      if reached (s.atTime now).clk.now (t0 + 1000000) = false then s.ppsEdgeSeen now ref10
      else if ref10 then ({ s.ppsEdgeSeen now ref10 with ppsMark := v, tmLost := false } : State).timeMeasure ((v : Int) - ((s.atTime now).clk.now : Int))
      else { s.ppsEdgeSeen now ref10 with ppsSet := some (v + 1000000000, t0) }) := by
  have src := (ppsEdgeSeen_timeSrc s now ref10).trans src
  have first := (ppsEdgeSeen_tmFirst s now ref10).trans first
  have set := (ppsEdgeSeen_ppsSet s now ref10).trans set
  rw [← ppsEdgeSeen_clk s now ref10]
  refine congrArg Host.Outcome.next ?_
  extract_lets -merge -underBinder +onlyGivenNames _src u
  have seen : s.ppsEdgeSeen now ref10 = u := rfl
  rw [seen] at src first set ⊢
  clear_value u
  rw [if_neg (not_not.2 src), if_pos first]
  split
  · next named =>
    cases set.symm.trans named
    rfl
  · next unnamed => cases set.symm.trans unnamed

/-- Without the 10 MHz input a later edge, and one before software has named its second, measures nothing. -/
theorem execPpsEdge_idle {s : State} (idle : s.tmFirst = false ∨ s.ppsSet = none) (now : Nat) :
    execPpsEdge now false s = .next (s.ppsEdgeSeen now false) := by
  by_cases src : s.timeSrc = 1
  · have src := (ppsEdgeSeen_timeSrc s now false).trans src
    rw [← ppsEdgeSeen_tmFirst s now false, ← ppsEdgeSeen_ppsSet s now false] at idle
    refine congrArg Host.Outcome.next ?_
    extract_lets -merge -underBinder +onlyGivenNames _src u
    have seen : s.ppsEdgeSeen now false = u := rfl
    rw [seen] at src idle ⊢
    clear_value u
    cases idle with
    | inl later => simp only [src, later, ne_eq, not_true_eq_false, Bool.false_eq_true, if_false, if_true]
    | inr unset => simp only [src, unset, ne_eq, not_true_eq_false, if_true, ite_self]
  · exact execPpsEdge_other src now false

/-! ### Sources lost (R443) -/

/-- What a source lost in LOCKED leaves: HOLDOVER, counted from now. -/
structure HeldOver (s t : State) : Prop where
  enters : EntersState 3 s t
  tmLost : t.tmLost = true
  holdAt : t.holdAt = s.clk.now

theorem timeLost_holds {s : State} (locked : s.timeState = 2) : HeldOver s s.timeLost := by
  rw [timeLost_locked locked]
  have entered := timeHoldover_enters { s with tmLost := true, tmIn := 0 }
  exact ⟨⟨entered.state, entered.bits⟩, (State.timeHoldover_kept _).get 96,
    Eq.trans ((State.cairnLog_kept _ _ _ _ _ _ _).get 97) ((State.incSat_kept _ _).get 97)⟩

theorem timeState_setB (s : State) {k : Nat} (h : 3 ≤ k) (b : Bool) : (s.setB (aTime 0x104) k b).timeState = s.timeState :=
  regF_setF_other s _ _ (Or.inl h)

theorem timeState_atTime (s : State) (now : Nat) : (s.atTime now).timeState = s.timeState := (RegKept.atTime _ s now).regF 0 3

theorem timeSrc_atTime (s : State) (now : Nat) : (s.atTime now).timeSrc = s.timeSrc := (RegKept.atTime _ s now).regF 0 2

/-- An input that ST_STATUS shows is gone, at an instant. -/
def State.inputGone (s : State) (now k : Nat) : State := (s.atTime now).setB (aTime 0x104) k false

theorem inputGone_timeState (s : State) (now : Nat) {k : Nat} (h : 3 ≤ k) : (s.inputGone now k).timeState = s.timeState :=
  (timeState_setB _ h false).trans (timeState_atTime s now)

/-- An input lost in LOCKED. -/
theorem inputGone_holds {s : State} (locked : s.timeState = 2) (now : Nat) {k : Nat} (h : 3 ≤ k) (hk : k < 32) :
    HeldOver (s.inputGone now k) (s.inputGone now k).timeLost ∧ (s.inputGone now k).timeLost.regB (aTime 0x104) k = false := by
  have held := timeLost_holds ((inputGone_timeState s now h).trans locked)
  exact ⟨held, (held.enters.bits k h).trans (regB_setB _ _ false hk)⟩

theorem execRef10Loss_loses {s : State} (src : s.timeSrc = 1) (now : Nat) : execRef10Loss now s = .next (s.inputGone now 5).timeLost := by
  have control : RegKept (aTime 0x100) s (s.inputGone now 5) := .after (RegKept.setB (by decide) _ _) (RegKept.atTime _ s now)
  exact congrArg Host.Outcome.next (if_pos ((control.regF 0 2).trans src))

/-- Has no PPS edge come for 2 s? -/
def State.ppsGap (s : State) (now : Nat) : Bool :=
  match s.ppsLast with
  | some t => !inWindow (max now s.clk.now) t 2000000000
  | none => true

theorem ppsGap_some {s : State} {t0 : Nat} (last : s.ppsLast = some t0) (now : Nat) :
    s.ppsGap now = !inWindow (max now s.clk.now) t0 2000000000 := by
  rw [State.ppsGap, last]

theorem execSourceLost_eq (s : State) (now : Nat) : execSourceLost now s =
    if s.timeSrc = 0 ∨ (s.timeSrc = 1 ∧ s.ppsGap now = true) then .next (s.inputGone now (if s.timeSrc = 0 then 3 else 4)).timeLost
    else .next s := by
  have row : execSourceLost now s = whenB (s.timeSrc == 0 || (s.timeSrc == 1 && s.ppsGap now)) s (fun s =>
    (s.inputGone now (if (s.atTime now).timeSrc = 0 then 3 else 4)).timeLost) := rfl
  simp only [row, whenB, timeSrc_atTime, Bool.or_eq_true, Bool.and_eq_true, beq_iff_eq]

theorem execSourceLost_ptp {s : State} (src : s.timeSrc = 0) (now : Nat) : execSourceLost now s = .next (s.inputGone now 3).timeLost := by
  rw [execSourceLost_eq, if_pos (Or.inl src), if_pos src]

section
variable {s : State} {now t0 : Nat} (src : s.timeSrc = 1) (last : s.ppsLast = some t0)
include src last

theorem execSourceLost_pps (late : inWindow (max now s.clk.now) t0 2000000000 = false) :
    execSourceLost now s = .next (s.inputGone now 4).timeLost := by
  have gap : s.ppsGap now = true := by rw [ppsGap_some last, late, Bool.not_false]
  rw [execSourceLost_eq, if_pos (Or.inr ⟨src, gap⟩), if_neg (by omega)]

/-- The PPS input is not lost within 2 s of an edge. -/
theorem execSourceLost_early (early : inWindow (max now s.clk.now) t0 2000000000 = true) : execSourceLost now s = .next s := by
  have gap : s.ppsGap now = false := by rw [ppsGap_some last, early, Bool.not_true]
  rw [execSourceLost_eq, src, gap, if_neg (by decide)]

end

theorem execSourceLost_free {s : State} (free : s.timeSrc = 2) (now : Nat) : execSourceLost now s = .next s := by
  rw [execSourceLost_eq, free, if_neg (by omega)]

theorem execHoldoverTimeout_unlocks {s : State} {now : Nat} (held : s.timeState = 3)
    (elapsed : inWindow (max now s.clk.now) s.holdAt (s.regF (aTime 0x130) 0 17 * 1000000000) = false) :
    execHoldoverTimeout now s = .next ({ s.atTime now with tmIn := 0 } : State).timeUnlocked :=
  whenB_next s _ (by rw [held, elapsed]; rfl)

end Sys2Proof.Machine
end

section
/-! The writes of the SITE_TIME page, the UTC offset, and the background slots (R439 to R452). -/

namespace Sys2Proof.Machine

/-! ### ST_CTL, REACQUIRE and TIME_SET (R439 to R442) -/

/-- ST_CTL with PTP_DOMAIN and UTC_OVR written, before SRC is looked at. -/
def State.stCtlFields (s : State) (v : W32) : State :=
  (if fld v 8 8 = s.regF (aTime 0x100) 8 8 then s else (s.setF (aTime 0x100) 8 8 (fld v 8 8)).setB (aTime 0x104) 3 false).setB (aTime 0x100) 17
    (bitOf v 17)

theorem stCtlFields_kept (s : State) (v : W32) : Kept 4 s (s.stCtlFields v) :=
  Kept.step (State.setB_kept ..) rfl
    (Kept.ite Kept.here (Kept.step (State.setB_kept ..) rfl (Kept.step (State.setF_kept ..) rfl Kept.here)))

theorem timeSrc_setB (s : State) {k : Nat} (h : 2 ≤ k) (b : Bool) : (s.setB (aTime 0x100) k b).timeSrc = s.timeSrc :=
  regF_setF_other s _ _ (Or.inl h)

theorem stCtlFields_timeSrc (s : State) (v : W32) : (s.stCtlFields v).timeSrc = s.timeSrc := by
  unfold State.stCtlFields
  rw [timeSrc_setB _ (by decide)]
  split
  · rfl
  · exact ((RegKept.setB (by decide) 3 false : RegKept (aTime 0x100) _ _).regF 0 2).trans (regF_setF_other s _ _ (by decide))

theorem stCtlFields_timeState (s : State) (v : W32) : (s.stCtlFields v).timeState = s.timeState := by
  have status : ∀ t : State, (t.setB (aTime 0x100) 17 (bitOf v 17)).timeState = t.timeState := fun t =>
    (RegKept.setB (by decide) 17 _ : RegKept (aTime 0x104) t _).regF 0 3
  unfold State.stCtlFields
  rw [status]
  split
  · rfl
  · exact (timeState_setB _ (by decide) false).trans ((RegKept.setReg (by decide) _ : RegKept (aTime 0x104) s _).regF 0 3)

/-- In another PTP domain no master is selected yet. -/
theorem stCtlFields_domain {s : State} {v : W32} (other : fld v 8 8 ≠ s.regF (aTime 0x100) 8 8) :
    (s.stCtlFields v).regB (aTime 0x104) 3 = false ∧ (s.stCtlFields v).regF (aTime 0x100) 8 8 = fld v 8 8 := by
  have small : fld v 8 8 < 2 ^ 8 := Nat.mod_lt _ (by decide)
  unfold State.stCtlFields
  rw [if_neg other]
  constructor
  · exact ((RegKept.setB (by decide) 17 _ : RegKept (aTime 0x104) _ _).regB 3).trans (regB_setB _ _ false (by decide))
  · refine (regF_setF_other _ _ _ (by decide)).trans ?_
    exact ((RegKept.setB (by decide) 3 false : RegKept (aTime 0x100) _ _).regF 8 8).trans (regF_setF s _ small (by decide))

/-- A write of ST_CTL without REACQUIRE. -/
theorem execStCtlWrite_source {s : State} {v : W32} (sv : s.served = true) (stays : bitOf v 16 = false) :
    execStCtlWrite v s = .next (if fld v 0 2 = 3 then (s.stCtlFields v).ignored clsTime 0 else
      if fld v 0 2 = s.timeSrc then s.stCtlFields v else (s.stCtlFields v).timeSource (fld v 0 2)) := by
  refine (whenB_next s _ sv).trans (congrArg Host.Outcome.next ?_)
  rw [← stCtlFields_timeSrc s v]
  exact if_neg (by rw [stays]; exact Bool.false_ne_true)

/-- What an ignored write leaves of ST_CTL and ST_STATUS. -/
theorem ignored_time (s : State) : (s.ignored clsTime 0).timeSrc = s.timeSrc ∧ (s.ignored clsTime 0).timeState = s.timeState ∧
    (s.ignored clsTime 0).clk = s.clk :=
  ⟨(RegKept.setB (by decide) 0 true : RegKept (aTime 0x100) s _).regF 0 2, (RegKept.setB (by decide) 0 true : RegKept (aTime 0x104) s _).regF 0 3,
    rfl⟩

/-- SRC 2 runs free. -/
theorem timeSource_free (s : State) : (s.timeSource 2).timeSrc = 2 ∧ (s.timeSource 2).timeState = 0 ∧ (s.timeSource 2).clk = s.clk ∧
    (s.timeSource 2).tmFirst = false := by
  have control : RegKept (aTime 0x100) (s.setF (aTime 0x100) 0 2 2) (s.timeSource 2) :=
    .after (RegKept.setB (by decide) 6 false) (.after (RegKept.setReg (by decide) _)
      ⟨reg_setB_other (a := aTime 0x104) (s.setF (aTime 0x100) 0 2 2) 3 false (by decide)⟩)
  exact ⟨(control.regF 0 2).trans (regF_setF s _ (by decide) (by decide)),
    (timeState_setB _ (by decide) false).trans (timeState_setTimeState _ (by decide)), rfl, rfl⟩

/-- An acquisition begins. -/
theorem timeAcquire_begins (s : State) : s.timeAcquire.timeState = 1 ∧ s.timeAcquire.tmFirst = true ∧ s.timeAcquire.clk = s.clk :=
  ⟨(timeState_setB _ (by decide) _).trans (timeState_setTimeState _ (by decide)), rfl, rfl⟩

theorem execReacquire_free {s : State} (sv : s.served = true) (free : s.timeSrc = 2) :
    execReacquire s = .next (s.timeStep (s.reg64 (aTime 0x110))) :=
  (whenB_next s _ sv).trans (congrArg Host.Outcome.next (if_pos free))

theorem execReacquire_source {s : State} (sv : s.served = true) (source : s.timeSrc ≠ 2) : execReacquire s = .next s.timeAcquire :=
  (whenB_next s _ sv).trans (congrArg Host.Outcome.next (if_neg source))

/-- TIME_SET with both words, the LO word no longer staged. -/
def State.timeSetTo (s : State) (lo hi : W32) : State :=
  { (s.setReg (aTime 0x110) lo).setReg (aTime 0x114) hi with staged := del s.staged (aTime 0x110) }

theorem timeSetTo_reg64 (s : State) (lo hi : W32) : (s.timeSetTo lo hi).reg64 (aTime 0x110) = lo.toNat + 2 ^ 32 * hi.toNat := by
  have low : (s.timeSetTo lo hi).reg (aTime 0x110) = lo := (State.reg_setReg_other _ _ (by decide)).trans (State.reg_setReg s _ _)
  have high : (s.timeSetTo lo hi).reg (aTime 0x110 + 4) = hi := State.reg_setReg _ (aTime 0x114) hi
  rw [State.reg64, State.regN, State.regN, low, high]
  rfl

theorem execTimeSet_commits {s : State} {lo : W32} (hi : W32) (sv : s.served = true) (staged : look? s.staged (aTime 0x110) = some lo)
    (source : s.timeSrc ≠ 1) : execTimeSet hi s = .next (s.timeSetTo lo hi) := by
  have word : look (s.reg (aTime 0x110)) s.staged (aTime 0x110) = lo := by rw [look, staged, Option.getD_some]
  have written : RegKept (aTime 0x100) s ((s.setReg (aTime 0x110) lo).setReg (aTime 0x114) hi) :=
    .after (RegKept.setReg (by decide) _) (RegKept.setReg (by decide) _)
  have control : RegKept (aTime 0x100) s (s.timeSetTo lo hi) := ⟨written.on⟩
  refine (whenB_next s _ sv).trans (congrArg Host.Outcome.next ?_)
  rw [State.timeSet, word]
  exact if_neg fun e => source ((control.regF 0 2).symm.trans e.1)

/-! ### The UTC offset (R445) -/

theorem utcApply_changes {s : State} (pends : s.regB (aTime 0x124) 31 = true) (come : s.reg64 (aTime 0x128) ≤ grain s.clk.now) :
    s.utcApply.regF (aTime 0x120) 0 16 = s.regF (aTime 0x124) 0 16 ∧ s.utcApply.regB (aTime 0x124) 31 = false := by
  have small : s.regF (aTime 0x124) 0 16 < 2 ^ 16 := Nat.mod_lt _ (by decide)
  have applied : s.utcApply = (s.setF (aTime 0x120) 0 16 (s.regF (aTime 0x124) 0 16)).setB (aTime 0x124) 31 false :=
    if_pos (by rw [pends, decide_eq_true come]; rfl)
  rw [applied]
  exact ⟨((RegKept.setB (by decide) 31 false : RegKept (aTime 0x120) _ _).regF 0 16).trans (regF_setF s _ small (by decide)),
    regB_setB _ _ false (by decide)⟩

/-- Before its instant a change pends. -/
theorem utcApply_pends {s : State} (early : grain s.clk.now < s.reg64 (aTime 0x128)) : s.utcApply = s :=
  if_neg (by rw [decide_eq_false (Nat.not_le.2 early), Bool.and_false]; exact Bool.false_ne_true)

theorem atTime_reg64 (s : State) (now a : Nat) : (s.atTime now).reg64 a = s.reg64 a := reg64_congr (atTime_reg s now a) (atTime_reg s now (a + 4))

/-! ### The shadow of the slot table (R452) -/

/-- The shadow as it stands. -/
def State.bgShadow (s : State) : AMap Nat := (List.range 125).map (fun n => (n, s.regN (aBg (0x200 + 4 * n))))

theorem bgShadow_valid_iff (s : State) :
    s.bgShadow.all (fun e => slotValid e.2) = true ↔ ∀ n, n < 125 → slotValid (s.regN (aBg (0x200 + 4 * n))) = true := by
  rw [State.bgShadow, List.all_map, List.all_eq_true]
  exact forall_congr' fun n => by rw [List.mem_range]; rfl

theorem execApply_takes {s : State} (sv : s.served = true) (valid : ∀ n, n < 125 → slotValid (s.regN (aBg (0x200 + 4 * n))) = true) :
    execApply s = .next (({ s with bgNext := some s.bgShadow } : State).setB (aBg 0x104) 7 true) :=
  (whenB_next s _ sv).trans (congrArg Host.Outcome.next (if_pos ((bgShadow_valid_iff s).2 valid)))

theorem execApply_ignores {s : State} {n : Nat} (sv : s.served = true) (hn : n < 125)
    (bad : slotValid (s.regN (aBg (0x200 + 4 * n))) = false) : execApply s = .next (s.ignored clsBg 0) :=
  (whenB_next s _ sv).trans (congrArg Host.Outcome.next
    (if_neg fun all => Bool.false_ne_true (bad.symm.trans ((bgShadow_valid_iff s).1 all n hn))))

/-! ### A slot begins (R446, R447) -/

/-- The work of a slot whose entry in the active table is `w`. -/
def State.slotWork (s : State) (w now : Nat) (r : Readings) : State :=
  match nfld w 0 4 with
  | 1 => s.scrubChunk (nfld w 4 8) (r.getD 0 0)
  | 3 => s.telemSample (nfld w 4 8) now r
  | 4 => s.wearSlot now
  | _ => s

/-- A slot's work, while the table runs (BG_CTL.SLOTS_EN). -/
def State.slotRuns (s : State) (now : Nat) (r : Readings) : State :=
  if s.regB (aBg 0x100) 1 then s.slotWork (look (slotReset (now % 1000000 / 8000)) s.bgTable (now % 1000000 / 8000)) now r else s

section
variable {s t : State} {now : Nat} (due : s.slotDue now = true) (come : reached now s.clk.now = true)
  (ht : t = { (s.atTime now).utcApply with slotAt := some now })
include due come ht

/-- A slot that is due begins; the first of a frame brings an applied table into force. -/
theorem execSlotStart_begins (r : Readings) :
    execSlotStart now r s = .next ((if now % 1000000 / 8000 = 0 then t.bgTake else t).slotRuns now r) := by
  subst ht
  exact whenB_next s _ (by rw [due, come]; rfl)

/-- A slot begins at a multiple of 8 µs. -/
theorem execSlotStart_later (later : now % 1000000 ≠ 0) (r : Readings) : execSlotStart now r s = .next (t.slotRuns now r) := by
  have start : now % 8000 = 0 := by
    simp only [State.slotDue, isMul, Bool.and_eq_true, beq_iff_eq] at due
    exact due.1.1
  rw [execSlotStart_begins due come ht, if_neg (by omega)]

theorem execSlotStart_frame (first : now % 1000000 = 0) (r : Readings) : execSlotStart now r s = .next (t.bgTake.slotRuns now r) := by
  rw [execSlotStart_begins due come ht, if_pos (by rw [first])]

end

theorem slotRuns_off {s : State} (off : s.regB (aBg 0x100) 1 = false) (now : Nat) (r : Readings) : s.slotRuns now r = s := by
  rw [State.slotRuns, off]
  rfl

theorem slotRuns_on {s : State} {now w : Nat} (on : s.regB (aBg 0x100) 1 = true)
    (entry : look (slotReset (now % 1000000 / 8000)) s.bgTable (now % 1000000 / 8000) = w) (r : Readings) :
    s.slotRuns now r = s.slotWork w now r := by
  rw [State.slotRuns, if_pos on, entry]

theorem execSlotStart_stays {s : State} {now : Nat} (h : s.slotDue now = false ∨ reached now s.clk.now = false) (r : Readings) :
    execSlotStart now r s = .next s :=
  whenB_stays s _ (Bool.and_eq_false_iff.2 h)

/-! ### TELEM and WEAR slots (R449, R450) -/

/-- Where each of several registers is set once, each holds what it was set to. -/
theorem foldl_setRegN (f g : Nat → Nat) (apart : ∀ a b, f a = f b → a = b) {l : List Nat} {x : Nat} (hx : x ∈ l) (s : State) :
    (l.foldl (fun t p => t.setRegN (f p) (g p)) s).regN (f x) = g x % 2 ^ 32 := by
  induction l using List.reverseRecOn with
  | nil => cases hx
  | append_singleton l p ih =>
    rw [List.foldl_append, List.foldl_cons, List.foldl_nil]
    by_cases e : x = p
    · rw [e, regN_setRegN]
    · have other : f x ≠ f p := fun h => e (apart x p h)
      rw [State.regN, State.setRegN, State.reg_setReg_other _ _ other]
      exact ih (by simpa [e] using hx)

theorem fitted_setReg64 (s : State) {a : Nat} (h : 0x100 < a) (v p : Nat) : (s.setReg64 a v).fitted p = s.fitted p := by
  have part : RegKept 0x100 s (s.setReg64 a v) := RegKept.setReg64 (by omega) (by omega) v
  rw [State.fitted, State.part, part.regF]
  rfl

/-- Unit 63 samples the fitted stacks (R449). -/
theorem telemSample_stacks (s : State) (now : Nat) (r : Readings) : s.telemSample 63 now r =
    ((List.range 24).filter (s.setReg64 (aBg (0x400 + 8 * 63)) now).fitted).foldl (fun t p => t.setRegN (aStk p 0x104) (r.getD p 0 % 256))
      (s.setReg64 (aBg (0x400 + 8 * 63)) now) := rfl

theorem telemSample_temperature {s : State} {p : Nat} (hp : p < 24) (fit : s.fitted p = true) (now : Nat) (r : Readings) :
    (s.telemSample 63 now r).regN (aStk p 0x104) = r.getD p 0 % 256 := by
  have apart : ∀ a b, aStk a 0x104 = aStk b 0x104 → a = b := fun a b h => by
    have : 0x300000 + 0x1000 * a + 0x104 = 0x300000 + 0x1000 * b + 0x104 := h
    omega
  have sampled : p ∈ (List.range 24).filter (s.setReg64 (aBg (0x400 + 8 * 63)) now).fitted :=
    List.mem_filter.2 ⟨List.mem_range.2 hp, (fitted_setReg64 s (by decide) now p).trans fit⟩
  rw [telemSample_stacks, foldl_setRegN (aStk · 0x104) (r.getD · 0 % 256) apart sampled]
  omega

/-- The stamp of unit 63 lies on another page. -/
theorem telemSample_stamp (s : State) (now : Nat) (r : Readings) :
    (s.telemSample 63 now r).reg64 (aBg (0x400 + 8 * 63)) = now % 2 ^ 64 := by
  have ne : ∀ p, aBg (0x400 + 8 * 63) ≠ aStk p 0x104 ∧ aBg (0x400 + 8 * 63) + 4 ≠ aStk p 0x104 := fun p => by
    have stack : aStk p 0x104 = 0x300000 + 0x1000 * p + 0x104 := rfl
    have bg : aBg (0x400 + 8 * 63) = 0x6015F8 := rfl
    omega
  have low : RegKept (aBg (0x400 + 8 * 63)) (s.setReg64 (aBg (0x400 + 8 * 63)) now) (s.telemSample 63 now r) :=
    .foldl (fun _ p => RegKept.setReg (ne p).1 _) _ _
  have high : RegKept (aBg (0x400 + 8 * 63) + 4) (s.setReg64 (aBg (0x400 + 8 * 63)) now) (s.telemSample 63 now r) :=
    .foldl (fun _ p => RegKept.setReg (ne p).2 _) _ _
  rw [reg64_congr low.on high.on, reg64_setReg64]

/-- Unit 64 samples the input and the coolant (R449, R585). -/
theorem telemSample_input (s : State) (now : Nat) (r : Readings) : (s.telemSample 64 now r).coolant = (r.getD 3 0, r.getD 4 0, r.getD 5 0) ∧
    (s.telemSample 64 now r).regN (aWeir 0x114) = r.getD 0 0 % 65536 := by
  have sampled : RegKept (aWeir 0x114) ((s.setReg64 (aBg (0x400 + 8 * 64)) now).setRegN (aWeir 0x114) (r.getD 0 0 % 65536))
      ((((s.setReg64 (aBg (0x400 + 8 * 64)) now).setRegN (aWeir 0x114) (r.getD 0 0 % 65536)).setRegN (aWeir 0x118) (r.getD 1 0 % 65536)).setRegN
        (aWeir 0x110) (r.getD 2 0 % 65536)) := .after (RegKept.setReg (by decide) _) (RegKept.setReg (by decide) _)
  have volts : RegKept (aWeir 0x114) ((s.setReg64 (aBg (0x400 + 8 * 64)) now).setRegN (aWeir 0x114) (r.getD 0 0 % 65536)) (s.telemSample 64 now r) :=
    ⟨sampled.on⟩
  refine ⟨rfl, ?_⟩
  rw [State.regN, volts.on]
  refine (regN_setRegN _ _ _).trans ?_
  omega

theorem wearSlot_stays {s : State} {now : Nat} (h : (s.regB 0x200 8 && s.fwRuns && reached now s.wearDue) = false) : s.wearSlot now = s :=
  if_neg (by rw [h]; exact Bool.false_ne_true)

/-- A rotation that is due starts; the next one is due a gap later. -/
theorem wearSlot_starts {s : State} {now : Nat} (enabled : s.regB 0x200 8 = true) (fw : s.fwRuns = true) (due : reached now s.wearDue = true)
    (inTime : now < s.wearDue + s.wearGap) (inside : s.wearNext < 62) :
    s.wearSlot now = ({ s with wearDue := s.wearDue + s.wearGap, wearNext := s.wearNext + 1 } : State).wearStart s.wearNext := by
  have next : (s.wearNext + 1) % 63 = s.wearNext + 1 := by omega
  have again : (s.wearNext + 1 + 62) % 63 = s.wearNext := by omega
  have guard : (s.regB 0x200 8 && s.fwRuns && reached now s.wearDue) = true := by rw [enabled, fw, due]; rfl
  rw [State.wearSlot, if_pos guard]
  simp only [next, again, if_neg (Nat.not_le.2 inTime)]

end Sys2Proof.Machine
end

section
/-! Site Time and the background slots (R439 to R452, R527): O50. -/

namespace Sys2Proof.Machine

/-- Settles O50: a measurement by whether it is an acquisition's first; a lost source by the state it meets; each write of the page by its fields; a
slot by the class of its entry. -/
theorem siteTime : Obligations.SiteTime := by
  unfold Obligations.SiteTime
  simp only [exec_ptpSync, exec_ptpAnnounce, exec_ppsEdge, exec_ref10Loss, exec_sourceLost, exec_holdoverTimeout, exec_stCtlWrite, exec_reacquire,
    exec_timeSet, exec_utcOffsetChange, exec_apply, exec_slotStart]
  refine ⟨?syncSteps, ?syncSlews, ?syncHolds, ?otherDomain, ?announce, ?leap, ?ppsSteps, ?ppsOther, ?ppsIdle, ?ppsEarly, ?ppsMarks, ?ref10Lost,
    ?ptpLost, ?ppsLost, ?ppsNotLost, ?freeNotLost, ?lostUnlocked, ?unlocks, ?free, ?reserved, ?domain, ?reacquireFree, ?reacquireSource, ?timeSet,
    ?utcChanges, ?utcPends, ?applies, ?ignores, ?slotOff, ?frameOff, ?noWork, ?scrub, ?calib, ?telem, ?wear, ?temperatures, ?input, ?notDue, ?rotates,
    ?noSlot⟩
  case syncSteps =>
    intro s now d o src dom selected first
    have measured := timeMeasure_first (s := { s.atTime now with tmLost := false }) ((atTime_tmFirst s now).trans first) o
    exact ⟨_, execPtpSync_measures (ptpIn_iff.2 ⟨src, dom⟩) selected now o, measured.now, measured.tmFirst, measured.tmLost, measured.slotAt,
      measured.weirS.trans (atTime_weirS s now)⟩
  case syncSlews =>
    intro s now d o src dom selected later running
    obtain ⟨clk, drawn, high, low⟩ := timeMeasure_slews (s := { s.atTime now with tmLost := false })
      ((atTime_tmFirst s now).trans later) (fun e => running ((timeState_atTime s now).symm.trans e)) o
    exact ⟨_, execPtpSync_measures (ptpIn_iff.2 ⟨src, dom⟩) selected now o, clk,
      drawn.trans (congrArg (· + 1) (atTime_freeCtr s now)), high, low⟩
  case syncHolds =>
    intro s now d o src dom selected later held
    obtain ⟨clk, correction⟩ := timeMeasure_holds (s := { s.atTime now with tmLost := false })
      ((atTime_tmFirst s now).trans later) ((timeState_atTime s now).trans held) o
    exact ⟨_, execPtpSync_measures (ptpIn_iff.2 ⟨src, dom⟩) selected now o, clk, correction.trans (atTime_reg s now _)⟩
  case otherDomain =>
    intro s now d u m o l other
    exact ⟨whenB_stays s _ (by rw [ptpIn_other other]; rfl), whenB_stays s _ (ptpIn_other other)⟩
  case announce =>
    intro s now d u m src dom counts
    exact ⟨_, execPtpAnnounce_selects (ptpIn_iff.2 ⟨src, dom⟩) counts now u m 0, ptpSelected_selected s now u, ptpSelected_utc s now u, rfl, rfl⟩
  case leap =>
    intro s now d u m src dom counts hu hm
    have value : (((s.ptpSelected now u).regF (aTime 0x120) 0 16 : Int) + 1).toNat % 65536 = u + 1 := by
      rw [ptpSelected_utc]
      omega
    have instant : grain m < 2 ^ 64 := Nat.lt_of_le_of_lt (by unfold grain; omega) hm
    refine ⟨_, execPtpAnnounce_selects (ptpIn_iff.2 ⟨src, dom⟩) counts now u m 1, ?_, ?_⟩
    · rw [if_neg (by decide), value, State.regN, setReg64_other _ (by decide) (by decide), ← State.regN, regN_setRegN]
      omega
    · rw [if_neg (by decide), reg64_setReg64, Nat.mod_eq_of_lt instant]
  case ppsSteps =>
    intro s now v t0 src first set come
    have measured := timeMeasure_first (s := { s.ppsEdgeSeen now true with ppsMark := v, tmLost := false })
      ((ppsEdgeSeen_tmFirst s now true).trans first) ((v : Int) - ((s.atTime now).clk.now : Int))
    have row := execPpsEdge_awaits src first set now true
    rw [if_neg (by rw [come]; decide), if_pos rfl] at row
    refine ⟨_, row, measured.now.trans ?_, measured.ppsMark, measured.tmFirst, (measured.bits 5 (by decide)).trans (ppsEdgeSeen_ref10 s now true)⟩
    show (((s.atTime now).clk.now : Int) + ((v : Int) - ((s.atTime now).clk.now : Int))).toNat = v
    omega
  case ppsOther => exact fun s now x other => execPpsEdge_other other now x
  case ppsIdle => exact fun s now idle => execPpsEdge_idle idle now
  case ppsEarly =>
    exact fun s now x v t0 src first set early => (execPpsEdge_awaits src first set now x).trans (congrArg Host.Outcome.next (if_pos early))
  case ppsMarks =>
    intro s now v t0 src first set come
    have row := execPpsEdge_awaits src first set now false
    rwa [if_neg (by rw [come]; decide), if_neg Bool.false_ne_true] at row
  case ref10Lost =>
    intro s now src locked
    obtain ⟨held, gone⟩ := inputGone_holds locked now (k := 5) (by decide) (by decide)
    exact ⟨_, execRef10Loss_loses src now, held.enters.state, held.tmLost, held.holdAt, gone⟩
  case ptpLost =>
    intro s now src locked
    obtain ⟨held, gone⟩ := inputGone_holds locked now (k := 3) (by decide) (by decide)
    exact ⟨_, execSourceLost_ptp src now, held.enters.state, held.tmLost, gone⟩
  case ppsLost =>
    intro s now t0 src locked last late
    obtain ⟨held, gone⟩ := inputGone_holds locked now (k := 4) (by decide) (by decide)
    exact ⟨_, execSourceLost_pps src last late, held.enters.state, held.tmLost, gone⟩
  case ppsNotLost => exact fun s now t0 src last early => execSourceLost_early src last early
  case freeNotLost => exact fun s now free => execSourceLost_free free now
  case lostUnlocked =>
    intro s now src other
    have state := inputGone_timeState s now (k := 3) (by decide)
    refine ⟨_, execSourceLost_ptp src now, ?_⟩
    rw [timeLost_unlocked fun e => other (state.symm.trans e)]
    exact ⟨state, rfl⟩
  case unlocks =>
    intro s now held elapsed
    exact ⟨_, execHoldoverTimeout_unlocks held elapsed, (timeUnlocked_enters _).state, (State.timeUnlocked_kept _).get 94⟩
  case free =>
    intro s v sv source two stays
    have row := execStCtlWrite_source sv stays
    rw [two, if_neg (by decide), if_neg (Ne.symm source)] at row
    obtain ⟨src, state, clk, first⟩ := timeSource_free (s.stCtlFields v)
    exact ⟨_, row, src, state, clk.trans ((stCtlFields_kept s v).get 1), first⟩
  case reserved =>
    intro s v sv three stays
    have row := execStCtlWrite_source sv stays
    rw [if_pos three] at row
    obtain ⟨src, state, clk⟩ := ignored_time (s.stCtlFields v)
    exact ⟨_, row, src.trans (stCtlFields_timeSrc s v), state.trans (stCtlFields_timeState s v), clk.trans ((stCtlFields_kept s v).get 1)⟩
  case domain =>
    intro s v sv same stays other
    obtain ⟨unselected, dom⟩ := stCtlFields_domain other
    refine ⟨_, execStCtlWrite_source sv stays, ?_⟩
    rw [if_pos same]
    split
    · have control : RegKept (aTime 0x100) (s.stCtlFields v) ((s.stCtlFields v).ignored clsTime 0) := RegKept.setB (by decide) 0 true
      have status : RegKept (aTime 0x104) (s.stCtlFields v) ((s.stCtlFields v).ignored clsTime 0) := RegKept.setB (by decide) 0 true
      exact ⟨(status.regB 3).trans unselected, (control.regF 8 8).trans dom, (control.regF 0 2).trans (stCtlFields_timeSrc s v)⟩
    · exact ⟨unselected, dom, stCtlFields_timeSrc s v⟩
  case reacquireFree =>
    intro s sv free
    have stepped := timeStep_steps s (s.reg64 (aTime 0x110))
    exact ⟨_, execReacquire_free sv free, stepped.now, stepped.slotAt, stepped.weirS⟩
  case reacquireSource => exact fun s sv source => ⟨_, execReacquire_source sv source, timeAcquire_begins s⟩
  case timeSet =>
    exact fun s hi lo sv staged source =>
      ⟨_, execTimeSet_commits hi sv staged source, timeSetTo_reg64 s lo hi, look?_del_same s.staged (aTime 0x110), rfl⟩
  case utcChanges =>
    intro s now pends come
    have field := (RegKept.atTime (aTime 0x124) s now).regF 0 16
    obtain ⟨offset, done⟩ := utcApply_changes (((RegKept.atTime _ s now).regB 31).trans pends) ((atTime_reg64 s now _).trans_le come)
    exact ⟨_, rfl, offset.trans field, done⟩
  case utcPends =>
    exact fun s now early => congrArg Host.Outcome.next (utcApply_pends (early.trans_eq (atTime_reg64 s now _).symm))
  case applies => exact fun s sv valid => ⟨_, execApply_takes sv valid, rfl, rfl, regB_setB _ _ true (by decide)⟩
  case ignores => exact fun s n sv hn bad => execApply_ignores sv hn bad
  case slotOff =>
    exact fun s t now r due come ht later off => (execSlotStart_later due come ht later r).trans (congrArg Host.Outcome.next (slotRuns_off off now r))
  case frameOff =>
    exact fun s t now r due come ht first off => (execSlotStart_frame due come ht first r).trans (congrArg Host.Outcome.next (slotRuns_off off now r))
  case temperatures => exact fun s now p r hp fit => ⟨telemSample_temperature hp fit now r, telemSample_stamp s now r⟩
  case input => exact fun s now r => telemSample_input s now r
  case notDue => exact fun s now h => wearSlot_stays h
  case rotates => exact fun s now enabled fw due inTime inside => wearSlot_starts enabled fw due inTime inside
  case noSlot => exact fun s now r h => execSlotStart_stays h r
  case noWork | scrub | calib | telem | wear =>
    intro s t now w r due come ht later on entry cls
    rw [execSlotStart_later due come ht later r, slotRuns_on on entry]
    simp only [State.slotWork, cls]

end Sys2Proof.Machine
end

section
/-! Host commands that the engine takes, their checks, and what short, long and control commands leave (R467, R468, R472, R473, R477, R484). -/

namespace Sys2Proof.Machine

/-! ### Checks (R477) -/

@[simp] theorem reasonOf_nil : reasonOf [] = 0 := rfl
@[simp] theorem reasonOf_cons (c : Bool) (r : Nat) (l : List (Bool × Nat)) : reasonOf ((c, r) :: l) = if c then r else reasonOf l := rfl

theorem hostOk_of_le {a n : Nat} (h : a + n ≤ 2 ^ 64) : hostOk a n = true := decide_eq_true h

/-- An operand list that is empty or can be reached does not call for reason 8. -/
theorem emptyOr_reached {n : Nat} {reach : Bool} (h : n = 0 ∨ reach = true) : (n != 0 && !reach) = false := by
  obtain rfl | rfl := h
  · rfl
  · exact Bool.and_false _

theorem isMul_of_mod {x m : Nat} (h : x % m = 0) : isMul x m = true := beq_iff_eq.2 h

/-- A command with an undefined opcode breaks FORMAT, the first reason. -/
theorem cmdReason_undefined {b : List Byte} (undefined : at' b 0 1 ∉ cmdOpcodes) (s : State) (c : Nat) : s.cmdReason c b = 1 := by
  have format : cmdFormatOk b = false := by simp [cmdFormatOk, undefined]
  exact if_pos format

/-! ### Commands that wait for IDE (R509; log 66) -/

section
variable (s : State) (c : Nat) (b : List Byte)

theorem ideWaits_other {op : Nat} (h : op ∉ [0x10, 0x11, 0x18, 0x1A, 0x23]) : s.ideWaits c op b = false := by simp [State.ideWaits, h]

@[simp] theorem ideWaits_keyEk : s.ideWaits c 0x10 b = !s.ideOk c (at' b 16 8) 4917 := rfl
@[simp] theorem ideWaits_keyLoad : s.ideWaits c 0x11 b = !s.ideOk c (at' b 16 8) 1664 := rfl
@[simp] theorem ideWaits_rankWrite : s.ideWaits c 0x18 b = !s.ideOk c (at' b 16 8) (4 * at' b 14 2) := rfl
@[simp] theorem ideWaits_memberWrite : s.ideWaits c 0x1A b = !s.ideOk c (at' b 24 8) (2 * at' b 16 2) := rfl
@[simp] theorem ideWaits_jobStart : s.ideWaits c 0x23 b = !s.ideOk c (at' b 16 8) 2048 := rfl

/-- The opcode of a command that uses host memory tells the buffer it waits for. -/
theorem ideWaits_uncovered {a n : Nat} (buffer : (at' b 0 1, a, n) ∈ [(0x10, at' b 16 8, 4917), (0x11, at' b 16 8, 1664),
    (0x18, at' b 16 8, 4 * at' b 14 2), (0x1A, at' b 24 8, 2 * at' b 16 2), (0x23, at' b 16 8, 2048)]) (uncovered : s.ideOk c a n = false) :
    s.ideWaits c (at' b 0 1) b = true := by
  simp only [List.mem_cons, Prod.mk.injEq, List.not_mem_nil, or_false] at buffer
  obtain ⟨op, rfl, rfl⟩ | ⟨op, rfl, rfl⟩ | ⟨op, rfl, rfl⟩ | ⟨op, rfl, rfl⟩ | ⟨op, rfl, rfl⟩ := buffer <;> rw [op] <;> simp [uncovered]

end

/-! ### Taking a command (R467, R468, R477) -/

/-- The engine of context `ctx` takes the command `b` by the row of opcode `op`, and no reason of R477 that is independent of the operands rejects
it. -/
structure CmdTaken (s : State) (ctx op : Nat) (b : List Byte) : Prop where
  unit : ctx ≤ 16
  ready : s.cmdReady ctx = some b
  opcode : at' b 0 1 = op
  ide : s.ideWaits ctx op b = false
  passes : (s.cmdTake ctx b).cmdReason ctx b = 0

section
variable {s : State} {ctx op : Nat} {b : List Byte}

/-- A command that uses no host memory as it is taken does not wait for IDE. -/
theorem CmdTaken.ofOther (unit : ctx ≤ 16) (ready : s.cmdReady ctx = some b) (opcode : at' b 0 1 = op)
    (passes : (s.cmdTake ctx b).cmdReason ctx b = 0) (other : op ∉ [0x10, 0x11, 0x18, 0x1A, 0x23]) : CmdTaken s ctx op b :=
  ⟨unit, ready, opcode, ideWaits_other s ctx b other, passes⟩

theorem cmdRow_none (absent : s.cmdReady ctx = none) (f : List Byte → State → State) : cmdRow ctx op s f = .next s := by
  simp only [cmdRow, absent, onUnit_stays]

/-- A row stays idle where the slot holds another opcode, or the command waits for IDE. -/
theorem cmdRow_stays (ready : s.cmdReady ctx = some b) (h : at' b 0 1 = op → s.ideWaits ctx op b = true) (f : List Byte → State → State) :
    cmdRow ctx op s f = .next s := by
  simp only [cmdRow, ready]
  refine onUnit_stays s _ ?_
  by_cases same : at' b 0 1 = op
  · simp [h same]
  · simp [same]

theorem cmdRow_reason (hc : ctx ≤ 16) (ready : s.cmdReady ctx = some b) (opcode : at' b 0 1 = op) (ide : s.ideWaits ctx op b = false)
    (f : List Byte → State → State) : cmdRow ctx op s f = .next (if (s.cmdTake ctx b).cmdReason ctx b = 0 then f b (s.cmdTake ctx b)
      else (s.cmdTake ctx b).cmdReject ctx b ((s.cmdTake ctx b).cmdReason ctx b)) := by
  simp only [cmdRow, ready]
  exact onUnit_next s _ (decide_eq_true hc) (by simp [opcode, ide])

/-- A command that waits for IDE is taken by no row. -/
theorem cmdRow_waits (ready : s.cmdReady ctx = some b) (waits : s.ideWaits ctx (at' b 0 1) b = true) (f : List Byte → State → State) :
    cmdRow ctx op s f = .next s := cmdRow_stays ready (fun same => same ▸ waits) f

section
variable (t : CmdTaken s ctx op b)
include t

theorem CmdTaken.row (f : List Byte → State → State) : cmdRow ctx op s f = .next (f b (s.cmdTake ctx b)) :=
  (cmdRow_reason t.unit t.ready t.opcode t.ide f).trans (congrArg Host.Outcome.next (if_pos t.passes))

/-- A short command that its own checks pass acts, and its DONE record follows. -/
theorem CmdTaken.short {chk : List Byte → State → Nat} (ok : chk b (s.cmdTake ctx b) = 0) (act : List Byte → State → Nat × List Byte × State) :
    shortCmd ctx op s chk act = .next ((act b (s.cmdTake ctx b)).2.2.cmdDone ctx b (act b (s.cmdTake ctx b)).1 0 (act b (s.cmdTake ctx b)).2.1) :=
  (t.row _).trans (congrArg Host.Outcome.next (if_pos ok))

/-- A long command that its own checks pass opens an operation, and its acceptance follows. -/
theorem CmdTaken.long {chk : List Byte → State → Nat} (ok : chk b (s.cmdTake ctx b) = 0) (mk : List Byte → State → Nat × List Nat)
    (act : List Byte → Nat → State → State) : longCmd ctx op s chk mk act =
      .next (act b ((s.cmdTake ctx b).openLong ctx b (mk b (s.cmdTake ctx b)).1 (mk b (s.cmdTake ctx b)).2).1
        ((s.cmdTake ctx b).openLong ctx b (mk b (s.cmdTake ctx b)).1 (mk b (s.cmdTake ctx b)).2).2) :=
  (t.row _).trans (congrArg Host.Outcome.next (if_pos ok))

/-- A long command that its own checks fail is rejected with their first reason. -/
theorem CmdTaken.longRejects {chk : List Byte → State → Nat} {r : Nat} (bad : chk b (s.cmdTake ctx b) = r) (real : r ≠ 0)
    (mk : List Byte → State → Nat × List Nat) (act : List Byte → Nat → State → State) :
    longCmd ctx op s chk mk act = .next ((s.cmdTake ctx b).cmdReject ctx b r) := by
  subst bad
  exact (t.row _).trans (congrArg Host.Outcome.next (if_neg real))

/-- A control command acts on the open operation that HANDLE names. -/
theorem CmdTaken.control {o : LongOp} (handle : at' b 2 2 ≠ 0) (found : (s.cmdTake ctx b).longOp? ctx (at' b 2 2) = some o)
    (f : List Byte → LongOp → State → State) : controlCmd ctx op s f = .next (f b o (s.cmdTake ctx b)) := by
  rw [controlCmd, t.row, if_neg handle, found]

/-- A control command is rejected where HANDLE names no open operation. -/
theorem CmdTaken.controlRejects (absent : (s.cmdTake ctx b).longOp? ctx (at' b 2 2) = none) (f : List Byte → LongOp → State → State) :
    controlCmd ctx op s f = .next ((s.cmdTake ctx b).cmdReject ctx b 4) := by
  rw [controlCmd, t.row, absent, ite_self]

end

/-- A command with an undefined opcode is taken by the row of NOP, and rejected. -/
theorem execNopCommand_undefined (hc : ctx ≤ 16) (ready : s.cmdReady ctx = some b) (undefined : at' b 0 1 ∉ cmdOpcodes) :
    execNopCommand ctx s = .next ((s.cmdTake ctx b).cmdReject ctx b 1) := by
  have memory : at' b 0 1 ∉ [0x10, 0x11, 0x18, 0x1A, 0x23] :=
    fun h => undefined ((by decide : [0x10, 0x11, 0x18, 0x1A, 0x23] ⊆ cmdOpcodes) h)
  have row : (if cmdOpcodes.contains (at' b 0 1) then 0x01 else at' b 0 1) = at' b 0 1 := if_neg (by simpa using undefined)
  simp only [execNopCommand, ready, row]
  refine (cmdRow_reason hc ready rfl (ideWaits_other s ctx b memory) _).trans ?_
  rw [cmdReason_undefined undefined]
  rfl

end

end Sys2Proof.Machine
end

section
/-! NOP, KEY_EK, KEY_LOAD, RANK_WRITE, GROUP_WRITE and MEMBER_WRITE (R224, R316, R332, R467, R472, R477, R478): O51. -/

namespace Sys2Proof.Machine

/-- Settles O51: each command by the checks of its row, which its operands and state pass; an undefined opcode by FORMAT; a command that waits by the
rows, none of which takes it. -/
theorem shortCommands : Obligations.ShortCommands := by
  unfold Obligations.ShortCommands
  simp only [exec_nopCommand, exec_fusedRun, exec_cancel, exec_keyEk, exec_keyLoad, exec_rankWrite, exec_memberWrite, exec_jobStart, exec_groupWrite]
  refine ⟨?nop, ?undefined, ?noCommand, ?waits, ?keyEk, ?noRandomness, ?keyLoad, ?rankWrite, ?groupWrite, ?memberWrite⟩
  case nop =>
    intro s ctx b hc ready op passes
    simp only [execNopCommand, ready, op]
    exact (CmdTaken.ofOther hc ready op passes (by decide)).short rfl _
  case undefined => exact fun s ctx b hc ready op => execNopCommand_undefined hc ready op
  case noCommand =>
    intro s ctx _ absent
    simp only [execNopCommand, execFusedRun, execCancel, longCmd, controlCmd, absent, onUnit_stays, cmdRow_none absent, and_self]
  case waits =>
    intro s ctx b a n _ ready buffer uncovered
    have waits := ideWaits_uncovered s ctx b buffer uncovered
    simp only [execKeyEk, execKeyLoad, execRankWrite, execMemberWrite, execJobStart, shortCmd, longCmd, cmdRow_waits ready waits, and_self]
  case keyEk | noRandomness =>
    intro s ctx b hc ready op passes ide slot headwater deployed reach
    exact CmdTaken.short ⟨hc, ready, op, by simp [ide], passes⟩ (by simp [Nat.not_lt.2 slot, headwater, deployed, hostOk_of_le reach]) _
  case keyLoad =>
    intro s ctx b hc ready op passes ide slot headwater reach
    refine (CmdTaken.short ⟨hc, ready, op, by simp [ide], passes⟩ (by simp [Nat.not_lt.2 slot, headwater, hostOk_of_le reach]) _).trans ?_
    have host : (s.cmdTake ctx b).host = s.host := rfl
    simp only [host]
    cases (s.cmdTake ctx b).keyOpen ctx (at' b 12 1) (readBytes s.host (at' b 16 8) 1664) <;> rfl
  case rankWrite =>
    intro s ctx b j hc ready op passes ide least most inside job slot aligned reach
    refine (CmdTaken.short ⟨hc, ready, op, by simp [ide], passes⟩ ?_ _).trans ?_
    · simp [Nat.ne_of_gt least, Nat.not_lt.2 most, Nat.not_lt.2 inside, job, slot, isMul_of_mod aligned, hostOk_of_le reach]
    · rw [slot]; rfl
  case groupWrite =>
    intro s ctx b j hc ready op passes group job slot own invalid
    refine (CmdTaken.ofOther hc ready op passes (by decide)).short ?_ _
    simp only [own]
    simp [Nat.not_le.2 group, job, slot, invalid]
  case memberWrite =>
    intro s ctx b hc ready op passes ide least most job base len inside aligned reach
    refine CmdTaken.short ⟨hc, ready, op, by simp [ide], passes⟩ ?_ _
    simp [Nat.ne_of_gt least, Nat.not_lt.2 most, Nat.not_lt.2 base, Nat.not_lt.2 len, Nat.not_lt.2 inside, job, isMul_of_mod aligned,
      hostOk_of_le reach]

end Sys2Proof.Machine
end

section
/-! The long commands (R242, R254, R255, R376, R378, R473, R478, R481): O52. -/

namespace Sys2Proof.Machine

/-- Settles O52: each command by the checks of its row, which its operands and state pass, or whose first failure gives the reason. -/
theorem longCommands : Obligations.LongCommands := by
  unfold Obligations.LongCommands
  simp only [exec_imageLoad, exec_fusedRun, exec_checkpoint, exec_jobStart, exec_weightSwap, exec_regionRemap, exec_stackScrubFull, exec_selfTest,
    exec_wipe, exec_fwUpdate]
  refine ⟨?imageLoad, ?noImage, ?fusedRun, ?noRun, ?emptyRun, ?checkpoint, ?jobStart, ?weightSwap, ?regionRemap, ?stackScrub, ?selfTest, ?wipe,
    ?fwUpdate⟩
  case imageLoad =>
    intro s ctx b hc ready op passes run reach
    exact (CmdTaken.ofOther hc ready op passes (by decide)).long (by simp [run, reach]) _ _
  case noImage =>
    intro s ctx b hc ready op passes run reach
    exact (CmdTaken.ofOther hc ready op passes (by decide)).longRejects (by simp [run, reach]) (by decide) _ _
  case fusedRun =>
    intro s ctx b n hc ready op passes least most run aligned reach start again
    refine ((CmdTaken.ofOther hc ready op passes (by decide)).long ?_ _ _).trans ?_
    · simp [Nat.ne_of_gt least, Nat.not_lt.2 most, run, isMul_of_mod aligned, reach, start]
    · simp only [start, Option.getD_some, again]
  case noRun =>
    intro s ctx b hc ready op passes least most run reach
    refine (CmdTaken.ofOther hc ready op passes (by decide)).longRejects ?_ (by decide) _ _
    simp [Nat.ne_of_gt least, Nat.not_lt.2 most, run, reach]
  case emptyRun =>
    intro s ctx b hc ready op passes empty
    exact (CmdTaken.ofOther hc ready op passes (by decide)).longRejects (by simp [empty]) (by decide) _ _
  case checkpoint =>
    intro s ctx b hc ready op passes run
    exact (CmdTaken.ofOther hc ready op passes (by decide)).long (by simp [run]) _ _
  case jobStart =>
    intro s ctx b j hc ready op passes ide job slot rank idle bound reach
    refine CmdTaken.long ⟨hc, ready, op, by simp [ide], passes⟩ ?_ _ _
    simp [job, slot, rank, idle, bound, hostOk_of_le reach]
  case weightSwap =>
    intro s ctx b hc ready op passes mode man0 man1 key0 key1 gens swap
    refine (CmdTaken.ofOther hc ready op passes (by decide)).long ?_ _ _
    simp [Nat.not_lt.2 mode, man0, man1, key0, key1, gens, swap]
  case regionRemap =>
    intro s ctx b l hc ready op passes least most runs restoring rebuildAligned listAligned rebuild list read rects
    refine ((CmdTaken.ofOther hc ready op passes (by decide)).long ?_ _ _).trans ?_
    · simp only [read, if_pos rects, emptyOr_reached rebuild, emptyOr_reached list]
      simp [Nat.ne_of_gt least, Nat.not_lt.2 most, Nat.not_lt.2 runs, restoring, isMul_of_mod rebuildAligned, isMul_of_mod listAligned]
    · simp only [read]
  case stackScrub =>
    intro s ctx b hc ready op passes least most
    exact (CmdTaken.ofOther hc ready op passes (by decide)).long (by simp [Nat.ne_of_gt least, Nat.not_lt.2 most]) _ _
  case selfTest =>
    intro s ctx b hc ready op passes mask unused
    have free : (bitsSet 63 (at' b 16 8)).any (s.cmdTake ctx b).reachUsed = false := List.any_eq_false.2 (fun r hr => by simp [unused r hr])
    exact (CmdTaken.ofOther hc ready op passes (by decide)).long (by simp only [decide_eq_false (Nat.not_le.2 mask), free]; rfl) _ _
  case wipe =>
    intro s ctx b hc ready op passes context scope enabled off idle
    refine (CmdTaken.ofOther hc ready op passes (by decide)).long ?_ _ _
    simp [Nat.not_lt.2 context, Nat.not_lt.2 scope, enabled, off, idle]
  case fwUpdate =>
    intro s ctx b hc ready op passes least most other reach
    have single : ((s.cmdTake ctx b).eng ctx).ops.any (fun o => o.opcode == 0x33) = false :=
      List.any_eq_false.2 (fun o ho => by simp [other o ho])
    refine (CmdTaken.ofOther hc ready op passes (by decide)).long ?_ _ _
    simp only [decide_eq_false (Nat.not_lt.2 least), decide_eq_false (Nat.not_lt.2 most), single, hostOk_of_le reach]
    rfl

end Sys2Proof.Machine
end

section
/-! Long operations: SUSPEND, RESUME, CANCEL, suspend points, ends, deadlines and progress (R475, R477, R482 to R485): O53. -/

namespace Sys2Proof.Machine

/-! ### Events of an open operation (R475, R482, R483) -/

section
variable {s : State} {ctx h now : Nat} {w : Work} {o : LongOp} (hc : ctx ≤ 16) (found : s.longOp? ctx h = some o)
include hc found

/-- A pending operation at its suspend point is suspended. -/
theorem execSuspendPointReached_suspends (pending : o.state = 1) (here : s.suspendHere ctx o = true) (other : o.opcode ≠ 0x24) :
    execSuspendPointReached ctx h w s =
      .next (((s.workTo ctx o w).modLong ctx h (fun o => { o with state := 2 })).progressLong ctx h cSuspended) := by
  simp only [execSuspendPointReached, found]
  refine (onUnit_next s _ (decide_eq_true hc) (by simp [pending, here])).trans ?_
  rw [if_neg other]

theorem execLongOperationEnd_finishes (running : o.state = 0) :
    execLongOperationEnd ctx h now w s = .next ((s.atTime now).finishLong ctx o w) := by
  simp only [execLongOperationEnd, found]
  exact (onUnit_next s _ (decide_eq_true hc) (by simp [running])).trans (congrArg Host.Outcome.next (if_neg (by simp [running])))

/-- An operation in CANCEL_PENDING ends at its next suspend point with the code of its cancellation. -/
theorem execLongOperationEnd_cancelled (cancelled : o.state = 3) (other : o.opcode ≠ 0x21) :
    execLongOperationEnd ctx h now w s = .next (((s.atTime now).workTo ctx o w).endAs ctx h o.cancelCode) := by
  simp only [execLongOperationEnd, found]
  refine (onUnit_next s _ (decide_eq_true hc) (by simp [cancelled])).trans ?_
  rw [if_pos cancelled, if_neg other]

omit hc in
theorem execLongOperationEnd_suspended (suspended : o.state = 2) : execLongOperationEnd ctx h now w s = .next s := by
  simp only [execLongOperationEnd, found]
  exact onUnit_stays s _ (by simp [suspended])

/-- At its deadline an operation is cancelled, or runs on with a record where its rule refuses a CANCEL. -/
theorem execDeadlineExpiry_due {t : Nat} (live : o.state ≠ 3) (deadline : o.deadline = some t) (due : grain t ≤ grain (max now s.clk.now)) :
    execDeadlineExpiry ctx h now s = .next (if (s.atTime now).cancelRefused ctx o
      then ((s.atTime now).modLong ctx h (fun o => { o with deadline := none })).cairnLog 3 clsCe ctx cDeadline ctx []
      else (s.atTime now).cancelNow ctx o true) := by
  simp only [execDeadlineExpiry, found, deadline]
  exact onUnit_next s _ (decide_eq_true hc) (by simp [due, live])

theorem execProgressTimer_reports (elapsed : inWindow (max now s.clk.now) o.reportAt 100000000 = false) :
    execProgressTimer ctx h now w s =
      .next (((s.atTime now).workTo ctx o w).progressLong ctx h (if o.state = 2 then cSuspended else 0)) := by
  simp only [execProgressTimer, found]
  exact onUnit_next s _ (decide_eq_true hc) (by simp [elapsed])

omit hc in
theorem execProgressTimer_early (early : inWindow (max now s.clk.now) o.reportAt 100000000 = true) : execProgressTimer ctx h now w s = .next s := by
  simp only [execProgressTimer, found]
  exact onUnit_stays s _ (by simp [early])

end

/-- Settles O53: a control command by the state and the rule of the operation that HANDLE names; an event by the state of its operation. -/
theorem longOperations : Obligations.LongOperations := by
  unfold Obligations.LongOperations
  simp only [exec_suspend, exec_resume, exec_cancel, exec_suspendPointReached, exec_longOperationEnd, exec_deadlineExpiry, exec_progressTimer]
  refine ⟨?suspend, ?suspendRefused, ?resume, ?cancel, ?cancelRefused, ?noHandle, ?suspendPoint, ?finishes, ?cancelled, ?suspended, ?deadline,
    ?deadlineRefused, ?progress, ?early⟩
  case suspend =>
    intro s ctx b o hc ready op passes handle found running allowed
    refine ((CmdTaken.ofOther hc ready op passes (by decide)).control handle found _).trans (congrArg Host.Outcome.next ?_)
    rw [if_neg (by simp [running]), if_neg (by simpa using fun _ => allowed), if_pos running]
  case suspendRefused =>
    intro s ctx b o hc ready op passes handle found running refused
    refine ((CmdTaken.ofOther hc ready op passes (by decide)).control handle found _).trans (congrArg Host.Outcome.next ?_)
    rw [if_neg (by simp [running]), if_pos ⟨running, List.contains_iff_mem.2 refused⟩]
  case resume =>
    intro s ctx b o hc ready op passes handle found held other
    refine ((CmdTaken.ofOther hc ready op passes (by decide)).control handle found _).trans (congrArg Host.Outcome.next ?_)
    rw [if_neg (by omega), if_neg (fun swap => other swap.1)]
  case cancel =>
    intro s ctx b o hc ready op passes handle found live allowed
    refine ((CmdTaken.ofOther hc ready op passes (by decide)).control handle found _).trans (congrArg Host.Outcome.next ?_)
    rw [if_neg live, if_neg (by simp [allowed])]
  case cancelRefused =>
    intro s ctx b o hc ready op passes handle found live refused
    refine ((CmdTaken.ofOther hc ready op passes (by decide)).control handle found _).trans (congrArg Host.Outcome.next ?_)
    rw [if_neg live, if_pos refused]
  case noHandle => exact fun s ctx b hc ready op passes absent => (CmdTaken.ofOther hc ready op passes (by decide)).controlRejects absent _
  case suspendPoint => exact fun s ctx h w o hc found pending here other => execSuspendPointReached_suspends hc found pending here other
  case finishes => exact fun s ctx h now w o hc found running => execLongOperationEnd_finishes hc found running
  case cancelled => exact fun s ctx h now w o hc found cancelled other => execLongOperationEnd_cancelled hc found cancelled other
  case suspended => exact fun s ctx h now w o _ found suspended => execLongOperationEnd_suspended found suspended
  case deadline =>
    intro s ctx h now t o hc found live deadline due allowed
    exact (execDeadlineExpiry_due hc found live deadline due).trans (congrArg Host.Outcome.next (if_neg (by simp [allowed])))
  case deadlineRefused =>
    intro s ctx h now t o hc found live deadline due refused
    exact (execDeadlineExpiry_due hc found live deadline due).trans (congrArg Host.Outcome.next (if_pos refused))
  case progress => exact fun s ctx h now w o hc found elapsed => execProgressTimer_reports hc found elapsed
  case early => exact fun s ctx h now w o _ found early => execProgressTimer_early found early

end Sys2Proof.Machine
end

section
/-! What each command leaves of the parts of the state: the frame lemma of a command lifts no field of a part that mayChange does not list: O8. -/

namespace Sys2Proof.Machine

/-! ### Fields and parts -/

/-- The numbers of the fields of a part, as the promises of a frame number them. -/
def StatePart.fields : StatePart → List Nat
  | .clocks => [1]
  | .registers => [2, 3, 4]
  | .commandSlots => [5]
  | .rillStores => [6, 10]
  | .pools => [7, 11, 129]
  | .stacks => [8, 12, 52]
  | .hostMemory => [9]
  | .rills => [13]
  | .packets => [14, 15]
  | .cairn => [16, 20]
  | .engines => [17]
  | .msix => [18, 19, 23]
  | .sent => [21]
  | .draws => [22]
  | .gauges => [24, 25]
  | .memory => [26, 27, 28]
  | .headwater => [29, 30, 32, 33, 34, 35, 36, 37, 31]
  | .sequencers => [38, 39]
  | .recovery => [40, 41, 86, 54, 55, 56, 118, 119, 120]
  | .torus => [42, 43, 44, 45, 46, 50, 51]
  | .groups => [47, 48, 49, 53]
  | .power => [57, 58, 59, 60, 62, 63, 64, 65, 66, 67, 68, 69, 70, 71, 72, 73, 74, 75, 76, 77, 78, 79, 80, 81, 84, 85, 88, 90,
      91, 92, 89, 82, 83, 128]
  | .siteTime => [93, 94, 95, 96, 97, 98, 99, 100]
  | .background => [101, 102, 103]
  | .warden => [61, 104, 105, 106, 87, 107, 108, 109, 110, 111, 112, 113, 114, 115, 116, 117, 121, 122, 123, 124, 125, 126, 127]

/-- A part stands where each promise about its fields does. -/
theorem StatePart.same_eq (s t : State) (p : StatePart) : p.same s t = p.fields.Forall (fun i => (rels s t)[i]?.getD True) := by
  cases p
  all_goals rfl

theorem StatePart.mem_all (p : StatePart) : p ∈ StatePart.all := by
  cases p
  all_goals decide

/-! ### The masks of parts -/

/-- The mask that lifts promises by their numbers. -/
def maskOf (l : List Nat) : Nat := l.foldr (fun i m => 2 ^ i ||| m) 0

theorem maskOf_testBit {l : List Nat} {i : Nat} (h : i ∈ l) : (maskOf l).testBit i = true := by
  induction l with
  | nil => exact absurd h List.not_mem_nil
  | cons k l ih =>
    refine (Nat.testBit_or _ _ _).trans (Bool.or_eq_true_iff.2 ?_)
    rcases List.mem_cons.1 h with rfl | rest
    · exact .inl Nat.testBit_two_pow_self
    · exact .inr (ih rest)

/-- The mask that lifts the fields of a part, written out so that it is cheap to compare with that of a frame. -/
def StatePart.mask : StatePart → Nat
  | .clocks => 0x2
  | .registers => 0x1c
  | .commandSlots => 0x20
  | .rillStores => 0x440
  | .pools => 0x200000000000000000000000000000880
  | .stacks => 0x10000000001100
  | .hostMemory => 0x200
  | .rills => 0x2000
  | .packets => 0xc000
  | .cairn => 0x110000
  | .engines => 0x20000
  | .msix => 0x8c0000
  | .sent => 0x200000
  | .draws => 0x400000
  | .gauges => 0x3000000
  | .memory => 0x1c000000
  | .headwater => 0x3fe0000000
  | .sequencers => 0xc000000000
  | .recovery => 0x1c000000040000001c0030000000000
  | .torus => 0xc7c0000000000
  | .groups => 0x23800000000000
  | .power => 0x1000000001f3fffffde00000000000000
  | .siteTime => 0x1fe00000000000000000000000
  | .background => 0xe0000000000000000000000000
  | .warden => 0xfe3fff00008000002000000000000000

theorem StatePart.mask_eq (p : StatePart) : p.mask = maskOf p.fields := by
  cases p
  all_goals rfl

/-- No field is in two parts. -/
theorem StatePart.mask_apart {p q : StatePart} (h : p ≠ q) : p.mask &&& q.mask = 0 := by
  have apart : ∀ p ∈ StatePart.all, ∀ q ∈ StatePart.all, p ≠ q → p.mask &&& q.mask = 0 := by decide +kernel
  exact apart p p.mem_all q q.mem_all h

/-- The clocks' running forward is a promise about no field. -/
theorem StatePart.mask_forward (p : StatePart) : p.mask &&& 2 ^ 130 = 0 := by
  cases p
  all_goals rfl

/-- The mask that lifts the fields of parts, and the clocks' running forward. -/
def partsMask (l : List StatePart) : Nat := l.foldr (fun p m => p.mask ||| m) (2 ^ 130)

theorem partsMask_apart {l : List StatePart} {p : StatePart} (h : p ∉ l) : p.mask &&& partsMask l = 0 := by
  induction l with
  | nil => exact p.mask_forward
  | cons q l ih =>
    obtain ⟨other, rest⟩ := not_or.1 (fun listed => h (List.mem_cons.2 listed))
    exact (Nat.and_or_distrib_left _ _ _).trans (by rw [StatePart.mask_apart other]; exact (Nat.zero_or _).trans (ih rest))

/-- A part that is not listed stands. -/
theorem Kept.same {l : List StatePart} {s t : State} {p : StatePart} (k : Kept (partsMask l) s t) (h : p ∉ l) : p.same s t := by
  rw [StatePart.same_eq, List.forall_iff_forall_mem]
  intro i hi
  have lifted : p.mask.testBit i = true := p.mask_eq ▸ maskOf_testBit hi
  have cleared : (partsMask l).testBit i = false := by
    have apart : (p.mask &&& partsMask l).testBit i = false := by rw [partsMask_apart h, Nat.zero_testBit]
    rwa [Nat.testBit_and, lifted, Bool.true_and] at apart
  cases promise : (rels s t)[i]? with
  | none => trivial
  | some r => exact k.on i r promise cleared

/-! ### The frame of every command -/

/-- The frame lemma of a command lifts the fields of the parts that mayChange lists for it, and no other. -/
theorem exec_frame (s : State) (c : Instr) : KeptR (partsMask (mayChange c)) s (exec c s) := by
  -- Unfolded before the split, the table of mayChange is instantiated once and not in every case.
  delta mayChange
  cases c
  all_goals dsimp only
  case add a => exact KeptR.grow rfl (execAdd_kept a s)
  case sub a => exact KeptR.grow rfl (execSub_kept a s)
  case and a => exact KeptR.grow rfl (execAnd_kept a s)
  case or a => exact KeptR.grow rfl (execOr_kept a s)
  case xor a => exact KeptR.grow rfl (execXor_kept a s)
  case shl a => exact KeptR.grow rfl (execShl_kept a s)
  case shr a => exact KeptR.grow rfl (execShr_kept a s)
  case sra a => exact KeptR.grow rfl (execSra_kept a s)
  case mul a => exact KeptR.grow rfl (execMul_kept a s)
  case mulhu a => exact KeptR.grow rfl (execMulhu_kept a s)
  case cmpeq a => exact KeptR.grow rfl (execCmpeq_kept a s)
  case cmplt a => exact KeptR.grow rfl (execCmplt_kept a s)
  case cmpltu a => exact KeptR.grow rfl (execCmpltu_kept a s)
  case addi a => exact KeptR.grow rfl (execAddi_kept a s)
  case andi a => exact KeptR.grow rfl (execAndi_kept a s)
  case ori a => exact KeptR.grow rfl (execOri_kept a s)
  case xori a => exact KeptR.grow rfl (execXori_kept a s)
  case shli a => exact KeptR.grow rfl (execShli_kept a s)
  case shri a => exact KeptR.grow rfl (execShri_kept a s)
  case movi a => exact KeptR.grow rfl (execMovi_kept a s)
  case movhi a => exact KeptR.grow rfl (execMovhi_kept a s)
  case ld8 a => exact KeptR.grow rfl (execLd8_kept a s)
  case ld32 a => exact KeptR.grow rfl (execLd32_kept a s)
  case ld64 a => exact KeptR.grow rfl (execLd64_kept a s)
  case st8 a => exact KeptR.grow rfl (execSt8_kept a s)
  case st32 a => exact KeptR.grow rfl (execSt32_kept a s)
  case st64 a => exact KeptR.grow rfl (execSt64_kept a s)
  case ldp64 a => exact KeptR.grow rfl (execLdp64_kept a s)
  case stp64 a => exact KeptR.grow rfl (execStp64_kept a s)
  case amoadd a => exact KeptR.grow rfl (execAmoadd_kept a s)
  case amoswap a => exact KeptR.grow rfl (execAmoswap_kept a s)
  case j a => exact KeptR.grow rfl (execJ_kept a s)
  case jr a => exact KeptR.grow rfl (execJr_kept a s)
  case call a => exact KeptR.grow rfl (execCall_kept a s)
  case beq a => exact KeptR.grow rfl (execBeq_kept a s)
  case bne a => exact KeptR.grow rfl (execBne_kept a s)
  case blt a => exact KeptR.grow rfl (execBlt_kept a s)
  case bltu a => exact KeptR.grow rfl (execBltu_kept a s)
  case spawn a => exact KeptR.grow rfl (execSpawn_kept a s)
  case exit a => exact KeptR.grow rfl (execExit_kept a s)
  case exitComplete a => exact KeptR.grow rfl (execExitComplete_kept a s)
  case yieldOp a => exact KeptR.grow rfl (execYield_kept a s)
  case yieldExpiry a cyc => exact KeptR.grow rfl (execYieldExpiry_kept a cyc s)
  case waitev a => exact KeptR.grow rfl (execWaitev_kept a s)
  case signal a => exact KeptR.grow rfl (execSignal_kept a s)
  case tclaim a => exact KeptR.grow rfl (execTclaim_kept a s)
  case tfree a => exact KeptR.grow rfl (execTfree_kept a s)
  case fence a => exact KeptR.grow rfl (execFence_kept a s)
  case slotWake a => exact KeptR.grow rfl (execSlotWake_kept a s)
  case tld a => exact KeptR.grow rfl (execTld_kept a s)
  case tst a => exact KeptR.grow rfl (execTst_kept a s)
  case tzero a => exact KeptR.grow rfl (execTzero_kept a s)
  case tmma a => exact KeptR.grow rfl (execTmma_kept a s)
  case tmmas a => exact KeptR.grow rfl (execTmmas_kept a s)
  case tcvt a => exact KeptR.grow rfl (execTcvt_kept a s)
  case vadd a => exact KeptR.grow rfl (execVadd_kept a s)
  case vmul a => exact KeptR.grow rfl (execVmul_kept a s)
  case vmax a => exact KeptR.grow rfl (execVmax_kept a s)
  case vfma a => exact KeptR.grow rfl (execVfma_kept a s)
  case vexp2 a => exact KeptR.grow rfl (execVexp2_kept a s)
  case vrcp a => exact KeptR.grow rfl (execVrcp_kept a s)
  case vrsqrt a => exact KeptR.grow rfl (execVrsqrt_kept a s)
  case vredadd a => exact KeptR.grow rfl (execVredadd_kept a s)
  case vredmax a => exact KeptR.grow rfl (execVredmax_kept a s)
  case vbcast a => exact KeptR.grow rfl (execVbcast_kept a s)
  case unitOpComplete p u slot check now => exact KeptR.grow rfl (execUnitOpComplete_kept p u slot check now s)
  case sarm a => exact KeptR.grow rfl (execSarm_kept a s)
  case srearm a => exact KeptR.grow rfl (execSrearm_kept a s)
  case sstop a => exact KeptR.grow rfl (execSstop_kept a s)
  case racq a => exact KeptR.grow rfl (execRacq_kept a s)
  case rrel a => exact KeptR.grow rfl (execRrel_kept a s)
  case send a => exact KeptR.grow rfl (execSend_kept a s)
  case recv a => exact KeptR.grow rfl (execRecv_kept a s)
  case mfree a => exact KeptR.grow rfl (execMfree_kept a s)
  case csrr a => exact KeptR.grow rfl (execCsrr_kept a s)
  case csrw a => exact KeptR.grow rfl (execCsrw_kept a s)
  case trap a => exact KeptR.grow rfl (execTrap_kept a s)
  case nop a => exact KeptR.grow rfl (execNop_kept a s)
  case taskWdExpiry a cyc => exact KeptR.grow rfl (execTaskWdExpiry_kept a cyc s)
  case rillWdExpiry p => exact KeptR.grow rfl (execRillWdExpiry_kept p s)
  case write n => exact KeptR.grow rfl (execWrite_kept n s)
  case read n => exact KeptR.grow rfl (execRead_kept n s)
  case readData n => exact KeptR.grow rfl (execReadData_kept n s)
  case ack n => exact KeptR.grow rfl (execAck_kept n s)
  case msg n => exact KeptR.grow rfl (execMsg_kept n s)
  case msgRingEntry p => exact KeptR.grow rfl (execMsgRingEntry_kept p s)
  case poolRead n => exact KeptR.grow rfl (execPoolRead_kept n s)
  case poolWrite n => exact KeptR.grow rfl (execPoolWrite_kept n s)
  case holePacketArrival n => exact KeptR.grow rfl (execHolePacketArrival_kept n s)
  case packetAgeDiscard n router cyc => exact KeptR.grow rfl (execPacketAgeDiscard_kept n router cyc s)
  case flitEccError n router err now => exact KeptR.grow rfl (execFlitEccError_kept n router err now s)
  case memoryUncorrError p pool line now => exact KeptR.grow rfl (execMemoryUncorrError_kept p pool line now s)
  case spush n => exact KeptR.grow rfl (execSpush_kept n s)
  case sdata n => exact KeptR.grow rfl (execSdata_kept n s)
  case scredit n => exact KeptR.grow rfl (execScredit_kept n s)
  case hwConfirm n => exact KeptR.grow rfl (execHwConfirm_kept n s)
  case ezConfirm n => exact KeptR.grow rfl (execEzConfirm_kept n s)
  case streamStartDone p q => exact KeptR.grow rfl (execStreamStartDone_kept p q s)
  case streamStopDone p q => exact KeptR.grow rfl (execStreamStopDone_kept p q s)
  case streamTileIssue p q => exact KeptR.grow rfl (execStreamTileIssue_kept p q s)
  case streamOutInject p q => exact KeptR.grow rfl (execStreamOutInject_kept p q s)
  case sread n => exact KeptR.grow rfl (execSread_kept n s)
  case swrite n => exact KeptR.grow rfl (execSwrite_kept n s)
  case sfill n => exact KeptR.grow rfl (execSfill_kept n s)
  case sdrain n => exact KeptR.grow rfl (execSdrain_kept n s)
  case stackAccessComplete n corrected => exact KeptR.grow rfl (execStackAccessComplete_kept n corrected s)
  case translationWalkDone n corrected => exact KeptR.grow rfl (execTranslationWalkDone_kept n corrected s)
  case hwOpen n => exact KeptR.grow rfl (execHwOpen_kept n s)
  case hwClose n => exact KeptR.grow rfl (execHwClose_kept n s)
  case hwRearm n => exact KeptR.grow rfl (execHwRearm_kept n s)
  case hwSend n => exact KeptR.grow rfl (execHwSend_kept n s)
  case fetchIssue port slot => exact KeptR.grow rfl (execFetchIssue_kept port slot s)
  case data port d => exact KeptR.grow rfl (execData_kept port d s)
  case endMsg port d => exact KeptR.grow rfl (execEndMsg_kept port d s)
  case gradAck port d => exact KeptR.grow rfl (execGradAck_kept port d s)
  case fetchRetryTimeout port slot now => exact KeptR.grow rfl (execFetchRetryTimeout_kept port slot now s)
  case gradRetryTimeout n now => exact KeptR.grow rfl (execGradRetryTimeout_kept n now s)
  case neighbourDiscovery port body => exact KeptR.grow rfl (execNeighbourDiscovery_kept port body s)
  case echoRequest port body => exact KeptR.grow rfl (execEchoRequest_kept port body s)
  case pfcPause port prio pause => exact KeptR.grow rfl (execPfcPause_kept port prio pause s)
  case headwaterLinkDown port now => exact KeptR.grow rfl (execHeadwaterLinkDown_kept port now s)
  case headwaterPortUp port now => exact KeptR.grow rfl (execHeadwaterPortUp_kept port now s)
  case hostFetchReadDone slot frame => exact KeptR.grow rfl (execHostFetchReadDone_kept slot frame s)
  case hostGradWriteDone n => exact KeptR.grow rfl (execHostGradWriteDone_kept n s)
  case bind ctx slot => exact KeptR.grow rfl (execBind_kept ctx slot s)
  case bindDone ctx slot => exact KeptR.grow rfl (execBindDone_kept ctx slot s)
  case frontGo ctx => exact KeptR.grow rfl (execFrontGo_kept ctx s)
  case layerRebind ctx now => exact KeptR.grow rfl (execLayerRebind_kept ctx now s)
  case ezOpen n => exact KeptR.grow rfl (execEzOpen_kept n s)
  case ezClose n => exact KeptR.grow rfl (execEzClose_kept n s)
  case ezRearm n => exact KeptR.grow rfl (execEzRearm_kept n s)
  case ezContrib n check => exact KeptR.grow rfl (execEzContrib_kept n check s)
  case ezSend n => exact KeptR.grow rfl (execEzSend_kept n s)
  case opAdmit ctx now => exact KeptR.grow rfl (execOpAdmit_kept ctx now s)
  case slotReservationGrant now => exact KeptR.grow rfl (execSlotReservationGrant_kept now s)
  case reduceFallback ctx opn now => exact KeptR.grow rfl (execReduceFallback_kept ctx opn now s)
  case codewordReceive link lanes => exact KeptR.grow rfl (execCodewordReceive_kept link lanes s)
  case idle link => exact KeptR.grow rfl (execIdle_kept link s)
  case ackCredit link => exact KeptR.grow rfl (execAckCredit_kept link s)
  case nak link => exact KeptR.grow rfl (execNak_kept link s)
  case train link f => exact KeptR.grow rfl (execTrain_kept link f s)
  case linkTrainingDone link now => exact KeptR.grow rfl (execLinkTrainingDone_kept link now s)
  case linkTrainingTimeout link step now => exact KeptR.grow rfl (execLinkTrainingTimeout_kept link step now s)
  case linkStopDone link => exact KeptR.grow rfl (execLinkStopDone_kept link s)
  case grant n => exact KeptR.grow rfl (execGrant_kept n s)
  case chunk n check => exact KeptR.grow rfl (execChunk_kept n check s)
  case count n => exact KeptR.grow rfl (execCount_kept n s)
  case abort n => exact KeptR.grow rfl (execAbort_kept n s)
  case p2p n => exact KeptR.grow rfl (execP2p_kept n s)
  case p2pGrant n => exact KeptR.grow rfl (execP2pGrant_kept n s)
  case bcastStart n => exact KeptR.grow rfl (execBcastStart_kept n s)
  case bcastOpen n => exact KeptR.grow rfl (execBcastOpen_kept n s)
  case bcastAbort n => exact KeptR.grow rfl (execBcastAbort_kept n s)
  case bcastAck n => exact KeptR.grow rfl (execBcastAck_kept n s)
  case bcastTimeout job now => exact KeptR.grow rfl (execBcastTimeout_kept job now s)
  case jobTStart job now => exact KeptR.grow rfl (execJobTStart_kept job now s)
  case digest n => exact KeptR.grow rfl (execDigest_kept n s)
  case cbar n => exact KeptR.grow rfl (execCbar_kept n s)
  case wirePacketForward n => exact KeptR.grow rfl (execWirePacketForward_kept n s)
  case keyRetentionExpiry now => exact KeptR.grow rfl (execKeyRetentionExpiry_kept now s)
  case collMemberLost ctx opn now => exact KeptR.grow rfl (execCollMemberLost_kept ctx opn now s)
  case twinDigestTimeout ctx opn chunk now => exact KeptR.grow rfl (execTwinDigestTimeout_kept ctx opn chunk now s)
  case groupEntryValidate g word0 => exact KeptR.grow rfl (execGroupEntryValidate_kept g word0 s)
  case jobCtlWrite job value => exact KeptR.grow rfl (execJobCtlWrite_kept job value s)
  case stageWrite ctx value => exact KeptR.grow rfl (execStageWrite_kept ctx value s)
  case confluenceRetestDone t okMask => exact KeptR.grow rfl (execConfluenceRetestDone_kept t okMask s)
  case spareSwap p => exact KeptR.grow rfl (execSpareSwap_kept p s)
  case cmtFlashWriteDone => exact KeptR.grow rfl (execCmtFlashWriteDone_kept s)
  case holdRestore ctx => exact KeptR.grow rfl (execHoldRestore_kept ctx s)
  case rebuildListDone ctx code => exact KeptR.grow rfl (execRebuildListDone_kept ctx code s)
  case commitPointComplete ctx now => exact KeptR.grow rfl (execCommitPointComplete_kept ctx now s)
  case drainHoldResume ctx => exact KeptR.grow rfl (execDrainHoldResume_kept ctx s)
  case wearSkip ctx now => exact KeptR.grow rfl (execWearSkip_kept ctx now s)
  case inputStageClose now mv => exact KeptR.grow (by decide +kernel) (execInputStageClose_kept now mv s)
  case powerChipletEnable now capMv => exact KeptR.grow rfl (execPowerChipletEnable_kept now capMv s)
  case powerFail now mv lasted => exact KeptR.grow (by decide +kernel) (execPowerFail_kept now mv lasted s)
  case idealDiodeOpen => exact KeptR.grow rfl (execIdealDiodeOpen_kept s)
  case powerChipletFail n => exact KeptR.grow rfl (execPowerChipletFail_kept n s)
  case pitchIsolate pitch cause peak now => exact KeptR.grow rfl (execPitchIsolate_kept pitch cause peak now s)
  case efuseClear pitch current => exact KeptR.grow rfl (execEfuseClear_kept pitch current s)
  case pitchThermalThrottle pitch temp => exact KeptR.grow rfl (execPitchThermalThrottle_kept pitch temp s)
  case pitchStartDone pitch now => exact KeptR.grow rfl (execPitchStartDone_kept pitch now s)
  case pitchPowerGoodTimeout pitch now => exact KeptR.grow rfl (execPitchPowerGoodTimeout_kept pitch now s)
  case pitchStopDone pitch now => exact KeptR.grow rfl (execPitchStopDone_kept pitch now s)
  case pitchRailTestDone pitch mv => exact KeptR.grow rfl (execPitchRailTestDone_kept pitch mv s)
  case weirFrame b r => exact KeptR.grow rfl (execWeirFrame_kept b r s)
  case weirRegulate now drawnMj => exact KeptR.grow rfl (execWeirRegulate_kept now drawnMj s)
  case weirWardenTimeout now => exact KeptR.grow rfl (execWeirWardenTimeout_kept now s)
  case weirLock => exact KeptR.grow rfl (execWeirLock_kept s)
  case weirEnvelopeWrite off value => exact KeptR.grow rfl (execWeirEnvelopeWrite_kept off value s)
  case ptpSync domain now offset => exact KeptR.grow rfl (execPtpSync_kept domain now offset s)
  case ptpAnnounce domain now utcOffset leap midnight => exact KeptR.grow rfl (execPtpAnnounce_kept domain now utcOffset leap midnight s)
  case ppsEdge now ref10 => exact KeptR.grow rfl (execPpsEdge_kept now ref10 s)
  case ref10Loss now => exact KeptR.grow rfl (execRef10Loss_kept now s)
  case sourceLost now => exact KeptR.grow rfl (execSourceLost_kept now s)
  case holdoverTimeout now => exact KeptR.grow rfl (execHoldoverTimeout_kept now s)
  case stCtlWrite value => exact KeptR.grow rfl (execStCtlWrite_kept value s)
  case reacquire => exact KeptR.grow rfl (execReacquire_kept s)
  case timeSet hi => exact KeptR.grow rfl (execTimeSet_kept hi s)
  case utcOffsetChange now => exact KeptR.grow rfl (execUtcOffsetChange_kept now s)
  case apply => exact KeptR.grow rfl (execApply_kept s)
  case slotStart now r => exact KeptR.grow rfl (execSlotStart_kept now r s)
  case stackTempSample pos temp => exact KeptR.grow rfl (execStackTempSample_kept pos temp s)
  case stackUncorrError pos offset now => exact KeptR.grow rfl (execStackUncorrError_kept pos offset now s)
  case stackFail pos => exact KeptR.grow rfl (execStackFail_kept pos s)
  case stackTrainingDone pos ok repairs => exact KeptR.grow rfl (execStackTrainingDone_kept pos ok repairs s)
  case translationStartDone ctx => exact KeptR.grow rfl (execTranslationStartDone_kept ctx s)
  case translationStopDone ctx => exact KeptR.grow rfl (execTranslationStopDone_kept ctx s)
  case setWrite ctx which value => exact KeptR.grow rfl (execSetWrite_kept ctx which value s)
  case invalGo ctx range => exact KeptR.grow rfl (execInvalGo_kept ctx range s)
  case invalDone ctx => exact KeptR.grow rfl (execInvalDone_kept ctx s)
  case xlFaultClear ctx => exact KeptR.grow rfl (execXlFaultClear_kept ctx s)
  case bar2Read fn offset len tlp corrected => exact KeptR.grow rfl (execBar2Read_kept fn offset len tlp corrected s)
  case bar2Write fn offset bytes tlp corrected => exact KeptR.grow rfl (execBar2Write_kept fn offset bytes tlp corrected s)
  case keyEk ctx trngOk => exact KeptR.grow rfl (execKeyEk_kept ctx trngOk s)
  case keyLoad ctx => exact KeptR.grow rfl (execKeyLoad_kept ctx s)
  case rankWrite ctx => exact KeptR.grow rfl (execRankWrite_kept ctx s)
  case groupWrite ctx => exact KeptR.grow rfl (execGroupWrite_kept ctx s)
  case memberWrite ctx => exact KeptR.grow rfl (execMemberWrite_kept ctx s)
  case imageLoad ctx => exact KeptR.grow rfl (execImageLoad_kept ctx s)
  case fusedRun ctx => exact KeptR.grow rfl (execFusedRun_kept ctx s)
  case checkpoint ctx => exact KeptR.grow rfl (execCheckpoint_kept ctx s)
  case jobStart ctx => exact KeptR.grow rfl (execJobStart_kept ctx s)
  case weightSwap ctx => exact KeptR.grow rfl (execWeightSwap_kept ctx s)
  case regionRemap ctx => exact KeptR.grow rfl (execRegionRemap_kept ctx s)
  case stackScrubFull ctx => exact KeptR.grow rfl (execStackScrubFull_kept ctx s)
  case selfTest ctx => exact KeptR.grow rfl (execSelfTest_kept ctx s)
  case wipe ctx => exact KeptR.grow rfl (execWipe_kept ctx s)
  case fwUpdate ctx => exact KeptR.grow rfl (execFwUpdate_kept ctx s)
  case nopCommand ctx => exact KeptR.grow rfl (execNopCommand_kept ctx s)
  case suspend ctx => exact KeptR.grow rfl (execSuspend_kept ctx s)
  case resume ctx => exact KeptR.grow rfl (execResume_kept ctx s)
  case cancel ctx => exact KeptR.grow rfl (execCancel_kept ctx s)
  case suspendPointReached ctx handle w => exact KeptR.grow rfl (execSuspendPointReached_kept ctx handle w s)
  case longOperationEnd ctx handle now w => exact KeptR.grow rfl (execLongOperationEnd_kept ctx handle now w s)
  case deadlineExpiry ctx handle now => exact KeptR.grow rfl (execDeadlineExpiry_kept ctx handle now s)
  case progressTimer ctx handle now w => exact KeptR.grow rfl (execProgressTimer_kept ctx handle now w s)
  case cqHeadWrite ctx value => exact KeptR.grow rfl (execCqHeadWrite_kept ctx value s)
  case msixModerationExpiry ctx now => exact KeptR.grow rfl (execMsixModerationExpiry_kept ctx now s)
  case msixVectorUnmask fn vec => exact KeptR.grow rfl (execMsixVectorUnmask_kept fn vec s)
  case ceStopDone ctx => exact KeptR.grow rfl (execCeStopDone_kept ctx s)
  case functionLevelReset ctx => exact KeptR.grow rfl (execFunctionLevelReset_kept ctx s)
  case pcieReset perst => exact KeptR.grow rfl (execPcieReset_kept perst s)
  case ideIntegrityFail stream => exact KeptR.grow rfl (execIdeIntegrityFail_kept stream s)
  case getVersion doe req => exact KeptR.grow rfl (execGetVersion_kept doe req s)
  case getCapabilities doe req => exact KeptR.grow rfl (execGetCapabilities_kept doe req s)
  case negotiateAlgorithms doe req => exact KeptR.grow rfl (execNegotiateAlgorithms_kept doe req s)
  case getDigests doe req => exact KeptR.grow rfl (execGetDigests_kept doe req s)
  case getCertificate doe req => exact KeptR.grow rfl (execGetCertificate_kept doe req s)
  case challenge doe req => exact KeptR.grow rfl (execChallenge_kept doe req s)
  case getMeasurements doe req => exact KeptR.grow rfl (execGetMeasurements_kept doe req s)
  case keyExchange doe req => exact KeptR.grow rfl (execKeyExchange_kept doe req s)
  case finish doe req => exact KeptR.grow rfl (execFinish_kept doe req s)
  case keyUpdate doe req => exact KeptR.grow rfl (execKeyUpdate_kept doe req s)
  case heartbeat doe req => exact KeptR.grow rfl (execHeartbeat_kept doe req s)
  case endSession doe req => exact KeptR.grow rfl (execEndSession_kept doe req s)
  case getCsr doe req => exact KeptR.grow rfl (execGetCsr_kept doe req s)
  case setCertificate doe req => exact KeptR.grow rfl (execSetCertificate_kept doe req s)
  case vendorDefinedRequest doe req => exact KeptR.grow rfl (execVendorDefinedRequest_kept doe req s)
  case recoveryImage => exact KeptR.grow rfl (execRecoveryImage_kept s)
  case partitionWrite => exact KeptR.grow rfl (execPartitionWrite_kept s)
  case partitionRead => exact KeptR.grow rfl (execPartitionRead_kept s)
  case lifecycle => exact KeptR.grow rfl (execLifecycle_kept s)
  case warmReset => exact KeptR.grow rfl (execWarmReset_kept s)
  case warmResetBoot now => exact KeptR.grow rfl (execWarmResetBoot_kept now s)
  case wardenRestart now => exact KeptR.grow rfl (execWardenRestart_kept now s)
  case wardenCoreTakeover now => exact KeptR.grow rfl (execWardenCoreTakeover_kept now s)
  case recoveryFetchRetry now => exact KeptR.grow rfl (execRecoveryFetchRetry_kept now s)
  case recoveryFetchDone path image => exact KeptR.grow rfl (execRecoveryFetchDone_kept path image s)
  case firmwareStart now => exact KeptR.grow (by decide +kernel) (execFirmwareStart_kept now s)
  case startupTestDone pitch failed => exact KeptR.grow rfl (execStartupTestDone_kept pitch failed s)
  case ready now => exact KeptR.grow rfl (execReady_kept now s)
  case cairnFlushDone bad => exact KeptR.grow rfl (execCairnFlushDone_kept bad s)
  case flush => exact KeptR.grow rfl (execFlush_kept s)
  case cairnRead => exact KeptR.grow rfl (execCairnRead_kept s)
  case cairnReadDone => exact KeptR.grow rfl (execCairnReadDone_kept s)
  case gaugeCtlWrite ep g value => exact KeptR.grow rfl (execGaugeCtlWrite_kept ep g value s)
  case gaugeEnChange ep g => exact KeptR.grow rfl (execGaugeEnChange_kept ep g s)
  case gaugeWrite ep g off value => exact KeptR.grow rfl (execGaugeWrite_kept ep g off value s)
  case gaugeChunkBoundary ep g => exact KeptR.grow rfl (execGaugeChunkBoundary_kept ep g s)
  case enReq page => exact KeptR.grow rfl (execEnReq_kept page s)
  case stopReq page => exact KeptR.grow rfl (execStopReq_kept page s)
  case isolate page => exact KeptR.grow rfl (execIsolate_kept page s)
  case registerWrite fn off bytes tlp => exact KeptR.grow (by decide +kernel) (execRegisterWrite_kept fn off bytes tlp s)
  case cageInsert link n => exact KeptR.grow rfl (execCageInsert_kept link n s)
  case cageRemove link n now => exact KeptR.grow rfl (execCageRemove_kept link n now s)
  case coolantAlarm inletTenths flowTenths lastedMs => exact KeptR.grow rfl (execCoolantAlarm_kept inletTenths flowTenths lastedMs s)
  case undefinedOpcode a => exact KeptR.grow rfl (execUndefinedOpcode_kept a s)
  case instructionFetchFault a => exact KeptR.grow rfl (execInstructionFetchFault_kept a s)
  case eztexLinkDown link => exact KeptR.grow rfl (execEztexLinkDown_kept link s)
  case pitchThermalRecover pitch temp => exact KeptR.grow rfl (execPitchThermalRecover_kept pitch temp s)
  case standbyCoreTestDone pass => exact KeptR.grow rfl (execStandbyCoreTestDone_kept pass s)
  case perstNRelease => exact KeptR.grow rfl (execPerstNRelease_kept s)
  case pcieLinkUp width rate flit => exact KeptR.grow rfl (execPcieLinkUp_kept width rate flit s)

/-- Settles O8: a part that a command's row does not list stands, by the command's frame. -/
theorem frameOfEveryCommand : Obligations.FrameOfEveryCommand := by
  intro s t c p h unlisted
  exact ((exec_frame s c).on t h).same unlisted

end Sys2Proof.Machine
end

section
/-! The queue of waiting commands, what is sent and drawn, and the memories at reset: O1, O3, O5 and O7. -/

namespace Sys2Proof.Machine

/-- Settles O3: the queue is the first field of the frame of every command. -/
theorem queueUntouchedByExec : Obligations.QueueUntouchedByExec :=
  fun s t c h => ((exec_kept s c).on t h).get 0

/-- Settles O7: by the frame of every command. -/
theorem sentStaysSent : Obligations.SentStaysSent := by
  intro s t c h
  have kept := (exec_kept s c).on t h
  exact ⟨kept.get 132, kept.get 133⟩

/-- Settles O1: the two answers of a step. -/
theorem stepTakesFront : Obligations.StepTakesFront := ⟨fun _ _ _ => rfl, fun s idle => by simp only [step, idle]⟩

/-- Settles O5: the memories of the reset state are empty. -/
theorem resetMemoriesCanonical : Obligations.ResetMemoriesCanonical := ⟨rfl, rfl, rfl, rfl, rfl⟩

end Sys2Proof.Machine
end

section
/-! The SPDM responder (R504 to R507, R509): O55. -/

namespace Sys2Proof.Machine

/-! ### Requests and answers (R506) -/

/-- While firmware runs and the transport is up, a request's row gives its answer. -/
theorem spdmRow_answers {s : State} {doe : Bool} (fw : s.fwUp = true) (powered : s.inputStage = 2)
    (up : doe = false ∨ s.regB (rg clsPcie 0 0x100) 0 = true) (f : State → State) : spdmRow doe s f = .next (f s) := by
  have transport : (!doe || s.regB (rg clsPcie 0 0x100) 0) = true := by simpa using up
  exact whenB_next s f (by rw [fw, powered, transport]; rfl)

/-- Without firmware nothing answers, and over DOE nothing without a link. -/
theorem spdmRow_silent {s : State} {doe : Bool}
    (gone : s.fwUp = false ∨ s.inputStage ≠ 2 ∨ doe = true ∧ s.regB (rg clsPcie 0 0x100) 0 = false) (f : State → State) :
    spdmRow doe s f = .next s := by
  refine whenB_stays s f ?_
  rcases gone with fw | unpowered | ⟨doe, down⟩
  · simp [fw]
  · simp [unpowered]
  · simp [doe, down]

theorem spdmAlgorithms_eq : spdmAlgorithms = leBytes 2 Config.pciVendor ++ [1, 0, 2, 0, 3, 0, 4, 0] := rfl

section
variable (s : State) (doe : Bool) (req carries : List Byte)

/-- The answered request joins those of its transport. -/
theorem spdmReply_spdmOn : (s.spdmReply doe req carries).spdmOn doe = s.spdmOn doe ++ [req] := by
  simp [State.spdmReply, State.spdmOn, State.emit]

theorem spdmReply_spdmOn_other : (s.spdmReply doe req carries).spdmOn (!doe) = s.spdmOn (!doe) := by
  simp [State.spdmReply, State.spdmOn, State.emit]

theorem spdmReply_out : (s.spdmReply doe req carries).out = s.out ++ [.spdm doe (Config.spdmAnswer (s.spdmOn doe) req carries s.freeCtr)] := rfl

theorem spdmReply_regs : (s.spdmReply doe req carries).regs = s.regs := rfl

end

/-! ### SET_CERTIFICATE and IDE_KM (R505, R509) -/

section
variable {s : State} {doe : Bool} {req : List Byte} (fw : s.fwUp = true) (powered : s.inputStage = 2)
  (up : doe = false ∨ s.regB (rg clsPcie 0 0x100) 0 = true)
include fw powered up

/-- A request is answered; the owner's chain stays, or the offered chain replaces it in DEPLOYED. -/
theorem execSetCertificate_answers : ∃ t, execSetCertificate doe req s = .next t ∧ t.spdmOn doe = s.spdmOn doe ++ [req] ∧
    (t.ownerChain = s.ownerChain ∨ s.lcState = 2 ∧ Config.offeredChain req = some t.ownerChain) := by
  refine ⟨_, spdmRow_answers fw powered up _, ?_⟩
  split
  · next chain offered =>
    obtain ⟨⟨deployed, -⟩, chain⟩ := Option.ite_none_right_eq_some.1 offered
    exact ⟨spdmReply_spdmOn _ _ _ _, .inr ⟨deployed, chain⟩⟩
  · exact ⟨spdmReply_spdmOn _ _ _ _, .inl rfl⟩

theorem execSetCertificate_undeployed (other : s.lcState ≠ 2) : execSetCertificate doe req s = .next (s.spdmReply doe req [0]) := by
  refine (spdmRow_answers fw powered up _).trans ?_
  rw [if_neg (fun h => other h.1)]
  rfl

/-- IDE_KM's K_SET_GO, accepted over DOE, makes its stream Secure. -/
theorem execVendorDefinedRequest_answers : execVendorDefinedRequest doe req s =
    .next (if doe = true ∧ Config.spdmAccepts (s.spdmOn doe) req = true then
        (match Config.ideSetGo req with
        | some k => if k ≤ 8 then ((s.spdmReply doe req [1]).setB (rg clsSec 0 0x110) k true).ideWake else s.spdmReply doe req [1]
        | none => s.spdmReply doe req [0])
      else s.spdmReply doe req [0]) := by
  refine (spdmRow_answers fw powered up _).trans (congrArg Host.Outcome.next ?_)
  by_cases accepted : doe = true ∧ Config.spdmAccepts (s.spdmOn doe) req = true
  · rw [if_pos accepted, if_pos (Bool.and_eq_true_iff.2 accepted)]
    cases Config.ideSetGo req with
    | some k => rfl
    | none => rfl
  · rw [if_neg accepted, if_neg (fun h => accepted (Bool.and_eq_true_iff.1 h))]
    rfl

end

/-- Settles O55: each request's row is the responder's, with what its answer carries. -/
theorem spdmResponder : Obligations.SpdmResponder := by
  unfold Obligations.SpdmResponder
  refine ⟨?plain, ?algorithms, ?chains, ?signed, ?measurements, ?csr, ?reply, ?certificate, ?undeployed, ?vendor, ?silent⟩
  case plain =>
    intro s d r fw on up
    have answers := spdmRow_answers fw on up (fun s => s.spdmReply d r [])
    exact ⟨answers, answers, answers, answers, answers, answers⟩
  case algorithms =>
    intro s d r fw on up
    exact spdmAlgorithms_eq ▸ spdmRow_answers fw on up (fun s => s.spdmReply d r spdmAlgorithms)
  case chains =>
    intro s d r fw on up
    have answers := spdmRow_answers fw on up (fun s => s.spdmReply d r s.chainBytes)
    exact ⟨answers, answers⟩
  case signed =>
    intro s d r fw on up
    have answers := spdmRow_answers fw on up (fun s => s.spdmReply d r (s.chainBytes ++ s.measBytes))
    exact ⟨answers, answers⟩
  case measurements => exact fun s d r fw on up => spdmRow_answers fw on up (fun s => s.spdmReply d r s.measBytes)
  case csr => exact fun s d r fw on up => spdmRow_answers fw on up (fun s => s.spdmReply d r s.deviceId)
  case reply =>
    exact fun s d r x => ⟨spdmReply_out s d r x, spdmReply_spdmOn s d r x, spdmReply_spdmOn_other s d r x, spdmReply_regs s d r x⟩
  case certificate => exact fun s d r fw on up => execSetCertificate_answers fw on up
  case undeployed => exact fun s d r fw on up other => execSetCertificate_undeployed fw on up other
  case vendor => exact fun s d r fw on up => execVendorDefinedRequest_answers fw on up
  case silent =>
    intro s d r gone
    simp only [exec_getVersion, exec_getCapabilities, exec_negotiateAlgorithms, exec_getDigests, exec_getCertificate, exec_challenge,
      exec_getMeasurements, exec_getCsr, exec_setCertificate, exec_keyExchange, exec_finish, exec_keyUpdate, exec_heartbeat, exec_endSession,
      exec_vendorDefinedRequest]
    have silent := fun f => spdmRow_silent gone f
    exact ⟨silent _, silent _, silent _, silent _, silent _, silent _, silent _, silent _, silent _, silent _, silent _, silent _, silent _,
      silent _, silent _⟩

end Sys2Proof.Machine
end

section
/-! Mailbox requests and life-cycle transitions (R491, R513, R545): O56 fails in a state whose Cairn buffer holds records of a severity that is
none of the eight. -/

namespace Sys2Proof.Machine

/-- CAIRN_FLUSH_DONE in a transition: the flush is done, and the fuse is burnt. -/
theorem execCairnFlushDone_burns {s : State} {bad : List Nat} {n : Nat} (flushing : s.cairn.flushing = true) (powered : s.inputStage ≠ 3)
    (pending : s.lcPend = some n) : execCairnFlushDone bad s = .next ((s.flushAll bad).lcBurn n) := by
  have kept := State.flushAll_kept s bad
  have powered : (s.flushAll bad).inputStage ≠ 3 := fun h => powered (Eq.trans (Eq.symm (kept.get 57)) h)
  have pending : (s.flushAll bad).lcPend = some n := Eq.trans (kept.get 113) pending
  refine (whenB_next s _ flushing).trans (congrArg Host.Outcome.next ((if_neg powered).trans ?_))
  simp only [pending]

/-- A record whose severity is none of the eight: the count of dropped records of that severity (R551) would stand at the address of SEC_STATUS. -/
def strayRecord (seq : Nat) : CairnRec :=
  { sev := 262124, flags := 0, code := 0, cls := 0, inst := 0, utc := 0, ctx := 0, seq, stamp := 0, items := [] }

/-- A PROVISIONED module with one fuse burnt waits for the flush that ends step 1 of its transition to DEPLOYED (R513). Seven stray records are in the
buffer, and every flash cell is retired, so that the flush drops them; a warm reset is held. -/
def strayFlush : State :=
  { State.reset with
    regs := [(aSec 0x100, 9)], lcPend := some 2, warmHeld := some 1,
    cairn := { buf := (List.range 7).map (fun i => strayRecord (0x100000 + i)), flash := [], retired := flashCells, ceiling := 0, flushing := true,
               reading := none } }

theorem strayFlush_lcCount : strayFlush.lcCount = 1 := by decide +kernel

/-- The seven dropped records are counted in SEC_STATUS. -/
theorem strayFlush_counted : (strayFlush.flushAll []).lcCount = 2 := by decide +kernel

theorem strayFlush_burnt : ((strayFlush.flushAll []).lcBurn 2).lcState = lcOf ((strayFlush.flushAll []).lcCount + 1) := by decide +kernel

/-- Refutes O56: records of a severity that is none of the eight are counted, as they are dropped, in the life-cycle count itself, so that the state
after the transition does not follow the count before the flush. -/
theorem not_mailboxAndTransitions : ¬ Obligations.MailboxAndTransitions := by
  unfold Obligations.MailboxAndTransitions
  intro h
  obtain ⟨-, -, -, -, -, -, -, -, burns, -⟩ := h
  obtain ⟨t, ran, -, state, -⟩ := burns strayFlush [] 2 rfl (by decide) rfl
  have burnt := ran.symm.trans (execCairnFlushDone_burns (bad := []) rfl (by decide) rfl)
  obtain rfl : t = (strayFlush.flushAll []).lcBurn 2 := Host.Outcome.next.inj burnt
  rw [strayFlush_burnt, strayFlush_counted, strayFlush_lcCount] at state
  exact absurd state (by decide)

end Sys2Proof.Machine
end

section
/-! The Warden's starts (R499 to R503, R526 to R533, R573, R583) and the reads of Cairn records (R545, R548): O57. -/

namespace Sys2Proof.Machine

/-! ### A Cairn record and the registers of other pages (R544, R550, R589) -/

/-- A register that no record's placement, status or message writes. -/
structure CairnApart (x : Nat) : Prop where
  cairn : ∀ off, off < 0x1000 → x ≠ aCairn off
  sent : x ≠ rg clsPcie 0 0x128
  sentHigh : x ≠ rg clsPcie 0 0x12C

section
variable {x : Nat} (hx : CairnApart x)
include hx

theorem msiSend_apart (s : State) (fn vec : Nat) : RegKept x s (s.msiSend fn vec) := by
  unfold State.msiSend
  extract_lets
  split
  exact .ite (RegKept.ofRegs rfl) (.after (RegKept.setReg64 hx.sent hx.sentHigh _) (RegKept.ofRegs rfl))

theorem cairnSync_apart (s : State) : RegKept x s s.cairnSync := by
  have set : ∀ (t : State) off v, off < 0x1000 → RegKept x t (t.setReg (aCairn off) v) := fun _ off v low => RegKept.setReg (hx.cairn off low) v
  unfold State.cairnSync
  exact .after (set _ _ _ (by decide)) (.after (set _ _ _ (by decide)) (.after (set _ _ _ (by decide))
    (.after (RegKept.setReg64 (hx.cairn _ (by decide)) (hx.cairn 0x114 (by decide)) _) (.after (set _ _ _ (by decide)) (set _ _ _ (by decide))))))

theorem cairnCount_apart (s : State) (w : Placed) {past drop sev : Nat} (hp : past < 0x1000) (hd : drop + 4 * sev < 0x1000) :
    RegKept x s (s.cairnCount w past drop sev) := by
  cases w with
  | stored => exact .refl
  | overwrote7 => exact RegKept.incSat (hx.cairn _ hp)
  | dropped => exact RegKept.incSat (hx.cairn _ hd)

/-- A record changes, beside the Cairn's page, only the LAST_CAIRN_SEQ of its own. -/
theorem cairnLog_apart (s : State) {sev cls inst : Nat} (hs : sev < 8) (h : x ≠ rg cls inst 0x1C) (h4 : x ≠ rg cls inst 0x1C + 4) (code ctx : Nat)
    (items : List (Nat × List Byte)) : RegKept x s (s.cairnLog sev cls inst code ctx items) := by
  unfold State.cairnLog
  refine .ite .refl ?_
  extract_lets -merge -underBinder seq ceiling
  split
  extract_lets -merge -underBinder noFw r
  split
  extract_lets -merge -underBinder cairn placed counted logged evt
  have counts : RegKept x s counted := .after (cairnCount_apart hx _ _ (by decide) (by omega))
    (.after (RegKept.setReg64 (s := placed) (hx.cairn _ (by decide)) (hx.cairn 0x10C (by decide)) _) (RegKept.ofRegs rfl))
  have logs : RegKept x counted logged := .after (cairnSync_apart hx _) (RegKept.setReg64 h h4 _)
  have tells : RegKept x logged { logged.msiSend 0 (logged.regF evt 0 7) with lastEvtMsi := some logged.clk.now } :=
    .after (RegKept.ofRegs (s := logged.msiSend 0 (logged.regF evt 0 7)) rfl) (msiSend_apart hx logged _ _)
  exact .after (.ite tells .refl) (.after logs counts)

end

/-- SEC_STATUS. -/
theorem secStatus_apart : CairnApart (aSec 0x100) :=
  ⟨fun off h => by
    show 0x800100 ≠ 0x700000 + off
    omega, by decide, by decide⟩

/-! ### The boot ROM (R497, R499, R502) -/

/-- A register that no start of the boot ROM writes. -/
structure BootApart (x : Nat) : Prop where
  mailbox : x ≠ aMb 0x104
  fuses : x ≠ aSec 0x108
  stage : x ≠ 0x108

section
variable {x : Nat} (hx : BootApart x)
include hx

theorem bootTake_apart (s : State) (b : List Byte) (i : BootImg) : RegKept x s (s.bootTake b i) := by
  have burnt : RegKept x s (s.burnFor b) := by
    unfold State.burnFor
    exact .ite (.after (RegKept.setReg hx.fuses _) (RegKept.setReg hx.fuses _)) (RegKept.setReg hx.fuses _)
  exact .after (RegKept.ofRegs (s := (s.burnFor b).setWait false) rfl) (.after (RegKept.setB hx.mailbox _ _) burnt)

theorem bootFetch_apart (s : State) (pcie : Bool) : RegKept x s (s.bootFetch pcie) :=
  .after (RegKept.ofRegs (s := s.setWait pcie) rfl) (RegKept.setB hx.mailbox _ _)

theorem bootRom_apart (s : State) (update : Bool) : RegKept x s (s.bootRom update) := by
  have begun : RegKept x s (s.setB (aMb 0x104) 2 false).lcFinish := by
    have finished : ∀ t : State, RegKept x t t.lcFinish := fun t => .ite .refl (RegKept.ofRegs rfl)
    exact .after (finished _) (RegKept.setB hx.mailbox _ _)
  have halts : ∀ t : State, RegKept x t (t.setStage 5) := fun t => RegKept.setReg hx.stage _
  unfold State.bootRom
  extract_lets w
  refine .after (.ite (halts w) (.ite (halts w) (.ite (bootFetch_apart hx w _) (.ite (bootFetch_apart hx w _) ?_)))) begun
  split
  · exact .ite (bootFetch_apart hx w _) (bootTake_apart hx w _ _)
  · exact bootFetch_apart hx w _

end

theorem bootFetch_waits (s : State) (pcie : Bool) : (s.bootFetch pcie).regB (aMb 0x104) 3 = pcie := regB_setB s _ pcie (by decide)

/-- RECOVERY_FETCH_RETRY 10 s after an attempt. -/
theorem execRecoveryFetchRetry_retries {s : State} {now : Nat} (fetching : s.fetching = true)
    (rested : inWindow (max now s.clk.now) s.fetchAt 10000000000 = false) : execRecoveryFetchRetry now s =
      .next ((s.atTime now).bootFetch (if s.bootSrc = 1 ∨ s.bootSrc = 2 then s.regB (aMb 0x104) 3 else !s.regB (aMb 0x104) 3)) := by
  have path : (s.atTime now).regB (aMb 0x104) 3 = s.regB (aMb 0x104) 3 := (RegKept.atTime _ s now).regB 3
  have source : (s.atTime now).bootSrc = s.bootSrc := (RegKept.atTime 0x104 s now).regF 0 2
  rw [← path, ← source]
  exact whenB_next s _ (by rw [fetching, rested]; rfl)

/-! ### Restarts of the Warden (R428, R502, R503) -/

/-- The state in which the Warden leaves its firmware. -/
def State.unattended (s : State) : State := if s.fwUp then s.fwGone else s

/-- Whether firmware runs, and since when it does not. -/
def State.attendance (s : State) : Bool × Option Nat := (s.fwUp, s.wardenGone)

theorem wardenDown_attendance (s : State) (update : Bool) : Same State.attendance s.unattended (s.wardenDown update) := by
  have stands : ∀ {m : Nat} {t u : State}, Kept m t u → m.testBit 87 = false → m.testBit 85 = false → Same State.attendance t u :=
    fun k fw gone => ⟨Prod.ext (k.get 87 rfl fw) (k.get 85 rfl gone)⟩
  have ended : ∀ t : State, Same State.attendance t { t.mbEnd cCancelled 0 with lcPend := none } := fun t =>
    .after (t := t.mbEnd cCancelled 0) ⟨rfl⟩ (stands (State.mbEnd_kept t _ _) rfl rfl)
  unfold State.wardenDown
  exact .after (stands (State.bootRom_kept _ update) rfl rfl) (.after (.ite (ended _) .refl) ⟨rfl⟩)

theorem wardenDown_fwUp (s : State) (update : Bool) : (s.wardenDown update).fwUp = false := by
  have gone : s.unattended.fwUp = false := by
    unfold State.unattended
    split
    · rfl
    · next absent => exact Bool.eq_false_of_not_eq_true absent
  exact (congrArg Prod.fst (wardenDown_attendance s update).on).trans gone

/-- A register that the restart writes neither for the mailbox's request nor for the count of restarts. -/
theorem wardenDown_apart {x : Nat} (hx : BootApart x) (result : x ≠ aMb 0x118) (served : x ≠ aMb 0x11C) (restarts : x ≠ aSec 0x10C) (s : State)
    (update : Bool) : RegKept x s.unattended (s.wardenDown update) := by
  have ended : ∀ t : State, RegKept x t (t.mbEnd cCancelled 0) := fun t =>
    .after (RegKept.setReg served _) (.after (RegKept.setReg result _) (.after (RegKept.setReg hx.mailbox _)
      (.after (RegKept.setReg hx.mailbox _) (RegKept.setReg hx.mailbox _))))
  unfold State.wardenDown
  exact .after (bootRom_apart hx _ update) (.after (.ite (.after (t := State.mbEnd _ cCancelled 0) (RegKept.ofRegs rfl) (ended _)) .refl)
    (.after (RegKept.setReg restarts _) (RegKept.ofRegs rfl)))

theorem unattended_apart {x : Nat} (h : x ≠ aWeir 0x104) (s : State) : RegKept x s s.unattended := by
  have gone : RegKept x s s.fwGone := by
    unfold State.fwGone
    exact .after (RegKept.setReg h _) (RegKept.ofRegs rfl)
  exact .ite gone .refl

/-- WARDEN_RESTART of firmware that runs: the Weir holds its set point. -/
theorem execWardenRestart_ends {s : State} (up : s.fwUp = true) (powered : s.inputStage = 2) (now : Nat) :
    ∃ t, execWardenRestart now s = .next t ∧ t.fwUp = false ∧ t.wardenGone = some (s.atTime now).clk.now ∧ t.rills = s.rills ∧
      t.net = s.net ∧ t.store = s.store ∧ t.stack = s.stack ∧ t.regF (aWeir 0x104) 0 2 = 1 := by
  have row : execWardenRestart now s = .next ((s.atTime now).wardenDown false) := whenB_next s _ (by rw [up, powered]; rfl)
  have kept := (execWardenRestart_kept now s).on _ row
  have runs : (s.atTime now).fwUp = true := Eq.trans ((State.atTime_kept s now).get 87) up
  have leaves : (s.atTime now).unattended = (s.atTime now).fwGone := if_pos runs
  have gone := congrArg Prod.snd (wardenDown_attendance (s.atTime now) false).on
  have mode : RegKept (aWeir 0x104) (s.atTime now).unattended ((s.atTime now).wardenDown false) :=
    wardenDown_apart ⟨by decide, by decide, by decide⟩ (by decide) (by decide) (by decide) _ _
  rw [leaves] at gone mode
  exact ⟨_, row, wardenDown_fwUp _ _, gone, kept.get 13, kept.get 14, kept.get 6, kept.get 8,
    (mode.regF 0 2).trans (regF_setF _ _ (by decide) (by decide))⟩

/-- The two cores have changed their parts (R503). -/
def State.coresSwapped (s : State) : State := (s.setB (aSec 0x100) 11 (!s.regB (aSec 0x100) 11)).setB (aSec 0x100) 10 false

theorem coresSwapped_active (s : State) : s.coresSwapped.regB (aSec 0x100) 11 = !s.regB (aSec 0x100) 11 :=
  (regB_setF_other _ _ _ (by decide)).trans (regB_setB s _ _ (by decide))

theorem coresSwapped_standby (s : State) : s.coresSwapped.regB (aSec 0x100) 10 = false := regB_setB _ _ false (by decide)

/-- WARDEN_CORE_TAKEOVER: the failed core is to be tested. -/
theorem execWardenCoreTakeover_swaps {s : State} (powered : s.inputStage = 2) (standby : s.regB (aSec 0x100) 10 = true) (now : Nat) :
    ∃ t, execWardenCoreTakeover now s = .next t ∧ t.fwUp = false ∧ t.coreTest = true ∧ t.regB (aSec 0x100) 11 = !s.regB (aSec 0x100) 11 ∧
      t.regB (aSec 0x100) 10 = false ∧ t.rills = s.rills := by
  have row : execWardenCoreTakeover now s = .next ((({ s.coresSwapped with coreTest := true } : State).atTime now).wardenDown false) :=
    whenB_next s _ (by rw [powered, standby]; rfl)
  have status : ∀ u : State, RegKept (aSec 0x100) u ((({ u with coreTest := true } : State).atTime now).wardenDown false) := fun u =>
    .after (wardenDown_apart ⟨by decide, by decide, by decide⟩ (by decide) (by decide) (by decide) _ _)
      (.after (unattended_apart (by decide) _) (.after (RegKept.atTime _ _ now) (RegKept.ofRegs rfl)))
  exact ⟨_, row, wardenDown_fwUp _ _, Eq.trans ((State.wardenDown_kept _ false).get 123) ((State.atTime_kept _ now).get 123),
    ((status _).regB 11).trans (coresSwapped_active s), ((status _).regB 10).trans (coresSwapped_standby s),
    ((execWardenCoreTakeover_kept now s).on _ row).get 13⟩

/-! ### Firmware starts (R428, R491, R526, R530) -/

/-- The state in which firmware has started from an image, before it looks at the Protection Table. -/
def State.fwBegun (s : State) (now : Nat) (i : BootImg) : State :=
  let s := { s.atTime now with fwUp := true, wardenGone := none, boot := none, running := some i,
                               restarts := if (s.running.map (fun (x : BootImg) => x.digest)).getD i.digest = i.digest then s.restarts else [] }
  let s := ((s.setF (aWeir 0x104) 0 2 0).setB (aMb 0x104) 2 true).setRegN (aSec 0x104) i.version
  ((s.setF (aSec 0x10C) 0 2 i.slot).setF (aSec 0x10C) 2 6 i.svn).setF (aSec 0x10C) 8 2 i.path

/-- The fields that a start of firmware changes at once. -/
abbrev begunMask : Nat := 2 ^ 1 + 2 ^ 2 + 2 ^ 85 + 2 ^ 87 + 2 ^ 107 + 2 ^ 108 + 2 ^ 109

theorem fwBegun_kept (s : State) (now : Nat) (i : BootImg) : Kept begunMask s (s.fwBegun now i) := by
  unfold State.fwBegun
  refine Kept.step (State.setF_kept ..) rfl (Kept.step (State.setF_kept ..) rfl (Kept.step (State.setF_kept ..) rfl ?_))
  refine Kept.step (State.setRegN_kept ..) rfl (Kept.step (State.setB_kept ..) rfl (Kept.step (State.setF_kept ..) rfl ?_))
  exact Kept.upd_wardenGone_fwUp_boot_running_restarts (s := s.atTime now) rfl (Kept.grow rfl (State.atTime_kept s now))

theorem fwBegun_secStatus (s : State) (now : Nat) (i : BootImg) : RegKept (aSec 0x100) s (s.fwBegun now i) := by
  unfold State.fwBegun
  refine .after (RegKept.setReg (by decide) _) (.after (RegKept.setReg (by decide) _) (.after (RegKept.setReg (by decide) _) ?_))
  refine .after (RegKept.setReg (by decide) _) (.after (RegKept.setReg (by decide) _) (.after (RegKept.setReg (by decide) _) ?_))
  exact .after (t := s.atTime now) (RegKept.ofRegs rfl) (RegKept.atTime _ s now)

/-- The fields that isolations and failures may change which the table had to wait for, as the promises of a frame number them. -/
abbrev dueMask : Nat := 2 ^ 2 + 2 ^ 16 + 2 ^ 19 + 2 ^ 20 + 2 ^ 21 + 2 ^ 41 + 2 ^ 80 + 2 ^ 81

/-- Where no pitch waits to join. -/
theorem tableDue_kept_of_none {s : State} (nobody : s.startPend = []) : Kept dueMask s s.tableDue := by
  have isolated : Kept dueMask s (s.isoPend.foldl State.pitchTable { s with isoPend := [] }).failuresDue :=
    Kept.step (State.failuresDue_kept _) rfl
      (Kept.foldl _ (fun _ k p => Kept.step (State.pitchTable_kept _ p) rfl k) (Kept.upd_isoPend (s := s) rfl Kept.here))
  have joins : (s.isoPend.foldl State.pitchTable { s with isoPend := [] }).failuresDue.startPend = [] := Eq.trans (isolated.get 82) nobody
  unfold State.tableDue
  simp only [joins]
  exact isolated

/-- The Protection Table locks, and shows in SEC_STATUS whether its record was good. -/
theorem ptBuild_lcState (s : State) : s.ptBuild.lcState = s.lcState := by
  have words : ∀ (t : State) w v, RegKept (aSec 0x100) t (t.setRegN (aSec (0x400 + 4 * w)) v) := fun t w v => RegKept.setReg (by
    show 0x800100 ≠ 0x800000 + (0x400 + 4 * w)
    omega) _
  have bits : ∀ (t : State) b c, ((t.setB (aSec 0x100) 8 b).setB (aSec 0x100) 9 c).lcState = t.lcState := fun t b c =>
    (regF_setF_other _ _ _ (by decide)).trans (regF_setF_other _ _ _ (by decide))
  unfold State.ptBuild
  extract_lets good r built locked
  have locks : locked.lcState = s.lcState := (bits _ _ _).trans (RegKept.regF (.foldl (fun t w => words t w _) _ s) 0 3)
  split
  · exact locks
  · exact ((cairnLog_apart secStatus_apart locked (by decide) (by decide) (by decide) _ _ _).regF 0 3).trans locks

/-- The fields that a first start may change before it reads the map, as the promises of a frame number them. -/
abbrev firstMask : Nat := 2 ^ 2 + 2 ^ 16 + 2 ^ 19 + 2 ^ 20 + 2 ^ 21 + 2 ^ 68 + 2 ^ 93 + 2 ^ 94 + 2 ^ 95 + 2 ^ 96 + 2 ^ 100

/-- A first start halts where there is no Core Map Table, and the module is not RETURNED (R530). -/
theorem firstStart_halts {s : State} (bare : s.cmtCopy = none) (other : s.lcState ≠ 3) : s.firstStart.stage = 5 := by
  have quiet : ∀ t : State, RegKept (aSec 0x100) t (if nfld (t.regN 0x104) 3 2 = 3 then t.cairnLog 4 clsGlobal 0 0 noCtx [] else t) := fun t =>
    .ite (cairnLog_apart secStatus_apart t (by decide) (by decide) (by decide) _ _ _) .refl
  have acquires : ∀ t : State, RegKept (aSec 0x100) t t.timeAcquire := fun t => by
    unfold State.timeAcquire
    exact .after (RegKept.setB (by decide) _ _) (.after (RegKept.setReg (by decide) _) (RegKept.ofRegs rfl))
  unfold State.firstStart
  extract_lets u1 u2 cold u3 u4
  have k2 : Kept firstMask s u2 :=
    Kept.ite (Kept.step (State.cairnLog_kept ..) rfl (Kept.grow rfl (State.ptBuild_kept s))) (Kept.grow rfl (State.ptBuild_kept s))
  have k3 : Kept firstMask s u3 := Kept.ite (Kept.step (State.timeAcquire_kept u2) rfl k2) k2
  have k4 : Kept firstMask s u4 := Kept.ite (Kept.upd_weirPend (s := u3) rfl k3) k3
  have bare4 : u4.cmtCopy = none := by
    rw [State.cmtCopy, show u4.cmtA = s.cmtA from k4.get 118, show u4.cmtB = s.cmtB from k4.get 119]
    exact bare
  have r2 : RegKept (aSec 0x100) u1 u2 := quiet u1
  have r3 : RegKept (aSec 0x100) u2 u3 := .ite (acquires u2) .refl
  have r4 : RegKept (aSec 0x100) u3 u4 := .ite (RegKept.ofRegs rfl) .refl
  have status : RegKept (aSec 0x100) u1 u4 := .after r4 (.after r3 r2)
  have other4 : u4.lcState ≠ 3 := fun h => other ((ptBuild_lcState s).symm.trans ((status.regF 0 3).symm.trans h))
  have halts : ((u4.setStage 5).cairnLog 7 clsGlobal 0 0 noCtx []).stage = 5 :=
    (congrArg (fld · 0 3) (cairnLog_other (by decide) (u4.setStage 5) _ _ _ _ _ _ (by decide) (by decide))).trans
      (regF_setF u4 0x108 (by decide) (by decide))
  simp only [bare4, if_neg other4]
  exact halts

section
variable {s : State} {i : BootImg} (booted : s.boot = some i) (down : s.fwUp = false) (powered : s.inputStage = 2)
include booted down powered

theorem execFirmwareStart_begins (now : Nat) :
    execFirmwareStart now s =
      .next (if (s.fwBegun now i).regB (aSec 0x100) 8 then (s.fwBegun now i).tableDue else (s.fwBegun now i).firstStart) := by
  have waits : ¬ (s.fwUp = true ∨ s.inputStage ≠ 2) := by simp [down, powered]
  have running : (s.atTime now).running = s.running := (State.atTime_kept s now).get 108
  have restarts : (s.atTime now).restarts = s.restarts := (State.atTime_kept s now).get 109
  refine (whenSome_next s _ booted).trans (congrArg Host.Outcome.next ((if_neg waits).trans ?_))
  unfold State.fwBegun
  rw [← running, ← restarts]

/-- A verified image starts and runs. -/
theorem execFirmwareStart_runs (now : Nat) :
    ∃ t, execFirmwareStart now s = .next t ∧ t.fwUp = true ∧ t.boot = none ∧ t.running = some i ∧ t.wardenGone = none := by
  refine ⟨_, execFirmwareStart_begins booted down powered now, ?_⟩
  split
  · have k := State.tableDue_kept (s.fwBegun now i)
    exact ⟨k.get 87, k.get 107, k.get 108, k.get 85⟩
  · have k := State.firstStart_kept (s.fwBegun now i)
    exact ⟨k.get 87, k.get 107, k.get 108, k.get 85⟩

/-- A start after the first leaves the rills and the memories. -/
theorem execFirmwareStart_again (built : s.regB (aSec 0x100) 8 = true) (nobody : s.startPend = []) (now : Nat) :
    ∃ t, execFirmwareStart now s = .next t ∧ t.rills = s.rills ∧ t.net = s.net ∧ t.store = s.store ∧ t.pool = s.pool ∧
      t.stack = s.stack ∧ t.seqrs = s.seqrs := by
  have begun := fwBegun_kept s now i
  have built : (s.fwBegun now i).regB (aSec 0x100) 8 = true := ((fwBegun_secStatus s now i).regB 8).trans built
  have kept : Kept (dueMask ||| begunMask) s (s.fwBegun now i).tableDue :=
    Kept.step (tableDue_kept_of_none (Eq.trans (begun.get 82) nobody)) rfl (Kept.grow rfl begun)
  refine ⟨(s.fwBegun now i).tableDue, (execFirmwareStart_begins booted down powered now).trans (congrArg _ (if_pos built)), ?_⟩
  exact ⟨kept.get 13, kept.get 14, kept.get 6, kept.get 7, kept.get 8, kept.get 38⟩

/-- The first start after a reset halts where there is no Core Map Table. -/
theorem execFirmwareStart_halts (first : s.regB (aSec 0x100) 8 = false) (bare : s.cmtCopy = none) (other : s.lcState ≠ 3) (now : Nat) :
    ∃ t, execFirmwareStart now s = .next t ∧ t.fwUp = true ∧ t.stage = 5 := by
  have begun := fwBegun_kept s now i
  have status := fwBegun_secStatus s now i
  have bare : (s.fwBegun now i).cmtCopy = none := by
    rw [State.cmtCopy, show (s.fwBegun now i).cmtA = s.cmtA from begun.get 118, show (s.fwBegun now i).cmtB = s.cmtB from begun.get 119]
    exact bare
  have first : ¬ (s.fwBegun now i).regB (aSec 0x100) 8 = true := ne_true_of_eq_false ((status.regB 8).trans first)
  exact ⟨_, (execFirmwareStart_begins booted down powered now).trans (congrArg _ (if_neg first)), (State.firstStart_kept _).get 87,
    firstStart_halts bare (fun returned => other ((status.regF 0 3).symm.trans returned))⟩

end

/-! ### READY (R526, R532, R583) -/

theorem startDone_global {cls : Nat} (h : cls ≠ clsGlobal) (s : State) (inst : Nat) {f : State → State} (stops : ∀ t, GlobalKept t (f t)) :
    GlobalKept s (s.startDone cls inst f) := by
  have word : ∀ (t : State) lo n v, GlobalKept t (t.setF (rg cls inst 0xC) lo n v) := fun t => GlobalKept.setF (le_rg h inst 0xC)
  unfold State.startDone
  exact .after (.ite (.after (stops _) (.after (word _ _ _ _) (word _ _ _ _))) .refl) (word s _ _ _)

theorem ceOn_global (s : State) (c : Nat) : GlobalKept s (s.ceOn c) := by
  have stops : ∀ t : State, GlobalKept t (t.ceAtStop c) := fun t => .after (ceSync_global _ c) (setEng_global t c _)
  have drains : ∀ t : State, GlobalKept t (t.ceDrain c) := fun t => .after (ceSync_global _ c) (cqDrain_global t c _)
  exact .after (drains _) (startDone_global (by decide) s c stops)

theorem linkAtStart_global (s : State) (l : Nat) : GlobalKept s (s.linkAtStart l) := by
  have word : ∀ (t : State) off v, GlobalKept t (t.setReg (rg clsLink l off) v) := fun t off => GlobalKept.setReg (le_rg (by decide) l off)
  have begins : ∀ (x : LinkSt) v, GlobalKept s ((s.setLink l x).setRegN (aLink l 0x104) v) := fun x v =>
    .after (word _ _ _) (GlobalKept.ofRegs rfl)
  unfold State.linkAtStart
  refine .ite (word s _ _) ?_
  extract_lets reset u
  have begun : GlobalKept s u := begins _ _
  exact .ite (.after (GlobalKept.ofRegs (s := u) rfl) begun) begun

/-- The state in which the module is READY and the pages whose start waited have gone on. -/
def State.readied (s : State) (now : Nat) : State :=
  let s := s.atTime now
  let s := (s.setStage 4).setReg64 0x118 s.clk.now
  let s := (List.range 17).foldl (fun s c => if s.pst clsCe c = stStarting then s.ceOn c else s) s
  (List.range 76).foldl (fun s l => if s.pst clsLink l = stStarting then s.linkAtStart l else s) s

theorem readied_stage (s : State) (now : Nat) : (s.readied now).stage = 4 := by
  have set : (((s.atTime now).setStage 4).setReg64 0x118 (s.atTime now).clk.now).stage = 4 :=
    (congrArg (fld · 0 3) (setReg64_other _ (by decide) (by decide))).trans (regF_setF (s.atTime now) 0x108 (by decide) (by decide))
  have links : ∀ t : State, GlobalKept t
      ((List.range 76).foldl (fun s l => if s.pst clsLink l = stStarting then s.linkAtStart l else s) t) := fun t =>
    .foldl (fun u l => .ite (linkAtStart_global u l) .refl) _ t
  have engines : ∀ t : State, GlobalKept t
      ((List.range 17).foldl (fun s c => if s.pst clsCe c = stStarting then s.ceOn c else s) t) := fun t =>
    .foldl (fun u c => .ite (ceOn_global u c) .refl) _ t
  have kept := Same.after (links _) (engines (((s.atTime now).setStage 4).setReg64 0x118 (s.atTime now).clk.now))
  exact (congrArg (fld · 0 3) (GlobalKept.reg kept (x := 0x108) (by decide))).trans set

theorem readied_kept (s : State) (now : Nat) : Kept (2 ^ 1 + 2 ^ 2 + 2 ^ 9 + 2 ^ 17 + 2 ^ 19 + 2 ^ 21 + 2 ^ 43) s (s.readied now) := by
  unfold State.readied
  refine Kept.foldl _ (fun _ k l => Kept.ite (Kept.step (State.linkAtStart_kept _ l) rfl k) k) ?_
  refine Kept.foldl _ (fun _ k c => Kept.ite (Kept.step (State.ceOn_kept _ c) rfl k) k) ?_
  exact Kept.step (State.setReg64_kept ..) rfl (Kept.step (State.setStage_kept ..) rfl (Kept.grow rfl (State.atTime_kept s now)))

/-- READY of a module that meets the conditions of R532, with no reset held. -/
theorem execReady_readies {s : State} (up : s.fwUp = true) (stage : 1 ≤ s.stage ∧ s.stage ≤ 3) (ok : s.readyOk = true)
    (unheld : s.warmHeld = none) (now : Nat) : execReady now s = .next (s.readied now) := by
  have held : (s.readied now).warmHeld = none := Eq.trans ((readied_kept s now).get 121) unheld
  have started : (s.stage == 1 || s.stage == 2 || s.stage == 3) = true := by
    simp only [Bool.or_eq_true, beq_iff_eq]
    omega
  refine (whenB_next s _ (by rw [up, started, ok]; rfl)).trans (congrArg Host.Outcome.next ?_)
  unfold State.readied at held
  unfold State.readied
  simp only [held]

/-! ### Reads of Cairn records (R545, R548) -/

theorem findRec_least {seq sev : Nat} {l : List CairnRec} {r : CairnRec} (h : findRec seq sev l = some r) : seq ≤ r.seq ∧ sev ≤ r.sev := by
  simpa using List.find?_some h

/-- The record that a read returns is one that it searched for. -/
theorem cairnPick_least {s : State} {seq sev : Nat} {r : CairnRec} {fl : Bool} (h : s.cairnPick seq sev = some (r, fl)) :
    seq ≤ r.seq ∧ sev ≤ r.sev := by
  unfold State.cairnPick at h
  split at h
  · next b f hb hf =>
    split at h
    · cases h
      exact findRec_least hb
    · cases h
      exact findRec_least hf
  · next b hb _ =>
    cases h
    exact findRec_least hb
  · next f _ hf =>
    cases h
    exact findRec_least hf
  · cases h

theorem execFlush_begins {s : State} (served : s.served = true) :
    ∃ t, execFlush s = .next t ∧ t.cairn = { s.cairn with flushing := true } :=
  ⟨_, whenB_next s _ served, (State.cairnSync_kept _).get 16⟩

/-- CAIRN_READ while no search runs. -/
theorem execCairnRead_searches {s : State} (served : s.served = true) (idle : s.regB (aCairn 0x17C) 0 = false) :
    ∃ t, execCairnRead s = .next t ∧ t.cairn.reading = some (s.reg64 (aCairn 0x170), s.regF (aCairn 0x178) 8 3) ∧
      t.regB (aCairn 0x17C) 0 = true ∧ t.regB (aCairn 0x17C) 1 = false := by
  refine ⟨_, (whenB_next s _ served).trans (congrArg Host.Outcome.next (if_neg (ne_true_of_eq_false idle))), rfl, ?busy, ?done⟩
  case busy => exact (regB_setF_other _ _ _ (by decide)).trans (regB_setB _ _ true (by decide))
  case done => exact regB_setB _ _ false (by decide)

theorem execCairnReadDone_finds {s : State} {q m : Nat} {r : CairnRec} {fl : Bool} (reading : s.cairn.reading = some (q, m))
    (pick : s.cairnPick q m = some (r, fl)) (word : r.seq < 2 ^ 64) : ∃ t, execCairnReadDone s = .next t ∧ t.cairn.reading = none ∧
      t.reg64 (aCairn 0x180) = r.seq ∧ t.regN (aCairn 0x17C) = 6 + 8 * b2n fl := by
  have ends : s.cairnReadEnd q m = (((({ s with cairn := { s.cairn with reading := none } } : State).setRdData r.bytes).setReg64 (aCairn 0x180)
      r.seq).setRegN (aCairn 0x17C) (2 + 4 + 8 * b2n fl)) := by
    have same : ({ s with cairn := { s.cairn with reading := none } } : State).cairnPick q m = some (r, fl) := pick
    unfold State.cairnReadEnd
    simp only [same]
  have kept := Kept.step (State.setRegN_kept _ (aCairn 0x17C) (2 + 4 + 8 * b2n fl)) rfl (Kept.step (State.setReg64_kept _ (aCairn 0x180) r.seq) rfl
    (State.setRdData_kept { s with cairn := { s.cairn with reading := none } } r.bytes))
  refine ⟨_, (whenSome_next s _ reading).trans (congrArg Host.Outcome.next ends), ?ended, ?found, ?status⟩
  case ended => exact congrArg CairnSt.reading (kept.get 16)
  case found =>
    refine (reg64_congr (State.reg_setReg_other _ _ (by decide)) (State.reg_setReg_other _ _ (by decide))).trans ?_
    exact (reg64_setReg64 _ _ _).trans (Nat.mod_eq_of_lt word)
  case status =>
    refine (regN_setRegN _ _ _).trans ?_
    cases fl
    · rfl
    · rfl

theorem execCairnReadDone_misses {s : State} {q m : Nat} (reading : s.cairn.reading = some (q, m)) (pick : s.cairnPick q m = none) :
    ∃ t, execCairnReadDone s = .next t ∧ t.cairn.reading = none ∧ t.regN (aCairn 0x17C) = 2 := by
  have ends : s.cairnReadEnd q m = ({ s with cairn := { s.cairn with reading := none } } : State).setRegN (aCairn 0x17C) 2 := by
    have same : ({ s with cairn := { s.cairn with reading := none } } : State).cairnPick q m = none := pick
    unfold State.cairnReadEnd
    simp only [same]
  exact ⟨_, (whenSome_next s _ reading).trans (congrArg Host.Outcome.next ends), rfl, regN_setRegN _ _ _⟩

/-! ### The other rows -/

/-- WARM_RESET_BOOT 1 ms after the reset began. -/
theorem execWarmResetBoot_boots {s : State} {now t0 : Nat} (warm : s.warmAt = some t0) (elapsed : inWindow (max now s.clk.now) t0 1000000 = false)
    (powered : s.inputStage = 2) :
    execWarmResetBoot now s = .next ((((s.atTime now).warmClear (s.regF 0x108 4 2)).cairnSync).bootRom false) :=
  (whenSome_next s _ warm).trans (congrArg Host.Outcome.next (if_pos ⟨elapsed, powered⟩))

theorem execWarmResetBoot_early {s : State} {now t0 : Nat} (warm : s.warmAt = some t0) (early : inWindow (max now s.clk.now) t0 1000000 = true) :
    execWarmResetBoot now s = .next s :=
  (whenSome_next s _ warm).trans (congrArg Host.Outcome.next (if_neg (fun h => Bool.false_ne_true (h.1.symm.trans early))))

/-- STARTUP_TEST_DONE of a pitch without failures wipes its memories. -/
theorem execStartupTestDone_passes {s : State} {p : Nat} (hp : p < 252) (tested : p ∈ s.testing) :
    ∃ t, execStartupTestDone p [] s = .next t ∧ t.testing = rem s.testing p ∧ t.regs = s.regs :=
  ⟨_, onUnit_next s _ (decide_eq_true hp) (List.contains_iff_mem.2 tested), (State.wipeRills_kept _ _).get 84, (State.wipeRills_kept _ _).get 2⟩

/-- PCIE_LINK_UP to a port that is down, no wider than PCIE_MAXW. -/
theorem execPcieLinkUp_trains {s : State} {w r : Nat} (powered : s.inputStage = 2) (released : s.perstLow = false)
    (down : s.regB (rg clsPcie 0 0x100) 0 = false) (hw : w ≤ 2) (hr : r ≤ 2) (width : min 2 (nfld (s.regN 0x104) 5 2) ≤ w) :
    execPcieLinkUp w r (r == 2) s = .next (s.setF (rg clsPcie 0 0x100) 0 6 (1 + 2 * w + 8 * r + 32 * b2n (r == 2))) :=
  whenB_next s _ (by simp [powered, released, down, hw, hr, width])

/-- STANDBY_CORE_TEST_DONE once firmware runs. -/
theorem execStandbyCoreTestDone_ends {s : State} (tested : s.coreTest = true) (up : s.fwUp = true) (pass : Bool) :
    execStandbyCoreTestDone pass s = .next (if pass then ({ s with coreTest := false } : State).setB (aSec 0x100) 10 pass
      else (({ s with coreTest := false } : State).setB (aSec 0x100) 10 pass).cairnLog 6 clsGlobal 0 0 noCtx []) :=
  whenB_next s _ (Bool.and_eq_true_iff.2 ⟨tested, up⟩)

/-- RECOVERY_FETCH_DONE over the path that is asked. -/
theorem execRecoveryFetchDone_takes {s : State} {path : Nat} (fetching : s.fetching = true)
    (asked : path = 1 ∧ s.regB (aMb 0x104) 3 = true ∨ path = 2 ∧ s.regB (aMb 0x104) 3 = false) (b : List Byte) :
    execRecoveryFetchDone path b s = .next (match s.fwCheck b path with | some i => s.bootFetched b i | none => s) := by
  refine (whenB_next s _ ?_).trans rfl
  rcases asked with ⟨rfl, pcie⟩ | ⟨rfl, port⟩
  · simp [fetching, pcie]
  · simp [fetching, port]

theorem execReady_unready {s : State} (unready : s.readyOk = false) (now : Nat) : execReady now s = .next s :=
  whenB_stays s _ (by rw [unready, Bool.and_false])

/-- Settles O57: each row's answer, with what its next state shows. -/
theorem wardenStartsAndCairnReads : Obligations.WardenStartsAndCairnReads := by
  unfold Obligations.WardenStartsAndCairnReads
  refine ⟨?warmBoot, ?warmEarly, ?restart, ?takeover, ?coreTest, ?retry, ?fetched, ?starts, ?again, ?halts, ?startupTest, ?ready, ?unready,
    ?perst, ?linkUp, ?flush, ?read, ?busy, ?found, ?missed⟩
  case warmBoot => exact fun s now t0 warm elapsed powered => execWarmResetBoot_boots warm elapsed powered
  case warmEarly => exact fun s now t0 warm early => execWarmResetBoot_early warm early
  case restart => exact fun s now up powered => execWardenRestart_ends up powered now
  case takeover => exact fun s now powered standby => execWardenCoreTakeover_swaps powered standby now
  case coreTest => exact fun s tested up => ⟨execStandbyCoreTestDone_ends tested up true, execStandbyCoreTestDone_ends tested up false⟩
  case retry => exact fun s now fetching rested => ⟨_, execRecoveryFetchRetry_retries fetching rested, rfl, rfl, bootFetch_waits _ _⟩
  case fetched => exact fun s path b fetching asked => execRecoveryFetchDone_takes fetching asked b
  case starts => exact fun s now i booted down powered => execFirmwareStart_runs booted down powered now
  case again => exact fun s now i booted down powered built nobody => execFirmwareStart_again booted down powered built nobody now
  case halts =>
    exact fun s now i booted down powered first bare other => execFirmwareStart_halts booted down powered first bare other now
  case startupTest => exact fun s p hp tested => execStartupTestDone_passes hp tested
  case ready =>
    intro s now up stage ok unheld
    have ready := readied_stage s now
    exact ⟨_, execReady_readies up stage ok unheld now, ready, (readied_kept s now).get 122, by rw [State.readyN, ready]; rfl⟩
  case unready => exact fun s now unready => execReady_unready unready now
  case perst => exact fun s => rfl
  case linkUp => exact fun s w r powered released down hw hr width => execPcieLinkUp_trains powered released down hw hr width
  case flush => exact fun s served => execFlush_begins served
  case read => exact fun s served idle => execCairnRead_searches served idle
  case busy => exact fun s served busy => (whenB_next s _ served).trans (congrArg Host.Outcome.next (if_pos busy))
  case found =>
    intro s q m r fl reading pick word
    obtain ⟨least, severe⟩ := cairnPick_least pick
    exact ⟨least, severe, execCairnReadDone_finds reading pick word⟩
  case missed => exact fun s q m reading pick => execCairnReadDone_misses reading pick

end Sys2Proof.Machine
end

section
/-! The rows of the commands: what each answers where the units that it names exist, and where one does not: O2. -/

namespace Sys2Proof.Machine

/-- An answer that is a next state always, and the state itself where a unit that the command names does not exist. -/
structure Row (units : Bool) (s : State) (o : Host.Outcome State Fault Refusal) : Prop where
  answers : ∃ t, o = .next t
  absent : units = false → o = .next s

/-! ### The shapes of a row -/

namespace Row
variable {units ok g : Bool} {s : State} {f : State → State} {o : Host.Outcome State Fault Refusal}

/-- Where a command names no unit, an answer is enough. -/
theorem ofAnswer (h : ∃ t, o = .next t) : Row true s o := ⟨h, fun absent => absurd absent (by decide)⟩

theorem next (t : State) : Row true s (.next t) := .ofAnswer ⟨t, rfl⟩

theorem stays : Row units s (.next s) := ⟨⟨s, rfl⟩, fun _ => rfl⟩

/-- A row that looks for its unit. -/
theorem onUnit (h : units = ok) : Row units s (Machine.onUnit ok g s f) := by
  subst h
  refine ⟨?_, fun absent => if_neg (by simp [absent])⟩
  by_cases k : (units && g) = true
  · obtain ⟨hu, hg⟩ := Bool.and_eq_true_iff.1 k
    exact ⟨f s, onUnit_next s f hu hg⟩
  · exact ⟨s, if_neg k⟩

/-- A row in which a slot issues looks for its slot. -/
theorem issue {a : SlotId} {op : Nat} {f : Issue → State → State} : Row a.ok s (execIssue op a s f) := onUnit rfl

theorem whenB : Row true s (Machine.whenB g s f) := by
  cases g
  · exact .next s
  · exact .next (f s)

theorem whenSome {α : Type} {x : Option α} {f : α → State → State} : Row true s (Machine.whenSome x s f) := by
  cases x
  · exact .next s
  · exact .next _

/-- A row that looks for its unit before all else. -/
theorem unitRow (h : units = ok) (found : Row true s o) : Row units s (Machine.unitRow ok s o) := by
  subst h
  cases units
  · exact stays
  · exact found

/-- A command slot's row looks for its context. -/
theorem cmdRow {ctx op : Nat} {f : List Byte → State → State} (h : units = decide (ctx ≤ 16)) :
    Row units s (Machine.cmdRow ctx op s f) := by
  unfold Machine.cmdRow
  split
  · exact onUnit h
  · exact onUnit h

/-- A page's row looks for its page. -/
theorem pageRow {page : Nat} {f : Nat → Nat → State → State} : Row (pageAt page).isSome s (Machine.pageRow page s f) := by
  unfold Machine.pageRow
  cases pageAt page
  · exact stays
  · exact whenB

end Row

/-- The contexts are the 17 from 0 to 16. -/
theorem ctx_unit (ctx : Nat) : decide (ctx < 17) = decide (ctx ≤ 16) := decide_eq_decide.2 Nat.lt_succ_iff

/-- The cages of the links and of the ports. -/
theorem cage_unit (link : Bool) (n : Nat) :
    decide (n < if link then 76 else 32) = if link then decide (n < 76) else decide (n < 32) := by
  cases link
  · rfl
  · rfl

/-- The registers of a gauge that a command may write. -/
theorem gaugeWrite_unit (ep g off : Nat) : (decide (ep < 36) && decide (g < 8) && [0x04, 0x08, 0x10, 0x14, 0x18, 0x1C].contains off)
    = (gaugeOk ep g && (off == 4 || off == 8 || off == 0x10 || off == 0x14 || off == 0x18 || off == 0x1C)) := by
  refine congrArg (decide (ep < 36) && decide (g < 8) && ·) ?_
  simp only [List.contains_cons, List.contains_nil, Bool.or_false, Bool.or_assoc]

/-! ### The rows that look for their unit in a list -/

theorem execHolePacketArrival_row (i : Nat) (s : State) :
    Row true s (execHolePacketArrival i s) := by
  unfold execHolePacketArrival
  split
  · exact .next s
  · exact .whenB

theorem execStackAccessComplete_row (i : Nat) (corrected : Corrected) (s : State) :
    Row true s (execStackAccessComplete i corrected s) := by
  unfold execStackAccessComplete
  split
  · exact .next s
  · exact .whenB

theorem execGradRetryTimeout_row (n now : Nat) (s : State) :
    Row true s (execGradRetryTimeout n now s) := by
  unfold execGradRetryTimeout
  split
  · exact .next s
  · exact .whenB

theorem execHostGradWriteDone_row (n : Nat) (s : State) :
    Row true s (execHostGradWriteDone n s) := by
  unfold execHostGradWriteDone
  split
  · exact .next s
  · exact .whenB

theorem execSlotReservationGrant_row (now : Nat) (s : State) :
    Row true s (execSlotReservationGrant now s) := by
  unfold execSlotReservationGrant
  split
  · exact .next s
  · split
    · exact .next s
    · exact .whenB

theorem execTranslationWalkDone_row (i : Nat) (corrected : Corrected) (s : State) :
    Row true s (execTranslationWalkDone i corrected s) := by
  unfold execTranslationWalkDone
  split
  · exact .next s
  · split
    · exact .next _
    · exact .next _

theorem execPacketAgeDiscard_row (i : Nat) (router : Pos) (cyc : Nat) (s : State) :
    Row (inGrid router.col router.row) s (execPacketAgeDiscard i router cyc s) := by
  unfold execPacketAgeDiscard
  refine .unitRow rfl ?_
  split
  · exact .next s
  · exact .whenB

theorem execFlitEccError_row (i : Nat) (router : Pos) (err : FlitError) (now : Nat) (s : State) :
    Row (inGrid router.col router.row) s (execFlitEccError i router err now s) := by
  unfold execFlitEccError
  refine .unitRow rfl ?_
  split
  · exact .next s
  · exact .whenB

theorem execFetchRetryTimeout_row (port slot now : Nat) (s : State) :
    Row (streamAt port slot) s (execFetchRetryTimeout port slot now s) := by
  unfold execFetchRetryTimeout
  refine .unitRow rfl ?_
  split
  · exact .next s
  · split
    · exact .next s
    · exact .whenB

theorem execFetchIssue_row (port slot : Nat) (s : State) :
    Row (streamAt port slot) s (execFetchIssue port slot s) := by
  unfold execFetchIssue
  refine .unitRow rfl ?_
  split
  · exact .next s
  · split
    · exact .next s
    · dsimp only
      split
      · exact .next s
      · exact .whenB

theorem execHostFetchReadDone_row (slot frame : Nat) (s : State) :
    Row true s (execHostFetchReadDone slot frame s) := by
  unfold execHostFetchReadDone
  refine .unitRow rfl ?_
  split
  · exact .next s
  · split
    · exact .next s
    · exact .whenB

theorem execReduceFallback_row (ctx opn now : Nat) (s : State) :
    Row (decide (ctx < 17)) s (execReduceFallback ctx opn now s) := by
  unfold execReduceFallback
  refine .unitRow (ctx_unit ctx) ?_
  split
  · exact .next s
  · exact .whenB

theorem execTwinDigestTimeout_row (ctx opn chunk now : Nat) (s : State) :
    Row (decide (ctx < 17)) s (execTwinDigestTimeout ctx opn chunk now s) := by
  unfold execTwinDigestTimeout
  refine .unitRow (ctx_unit ctx) ?_
  split
  · exact .next s
  · exact .whenB

theorem execCommitPointComplete_row (ctx now : Nat) (s : State) :
    Row (decide (ctx < 17)) s (execCommitPointComplete ctx now s) := by
  unfold execCommitPointComplete
  refine .unitRow (ctx_unit ctx) ?_
  split
  · exact .next s
  · exact .whenB

theorem execBcastTimeout_row (job now : Nat) (s : State) :
    Row (decide (job < 4)) s (execBcastTimeout job now s) := by
  unfold execBcastTimeout
  refine .unitRow rfl ?_
  split
  · exact .next s
  · exact .whenB

theorem execJobTStart_row (job now : Nat) (s : State) :
    Row (decide (job < 4)) s (execJobTStart job now s) := by
  unfold execJobTStart
  refine .unitRow rfl ?_
  split
  · exact .next s
  · exact .whenB

theorem execCollMemberLost_row (ctx opn now : Nat) (s : State) :
    Row (decide (ctx < 17)) s (execCollMemberLost ctx opn now s) := by
  unfold execCollMemberLost
  refine .unitRow (ctx_unit ctx) ?_
  dsimp only
  split
  · exact .next _
  · split
    · exact .next s
    · exact .whenB

theorem execUnitOpComplete_row (p : Pos) (u : UnitSel) (slot : Nat) (check : Option Upset) (now : Nat) (s : State) :
    Row (p.ok && decide (slot < 16)) s (execUnitOpComplete p u slot check now s) := by
  unfold execUnitOpComplete
  cases u with
  | tensor => exact .onUnit rfl
  | vector => exact .onUnit rfl
  | scalar =>
    dsimp only
    split
    · exact .onUnit rfl
    · exact .onUnit rfl
  | ballast =>
    dsimp only
    split
    · exact .onUnit rfl
    · exact .onUnit rfl

theorem execPitchStartDone_row (pitch now : Nat) (s : State) :
    Row (decide (pitch < 252)) s (execPitchStartDone pitch now s) := by
  unfold execPitchStartDone
  split
  · exact .onUnit rfl
  · exact .onUnit rfl

theorem execPitchPowerGoodTimeout_row (pitch now : Nat) (s : State) :
    Row (decide (pitch < 252)) s (execPitchPowerGoodTimeout pitch now s) := by
  unfold execPitchPowerGoodTimeout
  split
  · exact .onUnit rfl
  · exact .onUnit rfl

theorem execPitchStopDone_row (pitch now : Nat) (s : State) :
    Row (decide (pitch < 252)) s (execPitchStopDone pitch now s) := by
  unfold execPitchStopDone
  split
  · exact .onUnit rfl
  · exact .onUnit rfl

theorem execSuspendPointReached_row (ctx handle : Nat) (w : Work) (s : State) :
    Row (decide (ctx < 17)) s (execSuspendPointReached ctx handle w s) := by
  unfold execSuspendPointReached
  split
  · exact .onUnit (ctx_unit ctx)
  · exact .onUnit (ctx_unit ctx)

theorem execLongOperationEnd_row (ctx handle now : Nat) (w : Work) (s : State) :
    Row (decide (ctx < 17)) s (execLongOperationEnd ctx handle now w s) := by
  unfold execLongOperationEnd
  split
  · exact .onUnit (ctx_unit ctx)
  · exact .onUnit (ctx_unit ctx)

theorem execDeadlineExpiry_row (ctx handle now : Nat) (s : State) :
    Row (decide (ctx < 17)) s (execDeadlineExpiry ctx handle now s) := by
  unfold execDeadlineExpiry
  split
  · exact .onUnit (ctx_unit ctx)
  · exact .onUnit (ctx_unit ctx)

theorem execProgressTimer_row (ctx handle now : Nat) (w : Work) (s : State) :
    Row (decide (ctx < 17)) s (execProgressTimer ctx handle now w s) := by
  unfold execProgressTimer
  split
  · exact .onUnit (ctx_unit ctx)
  · exact .onUnit (ctx_unit ctx)

theorem execNopCommand_row (ctx : Nat) (s : State) :
    Row (decide (ctx < 17)) s (execNopCommand ctx s) := by
  unfold execNopCommand
  split
  · exact .onUnit (ctx_unit ctx)
  · exact .cmdRow (ctx_unit ctx)

/-! ### Every command -/

/-- Every command has its row: where its units exist it answers, where one does not it changes nothing. -/
theorem exec_row (s : State) (c : Instr) : Row c.wellFormed s (exec c s) := by
  -- Unfolded before the split, the table of exec is instantiated once and not in every case.
  delta exec
  cases c
  all_goals dsimp only
  case add _ | sub _ | and _ | or _ | xor _ | shl _ | shr _ | sra _ | mul _ | mulhu _ | cmpeq _ | cmplt _ | cmpltu _ | addi _ | andi _ |
    ori _ | xori _ | shli _ | shri _ | movi _ | movhi _ | ld8 _ | ld32 _ | ld64 _ | st8 _ | st32 _ | st64 _ | ldp64 _ | stp64 _ |
    amoadd _ | amoswap _ | j _ | jr _ | call _ | beq _ | bne _ | blt _ | bltu _ | spawn _ | exit _ | yieldOp _ | waitev _ | signal _ |
    tclaim _ | tfree _ | fence _ | tld _ | tst _ | tzero _ | tmma _ | tmmas _ | tcvt _ | vadd _ | vmul _ | vmax _ | vfma _ | vexp2 _ |
    vrcp _ | vrsqrt _ | vredadd _ | vredmax _ | vbcast _ | sarm _ | srearm _ | sstop _ | racq _ | rrel _ | send _ | recv _ | mfree _ |
    csrr _ | csrw _ | trap _ | nop _ =>
    delta execAdd execSub execAnd execOr execXor execShl execShr execSra execMul execMulhu execCmpeq execCmplt execCmpltu execAddi execAndi
      execOri execXori execShli execShri execMovi execMovhi execLd8 execLd32 execLd64 execSt8 execSt32 execSt64 execLdp64 execStp64
      execAmoadd execAmoswap execJ execJr execCall execBeq execBne execBlt execBltu execSpawn execExit execYield execWaitev execSignal
      execTclaim execTfree execFence execTld execTst execTzero execTmma execTmmas execTcvt execVadd execVmul execVmax execVfma execVexp2
      execVrcp execVrsqrt execVredadd execVredmax execVbcast execSarm execSrearm execSstop execRacq execRrel execSend execRecv execMfree
      execCsrr execCsrw execTrap execNop execG execLoad execStore execAmo execBranch execUnit
    exact .issue
  case exitComplete _ | yieldExpiry _ _ | slotWake _ | taskWdExpiry _ _ | rillWdExpiry _ | msgRingEntry _ | memoryUncorrError _ _ _ _ |
    streamStartDone _ _ | streamStopDone _ _ | streamTileIssue _ _ | streamOutInject _ _ | data _ _ | endMsg _ _ | gradAck _ _ |
    neighbourDiscovery _ _ | echoRequest _ _ | pfcPause _ _ _ | headwaterLinkDown _ _ | headwaterPortUp _ _ | bind _ _ | bindDone _ _ |
    frontGo _ | codewordReceive _ _ | train _ _ | linkTrainingDone _ _ | linkTrainingTimeout _ _ _ | linkStopDone _ |
    groupEntryValidate _ _ | jobCtlWrite _ _ | confluenceRetestDone _ _ | spareSwap _ | powerChipletFail _ | pitchIsolate _ _ _ _ |
    efuseClear _ _ | pitchThermalThrottle _ _ | pitchRailTestDone _ _ | stackTempSample _ _ | stackUncorrError _ _ _ | stackFail _ |
    stackTrainingDone _ _ _ | translationStartDone _ | translationStopDone _ | setWrite _ _ _ | invalGo _ _ | invalDone _ |
    xlFaultClear _ | bar2Read _ _ _ _ _ | bar2Write _ _ _ _ _ | ideIntegrityFail _ | startupTestDone _ _ | gaugeCtlWrite _ _ _ |
    gaugeEnChange _ _ | gaugeChunkBoundary _ _ | registerWrite _ _ _ _ | undefinedOpcode _ | instructionFetchFault _ | eztexLinkDown _ |
    pitchThermalRecover _ _ =>
    delta execExitComplete execYieldExpiry execSlotWake execTaskWdExpiry execRillWdExpiry execMsgRingEntry execMemoryUncorrError
      execStreamStartDone execStreamStopDone execStreamTileIssue execStreamOutInject execData execEndMsg execGradAck execNeighbourDiscovery
      execEchoRequest execPfcPause execHeadwaterLinkDown execHeadwaterPortUp execBind execBindDone execFrontGo execCodewordReceive execTrain
      execLinkTrainingDone execLinkTrainingTimeout execLinkStopDone execGroupEntryValidate execJobCtlWrite execConfluenceRetestDone
      execSpareSwap execPowerChipletFail execPitchIsolate execEfuseClear execPitchThermalThrottle execPitchRailTestDone execStackTempSample
      execStackUncorrError execStackFail execStackTrainingDone execTranslationStartDone execTranslationStopDone execSetWrite execInvalGo
      execInvalDone execXlFaultClear execBar2Read execBar2Write execIdeIntegrityFail execStartupTestDone execGaugeCtlWrite execGaugeEnChange
      execGaugeChunkBoundary execRegisterWrite execUndefinedOpcode execInstructionFetchFault execEztexLinkDown execPitchThermalRecover
      execDgram
    exact .onUnit rfl
  case opAdmit ctx _ | stageWrite ctx _ | holdRestore ctx | rebuildListDone ctx _ | drainHoldResume ctx | wearSkip ctx _ |
    cqHeadWrite ctx _ | msixModerationExpiry ctx _ | ceStopDone ctx =>
    delta execOpAdmit execStageWrite execHoldRestore execRebuildListDone execDrainHoldResume execWearSkip execCqHeadWrite
      execMsixModerationExpiry execCeStopDone
    exact .onUnit (ctx_unit ctx)
  case keyEk ctx _ | keyLoad ctx | rankWrite ctx | groupWrite ctx | memberWrite ctx | imageLoad ctx | fusedRun ctx | checkpoint ctx |
    jobStart ctx | weightSwap ctx | regionRemap ctx | stackScrubFull ctx | selfTest ctx | wipe ctx | fwUpdate ctx | suspend ctx |
    resume ctx | cancel ctx =>
    delta execKeyEk execKeyLoad execRankWrite execGroupWrite execMemberWrite execImageLoad execFusedRun execCheckpoint execJobStart
      execWeightSwap execRegionRemap execStackScrubFull execSelfTest execWipe execFwUpdate execSuspend execResume execCancel shortCmd
      longCmd controlCmd
    exact .cmdRow (ctx_unit ctx)
  case msixVectorUnmask fn vec => exact .onUnit (congrArg (· && decide (vec < vecsOf fn)) (ctx_unit fn))
  case functionLevelReset ctx => exact .onUnit (congrArg (decide (1 ≤ ctx) && ·) (ctx_unit ctx))
  case gaugeWrite ep g off _ => exact .onUnit (gaugeWrite_unit ep g off)
  case cageInsert link n | cageRemove link n _ => exact .onUnit (cage_unit link n)
  case keyRetentionExpiry _ | cmtFlashWriteDone | inputStageClose _ _ | powerChipletEnable _ _ | powerFail _ _ _ | weirFrame _ _ |
    weirEnvelopeWrite _ _ | ptpSync _ _ _ | ptpAnnounce _ _ _ _ _ | sourceLost _ | holdoverTimeout _ | stCtlWrite _ | reacquire |
    timeSet _ | apply | slotStart _ _ | wardenRestart _ | wardenCoreTakeover _ | recoveryFetchRetry _ | recoveryFetchDone _ _ | ready _ |
    cairnFlushDone _ | flush | cairnRead | coolantAlarm _ _ _ | standbyCoreTestDone _ | pcieLinkUp _ _ _ | getVersion _ _ |
    getCapabilities _ _ | negotiateAlgorithms _ _ | getDigests _ _ | getCertificate _ _ | challenge _ _ | getMeasurements _ _ |
    keyExchange _ _ | finish _ _ | keyUpdate _ _ | heartbeat _ _ | endSession _ _ | getCsr _ _ | setCertificate _ _ |
    vendorDefinedRequest _ _ | recoveryImage | partitionWrite | partitionRead | lifecycle | warmReset =>
    delta execKeyRetentionExpiry execCmtFlashWriteDone execInputStageClose execPowerChipletEnable execPowerFail execWeirFrame
      execWeirEnvelopeWrite execPtpSync execPtpAnnounce execSourceLost execHoldoverTimeout execStCtlWrite execReacquire execTimeSet
      execApply execSlotStart execWardenRestart execWardenCoreTakeover execRecoveryFetchRetry execRecoveryFetchDone execReady
      execCairnFlushDone execFlush execCairnRead execCoolantAlarm execStandbyCoreTestDone execPcieLinkUp execGetVersion execGetCapabilities
      execNegotiateAlgorithms execGetDigests execGetCertificate execChallenge execGetMeasurements execKeyExchange execFinish execKeyUpdate
      execHeartbeat execEndSession execGetCsr execSetCertificate execVendorDefinedRequest execRecoveryImage execPartitionWrite
      execPartitionRead execLifecycle execWarmReset spdmRow mbRow
    exact .whenB
  case msg _ | hwSend _ | grant _ | chunk _ _ | count _ | abort _ | p2p _ | p2pGrant _ | bcastStart _ | bcastOpen _ | bcastAbort _ |
    bcastAck _ | digest _ | cbar _ | wirePacketForward _ | weirRegulate _ _ | weirWardenTimeout _ | warmResetBoot _ | firmwareStart _ |
    cairnReadDone | write _ | read _ | readData _ | ack _ | poolRead _ | poolWrite _ | spush _ | sdata _ | scredit _ | hwConfirm _ |
    ezConfirm _ | sread _ | swrite _ | sfill _ | sdrain _ | hwOpen _ | hwClose _ | hwRearm _ | ezOpen _ | ezClose _ | ezRearm _ |
    ezContrib _ _ | ezSend _ =>
    delta execMsg execHwSend execGrant execChunk execCount execAbort execP2p execP2pGrant execBcastStart execBcastOpen execBcastAbort
      execBcastAck execDigest execCbar execWirePacketForward execWeirRegulate execWeirWardenTimeout execWarmResetBoot execFirmwareStart
      execCairnReadDone execWrite execRead execReadData execAck execPoolRead execPoolWrite execSpush execSdata execScredit execHwConfirm
      execEzConfirm execSread execSwrite execSfill execSdrain execHwOpen execHwClose execHwRearm execEzOpen execEzClose execEzRearm
      execEzContrib execEzSend State.packetRow execConfirm execMemRequest
    exact .whenSome
  case enReq _ | stopReq _ | isolate _ =>
    delta execEnReq execStopReq execIsolate
    exact .pageRow
  case idealDiodeOpen | weirLock | ppsEdge _ _ | ref10Loss _ | utcOffsetChange _ | pcieReset _ | perstNRelease => exact .next _
  case idle _ | ackCredit _ | nak _ => exact .unitRow rfl .whenSome
  case layerRebind _ _ => exact .unitRow rfl .whenB
  case unitOpComplete p u slot check now => exact execUnitOpComplete_row p u slot check now s
  case holePacketArrival n => exact execHolePacketArrival_row n s
  case packetAgeDiscard n router cyc => exact execPacketAgeDiscard_row n router cyc s
  case flitEccError n router err now => exact execFlitEccError_row n router err now s
  case stackAccessComplete n corrected => exact execStackAccessComplete_row n corrected s
  case translationWalkDone n corrected => exact execTranslationWalkDone_row n corrected s
  case fetchIssue port slot => exact execFetchIssue_row port slot s
  case fetchRetryTimeout port slot now => exact execFetchRetryTimeout_row port slot now s
  case gradRetryTimeout n now => exact execGradRetryTimeout_row n now s
  case hostFetchReadDone slot frame => exact execHostFetchReadDone_row slot frame s
  case hostGradWriteDone n => exact execHostGradWriteDone_row n s
  case slotReservationGrant now => exact execSlotReservationGrant_row now s
  case reduceFallback ctx opn now => exact execReduceFallback_row ctx opn now s
  case bcastTimeout job now => exact execBcastTimeout_row job now s
  case jobTStart job now => exact execJobTStart_row job now s
  case collMemberLost ctx opn now => exact execCollMemberLost_row ctx opn now s
  case twinDigestTimeout ctx opn chunk now => exact execTwinDigestTimeout_row ctx opn chunk now s
  case commitPointComplete ctx now => exact execCommitPointComplete_row ctx now s
  case pitchStartDone pitch now => exact execPitchStartDone_row pitch now s
  case pitchPowerGoodTimeout pitch now => exact execPitchPowerGoodTimeout_row pitch now s
  case pitchStopDone pitch now => exact execPitchStopDone_row pitch now s
  case nopCommand ctx => exact execNopCommand_row ctx s
  case suspendPointReached ctx handle w => exact execSuspendPointReached_row ctx handle w s
  case longOperationEnd ctx handle now w => exact execLongOperationEnd_row ctx handle now w s
  case deadlineExpiry ctx handle now => exact execDeadlineExpiry_row ctx handle now s
  case progressTimer ctx handle now w => exact execProgressTimer_row ctx handle now w s

/-- Settles O2: by the rows of the commands. -/
theorem everyCommandAnswers : Obligations.EveryCommandAnswers :=
  ⟨fun s c _ => (exec_row s c).answers, fun s c absent => (exec_row s c).absent absent⟩

end Sys2Proof.Machine
end
